-- ==== Sys2Proof/Word.lean ====
section
/-! DEFINITION. The words of the model: bytes, register words, NT64 values, and a table kept as a sorted
list of (key, value) pairs (01 R5, R7, R13). -/

namespace Sys2Proof

/-- A byte of a record, a descriptor or a frame. -/
abbrev Byte := BitVec 8

/-- A register word (01 R7). -/
abbrev Word := BitVec 32

/-- A time as descriptors and completions carry it: nanoseconds modulo 2^64 (01 R13). -/
abbrev NT64 := BitVec 64

/-- A sparse table: keys strictly rising, one entry a key. -/
abbrev Tab (α : Type) := List (Nat × α)

end Sys2Proof
end

