-- ==== Sys2Proof/Syntax.lean ====
section
/-! DEFINITION. The commands: one constructor per row of the opcode table, with what only the sender knows as
operands (log 7). A host command of the 64-byte descriptor form (13 R379) is named by its function and tag: its
descriptor came with the fetch. -/

namespace Sys2Proof

/-- Who makes a register access (00 R10, 03 R90): the host through the physical function's map or a VF's window, or through
BAR2 of a function (13 R375), where the address is the offset; the CPU cluster; the debug port. -/
inductive Requester where
  | pf
  | vf (f : Nat)
  | bar2 (f : Nat)
  | cpu
  | debug
deriving DecidableEq, Repr

/-- A fault containment unit (01 R27). -/
inductive FUnit where
  | radio (r : Nat)
  | link (k : Nat)
  | port (p : Nat)
  | pkt
  | cipher
  | dram (c : Nat)
  | func (f : Nat)
  | mesh
deriving DecidableEq, Repr

/-- What a chip select answered at discovery (03 R77): its density in Mbit and whether the Profile 1.0 table is there. -/
structure FlashDev where
  density : Nat
  profile : Bool
deriving DecidableEq, Repr

/-- A preamble on the mesh channel after 16 bit periods (10 R274, R275): the frozen level in dBm, how long ago it began
(ns), and the bit periods of it that are left. -/
structure MeshDetect where
  level : Int
  since : Nat
  left : Nat
deriving DecidableEq, Repr

/-- How the readings of a slot's image go at boot (03 R85, R86): the order of R85 at which a flash read of the first reading
fails, and the order that fails at a second reading, which the image selected gets. -/
structure SlotReads where
  first : Option Nat := none
  second : Option Nat := none
deriving DecidableEq, Repr

/-- A configuration request (13 R372, R374): a read of a word, a write of the number of VFs enabled, or of a function's power
state. -/
inductive ConfigReq where
  | read (f reg : Nat)
  | sriov (n : Nat)
  | power (f : Nat) (d3 : Bool)
deriving DecidableEq, Repr

/-- The bytes a host memory read returned, or none for an error of 13 R383. -/
abbrev HostData := Option (List Byte)


/-- What a launch carries: a planned PPDU, a command with a launch time, a BSS's beacon, a group-addressed frame, a frame
contended for in an OPEN region, or the n-th Trigger frame with random-access RUs there (08 R213, R219, R223, R233). -/
inductive LaunchOf where
  | plan (id : Nat)
  | single (fn tag : Nat)
  | beacon (bss : Nat)
  | group (frame : Nat)
  | contended (frame : Nat)
  | randomTrigger (n : Nat)
deriving DecidableEq, Repr

/-- What a TB window serves: a planned PPDU's trigger (07 R192), the n-th Trigger frame with random-access RUs (08 R219), or the foreign window of member m's entry that starts `start` ns after S (09 R258). -/
inductive WindowOf where
  | own (id : Nat)
  | random (n : Nat)
  | foreign (m start : Nat)
deriving DecidableEq, Repr

/-- What a Trigger frame with random-access RUs asks for (07 R192): the response length (ns), the RUs with their streams, and the target
received power in dBm. -/
structure TriggerAsk where
  len : Nat := 0
  rus : List (Nat × Nat) := []
  power : Int := 0
deriving DecidableEq, Repr

/-- The LTFs that the last SIG field of a PPDU announces (07 R193): 1x, 2x or 4x, the streams, and whether smoothing is forbidden. -/
structure LtfForm where
  ltf : Nat
  ss : Nat
  noSmooth : Bool
deriving DecidableEq, Repr

/-- The form of a PPDU a launch asks for (07 R182, R183): format 0 DSSS/CCK, 1 non-HT, 2 HT, 3 VHT, 4 HE SU, 5 HE ER SU,
6 HE MU, 7 EHT MU, 8 HE TB, 9 EHT TB; width code; the users, each (MCS, DCM, streams, RU tones), and the RUs they share; guard
interval in ns; LTF 1x, 2x or 4x; the punctured 20 MHz of its width, from the lowest; sounding 0 none, 1 HE or EHT with compressed
feedback, 2 HT or VHT, 3 non-compressed; `rate` the BEACON_RATE code of its rate (08 R236), 7 any other; what a trigger with
random-access RUs asks for. -/
structure PpduForm where
  format : Nat
  width : Nat
  beaconOrResponse : Bool
  users : List (Nat × Bool × Nat × Nat)
  rus : List (List Nat)
  gi : Nat
  ltf : Nat
  bcc : Bool
  punct : Nat
  p8080 : Bool
  stbc : Bool
  midamble : Bool
  reuse : Bool
  sounding : Nat
  rate : Nat
  asks : TriggerAsk := {}
deriving DecidableEq, Repr

/-- What the detector saw beside the power (07 R189): how long ago the L-STF started (ns), each chain's gain (dB), the L-STF autocorrelation over 1.6 µs (in 1/1000), and how long after the L-STF start the gains had settled (ns). -/
structure Detect where
  ago : Nat
  gains : List Nat
  corr : Nat
  settle : Nat
deriving DecidableEq, Repr

/-- What an Announce tells beside the grandmaster (04 R104, R109): an ARB timescale, the UTC offset and the leap flags. -/
structure Announce where
  arb : Bool
  utc : Nat
  leap : Nat
deriving DecidableEq, Repr

/-- A DIGEST part as it arrives (09 R253), and whether the peer's NT has stepped since its last one (R255; log 76). -/
structure DigestMsg where
  bytes : List Byte
  peerStepped : Bool
deriving DecidableEq, Repr

/-- What the baseband measured of one reception (07 R202): the record's fields, the LTF SNR in dB, the LTF streams sent,
the segments covered and the station, when it is known. -/
structure Measured where
  format : Nat
  width : Nat
  rssi : Int
  snr : Nat
  evm : Nat
  mcs : Nat
  nss : Nat
  cfo : Int
  timing : Int
  ru : Nat
  agc : Nat
  chains : Nat
  rssiMax : Int
  rssiMin : Int
  ltfSnr : Int
  antennas : Nat
  segs : Nat
  sta : Option Nat
deriving DecidableEq, Repr

/-- An own RU of a PPDU at its compute time: its users, the segments of the channel it overlaps, and the null users
(member, SID, segments of the overlap) whose RUs overlap it in frequency, as the EHT RU tables place them (07 R198, 09 R260). -/
structure RuPlan where
  sids : List Nat
  segs : Nat
  nulls : List (Nat × Nat × Nat)
deriving DecidableEq, Repr

/-- What a calibration step measured (06 R158, R168, R169): a VSWR code, the position the network model predicts and its
VSWR code, the chains that heard the probe at 25 dB or more, and the words of h of the probe to each of them. -/
structure CalResult where
  vswr : Nat
  newPos : Nat
  newVswr : Nat
  good : List Nat
  h : List (List Nat)
deriving DecidableEq, Repr

/-- The MACsec part of a received frame (14 R426): SCI, AN, PN, octets it adds, whether the tag verifies,
and how long before its last byte its first protected byte reached the engine (ns; 12 R361). -/
structure EthSec where
  sci : Nat
  an : Nat
  pn : Nat
  overhead : Nat
  tagOk : Bool
  since : Nat := 0
deriving DecidableEq, Repr

/-- A received MPDU (08 R228, R231, R235): radio, receiving BSS, PSDU octets, FCS, type 0 management, 1 control, 2 data,
transmitter address, TID (16 for non-QoS and management), SN, fragment, Retry, power management and EOSP solicitation
(PS-Poll or U-APSD trigger), its PN and whether its tag verifies when protected, whether it is an A-MSDU, MSDUs as
(destination, source, body), header and body for the host, for a BlockAckReq its TID and starting SN, the access categories it reports as buffered,
the PPDU's stamp, which user of it in a TB window sent it (07 R202), how long before its last byte its first protected byte reached the
engine (ns; 12 R361), and the key generation that its decryption is bound to, which the engine sets. -/
structure RxMpdu where
  radio : Nat
  bss : Nat
  len : Nat
  fcsOk : Bool
  type : Nat
  ta : Nat
  tid : Nat
  sn : Nat
  frag : Nat
  retry : Bool
  pm : Bool
  poll : Bool
  sec : Option (Nat × Bool)
  amsdu : Bool
  fourAddr : Bool
  htc : Bool
  msdus : List (List Byte × List Byte × List Byte)
  bytes : List Byte
  bar : Option (Nat × Nat)
  ul : Option (List Nat)
  stamp : Nat
  user : Nat := 0
  since : Nat := 0
  gen : Option Nat := none
deriving DecidableEq, Repr

/-- What a tile told in its TS2 blocks (14 R434, R435): chains at 480, 240 and 60 Msps, both latencies, ID, profile,
version, and the equaliser words. -/
structure TileInfo where
  counts : Nat
  dtx : Nat
  drx : Nat
  id : List Byte
  profile : Nat
  version : Nat
  eq : List Nat
deriving DecidableEq, Repr
/-- The commands of the block. -/
inductive Instr where
  /-- REGISTER_WRITE (R36): requester, access width in bits, address in the requester's map, value. -/
  | registerWrite (r : Requester) (width addr : Nat) (v : Word)
  /-- SNAPSHOT_LO_READ (R10): a read of the address; of a FIELD_LO it captures. -/
  | snapshotLoRead (r : Requester) (width addr : Nat)
  /-- RC_FIELD_READ (R8): a read of the address; RC fields clear. -/
  | rcFieldRead (r : Requester) (width addr : Nat)
  /-- STAGED_WINDOW_WRITE (R132). -/
  | stagedWindowWrite (r : Requester) (width addr : Nat) (v : Word)
  /-- CONTAINMENT_STROBE (R29): the unit, the cause and detail of R475. -/
  | containmentStrobe (u : FUnit) (cause detail : Nat)
  /-- UNIT_RESET_STATE_REACHED (R27). -/
  | unitResetStateReached (u : FUnit)
  /-- DEVICE_FAULT (R28): cause and detail of R475. -/
  | deviceFault (cause detail : Nat)
  /-- RESET_N_RELEASE (R73): the strap levels. -/
  | resetNRelease (refsel : BitVec 2) (clkq : BitVec 3) (bootmode : BitVec 2)
  /-- RESET_N_ASSERT (R487). -/
  | resetNAssert
  /-- PWR_OK_FALL (R463). -/
  | pwrOkFall
  /-- PWR_OK_RETURN (R463). -/
  | pwrOkReturn
  /-- REFERENCE_QUALIFIED (R45): the edges counted and their frequency's deviation in ppm. -/
  | referenceQualified (edges : Nat) (ppm : Int)
  /-- REFERENCE_LOSS (R46): a deviation, or missing edges. -/
  | referenceLoss (deviation : Bool)
  /-- ROOT_PLL_LOCKED (R47). -/
  | rootPllLocked
  /-- ROOT_PLL_UNLOCK (R47). -/
  | rootPllUnlock
  /-- CLOCK_ENABLE_WRITE (R55): the block's bit, 0 to 23 in CKR_CLKEN_0, 32 + k for TLk. -/
  | clockEnableWrite (r : Requester) (block : Nat)
  /-- CLOCK_START (R55). -/
  | clockStart (block : Nat)
  /-- CLOCK_DISABLE_WRITE (R56). -/
  | clockDisableWrite (r : Requester) (block : Nat)
  /-- CLOCK_STOP (R56). -/
  | clockStop (block : Nat)
  /-- DRAIN_TIMEOUT (R56). -/
  | drainTimeout (block : Nat)
  /-- SOURCE_SWITCH_GO (R57): the domain and REQ_SEL. -/
  | sourceSwitchGo (r : Requester) (d : Nat) (root : Bool)
  /-- SOURCE_SWITCH_DONE (R58). -/
  | sourceSwitchDone (d : Nat)
  /-- SWITCH_ABANDONED (R59). -/
  | switchAbandoned (d : Nat)
  /-- FREQ_MEASURE_START (R61): counter, SEL, N and EVT as written with START. -/
  | freqMeasureStart (r : Requester) (n sel exp : Nat) (evt : Bool)
  /-- FREQ_MEASURE_DONE (R63): the edges counted. -/
  | freqMeasureDone (n edges : Nat)
  /-- FLASH_DISCOVERY_DONE (R77): what each chip select answered. -/
  | flashDiscoveryDone (cs0 cs1 : Option FlashDev)
  /-- FLASH_OP_TIMEOUT (R77). -/
  | flashOpTimeout
  /-- FLASH_OP_DONE (R79). -/
  | flashOpDone
  /-- IMAGE_CHECK_DONE (R85): per slot, the order at which a flash read failed, if one did. -/
  | imageCheckDone (readA readB : SlotReads)
  /-- CONFIGURE_DONE (R73). -/
  | configureDone
  /-- BOOT_RELEASE_WRITE (R73). -/
  | bootReleaseWrite (r : Requester)
  /-- BOOT_HOLD_TIMEOUT (R73). -/
  | bootHoldTimeout
  /-- RECOVERY_TIMEOUT (R73). -/
  | recoveryTimeout
  /-- DEVICE_RESET_KEY_WRITE (R73): the value written to GCTL_RESET. -/
  | deviceResetKeyWrite (r : Requester) (v : Word)
  /-- ALM_SLOT_ERASE (R94). -/
  | almSlotErase (fn tag : Nat)
  /-- ALM_SLOT_WRITE (R94): the host buffer as read. -/
  | almSlotWrite (fn tag : Nat) (data : HostData)
  /-- ALM_SLOT_VERIFY (R94). -/
  | almSlotVerify (fn tag : Nat)
  /-- ATTEST (R93). -/
  | attest (fn tag : Nat)
  /-- LOG_READ (R94). -/
  | logRead (fn tag : Nat)
  /-- TUNER_COUNT_WRITE_TIMER (R98). -/
  | tunerCountWriteTimer
  /-- PTP_MESSAGE_RX (R109): the sub-port's bit of PTP_PORTS, domain, logSyncInterval, and the master's time of
  this instant as the exchange gives it before the asymmetry, in 2^-16 ns. -/
  | ptpMessageRx (port domain : Nat) (logSync srcTime : Int)
  /-- PTP_ANNOUNCE_RX (R104, R114): the grandmaster the best master clock algorithm selects, and what else it announces. -/
  | ptpAnnounceRx (port domain : Nat) (clockId : BitVec 64) (a : Announce)
  /-- PPS_IN_EDGE (R111). -/
  | ppsInEdge
  /-- TOD_MESSAGE_RX (R111): the 16 bytes. -/
  | todMessageRx (bytes : List Byte)
  /-- SOURCE_INPUT_TIMEOUT (R114): source 1 PTP or 2 PPS_TOD. -/
  | sourceInputTimeout (src : Nat)
  /-- FIRST_WAIT_EXPIRY (R116). -/
  | firstWaitExpiry
  /-- REANCHOR_GO (R117): the BASE written with GO. -/
  | reanchorGo (r : Requester) (base : Nat)
  /-- REANCHOR_DEADLINE (R117). -/
  | reanchorDeadline
  /-- AUTO_REANCHOR_TIMER (R117). -/
  | autoReanchorTimer
  /-- MT_DIFF_MEASURE (R107). -/
  | mtDiffMeasure
  /-- PPS_OUT_EDGE (R124). -/
  | ppsOutEdge
  /-- TOD_TX_SEND (R124). -/
  | todTxSend
  /-- SUPERFRAME_START (R129). -/
  | superframeStart
  /-- COMMIT_GO (R135). -/
  | commitGo (r : Requester)
  /-- COMMIT_CANCEL (R143). -/
  | commitCancel (r : Requester)
  /-- UNIT_ARM_REPORT (R137): unit u of R160, and whether it is busy with work only the unit sees. -/
  | unitArmReport (u : Nat) (busy : Bool)
  /-- COMMIT_DEADLINE (R138). -/
  | commitDeadline
  /-- MERIDIAN_STROBE (R140). -/
  | meridianStrobe
  /-- BANK_COPY_DONE (R134). -/
  | bankCopyDone
  /-- DORMANT_ENTER_REQUEST (R147): the MER_DORMANT value written with ENTER. -/
  | dormantEnterRequest (r : Requester) (v : Word)
  /-- DORMANT_REACHED (R147). -/
  | dormantReached
  /-- WAKE_MT_REACHED (R148). -/
  | wakeMtReached
  /-- WAKE_GPIO_EDGE (R148): the GPIO and the level it rose or fell to. -/
  | wakeGpioEdge (gpio : Nat) (level : Bool)
  /-- DORMANT_EXIT_STEP_DONE (R148): at step 5, whether the key wrap's tag passed. -/
  | dormantExitStepDone (tagOk : Bool)
  /-- RAIL_RAMP_EXPIRY (R465). -/
  | railRampExpiry
  /-- TUNER_CREDIT_TIMER (R149). -/
  | tunerCreditTimer
  /-- MISMATCH_TRIP (R159): the chain index of 03 R98 and the second reading's code. -/
  | mismatchTrip (chain vswr : Nat)
  /-- FE_BLOCK_CLEAR_WRITE (R159): the radio, FE_x_BLOCKED1 rather than 0, the value. -/
  | feBlockClearWrite (r : Requester) (radio : Nat) (hi : Bool) (v : Word)
  /-- SYNTH_LOCK_ACQUIRED (R163): the group of the radio (2 + k for the tile on link k) and the synthesiser. -/
  | synthLockAcquired (radio group syn : Nat)
  /-- SYNTH_LOCK_LOST (R164). -/
  | synthLockLost (radio group : Nat)
  /-- TILE_LOCK_TIMEOUT (R162). -/
  | tileLockTimeout (link : Nat)
  /-- LAUNCH_REQUEST (R201): what is launched, the launch time where the model does not hold it, air time, form. -/
  | launchRequest (radio : Nat) (of_ : LaunchOf) (t air : Nat) (form : PpduForm)
  /-- PA_RAMP_START (R165). -/
  | paRampStart (radio : Nat) (of_ : LaunchOf)
  /-- PPDU_TX_END (R167). -/
  | ppduTxEnd (radio : Nat)
  /-- RX_WINDOW_START (R167). -/
  | rxWindowStart (radio : Nat)
  /-- RX_WINDOW_END (R167). -/
  | rxWindowEnd (radio : Nat)
  /-- TX_TIMEOUT_WATCHDOG (R171). -/
  | txTimeoutWatchdog (chain : Nat)
  /-- CAL_STEP_START (R168): the step's kind in table order and its chain c. -/
  | calStepStart (radio kind chain : Nat)
  /-- CAL_STEP_DONE (R167). -/
  | calStepDone (radio : Nat) (res : CalResult)
  /-- COEFF_STALE (R170). -/
  | coeffStale (chain : Nat)
  /-- DETECTION (R189): the power combined over the chains (dBm), and what else the detector saw. -/
  | detection (radio : Nat) (level : Int) (d : Detect)
  /-- LLTF_TIMEOUT (R190). -/
  | lltfTimeout (radio : Nat)
  /-- SIG_FIELD_DONE (R190): whether it passed and, of the last one, the LTFs that follow. -/
  | sigFieldDone (radio : Nat) (ok : Bool) (last : Option LtfForm)
  /-- RX_RESTART (R190). -/
  | rxRestart (radio : Nat) (level : Int) (d : Detect)
  /-- RX_CAPTURE (R190). -/
  | rxCapture (radio : Nat) (level : Int) (d : Detect)
  /-- RX_PPDU_END (R190). -/
  | rxPpduEnd (radio : Nat) (m : Measured)
  /-- TB_WINDOW_OPEN (R192): what the window serves, its t_e and its length (ns). -/
  | tbWindowOpen (radio : Nat) (of_ : WindowOf) (te len : Nat)
  /-- TB_WINDOW_CLOSE (R190): per scheduled user, in the plan's order, what was measured. -/
  | tbWindowClose (radio : Nat) (users : List Measured)
  /-- CSI_PREFETCH (R197, 09 R260): the planned PPDU and the fetches not done in time: an own user's SID, or 8,192 and a foreign entry's
key. -/
  | csiPrefetch (ppdu : Nat) (slow : List Nat)
  /-- PRECODER_COMPUTE (R197): the PPDU and its RUs. -/
  | precoderCompute (ppdu : Nat) (rus : List RuPlan)
  /-- EXPLICIT_TEST (R200). -/
  | explicitTest (radio : Nat)
  /-- SOUND_PERIOD_TIMER (R200). -/
  | soundPeriodTimer (sid radio : Nat)
  /-- MAC_TX (R233): the frame as read, and the air time (ns) its PPDU would take when it names a launch time. -/
  | macTx (fn tag : Nat) (data : HostData) (air : Nat)
  /-- MAC_STA_ADD (R210). -/
  | macStaAdd (fn tag : Nat)
  /-- MAC_STA_DEL (R211). -/
  | macStaDel (fn tag : Nat)
  /-- STA_DEL_DONE (R211). -/
  | staDelDone (sid : Nat)
  /-- MAC_BA_SET (R226). -/
  | macBaSet (fn tag : Nat)
  /-- MAC_BA_DELETE (R226). -/
  | macBaDelete (fn tag : Nat)
  /-- MAC_TWT_SETUP (R224). -/
  | macTwtSetup (fn tag : Nat)
  /-- MAC_TWT_DELETE (R232). -/
  | macTwtDelete (fn tag : Nat)
  /-- MAC_DET_FLOW (R221). -/
  | macDetFlow (fn tag : Nat)
  /-- MAC_DET_FLOW_DELETE (R232). -/
  | macDetFlowDelete (fn tag : Nat)
  /-- PLAN_FREEZE (R216). -/
  | planFreeze (radio : Nat)
  /-- CONTENT_CUT_OFF (R218): the launch, its time when nothing else gives it, and the octets each user's RU holds. -/
  | contentCutOff (radio : Nat) (of_ : LaunchOf) (t : Nat) (room : List Nat)
  /-- BEACON_LAUNCH (R213): the beacon's air time in ns. -/
  | beaconLaunch (radio bss air : Nat)
  /-- LAUNCH_OUTCOME (R225): the launch, and the frames acknowledged. -/
  | launchOutcome (radio : Nat) (of_ : LaunchOf) (acked : List Nat)
  /-- RX_MPDU (R228). -/
  | rxMpdu (m : RxMpdu)
  /-- REORDER_TIMEOUT (R229). -/
  | reorderTimeout (sid tid : Nat)
  /-- FRAME_LIFETIME_EXPIRY (R227): the queued frame. -/
  | frameLifetimeExpiry (id : Nat)
  /-- ADDBA_REQUEST_RX (R226): the requested buffer size (0: the largest) and starting SN. -/
  | addbaRequestRx (sid tid size sn : Nat)
  /-- AGREEMENT_TIMEOUT (R238): direction 0 transmit, 1 receive. -/
  | agreementTimeout (sid tid dir : Nat)
  /-- HELLO_PERIOD_TIMER (R248): the member. -/
  | helloPeriodTimer (m : Nat)
  /-- HELLO_RX (R245): the UDP payload. -/
  | helloRx (msg : List Byte)
  /-- HELLO_ACK_RX (R245). -/
  | helloAckRx (msg : List Byte)
  /-- JOIN_TIMEOUT (R248). -/
  | joinTimeout (m : Nat)
  /-- DIGEST_SEND (R249). -/
  | digestSend
  /-- DIGEST_PART_RX (R253). -/
  | digestPartRx (msg : DigestMsg)
  /-- LEAVE_RX (R247). -/
  | leaveRx (msg : List Byte)
  /-- MEMBER_STATUS_DECIDE (R254). -/
  | memberStatusDecide
  /-- CST_LEAVE_WRITE (R248). -/
  | cstLeaveWrite (r : Requester)
  /-- CST_REJOIN_WRITE (R264). -/
  | cstRejoinWrite (r : Requester)
  /-- FOREIGN_ENTRY_AGE (R258): the entry's member, SID and radio. -/
  | foreignEntryAge (m sid radio : Nat)
  /-- HOLDOVER_KEEP_EXPIRY (R241). -/
  | holdoverKeepExpiry
  /-- MESH_PREAMBLE_DETECT (R274, R275). -/
  | meshPreambleDetect (d : MeshDetect)
  /-- MESH_SFD_FOUND (R274): the RSSI latched on each chain. -/
  | meshSfdFound (rssi0 rssi1 : Int)
  /-- MESH_SFD_WAIT_EXPIRY (R274). -/
  | meshSfdWaitExpiry
  /-- MESH_RX_RESTART (R274). -/
  | meshRxRestart (level : Int)
  /-- MESH_PHR_DONE (R274): the PSDU length, and whether FEC, mode switch, FCS type and whitening are the network's. -/
  | meshPhrDone (len : Nat) (ok : Bool)
  /-- MESH_RX_CAPTURE (R274). -/
  | meshRxCapture (level : Int)
  /-- MESH_FRAME_END (R277): the PSDU without its FCS, and whether the FCS is correct. -/
  | meshFrameEnd (psdu : List Byte) (fcsOk : Bool)
  /-- REPLAY_ENTRY_EXPIRY (R278). -/
  | replayEntryExpiry (src fc : Nat)
  /-- MESH_SUPERFRAME_START (R280). -/
  | meshSuperframeStart
  /-- MESH_BEACON_TX (R285): the level of a clear-channel check. -/
  | meshBeaconTx (level : Int)
  /-- MESH_REPLY_WINDOW_TX (R282). -/
  | meshReplyWindowTx (level : Int)
  /-- MESH_LISTEN_SLOT_TX (R282). -/
  | meshListenSlotTx (level : Int)
  /-- MESH_ROUTER_SLOT_TX (R284): the queued frame. -/
  | meshRouterSlotTx (id : Nat) (level : Int)
  /-- WAKE_SIGNAL_TX (R287). -/
  | wakeSignalTx (level : Int)
  /-- MESH_TX_END (R282). -/
  | meshTxEnd
  /-- MESH_LIFETIME_EXPIRY (R294): the queued frame. -/
  | meshLifetimeExpiry (id : Nat)
  /-- ROUTER_AGE_EXPIRY (R284): the router's address. -/
  | routerAgeExpiry (addr : Nat)
  /-- WAKE_SIGNAL_RX (R288): WUA, CMD and whether the CRC is correct. -/
  | wakeSignalRx (wua cmd : Nat) (crcOk : Bool)
  /-- WU_LISTEN_EXPIRY (R288). -/
  | wuListenExpiry
  /-- MESH_TX_TIMEOUT (R293). -/
  | meshTxTimeout
  /-- MESH_DOWNLINK_FRAME (R269). -/
  | meshDownlinkFrame
  /-- NW_TX (R294): the payload as read. -/
  | nwTx (fn tag : Nat) (data : HostData)
  /-- NW_WAKE (R294). -/
  | nwWake (fn tag : Nat)
  /-- NW_KEY_LOAD (R294). -/
  | nwKeyLoad (fn tag : Nat)
  /-- NW_KEY_ERASE (R294). -/
  | nwKeyErase (fn tag : Nat)
  /-- MESH_SLOT_START (R288). -/
  | meshSlotStart
  /-- LISTEN_NOW_WINDOW_TX (R287): the queued frame. -/
  | listenNowWindowTx (id : Nat) (level : Int)
  /-- ETH_FRAME_RX (R419): the sub-port, the frame from DA to the end of the payload, its FCS, and its SecTAG. -/
  | ethFrameRx (sub : Nat) (bytes : List Byte) (fcsOk : Bool) (sec : Option EthSec)
  /-- PKT_PIPELINE_FRAME (R302): the source whose first frame is taken. -/
  | pktPipelineFrame (src : Nat)
  /-- LPM_DRAM_RESULT (R303): the source whose frame waits, and whether the access succeeded. -/
  | lpmDramResult (src : Nat) (ok : Bool)
  /-- WIRED_EGRESS_SELECT (R336). -/
  | wiredEgressSelect (sub : Nat)
  /-- TX_UNDERRUN (R421). -/
  | txUnderrun (sub : Nat)
  /-- ETH_LINK_CHANGE (R416): up with a speed code 1 1G, 2 2.5G, 3 5G, 4 10G, 5 25G, 6 50G, 7 100G, or down with 0. -/
  | ethLinkChange (sub speed : Nat)
  /-- FDB_AGE_EXPIRY (R321). -/
  | fdbAgeExpiry (tenant addr : Nat)
  /-- FLOW_AGE_EXPIRY (R342): the value of the flow's key. -/
  | flowAgeExpiry (key : Nat)
  /-- QDEPTH_SEL_WRITE (R339). -/
  | qdepthSelWrite (r : Requester) (v : Word)
  /-- PKT_RULE_WRITE (R342): the entry as read. -/
  | pktRuleWrite (fn tag : Nat) (data : HostData)
  /-- PKT_RULE_CLEAR (R342). -/
  | pktRuleClear (fn tag : Nat)
  /-- PKT_ROUTE_ADD (R342). -/
  | pktRouteAdd (fn tag : Nat)
  /-- PKT_ROUTE_DELETE (R342). -/
  | pktRouteDelete (fn tag : Nat)
  /-- PKT_NEXT_HOP_WRITE (R342). -/
  | pktNextHopWrite (fn tag : Nat)
  /-- PKT_NEXT_HOP_DELETE (R342). -/
  | pktNextHopDelete (fn tag : Nat)
  /-- PKT_FDB_WRITE (R342). -/
  | pktFdbWrite (fn tag : Nat)
  /-- PKT_FDB_DELETE (R342). -/
  | pktFdbDelete (fn tag : Nat)
  /-- PKT_FLOW_ADD (R342). -/
  | pktFlowAdd (fn tag : Nat)
  /-- PKT_FLOW_DELETE (R342). -/
  | pktFlowDelete (fn tag : Nat)
  /-- PKT_RANGE_SET (R342). -/
  | pktRangeSet (fn tag : Nat)
  /-- PKT_RANGE_DISABLE (R342). -/
  | pktRangeDisable (fn tag : Nat)
  /-- PKT_TUNNEL_WRITE (R342): the template as read. -/
  | pktTunnelWrite (fn tag : Nat) (data : HostData)
  /-- PKT_TUNNEL_CLEAR (R342). -/
  | pktTunnelClear (fn tag : Nat)
  /-- PKT_POLICER (R342). -/
  | pktPolicer (fn tag : Nat)
  /-- CPH_KEY_WRITE (R353): the key block as read. -/
  | cphKeyWrite (fn tag : Nat) (block : HostData)
  /-- CPH_KEY_ERASE (R354). -/
  | cphKeyErase (fn tag : Nat)
  /-- REFERENCE_END (R352): the operation. -/
  | referenceEnd (op : Nat)
  /-- KEY_WRITE_PROCEED (R353). -/
  | keyWriteProceed (slot : Nat)
  /-- KEY_ERASE_DONE (R354). -/
  | keyEraseDone (slot : Nat)
  /-- CPH_CRYPT_GCM_ENCRYPT (R363): the source as read. -/
  | cphCryptGcmEncrypt (fn tag : Nat) (src : HostData)
  /-- CPH_CRYPT_GCM_DECRYPT (R363). -/
  | cphCryptGcmDecrypt (fn tag : Nat) (src : HostData)
  /-- CPH_CRYPT_CCM_ENCRYPT (R363). -/
  | cphCryptCcmEncrypt (fn tag : Nat) (src : HostData)
  /-- CPH_CRYPT_CCM_DECRYPT (R363). -/
  | cphCryptCcmDecrypt (fn tag : Nat) (src : HostData)
  /-- SERVICE_OP_DONE (R364). -/
  | serviceOpDone (op : Nat)
  /-- PCIE_LINK_UP (R374): the negotiated speed 1 to 5 and width. -/
  | pcieLinkUp (speed width : Nat)
  /-- PCIE_PERST_ASSERT (R374). -/
  | pciePerstAssert
  /-- PCIE_HOT_RESET (R374). -/
  | pcieHotReset
  /-- PCIE_LINK_LOSS (R374). -/
  | pcieLinkLoss
  /-- FUNCTION_LEVEL_RESET (R374). -/
  | functionLevelReset (f : Nat)
  /-- PCIE_CONFIG_REQUEST (R374): what it reads or writes. -/
  | pcieConfigRequest (q : ConfigReq)
  /-- SQ_TAIL_DOORBELL (R377): function, SQ and the value written. -/
  | sqTailDoorbell (r : Requester) (f n : Nat) (v : Word)
  /-- CQ_HEAD_DOORBELL (R381). -/
  | cqHeadDoorbell (r : Requester) (f n : Nat) (v : Word)
  /-- RQ_HEAD_DOORBELL (R377). -/
  | rqHeadDoorbell (r : Requester) (f n : Nat) (v : Word)
  /-- BQ_TAIL_DOORBELL (R384): the value written and the addresses read from the BQ entries it posts. -/
  | bqTailDoorbell (r : Requester) (f n : Nat) (v : Word) (addrs : List NT64)
  /-- EVQ_HEAD_DOORBELL (R391). -/
  | evqHeadDoorbell (r : Requester) (f : Nat) (v : Word)
  /-- COMMAND_FETCH (R381): the function and SQ whose turn it is, and the descriptor as read. -/
  | commandFetch (f n : Nat) (desc : HostData)
  /-- HOST_DMA_COMPLETION (R383): the command and whether the read succeeded. -/
  | hostDmaCompletion (f tag : Nat) (ok : Bool)
  /-- MSIX_MODERATION_TIMER (R388): the ring, kind 0 CQ, 1 RQ, 2 event ring. -/
  | msixModerationTimer (f kind n : Nat)
  /-- HQ_ECLIPSE_FUNCTION (R393). -/
  | hqEclipseFunction (fn tag : Nat)
  /-- HQ_ECLIPSE_RADIO (R395). -/
  | hqEclipseRadio (fn tag : Nat)
  /-- FUNC_CTRL_ECLIPSE_WRITE (R392). -/
  | funcCtrlEclipseWrite (r : Requester) (f : Nat)
  /-- FUNC_CTRL_CLEAR_WRITE (R396). -/
  | funcCtrlClearWrite (r : Requester) (f : Nat)
  /-- ECLIPSE_COMPLETE (R393): a radio's Eclipse rather than a function's, and its index. -/
  | eclipseComplete (radio : Bool) (index : Nat)
  /-- WORK_ITEM_DELIVER (R404): the consumer. -/
  | workItemDeliver (c : Nat)
  /-- WORKER_ASK_WRITE (R404): the window's function, the worker and the value written. -/
  | workerAskWrite (r : Requester) (f w : Nat) (v : Word)
  /-- WORKER_ASK_CANCEL (R404). -/
  | workerAskCancel (r : Requester) (f w : Nat) (v : Word)
  /-- WORKER_RELEASE_WRITE (R402). -/
  | workerReleaseWrite (r : Requester) (f w : Nat) (v : Word)
  /-- ATOMIC_TIMEOUT (R402): the item's pool index. -/
  | atomicTimeout (idx : Nat)
  /-- WORK_ITEM_MAX_WAIT (R403): the item's pool index. -/
  | workItemMaxWait (idx : Nat)
  /-- ASK_WAIT_LAPSE (R405): the worker. -/
  | askWaitLapse (w : Nat)
  /-- TSK_SUBMIT (R407): the payload as read. -/
  | tskSubmit (fn tag : Nat) (data : HostData)
  /-- TSK_INJECT (R407): the frame as read. -/
  | tskInject (fn tag : Nat) (data : HostData)
  /-- ETH_MACSEC_SA_TX (R427). -/
  | ethMacsecSaTx (fn tag : Nat)
  /-- ETH_MACSEC_SA_RX_ADD (R439). -/
  | ethMacsecSaRxAdd (fn tag : Nat)
  /-- ETH_MACSEC_SA_RX_DELETE (R439). -/
  | ethMacsecSaRxDelete (fn tag : Nat)
  /-- TL_TRAIN_WRITE (R435): the link and the word written to TL_k_CTRL. -/
  | tlTrainWrite (r : Requester) (link : Nat) (v : Word)
  /-- TL_PRBS_START (R436). -/
  | tlPrbsStart (r : Requester) (link : Nat) (v : Word)
  /-- TL_PRBS_STOP (R436): the errors each lane's checker counted. -/
  | tlPrbsStop (r : Requester) (link : Nat) (v : Word) (errors : List Nat)
  /-- TL_TRAIN_STEP_DONE (R435): what the tile told by this step. -/
  | tlTrainStepDone (link : Nat) (info : TileInfo)
  /-- TL_TRAIN_STEP_TIMEOUT (R435). -/
  | tlTrainStepTimeout (link : Nat)
  /-- TL_UPSTREAM_FRAME (R432): the control word and the invalid sync headers seen. -/
  | tlUpstreamFrame (link : Nat) (ctl : List Byte) (badSync : Nat)
  /-- TL_CTL_MESSAGE_RX (R433): the complete message. -/
  | tlCtlMessageRx (link : Nat)
  /-- TL_CTL_ACK_TIMEOUT (R433). -/
  | tlCtlAckTimeout (link : Nat)
  /-- TL_BLOCK_LOCK_LOST (R429): the lane. -/
  | tlBlockLockLost (link lane : Nat)
  /-- TL_WANDER (R428). -/
  | tlWander (link : Nat)
  /-- TX_MASK_SEND (R433): the launch, its time when nothing else gives it. -/
  | txMaskSend (radio : Nat) (of_ : LaunchOf)
  /-- DRAM_REQUEST (R448): port, granule, and for a write the bytes from an offset on. -/
  | dramRequest (port granule : Nat) (write : Bool) (off : Nat) (data : List Byte)
  /-- DRAM_COMMAND_ISSUE (R451): the channel and its banks that are ready. -/
  | dramCommandIssue (channel : Nat) (ready : Nat)
  /-- DRAM_READ_RETURN (R446): the channel, the oldest request sent to the granule, symbols in error (0 to 3; 4: unknown
  and uncorrectable), rank and subchannel. -/
  | dramReadReturn (channel granule symbols rank subch : Nat)
  /-- DRAM_PAUSE_START (R454). -/
  | dramPauseStart (channel : Nat)
  /-- DRAM_PAUSE_END (R454): the drift an oscillator check measured, and whether it is beyond the correctable range. -/
  | dramPauseEnd (channel : Nat) (drift : Int) (beyond : Bool)
  /-- DRAM_TRAINING_DONE (R455): the channels trained at 9,600 and at 4,800 MT/s. -/
  | dramTrainingDone (fast slow : Nat)
  /-- DRAM_RETRAIN_AFTER_FAULT (R457). -/
  | dramRetrainAfterFault (channel : Nat)
  /-- LEDGER_ADMIT (R466). -/
  | ledgerAdmit
  /-- LEDGER_ITEM_UP (R466): the item, a domain code or 32 + a chain index. -/
  | ledgerItemUp (item : Nat)
  /-- LEDGER_HEAD_WAIT (R467). -/
  | ledgerHeadWait
  /-- POWER_SAMPLE (R469): measured currents in 0.01 A of rails 3, 4, 5, 8, 9, 10 and 13. -/
  | powerSample (amps : List Nat)
  /-- TEMP_SAMPLE (R470): the 23 sensors in 0.25 °C. -/
  | tempSample (temps : List Int)
  /-- THROTTLE_LEVEL_TIMER (R471): the thermal or the power level. -/
  | throttleLevelTimer (thermal : Bool)
  /-- PWR_HOLD_RELEASE_WRITE (R473): PWR_HOLD_HF or PWR_HOLD, and the value. -/
  | pwrHoldReleaseWrite (r : Requester) (hf : Bool) (v : Word)
  /-- HOLD_RELEASE_TIMER (R473). -/
  | holdReleaseTimer (u : FUnit)
  /-- DORMANT_ENTRY_STEP_DONE (R147). -/
  | dormantEntryStepDone
  /-- POWER_DOWN_COMPLETE (R161): the item. -/
  | powerDownComplete (item : Nat)
deriving DecidableEq, Repr

end Sys2Proof
end

