-- ==== Sys2Proof/Decode.lean ====
section
/-! DEFINITION. Commands from words: the table gives its rows no bits. -/

namespace Sys2Proof

/-- The command a word spells by the table's bits: no row of the table gives bits, so none. -/
def decodeTableWord (_nbits _w : Nat) : Option Instr := none

end Sys2Proof
end

