-- ==== Sys2Proof/Machine/Table.lean ====
section
/-! DEFINITION. Operations over sparse tables, bit fields, bytes and byte order (01 R5). -/

namespace Sys2Proof

/-- The entry of key k. -/
def Tab.get? {α : Type} : Tab α → Nat → Option α
  | [], _ => none
  | (j, v) :: t, k => if j = k then some v else Tab.get? t k

/-- The entry of key k, or d where there is none. -/
def Tab.getD {α : Type} (t : Tab α) (k : Nat) (d : α) : α := (Tab.get? t k).getD d

/-- Put v at key k, keeping the keys strictly rising. -/
def Tab.put {α : Type} : Tab α → Nat → α → Tab α
  | [], k, v => [(k, v)]
  | (j, w) :: t, k, v =>
    if k < j then (k, v) :: (j, w) :: t
    else if k = j then (k, v) :: t
    else (j, w) :: Tab.put t k v

/-- Take the entry of key k out. -/
def Tab.del {α : Type} (t : Tab α) (k : Nat) : Tab α := t.filter (fun e => e.1 != k)

/-- Whether key k has an entry. -/
def Tab.has {α : Type} (t : Tab α) (k : Nat) : Bool := (Tab.get? t k).isSome

/-- Change the entry of key k, if there is one. -/
def Tab.upd {α : Type} (t : Tab α) (k : Nat) (f : α → α) : Tab α :=
  t.map (fun e => if e.1 = k then (e.1, f e.2) else e)

/-- Change every entry. -/
def Tab.mapV {α β : Type} (t : Tab α) (f : Nat → α → β) : Tab β := t.map (fun e => (e.1, f e.1 e.2))

/-- Keep the entries that pass. -/
def Tab.keep {α : Type} (t : Tab α) (p : Nat → α → Bool) : Tab α := t.filter (fun e => p e.1 e.2)

/-- The keys, rising. -/
def Tab.keys {α : Type} (t : Tab α) : List Nat := t.map (·.1)

/-- The entries' values in key order. -/
def Tab.vals {α : Type} (t : Tab α) : List α := t.map (·.2)

/-- The smallest key of 0 to n − 1 without an entry. -/
def Tab.freeKey {α : Type} (t : Tab α) (n : Nat) : Option Nat :=
  (List.range (Nat.min n (t.length + 1))).find? (fun k => !(Tab.has t k))

/-- Keys strictly rising: the canonical form of a table. -/
def Tab.sorted {α : Type} : Tab α → Bool
  | [] => true
  | [_] => true
  | (j, _) :: (k, w) :: t => decide (j < k) && Tab.sorted ((k, w) :: t)

/-- Bits hi down to lo of a natural. -/
def bitsOf (v hi lo : Nat) : Nat := (v / 2 ^ lo) % 2 ^ (hi + 1 - lo)

/-- One bit of a natural. -/
def bitOf (v i : Nat) : Bool := v / 2 ^ i % 2 == 1

/-- 1 for true. -/
def b2n (b : Bool) : Nat := if b then 1 else 0

/-- A word with bits hi down to lo replaced by v. -/
def setBits (w : Word) (hi lo v : Nat) : Word :=
  BitVec.ofNat 32 (w.toNat - bitsOf w.toNat hi lo * 2 ^ lo + v % 2 ^ (hi + 1 - lo) * 2 ^ lo)

/-- Little-endian value of bytes (R5). -/
def leNat : List Byte → Nat
  | [] => 0
  | b :: bs => b.toNat + 256 * leNat bs

/-- Big-endian value of bytes: fields inside standard frames keep the standard's order (R5). -/
def beNat (bs : List Byte) : Nat := leNat bs.reverse

/-- n little-endian bytes of a value (R5). -/
def leBytes : Nat → Nat → List Byte
  | 0, _ => []
  | n + 1, v => BitVec.ofNat 8 v :: leBytes n (v / 256)

/-- n big-endian bytes of a value. -/
def beBytes (n v : Nat) : List Byte := (leBytes n v).reverse

/-- n bytes of a list from offset o, missing bytes 0. -/
def slice (bs : List Byte) (o n : Nat) : List Byte :=
  let t := (bs.drop o).take n
  t ++ List.replicate (n - t.length) 0#8

/-- The little-endian field of n bytes at offset o. -/
def fieldLE (bs : List Byte) (o n : Nat) : Nat := leNat (slice bs o n)

/-- The big-endian field of n bytes at offset o. -/
def fieldBE (bs : List Byte) (o n : Nat) : Nat := beNat (slice bs o n)

/-- Two's complement of an n-bit value. -/
def signed (n v : Nat) : Int := if v % 2 ^ n < 2 ^ (n - 1) then (v % 2 ^ n : Nat) else (v % 2 ^ n : Nat) - (2 ^ n : Nat)

/-- An integer as an n-bit two's complement value. -/
def unsigned (n : Nat) (i : Int) : Nat := (i % (2 ^ n : Nat)).toNat

/-- An integer held to n signed bits (the saturating registers). -/
def clampS (n : Nat) (i : Int) : Int :=
  let m : Int := 2 ^ (n - 1)
  if i < -m then -m else if i > m - 1 then m - 1 else i

/-- Every byte of a list is 0 (reserved bytes). -/
def allZero (bs : List Byte) : Bool := bs.all (· == 0#8)

/-- Bytes of a list outside the given (offset, size) fields are 0, between offsets a and b. -/
def zeroOutside (bs : List Byte) (a b : Nat) (used : List (Nat × Nat)) : Bool :=
  (List.range (b - a)).all fun i =>
    let o := a + i
    used.any (fun u => u.1 ≤ o && o < u.1 + u.2) || bs.getD o 0#8 == 0#8

/-- Sort rising by a measure; equal measures keep their order. -/
def sortBy {α : Type} (m : α → Nat) (l : List α) : List α := l.foldr (insertBy' m) []
where
  insertBy' (m : α → Nat) (x : α) : List α → List α
    | [] => [x]
    | y :: ys => if m x ≤ m y then x :: y :: ys else y :: insertBy' m x ys

/-- Insert an integer in rising order. -/
def insertInt (x : Int) : List Int → List Int
  | [] => [x]
  | y :: ys => if x ≤ y then x :: y :: ys else y :: insertInt x ys

/-- Integers sorted rising. -/
def sortInt (l : List Int) : List Int := l.foldr insertInt []

/-- The median; for an even count the mean of the middle two, rounded toward minus infinity (04 R112). -/
def median (l : List Int) : Int :=
  let s := sortInt l
  let n := s.length
  if n = 0 then 0
  else if n % 2 = 1 then s.getD (n / 2) 0
  else (s.getD (n / 2 - 1) 0 + s.getD (n / 2) 0) / 2

/-- NT64 comparison modulo 2^64 (00 R14): a is later than b. -/
def later (a b : Nat) : Bool :=
  let d := (a + 2 ^ 64 - b % 2 ^ 64) % 2 ^ 64
  decide (1 ≤ d) && decide (d < 2 ^ 63)

/-- a is b or later (00 R14). -/
def notEarlier (a b : Nat) : Bool := later a b || a % 2 ^ 64 == b % 2 ^ 64

/-- Replace the i-th entry of a list. -/
def setAt {α : Type} (l : List α) (i : Nat) (x : α) : List α := l.set i x

/-- The number of ones of a value below bit n. -/
def popcount (n v : Nat) : Nat := ((List.range n).filter (bitOf v)).length

/-- The map of bits that pass. -/
def bitMap (n : Nat) (p : Nat → Bool) : Nat :=
  (List.range n).foldl (fun a i => if p i then a + 2 ^ i else a) 0

end Sys2Proof
end

