-- ==== Sys2Proof/Machine/Crypto.lean ====
section
/-! DEFINITION. The standard algorithms the spec names: SHA-512 and HKDF (FIPS 180-4, RFC 5869), Ed25519 and X25519
(RFC 8032, RFC 7748), AES with GCM, CCM and CMAC (FIPS 197, SP 800-38), the CRCs of R96, R110 and R287.
PRESUMED: taken from those standards (log 11). -/

namespace Sys2Proof

/-! ## CRCs -/

/-- Shift one bit through a reflected CRC-32 register. -/
def crc32Bit (c : Nat) : Nat := if c % 2 = 1 then (c / 2) ^^^ 0xEDB88320 else c / 2

/-- CRC-32 with the IEEE 802.3 polynomial. -/
def crc32 (bs : List Byte) : Nat :=
  (bs.foldl (fun c b => (List.range 8).foldl (fun c _ => crc32Bit c) (c ^^^ b.toNat)) 0xFFFFFFFF) ^^^ 0xFFFFFFFF

/-- CRC-16, polynomial 0x1021, initial value 0xFFFF, no reflection (04 R110). -/
def crc16 (bs : List Byte) : Nat :=
  bs.foldl (fun c b => (List.range 8).foldl (fun c _ =>
    let s := c * 2
    if c / 2 ^ 15 % 2 = 1 then (s ^^^ 0x1021) % 2 ^ 16 else s % 2 ^ 16) (c ^^^ (b.toNat * 256))) 0xFFFF

/-- CRC-8, polynomial 0x07, initial value 0 (10 R287). -/
def crc8 (bs : List Byte) : Nat :=
  bs.foldl (fun c b => (List.range 8).foldl (fun c _ =>
    let s := c * 2
    if c / 2 ^ 7 % 2 = 1 then (s ^^^ 0x07) % 2 ^ 8 else s % 2 ^ 8) (c ^^^ b.toNat)) 0

/-! ## SHA-512, HMAC, HKDF -/

/-- The greatest r below 2^68 with r^k at most n: its bits from the top down. -/
def intRoot (k n : Nat) : Nat :=
  (List.range 68).foldl (fun r i => if (r + 2 ^ (67 - i)) ^ k ≤ n then r + 2 ^ (67 - i) else r) 0

/-- The first 80 primes. -/
def primes80 : List Nat :=
  (List.range 410).filter fun p => decide (2 ≤ p) && (List.range p).all fun d => decide (d < 2) || p % d != 0

/-- The first 64 bits of the fraction of a prime's k-th root (FIPS 180-4, 4.2.3 and 5.3.5). -/
def rootFraction (k p : Nat) : Nat := intRoot k (p * 2 ^ (64 * k)) % 2 ^ 64

/-- The initial hash value: square roots of the first eight primes. -/
def sha512Initial : List Nat := (primes80.take 8).map (rootFraction 2)

/-- The round constants: cube roots of the first 80 primes. -/
def sha512Rounds : List Nat := primes80.map (rootFraction 3)

/-- Rotate a 64-bit value right. -/
def ror64 (x n : Nat) : Nat := (x / 2 ^ n) ||| (x * 2 ^ (64 - n) % 2 ^ 64)

def add64 (a b : Nat) : Nat := (a + b) % 2 ^ 64

/-- The message schedule: 16 words newest first, extended to 80. -/
def sha512Sched (w : List Nat) : List Nat :=
  ((List.range 64).foldl (fun (r : List Nat) _ =>
    let a := r.getD 14 0
    let b := r.getD 1 0
    let s0 := ror64 a 1 ^^^ ror64 a 8 ^^^ (a / 2 ^ 7)
    let s1 := ror64 b 19 ^^^ ror64 b 61 ^^^ (b / 2 ^ 6)
    add64 (add64 (r.getD 15 0) s0) (add64 (r.getD 6 0) s1) :: r) w.reverse).reverse

/-- One block of the compression function. -/
def sha512Block (h : List Nat) (blk : List Byte) : List Nat :=
  let w := sha512Sched ((List.range 16).map fun i => beNat ((blk.drop (8 * i)).take 8))
  let step := fun (v : List Nat) (kw : Nat × Nat) =>
    match v with
    | [a, b, c, d, e, f, g, hh] =>
      let s1 := ror64 e 14 ^^^ ror64 e 18 ^^^ ror64 e 41
      let ch := (e &&& f) ^^^ ((2 ^ 64 - 1 - e) &&& g)
      let t1 := add64 (add64 (add64 hh s1) (add64 ch kw.1)) kw.2
      let s0 := ror64 a 28 ^^^ ror64 a 34 ^^^ ror64 a 39
      let mj := (a &&& b) ^^^ (a &&& c) ^^^ (b &&& c)
      [add64 t1 (add64 s0 mj), a, b, c, add64 d t1, e, f, g]
    | v => v
  List.zipWith add64 h ((sha512Rounds.zip w).foldl step h)

/-- Blocks of n bytes, by fuel. -/
def chunks {α : Type} (n : Nat) : Nat → List α → List (List α)
  | 0, _ => []
  | k + 1, l => if l.isEmpty then [] else l.take n :: chunks n k (l.drop n)

/-- SHA-512. -/
def sha512 (m : List Byte) : List Byte :=
  let z := (239 - m.length % 128) % 128
  let p := m ++ [0x80#8] ++ List.replicate z 0#8 ++ beBytes 16 (8 * m.length)
  ((chunks 128 (p.length / 128) p).foldl sha512Block sha512Initial).flatMap (beBytes 8)

/-- Bytewise exclusive or. -/
def xorBytes (a b : List Byte) : List Byte := List.zipWith (· ^^^ ·) a b

/-- HMAC-SHA-512. -/
def hmac512 (key m : List Byte) : List Byte :=
  let k := slice (if key.length > 128 then sha512 key else key) 0 128
  sha512 (k.map (· ^^^ 0x5C#8) ++ sha512 (k.map (· ^^^ 0x36#8) ++ m))

/-- HKDF-SHA-512: n bytes from input key material, salt and info (RFC 5869). -/
def hkdf512 (salt ikm info : List Byte) (n : Nat) : List Byte :=
  let prk := hmac512 salt ikm
  let r := (List.range ((n + 63) / 64)).foldl (fun (acc : List Byte × List Byte) i =>
    let t := hmac512 prk (acc.2 ++ info ++ leBytes 1 (i + 1))
    (acc.1 ++ t, t)) ([], [])
  r.1.take n

/-! ## Curve 25519 -/

def p25519 : Nat := 2 ^ 255 - 19

/-- Modular power by a fuel of bits. -/
def powMod (b e m : Nat) : Nat :=
  ((List.range (Nat.log2 e + 1)).foldl (fun (st : Nat × Nat) i =>
    (if e / 2 ^ i % 2 = 1 then st.1 * st.2 % m else st.1, st.2 * st.2 % m)) (1 % m, b % m)).1

def invP (x : Nat) : Nat := powMod x (p25519 - 2) p25519
def subP (a b : Nat) : Nat := (a + (p25519 - b % p25519)) % p25519
def mulP (a b : Nat) : Nat := a * b % p25519
def addP (a b : Nat) : Nat := (a + b) % p25519

/-- Order of the base point. -/
def l25519 : Nat := 2 ^ 252 + 27742317777372353535851937790883648493
def d25519 : Nat := mulP (subP 0 121665) (invP 121666)
def sqrtM1 : Nat := powMod 2 ((p25519 - 1) / 4) p25519

/-- A point of the twisted Edwards curve in extended coordinates (X, Y, Z, T). -/
structure EdPoint where
  x : Nat
  y : Nat
  z : Nat
  t : Nat
deriving DecidableEq, Repr

/-- Point addition (RFC 8032, 5.1.4). -/
def edAdd (d2 : Nat) (p q : EdPoint) : EdPoint :=
  let a := mulP (subP p.y p.x) (subP q.y q.x)
  let b := mulP (addP p.y p.x) (addP q.y q.x)
  let c := mulP (mulP p.t d2) q.t
  let d := mulP (mulP p.z 2) q.z
  let e := subP b a
  let f := subP d c
  let g := addP d c
  let h := addP b a
  ⟨mulP e f, mulP g h, mulP f g, mulP e h⟩

/-- Scalar multiple by 256 bits. -/
def edMul (k : Nat) (p : EdPoint) : EdPoint :=
  let d2 := mulP 2 d25519
  ((List.range 256).foldl (fun (st : EdPoint × EdPoint) i =>
    (if k / 2 ^ i % 2 = 1 then edAdd d2 st.1 st.2 else st.1, edAdd d2 st.2 st.2)) (⟨0, 1, 1, 0⟩, p)).1

/-- Recover x from y and the sign bit (RFC 8032, 5.1.3). -/
def edX (y sign : Nat) : Option Nat :=
  if y ≥ p25519 then none else
  let x2 := mulP (subP (mulP y y) 1) (invP (addP (mulP d25519 (mulP y y)) 1))
  if x2 = 0 then (if sign = 1 then none else some 0) else
  let x := powMod x2 ((p25519 + 3) / 8) p25519
  let x := if mulP x x = x2 then x else mulP x sqrtM1
  if mulP x x ≠ x2 then none
  else some (if x % 2 = sign then x else p25519 - x)

def edDecode (bs : List Byte) : Option EdPoint :=
  let v := leNat (slice bs 0 32)
  let y := v % 2 ^ 255
  (edX y (v / 2 ^ 255)).map fun x => ⟨x, y, 1, mulP x y⟩

def edEncode (p : EdPoint) : List Byte :=
  let zi := invP p.z
  leBytes 32 (mulP p.y zi + (mulP p.x zi % 2) * 2 ^ 255)

def edEq (p q : EdPoint) : Bool := mulP p.x q.z == mulP q.x p.z && mulP p.y q.z == mulP q.y p.z

def edBase : EdPoint :=
  let y := mulP 4 (invP 5)
  let x := (edX y 0).getD 0
  ⟨x, y, 1, mulP x y⟩

/-- The clamped scalar and the prefix of a private seed. -/
def edSecret (seed : List Byte) : Nat × List Byte :=
  let h := sha512 seed
  let a := leNat (h.take 32)
  (a % 2 ^ 254 / 8 * 8 + 2 ^ 254, h.drop 32)

/-- The public key of a private seed. -/
def ed25519Public (seed : List Byte) : List Byte := edEncode (edMul (edSecret seed).1 edBase)

/-- Sign (RFC 8032, pure form). -/
def ed25519Sign (seed msg : List Byte) : List Byte :=
  let (a, pre) := edSecret seed
  let pk := ed25519Public seed
  let r := leNat (sha512 (pre ++ msg)) % l25519
  let rs := edEncode (edMul r edBase)
  let h := leNat (sha512 (rs ++ pk ++ msg)) % l25519
  rs ++ leBytes 32 ((r + h * a) % l25519)

/-- Verify (RFC 8032, pure form). -/
def ed25519Verify (pk msg sig : List Byte) : Bool :=
  let s := leNat (slice sig 32 32)
  if sig.length ≠ 64 || s ≥ l25519 then false else
  match edDecode pk, edDecode (slice sig 0 32) with
  | some a, some r =>
    let h := leNat (sha512 (slice sig 0 32 ++ slice pk 0 32 ++ msg)) % l25519
    edEq (edMul s edBase) (edAdd (mulP 2 d25519) r (edMul h a))
  | _, _ => false

/-- X25519 (RFC 7748): scalar bytes and u-coordinate bytes. -/
def x25519 (k u : List Byte) : List Byte :=
  let kn := leNat (slice k 0 32) % 2 ^ 254 / 8 * 8 + 2 ^ 254
  let x1 := leNat (slice u 0 32) % 2 ^ 255 % p25519
  let st := (List.range 255).foldl (fun (st : Nat × Nat × Nat × Nat × Nat) i =>
    let (x2, z2, x3, z3, sw) := st
    let bit := kn / 2 ^ (254 - i) % 2
    let (x2, z2, x3, z3) := if bit ≠ sw then (x3, z3, x2, z2) else (x2, z2, x3, z3)
    let a := addP x2 z2
    let aa := mulP a a
    let b := subP x2 z2
    let bb := mulP b b
    let e := subP aa bb
    let da := mulP (subP x3 z3) a
    let cb := mulP (addP x3 z3) b
    let s := addP da cb
    let d := subP da cb
    (mulP aa bb, mulP e (addP aa (mulP 121665 e)), mulP s s, mulP x1 (mulP d d), bit)) (1, 0, x1, 1, 0)
  let (x2, z2, x3, z3, sw) := st
  let (x, z) := if sw = 1 then (x3, z3) else (x2, z2)
  leBytes 32 (mulP x (invP z))

/-- The public value of an X25519 scalar. -/
def x25519Public (k : List Byte) : List Byte := x25519 k (leBytes 32 9)

/-! ## AES -/

/-- Multiply by x in GF(2^8). -/
def xtime (a : Nat) : Nat := if a < 128 then 2 * a else (2 * a - 256) ^^^ 0x1B

/-- Product in GF(2^8). -/
def gmul (a b : Nat) : Nat :=
  ((List.range 8).foldl (fun (st : Nat × Nat) i =>
    (if b / 2 ^ i % 2 = 1 then st.1 ^^^ st.2 else st.1, xtime st.2)) (0, a)).1

/-- The S-box: inverse in GF(2^8), then the affine map. -/
def sboxOf (x : Nat) : Nat :=
  let i := (List.range 253).foldl (fun p _ => gmul p x) x
  let rot := fun n => (i * 2 ^ n ||| i / 2 ^ (8 - n)) % 256
  i ^^^ rot 1 ^^^ rot 2 ^^^ rot 3 ^^^ rot 4 ^^^ 0x63

/-- The S-box as a table. -/
def sbox : List Nat := (List.range 256).map sboxOf

/-- Round keys, 4 bytes a word (FIPS 197, 5.2). -/
def aesKeys (sb : List Nat) (key : List Nat) : List (List Nat) :=
  let nk := key.length / 4
  let rounds := nk + 6
  let w0 := (List.range nk).map fun i => (key.drop (4 * i)).take 4
  let sub := fun (w : List Nat) => w.map fun b => sb.getD b 0
  let r := (List.range (4 * (rounds + 1) - nk)).foldl (fun (st : List (List Nat) × Nat) j =>
    let i := j + nk
    let prev := st.1.getD 0 []
    let t := if i % nk = 0 then
        match sub (prev.drop 1 ++ prev.take 1) with
        | b :: bs => (b ^^^ st.2) :: bs
        | [] => []
      else if nk = 8 && i % 8 = 4 then sub prev else prev
    (List.zipWith (· ^^^ ·) (st.1.getD (nk - 1) []) t :: st.1, if i % nk = 0 then xtime st.2 else st.2))
    (w0.reverse, 1)
  let ws := r.1.reverse
  (List.range (rounds + 1)).map fun i => ((ws.drop (4 * i)).take 4).flatten

/-- One block under the round keys. -/
def aesBlock (sb : List Nat) (keys : List (List Nat)) (blk : List Nat) : List Nat :=
  let shift := fun (s : List Nat) => (List.range 16).map fun i => s.getD ((i + 4 * (i % 4)) % 16) 0
  let mix := fun (s : List Nat) => (List.range 4).flatMap fun c =>
    let a := fun i => s.getD (4 * c + i % 4) 0
    (List.range 4).map fun r => xtime (a r) ^^^ (xtime (a (r + 1)) ^^^ a (r + 1)) ^^^ a (r + 2) ^^^ a (r + 3)
  let n := keys.length
  let s0 := List.zipWith (· ^^^ ·) blk (keys.getD 0 [])
  let mid := (List.range (n - 2)).foldl (fun s i =>
    List.zipWith (· ^^^ ·) (mix (shift (s.map fun b => sb.getD b 0))) (keys.getD (i + 1) [])) s0
  List.zipWith (· ^^^ ·) (shift (mid.map fun b => sb.getD b 0)) (keys.getD (n - 1) [])

/-- AES of one block of bytes under a key of 16 or 32 bytes. -/
def aes (key blk : List Byte) : List Byte :=
  (aesBlock sbox (aesKeys sbox (key.map BitVec.toNat)) ((slice blk 0 16).map BitVec.toNat)).map (BitVec.ofNat 8)

/-- Encrypt many blocks under one key. -/
def aesMany (key : List Byte) (blks : List (List Byte)) : List (List Byte) :=
  let sb := sbox
  let ks := aesKeys sb (key.map BitVec.toNat)
  blks.map fun b => (aesBlock sb ks ((slice b 0 16).map BitVec.toNat)).map (BitVec.ofNat 8)

/-- Product in GF(2^128) of GCM, blocks as big-endian naturals. -/
def gfMul128 (x y : Nat) : Nat :=
  ((List.range 128).foldl (fun (st : Nat × Nat) i =>
    let z := if x / 2 ^ (127 - i) % 2 = 1 then st.1 ^^^ st.2 else st.1
    (z, if st.2 % 2 = 1 then (st.2 / 2) ^^^ (0xE1 * 2 ^ 120) else st.2 / 2)) (0, y)).1

/-- Zero-pad to whole blocks of 16 bytes. -/
def pad16 (m : List Byte) : List Byte := m ++ List.replicate ((16 - m.length % 16) % 16) 0#8

def blocks16 (m : List Byte) : List (List Byte) := chunks 16 (m.length / 16 + 1) m

/-- GHASH. -/
def ghash (h : Nat) (m : List Byte) : Nat :=
  (blocks16 m).foldl (fun y b => gfMul128 (y ^^^ beNat b) h) 0

/-- GCM under a key, a 12-byte IV and AAD: the text xored with the key stream, and the tag of the ciphertext. -/
def gcmStream (key iv pt : List Byte) : List Byte :=
  let n := (pt.length + 15) / 16
  xorBytes pt (aesMany key ((List.range n).map fun i => slice iv 0 12 ++ beBytes 4 (i + 2))).flatten

def gcmTag (key iv aad ct : List Byte) : List Byte :=
  let h := beNat (aes key (List.replicate 16 0#8))
  let s := ghash h (pad16 aad ++ pad16 ct ++ beBytes 8 (8 * aad.length) ++ beBytes 8 (8 * ct.length))
  xorBytes (beBytes 16 s) (aes key (slice iv 0 12 ++ beBytes 4 1))

/-- GCM encryption: ciphertext and 16-byte tag. -/
def gcmEncrypt (key iv aad pt : List Byte) : List Byte × List Byte :=
  let ct := gcmStream key iv pt
  (ct, gcmTag key iv aad ct)

/-- GCM decryption: the plaintext, or none when the tag (of the length given) does not match. -/
def gcmDecrypt (key iv aad ct tag : List Byte) : Option (List Byte) :=
  if (gcmTag key iv aad ct).take tag.length = tag then some (gcmStream key iv ct) else none

/-- CBC-MAC over whole blocks. -/
def cbcMac (key : List Byte) (blks : List (List Byte)) : List Byte :=
  let sb := sbox
  let ks := aesKeys sb (key.map BitVec.toNat)
  blks.foldl (fun x b => (aesBlock sb ks ((xorBytes x (slice b 0 16)).map BitVec.toNat)).map (BitVec.ofNat 8))
    (List.replicate 16 0#8)

/-- CCM's MAC before encryption: nonce of 15 − L bytes, tag of M bytes (RFC 3610). -/
def ccmMac (key nonce aad pt : List Byte) (m : Nat) : List Byte :=
  let l := 15 - nonce.length
  let flags := (if aad.isEmpty then 0 else 64) + 8 * ((m - 2) / 2) + (l - 1)
  let b0 := leBytes 1 flags ++ nonce ++ beBytes l pt.length
  let a := if aad.isEmpty then [] else pad16 (beBytes 2 aad.length ++ aad)
  cbcMac key (blocks16 (b0 ++ a ++ pad16 pt))

/-- CCM's key stream from counter i. -/
def ccmStream (key nonce : List Byte) (i n : Nat) : List Byte :=
  let l := 15 - nonce.length
  (aesMany key ((List.range n).map fun j => leBytes 1 (l - 1) ++ nonce ++ beBytes l (i + j))).flatten

/-- CCM encryption: ciphertext and tag of m bytes; with m 0 the tag is empty (CCM*). -/
def ccmEncrypt (key nonce aad pt : List Byte) (m : Nat) : List Byte × List Byte :=
  (xorBytes pt (ccmStream key nonce 1 ((pt.length + 15) / 16)),
   (xorBytes (ccmMac key nonce aad pt m) (ccmStream key nonce 0 1)).take m)

/-- CCM decryption: the plaintext, or none when the tag does not match. -/
def ccmDecrypt (key nonce aad ct tag : List Byte) : Option (List Byte) :=
  let pt := xorBytes ct (ccmStream key nonce 1 ((ct.length + 15) / 16))
  if (xorBytes (ccmMac key nonce aad pt tag.length) (ccmStream key nonce 0 1)).take tag.length = tag then some pt else none

/-- Double in GF(2^128) of CMAC. -/
def cmacDbl (x : Nat) : Nat := if x < 2 ^ 127 then 2 * x else (2 * x - 2 ^ 128) ^^^ 0x87

/-- AES-CMAC (SP 800-38B). -/
def cmac (key m : List Byte) : List Byte :=
  let k1 := cmacDbl (beNat (aes key (List.replicate 16 0#8)))
  let whole := m.length % 16 = 0 && !m.isEmpty
  let lastLen := if whole then 16 else m.length % 16
  let body := m.take (m.length - lastLen)
  let last := m.drop (m.length - lastLen)
  let l := if whole then xorBytes last (beBytes 16 k1)
    else xorBytes (slice (last ++ [0x80#8]) 0 16) (beBytes 16 (cmacDbl k1))
  cbcMac key ((if body.isEmpty then [] else chunks 16 (body.length / 16) body) ++ [l])

end Sys2Proof
end

