-- ==== Sys2Proof/Machine/Regs.lean ====
section
/-! DEFINITION. The register map as the chapters' register tables give it: one row per register, its fields with
access, reset value and accepted values (00 R7 to R11, R36). A field whose reset the spec calls 'record' resets to 0
until the record is applied (log 6); 'strap', 'fuse', 'derived' and live status fields are composed in ReadOps. -/

namespace Sys2Proof.Machine

/-- Access codes (R8). -/
inductive Acc where
  | ro | rw | wo | w1c | rc
deriving DecidableEq, Repr

/-- The values a field accepts (R36). -/
inductive Valid where
  | any
  | range (a b : Nat)
  | srange (bits : Nat) (a b : Int)
  | oneOf (l : List Nat)
deriving DecidableEq, Repr

/-- One field of a register. -/
structure RFld where
  hi : Nat
  lo : Nat
  acc : Acc
  reset : Nat
  valid : Valid
deriving DecidableEq, Repr

/-- A register, or an array of them: address of the first, (count, stride) of each dimension, whether it is staged. -/
structure RegRow where
  base : Nat
  dims : List (Nat × Nat)
  staged : Bool
  flds : List RFld
deriving DecidableEq, Repr

/-- A read-only field, reset 0. -/
def ro (hi lo : Nat) : RFld := ⟨hi, lo, .ro, 0, .any⟩
/-- A read-only field with a reset value. -/
def roR (hi lo r : Nat) : RFld := ⟨hi, lo, .ro, r, .any⟩
/-- A read-write field. -/
def rw (hi lo r : Nat) : RFld := ⟨hi, lo, .rw, r, .any⟩
/-- A read-write field with a range. -/
def rwV (hi lo r a b : Nat) : RFld := ⟨hi, lo, .rw, r, .range a b⟩
/-- A read-write signed field with a range. -/
def rwS (hi lo r : Nat) (a b : Int) : RFld := ⟨hi, lo, .rw, r, .srange (hi + 1 - lo) a b⟩
/-- A read-write field with listed values. -/
def rwO (hi lo r : Nat) (l : List Nat) : RFld := ⟨hi, lo, .rw, r, .oneOf l⟩
/-- A write-only field. -/
def wo (hi lo : Nat) : RFld := ⟨hi, lo, .wo, 0, .any⟩
/-- A write-only field with a range. -/
def woV (hi lo a b : Nat) : RFld := ⟨hi, lo, .wo, 0, .range a b⟩
/-- A write-one-to-clear field. -/
def w1c (hi lo : Nat) : RFld := ⟨hi, lo, .w1c, 0, .any⟩
/-- A read-to-clear field. -/
def rc (hi lo : Nat) : RFld := ⟨hi, lo, .rc, 0, .any⟩

/-- An immediate register. -/
def reg (base : Nat) (flds : List RFld) : RegRow := ⟨base, [], false, flds⟩
/-- An array of immediate registers. -/
def regA (base : Nat) (dims : List (Nat × Nat)) (flds : List RFld) : RegRow := ⟨base, dims, false, flds⟩
/-- An array of staged registers; dims [] for one. -/
def stg (base : Nat) (dims : List (Nat × Nat)) (flds : List RFld) : RegRow := ⟨base, dims, true, flds⟩

/-- Whether an offset is an element of an array with these dimensions. -/
def inDims : List (Nat × Nat) → Nat → Bool
  | [], off => off == 0
  | (n, st) :: ds, off => decide (off / st < n) && inDims ds (off % st)

/-- Whether a row holds the register at address a. -/
def RegRow.holds (r : RegRow) (a : Nat) : Bool := decide (r.base ≤ a) && inDims r.dims (a - r.base)

/-- Reset word of a row. -/
def RegRow.resetWord (r : RegRow) : Word :=
  r.flds.foldl (fun w f => setBits w f.hi f.lo f.reset) 0#32

/-- Whether a field accepts a value. -/
def Valid.ok : Valid → Nat → Bool
  | .any, _ => true
  | .range a b, v => decide (a ≤ v) && decide (v ≤ b)
  | .srange n a b, v => decide (a ≤ signed n v) && decide (signed n v ≤ b)
  | .oneOf l, v => l.contains v

/-- Whether every writable field of the row accepts its bits of w (R36). -/
def RegRow.accepts (r : RegRow) (w : Word) : Bool :=
  r.flds.all fun f => match f.acc with
    | .rw | .wo => f.valid.ok (bitsOf w.toNat f.hi f.lo)
    | _ => true

/-- The register after a write of w (R8): RW fields take w, W1C bits written 1 clear, the rest keep. -/
def RegRow.write (r : RegRow) (old w : Word) : Word :=
  r.flds.foldl (fun acc f => match f.acc with
    | .rw => setBits acc f.hi f.lo (bitsOf w.toNat f.hi f.lo)
    | .w1c =>
      let keep := bitsOf old.toNat f.hi f.lo &&& ((2 ^ (f.hi + 1 - f.lo) - 1) ^^^ bitsOf w.toNat f.hi f.lo)
      setBits acc f.hi f.lo keep
    | _ => acc) old

/-- What a read of the stored word returns: WO fields read 0 (R8). -/
def RegRow.readMask (r : RegRow) (w : Word) : Word :=
  r.flds.foldl (fun acc f => match f.acc with
    | .wo => setBits acc f.hi f.lo 0
    | _ => acc) w

/-- The register after a read: RC fields clear (R8). -/
def RegRow.afterRead (r : RegRow) (w : Word) : Word :=
  r.flds.foldl (fun acc f => match f.acc with
    | .rc => setBits acc f.hi f.lo 0
    | _ => acc) w

/-- Whether a row has a read-to-clear field. -/
def RegRow.hasRC (r : RegRow) : Bool := r.flds.any (fun f => f.acc == .rc)

/-- GCTL (03 R101). -/
def gctlRows : List RegRow := [
  reg 0x0 [roR 15 0 0x5A07, roR 31 16 0x4C59],            -- GCTL_ID
  reg 0x4 [roR 7 0 0xB1, ro 8 8, ro 9 9],                 -- GCTL_VARIANT
  reg 0x8 [ro 3 0, roR 5 4 3, ro 7 6, ro 15 8],           -- GCTL_BOOT_STATUS
  reg 0xC [wo 0 0],                                       -- GCTL_BOOT_CTRL
  reg 0x10 [wo 31 0],                                     -- GCTL_RESET
  reg 0x14 [ro 14 0],                                     -- GCTL_SUBJ_REJECT
  reg 0x18 [ro 23 0],                                     -- GCTL_REJECT_INFO
  reg 0x1C [ro 31 0],                                     -- GCTL_REJECT_OFFSET
  reg 0x20 [ro 8 0],                                      -- GCTL_SLOT_A_STAT
  reg 0x24 [ro 31 0],                                     -- GCTL_SLOT_A_SEQ
  reg 0x28 [ro 8 0],                                      -- GCTL_SLOT_B_STAT
  reg 0x2C [ro 31 0],                                     -- GCTL_SLOT_B_SEQ
  reg 0x30 [ro 16 0],                                     -- GCTL_FUSE_STATE
  reg 0x34 [ro 4 0],                                      -- GCTL_FLASH_INFO
  reg 0x38 [ro 14 0],                                     -- GCTL_LOG_PTR
  reg 0x3C [ro 31 0],                                     -- GCTL_LOG_SEQ
  regA 0x40 [(8, 4)] [ro 31 0],                           -- GCTL_ID_PUBKEY_i
  regA 0x60 [(2, 4)] [ro 31 0]]                           -- GCTL_FIRST_BEACON_LO, _HI

/-- The clock select codes that name a clock (02 R62). -/
def fcSels : List Nat := List.range 14 ++ (List.range 12).map (0x10 + ·) ++ [0x20, 0x21, 0x22, 0x23, 0x28, 0x29, 0x2A, 0x30]

/-- CKR (02 R69). -/
def ckrRows : List RegRow := [
  reg 0x100000 [ro 4 0],                                  -- CKR_STRAPS
  reg 0x100004 [ro 9 0],                                  -- CKR_STATUS
  reg 0x100008 [w1c 2 0],                                 -- CKR_EVENTS
  reg 0x100010 [rw 23 0 0],                               -- CKR_CLKEN_0
  reg 0x100014 [rw 11 0 0],                               -- CKR_CLKEN_1
  reg 0x100018 [ro 23 0],                                 -- CKR_CLKST_0
  reg 0x10001C [ro 11 0],                                 -- CKR_CLKST_1
  regA 0x100040 [(8, 4)] [ro 0 0, rw 8 8 0, wo 9 9, ro 23 16, ro 24 24],          -- CKR_SRC_d
  regA 0x100100 [(8, 0x10)] [rwO 5 0 0 fcSels, rwV 12 8 10 10 30, wo 16 16, rw 17 17 0],  -- CKR_FC_CTRL_n
  regA 0x100104 [(8, 0x10)] [ro 7 0, ro 8 8, w1c 9 9],                            -- CKR_FC_STAT_n
  regA 0x100108 [(8, 0x10)] [ro 31 0],                                            -- CKR_FC_COUNT_n_LO
  regA 0x10010C [(8, 0x10)] [ro 7 0]]                                             -- CKR_FC_COUNT_n_HI

/-- TIME (04 R128). -/
def timeRows : List RegRow := [
  reg 0x200000 [ro 6 0, ro 31 16],                        -- TIME_NT_STATUS
  regA 0x200008 [(2, 4)] [ro 31 0],                       -- TIME_NT64
  reg 0x200010 [ro 31 0],                                 -- TIME_NT_SEC_LO
  reg 0x200014 [ro 15 0],                                 -- TIME_NT_SEC_HI
  reg 0x200018 [ro 29 0],                                 -- TIME_NT_NS
  reg 0x20001C [ro 15 0],                                 -- TIME_NT_FRAC
  regA 0x200020 [(2, 4)] [ro 31 0],                       -- TIME_NT_RATE, TIME_NT_OFFSET
  reg 0x200028 [rc 15 0, rc 23 16, rc 31 24],             -- TIME_CNT
  reg 0x200030 [rwV 2 0 0 0 4, wo 3 3, ro 15 8, ro 16 16],-- TIME_REANCHOR
  regA 0x200040 [(6, 4)] [ro 31 0],                       -- TIME_TSF_BASE_x
  regA 0x200060 [(2, 4)] [ro 31 0],                       -- TIME_MT64
  reg 0x200068 [ro 1 0],                                  -- TIME_MT_STATUS
  reg 0x20006C [ro 31 0],                                 -- TIME_MT_DIFF
  regA 0x200070 [(4, 4)] [ro 31 0]]                       -- TIME_FR64, TIME_PPS_IN

/-- PWR (16 R479). -/
def pwrRows : List RegRow := [
  reg 0x400000 [ro 16 0],                                 -- PWR_STATUS
  reg 0x400004 [ro 24 0],                                 -- PWR_DOM_STAT
  regA 0x400008 [(2, 4)] [ro 19 0],                       -- PWR_POWER, PWR_POWER_AVG
  reg 0x400010 [ro 10 0, ro 22 16],                       -- PWR_TJ
  reg 0x400014 [rwV 4 0 0 0 22],                          -- PWR_TEMP_SEL
  reg 0x400018 [ro 10 0],                                 -- PWR_TEMP
  reg 0x400020 [rwV 3 0 3 3 13],                          -- PWR_RAIL_SEL
  reg 0x400024 [ro 31 0],                                 -- PWR_RAIL_CFG
  reg 0x400028 [ro 31 0],                                 -- PWR_RAIL_I
  reg 0x400030 [rwV 7 0 0 85 108, rwV 15 8 0 90 120, rwV 31 16 0 0 3600],  -- PWR_THERM_CFG
  reg 0x400034 [w1c 25 0],                                -- PWR_HOLD
  reg 0x400038 [w1c 15 0],                                -- PWR_HOLD_HF
  reg 0x400040 [rc 15 0, rc 23 16, rc 31 24]]             -- PWR_CNT

/-- HQ sub-blocks of the 16 functions and the PF's own registers (13 R411, R412). -/
def hqRows : List RegRow := [
  regA 0x3000000 [(16, 0x10000)] [ro 2 0, ro 14 4],                        -- HQ_F_STATUS
  regA 0x3000004 [(16, 0x10000)] [wo 1 0, ro 15 8],                        -- HQ_F_CTRL
  regA 0x3000010 [(16, 0x10000)] [rw 31 12 0],                             -- HQ_F_EVQ_BASE_LO
  regA 0x3000014 [(16, 0x10000)] [rw 31 0 0],                              -- HQ_F_EVQ_BASE_HI
  regA 0x3000018 [(16, 0x10000)] [rwV 3 0 2 2 8, rw 4 4 0, rw 15 8 0, rw 31 16 0],  -- HQ_F_EVQ_CFG
  regA 0x300001C [(16, 0x10000)] [rw 11 0 0],                              -- HQ_F_EVQ_HEAD
  regA 0x3000020 [(16, 0x10000)] [rc 15 0],                                -- HQ_F_EVQ_LOST
  regA 0x3000024 [(16, 0x10000)] [rw 4 0 0],                               -- HQ_F_DIRECT
  regA 0x3000100 [(16, 0x10000), (16, 0x20)] [rw 31 12 0],                 -- HQ_F_SQ_n_BASE_LO
  regA 0x3000104 [(16, 0x10000), (16, 0x20)] [rw 31 0 0],                  -- HQ_F_SQ_n_BASE_HI
  regA 0x3000108 [(16, 0x10000), (16, 0x20)] [rwV 3 0 0 0 6, rw 4 4 0, rw 11 8 0, rwV 19 16 1 1 15], -- _CFG
  regA 0x300010C [(16, 0x10000), (16, 0x20)] [rw 9 0 0],                   -- HQ_F_SQ_n_TAIL
  regA 0x3000110 [(16, 0x10000), (16, 0x20)] [ro 9 0],                     -- HQ_F_SQ_n_HEAD
  regA 0x3000400 [(16, 0x10000), (16, 0x20)] [rw 31 12 0],                 -- HQ_F_CQ_n_BASE_LO
  regA 0x3000404 [(16, 0x10000), (16, 0x20)] [rw 31 0 0],                  -- HQ_F_CQ_n_BASE_HI
  regA 0x3000408 [(16, 0x10000), (16, 0x20)] [rwV 3 0 0 0 8, rw 4 4 0, rw 15 8 0, rw 31 16 0], -- HQ_F_CQ_n_CFG
  regA 0x300040C [(16, 0x10000), (16, 0x20)] [rw 11 0 0],                  -- HQ_F_CQ_n_HEAD
  regA 0x3000410 [(16, 0x10000), (16, 0x20)] [ro 11 0],                    -- HQ_F_CQ_n_TAIL
  regA 0x3000800 [(16, 0x10000), (16, 0x40)] [rw 31 12 0],                 -- HQ_F_RQ_n_DESC_LO
  regA 0x3000804 [(16, 0x10000), (16, 0x40)] [rw 31 0 0],                  -- HQ_F_RQ_n_DESC_HI
  regA 0x3000808 [(16, 0x10000), (16, 0x40)] [rw 31 12 0],                 -- HQ_F_RQ_n_BUF_LO
  regA 0x300080C [(16, 0x10000), (16, 0x40)] [rw 31 0 0],                  -- HQ_F_RQ_n_BUF_HI
  regA 0x3000810 [(16, 0x10000), (16, 0x40)] [rwV 3 0 2 2 8, rw 4 4 0, rw 15 8 0, rw 31 16 0], -- HQ_F_RQ_n_CFG
  regA 0x3000814 [(16, 0x10000), (16, 0x40)] [rw 11 0 0],                  -- HQ_F_RQ_n_HEAD
  regA 0x3000818 [(16, 0x10000), (16, 0x40)] [rw 11 0 0],                  -- HQ_F_RQ_n_BQ_TAIL
  regA 0x300081C [(16, 0x10000), (16, 0x40)] [rc 15 0, rc 31 16],          -- HQ_F_RQ_n_CNT
  regA 0x3000820 [(16, 0x10000), (16, 0x40)] [rc 15 0],                    -- HQ_F_RQ_n_CNT2
  regA 0x3000C00 [(16, 0x10000), (64, 0x10)] [wo 12 0],                    -- HQ_F_WK_j_ASK
  regA 0x3000C04 [(16, 0x10000), (64, 0x10)] [wo 31 0],                    -- HQ_F_WK_j_RELEASE
  regA 0x3000C08 [(16, 0x10000), (64, 0x10)] [ro 4 0, ro 31 8],            -- HQ_F_WK_j_STAT
  regA 0x3001000 [(16, 0x10000)] [rc 15 0, rc 31 16],                      -- HQ_F_CNT
  regA 0x3001008 [(16, 0x10000), (2, 4)] [ro 31 0],                        -- HQ_F_CMD_LO, _HI
  reg 0x3100000 [ro 6 0],                                                  -- HQ_LINK
  reg 0x3100004 [ro 15 1, ro 19 16],                                       -- HQ_VFS
  reg 0x3100008 [rwV 15 0 0 50 50000],                                     -- HQ_CPL_TIMEOUT
  regA 0x3100100 [(64, 4)] [rw 3 0 0, rw 7 4 0, rw 8 8 0, rwV 31 16 0 1 60000]]  -- HQ_WORKER_w

/-- TSK (13 R413). -/
def tskRows : List RegRow := [
  reg 0x2C00000 [ro 19 0],                                                 -- TSK_STATUS
  reg 0x2C00004 [ro 16 0],                                                 -- TSK_HELD
  reg 0x2C00008 [rwV 13 0 0 1 10000],                                      -- TSK_CFG
  regA 0x2C00010 [(2, 4)] [rc 15 0, rc 31 16],                             -- TSK_CNT_A, TSK_CNT_B
  regA 0x2C00100 [(64, 0x20)] [rw 1 0 0, rw 23 8 0],                       -- TSK_Q_q_CFG
  regA 0x2C00104 [(64, 0x20)] [rwV 18 0 0 1 262144],                       -- TSK_Q_q_LIMIT
  regA 0x2C00108 [(64, 0x20), (2, 4)] [rw 31 0 0],                         -- TSK_Q_q_HMASK_LO, _HI
  regA 0x2C00110 [(64, 0x20)] [rwV 15 0 0 0 60000, rwV 31 16 0 0 60000],   -- TSK_Q_q_WAIT
  reg 0x2C01000 [rw 5 0 0],                                                -- TSK_QSTAT_SEL
  reg 0x2C01004 [ro 18 0],                                                 -- TSK_QSTAT_MAXDEPTH
  regA 0x2C01008 [(4, 4)] [ro 31 0],                                       -- _MAXWAIT, _IN, _OUT, _DROP
  reg 0x2C01020 [rwV 6 0 0 0 79],                                          -- TSK_CSTAT_SEL
  reg 0x2C01024 [ro 31 0],                                                 -- TSK_CSTAT_DELIV
  reg 0x2C01028 [ro 9 0, ro 31 16]]                                        -- TSK_CSTAT_IDLE

/-- MER (05 R154); the CST registers within the block follow in cstRows. -/
def merRows : List RegRow := [
  reg 0x300000 [ro 6 0, ro 10 8],                                          -- MER_STATUS
  reg 0x300004 [ro 27 0],                                                  -- MER_PHASE
  regA 0x300008 [(4, 4)] [ro 31 0],                                        -- MER_NEXT, MER_LAST
  reg 0x300020 [rwV 2 0 0 0 4, rw 5 4 2],                                  -- MER_STAGE_MODE
  reg 0x300024 [wo 1 0, ro 15 8, ro 17 16],                                -- MER_COMMIT
  regA 0x300028 [(2, 4)] [rw 31 0 0],                                      -- MER_TARGET
  regA 0x300030 [(4, 4)] [ro 26 0],                                        -- MER_PART, _ARMED, _NOT_ARMED, _EXCLUDED
  regA 0x300040 [(4, 4)] [ro 31 0],                                        -- MER_CAUSE_i
  reg 0x300050 [rc 15 0, rc 23 16, rc 31 24],                              -- MER_CNT
  reg 0x300060 [wo 0 0, rwO 3 1 0 [0, 1, 2, 3, 4, 7], rw 6 4 0, rw 7 7 0, rw 12 8 0, ro 23 16, ro 26 24], -- MER_DORMANT
  regA 0x300064 [(2, 4)] [rw 31 0 0],                                      -- MER_WAKE_MT
  reg 0x300070 [rw 7 0 0],                                                 -- MER_TUNER_SEL
  reg 0x300074 [roR 17 0 7500]]                                            -- MER_TUNER_CREDIT

/-- The three radios' sub-blocks. -/
def radios : Nat × Nat := (3, 0x100000)

/-- FE (06 R181). TUNER_CNT and CHAIN_STAT are composed from the chains. -/
def feRows : List RegRow := [
  regA 0x1000000 [radios] [ro 20 0],                                       -- FE_x_STATUS
  regA 0x1000004 [radios] [rwV 7 0 0 55 150, rwV 15 8 0 8 80, rwV 23 16 0 8 80, rw 24 24 0],  -- FE_x_CFG
  regA 0x1000008 [radios] [rwV 17 0 0 0 180000],                           -- FE_x_AUTO_RESERVE
  stg 0x1000010 [radios, (2, 4)] [rw 31 0 0],                              -- FE_x_CHAIN_EN0, EN1
  stg 0x1000018 [radios] [rw 7 0 0],                                       -- FE_x_TXPWR
  regA 0x100001C [radios, (2, 4)] [w1c 31 0],                              -- FE_x_BLOCKED0, BLOCKED1
  regA 0x1000024 [radios] [ro 5 0],                                        -- FE_x_RECIP_REF
  regA 0x1000028 [radios] [rc 15 0, rc 23 16, rc 31 24],                   -- FE_x_CNT
  stg 0x1001000 [radios, (64, 4)] [rw 9 0 0],                              -- FE_x_TUNER_POS_c
  regA 0x1002000 [radios, (64, 4)] [ro 6 0, ro 31 8],                      -- FE_x_CHAIN_STAT_c
  regA 0x1003000 [radios, (64, 4)] [ro 31 0]]                              -- FE_x_TUNER_CNT_c

/-- BB (07 R206). -/
def bbRows : List RegRow := [
  regA 0x1400000 [radios] [ro 2 0, ro 14 8],                               -- BB_x_STATUS
  stg 0x1400004 [radios] [rw 7 0 0, rw 15 8 0, rwO 18 16 0 [0, 1, 2, 3, 4, 7]],  -- BB_x_CHAN
  stg 0x1400008 [radios] [rw 15 0 0],                                      -- BB_x_PUNCT
  regA 0x140000C [radios] [rwS 7 0 0 (-95) (-62), rwV 12 8 0 3 20, rwV 20 16 0 3 20, rw 24 24 0],  -- BB_x_DET
  regA 0x1400010 [radios] [rwV 7 0 0 2 200, rwV 15 8 0 10 200, rwV 22 16 0 10 90, rwV 30 24 0 11 100], -- BB_x_CSI
  regA 0x1400014 [radios] [rwV 4 0 0 10 30],                               -- BB_x_PRECODE
  regA 0x1400018 [radios] [ro 9 0, ro 25 16],                              -- BB_x_BUDGET
  regA 0x1400020 [radios, (4, 4)] [rc 15 0, rc 31 16],                     -- BB_x_CNT_DET, _CAP, _CSI, _TB
  regA 0x1400030 [radios, (2, 4)] [ro 31 0]]                               -- BB_x_PPDU_OK

/-- MAC (08 R239). -/
def macRows : List RegRow := [
  regA 0x1800000 [radios] [ro 14 0, ro 22 16],                             -- MAC_x_STATUS
  regA 0x1800004 [radios] [ro 13 0, ro 29 16],                             -- MAC_x_ASSOC
  regA 0x1800008 [radios] [rwV 3 0 0 1 15, rw 4 4 0],                      -- MAC_x_CFG
  stg 0x180000C [radios] [rwV 4 0 0 2 16],                                 -- MAC_x_EXCH
  stg 0x1800010 [radios] [rwV 10 0 0 40 1024],                             -- MAC_x_PLAN_LEAD
  regA 0x1800014 [radios] [rwV 9 0 0 1 1000],                              -- MAC_x_REORDER
  regA 0x1800018 [radios, (4, 4)] [rwV 13 0 0 1 10000],                    -- MAC_x_LIFETIME_k
  stg 0x1800100 [radios, (16, 0x10)] [rw 10 0 0, rwV 21 11 0 1 2007],      -- MAC_x_BSS_n_CFG
  stg 0x1800104 [radios, (16, 0x10)] [rw 31 0 0],                          -- MAC_x_BSS_n_ADDR_LO
  stg 0x1800108 [radios, (16, 0x10)] [rw 15 0 0],                          -- MAC_x_BSS_n_ADDR_HI
  stg 0x1800400 [radios, (64, 8)] [rwV 10 0 0 0 1599, rwV 21 11 0 1 1600, rwV 24 22 0 0 6, rw 26 25 0], -- MAC_x_GRID_r_A
  stg 0x1800404 [radios, (64, 8)] [rw 10 0 0, rwV 21 11 0 1 1600],         -- MAC_x_GRID_r_B
  regA 0x1800800 [radios, (6, 4)] [rc 15 0, rc 31 16],                     -- MAC_x_CNT_TXA to MAC_x_CNT_PLAN
  regA 0x1800820 [radios, (2, 4)] [ro 31 0]]                               -- MAC_x_MPDU_OK

/-- CST registers within MER (09 R264). -/
def cstRows : List RegRow := [
  reg 0x301000 [ro 6 0, ro 13 8, ro 23 16],                                -- CST_STATUS
  regA 0x301004 [(3, 4)] [ro 31 0],                                        -- CST_SESSION, _PRESENT, _FLAGGED
  reg 0x301010 [rw 4 0 0],                                                 -- CST_MEMBER_SEL
  reg 0x301014 [ro 5 0, ro 15 8],                                          -- CST_MEMBER_STAT
  reg 0x301018 [ro 31 0],                                                  -- CST_MEMBER_OFFSET
  reg 0x30101C [wo 1 0, ro 15 8, ro 16 16],                                -- CST_CTRL
  regA 0x301020 [(3, 4)] [rc 15 0, rc 31 16],                              -- CST_CNT_RX, _FOREIGN, _NULL
  reg 0x30102C [ro 11 0]]                                                  -- CST_FOREIGN

/-- NW (10 R299). -/
def nwRows : List RegRow := [
  reg 0x2000000 [ro 5 0],                                                  -- NW_STATUS
  stg 0x2000004 [] [rw 5 0 0, rwV 8 6 0 0 4],                              -- NW_SF
  regA 0x2000008 [(2, 4)] [ro 31 0],                                       -- NW_ANCHOR
  reg 0x2000010 [ro 31 0],                                                 -- NW_BSN
  reg 0x2000014 [rwS 7 0 0 (-20) 54, rw 8 8 0],                            -- NW_CFG
  regA 0x2000018 [(2, 4)] [ro 31 0],                                       -- NW_EPOCH
  reg 0x2000020 [ro 12 0, ro 28 16],                                       -- NW_QUEUE
  reg 0x2000024 [ro 14 0, ro 26 16],                                       -- NW_TABLES
  reg 0x2000030 [rw 1 0 0],                                                -- NW_LEDGER_SEL
  reg 0x2000034 [ro 31 0],                                                 -- NW_LEDGER_USED
  regA 0x2000040 [(7, 4)] [rc 15 0, rc 31 16],                             -- NW_CNT_RX to NW_CNT_DOWN
  regA 0x2000060 [(2, 4)] [ro 31 0],                                       -- NW_FRAMES_OK
  stg 0x2000100 [(32, 4)] [rwV 11 0 0 0 2047, rwV 23 12 0 0 2048, rwV 26 24 0 0 4]]  -- NW_MAP_r

/-- PKT (11 R347). -/
def pktRows : List RegRow := [
  reg 0x2400000 [ro 0 0],                                                  -- PKT_STATUS
  reg 0x2400004 [ro 17 0],                                                 -- PKT_BUF
  reg 0x2400008 [rwV 9 0 0 1 1023, rwV 30 16 0 4 16384],                   -- PKT_WQ_CFG
  reg 0x240000C [rwV 14 0 0 16 16384],                                     -- PKT_WD_CFG
  reg 0x2400010 [rwV 15 0 0 10 65535, rwV 31 16 0 1 65535],                -- PKT_AGE
  reg 0x2400014 [rw 6 0 0],                                                -- PKT_SAMPLE
  regA 0x2400018 [(3, 4)] [ro 31 0],                                       -- PKT_USE_0 to _2
  regA 0x2400100 [(16, 0x10)] [rwV 11 0 0 0 4094, rw 25 12 0],             -- PKT_TENANT_t_CFG
  regA 0x2400104 [(16, 0x10)] [rw 31 0 0],                                 -- PKT_TENANT_t_MAC_LO
  regA 0x2400108 [(16, 0x10)] [rw 15 0 0],                                 -- PKT_TENANT_t_MAC_HI
  regA 0x240010C [(16, 0x10)] [rw 24 0 0],                                 -- PKT_TENANT_t_VNI
  regA 0x2400200 [(16, 0x20), (8, 4)] [rw 23 0 0],                         -- PKT_DSCP_t_i
  stg 0x2400400 [(16, 4)] [rw 7 0 0],                                      -- PKT_CLASS_MAP_t
  stg 0x2400440 [(10, 4)] [rw 23 0 0],                                     -- PKT_UPQ_s
  reg 0x2400500 [rw 16 0 0],                                               -- PKT_QDEPTH_SEL
  regA 0x2400504 [(2, 4)] [ro 31 0],                                       -- PKT_QDEPTH_BYTES, _HEAD
  regA 0x2400600 [(64, 4)] [rw 16 0 0, rw 31 31 0],                        -- PKT_WATCH_n
  reg 0x2400700 [rw 5 0 0],                                                -- PKT_WATCH_SEL
  regA 0x2400704 [(2, 4)] [ro 31 0],                                       -- PKT_WATCH_DEPTH, _DELAY
  reg 0x2400710 [rw 12 0 0],                                               -- PKT_RULE_SEL
  regA 0x2400714 [(2, 4)] [ro 31 0],                                       -- PKT_RULE_HITS
  regA 0x2400800 [(9, 4)] [rc 15 0, rc 31 16],                             -- PKT_CNT_0 to _8
  regA 0x2400830 [(2, 4)] [ro 31 0],                                       -- PKT_FRAMES
  stg 0x2401000 [(10, 0x40), (8, 8)] [rwV 26 0 0 0 100000000],             -- PKT_SHP_RATE_s_q
  stg 0x2401004 [(10, 0x40), (8, 8)] [rwV 24 0 0 1600 16777216],           -- PKT_SHP_BURST_s_q
  stg 0x2401400 [(10, 0x20), (8, 4)] [rwV 19 0 0 0 1000000]]               -- PKT_MAXDELAY_s_q

/-- CPH (12 R371). -/
def cphRows : List RegRow := [
  reg 0x2900000 [ro 26 0],                                                 -- CPH_STATUS
  regA 0x2800000 [(16, 0x10000)] [ro 7 0],                                 -- CPH_Pp_INFO
  regA 0x2800004 [(16, 0x10000)] [ro 13 0, ro 30 16],                      -- CPH_Pp_SLOTS
  regA 0x2800010 [(16, 0x10000)] [rw 13 0 0],                              -- CPH_Pp_SLOT_SEL
  regA 0x2800014 [(16, 0x10000)] [ro 4 0, ro 31 8],                        -- CPH_Pp_SLOT_STAT
  regA 0x2800018 [(16, 0x10000), (2, 4)] [ro 31 0],                        -- CPH_Pp_SLOT_TXC
  regA 0x2800020 [(16, 0x10000), (3, 4)] [rc 15 0, rc 31 16]]              -- CPH_Pp_CNT_A, _B, _C

/-- ETH (14 R442). -/
def ethRows : List RegRow := [
  stg 0x3400000 [(4, 0x10000)] [rw 31 0 0],                                -- ETH_p_MODE
  regA 0x3400004 [(4, 0x10000)] [ro 7 0],                                  -- ETH_p_STATUS
  stg 0x3400008 [(4, 0x10000)] [rwV 13 0 0 1518 9216],                     -- ETH_p_MAXF
  regA 0x340000C [(4, 0x10000)] [rwO 13 0 0 ((List.range 141).map (fun i => 256 + 64 * i))],  -- ETH_p_THRESH
  stg 0x3400010 [(4, 0x10000), (4, 0x10)] [rw 9 0 0, rwV 20 10 0 0 1024, rw 21 21 0],  -- ETH_p_s_GATE
  stg 0x3400014 [(4, 0x10000), (4, 0x10)] [rw 27 0 0],                     -- ETH_p_s_CYCLE
  stg 0x3400018 [(4, 0x10000), (4, 0x10)] [rw 27 0 0],                     -- ETH_p_s_GOFF
  regA 0x3400050 [(4, 0x10000), (4, 4)] [ro 20 0],                         -- ETH_p_s_MS
  regA 0x3400100 [(4, 0x10000), (4, 0x10), (4, 4)] [rc 15 0, rc 31 16],    -- ETH_p_s_CNT_A to _D
  regA 0x3400200 [(4, 0x10000), (4, 0x10), (4, 4)] [ro 31 0],              -- ETH_p_s_RXF, _TXF
  stg 0x3401000 [(4, 0x10000), (1024, 4)] [rw 7 0 0xFF, rwV 31 8 0 1 16777215],  -- ETH_p_GCL_i
  regA 0x3402000 [(4, 0x10000), (4, 0x200), (128, 4)] [rw 31 0 0]]         -- ETH_p_s_GF_i

/-- TL (14 R443). -/
def tlRows : List RegRow := [
  regA 0x3800000 [(12, 0x10000)] [ro 9 0, ro 23 16],                       -- TL_k_STATUS
  regA 0x3800004 [(12, 0x10000)] [wo 2 0, rwV 4 3 0 0 2, rw 5 5 0, ro 15 8],  -- TL_k_CTRL
  stg 0x3800008 [(12, 0x10000)] [rw 0 0 0, rwV 2 1 0 0 2, rw 8 3 0, rwV 15 9 0 1 64],  -- TL_k_BIND
  regA 0x3800010 [(12, 0x10000)] [ro 31 0],                                -- TL_k_TILE
  regA 0x3800014 [(12, 0x10000), (2, 4)] [ro 19 0],                        -- TL_k_DTX, _DRX
  regA 0x380001C [(12, 0x10000), (2, 4)] [ro 31 0],                        -- TL_k_ID
  regA 0x3800040 [(12, 0x10000), (5, 4)] [ro 28 0],                        -- TL_k_EQ_l
  regA 0x3800080 [(12, 0x10000), (5, 8)] [ro 31 0],                        -- TL_k_PRBS_l_LO
  regA 0x3800084 [(12, 0x10000), (5, 8)] [ro 15 0],                        -- TL_k_PRBS_l_HI
  regA 0x38000C0 [(12, 0x10000)] [rc 15 0, rc 31 16]]                      -- TL_k_CNT

/-- DMC (15 R461). -/
def dmcRows : List RegRow := [
  reg 0x3C00000 [ro 13 0],                                                 -- DMC_STATUS
  stg 0x3C00004 [] [rwV 7 0 0 1 255, rw 8 8 0],                            -- DMC_CFG
  stg 0x3C00010 [(8, 4)] [rw 1 0 0, rwV 17 4 0 10 10000],                  -- DMC_PORT_p
  regA 0x3C00040 [(8, 4)] [rc 15 0, ro 31 16],                             -- DMC_PORT_p_STAT
  regA 0x3C00080 [(4, 4)] [rc 15 0, rc 31 16],                             -- DMC_CH_c_CNT
  regA 0x3C00090 [(4, 4)] [ro 7 0, rc 15 8, ro 31 16],                     -- DMC_CH_c_TRAIN
  reg 0x3C000A0 [rw 3 0 0],                                                -- DMC_ELOG_SEL
  reg 0x3C000A4 [ro 28 0],                                                 -- DMC_ELOG_A
  reg 0x3C000A8 [ro 17 0],                                                 -- DMC_ELOG_B
  regA 0x3C000AC [(3, 4)] [ro 31 0]]                                       -- DMC_ELOG_T, _CNT

/-- The rows of the block an address lies in (R11). -/
def blockRows (a : Nat) : List RegRow :=
  if a < 0x100000 then gctlRows
  else if a < 0x200000 then ckrRows
  else if a < 0x300000 then timeRows
  else if a < 0x400000 then merRows ++ cstRows
  else if a < 0x500000 then pwrRows
  else if a < 0x1000000 then []
  else if a < 0x1400000 then feRows
  else if a < 0x1800000 then bbRows
  else if a < 0x1C00000 then macRows
  else if a < 0x2000000 then []
  else if a < 0x2400000 then nwRows
  else if a < 0x2800000 then pktRows
  else if a < 0x2C00000 then cphRows
  else if a < 0x3000000 then tskRows
  else if a < 0x3400000 then hqRows
  else if a < 0x3800000 then ethRows
  else if a < 0x3C00000 then tlRows
  else if a < 0x4000000 then dmcRows
  else []

/-- Whether an address lies in a register block (R9, R11). Base + 0x0030_0000 up to the end of the FE, BB and MAC blocks is
inside the block by R11's table and lists no register: it reads 0 and ignores writes (R9), under no radio's clock (log 130). -/
def inBlock (a : Nat) : Bool :=
  decide (a < 0x500000) || (decide (0x1000000 ≤ a) && decide (a < 0x1C00000))
    || (decide (0x2000000 ≤ a) && decide (a < 0x4000000))

/-- The row of a register at its active address. -/
def rowAt (a : Nat) : Option RegRow := (blockRows a).find? (·.holds a)

/-- The active address of a staged-window address (05 R132), when one of the block's staged registers has its copy there.
The copies of TL_0_BIND to TL_3_BIND fall on the active offsets of links 8 to 11 (log 8). -/
def activeOf (a : Nat) : Option Nat :=
  if 0x80000 ≤ a && (blockRows a).any (fun r => r.staged && r.holds (a - 0x80000)) then some (a - 0x80000) else none

/-- The word a register holds at reset; an address the chapters do not list reads 0 (R9). -/
def resetWord (a : Nat) : Word := ((rowAt a).map RegRow.resetWord).getD 0#32

end Sys2Proof.Machine
end

