-- ==== Sys2Proof/Config.lean ====
section
/-! DEFINITION. What the spec leaves open, as constants without a body. -/

namespace Sys2Proof

/-- The free values: the n-th value of width w that the spec does not give.
Nothing in Lean can evaluate it; State.fresh counts the values drawn (log 1). DESIGN CHOICE, safe. -/
opaque Config.free : (w : Nat) → Nat → BitVec w

/-- An open result that depends on its operands alone (a precoder coefficient, an equaliser's output):
the same operands give the same value (log 1). DESIGN CHOICE, safe. -/
opaque Config.freeOf : (w : Nat) → List Nat → BitVec w

end Sys2Proof
end

