-- ==== Sys2Proof/Machine/State.lean ====
section
/-! DEFINITION. The machine's state as plain data: every register, table, queue, ring and sequencer of the spec, and
the queue of waiting commands. -/

namespace Sys2Proof.Machine

/-- Why the machine could stop. No meaning raises a fault: a fault of a unit or of the device (01 R27, R28) is an
effect on the state. -/
inductive Fault where
  /-- Raised by nothing; the type needs a name. Safe. -/
  | none
deriving DecidableEq, Repr

/-- Why a command could be refused by the model. -/
inductive Refusal where
  /-- Raised by an arm of exec whose command has no meaning yet. Safe. -/
  | notModelled (mnemonic : String)
deriving DecidableEq, Repr

/-- The completion of a register access (00 R7, 02 R54, 03 R90), and the Retry Status of a configuration request (13
R374). -/
inductive Answer where
  | value (w : Word)
  | done
  | abort
  | accessError
  | absent
  | retry
deriving DecidableEq, Repr

/-- Where a fault containment unit stands (01 R27, 05 R136): in its reset state, configured and waiting for a
Meridian, in service, or returning to its reset state. -/
inductive UnitPhase where
  | reset | joining | service | recovering
deriving DecidableEq, Repr

/-- One containment unit (01 R27, R33, R34, 16 R473). `held` is the instant of the hold on NT and on FR (ns). -/
structure UnitSt where
  phase : UnitPhase := .reset
  held : Option (Option Nat × Nat) := none
  faults : List Nat := []
  refused : Nat := 0
deriving DecidableEq, Repr

/-- Boot controller states (03 R73). -/
inductive BootState where
  | reset | qualify | load | configure | hold | run | recovery
deriving DecidableEq, Repr

/-- What a device in its reset state waits for: RESET_N (R73), PWR_OK (16 R463), the temperature (16 R472), or the
next reset because a strap is reserved (02 R43). -/
inductive ResetWait where
  | resetN | pwrOk | cooldown | strap
deriving DecidableEq, Repr

/-- A record of the running image: type, offset in the image, payload (03 R82). -/
structure Rec where
  type : Nat
  offset : Nat
  payload : List Byte
deriving DecidableEq, Repr

/-- The running image's header fields, DIGEST and firmware (03 R80, R81, R83). -/
structure Image where
  sequence : Nat
  rollback : Nat
  advance : Bool
  keyIndex : Nat
  buildTime : NT64
  digest : List Byte
  fwVersion : Nat
  fwRollback : Nat
  fwDigest : List Byte
deriving DecidableEq, Repr

/-- The result of R85 for a slot. -/
structure SlotStat where
  status : Nat := 0
  valid : Bool := false
  seq : Nat := 0
deriving DecidableEq, Repr

/-- A customer key slot's fuses (03 R89): 256 bits of hash as 32 bytes. -/
structure KeyFuse where
  hash : List Byte := List.replicate 32 0#8
  programmed : Bool := false
  revoked : Bool := false
deriving DecidableEq, Repr

/-- The fuse array (03 R89): hashes and seed of 256 bits as 32 bytes each, 0 at reset (log 3). -/
structure Fuses where
  vendor : List Byte := List.replicate 32 0#8
  slots : List KeyFuse := [{}, {}, {}, {}]
  rollback : Nat := 0
  seed : List Byte := List.replicate 32 0#8
  debugLock : Bool := false
  isZ73 : Bool := false
deriving DecidableEq, Repr

/-- A serialised flash access (03 R79). -/
inductive FlashOp where
  /-- Program a page of an Almanac write, the last one or not. -/
  | program (addr : Nat) (data : List Byte)
  /-- Erase a 64 KB sector. -/
  | erase (sector : Nat)
  /-- Program a fault-log entry: type and payload; retry says the first try failed (R99). -/
  | logEntry (type : Nat) (payload : List Byte) (retry : Bool)
  /-- Erase a sector of the fault-log region. -/
  | logErase (sector : Nat)
  /-- Read pages of the log for LOG_READ. -/
  | logRead (page count : Nat)
  /-- Read a slot for ALM_SLOT_VERIFY. -/
  | verify (slot : Nat)
deriving DecidableEq, Repr

/-- The serial flash: its devices' density (Mbit), the bytes that differ from erased, the pages programmed since their
sector was last erased, the sectors written again without an erase, left by a failed operation or cut by a reset, and the
accesses waiting, the running one first, which started at `since` (elapsed). -/
structure Flash where
  devices : Nat := 0
  density : Nat := 0
  ok : Bool := false
  bytes : List Host.Cell := []
  written : List Nat := []
  spoiled : List Nat := []
  ops : List FlashOp := []
  running : Bool := false
  since : Nat := 0
deriving DecidableEq, Repr

/-- The fault log's pointer (03 R96 to R99), and the FR (ns) of the last tuner-count entries and credits (R98, 05 R149). -/
structure FaultLog where
  found : Bool := false
  ptr : Nat := 0
  seq : Nat := 0
  erasing : Bool := false
  down : Bool := false
  creditStop : Bool := false
  countsFrom : Nat := 0
  creditFrom : Nat := 0
deriving DecidableEq, Repr

/-- Straps, reference, boot controller and image (02 R42 to R47, 03 R70 to R91); the attempt at a device fault's record: the
elapsed count at which it has ended, and its pages (01 R28, 17 R488). -/
structure Boot where
  state : BootState := .reset
  wait : ResetWait := .resetN
  resetN : Bool := false
  pwrOk : Bool := false
  refsel : BitVec 2 := 0
  clkq : BitVec 3 := 0
  bootmode : BitVec 2 := 0
  refReady : Bool := false
  rootReady : Bool := false
  holdFrom : Nat := 0
  almFrom : Nat := 0
  slotA : SlotStat := {}
  slotB : SlotStat := {}
  active : Option Nat := none
  lastStatus : Nat := 0
  flashError : Bool := false
  image : Option Image := none
  records : List Rec := []
  rejected : List Nat := []
  firstBeacon : Option NT64 := none
  almRunning : Option (Nat × Nat) := none
  attempt : Option (Nat × List Nat) := none
deriving DecidableEq, Repr

/-- A window of a frequency counter (02 R61 to R63): the clock and the exponent it started with, the clock's rate then (none:
stopped; some none: not given by the spec; else kHz), whether it has kept that rate, and whether it has run. -/
structure FcWin where
  sel : Nat
  exp : Nat
  rate : Option (Option Nat) := none
  steady : Bool := true
  ran : Bool := false
deriving DecidableEq, Repr

/-- Clock tree (02 R48 to R63): the source of each domain, a switch in progress (its target), what each drain waits
since (elapsed), the windows of the frequency counters (since when, and which), and their counts. -/
structure Clocks where
  onRoot : List Bool := List.replicate 8 false
  switching : Tab Bool := []
  draining : Tab Nat := []
  fcBusy : List Nat := []
  fcFrom : Tab Nat := []
  fcWin : Tab FcWin := []
  fcCount : Tab Nat := []
deriving DecidableEq, Repr

/-- States of NT (04 R115). -/
inductive NtState where
  | notStarted | provisional | locked | holdover
deriving DecidableEq, Repr

/-- States of MT (04 R128). -/
inductive MtState where
  | notStarted | steered | holdover
deriving DecidableEq, Repr

/-- A time source's filter (04 R112): accepted offsets, the run of rejected ones, the run towards a seed (2^-16 ns),
and the FR of the last accepted sample. -/
structure SrcWin where
  window : List Int := []
  rejects : List Int := []
  seedRun : List Int := []
  lastFR : Nat := 0
deriving DecidableEq, Repr

/-- The accumulators of the time bases. NT and MT count 2^-48 ns; a group of three cycles carries a remainder of
thirds (R102). FR counts thirds of a nanosecond. -/
structure Clock48 where
  v : Nat := 0
  rem : Nat := 0
deriving DecidableEq, Repr

/-- Time bases, sources and steps (04). `cand` is a source whose next seed must pass R113 (R114); `stepPending` the
source and boundary of a pending start-up step; `reanchors` the boundary armed per base; `ntReanchorReady` the offset
taken at the arming deadline (2^-16 ns); `mtHoldFrom` the FR at which MT entered holdover; `ppsBase` the last edge of
PPS_OUT that a start or step of NT left behind, `ppsOutSec` the last that rose and `ppsRose` when (elapsed). -/
structure TimeSt where
  nt : Clock48 := {}
  rate : Int := 0
  state : NtState := .notStarted
  mt : Clock48 := {}
  mtRate : Int := 0
  mtState : MtState := .notStarted
  mtFollow : Bool := false
  mtDiff : Int := 0
  mtMeasuredSec : Nat := 0
  mtHoldFrom : Nat := 0
  fr : Nat := 0
  frRuns : Bool := false
  tsfBase : List NT64 := [0, 0, 0]
  tsfSet : Bool := false
  active : Option Nat := none
  ptp : SrcWin := {}
  pps : SrcWin := {}
  gm : BitVec 64 := 0
  cand : Option Nat := none
  lastOffset : Int := 0
  okRun : Nat := 0
  stepPending : Option (Nat × Nat) := none
  reanchors : Tab Nat := []
  ntReanchorReady : Option Int := none
  autoAt : Option Nat := none
  holdFrom : Nat := 0
  commitSeen : Bool := false
  firstWaitFrom : Option Nat := none
  realignEnd : Option Nat := none
  ppsEdge : Option (Nat × Int) := none
  ppsLastFR : Option Nat := none
  ppsInNT : NT64 := 0
  todSec : Option Nat := none
  utc : Nat := 0
  leap : Nat := 0
  ppsBase : Option Nat := none
  ppsOutSec : Option Nat := none
  ppsRose : Nat := 0
  todSentSec : Option Nat := none
  todOut : List Byte := []
deriving DecidableEq, Repr

/-- Commit controller states (05 R143). -/
inductive CommitState where
  | idle | arming | committed | copying
deriving DecidableEq, Repr

/-- Who asked for the commit (05 R134, R144, R147, R148). -/
inductive CommitKind where
  | host | boot | dormantEntry | dormantExit
deriving DecidableEq, Repr

/-- The commit controller (05 R135 to R143). Maps are over the units u of R160; causes hold one code a unit; `told` are the events of failed checks posted since the arming (07 R187).
`target` is at full width in ns (R129). -/
structure CommitSt where
  state : CommitState := .idle
  kind : CommitKind := .host
  target : Nat := 0
  deferrals : Nat := 0
  result : Nat := 0
  dormantResult : Nat := 0
  part : BitVec 27 := 0
  armed : BitVec 27 := 0
  notArmed : BitVec 27 := 0
  excluded : BitVec 27 := 0
  causes : Tab Nat := []
  told : List (Nat × List Byte) := []
  locked : Bool := false
  stageOpen : Bool := true
  newMode : Nat := 0
  newLen : Nat := 0
  last : NT64 := 0
deriving DecidableEq, Repr

/-- The Dormant sequences (05 R147, R148): the step of entry or exit that runs, or Dormant itself. -/
inductive DormantSeq where
  | none | entry (step : Nat) | dormant | rampWait | exit (step : Nat)
deriving DecidableEq, Repr

/-- Dormant (05 R147, R148): the sequence, its boundary, length and mode at entry, a wake held, the last wake cause,
MT at the wake, whether event 0x3012 waits for the event ring, since when (elapsed) the FR bridge counter runs (04 R108),
and the clock enables saved. -/
structure DormantSt where
  seq : DormantSeq := .none
  boundary : Nat := 0
  entryMode : Nat := 7
  entryLen : Nat := 0
  heldWake : Option Nat := none
  lastWake : Nat := 0
  mtAtWake : NT64 := 0
  postLeft : Bool := false
  bridge : Option Nat := none
  clocksSaved : Nat := 0
deriving DecidableEq, Repr

/-- The superframe grid and mode in force (05 R129, R145): PHASE, length code, mode (7 before the first commit), the
start of the present superframe at full width, and what record 0x0301 gave. -/
structure GridSt where
  phase : Nat := 0
  sfLen : Nat := 0
  mode : Nat := 7
  recMode : Nat := 0
  start : Option Nat := none
deriving DecidableEq, Repr

/-- Chain states (06 R167), code 0 to 4. -/
inductive ChainState where
  | off | standby | rx | tx | cal
deriving DecidableEq, Repr

/-- A chain's coefficient (06 R169): 1 for the reference, else words per subcarrier group in a format the spec does not give. -/
inductive Coef where
  | one
  | words (l : List Nat)
deriving DecidableEq, Repr

/-- A chain, by the index of 03 R98 (06 R155 to R170). `serving` after the swap that brought it in; `coef` the
coefficient and `coefAt` its last update (elapsed); `pos` where the tuner stands;
`high` consecutive probes at AUTO_VSWR; `hostPos` a host write of the staged position since the
last swap; `heldPos` an own-accord proposal that waits for the staged bank (R158); `freezeDue` a freeze found at restoration whose event waits for the event ring (R157);
`upNew` no swap has come since its power-up (R156); `calRuns` the last run of each calibration step: when (elapsed) and at what
temperature of its die or tile, in 0.25 °C (R168). -/
structure ChainSt where
  state : ChainState := .off
  before : ChainState := .standby
  powered : Bool := false
  serving : Bool := false
  paOff : Bool := false
  blocked : Bool := false
  clearing : Bool := false
  coef : Coef := .one
  coefAt : Option Nat := none
  pending : Bool := false
  stale : Bool := false
  island : Bool := false
  vswr : Nat := 0
  high : Nat := 0
  pos : Nat := 0
  count : Nat := 0
  credit : Nat := 7500
  proposed : Bool := false
  hostPos : Bool := false
  heldPos : Option Nat := none
  freezeDue : Bool := false
  upNew : Bool := false
  calRuns : Tab (Nat × Int) := []
deriving DecidableEq, Repr

/-- What the idle synthesiser of a die does (06 R163). -/
inductive IdleSyn where
  | relocking | shadow | pretuning | pretuned
deriving DecidableEq, Repr

/-- The two synthesisers of a band die or a tile: which is active, whether it is locked, the idle one, and for
a tile the last lock indication (elapsed; 06 R162 to R164); a switch of roles feeds the chains from `lockFrom` on. -/
structure SynSt where
  active : Nat := 0
  locked : Bool := false
  idle : IdleSyn := .relocking
  lockFrom : Nat := 0
  heard : Nat := 0
deriving DecidableEq, Repr

/-- A calibration step that runs (06 R168): its kind 0 to 5 in table order, its chain c, and its start. -/
structure CalRun where
  kind : Nat
  chain : Nat
  from_ : Nat
deriving DecidableEq, Repr

/-- A launch at the front-end (06 R165): its NT launch time (full width), air time in ns, chains c, its outcome, and what it asks for
as a trigger with random-access RUs. -/
structure Launch where
  of_ : LaunchOf
  t : Nat
  air : Nat
  chains : List Nat
  onAir : Bool := false
  outcome : Option Nat := none
  asks : TriggerAsk := {}
deriving DecidableEq, Repr

/-- Receiver states (07 R190), code 0 to 3. -/
inductive RxState where
  | search | preamble | data | tb
deriving DecidableEq, Repr

/-- The channel estimate of a PPDU (07 R193): the number of the free values measured from its LTFs, the chains that receive, the
streams, and whether neighbouring tones are smoothed. -/
structure RxEstimate where
  id : Nat
  chains : List Nat
  ss : Nat
  smooth : Bool
deriving DecidableEq, Repr

/-- What the joint detector did in an RU of a TB PPDU (07 R194): the streams that count against its degrees of freedom, the receive
chains, the MMSE pass's number, and the users of a pass of successive interference cancellation, strongest first. -/
structure RuDetect where
  ru : Nat
  streams : Nat
  chains : List Nat
  id : Nat
  cancel : List Nat
deriving DecidableEq, Repr

/-- The receiver of a radio (07 R189 to R192): frozen level (dBm) and gains by chain (none in search), L-STF stamp, detection
instant (elapsed), the settings of BB_x_DET latched there, the last return to SEARCH (elapsed), the TB window's PPDU or foreign
window, and its t_e and end (NT). `est` is the estimate of the PPDU in DATA, `joint` what the detector did in the last TB window, by RU; `records` are the metrics records of the reception that ended last, by user (0 outside a TB
window); `ended` is its stamp and the users missing from it. -/
structure RxSt where
  state : RxState := .search
  level : Int := 0
  gains : List Nat := []
  stamp : NT64 := 0
  from_ : Nat := 0
  restartDb : Nat := 0
  captureDb : Nat := 0
  captureEn : Bool := false
  searchFrom : Nat := 0
  window : Option WindowOf := none
  te : Nat := 0
  windowEnd : Nat := 0
  est : Option RxEstimate := none
  joint : List RuDetect := []
  records : Tab (List Byte) := []
  ended : Option (NT64 × List Nat) := none
deriving DecidableEq, Repr

/-- A radio's front-end and baseband (06, 07): reference chain, synthesisers by die (0 the band die, 2 + k the tile of
Tile Link k), probe paths from a chain to a group, what probe i × 64 + j measured, the chains that sent in this round of probes,
the instant of the last end of a launch or window (NT), the calibration step that runs, receive windows, launches, the last
random-access trigger sent, its end (NT) and what it asked for, the receiver, explicit operation, chains added for a staged set, and per superframe counts. -/
structure RadioSt where
  ref : Option Nat := none
  syn : Tab SynSt := []
  paths : List (Nat × Nat) := []
  probes : Tab (List Nat) := []
  probed : List Nat := []
  gapFrom : Nat := 0
  cal : Option CalRun := none
  rxOpen : Bool := false
  launches : List Launch := []
  trigger : Option (Nat × Nat × TriggerAsk) := none
  rx : RxSt := {}
  explicit : Bool := false
  testedAt : Nat := 0
  added : List Nat := []
  misses : Nat := 0
  nullDrops : Nat := 0
deriving DecidableEq, Repr

/-- A channel-state entry (07 R195, R196), by SID × 4 + radio: antennas, presence map, the stamp of each of 16 segments
or none, feedback's segments, the numbers of the free values that stand for each segment's measured channel, of the uplink with the
chains that each covers and of the feedback, and the noise measured last (dBm). -/
structure CsiEntry where
  nAnt : Nat := 0
  presence : Nat := 0
  segs : List (Option Nat) := List.replicate 16 none
  fb : List (Option Nat) := List.replicate 16 none
  value : List (Tab Nat) := List.replicate 16 []
  noise : Int := 0
  fbValue : List Nat := List.replicate 16 0
deriving DecidableEq, Repr

/-- A link of a station (08 R207, R234). -/
structure StaLink where
  radio : Nat
  bss : Nat
  aid : Nat
  addr : Nat
  caps : Nat
  width : Nat
deriving DecidableEq, Repr

/-- A receive agreement (08 R226, R229): buffer size, window start, SNs received within the window, MPDUs held by SN, and since when each hole before them has stood (elapsed), by SN. -/
structure RxBa where
  size : Nat
  start : Nat
  got : List Nat := []
  held : Tab RxMpdu := []
  holes : Tab Nat := []
deriving DecidableEq, Repr

/-- A transmit agreement: buffer size, the next MPDU's window start, and whether a BlockAckReq is due (08 R227, R230). -/
structure TxBa where
  size : Nat
  start : Nat
  barDue : Bool := false
deriving DecidableEq, Repr

/-- An individual TWT agreement (08 R224): requested interval and minimum duration (µs), target wake time (full-width
ns), interval and duration (ns), and whether an unsolicited setup frame is due. -/
structure Twt where
  want : Nat
  minDur : Nat
  target : Nat
  interval : Nat
  dur : Nat
  setupDue : Bool := false
deriving DecidableEq, Repr

/-- A station (08 R207). `deleting` says that a MAC_STA_DEL removes it, `delCmd` which one; `traffic` counts down the superframes of R222; `ul` the access categories reported as buffered;
`uplinkNext` radios where it is placed uplink first in the next plan; `sounding` since when (elapsed) its SOUND_PERIOD runs, by radio, and `soundDue` the radios where a sounding is
due (07 R200). -/
structure Sta where
  addr : Nat
  multi : Bool
  links : List StaLink
  keySlot : Option Nat
  ps : Bool
  awake : Bool := false
  deleting : Bool := false
  delCmd : Option (Nat × Nat) := none
  sn : Tab Nat := []
  txBa : Tab TxBa := []
  rxBa : Tab RxBa := []
  lastRx : Tab (Nat × Nat) := []
  twt : Tab Twt := []
  traffic : Nat := 0
  ul : List Nat := []
  uplinkNext : List Nat := []
  sounding : Tab Nat := []
  soundDue : List Nat := []
deriving DecidableEq, Repr

/-- A frame in a wireless queue (08 R227, R233, 11 R336): queue class, allowed radios, body, launch and air time of one that names its launch, entry instant and lifetime
(elapsed), SN and PN once drawn, the frame whose A-MSDU it joined
(R226), the bytes encrypted into its cells (12 R359), attempts, the last radio and status, and the radio and launch that took it. -/
structure Frame where
  sid : Nat
  bss : Nat
  radios : Nat
  tid : Nat
  kind : Nat
  flags : Nat
  cmd : Option (Nat × Nat)
  body : List Byte
  launch : Nat
  air : Nat := 0
  enq : Nat
  enqNt : Nat := 0
  dram : Nat := 0
  life : Nat
  queue : Nat
  cells : Nat
  tenant : Nat
  src : Nat
  sn : Option Nat := none
  pn : Option Nat := none
  gen : Nat := 0
  joined : Option Nat := none
  sealed : List Byte := []
  attempts : Nat := 0
  lastRadio : Nat := 7
  lastStatus : Nat := 0
  taken : Option (Nat × LaunchOf) := none
deriving DecidableEq, Repr

/-- A Deterministic flow (08 R221), by radio × 64 + index; P and φ in units of 32 µs. -/
structure DetFlow where
  sid : Nat
  tid : Nat
  down : Bool
  period : Nat
  phase : Nat
deriving DecidableEq, Repr

/-- A user of a planned PPDU (08 R216): direction, RU, streams and target received power in dBm (free, R222), the status that
removed it, its frames. -/
structure PlanUser where
  sid : Nat
  down : Bool
  cls : Nat
  ru : Nat
  ss : Nat
  power : Int := 0
  status : Nat := 0
  frames : List Nat := []
deriving DecidableEq, Repr

/-- The precoder of one RU (07 R198): its precoding chain set, its users, and its weights per segment, a function of what it was formed
from. -/
structure RuPrecoder where
  set : List Nat
  sids : List Nat
  weights : List (BitVec 64)
deriving DecidableEq, Repr

/-- A planned PPDU (08 R216): its superframe's start and launch (full-width ns), region kind and class, length in slots,
users, t_e of its TB response and the durations of all three parts (free, R222), the plan it belongs to when two are held, entries fetched, own and foreign, null directions kept and their depth (dB), the power limit per chain (0.25 dBm) its precoder was
scaled to, the precoders of its RUs and their common scale factor, and whether it was cut, used and sent. -/
structure Ppdu where
  radio : Nat
  sf : Nat
  launch : Nat
  kind : Nat
  cls : Nat
  len : Nat
  users : List PlanUser
  te : Nat := 0
  dlDur : Nat := 0
  tbDur : Nat := 0
  baDur : Nat := 0
  staged : Bool := false
  fetched : List Nat := []
  fetchedNulls : List Nat := []
  fetchDone : Bool := false
  nulls : Nat := 0
  nullDepth : Nat := 0
  cap : Int := 0
  precoder : Option Nat := none
  precoders : List RuPrecoder := []
  scale : BitVec 32 := 0
  chains : Option (List Nat) := none
  cut : Bool := false
  used : Bool := false
  sent : Bool := false
deriving DecidableEq, Repr

/-- The MACs (08): stations by SID, frames by order of entry, flows, plans, per radio the superframes with a frozen plan,
the beacons sent in the present superframe and their air times, and its counts of late launches (and the first), timeout releases and
BlockAckReqs. -/
structure MacSt where
  stas : Tab Sta := []
  frames : Tab Frame := []
  nextFrame : Nat := 0
  flows : Tab DetFlow := []
  plan : Tab Ppdu := []
  nextPpdu : Nat := 0
  frozen : Tab Nat := []
  dual : List Nat := []
  beacons : Tab Nat := []
  beaconAir : Tab (List (Nat × Nat)) := []
  late : Tab (Nat × Nat) := []
  reorders : Tab Nat := []
  csi : Tab CsiEntry := []
deriving DecidableEq, Repr

/-- An entry of a schedule digest (09 R251): the sender's radio and channel, its window from S in ns, direction, users as
(SID, RU_SS). -/
structure DigestEntry where
  radio : Nat
  width : Nat
  centre : Nat
  punct : Nat
  start : Nat
  dur : Nat
  up : Bool
  users : List (Nat × Nat)
deriving DecidableEq, Repr

/-- Session states (09 R248), code 0 to 2. -/
inductive CstSession where
  | idle | joining | active
deriving DecidableEq, Repr

/-- What the constellation controller keeps per member (09 R240 to R257): session, its last attempt (elapsed), the last
accepted SEQ, the own HELLO's nonce and ephemeral key, both directions' keys, status and misses, the digest being
received for `partsFor`, the one accepted for it, the one of the present superframe, the stamps of the last message sent and of the last received, the S of
the last digest sent in the session, own transmit and receive stamps of
part 0 by S, alignment samples, and the length commit its latest accepted digest carries. -/
structure CstMember where
  session : CstSession := .idle
  tried : Nat := 0
  lastSeq : Option Nat := none
  nonce : List Byte := []
  eph : List Byte := []
  keyTx : List Byte := []
  keyRx : List Byte := []
  status : Nat := 1
  misses : Nat := 0
  peerHoldover : Bool := false
  partsFor : Nat := 0
  partCount : Nat := 0
  parts : Tab (List DigestEntry) := []
  fault : Option Nat := none
  next : List DigestEntry := []
  now : List DigestEntry := []
  sentAt : Option Nat := none
  heardAt : Option Nat := none
  sentSeq : Option Nat := none
  tx : Tab Nat := []
  rx : Tab Nat := []
  samples : List Int := []
  misaligned : Bool := false
  lenCommit : Option (Nat × Nat) := none
  pendCommit : Option (Nat × Nat) := none
deriving DecidableEq, Repr

/-- A foreign station's entry (09 R258), by member × 2^15 + SID × 4 + radio. -/
structure ForeignEntry where
  csi : CsiEntry
  rssi : Int
  updated : Nat
deriving DecidableEq, Repr

/-- The constellation controller (09): members by index, foreign entries, LEFT, the last result and rejection, members
already reported in the superframe, refusals per radio, the superframe a digest was sent and decided for, join time-outs, and the start of the HOLDOVER that ended
participation. -/
structure CstSt where
  members : Tab CstMember := []
  foreign : Tab ForeignEntry := []
  left : Bool := false
  result : Nat := 0
  lastReject : Nat := 0
  reported : List Nat := []
  refusals : Tab Nat := []
  sentFor : Nat := 0
  decidedFor : Nat := 0
  joinTimeouts : Nat := 0
  keepFor : Option Nat := none
deriving DecidableEq, Repr

/-- A frame waiting at a source FIFO of the packet path (11 R301): bytes from DA to the end of the payload, the UP key, the
tenant and station where the source gives them, and its receive stamp. -/
structure SrcFrame where
  bytes : List Byte
  up : Nat := 0
  tenant : Option Nat := none
  sid : Option Nat := none
  bss : Option Nat := none
  noLlc : Bool := false
  stamp : NT64 := 0
deriving DecidableEq, Repr

/-- Island states (10 R267), code 0 to 3. -/
inductive MeshState where
  | reset | alone | bridged | recovering
deriving DecidableEq, Repr

/-- Mesh receiver states (10 R274), code 0 to 3. -/
inductive MeshRx where
  | search | preamble | header | payload
deriving DecidableEq, Repr

/-- An accepted frame in the UP queue (10 R269, R270). -/
structure MeshUp where
  src : Nat
  stamp : Nat
  rssi : Nat
  info : Nat
  payload : List Byte
  mtUs : Nat
deriving DecidableEq, Repr

/-- What the island takes from a leaf's frame (10 R282): RHO in ppm, WUR, LISTEN_EXP, AGE, the SFD stamp (MT ns). -/
structure LeafInfo where
  rho : Nat
  wur : Bool
  listenExp : Nat
  age : Nat
  sfd : Nat
deriving DecidableEq, Repr

/-- A frame in the DOWN queue (10 R282 to R284, R294): lifetime from its entry (elapsed), its FC and STAMP once sent,
attempts, last obstacle, BSN of the last attempt, the slot (its start, MT ns) it was last sent in, when its node was woken (end of
the signal, MT ns), and how often a transmission of it fell into a realignment interval and completed LATE (R286). -/
structure MeshDown where
  dst : Nat
  payload : List Byte
  key : Nat
  ackReq : Bool
  wake : Bool
  enq : Nat
  lifeMs : Nat
  cmd : Option (Nat × Nat)
  leaf : Option LeafInfo := none
  fc : Option Nat := none
  stamp : Nat := 0
  attempts : Nat := 0
  obstacle : Nat := 0x54
  bsn : Nat := 0
  lastSlot : Option Nat := none
  woken : Option Nat := none
  late : Nat := 0
deriving DecidableEq, Repr

/-- A replay-cache entry (10 R278): expiry in MT ms. -/
structure ReplayEntry where
  src : Nat
  fc : Nat
  expiry : Nat
deriving DecidableEq, Repr

/-- A router neighbour (10 R284), by address: its last error (µs) and when (MT ns), the drift as Δe / Δt once LEARNED,
and its last frame (elapsed). -/
structure Router where
  err : Int
  at_ : Nat
  drift : Option (Int × Nat) := none
  heard : Nat
deriving DecidableEq, Repr

/-- A reply window (10 R282): node, when the next frame of it starts (MT ns), the FC to acknowledge until the ACK went, and
the frames it has sent. -/
structure MeshReply where
  node : Nat
  at_ : Nat
  ack : Option Nat
  sent : List Nat := []
deriving DecidableEq, Repr

/-- What the transmitter sends. -/
inductive MeshWhat where
  | beacon | ack (node : Nat) | data (id : Nat) | wake (wua cmd : Nat)
deriving DecidableEq, Repr

/-- A transmission in progress: its end (MT ns) and start (elapsed), and whether it belongs to a reply window. -/
structure MeshTx where
  what : MeshWhat
  endAt : Nat
  from_ : Nat
  reply : Bool
deriving DecidableEq, Repr

/-- A summary of a topic (10 R270). -/
structure Summary where
  count : Nat
  bytes : Nat
  first : NT64
  last : NT64
  minV : Nat
  maxV : Nat
deriving DecidableEq, Repr

/-- The mesh island (10). Times are MT in ns unless said otherwise; `next` the next mesh superframe start, `sf` the
present one; `n`, `slot`, `map` what the island applies, `change` a pending change point; `ledger` charges in 10 µs units
by sub-band × 2^40 + bucket, `ledgerFrom` the bucket of the last restart; `posted` events already posted in the mesh
superframe; `gap` no frame until the next superframe after a re-anchor; `searchFrom` the last return of the receiver to
SEARCH (elapsed); `mainRx` whether the present slot's kind keeps the main receivers on under RX_SAVE (R288). -/
structure MeshSt where
  state : MeshState := .reset
  rx : MeshRx := .search
  rxLevel : Int := 0
  rxFrom : Nat := 0
  searchFrom : Nat := 0
  rssi : Int := 0
  sfd : Nat := 0
  anchor : Nat := 0
  bsn : Nat := 0
  started : Bool := false
  sf : Nat := 0
  next : Nat := 0
  n : Nat := 1
  sfNs : Nat := 102400000
  slot : Nat := 0
  map : List (Nat × Nat × Nat) := []
  change : Bool := false
  gap : Bool := false
  floor : Nat := 0
  epoch : BitVec 64 := 0
  epochNext : Option (BitVec 64 × Nat) := none
  fc : Nat := 0
  keys : Tab (List Byte) := []
  up : List MeshUp := []
  upFullPosted : Bool := false
  down : Tab MeshDown := []
  nextDown : Nat := 0
  inbox : List (List Byte) := []
  replay : List ReplayEntry := []
  routers : Tab Router := []
  summaries : Tab Summary := []
  ledger : Tab Nat := []
  ledgerFrom : Nat := 0
  posted : List Nat := []
  replies : List MeshReply := []
  tx : Option MeshTx := none
  wakes : List (Nat × Nat × Option (Nat × Nat)) := []
  beaconSent : Bool := false
  slotFirst : Bool := true
  mainRx : Bool := true
  wuOpen : Option Nat := none
deriving DecidableEq, Repr

/-- A route (11 R318). -/
structure PktRoute where
  base : Nat
  count : Nat
deriving DecidableEq, Repr

/-- A next hop (11 R319): TYPE, SUB_PORT or CPU_QUEUE, SID or TUNNEL. -/
structure NextHop where
  type : Nat
  sub : Nat
  ref : Nat
  da : List Byte
  sa : List Byte
  mtu : Nat
deriving DecidableEq, Repr

/-- A forwarding entry (11 R321): origin 0 static, 1 station, 2 learned; `seen` the last frame with its SA (elapsed). -/
structure FdbEntry where
  type : Nat
  sub : Nat := 0
  sid : Nat := 0
  tunnel : Nat := 0xFFFF
  origin : Nat := 0
  seen : Nat := 0
deriving DecidableEq, Repr

/-- A flow entry (11 R311, R342): its rule, AGE, and its last hit (elapsed). -/
structure FlowEntry where
  rule : Nat
  aged : Bool
  seen : Nat
deriving DecidableEq, Repr

/-- A range comparator (11 R314). -/
structure RangeCmp where
  field : Nat
  low : Nat
  high : Nat
deriving DecidableEq, Repr

/-- Parameters of a policer (11 R327, R342). -/
structure Policer where
  mode : Nat := 0
  yellow : Nat := 0
  cir : Nat := 0
  pir : Nat := 0
  cbs : Nat := 1600
  ebs : Nat := 1600
  dscp : Nat := 0
deriving DecidableEq, Repr

/-- The buckets of a policer (11 R328), in 1 / (4.8 × 10^12) B: tokens, the instant they were brought up to, and how far
the fill has strayed within its tolerance. -/
structure Bucket where
  c : Int
  e : Int
  at_ : Nat
  dev : Int := 0
deriving DecidableEq, Repr

/-- The values of a watch slot over a superframe (11 R340). -/
structure Watch where
  start : Nat := 0
  queue : Nat := 0
  maxDepth : Nat := 0
  maxSoj : Nat := 0
  frames : Nat := 0
  bytes : Nat := 0
  drops : Nat := 0
deriving DecidableEq, Repr

/-- A watch slot: running values, readable values, and whether its queue changed in this superframe. -/
structure WatchSlot where
  now : Watch := {}
  last : Watch := {}
  restart : Bool := false
deriving DecidableEq, Repr

/-- A shaper's credit (11 R335), in 1 / (4.8 × 10^6) B, and the instant it was brought up to. -/
structure Shape where
  credit : Int
  at_ : Nat
deriving DecidableEq, Repr

/-- A frame in a pipeline after classification (11 R302 to R316): its source, tenant, bytes after decapsulation and tag
removal, UP of the key, the action block of its rule, and what the source gave. -/
structure PktCtx where
  src : Nat
  tenant : Nat
  bytes : List Byte
  up : Nat
  act : List Byte
  bss : Option Nat
deriving DecidableEq, Repr

/-- The packet path (11). Rules and tunnels hold their entries' bytes; routes by
((tenant × 2 + IPv6) × 256 + length) × 2^128 + prefix; forwarding entries by tenant × 2^48 + address; flows by the value of their
40-byte key; `lpm` the frame of a source that waits for the DRAM part of its lookup; learning refusals by tenant and buffer
drops (0 SRAM, 1 DRAM) of the superframe; `piped` when each pipeline last took a frame (elapsed). -/
structure PktSt where
  rules : Tab (List Byte) := []
  hits : Tab Nat := []
  routes : Tab PktRoute := []
  nextHops : Tab NextHop := []
  fdb : Tab FdbEntry := []
  flows : Tab FlowEntry := []
  ranges : Tab RangeCmp := []
  tunnels : Tab (List Byte) := []
  policers : Tab Policer := []
  policersStaged : Tab Policer := []
  buckets : Tab Bucket := []
  shapes : Tab Shape := []
  watches : Tab WatchSlot := []
  lpm : Tab PktCtx := []
  learnFail : Tab Nat := []
  exhausted : Tab Nat := []
  captured : Nat × Nat × Nat := (0, 0, 0)
  piped : Tab Nat := []
deriving DecidableEq, Repr
/-- A frame in a wired queue (11 R336): body from DA to the end of the payload, tenant, entry instant (elapsed and NT in
ns), cells, source FIFO, the DRAM channels its cells lie on (0: SRAM); for a constellation datagram the member and the S
of its part 0. -/
structure WireFrame where
  body : List Byte
  tenant : Nat
  enq : Nat
  enqNt : Nat := 0
  cells : Nat
  src : Nat
  dram : Nat := 0
  cst : Option (Nat × Option Nat) := none
deriving DecidableEq, Repr

/-- A frame in transmission on a sub-port (14 R420, R421): until when (elapsed), and whether it was ended early. -/
structure EthTx where
  frame : WireFrame
  from_ : Nat
  endAt : Nat
  cut : Bool := false
deriving DecidableEq, Repr

/-- The ports (14): speed code of each sub-port whose link is up (1 1G, 2 2.5G, 3 5G, 4 10G, 5 25G, 6 50G, 7 100G), frames
in transmission, transmit key slots and receive SAs (slot, SCI) by sub-port × 16 + index, gate-oversize drops of the superframe. -/
structure EthSt where
  links : Tab Nat := []
  tx : Tab EthTx := []
  txSa : Tab Nat := []
  rxSa : Tab (Nat × Nat) := []
  gateOver : Tab Nat := []
deriving DecidableEq, Repr

/-- Tile Link states (14 R436), code 0 to 4. -/
inductive TileState where
  | down | training | up | test | recovering
deriving DecidableEq, Repr

/-- A downstream message that waits for its ACK (14 R433): TYPE, payload, the sendings made, and the last
(elapsed); a TX_MASK names its launch and its time (NT in ns). -/
structure TileMsg where
  type : Nat
  payload : List Byte
  sent : Nat
  at_ : Nat
  mask : Option (LaunchOf × Nat) := none
deriving DecidableEq, Repr

/-- A Tile Link (14 R428 to R437): `step` runs in an attempt that began at `from_`; what TS2 told;
lock, pre-tune and trip bits last seen and when; CRC failures of control messages (elapsed); BLOCK_LOCK; equaliser words;
messages without ACK, oldest first; masks acknowledged by launch and launch time, and error counters of PRBS lanes. -/
structure TileSt where
  state : TileState := .down
  cause : Nat := 0
  result : Nat := 0
  attempts : Nat := 0
  step : Nat := 0
  from_ : Nat := 0
  blockLock : Nat := 0
  lock : Option Nat := none
  pretuned : Bool := false
  tripPending : Bool := false
  counts : Nat := 0
  profile : Nat := 0
  dtx : Nat := 0
  drx : Nat := 0
  id : List Byte := []
  eq : List Nat := []
  crcAt : List Nat := []
  msgs : List TileMsg := []
  masks : List (LaunchOf × Nat) := []
  status : Nat := 0
  frame0 : Nat := 0
  rx : List Byte := []
  inMsg : Bool := false
  prbs : List Nat := []
deriving DecidableEq, Repr
/-- A generation of a key slot (12 R352, R353, R366): the key block, its GEN, suite, next transmit counter, receive
counters of TIDs 0 to 7 and of the rest, the marks of R357, and when it became current (elapsed). -/
structure KeyGen where
  gen : Nat
  suite : Nat
  key : List Byte
  salt : List Byte
  ssci : Nat
  keyId : Nat
  tx : Nat
  rx : List Nat
  warned : Bool := false
  locked : Bool := false
  since : Nat := 0
deriving DecidableEq, Repr

/-- A write or erase that waits for a slot (12 R353, R354): its function and tag, suite and block, or none to erase. -/
structure KeyWait where
  fn : Nat
  tag : Nat
  suite : Nat
  block : Option (List Byte)
deriving DecidableEq, Repr

/-- A key slot (12 R352 to R354); `eraseAt` is when the erase that runs was admitted (elapsed). -/
structure KeySlot where
  gen : Nat := 0
  cur : Option KeyGen := none
  ret : Option KeyGen := none
  erasing : Option (Nat × Nat) := none
  eraseAt : Nat := 0
  waiting : List KeyWait := []
deriving DecidableEq, Repr

/-- An operation admitted in the engine (12 R349, R352): its slot and generation, and for a service operation its
command and result (a destination's bytes, or none where the tag failed) with the counter used; `frame` is the frame it encrypts. -/
structure CphOp where
  slot : Nat
  gen : Nat
  service : Option (Nat × Nat) := none
  dst : Nat := 0
  out : Option (List Byte) := none
  counter : Nat := 0
  frame : Option Nat := none
deriving DecidableEq, Repr

/-- The cipher engine (12): slots, operations in flight, and per page the superframe's replays and tag failures. -/
structure CipherSt where
  slots : Tab KeySlot := []
  ops : Tab CphOp := []
  nextOp : Nat := 0
  replays : Tab Nat := []
  tagFails : Tab Nat := []
deriving DecidableEq, Repr

/-- Where a command in flight stands (13 R381): fetched and not yet admitted, taken by its unit, waiting for host
memory, or completed and not yet consumed. -/
inductive CmdStage where
  | fetched | admitted | completed
deriving DecidableEq, Repr

/-- A command in flight (13 R379, R381). `medium` says that its work reached the air (0), a wire (1) or the flash (2);
`unit` is the key of the containment unit that took it, `cqe` the CQ index of its
completion and `doneAt` the cycle that posted it (01 R29). -/
structure Cmd where
  fn : Nat
  sq : Nat
  tag : Nat
  opcode : Nat
  fence : Bool
  irq : Bool
  desc : List Byte
  stage : CmdStage := .fetched
  medium : Option Nat := none
  cq : Nat := 0
  dup : Bool := false
  unit : Option Nat := none
  cqe : Option Nat := none
  doneAt : Option Nat := none
deriving DecidableEq, Repr

/-- A completion entry as written (13 R383). -/
structure Cqe where
  tag : Nat
  status : Nat
  dup : Bool
  phase : Bool
  result : Nat
  sqHead : Nat
  sq : Nat
  time : Nat
deriving DecidableEq, Repr, Inhabited

/-- An event (13 R389): code, sequence number, NT64, payload. -/
structure Event where
  code : Nat
  seq : Nat
  time : NT64
  payload : List Byte
deriving DecidableEq, Repr

/-- An event ring entry as written (13 R389): the first entry (number 0) or a continuation. -/
structure EvEntry where
  event : Event
  number : Nat
  phase : Bool
deriving DecidableEq, Repr

/-- A receive descriptor as written (13 R385): buffer ID, bytes written, SOP and EOP, source, index, bytes 8 to 31. -/
structure RxDesc where
  bufId : Nat
  bufLen : Nat
  sop : Bool
  eop : Bool
  src : Nat
  index : Nat
  rest : List Byte
  phase : Bool
deriving DecidableEq, Repr

/-- A ring the Z7 writes (13 R377, R388): next index, entries not consumed, phase, entries not yet signalled and since when. -/
structure RingSt where
  tail : Nat := 0
  used : Nat := 0
  phase : Bool := true
  fresh : Nat := 0
  since : Nat := 0
deriving DecidableEq, Repr

/-- An event ring's own state (13 R391): next SEQ, and events lost since the last housekeeping event. -/
structure EvSt where
  seq : Nat := 0
  lost : Nat := 0
deriving DecidableEq, Repr

/-- An Eclipse that runs (13 R392): the issuing function and tag, or none for a register Eclipse; what was discarded
and the tags that had reached a medium. -/
structure Eclipse where
  issuer : Option (Nat × Nat)
  discarded : Nat
  tags : List (Nat × Nat × Nat)
  flr : Bool := false
deriving DecidableEq, Repr

/-- The host interface (13 R372 to R396). Rings are keyed by function × 64 + kind × 16 + n, kind 0 CQ, 1 RQ, 2 event
ring; their entries by ring × 4096 + index, as posted, beside the bytes of host memory that hold them; receive buffers by
ring: (buffer ID, address) still available. `msixTab` is BAR2's vector table by function × 65,536 + offset, `msixPend` its
pending bits, `msix` the vectors sent (R375, R388); `d3` the functions in D3hot (R372). -/
structure HostSt where
  linkUp : Bool := false
  speed : Nat := 0
  width : Nat := 0
  vfEn : Nat := 0
  cmds : List Cmd := []
  rings : Tab RingSt := []
  ev : Tab EvSt := []
  cqes : Tab Cqe := []
  evs : Tab EvEntry := []
  rxds : Tab RxDesc := []
  buffers : Tab (List (Nat × NT64)) := []
  bqTail : Tab Nat := []
  faulted : List Nat := []
  eclipses : Tab Eclipse := []
  mem : Tab Byte := []
  rrFn : Nat := 0
  rrSq : Tab (Nat × Nat) := []
  msix : List (Nat × Nat) := []
  msixTab : Tab Word := []
  msixPend : List (Nat × Nat) := []
  d3 : List Nat := []
  truncs : Tab Nat := []
deriving DecidableEq, Repr

/-- A work item (13 R397): the layout of a MAC frame (R235) is its own bytes 8 to 31, when it has one. -/
structure Item where
  queue : Nat
  prio : Nat
  tenant : Nat
  atomic : Bool
  ctx : Nat
  source : Nat
  reason : Nat
  payload : List Byte
  gen : Nat
  order : Nat
  enqAt : Nat
  enqNt : NT64
  mac : Option (List Byte) := none
  holder : Option (Nat × Nat) := none
deriving DecidableEq, Repr

/-- Statistics of an input queue within a superframe (13 R406). -/
structure QStat where
  maxDepth : Nat := 0
  maxWait : Nat := 0
  nIn : Nat := 0
  nOut : Nat := 0
  nDrop : Nat := 0
deriving DecidableEq, Repr

/-- Statistics of a consumer within a superframe (13 R406): delivered, largest contexts held, time idle with credit,
and since when it has been so. -/
structure CStat where
  deliv : Nat := 0
  heldMax : Nat := 0
  idle : Nat := 0
  idleFrom : Option Nat := none
deriving DecidableEq, Repr

/-- Credits of a consumer (13 R404, R405): pending, and the instant its lapse counts from. -/
structure Credit where
  pending : Nat := 0
  since : Nat := 0
deriving DecidableEq, Repr

/-- The task scheduler (13 R397 to R406): items by pool index, generations by pool index, credits by consumer,
statistics running and readable, drops of the superframe already reported per queue (max wait, full). -/
structure TaskSt where
  items : Tab Item := []
  gens : Tab Nat := []
  nextOrder : Nat := 0
  credits : Tab Credit := []
  qNow : Tab QStat := []
  qLast : Tab QStat := []
  cNow : Tab CStat := []
  cLast : Tab CStat := []
  statFrom : Nat := 0
  dropsWait : Tab Nat := []
  dropsFull : Tab Nat := []
deriving DecidableEq, Repr

/-- A DRAM request (15 R448 to R451): port, granule, bank and row, write or read, whole granule; its entry (elapsed) and
order; `sent` once its column command was issued; the bytes it writes from offset `off` on, or those a read that was sent
returns. -/
structure DramReq where
  port : Nat
  granule : Nat
  bank : Nat
  row : Nat
  write : Bool
  whole : Bool
  enq : Nat
  order : Nat
  sent : Bool := false
  off : Nat := 0
  data : List Byte := []
deriving DecidableEq, Repr

/-- The answer to a port's request (15 R456, R457): its granule, status 0x00, 0x7C or 0x7D, and what a read returns. -/
structure DramResp where
  granule : Nat
  status : Nat
  data : List Byte
deriving DecidableEq, Repr

/-- A log entry of an uncorrectable error (15 R456, R461). -/
structure DramErr where
  channel : Nat
  rank : Nat
  subch : Nat
  bank : Nat
  row : Nat
  port : Nat
  column : Nat
  symbols : Nat
  time : NT64
deriving DecidableEq, Repr

/-- A channel (15 R450 to R457): queue, open rows by bank, consecutive hits by bank (Z5 ordering), a pause that runs since
(elapsed), and when the next is due; extra centrings still owed; retraining after a fault. -/
structure DramCh where
  trained : Bool := false
  selfRefresh : Bool := false
  retraining : Bool := false
  queue : List DramReq := []
  rows : Tab Nat := []
  hits : Tab Nat := []
  pause : Option Nat := none
  checkAt : Nat := 0
  extra : Nat := 0
  drift : Int := 0
  pauseMax : Nat := 0
deriving DecidableEq, Repr

/-- The DRAM controller (15): channels, requests that wait at their ports by channel × 8 + port, the rate, the log (newest
first), longest latencies and overdue counts of the superframe by port; the granules written since training `gen`, 64 bytes
each, and the last answer of each port. -/
structure DramSt where
  chans : Tab DramCh := []
  waiting : Tab (List DramReq) := []
  nextOrder : Nat := 0
  slow : Bool := false
  log : List DramErr := []
  written : Nat := 0
  latNow : Tab Nat := []
  latLast : Tab Nat := []
  overdue : Tab Nat := []
  granules : Tab (List Byte) := []
  gen : Nat := 0
  resp : Tab DramResp := []
deriving DecidableEq, Repr
/-- An item the ledger admitted (16 R466): its code (domain, or 32 + chain index), the admission and the end of its
ramp in 10 ns ticks. -/
structure Admitted where
  item : Nat
  at_ : Nat
  upAt : Nat
deriving DecidableEq, Repr

/-- Power, temperature and the ledger (16 R464 to R472). `backoff`: since the last superframe start every chain transmits
3 dB below its limits (R471). Limits are (STEP_MAX, SLEW_MAX) in 0.1 A and 0.01 A/µs. -/
structure PowerSt where
  boardRecord : Bool := false
  dormantReq : Bool := false
  up : BitVec 25 := 0
  queue : List Nat := []
  headSince : Nat := 0
  headPosted : Bool := false
  ramping : List Admitted := []
  charging : List Admitted := []
  downing : Tab Nat := []
  limits : Tab (Nat × Nat) := []
  estimates : Tab Nat := []
  peaks : Tab Nat := []
  currents : Tab Nat := []
  mw : Nat := 0
  samples : List Nat := []
  temps : List Int := []
  tj : Int := 0
  sensor : Nat := 0
  powerLevel : Nat := 0
  thermalLevel : Nat := 0
  powerHolds : Bool := false
  powerFrom : Nat := 0
  thermalHolds : Bool := false
  thermalFrom : Nat := 0
  level3From : Option Nat := none
  ceilingPosted : Bool := false
  backoff : Bool := false
  railRamp : Nat := 0
  rampFrom : Nat := 0
  tripThrottle : Nat := 105
deriving DecidableEq, Repr

/-- The machine's state. `pending` is the queue of waiting commands, first in, first out. `elapsed` counts idle steps
of 5/3 ns (log 2), `fresh` the free values drawn (log 1); both are the model's own. `rejects` counts, by the subject nibble of
the block that made the check, the rejections for which no register counts (01 R39, log 141). -/
structure State where
  pending : List Instr := []
  elapsed : Nat := 0
  fresh : Nat := 0
  answer : Option Answer := none
  regs : Tab Word := []
  staged : Tab Word := []
  caps : Tab Word := []
  sels : Tab Word := []
  units : Tab UnitSt := []
  rejects : Tab Nat := []
  fuses : Fuses := {}
  flash : Flash := {}
  log : FaultLog := {}
  boot : Boot := {}
  clocks : Clocks := {}
  time : TimeSt := {}
  grid : GridSt := {}
  commit : CommitSt := {}
  dormant : DormantSt := {}
  host : HostSt := {}
  tasks : TaskSt := {}
  power : PowerSt := {}
  radios : Tab RadioSt := []
  chains : Tab ChainSt := []
  mac : MacSt := {}
  cipher : CipherSt := {}
  cst : CstSt := {}
  wired : Tab (List WireFrame) := []
  mesh : MeshSt := {}
  fifos : Tab (List SrcFrame) := []
  overflows : Tab Nat := []
  pkt : PktSt := {}
  eth : EthSt := {}
  tiles : Tab TileSt := []
  dram : DramSt := {}
deriving DecidableEq, Repr

/-- The machine right after reset: RESET_N low, nothing sampled, every field at the value the spec gives or the log
names (log 3, 4, 5, 6). -/
def State.reset : State := {}

end Sys2Proof.Machine
end

