-- ==== Sys2Proof/Machine/Ops.lean ====
section
/-! DEFINITION. Named operations over registers, time, free values, units and events, on which every meaning is built
(00 R7 to R16, 01 R27 to R34, 04 R102, 13 R376 to R391). -/

namespace Sys2Proof.Machine

/-- A field of a register: address and bits. -/
structure FieldRef where
  a : Nat
  hi : Nat
  lo : Nat
deriving DecidableEq, Repr

/-- The word the register file holds at an active address. -/
def State.reg (s : State) (a : Nat) : Word := (Tab.get? s.regs a).getD (resetWord a)

/-- Set a register word; a word at its reset value is not listed. -/
def State.setReg (s : State) (a : Nat) (w : Word) : State :=
  { s with regs := if w = resetWord a then Tab.del s.regs a else Tab.put s.regs a w }

/-- The staged word of an active address (05 R132). -/
def State.sreg (s : State) (a : Nat) : Word := (Tab.get? s.staged a).getD (resetWord a)

/-- Set a staged word. -/
def State.setSreg (s : State) (a : Nat) (w : Word) : State :=
  { s with staged := if w = resetWord a then Tab.del s.staged a else Tab.put s.staged a w }

/-- A field's value. -/
def State.get (s : State) (f : FieldRef) : Nat := bitsOf (s.reg f.a).toNat f.hi f.lo

/-- A field's staged value. -/
def State.sget (s : State) (f : FieldRef) : Nat := bitsOf (s.sreg f.a).toNat f.hi f.lo

/-- Set a field. -/
def State.put (s : State) (f : FieldRef) (v : Nat) : State := s.setReg f.a (setBits (s.reg f.a) f.hi f.lo v)

/-- Set a staged field. -/
def State.sput (s : State) (f : FieldRef) (v : Nat) : State := s.setSreg f.a (setBits (s.sreg f.a) f.hi f.lo v)

/-- A one-bit field as a Bool. -/
def State.flag (s : State) (f : FieldRef) : Bool := s.get f != 0

/-- Draw a free value of width w (log 1). -/
def State.draw (s : State) (w : Nat) : BitVec w × State := (Config.free w s.fresh, { s with fresh := s.fresh + 1 })

/-- Count one event in an RC field (00 R8). What a counter does beyond its width is not stated: a free value then. -/
def State.inc (s : State) (f : FieldRef) : State :=
  if s.get f + 1 < 2 ^ (f.hi + 1 - f.lo) then s.put f (s.get f + 1)
  else let d := s.draw 32; d.2.put f d.1.toNat

/-- Count n events. -/
def State.incBy (s : State) (f : FieldRef) (n : Nat) : State :=
  if s.get f + n < 2 ^ (f.hi + 1 - f.lo) then s.put f (s.get f + n)
  else let d := s.draw 32; d.2.put f d.1.toNat

/-- Count one event in a saturating field. -/
def State.incSat (s : State) (f : FieldRef) : State :=
  s.put f (Nat.min (s.get f + 1) (2 ^ (f.hi + 1 - f.lo) - 1))

/-- A 64-bit counter held in the words at a and a + 4 (00 R10). -/
def State.get64 (s : State) (a : Nat) : Nat := (s.reg a).toNat + 2 ^ 32 * (s.reg (a + 4)).toNat

/-- Set a 64-bit value in the words at a and a + 4. -/
def State.put64 (s : State) (a v : Nat) : State :=
  (s.setReg a (BitVec.ofNat 32 v)).setReg (a + 4) (BitVec.ofNat 32 (v / 2 ^ 32))

/-- Count one in a 64-bit counter. -/
def State.inc64 (s : State) (a : Nat) : State := s.put64 a (s.get64 a + 1)

/-! ## Time -/

/-- Idle steps of 5/3 ns in n µs. -/
def us (n : Nat) : Nat := 600 * n
/-- Idle steps in n ms. -/
def ms (n : Nat) : Nat := 600000 * n

/-- NT in whole nanoseconds at full width (05 R129): seconds × 10^9 + nanoseconds. -/
def State.ntNs (s : State) : Nat := s.time.nt.v / 2 ^ 48

/-- NT64 (00 R13). -/
def State.nt64 (s : State) : NT64 := BitVec.ofNat 64 s.ntNs

/-- The full-width instant of an NT64 near now: of those 2^64 ns apart, the one R14's comparison with NT takes it for. -/
def State.fullTime (s : State) (a : Nat) : Nat :=
  let n := s.nt64.toNat
  let d := (a + 2 ^ 64 - n) % 2 ^ 64
  if d < 2 ^ 63 then s.ntNs + d else s.ntNs - (2 ^ 64 - d)

/-- NT in 2^-16 ns: the visible fraction (04 R102). -/
def State.nt16 (s : State) : Nat := s.time.nt.v / 2 ^ 32

/-- NT is valid in every state but NOT_STARTED (04 R115), and only while domain 4 runs from ROOT (02 R50). -/
def State.ntValid (s : State) : Bool := s.time.state != .notStarted && s.clocks.onRoot.getD 4 false

/-- NT64 as completions and records carry it: 0 while NT is not valid. -/
def State.stamp (s : State) : NT64 := if s.ntValid then s.nt64 else 0

/-- FR in nanoseconds (04 R108); while Dormant holds it, its value at entry plus what the bridge counter has measured, the
ledger time of the island (10 R290). -/
def State.frNs (s : State) : Nat :=
  (s.time.fr + (match s.dormant.bridge with | some t => 5 * (s.elapsed - t) | none => 0)) / 3

/-- MT in whole nanoseconds. -/
def State.mtNs (s : State) : Nat := s.time.mt.v / 2 ^ 48

/-- MT as an NT64 value. -/
def State.mt64 (s : State) : NT64 := BitVec.ofNat 64 s.mtNs

/-- A count of 2^-48 ns for a count of whole nanoseconds. -/
def nsTo48 (n : Nat) : Nat := n * 2 ^ 48

/-- One domain-4 cycle of an accumulator (04 R102): a group of three cycles adds 5 ns × (1 + RATE × 2^-32) exactly. -/
def Clock48.tick (c : Clock48) (rate : Int) : Clock48 :=
  let g := (5 * 2 ^ 16 * (2 ^ 32 + rate)).toNat + c.rem
  { v := (c.v + g / 3) % (2 ^ 48 * 1000000000 * 2 ^ 48), rem := g % 3 }

/-- One idle step: 5/3 ns of every base that runs (02 R50, 04 R102, R105, R108; log 2). -/
def State.tick (s : State) : State :=
  let onRoot := s.clocks.onRoot.getD 4 false
  let t := s.time
  let nt := if onRoot && t.state != .notStarted then t.nt.tick t.rate else t.nt
  let mt := if s.boot.refReady && t.mtState != .notStarted then t.mt.tick t.mtRate else t.mt
  let fr := if onRoot && t.frRuns then t.fr + 5 else t.fr
  { s with elapsed := s.elapsed + 1, time := { t with nt := nt, mt := mt, fr := fr } }

/-- An NT64 launch or start time at admission (04 R123): none when accepted, else LATE, RANGE or TIME_NOT_VALID. -/
def State.checkLaunch (s : State) (a : Nat) : Option Nat :=
  let n := s.nt64.toNat
  let d := (a + 2 ^ 64 - n) % 2 ^ 64
  if !s.ntValid then some 0x1C
  else if d ≤ 2 ^ 34 then none
  else if d ≥ 2 ^ 64 - 2 ^ 34 then some 0x04
  else some 0x02

/-! ## Grid -/

/-- Superframe length in ns of a code (05 R129). -/
def sfLenNs (code : Nat) : Nat := 25600000 * 2 ^ (code % 4)

/-- Length in force. -/
def State.sfNs (s : State) : Nat := sfLenNs s.grid.sfLen

/-- Whether a full-width instant is a grid point of a length (05 R129). -/
def State.isGrid (s : State) (len n : Nat) : Bool := ((n : Int) - s.grid.phase) % len == 0

/-- The first grid point of a length at or after an instant. -/
def State.gridAtOrAfter (s : State) (len n : Nat) : Nat :=
  let r := (((n : Int) - s.grid.phase) % len).toNat
  if r = 0 then n else n + (len - r)

/-- The latest grid point of a length at or before an instant. -/
def State.gridBefore (s : State) (len n : Nat) : Nat := n - (((n : Int) - s.grid.phase) % len).toNat

/-- The next boundary of the grid in force: the first grid point after NT. -/
def State.nextBoundary (s : State) : Nat := s.gridAtOrAfter s.sfNs (s.ntNs + 1)

/-- The boundary interval [S, S + 2 µs) (05 R131). -/
def State.inBoundary (s : State) : Bool :=
  s.ntValid && (match s.grid.start with
    | some st => decide (st ≤ s.ntNs) && decide (s.ntNs < st + 2000)
    | none => false)

/-- The mode whose limits hold: the active one, or before the first commit that of record 0x0301 (05 R145). -/
def State.limitMode (s : State) : Nat := if s.grid.mode = 7 then s.grid.recMode else s.grid.mode

/-- Slot length in ns of a mode (05 R130). -/
def slotNs (mode : Nat) : Nat := if mode = 1 then 32000 else 128000

/-- A commit is pending: armed for a target or irrevocable (05 R143). -/
def State.commitPending (s : State) : Bool := s.commit.state == .arming || s.commit.state == .committed

/-- A Dormant sequence runs (05 R135, R154). -/
def State.dormantRunning (s : State) : Bool := s.dormant.seq != .none

/-! ## Units -/

end Sys2Proof.Machine

namespace Sys2Proof

/-- The key of a unit: u of R160 for commit units 0 to 25, 32 + f for function f. -/
def FUnit.idx : FUnit → Nat
  | .radio r => r
  | .link k => 3 + k
  | .port p => 15 + p
  | .pkt => 19
  | .cipher => 20
  | .dram c => 21 + c
  | .mesh => 25
  | .func f => 32 + f

/-- UNIT_KIND of 16 R474. -/
def FUnit.kind : FUnit → Nat
  | .radio _ => 0 | .link _ => 1 | .port _ => 2 | .pkt => 3 | .cipher => 4 | .dram _ => 5 | .func _ => 6 | .mesh => 7

/-- UNIT_INDEX of 16 R474. -/
def FUnit.index : FUnit → Nat
  | .radio r => r | .link k => k | .port p => p | .dram c => c | .func f => f | _ => 0

/-- Whether the unit exists in R27's counts. -/
def FUnit.exists_ : FUnit → Bool
  | .radio r => decide (r < 3) | .link k => decide (k < 12) | .port p => decide (p < 4)
  | .dram c => decide (c < 4) | .func f => decide (f < 16) | _ => true

end Sys2Proof

namespace Sys2Proof.Machine

/-- The unit of a key. -/
def unitOf (i : Nat) : FUnit :=
  if i < 3 then .radio i else if i < 15 then .link (i - 3) else if i < 19 then .port (i - 15)
  else if i = 19 then .pkt else if i = 20 then .cipher else if i < 25 then .dram (i - 21)
  else if i < 32 then .mesh else .func (i - 32)

/-- A unit's state. -/
def State.unit (s : State) (i : Nat) : UnitSt := Tab.getD s.units i {}

/-- Set a unit's state. -/
def State.setUnit (s : State) (i : Nat) (u : UnitSt) : State := { s with units := Tab.put s.units i u }

/-- A unit in service. -/
def State.inService (s : State) (u : FUnit) : Bool := (s.unit u.idx).phase == .service

/-- The phase of a unit that has been configured (05 R136): it joins at the next Meridian; before the first commit, and in
the Dormant exit, no bank governs yet and it stands in service for the commit to come (log 59). -/
def State.joinPhase (s : State) : UnitPhase := if 5 ≤ s.grid.mode then .service else .joining

/-- A healthy unit counts a refusal at the boundary of a faulted one (01 R33, R39). -/
def State.refuseAt (s : State) (u : FUnit) : State :=
  let x := s.unit u.idx
  s.setUnit u.idx { x with refused := x.refused + 1 }

/-- The unit that counts, where one does: the CPU cluster and the task scheduler belong to none (01 R28). -/
def State.refuseBy (s : State) : Option FUnit → State
  | some u => s.refuseAt u
  | none => s

/-- The unit a source of the packet path belongs to (11 R300). -/
def srcUnit (src : Nat) : Option FUnit :=
  if src < 8 then some (.port (src / 4)) else if src < 10 then some (.port (src - 6))
  else if 0x10 ≤ src && src < 0x13 then some (.radio (src - 0x10)) else if src = 0x18 then some .mesh else none

/-- The unit a port of the DRAM controller serves (15 R447). -/
def portUnit (port : Nat) : Option FUnit :=
  if port = 1 || port = 2 || port = 5 then some .pkt else if port = 6 then some .cipher else none

/-- The status of a host command addressed to a unit that is not in service (01 R33, 16 R473): recovering, held, or
waiting to be configured. -/
def State.unitStatus (s : State) (u : FUnit) : Option Nat :=
  let x := s.unit u.idx
  if x.phase == .recovering then some 0x01
  else if x.held.isSome then some 0x7E
  else if x.phase == .reset then some 0x03
  else none

/-! ## Clock enables -/

/-- The CKR_CLKEN bit of a block: 0 to 23 in register 0, 32 + k in register 1 (02 R69). -/
def clkEn (b : Nat) : FieldRef := ⟨if b < 32 then 0x100010 else 0x100014, b % 32, b % 32⟩

/-- The CKR_CLKST bit of a block. -/
def clkSt (b : Nat) : FieldRef := ⟨if b < 32 then 0x100018 else 0x10001C, b % 32, b % 32⟩

/-- A block is gated for new work: its clock does not run, or a drain has begun (02 R54, R56). -/
def State.gated (s : State) (b : Nat) : Bool := !s.flag (clkSt b) || !s.flag (clkEn b)

/-- A block's clock does not run: work that it holds stands still too; while it drains that work goes on (02 R56). -/
def State.stopped (s : State) (b : Nat) : Bool := !s.flag (clkSt b)

/-- The blocks with an enable bit (02 R69). -/
def clockBlocks : List Nat := List.range 24 ++ (List.range 12).map (32 + ·)

/-- The domains a block needs (02 R499), by code of 16 R464. -/
def blockDomains (b : Nat) : List Nat :=
  if b < 3 then [22 + b]
  else if b < 5 then [7]
  else if b = 5 then [8]
  else if b = 6 then [9, 4]
  else if b < 10 then [10]
  else if b = 10 then [5, 4]
  else if b = 11 then [6]
  else if b = 14 then [0, 1, 2, 3]
  else if b < 16 then [0]
  else if b < 18 then [11 + (b - 16)]
  else if b < 20 then [13 + (b - 18)]
  else if b < 24 then [18 + (b - 20)]
  else [15 + (b - 32) / 4]

/-- Whether a power domain is up, and its switches do not open. -/
def State.domUp (s : State) (d : Nat) : Bool := s.power.up.getLsbD d && !Tab.has s.power.downing d

/-- The block whose clock gates a register address, if it has an enable bit (02 R53, R54): none for GCTL, CKR, TIME,
MER and PWR, and none for an address of FE, BB, MAC, ETH or TL that belongs to no radio, port or link (log 130). NW is
reached through the bridge NWB, whose clock gates its registers and commands (log 129). -/
def gateBlock (a : Nat) : Option Nat :=
  let radio := fun (base first : Nat) =>
    if a < base + 0x300000 then some (first + (a - base) / 0x100000) else none
  if a < 0x1000000 then none
  else if a < 0x1400000 then radio 0x1000000 0
  else if a < 0x1800000 then radio 0x1400000 3
  else if a < 0x1C00000 then radio 0x1800000 7
  else if a < 0x2400000 then some 15
  else if a < 0x2800000 then some 10
  else if a < 0x2C00000 then some 11
  else if a < 0x3000000 then some 12
  else if a < 0x3400000 then some 13
  else if a < 0x3800000 then
    let p := (a - 0x3400000) / 0x10000
    if p % 8 < 4 && p < 16 then some (16 + p % 8) else none
  else if a < 0x3C00000 then
    let k := (a - 0x3800000) / 0x10000
    if k < 12 then some (32 + k) else if k < 20 then some (32 + (k - 8)) else none
  else none

/-- The DMC registers belong to the controller of all channels: gated while no channel's clock runs (log 9). -/
def State.dmcGated (s : State) : Bool := [20, 21, 22, 23].all (fun b => s.gated b)

/-! ## Frequencies -/

/-- REFSEL's frequency in kHz (02 R42). -/
def State.refKhz (s : State) : Nat := [19200, 38400, 48000, 0].getD s.boot.refsel.toNat 0

/-- The frequency of a domain's clock in kHz (02 R48): its divider of the root, or REF. -/
def State.domainKhz (s : State) (d : Nat) : Nat :=
  if s.clocks.onRoot.getD d false then [2400000, 1200000, 960000, 480000, 600000, 200000, 100000, 38400].getD d 0
  else s.refKhz

/-- The clock a select code names (02 R62): none while it is gated or stopped, else its frequency in kHz where the spec gives
one (R48, R52). A clock that a block serves stands while the block's clock does. -/
def State.fcClock (s : State) (sel : Nat) : Option (Option Nat) :=
  let block := fun (b : Nat) => if s.flag (clkSt b) then some none else none
  if !s.boot.refReady then none
  else if sel = 0 then some (some s.refKhz)
  else if sel = 1 then (if s.boot.rootReady then some (some 4800000) else none)
  else if sel < 10 then some (some (s.domainKhz (sel - 2)))
  else if sel < 14 then (block (20 + (sel - 10))).map fun _ => some (if s.dram.slow then 600000 else 1200000)
  else if sel < 0x20 then block (32 + (sel - 0x10))
  else if sel < 0x28 then block (16 + (sel - 0x20))
  else if sel < 0x30 then block (sel - 0x28)
  else some none

/-- An idle step passes for the windows that run: each learns whether its clock ran, and whether at one rate. -/
def State.fcTick (s : State) : State :=
  { s with clocks := { s.clocks with fcWin := Tab.mapV s.clocks.fcWin fun _ w =>
      let c := s.fcClock w.sel
      { w with steady := w.steady && c == w.rate, ran := w.ran || c.isSome } } }

/-- Whether a window can end with a count (02 R61, R63): a clock that never ran counts no edge; one that kept a rate the spec
gives counts that rate within ±1; of any other the spec gives no count. -/
def State.fcCounts (s : State) (w : FcWin) (edges : Nat) : Bool :=
  if !w.ran then edges == 0
  else match w.steady, w.rate with
  | true, some (some f) =>
    decide (edges * s.refKhz ≤ 2 ^ w.exp * f + s.refKhz) && decide (2 ^ w.exp * f ≤ edges * s.refKhz + s.refKhz)
  | _, _ => true

/-! ## Variant -/

/-- The Z7-3 (00 R1). -/
def State.isZ73 (s : State) : Bool := s.fuses.isZ73

/-- First chain index of a radio (03 R98). -/
def chainBase (r : Nat) : Nat := if r = 0 then 0 else if r = 1 then 32 else 96

/-- Chains a radio can have on the variant (00 R1). -/
def State.chainCount (s : State) (r : Nat) : Nat :=
  if s.isZ73 then (if r = 0 then 8 else 16) else (if r = 0 then 32 else 64)

/-- Integrated chains of a radio (00 R18). -/
def integrated (r : Nat) : Nat := if r = 0 then 8 else 16

/-- The radio and chain number of a chain index of R98. -/
def chainOf (i : Nat) : Nat × Nat := if i < 32 then (0, i) else if i < 96 then (1, i - 32) else (2, i - 96)

/-- Whether a chain index exists on the variant. -/
def State.chainExists (s : State) (i : Nat) : Bool :=
  decide (i < 160) && decide ((chainOf i).2 < s.chainCount (chainOf i).1)

/-- Every chain index of the variant. -/
def State.allChains (s : State) : List Nat := (List.range 160).filter s.chainExists

end Sys2Proof.Machine
end

