-- ==== Sys2Proof/Machine/HostOps.lean ====
section
/-! DEFINITION. Rings, events, completions and the admission of host commands (13 R376 to R391). -/

namespace Sys2Proof.Machine

/-- Base of function f's HQ sub-block (13 R375). -/
def hqBase (f : Nat) : Nat := 0x3000000 + f * 0x10000

/-- The key of a ring: kind 0 CQ n, 1 RQ n, 2 the event ring. -/
def ringKey (f kind n : Nat) : Nat := f * 64 + kind * 16 + n

/-- The _CFG register of a ring. -/
def ringCfg (f kind n : Nat) : Nat :=
  hqBase f + (if kind = 0 then 0x408 + 0x20 * n else if kind = 1 then 0x810 + 0x40 * n else 0x18)

/-- A ring is enabled. -/
def State.ringOn (s : State) (f kind n : Nat) : Bool := s.flag ⟨ringCfg f kind n, 4, 4⟩

/-- Entries of a ring: 2^(DEPTH + 4) (13 R411). -/
def State.ringDepth (s : State) (f kind n : Nat) : Nat := 2 ^ (s.get ⟨ringCfg f kind n, 3, 0⟩ + 4)

/-- A ring's own state. -/
def State.ring (s : State) (k : Nat) : RingSt := Tab.getD s.host.rings k {}

/-- Set a ring's own state. -/
def State.setRing (s : State) (k : Nat) (r : RingSt) : State :=
  { s with host := { s.host with rings := Tab.put s.host.rings k r } }

/-- Free entries of a ring. -/
def State.ringFree (s : State) (f kind n : Nat) : Nat := s.ringDepth f kind n - (s.ring (ringKey f kind n)).used

/-- A word of function f's MSI-X table at a BAR2 offset: each vector control starts masked (13 R375; log 22). -/
def State.msixWord (s : State) (f o : Nat) : Word :=
  Tab.getD s.host.msixTab (f * 65536 + o) (if o % 16 = 12 then 1 else 0)

/-- A vector is masked in the table. -/
def State.vecMasked (s : State) (f v : Nat) : Bool := (s.msixWord f (16 * v + 12)).getLsbD 0

/-- Raise a vector of a function: a masked one is held pending (13 R388). -/
def State.raiseVector (s : State) (f v : Nat) : State :=
  { s with host := { s.host with
    msix := if s.vecMasked f v then s.host.msix else s.host.msix ++ [(f, v)]
    msixPend := if s.vecMasked f v && !s.host.msixPend.contains (f, v) then s.host.msixPend ++ [(f, v)] else s.host.msixPend } }

/-- Vectors a function has (13 R372). -/
def vecCount (f : Nat) : Nat := if f = 0 then 64 else 16

/-- Write bytes into a host buffer of a function. -/
def State.writeHost (s : State) (f addr : Nat) (bs : List Byte) : State :=
  { s with host := { s.host with
    mem := (List.range bs.length).foldl (fun m i => Tab.put m (f * 2 ^ 64 + (addr + i) % 2 ^ 64) (bs.getD i 0#8)) s.host.mem } }

/-- The base of a ring that the Z7 writes, aligned to 4 KB, and its entry's size (13 R376, R411). -/
def State.ringBase (s : State) (f kind n : Nat) : Nat :=
  s.get64 (hqBase f + (if kind = 0 then 0x400 + 0x20 * n else if kind = 1 then 0x800 + 0x40 * n else 0x10)) / 4096 * 4096
def entrySize (kind : Nat) : Nat := if kind = 0 then 16 else 32

/-- Where entry idx of a ring stands in host memory (13 R376). -/
def State.entryAddr (s : State) (f kind n idx : Nat) : Nat := s.ringBase f kind n + idx * entrySize kind

/-- Write an entry of a ring into host memory. -/
def State.writeEntry (s : State) (f kind n idx : Nat) (bs : List Byte) : State := s.writeHost f (s.entryAddr f kind n idx) bs

/-- Signal a ring's vector and count its entries as signalled (13 R388). -/
def State.signal (s : State) (f kind n : Nat) : State :=
  let k := ringKey f kind n
  let r := s.ring k
  (s.setRing k { r with fresh := 0 }).raiseVector f (s.get ⟨ringCfg f kind n, 15, 8⟩)

/-- Take one entry of a ring: the state after it, the index and the phase to write (13 R377). -/
def State.ringTake (s : State) (f kind n : Nat) : State × Nat × Bool :=
  let k := ringKey f kind n
  let r := s.ring k
  let t := r.tail + 1
  let wrap := decide (s.ringDepth f kind n ≤ t)
  let r' : RingSt :=
    { r with tail := if wrap then 0 else t
             phase := if wrap then !r.phase else r.phase
             used := r.used + 1
             fresh := r.fresh + 1
             since := if r.fresh = 0 then s.elapsed else r.since }
  (s.setRing k r', r.tail, r.phase)

/-- Interrupt moderation after new entries (13 R388): MOD_COUNT or MOD_TIME 0 signals at once, otherwise at MOD_COUNT. -/
def State.moderate (s : State) (f kind n : Nat) (now : Bool) : State :=
  let c := s.get ⟨ringCfg f kind n, 23, 16⟩
  let t := s.get ⟨ringCfg f kind n, 31, 24⟩
  if now || c = 0 || t = 0 || decide (c ≤ (s.ring (ringKey f kind n)).fresh) then s.signal f kind n else s

/-- Entries an event takes: one, and continuations of 28 B beyond 16 B (13 R389). -/
def evEntries (payload : List Byte) : Nat := 1 + (payload.length - 16 + 27) / 28

/-- An event entry's 32 bytes (13 R389). -/
def EvEntry.bytes (e : EvEntry) : List Byte :=
  let p := e.event.payload
  let more := decide (e.number + 1 < evEntries p)
  let flags := leBytes 1 (b2n e.phase + 2 * b2n more)
  if e.number = 0 then
    leBytes 2 e.event.code ++ flags ++ leBytes 1 p.length ++ leBytes 4 e.event.seq ++ leBytes 8 e.event.time.toNat
      ++ slice p 0 16
  else leBytes 2 0 ++ flags ++ leBytes 1 e.number ++ slice p (16 + 28 * (e.number - 1)) 28

/-- Write the entries of one event. -/
def State.putEvent (s : State) (f : Nat) (e : Event) : State :=
  let n := evEntries e.payload
  let s1 := (List.range n).foldl (fun s i =>
    let (s, idx, ph) := s.ringTake f 2 0
    let x : EvEntry := ⟨e, i, ph⟩
    { s with host := { s.host with evs := Tab.put s.host.evs (ringKey f 2 0 * 4096 + idx) x } }.writeEntry f 2 0 idx x.bytes) s
  s1.moderate f 2 0 false

/-- Count lost events of a ring (13 R391); HQ_F_EVQ_LOST counts them. -/
def State.loseEvent (s : State) (f : Nat) : State :=
  let e := Tab.getD s.host.ev f {}
  let s := s.inc ⟨hqBase f + 0x20, 15, 0⟩
  { s with host := { s.host with ev := Tab.put s.host.ev f { e with lost := e.lost + 1 } } }

/-- Post on a ring that has room: the event takes the ring's next SEQ. -/
def State.postSeq (s : State) (f code : Nat) (payload : List Byte) : State :=
  let e := Tab.getD s.host.ev f {}
  let s := { s with host := { s.host with ev := Tab.put s.host.ev f { e with seq := (e.seq + 1) % 2 ^ 32 } } }
  s.putEvent f ⟨code, e.seq, s.stamp, payload⟩

/-- An Eclipse of the function runs (13 R393): nothing but its own record is written to the function's event ring. -/
def State.eclipsing (s : State) (f : Nat) : Bool := Tab.has s.host.eclipses f

/-- Housekeeping event 0x0001 once at least 2 entries are free after a loss (13 R391). -/
def State.reportLost (s : State) (f : Nat) : State :=
  let e := Tab.getD s.host.ev f {}
  if e.lost ≠ 0 && s.ringOn f 2 0 && !s.eclipsing f && decide (2 ≤ s.ringFree f 2 0) then
    let s := { s with host := { s.host with ev := Tab.put s.host.ev f { e with lost := 0 } } }
    s.postSeq f 0x0001 (leBytes 8 e.lost)
  else s

/-- Events may be posted: 0x3011, at step 3 of a Dormant entry, is the last one (05 R147). -/
def State.eventsOpen (s : State) : Bool := match s.dormant.seq with | .entry n => decide (n < 4) | _ => true

/-- Post an event on one function's ring, whole or not at all (13 R391, R393). -/
def State.postOn (s : State) (f code : Nat) (payload : List Byte) : State :=
  let s := if s.eventsOpen then s.reportLost f else s
  if s.eventsOpen && s.ringOn f 2 0 && (code == 0xB002 || !s.eclipsing f) && decide (evEntries payload ≤ s.ringFree f 2 0) then
    s.postSeq f code payload
  else s.loseEvent f

/-- Post an event on the PF's ring, and on the rings of the VFs it concerns (13 R390). -/
def State.postEvent (s : State) (code : Nat) (payload : List Byte) (vfs : List Nat := []) : State :=
  (vfs.filter (fun f => decide (1 ≤ f) && decide (f < 16))).foldl (fun s f => s.postOn f code payload)
    (s.postOn 0 code payload)

/-- A payload of 8-byte little-endian items in the order the event's table names them (log 10). -/
def items (l : List Nat) : List Byte := l.flatMap (leBytes 8)

/-- A signed item. -/
def sItem (i : Int) : Nat := unsigned 64 i

/-- Index of a requester, for captures and payloads (00 R10): PF 0, VF f (through either BAR), CPU 16, debug 17. -/
def reqIdx : Requester → Nat
  | .pf => 0 | .vf f => f | .bar2 f => f | .cpu => 16 | .debug => 17

/-- The subject nibble of a block for event 0xsFFE (00 R36). -/
def subjNibble (a : Nat) : Nat :=
  if a < 0x200000 then 1 else if a < 0x300000 then 2
  else if 0x301000 ≤ a && a < 0x302000 then 7
  else if a < 0x400000 then 3 else if a < 0x1000000 then 0xE else if a < 0x1400000 then 4
  else if a < 0x1800000 then 5 else if a < 0x2000000 then 6 else if a < 0x2400000 then 8
  else if a < 0x2800000 then 9 else if a < 0x2C00000 then 0xA else if a < 0x3400000 then 0xB
  else if a < 0x3C00000 then 0xC else 0xD

/-- A check of a block rejects an input: a counter in the block (01 R39). -/
def State.countReject (s : State) (block : Nat) : State :=
  { s with rejects := Tab.put s.rejects block (Tab.getD s.rejects block 0 + 1) }

/-- An invalid write is counted (01 R39) and posts event 0xsFFE with the address, the value and the requester (00 R36); a VF's own ring
receives those it made (13 R390). -/
def State.invalidWrite (s : State) (r : Requester) (a : Nat) (v : Word) : State :=
  (s.countReject (subjNibble a)).postEvent (subjNibble a * 0x1000 + 0xFFE) (items [a, v.toNat, reqIdx r])
    (match r with | .vf f => [f] | _ => [])

/-- How an access that is refused completes (00 R7). -/
def denied : Requester → Answer
  | .pf => .abort | .vf _ => .abort | .bar2 _ => .abort | .cpu => .accessError | .debug => .accessError

/-- A write to a register of the PF's map that has a row of its own: from a requester that reaches the map, to a block
whose clock runs (02 R54, 03 R90), once the register bus runs (02 R45, log 132). `vfOk` says that the register is also in the window of the function. -/
def State.access (s : State) (r : Requester) (a : Nat) (act : State → State) (vfOk : Nat → Bool := fun _ => false) :
    State :=
  let go := fun (_ : Unit) =>
    if !s.boot.refReady then { s with answer := some (denied r) }
    else match gateBlock a with
    | some b => if s.gated b then { s with answer := some (denied r) } else { act s with answer := some .done }
    | none => { act s with answer := some .done }
  match r with
  | .vf f => if vfOk f then go () else { s with answer := some .abort }
  | .bar2 _ => { s with answer := some .abort }
  | .debug => if s.fuses.debugLock then { s with answer := some .absent } else go ()
  | _ => go ()

/-! ## Completions -/

/-- A completion's 16 bytes (13 R383). -/
def Cqe.bytes (c : Cqe) : List Byte :=
  leBytes 2 c.tag ++ leBytes 1 c.status ++ leBytes 1 (b2n c.phase + 2 * b2n c.dup) ++ leBytes 4 c.result
    ++ leBytes 2 c.sqHead ++ leBytes 1 c.sq ++ leBytes 1 0 ++ leBytes 4 c.time

/-- A completion at an index of its CQ, and in host memory (13 R376). -/
def State.putCqe (s : State) (f cq idx : Nat) (e : Cqe) : State :=
  { s with host := { s.host with cqes := Tab.put s.host.cqes (ringKey f 0 cq * 4096 + idx) e } }.writeEntry f 0 cq idx e.bytes

/-- The SQ registers of function f. -/
def sqBase (f n : Nat) : Nat := hqBase f + 0x100 + 0x20 * n

/-- Change the commands in flight. -/
def State.mapCmds (s : State) (g : List Cmd → List Cmd) : State :=
  { s with host := { s.host with cmds := g s.host.cmds } }

/-- The command of a function and tag that has not completed. -/
def State.cmd? (s : State) (f tag : Nat) : Option Cmd :=
  s.host.cmds.find? (fun c => c.fn == f && c.tag == tag && c.stage != .completed)

/-- Post a completion for a command (13 R382, R383): its entry on its CQ, the count of completed commands and the vector;
the entry's index. -/
def State.postCompletion (s : State) (c : Cmd) (status result : Nat) : State × Nat :=
  let (s1, idx, ph) := s.ringTake c.fn 0 c.cq
  let e : Cqe := ⟨c.tag, status, c.dup, ph, result % 2 ^ 32, s.get ⟨sqBase c.fn c.sq + 0x10, 9, 0⟩, c.sq,
    s.stamp.toNat % 2 ^ 32⟩
  let s2 := s1.putCqe c.fn c.cq idx e
  ((s2.inc64 (hqBase c.fn + 0x1008)).moderate c.fn 0 c.cq c.irq, idx)

/-- The result word of MAC_TX (08 R233): the SN or 0xFFF, the attempts, the radio of the last (7 none) and its status. -/
def Frame.result (f : Frame) : Nat :=
  f.sn.getD 0xFFF + f.attempts % 32 * 2 ^ 12 + f.lastRadio % 8 * 2 ^ 17 + f.lastStatus % 256 * 2 ^ 24

/-- The result word of a MAC_TX that ends without one of its own (08 R233): of the frame it queued, else of no attempt. -/
def State.txResult (s : State) (f tag : Nat) : Nat :=
  (s.mac.frames.find? fun e => e.2.cmd == some (f, tag)).elim (0xFFF + 7 * 2 ^ 17) (·.2.result)

/-- Complete the command of a function and tag: a RANGE is a rejection by the block of its subject (01 R36, R39). A tag not in
flight changes nothing. -/
def State.complete (s : State) (f tag status : Nat) (result : Nat := 0) : State :=
  match s.cmd? f tag with
  | none => s
  | some c =>
    let (s, idx) := s.postCompletion c status (if c.opcode = 0x0610 && result = 0 then s.txResult f tag else result)
    let s := if status = 0x6E then s.inc ⟨hqBase f + 0x1000, 31, 16⟩ else s
    let s := if status = 0x02 then s.countReject (c.opcode / 256) else s
    s.mapCmds (·.map fun d =>
      if d.fn == f && d.tag == tag && d.stage != .completed then
        { d with stage := .completed, cqe := some idx, doneAt := some s.elapsed } else d)

/-- Mark a command as taken by its unit, under the unit's key when it has one. -/
def State.takeUp (s : State) (f tag : Nat) (unit : Option Nat := none) : State :=
  s.mapCmds (·.map fun d =>
    if d.fn == f && d.tag == tag && d.stage == .fetched then { d with stage := .admitted, unit := unit } else d)

/-- Mark that a command's work reached a medium (16 R474): 0 air, 1 wire, 2 flash. -/
def State.reached (s : State) (f tag m : Nat) : State :=
  s.mapCmds (·.map fun d => if d.fn == f && d.tag == tag && d.stage != .completed then { d with medium := some m } else d)

/-- Whether a fetched command may be admitted now: every earlier command of its SQ is admitted, and completed when it
carries FENCE (13 R379, R382). -/
def State.admissible (s : State) (c : Cmd) : Bool :=
  let earlier := (s.host.cmds.takeWhile (fun d => !(d.fn == c.fn && d.tag == c.tag && d.stage == .fetched))).filter
    (fun d => d.fn == c.fn && d.sq == c.sq)
  earlier.all fun d => d.stage == .completed || (d.stage == .admitted && !c.fence)

/-- Admission of the command (f, tag) when it is of the opcode (13 R380 orders 3 and 4): who may issue it, whether its
target's clock runs; then its own checks and effect. A tag that names no such command changes nothing (log 7). -/
def State.runCmd (s : State) (f tag opcode : Nat) (mayIssue : Cmd → Bool) (gatedFor : Cmd → Bool)
    (act : Cmd → State → State) : State :=
  match s.cmd? f tag with
  | none => s
  | some c =>
    if c.opcode ≠ opcode || c.stage != .fetched || !s.admissible c then s
    else if !mayIssue c then s.complete f tag 0x09
    else if gatedFor c then s.complete f tag 0x0D
    else act c s

/-- Commands in flight whose descriptor is the one a row is for. -/
def State.runCmdIf (s : State) (fn tag opcode : Nat) (sel : Cmd → Bool) (may gatedFor : Cmd → Bool) (act : Cmd → State → State) :
    State :=
  match s.cmd? fn tag with
  | some c => if sel c then s.runCmd fn tag opcode may gatedFor act else s
  | none => s

/-- A byte field of a descriptor. -/
def Cmd.b (c : Cmd) (o : Nat) : Nat := (c.desc.getD o 0#8).toNat

/-- A little-endian field of a descriptor. -/
def Cmd.le (c : Cmd) (o n : Nat) : Nat := fieldLE c.desc o n

/-- Descriptor bytes. -/
def Cmd.bytes (c : Cmd) (o n : Nat) : List Byte := slice c.desc o n

/-- Every byte of 16 to 63 outside the listed fields is 0 (13 R380 order 5; R407). -/
def Cmd.reservedOk (c : Cmd) (used : List (Nat × Nat)) : Bool :=
  zeroOutside c.desc 16 64 used && zeroOutside c.desc 5 16 [] && decide (c.b 4 < 4)

/-- The physical function is the issuer. -/
def byPF (c : Cmd) : Bool := c.fn == 0

/-- No block's clock gates the command. -/
def neverGated (_ : Cmd) : Bool := false

/-- A function is enabled: the PF always, a VF by HQ_VFS (13 R411, R412). -/
def State.fnEnabled (s : State) (f : Nat) : Bool := f == 0 || (decide (f < 16) && bitOf s.host.vfEn f)

end Sys2Proof.Machine
end

