-- ==== Sys2Proof/Machine/FlashOps.lean ====
section
/-! DEFINITION. The serial flash as memory, its serialised accesses, and the fault log (03 R76 to R79, R95 to R99). -/

namespace Sys2Proof

/-- What an unlisted flash byte reads: erased (log 5). -/
def Memory.unlisted : Byte := 0xFF#8

/-- The byte at an address. -/
def Memory.read : List Host.Cell → Nat → Byte
  | [], _ => Memory.unlisted
  | (b, v) :: t, a => if b = a then v else Memory.read t a

/-- Store a byte, keeping the canonical form: addresses rising, no erased byte listed. -/
def Memory.write (m : List Host.Cell) (a : Nat) (v : Byte) : List Host.Cell :=
  if v = Memory.unlisted then Tab.del m a else Tab.put m a v

/-- n bytes from an address. -/
def Memory.readN (m : List Host.Cell) (a n : Nat) : List Byte :=
  let t := m.filter (fun c => decide (a ≤ c.1) && decide (c.1 < a + n))
  (List.range n).map fun i => Memory.read t (a + i)

/-- Store bytes from an address on. -/
def Memory.writeN (m : List Host.Cell) (a : Nat) (bs : List Byte) : List Host.Cell :=
  (List.range bs.length).foldl (fun m i => Memory.write m (a + i) (bs.getD i Memory.unlisted)) m

/-- Erase n bytes from an address on. -/
def Memory.erase (m : List Host.Cell) (a n : Nat) : List Host.Cell :=
  m.filter (fun c => !(decide (a ≤ c.1) && decide (c.1 < a + n)))

/-- Addresses strictly rising. -/
def Memory.rising : List Host.Cell → Bool
  | [] => true
  | [_] => true
  | a :: b :: t => decide (a.1 < b.1) && Memory.rising (b :: t)

/-- The canonical form: addresses rising and no entry equal to what an unlisted address reads. -/
def Memory.wf (m : List Host.Cell) : Bool := Memory.rising m && m.all (fun c => c.2 != Memory.unlisted)

end Sys2Proof

namespace Sys2Proof.Machine

/-- The private seed of the device identity key: the first 32 bytes of the SHA-512 of the identity seed and the ASCII bytes
Z7-ID-1 (R92). -/
def Fuses.idSeed (f : Fuses) : List Byte :=
  (sha512 (f.seed ++ [0x5A#8, 0x37#8, 0x2D#8, 0x49#8, 0x44#8, 0x2D#8, 0x31#8])).take 32

/-- Capacity C: the sum of the device sizes (R78), in bytes; a density is in Mbit of 2^20 bits (00 R6). -/
def State.flashCap (s : State) : Nat := s.flash.devices * (s.flash.density * 131072)

/-- Slot size S = C / 2 − 8 MB (R78). -/
def State.slotSize (s : State) : Nat := s.flashCap / 2 - 0x800000

/-- Offset of a slot (R78): A at 0, B at C / 2. -/
def State.slotBase (s : State) (slot : Nat) : Nat := if slot = 0 then 0 else s.flashCap / 2

/-- Offset of the fault-log region (R78). -/
def State.logBase (s : State) : Nat := s.flashCap - 0x800000

/-- Bytes of the flash. -/
def State.flashRead (s : State) (a n : Nat) : List Byte := Memory.readN s.flash.bytes a n

/-- The 64 KB sector of an address is spoiled: written again without an erase, or left by a failed or cut operation
(R95). -/
def State.spoil (s : State) (sector : Nat) : State :=
  if s.flash.spoiled.contains sector then s
  else { s with flash := { s.flash with spoiled := s.flash.spoiled ++ [sector] } }

/-- Program a page (R76). One written since its sector was last erased spoils the sector, and its bytes that are not erased
take free values (R95, log 5). -/
def State.flashProgram (s : State) (a : Nat) (bs : List Byte) : State :=
  let old := s.flashRead a bs.length
  let s0 := { s with flash := { s.flash with
    written := if s.flash.written.contains (a / 256) then s.flash.written else s.flash.written ++ [a / 256] } }
  if old.all (· == Memory.unlisted) then
    let s1 := { s0 with flash := { s0.flash with bytes := Memory.writeN s.flash.bytes a bs } }
    if s.flash.written.contains (a / 256) then s1.spoil (a / 65536) else s1
  else
    let s1 := (List.range bs.length).foldl (fun s i =>
      if old.getD i Memory.unlisted == Memory.unlisted then
        { s with flash := { s.flash with bytes := Memory.write s.flash.bytes (a + i) (bs.getD i 0xFF#8) } }
      else
        let (v, s) := s.draw 8
        { s with flash := { s.flash with bytes := Memory.write s.flash.bytes (a + i) v } }) s0
    s1.spoil (a / 65536)

/-- Erase a 64 KB sector. -/
def State.flashErase (s : State) (sector : Nat) : State :=
  { s with flash := { s.flash with
    bytes := Memory.erase s.flash.bytes (sector * 65536) 65536
    written := s.flash.written.filter (fun p => p / 256 != sector)
    spoiled := s.flash.spoiled.filter (· != sector) } }

/-- A sector in an unknown state (R95): every byte a free value. -/
def State.flashScramble (s : State) (sector : Nat) : State :=
  let s1 := (List.range 65536).foldl (fun s i =>
    let (v, s) := s.draw 8
    { s with flash := { s.flash with bytes := Memory.write s.flash.bytes (sector * 65536 + i) v } }) s
  s1.spoil sector

/-- A page in an unknown state: every byte a free value. -/
def State.freePage (s : State) (a : Nat) : State :=
  (List.range 256).foldl (fun s i =>
    let (v, s) := s.draw 8
    { s with flash := { s.flash with bytes := Memory.write s.flash.bytes (a + i) v } }) s

/-- Start the access at the head when none runs (R79). -/
def State.flashKick (s : State) : State :=
  if s.flash.ops.isEmpty then { s with flash := { s.flash with running := false } }
  else { s with flash := { s.flash with running := true, since := if s.flash.running then s.flash.since else s.elapsed } }

/-- An operation of the fault log. -/
def FlashOp.ofLog : FlashOp → Bool
  | .logEntry .. => true
  | .logErase .. => true
  | _ => false

/-- A page program or a sector erase, which no other access interrupts (R79); a read is made of bursts. -/
def FlashOp.whole : FlashOp → Bool
  | .logRead .. => false
  | .verify _ => false
  | _ => true

/-- The timeout of an access, or of one burst of a read (R77). -/
def FlashOp.limit : FlashOp → Nat
  | .erase _ => ms 2000
  | .logErase _ => ms 2000
  | .program .. => ms 5
  | .logEntry .. => ms 5
  | _ => ms 1

/-- Queue a fault-log access: behind the program or erase that runs and the log accesses already waiting, before every
Almanac command, whose reading goes on after it (R79). -/
def State.queueLogOp (s : State) (o : FlashOp) : State :=
  let l := s.flash.ops
  let fixed := if s.flash.running then (l.take 1).filter FlashOp.whole else []
  let rest := l.drop fixed.length
  let logs := rest.takeWhile FlashOp.ofLog
  { s with flash := { s.flash with
    ops := fixed ++ logs ++ [o] ++ rest.drop logs.length, running := !fixed.isEmpty } }.flashKick

/-- Queue an access of an Almanac command. -/
def State.queueFlashOp (s : State) (o : FlashOp) : State :=
  { s with flash := { s.flash with ops := s.flash.ops ++ [o] } }.flashKick

/-- Whether an entry may be written to the fault-log region (R97, R99). -/
def State.logWritable (s : State) : Bool := s.flash.ok && s.log.found && !s.log.erasing && !s.log.down

/-- The 256 B of a log entry (R96). -/
def logPage (type seq : Nat) (time : NT64) (payload : List Byte) : List Byte :=
  let b := leBytes 2 type ++ leBytes 2 payload.length ++ leBytes 4 seq ++ leBytes 8 time.toNat ++ payload
    ++ List.replicate (232 - payload.length) 0xFF#8 ++ List.replicate 4 0xFF#8
  b ++ leBytes 4 (crc32 b)

/-- A valid entry of the fault-log region (R96). -/
structure LogEntry where
  page : Nat
  type : Nat
  seq : Nat
  time : Nat
  payload : List Byte
deriving DecidableEq, Repr

/-- The entries whose CRC is correct (R97); the pages of a sector in an unknown state fail theirs (R95). -/
def State.logEntries (s : State) : List LogEntry :=
  let base := s.logBase
  let pages := ((s.flash.bytes.filter (fun c => decide (base ≤ c.1))).map (fun c => (c.1 - base) / 256)).eraseDups
  pages.filterMap fun p =>
    let b := s.flashRead (base + 256 * p) 256
    if fieldLE b 252 4 = crc32 (b.take 252) && !(s.flash.spoiled.contains ((base + 256 * p) / 65536)) then
      some ⟨p, fieldLE b 0 2, fieldLE b 4 4, fieldLE b 8 8, slice b 16 (Nat.min (fieldLE b 2 2) 232)⟩
    else none

/-- The entry with the highest SEQ. -/
def newestEntry (l : List LogEntry) : Option LogEntry :=
  l.foldl (fun m e => match m with
    | some x => if x.seq < e.seq then some e else some x
    | none => some e) none

/-- The pointer moves to the next page; entering a sector erases the next one (R97). -/
def State.logAdvance (s : State) : State :=
  let p := (s.log.ptr + 1) % 32768
  let s1 := { s with log := { s.log with ptr := p } }
  if p % 256 = 0 then s1.queueLogOp (.logErase ((p / 256 + 1) % 128)) else s1

/-- Write an entry at the pointer and move the pointer on (R96, R97). -/
def State.logProgram (s : State) (type : Nat) (payload : List Byte) : State :=
  let s1 := s.flashProgram (s.logBase + 256 * s.log.ptr) (logPage type s.log.seq s.stamp payload)
  { s1 with log := { s1.log with seq := (s1.log.seq + 1) % 2 ^ 32 } }.logAdvance

/-- A sector of the fault-log region that holds an entry, or that is not known to be erased. -/
def State.logSectorUsed (s : State) (k : Nat) : Bool :=
  let n := s.logBase / 65536 + k
  s.flash.bytes.any (fun c => c.1 / 65536 == n) || s.flash.written.any (fun p => p / 256 == n) || s.flash.spoiled.contains n

/-- An erased sector lies ahead of the pointer again (R97): an erase that a reset cut off, or dropped from the queue, is made
up for once the pointer is found (log 133). -/
def State.eraseAhead (s : State) : State :=
  let k := s.log.ptr / 256
  let due := (if s.log.ptr % 256 = 0 then [k] else []) ++ [(k + 1) % 128]
  (due.filter s.logSectorUsed).foldl (fun s n => s.queueLogOp (.logErase n)) s

/-- Ask for an entry of the fault log, where R97 and R99 allow one. -/
def State.logWrite (s : State) (type : Nat) (payload : List Byte) : State :=
  if s.logWritable then s.queueLogOp (.logEntry type payload false) else s

/-- Write an entry at once: the record of a device fault, which the reset would cut off (01 R28, log 12). -/
def State.logWriteNow (s : State) (type : Nat) (payload : List Byte) : State :=
  if s.logWritable then s.logProgram type payload else s

end Sys2Proof.Machine
end

