-- ==== Sys2Proof/Machine/PowerOps.lean ====
section
/-! DEFINITION. Power items and requests on the inrush ledger (16 R464 to R468). An item is a domain code 0 to 24, or
32 + the chain index of 03 R98. -/

namespace Sys2Proof.Machine

/-- The steps of an item per rail, (rail code, 0.01 A) (R464). -/
def itemSteps (i : Nat) : List (Nat × Nat) :=
  if i = 0 then [(3, 1000), (5, 600)]
  else if i < 4 then [(5, 600)]
  else if i = 4 then [(4, 320)]
  else if i = 5 then [(3, 1800)]
  else if i = 6 then [(3, 800)]
  else if i = 7 then [(3, 1400)]
  else if i = 8 then [(3, 2200)]
  else if i = 9 then [(3, 2000)]
  else if i = 10 then [(3, 600)]
  else if i < 13 then [(8, 300), (9, 150)]
  else if i < 15 then [(11, 120), (12, 60)]
  else if i < 18 then [(8, 240), (9, 100)]
  else if i < 22 then [(3, 300), (7, 150), (6, 80)]
  else if i = 22 then [(10, 60)]
  else if i < 25 then [(10, 100)]
  else [(10, 8), (13, 35)]

/-- The ramp of an item in ns (R464). -/
def itemRamp (i : Nat) : Nat :=
  if i = 0 then 5000 else if i < 4 then 3000 else if i = 4 then 4000 else if i = 5 then 6000
  else if i = 6 then 2000 else if i = 7 then 3500 else if i = 8 then 5500 else if i = 9 then 5000
  else if i = 10 then 2000 else if i < 13 then 3000 else if i < 15 then 2000 else if i < 18 then 3000
  else if i < 22 then 4000 else if i < 25 then 2000 else 1000

/-- The default (STEP_MAX in 0.1 A, SLEW_MAX in 0.01 A/µs) of a rail (R468). -/
def railDefault (r : Nat) : Nat × Nat :=
  if r = 3 then (250, 300) else if r = 4 then (40, 100) else if r = 5 then (80, 200) else if r = 6 then (10, 20)
  else if r = 7 then (20, 50) else if r = 8 then (40, 100) else if r = 9 then (20, 50) else if r = 10 then (15, 50)
  else if r = 11 then (20, 50) else if r = 12 then (10, 30) else if r = 13 then (10, 50) else (0, 0)

/-- The largest single item of a rail in 0.1 A, rounded up where the table's figure has two places (R468, R476). -/
def railLargest (r : Nat) : Nat :=
  if r = 3 then 220 else if r = 4 then 32 else if r = 5 then 60 else if r = 6 then 8 else if r = 7 then 15
  else if r = 8 then 30 else if r = 9 then 15 else if r = 10 then 10 else if r = 11 then 12 else if r = 12 then 6
  else if r = 13 then 4 else 0

/-- The limits in force on a rail (R468). -/
def State.railLimit (s : State) (r : Nat) : Nat × Nat := Tab.getD s.power.limits r (railDefault r)

/-- The present tick of 10 ns (R466). -/
def State.tick10 (s : State) : Nat := s.elapsed / 6

/-- A chain's band domain. -/
def bandDomain (i : Nat) : Nat := 22 + (chainOf (i - 32)).1

/-- Ask the ledger for items (R464, R466): domains in table order among those requested together; an item already up,
queued or ramping is not asked for again. -/
def State.requestItems (s : State) (l : List Nat) : State :=
  let p := s.power
  let want := (sortBy id l).filter fun i =>
    !(p.queue.contains i) && !(p.ramping.any (·.item == i)) && !(decide (i < 25) && s.domUp i)
      && !(s.isZ73 && decide (15 ≤ i) && decide (i < 18))
  if p.queue.isEmpty then
    { s with power := { p with queue := want, headSince := s.elapsed, headPosted := false } }
  else { s with power := { p with queue := p.queue ++ want } }

/-- Start powering items down; they are down after their ramp (R464). -/
def State.powerDown (s : State) (l : List Nat) : State :=
  { s with power := { s.power with
    downing := l.foldl (fun t i => Tab.put t i s.elapsed) s.power.downing
    queue := s.power.queue.filter (fun i => !l.contains i) } }

/-- Request every down domain of a block (02 R55, R499). -/
def State.requestBlock (s : State) (b : Nat) : State :=
  s.requestItems ((blockDomains b).filter (fun d => !s.domUp d))

/-- Set a block's enable bit and request its domains. -/
def State.enableBlock (s : State) (b : Nat) : State :=
  if s.isZ73 && decide (32 ≤ b) then s else (s.put (clkEn b) 1).requestBlock b

/-- Throttle level: the greater of the power and the thermal level (R471). -/
def State.throttle (s : State) : Nat := Nat.max s.power.powerLevel s.power.thermalLevel

end Sys2Proof.Machine
end

