-- ==== Sys2Proof/Machine/TimeOps.lean ====
section
/-! DEFINITION. Records of the running image as settings; starts, steps and re-anchors of the time bases, the outlier
filter and the jump check (04 R102 to R119). -/

namespace Sys2Proof.Machine

/-! ## Settings of accepted records -/

/-- Payload of the first applied record of a type; [] without one. -/
def State.recBytes (s : State) (t : Nat) : List Byte :=
  match s.boot.records.find? (fun r => r.type == t && !(s.boot.rejected.contains (t / 256))) with
  | some r => r.payload
  | none => []

/-- Every applied record of a type. -/
def State.recsOf (s : State) (t : Nat) : List (List Byte) :=
  (s.boot.records.filter (fun r => r.type == t && !(s.boot.rejected.contains (t / 256)))).map (·.payload)

/-- A source's place in record 0x0201: PRIMARY then SECONDARY. -/
def State.srcOrder (s : State) : List Nat :=
  let r := s.recBytes 0x0201
  [fieldLE r 0 1, fieldLE r 1 1].filter (fun x => x != 0)

/-- JUMP_NT, JUMP_MT and OUTLIER_LIMIT in ns, OUTLIER_RUN, the AUTO_REANCHOR bits, INPUT_TIMEOUT in ns (R125). -/
def State.jumpNt (s : State) : Nat := fieldLE (s.recBytes 0x0202) 0 4
def State.jumpMt (s : State) : Nat := fieldLE (s.recBytes 0x0202) 4 4
def State.outlierLimit (s : State) : Nat := fieldLE (s.recBytes 0x0202) 8 4
def State.outlierRun (s : State) : Nat := fieldLE (s.recBytes 0x0202) 12 1
def State.autoNt (s : State) : Bool := bitOf (fieldLE (s.recBytes 0x0202) 13 1) 0
def State.autoMt (s : State) : Bool := bitOf (fieldLE (s.recBytes 0x0202) 13 1) 1
def State.inputTimeout (s : State) : Nat := fieldLE (s.recBytes 0x0201) 6 1 * 250000000

/-- A source's filter: 1 PTP, 2 PPS_TOD. -/
def State.src (s : State) (k : Nat) : SrcWin := if k = 1 then s.time.ptp else s.time.pps

/-- Set a source's filter. -/
def State.setSrc (s : State) (k : Nat) (w : SrcWin) : State :=
  if k = 1 then { s with time := { s.time with ptp := w } } else { s with time := { s.time with pps := w } }

/-- Nanoseconds of a 2^-16 ns value, rounded toward minus infinity. -/
def ns16 (x : Int) : Int := x / 65536

/-- The present instant a timestamp is taken on: FR in place of NT while NT is NOT_STARTED (R112), in 2^-16 ns. -/
def State.stampBase16 (s : State) : Int :=
  if s.time.state == .notStarted then (s.time.fr * 65536 / 3 : Nat) else (s.nt16 : Nat)

/-- Shift every window, an offset taken for a re-anchor, and the stamp of an edge that waits for its message, by Δ (2^-16 ns),
so that they refer to the stepped NT (R112). -/
def State.shiftWins (s : State) (d : Int) : State :=
  let g := fun (w : SrcWin) => { w with window := w.window.map (· + d), rejects := w.rejects.map (· + d),
                                        seedRun := w.seedRun.map (· + d) }
  { s with time := { s.time with ptp := g s.time.ptp, pps := g s.time.pps
                                 ntReanchorReady := s.time.ntReanchorReady.map (· + d)
                                 ppsEdge := s.time.ppsEdge.map (fun e => (e.1, e.2 + d)) } }

/-- The last n entries. -/
def lastN {α : Type} (n : Nat) (l : List α) : List α := l.drop (l.length - n)

/-- Whether every value lies within a limit of the median of all. -/
def within (limit : Int) (l : List Int) : Bool :=
  l.all (fun x => decide (x - median l ≤ limit) && decide (median l - x ≤ limit))

/-- The whole second whose PPS_OUT edge NT passed last (R124). -/
def State.ppsSecond (s : State) : Nat := (((s.ntNs : Int) - signed 32 (fieldLE (s.recBytes 0x0203) 8 4)) / 1000000000).toNat

/-- Set NT to a value in 2^-48 ns; the group of three starts anew, and PPS_OUT has no edge for the seconds left behind (log
146). -/
def State.setNt (s : State) (v : Nat) : State :=
  let s1 := { s with time := { s.time with nt := { v := v % (2 ^ 48 * 1000000000 * 2 ^ 48), rem := 0 } } }
  { s1 with time := { s1.time with ppsBase := some s1.ppsSecond } }

/-- Step NT by Δ of 2^-16 ns. -/
def State.stepNt (s : State) (d : Int) : State := s.setNt (((s.time.nt.v : Int) + d * 2 ^ 32).toNat)

/-- NT has taken its start-up step (R113, R124). -/
def State.stepTaken (s : State) : Bool := s.time.state == .locked || s.time.state == .holdover

/-- TIME_NT_OFFSET takes the filtered offset of the active source (R128). -/
def State.noteOffset (s : State) : State :=
  match s.time.active with
  | some k => if (s.src k).window.isEmpty then s
    else { s with time := { s.time with lastOffset := median (s.src k).window } }
  | none => s

/-- The source becomes active; event 0x2005 when it changes (R114), and a run of offsets that was to end HOLDOVER ends
(R115). -/
def State.changeSource (s : State) (k : Option Nat) : State :=
  if s.time.active = k then s
  else
    let s1 := s.postEvent 0x2005 (items [s.time.active.getD 0, k.getD 0, s.time.gm.toNat])
    { s1 with time := { s1.time with active := k, okRun := 0 } }

/-- NT is LOCKED from now on. -/
def State.lock (s : State) : State :=
  { s with time := { s.time with state := .locked, okRun := 0, autoAt := none } }

/-- NT enters HOLDOVER at its last RATE (R113, R115); nothing when it is there already. Cause 0 jump, 1 no input. -/
def State.enterHoldover (s : State) (cause : Nat) : State :=
  if s.time.state == .locked then
    let s1 := { s with time := { s.time with
      state := .holdover, okRun := 0, holdFrom := s.ntNs
      autoAt := if cause = 0 && s.autoNt then some (s.ntNs + 1000000000) else none } }
    s1.postEvent 0x2003 (items [0, cause])
  else { s with time := { s.time with okRun := 0 } }

/-- The jump-refusal rule (R113). -/
def State.refuseJump (s : State) (off : Int) : State :=
  ((s.inc ⟨0x200028, 23, 16⟩).postEvent 0x2002 (items [0, sItem (ns16 off), s.jumpNt])).enterHoldover 0

/-- Beyond JUMP_NT. -/
def State.beyondJump (s : State) (off : Int) : Bool :=
  decide ((s.jumpNt : Int) * 65536 < off) || decide (off < -((s.jumpNt : Int) * 65536))

/-- The servo after an accepted offset (R103): RATE is a free value, refused outside ±858,993. -/
def State.servo (s : State) (off : Int) : State :=
  let (v, s1) := s.draw 32
  if decide (v.toInt < -858993) || decide (858993 < v.toInt) then s1.refuseJump off
  else { s1 with time := { s1.time with rate := v.toInt } }

/-- HOLDOVER_AGE in seconds, saturating (R115). -/
def State.holdAge (s : State) : Nat :=
  if s.time.state == .holdover then Nat.min ((s.ntNs - s.time.holdFrom) / 1000000000) 65535 else 0

/-- An accepted offset, seed or re-seed of the active source once NT has taken its start-up step (R113, R115). -/
def State.discipline (s : State) (off : Int) : State :=
  if s.beyondJump off then s.refuseJump off
  else if s.time.state == .locked then s.servo off
  else if s.time.state == .holdover then
    let n := s.time.okRun + 1
    if s.outlierRun ≤ n then
      (s.postEvent 0x2004 (items [0, s.holdAge])).lock.servo off
    else { s with time := { s.time with okRun := n } }
  else s

/-- MT starts equal to NT, once (R107). -/
def State.startMt (s : State) : State :=
  if s.time.mtState == .notStarted then
    { s with time := { s.time with mt := s.time.nt, mtState := .steered, mtRate := 0 } }
  else s

/-- NT runs from now on: no commit has reached ARMING and no TSF base is set since (R106, R115). -/
def State.ntStarts (s : State) : State :=
  { s with
    time := { s.time with commitSeen := false, tsfSet := false, realignEnd := none }
    grid := { s.grid with start := none } }

/-- A source is higher in priority than another. -/
def State.higher (s : State) (a b : Nat) : Bool := s.srcOrder.takeWhile (· != b) |>.contains a

/-- The source's window is cleared: a start-up step it was to give falls away until it is seeded again (R112). -/
def State.dropStep (s : State) (k : Nat) : State :=
  match s.time.stepPending with
  | some (j, _) => if j = k then { s with time := { s.time with stepPending := none } } else s
  | none => s

/-- The first superframe boundary at least 2 ms later (R117): past the target of a commit that is irrevocable, on the length
that it brings. -/
def State.armBoundary (s : State) : Nat :=
  let t := s.ntNs + 2000000
  s.gridAtOrAfter (if s.commit.state == .committed && decide (s.commit.target < t) then sfLenNs s.commit.newLen else s.sfNs) t

/-- A seed or a re-seed (R112 to R115); the change of source is reported, and a refused seed leaves none active. -/
def State.seeded (s : State) (k : Nat) (seed : Int) : State :=
  let takes := s.time.active.isNone || s.time.cand == some k || (match s.time.active with
    | some a => s.higher k a
    | none => true)
  match s.time.state with
  | .notStarted =>
    if s.clocks.onRoot.getD 4 false then
      let s1 := { s with time := { s.time with active := some k, state := .locked, cand := none } }
      let s2 := (s1.setNt ((((s.time.fr * 65536 / 3 : Nat) - seed) * 2 ^ 32).toNat)).shiftWins (-seed)
      let s3 := s2.ntStarts.startMt.noteOffset
      s3.postEvent 0x2001 (items [sItem (ns16 (-seed)), k, s3.nt64.toNat])
    else s
  | .provisional =>
    if !takes && s.time.active != some k then s
    else
      let s1 := if s.time.active.isNone || s.time.cand == some k then s else s.changeSource (some k)
      let s1 := { s1 with time := { s1.time with active := some k, cand := none } }.noteOffset
      if s.time.commitSeen then
        { s1 with time := { s1.time with
            stepPending := some (k, s1.armBoundary) } }
      else
        let s2 := ((s1.stepNt (-seed)).shiftWins (-seed)).lock.noteOffset
        let s3 := { s2 with time := { s2.time with mtFollow := true } }
        s3.postEvent 0x2001 (items [sItem (ns16 (-seed)), k, s3.nt64.toNat])
  | _ =>
    if s.time.active == some k && s.time.cand != some k then s.noteOffset.discipline seed
    else if !takes then s
    else if s.beyondJump seed then
      let s1 := if s.time.active.isNone || s.time.cand == some k then s else s.changeSource (some k)
      { s1 with time := { s1.time with active := none, cand := none } }.refuseJump seed
    else
      let s1 := if s.time.cand == some k then s else s.changeSource (some k)
      { s1 with time := { s1.time with active := some k, cand := none } }.noteOffset.discipline seed

/-- A new offset of a source (R112), in 2^-16 ns. -/
def State.newOffset (s : State) (k : Nat) (off : Int) : State :=
  let w := s.src k
  let lim : Int := (s.outlierLimit : Int) * 65536
  let w := { w with seedRun := lastN 4 (w.seedRun ++ [off]) }
  if w.window.isEmpty then
    if w.seedRun.length = 4 && within lim w.seedRun then
      let m := median w.seedRun
      (s.setSrc k { w with window := [m], rejects := [], lastFR := s.frNs }).seeded k m
    else s.setSrc k w
  else if within lim [median w.window, median w.window, median w.window, off] then
    let s1 := s.setSrc k { w with window := lastN 8 (w.window ++ [off]), rejects := [], lastFR := s.frNs }
    if s.time.active == some k && s.time.cand != some k then
      if s.stepTaken then s1.noteOffset.discipline off else s1.noteOffset
    else s1
  else
    let r := lastN (Nat.max s.outlierRun 1) (w.rejects ++ [off])
    let s0 := s.inc ⟨0x200028, 15, 0⟩
    let s1 := if s.time.active = some k then { s0 with time := { s0.time with okRun := 0 } } else s0
    if r.length = s.outlierRun && within lim r then
      let m := median r
      (s1.setSrc k { w with window := [m], rejects := [], lastFR := s.frNs }).seeded k m
    else s1.setSrc k { w with rejects := r }

/-- A request for a re-anchor (R117): its status. -/
def State.reanchor (s : State) (base : Nat) : Nat × State :=
  let pend := Tab.has s.time.reanchors base || (base = 0 && s.time.stepPending.isSome) || (base = 1 && s.time.mtFollow)
  if s.time.state == .notStarted then (0x1C, s)
  else if pend then (0x1D, s)
  else
    let b := if base < 2 then s.armBoundary else s.gridAtOrAfter (sfLenNs 3) (s.ntNs + 2000000)
    (0, { s with time := { s.time with reanchors := Tab.put s.time.reanchors base b } })

/-- A step of NT is armed for a boundary (R119): one armed for an instant that a length change took from the grid falls on
the first boundary after it. -/
def State.stepArmedFor (s : State) (b : Nat) : Bool :=
  (match s.time.stepPending with | some (_, t) => s.gridAtOrAfter s.sfNs t == b | none => false)
    || (match Tab.get? s.time.reanchors 0 with | some t => s.gridAtOrAfter s.sfNs t == b | none => false)

/-- Put off a step armed for a boundary to the next one: the boot commit's precedence (R119, R144). A re-anchor's offset is
taken anew at its new deadline (R117). -/
def State.deferStep (s : State) (b : Nat) : State :=
  let nb := s.gridAtOrAfter s.sfNs (b + 1)
  let moved := (Tab.get? s.time.reanchors 0).any fun t => s.gridAtOrAfter s.sfNs t == b
  { s with time := { s.time with
    stepPending := s.time.stepPending.map (fun p => if s.gridAtOrAfter s.sfNs p.2 = b then (p.1, nb) else p)
    ntReanchorReady := if moved then none else s.time.ntReanchorReady
    reanchors := if moved then Tab.put s.time.reanchors 0 nb else s.time.reanchors } }

/-- Apply a step of NT at a boundary, in 2^-16 ns of the old NT (R118): the realignment interval lasts to the first grid point
of the new NT. -/
def State.applyNtStep (s : State) (b16 d : Int) : State :=
  let s1 := ((s.stepNt d).shiftWins d).noteOffset
  let b' := ((b16 + d + 65535) / 65536).toNat
  let g := s1.gridAtOrAfter s1.sfNs b'
  { s1 with time := { s1.time with realignEnd := if g = b' then none else some g } }

/-- The start-up step that boundary b takes (2^-16 ns): the filtered offset of its source (R117). -/
def State.startStep (s : State) (b : Nat) : Option (Nat × Int) :=
  (s.time.stepPending.filter (fun p => p.2 == b)).map fun p => (p.1, -(median (s.src p.1).window))

/-- Steps and re-anchors armed for boundary b (R117, R118): a start-up step takes the filtered offset of its source, a
re-anchor of NT the offset of its deadline, MT follows at the next mesh superframe start (its request is armed no longer: log 160), a TSF
restarts at 0. -/
def State.applySteps (s : State) (b : Nat) : State :=
  let d0 := s.startStep b
  let s1 := match d0 with
    | some (k, d) =>
      let x := (s.applyNtStep (b * 65536 : Nat) d).lock
      let x := { x with time := { x.time with stepPending := none, mtFollow := true } }
      x.postEvent 0x2001 (items [sItem (ns16 d), k, x.nt64.toNat])
    | none => s
  let s2 := match s1.time.ntReanchorReady with
    | some off =>
      if Tab.get? s1.time.reanchors 0 = some b then
        let x := (s1.applyNtStep ((b * 65536 : Nat) + (d0.map (·.2)).getD 0) (-off)).lock
        let x := { x with time := { x.time with ntReanchorReady := none, reanchors := Tab.del x.time.reanchors 0 } }
        x.postEvent 0x2006 (items [0, sItem (ns16 (-off)), b % 2 ^ 64])
      else s1
    | none => s1
  let s3 := if Tab.get? s2.time.reanchors 1 = some b then
      { s2 with time := { s2.time with mtFollow := true, reanchors := Tab.del s2.time.reanchors 1 } } else s2
  [2, 3, 4].foldl (fun s base =>
    if Tab.get? s.time.reanchors base = some b then
      let old := s.time.tsfBase.getD (base - 2) 0
      let x := { s with time := { s.time with
        tsfBase := s.time.tsfBase.set (base - 2) (BitVec.ofNat 64 b), reanchors := Tab.del s.time.reanchors base } }
      x.postEvent 0x2006 (items [base, sItem ((old.toNat : Int) - (b % 2 ^ 64 : Nat)), b % 2 ^ 64])
    else s) s3

/-- In a realignment interval (R118). -/
def State.realigning (s : State) : Bool :=
  match s.time.realignEnd with
  | some g => decide (s.ntNs < g)
  | none => false

/-- TSF of a radio (R106): floor((NT64 − TSF_BASE) / 1,000) mod 2^64. -/
def State.tsf (s : State) (r : Nat) : NT64 :=
  BitVec.ofInt 64 (((s.nt64.toNat : Int) - (s.time.tsfBase.getD r 0).toNat) / 1000)

/-- MT takes its pending step or re-anchor at a mesh superframe start (R107, R117). -/
def State.mtFollows (s : State) : State :=
  if s.time.mtFollow && s.ntValid then
    let d : Int := ((s.time.nt.v : Int) - s.time.mt.v) / 2 ^ 48
    let s1 := { s with time := { s.time with mt := s.time.nt, mtFollow := false, mtState := .steered } }
    s1.postEvent 0x2006 (items [1, sItem d, s.nt64.toNat])
  else s

end Sys2Proof.Machine
end

