-- ==== Sys2Proof/Machine/CipherOps.lean ====
section
/-! DEFINITION. Tenant pages, key slots, counters and references of the cipher engine (12 R348 to R362). -/

namespace Sys2Proof.Machine

/-- A tenant page (R350, R368): its function, suite classes and range of slots. -/
structure Page where
  page : Nat
  owner : Nat
  suites : Nat
  base : Nat
  count : Nat
deriving DecidableEq, Repr

/-- The pages; without a record page 0 holds every slot and admits every class (R350). -/
def State.pages (s : State) : List Page :=
  let l := (s.recsOf 0x0A01).map fun b =>
    (⟨fieldLE b 0 1, fieldLE b 1 1, fieldLE b 2 1 % 16, fieldLE b 4 2, fieldLE b 6 2⟩ : Page)
  if l.isEmpty then [⟨0, 0, 15, 0, 16384⟩] else l

/-- Page p; one without a record has no slots and owner 0. -/
def State.page (s : State) (p : Nat) : Page := (s.pages.find? (·.page == p)).getD ⟨p, 0, 0, 0, 0⟩

/-- The page that holds a slot. -/
def State.slotPage (s : State) (slot : Nat) : Option Page :=
  s.pages.find? fun p => decide (p.base ≤ slot) && decide (slot < p.base + p.count)

/-- Whether a slot lies in a page. -/
def State.slotIn (s : State) (slot p : Nat) : Bool := match s.slotPage slot with
  | some g => g.page == p
  | none => false

/-- The function that owns a tenant page (R350). -/
def State.tenantOwner (s : State) (t : Nat) : Nat := (s.page t).owner

/-- Class bit of a suite (R350), or none for a code R348 does not list. -/
def suiteClass (c : Nat) : Option Nat :=
  if 1 ≤ c ∧ c ≤ 8 then some 0 else if 0x20 ≤ c ∧ c ≤ 0x23 then some 1 else if c = 0x10 then some 2
  else if c = 0x30 ∨ c = 0x31 then some 3 else none

/-- Whether a page admits a suite (R350). -/
def Page.admits (p : Page) (c : Nat) : Bool :=
  match suiteClass c with
  | some k => bitOf p.suites k && (k != 1 || p.owner == 0) && (k != 2 || p.page == 0)
  | none => false

/-- Key bytes of a suite. -/
def suiteKeyLen (c : Nat) : Nat :=
  if c = 1 ∨ c = 3 ∨ c = 5 ∨ c = 7 ∨ c = 0x10 ∨ c = 0x20 ∨ c = 0x22 ∨ c = 0x30 then 16 else 32

/-- The final value of a suite's counter (R356). -/
def finalValue (c : Nat) : Nat :=
  if c ≤ 8 then 0xFFFFFFFFFFFF else if c = 0x20 ∨ c = 0x21 ∨ c = 0x10 then 0xFFFFFFFF else 0xFFFFFFFFFFFFFFFF

/-- Where the warning applies (R356). -/
def warnValue (c : Nat) : Nat :=
  if c ≤ 8 then 0xFFFFFFF00000 else if c = 0x20 ∨ c = 0x21 ∨ c = 0x10 then 0xFFF00000 else 0xFFFFFFFFFFF00000

/-- A slot. -/
def State.slot (s : State) (k : Nat) : KeySlot := Tab.getD s.cipher.slots k {}

/-- Set a slot; an empty one that was never written is not listed. -/
def State.setSlot (s : State) (k : Nat) (x : KeySlot) : State :=
  { s with cipher := { s.cipher with slots := if x = {} then Tab.del s.cipher.slots k else Tab.put s.cipher.slots k x } }

/-- Base of a page's registers (R371). -/
def pageBase (p : Nat) : Nat := 0x2800000 + p * 0x10000

/-- Count in a register of the page that holds a slot: 0 _CNT_A, 1 _CNT_B, 2 _CNT_C, low or high half. -/
def State.countPage (s : State) (slot reg : Nat) (high : Bool) : State :=
  match s.slotPage slot with
  | some p => s.inc ⟨pageBase p.page + 0x20 + 4 * reg, if high then 31 else 15, if high then 16 else 0⟩
  | none => s

/-- Refuse across a page boundary: event 0xA005, which names a function (R351), and one that names the tenant of a frame (R370). -/
def State.isolationEvent (s : State) (who slot : Nat) : State :=
  s.postEvent 0xA005 (items [who, slot]) [who]
def State.isolationTenant (s : State) (tenant slot : Nat) : State := s.postEvent 0xA005 (items [tenant, slot])

/-- The generation an admission binds to (R352, R355). -/
def State.bindGen (s : State) (slot : Nat) : Option KeyGen :=
  let k := s.slot slot
  if k.erasing.isSome then none else k.cur

/-- The generation that an operation admitted at an instant (elapsed) is bound to (R352 to R355): none before a slot's first key, and
from the instant on at which an erase is admitted. -/
def State.boundAt (s : State) (slot t : Nat) : Option KeyGen :=
  let k := s.slot slot
  if k.erasing.isSome && decide (k.eraseAt ≤ t) then none
  else k.cur.bind fun g => if g.since ≤ t then some g else k.ret

/-- A generation whose suite serves an interface (R348): class 0 802.11, 1 MACsec. -/
def KeyGen.serves (g : KeyGen) (cls : Nat) : Bool := suiteClass g.suite == some cls

/-- The instant (elapsed) some ns ago. -/
def State.nsAgo (s : State) (ns : Nat) : Nat := s.elapsed - ns * 3 / 5

/-- Draw the next transmit counter of a slot (R356, R357): none where the draw would be the final value, and the slot
locks. A drawn value is committed whatever becomes of it. -/
def State.drawCounter (s : State) (slot : Nat) : Option Nat × State :=
  let k := s.slot slot
  match k.cur with
  | none => (none, s)
  | some g =>
    if finalValue g.suite ≤ g.tx then
      if g.locked then (none, s)
      else (none, (s.setSlot slot { k with cur := some { g with locked := true } }).postEvent 0xA002 (items [slot, g.gen]))
    else
      let warn := decide (warnValue g.suite ≤ g.tx + 1) && !g.warned
      let s1 := s.setSlot slot { k with cur := some { g with tx := g.tx + 1, warned := g.warned || warn } }
      (some g.tx, if warn then s1.postEvent 0xA001 (items [slot, g.gen, g.tx + 1]) else s1)

/-- Admit an operation (R349, R352). -/
def State.cphAdmit (s : State) (op : CphOp) : State :=
  { s with cipher := { s.cipher with
    ops := Tab.put s.cipher.ops s.cipher.nextOp op, nextOp := s.cipher.nextOp + 1 } }

/-- Fewer than 1,024 operations are in flight (R349). -/
def State.cphRoom (s : State) : Bool := decide (s.cipher.ops.length < 1024)

/-- Zeroise a retiring generation no operation refers to (R352, R367). -/
def State.zeroise (s : State) (slot : Nat) : State :=
  let k := s.slot slot
  match k.ret with
  | some g =>
    if s.cipher.ops.any (fun o => o.2.slot == slot && o.2.gen == g.gen) then s
    else s.setSlot slot { k with ret := none }
  | none => s

/-- A generation stops being current while frames may be arriving that were admitted under it (R352, R361): a reference for each radio in
a reception, or each receive SA that names the slot. REFERENCE_END ends it (log 179). -/
def State.pinGen (s : State) (slot : Nat) (g : KeyGen) : State :=
  let radios := if g.serves 0 then (List.range 3).filter fun r =>
      let st := (Tab.getD s.radios r {}).rx.state
      st == .data || st == .tb
    else []
  let sas := if g.serves 1 then s.eth.rxSa.filter fun e => e.2.1 == slot else []
  (List.range (radios.length + sas.length)).foldl (fun s _ => if s.cphRoom then s.cphAdmit { slot := slot, gen := g.gen } else s) s

/-- A slot begins to be erased: no admission binds to it from now on (R354). -/
def State.beginErase (s : State) (slot fn tag : Nat) : State :=
  let s1 := match (s.slot slot).cur with
    | some g => s.pinGen slot g
    | none => s
  s1.setSlot slot { s1.slot slot with erasing := some (fn, tag), eraseAt := s.elapsed }

/-- The commands that wait for a slot, once nothing runs there (R354): an erase that comes first is admitted, or
completes CPH_NO_KEY on an empty slot. -/
def State.nextWaiting (s : State) (slot : Nat) : State :=
  let k := s.slot slot
  match k.waiting with
  | w :: rest =>
    if k.erasing.isSome || w.block.isSome then s
    else
      let s1 := s.setSlot slot { k with waiting := rest }
      if k.cur.isNone && k.ret.isNone then s1.complete w.fn w.tag 0x64 else s1.beginErase slot w.fn w.tag
  | [] => s

/-- The generation a key block makes (R353, R366). -/
def genOf (gen suite : Nat) (b : List Byte) : KeyGen :=
  let init := if suite ≤ 8 then fieldLE b 48 6 else fieldLE b 48 8
  { gen := gen, suite := suite, key := slice b 0 (suiteKeyLen suite), salt := slice b 32 12, ssci := fieldLE b 44 4
    keyId := fieldLE b 56 1, tx := 1, rx := List.replicate 9 init }

/-- A key block whose unused bytes are 0 and whose fields are in range (R366). -/
def blockOk (suite : Nat) (b : List Byte) : Bool :=
  let xpn := suite == 0x22 || suite == 0x23
  let svc := suite == 0x30 || suite == 0x31
  let keyIdOk := if suite ≤ 4 then decide (fieldLE b 56 1 ≤ 3)
    else if suite ≤ 8 then fieldLE b 56 1 == 4 || fieldLE b 56 1 == 5
    else if 0x20 ≤ suite && suite ≤ 0x23 then decide (fieldLE b 56 1 ≤ 3) else fieldLE b 56 1 == 0
  allZero (slice b (suiteKeyLen suite) (32 - suiteKeyLen suite))
    && (xpn || allZero (slice b (if svc then 36 else 32) (if svc then 8 else 12)))
    && (xpn || fieldLE b 44 4 == 0) && decide (fieldLE b 48 8 < finalValue suite) && keyIdOk && allZero (slice b 57 7)

/-- Whether a write's key is that of the current generation. -/
def State.sameKey (s : State) (slot suite : Nat) (b : List Byte) : Bool :=
  match (s.slot slot).cur with
  | some g => g.key == slice b 0 (suiteKeyLen suite)
  | none => false

/-- A write takes effect (R353): the same key keeps its generation and counters; otherwise the current one retires. -/
def State.installKey (s : State) (slot suite : Nat) (b : List Byte) : State :=
  let k := s.slot slot
  let next : KeySlot :=
    { k with gen := (k.gen + 1) % 65536, cur := some { genOf ((k.gen + 1) % 65536) suite b with since := s.elapsed } }
  match k.cur with
  | some g =>
    let n := genOf g.gen suite b
    if s.sameKey slot suite b then s.setSlot slot { k with cur := some { g with keyId := n.keyId, rx := n.rx } }
    else (((s.setSlot slot { next with ret := some g }).pinGen slot g).zeroise slot)
  | none => s.setSlot slot next

/-- The index of a receive counter (R362): TID 0 to 7, else the ninth; the only one of a group or BIP slot. -/
def rxIdx (one : Bool) (tid : Nat) : Nat := if one then 0 else if tid < 8 then tid else 8

/-- The replay check of a frame (R362), against the counter of the generation it is bound to (R352): accepted, and the counter set, or
discarded and counted. The counters of a generation that is gone are zeroised. -/
def State.replayCheck (s : State) (slot gen idx pn : Nat) : Bool × State :=
  let k := s.slot slot
  let mine := fun (o : Option KeyGen) => o.any (·.gen == gen)
  let last := if mine k.cur then k.cur.elim 0 (·.rx.getD idx 0) else if mine k.ret then k.ret.elim 0 (·.rx.getD idx 0) else 0
  let set := fun (g : KeyGen) => { g with rx := g.rx.set idx pn }
  if last < pn then
    (true, if mine k.cur then s.setSlot slot { k with cur := k.cur.map set }
      else if mine k.ret then s.setSlot slot { k with ret := k.ret.map set } else s)
  else
    let s1 := s.countPage slot 0 true
    let p := ((s.slotPage slot).map (·.page)).getD 0
    (false, { s1 with cipher := { s1.cipher with replays := Tab.put s1.cipher.replays p (Tab.getD s1.cipher.replays p 0 + 1) } })

/-- A tag failure of the page that holds the slot (R361). -/
def State.tagFailed (s : State) (slot : Nat) (untrusted : Bool) : State :=
  let s1 := if untrusted then s.countPage slot 2 true else s.countPage slot 0 false
  let p := ((s.slotPage slot).map (·.page)).getD 0
  { s1 with cipher := { s1.cipher with tagFails := Tab.put s1.cipher.tagFails p (Tab.getD s1.cipher.tagFails p 0 + 1) } }

/-- Events 0xA003 and 0xA004 for the superframe that ends (R361, R362; log 18). -/
def State.cipherSuperframe (s : State) : State :=
  let s1 := s.cipher.replays.foldl (fun s e => s.postEvent 0xA003 (items [e.1, e.2])) s
  let s2 := s.cipher.tagFails.foldl (fun s e => s.postEvent 0xA004 (items [e.1, e.2])) s1
  { s2 with cipher := { s2.cipher with replays := [], tagFails := [] } }

/-- The engine's fault (R367): operations end, retiring generations are zeroised, writes and erases that wait are dropped without
effect; an error in slot memory (an ECC cause, log 27) erases every slot with event 0xA006. -/
def State.clearCipher (s : State) (slotMemory : Bool) : State :=
  let n := (s.cipher.slots.filter (fun e => e.2.cur.isSome)).length
  if slotMemory then
    { s with cipher := { s.cipher with ops := [], slots := [] } }.postEvent 0xA006 (items [n])
  else
    { s with cipher := { s.cipher with
      ops := []
      slots := Tab.mapV s.cipher.slots fun _ k => { k with ret := none, waiting := [], erasing := none } } }

end Sys2Proof.Machine
end

