-- ==== Sys2Proof/Machine/RadioOps.lean ====
section
/-! DEFINITION. Chains, tuners, synthesisers, reciprocity and launches of a radio (06), on which the rows of the
front-ends, the basebands and the MACs are built. -/

namespace Sys2Proof.Machine

/-- Maximum width code of a radio (05 R145). -/
def maxWidth (r : Nat) : Nat := if r = 0 then 1 else if r = 1 then 3 else 4

/-- The greatest width code of a radio in a mode (05 R145). -/
def modeWidth (r mode : Nat) : Nat := if mode = 4 then [1, 2, 3].getD r 0 else maxWidth r

/-- A value in a range. -/
def inR (v lo hi : Nat) : Bool := decide (lo ≤ v) && decide (v ≤ hi)

/-- Channel numbers of a radio (07 R203). -/
def channelRange (r : Nat) : Nat × Nat := if r = 0 then (1, 13) else if r = 1 then (36, 177) else (1, 233)

/-- The place of the primary 20 MHz within a channel of width code w, from the lowest (IEEE 802.11 numbers 5 MHz steps). -/
def primaryIndex (w primary centre : Nat) : Option Nat :=
  let d := primary + 2 * (2 ^ w - 1)
  if centre ≤ d && (d - centre) % 4 == 0 && decide ((d - centre) / 4 < 2 ^ w) then some ((d - centre) / 4) else none

/-- The puncturing patterns of 320 MHz: one 40 MHz, one 80 MHz, or the lowest or highest 80 MHz and one more 40 MHz (log 58). -/
def punct320 : List Nat :=
  (List.range 8).map (fun i => 3 * 4 ^ i) ++ (List.range 4).map (fun i => 15 * 16 ^ i)
    ++ (List.range 6).map (fun i => 15 + 3 * 4 ^ (i + 2)) ++ (List.range 6).map (fun i => 15 * 4096 + 3 * 4 ^ i)

/-- A pattern that HE or EHT allows for a width with its primary in place p (log 58). -/
def punctOk (w p pat : Nat) : Bool :=
  decide (pat < 2 ^ 2 ^ w) && !bitOf pat p
    && (if w ≤ 1 then pat == 0
        else if w = 2 then decide (popcount 4 pat ≤ 1)
        else if w = 3 then !bitOf pat (p ^^^ 1) || bitsOf pat (p / 4 * 4 + 3) (p / 4 * 4) == 2 ^ ((p ^^^ 1) % 4)
        else pat == 0 || punct320.contains pat)

/-- A channel and pattern of a radio; width code 7 is a radio kept off. -/
def channelOk (r w primary centre pat : Nat) : Bool :=
  w == 7 || (decide (w ≤ maxWidth r) && inR primary (channelRange r).1 (channelRange r).2
    && inR centre (channelRange r).1 (channelRange r).2 && (primaryIndex w primary centre).any (fun p => punctOk w p pat))

/-- The greatest MU order of a radio in a mode (05 R145). -/
def muOrder (r mode : Nat) : Nat :=
  if mode = 0 then (if r = 0 then 16 else 32) else [0, 8, 4, 16, 8, 0].getD mode 0

/-- Associated stations a mode allows (05 R145). -/
def staLimit (mode : Nat) : Nat := if mode = 3 then 8192 else 2048

/-- A radio. -/
def State.radio (s : State) (r : Nat) : RadioSt := Tab.getD s.radios r {}

/-- Change a radio. -/
def State.modRadio (s : State) (r : Nat) (f : RadioSt → RadioSt) : State :=
  { s with radios := Tab.put s.radios r (f (s.radio r)) }

/-- A chain, by the index of 03 R98. -/
def State.chain (s : State) (i : Nat) : ChainSt := Tab.getD s.chains i {}

/-- Whether a chain is powered, and its switches do not open (16 R464). -/
def State.chainOn (s : State) (i : Nat) : Bool := (s.chain i).powered && !Tab.has s.power.downing (32 + i)

/-- Change a chain. -/
def State.modChain (s : State) (i : Nat) (f : ChainSt → ChainSt) : State :=
  { s with chains := Tab.put s.chains i (f (s.chain i)) }

/-- Base of a radio's FE and BB registers (06 R181, 07 R206). -/
def feBase (r : Nat) : Nat := 0x1000000 + r * 0x100000
def bbBase (r : Nat) : Nat := 0x1400000 + r * 0x100000
def macBase (r : Nat) : Nat := 0x1800000 + r * 0x100000

/-- The chains whose bits are set in a pair of EN words, of those the variant has. -/
def State.setOf (s : State) (r : Nat) (en0 en1 : Word) : List Nat :=
  (List.range (s.chainCount r)).filter fun c => if c < 32 then en0.getLsbD c else en1.getLsbD (c - 32)

/-- The active chain set. -/
def State.chainSet (s : State) (r : Nat) : List Nat := s.setOf r (s.reg (feBase r + 0x10)) (s.reg (feBase r + 0x14))

/-- The staged chain set. -/
def State.stagedSet (s : State) (r : Nat) : List Nat := s.setOf r (s.sreg (feBase r + 0x10)) (s.sreg (feBase r + 0x14))

/-- A binding of Tile Link k from its TL_k_BIND word (07 R186): radio, base, count. -/
def bindingOf (w : Word) : Option (Nat × Nat × Nat) :=
  if w.getLsbD 0 then some (bitsOf w.toNat 2 1, bitsOf w.toNat 8 3, bitsOf w.toNat 15 9) else none

/-- The active and the staged TL_k_BIND. -/
def State.bind (s : State) (k : Nat) : Option (Nat × Nat × Nat) := bindingOf (s.reg (0x3800008 + k * 0x10000))
def State.sbind (s : State) (k : Nat) : Option (Nat × Nat × Nat) := bindingOf (s.sreg (0x3800008 + k * 0x10000))

/-- The Tile Link that binds an external chain. -/
def State.linkOf (s : State) (r c : Nat) : Option Nat :=
  (List.range 12).find? fun k => match s.bind k with
    | some (r', b, n) => r' == r && decide (b ≤ c) && decide (c < b + n)
    | none => false

/-- The group of a chain (06 R170): its integrated group, or 2 + k of its Tile Link. -/
def State.groupOf (s : State) (r c : Nat) : Option Nat :=
  if c < integrated r then some (c / 8) else (s.linkOf r c).map (2 + ·)

/-- The die of a group: the integrated groups of a radio stand on one band die, whose two synthesisers feed them all (R163, 01
R19); a tile is a die of its own. -/
def dieOf (g : Nat) : Nat := if g < 2 then 0 else g

/-- The synthesisers that feed a group. -/
def State.syn (s : State) (r g : Nat) : SynSt := Tab.getD (s.radio r).syn (dieOf g) {}

/-- Change the synthesisers that feed a group. -/
def State.modSyn (s : State) (r g : Nat) (f : SynSt → SynSt) : State :=
  s.modRadio r fun x => { x with syn := Tab.put x.syn (dieOf g) (f (Tab.getD x.syn (dieOf g) {})) }

/-- The group's active synthesiser is locked and feeds its chains; a tile's link is in service too (R162). -/
def State.groupLocked (s : State) (r g : Nat) : Bool :=
  let x := s.syn r g
  x.locked && decide (x.lockFrom ≤ s.elapsed) && (decide (g < 2) || s.inService (.link (g - 2)))

/-- Every group that carries one of the chains is locked (R165). -/
def State.chainsLocked (s : State) (r : Nat) (l : List Nat) : Bool :=
  l.all fun c => match s.groupOf r c with
    | some g => s.groupLocked r g
    | none => false

/-- A chain whose Tile Link is not in service is absent (01 R33). -/
def State.linkAbsent (s : State) (r c : Nat) : Bool :=
  match s.linkOf r c with | some k => !(s.inService (.link k)) | none => false

/-- Of a list of chains, those that take part in a launch: neither blocked (R159) nor absent (01 R33). -/
def State.launchable (s : State) (r : Nat) (l : List Nat) : List Nat :=
  l.filter fun c => !(s.chain (chainBase r + c)).blocked && !s.linkAbsent r c

/-- The chains of a launch: the active set less those that take no part. -/
def State.launchSet (s : State) (r : Nat) : List Nat := s.launchable r (s.chainSet r)

/-- A coefficient is at most 2 s old (R169). -/
def State.coefFresh (s : State) (i : Nat) : Bool := match (s.chain i).coefAt with
  | some t => decide (s.elapsed ≤ t + ms 2000)
  | none => false

/-- Calibration status of a chain (R170). -/
def State.calStatus (s : State) (i : Nat) : Nat :=
  let x := s.chain i
  if x.island then 3 else if s.coefFresh i then 0 else if x.pending || x.coefAt.isNone then 1 else 2

/-- The channel a staged bank changes (R163): the whole of BB_x_CHAN. -/
def State.channelStaged (s : State) (r : Nat) : Bool := s.sreg (bbBase r + 4) != s.reg (bbBase r + 4)

/-- The groups that serve a list of chains. -/
def State.groupsOf (s : State) (r : Nat) (l : List Nat) : List Nat := (l.filterMap (s.groupOf r)).eraseDups

/-- Scale a coefficient by 1 / c of the new reference (R170): arithmetic of a format the spec does not give (log 28). -/
def rescale (coef ref : Coef) : Coef :=
  match coef, ref with
  | c, .one => c
  | .one, .words b => .words (b.map fun b => (Config.freeOf 64 [0x7170, b]).toNat)
  | .words a, .words b => .words ((a.zip b).map fun (a, b) => (Config.freeOf 64 [0x7170, a, b]).toNat)

/-- c_i from the two probes of a pair, h_ij / h_ji = c_i / c_j (R169), in the same arithmetic (log 28). -/
def pairCoef (hij hji : List Nat) (cj : Coef) : Coef :=
  match cj with
  | .one => .words ((hij.zip hji).map fun (a, b) => (Config.freeOf 64 [0x7169, a, b]).toNat)
  | .words c => .words ((hij.zip (hji.zip c)).map fun (a, b, c) => (Config.freeOf 64 [0x7169, a, b, c]).toNat)

/-- Choose the reference chain again where the present one has left the set or is blocked (R169, R170). -/
def State.checkRef (s : State) (r : Nat) : State :=
  let ok := fun c => (s.chainSet r).contains c && !(s.chain (chainBase r + c)).blocked
  let keep := match (s.radio r).ref with | some c => ok c | none => false
  if keep then s
  else
    match (List.range (integrated r)).find? ok with
    | none => s
    | some c =>
      let s1 := s.modRadio r fun x => { x with ref := some c }
      if (s.radio r).ref.isNone then s1
      else
        let valid := s.calStatus (chainBase r + c) == 0
        let cr := (s.chain (chainBase r + c)).coef
        (List.range (s.chainCount r)).foldl (fun s d =>
          s.modChain (chainBase r + d) fun x =>
            if valid then { x with coef := if d = c then .one else rescale x.coef cr }
            else { x with coefAt := none, pending := true, stale := false, island := false }) s1

/-- The groups linked to the reference chain's group by probe paths, directly or through others (R170). -/
def linkedGroups (paths : List (Nat × Nat)) (from_ : List Nat) : Nat → List Nat
  | 0 => from_
  | n + 1 =>
    let more := paths.filterMap fun (a, b) =>
      if from_.contains a && !from_.contains b then some b
      else if from_.contains b && !from_.contains a then some a else none
    linkedGroups paths ((from_ ++ more).eraseDups) n

/-- Islands after a round of probes (R170); event 0x4005 with the groups that are not linked. -/
def State.checkIslands (s : State) (r : Nat) : State :=
  match (s.radio r).ref.bind (s.groupOf r) with
  | none => s
  | some g =>
    let set := s.chainSet r
    let links := ((s.radio r).paths.filter (fun p => set.contains p.1)).filterMap fun p => (s.groupOf r p.1).map (·, p.2)
    let l := linkedGroups links [g] 14
    let off := fun c => match s.groupOf r c with | some h => !(l.contains h) | none => true
    let new := set.any fun c => off c && !(s.chain (chainBase r + c)).island
    let s1 := set.foldl (fun s c => s.modChain (chainBase r + c) fun x => { x with island := off c }) s
    if new then
      s1.postEvent 0x4005 (items [r, bitMap 14 (fun h => (s.groupsOf r set).contains h && !(l.contains h))])
    else s1

/-- A tuner moves (R156, R157): its credit falls by 1, its count rises by 1; wear milestones and the freeze. -/
def State.moveTuner (s : State) (i pos : Nat) : State :=
  let x := s.chain i
  let s1 := s.modChain i fun x => { x with pos := pos, count := (x.count + 1) % 2 ^ 32, credit := x.credit - 1 }
  let s2 := if (x.count + 1) % 100000000 = 0 then s1.postEvent 0x4007 (items [i, x.count + 1]) else s1
  if x.count + 1 = 1000000000 then s2.postEvent 0x4008 (items [i]) else s2

/-- The dies of a radio: its band die, and the tiles of the Tile Links that a bank binds to it (R163). -/
def dieGroups (r : Nat) (bind : Nat → Option (Nat × Nat × Nat)) : List Nat :=
  [0] ++ ((List.range 12).filter fun k => (bind k).any (fun b => b.1 == r)).map (2 + ·)

/-- A tuner lacks credit: at 0, or frozen (R155, R157). -/
def ChainSt.lacksCredit (x : ChainSt) : Bool := x.credit == 0 || decide (1000000000 ≤ x.count)

/-- Staged or active tuner position of chain c. -/
def tunerPos (r c : Nat) : FieldRef := ⟨feBase r + 0x1000 + 4 * c, 9, 0⟩

/-- The swap of a radio's front-end (R156, R161, R163): powered chains that join, chains that leave, tuners, synthesisers; a
tuner without credit at its first swap after power-up is named by event 0x3014.
`old` is the chain set before, `changed` whether the channel changed; the new bank is active already. -/
def State.feSwap (s : State) (r : Nat) (old : List Nat) (changed : Bool) : State :=
  let new := s.chainSet r
  let gone := old.filter (fun c => !new.contains c)
  let s1 := gone.foldl (fun s c => s.modChain (chainBase r + c) fun x => { x with state := .off, serving := false, island := false }) s
  let s2 := s1.powerDown (gone.map (fun c => 32 + chainBase r + c))
  let s3 := new.foldl (fun s c =>
    let i := chainBase r + c
    if (s.chain i).serving then s
    else s.modChain i fun x =>
      { x with serving := x.powered, pending := !(s.coefFresh i), stale := false, island := false }) s2
  let s4 := new.foldl (fun s c =>
    let i := chainBase r + c
    let x := s.chain i
    let p := s.get (tunerPos r c)
    if x.pos = p || !x.powered then s
    else if x.lacksCredit then (if x.upNew then s.postEvent 0x3014 (items [i]) else s)
    else s.moveTuner i p) s3
  let s5 := (List.range (s.chainCount r)).foldl (fun s c =>
    s.modChain (chainBase r + c) fun x =>
      { x with proposed := false, hostPos := false, upNew := x.upNew && !(x.powered && new.contains c) }) s4
  let s6 := if changed then
      (dieGroups r s5.bind).foldl (fun s g => s.modSyn r g fun x =>
        { x with active := 1 - x.active, locked := x.idle == .pretuned, lockFrom := s.elapsed + 480, idle := .relocking }) s5
    else s5
  (s6.modRadio r fun x => { x with added := [] }).checkRef r

/-- A radio's staged bank takes writes (05 R134, R137). -/
def State.bankOpen (s : State) (r : Nat) : Bool := s.commit.stageOpen && !(s.commit.locked && s.commit.part.getLsbD r)

/-- The front-end stages a position of its own accord, under the conditions that stand then (R158); one that is staged already
is no new proposal. -/
def State.propose (s : State) (r c pos : Nat) : State :=
  let i := chainBase r + c
  let x := s.chain i
  if s.flag ⟨feBase r + 4, 24, 24⟩ && decide (s.get ⟨feBase r + 8, 17, 0⟩ < x.credit) && !x.blocked
      && decide (x.count < 1000000000) && !x.hostPos && s.sget (tunerPos r c) != pos % 1024 then
    let old := s.sget (tunerPos r c)
    ((s.sput (tunerPos r c) pos).modChain i fun x => { x with proposed := true }).postEvent 0x4009 (items [i, old, pos % 1024])
  else s

/-- Proposals that waited are made where the bank is open (R158). -/
def State.stageHeld (s : State) : State :=
  [0, 1, 2].foldl (fun s r =>
    if !(s.bankOpen r) then s
    else (List.range (s.chainCount r)).foldl (fun s c => match (s.chain (chainBase r + c)).heldPos with
      | some p => (s.modChain (chainBase r + c) fun x => { x with heldPos := none }).propose r c p
      | none => s) s) s

/-- Blocks whose clear was written are cleared at a Meridian (R159); a radio left without a usable reference chooses one
again (R169). -/
def State.feMeridian (s : State) : State :=
  let s1 := { s with chains := Tab.mapV s.chains fun _ x => if x.clearing then { x with blocked := false, clearing := false } else x }
  [0, 1, 2].foldl (fun s r => if (s.radio r).ref.isSome then s.checkRef r else s) s1

/-- Nothing launches in HOLD (03 R74), nor from the end of step 1 of a Dormant entry on (05 R147). -/
def State.airClosed (s : State) : Bool :=
  s.boot.state == .hold || (match s.dormant.seq with | .none => false | .entry n => decide (2 ≤ n) | _ => true)

/-- The instant lies in the realignment interval that the last step of NT opened (04 R118). -/
def State.inRealign (s : State) (t : Nat) : Bool := s.time.realignEnd.any fun g => decide (t < g)

/-- What a chain goes back to when it stops transmitting or calibrating. -/
def State.restState (s : State) (r : Nat) : ChainState := if (s.radio r).rxOpen then .rx else .standby

/-- Change a planned PPDU. -/
def State.modPpdu (s : State) (id : Nat) (f : Ppdu → Ppdu) : State :=
  { s with mac := { s.mac with plan := Tab.upd s.mac.plan id f } }

/-- End a launch on the air: PAs off, chains back to RX or STANDBY (R167). The window of a planned trigger or of one with
random-access RUs opens only after its PPDU was sent (07 R192, 08 R225). -/
def State.endLaunch (s : State) (r : Nat) (l : Launch) (status : Nat) : State :=
  let s1 := l.chains.foldl (fun s c => s.modChain (chainBase r + c) fun x =>
    if x.state == .tx then { x with state := s.restState r, paOff := false } else x) s
  let s2 := s1.modRadio r fun x => { x with gapFrom := s.ntNs, launches := x.launches.map fun m =>
    if m.of_ = l.of_ then { m with onAir := false, outcome := some status } else m }
  if status ≠ 0 then s2
  else match l.of_ with
  | .plan id => s2.modPpdu id fun p => { p with sent := true }
  | .randomTrigger n => s2.modRadio r fun x => { x with trigger := some (n, l.t + l.air, l.asks) }
  | _ => s2

/-- An Eclipse of the radio runs (13 R395); Eclipses are kept by function, and by 16 + radio. -/
def State.radioEclipsing (s : State) (r : Nat) : Bool := Tab.has s.host.eclipses (16 + r)

/-- The launch on the air. -/
def State.onAir (s : State) (r : Nat) : Option Launch := (s.radio r).launches.find? (·.onAir)

/-- A calibration step that runs is given up (R167): its chains return, its result is discarded and counted. -/
def State.dropCal (s : State) (r : Nat) : State :=
  match (s.radio r).cal with
  | none => s
  | some _ =>
    let s1 := (List.range (s.chainCount r)).foldl (fun s c => s.modChain (chainBase r + c) fun x =>
      if x.state == .cal then { x with state := x.before } else x) s
    (s1.modRadio r fun x => { x with cal := none }).inc ⟨feBase r + 0x28, 31, 24⟩

/-- The strobe that changes the radio's channel, width or chain set, where a commit is armed or irrevocable (07 R201). -/
def State.swapAt (s : State) (r : Nat) : Option Nat :=
  if s.commitPending && s.commit.part.getLsbD r
      && (s.channelStaged r || decide (s.chainSet r ≠ s.stagedSet r)) then some s.commit.target else none

/-- Whether a launch time lies in the boundary interval of its superframe (05 R131). -/
def State.launchInBoundary (s : State) (t : Nat) : Bool := decide (t < s.gridBefore s.sfNs t + 2000)

/-- A radio fault (06 R167, 07 R196): transmissions truncated, chains off and powered down, calibration and channel
state discarded; blocks, counts and credits stay. -/
def State.clearRadio (s : State) (r : Nat) : State :=
  let n := s.chainCount r
  let s1 := (List.range n).foldl (fun s c => s.modChain (chainBase r + c) fun x =>
    { blocked := x.blocked, clearing := x.clearing, pos := x.pos, count := x.count, credit := x.credit, powered := x.powered
      freezeDue := x.freezeDue, calRuns := x.calRuns }) s
  let s2 := s1.powerDown (((List.range n).filter (fun c => (s.chain (chainBase r + c)).powered)).map (32 + chainBase r + ·))
  { s2 with
    radios := Tab.put s2.radios r { syn := Tab.mapV (s.radio r).syn fun _ x => { x with locked := false, idle := .relocking } }
    mac := { s2.mac with csi := Tab.keep s2.mac.csi (fun k _ => k % 4 != r) } }

/-- Power the chains of the active set for a radio that is configured again (05 R136, R161). -/
def State.powerChains (s : State) (r : Nat) : State :=
  s.requestItems (((s.chainSet r).filter (fun c => !s.chainOn (chainBase r + c))).map (32 + chainBase r + ·))

/-- A channel-state entry's key. -/
def csiKey (sid r : Nat) : Nat := sid * 4 + r

/-- Whether a user's entry has a segment of its RU older than MAX_AGE (07 R197); the newer of uplink and feedback governs
each segment (R196), in explicit operation the feedback alone (R200). -/
def State.csiStale (s : State) (r sid segs at_ : Nat) : Bool :=
  let e := Tab.getD s.mac.csi (csiKey sid r) {}
  let age := s.get ⟨bbBase r + 0x10, 7, 0⟩ * 1000000
  (List.range 16).any fun i => bitOf segs i && (match (if (s.radio r).explicit then none else e.segs.getD i none), e.fb.getD i none with
    | none, none => true
    | some x, none => decide (x + age < at_)
    | none, some y => decide (y + age < at_)
    | some x, some y => decide (Nat.max x y + age < at_))

/-- The cost per chain in eighths, and the chains per slot k, at a width code (07 R185); for a radio that is kept off, width code 7, as at
the widest (log 163). -/
def chainCost (w : Nat) : Nat := if w ≤ 1 then 1 else if w ≤ 3 then 4 else 8
def slotChains (w : Nat) : Nat := if w ≤ 1 then 8 else if w ≤ 3 then 2 else 1

/-- The slots of a binding, each the chains it carries (07 R186): slot s carries BASE + s × k to BASE + s × k + k − 1, as far as the
binding has them. -/
def bindingSlots (w base n : Nat) : List (List Nat) :=
  let k := slotChains w
  (List.range ((n + k - 1) / k)).map fun s => ((List.range k).filter (fun i => decide (s * k + i < n))).map (base + s * k + ·)

/-- Feedback governs every segment that an RU overlaps (07 R196): it is newer than what the uplink gave. -/
def CsiEntry.fedBack (e : CsiEntry) (segs : Nat) : Bool :=
  (List.range 16).all fun i => !bitOf segs i || (match e.fb.getD i none, e.segs.getD i none with
    | some y, some x => decide (x < y)
    | some _, none => true
    | none, _ => false)

/-- The complex value, 2 × 12 bits, of a chain, an antenna and a group of tones in the segment i of an entry (07 R195), of the uplink
or of the feedback: a free value of what was received. -/
def CsiEntry.tone (e : CsiEntry) (fb : Bool) (i chain antenna group : Nat) : BitVec 24 :=
  let id := if fb then e.fbValue.getD i 0 else ((e.value.getD i []).find? (fun v => bitOf v.2 chain)).elim 0 (·.1)
  Config.freeOf 24 [0x0195, id, chain, antenna, group]

/-- A PPDU with number `id` that the chains of a map received updates an entry (07 R196, 09 R258): the segments it covers are new for
those chains, N_ant is the LTF streams sent, and the noise is what lies its LTF SNR below its power (log 165). -/
def CsiEntry.hear (e : CsiEntry) (id stamp recv : Nat) (m : Measured) : CsiEntry :=
  { e with nAnt := Nat.max 1 (Nat.min 4 m.antennas)
           presence := e.presence ||| recv
           noise := m.rssi - m.ltfSnr
           segs := (e.segs.zipIdx).map fun (t, i) => if bitOf m.segs i then some stamp else t
           value := (e.value.zipIdx).map fun (v, i) =>
             if bitOf m.segs i then (id, recv) :: (v.map fun x => (x.1, x.2 ^^^ (x.2 &&& recv))).filter (fun x => x.2 != 0) else v }

/-- The chains that receive (07 R193): those of the active set, blocked or not VALID as they may be, but for absent ones (01 R33). -/
def State.receiving (s : State) (r : Nat) : List Nat := (s.chainSet r).filter fun c => !s.linkAbsent r c

end Sys2Proof.Machine
end

