-- ==== Sys2Proof/Machine/TaskOps.lean ====
section
/-! DEFINITION. Receive rings and the task scheduler's operations: buffers, direct delivery, enqueue, selection and
release (13 R384 to R406). -/

namespace Sys2Proof.Machine

/-- PKT_CNT_i, low or high half (11 R347). -/
def pktCnt (i : Nat) (high : Bool) : FieldRef := ⟨0x2400800 + 4 * i, if high then 31 else 15, if high then 16 else 0⟩

/-! ## Receive rings -/

/-- Receive buffers still available on RQ n: a posted buffer and a free entry each (R384). -/
def State.rqAvail (s : State) (f n : Nat) : Nat :=
  if s.ringOn f 1 n then Nat.min (Tab.getD s.host.buffers (ringKey f 1 n) []).length (s.ringFree f 1 n) else 0

/-- Buffers of 2,048 B a payload needs; an empty one takes one (R384). -/
def bufsFor (n : Nat) : Nat := Nat.max 1 ((n + 2047) / 2048)

/-- A receive descriptor's 32 bytes (R385). -/
def RxDesc.bytes (d : RxDesc) : List Byte :=
  leBytes 2 d.bufId ++ leBytes 2 d.bufLen ++ leBytes 1 (b2n d.phase + 2 * b2n d.sop + 4 * b2n d.eop) ++ leBytes 1 d.src
    ++ leBytes 2 d.index ++ slice d.rest 0 24

/-- Write one receive descriptor, also into host memory (R376, R385). -/
def State.putRx (s : State) (f n : Nat) (bufId len : Nat) (sop eop : Bool) (src index : Nat) (rest : List Byte) : State :=
  let (s1, idx, ph) := s.ringTake f 1 n
  let d : RxDesc := ⟨bufId, len, sop, eop, src, index, rest, ph⟩
  { s1 with host := { s1.host with
    rxds := Tab.put s1.host.rxds (ringKey f 1 n * 4096 + idx) d } }.writeEntry f 1 n idx d.bytes

/-- Write a payload into k buffers of an RQ and its descriptors together (R385). -/
def State.rqWrite (s : State) (f n k : Nat) (src : Nat) (rest payload : List Byte) : State :=
  let key := ringKey f 1 n
  let bs := (Tab.getD s.host.buffers key []).take k
  let s1 := { s with host := { s.host with buffers := Tab.put s.host.buffers key ((Tab.getD s.host.buffers key []).drop k) } }
  let s2 := (bs.zipIdx).foldl (fun s ((id, a), i) =>
    let part := (payload.drop (2048 * i)).take 2048
    (s.writeHost f a.toNat part).putRx f n id part.length (i == 0) (i + 1 == k) src i rest) s1
  s2.moderate f 1 n false

/-- Stream a MAC frame into a function's direct ring (R386, R387): dropped whole without a buffer, truncated with
NO_BUFFER where they run out. -/
def State.streamDirect (s : State) (f : Nat) (payload rest : List Byte) : State :=
  let n := s.get ⟨hqBase f + 0x24, 3, 0⟩
  let cnt := hqBase f + 0x81C + 0x40 * n
  let k := bufsFor payload.length
  let a := s.rqAvail f n
  if a = 0 then s.inc ⟨cnt, 15, 0⟩
  else if k ≤ a then s.rqWrite f n k 0 rest payload
  else
    let s1 := (s.inc ⟨cnt, 31, 16⟩).rqWrite f n a 0 (rest.set 4 0x05#8) (payload.take (2048 * a))
    { s1 with host := { s1.host with truncs := Tab.put s1.host.truncs (f * 16 + n) (Tab.getD s1.host.truncs (f * 16 + n) 0 + 1) } }

/-! ## Queues and consumers -/

/-- Registers of input queue q (R413). -/
def tskQ (q : Nat) : Nat := 0x2C00100 + 0x20 * q

/-- Enabled, and atomic. -/
def State.qOn (s : State) (q : Nat) : Bool := s.flag ⟨tskQ q, 0, 0⟩
def State.qAtomic (s : State) (q : Nat) : Bool := s.flag ⟨tskQ q, 1, 1⟩

/-- Consumer c is in the queue's mask: cores 0 to 15, host workers 16 + w. -/
def State.qServes (s : State) (q c : Nat) : Bool :=
  if c < 16 then s.flag ⟨tskQ q, 8 + c, 8 + c⟩
  else if c < 48 then s.flag ⟨tskQ q + 8, c - 16, c - 16⟩
  else s.flag ⟨tskQ q + 12, c - 48, c - 48⟩

/-- HQ_WORKER_w (R412): function, RQ, enable and ASK_WAIT in ms. -/
def workerReg (w : Nat) : Nat := 0x3100100 + 4 * w
def State.workerFn (s : State) (w : Nat) : Nat := s.get ⟨workerReg w, 3, 0⟩
def State.workerRq (s : State) (w : Nat) : Nat := s.get ⟨workerReg w, 7, 4⟩
def State.workerOn (s : State) (w : Nat) : Bool := s.flag ⟨workerReg w, 8, 8⟩
def State.askWait (s : State) (w : Nat) : Nat := s.get ⟨workerReg w, 31, 16⟩

/-- An item is deliverable to a consumer (R399). -/
def State.deliverable (s : State) (i : Item) (c : Nat) : Bool :=
  s.qServes i.queue c && (decide (c < 16) ||
    (s.workerOn (c - 16) && (if i.tenant = 0xFF then s.workerFn (c - 16) == 0
      else s.tenantOwner i.tenant == s.workerFn (c - 16))))

/-- The wait of an item in idle steps. -/
def State.waitOf (s : State) (i : Item) : Nat := s.elapsed - i.enqAt

/-- Effective priority (R400). -/
def State.effPrio (s : State) (i : Item) : Nat :=
  let a := s.get ⟨tskQ i.queue + 0x10, 31, 16⟩
  if a = 0 then i.prio else Nat.min 7 (i.prio + s.waitOf i / ms a)

/-- Eligible in an atomic queue (R401): no item of the context and queue is held and no earlier one waits. -/
def State.eligible (s : State) (i : Item) : Bool :=
  !(s.qAtomic i.queue) || !(s.tasks.items.any fun e =>
    e.2.queue == i.queue && e.2.ctx == i.ctx && (e.2.holder.isSome || decide (e.2.order < i.order)))

/-- Waiting items of a queue. -/
def State.queueDepth (s : State) (q : Nat) : Nat :=
  (s.tasks.items.filter (fun e => e.2.queue == q && e.2.holder.isNone)).length

/-- Items a consumer may be given now. -/
def State.candidates (s : State) (c : Nat) : Tab Item :=
  s.tasks.items.filter fun e => e.2.holder.isNone && s.deliverable e.2 c && s.eligible e.2

/-- The item the scheduler gives a consumer first (R400): the highest effective priority, then the earliest enqueue,
then the lower queue number. -/
def State.bestItem (s : State) (c : Nat) : Option (Nat × Item) :=
  (s.candidates c).foldl (fun (acc : Option (Nat × Item)) e => match acc with
    | none => some e
    | some b =>
      let pe := s.effPrio e.2
      let pb := s.effPrio b.2
      if pb < pe || (pb = pe && (e.2.order < b.2.order || (e.2.order = b.2.order && e.2.queue < b.2.queue))) then some e
      else some b) none

/-- An item's handle (R397). -/
def handleOf (idx : Nat) (i : Item) : Nat := idx + 2 ^ 18 * (i.gen % 2 ^ 14)

/-- Change a consumer's statistics of the present superframe. -/
def State.modC (s : State) (c : Nat) (f : CStat → CStat) : State :=
  { s with tasks := { s.tasks with cNow := Tab.put s.tasks.cNow c (f (Tab.getD s.tasks.cNow c {})) } }

/-- Change a queue's statistics of the present superframe. -/
def State.modQ (s : State) (q : Nat) (f : QStat → QStat) : State :=
  { s with tasks := { s.tasks with qNow := Tab.put s.tasks.qNow q (f (Tab.getD s.tasks.qNow q {})) } }

/-- Bring every consumer's idle time up to now: idle runs while credit is pending and nothing can be taken (R406). -/
def State.trackIdle (s : State) : State :=
  ((s.tasks.credits.map (·.1)) ++ (s.tasks.cNow.filter (fun e => e.2.idleFrom.isSome)).map (·.1)).eraseDups.foldl (fun s c =>
    let idle := decide (0 < (Tab.getD s.tasks.credits c {}).pending) && (s.candidates c).isEmpty
    s.modC c fun x => match x.idleFrom with
      | some t => { x with idle := x.idle + (s.elapsed - t), idleFrom := if idle then some s.elapsed else none }
      | none => { x with idleFrom := if idle then some s.elapsed else none }) s

/-- Contexts a consumer holds. -/
def State.heldBy (s : State) (c : Nat) : Nat :=
  (s.tasks.items.filter (fun e => match e.2.holder with | some (h, _) => h == c | none => false)).length

/-- Count a drop at enqueue of a source without a status of its own (R397). -/
def State.dropFull (s : State) (q : Nat) : State :=
  let s1 := s.inc ⟨0x2C00010, 15, 0⟩
  { s1 with tasks := { s1.tasks with dropsFull := Tab.put s1.tasks.dropsFull q (Tab.getD s1.tasks.dropsFull q 0 + 1) } }

/-- Room for one more item in a queue, against whose LIMIT its waiting items count, and in the pool of 262,144 (R397, log 183). -/
def State.tskRoom (s : State) (q : Nat) : Bool :=
  decide (s.tasks.items.length < 262144) && decide (s.queueDepth q < s.get ⟨tskQ q + 4, 18, 0⟩)

/-- Enqueue an item (R397): its pool index, or none where its queue is off or full, or the scheduler's clock does not run
(02 R54). -/
def State.enqueue (s : State) (q prio tenant : Nat) (ctx : Option Nat) (source reason : Nat) (payload key : List Byte)
    (mac : Option (List Byte) := none) : Option Nat × State :=
  let count := fun (s : State) => s.modQ q fun x => { x with nDrop := x.nDrop + 1 }
  if !(s.qOn q) || !(s.tskRoom q) || s.gated 12 then (none, count s)
  else match Tab.freeKey s.tasks.items 262144 with
    | none => (none, count s)
    | some idx =>
      let g := Tab.getD s.tasks.gens idx 0
      let c := ctx.getD (crc32 (leBytes 1 tenant ++ key) % 65536)
      let it : Item := { queue := q, prio := prio, tenant := tenant, atomic := s.qAtomic q, ctx := c, source := source
                         reason := reason, payload := payload, gen := g, order := s.tasks.nextOrder, enqAt := s.elapsed
                         enqNt := s.stamp, mac := mac }
      let s1 := { s with tasks := { s.tasks with
        items := Tab.put s.tasks.items idx it, gens := Tab.put s.tasks.gens idx (g + 1), nextOrder := s.tasks.nextOrder + 1 } }
      let d := s1.queueDepth q
      (some idx, (s1.modQ q fun x => { x with nIn := x.nIn + 1, maxDepth := Nat.max d x.maxDepth }).trackIdle)

/-- The input queue and priority of MAC frames, which the spec does not give: free (log 30). -/
def macQueue : Nat := (Config.freeOf 6 [0x0806]).toNat
def macPrio : Nat := (Config.freeOf 3 [0x0807]).toNat

/-- Hand a MAC frame or metrics record to the host: into the direct ring of the function, or as a work item (R387).
`rest` is bytes 8 to 31 of its descriptor (08 R235). -/
def State.deliverMac (s : State) (fn tenant : Nat) (payload rest : List Byte) : State :=
  if s.flag ⟨hqBase fn + 0x24, 4, 4⟩ then s.streamDirect fn payload rest
  else
    let (h, s1) := s.enqueue macQueue macPrio tenant none 0x06 0 payload [] (some rest)
    if h.isNone then s1.dropFull macQueue else s1

/-- The input queue, priority and reason of fault notices, which the spec does not give: free (log 140). -/
def faultQueue : Nat := (Config.freeOf 6 [0x0E10]).toNat
def faultPrio : Nat := (Config.freeOf 3 [0x0E10]).toNat
def faultReason : Nat := (Config.freeOf 8 [0x0E10]).toNat

/-- A fault notice goes to the task scheduler (01 R25): one item of source 0x0E (R398) for each part of the record. -/
def State.faultNotice (s : State) (parts : List (List Byte)) : State :=
  parts.foldl (fun s p =>
    let (h, s1) := s.enqueue faultQueue faultPrio 0xFF none 0x0E faultReason p []
    if h.isNone then s1.dropFull faultQueue else s1) s

/-- Bytes 8 to 31 of an item delivered with SRC 1 (R398). -/
def itemBytes (idx : Nat) (i : Item) : List Byte :=
  leBytes 2 (i.queue % 64 + 64 * (i.prio % 8) + 512 * b2n i.atomic) ++ leBytes 1 i.source ++ leBytes 1 i.reason
    ++ leBytes 1 0 ++ leBytes 1 i.tenant ++ leBytes 2 i.ctx ++ leBytes 8 i.enqNt.toNat ++ leBytes 4 i.payload.length
    ++ leBytes 4 (handleOf idx i)

/-- Take an item out of the pool. -/
def State.dropItem (s : State) (idx : Nat) : State :=
  { s with tasks := { s.tasks with items := Tab.del s.tasks.items idx } }

end Sys2Proof.Machine
end

