-- ==== Sys2Proof/Machine/RxOps.lean ====
section
/-! DEFINITION. Receivers and metrics records (07 R189 to R202). -/

namespace Sys2Proof.Machine

/-- The 32 B metrics record (R202). -/
def metricsBytes (stamp : NT64) (status user : Nat) (tb : Bool) (m : Measured) : List Byte :=
  leBytes 8 stamp.toNat ++ leBytes 1 m.format ++ leBytes 1 m.width ++ leBytes 1 status ++ leBytes 1 user
    ++ leBytes 1 (unsigned 8 m.rssi) ++ leBytes 1 m.snr ++ leBytes 1 m.evm ++ leBytes 1 (m.mcs % 16 + 16 * ((m.nss - 1) % 16))
    ++ leBytes 2 (unsigned 16 m.cfo) ++ leBytes 2 (if tb then unsigned 16 m.timing else 0) ++ leBytes 2 (m.ru % 512)
    ++ leBytes 1 m.agc ++ leBytes 1 (m.mcs / 16 % 2) ++ leBytes 1 m.chains ++ leBytes 1 (unsigned 8 m.rssiMax)
    ++ leBytes 1 (unsigned 8 m.rssiMin) ++ List.replicate 5 0

/-- Change a receiver. -/
def State.modRx (s : State) (r : Nat) (f : RxSt → RxSt) : State := s.modRadio r fun x => { x with rx := f x.rx }

/-- A receiver returns to SEARCH: its gains run again (R189, R190). -/
def State.toSearch (s : State) (r : Nat) : State :=
  s.modRx r fun x => { x with state := .search, gains := [], searchFrom := s.elapsed, window := none, est := none }

/-- Receive formats of a radio (R182), by the FORMAT codes of R202; TB PPDUs are received in TB windows only. -/
def rxFormatOk (r : Nat) (tb : Bool) (format : Nat) : Bool :=
  if tb then format == 6 || format == 7
  else [r == 0, true, decide (r < 2), r == 1, true, true].getD format false

/-- The greatest width code and number of streams that a format is received in, by the FORMAT codes of R202 (R182): 20 MHz of DSSS,
one stream of it and of non-HT, 40 MHz and 4 of HT, 160 MHz of VHT, 4 of a user of a TB PPDU (R183). -/
def rxWidth (format : Nat) : Nat := [0, 4, 1, 3].getD format 4
def rxStreams (format : Nat) : Nat := [1, 1, 4, 8, 8, 8, 4, 4].getD format 8

/-- A reception as a radio can measure it: a format of R182 in its widths and streams, within the channel, and 1 to 64 chains (R202). -/
def State.measurable (s : State) (r : Nat) (tb : Bool) (m : Measured) : Bool :=
  rxFormatOk r tb m.format && decide (m.width ≤ s.get ⟨bbBase r + 4, 18, 16⟩) && decide (m.width ≤ rxWidth m.format)
    && decide (1 ≤ m.nss) && decide (m.nss ≤ rxStreams m.format) && decide (1 ≤ m.chains) && decide (m.chains ≤ 64)

/-- Count in the BB_x_CNT registers: 0 DET, 1 CAP, 2 CSI, 3 TB; low or high half. -/
def State.countBB (s : State) (r reg : Nat) (high : Bool) : State :=
  s.inc ⟨bbBase r + 0x20 + 4 * reg, if high then 31 else 15, if high then 16 else 0⟩

/-- The stamp of an L-STF that started `ago` ns before now (04 R120): 0 while NT is not valid. -/
def State.stampAgo (s : State) (ago : Nat) : NT64 := if s.ntValid then BitVec.ofNat 64 (s.ntNs - ago) else 0

/-- Post a metrics record (R202): kept for the frames of its user; one that ends with BB_RX_CUT, BB_CAPTURED_OUT or
BB_TB_MISSING is handed to the host on its own (08 R235), to the function and with the
tenant of its station's BSS where the station is known, else with tenant 0xFF and so to the PF. -/
def State.postMetrics (s : State) (r : Nat) (stamp : NT64) (status user : Nat) (tb : Bool) (m : Measured) : State :=
  let b := metricsBytes stamp status user tb m
  if status = 0 then s.modRx r fun x => { x with records := Tab.put x.records user b }
  else
    let link := (m.sta.bind (Tab.get? s.mac.stas)).bind fun x => x.links.find? (·.radio == r)
    let cfg := fun (hi lo : Nat) => match link with | some l => s.get ⟨macBase r + 0x100 + 0x10 * l.bss, hi, lo⟩ | none => 0
    let ten := if link.isSome then cfg 4 1 else 0xFF
    s.deliverMac (cfg 8 5) ten b (leBytes 2 (m.sta.getD 0xFFFF) ++ leBytes 1 (r + 4 * link.elim 0 (·.bss % 16) + 64) ++ leBytes 1 0x4F
      ++ leBytes 1 status ++ leBytes 1 ten ++ leBytes 2 0 ++ leBytes 8 stamp.toNat ++ leBytes 4 0 ++ leBytes 4 0)

/-- What was measured of a reception that is cut off: free values (log 29) among those the record can hold. -/
def State.drawMeasured (s : State) (r : Nat) : Measured × State :=
  let v := fun (w i : Nat) => (Config.free w (s.fresh + i)).toNat
  let formats := (List.range 6).filter (rxFormatOk r false)
  let format := formats.getD (v 3 0 % formats.length) 1
  ({ format := format, width := v 3 1 % (Nat.min (rxWidth format) (s.get ⟨bbBase r + 4, 18, 16⟩) + 1), rssi := signed 8 (v 8 2)
     snr := v 8 3, evm := v 8 4, mcs := v 5 5, nss := 1 + v 4 6 % rxStreams format
     cfo := signed 16 (v 16 7), timing := signed 16 (v 16 8), ru := v 9 9, agc := v 8 10 % 73, chains := 1 + v 6 11
     rssiMax := signed 8 (v 8 12), rssiMin := signed 8 (v 8 13), ltfSnr := signed 8 (v 8 14), antennas := v 3 15
     segs := 0, sta := none }, { s with fresh := s.fresh + 16 })

/-- End a reception with BB_RX_CUT (R190). -/
def State.cutReception (s : State) (r : Nat) : State :=
  let x := (s.radio r).rx
  if x.state == .preamble || x.state == .data then
    let (m, s1) := s.drawMeasured r
    (s1.postMetrics r x.stamp 0x34 0 false m).toSearch r
  else s

end Sys2Proof.Machine
end

