-- ==== Sys2Proof/Machine/ConstOps.lean ====
section
/-! DEFINITION. The constellation controller's settings, messages, sessions, foreign entries and null users
(09 R240 to R260). -/

namespace Sys2Proof.Machine

/-! ## Sub-ports (14 R414 to R417) -/

/-- The base of port p's registers (14 R442). -/
def ethBase (p : Nat) : Nat := 0x3400000 + p * 0x10000

/-- Port and local number of a sub-port s (11 R300): 0 to 7 of ETH0 and ETH1, 8 and 9 of the copper ports. -/
def portOf (sub : Nat) : Nat × Nat := if sub < 8 then (sub / 4, sub % 4) else (sub - 6, 0)

/-- The sub-ports a port has in MODE (14 R414, R417). -/
def modeSubs (p mode : Nat) : List Nat :=
  if 2 ≤ p then (if mode = 1 then [0] else []) else [[], [0], [0, 1], [0, 1, 2, 3]].getD mode []

/-- The port mode creates the sub-port. -/
def State.subExists (s : State) (sub : Nat) : Bool :=
  decide (sub < 10) && (modeSubs (portOf sub).1 (s.get ⟨ethBase (portOf sub).1, 1, 0⟩)).contains (portOf sub).2

/-- A sub-port is in service (14 R416). -/
def State.subUp (s : State) (sub : Nat) : Bool :=
  s.subExists sub && s.inService (.port (portOf sub).1) && !(s.boot.rejected.contains 0xC) && Tab.has s.eth.links sub

/-! ## Settings (R261) -/

/-- Fields of record 0x0701. -/
def State.cstRec (s : State) : List Byte := s.recBytes 0x0701
def State.cstOwn (s : State) : Nat := fieldLE s.cstRec 4 1
def State.acceptMargin (s : State) : Nat := fieldLE s.cstRec 9 1 * 100000
def State.foreignMin (s : State) : Int := signed 8 (fieldLE s.cstRec 16 1)
def State.maxNulls (s : State) : Nat := fieldLE s.cstRec 15 1
/-- The sub-port of the constellation: port × 4 + sub-port. -/
def State.cstSub (s : State) : Nat := fieldLE s.cstRec 8 1 / 4 % 2 * 4 + fieldLE s.cstRec 8 1 % 4

/-- The member record of an index. -/
def State.memberRec (s : State) (m : Nat) : Option (List Byte) :=
  (s.recsOf 0x0702).find? (fun b => fieldLE b 0 1 == m)

/-- Member indices with a record. -/
def State.memberIds (s : State) : List Nat := (s.recsOf 0x0702).map (fun b => fieldLE b 0 1)

/-- A member's state. -/
def State.member (s : State) (m : Nat) : CstMember := Tab.getD s.cst.members m {}

/-- Change a member's state. -/
def State.modMember (s : State) (m : Nat) (f : CstMember → CstMember) : State :=
  { s with cst := { s.cst with members := Tab.put s.cst.members m (f (s.member m)) } }

/-- The controller is in service (R241). -/
def State.cstInService (s : State) : Bool :=
  !s.cstRec.isEmpty && !(s.boot.rejected.contains 7) && !(s.boot.rejected.contains 0xC)
    && s.subUp s.cstSub

/-- Participation is allowed (R241): LOCKED, or HOLDOVER for less than HOLDOVER_KEEP. -/
def State.cstMayJoin (s : State) : Bool :=
  s.cstInService && (s.time.state == .locked || (s.time.state == .holdover
    && decide (s.ntNs < s.time.holdFrom + fieldLE s.cstRec 12 2 * 1000000000)))

/-- Members with an ACTIVE session; the cell belongs to a constellation while there is one (R241). -/
def State.cstActive (s : State) : List Nat := s.memberIds.filter fun m => (s.member m).session == .active
def State.cstJoined (s : State) : Bool := !s.cstActive.isEmpty

/-! ## Messages (R243, R247) -/

/-- The 24-byte header. -/
def State.cstHeader (s : State) (type receiver length part count seq : Nat) : List Byte :=
  [0x5A#8, 0x37#8, 0x43#8, 0x4E#8, 1#8] ++ leBytes 1 type ++ leBytes 1 s.cstOwn ++ leBytes 1 receiver
    ++ slice s.cstRec 0 4 ++ leBytes 2 length ++ leBytes 1 part ++ leBytes 1 count ++ leBytes 8 seq

/-- A header a receiver accepts (R243). -/
def State.headerOk (s : State) (b : List Byte) : Bool :=
  let t := fieldLE b 5 1
  decide (24 ≤ b.length) && slice b 0 5 == [0x5A#8, 0x37#8, 0x43#8, 0x4E#8, 1#8] && decide (1 ≤ t) && decide (t ≤ 4)
    && s.memberIds.contains (fieldLE b 6 1) && fieldLE b 6 1 != s.cstOwn && fieldLE b 7 1 == s.cstOwn
    && slice b 8 4 == slice s.cstRec 0 4 && fieldLE b 8 4 != 0 && fieldLE b 0xC 2 == b.length
    && decide (fieldLE b 0xE 1 < fieldLE b 0xF 1) && decide (fieldLE b 0xF 1 ≤ 16)
    && (t == 3 || (fieldLE b 0xE 1 == 0 && fieldLE b 0xF 1 == 1))

/-- The tag of a DIGEST or LEAVE (R247): AES-256-GMAC over every byte before it. -/
def gmacTag (key b : List Byte) : List Byte :=
  gcmTag key (slice b 0x10 8 ++ slice b 0xE 1 ++ slice b 5 1 ++ [0#8, 0#8]) b []

/-- Push a frame at the tail of a wired queue (sub-port × 8 + queue). -/
def State.wiredPush (s : State) (key : Nat) (f : WireFrame) : State :=
  { s with wired := Tab.put s.wired key (Tab.getD s.wired key [] ++ [f]) }

/-- A message is rejected (R262, R263): counted, shown in LAST_REJECT, reported once per member and superframe. -/
def State.cstReject (s : State) (m type status : Nat) (known : Bool := true) : State :=
  let s1 := (s.inc ⟨0x301020, 31, 16⟩)
  let s2 := { s1 with cst := { s1.cst with lastReject := status } }
  if !known || s2.cst.reported.contains m then s2
  else { s2 with cst := { s2.cst with reported := m :: s2.cst.reported } }.postEvent 0x7004 (items [m, type, status])

/-! ## Sessions -/

/-- Free a member's foreign entries. -/
def State.freeForeign (s : State) (m : Nat) : State :=
  { s with cst := { s.cst with foreign := Tab.keep s.cst.foreign (fun k _ => k / 2 ^ 15 != m) } }

/-- A session ends (R246, R248): its keys go, its foreign entries are freed; what the controller knows of the member's
messages and misses stays. -/
def State.endSession (s : State) (m : Nat) : State :=
  (s.modMember m fun x => { lastSeq := x.lastSeq, tried := x.tried, misses := x.misses, peerHoldover := x.peerHoldover
                            tx := x.tx, rx := x.rx }).freeForeign m

/-- A session comes up or is replaced (R248, R255): new keys, no alignment samples, no digest sent yet, and for a new one no misses; event
0x7001 with 0 new, 1 replaced. -/
def State.sessionUp (s : State) (m : Nat) (keyTx keyRx : List Byte) (seq : Nat) : State :=
  let replaced := (s.member m).session == .active
  (s.modMember m fun x => { x with session := .active, keyTx := keyTx, keyRx := keyRx, eph := [], nonce := [],
                                   lastSeq := some seq, samples := [], misaligned := false, sentSeq := none
                                   misses := if replaced then x.misses else 0 }).postEvent
    0x7001 (items [m, b2n replaced])

/-- Keys of a session (R246): from Z and both nonces, for a sender and a receiver index; the info begins with the ASCII
bytes Z7CN-K. -/
def cstKey (z helloNonce ackNonce : List Byte) (sender receiver : Nat) : List Byte :=
  hkdf512 (helloNonce ++ ackNonce) z ([0x5A#8, 0x37#8, 0x43#8, 0x4E#8, 0x2D#8, 0x4B#8] ++ leBytes 1 sender
    ++ leBytes 1 receiver) 32

/-- 32 fresh random bytes: a free value (log 1). -/
def State.draw32 (s : State) : List Byte × State :=
  let (v, s1) := s.draw 256
  (leBytes 32 v.toNat, s1)

/-- NT state as HELLO carries it (R244): 2 LOCKED, 3 HOLDOVER (the codes of 04 R128). -/
def State.ntStateCode (s : State) : Nat := match s.time.state with
  | .notStarted => 0 | .provisional => 1 | .locked => 2 | .holdover => 3

/-- A HELLO or HELLO_ACK of 224 B, signed with the identity key (R244): no field of it, nor of a digest, carries the UTC offset and the
leap flags (log 162). -/
def State.helloMsg (s : State) (type m : Nat) (nonce ephPub peerNonce : List Byte) : List Byte :=
  let b := s.cstHeader type m 224 0 1 s.nt64.toNat ++ nonce ++ ephPub ++ ed25519Public s.fuses.idSeed ++ peerNonce
    ++ leBytes 1 s.grid.sfLen ++ leBytes 1 s.ntStateCode ++ List.replicate 6 0
  b ++ ed25519Sign s.fuses.idSeed (sha512 b)

/-! ## Alignment (R255) -/

/-- The median alignment once 4 samples are held. -/
def CstMember.offset (x : CstMember) : Int := if x.samples.length < 4 then 0 else median x.samples

/-- Take an alignment sample; a median judges the member once it is formed. -/
def State.alignSample (s : State) (m : Nat) (o : Int) : State :=
  let lim : Int := (fieldLE s.cstRec 14 1 * 10 : Nat)
  s.modMember m fun x =>
    let l := lastN 8 (x.samples ++ [o])
    let y := { x with samples := l }
    let a := if y.offset < 0 then -y.offset else y.offset
    { y with misaligned := if l.length < 4 then x.misaligned else if x.misaligned then !decide (2 * a < lim) else decide (lim ≤ a) }

/-! ## Channels, foreign windows and null users -/

/-- The channel a CHAN word gives: width in MHz, centre in units of 5 MHz. -/
def widthMHz (code : Nat) : Nat := [20, 40, 80, 160, 320].getD code 0

/-- The centres of the 20 MHz subchannels of a channel that are not punctured, in steps of 5 MHz; none of a radio kept off. -/
def subchannels (w c punct : Nat) : List Int :=
  if 5 ≤ w then [] else ((List.range (2 ^ w)).filter (fun i => !bitOf punct i)).map fun i => (c : Int) + 4 * i - 2 * (2 ^ w - 1)

/-- Two channels of one radio overlap in at least one 20 MHz subchannel that both use (log 155). -/
def channelsOverlap (a b : List Int) : Bool := a.any fun x => b.any fun y => decide (x < y + 4) && decide (y < x + 4)

/-- Own width and centre. -/
def State.chanWidth (s : State) (r : Nat) : Nat := s.get ⟨bbBase r + 4, 18, 16⟩
def State.chanCentre (s : State) (r : Nat) : Nat := s.get ⟨bbBase r + 4, 15, 8⟩

/-- An entry is on a channel that overlaps the own one of its radio. -/
def State.entryOverlaps (s : State) (e : DigestEntry) : Bool :=
  channelsOverlap (subchannels e.width e.centre e.punct)
    (subchannels (s.chanWidth e.radio) (s.chanCentre e.radio) (s.get ⟨bbBase e.radio + 8, 15, 0⟩))

/-- The entry of a foreign window in the digest in force. -/
def State.foreignWindow (s : State) (r m start : Nat) : Option DigestEntry :=
  (s.member m).now.find? fun e => e.up && e.radio == r && e.start == start && s.entryOverlaps e

/-- The power a foreign window's gains are preset for (R259): of the strongest entry of its users, or FOREIGN_MIN + 20 dB. -/
def State.foreignPower (s : State) (r m : Nat) (e : DigestEntry) : Int :=
  match e.users.filterMap (fun u => Tab.get? s.cst.foreign (m * 2 ^ 15 + u.1 % 8192 * 4 + r)) with
  | [] => s.foreignMin + 20
  | f :: l => (l.map (·.rssi)).foldl (fun (a b : Int) => if a < b then b else a) f.rssi

/-- The key of a foreign entry. -/
def foreignKey (m sid r : Nat) : Nat := m * 2 ^ 15 + sid * 4 + r

/-- Overheard users update foreign entries (R258): LTF SNR of at least 6 dB, a new entry only from FOREIGN_MIN on; a
full table refuses. -/
def State.foreignHeard (s : State) (r m start : Nat) (users : List Measured) : State :=
  match s.foreignWindow r m start with
  | none => s
  | some e =>
    (e.users.zip users).foldl (fun s (u, x) =>
      let k := foreignKey m (u.1 % 8192) r
      if decide (x.ltfSnr < 6) then s
      else
        let have_ := Tab.has s.cst.foreign k
        if !have_ && decide (x.rssi < s.foreignMin) then s
        else if !have_ && decide (2048 ≤ s.cst.foreign.length) then
          let s1 := s.inc ⟨0x301024, 15, 0⟩
          { s1 with cst := { s1.cst with refusals := Tab.put s1.cst.refusals r (Tab.getD s1.cst.refusals r 0 + 1) } }
        else
          let old := (Tab.getD s.cst.foreign k ⟨{}, 0, 0⟩).csi
          let csi := old.hear s.fresh (s.radio r).rx.te (bitMap 64 (s.receiving r).contains) x
          { s with fresh := s.fresh + 1, cst := { s.cst with
            foreign := Tab.put s.cst.foreign k ⟨csi, x.rssi, s.elapsed⟩ } }) s

/-- The entries of a PRESENT member's digest for the superframe at `s0`: the one in force, or the one accepted for the next. -/
def CstMember.digestOf (x : CstMember) (s : State) (s0 : Nat) : List DigestEntry :=
  if s.grid.start = some s0 then x.now else if x.partsFor = s0 then x.next else []

/-- The foreign entries that may matter to an own launch with air time [l, e), by key: of the users of PRESENT members' DL entries whose
window meets it on a channel that overlaps (R260). -/
def State.dueForeign (s : State) (r l e : Nat) : List Nat :=
  let s0 := s.gridBefore s.sfNs l
  (s.cst.members.flatMap fun (m, x) => (x.digestOf s s0).flatMap fun d =>
    if !d.up && d.radio == r && s.entryOverlaps d && decide (s0 + d.start < e) && decide (l < s0 + d.start + d.dur) then
      d.users.map fun u => foreignKey m (u.1 % 8192) r
    else []).eraseDups

/-- The null users of an own RU (R260) among those given, fresh over the segments where their RU overlaps it, with the directions each contributes: PRESENT members' DL
entries whose window meets [l, e), with a prefetched, fresh entry of FOREIGN_MIN or more and every chain of the precoding set; and
how many are skipped. Ranked by RSSI, then lower member, then lower SID; (key, RSSI, directions). -/
def State.nullUsers (s : State) (r l e : Nat) (set : List Nat) (fetched : List Nat) (cand : List (Nat × Nat × Nat)) :
    List (Nat × Int × Nat) × Nat :=
  let s0 := s.gridBefore s.sfNs l
  let age := s.get ⟨bbBase r + 0x10, 7, 0⟩ * 1000000
  let due := cand.filter fun (m, sid, _) => ((s.member m).digestOf s s0).any fun d =>
    !d.up && d.radio == r && s.entryOverlaps d && d.users.any (fun u => u.1 % 8192 == sid)
      && decide (s0 + d.start < e) && decide (l < s0 + d.start + d.dur)
  let good := due.filterMap fun (m, sid, segs) =>
    match Tab.get? s.cst.foreign (foreignKey m sid r) with
    | none => none
    | some f =>
      let fresh := (List.range 16).all fun i => !bitOf segs i || (match f.csi.segs.getD i none with
        | some t => decide (s.ntNs ≤ t + age)
        | none => false)
      if fetched.contains (foreignKey m sid r) && fresh && decide (s.foreignMin ≤ f.rssi) && set.all (fun c => bitOf f.csi.presence c) then
        some (foreignKey m sid r, f.rssi, f.csi.nAnt)
      else none
  (sortBy (fun x => (1000 - x.2.1).toNat * 2 ^ 24 + x.1) good, due.length - good.length)

/-- Foreign entries of a radio that faults or changes its channel are freed (R258). -/
def State.freeForeignRadio (s : State) (r : Nat) : State :=
  { s with cst := { s.cst with foreign := Tab.keep s.cst.foreign (fun k _ => k % 4 != r) } }

/-- The superframe boundary of the controller: digests of the next superframe take force, event 0x7005 once, with the
lowest radio that refused and every refusal (log 156), stamps older than 4 superframes go (R253 to R258; log 18). -/
def State.cstSuperframe (s : State) (start : Nat) : State :=
  let s1 := match s.cst.refusals with
    | [] => s
    | e :: l => s.postEvent 0x7005 (items [e.1, e.2 + (l.map fun x : Nat × Nat => x.2).sum])
  { s1 with cst := { s1.cst with
    refusals := [], reported := []
    members := Tab.mapV s1.cst.members fun _ x =>
      let old := fun (k _ : Nat) => decide (start < k + 5 * s1.sfNs)
      { x with now := if x.partsFor = start && x.status = 0 then x.next else [], next := [], parts := [], fault := none
               tx := Tab.keep x.tx old, rx := Tab.keep x.rx old } } }

end Sys2Proof.Machine
end

