-- ==== Sys2Proof/Machine/BootOps.lean ====
section
/-! DEFINITION. Fuse actions after the first beacon (03 R91), and the boot commit's start (03 R73, 05 R144). -/

namespace Sys2Proof.Machine

/-- A customer key slot's fuses, k = 1 to 4. -/
def Fuses.slot (f : Fuses) (k : Nat) : KeyFuse := f.slots.getD (k - 1) {}

/-- Event 0x1006: slot, action 0 provision or 1 revoke, status. -/
def State.keyEvent (s : State) (slot action status : Nat) : State := s.postEvent 0x1006 (items [slot, action, status])

/-- Set the fuses of key slot k. -/
def State.setKeyFuse (s : State) (k : Nat) (x : KeyFuse) : State :=
  { s with fuses := { s.fuses with slots := s.fuses.slots.set (k - 1) x } }

/-- A 0x0103 record programs its slot (R91 order 1). A record of another form is refused, and one that names the hash already
there posts no event (log 137). -/
def State.provision (s : State) (b : List Byte) : State :=
  let k := fieldLE b 0 1
  let h := slice b 4 32
  let x := s.fuses.slot k
  if k = 0 || 4 < k || b.length ≠ 36 || !allZero (slice b 1 3) then s.keyEvent k 0 0x1B
  else if x.programmed then (if x.hash = h then s else s.keyEvent k 0 0x1B)
  else (s.setKeyFuse k { x with hash := h, programmed := true }).keyEvent k 0 0

/-- A 0x0104 record revokes its slot (R91 order 2). A record of another form is refused, and one that names a revoked slot
posts no event (log 137). -/
def State.revoke (s : State) (b : List Byte) : State :=
  let k := fieldLE b 0 1
  let x := s.fuses.slot k
  let others := [1, 2, 3, 4].any fun j => j != k && (s.fuses.slot j).programmed && !(s.fuses.slot j).revoked
  if k = 0 || 4 < k || b.length ≠ 4 || !allZero (slice b 1 3) || (s.boot.image.any (fun i => i.keyIndex == k)) || !x.programmed
      || !others then s.keyEvent k 1 0x1B
  else if x.revoked then s
  else (s.setKeyFuse k { x with revoked := true }).keyEvent k 1 0

/-- The rollback counter rises (R91 order 3). -/
def State.advanceRollback (s : State) : State :=
  match s.boot.image with
  | some i =>
    let n := Nat.max i.rollback i.fwRollback
    if i.advance && decide (s.fuses.rollback < n) then
      { s with fuses := { s.fuses with rollback := n } }.postEvent 0x1005 (items [s.fuses.rollback, n])
    else s
  | none => s

/-- The running image's first beacon is sent (R73, R91): GCTL_FIRST_BEACON, event 0x1003, the fuse actions in order, of every
0x0103 and 0x0104 record there is (log 138). -/
def State.firstBeaconSent (s : State) (t : NT64) : State :=
  if s.boot.state != .run || s.boot.firstBeacon.isSome then s
  else
    let s1 := { s with boot := { s.boot with firstBeacon := some t } }.postEvent 0x1003 (items [t.toNat])
    let s2 := (s1.recsOf 0x0103).foldl (fun s b => s.provision b) s1
    let s3 := (s1.recsOf 0x0104).foldl (fun s b => s.revoke b) s2
    s3.advanceRollback

end Sys2Proof.Machine
end

