-- ==== Sys2Proof/Machine/DramOps.lean ====
section
/-! DEFINITION. Channels, requests, urgency and order of the DRAM controller (15 R444 to R457). -/

namespace Sys2Proof.Machine

/-- A channel. -/
def State.dch (s : State) (c : Nat) : DramCh := Tab.getD s.dram.chans c {}

/-- Change a channel. -/
def State.modDch (s : State) (c : Nat) (f : DramCh → DramCh) : State :=
  { s with dram := { s.dram with chans := Tab.put s.dram.chans c (f (s.dch c)) } }

/-- ECC group, channel, and the column within a row of a granule (R445). -/
def groupOf (g : Nat) : Nat := g / 15
def channelOf (g : Nat) : Nat := g / 15 % 4

/-- Bank and row of a group, which the spec does not give: free (log 44). -/
def bankOf (g : Nat) : Nat := (Config.freeOf 4 [0x0445, groupOf g]).toNat
def rowOf (g : Nat) : Nat := (Config.freeOf 18 [0x0446, groupOf g]).toNat

/-- The granule's place within its row (R445, R461): its group's place there is free. -/
def colOf (g : Nat) : Nat := (Config.freeOf 12 [0x0447, groupOf g]).toNat * 16 + g % 15

/-- Usable granules of the device (R444): fifteen of every sixteen. -/
def State.granuleCount (s : State) : Nat :=
  let b := s.recBytes 0x0D01
  (fieldLE b 0 1 + 1) * fieldLE b 1 1 * 2 ^ 34 / 1024 * 15

/-- The bytes a granule holds: unwritten ones, after the boot training `gen`, are free values (log 61). -/
def State.granule (s : State) (g : Nat) : List Byte :=
  (Tab.get? s.dram.granules g).getD ((List.range 64).map fun i => Config.freeOf 8 [0x0448, s.dram.gen, g, i])

/-- Write bytes into a granule from an offset on (R445). -/
def State.granuleWrite (s : State) (g off : Nat) (data : List Byte) : State :=
  { s with dram := { s.dram with
    granules := Tab.put s.dram.granules g ((s.granule g).take off ++ data ++ (s.granule g).drop (off + data.length)) } }

/-- Answer a port's request (R456, R457). -/
def State.dramAnswer (s : State) (port granule status : Nat) (data : List Byte) : State :=
  { s with dram := { s.dram with resp := Tab.put s.dram.resp port ⟨granule, status, data⟩ } }

/-- CLASS, TARGET (10 ns), AGE_LIMIT (µs) and ORDER in force (R447, R453). -/
def State.dmcClass (s : State) (p : Nat) : Nat := s.get ⟨0x3C00010 + 4 * p, 1, 0⟩
def State.dmcTarget (s : State) (p : Nat) : Nat := s.get ⟨0x3C00010 + 4 * p, 17, 4⟩
def State.ageLimit (s : State) : Nat := s.get ⟨0x3C00004, 7, 0⟩
def State.z5Order (s : State) : Bool := s.flag ⟨0x3C00004, 8, 8⟩

/-- A request's age in idle steps. -/
def State.ageOf (s : State) (q : DramReq) : Nat := s.elapsed - q.enq

/-- Urgency (R449): the age as a share of TARGET, in steps of 5/3 ns against units of 10 ns. -/
def State.urgency (s : State) (q : DramReq) : Nat :=
  let a := s.ageOf q
  let t := 6 * s.dmcTarget q.port
  if 2 * a < t then 0 else if 4 * a < 3 * t then 1 else if a < t then 2 else 3

/-- A promoted request (R451). -/
def State.promoted (s : State) (q : DramReq) : Bool := decide (us s.ageLimit ≤ s.ageOf q)

/-- Effective class (R451). -/
def State.effClass (s : State) (q : DramReq) : Nat := s.dmcClass q.port - s.urgency q

/-- Lexicographic order. -/
def lexLt : List Nat → List Nat → Bool
  | a :: as, b :: bs => decide (a < b) || (a == b && lexLt as bs)
  | [], _ :: _ => true
  | _, [] => false

/-- A request's place in the order of arrival at its channel: requests of one cycle by port, the lower first (R450). -/
def DramReq.arrival (q : DramReq) : List Nat := [q.enq, q.port, q.order]

/-- A row hit. -/
def DramCh.hit (x : DramCh) (q : DramReq) : Bool := Tab.get? x.rows q.bank == some q.row

/-- Requests of a channel that may issue: not sent, bank ready, none earlier to the same granule, a read-modify-write that
still waits for its data among them (R450). -/
def DramCh.ready (x : DramCh) (banks : Nat) : List DramReq :=
  x.queue.filter fun q => !q.sent && bitOf banks q.bank
    && !(x.queue.any fun o => o.granule == q.granule && (!o.sent || o.write) && lexLt o.arrival q.arrival)

/-- Z5 ordering closes a row after 16 consecutive hits while another row of its bank is waited for (R452): its requests
are misses then. -/
def DramCh.z5Hit (x : DramCh) (q : DramReq) : Bool :=
  x.hit q && !(decide (16 ≤ Tab.getD x.hits q.bank 0) && x.queue.any (fun o => !o.sent && o.bank == q.bank && o.row != q.row))

/-- The measures by which a channel chooses, the smallest first (R451, R452). -/
def State.dramRank (s : State) (x : DramCh) (q : DramReq) : List Nat :=
  if s.z5Order then b2n (!x.z5Hit q) :: q.arrival
  else if s.promoted q then 0 :: q.arrival
  else [1, s.effClass q, b2n (!x.hit q)] ++ q.arrival

/-- The request a channel selects. -/
def State.dramPick (s : State) (c banks : Nat) : Option DramReq :=
  let x := s.dch c
  (x.ready banks).foldl (fun m q => match m with
    | none => some q
    | some b => if lexLt (s.dramRank x q) (s.dramRank x b) then some q else some b) none

/-- Entries of a port in a channel's queue. -/
def DramCh.entries (x : DramCh) (p : Nat) : Nat := (x.queue.filter (fun q => q.port == p)).length

/-- A port has an entry in a channel (R448): 8 of its own, then the 64 shared, at most 64 in all. -/
def DramCh.room (x : DramCh) (p : Nat) : Bool :=
  let extra := ((List.range 8).map fun i => x.entries i - 8).sum
  decide (x.entries p < 64) && (decide (x.entries p < 8) || decide (extra < 64))

/-- Requests that wait at their ports take entries as they come free, the lowest port's first (R448, log 183). -/
def State.dramFill (s : State) (c : Nat) : State :=
  (List.range 8).foldl (fun s p =>
    match Tab.getD s.dram.waiting (c * 8 + p) [] with
    | q :: rest =>
      if (s.dch c).room p then
        let s1 := s.modDch c fun x =>
          { x with queue := x.queue ++ [{ q with enq := s.elapsed, order := s.dram.nextOrder }] }
        { s1 with dram := { s1.dram with nextOrder := s1.dram.nextOrder + 1, waiting := Tab.put s1.dram.waiting (c * 8 + p) rest } }
      else s
    | [] => s) s

/-- A request leaves a channel (R449): its latency, and OVERDUE at or beyond TARGET. -/
def State.dramDone (s : State) (c : Nat) (q : DramReq) : State :=
  let lat := s.ageOf q / 6
  let late := decide (6 * s.dmcTarget q.port ≤ s.ageOf q)
  let s1 := s.modDch c fun x => { x with queue := x.queue.filter (fun o => o.order != q.order) }
  let s2 := { s1 with dram := { s1.dram with latNow := Tab.put s1.dram.latNow q.port (Nat.max lat (Tab.getD s1.dram.latNow q.port 0)) } }
  let s3 := if late then
      { s2.inc ⟨0x3C00040 + 4 * q.port, 15, 0⟩ with dram := { s2.dram with
        overdue := Tab.put s2.dram.overdue q.port (Tab.getD s2.dram.overdue q.port 0 + 1) } }
    else s2
  s3.dramFill c

/-- At a superframe start: MAX_LAT and event 0xD005 (R449; log 18). -/
def State.dramSuperframe (s : State) : State :=
  let s1 := s.dram.overdue.foldl (fun s e => s.postEvent 0xD005 (items [e.1, e.2])) s
  { s1 with dram := { s1.dram with latLast := s1.dram.latNow, latNow := [], overdue := [] } }

/-- A channel's fault (R457): requests whose data burst had begun complete to the devices, the others are discarded and
answered DMC_OFFLINE; the devices keep their contents in self-refresh. -/
def State.clearDram (s : State) (c : Nat) : State :=
  let s1 := s.modDch c fun x =>
    { x with queue := [], rows := [], hits := [], pause := none, selfRefresh := true, retraining := true }
  let lost := (s.dch c).queue ++ (List.range 8).flatMap fun p => Tab.getD s.dram.waiting (c * 8 + p) []
  lost.foldl (fun s q => s.dramAnswer q.port q.granule 0x7D [])
    { s1 with dram := { s1.dram with waiting := Tab.keep s1.dram.waiting (fun k _ => k / 8 != c) } }

/-- A read of page-sized data: an uncorrectable error is logged, newest first, and posted (R456). -/
def State.dramError (s : State) (e : DramErr) : State :=
  let a := e.channel + 4 * e.rank + 8 * e.subch + 16 * e.bank + 256 * e.row + 2 ^ 26 * e.port
  let s1 := { s with dram := { s.dram with log := (e :: s.dram.log).take 16, written := (s.dram.written + 1) % 2 ^ 32 } }
  (s1.inc ⟨0x3C00080 + 4 * e.channel, 31, 16⟩).postEvent 0xD001
    (leBytes 4 a ++ leBytes 4 (e.column + 65536 * e.symbols) ++ leBytes 8 e.time.toNat)

end Sys2Proof.Machine
end

