-- ==== Sys2Proof/Machine/MeshOps.lean ====
section
/-! DEFINITION. The packet path's source FIFOs (11 R301), and the mesh island's settings, slots, ledger, queues and
bridge (10 R265 to R292). -/

namespace Sys2Proof.Machine

/-! ## Source FIFOs of the packet path -/

/-- A frame enters a source's FIFO of 256 frames; at a full one it is dropped and counted (11 R301). A packet path out of
service or gated drops it at its boundary (01 R33, 02 R54). -/
def State.ingress (s : State) (src : Nat) (f : SrcFrame) : State :=
  if !(s.inService .pkt) || s.gated 10 then s.refuseBy (srcUnit src)
  else if 256 ≤ (Tab.getD s.fifos src []).length then
    { s.inc (pktCnt 0 false) with overflows := Tab.put s.overflows src (Tab.getD s.overflows src 0 + 1) }
  else { s with fifos := Tab.put s.fifos src (Tab.getD s.fifos src [] ++ [f]) }

/-! ## Settings (10 R295) -/

/-- Record 0x0801 and its fields. -/
def State.nwRec (s : State) : List Byte := s.recBytes 0x0801
def State.coordinator (s : State) : Nat := fieldLE s.nwRec 0 8
def State.fcsBytes (s : State) : Nat := if bitOf (fieldLE s.nwRec 13 1) 0 then 4 else 2
def State.nwDb (s : State) (o : Nat) : Int := signed 8 (fieldLE s.nwRec o 1)

/-- Bit rate in kbit/s of MODE. -/
def State.nwRate (s : State) : Nat := [50, 100, 150, 200, 200, 400].getD (fieldLE s.nwRec 12 1) 50

/-- Air time of octets, in ns. -/
def State.octNs (s : State) (n : Nat) : Nat := n * 8000000 / s.nwRate

/-- Whole octets that hold a time in ns. -/
def State.octsFor (s : State) (ns : Nat) : Nat := (ns * s.nwRate + 7999999) / 8000000

/-- A guard rounded up to whole octets, in ns (R282). -/
def State.wholeGuard (s : State) (ns : Nat) : Nat := s.octNs (s.octsFor ns)

/-- Air time of a frame: guard extension (ns, in whole octets), preamble, SFD, PHR, PSDU of the payload (R276). -/
def State.airTime (s : State) (guard payload : Nat) : Nat :=
  s.octNs (s.octsFor guard + fieldLE s.nwRec 15 1 + 2 + 2 + 30 + payload + 8 + s.fcsBytes)

/-- Sub-bands of record 0x0803: low, high (kHz), B (ms), LBT, LBT_DBM. -/
def State.subBands (s : State) : List (List Byte) := s.recsOf 0x0803

/-- The sub-band of a channel in kHz, edges included as in the record's check (R290). -/
def State.bandOf (s : State) (khz : Nat) : Nat :=
  ((s.subBands.zipIdx).find? (fun (b, _) => decide (fieldLE b 0 4 ≤ khz) && decide (khz ≤ fieldLE b 4 4))).elim 0 (·.2)

/-- The sub-bands of mesh frames and of wake-up signals. -/
def State.frameBand (s : State) : Nat := s.bandOf (fieldLE s.nwRec 8 4)
def State.wakeBand (s : State) : Nat := s.bandOf (fieldLE s.nwRec 32 4)

/-- MT in ms. -/
def State.mtMs (s : State) : Nat := s.mtNs / 1000000

/-- Change the island. -/
def State.modMesh (s : State) (f : MeshSt → MeshSt) : State := { s with mesh := f s.mesh }

/-- NW_CNT registers: 0 RX, 1 SEC, 2 DUP, 3 TX, 4 Q, 5 CAP, 6 DOWN. -/
def nwCnt (i : Nat) (high : Bool) : FieldRef := ⟨0x2000040 + 4 * i, if high then 31 else 15, if high then 16 else 0⟩

/-! ## Slots (R280, R281) -/

/-- Slot length in ns of a code. -/
def meshSlotNs (code : Nat) : Nat := 6400000 * 2 ^ code

/-- Runs of a slot map from its registers. -/
def mapOf (read : Nat → Word) : List (Nat × Nat × Nat) :=
  (List.range 32).filterMap fun r =>
    let w := (read (0x2000100 + 4 * r)).toNat
    if bitsOf w 23 12 = 0 then none else some (bitsOf w 11 0, bitsOf w 23 12, bitsOf w 26 24)

/-- Kind of a slot; IDLE where no run covers it. -/
def kindIn (map : List (Nat × Nat × Nat)) (i : Nat) : Nat :=
  (map.find? (fun (a, n, _) => decide (a ≤ i) && decide (i < a + n))).elim 0 (·.2.2)

/-- Slots of a mesh superframe. -/
def State.meshSlots (s : State) : Nat := s.mesh.n * s.mesh.sfNs / meshSlotNs s.mesh.slot

/-- The present slot, its start and its kind. -/
def State.meshSlot (s : State) : Nat := (s.mtNs - s.mesh.sf) / meshSlotNs s.mesh.slot
def State.meshSlotStart (s : State) : Nat := s.mesh.sf + s.meshSlot * meshSlotNs s.mesh.slot
def State.slotKind (s : State) : Nat := kindIn s.mesh.map s.meshSlot

/-- The LISTEN slots of a mesh superframe. -/
def State.listenSlots (s : State) : List Nat := (List.range s.meshSlots).filter fun i => kindIn s.mesh.map i == 3

/-- CRC-32 of a node's 8-byte address (R281). -/
def nodeHash (addr : Nat) : Nat := crc32 (leBytes 8 addr)

/-- A leaf listens in the mesh superframe of a BSN, and in which slot. -/
def leafListens (k addr bsn : Nat) : Bool := bsn % 2 ^ k == nodeHash addr / 65536 % 2 ^ k
def State.leafSlot (s : State) (addr : Nat) : Nat :=
  let l := s.listenSlots
  l.getD (nodeHash addr % Nat.max 1 l.length) 0

/-- The guard G in ns for a leaf at T (R282), none beyond the guard (R283): above 10 ms, or AGE never. -/
def State.guardFor (s : State) (l : LeafInfo) (t : Nat) : Option Nat :=
  let dt := l.age * 100000000 + (t - l.sfd)
  let g := fieldLE s.nwRec 21 1 * 100000 + 2 * l.rho * dt / 1000000
  if l.age = 0xFFFF || 10000000 < g then none else some g

/-- T of the leaf's next LISTEN slot from now on (R281): in this mesh superframe or a later one. -/
def State.nextListen (s : State) (l : LeafInfo) (addr : Nat) : Nat :=
  let off := s.leafSlot addr * meshSlotNs s.mesh.slot + 5000000
  let len := s.mesh.n * s.mesh.sfNs
  let k := (List.range (2 ^ l.listenExp + 1)).find? fun i =>
    leafListens l.listenExp addr (s.mesh.bsn + i) && decide (s.mtNs ≤ s.mesh.sf + i * len + off)
  s.mesh.sf + k.getD 0 * len + off

/-! ## Ledger (R290, R291) -/

/-- Ledger time's bucket of an instant of FR. -/
def bucketOf (fr : Nat) : Nat := fr / 100000000

/-- Key of a bucket. -/
def ledgerKey (band b : Nat) : Nat := band * 2 ^ 40 + b

/-- Charges of a sub-band in the 36,000 buckets that end at be, in 10 µs units, times 36,000; the buckets before a
restart hold B / 36,000 each. -/
def State.ledgerSum (s : State) (band be : Nat) : Nat :=
  let b := fieldLE (s.subBands.getD band []) 8 4 * 100
  let real := ((s.mesh.ledger.filter (fun e =>
    e.1 / 2 ^ 40 == band && decide (be < e.1 % 2 ^ 40 + 36000) && decide (e.1 % 2 ^ 40 ≤ be))).map (·.2)).sum
  real * 36000 + (s.mesh.ledgerFrom + 36000 - be) * b

/-- Whether a transmission of an air time (ns) is admitted now. -/
def State.dutyOk (s : State) (band air : Nat) : Bool :=
  let be := bucketOf (s.frNs + air)
  decide (s.ledgerSum band be + (air + 9999) / 10000 * 36000 ≤ fieldLE (s.subBands.getD band []) 8 4 * 100 * 36000)

/-- Charge it to the bucket that holds its end; buckets no window reaches any more go. -/
def State.charge (s : State) (band air : Nat) : State :=
  let be := bucketOf (s.frNs + air)
  s.modMesh fun m =>
    let k := ledgerKey band be
    let l := Tab.keep m.ledger fun k _ => decide (be < k % 2 ^ 40 + 36000)
    { m with ledger := Tab.put l k (Tab.getD l k 0 + (air + 9999) / 10000) }

/-- A reply window's next frame is due before a transmission that starts now has ended: it takes precedence over the slot
kinds but BEACON (R282). -/
def State.replyDue (s : State) (air : Nat) : Bool :=
  s.mesh.replies.any fun r => decide (r.at_ < s.mtNs + air)
    && (r.ack.isSome || s.mesh.down.any fun e => e.2.dst == r.node && !r.sent.contains e.1)

/-- Restart the ledger (R291). -/
def State.restartLedger (s : State) : State :=
  s.modMesh fun m => { m with ledger := [], ledgerFrom := bucketOf s.frNs }

/-! ## Transmission -/

/-- Post an event at most once per mesh superframe, under a key. -/
def State.postOnce (s : State) (key code : Nat) (payload : List Byte) : State :=
  if s.mesh.posted.contains key then s
  else (s.modMesh fun m => { m with posted := key :: m.posted }).postEvent code payload

/-- Try to transmit (R290, R292): none when sent, else the obstacle. A busy channel charges nothing; a refusal of the
ledger is counted and posted. Own transmission ends a reception (R274). In HOLD no transmitter is enabled (03 R74), and
nothing is sent in a realignment interval (04 R118); nor, but for open reply windows, from an MT step to the next mesh
superframe: a transmission due there is LATE (R286). -/
def State.meshSend (s : State) (what : MeshWhat) (band air : Nat) (reply : Bool) (level : Int) : Option Nat × State :=
  let sb := s.subBands.getD band []
  if s.boot.state == .hold then (some 0x54, s)
  else if s.realigning || (s.mesh.gap && !reply) then (some 0x04, s)
  else if s.mesh.tx.isSome then (some 0x0F, s)
  else if bitOf (fieldLE sb 12 1) 0 && decide (signed 8 (fieldLE sb 13 1) ≤ level) then
    (some 0x53, s.inc (nwCnt 3 true))
  else if !(s.dutyOk band air) then
    let s1 := s.inc (nwCnt 3 false)
    (some 0x0C, s1.postOnce (16 + band) 0x8003 (items [band, s.ledgerSum band (bucketOf (s.frNs + air)) / 3600000, s.mesh.bsn]))
  else
    let s1 := s.charge band air
    (none, s1.modMesh fun m => { m with rx := .search, searchFrom := s.elapsed, tx := some ⟨what, s.mtNs + air, s.elapsed, reply⟩ })

/-- The island's frame counter (R285): it draws a new epoch at the warning value. -/
def State.meshFc (s : State) : Nat × State :=
  let n := s.mesh.fc
  let s1 := s.modMesh fun m => { m with fc := n + 1 }
  if n + 1 = 0xFFF00000 then
    let (v, s2) := s1.draw 64
    (n, (s2.modMesh fun m => { m with epochNext := some (v, m.bsn + 2) }).postEvent 0x8005 (items [1]))
  else (n, s1)

/-- Cells of 256 B of a frame in the queue. -/
def meshCells (payload : List Byte) : Nat := Nat.max 1 ((payload.length + 20 + 255) / 256)

/-- Cells of the UP and the DOWN queue. -/
def State.upCells (s : State) : Nat := (s.mesh.up.map (fun u => meshCells u.payload)).sum
def State.downCells (s : State) : Nat := (s.mesh.down.map (fun e => meshCells e.2.payload)).sum

/-- A frame is admitted while its queue holds fewer cells than its limit, and only into cells that are there: 4,859 for both queues
(R265, R270; log 82). -/
def State.queueRoom (s : State) (payload : List Byte) (held limit : Nat) : Bool :=
  decide (held < limit) && decide (s.upCells + s.downCells + meshCells payload ≤ 4859)

/-- A DOWN frame leaves the queue with a status; its result holds the attempts and the BSN of the last one (R294). -/
def State.downDone (s : State) (id status : Nat) : State :=
  match Tab.get? s.mesh.down id with
  | none => s
  | some d =>
    let s1 := s.modMesh fun m => { m with down := Tab.del m.down id }
    let s2 := if status = 0x51 then s1.inc (nwCnt 4 true) else s1
    match d.cmd with
    | some (fn, tag) => s2.complete fn tag status (d.attempts % 16 + d.bsn % 2 ^ 28 * 16)
    | none => s2

/-- Change a DOWN frame. -/
def State.modDown (s : State) (id : Nat) (f : MeshDown → MeshDown) : State :=
  s.modMesh fun m => { m with down := Tab.upd m.down id f }

/-- Try to send a DOWN frame with a guard (R282, R294): each attempt keeps the FC and the STAMP of the first; after
RETRY + 1 attempts without an acknowledgement it completes NW_NO_ACK. A refusal is the frame's obstacle where R294 names
its status; a LATE one leaves the frame queued (R286; log 173). -/
def State.sendDown (s : State) (id guard : Nat) (reply : Bool) (level : Int) : State :=
  match Tab.get? s.mesh.down id with
  | none => s
  | some d =>
    if s.mesh.tx.isSome then s
    else if d.ackReq && fieldLE s.nwRec 30 1 + 1 ≤ d.attempts then s.downDone id 0x52
    else
      let (st, s1) := s.meshSend (.data id) s.frameBand (s.airTime guard d.payload.length) reply level
      match st with
      | some o => s1.modDown id fun d =>
          if o = 0x0C || o = 0x53 then { d with obstacle := o } else if o = 0x04 then { d with late := d.late + 1 } else d
      | none =>
        let (fc, s2) := match d.fc with | some f => (f, s1) | none => s1.meshFc
        let s3 := s2.modDown id fun d =>
          { d with fc := some fc, stamp := if d.fc.isSome then d.stamp else s.mtMs, attempts := d.attempts + 1, bsn := s.mesh.bsn }
        match d.cmd with
        | some (fn, tag) => s3.reached fn tag 0
        | none => s3

/-- A router that the island has learned (R284). -/
def State.learned (s : State) (addr : Nat) : Bool := ((Tab.get? s.mesh.routers addr).bind (·.drift)).isSome

/-- The clock error predicted for a router at an instant, in µs. -/
def Router.predict (r : Router) (t : Nat) : Int :=
  match r.drift with
  | some (de, dt) => r.err + de * ((t : Int) - r.at_) / (Nat.max 1 dt : Nat)
  | none => r.err

/-! ## Bridge (R267, R269 to R271) -/

/-- The Ethernet II frame of an accepted uplink frame (R269), padded to 64 B with its FCS. -/
def State.bridgeFrame (s : State) (u : MeshUp) : List Byte :=
  let r := s.recBytes 0x0805
  let b := slice r 6 6 ++ slice r 0 6 ++ [0x88#8, 0xB5#8] ++ leBytes 8 u.src ++ leBytes 4 u.stamp ++ leBytes 1 u.rssi
    ++ leBytes 1 u.info ++ leBytes 2 u.payload.length ++ leBytes 4 u.mtUs ++ u.payload
  b ++ List.replicate (60 - b.length) 0

/-- Hand an uplink frame to the packet path: source 0x18. -/
def State.bridgeUp (s : State) (u : MeshUp) : State := s.ingress 0x18 { bytes := s.bridgeFrame u }

/-- A summary's 32 bytes: count, bytes, first and last MT, minimum and maximum, topic (layout: log 35). -/
def summaryBytes (topic : Nat) (x : Summary) : List Byte :=
  leBytes 4 x.count ++ leBytes 4 x.bytes ++ leBytes 8 x.first.toNat ++ leBytes 8 x.last.toNat ++ leBytes 2 x.minV
    ++ leBytes 2 x.maxV ++ leBytes 1 topic ++ leBytes 3 0

/-- The drain of R271 in BRIDGED: the UP queue goes to the packet path in order as its source FIFO has room (11 R301), and
then the summaries as one work item, event 0x8009. -/
def State.drainUp (s : State) : State :=
  if s.mesh.state != .bridged then s
  else
    let n := 256 - (Tab.getD s.fifos 0x18 []).length
    let s1 := ((s.mesh.up.take n).foldl (fun s u => s.bridgeUp u) s).modMesh fun m => { m with up := m.up.drop n }
    let sums := s1.mesh.summaries
    if !s1.mesh.up.isEmpty || sums.isEmpty then s1
    else
      let payload := sums.flatMap fun e => summaryBytes e.1 e.2
      let (h, s3) := (s1.modMesh fun m => { m with summaries := [] }).enqueue macQueue macPrio 0xFF none 0x08 0x01 payload []
      let s4 := if h.isNone then s3.dropFull macQueue else s3
      s4.postEvent 0x8009 (items [sums.length, ((sums.map (·.2.count)).sum)])

/-- Enter BRIDGED (R267, R271). -/
def State.enterBridged (s : State) : State :=
  (s.modMesh fun m => { m with state := .bridged, upFullPosted := false }).drainUp

/-- The island moves between ALONE and BRIDGED with the bridge's clock and the packet path (R267). -/
def State.meshLink (s : State) : State :=
  let open_ := s.flag (clkSt 15) && s.flag (clkEn 15) && s.inService .pkt
  match s.mesh.state with
  | .alone => if open_ then s.enterBridged else s
  | .bridged => if open_ then s else s.modMesh fun m => { m with state := .alone, upFullPosted := false }
  | _ => s

/-- The island's cold start (R267, R273, R285): subject 0x08 accepted with its record and MT started. The epoch is drawn,
the floor is now, ANCHOR is PHASE, the first mesh superframe start is the next one. -/
def State.meshStart (s : State) : State :=
  if s.mesh.state != .reset || s.nwRec.isEmpty || s.time.mtState == .notStarted || (s.unit FUnit.mesh.idx).phase == .recovering
      || (s.unit FUnit.mesh.idx).held.isSome then s
  else
    let (v, s0) := s.draw 64
    let s1 := s0.setUnit FUnit.mesh.idx { phase := .service }
    let n := s.get ⟨0x2000004, 5, 0⟩ + 1
    let len := n * s.sfNs
    let off := (((s.mtNs : Int) - s.grid.phase) % len).toNat
    ((s1.modMesh fun m =>
      { m with state := .alone, epoch := v, fc := 0, floor := s.mtMs, anchor := s.grid.phase, n := n, sfNs := s.sfNs
               slot := s.get ⟨0x2000004, 8, 6⟩, map := mapOf s.reg, started := false
               next := if off = 0 then s.mtNs else s.mtNs + (len - off) }).postEvent 0x8005 (items [0])).meshLink

/-- An island fault (R267, R268): before its cold start the island has no work and keeps its state; else queues, cache, routers and summaries go; ledger, epoch, counter, floor, keys and settings
stay, unless the retention store's parity failed: then the ledger restarts and an epoch is drawn (R266, R285, R291); damage
to the ledger's region restarts the ledger (R291). -/
def State.clearMesh (s : State) (retention ledger : Bool) : State :=
  let s1 := s.modMesh fun m =>
    if m.state == .reset then m
    else
    { state := .recovering, anchor := m.anchor, bsn := m.bsn, started := m.started, sf := m.sf, next := m.next, n := m.n
      sfNs := m.sfNs, slot := m.slot, map := m.map, change := m.change, gap := true
      floor := m.floor, epoch := m.epoch, epochNext := m.epochNext, fc := m.fc, keys := m.keys, ledger := m.ledger, ledgerFrom := m.ledgerFrom, nextDown := m.nextDown }
  if s.mesh.state == .reset then s1
  else if retention then
    let (v, s2) := s1.restartLedger.draw 64
    (s2.modMesh fun m => { m with epoch := v, epochNext := none, fc := 0 }).postEvent 0x8005 (items [0])
  else if ledger then s1.restartLedger
  else s1

/-- The island has reached its reset state (R267): the floor is now, it sends again from the next mesh superframe start on. -/
def State.meshRecovered (s : State) : State :=
  if s.mesh.state != .recovering then s
  else (s.modMesh fun m => { m with state := .alone, floor := s.mtMs, gap := true }).meshLink

/-! ## Waking from Dormant (05 R148) -/

/-- Dormant ends (R148, 16 R465): DORMANT_REQ goes low, RAIL_RAMP counts from here, the exit's first step runs. -/
def State.startExit (s : State) (cause : Nat) : State :=
  { s with
    power := { s.power with dormantReq := false, rampFrom := s.elapsed }
    dormant := { s.dormant with seq := .exit 1, lastWake := cause, heldWake := none, mtAtWake := s.mt64, postLeft := true } }

/-- A wake of a cause (1 MT, 2 GPIO, 3 mesh) counts: its source is enabled, and the cell is in Dormant or on its way there
without a wake that is already held. -/
def State.wakeable (s : State) (cause : Nat) : Bool :=
  s.flag ⟨0x300060, 3 + cause, 3 + cause⟩ && (match s.dormant.seq with
    | .dormant => true
    | .entry _ => s.dormant.heldWake.isNone
    | _ => false)

/-- A wake: it starts the exit in Dormant, and is held before step 10 of the entry. -/
def State.wake (s : State) (cause : Nat) : State :=
  if s.dormant.seq == .dormant then s.startExit cause
  else { s with dormant := { s.dormant with heldWake := some cause } }

end Sys2Proof.Machine
end

