-- ==== Sys2Proof/Machine/Parse.lean ====
section
/-! DEFINITION. The packet parser and the rewrites of headers (11 R304 to R308, R313, R320, R325). -/

namespace Sys2Proof

/-- The fields the parser finds (R313): offsets `l3` and `l4` of the headers (0 where there is none); `good` a good IP
header. Ports, addresses and TCIs are bytes in the order of their headers. -/
structure Parsed where
  tags : List (Nat × Nat) := []
  etherType : Nat := 0
  l3 : Nat := 0
  l4 : Nat := 0
  v4 : Bool := false
  v6 : Bool := false
  arp : Bool := false
  good : Bool := false
  frag : Bool := false
  hasL4 : Bool := false
  opts : Bool := false
  ttlLow : Bool := false
  trunc : Bool := false
  tos : Nat := 0
  proto : Nat := 0
  src : List Byte := List.replicate 16 0
  dst : List Byte := List.replicate 16 0
  l4src : List Byte := [0, 0]
  l4dst : List Byte := [0, 0]
  tcpFlags : Nat := 0
  ipLen : Nat := 0
deriving DecidableEq, Repr

/-- The sum of 16-bit words in ones' complement. -/
def sum16 : List Byte → Nat
  | a :: b :: t =>
    let s := sum16 t + (a.toNat * 256 + b.toNat)
    if s ≥ 65536 then s - 65535 else s
  | [a] => a.toNat * 256
  | [] => 0

/-- The Internet checksum of bytes. -/
def inetSum (bs : List Byte) : Nat := (65535 - sum16 bs) % 65536

/-- A group address. -/
def isGroup (a : List Byte) : Bool := (a.getD 0 0#8).getLsbD 0

/-- The broadcast address. -/
def isBroadcast (a : List Byte) : Bool := a == List.replicate 6 0xFF#8

/-- A header of n bytes at o ends within the first 256 bytes and within the frame (R305). -/
def fits (bs : List Byte) (o n : Nat) : Bool := decide (o + n ≤ 256) && decide (o + n ≤ bs.length)

/-- Layer 4 at an offset (R304): TCP, UDP, ICMP, ICMPv6. -/
def parseL4 (bs : List Byte) (p : Parsed) (o proto : Nat) : Parsed :=
  let q := { p with proto := proto }
  if p.frag then q
  else if proto = 6 then
    if !fits bs o 20 || !fits bs o (fieldBE bs (o + 12) 1 / 16 * 4) then { q with trunc := true }
    else { q with hasL4 := true, l4 := o, l4src := slice bs o 2, l4dst := slice bs (o + 2) 2, tcpFlags := fieldBE bs (o + 13) 1 }
  else if proto = 17 then
    if !fits bs o 8 then { q with trunc := true }
    else { q with hasL4 := true, l4 := o, l4src := slice bs o 2, l4dst := slice bs (o + 2) 2 }
  else if (proto = 1 && p.v4) || (proto = 58 && p.v6) then
    if !fits bs o (if proto = 1 then 8 else 4) then { q with trunc := true }
    else { q with hasL4 := true, l4 := o, l4src := slice bs o 2 }
  else q

/-- IPv6 extension headers (R304), at most four: the chain's end, what follows, whether a Fragment header came, truncation, and whether
layer 4 is not parsed. A Fragment header ends the chain: of a later fragment nothing behind it is a header, and all fragments are
classified alike (R306). A header that is cut reads as none (R305). -/
def extHeaders (bs : List Byte) : Nat → Nat → Nat → Nat × Nat × Bool × Bool × Bool
  | 0, o, nh => (o, nh, false, false, nh == 0 || nh == 43 || nh == 44 || nh == 60)
  | n + 1, o, nh =>
    if nh = 0 || nh = 43 || nh = 60 then
      if !fits bs o 8 || !fits bs o (8 * (fieldBE bs (o + 1) 1 + 1)) then (o, 0, false, true, true)
      else extHeaders bs n (o + 8 * (fieldBE bs (o + 1) 1 + 1)) (fieldBE bs o 1)
    else if nh = 44 then
      if !fits bs o 8 then (o, 0, false, true, true) else (o + 8, fieldBE bs o 1, true, false, true)
    else (o, nh, false, false, false)

/-- Layer 3 (R304 to R306). An IPv4 header without its 20 bytes by IHL, and an extension chain that is not recognised, end
parsing. -/
def parseL3 (bs : List Byte) (p : Parsed) (o : Nat) : Parsed :=
  if p.etherType = 0x0806 then
    if fits bs o 28 then { p with arp := true, l3 := o } else { p with trunc := true }
  else if p.etherType = 0x0800 then
    let ihl := fieldBE bs o 1 % 16
    if !fits bs o 20 || !fits bs o (4 * ihl) then { p with trunc := true }
    else
      let tot := fieldBE bs (o + 2) 2
      let good := decide (5 ≤ ihl) && inetSum (slice bs o (4 * ihl)) == 0 && decide (o + tot ≤ bs.length)
      let ff := fieldBE bs (o + 6) 2
      let q := { p with v4 := true, l3 := o, good := good, frag := ff % 16384 ≠ 0, opts := decide (5 < ihl)
                        ttlLow := decide (fieldBE bs (o + 8) 1 ≤ 1), tos := fieldBE bs (o + 1) 1, proto := fieldBE bs (o + 9) 1
                        src := slice bs (o + 12) 4 ++ List.replicate 12 0, dst := slice bs (o + 16) 4 ++ List.replicate 12 0
                        ipLen := tot }
      if 5 ≤ ihl then parseL4 bs q (o + 4 * ihl) q.proto else q
  else if p.etherType = 0x86DD then
    if !fits bs o 40 then { p with trunc := true }
    else
      let len := fieldBE bs (o + 4) 2
      let good := decide (o + 40 + len ≤ bs.length)
      let (e, nh, fr, tr, stop) := extHeaders bs 4 (o + 40) (fieldBE bs (o + 6) 1)
      let q := { p with v6 := true, l3 := o, good := good, frag := fr, opts := decide (o + 40 < e), trunc := tr
                        ttlLow := decide (fieldBE bs (o + 7) 1 ≤ 1), tos := fieldBE bs o 2 / 16 % 256, proto := nh
                        src := slice bs (o + 8) 16, dst := slice bs (o + 24) 16, ipLen := 40 + len }
      if !stop then parseL4 bs q e nh else q
  else p

/-- The parser (R304, R305) over a frame from DA on. -/
def parse (bs : List Byte) : Parsed :=
  let t0 := fieldBE bs 12 2
  if !fits bs 0 14 then { trunc := true }
  else if t0 = 0x88A8 || t0 = 0x8100 then
    if !fits bs 12 6 then { trunc := true }
    else
      let tag0 := (t0, fieldBE bs 14 2)
      let t1 := fieldBE bs 16 2
      if t1 = 0x8100 then
        if !fits bs 16 6 then { tags := [tag0], trunc := true }
        else parseL3 bs { tags := [tag0, (t1, fieldBE bs 18 2)], etherType := fieldBE bs 20 2 } 22
      else parseL3 bs { tags := [tag0], etherType := t1 } 18
  else parseL3 bs { etherType := t0 } 14

/-- The classification key (R313). -/
def classKey (tenant src : Nat) (bs : List Byte) (p : Parsed) (vxlan routerDa : Bool) (up : Nat) : List Byte :=
  let fl := b2n (decide (0 < p.tags.length)) + 2 * b2n (decide (1 < p.tags.length)) + 4 * b2n p.v4 + 8 * b2n p.v6
    + 16 * b2n ((p.v4 || p.v6) && !p.good) + 32 * b2n p.frag + 64 * b2n p.hasL4 + 128 * b2n (p.hasL4 && p.proto == 6)
    + 256 * b2n (p.hasL4 && p.proto == 17) + 512 * b2n vxlan + 1024 * b2n p.arp + 2048 * b2n routerDa
    + 4096 * b2n (isGroup bs) + 8192 * b2n p.trunc + 16384 * b2n p.opts + 32768 * b2n p.ttlLow
  leBytes 1 tenant ++ leBytes 1 src ++ leBytes 2 fl ++ beBytes 2 p.etherType ++ beBytes 2 ((p.tags.getD 0 (0, 0)).2)
    ++ beBytes 2 ((p.tags.getD 1 (0, 0)).2) ++ leBytes 1 p.tos ++ leBytes 1 p.proto ++ p.l4src ++ p.l4dst ++ slice bs 0 12
    ++ leBytes 1 p.tcpFlags ++ leBytes 1 up ++ [0, 0] ++ p.src ++ p.dst

/-- The flow-table key (R311): 40 bytes, one for each flag (log 36). -/
def flowKey (tenant : Nat) (v6 frag : Bool) (proto : Nat) (l4src l4dst src dst : List Byte) : List Byte :=
  leBytes 1 tenant ++ leBytes 1 (b2n v6) ++ leBytes 1 (b2n frag) ++ leBytes 1 proto ++ l4src ++ l4dst ++ src ++ dst

/-- The flow-table key of a parsed frame. -/
def Parsed.key (p : Parsed) (tenant : Nat) : List Byte := flowKey tenant p.v6 p.frag p.proto p.l4src p.l4dst p.src p.dst

/-- The hash h of R318. -/
def Parsed.hash (p : Parsed) : Nat := crc32 (p.src ++ p.dst ++ leBytes 1 p.proto ++ p.l4src ++ p.l4dst)

/-- Set bytes of a list at an offset. -/
def patch (bs : List Byte) (o : Nat) (v : List Byte) : List Byte := bs.take o ++ v ++ bs.drop (o + v.length)

/-- Write an IPv4 header's checksum anew; RFC 1624's incremental update gives the same (R320). -/
def fixIpv4 (bs : List Byte) (o : Nat) : List Byte :=
  let n := fieldBE bs o 1 % 16 * 4
  let b := patch bs (o + 10) [0, 0]
  patch b (o + 10) (beBytes 2 (inetSum (slice b o n)))

/-- One is taken from the TTL or hop limit (R320). -/
def decTtl (bs : List Byte) (p : Parsed) : List Byte :=
  if p.v4 then fixIpv4 (patch bs (p.l3 + 8) (beBytes 1 (fieldBE bs (p.l3 + 8) 1 - 1))) p.l3
  else if p.v6 then patch bs (p.l3 + 7) (beBytes 1 (fieldBE bs (p.l3 + 7) 1 - 1)) else bs

/-- DSCP is set in an IP header (R325). -/
def setDscp (bs : List Byte) (p : Parsed) (d : Nat) : List Byte :=
  if p.v4 then fixIpv4 (patch bs (p.l3 + 1) (beBytes 1 (d * 4 + p.tos % 4))) p.l3
  else if p.v6 then
    let w := fieldBE bs p.l3 2
    patch bs p.l3 (beBytes 2 (w / 4096 * 4096 + (d * 4 + p.tos % 4) * 16 + w % 16))
  else bs

/-- PCP is set in the outer tag, if there is one (R325). -/
def setPcp (bs : List Byte) (p : Parsed) (pcp : Nat) : List Byte :=
  if p.tags.isEmpty then bs else patch bs 14 (beBytes 2 (pcp * 8192 + fieldBE bs 14 2 % 8192))

/-- Take the outer tag off, or push one (R309, R325). -/
def popTag (bs : List Byte) : List Byte := bs.take 12 ++ bs.drop 16
def pushTag (bs : List Byte) (vid pcp : Nat) : List Byte :=
  bs.take 12 ++ beBytes 2 0x8100 ++ beBytes 2 (pcp * 8192 + vid) ++ bs.drop 12

/-- DA and SA are replaced. -/
def setMacs (bs da sa : List Byte) : List Byte := da ++ sa ++ bs.drop 12

/-- The MSDU of a frame toward a station (R325): RFC 1042 LLC/SNAP and the payload, without tags and IP padding. -/
def toMsdu (bs : List Byte) (p : Parsed) : List Byte :=
  let o := 14 + 4 * p.tags.length
  let pay := bs.drop o
  let pay := if (p.v4 || p.v6) && p.good then pay.take p.ipLen else pay
  [0xAA#8, 0xAA#8, 0x03#8, 0#8, 0#8, 0#8] ++ beBytes 2 p.etherType ++ pay

/-- The tunnel template is pushed (R325, R343); the identification, DF and flow label, which the template does not hold,
are free (log 37). -/
def pushTunnel (t bs : List Byte) (p : Parsed) : List Byte :=
  let fl := fieldLE t 0 1
  let v6 := bitOf fl 0
  let d := fieldLE t 1 1
  let dscp := if bitOf d 7 then p.tos / 4 else d % 64
  let free := fun (w k : Nat) => (Config.freeOf w (0x0325 :: k :: bs.map (·.toNat))).toNat
  let vx := [0x08#8, 0, 0, 0] ++ (slice t 4 3).reverse ++ [0#8]
  let pay := vx ++ bs
  let sport := beBytes 2 (49152 + p.hash % 16384)
  let dport := beBytes 2 (fieldLE t 0x16 2)
  let ulen := beBytes 2 (8 + pay.length)
  let l3 :=
    if v6 then
      let src := slice t 0x18 16
      let dst := slice t 0x28 16
      let pseudo := src ++ dst ++ beBytes 4 (8 + pay.length) ++ [0, 0, 0, 17]
      let u := sport ++ dport ++ ulen
      let c := inetSum (pseudo ++ u ++ [0, 0] ++ pay)
      beBytes 4 (6 * 2 ^ 28 + dscp * 4 * 2 ^ 20 + free 20 0) ++ ulen ++ [17#8] ++ slice t 2 1 ++ src ++ dst
        ++ u ++ beBytes 2 (if c = 0 then 0xFFFF else c) ++ pay
    else
      let h := [0x45#8] ++ beBytes 1 (dscp * 4) ++ beBytes 2 (28 + pay.length) ++ beBytes 2 (free 16 1)
        ++ beBytes 2 (16384 * free 1 2) ++ slice t 2 1 ++ [17#8, 0, 0] ++ slice t 0x18 4 ++ slice t 0x28 4
      fixIpv4 h 0 ++ sport ++ dport ++ ulen ++ [0, 0] ++ pay
  slice t 8 12 ++ (if bitOf fl 1 then beBytes 2 0x8100 ++ beBytes 2 (fieldLE t 0x14 2) else [])
    ++ beBytes 2 (if v6 then 0x86DD else 0x0800) ++ l3

/-- The access category index of a UP (R329): 0 AC_BE, 1 AC_BK, 2 AC_VI, 3 AC_VO. -/
def aciOf (up : Nat) : Nat := [0, 1, 1, 0, 2, 2, 3, 3].getD up 0

/-- The bin of an address (14 R425). -/
def binOf (a : List Byte) : Nat := crc32 (a.take 6) % 4096

end Sys2Proof
end

