-- ==== Sys2Proof/Machine/PktOps.lean ====
section
/-! DEFINITION. Ports, sub-ports, buffers, queues, policers, shapers and tables of the packet path (11 R300 to R340,
14 R414 to R426). -/

namespace Sys2Proof.Machine

/-! ## Settings -/

/-- Time of a byte on a sub-port, in 0.01 ns (14 R414, R417). -/
def byteTime (speed : Nat) : Nat := [0, 800, 320, 160, 80, 32, 16, 8].getD speed 800

/-- NT in 0.01 ns. -/
def State.ntCentis (s : State) : Nat := s.time.nt.v * 100 / 2 ^ 48

/-- NT in ns some 0.01 ns ago, and the stamp of that instant: 0 while NT is not valid (04 R120). -/
def State.ntBack (s : State) (c : Nat) : Nat := (s.ntCentis - c) / 100
def State.stampBack (s : State) (c : Nat) : NT64 := if s.ntValid then BitVec.ofNat 64 (s.ntBack c) else 0

/-- MAX_FRAME of a sub-port's port, and the limit that R326 applies (14 R419). -/
def State.maxFrame (s : State) (sub : Nat) : Nat := s.get ⟨ethBase (portOf sub).1 + 8, 13, 0⟩

/-- The MACsec record of a sub-port, when it enables MACsec (14 R438). -/
def State.macsec (s : State) (sub : Nat) : Option (List Byte) :=
  (s.recsOf 0x0C04).find? (fun b => fieldLE b 0 1 == sub && bitOf (fieldLE b 1 1) 0)

/-- Octets MACsec adds to a frame (14 R419). -/
def State.secOverhead (s : State) (sub : Nat) : Nat := match s.macsec sub with
  | some b => if bitOf (fieldLE b 1 1) 1 then 32 else 24
  | none => 0

/-- A frame that takes the uncontrolled port (14 R426). -/
def State.bypasses (s : State) (sub : Nat) (body : List Byte) : Bool :=
  let t := fieldBE body 12 2
  t == 0x888E || (t == 0x88F7 && (match s.macsec sub with | some b => bitOf (fieldLE b 1 1) 2 | none => false))

/-- The group filter of a sub-port passes an address (14 R425). -/
def State.filterPass (s : State) (sub : Nat) (da : List Byte) : Bool :=
  let (p, l) := portOf sub
  let b := binOf da
  !(isGroup da) || isBroadcast (da.take 6) || (s.reg (ethBase p + 0x2000 + 0x200 * l + 4 * (b / 32))).getLsbD (b % 32)

/-- The record of a sub-port (11 R344), and its fields. -/
def State.subRec (s : State) (sub : Nat) : List Byte := ((s.recsOf 0x0903).find? (fun b => fieldLE b 0 1 == sub)).getD []
def State.subMode (s : State) (sub : Nat) : Nat := fieldLE (s.subRec sub) 1 1

/-- A tenant's registers (11 R347). -/
def tenCfg (t : Nat) : Nat := 0x2400100 + 0x10 * t
def State.tenVid (s : State) (t : Nat) : Nat := s.get ⟨tenCfg t, 11, 0⟩
def State.tenVni (s : State) (t : Nat) : Nat := s.get ⟨tenCfg t + 12, 23, 0⟩
def State.tenMac (s : State) (t : Nat) : List Byte :=
  leBytes 4 (s.reg (tenCfg t + 4)).toNat ++ leBytes 2 (s.reg (tenCfg t + 8)).toNat

/-- The tenant of a BSS (08 R214). -/
def bssCfg (r n : Nat) : Nat := macBase r + 0x100 + 0x10 * n
def State.bssTenant (s : State) (r n : Nat) : Nat := s.get ⟨bssCfg r n, 4, 1⟩
def State.bssOn (s : State) (r n : Nat) : Bool := s.flag ⟨bssCfg r n, 0, 0⟩

/-- The tenant of a station: that of its first link's BSS. -/
def State.staTenant (s : State) (sid : Nat) : Option Nat :=
  (Tab.get? s.mac.stas sid).bind fun x => (x.links.head?).map fun l => s.bssTenant l.radio l.bss

/-! ## Buffers -/

/-- Change the packet path. -/
def State.modPkt (s : State) (f : PktSt → PktSt) : State := { s with pkt := f s.pkt }

/-- Cells of 256 B (R334). -/
def cellsOf (n : Nat) : Nat := (n + 255) / 256

/-- SRAM cells in use (R334, R347). -/
def State.sramCells (s : State) : Nat :=
  ((s.mac.frames.filter (fun e => e.2.dram == 0)).map (·.2.cells)).sum
    + (s.wired.map (fun e => ((e.2.filter (fun f => f.dram == 0)).map (·.cells)).sum)).sum

/-- DRAM cells in use, and the cells of the spill region (R334, R344): none while subject 0x0D is rejected. -/
def State.dramCells (s : State) : Nat :=
  ((s.mac.frames.filter (fun e => e.2.dram != 0)).map (·.2.cells)).sum
    + (s.wired.map (fun e => ((e.2.filter (fun f => f.dram != 0)).map (·.cells)).sum)).sum
def State.spillCells (s : State) : Nat :=
  if s.boot.rejected.contains 0xD || s.recBytes 0x0D01 = [] then 0 else fieldLE (s.recBytes 0x0901) 6 2 * 4096

/-- One or more DRAM channels of a map are faulted or not trained. -/
def State.dramLost (s : State) (map : Nat) : Bool :=
  (List.range 4).any fun c => bitOf map c && !(s.inService (.dram c))

/-- Where a frame of n bytes goes in a queue that holds `sram` bytes in SRAM and, when `spilled`, frames in DRAM (R332):
the DRAM channels (0 for SRAM) or none where no cell is free (R334). The channels that spilled cells lie on are free. -/
def State.place (s : State) (sram n : Nat) (spilled : Bool) : Option Nat × State :=
  let fail := fun (s : State) (i : Nat) =>
    (none, (s.inc (pktCnt 5 false)).modPkt fun p => { p with exhausted := Tab.put p.exhausted i (Tab.getD p.exhausted i 0 + 1) })
  if spilled || s.get ⟨0x2400008, 9, 0⟩ * 1024 < sram + n then
    if s.spillCells < s.dramCells + cellsOf n then fail s 1
    else let d := s.draw 4; (some (1 + d.1.toNat % 15), d.2)
  else if 131072 < s.sramCells + cellsOf n then fail s 0
  else (some 0, s)

/-! ## Watch slots (R338 to R340) -/

/-- Bytes of a wired frame, from DA to FCS. -/
def WireFrame.len (f : WireFrame) : Nat := f.body.length + 4

/-- Identifier of a wired queue (R339). -/
def wiredId (sub q : Nat) : Nat := 65536 + 8 * sub + q

/-- Bytes, frames and head sojourn (ns) of a queue (R338, R339). -/
def State.queueOf (s : State) (qid : Nat) : Nat × Nat × Nat :=
  if qid < 32768 then
    let l := (s.mac.frames.filter (fun e => e.2.queue == qid && e.2.taken.isNone)).map (·.2)
    ((l.map (·.body.length)).sum, l.length, match l with | f :: _ => s.ntNs - f.enqNt | [] => 0)
  else
    let l := Tab.getD s.wired (qid % 128) []
    ((l.map (·.len)).sum, l.length, match l with | f :: _ => s.ntNs - f.enqNt | [] => 0)

/-- Change the running values of the enabled slots that watch a queue. -/
def State.watch (s : State) (qid : Nat) (f : Watch → Watch) : State :=
  (List.range 64).foldl (fun s n =>
    let w := (s.reg (0x2400600 + 4 * n)).toNat
    if bitOf w 31 && bitsOf w 16 0 == qid then
      let x : WatchSlot := Tab.getD s.pkt.watches n {}
      s.modPkt fun p => { p with watches := Tab.put p.watches n { x with now := f x.now } }
    else s) s

/-- The depth of a queue has grown. -/
def State.watchDepth (s : State) (qid : Nat) : State :=
  let d := (s.queueOf qid).1
  s.watch qid fun w => { w with maxDepth := Nat.max w.maxDepth d }

/-- A frame was dropped from a queue. -/
def State.watchDrop (s : State) (qid : Nat) : State := s.watch qid fun w => { w with drops := Nat.min 65535 (w.drops + 1) }

/-- A frame of n bytes was dequeued after a sojourn (ns). -/
def State.watchOut (s : State) (qid n soj : Nat) : State :=
  s.watch qid fun w =>
    { w with maxSoj := Nat.max w.maxSoj (Nat.min soj (2 ^ 32 - 1)), frames := Nat.min (w.frames + 1) (2 ^ 32 - 1)
             bytes := Nat.min (w.bytes + n) (2 ^ 32 - 1) }

/-- The record of R340. -/
def Watch.bytes_ (w : Watch) (slot : Nat) : List Byte :=
  leBytes 8 w.start ++ leBytes 4 w.queue ++ leBytes 4 w.maxDepth ++ leBytes 4 w.maxSoj ++ leBytes 4 w.frames
    ++ leBytes 4 w.bytes ++ leBytes 2 w.drops ++ leBytes 1 slot ++ [0#8]

/-! ## The task scheduler (R324) -/

/-- Count an item that its input queue did not take: a disabled queue's as DROP_FULL (13 R399), a full one's as
EXCEPTION_DROP (R324). -/
def State.exceptionDrop (s : State) (q : Nat) : State := if s.qOn q then s.inc (pktCnt 8 true) else s.dropFull q

/-- Send a frame to an input queue; one that is off or full drops it. -/
def State.toTask (s : State) (x : PktCtx) (reason q prio : Nat) : State :=
  let p := parse x.bytes
  let (h, s1) := s.enqueue q prio x.tenant none 0x09 reason x.bytes (p.key x.tenant)
  if h.isNone then s1.exceptionDrop q else s1.inc64 0x2400830

/-- At a superframe start the watch values move on, and EMIT delivers them (R340). -/
def State.watchSuperframe (s : State) (start : Nat) : State :=
  let s1 := (List.range 64).foldl (fun s n =>
    let w := (s.reg (0x2400600 + 4 * n)).toNat
    let x : WatchSlot := Tab.getD s.pkt.watches n {}
    let q := bitsOf w 16 0
    let fresh : Watch := { start := start % 2 ^ 64, queue := q, maxDepth := (s.queueOf q).1 }
    if bitOf w 31 then
      let y : WatchSlot := { now := fresh, last := if x.restart then x.last else x.now, restart := false }
      let s1 := s.modPkt fun p => { p with watches := Tab.put p.watches n y }
      if s.flag ⟨0x2400014, 6, 6⟩ && !x.restart && x.now.start ≠ 0 then
        let (h, s2) := s1.enqueue (s.get ⟨0x2400014, 5, 0⟩) 0 0xFF none 0x09 0x09 (x.now.bytes_ n) []
        if h.isNone then s2.exceptionDrop (s.get ⟨0x2400014, 5, 0⟩) else s2
      else s1
    else s) s
  s1

/-! ## Shapers (R335) -/

/-- RATE and BURST of a wired queue. -/
def State.shpRate (s : State) (key : Nat) : Nat := s.get ⟨0x2401000 + 0x40 * (key / 8) + 8 * (key % 8), 26, 0⟩
def State.shpBurst (s : State) (key : Nat) : Nat := s.get ⟨0x2401004 + 0x40 * (key / 8) + 8 * (key % 8), 24, 0⟩

/-- A queue's credit now, in 1 / 4,800,000 B: it has grown at RATE up to BURST. -/
def State.credit (s : State) (key : Nat) : Int :=
  let top : Int := s.shpBurst key * 4800000
  match Tab.get? s.pkt.shapes key with
  | some x => min top (x.credit + (s.shpRate key * (s.elapsed - x.at_) : Nat))
  | none => top

/-- Settle a queue's credit and take n bytes from it. -/
def State.spend (s : State) (key n : Nat) : State :=
  let c := s.credit key
  s.modPkt fun p => { p with shapes := Tab.put p.shapes key ⟨c - n * 4800000, s.elapsed⟩ }

/-- Settle every shaper of a port before its parameters change (R335). -/
def State.settleShapers (s : State) (p : Nat) : State :=
  ((List.range 80).filter fun k => (portOf (k / 8)).1 == p).foldl (fun s k => s.spend k 0) s

/-! ## Policers (R327, R328) -/

/-- The tolerance of a policer's rate, within 0.01 % (in 10^-6), free; and the stray of its fill, within 32 B, free: over
any interval the two stay within the tolerance of R328. -/
def rateDev (k : Nat) : Int := (Config.freeOf 16 [0x0328, k]).toNat % 201 - 100

/-- Tokens are held in this unit of a byte. -/
def tokUnit : Int := 4800000000000

/-- The parameters in force. -/
def State.policer (s : State) (k : Nat) : Policer := Tab.getD s.pkt.policers k {}

/-- Bring a policer's buckets up to now. -/
def State.refill (s : State) (k : Nat) : Bucket × State :=
  let p := s.policer k
  let (v, s1) := s.draw 16
  let dev : Int := (v.toNat % 65 : Nat) * (tokUnit / 1) - 32 * tokUnit
  let top : Int := p.cbs * tokUnit
  let top2 : Int := p.ebs * tokUnit
  match Tab.get? s.pkt.buckets k with
  | none => (⟨top, top2, s.elapsed, 0⟩, s1)
  | some b =>
    let grow := fun (rate : Nat) => (rate * (s.elapsed - b.at_) : Nat) * (1000000 + rateDev k) + (dev - b.dev)
    if p.mode = 2 then (⟨min top (b.c + grow p.cir), min top2 (b.e + grow p.pir), s.elapsed, dev⟩, s1)
    else
      let c := b.c + grow p.cir
      let extra := max 0 (c - top)
      (⟨min top c, min top2 (b.e + extra), s.elapsed, dev⟩, s1)

/-- Meter n bytes: 0 green, 1 yellow, 2 red (RFC 2697, RFC 2698, colour-blind). -/
def State.meter (s : State) (k n : Nat) : Nat × State :=
  let p := s.policer k
  if p.mode = 0 then (0, s)
  else
    let (b, s1) := s.refill k
    let t : Int := n * tokUnit
    let keep := fun (b : Bucket) => s1.modPkt fun q => { q with buckets := Tab.put q.buckets k b }
    if p.mode = 1 then
      if t ≤ b.c then (0, keep { b with c := b.c - t })
      else if t ≤ b.e then (1, keep { b with e := b.e - t })
      else (2, keep b)
    else if b.e < t then (2, keep b)
    else if b.c < t then (1, keep { b with e := b.e - t })
    else (0, keep { b with c := b.c - t, e := b.e - t })

/-- The policers' part of a swap (R328): buckets fill under the old parameters, those of policers not metered yet being full, then are
cut to the new bursts. The bucket of a policer without parameters has no size, and is full once it has one (log 175). -/
def State.policerSwap (s : State) : State :=
  let s1 := s.pkt.policers.foldl (fun s e =>
    let (b, s1) := s.refill e.1
    s1.modPkt fun p => { p with buckets := Tab.put p.buckets e.1 b }) s
  s1.modPkt fun p =>
    { p with policers := p.policersStaged
             buckets := Tab.mapV p.buckets fun k b =>
               let q := Tab.getD p.policersStaged k {}
               { b with c := min b.c (q.cbs * tokUnit), e := min b.e (q.ebs * tokUnit) } }

/-! ## Enqueue (R329 to R334) -/

/-- The UP of a frame (R329): SET_TID, else the tenant's DSCP map for IP from a wire or the mesh, else UP of the key. -/
def State.frameUp (s : State) (x : PktCtx) (p : Parsed) : Nat :=
  let radio := x.src == 0x10 || x.src == 0x11 || x.src == 0x12
  if bitOf (fieldLE x.act 4 1) 1 then fieldLE x.act 5 1
  else if (p.v4 || p.v6) && !radio && x.src != 0x1C then
    let d := p.tos / 4
    s.get ⟨0x2400200 + 0x20 * x.tenant + 4 * (d / 8), 3 * (d % 8) + 2, 3 * (d % 8)⟩
  else x.up

/-- The class of an access category in a tenant's map (R330). -/
def State.classOf (s : State) (tenant aci : Nat) : Nat := s.get ⟨0x2400400 + 4 * tenant, 2 * aci + 1, 2 * aci⟩

/-- A class's default lifetime in idle steps on a radio (08 R227). -/
def State.classLife (s : State) (r cls : Nat) : Nat := ms (s.get ⟨macBase r + 0x18 + 4 * cls, 13, 0⟩)

/-- The radio whose settings a station's frames take: the lowest of its links (log 38). -/
def Sta.firstRadio (x : Sta) : Nat := ((sortBy (fun l => l.radio) x.links).head?).elim 0 (·.radio)

/-- Put a frame at the tail of a wireless queue after the checks of R331 orders 3 to 5. -/
def State.pushWireless (s : State) (f : Frame) : State :=
  let n := f.body.length
  let mine := s.mac.frames.filter (fun e => e.2.queue == f.queue && e.2.taken.isNone)
  let used := (mine.map (·.2.body.length)).sum
  if 2304 < n then (s.inc (pktCnt 4 false)).watchDrop f.queue
  else if s.get ⟨0x2400008, 30, 16⟩ * 1024 < used + n then (s.inc (pktCnt 4 true)).watchDrop f.queue
  else
    let sram := ((mine.filter (fun e => e.2.dram == 0)).map (·.2.body.length)).sum
    let (d, s1) := s.place sram n (mine.any (fun e => e.2.dram != 0))
    match d with
    | none => s1.watchDrop f.queue
    | some map =>
      ({ s1 with mac := { s1.mac with
          frames := Tab.put s1.mac.frames s1.mac.nextFrame { f with dram := map, cells := cellsOf n }
          nextFrame := s1.mac.nextFrame + 1 } }.inc64 0x2400830).watchDepth f.queue

/-- Toward a station (R329, R331). -/
def State.toStation (s : State) (x : PktCtx) (sid up : Nat) (msdu : List Byte) : State :=
  let q := 4 * sid + aciOf up
  match Tab.get? s.mac.stas sid with
  | none => (s.inc (pktCnt 3 true)).watchDrop q
  | some st =>
    if st.deleting then (s.inc (pktCnt 3 true)).watchDrop q
    else if s.staTenant sid ≠ some x.tenant then (s.inc (pktCnt 3 false)).watchDrop q
    else
      let cls := s.classOf x.tenant (aciOf up)
      s.pushWireless
        { sid := sid, bss := 0xFF, radios := 7, tid := up, kind := 0, flags := 0, cmd := none, body := msdu, launch := 0
          enq := s.elapsed, enqNt := s.ntNs, life := s.classLife st.firstRadio cls, queue := q, cells := 0
          tenant := x.tenant, src := x.src }

/-- Toward the group queue of a BSS (R322). -/
def State.toGroup (s : State) (x : PktCtx) (r bss up : Nat) (msdu : List Byte) : State :=
  s.pushWireless
    { sid := 0xFFFF, bss := bss, radios := 2 ^ r, tid := up, kind := 0, flags := 2, cmd := none, body := msdu, launch := 0
      enq := s.elapsed, enqNt := s.ntNs, life := s.classLife r (s.classOf x.tenant (aciOf up)), queue := 32768 + 16 * r + bss
      cells := 0, tenant := x.tenant, src := x.src }

/-- Put a frame at the tail of a wired queue after the checks of R333. -/
def State.pushWired (s : State) (sub q : Nat) (f : WireFrame) : State :=
  let key := sub * 8 + q
  let l := Tab.getD s.wired key []
  if !s.subUp sub then (s.inc (pktCnt 8 false)).watchDrop (wiredId sub q)
  else if s.get ⟨0x240000C, 14, 0⟩ * 1024 < (l.map (·.len)).sum + f.len then (s.inc (pktCnt 4 true)).watchDrop (wiredId sub q)
  else
    let (d, s1) := s.place (((l.filter (fun f => f.dram == 0)).map (·.len)).sum) f.len (l.any (fun f => f.dram != 0))
    match d with
    | none => s1.watchDrop (wiredId sub q)
    | some map =>
      ((s1.wiredPush key { f with enq := s.elapsed, enqNt := s.ntNs, cells := cellsOf f.len, dram := map }).inc64 0x2400830).watchDepth
        (wiredId sub q)

/-- Toward a wired sub-port's queue (R333). -/
def State.toWired (s : State) (x : PktCtx) (sub q : Nat) (body : List Byte) : State :=
  s.pushWired sub q { body := body, tenant := x.tenant, enq := 0, cells := 0, src := x.src }

/-! ## Tables -/

/-- A valid rule's entry (R315). -/
def State.rule (s : State) (i : Nat) : Option (List Byte) :=
  (Tab.get? s.pkt.rules i).bind fun e => if bitOf (fieldLE e 0x80 1) 0 then some e else none

/-- A route's key. -/
def routeKey (tenant : Nat) (v6 : Bool) (len prefix_ : Nat) : Nat := ((tenant * 2 + b2n v6) * 256 + len) * 2 ^ 128 + prefix_

/-- The longest prefix of a destination (16 bytes of the key) in a tenant (R318), among the prefixes that pass. -/
def State.route (s : State) (tenant : Nat) (v6 : Bool) (dst : List Byte) (pass : Nat → Bool) : Option PktRoute :=
  let w := if v6 then 128 else 32
  let a := beNat (dst.take (w / 8))
  let lens := ((List.range (w + 1)).map (w - ·)).filter pass
  lens.findSome? fun l => Tab.get? s.pkt.routes (routeKey tenant v6 l (a / 2 ^ (w - l) * 2 ^ (w - l)))

/-- Longest prefix held in SRAM (R303). -/
def sramLen (v6 : Bool) : Nat := if v6 then 64 else 24

/-- The best match may be a prefix held in DRAM (R303): the tenant has one that agrees with the destination in the bits
SRAM holds. -/
def State.needsDram (s : State) (tenant : Nat) (v6 : Bool) (dst : List Byte) : Bool :=
  let w := if v6 then 128 else 32
  let a := beNat (dst.take (w / 8)) / 2 ^ (w - sramLen v6)
  s.pkt.routes.any fun e =>
    decide (e.1 / 2 ^ 136 = tenant * 2 + b2n v6) && decide (sramLen v6 < e.1 / 2 ^ 128 % 256)
      && decide (e.1 % 2 ^ 128 / 2 ^ (w - sramLen v6) = a)

/-- Prefix entries in use, IPv6 counting two (R347). -/
def State.lpmUsed (s : State) : Nat := (s.pkt.routes.map (fun e => 1 + e.1 / 2 ^ 136 % 2)).sum

/-- The bucket of a forwarding entry, whose hash the spec does not give: free (log 39). -/
def fdbBucket (key : Nat) : Nat := (Config.freeOf 13 [0x0321, key]).toNat

/-- Whether the bucket of a new forwarding entry is full (8 ways). -/
def State.fdbFull (s : State) (key : Nat) : Bool :=
  decide (8 ≤ (s.pkt.fdb.filter (fun e => fdbBucket e.1 == fdbBucket key)).length)

/-- The bucket of a flow entry (R311). -/
def flowBucket (key : Nat) : Nat := crc32 (leBytes 40 key) % 16384

/-- Whether the bucket of a new flow entry is full. -/
def State.flowFull (s : State) (key : Nat) : Bool :=
  decide (8 ≤ (s.pkt.flows.filter (fun e => flowBucket e.1 == flowBucket key)).length)

/-- The key of a forwarding entry. -/
def fdbKey (tenant : Nat) (mac : List Byte) : Nat := tenant * 2 ^ 48 + leNat (mac.take 6)

/-- Install the forwarding entries of a station (R321): a learned entry gives way; a full bucket refuses the entry, which
is counted as a learning refusal. -/
def State.addStationFdb (s : State) (tenant sid addr : Nat) : State :=
  let k := tenant * 2 ^ 48 + addr
  match Tab.get? s.pkt.fdb k with
  | some e => if e.origin = 2 then s.modPkt fun p => { p with fdb := Tab.put p.fdb k { type := 2, sid := sid, origin := 1 } } else s
  | none =>
    if s.fdbFull k then s.inc (pktCnt 7 false)
    else s.modPkt fun p => { p with fdb := Tab.put p.fdb k { type := 2, sid := sid, origin := 1 } }

/-- A station's SID is freed (R319, R321): its forwarding entries go, next hops that name it become TYPE 0, event 0x9003. -/
def State.dropStationRefs (s : State) (sid : Nat) : State :=
  let n := (s.pkt.nextHops.filter (fun e => e.2.type == 2 && e.2.ref == sid)).length
  let s1 := s.modPkt fun p =>
    { p with fdb := Tab.keep p.fdb (fun _ e => !(e.origin == 1 && e.sid == sid))
             nextHops := Tab.mapV p.nextHops fun _ h => if h.type = 2 && h.ref = sid then { h with type := 0 } else h }
  if n = 0 then s1 else s1.postEvent 0x9003 (items [sid, n])

/-- A packet-path fault (R341): frames go, tables stay, buckets full, credits at BURST, the superframe's watch values
lost; a table named as damaged (log 40) is cleared with event 0x9001. Bridged frames that wait are dropped and counted by the mesh
island (10 R267, 01 R33). -/
def State.clearPkt (s : State) : State :=
  let gone := s.mac.frames.filter (fun e => e.2.taken.isNone)
  let s1 := gone.foldl (fun s e => match e.2.cmd with
    | some (fn, tag) => s.complete fn tag 0x01
    | none => s) s
  let x := s1.unit FUnit.mesh.idx
  let s1 := s1.setUnit FUnit.mesh.idx { x with refused := x.refused + (Tab.getD s1.fifos 0x18 []).length }
  { s1 with
    fifos := []
    wired := []
    mac := { s1.mac with frames := Tab.keep s1.mac.frames (fun _ f => f.taken.isSome) }
    pkt := { s1.pkt with lpm := [], buckets := [], shapes := []
                         watches := Tab.mapV s1.pkt.watches (fun _ w => { w with now := {}, restart := true }) } }

/-- Per-superframe events of the packet path and the ports (R301, R321, R334, 14 R423; log 18); 0x9002 names the lowest tenant, 0x9005
SRAM first (log 177). -/
def State.pktSuperframe (s : State) (start : Nat) : State :=
  let s1 := s.overflows.foldl (fun s e => s.postEvent 0x9004 (items [e.1, e.2])) s
  let s2 := (s1.pkt.learnFail.take 1).foldl (fun s e => s.postEvent 0x9002 (items [e.1, e.2])) s1
  let s3 := (s2.pkt.exhausted.take 1).foldl (fun s e => s.postEvent 0x9005 (items [e.1, e.2])) s2
  let s4 := s3.eth.gateOver.foldl (fun s e => s.postEvent 0xC003 (items [e.1, e.2])) s3
  ({ s4 with overflows := [], eth := { s4.eth with gateOver := [] }
             pkt := { s4.pkt with learnFail := [], exhausted := [] } }).watchSuperframe start

/-! ## The constellation's messages (09 R242) -/

/-- Octets of a constellation frame around its message, from DA to FCS, and of MACsec. -/
def State.cstOver (s : State) : Nat := 14 + (if fieldLE s.cstRec 5 1 = 1 then 40 else 20) + 8 + 4 + s.secOverhead s.cstSub

/-- The next hop of the route to a member's address, in the tenant of the constellation's sub-port: one that leaves by it (log 33). -/
def State.cstRoute (s : State) (m : Nat) : Option NextHop :=
  let v6 := fieldLE s.cstRec 5 1 == 1
  let dst := slice ((s.memberRec m).getD []) 36 16
  let port := slice s.cstRec 6 2
  (s.route (fieldLE (s.subRec s.cstSub) 2 1) v6 dst (fun _ => true)).bind fun r =>
    let h := crc32 (slice s.cstRec 24 16 ++ dst ++ [17#8] ++ port.reverse ++ port.reverse)
    (Tab.get? s.pkt.nextHops (r.base + (if 1 < r.count then h % r.count else 0))).filter fun n => n.type == 1 && n.sub == s.cstSub

/-- The frame of a message: UDP over IPv4 or IPv6 from OWN_ADDRESS, source and destination port CST_PORT; the header fields that R242
leaves out are free (log 33). -/
def State.cstFrame (s : State) (m : Nat) (h : NextHop) (msg : List Byte) : List Byte :=
  let dst := slice ((s.memberRec m).getD []) 36 16
  let own := slice s.cstRec 24 16
  let port := (slice s.cstRec 6 2).reverse
  let ulen := beBytes 2 (8 + msg.length)
  let free := fun (w k : Nat) => (Config.freeOf w (0x0242 :: k :: msg.map (·.toNat))).toNat
  let sum := fun (a b : List Byte) =>
    let c := inetSum (a ++ b ++ beBytes 4 (8 + msg.length) ++ [0, 0, 0, 17] ++ port ++ port ++ ulen ++ [0, 0] ++ msg)
    beBytes 2 (if c = 0 then 0xFFFF else c)
  h.da ++ h.sa ++ (if fieldLE s.cstRec 5 1 = 1 then
      beBytes 2 0x86DD ++ beBytes 4 (6 * 2 ^ 28 + free 28 0) ++ ulen ++ [17#8] ++ beBytes 1 (free 8 1) ++ own ++ dst
        ++ port ++ port ++ ulen ++ sum own dst
    else
      let ip := [0x45#8] ++ beBytes 1 (free 8 2) ++ beBytes 2 (28 + msg.length) ++ beBytes 2 (free 16 3) ++ beBytes 2 (16384 * free 1 4)
        ++ beBytes 1 (free 8 5) ++ [17#8, 0, 0] ++ own.take 4 ++ dst.take 4
      beBytes 2 0x0800 ++ fixIpv4 ip 0 ++ port ++ port ++ ulen ++ sum (own.take 4) (dst.take 4)) ++ msg

/-- Send a message to a member (R242): by the route to its address it enters wired queue 7 of the constellation's sub-port as any frame
does (11 R326, R333); without one it is dropped and counted (11 R318). `stampFor` is the S of a part 0, whose transmit stamp is
kept. -/
def State.cstSend (s : State) (m : Nat) (msg : List Byte) (stampFor : Option Nat := none) : State :=
  match s.cstRoute m with
  | none => s.inc (pktCnt 1 true)
  | some h =>
    s.pushWired s.cstSub 7
      { body := s.cstFrame m h msg, tenant := fieldLE (s.subRec s.cstSub) 2 1, enq := 0, cells := 0, src := 0x1D, cst := some (m, stampFor) }

/-- A message of n octets from a member was received: its stamp, at the first bit after the SFD, lies as far back as its frame is long
(04 R120). -/
def State.cstStamp (s : State) (n : Nat) : Nat :=
  s.ntBack (Nat.max 64 (n + s.cstOver) * byteTime (Tab.getD s.eth.links s.cstSub 0))

/-- A member's message was received: its stamp is kept (R242). -/
def State.cstHeard (s : State) (b : List Byte) : State :=
  let m := fieldLE b 6 1
  if decide (7 ≤ b.length) && s.memberIds.contains m then s.modMember m fun x => { x with heardAt := some (s.cstStamp b.length) } else s

/-- Participation ends (R248): LEAVE to every ACTIVE member, every session IDLE, every foreign entry freed, event 0x7007
where the cell has members. `reason` is the LEAVE's (R247), `cause` the event's: 0 NT state, 1 host request, 2 Dormant. -/
def State.leaveAll (s : State) (reason cause : Nat) : State :=
  let act := s.cstActive
  let s1 := act.foldl (fun s m =>
    let b := s.cstHeader 4 m 48 0 1 s.nt64.toNat ++ leBytes 1 reason ++ List.replicate 7 0
    s.cstSend m (b ++ gmacTag (s.member m).keyTx b)) s
  let s2 := s.memberIds.foldl (fun s m => s.endSession m) s1
  let s3 := { s2 with cst := { s2.cst with foreign := [] } }
  if s.memberIds.isEmpty then s3 else s3.postEvent 0x7007 (items [cause])

end Sys2Proof.Machine
end

