-- ==== Sys2Proof/Machine/MacOps.lean ====
section
/-! DEFINITION. Templates, Deterministic flows, plans, frames, agreements and stations of the MACs (08). -/

namespace Sys2Proof.Machine

/-! ## Settings -/

/-- A field of the active or of the staged bank. -/
def State.bank (s : State) (staged : Bool) (f : FieldRef) : Nat := if staged then s.sget f else s.get f

/-- A region of a grid template (R219). -/
structure Region where
  idx : Nat
  kind : Nat
  cls : Nat
  start : Nat
  len : Nat
  period : Nat
  count : Nat
deriving DecidableEq, Repr

/-- The regions in use of a radio's template. -/
def State.template (s : State) (r : Nat) (staged : Bool) : List Region :=
  ((List.range 64).map fun i =>
    let a := macBase r + 0x400 + 8 * i
    let g := fun (w hi lo : Nat) => s.bank staged ⟨a + 4 * w, hi, lo⟩
    (⟨i, g 0 24 22, g 0 26 25, g 0 10 0, g 0 21 11, g 1 10 0, g 1 21 11⟩ : Region)).filter fun g => g.kind != 0 && g.kind != 7

/-- The instances of a region: first slot and the slot after the last. -/
def Region.instances (g : Region) : List (Nat × Nat) :=
  (List.range g.count).map fun i => (g.start + i * g.period, g.start + i * g.period + g.len)

/-- The spacings, in slots, at which a region recurs within the template (R224): those between its instances. -/
def Region.spacings (g : Region) : List Nat := (List.range (g.count - 1)).map fun i => (i + 1) * g.period

/-- Slots of a superframe (05 R130). -/
def slotsOf (len mode : Nat) : Nat := sfLenNs len / slotNs mode

/-- EX_LEN and PLAN_LEAD (in ns) of a bank. -/
def State.exLen (s : State) (r : Nat) (staged : Bool) : Nat := s.bank staged ⟨macBase r + 0xC, 4, 0⟩
def State.planLead (s : State) (r : Nat) (staged : Bool) : Nat := s.bank staged ⟨macBase r + 0x10, 10, 0⟩ * 100000

/-- Two half-open intervals overlap. -/
def meets (a b : Nat × Nat) : Bool := decide (a.1 < b.2) && decide (b.1 < a.2)

/-- The check of a template with a mode and a length (R220): the first failing region, or 0xFF, and the failed check,
numbered as R220 lists them (log 10). -/
def State.templateCheck (s : State) (r : Nat) (staged : Bool) (mode len : Nat) : Option (Nat × Nat) :=
  let t := s.template r staged
  let n := slotsOf len mode
  let beacons := t.filter (·.kind == 1)
  let bad := fun (g : Region) =>
    if g.kind = 1 && (g.start ≠ 0 || g.count ≠ 1 || (beacons.head?).any (fun b => b.idx != g.idx)) then some 0
    else if g.instances.any (fun i => decide (n < i.2)) then some 2
    else if (g.instances.zipIdx).any (fun i => t.any fun h => (h.instances.zipIdx).any fun j =>
        (h.idx != g.idx || i.2 != j.2) && meets i.1 j.1) then some 3
    else if 4 ≤ g.kind && g.len < s.exLen r staged then some 4
    else if g.kind = 1 && mode = 1 && 8 < g.len then some 5 else none
  match t.findSome? (fun g => (bad g).map fun c => (g.idx, c)) with
  | some x => some x
  | none => if beacons.isEmpty then some (0xFF, 0) else if !(t.any (fun g => g.kind == 2 && g.count != 0)) then some (0xFF, 1) else none

/-- The slots of the BEACON region. -/
def State.beaconSlots (s : State) (r : Nat) (staged : Bool) : Nat × Nat :=
  ((s.template r staged).find? (·.kind == 1)).elim (0, 0) fun g => (g.start, g.start + g.len)

/-- A BSS's beacon is due: the first at S + 2 µs, each next one SIFS (16 µs with its signal extension) after the one
before (R213). -/
def State.beaconAt (s : State) (r : Nat) : Nat := match (Tab.getD s.mac.beaconAir r []).getLast? with
  | some b => b.2 + 16000
  | none => s.grid.start.getD 0 + 2000

/-- Every enabled BSS of the radio has had its beacon in this superframe (R213, R223). -/
def State.beaconsDone (s : State) (r : Nat) : Bool :=
  (List.range 16).all fun n => !(s.bssOn r n) || decide (n < Tab.getD s.mac.beacons r 0)

/-! ## Deterministic flows (R221) -/

/-- A Deterministic exchange: its launch slot and its users (SID, downlink). -/
structure DetEx where
  slot : Nat
  users : List (Nat × Bool)
deriving DecidableEq, Repr

/-- The arrivals of a flow as slots, in a superframe of n slots of k units of 32 µs. -/
def DetFlow.arrivals (f : DetFlow) (n k : Nat) : List Nat :=
  if f.period = 0 then [] else
    (List.range (n * k)).filterMap fun i =>
      let u := f.phase + i * f.period
      if u < n * k then some (u / k) else none

/-- Periods and phases are whole slots, P divides the slots of the superframe, and φ is below P. -/
def DetFlow.whole (f : DetFlow) (n k : Nat) : Bool :=
  f.period % k == 0 && f.phase % k == 0 && decide (f.phase < f.period) && (n * k) % f.period == 0

/-- One arrival of the procedure. -/
def detStep (n ex mu : Nat) (beacon : Nat × Nat) (acc : Option (List DetEx)) (a : Nat × Nat × Bool) : Option (List DetEx) :=
  match acc with
  | none => none
  | some l =>
    let (at_, sid, down) := a
    let joins := fun (e : DetEx) => decide (at_ + 1 ≤ e.slot) && decide (e.slot ≤ at_ + 4) && decide (e.users.length < mu)
      && !(e.users.any (fun u => u.1 == sid))
    match l.findIdx? joins with
    | some i => some (l.zipIdx.map fun (e, j) => if j = i then { e with users := e.users ++ [(sid, down)] } else e)
    | none =>
      let fits := fun t => decide (t + ex ≤ n) && !(meets (t, t + ex) beacon) && l.all (fun e => !(meets (t, t + ex) (e.slot, e.slot + ex)))
      match [1, 2, 3, 4].find? (fun d => fits (at_ + d)) with
      | some d => some (l ++ [⟨at_ + d, [(sid, down)]⟩])
      | none => none

/-- The procedure of R221 over flows in ascending index; none where the flow set does not fit. -/
def detLay (n k ex mu : Nat) (beacon : Nat × Nat) (flows : List (Nat × DetFlow)) : Option (List DetEx) :=
  if flows.all (fun f => f.2.whole n k) then
    let arr := flows.flatMap fun f => (f.2.arrivals n k).map fun a => (a * 64 + f.1 % 64, a, f.2.sid, f.2.down)
    ((sortBy (fun x => x.1) arr).map (·.2)).foldl (detStep n ex mu beacon) (some [])
  else none

/-- A radio's flows. -/
def State.flowsOf (s : State) (r : Nat) : List (Nat × DetFlow) :=
  (s.mac.flows.filter (fun e => e.1 / 64 == r)).map fun e => (e.1 % 64, e.2)

/-- The procedure on a bank, a mode and a length. -/
def State.detFit (s : State) (r : Nat) (staged : Bool) (mode len : Nat) (flows : List (Nat × DetFlow)) : Option (List DetEx) :=
  detLay (slotsOf len mode) (slotNs mode / 32000) (s.exLen r staged) (muOrder r mode) (s.beaconSlots r staged) flows

/-- The runs of consecutive slots of [a, b) that no exchange covers. -/
def cutParts (a b ex : Nat) (exs : List DetEx) : List (Nat × Nat) :=
  let cov := fun t => exs.any fun e => decide (e.slot ≤ t) && decide (t < e.slot + ex)
  (List.range (b - a)).foldl (fun acc i =>
    let t := a + i
    if cov t then acc
    else match acc.getLast? with
      | some (x, y) => if y = t then acc.dropLast ++ [(x, t + 1)] else acc ++ [(t, t + 1)]
      | none => [(t, t + 1)]) []

/-- An OPEN instance of a radio's active template, or the part of it that the Deterministic exchanges leave, holds [t, t + n) (R219,
R221, R233; log 154). -/
def State.openHolds (s : State) (r t n : Nat) : Bool :=
  let mode := s.limitMode
  let sl := slotNs mode
  let off := t - s.gridBefore s.sfNs t
  let exs := (s.detFit r false mode s.grid.sfLen (s.flowsOf r)).getD []
  ((s.template r false).filter (·.kind == 3)).any fun g => g.instances.any fun (a, b) =>
    (cutParts a b (s.exLen r false) exs).any fun (x, y) =>
      ((x, y) == (a, b) || decide (s.exLen r false ≤ y - x)) && decide (x * sl ≤ off) && decide (off + n ≤ y * sl)

/-! ## Stations and frames -/

/-- A station. -/
def State.sta (s : State) (sid : Nat) : Option Sta := Tab.get? s.mac.stas sid

/-- Change a station. -/
def State.modSta (s : State) (sid : Nat) (f : Sta → Sta) : State :=
  { s with mac := { s.mac with stas := Tab.upd s.mac.stas sid f } }

/-- Change a frame. -/
def State.modFrame (s : State) (id : Nat) (f : Frame → Frame) : State :=
  { s with mac := { s.mac with frames := Tab.upd s.mac.frames id f } }

/-- A station's link on a radio. -/
def Sta.linkOn (x : Sta) (r : Nat) : Option StaLink := x.links.find? (·.radio == r)

/-- A frame's final outcome: it leaves its queue, and its command completes. -/
def State.endFrame (s : State) (id status : Nat) : State :=
  match Tab.get? s.mac.frames id with
  | none => s
  | some f =>
    let s1 := { s with mac := { s.mac with frames := Tab.del s.mac.frames id } }
    match f.cmd with
    | some (fn, tag) => s1.complete fn tag status f.result
    | none => s1

/-- The unit that holds a command from now on. -/
def State.cmdUnit (s : State) (fn tag : Nat) (u : Option Nat) : State :=
  s.mapCmds (·.map fun d => if d.fn == fn && d.tag == tag && d.stage == .admitted then { d with unit := u } else d)

/-- Frames whose commands were discarded are gone (R395, 13 R393). -/
def State.dropOrphans (s : State) : State :=
  { s with mac := { s.mac with frames := Tab.keep s.mac.frames fun _ f => match f.cmd with
    | some (fn, tag) => (s.cmd? fn tag).isSome
    | none => true } }

/-- The single radio of a links map. -/
def soleRadio (links : Nat) : Option Nat := [0, 1, 2].find? (fun r => links % 8 == 2 ^ r)

/-- Read a frame from DRAM into SRAM, where its channels are in service and cells are free (11 R332). -/
def State.readFrame (s : State) (id : Nat) : State :=
  match Tab.get? s.mac.frames id with
  | some f =>
    if f.dram ≠ 0 && !s.dramLost f.dram && decide (s.sramCells + f.cells ≤ 131072) then s.modFrame id fun f => { f with dram := 0 } else s
  | none => s

/-- A frame leaves with a status: its command completes, or the counter counts it. -/
def State.dropAt (s : State) (id status : Nat) (cnt : FieldRef) : State := (s.inc cnt).endFrame id status

/-- Counters of R239: register i (0 TXA to 5 PLAN), low or high half. -/
def macCnt (r i : Nat) (high : Bool) : FieldRef := ⟨macBase r + 0x800 + 4 * i, if high then 31 else 15, if high then 16 else 0⟩

/-- Return a taken frame to its place in its queue (R225). A frame of a station that is being removed is planned no more (R211): it ends
with MAC_STA_REMOVED, or, where it reached the air before, with MAC_RETRY_LIMIT (log 150). -/
def State.returnFrame (s : State) (id : Nat) : State :=
  match Tab.get? s.mac.frames id with
  | none => s
  | some f =>
    if (s.sta f.sid).any (·.deleting) then
      if 0 < f.attempts then s.dropAt id 0x3E (macCnt (f.lastRadio % 7) 1 false)
      else if f.cmd.isNone then s.dropAt id 0x43 (pktCnt 3 true) else s.endFrame id 0x43
    else
      let s1 := s.modFrame id fun f => { f with taken := none }
      match f.cmd with
      | some (fn, tag) => s1.cmdUnit fn tag (soleRadio f.radios)
      | none => s1

/-- Frames a launch has taken. -/
def State.takenBy (s : State) (r : Nat) (of_ : LaunchOf) : List Nat :=
  (s.mac.frames.filter (fun e => e.2.taken == some (r, of_))).map (·.1)

/-- The class that a station's queue of an access category is served in: class 0 without a declared flow of the queue is served as
Latency (R215). -/
def State.queueClass (s : State) (r sid ac tenant : Nat) (down : Bool) : Nat :=
  let c := s.classOf tenant ac
  if c = 0 && !(s.mac.flows.any fun e => e.1 / 64 == r && e.2.sid == sid && aciOf e.2.tid == ac && e.2.down == down) then 1 else c

/-- The class a frame of a TID is served in: its queue's. -/
def State.serveClass (s : State) (r sid tid tenant : Nat) (down : Bool) : Nat := s.queueClass r sid (aciOf tid) tenant down

/-- The highest class of a tenant's map, at best Latency (R224). -/
def State.highClass (s : State) (tenant : Nat) : Nat :=
  Nat.max 1 ([0, 1, 2, 3].foldl (fun m a => Nat.min m (s.classOf tenant a)) 3)

/-- A station's service periods on a radio. -/
def Sta.twtsOn (x : Sta) (r : Nat) : List Twt := (x.twt.filter (fun e => e.1 / 8 == r)).map (·.2)

/-- A station without an agreement, or in one of its service periods from t0 to t1 (R224): it may be triggered. -/
def Sta.inPeriod (x : Sta) (r t0 t1 : Nat) : Bool :=
  let l := x.twtsOn r
  l.isEmpty || l.any fun t => decide (t.target ≤ t0) && decide (0 < t.interval)
    && decide ((t0 - t.target) % t.interval + (t1 - t0) ≤ t.dur)

/-- A station may be sent to from t0 to t1 (R223, R224). -/
def Sta.awakeIn (x : Sta) (r t0 t1 : Nat) : Bool :=
  x.inPeriod r t0 t1 && (!x.ps || x.awake || !(x.twtsOn r).isEmpty)

/-! ## TWT (R224) -/

/-- The wake interval and region for a request (ns): the largest of k × L and the spacings of the class's regions. -/
def State.twtPlace (s : State) (r cls want : Nat) : Option (Nat × Region) :=
  let staged := s.grid.mode == 7
  let sl := slotNs s.limitMode
  let regions := (s.template r staged).filter fun g => decide (4 ≤ g.kind) && g.cls == cls
  let opts := (List.range 64).map (fun k => (k + 1) * s.sfNs) ++ regions.flatMap (fun g => g.spacings.map (· * sl))
  let best := (opts.filter (fun x => decide (x ≤ want))).foldl Nat.max 0
  if best = 0 then none
  else
    let recurs := fun (g : Region) => best % s.sfNs == 0 || g.spacings.any (fun d => d * sl == best)
    ((sortBy (fun g => g.start) (regions.filter recurs)).head?).map fun g => (best, g)

/-- The agreement a placement makes. -/
def State.twtOf (s : State) (want minDur best : Nat) (g : Region) : Twt :=
  let sl := slotNs s.limitMode
  { want := want, minDur := minDur, target := s.nextBoundary + g.start * sl, interval := best, dur := g.len * sl }

/-- A template change at a swap re-places every agreement of the radio, and unsolicited setup frames are due; an agreement
whose class has no region keeps its place. -/
def State.twtSwap (s : State) (r : Nat) : State :=
  { s with mac := { s.mac with stas := Tab.mapV s.mac.stas fun sid x =>
    { x with twt := Tab.mapV x.twt fun k t =>
      if k / 8 ≠ r then t
      else match s.twtPlace r (s.highClass ((s.staTenant sid).getD 0)) (t.want * 1000) with
        | some (b, g) => { s.twtOf t.want t.minDur b g with setupDue := true }
        | none => t } } }

/-! ## Receive side (R228 to R230) -/

/-- A received frame's bytes 8 to 31 (R235). -/
def State.rxDescBytes (s : State) (m : RxMpdu) (sid : Option Nat) (status : Nat) (metrics : Bool) : List Byte :=
  leBytes 2 (sid.getD 0xFFFF) ++ leBytes 1 (m.radio + 4 * (m.bss % 16))
    ++ leBytes 1 ((if m.tid < 8 then m.tid else 15) + 16 * b2n m.amsdu + 32 * b2n m.sec.isSome + 64 * b2n metrics)
    ++ leBytes 1 status ++ leBytes 1 (if m.bss < 16 then s.bssTenant m.radio m.bss else 0xFF)
    ++ leBytes 2 (m.frag % 16 + 16 * m.sn) ++ leBytes 8 (if s.ntValid then m.stamp else 0) ++ leBytes 4 m.bytes.length ++ leBytes 4 0

/-- The function of a BSS (R214). -/
def State.bssFn (s : State) (r n : Nat) : Nat := s.get ⟨bssCfg r n, 8, 5⟩

/-- Hand a frame to the host (R235, 13 R387), after its metrics record where METRICS is set. -/
def State.toHost (s : State) (m : RxMpdu) (sid : Option Nat) (status : Nat) : State :=
  let met := s.flag ⟨macBase m.radio + 8, 4, 4⟩
  let rec_ := if met then Tab.getD (s.radio m.radio).rx.records m.user [] else []
  s.deliverMac (s.bssFn m.radio m.bss) (s.bssTenant m.radio m.bss) (rec_ ++ m.bytes) (s.rxDescBytes m sid status met)

/-- An LLC/SNAP header of RFC 1042 or Bridge-Tunnel (11 R308). -/
def hasLlc (b : List Byte) : Bool :=
  decide (8 ≤ b.length) && (slice b 0 6 == [0xAA, 0xAA, 3, 0, 0, 0] || slice b 0 6 == [0xAA, 0xAA, 3, 0, 0, 0xF8])

/-- The MSDUs of an accepted MPDU enter the packet path as source 0x10 + radio (11 R308); one over 2,304 B is discarded
(R231). -/
def State.deliverMsdus (s : State) (m : RxMpdu) (sid : Option Nat) : State :=
  m.msdus.foldl (fun s (da, sa, body) =>
    if 2304 < body.length then s.inc (macCnt m.radio 3 true)
    else s.ingress (0x10 + m.radio)
      { bytes := da ++ sa ++ (if hasLlc body then body.drop 6 else body), up := if m.tid < 8 then m.tid else 0
        tenant := some (s.bssTenant m.radio m.bss), sid := sid, bss := some m.bss, noLlc := !hasLlc body
        stamp := if s.ntValid then BitVec.ofNat 64 m.stamp else 0 }) s

/-- Whether a BSS is open, and which slots serve its group frames and its protected group management frames: no register or record gives
them (log 31). -/
def bssOpen (r bss : Nat) : Bool := (Config.freeOf 1 [0x0359, r, bss]).toNat == 1
def groupSlot (r bss : Nat) : Nat := (Config.freeOf 14 [0x035A, r, bss]).toNat
def bipSlot (r bss : Nat) : Nat := (Config.freeOf 14 [0x035B, r, bss]).toNat

/-- Release an MPDU: the replay check (12 R362), then its MSDUs. -/
def State.releaseMpdu (s : State) (m : RxMpdu) (sid : Option Nat) (slot : Option Nat) : State :=
  let ok := match m.sec, slot with
    | some (pn, _), some k => s.replayCheck k (m.gen.getD 0) (rxIdx (k == groupSlot m.radio m.bss || k == bipSlot m.radio m.bss) m.tid) pn
    | _, _ => (true, s)
  if !ok.1 then ok.2
  else if m.type = 0 then ok.2.toHost m sid 0
  else ok.2.deliverMsdus m sid

/-- The SNs of a window in order: those held in it from `start` on for `n` numbers. -/
def snRange (start n : Nat) : List Nat := (List.range n).map fun i => (start + i) % 4096

/-- Move a receive window's start to a SN: what it held before is released in order, holes are passed (R229). -/
def State.moveWindow (s : State) (sid tid to_ : Nat) : State :=
  match s.sta sid with
  | none => s
  | some x =>
    match Tab.get? x.rxBa tid with
    | none => s
    | some a =>
      let n := (to_ + 4096 - a.start) % 4096
      let l := (snRange a.start n).filterMap fun k => Tab.get? a.held k
      let gone := snRange a.start n
      let a1 : RxBa := { a with start := to_ % 4096, held := Tab.keep a.held (fun k _ => !gone.contains k)
                                got := a.got.filter (fun k => !gone.contains k), holes := Tab.keep a.holes (fun k _ => !gone.contains k) }
      let s1 := s.modSta sid fun x => { x with rxBa := Tab.put x.rxBa tid a1 }
      l.foldl (fun s m => s.releaseMpdu m (some sid) x.keySlot) s1

/-- The holes of a receive window, the numbers missing before one that is held, each with the instant since when it has stood (R229). -/
def RxBa.seeHoles (a : RxBa) (now : Nat) : RxBa :=
  let ks := snRange a.start a.size
  let upto := ((ks.zipIdx).filter (fun e => Tab.has a.held e.1)).foldl (fun m e => Nat.max m e.2) 0
  { a with holes := (ks.take upto).foldl (fun t k =>
      if a.got.contains k then t else Tab.put t k (Tab.getD a.holes k now)) [] }

/-- Release what stands in order at the window start, and mark since when each hole stands (R229). -/
def State.releaseInOrder (s : State) (sid tid : Nat) : State :=
  match (s.sta sid).bind (fun x => Tab.get? x.rxBa tid) with
  | none => s
  | some a =>
    let run := ((snRange a.start a.size).takeWhile (fun k => a.got.contains k)).length
    let s1 := s.moveWindow sid tid ((a.start + run) % 4096)
    s1.modSta sid fun x => { x with rxBa := Tab.upd x.rxBa tid fun b => b.seeHoles s.elapsed }

/-- A receive agreement ends: what it held is released (R226). -/
def State.endRxBa (s : State) (sid tid : Nat) : State :=
  match (s.sta sid).bind (fun x => Tab.get? x.rxBa tid) with
  | none => s
  | some a =>
    (s.moveWindow sid tid ((a.start + a.size) % 4096)).modSta sid fun x => { x with rxBa := Tab.del x.rxBa tid }

/-- An agreement ends with event 0x6004 (R238): direction 0 transmit, 1 receive; cause 0 delete, 1 timeout, 2 station
removed. -/
def State.endAgreement (s : State) (sid tid dir cause : Nat) : State :=
  let s1 := if dir = 1 then s.endRxBa sid tid else s.modSta sid fun x => { x with txBa := Tab.del x.txBa tid }
  s1.postEvent 0x6004 (items [sid, tid, dir, cause])

/-- A station without power save, or one it has answered, has nothing more buffered (R223). -/
def State.buffered (s : State) (sid : Nat) : Bool := s.mac.frames.any (fun e => e.2.sid == sid && e.2.taken.isNone)

/-! ## Faults, swaps and superframes -/

/-- A radio fault in its MAC (R230, 01 R30, 11 R331): frames on the air are lost, frames taken for launches not made go
back, frames of discarded commands go; scoreboards and reorder buffers of the radio's links go; the plan goes. -/
def State.clearMac (s : State) (r : Nat) (onAir : List LaunchOf) : State :=
  let lost := s.mac.frames.filter (fun e => match e.2.taken with | some (q, o) => q == r && onAir.contains o | none => false)
  let s1 := { s with mac := { s.mac with
    frames := (s.mac.frames.filter (fun (e : Nat × Frame) => !(lost.any (fun l => l.1 == e.1)))).map fun (e : Nat × Frame) =>
      (e.1, match e.2.taken with | some (q, _) => if q = r then { e.2 with taken := none } else e.2 | none => e.2)
    plan := Tab.keep s.mac.plan (fun _ p => p.radio != r)
    frozen := Tab.del s.mac.frozen r
    dual := s.mac.dual.filter (· != r)
    beacons := Tab.del s.mac.beacons r
    beaconAir := Tab.del s.mac.beaconAir r
    stas := Tab.mapV s.mac.stas fun _ x =>
      if (x.linkOn r).isSome then
        { x with rxBa := Tab.mapV x.rxBa fun _ a => { a with held := [], got := [], holes := [] } }
      else x } }
  s1.dropOrphans

/-- A radio returns to service (R230): each station with a transmit agreement on its links is due a BlockAckReq from the
next unassigned SN; event 0x6008 with the number of requests. -/
def State.macRejoin (s : State) (r : Nat) : State :=
  let due := fun (x : Sta) => (x.linkOn r).isSome && !x.txBa.isEmpty
  let n := ((s.mac.stas.filter (fun e => due e.2)).map (·.2.txBa.length)).sum
  let mark := fun (x : Sta) =>
    if due x then { x with txBa := Tab.mapV x.txBa (fun t a => { a with start := Tab.getD x.sn t 0, barDue := true }) } else x
  let s1 := { s with mac := { s.mac with stas := Tab.mapV s.mac.stas (fun _ x => mark x) } }
  if n = 0 then s1 else s1.postEvent 0x6008 (items [r, n])

/-- Two plans become one (R217): the staged-bank plan where the radio swapped, the active-bank plan elsewhere. -/
def State.resolvePlans (s : State) (swapped : Nat → Bool) : State :=
  let keep := fun (p : Ppdu) => if s.mac.dual.contains p.radio then p.staged == swapped p.radio else !p.staged || swapped p.radio
  { s with mac := { s.mac with
    plan := Tab.mapV (Tab.keep s.mac.plan (fun _ p => keep p)) fun _ p => { p with staged := false }
    dual := [] } }

/-- A superframe start (R213, R217, R222, R225, R229; log 18): the events of the superframe that ended, old PPDUs leave,
the count of superframes with traffic runs down, the beacons start anew. -/
def State.macSuperframe (s : State) (start : Nat) : State :=
  let s0 := s.mac.late.foldl (fun s e => s.postEvent 0x6002 (items [e.1, e.2.1 % 2 ^ 64, e.2.2])) s
  let s1 := s0.mac.reorders.foldl (fun s e => s.postEvent 0x6006 (items [e.1, e.2])) s0
  let s2 := s1.resolvePlans (fun _ => false)
  let old := (s2.mac.plan.filter (fun e => decide (e.2.sf < start) && e.2.sf + 2 * s.sfNs ≤ start + s.sfNs)).map (·.1)
  let stuck := fun (f : Frame) => match f.taken with
    | some (r, .plan id) => old.contains id && !((s.radio r).launches.any (fun l => l.of_ == .plan id))
    | _ => false
  let back := (s2.mac.frames.filter (fun e => stuck e.2)).map (·.1)
  let s3 := back.foldl (fun s id => s.returnFrame id) s2
  { s3 with mac := { s3.mac with
    late := [], reorders := [], beacons := [], beaconAir := []
    plan := Tab.keep s3.mac.plan (fun k _ => !old.contains k)
    stas := Tab.mapV s3.mac.stas fun _ x => { x with traffic := x.traffic - 1 } } }

/-! ## The plan (R216 to R222) -/

/-- A part to be planned: region kind (0 for a Deterministic exchange), classes in order, its slots and its users. -/
structure PlanPart where
  kind : Nat
  classes : List Nat
  first : Nat
  last : Nat
  users : List PlanUser := []
  full : Bool := false
deriving DecidableEq, Repr

/-- The parts of a superframe in slot order (R221, R222): the exchanges, then what they leave of the regions of kinds 2, 4,
5 and 6; what is left of one that an exchange cut and is shorter than EX_LEN is idle. -/
def planParts (t : List Region) (ex : Nat) (exs : List DetEx) (user : Nat → Nat → Bool → PlanUser) : List PlanPart :=
  let det := exs.map fun e => (⟨0, [1, 2, 3], e.slot, e.slot + ex, e.users.map (fun (sid, d) => user e.slot sid d), false⟩ : PlanPart)
  let rest := (t.filter (fun g => g.kind == 2 || decide (4 ≤ g.kind))).flatMap fun g =>
    g.instances.flatMap fun (a, b) => (cutParts a b ex exs).filterMap fun (x, y) =>
      if (x, y) ≠ (a, b) && decide (y - x < ex) then none
      else some (⟨g.kind, if g.kind = 2 then [] else (List.range 4).filter (fun c => decide (g.cls ≤ c) && c != 0), x, y, [], false⟩ : PlanPart)
  sortBy (fun p => p.first) (det ++ rest)

/-- Where the planner stands: the parts planned, their stations, candidates left out for lack of room, and the turns each station has had
in Best effort (R215). -/
structure PlanAcc where
  done : List PlanPart := []
  placed : List Nat := []
  missed : List Nat := []
  turns : Tab Nat := []
deriving DecidableEq, Repr

/-- What a plan is made for: radio, superframe start, slot length, MU limit, mode, whether the staged bank's, the SIDs that another
radio's plan for the superframe serves, and where the first part of another radio not frozen yet starts for a station (ns from S, radio). -/
structure PlanFor where
  r : Nat
  sf : Nat
  sl : Nat
  mu : Nat
  mode : Nat
  staged : Bool
  elsewhere : List Nat
  others : Tab (List (Nat × Nat))
deriving DecidableEq, Repr

/-- A candidate's demand in a class (R222): downlink frames, and uplink data reported; traffic within 4 superframes counts
in the station's highest class (log 52). -/
def State.demand (s : State) (q : PlanFor) (sid : Nat) (x : Sta) (cls : Nat) : Bool × Bool :=
  let ten := (s.staTenant sid).getD 0
  let recent := decide (0 < x.traffic) && s.highClass ten == cls
  (s.mac.frames.any (fun e => e.2.sid == sid && e.2.taken.isNone && e.2.launch == 0 && bitOf e.2.radios q.r
      && s.serveClass q.r sid e.2.tid ten true == cls) || recent,
   x.ul.any (fun a => s.queueClass q.r sid a ten false == cls) || recent)

/-- A station that the planner of a radio may place in the part from slot `first` on (R211, R222): no other radio serves it, or offers it
an earlier part (log 120). -/
def Sta.plannable (x : Sta) (q : PlanFor) (sid first : Nat) : Bool :=
  !x.deleting && (x.linkOn q.r).isSome && !(q.elsewhere.contains sid)
    && (Tab.getD q.others sid []).all fun o => decide (first * q.sl < o.1) || (first * q.sl == o.1 && decide (q.r < o.2))

/-- The frames in a station's queues of a class on a radio. -/
def State.classFrames (s : State) (r sid cls : Nat) : List Frame :=
  let ten := (s.staTenant sid).getD 0
  (s.mac.frames.filter (fun f => f.2.sid == sid && f.2.taken.isNone && bitOf f.2.radios r && s.serveClass r sid f.2.tid ten true == cls)).map (·.2)

/-- Candidates of a class in the order of R215: the oldest head frame first in Latency; the fewest turns by queue depth first in Best
effort (log 153); by a free order in Assured, where the spec gives a queue's rate share nowhere. A Latency candidate without a frame, of
whom only uplink is due, comes last (log 168). -/
def State.planCandidates (s : State) (q : PlanFor) (first : Nat) (turns : Tab Nat) (cls : Nat) : List (Nat × Sta) :=
  let l := s.mac.stas.filter fun e => e.2.plannable q e.1 first
    && (let d := s.demand q e.1 e.2 cls; d.1 || d.2 || e.2.uplinkNext.contains q.r)
  let key := fun (e : Nat × Sta) =>
    let l := s.classFrames q.r e.1 cls
    if cls = 1 then (l.head?).elim (2 ^ 64) (·.enq)
    else if cls = 3 then Tab.getD turns e.1 0 * 2 ^ 20 / Nat.max 1 l.length
    else (Config.freeOf 32 [0x0215, q.r, q.sf, cls, e.1]).toNat
  sortBy key l

/-- A user as the planner writes it: its RU, its streams and its target received power are the planner's (free), the streams within the
station's (R183, R216). -/
def planUser (q : PlanFor) (first sid : Nat) (x : Sta) (down : Bool) (cls : Nat) : PlanUser :=
  let caps := ((x.linkOn q.r).elim 0 (·.caps)) / 16 % 8
  { sid := sid, down := down, cls := cls, ru := (Config.freeOf 9 [0x0222, q.r, q.sf, first, sid, b2n down]).toNat
    ss := 1 + (Config.freeOf 2 [0x0223, q.r, q.sf, first, sid, b2n down]).toNat % (Nat.min 4 (caps + 1))
    power := if down then 0 else signed 8 (Config.freeOf 8 [0x0224, q.r, q.sf, first, sid]).toNat }

/-- Place an uplink user in an earlier EXCHANGE or UL part (R222), unless it is there already. -/
def uplinkEarlier (q : PlanFor) (sid : Nat) (x : Sta) (cls : Nat) (done : List PlanPart) : Option (List PlanPart) :=
  let up := fun (p : PlanPart) => p.kind == 0 || p.kind == 4 || p.kind == 6
  let has := fun (p : PlanPart) => p.users.any (fun u => u.sid == sid && !u.down)
  if done.any (fun p => up p && has p) then some done
  else
    match done.findIdx? (fun p => up p && decide (p.users.length < q.mu)
        && x.inPeriod q.r (q.sf + p.first * q.sl) (q.sf + p.last * q.sl)) with
    | some i => some (done.zipIdx.map fun (p, j) =>
        if j = i then { p with users := p.users ++ [planUser q p.first sid x false cls] } else p)
    | none => none

/-- Try one candidate of a class in a part. -/
def State.placeCandidate (s : State) (q : PlanFor) (cls : Nat) (acc : PlanAcc × PlanPart) (e : Nat × Sta) :
    PlanAcc × PlanPart :=
  let (a, p) := acc
  let (sid, x) := e
  let d := s.demand q sid x cls
  let t0 := q.sf + p.first * q.sl
  let t1 := q.sf + p.last * q.sl
  let wantDown := d.1 && x.awakeIn q.r t0 t1 && p.kind != 6 && !(p.users.any (fun u => u.sid == sid && u.down))
  let wantUp := (d.2 || x.uplinkNext.contains q.r) && x.inPeriod q.r t0 t1 && p.kind != 5 && !(p.users.any (fun u => u.sid == sid && !u.down))
  let full := fun (p : PlanPart) => decide (q.mu ≤ p.users.length)
  if !(wantDown || wantUp) then (a, p)
  else if full p then ({ a with missed := if a.missed.contains sid then a.missed else sid :: a.missed }, p)
  else
    let (a1, p1) := if !wantDown then (a, p)
      else if !(s.csiStale q.r sid 65535 (t0 - 2 * q.sl)) then (a, { p with users := p.users ++ [planUser q p.first sid x true cls] })
      else match uplinkEarlier q sid x cls a.done with
        | some l => ({ a with done := l }, { p with users := p.users ++ [planUser q p.first sid x true cls] })
        | none => (a, p)
    let p2 := if wantUp && !full p1 then { p1 with users := p1.users ++ [planUser q p1.first sid x false cls] } else p1
    (if p2.users.length = p.users.length then a1
      else { a1 with placed := sid :: a1.placed
                     turns := if cls = 3 then Tab.put a1.turns sid (Tab.getD a1.turns sid 0 + 1) else a1.turns }, p2)

/-- Plan one part (R222): its class, then the lower ones; a SOUND part takes the stations that are due to be sounded (07 R200), in
their service periods (R224), those with the oldest feedback first (log 169). -/
def State.planPart (s : State) (q : PlanFor) (a : PlanAcc) (p : PlanPart) : PlanAcc :=
  let r := if p.kind = 2 then
      let due := s.mac.stas.filter fun e => e.2.plannable q e.1 p.first && (e.2.soundDue.contains q.r || (s.radio q.r).explicit)
        && e.2.inPeriod q.r (q.sf + p.first * q.sl) (q.sf + p.last * q.sl)
      let fed := fun (e : Nat × Sta) => ((Tab.getD s.mac.csi (csiKey e.1 q.r) {}).fb.getD 0 none).getD 0
      (a, { p with users := ((sortBy fed due).take q.mu).map (fun e => planUser q p.first e.1 e.2 false 0) })
    else p.classes.foldl (fun acc c => (s.planCandidates q p.first acc.1.turns c).foldl (s.placeCandidate q c) acc) (a, p)
  { r.1 with done := r.1.done ++ [r.2] }

/-- Tones of an RU by its index in the EHT RU tables, which are not in the spec: open. -/
def ruTones (ru : Nat) : Nat := (Config.freeOf 12 [0x0183, ru]).toNat

/-- R183 admits a user in an RU beside those who share it: 26 tones in Density only, MU-MIMO on 242 and more, 8 users and 8 streams. -/
def ruTakes (mode : Nat) (mates : List PlanUser) (ss ru : Nat) : Bool :=
  (decide (52 ≤ ruTones ru) || mode == 3)
    && (mates.isEmpty || (decide (242 ≤ ruTones ru) && decide (mates.length < 8) && decide ((mates.map (·.ss)).sum + ss ≤ 8)))

/-- The users of a PPDU in RUs that R183 admits (R222): the first from the planner's free choice on, of a PPDU and its response apart. -/
def fitUsers (mode : Nat) (l : List PlanUser) : List PlanUser :=
  l.foldl (fun acc u =>
    let mates := fun ru => acc.filter fun v => v.ru == ru && v.down == u.down
    let ru := ((List.range 512).map fun k => (u.ru + k) % 512).find? fun k => ruTakes mode (mates k) u.ss k
    acc ++ [{ u with ru := ru.getD u.ru }]) []

/-- One PPDU sequence of a part, from `launch` on within `room` ns (R219, R220): its durations are the planner's (free), in units of
250 ns from 1 to 21,936 (09 R251), with room for SIFS and the TB response, and in EXCHANGE and UL for SIFS and the BlockAck after it. Of
a sounding sequence the first is from the NDP announcement to the end of the BFRP trigger, and the response is the feedback. -/
def PlanPart.sequence (q : PlanFor) (p : PlanPart) (users : List PlanUser) (i launch room : Nat) : Ppdu × Nat :=
  let back := p.kind != 5 && p.kind != 2
  let units := (room - 16000 * (1 + b2n back)) / 250
  let f := fun j top => 1 + (Config.freeOf 32 [0x0216, q.r, q.sf, p.first, i, j]).toNat % (Nat.min 21936 (Nat.max 1 top))
  let ba := if back then f 2 (units / 4) else 0
  let dl := f 0 (units - ba - 1)
  let tb := f 1 (units - ba - dl)
  let te := launch + 250 * dl + 16000
  ({ radio := q.r, sf := q.sf, launch := launch, kind := if p.kind = 0 then 4 else p.kind
     cls := if p.kind = 0 then 0 else p.classes.headD 0, len := p.last - p.first, users := users
     te := te, dlDur := 250 * dl, tbDur := 250 * tb, baDur := 250 * ba, staged := q.staged },
   te + 250 * tb + (if back then 16000 + 250 * ba else 0))

/-- Sequences back to back from `launch` on, a SIFS apart, the last to end by `stop` (R220). -/
def PlanPart.sequences (q : PlanFor) (p : PlanPart) (stop : Nat) : List (List PlanUser) → Nat → Nat → List Ppdu
  | [], _, _ => []
  | us :: l, i, launch =>
    let (x, last) := p.sequence q us i launch ((stop - launch) / (l.length + 1) - 16000 * b2n (!l.isEmpty))
    x :: PlanPart.sequences q p stop l (i + 1) (last + 16000)

/-- A planned part as PPDUs (R216, R220): how many there are, and which users each serves, is the planner's (free) where 64 µs are there
for each; a Deterministic exchange is one. The last ends 16 µs before the part's end. -/
def PlanPart.ppdus (q : PlanFor) (p : PlanPart) : List Ppdu :=
  let launch := q.sf + p.first * q.sl
  let stop := q.sf + p.last * q.sl - 16000
  let free := fun i => (Config.freeOf 32 [0x0217, q.r, q.sf, p.first, i]).toNat
  let n := if p.kind = 0 then 1 else 1 + free 0 % Nat.max 1 (Nat.min p.users.length ((stop - launch) / 64000))
  let groups := ((List.range n).map fun k => ((p.users.zipIdx).filter (fun u => free (u.1.sid + 1) % n == k)).map (·.1)).filter (!·.isEmpty)
  PlanPart.sequences q p stop (groups.map (fitUsers q.mode)) 0 launch

/-- Where a radio's first part of kinds 4 to 6 for the superframe starts under a bank (ns from S). -/
def State.firstPart (s : State) (r : Nat) (staged : Bool) (mode len : Nat) : Option Nat :=
  let exs := (s.detFit r staged mode len (s.flowsOf r)).getD []
  let parts := planParts (s.template r staged) (s.exLen r staged) exs fun _ sid d => { sid := sid, down := d, cls := 0, ru := 0, ss := 1 }
  ((parts.filter (fun p => decide (4 ≤ p.kind))).head?).map fun p => p.first * slotNs mode

/-- The first parts, as yet without users, that a multi-link station's other radios offer it: of those in service and not frozen yet (R222;
log 120). -/
def State.otherParts (s : State) (r sf : Nat) (staged : Bool) (mode len : Nat) (x : Sta) : List (Nat × Nat) :=
  x.links.filterMap fun l =>
    if l.radio = r || !(s.inService (.radio l.radio)) || Tab.get? s.mac.frozen l.radio = some sf then none
    else (s.firstPart l.radio staged mode len).map fun t => (t, l.radio)

/-- The plan of a radio for the superframe at `sf` under a bank: its PPDUs, and the candidates left out. -/
def State.planRadio (s : State) (r sf : Nat) (staged : Bool) (mode len : Nat) : List Ppdu × Nat :=
  let width := s.bank staged ⟨bbBase r + 4, 18, 16⟩
  if width = 7 then ([], 0)
  else
    let mu := if 3 ≤ s.throttle then Nat.min 8 (muOrder r mode) else muOrder r mode
    let multi := fun sid => match s.sta sid with | some x => x.multi && decide (1 < x.links.length) | none => false
    let det := s.mac.flows.map (·.2.sid)
    let elsewhere := ((s.mac.plan.filter (fun e => e.2.sf == sf && e.2.radio != r)).flatMap (fun e => e.2.users.map (·.sid))).eraseDups
    let free := fun sid => multi sid && !det.contains sid
    let q : PlanFor := ⟨r, sf, slotNs mode, mu, mode, staged, elsewhere.filter free,
      (s.mac.stas.filter (fun e => free e.1)).map fun e => (e.1, s.otherParts r sf staged mode len e.2)⟩
    let exs := (s.detFit r staged mode len (s.flowsOf r)).getD []
    let user := fun (slot sid : Nat) (d : Bool) => match s.sta sid with
      | some x => planUser q slot sid x d 0
      | none => { sid := sid, down := d, cls := 0, ru := 0, ss := 1, status := 0x43 }
    let parts := planParts (s.template r staged) (s.exLen r staged) exs user
    let acc := parts.foldl (fun a p => s.planPart q a p) {}
    ((acc.done.filter (fun p => !p.users.isEmpty)).flatMap (·.ppdus q), (acc.missed.filter (fun x => !acc.placed.contains x)).length)

/-- Add a plan to the MAC's. -/
def State.addPlan (s : State) (l : List Ppdu) : State :=
  l.foldl (fun s p => { s with mac := { s.mac with plan := Tab.put s.mac.plan s.mac.nextPpdu p, nextPpdu := s.mac.nextPpdu + 1 } }) s

end Sys2Proof.Machine
end

