-- ==== Sys2Proof/Machine/WireOps.lean ====
section
/-! DEFINITION. Gate lists, ports and Tile Links (14 R414 to R437). -/

namespace Sys2Proof.Machine

/-! ## Gate lists (R422 to R424), in 0.01 ns -/

/-- A gate list: EN, CYCLE and GOFF (0.01 ns), and its entries as (start, end, open queues) within a cycle. -/
structure GateList where
  en : Bool
  cycle : Nat
  goff : Nat
  entries : List (Nat × Nat × Nat)
deriving DecidableEq, Repr

/-- Entries from their words: each follows the one before, the last extends to the end of the cycle. -/
def gateEntries (cycle : Nat) : Nat → List Nat → List (Nat × Nat × Nat)
  | _, [] => []
  | at_, [w] => [(at_, cycle, w % 256)]
  | at_, w :: ws => (at_, at_ + w / 256 * 100, w % 256) :: gateEntries cycle (at_ + w / 256 * 100) ws

/-- The gate list of a sub-port from a bank. -/
def gateListOf (read : Nat → Word) (sub : Nat) : GateList :=
  let (p, l) := portOf sub
  let g := (read (ethBase p + 0x10 + 0x10 * l)).toNat
  let c := bitsOf (read (ethBase p + 0x14 + 0x10 * l)).toNat 27 0 * 100
  ⟨bitOf g 21, c, bitsOf (read (ethBase p + 0x18 + 0x10 * l)).toNat 27 0 * 100,
    gateEntries c 0 ((List.range (bitsOf g 20 10)).map fun i => (read (ethBase p + 0x1000 + 4 * ((bitsOf g 9 0 + i) % 1024))).toNat)⟩

/-- Whether a queue's gate is open throughout [n, n + d) (instants in 0.01 ns of NT, `phase` in ns). -/
def GateList.openFor (g : GateList) (q : Nat) (n : Int) (phase d : Nat) : Bool :=
  if !g.en || g.cycle = 0 then true
  else
    let o := ((n - phase * 100 - g.goff) % g.cycle).toNat
    !(g.entries.any fun (a, b, m) => !bitOf m q && (List.range (d / g.cycle + 2)).any fun k =>
        decide (a + k * g.cycle < o + Nat.max 1 d) && decide (o < b + k * g.cycle))

/-- The longest interval for which a queue's gate is open, or none when it never closes. -/
def GateList.longest (g : GateList) (q : Nat) : Option Nat :=
  if !g.en || g.cycle = 0 || g.entries.all (fun e => bitOf e.2.2 q) then none
  else
    let r := (g.entries ++ g.entries).foldl (fun (acc : Nat × Nat) e =>
      if bitOf e.2.2 q then (acc.1 + (e.2.1 - e.1), Nat.max acc.2 (acc.1 + (e.2.1 - e.1))) else (0, acc.2)) (0, 0)
    some r.2

/-- A step of NT is armed for an instant at which a frame of d (0.01 ns) that starts now is still on the wire. -/
def State.stepWithin (s : State) (d : Nat) : Bool :=
  let within := fun (t : Nat) => decide (s.ntCentis < t * 100) && decide (t * 100 < s.ntCentis + d)
  (match s.time.stepPending with | some (_, t) => within t | none => false)
    || (match Tab.get? s.time.reanchors 0 with | some t => within t | none => false)

/-- A frame of d (0.01 ns) on a queue passes the gate list now (R423, R424): the new list governs from an irrevocable
commit's strobe on, and every gate is closed in a realignment interval, one that a step opens while the frame is on the
wire among them (log 60). -/
def State.gatePass (s : State) (sub q d : Nat) : Bool :=
  let n := s.ntCentis
  let act := gateListOf s.reg sub
  let swap := s.commit.state == .committed && s.commit.part.getLsbD (15 + (portOf sub).1)
  let at_ := s.commit.target * 100
  !s.realigning && !s.stepWithin d && (if swap && at_ < n + d then
      (decide (at_ ≤ n) || act.openFor q n s.grid.phase (at_ - n))
        && (gateListOf s.sreg sub).openFor q (Nat.max n at_) s.grid.phase (n + d - Nat.max n at_)
    else act.openFor q n s.grid.phase d)

/-- Octets MACsec adds to this frame (R419, R426): none on the uncontrolled port. -/
def State.frameOverhead (s : State) (sub : Nat) (f : WireFrame) : Nat := if s.bypasses sub f.body then 0 else s.secOverhead sub

/-- Air time of a frame from its preamble to its FCS, with MACsec (R423), in 0.01 ns. -/
def State.wireTime (s : State) (sub : Nat) (f : WireFrame) : Nat :=
  (Nat.max 64 f.len + 8 + s.frameOverhead sub f) * byteTime (Tab.getD s.eth.links sub 0)

/-! ## Ports -/

/-- A sub-port's link goes up with a speed or down (R416). -/
def State.setLink (s : State) (sub speed : Nat) : State :=
  if Tab.getD s.eth.links sub 0 = speed then s
  else
    let e := s.eth
    ({ s with eth := { e with links := if speed = 0 then Tab.del e.links sub else Tab.put e.links sub speed
                              tx := if speed = 0 then Tab.del e.tx sub else e.tx } }).postEvent
      0xC001 (items [sub, b2n (speed != 0), speed])

/-- The sub-ports of a port. -/
def subsOf (p : Nat) : List Nat := (List.range 10).filter fun b => (portOf b).1 == p

/-- START_THRESH of a port's record (R438). -/
def State.recThresh (s : State) (p : Nat) : Nat :=
  ((s.recsOf 0x0C01).find? (fun b => fieldLE b 0 1 == p)).elim 0 (fun b => fieldLE b 6 2)

/-- A port's fault (R416, R421): its links go down, a frame in transmission is truncated, START_THRESH is its record's. -/
def State.clearPort (s : State) (p : Nat) : State :=
  let s1 := (subsOf p).foldl (fun s b => s.setLink b 0) s
  if s.recThresh p = 0 then s1 else s1.put ⟨ethBase p + 0xC, 13, 0⟩ (s.recThresh p)

/-- The port's part of a swap that changed MODE, MEDIUM or FEC (R416). -/
def State.portSwap (s : State) (p : Nat) (changed : Bool) : State :=
  if changed then (subsOf p).foldl (fun s b => s.setLink b 0) s else s

/-! ## Tile Links -/

/-- A link. -/
def State.tile (s : State) (k : Nat) : TileSt := Tab.getD s.tiles k {}

/-- Change a link. -/
def State.modTile (s : State) (k : Nat) (f : TileSt → TileSt) : State := { s with tiles := Tab.put s.tiles k (f (s.tile k)) }

/-- TL_k_CTRL and TL_k_CNT. -/
def tlCtrl (k : Nat) : Nat := 0x3800004 + 0x10000 * k
def tlCnt (k : Nat) : Nat := 0x38000C0 + 0x10000 * k

/-- Send a downstream message (R433); a link that is not UP sends none. -/
def State.tileSend (s : State) (k type : Nat) (payload : List Byte) (mask : Option (LaunchOf × Nat) := none) : State :=
  if (s.tile k).state != .up then s
  else s.modTile k fun x => { x with msgs := x.msgs ++ [⟨type, payload, 1, s.elapsed, mask⟩] }

/-- Start training (R435). -/
def State.startTraining (s : State) (k : Nat) : State :=
  s.modTile k fun x => { x with state := .training, attempts := 1, step := 1, from_ := s.elapsed, result := 0 }

/-- A link in DOWN with AUTO_TRAIN and its clock running trains (R436). -/
def State.autoTrain (s : State) (k : Nat) : State :=
  if (s.tile k).state == .down && s.flag ⟨tlCtrl k, 5, 5⟩ && !s.gated (32 + k) then s.startTraining k else s

/-- A link's fault (R436): RECOVERING until its reset state; its messages and masks are gone. Causes SYNC, WANDER, CTL and
CTL_TIMEOUT (16 R475) post event 0xC005. -/
def State.clearTile (s : State) (k cause : Nat) : State :=
  let own := decide (0xA ≤ cause) && decide (cause ≤ 0xD)
  let s1 := s.modTile k fun x =>
    { state := .recovering, cause := if own then cause - 9 else x.cause, result := x.result, prbs := x.prbs }
  if own then s1.postEvent 0xC005 (items [k, cause - 9]) else s1

/-- A link returns to DOWN, its lanes off (R436). -/
def State.tileDown (s : State) (k : Nat) : State :=
  s.modTile k fun x => { state := .down, cause := x.cause, result := x.result, prbs := x.prbs }

/-- Frame and instant of an event at an NT instant (R431, R434): the first data frame left the pins at `frame0`. -/
def TileSt.frameAt (x : TileSt) (t : Nat) (back : Nat) : Nat :=
  (((t - x.frame0) * 24 - 5 * x.dtx) / 50 - back) / 13 % 2 ^ 32

/-- The links that carry chains c of a radio, with the tile chains. -/
def State.linksOf (s : State) (r : Nat) (chains : List Nat) : List (Nat × List Nat) :=
  (List.range 12).filterMap fun k => match s.bind k with
    | some (r', b, n) =>
      let l := (chains.filter fun c => r' == r && decide (integrated r ≤ c) && decide (b ≤ c) && decide (c < b + n)).map (· - b)
      if l.isEmpty then none else some (k, l)
    | none => none

/-- Send TX_MASK to every tile of a launch (R433). -/
def State.sendMasks (s : State) (r : Nat) (of_ : LaunchOf) (t : Nat) (chains : List Nat) : State :=
  (s.linksOf r chains).foldl (fun s (k, l) =>
    let x := s.tile k
    if x.state != .up || x.masks.contains (of_, t) || x.msgs.any (fun m => m.mask == some (of_, t)) then s
    else (s.modTile k fun x => { x with masks := x.masks.filter (fun m => decide (s.ntNs ≤ m.2)) }).tileSend k 0x04
      (leBytes 8 (bitMap 64 l.contains) ++ leBytes 4 (x.frameAt t 240)) (some (of_, t))) s

/-- Every tile of a launch at t has acknowledged its mask (R433). -/
def State.masksReady (s : State) (r : Nat) (of_ : LaunchOf) (t : Nat) (chains : List Nat) : Bool :=
  (s.linksOf r chains).all fun (k, _) => (s.tile k).masks.contains (of_, t)

/-- The centre of a channel number in kHz, by IEEE 802.11's bands (log 42). -/
def centreKhz (r n : Nat) : Nat := ([2407, 5000, 5950].getD r 0 + 5 * n) * 1000

/-- SET_CHANNEL of a BB_x_CHAN word (R433): target 0 pre-tunes, 1 is the shadow. -/
def State.sendChannel (s : State) (k r : Nat) (w : Word) (target : Nat) : State :=
  s.tileSend k 0x01 ([BitVec.ofNat 8 (bitsOf w.toNat 18 16), BitVec.ofNat 8 target] ++ leBytes 4 (centreKhz r (bitsOf w.toNat 15 8)))

/-- SET_POSITIONS of the n chains from b on, 28 a message (R433). -/
def State.sendPositions (s : State) (k n : Nat) (pos : Nat → Nat) : State :=
  (List.range ((n + 27) / 28)).foldl (fun s j =>
    let m := Nat.min 28 (n - 28 * j)
    s.tileSend k 0x02 (leBytes 1 (28 * j) ++ leBytes 1 m ++ (List.range m).flatMap fun i => leBytes 2 (pos (28 * j + i)))) s

/-- SET_POWER (R433). -/
def State.sendPower (s : State) (k : Nat) (w : Word) : State := s.tileSend k 0x03 (leBytes 1 w.toNat)

/-- Messages that a radio's staged bank needs on one of its tiles (R433): the channel to pre-tune, the positions and the power
that change; all of them on a tile that the bank binds anew (06 R162). -/
def State.stageTile (s : State) (r k : Nat) : State :=
  match s.sbind k with
  | some (r', b, n) =>
    if r' ≠ r then s
    else
      let bound := s.sbind k != s.bind k
      let s1 := if bound || s.channelStaged r then s.sendChannel k r (s.sreg (bbBase r + 4)) 0 else s
      let moved := bound || (List.range n).any fun i => s.sget (tunerPos r (b + i)) != s.get (tunerPos r (b + i))
      let s2 := if moved then s1.sendPositions k n fun i => s.sget (tunerPos r (b + i)) else s1
      if bound || s.sreg (feBase r + 0x18) ≠ s.reg (feBase r + 0x18) then s2.sendPower k (s.sreg (feBase r + 0x18)) else s2
  | none => s

/-- Messages to a radio's tiles as a commit arms (R433). -/
def State.stageTiles (s : State) (r : Nat) : State := (List.range 12).foldl (fun s k => s.stageTile r k) s

/-- A tile that comes UP gets the channel, the positions and the power of its radio's active bank, and what an armed commit
needs of it (06 R162, log 149). -/
def State.setUpTile (s : State) (k : Nat) : State :=
  let s1 := match s.bind k with
    | some (r, b, n) =>
      ((s.sendChannel k r (s.reg (bbBase r + 4)) 0).sendPositions k n fun i => s.get (tunerPos r (b + i))).sendPower k (s.reg (feBase r + 0x18))
    | none => s
  match s.sbind k with
  | some (r, _, _) => if s.commitPending && s.commit.part.getLsbD r then s1.stageTile r k else s1
  | none => s1

/-- The idle synthesisers of a radio's tiles become shadows on its active channel (06 R163). -/
def State.shadowTiles (s : State) (r : Nat) : State :=
  (List.range 12).foldl (fun s k =>
    if (s.bind k).any (fun b => b.1 == r) then s.sendChannel k r (s.reg (bbBase r + 4)) 1 else s) s

/-- The tiles of a radio have acknowledged what its staged bank needs, and show PRETUNED for a new channel (R433). -/
def State.tilesReady (s : State) (r : Nat) : Bool :=
  (List.range 12).all fun k => match s.sbind k with
    | some (r', _, _) => r' != r || (s.tile k).state != .up || (!((s.tile k).msgs.any fun m => m.type ≤ 3)
        && (!s.channelStaged r || (s.tile k).pretuned))
    | none => true

end Sys2Proof.Machine
end

