-- ==== Sys2Proof/Machine/UnitReset.lean ====
section
/-! DEFINITION. What a unit's return to its reset state clears in each block, and how a unit is configured again (01 R27,
R30, and each chapter). -/

namespace Sys2Proof.Machine

/-- A state at reset with what a device reset keeps of the island: nothing (10 R266). -/
def State.retained (_s : State) : State := State.reset

/-- Release the contexts a consumer holds and drop its credits (13 R402). -/
def State.dropConsumer (s : State) (c : Nat) : State :=
  { s with tasks := { s.tasks with
    credits := Tab.del s.tasks.credits c
    items := Tab.keep s.tasks.items (fun _ i => match i.holder with | some (h, _) => h != c | none => true) } }

/-- A chain's item is up, or down again: its machine leaves or enters OFF; an unpowered tuner is at rest (06 R156, R161,
R167). -/
def State.chainPowered (s : State) (i : Nat) (on_ : Bool) : State :=
  if on_ then s.modChain i fun x => { x with powered := true, state := .standby, upNew := true }
  else s.modChain i fun x => { x with powered := false, state := .off, pos := 0, serving := false, upNew := false }

/-- A unit in its reset state that is released or recovered is configured again and may join at the next Meridian
(05 R136); a radio's chains are powered, a tile trains, a function is back at once, a DRAM channel retrains first (15
R457). -/
def State.reenter (s : State) (u : FUnit) : State :=
  let x := s.unit u.idx
  if x.held.isSome || x.phase != .reset then s
  else
    let s1 := s.setUnit u.idx { x with phase := match u with
      | .func _ => .service | .mesh => if s.mesh.state == .recovering then .service else .reset | .dram _ => .reset | .link _ => .joining | _ => s.joinPhase }
    match u with
    | .radio r => s1.powerChains r
    | .link k => s1.autoTrain k
    | .mesh => s1.meshRecovered.meshStart
    | _ => s1

/-- The host workers bound to a function (13 R399). -/
def State.workersOf (s : State) (f : Nat) : List Nat :=
  (List.range 64).filter fun w =>
    s.get ⟨0x3100100 + 4 * w, 3, 0⟩ == f && s.flag ⟨0x3100100 + 4 * w, 8, 8⟩

/-- A function's rings after a fault or an Eclipse: SQs, CQs, RQs and the direct ring disabled, their base, depth and
binding kept; its workers' credits lapse and their contexts are released (13 R393, R396). -/
def State.disableRings (s : State) (f : Nat) : State :=
  let s1 := (List.range 16).foldl (fun s n =>
    ((s.put ⟨sqBase f n + 8, 4, 4⟩ 0).put ⟨ringCfg f 0 n, 4, 4⟩ 0).put ⟨ringCfg f 1 n, 4, 4⟩ 0) s
  let s2 := s1.put ⟨hqBase f + 0x24, 4, 4⟩ 0
  (s2.workersOf f).foldl (fun s w => s.dropConsumer (16 + w)) s2

/-- An Almanac command of the PF that is discarded (R393; 03 R95): what it still asks of the flash is not done; a program
or erase that has begun leaves its slot invalid. -/
def State.dropFlashWork (s : State) : State :=
  let l := s.flash.ops
  let head := if s.flash.running then l.take 1 else []
  let rest := (if s.flash.running then l.drop 1 else l).filter FlashOp.ofLog
  let s1 := { s with flash := { s.flash with ops := head ++ rest }, boot := { s.boot with almRunning := none } }
  match head with
  | .program a _ :: _ => s1.spoil (a / 65536)
  | .erase k :: _ => s1.spoil k
  | _ => s1

/-- Work of a function in the other units once its commands are discarded (01 R30, R393): transmissions on the air that
carry its frames alone are truncated, its frames leave the queues, what it asked of the cipher engine, the mesh and the
flash is dropped. -/
def State.dropFnWork (s : State) (f : Nat) : State :=
  let gone := fun (c : Option (Nat × Nat)) => match c with | some (g, tag) => g == f && (s.cmd? g tag).isNone | none => false
  let s1 := [0, 1, 2].foldl (fun (s : State) r => match s.onAir r with
    | some l =>
      let ids := s.takenBy r l.of_
      if !ids.isEmpty && ids.all (fun id => (Tab.get? s.mac.frames id).any (fun (x : Frame) => gone x.cmd)) then
        (s.endLaunch r l 0x01).modRadio r fun x => { x with launches := x.launches.filter (fun m => m.of_ != l.of_) }
      else s
    | none => s) s
  let s2 := s1.dropOrphans
  let slots := (s2.cipher.ops.filter (fun e => gone e.2.service)).map (fun e => e.2.slot)
  let s3 := { s2 with cipher := { s2.cipher with
    ops := Tab.keep s2.cipher.ops fun _ o => !(gone o.service)
    slots := Tab.mapV s2.cipher.slots fun _ k =>
      { k with waiting := k.waiting.filter (fun w => !(gone (some (w.fn, w.tag)))), erasing := if gone k.erasing then none else k.erasing } } }
  let s4 := (slots.eraseDups).foldl (fun s k => s.zeroise k) s3
  let s5 := (s4.cipher.slots.map (·.1)).foldl (fun s k => s.nextWaiting k) s4
  let s6 := s5.modMesh fun m =>
    { m with down := Tab.keep m.down (fun _ d => !(gone d.cmd)), wakes := m.wakes.filter (fun w => !(gone w.2.2))
             tx := match m.tx with
               | some t => (match t.what with
                 | .data id => if (Tab.get? m.down id).any (fun (d : MeshDown) => gone d.cmd) then none else m.tx
                 | _ => m.tx)
               | none => none }
  if f = 0 && s.boot.almRunning.any (fun c => gone (some c)) then s6.dropFlashWork else s6

/-- A table of the packet path whose damage caused the fault is cleared with event 0x9001 (11 R341): the fault's DETAIL
names it, 0 rules, 1 routes, 2 next hops, 3 forwarding, 4 flows, 5 ranges, 6 tunnels, 7 policers (log 40). -/
def State.clearTable (s : State) (t : Nat) : State :=
  if 7 < t then s
  else
    (s.modPkt fun p =>
      { p with rules := if t = 0 then [] else p.rules, routes := if t = 1 then [] else p.routes
               nextHops := if t = 2 then [] else p.nextHops, fdb := if t = 3 then [] else p.fdb
               flows := if t = 4 then [] else p.flows, ranges := if t = 5 then [] else p.ranges
               tunnels := if t = 6 then [] else p.tunnels, policers := if t = 7 then [] else p.policers
               policersStaged := if t = 7 then [] else p.policersStaged }).postEvent 0x9001 (items [t])

/-- A fault of the cipher engine discards the frames that it encrypts, but for those on the air (12 R367, 01 R30). -/
def State.dropSealing (s : State) : State :=
  let air := [0, 1, 2].flatMap fun r => ((s.radio r).launches.filter (·.onAir)).map (·.of_)
  (s.cipher.ops.filterMap (·.2.frame)).foldl (fun s id => match Tab.get? s.mac.frames id with
    | some f => if f.taken.any (fun t => air.contains t.2) then s else s.endFrame id 0x01
    | none => s) s

/-- What a fault with this cause and detail discards in each unit (01 R30). -/
def State.clearUnit (s : State) (u : FUnit) (cause detail : Nat) : State :=
  match u with
  | .radio r =>
    let air := ((s.radio r).launches.filter (·.onAir)).map (·.of_)
    ((s.clearRadio r).clearMac r air).freeForeignRadio r
  | .link k => s.clearTile k cause
  | .port p => s.clearPort p
  | .pkt => (if cause = 0x02 then s.clearPkt.clearTable detail else s.clearPkt).meshLink
  | .cipher => s.dropSealing.clearCipher (cause == 0x02)
  | .dram c => s.clearDram c
  | .mesh => s.clearMesh (cause == 0x12) ((cause == 0x01 || cause == 0x02) && detail == 2)
  | .func f =>
    let s1 := (s.disableRings f).dropFnWork f
    { s1 with host := { s1.host with faulted := if s1.host.faulted.contains f then s1.host.faulted else f :: s1.host.faulted } }

end Sys2Proof.Machine
end

