-- ==== Sys2Proof/Machine/Faults.lean ====
section
/-! DEFINITION. Faults of containment units and of the device: records, holds, ABORTED completions and the device
reset (01 R28 to R34, 05 R141, 16 R473 to R475). -/

namespace Sys2Proof.Machine

/-- A tag entry of a fault record (16 R474): TAG, function, medium. -/
def tagBytes (t : Nat × Nat × Nat) : List Byte := leBytes 2 t.1 ++ leBytes 1 t.2.1 ++ leBytes 1 t.2.2

/-- The parts of a fault record (16 R474), 50 tags a part. -/
def faultParts (kind index cause : Nat) (instant : NT64) (fr detail flags : Nat) (tags : List (Nat × Nat × Nat)) :
    List (List Byte) :=
  let n := Nat.max 1 ((tags.length + 49) / 50)
  (List.range n).map fun i =>
    let t := (tags.drop (50 * i)).take 50
    leBytes 1 1 ++ leBytes 1 kind ++ leBytes 1 index ++ leBytes 1 cause ++ leBytes 8 instant.toNat ++ leBytes 8 fr
      ++ leBytes 4 detail ++ leBytes 1 i ++ leBytes 1 n ++ leBytes 1 t.length ++ leBytes 1 flags ++ leBytes 4 0
      ++ t.flatMap tagBytes

/-- Tags of in-flight commands that had reached a medium, grouped by function in rising order (01 R31). -/
def reachedTags (cs : List Cmd) : List (Nat × Nat × Nat) :=
  sortBy (fun t => t.2.1) (cs.filterMap fun c => c.medium.map fun m => (c.tag, c.fn, m))

/-- Post a fault record: on the PF's ring every part, on a VF's ring the parts that list its tags or that are of its
own function's fault (13 R390, 16 R474); PWR_CNT.FAULTS counts it, and its notice becomes work items (01 R25). -/
def State.postRecord (s : State) (code kind index cause detail flags : Nat) (tags : List (Nat × Nat × Nat)) : State :=
  let mk := faultParts kind index cause s.stamp s.frNs detail flags
  let s1 := (mk tags).foldl (fun s p => s.postOn 0 code p) s
  let s2 := ((List.range 15).map (· + 1)).foldl (fun s f =>
    let own := tags.filter (fun t => t.2.1 == f)
    if !own.isEmpty || (kind = 6 && index = f) then (mk own).foldl (fun s p => s.postOn f code p) s else s) s1
  (s2.incSat ⟨0x400040, 31, 24⟩).faultNotice (mk tags)

/-- The entry of a completion that is not posted after all (01 R29): the later entries of its CQ move down by one, and the
last place is new to the host no longer. -/
def State.withdraw (s : State) (c : Cmd) : State :=
  match c.cqe with
  | none => s
  | some i =>
    let k := ringKey c.fn 0 c.cq
    let d := s.ringDepth c.fn 0 c.cq
    let r := s.ring k
    let n := (r.tail + d - i % d - 1) % d
    let at_ := fun (s : State) (j : Nat) => Tab.getD s.host.cqes (k * 4096 + j) default
    let last := (i + n) % d
    let s1 := (List.range n).foldl (fun s j =>
      let a := (i + j) % d
      s.putCqe c.fn c.cq a { at_ s ((a + 1) % d) with phase := (at_ s a).phase }) s
    let s2 := s1.putCqe c.fn c.cq last { at_ s1 last with phase := !(at_ s last).phase }
    let s3 := s2.setRing k { r with
      tail := last, phase := if r.tail = 0 then !r.phase else r.phase, used := r.used - 1, fresh := r.fresh - 1 }
    (s3.put64 (hqBase c.fn + 0x1008) (s3.get64 (hqBase c.fn + 0x1008) - 1)).mapCmds (·.map fun e =>
      if e.fn ≠ c.fn || e.cq ≠ c.cq then e
      else match e.cqe with
      | none => e
      | some j =>
        if j = i then { e with stage := .admitted, cqe := none, doneAt := none }
        else if (j + d - i % d) % d ≤ n then { e with cqe := some ((j + d - 1) % d) } else e)

/-- A completion that a unit posted in this very cycle belongs to its fault and does not stand (01 R29; log 157). -/
def State.withdrawUnit (s : State) (u : FUnit) : State :=
  (s.host.cmds.filter fun c => c.doneAt == some s.elapsed && match u with
    | .func f => c.fn == f
    | u => c.unit == some u.idx).foldl (fun s c =>
      match s.host.cmds.find? (fun e => e.fn == c.fn && e.tag == c.tag && e.dup == c.dup && e.doneAt == c.doneAt) with
      | some e => s.withdraw e
      | none => s) s

/-- The commands a unit holds (01 R29): those it took, or for a function every one it issued. -/
def State.unitCmds (s : State) (u : FUnit) : List Cmd :=
  s.host.cmds.filter fun c => c.stage != .completed && match u with
    | .func f => c.fn == f
    | u => c.stage == .admitted && c.unit == some u.idx

/-- Discard a unit's commands: ABORTED for each that had not reached a medium and whose issuer survives; the others
leave without a completion and the record decides them (01 R31, R32; log 13). -/
def State.discardCmds (s : State) (u : FUnit) : State :=
  let cs := s.unitCmds u
  let gone := fun (c : Cmd) => cs.any (fun d => d.fn == c.fn && d.tag == c.tag) && c.stage != .completed
  match u with
  | .func _ => s.mapCmds (·.filter (fun c => !gone c))
  | _ =>
    let s1 := s.mapCmds (·.filter (fun c => !(gone c && c.medium.isSome)))
    (cs.filter (·.medium.isNone)).foldl (fun s c => s.complete c.fn c.tag 0x01) s1

/-- A fault that takes part in a commit (05 R141): before the deadline its unit is not armed, with cause FAULTED; from
the deadline's cycle on a unit that was ARMED is excluded and stops no commit. -/
def State.commitFault (s : State) (i : Nat) : State :=
  if 27 ≤ i then s
  else if !s.commit.part.getLsbD i then s
  else
    let out : State := { s with commit := { s.commit with
      part := s.commit.part &&& ~~~(BitVec.ofNat 27 (2 ^ i)), armed := s.commit.armed &&& ~~~(BitVec.ofNat 27 (2 ^ i))
      excluded := s.commit.excluded ||| BitVec.ofNat 27 (2 ^ i) } }
    match s.commit.state with
    | .arming =>
      if s.ntValid && decide (s.commit.target ≤ s.ntNs + 2000000) && s.commit.armed.getLsbD i then out
      else { s with commit := { s.commit with
        armed := s.commit.armed &&& ~~~(BitVec.ofNat 27 (2 ^ i)), causes := Tab.put s.commit.causes i 5 } }
    | .committed => { out with commit := { out.commit with armed := s.commit.armed } }
    | _ => s

/-- The hold register bit of a unit (16 R479). -/
def holdBit (u : FUnit) : FieldRef :=
  match u with
  | .func f => ⟨0x400038, f, f⟩
  | u => ⟨0x400034, u.idx, u.idx⟩

/-- The containment strobe of a unit (01 R29 to R34, 16 R473): its work is discarded, the record posted and logged,
completions ABORTED; a third fault within 1 s of FR holds it; a unit already held only gets a record with HELD. -/
def State.strobe (s : State) (u : FUnit) (cause detail : Nat) : State :=
  let i := u.idx
  let x := s.unit i
  let code := match u with | .func _ => 0xB001 | _ => 0xE010
  if !u.exists_ then s
  else if x.held.isSome then
    let s1 := s.postRecord code u.kind u.index cause detail 1 []
    (faultParts u.kind u.index cause s.stamp s.frNs detail 1 []).foldl (fun s p => s.logWrite 1 p) s1
  else
    let s := s.withdrawUnit u
    let recent := (x.faults ++ [s.frNs]).filter (fun t => decide (s.frNs < t + 1000000000))
    let holds := decide (3 ≤ recent.length)
    let flags := b2n holds
    let tags := reachedTags (s.unitCmds u)
    let s1 := s.setUnit i { x with phase := .recovering, faults := if holds then [] else recent,
                                   held := if holds then some (if s.ntValid then some s.ntNs else none, s.frNs) else none }
    let s2 := (s1.commitFault i).postRecord code u.kind u.index cause detail flags tags
    let s3 := (faultParts u.kind u.index cause s.stamp s.frNs detail flags tags).foldl (fun s p => s.logWrite 1 p) s2
    let s4 := (s3.discardCmds u).clearUnit u cause detail
    if holds then (s4.put (holdBit u) 1).postEvent 0xE004 (items [u.kind, u.index]) else s4

/-- The slot of an Almanac erase or write that a reset cuts off between two of its accesses is left invalid (03 R95). -/
def State.spoilAlm (s : State) (ops : List FlashOp) : State :=
  match ops.find? (fun o => !o.ofLog) with
  | some (.program a _) => s.spoil (a / 65536)
  | some (.erase k) => s.spoil k
  | _ => s

/-- What a device reset keeps: fuses and flash, the pins, the straps, host memory with the entries already written
there, and the model's own counters (03 R89, R95; log 3, log 14). A flash access in progress leaves its sector spoiled
(R95). -/
def State.deviceReset (s : State) (wait : ResetWait) (straps : Bool) : State :=
  let cut := if s.flash.running then
      match s.flash.ops with
      | .program a _ :: _ => s.spoil (a / 65536)
      | .erase k :: _ => s.spoil k
      | .logErase k :: l => (s.flashScramble (s.logBase / 65536 + k)).spoilAlm l
      | .logEntry .. :: l => (s.freePage (s.logBase + 256 * s.log.ptr)).spoilAlm l
      | _ => s
    else s
  let r := State.reset
  let k := s.retained
  { k with
    pending := s.pending
    elapsed := s.elapsed
    fresh := cut.fresh
    fuses := s.fuses
    flash := { r.flash with bytes := cut.flash.bytes, written := cut.flash.written, spoiled := cut.flash.spoiled }
    host := { k.host with cqes := s.host.cqes, evs := s.host.evs, rxds := s.host.rxds, mem := s.host.mem }
    boot := { r.boot with
      resetN := s.boot.resetN, pwrOk := s.boot.pwrOk, wait := wait,
      refsel := if straps then s.boot.refsel else 0, clkq := if straps then s.boot.clkq else 0,
      bootmode := if straps then s.boot.bootmode else 0 } }

/-- Leave the reset state with the straps held: qualification starts and domain 0 is requested (03 R73, 16 R464). -/
def State.startQualify (s : State) : State :=
  if s.boot.refsel = 3 || s.boot.bootmode = 3 then { s with boot := { s.boot with state := .reset, wait := .strap } }
  else ({ s with boot := { s.boot with state := .qualify } }).requestItems [0]

/-- The parts of a device fault's record go to the log (01 R28, log 12), with the pages they take. -/
def State.writeRecord (s : State) (parts : List (List Byte)) : State × List Nat :=
  parts.foldl (fun (s, l) p => (s.logWriteNow 1 p, if s.logWritable then l ++ [s.logBase + 256 * s.log.ptr] else l)) (s, [])

/-- A RESET_N that passes during the attempt ends it (17 R488): what its pages hold then is unknown, each within the 5 ms of
a page program (03 R77). -/
def State.cutAttempt (s : State) : State :=
  match s.boot.attempt with
  | some (t, pages) => if s.elapsed < t then pages.foldl (fun s a => s.freePage a) s else s
  | none => s

/-- A device fault (01 R28): the record, the reset, and the cold boot once nothing is waited for. -/
def State.deviceFaultWith (s : State) (cause detail : Nat) : State :=
  let tags := reachedTags (s.host.cmds.filter (fun c => c.stage == .admitted))
  let s1 := s.postRecord 0xE010 8 0 cause detail 2 tags
  let (s2, pages) := s1.writeRecord (faultParts 8 0 cause s.stamp s.frNs detail 2 tags)
  let s3 := s2.deviceReset (if cause = 0x10 then .cooldown else if cause = 0x11 then .pwrOk else .resetN) true
  let s4 : State := { s3 with boot := { s3.boot with attempt := if pages.isEmpty then none else some (s.elapsed + ms 5 * pages.length, pages) } }
  if cause = 0x10 ∨ cause = 0x11 then s4 else s4.startQualify

/-- A key write or an expiry that resets the device without a fault (03 R73). -/
def State.softReset (s : State) : State := (s.deviceReset .resetN true).startQualify

end Sys2Proof.Machine
end

