-- ==== Sys2Proof/Machine/FrontEnds.lean ====
section
/-! DEFINITION. The rows of the front-ends (06). -/

namespace Sys2Proof.Machine

/-- Two readings at or above TRIP_VSWR (R159): the chain's PA off, TX_BLOCKED set; the PPDU goes on without it. A tile's message
may arrive when the PPDU has ended (R162). -/
def trip (i vswr : Nat) (s : State) : State :=
  let (r, c) := chainOf i
  let x := s.chain i
  if (if c < integrated r then x.state != .tx else x.state == .off) || x.blocked || vswr < s.get ⟨feBase r + 4, 15, 8⟩ then s
  else
    let s1 := s.modChain i fun x => { x with blocked := true, paOff := x.state == .tx, clearing := false }
    ((s1.inc ⟨feBase r + 0x28, 23, 16⟩).postEvent 0x4001 (items [i, vswr, s.stamp.toNat])).checkRef r

def execMismatchTrip (chain vswr : Nat) (s : State) : Host.Outcome State Fault Refusal := .next (trip chain vswr s)

/-- A write of ones to FE_x_BLOCKED (R159): the clear takes effect at the next Meridian. -/
def blockClear (q : Requester) (r : Nat) (hi : Bool) (v : Word) (s : State) : State :=
  s.access q (feBase r + (if hi then 0x20 else 0x1C)) fun s =>
    (List.range 32).foldl (fun s b =>
      let i := chainBase r + b + (if hi then 32 else 0)
      if v.getLsbD b && (s.chain i).blocked && (chainOf i).1 == r then
        let s1 := s.modChain i fun x => { x with clearing := true }
        (s1.linksOf r [(chainOf i).2]).foldl (fun s (k, l) => s.tileSend k 0x06 (leBytes 1 (l.headD 0))) s1
      else s) s

def execFeBlockClearWrite (r : Requester) (radio : Nat) (hi : Bool) (v : Word) (s : State) :
    Host.Outcome State Fault Refusal := .next (blockClear r radio hi v s)

/-- A synthesiser locks (R163, R164): the active one on its channel, the idle one as the shadow or pre-tuned. -/
def synLocks (r g k : Nat) (s : State) : State :=
  s.modSyn r g fun x =>
    if k = x.active then { x with locked := true, lockFrom := if x.locked then x.lockFrom else s.elapsed }
    else { x with idle := match x.idle with
      | .pretuning => .pretuned | .pretuned => .pretuned | _ => .shadow }

def execSynthLockAcquired (radio group syn : Nat) (s : State) : Host.Outcome State Fault Refusal :=
  .next (synLocks radio group syn s)

/-- The active synthesiser of a group's die loses lock (R164, R166): a PPDU it feeds is truncated on every chain, a calibration step is
discarded; a locked shadow takes over, else it relocks cold. Event 0x4002: recovery 0 shadow, 1 cold. -/
def synLost (r g : Nat) (s : State) : State :=
  let x := s.syn r g
  if !x.locked then s
  else
    let s1 := match s.onAir r with
      | some l => if l.chains.any (fun c => (s.groupOf r c).map dieOf == some (dieOf g)) then s.endLaunch r l 0x29 else s
      | none => s
    let s2 := match (s1.radio r).cal with
      | some k => if k.kind = 5 || (s.groupOf r k.chain).map dieOf == some (dieOf g) then s1.dropCal r else s1
      | none => s1
    let shadow := x.idle == .shadow
    let s3 := s2.modSyn r g fun x =>
      if shadow then { x with active := 1 - x.active, locked := true, lockFrom := s.elapsed + 480,
                              idle := if s.commitPending && s.channelStaged r then .pretuning else .relocking }
      else { x with locked := false }
    s3.postEvent 0x4002 (items [r, g, x.active, b2n (!shadow)])

def execSynthLockLost (radio group : Nat) (s : State) : Host.Outcome State Fault Refusal := .next (synLost radio group s)

/-- A tile without a lock indication for 100 µs counts as unlocked (R162). -/
def tileSilent (k : Nat) (s : State) : State :=
  match s.bind k with
  | some (r, _, _) =>
    if (s.syn r (2 + k)).heard + us 100 ≤ s.elapsed then s.modSyn r (2 + k) fun x => { x with locked := false } else s
  | none => s

def execTileLockTimeout (link : Nat) (s : State) : Host.Outcome State Fault Refusal := .next (tileSilent link s)

/-- The form is one of R182 and R183, within the mode; `p` is the place of the radio's primary 20 MHz in its channel. -/
def formOk (r mode p : Nat) (f : PpduForm) (air : Nat) : Bool :=
  let reach := mode == 2
  let options := !f.p8080 && !f.stbc && !f.midamble && !f.reuse && decide (f.sounding ≤ 1)
    && (f.format == 0 || [800, 1600, 3200].contains f.gi) && (decide (f.format < 4) || f.ltf == 2 || f.ltf == 4)
    && (f.punct == 0 || ([1, 6, 7].contains f.format && punctOk f.width (p % 2 ^ f.width) f.punct))
  let mu := f.format == 6 || f.format == 7
  let okUser := fun (u : Nat × Bool × Nat × Nat) =>
    let (mcs, dcm, ss, ru) := u
    let ehtOnly := f.format == 7
    (if ehtOnly then decide (mcs ≤ 13) || (reach && decide (mcs ≤ 15)) else decide (mcs ≤ 11) || decide (f.format < 4))
      && (!dcm || (reach && [4, 5, 6].contains f.format && [0, 1, 3, 4].contains mcs && decide (ss ≤ 2)))
      && decide (1 ≤ ss) && decide (ss ≤ (if f.format == 2 || (mu && decide (1 < f.users.length)) then 4 else 8))
      && ([52, 106, 242, 484, 996, 1992, 3984, 726, 1480, 1722, 2476, 2988, 3472].contains ru || (ru == 26 && mode == 3)
          || decide (f.format < 4))
      && (!f.bcc || decide (f.format < 4) || (decide (ru ≤ 242) && decide (ss ≤ 4)))
  let fmt :=
    if f.format = 0 then r == 0 && f.beaconOrResponse
    else if f.format = 1 then true
    else if f.format = 2 then decide (r < 2) && decide (f.width ≤ 1)
    else if f.format = 3 then r == 1 && decide (f.width ≤ 3)
    else if f.format = 4 then true
    else if f.format = 5 then reach
    else mu
  fmt && options && (mu || decide (f.users.length ≤ 1)) && decide (f.width ≤ modeWidth r mode) && decide (air ≤ 5484000)
    && f.users.all okUser && decide (f.users.length ≤ Nat.max 1 (muOrder r mode))
    && f.rus.all (fun us => decide (us.length ≤ 1) ||
        (decide (us.length ≤ 8) && decide ((us.map (fun i => (f.users.getD i (0, false, 0, 0)).2.2.1)).sum ≤ 8)
          && us.all (fun i => decide (242 ≤ (f.users.getD i (0, false, 0, 0)).2.2.2))))

/-- The place of a radio's primary 20 MHz in its channel. -/
def State.primaryAt (s : State) (r : Nat) : Nat :=
  let c := fun (hi lo : Nat) => s.get ⟨bbBase r + 4, hi, lo⟩
  (primaryIndex (c 18 16) (c 7 0) (c 15 8)).getD 0

/-- The form a group-addressed frame is sent in (08 R223): non-HT or HE SU at the beacon rate of its BSS. -/
def State.groupForm (s : State) (r id : Nat) (f : PpduForm) : Bool :=
  (Tab.get? s.mac.frames id).any fun g => (f.format == 1 || f.format == 4) && f.rate == s.get ⟨bssCfg r g.bss, 10, 9⟩

/-- It is the turn of a BSS's beacon: those of the radio go in the order of their BSSs, each once a superframe (08 R213). -/
def State.beaconTurn (s : State) (r bss : Nat) : Bool :=
  let done := Tab.getD s.mac.beacons r 0
  s.bssOn r bss && decide (done ≤ bss) && !(List.range bss).any (fun b => decide (done ≤ b) && s.bssOn r b)

/-- A beacon in the rate of its BSS, at its time, that ends within the BEACON region (08 R213, R236). -/
def State.beaconOk (s : State) (r bss t air : Nat) (f : PpduForm) : Bool :=
  let rate := s.get ⟨bssCfg r bss, 10, 9⟩
  s.grid.start.isSome && decide (s.grid.mode < 5) && s.beaconTurn r bss && t == s.beaconAt r
    && decide (t + air ≤ s.grid.start.getD 0 + (s.beaconSlots r false).2 * slotNs s.grid.mode)
    && f.beaconOrResponse && f.rate == rate && f.format == (if rate = 0 then 0 else 1)

/-- What a trigger with random-access RUs asks for can be met: RUs within the MU order of the mode, and a response whose window the
OPEN instance holds as well (08 R219, 07 R194). -/
def State.randomOk (s : State) (r t air : Nat) (f : TriggerAsk) : Bool :=
  decide (1 ≤ f.len) && decide (f.len ≤ 5484000) && decide (1 ≤ f.rus.length) && decide (f.rus.length ≤ muOrder r s.limitMode)
    && s.openHolds r t (air + 16000 + f.len + 16000)

/-- A BSS's beacon is sent from t to `stop` (R213); the image's first takes the fuse actions (03 R91). -/
def State.beaconSent (s : State) (r bss t stop : Nat) : State :=
  ({ s with mac := { s.mac with
    beacons := Tab.put s.mac.beacons r (bss + 1)
    beaconAir := Tab.put s.mac.beaconAir r (Tab.getD s.mac.beaconAir r [] ++ [(t, stop)]) } }).firstBeaconSent (BitVec.ofNat 64 t)

/-- What a launch needs to be asked for: a planned PPDU that was cut and not used (08 R218), the frames that its cut-off took, a
group-addressed frame after the beacons (08 R223), an OPEN instance that holds what is sent in it (08 R219, R220). -/
def State.launchOk (s : State) (r : Nat) (of_ : LaunchOf) (t air : Nat) (f : PpduForm) : Bool :=
  let taken := !(s.takenBy r of_).isEmpty
  match of_ with
  | .plan id => (Tab.get? s.mac.plan id).any fun p => p.radio == r && p.cut && !p.used && !p.staged
  | .single _ _ => taken && decide (f.users.length = 1) && f.format != 6 && s.openHolds r t (air + 16000)
  | .beacon n => s.beaconOk r n t air f
  | .group id => taken && s.groupForm r id f && s.beaconsDone r && decide (s.beaconAt r ≤ t)
  | .contended _ => taken && s.openHolds r t (air + 16000)
  | .randomTrigger _ => s.randomOk r t air f.asks

/-- A group-addressed frame would end after the BEACON region (08 R223). -/
def State.groupLate (s : State) (r : Nat) (of_ : LaunchOf) (t air : Nat) : Bool :=
  match of_ with
  | .group _ => decide (s.grid.start.getD 0 + (s.beaconSlots r false).2 * slotNs s.grid.mode < t + air)
  | _ => false

/-- The air time the model holds: of a planned PPDU, which the freeze fixed, or of a command; else as the sender gives it. -/
def State.launchAir (s : State) (of_ : LaunchOf) (air : Nat) : Nat :=
  match of_ with
  | .plan id => (Tab.get? s.mac.plan id).elim air (·.dlDur)
  | .single fn tag => (s.mac.frames.find? (fun e => e.2.cmd == some (fn, tag))).elim air (·.2.air)
  | _ => air

/-- The launch time the model holds: of a planned PPDU, or of a command; else as the sender gives it. -/
def State.launchTime (s : State) (of_ : LaunchOf) (t : Nat) : Nat :=
  match of_ with
  | .plan id => (Tab.get? s.mac.plan id).elim t (·.launch)
  | .single fn tag => match s.mac.frames.find? (fun e => e.2.cmd == some (fn, tag)) with
    | some e => e.2.launch
    | none => t
  | _ => t

/-- A launch request reaches the baseband and the front-end (07 R184, R201, 05 R131, 04 R118, 06 R159, R165), checked in
this order: an Eclipse of the radio (13 R395), BB_FEATURE, BB_SPANS_SWAP, BUSY_MERIDIAN, LATE of a realignment, FE_TX_BLOCKED, LATE of the 4 µs lead.
A group-addressed frame that would end after the BEACON region waits in its queue (08 R223). -/
def launchAsk (r : Nat) (of_ : LaunchOf) (t0 air0 : Nat) (f : PpduForm) (s : State) : State :=
  let t := s.launchTime of_ t0
  let air := s.launchAir of_ air0
  if !(s.inService (.radio r)) || !s.ntValid || s.airClosed || (s.radio r).launches.any (fun l => l.of_ == of_)
      || !(s.launchOk r of_ t air f) then s
  else if s.groupLate r of_ t air then (s.takenBy r of_).foldl (fun s id => s.returnFrame id) s
  else
    let set := match of_ with
      | .plan id => ((Tab.get? s.mac.plan id).bind (·.chains)).getD (s.launchSet r)
      | _ => s.launchSet r
    let chains := s.launchable r set
    let st : Option Nat :=
      if s.radioEclipsing r then some 0x01
      else if !formOk r s.limitMode (s.primaryAt r) f air then some 0x35
      else if (match s.swapAt r with | some x => decide (x < t + air) | none => false) then some 0x32
      else if s.launchInBoundary t then some 0x0F
      else if s.inRealign t then some 0x04
      else if chains.isEmpty then some 0x28
      else if t < s.ntNs + 4000 then some 0x04
      else none
    s.modRadio r fun x => { x with launches := x.launches ++ [{ of_ := of_, t := t, air := air, chains := chains, outcome := st, asks := f.asks }] }

def execLaunchRequest (radio : Nat) (of_ : LaunchOf) (t air : Nat) (form : PpduForm) (s : State) :
    Host.Outcome State Fault Refusal := .next (launchAsk radio of_ t air form s)

/-- The commands whose frames a launch carries have reached the air (01 R30), or a beacon has. -/
def State.airReached (s : State) (r : Nat) (l : Launch) : State :=
  match l.of_ with
  | .single fn tag => s.reached fn tag 0
  | .beacon bss => s.beaconSent r bss l.t (l.t + l.air)
  | of_ => s.mac.frames.foldl (fun s e =>
      if e.2.taken = some (r, of_) then match e.2.cmd with
        | some (fn, tag) => s.reached fn tag 0
        | none => s
      else s) s

/-- Every chain stands in STANDBY or RX, from where alone a ramp starts (R167). -/
def State.canRamp (s : State) (r : Nat) (l : List Nat) : Bool :=
  l.all fun c => let x := (s.chain (chainBase r + c)).state; x == .standby || x == .rx

/-- The PA ramp, at t − 0.5 µs (R165): the launch goes ahead on every chain, or not at all; chains of a faulted Tile Link are
absent (01 R33), one in a realignment interval is LATE (04 R118), and a chain that is off counts as unlocked (log 148). -/
def rampStart (r : Nat) (of_ : LaunchOf) (s : State) : State :=
  match (s.radio r).launches.find? (fun l => l.of_ == of_ && l.outcome.isNone && !l.onAir) with
  | none => s
  | some l =>
    let chains := s.launchable r l.chains
    let set := fun (s : State) (g : Launch → Launch) => s.modRadio r fun x =>
      { x with launches := x.launches.map fun m => if m.of_ = of_ then g m else m }
    if s.ntNs + 500 < l.t || (s.radio r).cal.isSome || s.airClosed then s
    else if s.inRealign l.t then set s fun m => { m with outcome := some 0x04 }
    else if chains.isEmpty then set s fun m => { m with outcome := some 0x28 }
    else if !s.chainsLocked r chains || !s.canRamp r chains || !s.masksReady r of_ l.t chains then
      ((set s fun m => { m with outcome := some 0x04 }).inc ⟨feBase r + 0x28, 15, 0⟩).postEvent 0x4003
        (items [r, l.t % 2 ^ 64])
    else
      let s1 := set (s.cutReception r) fun m => { m with onAir := true, chains := chains }
      (chains.foldl (fun s c => s.modChain (chainBase r + c) fun x => { x with state := .tx }) s1).airReached r l

def execPaRampStart (radio : Nat) (of_ : LaunchOf) (s : State) : Host.Outcome State Fault Refusal :=
  .next (rampStart radio of_ s)

/-- The PPDU on the air ends with its air time (R167). -/
def txEnd (r : Nat) (s : State) : State :=
  match s.onAir r with
  | some l => if s.ntNs < l.t + l.air then s else s.endLaunch r l 0x00
  | none => s

def execPpduTxEnd (radio : Nat) (s : State) : Host.Outcome State Fault Refusal := .next (txEnd radio s)

/-- A receive window opens: chains in STANDBY that serve enter RX (R167). -/
def rxStart (r : Nat) (s : State) : State :=
  if !(s.inService (.radio r)) then s
  else
    (s.chainSet r).foldl (fun s c => s.modChain (chainBase r + c) fun x =>
      if x.state == .standby && x.serving then { x with state := .rx } else x) (s.modRadio r fun x => { x with rxOpen := true })

def execRxWindowStart (radio : Nat) (s : State) : Host.Outcome State Fault Refusal := .next (rxStart radio s)

/-- A receive window ends (R167). -/
def rxEnd (r : Nat) (s : State) : State :=
  (s.chainSet r).foldl (fun s c => s.modChain (chainBase r + c) fun x =>
    if x.state == .rx then { x with state := .standby } else x) (s.modRadio r fun x => { x with rxOpen := false })

def execRxWindowEnd (radio : Nat) (s : State) : Host.Outcome State Fault Refusal := .next (rxEnd radio s)

/-- The watchdog of a transmitter on for longer than TX_TIMEOUT (R171): event 0x4004 and a fault of the radio. -/
def watchdog (i : Nat) (s : State) : State :=
  let (r, _) := chainOf i
  match s.onAir r with
  | some l =>
    if (s.chain i).state != .tx || (s.chain i).paOff || s.ntNs ≤ l.t + s.get ⟨feBase r + 4, 7, 0⟩ * 100000 then s
    else (s.postEvent 0x4004 (items [r, i])).strobe (.radio r) 0x05 i
  | none => s

def execTxTimeoutWatchdog (chain : Nat) (s : State) : Host.Outcome State Fault Refusal := .next (watchdog chain s)

/-- What a radio has scheduled, as spans of NT (R168): launches asked for or planned, frames with a launch time, the beacon
that is due, the windows of planned responses and foreign windows. Of a frame or beacon not asked for yet the length is not
known, and of a span that has begun only its end matters. -/
def State.busySpans (s : State) (r : Nat) : List (Nat × Nat) :=
  let plan := (s.mac.plan.filter fun e => e.2.radio == r).map (·.2)
  (((s.radio r).launches.filter (fun l => l.outcome.isNone)).map fun l => (l.t, l.t + l.air))
    ++ ((plan.filter (!·.used)).map fun p => (p.launch, p.launch + p.dlDur))
    ++ ((plan.filter (·.te != 0)).map fun p => (p.te - 2000, p.te + p.tbDur))
    ++ (s.cst.members.flatMap fun e => (e.2.now.filter (fun x => x.up && x.radio == r)).map fun x =>
      (s.grid.start.getD 0 + x.start - 2000, s.grid.start.getD 0 + x.start + x.dur))
    ++ ((s.mac.frames.filter fun e => e.2.launch != 0 && e.2.taken.isNone && bitOf e.2.radios r).map fun e => (e.2.launch, e.2.launch))
    ++ (if s.beaconsDone r || !s.inService (.radio r) || s.airClosed then [] else [(s.beaconAt r, s.beaconAt r)])

/-- The next instant at which a radio has something scheduled; now, inside a span. -/
def State.nextBusy (s : State) (r : Nat) : Option Nat :=
  ((s.busySpans r).filter fun x => decide (s.ntNs ≤ x.1) || decide (s.ntNs < x.2)).foldl
    (fun m x => let t := Nat.max x.1 s.ntNs; some (m.elim t (Nat.min t))) none

/-- Time in gaps of at least 12 µs between sorted spans, from an instant to an end (R168). -/
def gapSum (end_ : Nat) : Nat → List (Nat × Nat) → Nat
  | at_, [] => if at_ + 12000 ≤ end_ then end_ - at_ else 0
  | at_, x :: l => (if at_ + 12000 ≤ x.1 then x.1 - at_ else 0) + gapSum end_ (Nat.max at_ x.2) l

/-- Time in gaps in the present superframe of a radio. -/
def State.gapTime (s : State) (r : Nat) : Nat :=
  let b := s.grid.start.getD 0
  gapSum (b + s.sfNs) b (sortBy (·.1) ((s.busySpans r).filter fun x => decide (b ≤ x.1) && decide (x.1 < b + s.sfNs)))

/-- The interval of a step's runs (R168), in ms: it grows in proportion where less than 2 % of the superframe lies in gaps. -/
def State.calInterval (s : State) (r kind : Nat) : Nat :=
  let base := [1000, 1000, 250, 1000, 1000, 100].getD kind 1000
  let g := Nat.max 1 (s.gapTime r)
  if g * 50 < s.sfNs then base * s.sfNs / (50 * g) else base

/-- The temperature of a chain's die, the higher of its two sensors, or of its tile (16 R470, 14 R433), in 0.25 °C. -/
def State.chainTemp (s : State) (r c : Nat) : Int :=
  if c < integrated r then max (s.power.temps.getD (16 + 2 * r) 0) (s.power.temps.getD (17 + 2 * r) 0)
  else match s.linkOf r c with
    | some k => 4 * signed 8 ((s.tile k).status / 256)
    | none => 0

/-- A step of a chain is due (R168): it has not run within its interval, or its die or tile has changed by 5 °C since. -/
def State.calDue (s : State) (r kind c : Nat) : Bool :=
  match Tab.get? (s.chain (chainBase r + c)).calRuns kind with
  | none => true
  | some (t, temp) => decide (t + ms (s.calInterval r kind) ≤ s.elapsed) || decide (20 ≤ (s.chainTemp r c - temp).natAbs)

/-- A calibration step starts in a gap of at least 12 µs that leaves 3 µs after its 1.6 µs (R168). -/
def calStart (r kind c : Nat) (s : State) : State :=
  let free := fun c => let x := s.chain (chainBase r + c)
    x.powered && (x.state == .standby || x.state == .rx)
  let l := if kind = 5 then (List.range (s.chainCount r)).filter (fun d => (s.chain (chainBase r + d)).powered) else [c]
  let gap := match s.nextBusy r with | some t => decide (s.ntNs + 4600 ≤ t) && decide ((s.radio r).gapFrom + 12000 ≤ t) | none => true
  if 5 < kind || s.chainCount r ≤ c || (s.radio r).cal.isSome || (s.onAir r).isSome || !gap || !free c || !(l.all free)
      || (s.radio r).rx.state != .search then s
  else
    let s1 := l.foldl (fun s d => s.modChain (chainBase r + d) fun x => { x with state := .cal, before := x.state }) s
    let s2 := (s1.linksOf r l).foldl (fun s (k, tc) => tc.foldl (fun s t =>
      s.tileSend k 0x05 (leBytes 1 kind ++ leBytes 1 t ++ leBytes 4 ((s.tile k).frameAt s.ntNs 0) ++ [0#8])) s) s1
    s2.modRadio r fun x => { x with cal := some ⟨kind, c, s.elapsed⟩ }

def execCalStepStart (radio kind chain : Nat) (s : State) : Host.Outcome State Fault Refusal :=
  .next (calStart radio kind chain s)

/-- After three probes at AUTO_VSWR the front-end proposes the predicted position (R158), at once or when the bank opens. -/
def State.ownRetune (s : State) (r c newPos newVswr : Nat) : State :=
  if decide (3 ≤ (s.chain (chainBase r + c)).high) && decide (newVswr ≤ 8) then
    if s.bankOpen r then s.propose r c newPos
    else s.modChain (chainBase r + c) fun x => { x with heldPos := some (newPos % 1024) }
  else s

/-- The coefficients that a probe from chain i gives with the chains that heard it (R169): c of the reference is 1; a pair with the
reference gives the other's, the sender's comes from any valid chain where no pair joins it to the reference. -/
def State.probed (s : State) (r i : Nat) (good : List Nat) : State :=
  let key := fun (a b : Nat) => a * 64 + b
  let now := fun (s : State) (d : Nat) (c : Coef) => s.modChain (chainBase r + d) fun x =>
    { x with coef := c, coefAt := some s.elapsed, pending := false, stale := false }
  let h := fun (a b : Nat) => Tab.get? (s.radio r).probes (key a b)
  match (s.radio r).ref with
  | none => s
  | some ref =>
    if i = ref then
      good.foldl (fun s j => match h i j, h j i with
        | some a, some b => if j = i then s else now (now s i .one) j (pairCoef b a .one)
        | _, _ => s) s
    else
      let via := if good.contains ref && (h ref i).isSome then some ref
        else good.find? fun j => j != i && (h j i).isSome && s.coefFresh (chainBase r + j)
      match via with
      | none => s
      | some j => match h i j, h j i with
        | some a, some b =>
          let s1 := if j = ref then now s ref .one else s
          now s1 i (pairCoef a b (if j = ref then .one else (s.chain (chainBase r + j)).coef))
        | _, _ => s

/-- A round of probes ends when every chain of the set has sent one; islands are found then (R170). -/
def State.roundEnds (s : State) (r : Nat) : State :=
  if (s.chainSet r).all (s.radio r).probed.contains then
    (s.checkIslands r).modRadio r fun x => { x with probed := [] }
  else s

/-- A calibration step ends and stores its result (R158, R167 to R170); the reference is chosen with the first probe of a set
that has none, as in boot step 13 (R169, R170). -/
def calDone (r : Nat) (res : CalResult) (s : State) : State :=
  match (s.radio r).cal with
  | none => s
  | some k =>
    let i := chainBase r + k.chain
    let s1 := (List.range (s.chainCount r)).foldl (fun s c => s.modChain (chainBase r + c) fun x =>
      if x.state == .cal then { x with state := x.before } else x) (s.modRadio r fun x => { x with cal := none })
    let s1 := s1.modChain i fun x => { x with calRuns := Tab.put x.calRuns k.kind (s.elapsed, s.chainTemp r k.chain) }
    if k.kind = 4 then
      let s2 := s1.modChain i fun x =>
        { x with vswr := res.vswr % 256, high := if s.get ⟨feBase r + 4, 23, 16⟩ ≤ res.vswr then x.high + 1 else 0 }
      s2.ownRetune r k.chain res.newPos res.newVswr
    else if k.kind = 5 then
      let s2 := s1.modRadio r fun x =>
        { x with paths := x.paths.filter (fun p => p.1 != k.chain) ++ (s.groupsOf r res.good).map (fun h => (k.chain, h))
                 probes := (res.good.zip res.h).foldl (fun t e => Tab.put t (k.chain * 64 + e.1) e.2)
                   (Tab.keep x.probes fun a _ => a / 64 != k.chain)
                 probed := if x.probed.contains k.chain then x.probed else x.probed ++ [k.chain] }
      ((s2.checkRef r).probed r k.chain res.good).roundEnds r
    else s1

def execCalStepDone (radio : Nat) (res : CalResult) (s : State) : Host.Outcome State Fault Refusal :=
  .next (calDone radio res s)

/-- A coefficient grows older than 2 s (R170). -/
def coefStale (i : Nat) (s : State) : State :=
  let x := s.chain i
  if !x.serving || x.coefAt.isNone || s.coefFresh i || x.pending || x.stale then s
  else (s.modChain i fun x => { x with stale := true }).postEvent 0x4006 (items [i])

def execCoeffStale (chain : Nat) (s : State) : Host.Outcome State Fault Refusal := .next (coefStale chain s)

end Sys2Proof.Machine
end

