-- ==== Sys2Proof/Machine/Baseband.lean ====
section
/-! DEFINITION. The rows of the basebands and the spatial engine (07). -/

namespace Sys2Proof.Machine

/-- Gains a chain can have: one per chain of the set, of 72 dB of range in 1 dB steps (R189). -/
def State.gainsOk (s : State) (r : Nat) (d : Detect) : Bool :=
  d.gains.length == (s.chainSet r).length && d.gains.all (fun g => decide (g ≤ 72))

/-- An L-STF is detected (R189): its autocorrelation exceeds 0.5 and the combined power is at least DET_THRESH, no earlier than the end
of gain settling, which takes at most 1.6 µs. -/
def State.detects (s : State) (r : Nat) (level : Int) (d : Detect) : Bool :=
  decide (signed 8 (s.get ⟨bbBase r + 0xC, 7, 0⟩) ≤ level) && decide (500 < d.corr) && decide (d.settle ≤ 1600) && decide (d.settle ≤ d.ago)
    && s.gainsOk r d

/-- An L-STF is detected at most 4.0 µs after its start (R189); one that started at most 4.8 µs before the return to SEARCH, from the
symbols that remain of its 8 µs (R191). -/
def State.inTime (s : State) (r : Nat) (d : Detect) : Bool :=
  let since := (s.elapsed - (s.radio r).rx.searchFrom) * 5 / 3
  decide (d.ago ≤ 4000) || (decide (since < d.ago) && decide (d.ago ≤ since + 4800) && decide (d.ago ≤ 8000))

/-- Freeze level and gains at a detection, restart or capture, with its stamp; a new value of BB_x_DET applies from here on (R189, R190,
R206). -/
def State.freezeRx (s : State) (r : Nat) (level : Int) (d : Detect) : State :=
  let f := fun (hi lo : Nat) => s.get ⟨bbBase r + 0xC, hi, lo⟩
  s.modRx r fun x =>
    { x with state := .preamble, est := none, level := level, gains := d.gains, stamp := s.stampAgo d.ago, from_ := s.elapsed
             restartDb := f 12 8, captureDb := f 20 16, captureEn := s.flag ⟨bbBase r + 0xC, 24, 24⟩ }

/-- A detection (R189), in SEARCH. -/
def detected (r : Nat) (level : Int) (d : Detect) (s : State) : State :=
  if (s.radio r).rx.state != .search || !(s.detects r level d) || !(s.inTime r d) || !(s.inService (.radio r)) || !(s.radio r).rxOpen then s
  else (s.countBB r 0 false).freezeRx r level d

def execDetection (radio : Nat) (level : Int) (d : Detect) (s : State) : Host.Outcome State Fault Refusal := .next (detected radio level d s)

/-- A detection that is abandoned as noise (R190). -/
def State.falseDet (s : State) (r : Nat) : State :=
  (s.countBB r 0 true).toSearch r

/-- No L-LTF peak within 10 µs of the detection (R190). -/
def lltfGone (r : Nat) (s : State) : State :=
  let x := (s.radio r).rx
  if x.state != .preamble || s.elapsed < x.from_ + us 10 then s else s.falseDet r

def execLltfTimeout (radio : Nat) (s : State) : Host.Outcome State Fault Refusal := .next (lltfGone radio s)

/-- The channel is estimated per tone for every receive chain and stream (R193): smoothed with 2x and 4x LTFs at up to 4 streams, unless
the PPDU forbids it. -/
def State.estimate (s : State) (r : Nat) (f : LtfForm) : RxEstimate :=
  { id := s.fresh, chains := s.receiving r, ss := f.ss, smooth := (f.ltf == 2 || f.ltf == 4) && decide (f.ss ≤ 4) && !f.noSmooth }

/-- The estimate of one tone (R193): what its LTF symbols gave, a free value, and with smoothing a value of it and its neighbours. -/
def RxEstimate.tone (e : RxEstimate) (chain stream tone : Nat) : BitVec 24 :=
  let raw := fun (k : Nat) => Config.freeOf 24 [0x0193, e.id, chain, stream, k]
  if e.smooth then Config.freeOf 24 ([0x1193] ++ [raw (tone - 1), raw tone, raw (tone + 1)].map (·.toNat)) else raw tone

/-- Common phase and residual CFO as the pilots of a symbol give them, for each user apart (R193): free values. -/
def RxEstimate.track (e : RxEstimate) (user symbol : Nat) : BitVec 32 := Config.freeOf 32 [0x2193, e.id, user, symbol]

/-- The MMSE weights of a tone over all receive chains of the radio (R193), in arithmetic the spec does not give (log 29). -/
def RxEstimate.mmse (e : RxEstimate) (tone : Nat) : BitVec 64 :=
  Config.freeOf 64 ([0x3193] ++ e.chains.flatMap fun c => (List.range e.ss).map fun k => (e.tone c k tone).toNat)

/-- A SIG field ends (R190): a failure returns to SEARCH, the last valid one moves on to DATA with the channel estimate. -/
def sigDone (r : Nat) (ok : Bool) (last : Option LtfForm) (s : State) : State :=
  if (s.radio r).rx.state != .preamble then s
  else if !ok then s.falseDet r
  else match last with
    | some f => { (s.modRx r fun x => { x with state := .data, est := some (s.estimate r f) }) with fresh := s.fresh + 1 }
    | none => s

def execSigFieldDone (radio : Nat) (ok : Bool) (last : Option LtfForm) (s : State) : Host.Outcome State Fault Refusal :=
  .next (sigDone radio ok last s)

/-- A new L-STF at least RESTART_DB above the frozen level (R190). -/
def restarted (r : Nat) (level : Int) (d : Detect) (s : State) : State :=
  let x := (s.radio r).rx
  if x.state != .preamble || decide (level < x.level + x.restartDb) || !(s.detects r level d) || 4000 < d.ago then s
  else (s.countBB r 1 false).freezeRx r level d

def execRxRestart (radio : Nat) (level : Int) (d : Detect) (s : State) : Host.Outcome State Fault Refusal := .next (restarted radio level d s)

/-- A stronger L-STF in DATA (R190): the PPDU is abandoned with BB_CAPTURED_OUT and the new one received. -/
def captured (r : Nat) (level : Int) (d : Detect) (s : State) : State :=
  let x := (s.radio r).rx
  if x.state != .data || !x.captureEn || decide (level < x.level + x.captureDb) || !(s.detects r level d) || 4000 < d.ago then s
  else
    let (m, s0) := s.drawMeasured r
    ((s0.countBB r 1 true).postMetrics r x.stamp 0x36 0 false m).freezeRx r level d

def execRxCapture (radio : Nat) (level : Int) (d : Detect) (s : State) : Host.Outcome State Fault Refusal := .next (captured radio level d s)

/-- Groups of tones at a width (R195): 128 on L and 256 on M and H at the radio's maximum, of the same size and so fewer below it. -/
def toneGroups (r w : Nat) : Nat := (if r = 0 then 128 else 256) / 2 ^ (maxWidth r - w)

/-- Bytes of an entry (R195): 3 per receive chain of the radio, group of tones and antenna seen, and the header. -/
def State.csiBytes (s : State) (r nAnt : Nat) : Nat := s.chainCount r * toneGroups r (s.chanWidth r) * 3 * nAnt + 128

/-- The segments a PPDU covers take its stamp for the chains that received it (R196); its values are free (log 29). -/
def State.updateCsi (s : State) (r id : Nat) (chains : List Nat) (stamp : NT64) (m : Measured) : State :=
  match m.sta with
  | none => s
  | some sid =>
    if decide (m.ltfSnr < 6) || decide (m.format < 2) || !(Tab.has s.mac.stas sid) then s
    else
      let e := Tab.getD s.mac.csi (csiKey sid r) {}
      { s with mac := { s.mac with csi := Tab.put s.mac.csi (csiKey sid r) (e.hear id stamp.toNat (bitMap 64 chains.contains) m) } }

/-- Explicit feedback is received (R196, R200): a feedback entry beside the uplink's, of which an entry that had none takes the antennas. -/
def State.storeFeedback (s : State) (r : Nat) (stamp : NT64) (m : Measured) : State :=
  match m.sta with
  | none => s
  | some sid =>
    if !(Tab.has s.mac.stas sid) then s
    else
      let e := Tab.getD s.mac.csi (csiKey sid r) {}
      let e1 : CsiEntry := { e with
        nAnt := if e.nAnt = 0 then Nat.max 1 (Nat.min 4 m.antennas) else e.nAnt
        fb := List.replicate 16 (some stamp.toNat), fbValue := List.replicate 16 s.fresh }
      { s with fresh := s.fresh + 1, mac := { s.mac with csi := Tab.put s.mac.csi (csiKey sid r) e1 } }

/-- The PPDU ends (R190, R196): its record, its channel state, and back to SEARCH; its MPDUs are the MAC's now. -/
def rxPpduEnds (r : Nat) (m : Measured) (s : State) : State :=
  let x := (s.radio r).rx
  if x.state != .data || !(s.measurable r false m) then s
  else
    let s1 := s.modRx r fun x => { x with records := [], ended := some (x.stamp, []) }
    let s2 := (s1.postMetrics r x.stamp 0 0 false m).updateCsi r (x.est.elim 0 (·.id)) (x.est.elim [] (·.chains)) x.stamp m
    (s2.inc64 (bbBase r + 0x30)).toSearch r

def execRxPpduEnd (radio : Nat) (m : Measured) (s : State) : Host.Outcome State Fault Refusal :=
  .next (rxPpduEnds radio m s)

/-- The gains that suit a received power, one per chain (R192): within the range of R189, else free. -/
def State.presetGains (s : State) (r : Nat) (power : Int) : List Nat :=
  (s.chainSet r).map fun c => (Config.freeOf 7 [0x0192, r, c, unsigned 8 power]).toNat % 73

/-- Open a TB window [te − 2 µs, te + len) on a radio in service (R192): a reception ends with BB_RX_CUT, and the gains are preset for
the power that is expected. -/
def State.openWindow (s : State) (r : Nat) (of_ : WindowOf) (te len : Nat) (power : Int) : State :=
  (s.cutReception r).modRx r fun x =>
    { x with state := .tb, window := some of_, te := te, windowEnd := te + len, level := power, gains := s.presetGains r power }

/-- Whether a foreign window stands back for an own launch, of a beacon sent or due, of a command that waits for its time or of the
BlockAck after a TB window among them, an own TB window or another foreign one (09 R259). -/
def State.foreignBlocked (s : State) (r m : Nat) (e : DigestEntry) : Bool :=
  let a := s.grid.start.getD 0 + e.start - 2000
  let b := s.grid.start.getD 0 + e.start + e.dur
  let meets := fun (x y : Nat) => decide (a < y) && decide (x < b)
  (s.radio r).rx.state == .tb
    || (s.radio r).launches.any (fun l => (l.outcome.isNone || l.outcome == some 0 || l.onAir) && meets l.t (l.t + l.air))
    || (Tab.getD s.mac.beaconAir r []).any (fun x => meets x.1 x.2)
    || (!(s.beaconsDone r) && meets (s.beaconAt r) (s.beaconAt r + 1))
    || s.mac.frames.any (fun f => f.2.launch != 0 && f.2.taken.isNone && bitOf f.2.radios r && meets f.2.launch (f.2.launch + f.2.air))
    || s.mac.plan.any (fun p => p.2.radio == r && (!p.2.used || p.2.sent) && (meets p.2.launch (p.2.launch + p.2.dlDur)
        || (p.2.te != 0 && meets (p.2.te - 2000) (p.2.te + p.2.tbDur))
        || (p.2.baDur != 0 && meets (p.2.te + p.2.tbDur + 16000) (p.2.te + p.2.tbDur + 16000 + p.2.baDur))))
    || s.cst.members.any (fun x => x.2.now.any fun f => f.up && f.radio == r && s.entryOverlaps f
        && (decide (x.1 < m) && f.start == e.start
          || decide (f.start < e.start) && meets (s.grid.start.getD 0 + f.start - 2000) (s.grid.start.getD 0 + f.start + f.dur)))

/-- The users a plan's trigger solicits. -/
def Ppdu.solicited (p : Ppdu) : List PlanUser := p.users.filter fun u => !u.down && u.status == 0

/-- A TB or foreign window opens at t_e − 2 µs (R192, 09 R259). It lies where what it serves puts it: for an own one, a trigger that was
sent (08 R225), with t_e and length as the plan froze them, and preset from the highest target received power; for a random-access
trigger in its OPEN instance, t_e SIFS after the trigger's end (08 R219), with the length and the power that it asked for. -/
def tbOpen (r : Nat) (of_ : WindowOf) (te len : Nat) (s : State) : State :=
  if !(s.inService (.radio r)) || s.ntNs + 2000 < te || te + len ≤ s.ntNs then s
  else match of_ with
  | .foreign m start =>
    match s.foreignWindow r m start with
    | none => s
    | some e =>
      if te ≠ s.grid.start.getD 0 + e.start || len ≠ e.dur then s
      else if s.foreignBlocked r m e then s.inc ⟨0x301024, 31, 16⟩
      else s.openWindow r of_ te len (s.foreignPower r m e)
  | .own id =>
    match Tab.get? s.mac.plan id with
    | none => s
    | some p =>
      if p.radio ≠ r || !p.sent || p.te = 0 || te ≠ p.te || len ≠ p.tbDur || (s.radio r).rx.state == .tb then s
      else s.openWindow r of_ te len ((p.solicited.map (·.power)).foldl (fun (a b : Int) => if a < b then b else a) (-100))
  | .random n =>
    match (s.radio r).trigger with
    | none => s
    | some (k, t, f) =>
      if k ≠ n || te ≠ t + 16000 || len ≠ f.len || (s.radio r).rx.state == .tb then s
      else s.openWindow r of_ te len f.power

def execTbWindowOpen (radio : Nat) (of_ : WindowOf) (te len : Nat) (s : State) : Host.Outcome State Fault Refusal :=
  .next (tbOpen radio of_ te len s)

/-- What a window's users must be: of a plan, its solicited users in order, each in its RU and with its streams; of a random-access
trigger, at most one for each RU it gave; in TB formats, and no more than the mode's MU order (R192, R194). -/
def State.tbUsersOk (s : State) (r : Nat) (users : List Measured) : Bool :=
  match (s.radio r).rx.window with
  | some (.own id) => users.all (s.measurable r true) && (match Tab.get? s.mac.plan id with
    | some p => users.map (fun m => (m.sta, m.ru, m.nss)) == p.solicited.map (fun u => (some u.sid, u.ru, u.ss))
    | none => users.isEmpty)
  | some (.random _) => users.all (s.measurable r true) && decide (users.length ≤ muOrder r s.limitMode)
      && (match (s.radio r).trigger with
        | some (_, _, f) => decide (users.length ≤ f.rus.length) && users.all (fun m => f.rus.any fun u => u == (m.ru, m.nss))
        | none => users.isEmpty)
  | _ => true

/-- The users of a TB PPDU that are not missing from it: at least 0 dB of LTF SNR in their RU (R194). -/
def heardUsers (users : List Measured) : List Measured := users.filter fun m => decide (0 ≤ m.ltfSnr)

/-- The L-STF start of a TB PPDU, of which R202 makes TIME: t_e and the least offset of a user that is not missing (log 164). -/
def tbStart (te : Nat) (users : List Measured) : Nat :=
  match (heardUsers users).map (·.timing) with
  | [] => te
  | x :: l => ((te : Int) + l.foldl (fun (a b : Int) => if b < a then b else a) x).toNat

/-- Joint detection of one RU (R194): MMSE over every receive chain; a pass of successive interference cancellation, strongest first, where
the SNR of those heard in it differs by 10 dB or more; the streams of the missing count too. -/
def State.detectRu (s : State) (r : Nat) (users : List Measured) (ru : Nat) : RuDetect :=
  let mine := (users.zipIdx).filter fun u => u.1.ru == ru
  let heard := sortBy (fun u => (1000 - u.1.ltfSnr).toNat) (mine.filter fun u => decide (0 ≤ u.1.ltfSnr))
  let gap := match heard.head?, heard.getLast? with
    | some a, some b => decide (10 ≤ a.1.ltfSnr - b.1.ltfSnr)
    | _, _ => false
  { ru := ru, streams := (mine.map (·.1.nss)).sum, chains := s.receiving r, id := s.fresh, cancel := if gap then heard.map (·.2) else [] }

/-- A solicited user's part of the window's end (R194, R196, R202): its record, and of one that was heard the channel state and, after a
sounding, its feedback. -/
def State.tbUser (s : State) (r : Nat) (stamp : NT64) (sound : Bool) (m : Measured) (i : Nat) : State :=
  if m.ltfSnr < 0 then (s.countBB r 3 false).postMetrics r stamp 0x37 i true m
  else
    let s1 := ((s.postMetrics r stamp 0 i true m).updateCsi r s.fresh (s.receiving r) stamp m).inc64 (bbBase r + 0x30)
    let s2 := { s1 with fresh := s1.fresh + 1 }
    if sound then s2.storeFeedback r stamp m else s2

/-- The window closes (R190, R194): one record per scheduled user, missing below 0 dB, of whom the MAC gets no MPDU; a foreign window
posts none, delivers none and only updates foreign entries (09 R258, R259). -/
def tbClose (r : Nat) (users : List Measured) (s : State) : State :=
  let x := (s.radio r).rx
  if x.state != .tb || s.ntNs < x.windowEnd || !(s.tbUsersOk r users) then s
  else
    let stamp : NT64 := if s.ntValid then BitVec.ofNat 64 (tbStart x.te users) else 0
    let s1 := match x.window with
      | some (.foreign m start) => s.foreignHeard r m start users
      | w =>
        let sound := match w with
          | some (.own id) => (Tab.get? s.mac.plan id).any (fun (p : Ppdu) => p.kind == 2)
          | _ => false
        let gone := ((users.zipIdx).filter (fun (u : Measured × Nat) => decide (u.1.ltfSnr < 0))).map (fun (u : Measured × Nat) => u.2)
        let joint := ((users.map (fun (m : Measured) => m.ru)).eraseDups).map (s.detectRu r users)
        (users.zipIdx).foldl (fun (s : State) (u : Measured × Nat) => s.tbUser r stamp sound u.1 u.2)
          { (s.modRx r fun x => { x with records := [], ended := some (stamp, gone), joint := joint }) with fresh := s.fresh + 1 }
    s1.toSearch r

def execTbWindowClose (radio : Nat) (users : List Measured) (s : State) : Host.Outcome State Fault Refusal :=
  .next (tbClose radio users s)

/-- Bytes of an own entry, and of a foreign one by its key (R195). -/
def State.ownBytes (s : State) (r sid : Nat) : Nat := s.csiBytes r (Tab.getD s.mac.csi (csiKey sid r) {}).nAnt
def State.foreignBytes (s : State) (r key : Nat) : Nat :=
  s.csiBytes r ((Tab.get? s.cst.foreign key).elim 0 (·.csi.nAnt))

/-- An earlier launch on any radio whose entries are still to be fetched (R197): launches of one instant go in radio order. -/
def State.fetchesFirst (s : State) (p : Ppdu) : Bool :=
  s.mac.plan.any fun e => !e.2.fetchDone && e.2.precoder.isNone && !e.2.used && !e.2.staged && decide (s.ntNs < e.2.launch)
    && (decide (e.2.launch < p.launch) || (e.2.launch == p.launch && decide (e.2.radio < p.radio)))

/-- Four slots before a launch its users' entries are fetched into the 8 MB of SRAM, in launch order, and after them those of the null
users of its air time (R197, 09 R260). -/
def prefetch (id : Nat) (slow : List Nat) (s : State) : State :=
  match Tab.get? s.mac.plan id with
  | none => s
  | some p =>
    if p.fetchDone || s.ntNs + 4 * slotNs s.limitMode < p.launch || s.fetchesFirst p then s
    else
      let inUse := (s.mac.plan.filter (fun e => e.2.fetchDone && e.2.precoder.isNone)).map fun e =>
        (e.2.fetched.map (s.ownBytes e.2.radio)).sum + (e.2.fetchedNulls.map (s.foreignBytes e.2.radio)).sum
      let take := fun (there : Nat → Bool) (late : Nat → Nat) (size : Nat → Nat) (acc : List Nat × Nat) (k : Nat) =>
        if slow.contains (late k) || !(there k) || 8388608 < acc.2 + size k then acc else (acc.1 ++ [k], acc.2 + size k)
      let own := ((p.users.filter (·.down)).map (·.sid)).foldl
        (take (fun sid => Tab.has s.mac.csi (csiKey sid p.radio)) id (s.ownBytes p.radio)) ([], inUse.sum)
      let nulls := (s.dueForeign p.radio p.launch (p.launch + p.dlDur)).foldl
        (take (Tab.has s.cst.foreign) (8192 + ·) (s.foreignBytes p.radio)) ([], own.2)
      s.modPpdu id fun p => { p with fetched := own.1, fetchedNulls := nulls.1, fetchDone := true }

def execCsiPrefetch (ppdu : Nat) (slow : List Nat) (s : State) : Host.Outcome State Fault Refusal :=
  .next (prefetch ppdu slow s)

/-- The precoding chain set of an RU's users (R198, R200). -/
def State.precodingSet (s : State) (r : Nat) (sids : List Nat) : List Nat :=
  (s.chainSet r).filter fun c =>
    let i := chainBase r + c
    !(s.chain i).blocked && ((s.radio r).explicit || (s.calStatus i == 0
      && sids.all (fun sid => bitOf (Tab.getD s.mac.csi (csiKey sid r) {}).presence c)))

/-- The segments of a user's RU. -/
def ruSegs (rus : List RuPlan) (sid : Nat) : Nat := (rus.find? (fun u => u.sids.contains sid)).elim 65535 (·.segs)

/-- The most octets a user's RU carries in a PPDU of a duration (ns): 4096-QAM at rate 5/6, 10 bits a tone and stream in 13.6 µs (R182). -/
def ruOctets (u : PlanUser) (dur : Nat) : Nat := dur * ruTones u.ru * u.ss * 10 / (8 * 13600) + 1

/-- The first frames of a queue that hold so many octets. -/
def headsFor : Nat → List (Nat × Frame) → List Nat
  | 0, _ => []
  | _, [] => []
  | n, e :: es => e.1 :: headsFor (n - Nat.max 1 e.2.body.length) es

/-- From the compute time the head frames of a planned user are read from DRAM into SRAM, of each of its queues enough to fill its RU
(11 R332; log 178). -/
def State.readHeads (s : State) (r : Nat) (u : PlanUser) (dur : Nat) : State :=
  let queue := fun (q : Nat) => s.mac.frames.filter fun e => e.2.queue == q && e.2.taken.isNone && bitOf e.2.radios r
  ([0, 1, 2, 3].flatMap fun k => headsFor (ruOctets u dur) (queue (4 * u.sid + k))).foldl (fun s id => s.readFrame id) s

/-- The power limit of a chain (R198): that of FE_x_TXPWR and of the regulatory record of the channel, in 0.25 dBm. -/
def State.chainCap (s : State) (r : Nat) : Int :=
  let set := signed 8 (s.get ⟨feBase r + 0x18, 7, 0⟩)
  let centre := centreKhz r (s.chanCentre r) / 1000
  match (s.recsOf 0x0402).find? (fun b => fieldLE b 0 1 == r && fieldLE b 1 1 == s.chanWidth r && fieldLE b 2 2 == centre) with
  | some b => let lim := signed 8 (fieldLE b 4 1); if lim < set then lim else set
  | none => set

/-- The words of a coefficient, as what a precoder takes of it. -/
def Coef.inputs : Coef → List Nat
  | .one => [1]
  | .words l => 2 :: l

/-- The weight of fixed beam b on chain c, as a phase in sixteenths of a turn: a DFT pattern over the chains (R200; log 166). -/
def dftBeam (b c : Nat) : Nat := b * c % 16

/-- What of one direction's channel enters the precoder in a segment and group of tones (R198, R200): over the chains of a set the transpose
of the uplink, each chain's column times its coefficient c; of feedback, what the 16 beams gave, with their pattern over the chains. -/
def State.dlRow (s : State) (r : Nat) (e : CsiEntry) (fb : Bool) (set : List Nat) (seg group antenna : Nat) : List Nat :=
  if fb then (List.range 16).flatMap fun b => (e.tone true seg b antenna group).toNat :: set.map (dftBeam b)
  else set.map fun c =>
    (Config.freeOf 24 ([0x0198, (e.tone false seg c antenna group).toNat] ++ (s.chain (chainBase r + c)).coef.inputs)).toNat

/-- The precoder of an RU (R198): regularised zero-forcing per group of tones, regularised by each user's measured noise, over its users'
antennas and the null directions kept, in arithmetic the spec does not give (log 29). -/
def State.rzf (s : State) (r : Nat) (set sids : List Nat) (segs : Nat) (nulls : List (Nat × Nat)) : RuPrecoder :=
  let groups := toneGroups r (s.chanWidth r)
  let entry := fun sid => Tab.getD s.mac.csi (csiKey sid r) {}
  let weight := fun (g : Nat) =>
    let seg := g * 16 / groups
    Config.freeOf 64 ([0x1198, g] ++ (sids.map fun sid => unsigned 16 (entry sid).noise)
      ++ (sids.flatMap fun sid => (List.range (entry sid).nAnt).flatMap fun a =>
          s.dlRow r (entry sid) ((s.radio r).explicit || (entry sid).fedBack segs) set seg g a)
      ++ nulls.flatMap fun n => s.dlRow r ((Tab.get? s.cst.foreign n.1).elim {} (·.csi)) false set seg g n.2)
  { set := set, sids := sids, weights := ((List.range groups).filter fun g => bitOf segs (g * 16 / groups)).map weight }

/-- The one factor that a PPDU's precoders are scaled by, so that no chain exceeds its limit (R198). -/
def scaleOf (cap : Int) (l : List RuPrecoder) : BitVec 32 :=
  Config.freeOf 32 ([0x2198, unsigned 16 cap] ++ l.flatMap fun u => u.set ++ u.weights.map (·.toNat))

/-- The compute time, two slots before the launch (R197 to R199, 09 R260): users without a fresh entry are removed, streams a station has no antennas for are
not served, null directions beyond MAX_NULLS or the precoding chain set are dropped lowest rank first, and a PPDU left without a user or
with too few chains completes without being sent. -/
def precode (id : Nat) (rus : List RuPlan) (s : State) : State :=
  match Tab.get? s.mac.plan id with
  | none => s
  | some p =>
    if p.precoder.isSome || s.ntNs + 2 * slotNs s.limitMode < p.launch then s
    else
      let st := fun (u : PlanUser) =>
        if !u.down || u.status ≠ 0 then u.status
        else if !(p.fetched.contains u.sid) then 0x30
        else if s.csiStale p.radio u.sid (ruSegs rus u.sid) s.ntNs then 0x31 else 0
      let served := fun (u : PlanUser) =>
        let e := Tab.getD s.mac.csi (csiKey u.sid p.radio) {}
        if (s.radio p.radio).explicit || e.fedBack (ruSegs rus u.sid) then u.ss else Nat.min u.ss e.nAnt
      let removed := fun (u : PlanUser) => p.users.any fun v => v.down && v.sid == u.sid && (st v == 0x30 || st v == 0x31)
      let users := p.users.map fun u =>
        if u.down then { u with status := st u, ss := if st u = 0 then served u else u.ss }
        else if u.status = 0 && removed u then { u with status := (p.users.find? (fun v => v.down && v.sid == u.sid)).elim 0x30 st } else u
      let n1 := (users.filter (fun u => u.down && u.status == 0x30)).length
      let n2 := (users.filter (fun u => u.down && u.status == 0x31)).length
      let s1 := s.incBy ⟨bbBase p.radio + 0x28, 15, 0⟩ n1
      let s2 := s1.incBy ⟨bbBase p.radio + 0x28, 31, 16⟩ n2
      let s3 := s2.modRadio p.radio fun x => { x with misses := x.misses + n1 }
      let alive := users.filter (fun u => u.down && u.status == 0)
      let ruStreams := fun (u : RuPlan) => ((alive.filter (fun x => u.sids.contains x.sid)).map (·.ss)).sum
      let live := rus.filter (fun u => ruStreams u ≠ 0)
      let setOf := fun (u : RuPlan) => s.precodingSet p.radio ((alive.filter (fun x => u.sids.contains x.sid)).map (·.sid))
      let set := if live.isEmpty then s.precodingSet p.radio (alive.map (·.sid))
        else (s.chainSet p.radio).filter fun c => live.any fun u => (setOf u).contains c
      let fail := fun (s : State) (code : Nat) =>
        (s.modPpdu id fun q => { q with users := users, precoder := some s.fresh, used := true }).modRadio p.radio fun x =>
          { x with launches := x.launches ++ [{ of_ := .plan id, t := p.launch, air := 0, chains := [], outcome := some code }] }
      if users.any (·.down) && alive.isEmpty && !(users.any (fun u => !u.down && u.status == 0)) then
        fail s3 ((users.find? (fun u => u.down)).elim 0x30 (·.status))
      else if live.any (fun u => decide ((setOf u).length < ruStreams u + 2)) then fail s3 0x33
      else
        let perRu := live.map fun u =>
          let nu := s.nullUsers p.radio p.launch (p.launch + p.dlDur) (setOf u) (p.fetchedNulls) u.nulls
          let skipped := nu.2
          let dirs := nu.1.flatMap fun x => (List.range x.2.2).map fun a => (x.1, a)
          let capped := Nat.min dirs.length s.maxNulls
          let keep := Nat.min capped ((setOf u).length - ruStreams u - 2)
          (keep, capped - keep, skipped,
            s.rzf p.radio (setOf u) ((alive.filter (fun x => u.sids.contains x.sid)).map (·.sid)) u.segs (dirs.take keep))
        let keep := (perRu.map (fun x => x.1)).sum
        let pre := perRu.map (fun x => x.2.2.2)
        let drop := (perRu.map (fun x => x.2.1)).sum
        let s4 := s3.incBy ⟨bbBase p.radio + 0x2C, 31, 16⟩ drop
        let s5 := (s4.incBy ⟨0x301028, 15, 0⟩ keep).incBy ⟨0x301028, 31, 16⟩ ((perRu.map (fun x => x.2.2.1)).sum)
        let s6 := s5.modRadio p.radio fun x => { x with nullDrops := x.nullDrops + drop }
        let s7 := { s6 with fresh := s6.fresh + 1 }.modPpdu id fun q =>
          { q with users := users, nulls := keep, precoder := some s6.fresh, nullDepth := s.get ⟨bbBase p.radio + 0x14, 4, 0⟩
                   cap := s.chainCap p.radio, precoders := pre, scale := scaleOf (s.chainCap p.radio) pre
                   chains := if alive.isEmpty then none else some set }
        if alive.isEmpty then s7
        else (alive.foldl (fun (s : State) (u : PlanUser) => s.readHeads p.radio u p.dlDur) s7).sendMasks p.radio (.plan id) p.launch set

def execPrecoderCompute (ppdu : Nat) (rus : List RuPlan) (s : State) : Host.Outcome State Fault Refusal :=
  .next (precode ppdu rus s)

/-- The VALID share of the active, unblocked chains in percent (R200). -/
def State.validPct (s : State) (r : Nat) : Nat :=
  let l := s.launchSet r
  if l.isEmpty then 0 else 100 * (l.filter (fun c => s.calStatus (chainBase r + c) == 0)).length / l.length

/-- The test of R200: below FALLBACK_LOW the radio enters explicit operation, at FALLBACK_HIGH it leaves it. Direction 1
entered, 0 left. -/
def State.explicitCheck (s : State) (r : Nat) : State :=
  let p := s.validPct r
  let x := s.radio r
  let go := if x.explicit then !decide (s.get ⟨bbBase r + 0x10, 30, 24⟩ ≤ p) else decide (p < s.get ⟨bbBase r + 0x10, 22, 16⟩)
  if (s.chainSet r).isEmpty || go = x.explicit then s
  else (s.modRadio r fun x => { x with explicit := go }).postEvent 0x5002 (items [r, b2n go, p])

/-- The test every 10 ms. -/
def explicitTest (r : Nat) (s : State) : State :=
  if !(s.inService (.radio r)) || s.elapsed < (s.radio r).testedAt + ms 10 then s
  else (s.modRadio r fun x => { x with testedAt := s.elapsed }).explicitCheck r

def execExplicitTest (radio : Nat) (s : State) : Host.Outcome State Fault Refusal := .next (explicitTest radio s)

/-- SOUND_PERIOD passes (R200): a station that needs more streams is due to be sounded again. -/
def soundTimer (sid r : Nat) (s : State) : State :=
  match Tab.get? s.mac.stas sid with
  | none => s
  | some x =>
    match Tab.get? x.sounding r with
    | none => s
    | some t =>
      if s.elapsed < t + ms (s.get ⟨bbBase r + 0x10, 15, 8⟩) then s
      else
        let y : Sta := { x with
          sounding := Tab.put x.sounding r s.elapsed, soundDue := if x.soundDue.contains r then x.soundDue else r :: x.soundDue }
        { s with mac := { s.mac with stas := Tab.put s.mac.stas sid y } }

def execSoundPeriodTimer (sid radio : Nat) (s : State) : Host.Outcome State Fault Refusal := .next (soundTimer sid radio s)

/-- The spatial engine's part of a swap (R196): presence bits of chains that left or joined, and a channel or width
change invalidates every entry of the radio with event 0x5004 (cause 0 channel, 1 width). -/
def State.bbSwap (s : State) (r : Nat) (old : List Nat) (channel width : Bool) : State :=
  let new := s.chainSet r
  let both := bitMap 64 (fun c => new.contains c && old.contains c)
  let upd := fun (k : Nat) (e : CsiEntry) =>
    if k % 4 ≠ r then e
    else if channel || width then { e with presence := e.presence &&& both, segs := List.replicate 16 none, fb := List.replicate 16 none }
    else { e with presence := e.presence &&& both }
  let s1 := { s with mac := { s.mac with csi := Tab.mapV s.mac.csi upd }, cst := { s.cst with
    foreign := Tab.mapV s.cst.foreign fun k f =>
      if k % 4 ≠ r then f else { f with csi := { f.csi with presence := f.csi.presence &&& both } } } }
  let s2 := if channel || width then s1.postEvent 0x5004 (items [r, b2n width]) else s1
  let s3 := if channel || width || decide (new ≠ old) then s2.cutReception r else s2
  s3.explicitCheck r

/-- Per-superframe events of the spatial engine (R199, R205; log 18). -/
def State.bbSuperframe (s : State) : State :=
  (List.range 3).foldl (fun s r =>
    let x := s.radio r
    let s1 := if x.nullDrops = 0 then s else s.postEvent 0x5003 (items [r, x.nullDrops])
    let s2 := if x.misses = 0 then s1 else s1.postEvent 0x5005 (items [r, x.misses])
    if x.nullDrops = 0 && x.misses = 0 then s2 else s2.modRadio r fun x => { x with nullDrops := 0, misses := 0 }) s

end Sys2Proof.Machine
end

