-- ==== Sys2Proof/Machine/Containment.lean ====
section
/-! DEFINITION. The commands of reset and containment: RESET_N, PWR_OK, strobes, units' reset states and device faults
(01 R27 to R34, 03 R73, 16 R463, 17 R487). -/

namespace Sys2Proof.Machine

/-- RESET_N rises after its filter: the straps are sampled (03 R70); PWR_OK stands by then (17 R487). -/
def release (refsel : BitVec 2) (clkq : BitVec 3) (bootmode : BitVec 2) (s : State) : State :=
  if s.boot.resetN then s
  else { s with boot := { s.boot with
    resetN := true, pwrOk := true, wait := .resetN, refsel := refsel, clkq := clkq, bootmode := bootmode } }.startQualify

def execResetNRelease (refsel : BitVec 2) (clkq : BitVec 3) (bootmode : BitVec 2) (s : State) :
    Host.Outcome State Fault Refusal := .next (release refsel clkq bootmode s)

/-- RESET_N falls: the whole device is reset, and stays so until it is released; an attempt at a fault record ends
(17 R487, R488). -/
def resetLow (s : State) : State :=
  let s1 := s.cutAttempt.deviceReset .resetN false
  { s1 with boot := { s1.boot with resetN := false } }

def execResetNAssert (s : State) : Host.Outcome State Fault Refusal := .next (resetLow s)

/-- PWR_OK falls: a device fault with cause RAIL (16 R463); in the reset state there is nothing to fault. Where RESET_N falls
in the same cycle, one of the commands that wait (log 2), the reset is plain (17 R488). -/
def pwrFall (s : State) : State :=
  let s1 := { s with boot := { s.boot with pwrOk := false } }
  if !s.boot.pwrOk || s.boot.state == .reset || s.pending.contains .resetNAssert then s1 else s1.deviceFaultWith 0x11 0

def execPwrOkFall (s : State) : Host.Outcome State Fault Refusal := .next (pwrFall s)

/-- PWR_OK returns: a device that waits for it cold-boots (16 R463). -/
def pwrReturn (s : State) : State :=
  let s1 := { s with boot := { s.boot with pwrOk := true } }
  if s.boot.state == .reset && s.boot.wait == .pwrOk && s.boot.resetN then
    { s1 with boot := { s1.boot with wait := .resetN } }.startQualify
  else s1

def execPwrOkReturn (s : State) : Host.Outcome State Fault Refusal := .next (pwrReturn s)

/-- The device runs: neither in its reset state nor qualifying its reference. -/
def State.awake (s : State) : Bool := s.boot.state != .reset && s.boot.state != .qualify

/-- A unit's containment strobe fires (01 R29). -/
def strobeFires (u : FUnit) (cause detail : Nat) (s : State) : State := if s.awake then s.strobe u cause detail else s

def execContainmentStrobe (u : FUnit) (cause detail : Nat) (s : State) : Host.Outcome State Fault Refusal :=
  .next (strobeFires u cause detail s)

/-- The blocks a unit's work runs on (01 R27, 02 R69). -/
def unitBlocks (u : FUnit) : List Nat :=
  match u with
  | .radio r => [r, 3 + r, 7 + r]
  | .link k => [32 + k]
  | .port p => [16 + p]
  | .pkt => [10]
  | .cipher => [11]
  | .dram c => [20 + c]
  | .func _ => []
  | .mesh => []

/-- A recovering unit reaches its reset state (01 R27): unless it is held it is configured again; the drain of its blocks
counts from now (02 R56). -/
def resetReached (u : FUnit) (s : State) : State :=
  let x := s.unit u.idx
  if !u.exists_ || x.phase != .recovering then s
  else
    let s1 := s.setUnit u.idx { x with phase := .reset }
    let s2 := { s1 with clocks := { s1.clocks with
      draining := Tab.mapV s1.clocks.draining fun b t => if (unitBlocks u).contains b then s.elapsed else t } }
    let s3 := match u with | .link k => s2.tileDown k | _ => s2
    s3.reenter u

def execUnitResetStateReached (u : FUnit) (s : State) : Host.Outcome State Fault Refusal := .next (resetReached u s)

/-- A device fault (01 R28). -/
def deviceFails (cause detail : Nat) (s : State) : State :=
  if s.boot.state == .reset then s else s.deviceFaultWith cause detail

def execDeviceFault (cause detail : Nat) (s : State) : Host.Outcome State Fault Refusal := .next (deviceFails cause detail s)

end Sys2Proof.Machine
end

