-- ==== Sys2Proof/Machine/Clocks.lean ====
section
/-! DEFINITION. The commands of the clock tree: qualification, the root PLL, clock enables, source switches and frequency
counters (02 R42 to R69). -/

namespace Sys2Proof.Machine

/-! ## The reference and the root (R45 to R50) -/

/-- The edges CLKQ selects: the nominal delay in 0.1 ms times the edges in 0.1 ms (03 R71). -/
def State.qualEdges (s : State) : Nat :=
  [5, 10, 20, 50, 100, 200, 500, 1000].getD s.boot.clkq.toNat 0 * (s.refKhz / 10)

/-- The counted edges qualify the reference (R45); a count outside ±1,000 ppm is discarded. -/
def qualified (edges : Nat) (ppm : Int) (s : State) : State :=
  if s.boot.state != .qualify || s.boot.refReady || edges ≠ s.qualEdges || ppm < -1000 || 1000 < ppm then s
  else { s with boot := { s.boot with refReady := true } }

def execReferenceQualified (edges : Nat) (ppm : Int) (s : State) : Host.Outcome State Fault Refusal :=
  .next (qualified edges ppm s)

/-- A measurement whose reference is lost during its window ends with CLK_NO_REF (R63). -/
def State.fcNoRef (s : State) (n : Nat) : State :=
  let s1 := (s.put ⟨0x100104 + 0x10 * n, 7, 0⟩ 0x12).put ⟨0x100104 + 0x10 * n, 9, 9⟩ 1
  if s1.flag ⟨0x100100 + 0x10 * n, 17, 17⟩ then s1.postEvent 0x1805 (items [n, 0x12]) else s1

/-- Reference loss (R46): running measurements end, then a device fault with cause REF_LOSS; the device qualifies anew. -/
def refLoss (deviation : Bool) (s : State) : State :=
  if s.boot.refReady then (s.clocks.fcBusy.foldl State.fcNoRef s).deviceFaultWith 0x06 (b2n deviation) else s

def execReferenceLoss (deviation : Bool) (s : State) : Host.Outcome State Fault Refusal := .next (refLoss deviation s)

/-- Set the source of a domain. -/
def State.setSource (s : State) (d : Nat) (root : Bool) : State :=
  let s1 := { s with clocks := { s.clocks with onRoot := s.clocks.onRoot.set d root, switching := Tab.del s.clocks.switching d } }
  if d = 4 && root then
    { s1 with time := { s1.time with
      frRuns := true
      firstWaitFrom := if s1.time.state == .notStarted && s1.time.firstWaitFrom.isNone then some s1.frNs else s1.time.firstWaitFrom } }
  else s1

/-- Event 0x1008: Recovery entered; cause 0 strap, 1 no valid slot, 2 flash error. The host queues are available there
(03 R74). -/
def State.enterRecovery (s : State) (cause : Nat) : State :=
  let s1 := { s with boot := { s.boot with state := .recovery, holdFrom := s.elapsed, almFrom := s.elapsed } }
  ((s1.setUnit 32 { s1.unit 32 with phase := .service }).enableBlock 13).postEvent 0x1008 (items [cause])

/-- The root PLL is locked (R47): at boot the controller senses the fuses, moves domains 0, 1, 5 and 6 to ROOT and enters
LOAD or RECOVERY (03 R73); with REFSEL 0b01 domain 7 runs from ROOT while the root is up (R49). -/
def rootLocked (s : State) : State :=
  if !s.boot.refReady || s.boot.rootReady then s
  else
    let s1 := { s with boot := { s.boot with rootReady := true } }
    let s2 := if s.boot.refsel = 1 then s1.setSource 7 true else s1
    if s.boot.state == .qualify then
      let s3 := [0, 1, 5, 6].foldl (fun s d => s.setSource d true) s2
      if s.boot.bootmode = 2 then s3.enterRecovery 0 else { s3 with boot := { s3.boot with state := .load } }
    else s2

def execRootPllLocked (s : State) : Host.Outcome State Fault Refusal := .next (rootLocked s)

/-- The root PLL loses lock (R47). -/
def rootUnlock (s : State) : State :=
  if !s.boot.rootReady then s
  else ((s.put ⟨0x100008, 1, 1⟩ 1).postEvent 0x1802 (items [s.stamp.toNat])).deviceFaultWith 0x07 0

def execRootPllUnlock (s : State) : Host.Outcome State Fault Refusal := .next (rootUnlock s)

/-! ## Clock enables (R53 to R56) -/

/-- The subject nibble whose records configure a block, or none (03 R87). -/
def blockSubject (b : Nat) : Option Nat :=
  if b < 3 then some 4 else if b < 7 then some 5 else if b < 10 then some 6 else if b = 10 then some 9
  else if b = 11 then some 0xA else if b = 15 then some 8 else if b < 16 then none else if b < 20 then some 0xC
  else if b < 24 then some 0xD else some 0xC

/-- A block's subject is rejected: its clock stays gated (03 R87). -/
def State.blockRejected (s : State) (b : Nat) : Bool :=
  match blockSubject b with | some n => s.boot.rejected.contains n | none => false

/-- The unit whose work runs on a block. -/
def blockUnit (b : Nat) : Option FUnit :=
  if b < 3 then some (.radio b) else if b < 6 then some (.radio (b - 3)) else if b = 6 then none
  else if b < 10 then some (.radio (b - 7)) else if b = 10 then some .pkt else if b = 11 then some .cipher
  else if b < 16 then none else if b < 20 then some (.port (b - 16)) else if b < 24 then some (.dram (b - 20))
  else some (.link (b - 32))

/-- A unit in its reset state whose clock starts after boot is configured again (05 R136). -/
def State.rejoin (s : State) (u : FUnit) : State :=
  if (s.boot.state == .run || s.boot.state == .hold) && (unitBlocks u).all (fun b => s.flag (clkSt b)) then s.reenter u else s

/-- The enable register of a block. -/
def clkEnAddr (b : Nat) : Nat := (clkEn b).a

/-- A write of 1 to a block's enable bit (R55): its power domains are requested; it takes back a drain that runs (log 24). -/
def clkEnable (r : Requester) (b : Nat) (s : State) : State :=
  if !(clockBlocks.contains b) then s
  else s.access r (clkEnAddr b) fun s =>
    let s1 := s.enableBlock b
    if s1.flag (clkEn b) then { s1 with clocks := { s1.clocks with draining := Tab.del s1.clocks.draining b } } else s1

def execClockEnableWrite (r : Requester) (block : Nat) (s : State) : Host.Outcome State Fault Refusal :=
  .next (clkEnable r block s)

/-- An enabled block's clock starts at an alignment epoch once its power domains are up (R55, R499). -/
def clkStarts (b : Nat) (s : State) : State :=
  if !(clockBlocks.contains b) || s.flag (clkSt b) || !s.flag (clkEn b) || !s.boot.rootReady
      || !(blockDomains b).all s.domUp || s.blockRejected b then s
  else
    let s1 := s.put (clkSt b) 1
    let s2 := match blockUnit b with | some u => s1.rejoin u | none => s1
    let s3 := if 32 ≤ b then s2.autoTrain (b - 32) else s2
    if b = 10 || b = 15 then s3.meshLink else s3

def execClockStart (block : Nat) (s : State) : Host.Outcome State Fault Refusal := .next (clkStarts block s)

/-- The group of a Tile Link without an enabled link powers down (16 R464). -/
def State.groupOff (s : State) (b : Nat) : State :=
  let g := (b - 32) / 4
  if b < 32 || (List.range 4).any (fun i => s.flag (clkEn (32 + 4 * g + i)) || s.flag (clkSt (32 + 4 * g + i))) then s
  else if s.domUp (15 + g) then s.powerDown [15 + g] else s

/-- A write of 0 to a block's enable bit: it drains (R56). -/
def clkDisable (r : Requester) (b : Nat) (s : State) : State :=
  if !(clockBlocks.contains b) then s
  else s.access r (clkEnAddr b) fun s =>
    if !s.flag (clkEn b) then s
    else
      let s1 := s.put (clkEn b) 0
      let s2 := if s.flag (clkSt b) then { s1 with clocks := { s1.clocks with draining := Tab.put s1.clocks.draining b s.elapsed } }
        else s1.groupOff b
      if b = 15 then s2.meshLink else s2

def execClockDisableWrite (r : Requester) (block : Nat) (s : State) : Host.Outcome State Fault Refusal :=
  .next (clkDisable r block s)

/-- A unit on the block is on its way to its reset state. -/
def State.blockRecovering (s : State) (b : Nat) : Bool :=
  match blockUnit b with | some u => (s.unit u.idx).phase == .recovering | none => false

/-- A block holds no work accepted before its disable (R56, log 139); a unit in its reset state is idle. -/
def State.blockIdle (s : State) (b : Nat) : Bool :=
  let none_ := fun (r : Nat) => (s.radio r).launches.isEmpty
  let idle :=
    if b < 3 then none_ b && (s.radio b).cal.isNone
    else if b < 6 then none_ (b - 3) && (s.radio (b - 3)).rx.state == .search
    else if b = 6 then s.mac.plan.all fun e => e.2.fetched.isEmpty || e.2.used
    else if b < 10 then none_ (b - 7) && s.mac.frames.all fun e => (e.2.taken.map (·.1)) != some (b - 7)
    else if b = 10 then s.fifos.all (·.2.isEmpty) && s.pkt.lpm.isEmpty && s.wired.all (·.2.isEmpty)
    else if b = 11 then s.cipher.ops.isEmpty
    else if b = 12 then s.tasks.items.isEmpty
    else if b = 13 then s.host.cmds.all (·.stage != .admitted)
    else if b < 16 then true
    else if b < 20 then (subsOf (b - 16)).all fun n => !Tab.has s.eth.tx n
    else if b < 24 then
      (Tab.getD s.dram.chans (b - 20) {}).queue.isEmpty && s.dram.waiting.all fun e => e.1 / 8 != b - 20 || e.2.isEmpty
    else (Tab.getD s.tiles (b - 32) {}).msgs.isEmpty
  idle || (match blockUnit b with | some u => (s.unit u.idx).phase == .reset | none => false)

/-- The drained and idle block's clock stops at an alignment epoch (R56). -/
def clkStops (b : Nat) (s : State) : State :=
  if !(Tab.has s.clocks.draining b) || s.blockRecovering b || !s.blockIdle b then s
  else
    let s1 := { s with clocks := { s.clocks with draining := Tab.del s.clocks.draining b } }.put (clkSt b) 0
    let s2 := if 32 ≤ b then (s1.tileDown (b - 32)).groupOff b
      else if 16 ≤ b && b < 20 then (subsOf (b - 16)).foldl (fun s sub => s.setLink sub 0) s1 else s1
    if b = 10 || b = 15 then s2.meshLink else s2

def execClockStop (block : Nat) (s : State) : Host.Outcome State Fault Refusal := .next (clkStops block s)

/-- A block not idle within 100 µs keeps its clock (R56). -/
def drainFails (b : Nat) (s : State) : State :=
  match Tab.get? s.clocks.draining b with
  | some t =>
    if s.blockRecovering b || s.blockIdle b || s.elapsed < t + us 100 then s
    else
      let s1 := { s with clocks := { s.clocks with draining := Tab.del s.clocks.draining b } }
      let s2 := ((s1.put (clkEn b) 1).put ⟨0x100008, 2, 2⟩ 1).postEvent 0x1804 (items [clkEnAddr b, b % 32])
      if b = 15 then s2.meshLink else s2
  | none => s

def execDrainTimeout (block : Nat) (s : State) : Host.Outcome State Fault Refusal := .next (drainFails block s)

/-! ## Source switches (R57 to R59) -/

/-- CKR_SRC_d and its fields. -/
def ckrSrc (d : Nat) : Nat := 0x100040 + 4 * d
def srcResult (d : Nat) : FieldRef := ⟨ckrSrc d, 23, 16⟩

/-- The checks of a switch request in R57's order; a request for the source in use passes all but the first. -/
def State.switchCheck (s : State) (d : Nat) (root : Bool) : Option Nat :=
  if Tab.has s.clocks.switching d then some 0x11
  else if s.clocks.onRoot.getD d false = root then none
  else if d = 7 && root && s.boot.refsel ≠ 1 then some 0x02
  else if !(if root then s.boot.rootReady else s.boot.refReady) then some 0x03
  else if (d = 4 && s.time.state != .notStarted) || (d = 6 && s.host.linkUp) then some 0x13
  else none

/-- A switch request (R57): one for the source in use completes OK and changes nothing. -/
def switchGo (r : Requester) (d : Nat) (root : Bool) (s : State) : State :=
  if 7 < d then s
  else s.access r (ckrSrc d) fun s =>
    let s1 := s.put ⟨ckrSrc d, 8, 8⟩ (b2n root)
    match s.switchCheck d root with
    | some st => s1.put (srcResult d) st
    | none =>
      if s.clocks.onRoot.getD d false = root then s1.put (srcResult d) 0x00
      else { s1 with clocks := { s1.clocks with switching := Tab.put s1.clocks.switching d root } }

def execSourceSwitchGo (r : Requester) (d : Nat) (root : Bool) (s : State) : Host.Outcome State Fault Refusal :=
  .next (switchGo r d root s)

/-- A switch completes OK (R58). -/
def switchDone (d : Nat) (s : State) : State :=
  match Tab.get? s.clocks.switching d with
  | some root => (s.setSource d root).put (srcResult d) 0x00
  | none => s

def execSourceSwitchDone (d : Nat) (s : State) : Host.Outcome State Fault Refusal := .next (switchDone d s)

/-- The fault of an abandoned switch, by domain (R48). -/
def State.abandonFault (s : State) (d : Nat) : State :=
  if d = 2 then s.strobe (.radio 2) 0x04 d
  else if d = 3 then (s.strobe (.radio 1) 0x04 d).strobe (.radio 0) 0x04 d
  else if d = 6 then ((List.range 16).filter s.fnEnabled).foldl (fun s f => s.strobe (.func f) 0x04 d) s
  else if d = 7 then s.strobe .mesh 0x04 d
  else s.deviceFaultWith 0x04 d

/-- The old source showed no edge for 64 cycles: the switch is forced (R59). -/
def switchForced (d : Nat) (s : State) : State :=
  match Tab.get? s.clocks.switching d with
  | some root =>
    let s1 := (s.setSource d root).put (srcResult d) 0x10
    ((s1.put ⟨0x100008, 0, 0⟩ 1).postEvent 0x1801 (items [d, b2n (!root), s.stamp.toNat])).abandonFault d
  | none => s

def execSwitchAbandoned (d : Nat) (s : State) : Host.Outcome State Fault Refusal := .next (switchForced d s)

/-! ## Frequency counters (R61 to R63) -/

/-- CKR_FC_CTRL_n. -/
def fcCtrl (n : Nat) : Nat := 0x100100 + 0x10 * n

/-- A clock select code that names a clock (R62). -/
def fcSelOk (sel : Nat) : Bool := fcSels.contains sel

/-- The word that START writes to CKR_FC_CTRL_n. -/
def fcWord (sel exp : Nat) (evt : Bool) : Word := BitVec.ofNat 32 (sel % 64 + exp % 32 * 256 + 65536 + b2n evt * 131072)

/-- A write of CKR_FC_CTRL_n with START (R61 to R63): SEL, N and EVT are set, or a reserved SEL or an N outside 10 to 30 makes
the write invalid (R36, R69) and ends with RANGE (log 15). While the counter is busy RESULT is CLK_BUSY, and the window that runs
keeps its own clock and exponent (log 131). -/
def fcWrite (r : Requester) (n : Nat) (v : Word) (s : State) : State :=
  if 7 < n then s
  else s.access r (fcCtrl n) fun s =>
    let sel := bitsOf v.toNat 5 0
    let exp := bitsOf v.toNat 12 8
    let ok := fcSelOk sel && decide (10 ≤ exp) && decide (exp ≤ 30)
    let s1 := if ok then ((s.put ⟨fcCtrl n, 5, 0⟩ sel).put ⟨fcCtrl n, 12, 8⟩ exp).put ⟨fcCtrl n, 17, 17⟩ (bitsOf v.toNat 17 17)
      else s.invalidWrite r (fcCtrl n) v
    if s.clocks.fcBusy.contains n then s1.put ⟨fcCtrl n + 4, 7, 0⟩ 0x11
    else if !ok then s1.put ⟨fcCtrl n + 4, 7, 0⟩ 0x02
    else { s1 with clocks := { s1.clocks with
      fcBusy := s1.clocks.fcBusy ++ [n], fcFrom := Tab.put s1.clocks.fcFrom n s.elapsed
      fcWin := Tab.put s1.clocks.fcWin n { sel, exp, rate := s.fcClock sel } } }

/-- START of a measurement. -/
def fcStart (r : Requester) (n sel exp : Nat) (evt : Bool) (s : State) : State := fcWrite r n (fcWord sel exp evt) s

def execFreqMeasureStart (r : Requester) (n sel exp : Nat) (evt : Bool) (s : State) : Host.Outcome State Fault Refusal :=
  .next (fcStart r n sel exp evt s)

/-- A window of 2^N REF cycles ends with the edges counted (R61, R63), where its clock can have shown them. -/
def fcDone (n edges : Nat) (s : State) : State :=
  let t := Tab.getD s.clocks.fcFrom n 0
  match s.clocks.fcBusy.contains n, Tab.get? s.clocks.fcWin n with
  | true, some w =>
    if (s.elapsed - t) * 5 * s.refKhz < 2 ^ w.exp * 3000000 || !s.fcCounts w edges then s
    else
      let s1 := { s with clocks := { s.clocks with
        fcBusy := s.clocks.fcBusy.filter (· != n), fcWin := Tab.del s.clocks.fcWin n
        fcCount := Tab.put s.clocks.fcCount n (edges % 2 ^ 40) } }
      let s2 := (s1.put ⟨fcCtrl n + 4, 7, 0⟩ 0x00).put ⟨fcCtrl n + 4, 9, 9⟩ 1
      if s.flag ⟨fcCtrl n, 17, 17⟩ then s2.postEvent 0x1805 (items [n, 0]) else s2
  | _, _ => s

def execFreqMeasureDone (n edges : Nat) (s : State) : Host.Outcome State Fault Refusal := .next (fcDone n edges s)

end Sys2Proof.Machine
end

