-- ==== Sys2Proof/Machine/Mesh.lean ====
section
/-! DEFINITION. The rows of the mesh island (10). -/

namespace Sys2Proof.Machine

/-! ## Receiver (R274) -/

/-- RX_SAVE is active (R288): enabled, in Dormant. -/
def State.rxSave (s : State) : Bool := s.flag ⟨0x2000014, 8, 8⟩ && s.dormant.seq == .dormant

/-- The main receivers run: under RX_SAVE in BEACON, SHARED and ROUTER slots, in open reply windows and after a LISTEN_NOW
(R288); the island in service, the transmitter off. -/
def State.meshHears (s : State) : Bool :=
  (s.mesh.state == .alone || s.mesh.state == .bridged) && s.mesh.tx.isNone
    && (!s.rxSave || s.mesh.mainRx || !s.mesh.replies.isEmpty || s.mesh.wuOpen.isSome)

/-- A preamble that began before the receiver's return to SEARCH is received only where 24 bit periods of it were left then
(R275; log 174). -/
def State.preambleIn (s : State) (d : MeshDetect) : Bool :=
  let back := (s.elapsed - s.mesh.searchFrom) * 5 / 3
  decide (d.since ≤ back) || decide (24 ≤ d.left + back * s.nwRate / 1000000)

/-- A preamble that the sync detector takes in SEARCH (R274, R275). -/
def meshDetect (d : MeshDetect) (s : State) : State :=
  if s.mesh.rx != .search || !s.meshHears || decide (d.level < s.nwDb 17) || !s.preambleIn d then s
  else s.modMesh fun m => { m with rx := .preamble, rxLevel := d.level, rxFrom := s.elapsed }

def execMeshPreambleDetect (d : MeshDetect) (s : State) : Host.Outcome State Fault Refusal := .next (meshDetect d s)

/-- The receiver returns to SEARCH (R274). -/
def State.meshSearch (s : State) : State := s.modMesh fun m => { m with rx := .search, searchFrom := s.elapsed }

/-- The SFD: RSSI latched, the chain with the higher latch selected, the frame stamped with MT. -/
def meshSfd (r0 r1 : Int) (s : State) : State :=
  if s.mesh.rx != .preamble then s
  else s.modMesh fun m => { m with rx := .header, rssi := if r0 < r1 then r1 else r0, sfd := s.mtNs }

def execMeshSfdFound (rssi0 rssi1 : Int) (s : State) : Host.Outcome State Fault Refusal := .next (meshSfd rssi0 rssi1 s)

/-- SFD_WAIT: PREAMBLE_MAX, the longest guard of 10 ms and 32 bit periods (R274), in idle steps. -/
def State.sfdWait (s : State) : Nat := (s.octNs (fieldLE s.nwRec 16 1 + 4) + 10000000) * 3 / 5

def meshSfdGone (s : State) : State :=
  if s.mesh.rx != .preamble || s.elapsed < s.mesh.rxFrom + s.sfdWait then s
  else s.meshSearch.inc (nwCnt 0 false)

def execMeshSfdWaitExpiry (s : State) : Host.Outcome State Fault Refusal := .next (meshSfdGone s)

def meshRestart (level : Int) (s : State) : State :=
  if s.mesh.rx != .preamble || decide (level < s.mesh.rxLevel + s.nwDb 18) then s
  else (s.modMesh fun m => { m with rxLevel := level, rxFrom := s.elapsed }).inc (nwCnt 5 false)

def execMeshRxRestart (level : Int) (s : State) : Host.Outcome State Fault Refusal := .next (meshRestart level s)

/-- The PHR: below 38 + F or not the network's, back to SEARCH; a length below the minimum is a runt (R274, R276). -/
def meshPhr (len : Nat) (ok : Bool) (s : State) : State :=
  if s.mesh.rx != .header then s
  else if !ok || len < 38 + s.fcsBytes then
    let s1 := s.meshSearch.inc (nwCnt 0 false)
    if len < 38 + s.fcsBytes then s1.inc (nwCnt 0 true) else s1
  else s.modMesh fun m => { m with rx := .payload }

def execMeshPhrDone (len : Nat) (ok : Bool) (s : State) : Host.Outcome State Fault Refusal := .next (meshPhr len ok s)

/-- Capture by a stronger frame (R274, NW_CAPTURED_OUT). -/
def meshCapture (level : Int) (s : State) : State :=
  if s.mesh.rx != .payload || !(bitOf (fieldLE s.nwRec 20 1) 0) || decide (level < s.mesh.rxLevel + s.nwDb 19) then s
  else (s.modMesh fun m => { m with rx := .preamble, rxLevel := level, rxFrom := s.elapsed }).inc (nwCnt 5 true)

def execMeshRxCapture (level : Int) (s : State) : Host.Outcome State Fault Refusal := .next (meshCapture level s)

/-! ## Accepting a frame (R277 to R284) -/

/-- Header bytes of a PSDU: 34 with ROUTER, else 30. -/
def meshHdr (b : List Byte) : Nat := if bitOf (fieldLE b 0 1) 4 then 34 else 30

/-- The key a frame is checked with: the epoch key under the EPOCH bit (R285). -/
def State.meshKey (s : State) (k : Nat) (epoch : Bool) : Option (List Byte) :=
  (Tab.get? s.mesh.keys k).map fun key =>
    if epoch then aes key (leBytes 8 s.mesh.epoch.toNat ++ List.replicate 8 0) else key

/-- The decrypted payload, or none where the MIC fails (R276). -/
def State.meshOpen (s : State) (b : List Byte) : Option (List Byte) :=
  let h := meshHdr b
  let n := b.length - h - 8
  let nonce := slice b 2 8 ++ slice b 24 4 ++ [6#8]
  match s.meshKey (fieldLE b 28 1 % 8) (bitOf (fieldLE b 28 1) 3) with
  | none => none
  | some key =>
    if fieldLE b 0 1 % 8 = 1 then
      (ccmDecrypt key nonce (b.take (h + n)) [] (b.drop (h + n))).map fun _ => slice b h n
    else ccmDecrypt key nonce (b.take h) (slice b h n) (b.drop (h + n))

/-- The router table learns from a frame (R284). -/
def State.observeRouter (s : State) (src local_ : Nat) : State :=
  let pre := s.mesh.sfd - s.octNs (fieldLE s.nwRec 15 1 + 2)
  let raw : Int := (local_ : Int) - (pre / 1000 % 1000000 : Nat)
  let e : Int := if 500000 < raw then raw - 1000000 else if raw < -500000 then raw + 1000000 else raw
  match Tab.get? s.mesh.routers src with
  | none =>
    if 1536 ≤ s.mesh.routers.length then s
    else s.modMesh fun m => { m with routers := Tab.put m.routers src { err := e, at_ := pre, heard := s.elapsed } }
  | some r =>
    let miss := e - r.predict pre
    if r.drift.isSome && (decide (120 < miss) || decide (miss < -120)) then
      (s.modMesh fun m => { m with routers := Tab.put m.routers src { err := e, at_ := pre, heard := s.elapsed } }).postEvent
        0x8001 (items [src, sItem miss])
    else if r.at_ + 10000000000 ≤ pre then
      let n : Router := { err := e, at_ := pre, drift := some (e - r.err, pre - r.at_), heard := s.elapsed }
      s.modMesh fun m => { m with routers := Tab.put m.routers src n }
    else s.modMesh fun m => { m with routers := Tab.put m.routers src { r with heard := s.elapsed } }

/-- A topic's summary (R270); its first and last MT are taken at the frame's end (log 172). -/
def State.summarise (s : State) (payload : List Byte) : State :=
  let topic := fieldLE payload 0 1
  let v := fieldLE payload 1 2
  let has := decide (3 ≤ payload.length)
  s.modMesh fun m =>
    let x := Tab.get? m.summaries topic
    let n : Summary := match x with
      | some y => { y with count := Nat.min (y.count + 1) (2 ^ 32 - 1), bytes := Nat.min (y.bytes + payload.length) (2 ^ 32 - 1)
                           last := s.mt64, minV := if has then Nat.min y.minV v else y.minV
                           maxV := if has then Nat.max y.maxV v else y.maxV }
      | none => { count := 1, bytes := payload.length, first := s.mt64, last := s.mt64
                  minV := if has then v else 65535, maxV := if has then v else 0 }
    { m with summaries := Tab.put m.summaries topic n }

/-- A wake rule that a frame matches (R289): the first in record order. -/
def State.frameRule (s : State) (type src : Nat) (payload : List Byte) : Option Nat :=
  (((s.recsOf 0x0804).zipIdx).find? fun (r, _) =>
    (fieldLE r 0 1 == 0 && type == 0 && decide (2 ≤ payload.length) && fieldLE payload 0 1 == fieldLE r 1 1
      && ((fieldLE payload 1 1) &&& (fieldLE r 3 1)) == fieldLE r 2 1)
    || (fieldLE r 0 1 == 1 && (leBytes 8 src).take (fieldLE r 4 1) == slice r 8 (fieldLE r 4 1))).map (·.2)

/-- A wake rule matches (R289, 05 R148): event 0x8006, and a wake of cause 3 (mesh). -/
def State.meshWake (s : State) (rule src : Nat) : State :=
  if s.wakeable 3 then (s.postEvent 0x8006 (items [rule, src])).wake 3 else s

/-- An ACK acknowledges the frame of a FC to its sender (R285, R294). -/
def State.ackIn (s : State) (src : Nat) (payload : List Byte) : State :=
  match s.mesh.down.find? (fun e => e.2.dst == src && e.2.ackReq && e.2.fc == some (fieldLE payload 0 4)) with
  | some e => s.downDone e.1 0x00
  | none => s

/-- Open a reply window for a soliciting frame (R282): the ACK starts 1.000 ms after it. None opens where no frame may be
sent before the next mesh superframe (R267, R286). -/
def State.openReply (s : State) (src fc : Nat) : State :=
  if s.mesh.gap then s
  else s.modMesh fun m => { m with replies := m.replies.filter (·.node != src) ++ [⟨src, s.mtNs + 1000000, some fc, []⟩] }

/-- An accepted frame (R277): into the replay cache in the same step, then to the bridge, or to the UP queue in ALONE and
behind the drain (R270, R271); one that finds no room there is summarised only. -/
def State.meshAccept (s : State) (b payload : List Byte) (stampMs : Nat) : State :=
  let fctl := fieldLE b 0 1
  let type := fctl % 8
  let src := fieldLE b 2 8
  let fc := fieldLE b 24 4
  let node := fieldLE b 29 1
  let rho := if node % 16 = 0 then fieldLE s.nwRec 22 1 else 5 * (node % 16)
  let leaf : LeafInfo := ⟨rho, bitOf node 4, node / 32, fieldLE b 22 2, s.mesh.sfd⟩
  let u : MeshUp :=
    { src := src, stamp := fieldLE b 18 4, rssi := unsigned 8 s.mesh.rssi
      info := type + 8 * b2n (bitOf fctl 4) + 16 * (fieldLE b 1 1 / 16), payload := payload, mtUs := s.mesh.sfd / 1000 % 2 ^ 32 }
  let s1 := (s.modMesh fun m =>
    { m with replay := m.replay ++ [⟨src, fc, stampMs + 2000⟩]
             down := Tab.mapV m.down fun _ d => if d.dst = src then { d with leaf := some leaf } else d }).inc64 0x2000060
  let s2 := if bitOf fctl 4 then s1.observeRouter src (fieldLE b 30 4) else s1
  let s2 := if type = 2 then s2.ackIn src payload else s2
  let s3 := if s2.mesh.state == .bridged && s2.mesh.up.isEmpty then s2.bridgeUp u
    else
      let room := s2.queueRoom payload s2.upCells (fieldLE s.nwRec 26 2)
      let x := if type = 0 && (s2.mesh.state == .alone || !room) then s2.summarise payload else s2
      if room then x.modMesh fun m => { m with up := m.up ++ [u] }
      else
        let y := x.inc (nwCnt 4 false)
        if y.mesh.upFullPosted then y
        else (y.modMesh fun m => { m with upFullPosted := true }).postEvent 0x8004 (items [s.mtNs % 2 ^ 64])
  let s4 := if bitOf fctl 3 && fieldLE b 10 8 = s.coordinator then s3.openReply src fc else s3
  match s.frameRule type src payload with
  | some r => if s.dormant.seq == .none then s4 else s4.meshWake r src
  | none => s4

/-- The last PSDU byte (R274, R277): the checks in order, the STAMP against MT in whole ms; a duplicate that asks for it gets the same ACK (R279). -/
def meshEnd (b : List Byte) (fcsOk : Bool) (s : State) : State :=
  if s.mesh.rx != .payload then s
  else
    let s := s.meshSearch
    let fctl := fieldLE b 0 1
    let dst := fieldLE b 10 8
    let src := fieldLE b 2 8
    let fc := fieldLE b 24 4
    let d := signed 32 ((fieldLE b 18 4 + 2 ^ 32 - s.mtMs % 2 ^ 32) % 2 ^ 32)
    let named := ((s.mtMs : Int) + d).toNat
    if !fcsOk then s
    else if b.length < meshHdr b + 8 then s.inc (nwCnt 0 true)
    else if decide (64 ≤ fctl) || decide (3 < fctl % 8) || decide (16 ≤ fieldLE b 28 1)
        || decide (15 < fieldLE b 1 1 % 16 + fieldLE b 1 1 / 16) then s.inc (nwCnt 0 true)
    else if dst ≠ s.coordinator && dst ≠ 2 ^ 64 - 1 then s.inc (nwCnt 0 true)
    else if s.time.mtState == .notStarted then s
    else if decide (d < -2000) || decide (2000 ≤ d) || named < s.mesh.floor then s.inc (nwCnt 1 false)
    else if !(Tab.has s.mesh.keys (fieldLE b 28 1 % 8)) then s
    else match s.meshOpen b with
      | none => s.inc (nwCnt 1 true)
      | some payload =>
        if s.mesh.replay.any (fun e => e.src == src && e.fc == fc) then
          let s1 := s.inc (nwCnt 2 false)
          if bitOf fctl 3 && dst = s.coordinator then s1.openReply src fc else s1
        else if 16384 ≤ s.mesh.replay.length then
          (s.inc (nwCnt 2 true)).postOnce 1 0x8002 (items [s.mesh.replay.length, s.mesh.bsn])
        else s.meshAccept b payload named

def execMeshFrameEnd (psdu : List Byte) (fcsOk : Bool) (s : State) : Host.Outcome State Fault Refusal :=
  .next (meshEnd psdu fcsOk s)

/-- A replay-cache entry is freed at its expiry (R278). -/
def replayExpired (src fc : Nat) (s : State) : State :=
  s.modMesh fun m => { m with replay := m.replay.filter fun e =>
    !(e.src == src && e.fc == fc && decide (e.expiry ≤ s.mtMs)) }

def execReplayEntryExpiry (src fc : Nat) (s : State) : Host.Outcome State Fault Refusal :=
  .next (replayExpired src fc s)

/-! ## Mesh superframe and slots -/

/-- A mesh superframe starts (R280, R285, R286): BSN, a change point or the superframe after a re-anchor, a new epoch. A
pending step of MT (04 R107) takes effect here and moves the floor, the expiries and every instant kept in MT with it. The
grid goes on while the island recovers; an island in its reset state has none, and the row then only moves MT (log 143). -/
def meshSf (s0 : State) : State :=
  if s0.mesh.state == .reset then s0.mtFollows
  else if s0.mtNs < s0.mesh.next then s0
  else if s0.time.mtFollow && s0.ntValid then
    let s := s0.mtFollows
    let d : Int := (s.mtMs : Int) - s0.mtMs
    let mv := fun (x : Nat) => ((x : Int) + ((s.mtNs : Int) - s0.mtNs)).toNat
    let len := s.mesh.n * s.mesh.sfNs
    let off := (((s.mtNs : Int) - s.mesh.anchor) % len).toNat
    s.modMesh fun m =>
      { m with gap := off ≠ 0, next := if off = 0 then s.mtNs else s.mtNs + (len - off)
               floor := ((m.floor : Int) + d).toNat
               sfd := mv m.sfd
               down := Tab.mapV m.down fun _ x =>
                 { x with leaf := x.leaf.map fun l => { l with sfd := mv l.sfd }, woken := x.woken.map mv }
               routers := Tab.mapV m.routers fun _ r => { r with at_ := mv r.at_ }
               replies := m.replies.map fun r => { r with at_ := mv r.at_ }
               tx := m.tx.map fun x => { x with endAt := mv x.endAt }
               replay := m.replay.map fun e => { e with expiry := ((e.expiry : Int) + d).toNat } }
  else
    let s := s0
    let at_ := s.mesh.next
    let n := if s.mesh.change then s.get ⟨0x2000004, 5, 0⟩ + 1 else s.mesh.n
    let L := if s.mesh.change then s.sfNs else s.mesh.sfNs
    let bsn := if s.mesh.started then (s.mesh.bsn + 1) % 2 ^ 32 else 0
    let ep := match s.mesh.epochNext with
      | some (v, b) => if b ≤ bsn then some v else none
      | none => none
    s.modMesh fun m =>
      { m with
        anchor := if m.change then at_ else m.anchor
        n := n, sfNs := L
        slot := if m.change then s.get ⟨0x2000004, 8, 6⟩ else m.slot
        map := if m.change then mapOf s.reg else m.map
        change := false, gap := false, bsn := bsn, started := true, sf := at_, next := at_ + n * L
        posted := [], beaconSent := false, slotFirst := true
        epoch := ep.getD m.epoch, fc := if ep.isSome then 0 else m.fc
        epochNext := if ep.isSome then none else m.epochNext }

def execMeshSuperframeStart (s : State) : Host.Outcome State Fault Refusal := .next (meshSf s)

/-- A slot boundary (R288): a BEACON, SHARED or ROUTER slot keeps the main receivers on under RX_SAVE. -/
def slotStart (s : State) : State :=
  let k := s.slotKind
  s.modMesh fun m => { m with slotFirst := true, mainRx := k == 1 || k == 2 || k == 4 }

def execMeshSlotStart (s : State) : Host.Outcome State Fault Refusal := .next (slotStart s)

/-- The beacon in slot 0 (R285): 24 B and 4 B a run, extended by BEACON_GUARD; refused, event 0x8008 (cause 0 duty budget,
1 channel busy). -/
def meshBeacon (level : Int) (s : State) : State :=
  if !s.mesh.started || s.mesh.beaconSent || s.meshSlot ≠ 0 || s.mesh.state == .reset
      || s.mesh.state == .recovering || s.mesh.tx.isSome then s
  else
    let air := s.airTime (fieldLE s.nwRec 23 1 * 100000) (24 + 4 * s.mesh.map.length)
    let s := s.modMesh fun m => { m with beaconSent := true }
    let (st, s1) := s.meshSend .beacon s.frameBand air false level
    match st with
    | none => s1.meshFc.2
    | some o => if o = 0x0C || o = 0x53 then s1.postEvent 0x8008 (items [b2n (o == 0x53)]) else s1

def execMeshBeaconTx (level : Int) (s : State) : Host.Outcome State Fault Refusal := .next (meshBeacon level s)

/-- The frames waiting for a node, in order. -/
def State.downFor (s : State) (node : Nat) : Tab MeshDown := s.mesh.down.filter (fun e => e.2.dst == node)

/-- The reply window's next frame (R282): the ACK, then the downlink that waits for the node, each once. A window whose
frame falls due in a BEACON slot closes: there the island sends only the beacon (R281, R282). -/
def replyTx (level : Int) (s : State) : State :=
  match s.mesh.replies.find? (fun r => decide (r.at_ ≤ s.mtNs)) with
  | none => s
  | some r =>
    let close := fun (s : State) => s.modMesh fun m => { m with replies := m.replies.filter (·.node != r.node) }
    if s.mesh.tx.isSome then s
    else if s.slotKind == 1 then close s
    else
      match r.ack with
      | some _ =>
        let (st, s1) := s.meshSend (.ack r.node) s.frameBand (s.airTime 0 16) true level
        match st with
        | none => (s1.modMesh fun m => { m with replies := m.replies.map fun x => if x.node = r.node then { x with ack := none } else x }).meshFc.2
        | some _ => close s1
      | none =>
        match (s.downFor r.node).filter (fun e => !r.sent.contains e.1) with
        | e :: _ =>
          let s1 := s.sendDown e.1 0 true level
          if s1.mesh.tx.isSome then s1.modMesh fun m =>
            { m with replies := m.replies.map fun x => if x.node = r.node then { x with sent := e.1 :: x.sent } else x }
          else close s1
        | [] => close s

def execMeshReplyWindowTx (level : Int) (s : State) : Host.Outcome State Fault Refusal := .next (replyTx level s)

/-- A frame has gone in the present slot; another attempt waits for the node's next opportunity (R294). -/
def State.sentInSlot (s : State) (id : Nat) : State :=
  if s.mesh.tx.isSome then s.modDown id fun d => { d with lastSlot := some s.meshSlotStart } else s

/-- The leaf frames of a LISTEN slot (R282): queued, of a leaf that listens in this slot, within the guard, and not sent in
it yet. -/
def State.slotFrames (s : State) : List (Nat × Nat) :=
  let t := s.meshSlotStart + 5000000
  s.mesh.down.filterMap fun e =>
    match e.2.leaf with
    | none => none
    | some l =>
      if s.learned e.2.dst || e.2.lastSlot = some s.meshSlotStart || !(leafListens l.listenExp e.2.dst s.mesh.bsn) || s.leafSlot e.2.dst ≠ s.meshSlot then none
      else (s.guardFor l t).map fun g => (e.1, g)

/-- At T − G / 2 of a LISTEN slot (R282): the first frame with the largest guard of the slot, the others with a normal
preamble, as long as they end within it. -/
def listenTx (level : Int) (s : State) : State :=
  if s.slotKind ≠ 3 || s.mesh.tx.isSome then s
  else
    match s.slotFrames with
    | [] => s
    | (id, g0) :: rest =>
      let g := s.wholeGuard (if s.mesh.slotFirst then rest.foldl (fun m x => Nat.max m x.2) g0 else 0)
      let len := (Tab.get? s.mesh.down id).elim 0 (·.payload.length)
      if s.mtNs + g / 2 < s.meshSlotStart + 5000000
          || s.meshSlotStart + meshSlotNs s.mesh.slot < s.mtNs + s.airTime g len || s.replyDue (s.airTime g len) then s
      else
        let s1 := (s.sendDown id g false level).sentInSlot id
        if s1.mesh.tx.isSome then s1.modMesh fun m => { m with slotFirst := false } else s1

def execMeshListenSlotTx (level : Int) (s : State) : Host.Outcome State Fault Refusal := .next (listenTx level s)

/-- The ROUTER slot, by its start in MT, whose start on the router's predicted clock falls due now: half the guard before it
at the earliest, and within the slot's length (R284). -/
def State.routerSlot (s : State) (r : Router) (guard : Nat) : Option Nat :=
  let off := r.predict s.mtNs * 1000 + (s.wholeGuard guard / 2 : Nat)
  let len := meshSlotNs s.mesh.slot
  (((List.range s.meshSlots).filter fun i => kindIn s.mesh.map i == 4).map fun i => s.mesh.sf + i * len).find? fun t =>
    decide ((t : Int) ≤ s.mtNs + off) && decide ((s.mtNs : Int) + off < t + len)

/-- A frame for a LEARNED router at its predicted slot start, with a guard of 120 µs (R284). -/
def routerTx (id : Nat) (level : Int) (s : State) : State :=
  match Tab.get? s.mesh.down id with
  | none => s
  | some d =>
    match Tab.get? s.mesh.routers d.dst with
    | none => s
    | some r =>
      match s.routerSlot r 120000 with
      | none => s
      | some t =>
        if r.drift.isNone || d.lastSlot = some t || s.mesh.tx.isSome || s.replyDue (s.airTime 120000 d.payload.length) then s
        else
          let s1 := s.sendDown id 120000 false level
          if s1.mesh.tx.isSome then s1.modDown id fun d => { d with lastSlot := some t } else s1

def execMeshRouterSlotTx (id : Nat) (level : Int) (s : State) : Host.Outcome State Fault Refusal :=
  .next (routerTx id level s)

/-- Low 24 bits of the CRC-32 of a node's address (R287). -/
def wuaOf (addr : Nat) : Nat := nodeHash addr % 2 ^ 24

/-- The signal to send next: an NW_WAKE that waits, else one for a leaf with a wake-up receiver beyond the guard (R283). -/
def State.nextWake (s : State) : Option (Nat × Nat × Option (Nat × Nat)) :=
  match s.mesh.wakes with
  | w :: _ => some w
  | [] => (s.mesh.down.find? fun e => e.2.wake && e.2.woken.isNone && !s.learned e.2.dst && (match e.2.leaf with
      | some l => l.wur && (s.guardFor l (s.nextListen l e.2.dst)).isNone
      | none => false)).map fun e => (wuaOf e.2.dst, 1, none)

/-- A wake-up signal in a SHARED or LISTEN slot (R287), charged for 16 ms. LISTEN_NOW opens its window at its end. -/
def wakeTx (level : Int) (s : State) : State :=
  match s.nextWake with
  | none => s
  | some (wua, cmd, c) =>
    if (s.slotKind ≠ 2 && s.slotKind ≠ 3) || s.mesh.tx.isSome || s.replyDue 16000000 then s
    else
      let (st, s1) := s.meshSend (.wake wua cmd) s.wakeBand 16000000 false level
      let drop := fun (s : State) => s.modMesh fun m => { m with wakes := m.wakes.filter (fun w => !(w.1 == wua && w.2.1 == cmd && w.2.2 == c)) }
      match st with
      | none =>
        let s2 := (drop s1).modMesh fun m => { m with down := Tab.mapV m.down fun _ d =>
          if cmd = 1 && (wua = wuaOf d.dst || wua = 0xFFFFFF) then { d with woken := some (s.mtNs + 16000000) } else d }
        match c with
        | some (fn, tag) => s2.complete fn tag 0x00
        | none => s2
      | some o =>
        match c with
        | some (fn, tag) => if o = 0x0C then (drop s1).complete fn tag 0x0C else s1
        | none => s1

def execWakeSignalTx (level : Int) (s : State) : Host.Outcome State Fault Refusal := .next (wakeTx level s)

/-- 5.0 ms after a LISTEN_NOW, for 50 ms, a frame for the woken node goes with a guard of 0.5 ms (R287). -/
def listenNow (id : Nat) (level : Int) (s : State) : State :=
  match Tab.get? s.mesh.down id with
  | none => s
  | some d =>
    match d.woken with
    | none => s
    | some t =>
      if s.mtNs + s.wholeGuard 500000 / 2 < t + 5000000 then s
      else if t + 55000000 ≤ s.mtNs then s.modDown id fun d => { d with woken := none }
      else if s.mesh.tx.isSome || s.replyDue (s.airTime 500000 d.payload.length) then s
      else
        let s1 := s.sendDown id 500000 false level
        if s1.mesh.tx.isSome then s1.modDown id fun d => { d with woken := none } else s1

def execListenNowWindowTx (id : Nat) (level : Int) (s : State) : Host.Outcome State Fault Refusal :=
  .next (listenNow id level s)

/-- A transmission ends (R282, R294): a frame without ACK_REQ completes OK; the next reply follows after 1.000 ms. -/
def meshTxDone (s : State) : State :=
  match s.mesh.tx with
  | none => s
  | some t =>
    if s.mtNs < t.endAt then s
    else
      let s1 := s.modMesh fun m => { m with tx := none, searchFrom := s.elapsed }
      let node := match t.what with
        | .ack n => some n
        | .data id => (Tab.get? s.mesh.down id).map (·.dst)
        | _ => none
      let s2 := match t.what with
        | .data id => if (Tab.get? s.mesh.down id).elim false (fun d => !d.ackReq) then s1.downDone id 0x00 else s1
        | _ => s1
      if t.reply then
        s2.modMesh fun m =>
          let upd := m.replies.map (fun r => if some r.node = node then { r with at_ := t.endAt + 1000000 } else r)
          { m with replies := upd }
      else s2

def execMeshTxEnd (s : State) : Host.Outcome State Fault Refusal := .next (meshTxDone s)

/-- A queued frame's lifetime ends (R283, R294): NW_NO_ACK where it was sent unacknowledged, NW_BEYOND_GUARD where its leaf
lay beyond the guard, else its last obstacle, or NW_LIFETIME. -/
def meshLifetime (id : Nat) (s : State) : State :=
  match Tab.get? s.mesh.down id with
  | none => s
  | some d =>
    if s.elapsed < d.enq + ms d.lifeMs || (match s.mesh.tx with | some t => t.what == .data id | none => false) then s
    else
      let beyond := match d.leaf with
        | some l => !s.learned d.dst && (s.guardFor l (s.nextListen l d.dst)).isNone
        | none => false
      s.downDone id (if 0 < d.attempts then 0x52 else if beyond then 0x51 else d.obstacle)

def execMeshLifetimeExpiry (id : Nat) (s : State) : Host.Outcome State Fault Refusal := .next (meshLifetime id s)

/-- A router without a frame for ROUTER_AGE is freed (R284). -/
def routerAged (addr : Nat) (s : State) : State :=
  match Tab.get? s.mesh.routers addr with
  | some r =>
    if s.elapsed < r.heard + ms (fieldLE s.nwRec 40 2 * 1000) then s
    else s.modMesh fun m => { m with routers := Tab.del m.routers addr }
  | none => s

def execRouterAgeExpiry (addr : Nat) (s : State) : Host.Outcome State Fault Refusal := .next (routerAged addr s)

/-- The wake-up receiver takes a signal (R288): LISTEN_NOW opens the main receivers for WU_LISTEN, WAKE_CELL ends Dormant
where a rule allows it. -/
def wuSignal (wua cmd : Nat) (crcOk : Bool) (s : State) : State :=
  if !crcOk || (wua ≠ fieldLE s.nwRec 36 3 && wua ≠ 0xFFFFFF) || s.mesh.state == .reset || s.mesh.state == .recovering then s
  else if cmd = 1 then s.modMesh fun m => { m with wuOpen := some s.elapsed }
  else if cmd = 0x10 && s.dormant.seq != .none then
    match ((s.recsOf 0x0804).zipIdx).find? (fun (r, _) => fieldLE r 0 1 == 2 && bitOf (fieldLE r 5 1) 0) with
    | some (_, i) => s.meshWake i 0
    | none => s
  else s

def execWakeSignalRx (wua cmd : Nat) (crcOk : Bool) (s : State) : Host.Outcome State Fault Refusal :=
  .next (wuSignal wua cmd crcOk s)

/-- WU_LISTEN after a LISTEN_NOW the main receivers return to duty-cycling (R288). -/
def wuExpired (s : State) : State :=
  match s.mesh.wuOpen with
  | some t =>
    if s.elapsed < t + ms (fieldLE s.nwRec 31 1 * 10) then s
    else s.modMesh fun m => { m with wuOpen := none }
  | none => s

def execWuListenExpiry (s : State) : Host.Outcome State Fault Refusal := .next (wuExpired s)

/-- The watchdog of the sub-GHz transmitter (R293): event 0x8007 and a fault of the island, DETAIL 0xFF. -/
def meshWatchdog (s : State) : State :=
  match s.mesh.tx with
  | some t =>
    if s.elapsed ≤ t.from_ + ms (fieldLE s.nwRec 24 2) then s
    else (s.postEvent 0x8007 (items [s.mtNs % 2 ^ 64])).strobe .mesh 0x05 0xFF
  | none => s

def execMeshTxTimeout (s : State) : Host.Outcome State Fault Refusal := .next (meshWatchdog s)

/-- Put a frame in the DOWN queue, unless the queue is at DOWN_LIMIT or the cells are used up (R265, R269). -/
def State.queueDown (s : State) (d : MeshDown) : Option State :=
  if !(s.queueRoom d.payload s.downCells (fieldLE s.nwRec 28 2)) then none
  else
    some (s.modMesh fun m => { m with down := Tab.put m.down m.nextDown d, nextDown := m.nextDown + 1 })

/-- A bridged downlink frame reaches the island (R269): checked and queued, or dropped and counted; at an island that is not
bridged it is dropped and counted at the boundary (01 R33). -/
def meshDownlink (s : State) : State :=
  match s.mesh.inbox with
  | [] => s
  | f :: rest =>
    let s := s.modMesh fun m => { m with inbox := rest }
    let h := slice f 14 20
    let len := fieldLE h 14 2
    let life := fieldLE h 16 4
    let ok := fieldLE h 8 4 == 0 && decide (fieldLE h 12 1 < 4) && decide (fieldLE h 13 1 < 8)
      && decide (len ≤ 2009 - s.fcsBytes) && decide (34 + len ≤ f.length) && decide (1 ≤ life) && decide (life ≤ 3600000)
    if s.mesh.state != .bridged then s.refuseAt .pkt
    else if !ok then s.inc (nwCnt 6 false)
    else
      let d : MeshDown :=
        { dst := fieldLE h 0 8, payload := slice f 34 len, key := fieldLE h 13 1, ackReq := bitOf (fieldLE h 12 1) 0
          wake := bitOf (fieldLE h 12 1) 1, enq := s.elapsed, lifeMs := life, cmd := none }
      match s.queueDown d with
      | some s1 => s1
      | none => s.inc (nwCnt 6 true)

def execMeshDownlinkFrame (s : State) : Host.Outcome State Fault Refusal := .next (meshDownlink s)

/-! ## Commands (R294) -/

/-- The bridge's clock gates the island's commands (02 R54). -/
def State.nwGated (s : State) : Bool := s.gated 15

/-- A mesh command once its range is checked. -/
def State.onMesh (s : State) (c : Cmd) (ok : Bool) (act : State → State) : State :=
  if !ok then s.complete c.fn c.tag 0x02
  else if s.mesh.state == .reset then s.complete c.fn c.tag 0x03
  else match s.unitStatus .mesh with
    | some st => if st = 0x03 then act s else (s.refuseAt (.func c.fn)).complete c.fn c.tag st
    | none => act s

/-- NW_TX. -/
def nwSend (fn tag : Nat) (data : HostData) (s : State) : State :=
  s.runCmd fn tag 0x0810 byPF (fun _ => s.nwGated) fun c s =>
    let len := c.le 26 2
    let ok := decide (c.b 24 < 4) && decide (c.b 25 < 8) && Tab.has s.mesh.keys (c.b 25) && decide (len ≤ 2009 - s.fcsBytes)
      && decide (1 ≤ c.le 28 4) && decide (c.le 28 4 ≤ 3600000) && c.reservedOk [(16, 24)]
    s.onMesh c ok fun s =>
      match data with
      | none => s.complete fn tag 0x6E
      | some b =>
        let d : MeshDown :=
          { dst := c.le 16 8, payload := slice b 0 len, key := c.b 25, ackReq := bitOf (c.b 24) 0, wake := bitOf (c.b 24) 1
            enq := s.elapsed, lifeMs := c.le 28 4, cmd := some (fn, tag) }
        match s.queueDown d with
        | some s1 => s1.takeUp fn tag (some 25)
        | none => s.complete fn tag 0x50

def execNwTx (fn tag : Nat) (data : HostData) (s : State) : Host.Outcome State Fault Refusal := .next (nwSend fn tag data s)

/-- NW_WAKE: the signal waits for a SHARED or LISTEN slot. -/
def nwWakeUp (fn tag : Nat) (s : State) : State :=
  s.runCmd fn tag 0x0811 byPF (fun _ => s.nwGated) fun c s =>
    s.onMesh c ((c.b 19 == 1 || c.b 19 == 2) && c.reservedOk [(16, 4)]) fun s =>
      (s.takeUp fn tag (some 25)).modMesh fun m => { m with wakes := m.wakes ++ [(c.le 16 3, c.b 19, some (fn, tag))] }

def execNwWake (fn tag : Nat) (s : State) : Host.Outcome State Fault Refusal := .next (nwWakeUp fn tag s)

/-- NW_KEY, load: a copy of an AES-128 key of suite 0x10 in page 0 (12 R351). -/
def nwLoad (fn tag : Nat) (s : State) : State :=
  s.runCmd fn tag 0x0812 byPF (fun _ => s.nwGated) fun c s =>
    if c.b 17 = 1 then s
    else
      let slot := c.le 18 2
      let gen := s.bindGen slot
      let ok := decide (c.b 16 < 8) && c.b 17 == 0 && s.slotIn slot 0
        && (match gen with | some g => g.suite == 0x10 | none => true) && c.reservedOk [(16, 4)]
      s.onMesh c ok fun s =>
        match gen with
        | some g => (s.modMesh fun m => { m with keys := Tab.put m.keys (c.b 16) g.key }).complete fn tag 0x00
        | none => s.complete fn tag 0x55

def execNwKeyLoad (fn tag : Nat) (s : State) : Host.Outcome State Fault Refusal := .next (nwLoad fn tag s)

/-- NW_KEY, erase. -/
def nwErase (fn tag : Nat) (s : State) : State :=
  s.runCmd fn tag 0x0812 byPF (fun _ => s.nwGated) fun c s =>
    if c.b 17 ≠ 1 then s
    else
      s.onMesh c (decide (c.b 16 < 8) && c.reservedOk [(16, 4)]) fun s =>
        if Tab.has s.mesh.keys (c.b 16) then
          (s.modMesh fun m => { m with keys := Tab.del m.keys (c.b 16) }).complete fn tag 0x00
        else s.complete fn tag 0x55

def execNwKeyErase (fn tag : Nat) (s : State) : Host.Outcome State Fault Refusal := .next (nwErase fn tag s)

end Sys2Proof.Machine
end

