-- ==== Sys2Proof/Machine/Cipher.lean ====
section
/-! DEFINITION. The rows of the cipher engine (12). -/

namespace Sys2Proof.Machine

/-- The slot lies in a page the function owns, or the function is the PF (R351). -/
def State.mayUseSlot (s : State) (fn slot : Nat) : Bool :=
  fn == 0 || (match s.slotPage slot with
    | some p => p.owner == fn
    | none => false)

/-- The cipher engine's clock gates its commands (02 R54). -/
def State.cphGated (s : State) : Bool := s.gated 11

/-- A command on a slot that is checked up to its slot: range, unit, page (R351, R365). -/
def State.onSlot (s : State) (c : Cmd) (slot : Nat) (ok : Bool) (act : State → State) : State :=
  if !ok then s.complete c.fn c.tag 0x02
  else match s.unitStatus .cipher with
    | some st => (s.refuseAt (.func c.fn)).complete c.fn c.tag st
    | none => if !s.mayUseSlot c.fn slot then (s.isolationEvent c.fn slot).complete c.fn c.tag 0x09 else act s

/-- CPH_KEY, write (R353, R365, R366): it waits for its slot and proceeds by KEY_WRITE_PROCEED. -/
def keyWrite (fn tag : Nat) (block : HostData) (s : State) : State :=
  s.runCmd fn tag 0x0A01 (fun _ => true) (fun _ => s.cphGated) fun c s =>
    let slot := c.le 16 2
    if c.b 18 = 1 then s
    else s.onSlot c slot (decide (slot < 16384) && c.b 18 == 0
        && c.reservedOk [(16, 4), (24, 8)]) fun s =>
      if !((s.slotPage slot).elim false (fun p => p.admits (c.b 19))) then s.complete fn tag 0x65
      else if (s.slot slot).erasing.isSome then s.complete fn tag 0x66
      else match block with
        | none => s.complete fn tag 0x6E
        | some b =>
          if !blockOk (c.b 19) b then s.complete fn tag 0x02
          else
            let k := s.slot slot
            (s.takeUp fn tag (some 20)).setSlot slot { k with waiting := k.waiting ++ [⟨fn, tag, c.b 19, some b⟩] }

def execCphKeyWrite (fn tag : Nat) (block : HostData) (s : State) : Host.Outcome State Fault Refusal :=
  .next (keyWrite fn tag block s)

/-- CPH_KEY, erase (R354): at once, or behind the commands that run or wait for the slot. -/
def keyErase (fn tag : Nat) (s : State) : State :=
  s.runCmd fn tag 0x0A01 (fun _ => true) (fun _ => s.cphGated) fun c s =>
    let slot := c.le 16 2
    if c.b 18 ≠ 1 then s
    else s.onSlot c slot (decide (slot < 16384) && c.b 19 == 0 && c.reservedOk [(16, 4)]) fun s =>
      let k := s.slot slot
      if !k.waiting.isEmpty || k.erasing.isSome then
        (s.takeUp fn tag (some 20)).setSlot slot { k with waiting := k.waiting ++ [⟨fn, tag, 0, none⟩] }
      else if k.cur.isNone && k.ret.isNone then s.complete fn tag 0x64
      else (s.takeUp fn tag (some 20)).beginErase slot fn tag

def execCphKeyErase (fn tag : Nat) (s : State) : Host.Outcome State Fault Refusal := .next (keyErase fn tag s)

/-- An operation's reference ends; a retiring generation left with none is zeroised (R352). -/
def refEnd (op : Nat) (s : State) : State :=
  match Tab.get? s.cipher.ops op with
  | some o =>
    if o.service.isSome then s
    else { s with cipher := { s.cipher with ops := Tab.del s.cipher.ops op } }.zeroise o.slot
  | none => s

def execReferenceEnd (op : Nat) (s : State) : Host.Outcome State Fault Refusal := .next (refEnd op s)

/-- The write that waits first for a slot proceeds when no generation retires there and no erase runs (R353). -/
def keyProceed (slot : Nat) (s : State) : State :=
  let k := s.slot slot
  match k.waiting with
  | w :: rest =>
    match w.block with
    | some b =>
      if k.erasing.isSome || (k.ret.isSome && !s.sameKey slot w.suite b) then s
      else (((s.setSlot slot { k with waiting := rest }).installKey slot w.suite b).complete w.fn w.tag 0x00).nextWaiting slot
    | none => s.nextWaiting slot
  | [] => s

def execKeyWriteProceed (slot : Nat) (s : State) : Host.Outcome State Fault Refusal := .next (keyProceed slot s)

/-- An erase ends when no operation refers to a generation of the slot (R354): the slot reads EMPTY. -/
def keyErased (slot : Nat) (s : State) : State :=
  let k := s.slot slot
  match k.erasing with
  | some (fn, tag) =>
    if s.cipher.ops.any (fun o => o.2.slot == slot) then s
    else ((s.setSlot slot { gen := k.gen, waiting := k.waiting }).complete fn tag 0x00).nextWaiting slot
  | none => s

def execKeyEraseDone (slot : Nat) (s : State) : Host.Outcome State Fault Refusal := .next (keyErased slot s)

/-- What a service operation writes: nonce when made here, text, tag; or none on a tag failure (R363, R364). -/
def serviceOut (op : Nat) (key nonce aad text tag : List Byte) (hw : Bool) (tagLen : Nat) : Option (List Byte) :=
  let pre := if hw then nonce else []
  if op = 0 then
    let (ct, t) := gcmEncrypt key nonce aad text
    some (pre ++ ct ++ t.take tagLen)
  else if op = 2 then
    let (ct, t) := ccmEncrypt key nonce aad text tagLen
    some (pre ++ ct ++ t)
  else if op = 1 then
    if (gcmTag key nonce aad text).take tagLen = tag then some (gcmStream key nonce text) else none
  else ccmDecrypt key nonce aad text tag

/-- Source and destination that overlap without being the same buffer (R364). -/
def overlaps (src srcLen dst dstLen : Nat) : Bool :=
  src != dst && decide (0 < dstLen) && decide (src < dst + dstLen) && decide (dst < src + srcLen)

/-- CPH_CRYPT (R363): checked, bound to the slot's current generation, and run; SERVICE_OP_DONE ends it. -/
def cphCrypt (op fn tag : Nat) (data : HostData) (s : State) : State :=
  s.runCmd fn tag 0x0A10 (fun _ => true) (fun _ => s.cphGated) fun c s =>
    let slot := c.le 16 2
    let o := c.b 18 % 4
    let hw := bitOf (c.b 18) 2
    let enc := o % 2 == 0
    let gcm := decide (o < 2)
    let tl := c.b 19
    let nl := c.b 20
    let al := c.le 24 4
    let xl := c.le 28 4
    let srcLen := al + xl + (if enc then 0 else tl)
    let dstLen := xl + (if enc then tl else 0) + (if hw then 12 else 0)
    let ok := decide (slot < 16384) && decide (c.b 18 < 8) && (enc || !hw)
      && (if gcm then decide (12 ≤ tl) && decide (tl ≤ 16) else decide (4 ≤ tl) && decide (tl ≤ 16) && tl % 2 == 0)
      && (if gcm || hw then nl == 12 else decide (7 ≤ nl) && decide (nl ≤ 13))
      && decide (al ≤ 4096) && decide (xl ≤ 65536) && (gcm || decide (xl < 2 ^ (8 * (15 - nl)))) && decide (1 ≤ al + xl)
      && c.reservedOk [(16, 5), (24, 37)] && !overlaps (c.le 32 8) srcLen (c.le 40 8) dstLen
    if o ≠ op then s
    else s.onSlot c slot ok fun s =>
      match s.bindGen slot with
      | none => s.complete fn tag 0x64
      | some g =>
        if g.suite ≠ 0x30 && g.suite ≠ 0x31 then s.complete fn tag 0x65
        else if enc && g.locked then s.complete fn tag 0x08
        else match data with
          | none => s.complete fn tag 0x6E
          | some b =>
            if !s.cphRoom then s
            else
              let (ctr, s1) := if hw then s.drawCounter slot else (some 0, s)
              match ctr with
              | none => s1.complete fn tag 0x08
              | some n =>
                let nonce := if hw then g.salt.take 4 ++ beBytes 8 n else c.bytes 48 nl
                let out := serviceOut o g.key nonce (slice b 0 al) (slice b al xl) (slice b (al + xl) tl) hw tl
                (s1.takeUp fn tag (some 20)).cphAdmit
                  { slot := slot, gen := g.gen, service := some (fn, tag), dst := c.le 40 8, out := out
                    counter := if hw then n else 0 }

def execCphCryptGcmEncrypt (fn tag : Nat) (src : HostData) (s : State) : Host.Outcome State Fault Refusal :=
  .next (cphCrypt 0 fn tag src s)
def execCphCryptGcmDecrypt (fn tag : Nat) (src : HostData) (s : State) : Host.Outcome State Fault Refusal :=
  .next (cphCrypt 1 fn tag src s)
def execCphCryptCcmEncrypt (fn tag : Nat) (src : HostData) (s : State) : Host.Outcome State Fault Refusal :=
  .next (cphCrypt 2 fn tag src s)
def execCphCryptCcmDecrypt (fn tag : Nat) (src : HostData) (s : State) : Host.Outcome State Fault Refusal :=
  .next (cphCrypt 3 fn tag src s)

/-- A service operation finishes: its whole destination and OK in one step, or nothing and AUTH_FAIL (R364). -/
def serviceDone (op : Nat) (s : State) : State :=
  match Tab.get? s.cipher.ops op with
  | some o =>
    match o.service with
    | some (fn, tag) =>
      let s1 := { s with cipher := { s.cipher with ops := Tab.del s.cipher.ops op } }.zeroise o.slot
      if (s.cmd? fn tag).isNone then s1
      else match o.out with
      | some b => (s1.writeHost fn o.dst b).complete fn tag 0x00 o.counter
      | none => s1.complete fn tag 0x06
    | none => s
  | none => s

def execServiceOpDone (op : Nat) (s : State) : Host.Outcome State Fault Refusal := .next (serviceDone op s)

end Sys2Proof.Machine
end

