-- ==== Sys2Proof/Machine/Pkt.lean ====
section
/-! DEFINITION. The pipelines of the packet path and its commands (11 R300 to R343). -/

namespace Sys2Proof.Machine

/-! ## Parsing and tenants (R307 to R309) -/

/-- The source is a sub-port (R300). -/
def subOf (src : Nat) : Option Nat := if src < 10 then some src else none

/-- The pipeline a source feeds (R300). -/
def pipeOf (src : Nat) : Nat := if (4 ≤ src && src ≤ 7) || src = 9 || src = 0x12 then 1 else 0

/-- The tenant a VNI belongs to, among those with VNI_EN. -/
def State.vniTenant (s : State) (vni : Nat) : Option Nat :=
  (List.range 16).find? fun t => s.flag ⟨tenCfg t + 12, 24, 24⟩ && s.tenVni t == vni

/-- The inner frame and its tenant, where a sub-port in VXLAN mode decapsulates (R307). -/
def State.decap (s : State) (sub : Nat) (bs : List Byte) : Option (Nat × List Byte) :=
  let r := s.subRec sub
  let p := parse bs
  let o := p.l4 + 8
  let vtep := if bitOf (fieldLE r 3 1) 1 then p.v6 && p.dst == slice r 8 16 else p.v4 && p.dst.take 4 == slice r 8 4
  if s.subMode sub = 2 && vtep && p.good && !p.frag && p.hasL4 && p.proto = 17 && beNat p.l4dst = fieldLE r 24 2
      && fits bs o 8 && bitOf (fieldLE bs o 1) 3 then
    (s.vniTenant (fieldBE bs (o + 4) 3)).map fun t => (t, bs.drop (o + 8))
  else none

/-- The tenant of a frame, and its bytes after decapsulation or tag removal (R309). -/
def State.tenantOf (s : State) (src : Nat) (f : SrcFrame) : Option Nat × List Byte × Bool :=
  match subOf src with
  | some sub =>
    match s.decap sub f.bytes with
    | some (t, inner) => (some t, inner, true)
    | none =>
      let d := fieldLE (s.subRec sub) 2 1
      let dflt := if d < 16 && !(s.subRec sub).isEmpty then some d else none
      if s.subMode sub = 1 then
        match ((parse f.bytes).tags).head? with
        | some (_, tci) =>
          match (List.range 16).find? (fun t => s.tenVid t != 0 && s.tenVid t == tci % 4096) with
          | some t => (some t, popTag f.bytes, false)
          | none => (dflt, f.bytes, false)
        | none => (dflt, f.bytes, false)
      else (dflt, f.bytes, false)
  | none =>
    if src = 0x18 then
      let t := fieldLE (s.recBytes 0x0901) 12 1
      (if t < 16 && s.recBytes 0x0901 ≠ [] then some t else none, f.bytes, false)
    else (f.tenant, f.bytes, false)

/-! ## Classification (R311 to R315) -/

/-- A range comparator holds (R314); a disabled one, and one on a layer 4 field of a fragment, is false. -/
def State.rangeOk (s : State) (i : Nat) (p : Parsed) (len : Nat) : Bool :=
  i == 0xFF || (match Tab.get? s.pkt.ranges i with
    | none => false
    | some r =>
      let v := [beNat p.l4src, beNat p.l4dst, (p.tags.getD 0 (0, 0)).2 % 4096, (p.tags.getD 1 (0, 0)).2 % 4096, len, p.etherType].getD
        r.field 0
      !(p.frag && decide (r.field < 2)) && decide (r.low ≤ v) && decide (v ≤ r.high))

/-- A rule matches a key (R312). -/
def State.ruleMatches (s : State) (e key : List Byte) (p : Parsed) (len : Nat) : Bool :=
  let m := slice e 0x40 64
  List.zipWith (· &&& ·) key m == List.zipWith (· &&& ·) (slice e 0 64) m
    && s.rangeOk (fieldLE e 0x81 1) p len && s.rangeOk (fieldLE e 0x82 1) p len

/-- The action block of a rule, from its control byte on; the default action is all zeros (R312). -/
def actOf (e : List Byte) : List Byte := slice e 0x80 32

/-- Count a hit of a rule. -/
def State.hit (s : State) (i : Nat) : State := s.modPkt fun p => { p with hits := Tab.put p.hits i (Tab.getD p.hits i 0 + 1) }

/-- Classify (R311, R312): the flow table for IP frames, then the rules in index order. A flow whose rule is gone misses
(log 41). -/
def State.classify (s : State) (src tenant : Nat) (bs : List Byte) (vxlan : Bool) (up : Nat) : List Byte × State :=
  let p := parse bs
  let fk := leNat (p.key tenant)
  let flow := if p.v4 || p.v6 then (Tab.get? s.pkt.flows fk).bind fun f => (s.rule f.rule).map fun e => (f, e) else none
  match flow with
  | some (f, e) =>
    let s1 := s.modPkt fun q => { q with flows := Tab.put q.flows fk { f with seen := s.elapsed } }
    (actOf e, s1.hit f.rule)
  | none =>
    let key := classKey tenant src bs p vxlan (slice bs 0 6 == s.tenMac tenant) up
    match s.pkt.rules.find? (fun e => bitOf (fieldLE e.2 0x80 1) 0 && s.ruleMatches e.2 key p (bs.length + 4)) with
    | some (i, e) => (actOf e, s.hit i)
    | none => (List.replicate 32 0, s)

/-! ## Forwarding (R317 to R323) -/

/-- Where a copy goes (R319, R322): a wired sub-port with a tunnel, a station, the mesh island, the task scheduler with
queue, priority and reason, or the group queue of a BSS. DA and SA are those of a next hop, when it rewrites them. -/
inductive Dest where
  | wired (sub tunnel : Nat) (macs : Option (List Byte × List Byte))
  | station (sid : Nat)
  | mesh (macs : Option (List Byte × List Byte))
  | task (q prio reason : Nat)
  | group (r bss : Nat)
deriving DecidableEq, Repr

/-- The destination of a next hop (R319); TYPE 0 drops and is counted. -/
def NextHop.dest (h : NextHop) : Option Dest :=
  if h.type = 1 then some (.wired h.sub h.ref (some (h.da, h.sa)))
  else if h.type = 2 then some (.station h.ref)
  else if h.type = 3 then some (.mesh (some (h.da, h.sa)))
  else if h.type = 4 then some (.task h.sub 3 0x08)
  else none

/-- The destination of a forwarding entry (R321). -/
def FdbEntry.dest (e : FdbEntry) : Dest :=
  if e.type = 1 then .wired e.sub e.tunnel none
  else if e.type = 2 then .station e.sid
  else if e.type = 3 then .mesh none
  else .task e.sub 3 0x08

/-- Learn from a frame (R321): on a sub-port with LEARN. -/
def State.learn (s : State) (x : PktCtx) : State :=
  match subOf x.src with
  | none => s
  | some sub =>
    let sa := slice x.bytes 6 6
    let k := fdbKey x.tenant sa
    if !bitOf (fieldLE (s.subRec sub) 3 1) 0 || isGroup sa then s
    else
      let put := fun (s : State) => s.modPkt fun p =>
        { p with fdb := Tab.put p.fdb k { type := 1, sub := sub, origin := 2, seen := s.elapsed } }
      match Tab.get? s.pkt.fdb k with
      | some e => if e.origin = 2 then put s else s
      | none =>
        if s.fdbFull k then
          (s.inc (pktCnt 7 false)).modPkt fun p => { p with learnFail := Tab.put p.learnFail x.tenant (Tab.getD p.learnFail x.tenant 0 + 1) }
        else put s

/-- The destinations of a flooded frame (R322). -/
def State.flood (s : State) (x : PktCtx) : List Dest :=
  let c := s.get ⟨tenCfg x.tenant, 25, 16⟩
  let subs := (List.range 10).filter fun b => bitOf c b && subOf x.src != some b && s.filterPass b x.bytes
  let mesh := if s.flag ⟨tenCfg x.tenant, 14, 14⟩ then [Dest.mesh none] else []
  let from_ := if 0x10 ≤ x.src && x.src ≤ 0x12 then x.bss.map (fun b => (x.src - 0x10, b)) else none
  let bss := if !s.flag ⟨tenCfg x.tenant, 15, 15⟩ then [] else
    (List.range 3).flatMap fun r => ((List.range 16).filter fun b =>
      s.bssOn r b && s.bssTenant r b == x.tenant && (isGroup x.bytes || from_ != some (r, b))).map (Dest.group r ·)
  subs.map (Dest.wired · 0xFFFF none) ++ mesh ++ bss

/-- The copies of a bridged frame (R321, R322). -/
def State.bridge (s : State) (x : PktCtx) : List Dest :=
  if isGroup x.bytes then s.flood x
  else match Tab.get? s.pkt.fdb (fdbKey x.tenant x.bytes) with
    | some e => [e.dest]
    | none => s.flood x

/-- An individual IP destination (R317): neither multicast nor broadcast. -/
def ipIndividual (p : Parsed) : Bool :=
  if p.v4 then decide ((p.dst.getD 0 0#8).toNat < 224) else !(p.dst.getD 0 0#8 == 0xFF#8)

/-! ## Egress (R325 to R333) -/

/-- The rewrite of steps 1 to 4 of R325. -/
def rewrite (x : PktCtx) (macs : Option (List Byte × List Byte)) (ttl : Bool) (yellow : Option Nat) : List Byte :=
  let p := parse x.bytes
  let fl := fieldLE x.act 4 1
  let b1 := match macs with | some (da, sa) => setMacs x.bytes da sa | none => x.bytes
  let b2 := if ttl then decTtl b1 p else b1
  let b3 := if bitOf fl 2 then setDscp b2 p (fieldLE x.act 6 1) else b2
  let b4 := match yellow with | some d => setDscp b3 p d | none => b3
  if bitOf fl 3 then setPcp b4 p (fieldLE x.act 7 1) else b4

/-- Send one copy to its destination. `routed` says that the frame was routed, so that one was taken from its TTL. -/
def State.sendCopy (s : State) (x : PktCtx) (routed : Bool) (yellow : Option Nat) (d : Dest) : State :=
  let p := parse x.bytes
  let up := s.frameUp x p
  let macs := match d with
    | .wired _ _ m => m
    | .mesh m => m
    | _ => none
  let b := rewrite x macs routed yellow
  match d with
  | .task q prio reason => s.toTask { x with bytes := b } reason q prio
  | .station sid => s.toStation x sid up (toMsdu b (parse b))
  | .group r bss => s.toGroup x r bss up (toMsdu b (parse b))
  | .mesh _ => { s with mesh := { s.mesh with inbox := s.mesh.inbox ++ [b] } }.inc64 0x2400830
  | .wired sub tun _ =>
    let out := if s.subMode sub = 1 then pushTag b (s.tenVid x.tenant) up
      else if s.subMode sub = 2 then
        (match Tab.get? s.pkt.tunnels tun with | some t => pushTunnel t b (parse b) | none => b)
      else b
    let q := if bitOf (fieldLE x.act 4 1) 4 then fieldLE x.act 8 1 else s.get ⟨0x2400440 + 4 * sub, 3 * up + 2, 3 * up⟩
    if s.maxFrame sub < out.length + 4 + s.secOverhead sub && s.subUp sub then
      if routed then s.toTask x 0x04 0 2 else s.inc (pktCnt 5 true)
    else s.toWired x sub q out

/-- The policer, once for all copies (R327): none for red, else the DSCP of a yellow remark. -/
def State.police (s : State) (x : PktCtx) : Option (Option Nat) × State :=
  if !bitOf (fieldLE x.act 4 1) 5 then (some none, s)
  else
    let k := fieldLE x.act 0xE 2
    let p := s.policer k
    let (c, s1) := s.meter k (x.bytes.length + 4)
    if c = 0 then (some none, s1)
    else if c = 1 && p.yellow = 0 then (some none, s1)
    else if c = 1 && p.yellow = 1 then (some (some p.dscp), s1)
    else (none, s1)

/-- Police, then send every copy. -/
def State.deliver (s : State) (x : PktCtx) (routed : Bool) (ds : List Dest) : State :=
  if ds.isEmpty then s
  else match s.police x with
    | (none, s1) => s1.inc (pktCnt 2 true)
    | (some y, s1) => ds.foldl (fun s d => s.sendCopy x routed y d) s1

/-- A copy of a rule's COPY_CPU. -/
def PktCtx.copies (x : PktCtx) : List Dest :=
  if bitOf (fieldLE x.act 4 1) 0 then [.task (fieldLE x.act 9 1) (fieldLE x.act 10 1) 0x02] else []

/-- A frame to a next hop after the TTL rule (R319, R320, R323): the MTU is checked where the route gave the next hop. -/
def State.viaNextHop (s : State) (x : PktCtx) (routed mtu : Bool) (h : Option NextHop) : State :=
  let p := parse x.bytes
  if routed && p.ttlLow then s.deliver x false ([.task 0 2 0x03] ++ x.copies)
  else match h with
    | none => (s.inc (pktCnt 1 true)).deliver x false x.copies
    | some h =>
      if mtu && decide (h.mtu < p.ipLen) then s.deliver x false ([.task 0 2 0x04] ++ x.copies)
      else match h.dest with
        | none => (s.inc (pktCnt 1 true)).deliver x false x.copies
        | some d => s.deliver x routed ([d] ++ x.copies)

/-- The route of a frame after the lookup (R318). -/
def State.routeFound (s : State) (x : PktCtx) (r : Option PktRoute) : State :=
  let p := parse x.bytes
  match r with
  | some r => s.viaNextHop x true true (Tab.get? s.pkt.nextHops (r.base + (if 1 < r.count then p.hash % r.count else 0)))
  | none =>
    if s.flag ⟨tenCfg x.tenant, 13, 13⟩ then s.deliver x false ([.task 0 1 0x05] ++ x.copies)
    else (s.inc (pktCnt 1 true)).deliver x false x.copies

/-- Forward a classified frame (R317 to R323). -/
def State.forward (s0 : State) (x : PktCtx) : State :=
  let p := parse x.bytes
  let fwd := fieldLE x.act 3 1
  if fwd = 1 then s0.inc (pktCnt 2 false)
  else
    let s := s0.learn x
    let toRouter := slice x.bytes 0 6 == s.tenMac x.tenant
    let en := s.flag ⟨tenCfg x.tenant, 12, 12⟩
    let routed := en && toRouter && (p.v4 || p.v6) && p.good && ipIndividual p
    if fwd = 2 then s.deliver x false ([.task (fieldLE x.act 9 1) (fieldLE x.act 10 1) 0x01] ++ x.copies)
    else if fwd = 3 then s.viaNextHop x routed false (Tab.get? s.pkt.nextHops (fieldLE x.act 0xC 2))
    else if routed then
      if s.needsDram x.tenant p.v6 p.dst then s.modPkt fun q => { q with lpm := Tab.put q.lpm x.src x }
      else s.routeFound x (s.route x.tenant p.v6 p.dst (fun l => decide (l ≤ sramLen p.v6)))
    else if toRouter then
      let s1 := if en && (p.v4 || p.v6) && !p.good then s.inc (pktCnt 1 false) else s
      s1.deliver x false ([.task 0 4 0x06] ++ x.copies)
    else s.deliver x false (s.bridge x ++ x.copies)

/-- The UP of a frame's key (R313): that of its source, or of its outer tag. -/
def keyUp (src : Nat) (f : SrcFrame) (p : Parsed) : Nat :=
  if src == 0x10 || src == 0x11 || src == 0x12 then f.up else match p.tags.head? with | some (_, tci) => tci / 8192 | none => 0

/-- A pipeline may take a frame now: one every 4 fabric cycles (R301), two idle steps. -/
def State.pipeFree (s : State) (k : Nat) : Bool :=
  match Tab.get? s.pkt.piped k with
  | some t => decide (t + 2 ≤ s.elapsed)
  | none => true

/-- The policer that a source's head frame meets. -/
def State.headPolicer (s : State) (src : Nat) : Option Nat :=
  (Tab.getD s.fifos src []).head?.bind fun f =>
    match s.tenantOf src f with
    | (some t, bs, vx) =>
      let act := (s.classify src t bs vx (keyUp src f (parse bs))).1
      if f.noLlc || fieldLE act 3 1 = 1 || !bitOf (fieldLE act 4 1) 5 then none else some (fieldLE act 0xE 2)
    | _ => none

/-- Where both pipelines can take a frame that one policer meters, pipeline 0 goes first (R328). -/
def State.pipeYields (s : State) (src : Nat) : Bool :=
  pipeOf src == 1 && s.pipeFree 0 && (match s.headPolicer src with
    | some k => s.fifos.any fun e => pipeOf e.1 == 0 && !Tab.has s.pkt.lpm e.1 && s.headPolicer e.1 == some k
    | none => false)

/-- A pipeline takes the first frame of a source (R300 to R302, R308 to R323); the mesh island's drain follows (10 R271). -/
def pipeline (src : Nat) (s : State) : State :=
  match Tab.getD s.fifos src [] with
  | [] => s
  | f :: rest =>
    if !(s.inService .pkt) || s.stopped 10 || Tab.has s.pkt.lpm src || !s.pipeFree (pipeOf src) || s.pipeYields src then s
    else
      let s0 := { s with fifos := Tab.put s.fifos src rest }.modPkt fun q => { q with piped := Tab.put q.piped (pipeOf src) s.elapsed }
      let s1 := if src = 0x18 then s0.drainUp else s0
      match s1.tenantOf src f with
      | (none, _, _) => s1.inc (pktCnt 0 true)
      | (some t, bs, vx) =>
        let p := parse bs
        let up := keyUp src f p
        let x0 : PktCtx := { src := src, tenant := t, bytes := bs, up := up, act := List.replicate 32 0, bss := f.bss }
        if f.noLlc then s1.toTask x0 0x07 0 1
        else
          let (act, s2) := s1.classify src t bs vx up
          s2.forward { x0 with act := act }

def execPktPipelineFrame (src : Nat) (s : State) : Host.Outcome State Fault Refusal := .next (pipeline src s)

/-- The DRAM part of a route lookup returns, or fails (R303, R341, R344): then the frame is dropped but for the copy of COPY_CPU (R315). -/
def lpmResult (src : Nat) (ok : Bool) (s : State) : State :=
  match Tab.get? s.pkt.lpm src with
  | none => s
  | some x =>
    let s1 := s.modPkt fun p => { p with lpm := Tab.del p.lpm src }
    if !ok || s.boot.rejected.contains 0xD || !((List.range 4).any fun c => s.inService (.dram c)) then
      (s1.inc (pktCnt 7 true)).deliver x false x.copies
    else
      let p := parse x.bytes
      s1.routeFound x (s1.route x.tenant p.v6 p.dst (fun _ => true))

def execLpmDramResult (src : Nat) (ok : Bool) (s : State) : Host.Outcome State Fault Refusal := .next (lpmResult src ok s)

/-- A learned entry without a frame for FDB_AGE is freed (R321). -/
def fdbAged (tenant addr : Nat) (s : State) : State :=
  match Tab.get? s.pkt.fdb (tenant * 2 ^ 48 + addr) with
  | some e =>
    if e.origin ≠ 2 || s.elapsed < e.seen + ms (1000 * s.get ⟨0x2400010, 15, 0⟩) then s
    else s.modPkt fun p => { p with fdb := Tab.del p.fdb (tenant * 2 ^ 48 + addr) }
  | none => s

def execFdbAgeExpiry (tenant addr : Nat) (s : State) : Host.Outcome State Fault Refusal := .next (fdbAged tenant addr s)

/-- A flow entry with AGE without a hit for FLOW_AGE is freed (R342). -/
def flowAged (key : Nat) (s : State) : State :=
  match Tab.get? s.pkt.flows key with
  | some e =>
    if !e.aged || s.elapsed < e.seen + ms (1000 * s.get ⟨0x2400010, 31, 16⟩) then s
    else s.modPkt fun p => { p with flows := Tab.del p.flows key }
  | none => s

def execFlowAgeExpiry (key : Nat) (s : State) : Host.Outcome State Fault Refusal := .next (flowAged key s)

/-- A queue identifier names a queue: wireless with bit 15 0, or wired with sub-port 0 to 9 (R339). -/
def queueIdOk (v : Nat) : Bool := decide (v < 32768) || (decide (65536 ≤ v) && decide (v < 65536 + 80))

/-- A write of PKT_QDEPTH_SEL captures the queue (R339). -/
def qdepthSel (r : Requester) (v : Word) (s : State) : State :=
  s.access r 0x2400500 fun s =>
    let q := v.toNat % 131072
    if !queueIdOk q then s.invalidWrite r 0x2400500 v
    else (s.setReg 0x2400500 (BitVec.ofNat 32 q)).modPkt fun p => { p with captured := s.queueOf q }

def execQdepthSelWrite (r : Requester) (v : Word) (s : State) : Host.Outcome State Fault Refusal := .next (qdepthSel r v s)

/-! ## Commands (R342) -/

/-- The common part of a packet-path command: PF only, the block's clock, fields in range, the unit. -/
def State.pktCmd (s : State) (fn tag opcode : Nat) (fits ok : Cmd → Bool) (act : Cmd → State → State) : State :=
  s.runCmd fn tag opcode byPF (fun _ => s.gated 10) fun c s =>
    if !fits c then s
    else if !ok c then s.complete fn tag 0x02
    else match s.unitStatus .pkt with
      | some st => (s.refuseAt (.func fn)).complete fn tag st
      | none => act c s

/-- A rule entry's fields are in range (R315). -/
def ruleOk (e : List Byte) : Bool :=
  let f := fieldLE e
  e.length == 160 && decide (f 0x80 1 < 2) && (decide (f 0x81 1 < 64) || f 0x81 1 == 0xFF)
    && (decide (f 0x82 1 < 64) || f 0x82 1 == 0xFF) && decide (f 0x83 1 < 4) && decide (f 0x84 1 < 64)
    && decide (f 0x85 1 < 8) && decide (f 0x86 1 < 64) && decide (f 0x87 1 < 8) && decide (f 0x88 1 < 8)
    && decide (f 0x89 1 < 64) && decide (f 0x8A 1 < 8) && f 0x8B 1 == 0 && decide (f 0x8C 2 < 16384)
    && decide (f 0x8E 2 < 16384) && allZero (slice e 0x90 16)

/-- A rule's references are there (R315, R342). -/
def ruleHopRef (nextHops : Tab NextHop) (e : List Byte) : Bool := fieldLE e 0x83 1 != 3 || Tab.has nextHops (fieldLE e 0x8C 2)
def ruleRangeRefs (ranges : Tab RangeCmp) (e : List Byte) : Bool :=
  (fieldLE e 0x81 1 == 0xFF || Tab.has ranges (fieldLE e 0x81 1)) && (fieldLE e 0x82 1 == 0xFF || Tab.has ranges (fieldLE e 0x82 1))
def ruleRefs (nextHops : Tab NextHop) (ranges : Tab RangeCmp) (e : List Byte) : Bool :=
  ruleHopRef nextHops e && ruleRangeRefs ranges e

/-- The tenants whose frames a rule's action may take (R310): those its key admits, and those of flows that name it. -/
def State.ruleTenants (s : State) (i : Nat) (e : List Byte) : List Nat :=
  (if bitOf (fieldLE e 0x80 1) 0 then (List.range 16).filter fun t => t &&& fieldLE e 0x40 1 == fieldLE e 0 1 &&& fieldLE e 0x40 1 else [])
    ++ (s.pkt.flows.filter (fun f => f.2.rule == i)).map (fun f => f.1 % 256)

/-- The tenant of the station that a next hop names. -/
def State.hopTenant (s : State) (h : NextHop) : Option Nat := if h.type = 2 then s.staTenant h.ref else none

/-- A rule would send some tenant's frames to a station of another (R310). -/
def State.ruleForeign (s : State) (i : Nat) (e : List Byte) : Bool :=
  bitOf (fieldLE e 0x80 1) 0 && fieldLE e 0x83 1 == 3
    && (match (Tab.get? s.pkt.nextHops (fieldLE e 0x8C 2)).bind s.hopTenant with
      | some t => (s.ruleTenants i e).any (· != t)
      | none => false)

/-- PKT_RULE, write. -/
def ruleWrite (fn tag : Nat) (data : HostData) (s : State) : State :=
  s.pktCmd fn tag 0x0910 (fun c => !bitOf (c.b 18) 0)
    (fun c => decide (c.le 16 2 < 8192) && decide (c.b 18 < 2) && c.reservedOk [(16, 3), (24, 8)]) fun c s =>
    match data with
    | none => s.complete fn tag 0x6E
    | some e =>
      if !ruleOk e then s.complete fn tag 0x02
      else if !ruleRefs s.pkt.nextHops s.pkt.ranges e then s.complete fn tag 0x60
      else if s.ruleForeign (c.le 16 2) e then s.complete fn tag 0x09
      else (s.modPkt fun p => { p with rules := Tab.put p.rules (c.le 16 2) e }).complete fn tag 0

def execPktRuleWrite (fn tag : Nat) (data : HostData) (s : State) : Host.Outcome State Fault Refusal :=
  .next (ruleWrite fn tag data s)

/-- PKT_RULE, clear. -/
def ruleClear (fn tag : Nat) (s : State) : State :=
  s.pktCmd fn tag 0x0910 (fun c => bitOf (c.b 18) 0)
    (fun c => decide (c.le 16 2 < 8192) && decide (c.b 18 < 2) && c.reservedOk [(16, 3), (24, 8)]) fun c s =>
    if !Tab.has s.pkt.rules (c.le 16 2) then s.complete fn tag 0x5E
    else (s.modPkt fun p => { p with rules := Tab.del p.rules (c.le 16 2) }).complete fn tag 0

def execPktRuleClear (fn tag : Nat) (s : State) : Host.Outcome State Fault Refusal := .next (ruleClear fn tag s)

/-- The prefix of PKT_ROUTE: IPv6, length and value; bits beyond the length are 0. -/
def routeFields (b : List Byte) : Nat × Bool × Nat × Nat :=
  let v6 := bitOf (fieldLE b 1 1) 0
  (fieldLE b 0 1, v6, fieldLE b 2 1, beNat (slice b 8 (if v6 then 16 else 4)))

/-- The fields of a route are in range, bytes 16 on of the command (R342). -/
def routeOk (b : List Byte) : Bool :=
  let (t, v6, len, pre) := routeFields b
  let w := if v6 then 128 else 32
  decide (t < 16) && decide (fieldLE b 1 1 < 4) && decide (len ≤ w) && pre % 2 ^ (w - len) == 0 && (v6 || allZero (slice b 12 12))

/-- A next hop would send frames to a station of another tenant (R310). -/
def State.foreignHop (s : State) (tenant idx : Nat) : Bool :=
  match Tab.get? s.pkt.nextHops idx with
  | some h => (match s.hopTenant h with | some t => t != tenant | none => false)
  | none => false

/-- PKT_ROUTE, insert. -/
def routeAdd (fn tag : Nat) (s : State) : State :=
  s.pktCmd fn tag 0x0911 (fun c => !bitOf (c.b 17) 1)
    (fun c => routeOk (c.bytes 16 24) && decide (1 ≤ c.b 19) && decide (c.b 19 ≤ 16)
      && decide (c.le 20 2 + c.b 19 ≤ 16384) && c.reservedOk [(16, 6), (24, 16)]) fun c s =>
    let (t, v6, len, pre) := routeFields (c.bytes 16 24)
    let k := routeKey t v6 len pre
    let hops := (List.range (c.b 19)).map (c.le 20 2 + ·)
    if hops.any (fun i => !Tab.has s.pkt.nextHops i) then s.complete fn tag 0x60
    else if hops.any (s.foreignHop t) then s.complete fn tag 0x09
    else if !Tab.has s.pkt.routes k && decide (262144 < s.lpmUsed + 1 + b2n v6) then s.complete fn tag 0x5C
    else (s.modPkt fun p => { p with routes := Tab.put p.routes k ⟨c.le 20 2, c.b 19⟩ }).complete fn tag 0

def execPktRouteAdd (fn tag : Nat) (s : State) : Host.Outcome State Fault Refusal := .next (routeAdd fn tag s)

/-- PKT_ROUTE, delete. -/
def routeDelete (fn tag : Nat) (s : State) : State :=
  s.pktCmd fn tag 0x0911 (fun c => bitOf (c.b 17) 1)
    (fun c => routeOk (c.bytes 16 24) && c.reservedOk [(16, 6), (24, 16)]) fun c s =>
    let (t, v6, len, pre) := routeFields (c.bytes 16 24)
    let k := routeKey t v6 len pre
    if !Tab.has s.pkt.routes k then s.complete fn tag 0x5E
    else (s.modPkt fun p => { p with routes := Tab.del p.routes k }).complete fn tag 0

def execPktRouteDelete (fn tag : Nat) (s : State) : Host.Outcome State Fault Refusal := .next (routeDelete fn tag s)

/-- A next hop's fields are in range, bytes 16 on of the command. -/
def hopOk (b : List Byte) : Bool :=
  let t := fieldLE b 2 1
  decide (fieldLE b 0 2 < 16384) && decide (t ≤ 4) && (t != 1 || decide (fieldLE b 3 1 < 10)) && (t != 4 || decide (fieldLE b 3 1 < 64))
    && (t != 2 || decide (fieldLE b 4 2 < 8192)) && (t != 1 || decide (fieldLE b 4 2 < 1024) || fieldLE b 4 2 == 0xFFFF)
    && decide (68 ≤ fieldLE b 18 2) && decide (fieldLE b 18 2 ≤ 9198)

/-- A next hop as bytes 16 on of its command lay it out. -/
def hopOf (b : List Byte) : NextHop :=
  ⟨fieldLE b 2 1, fieldLE b 3 1, fieldLE b 4 2, slice b 6 6, slice b 12 6, fieldLE b 18 2⟩

/-- The tunnel a next hop names is there. -/
def hopRefs (tunnels : Tab (List Byte)) (h : NextHop) : Bool := h.type != 1 || h.ref == 0xFFFF || Tab.has tunnels h.ref

/-- A station next hop of a route or of a rule of another tenant (R310). -/
def State.hopForeign (s : State) (i : Nat) (h : NextHop) : Bool :=
  match s.hopTenant h with
  | some t =>
    (s.pkt.routes.any fun e => decide (e.2.base ≤ i) && decide (i < e.2.base + e.2.count) && decide (e.1 / 2 ^ 136 / 2 ≠ t))
      || (s.pkt.rules.any fun e => bitOf (fieldLE e.2 0x80 1) 0 && fieldLE e.2 0x83 1 == 3 && fieldLE e.2 0x8C 2 == i
        && (s.ruleTenants e.1 e.2).any (· != t))
  | none => false

/-- PKT_NEXT_HOP, write. -/
def nextHopWrite (fn tag : Nat) (s : State) : State :=
  s.pktCmd fn tag 0x0912 (fun c => !bitOf (c.b 36) 0)
    (fun c => hopOk (c.bytes 16 20) && decide (c.b 36 < 2) && c.reservedOk [(16, 21)]) fun c s =>
    let h := hopOf (c.bytes 16 20)
    let i := c.le 16 2
    if !hopRefs s.pkt.tunnels h then s.complete fn tag 0x60
    else if s.hopForeign i h then s.complete fn tag 0x09
    else (s.modPkt fun p => { p with nextHops := Tab.put p.nextHops i h }).complete fn tag 0

def execPktNextHopWrite (fn tag : Nat) (s : State) : Host.Outcome State Fault Refusal := .next (nextHopWrite fn tag s)

/-- A route or a rule names the next hop (R341). -/
def State.hopInUse (s : State) (i : Nat) : Bool :=
  s.pkt.routes.any (fun e => decide (e.2.base ≤ i) && decide (i < e.2.base + e.2.count))
    || s.pkt.rules.any (fun e => fieldLE e.2 0x83 1 == 3 && fieldLE e.2 0x8C 2 == i)

/-- PKT_NEXT_HOP, delete. -/
def nextHopDelete (fn tag : Nat) (s : State) : State :=
  s.pktCmd fn tag 0x0912 (fun c => bitOf (c.b 36) 0)
    (fun c => decide (c.le 16 2 < 16384) && decide (c.b 36 < 2) && c.reservedOk [(16, 21)]) fun c s =>
    let i := c.le 16 2
    if !Tab.has s.pkt.nextHops i then s.complete fn tag 0x5E
    else if s.hopInUse i then s.complete fn tag 0x5F
    else (s.modPkt fun p => { p with nextHops := Tab.del p.nextHops i }).complete fn tag 0

def execPktNextHopDelete (fn tag : Nat) (s : State) : Host.Outcome State Fault Refusal := .next (nextHopDelete fn tag s)

/-- A forwarding entry's fields are in range, bytes 16 on of the command. -/
def fdbOk (b : List Byte) : Bool :=
  let t := fieldLE b 8 1
  decide (fieldLE b 0 1 < 16) && !isGroup (slice b 2 6) && decide (1 ≤ t) && decide (t ≤ 4) && (t != 1 || decide (fieldLE b 9 1 < 10))
    && (t != 4 || decide (fieldLE b 9 1 < 64)) && (t != 2 || decide (fieldLE b 10 2 < 8192))
    && (t != 1 || decide (fieldLE b 12 2 < 1024) || fieldLE b 12 2 == 0xFFFF)

/-- A static entry as bytes 16 on of its command lay it out. -/
def fdbOf (b : List Byte) : FdbEntry :=
  { type := fieldLE b 8 1, sub := fieldLE b 9 1, sid := fieldLE b 10 2, tunnel := fieldLE b 12 2 }

/-- The tunnel an entry names is there. -/
def fdbRefs (tunnels : Tab (List Byte)) (e : FdbEntry) : Bool := e.type != 1 || e.tunnel == 0xFFFF || Tab.has tunnels e.tunnel

/-- PKT_FDB, write (R310, R321). -/
def fdbWrite (fn tag : Nat) (s : State) : State :=
  s.pktCmd fn tag 0x0913 (fun c => !bitOf (c.b 17) 0)
    (fun c => fdbOk (c.bytes 16 14) && decide (c.b 17 < 2) && c.reservedOk [(16, 14)]) fun c s =>
    let e := fdbOf (c.bytes 16 14)
    let k := fdbKey (c.b 16) (c.bytes 18 6)
    if !fdbRefs s.pkt.tunnels e then s.complete fn tag 0x60
    else if e.type = 2 && (match s.staTenant e.sid with | some t => t != c.b 16 | none => false) then s.complete fn tag 0x09
    else if !Tab.has s.pkt.fdb k && s.fdbFull k then s.complete fn tag 0x5D
    else (s.modPkt fun p => { p with fdb := Tab.put p.fdb k e }).complete fn tag 0

def execPktFdbWrite (fn tag : Nat) (s : State) : Host.Outcome State Fault Refusal := .next (fdbWrite fn tag s)

/-- PKT_FDB, delete. -/
def fdbDelete (fn tag : Nat) (s : State) : State :=
  s.pktCmd fn tag 0x0913 (fun c => bitOf (c.b 17) 0)
    (fun c => decide (c.b 16 < 16) && decide (c.b 17 < 2) && !isGroup (c.bytes 18 6) && c.reservedOk [(16, 14)]) fun c s =>
    let k := fdbKey (c.b 16) (c.bytes 18 6)
    if !Tab.has s.pkt.fdb k then s.complete fn tag 0x5E
    else (s.modPkt fun p => { p with fdb := Tab.del p.fdb k }).complete fn tag 0

def execPktFdbDelete (fn tag : Nat) (s : State) : Host.Outcome State Fault Refusal := .next (fdbDelete fn tag s)

/-- The key of PKT_FLOW, bytes 16 on of the command (R311, R342). -/
def flowKeyOf (b : List Byte) : Nat :=
  let f := fieldLE b 1 1
  leNat (flowKey (fieldLE b 0 1) (bitOf f 0) (bitOf f 3) (fieldLE b 2 1) (beBytes 2 (fieldLE b 4 2)) (beBytes 2 (fieldLE b 6 2))
    (slice b 8 16) (slice b 24 16))

/-- A flow's fields are in range. -/
def flowOk (b : List Byte) : Bool :=
  decide (fieldLE b 0 1 < 16) && decide (fieldLE b 1 1 < 16) && decide (fieldLE b 40 2 < 8192)
    && (bitOf (fieldLE b 1 1) 0 || (allZero (slice b 12 12) && allZero (slice b 28 12)))

/-- PKT_FLOW, insert. -/
def flowAdd (fn tag : Nat) (s : State) : State :=
  s.pktCmd fn tag 0x0914 (fun c => !bitOf (c.b 17) 1)
    (fun c => flowOk (c.bytes 16 42) && c.reservedOk [(16, 3), (20, 38)]) fun c s =>
    let k := flowKeyOf (c.bytes 16 42)
    if (s.rule (c.le 56 2)).isNone then s.complete fn tag 0x60
    else if (s.rule (c.le 56 2)).any (fun e => fieldLE e 0x83 1 == 3 && s.foreignHop (c.b 16) (fieldLE e 0x8C 2)) then
      s.complete fn tag 0x09
    else if !Tab.has s.pkt.flows k && s.flowFull k then s.complete fn tag 0x5D
    else (s.modPkt fun p => { p with flows := Tab.put p.flows k ⟨c.le 56 2, bitOf (c.b 17) 2, s.elapsed⟩ }).complete fn tag 0

def execPktFlowAdd (fn tag : Nat) (s : State) : Host.Outcome State Fault Refusal := .next (flowAdd fn tag s)

/-- PKT_FLOW, delete. -/
def flowDelete (fn tag : Nat) (s : State) : State :=
  s.pktCmd fn tag 0x0914 (fun c => bitOf (c.b 17) 1)
    (fun c => flowOk (c.bytes 16 42) && c.reservedOk [(16, 3), (20, 38)]) fun c s =>
    let k := flowKeyOf (c.bytes 16 42)
    if !Tab.has s.pkt.flows k then s.complete fn tag 0x5E
    else (s.modPkt fun p => { p with flows := Tab.del p.flows k }).complete fn tag 0

def execPktFlowDelete (fn tag : Nat) (s : State) : Host.Outcome State Fault Refusal := .next (flowDelete fn tag s)

/-- A comparator's fields are in range, bytes 16 on of the command. -/
def rangeFieldsOk (b : List Byte) : Bool :=
  decide (fieldLE b 0 1 < 64) && (fieldLE b 1 1 == 0xFF || (decide (fieldLE b 1 1 ≤ 5) && decide (fieldLE b 2 2 ≤ fieldLE b 4 2)))

/-- PKT_RANGE, set. -/
def rangeSet (fn tag : Nat) (s : State) : State :=
  s.pktCmd fn tag 0x0915 (fun c => c.b 17 != 0xFF) (fun c => rangeFieldsOk (c.bytes 16 6) && c.reservedOk [(16, 6)]) fun c s =>
    (s.modPkt fun p => { p with ranges := Tab.put p.ranges (c.b 16) ⟨c.b 17, c.le 18 2, c.le 20 2⟩ }).complete fn tag 0

def execPktRangeSet (fn tag : Nat) (s : State) : Host.Outcome State Fault Refusal := .next (rangeSet fn tag s)

/-- PKT_RANGE, disable. -/
def rangeDisable (fn tag : Nat) (s : State) : State :=
  s.pktCmd fn tag 0x0915 (fun c => c.b 17 == 0xFF) (fun c => rangeFieldsOk (c.bytes 16 6) && c.reservedOk [(16, 6)]) fun c s =>
    (s.modPkt fun p => { p with ranges := Tab.del p.ranges (c.b 16) }).complete fn tag 0

def execPktRangeDisable (fn tag : Nat) (s : State) : Host.Outcome State Fault Refusal := .next (rangeDisable fn tag s)

/-- A tunnel template's fields are in range (R343). -/
def tunnelOk (t : List Byte) : Bool :=
  t.length == 64 && decide (fieldLE t 0 1 < 4) && !bitOf (fieldLE t 1 1) 6 && decide (1 ≤ fieldLE t 2 1) && fieldLE t 3 1 == 0
    && fieldLE t 7 1 == 0 && decide (1 ≤ fieldLE t 0x16 2) && allZero (slice t 0x38 8)

/-- PKT_TUNNEL, write. -/
def tunnelWrite (fn tag : Nat) (data : HostData) (s : State) : State :=
  s.pktCmd fn tag 0x0916 (fun c => !bitOf (c.b 18) 0)
    (fun c => decide (c.le 16 2 < 1024) && decide (c.b 18 < 2) && c.reservedOk [(16, 3), (24, 8)]) fun c s =>
    match data with
    | none => s.complete fn tag 0x6E
    | some t =>
      if !tunnelOk t then s.complete fn tag 0x02
      else (s.modPkt fun p => { p with tunnels := Tab.put p.tunnels (c.le 16 2) t }).complete fn tag 0

def execPktTunnelWrite (fn tag : Nat) (data : HostData) (s : State) : Host.Outcome State Fault Refusal :=
  .next (tunnelWrite fn tag data s)

/-- A next hop or a forwarding entry names the tunnel (R341). -/
def State.tunnelInUse (s : State) (i : Nat) : Bool :=
  s.pkt.nextHops.any (fun e => e.2.type == 1 && e.2.ref == i) || s.pkt.fdb.any (fun e => e.2.type == 1 && e.2.tunnel == i)

/-- PKT_TUNNEL, clear. -/
def tunnelClear (fn tag : Nat) (s : State) : State :=
  s.pktCmd fn tag 0x0916 (fun c => bitOf (c.b 18) 0)
    (fun c => decide (c.le 16 2 < 1024) && decide (c.b 18 < 2) && c.reservedOk [(16, 3), (24, 8)]) fun c s =>
    if !Tab.has s.pkt.tunnels (c.le 16 2) then s.complete fn tag 0x5E
    else if s.tunnelInUse (c.le 16 2) then s.complete fn tag 0x5F
    else (s.modPkt fun p => { p with tunnels := Tab.del p.tunnels (c.le 16 2) }).complete fn tag 0

def execPktTunnelClear (fn tag : Nat) (s : State) : Host.Outcome State Fault Refusal := .next (tunnelClear fn tag s)

/-- A policer's fields are in range, bytes 16 on of the command. -/
def policerOk (b : List Byte) : Bool :=
  let m := fieldLE b 2 1
  let rate := fun v => decide (8 ≤ v) && decide (v ≤ 200000000)
  let size := fun v => decide (1600 ≤ v) && decide (v ≤ 16777216)
  decide (fieldLE b 0 2 < 16384) && decide (m ≤ 2) && decide (fieldLE b 3 1 ≤ 2) && rate (fieldLE b 4 4)
    && (if m = 2 then decide (fieldLE b 4 4 ≤ fieldLE b 8 4) else fieldLE b 8 4 == 0)
    && size (fieldLE b 12 4) && size (fieldLE b 16 4) && decide (fieldLE b 20 1 < 64)

/-- A policer as bytes 16 on of its command lay it out. -/
def policerOf (b : List Byte) : Policer :=
  { mode := fieldLE b 2 1, yellow := fieldLE b 3 1, cir := fieldLE b 4 4, pir := fieldLE b 8 4, cbs := fieldLE b 12 4
    ebs := fieldLE b 16 4, dscp := fieldLE b 20 1 }

/-- The status of a command that changes a staged setting of unit u (05 R131, R134, R137). -/
def State.stageStatus (s : State) (u : Nat) : Option Nat :=
  if s.inBoundary then some 0x0F
  else if !s.commit.stageOpen || (s.commit.locked && s.commit.part.getLsbD u) then some 0x20
  else none

/-- PKT_POLICER writes the staged bank (R328, R342). -/
def policerWrite (fn tag : Nat) (s : State) : State :=
  s.pktCmd fn tag 0x0917 (fun _ => true) (fun c => policerOk (c.bytes 16 21) && c.reservedOk [(16, 21)]) fun c s =>
    match s.stageStatus 19 with
    | some st => s.complete fn tag st
    | none =>
      (s.modPkt fun p => { p with policersStaged := Tab.put p.policersStaged (c.le 16 2) (policerOf (c.bytes 16 21)) }).complete fn tag 0

def execPktPolicer (fn tag : Nat) (s : State) : Host.Outcome State Fault Refusal := .next (policerWrite fn tag s)

end Sys2Proof.Machine
end

