-- ==== Sys2Proof/Machine/ImageChecks.lean ====
section
/-! DEFINITION. The checks of an image's records, subject by subject (03 R83 to R87 and the record tables of each
chapter). A failure is (offset in the image, record type, status); a failed check across records counts at the later record. -/

namespace Sys2Proof.Machine

/-- A failed check: offset, type, status. -/
abbrev RecFail := Nat × Nat × Nat

/-- What the checks of an image's records rest on: the variant, the fuses, the end of the record area, and the records. -/
structure Almanac where
  isZ73 : Bool
  fuses : Fuses
  fin : Nat
  recs : List Rec

/-! ## Forms of checks -/

/-- Records of a type, in the order of the image. -/
def Almanac.of (a : Almanac) (t : Nat) : List Rec := a.recs.filter (·.type == t)

/-- The first record's payload of a type. -/
def Almanac.first (a : Almanac) (t : Nat) : List Byte := ((a.of t).head?).elim [] (·.payload)

/-- Failures with ALM_RECORD at records. -/
def failAt (l : List Rec) : List RecFail := l.map fun r => (r.offset, r.type, 0x19)

/-- Records of a type whose payload fails. -/
def Almanac.bad (a : Almanac) (t : Nat) (ok : List Byte → Bool) : List RecFail := failAt ((a.of t).filter fun r => !ok r.payload)

/-- Records of a type that fail a check across records, each at the last of the records involved (R87). -/
def Almanac.across (a : Almanac) (t : Nat) (ok : List Byte → Bool) (others : List Byte → List Rec) : List RecFail :=
  failAt (((a.of t).filter fun r => !ok r.payload).map fun r =>
    (others r.payload).foldl (fun m x => if m.offset < x.offset then x else m) r)

/-- Records beyond the n allowed. -/
def Almanac.over (a : Almanac) (t n : Nat) : List RecFail := failAt ((a.of t).drop n)

/-- A required record that is missing fails at the end of the record area. -/
def Almanac.missing (a : Almanac) (t : Nat) (there : Bool) : List RecFail := if there then [] else [(a.fin, t, 0x19)]

/-- Exactly one record of a type. -/
def Almanac.once (a : Almanac) (t : Nat) : List RecFail := a.over t 1 ++ a.missing t (!(a.of t).isEmpty)

/-- Records whose key an earlier one has. -/
def repeated (key : List Byte → Nat) : List Nat → List Rec → List Rec
  | _, [] => []
  | seen, r :: rs =>
    if seen.contains (key r.payload) then r :: repeated key seen rs else repeated key (key r.payload :: seen) rs

/-- No two records of a type share a key. -/
def Almanac.unique (a : Almanac) (t : Nat) (key : List Byte → Nat) : List RecFail := failAt (repeated key [] (a.of t))

/-- Records that clash with an earlier one. -/
def clashing (meet : List Byte → List Byte → Bool) : List (List Byte) → List Rec → List Rec
  | _, [] => []
  | seen, r :: rs => (if seen.any (meet r.payload) then [r] else []) ++ clashing meet (seen ++ [r.payload]) rs

/-- At most n records of a type share a key. -/
def Almanac.atMostPer (a : Almanac) (t n : Nat) (key : List Byte → Nat) : List RecFail :=
  failAt ((((a.of t).map (fun r => key r.payload)).eraseDups).flatMap fun k => ((a.of t).filter (fun r => key r.payload == k)).drop n)

/-- A record of a subject with a type its chapter does not define. -/
def Almanac.undefinedTypes (a : Almanac) (subject : Nat) (known : List Nat) : List RecFail :=
  failAt (a.recs.filter fun r => r.type / 256 == subject && !known.contains (r.type % 256))

/-! ## Subjects 01, 02, 03 and 0E (R85 order 9) -/

/-- The first 32 bytes of the SHA-512 of a key: its fuse hash (R84). -/
def keyHash (k : List Byte) : List Byte := (sha512 k).take 32

/-- 0x0102: the vendor key, its signature over the rest, FW_VERSION, FW_ROLLBACK and the code (R83). -/
def firmwareOk (f : Fuses) (b : List Byte) : Bool :=
  inR b.length (104 + 65536) (104 + 8388608) && keyHash (slice b 0 32) == f.vendor
    && ed25519Verify (slice b 0 32) (sha512 (b.drop 96)) (slice b 32 64) && decide (fieldLE b 100 4 ≤ 64)

/-- A signed value in a range. -/
def inRS (v lo hi : Int) : Bool := decide (lo ≤ v) && decide (v ≤ hi)
/-- The payload has n bytes and those in the listed (offset, size) fields are 0. -/
def form (b : List Byte) (n : Nat) (zero : List (Nat × Nat)) : Bool :=
  b.length == n && zero.all fun z => allZero (slice b z.1 z.2)
/-- A signed little-endian field. -/
def fieldS (b : List Byte) (o n : Nat) : Int := signed (8 * n) (fieldLE b o n)

/-- Failures of subject 01: FW_ROLLBACK below the fuse counter has a status of its own. -/
def Almanac.subject1 (a : Almanac) : List RecFail :=
  a.once 0x0101 ++ a.bad 0x0101 (fun b => form b 4 [(2, 2)] && inR (fieldLE b 0 2) 1 600) ++ a.once 0x0102
    ++ a.bad 0x0102 (firmwareOk a.fuses)
    ++ ((a.of 0x0102).filter (fun r => firmwareOk a.fuses r.payload && decide (fieldLE r.payload 100 4 < a.fuses.rollback))).map
        (fun r => (r.offset, r.type, 0x16))
    ++ a.undefinedTypes 1 [1, 2, 3, 4]

/-- 0x0201 (04 R125). -/
def timeSourceOk (b : List Byte) : Bool :=
  let p := fieldLE b 0 1
  let q := fieldLE b 1 1
  form b 16 [(7, 1), (12, 4)] && decide (p ≤ 2) && (q == 0 || (decide (q ≤ 2) && q != p && p != 0)) && decide (fieldLE b 2 1 ≤ 127)
    && [1, 2, 4].contains (fieldLE b 3 1 % 8) && decide (fieldLE b 3 1 < 16) && decide (fieldLE b 4 2 < 256)
    && (fieldLE b 4 2 != 0 || (p != 1 && q != 1)) && inR (fieldLE b 6 1) 1 240 && decide (fieldLE b 8 4 ≤ 60000)

/-- 0x0202. -/
def timeLimitsOk (b : List Byte) : Bool :=
  form b 16 [(14, 2)] && inR (fieldLE b 0 4) 100 1000000000 && inR (fieldLE b 4 4) 100 1000000000
    && inR (fieldLE b 8 4) 50 1000000 && inR (fieldLE b 12 1) 4 64 && decide (fieldLE b 13 1 < 4)

/-- 0x0203. -/
def ppsOk (b : List Byte) : Bool :=
  form b 16 [(2, 2)] && decide (fieldLE b 0 1 ≤ 7) && decide (fieldLE b 1 1 < 4) && inRS (fieldS b 4 4) (-100000) 100000
    && inRS (fieldS b 8 4) (-500000000) 499999999 && inR (fieldLE b 12 4) 1000 500000000

/-- Failures of subject 02. -/
def Almanac.subject2 (a : Almanac) : List RecFail :=
  let src := a.first 0x0201
  a.once 0x0201 ++ a.bad 0x0201 timeSourceOk ++ a.once 0x0202 ++ a.bad 0x0202 timeLimitsOk ++ a.over 0x0203 1 ++ a.bad 0x0203 ppsOk
    ++ a.missing 0x0203 (!(a.of 0x0203).isEmpty || (fieldLE src 0 1 != 2 && fieldLE src 1 1 != 2)) ++ a.over 0x0204 1
    ++ a.bad 0x0204 (fun b => form b 32 [] && (List.range 8).all (fun i => inRS (fieldS b (4 * i) 4) (-1000000) 1000000))
    ++ a.undefinedTypes 2 [1, 2, 3, 4]

/-- 0x0301 (05 R153). -/
def meridianOk (b : List Byte) : Bool :=
  form b 8 [(6, 2)] && decide (fieldLE b 0 4 ≤ 204799999) && decide (fieldLE b 4 1 ≤ 3) && decide (fieldLE b 5 1 ≤ 4)
    && (fieldLE b 5 1 != 1 || fieldLE b 4 1 == 0)

/-- 0x0302. -/
def dormantPolicyOk (b : List Byte) : Bool :=
  form b 16 [(3, 1), (12, 4)] && (decide (fieldLE b 0 1 ≤ 4) || fieldLE b 0 1 == 7) && decide (fieldLE b 1 1 < 8)
    && bitsOf (fieldLE b 2 1) 6 5 == 0

/-- Failures of subject 03. -/
def Almanac.subject3 (a : Almanac) : List RecFail :=
  a.once 0x0301 ++ a.bad 0x0301 meridianOk ++ a.over 0x0302 1 ++ a.bad 0x0302 dormantPolicyOk ++ a.undefinedTypes 3 [1, 2]

/-- The entries of 0x0E01: rail, STEP_MAX, SLEW_MAX, ESTIMATE. -/
def railEntries (b : List Byte) : List (Nat × Nat × Nat × Nat) :=
  (List.range (fieldLE b 0 1)).map fun i =>
    (fieldLE b (4 + 8 * i) 1, fieldLE b (6 + 8 * i) 2, fieldLE b (8 + 8 * i) 2, fieldLE b (10 + 8 * i) 2)

/-- 0x0E01 (16 R476): estimates are for the rails without on-die measurement. -/
def railsOk (b : List Byte) : Bool :=
  let n := fieldLE b 0 1
  let l := railEntries b
  inR n 1 11 && form b (4 + 8 * n) ((1, 3) :: (List.range n).map (fun i => (5 + 8 * i, 1)))
    && l.all (fun (r, st, sl, e) => inR r 3 13 && inR st (railLargest r) 2000 && inR sl 10 10000 && decide (e ≤ 500)
      && (e == 0 || [6, 7, 11, 12].contains r))
    && ((l.map (·.1)).eraseDups).length == n

/-- 0x0E02. -/
def healthOk (b : List Byte) : Bool :=
  form b 12 [(6, 6)] && inR (fieldLE b 0 1) 85 108 && inR (fieldLE b 1 1) (fieldLE b 0 1 + 5) 120 && decide (fieldLE b 2 2 ≤ 3600)
    && bitsOf (fieldLE b 4 1) 6 5 == 0 && inR (fieldLE b 5 1) 1 200

/-- Failures of subject 0E. -/
def Almanac.subject14 (a : Almanac) : List RecFail :=
  a.once 0x0E01 ++ a.bad 0x0E01 railsOk ++ a.over 0x0E02 1 ++ a.bad 0x0E02 healthOk ++ a.undefinedTypes 14 [1, 2]

/-! ## Subjects 04 to 06 -/

/-- 0x0401 (06 R177). -/
def feOptionsOk (b : List Byte) : Bool :=
  form b 12 [(5, 3)] && inR (fieldLE b 0 2) 55 150 && inR (fieldLE b 2 1) 8 80 && inR (fieldLE b 3 1) 8 80
    && decide (fieldLE b 3 1 < fieldLE b 2 1) && decide (fieldLE b 4 1 < 8) && decide (fieldLE b 8 4 ≤ 180000)

/-- The centre frequencies of a radio in MHz (00 R1). -/
def centreRange (r : Nat) : Nat × Nat := if r = 0 then (2400, 2483) else if r = 1 then (5150, 5925) else (5925, 7125)

/-- 0x0402. -/
def regLimitOk (b : List Byte) : Bool :=
  let r := fieldLE b 0 1
  form b 8 [(5, 3)] && decide (r < 3) && decide (fieldLE b 1 1 ≤ maxWidth r)
    && inR (fieldLE b 2 2) (centreRange r).1 (centreRange r).2 && inRS (fieldS b 4 1) (-40) (if r = 2 then 72 else 80)

/-- A chain index exists on the variant. -/
def Almanac.chainOk (a : Almanac) (i : Nat) : Bool :=
  decide (i < 160) && decide ((chainOf i).2 < (if a.isZ73 then (if (chainOf i).1 = 0 then 8 else 16) else if (chainOf i).1 = 0 then 32 else 64))

/-- Failures of subject 04. -/
def Almanac.subject4 (a : Almanac) : List RecFail :=
  a.once 0x0401 ++ a.bad 0x0401 feOptionsOk ++ a.missing 0x0402 (!(a.of 0x0402).isEmpty) ++ a.over 0x0402 512 ++ a.bad 0x0402 regLimitOk
    ++ a.unique 0x0402 (fun b => fieldLE b 0 4) ++ a.over 0x0403 160
    ++ a.bad 0x0403 (fun b => form b 4 [(1, 1)] && a.chainOk (fieldLE b 0 1) && decide (fieldLE b 2 2 < 1024)) ++ a.undefinedTypes 4 [1, 2, 3]

/-- 0x0501 (07 R203). -/
def bbOptionsOk (b : List Byte) : Bool :=
  form b 12 [(10, 2)] && decide (fieldLE b 0 1 < 3) && inRS (fieldS b 1 1) (-95) (-62) && inR (fieldLE b 2 1) 3 20
    && inR (fieldLE b 3 1) (fieldLE b 2 1) 20 && decide (fieldLE b 4 1 < 2) && inR (fieldLE b 5 1) 2 200 && inR (fieldLE b 6 1) 10 200
    && inR (fieldLE b 7 1) 10 90 && inR (fieldLE b 8 1) (fieldLE b 7 1 + 1) 100 && inR (fieldLE b 9 1) 10 30

/-- 0x0502. -/
def initialChannelOk (b : List Byte) : Bool :=
  form b 8 [(6, 2)] && decide (fieldLE b 0 1 < 3)
    && channelOk (fieldLE b 0 1) (fieldLE b 1 1) (fieldLE b 2 1) (fieldLE b 3 1) (fieldLE b 4 2)

/-- One record of a type for each radio. -/
def Almanac.perRadio (a : Almanac) (t : Nat) : List RecFail :=
  a.unique t (fun b => fieldLE b 0 1) ++ [0, 1, 2].flatMap (fun r => a.missing t ((a.of t).any (fun x => fieldLE x.payload 0 1 == r)))

/-- Failures of subject 05. -/
def Almanac.subject5 (a : Almanac) : List RecFail :=
  a.perRadio 0x0501 ++ a.bad 0x0501 bbOptionsOk ++ a.perRadio 0x0502 ++ a.bad 0x0502 initialChannelOk ++ a.undefinedTypes 5 [1, 2]

/-- 0x0601 (08 R236). -/
def macOptionsOk (b : List Byte) : Bool :=
  form b 16 [(5, 1)] && decide (fieldLE b 0 1 < 3) && inR (fieldLE b 1 1) 1 15 && inR (fieldLE b 2 2) 40 1024 && inR (fieldLE b 4 1) 2 16
    && inR (fieldLE b 6 2) 1 1000 && (List.range 4).all (fun k => inR (fieldLE b (8 + 2 * k) 2) 1 10000)

/-- 0x0602. -/
def bssOk (b : List Byte) : Bool :=
  form b 48 [(15, 1)] && decide (fieldLE b 0 1 < 3) && decide (fieldLE b 1 1 < 16) && decide (fieldLE b 2 1 < 16)
    && decide (fieldLE b 3 1 < 16) && !(b.getD 4 0#8).getLsbD 0 && decide (fieldLE b 10 1 ≤ 3)
    && (fieldLE b 10 1 != 0 || fieldLE b 0 1 == 0) && decide (fieldLE b 11 1 < 2) && inR (fieldLE b 12 2) 1 2007
    && decide (fieldLE b 14 1 ≤ 32) && allZero (b.drop (16 + fieldLE b 14 1))

/-- An entry of a template as MAC_x_GRID_r_A and _B hold it (08 R239): a class for kinds 4 to 6 alone, and a PERIOD of at
least LEN where the region repeats. -/
def gridEntryOk (wa wb : Nat) : Bool :=
  decide (wa < 2 ^ 27) && decide (bitsOf wa 10 0 ≤ 1599) && inR (bitsOf wa 21 11) 1 1600 && decide (bitsOf wa 24 22 ≤ 6)
    && (inR (bitsOf wa 24 22) 4 6 == (bitsOf wa 26 25 != 0))
    && decide (wb < 2 ^ 22) && inR (bitsOf wb 21 11) 1 1600
    && (decide (bitsOf wb 21 11 ≤ 1) || decide (bitsOf wa 21 11 ≤ bitsOf wb 10 0))

/-- 0x0603. -/
def templateRecOk (b : List Byte) : Bool :=
  let n := fieldLE b 2 1
  inR n 1 64 && form b (4 + 8 * n) [(3, 1)] && decide (fieldLE b 0 1 < 3) && decide (fieldLE b 1 1 ≤ 4)
    && (List.range n).all (fun i => gridEntryOk (fieldLE b (4 + 8 * i) 4) (fieldLE b (8 + 8 * i) 4))

/-- Elements of a management frame: ID, length, body; the TIM is not allowed. -/
def elementsOk : Nat → List Byte → Bool
  | _, [] => true
  | 0, _ :: _ => false
  | fuel + 1, b => decide (2 ≤ b.length) && (b.getD 0 0#8) != 5#8 && decide (2 + (b.getD 1 0#8).toNat ≤ b.length)
      && elementsOk fuel (b.drop (2 + (b.getD 1 0#8).toNat))

/-- 0x0604. -/
def beaconRecOk (b : List Byte) : Bool :=
  let m := fieldLE b 2 2
  decide (m ≤ 2048) && form b (4 + m) [] && elementsOk 1025 (b.drop 4)

/-- 0x0604 names a BSS of a 0x0602 record. -/
def Almanac.beaconBss (a : Almanac) (b : List Byte) : Bool := (a.of 0x0602).any fun x => slice x.payload 0 2 == slice b 0 2

/-- Failures of subject 06. -/
def Almanac.subject6 (a : Almanac) : List RecFail :=
  a.perRadio 0x0601 ++ a.bad 0x0601 macOptionsOk ++ a.atMostPer 0x0602 16 (fun b => fieldLE b 0 1) ++ a.unique 0x0602 (fun b => fieldLE b 0 2)
    ++ a.unique 0x0602 (fun b => fieldLE b 4 6) ++ a.bad 0x0602 bssOk ++ a.unique 0x0603 (fun b => fieldLE b 0 2)
    ++ a.bad 0x0603 templateRecOk ++ a.unique 0x0604 (fun b => fieldLE b 0 2) ++ a.bad 0x0604 beaconRecOk
    ++ a.across 0x0604 a.beaconBss (fun _ => a.of 0x0602)
    ++ a.undefinedTypes 6 [1, 2, 3, 4]

/-! ## Subjects 07 and 08 -/

/-- 0x0701 (09 R261). -/
def constellationOk (b : List Byte) : Bool :=
  form b 48 [(17, 1), (40, 8)] && fieldLE b 0 4 != 0 && decide (fieldLE b 4 1 ≤ 31) && decide (fieldLE b 5 1 ≤ 1)
    && inR (fieldLE b 6 2) 1024 65535 && decide (fieldLE b 8 1 < 8) && inR (fieldLE b 9 1) 3 15 && inR (fieldLE b 10 1) 1 64
    && inR (fieldLE b 11 1) 1 100 && decide (fieldLE b 12 2 ≤ 3600) && inR (fieldLE b 14 1) 2 80 && decide (fieldLE b 15 1 ≤ 16)
    && inRS (fieldS b 16 1) (-100) (-40) && inR (fieldLE b 18 2) 100 10000 && inR (fieldLE b 20 2) 1024 8192
    && inR (fieldLE b 22 2) 16 512 && (fieldLE b 5 1 == 1 || allZero (slice b 28 12))

/-- 0x0702. -/
def memberOk (b : List Byte) : Bool :=
  form b 56 [(1, 3)] && decide (fieldLE b 0 1 ≤ 31) && inRS (fieldS b 52 4) (-10000) 10000

/-- 0x0702 is of the transport and has an index other than OWN of 0x0701. -/
def Almanac.memberFits (a : Almanac) (b : List Byte) : Bool :=
  let c := a.first 0x0701
  fieldLE b 0 1 != fieldLE c 4 1 && (fieldLE c 5 1 == 1 || allZero (slice b 40 12))

/-- Failures of subject 07. -/
def Almanac.subject7 (a : Almanac) : List RecFail :=
  let there := !(a.of 0x0701).isEmpty
  a.over 0x0701 1 ++ a.bad 0x0701 constellationOk ++ a.missing 0x0702 (!there || !(a.of 0x0702).isEmpty)
    ++ (if there then a.over 0x0702 31 else failAt (a.of 0x0702)) ++ a.bad 0x0702 memberOk
    ++ a.across 0x0702 a.memberFits (fun _ => (a.of 0x0701).take 1)
    ++ a.unique 0x0702 (fun b => fieldLE b 0 1) ++ a.unique 0x0702 (fun b => fieldLE b 36 16) ++ a.undefinedTypes 7 [1, 2]

/-- The sub-band record of a channel in kHz. -/
def Almanac.subBandOf (a : Almanac) (khz : Nat) : Option Rec :=
  (a.of 0x0803).find? fun r => decide (fieldLE r.payload 0 4 ≤ khz) && decide (khz ≤ fieldLE r.payload 4 4)

/-- A channel lies in a sub-band whose maximum the power of 0x0801 keeps (10 R295). -/
def Almanac.channelFits (a : Almanac) (k : Nat) (b : List Byte) : Bool :=
  (a.subBandOf (fieldLE b k 4)).any fun r => decide (fieldS b 14 1 ≤ fieldS r.payload 14 1)

/-- The records that decide it: the channel's sub-band, or every sub-band where none holds the channel (log 45). -/
def Almanac.channelRecs (a : Almanac) (k : Nat) (b : List Byte) : List Rec :=
  (a.subBandOf (fieldLE b k 4)).elim (a.of 0x0803) fun r => [r]

/-- 0x0801 (10 R295). -/
def meshOptionsOk (b : List Byte) : Bool :=
  form b 48 [(39, 1), (42, 6)] && decide (fieldLE b 12 1 ≤ 5) && decide (fieldLE b 13 1 < 4) && inRS (fieldS b 14 1) (-20) 54 && inR (fieldLE b 15 1) 4 32
    && inR (fieldLE b 16 1) (fieldLE b 15 1) 255 && inRS (fieldS b 17 1) (-120) (-70) && inR (fieldLE b 18 1) 3 20
    && inR (fieldLE b 19 1) (fieldLE b 18 1) 20 && decide (fieldLE b 20 1 < 4) && inR (fieldLE b 21 1) 5 50 && inR (fieldLE b 22 1) 5 100
    && decide (fieldLE b 23 1 ≤ 100) && inR (fieldLE b 24 2) 345 1000 && inR (fieldLE b 26 2) 64 4859 && inR (fieldLE b 28 2) 64 4859
    && decide (fieldLE b 26 2 + fieldLE b 28 2 ≤ 4859) && decide (fieldLE b 30 1 ≤ 7) && inR (fieldLE b 31 1) 1 100 && inR (fieldLE b 40 2) 60 3600

/-- 0x0802: the runs as R285 lays them out. -/
def meshScheduleOk (b : List Byte) : Bool :=
  let n := fieldLE b 2 1
  inR n 1 32 && form b (4 + 4 * n) [(3, 1)] && inR (fieldLE b 0 1) 1 64 && decide (fieldLE b 1 1 ≤ 4)
    && (List.range n).all (fun i => let w := fieldLE b (4 + 4 * i) 4
      decide (w < 2 ^ 27) && decide (bitsOf w 11 0 ≤ 2047) && decide (bitsOf w 23 12 ≤ 2048) && decide (bitsOf w 26 24 ≤ 4))

/-- 0x0803: within one band of R272. -/
def subBandOk (b : List Byte) : Bool :=
  let lo := fieldLE b 0 4
  let hi := fieldLE b 4 4
  form b 16 [(15, 1)] && decide (lo < hi) && ((decide (863000 ≤ lo) && decide (hi ≤ 876000)) || (decide (902000 ≤ lo) && decide (hi ≤ 928000)))
    && inR (fieldLE b 8 4) 1 3600000 && decide (fieldLE b 12 1 < 2) && inRS (fieldS b 13 1) (-110) (-60) && inRS (fieldS b 14 1) (-20) 54

/-- Two sub-bands overlap. -/
def subBandsMeet (b c : List Byte) : Bool := decide (fieldLE b 0 4 < fieldLE c 4 4) && decide (fieldLE c 0 4 < fieldLE b 4 4)

/-- 0x0804. -/
def wakeRuleOk (b : List Byte) : Bool :=
  form b 16 [(6, 2)] && decide (fieldLE b 0 1 ≤ 2) && inR (fieldLE b 4 1) 1 8 && decide (fieldLE b 5 1 < 2)

/-- Failures of subject 08. -/
def Almanac.subject8 (a : Almanac) : List RecFail :=
  let there := !(a.of 0x0801).isEmpty
  a.over 0x0801 1 ++ a.bad 0x0801 meshOptionsOk
    ++ a.across 0x0801 (a.channelFits 8) (a.channelRecs 8) ++ a.across 0x0801 (a.channelFits 32) (a.channelRecs 32)
    ++ (if there then a.once 0x0802 ++ a.missing 0x0803 (!(a.of 0x0803).isEmpty) ++ a.over 0x0803 4 ++ a.once 0x0805
        else failAt (a.of 0x0802 ++ a.of 0x0803 ++ a.of 0x0805))
    ++ a.bad 0x0802 meshScheduleOk ++ a.bad 0x0803 subBandOk ++ failAt (clashing subBandsMeet [] (a.of 0x0803)) ++ a.over 0x0804 16
    ++ a.bad 0x0804 wakeRuleOk ++ a.bad 0x0805 (fun b => form b 12 [] && !(b.getD 0 0#8).getLsbD 0) ++ a.undefinedTypes 8 [1, 2, 3, 4, 5]

end Sys2Proof.Machine
end

