-- ==== Sys2Proof/Machine/RecordChecks.lean ====
section
/-! DEFINITION. The checks of the records of subjects 09 to 0D, and all subjects together (11 R344, 12 R368, 13 R408, 14
R438, 15 R458, 03 R87). -/

namespace Sys2Proof.Machine

/-! ## Subject 0D -/

/-- 0x0D01. -/
def dramOptionsOk (b : List Byte) : Bool :=
  form b 16 [(6, 10)] && decide (fieldLE b 0 1 ≤ 1) && inR (fieldLE b 1 1) 1 2 && decide (fieldLE b 2 1 ≤ 1) && inR (fieldLE b 3 1) 1 255
    && decide (fieldLE b 4 1 ≤ 6) && inR (fieldLE b 5 1) 1 6

/-- 0x0D02. -/
def dramPortOk (b : List Byte) : Bool :=
  form b 4 [] && decide (fieldLE b 0 1 ≤ 7) && decide (fieldLE b 1 1 ≤ 3) && inR (fieldLE b 2 2) 10 10000

/-- Failures of subject 0D. -/
def Almanac.subject13 (a : Almanac) : List RecFail :=
  a.once 0x0D01 ++ a.bad 0x0D01 dramOptionsOk ++ a.over 0x0D02 8 ++ a.bad 0x0D02 dramPortOk ++ a.unique 0x0D02 (fun b => fieldLE b 0 1)
    ++ a.undefinedTypes 13 [1, 2]

/-- Usable capacity in MB (15 R444); 0 while the subject is rejected (11 R344). -/
def Almanac.dramMb (a : Almanac) : Nat :=
  let b := a.first 0x0D01
  if !a.subject13.isEmpty then 0 else 15 * 1024 * 2 ^ fieldLE b 0 1 * fieldLE b 1 1

/-! ## Subject 09 -/

/-- Tables the records make, for references across them. -/
def Almanac.hops (a : Almanac) : Tab NextHop := (a.of 0x0908).foldl (fun t r => Tab.put t (fieldLE r.payload 0 2) (hopOf r.payload)) []
def Almanac.rangeTab (a : Almanac) : Tab RangeCmp := (a.of 0x0905).foldl (fun t r => if fieldLE r.payload 1 1 = 0xFF
  then Tab.del t (fieldLE r.payload 0 1)
  else Tab.put t (fieldLE r.payload 0 1) ⟨fieldLE r.payload 1 1, fieldLE r.payload 2 2, fieldLE r.payload 4 2⟩) []
def Almanac.tunnelTab (a : Almanac) : Tab (List Byte) :=
  (a.of 0x090B).foldl (fun t r => Tab.put t (fieldLE r.payload 0 2) (r.payload.drop 2)) []
def Almanac.ruleTab (a : Almanac) : Tab (List Byte) :=
  (a.of 0x0906).foldl (fun t r => Tab.put t (fieldLE r.payload 0 2) (r.payload.drop 2)) []

/-- Whether the port modes of the 0x0C01 records create sub-port s (11 R300, 14 R414), whether or not subject 0C is rejected (log 46). -/
def Almanac.subExists (a : Almanac) (s : Nat) : Bool :=
  let port := if s < 8 then s / 4 else s - 6
  ((a.of 0x0C01).find? (fun r => fieldLE r.payload 0 1 == port)).any fun r =>
    let m := fieldLE r.payload 1 1
    if s < 8 then (if m = 0 then false else decide (s % 4 < [0, 1, 2, 4].getD m 0)) else m == 1

/-- 0x0901. -/
def pktOptionsOk (b : List Byte) : Bool :=
  form b 16 [(14, 2)] && inR (fieldLE b 0 2) 1 1023 && inR (fieldLE b 2 2) 4 16384 && inR (fieldLE b 4 2) 16 16384 && inR (fieldLE b 8 2) 10 65535 && inR (fieldLE b 10 2) 1 65535
    && (decide (fieldLE b 12 1 ≤ 15) || fieldLE b 12 1 == 0xFF) && !bitOf (fieldLE b 13 1) 6

/-- The packet buffer in DRAM is at most half the usable capacity (15 R444). -/
def Almanac.bufferFits (a : Almanac) (b : List Byte) : Bool := decide (fieldLE b 6 2 ≤ a.dramMb / 2)

/-- 0x0902. -/
def tenantRecOk (b : List Byte) : Bool :=
  form b 16 [] && decide (fieldLE b 0 1 < 16) && decide (fieldLE b 1 1 < 32) && decide (fieldLE b 2 2 ≤ 4094)
    && !(b.getD 4 0#8).getLsbD 0 && decide (fieldLE b 10 2 < 1024)

/-- 0x0903. -/
def subPortOk (b : List Byte) : Bool :=
  let m := fieldLE b 1 1
  form b 26 [(7, 1)] && decide (fieldLE b 0 1 < 10) && decide (m ≤ 2)
    && (decide (fieldLE b 2 1 ≤ 15) || fieldLE b 2 1 == 0xFF) && decide (fieldLE b 3 1 < 4)
    && (if m = 2 then !allZero (slice b 8 16) && (bitOf (fieldLE b 3 1) 1 || allZero (slice b 12 12)) else allZero (slice b 8 16))
    && inR (fieldLE b 24 2) 1 65535

/-- The 0x0C01 record of the port that sub-port s belongs to, or all of them where it has none. -/
def Almanac.portRecs (a : Almanac) (s : Nat) : List Rec :=
  let port := if s < 8 then s / 4 else s - 6
  ((a.of 0x0C01).find? (fun r => fieldLE r.payload 0 1 == port)).elim (a.of 0x0C01) fun r => [r]

/-- 0x0907. -/
def routeRecOk (b : List Byte) : Bool :=
  form b 24 [(6, 2)] && routeOk b && decide (fieldLE b 1 1 < 2) && inR (fieldLE b 3 1) 1 16 && decide (fieldLE b 4 2 + fieldLE b 3 1 ≤ 16384)

/-- The next hops of 0x0907 are there. -/
def Almanac.routeHops (a : Almanac) (b : List Byte) : Bool :=
  (List.range (fieldLE b 3 1)).all fun i => Tab.has a.hops (fieldLE b 4 2 + i)

/-- The route records past the table's capacity: an IPv6 record counts twice (R344). -/
def routesOver : Nat → List Rec → List Rec
  | _, [] => []
  | used, r :: rs =>
    let n := used + 1 + b2n (routeFields r.payload).2.1
    if 262144 < n then r :: routesOver used rs else routesOver n rs

/-- The records whose entry finds the 8 ways of its bucket taken (R311, R321). -/
def bucketOver (key bucket : List Byte → Nat) : List (Nat × Nat) → List Rec → List Rec
  | _, [] => []
  | seen, r :: rs =>
    let e := (key r.payload, bucket r.payload)
    if seen.contains e then bucketOver key bucket seen rs
    else if 8 ≤ (seen.filter (fun x => x.2 == e.2)).length then r :: bucketOver key bucket seen rs
    else bucketOver key bucket (e :: seen) rs

/-- 0x090D. -/
def shaperRecOk (b : List Byte) : Bool :=
  form b 16 [(2, 2)] && decide (fieldLE b 0 1 < 10) && decide (fieldLE b 1 1 < 8) && decide (fieldLE b 4 4 ≤ 100000000)
    && inR (fieldLE b 8 4) 1600 16777216 && decide (fieldLE b 12 4 ≤ 1000000)

/-- The key of a forwarding record. -/
def fdbRecKey (b : List Byte) : Nat := fdbKey (fieldLE b 0 1) (slice b 2 6)

/-- Failures of subject 09: a reference to a record that is missing involves every record of the type it names (log 45). -/
def Almanac.subject9 (a : Almanac) : List RecFail :=
  a.once 0x0901 ++ a.bad 0x0901 pktOptionsOk ++ a.across 0x0901 a.bufferFits (fun _ => (a.of 0x0D01).take 1) ++ a.over 0x0902 16 ++ a.bad 0x0902 tenantRecOk ++ a.unique 0x0902 (fun b => fieldLE b 0 1)
    ++ a.unique 0x0902 (fun b => if fieldLE b 2 2 = 0 then 65536 + fieldLE b 0 1 else fieldLE b 2 2)
    ++ a.unique 0x0902 (fun b => if bitOf (fieldLE b 1 1) 4 then fieldLE b 12 3 else 2 ^ 24 + fieldLE b 0 1)
    ++ a.over 0x0903 10 ++ a.bad 0x0903 subPortOk ++ a.across 0x0903 (fun b => a.subExists (fieldLE b 0 1)) (fun b => a.portRecs (fieldLE b 0 1)) ++ a.over 0x0904 16
    ++ a.bad 0x0904 (fun b => form b 66 [(1, 1)] && decide (fieldLE b 0 1 < 16) && (b.drop 2).all (fun x => decide (x.toNat < 8)))
    ++ a.over 0x0905 64 ++ a.bad 0x0905 (fun b => form b 6 [] && rangeFieldsOk b) ++ a.over 0x0906 8192
    ++ a.bad 0x0906 (fun b => form b 162 [] && decide (fieldLE b 0 2 < 8192) && ruleOk (b.drop 2))
    ++ a.across 0x0906 (fun b => ruleHopRef a.hops (b.drop 2)) (fun _ => a.of 0x0908)
    ++ a.across 0x0906 (fun b => ruleRangeRefs a.rangeTab (b.drop 2)) (fun _ => a.of 0x0905)
    ++ a.bad 0x0907 routeRecOk ++ a.across 0x0907 a.routeHops (fun _ => a.of 0x0908) ++ failAt (routesOver 0 (a.of 0x0907)) ++ a.over 0x0908 16384
    ++ a.bad 0x0908 (fun b => form b 20 [] && hopOk b)
    ++ a.across 0x0908 (fun b => hopRefs a.tunnelTab (hopOf b)) (fun _ => a.of 0x090B) ++ a.over 0x0909 65536
    ++ a.bad 0x0909 (fun b => form b 14 [(1, 1)] && fdbOk b)
    ++ a.across 0x0909 (fun b => fdbRefs a.tunnelTab (fdbOf b)) (fun _ => a.of 0x090B)
    ++ failAt (bucketOver fdbRecKey (fun b => fdbBucket (fdbRecKey b)) [] (a.of 0x0909)) ++ a.over 0x090A 131072
    ++ a.bad 0x090A (fun b => form b 42 [(3, 1)] && flowOk b && !bitOf (fieldLE b 1 1) 1)
    ++ a.across 0x090A (fun b => (Tab.get? a.ruleTab (fieldLE b 40 2)).any fun e => bitOf (fieldLE e 0x80 1) 0) (fun _ => a.of 0x0906)
    ++ failAt (bucketOver flowKeyOf (fun b => flowBucket (flowKeyOf b)) [] (a.of 0x090A)) ++ a.over 0x090B 1024
    ++ a.bad 0x090B (fun b => form b 66 [] && decide (fieldLE b 0 2 < 1024) && tunnelOk (b.drop 2)) ++ a.over 0x090C 16384
    ++ a.bad 0x090C (fun b => form b 21 [] && policerOk b) ++ a.over 0x090D 80 ++ a.bad 0x090D shaperRecOk
    ++ a.undefinedTypes 9 ((List.range 13).map (· + 1))

/-! ## Subject 0A -/

/-- 0x0A01 (12 R350). -/
def pageRecOk (b : List Byte) : Bool :=
  form b 8 [(3, 1)] && decide (fieldLE b 0 1 < 16) && decide (fieldLE b 1 1 < 16) && decide (fieldLE b 2 1 < 16)
    && (!bitOf (fieldLE b 2 1) 1 || fieldLE b 1 1 == 0) && (!bitOf (fieldLE b 2 1) 2 || fieldLE b 0 1 == 0)
    && decide (fieldLE b 4 2 ≤ 16383) && decide (fieldLE b 6 2 ≤ 16384) && decide (fieldLE b 4 2 + fieldLE b 6 2 ≤ 16384)

/-- The ranges of two pages overlap: they share a slot. -/
def pagesMeet (b c : List Byte) : Bool :=
  decide (0 < fieldLE b 6 2) && decide (0 < fieldLE c 6 2) && decide (fieldLE b 4 2 < fieldLE c 4 2 + fieldLE c 6 2) && decide (fieldLE c 4 2 < fieldLE b 4 2 + fieldLE b 6 2)

/-- The page of a slot. -/
def Almanac.pageOf (a : Almanac) (slot : Nat) : Option Page :=
  let l := (a.of 0x0A01).map fun r => (⟨fieldLE r.payload 0 1, fieldLE r.payload 1 1, fieldLE r.payload 2 1, fieldLE r.payload 4 2,
    fieldLE r.payload 6 2⟩ : Page)
  (if l.isEmpty then [⟨0, 0, 15, 0, 16384⟩] else l).find? fun p => decide (p.base ≤ slot) && decide (slot < p.base + p.count)

/-- Open a sealed key (12 R368): the key block, or none where the tag fails; the info begins with the ASCII bytes
Z7-KEYREC-1. -/
def openSealed (f : Fuses) (b : List Byte) : Option (List Byte) :=
  let z := x25519 ((sha512 f.idSeed).take 32) (slice b 4 32)
  let kek := hkdf512 (ed25519Public f.idSeed) z
    ([0x5A#8, 0x37#8, 0x2D#8, 0x4B#8, 0x45#8, 0x59#8, 0x52#8, 0x45#8, 0x43#8, 0x2D#8, 0x31#8] ++ leBytes 2 (fieldLE b 0 2)) 32
  gcmDecrypt kek (List.replicate 12 0#8) (slice b 0 36) (slice b 36 64) (slice b 100 16)

/-- 0x0A02. -/
def Almanac.sealedOk (a : Almanac) (b : List Byte) : Bool :=
  let mi := fieldLE b 3 1
  form b 120 [(116, 4)] && (mi == 0xFF || (decide (mi ≤ 7) && fieldLE b 2 1 == 0x10))
    && (openSealed a.fuses b).any (blockOk (fieldLE b 2 1))

/-- The page of 0x0A02's slot admits its suite; a mesh key lies in page 0. -/
def Almanac.sealedFits (a : Almanac) (b : List Byte) : Bool :=
  (a.pageOf (fieldLE b 0 2)).any fun p => p.admits (fieldLE b 2 1) && (fieldLE b 3 1 == 0xFF || p.page == 0)

/-- The page record that holds a slot, or all of them where none does. -/
def Almanac.pageRecs (a : Almanac) (slot : Nat) : List Rec :=
  ((a.of 0x0A01).find? fun r => decide (fieldLE r.payload 4 2 ≤ slot)
    && decide (slot < fieldLE r.payload 4 2 + fieldLE r.payload 6 2)).elim (a.of 0x0A01) fun r => [r]

/-- Failures of subject 0A. -/
def Almanac.subject10 (a : Almanac) : List RecFail :=
  a.over 0x0A01 16 ++ a.bad 0x0A01 pageRecOk ++ a.unique 0x0A01 (fun b => fieldLE b 0 1)
    ++ a.unique 0x0A01 (fun b => if fieldLE b 1 1 = 0 then 256 + fieldLE b 0 1 else fieldLE b 1 1)
    ++ failAt (clashing pagesMeet [] (a.of 0x0A01)) ++ a.over 0x0A02 16384 ++ a.bad 0x0A02 a.sealedOk
    ++ a.across 0x0A02 a.sealedFits (fun b => a.pageRecs (fieldLE b 0 2))
    ++ a.unique 0x0A02 (fun b => fieldLE b 0 2) ++ a.undefinedTypes 10 [1, 2]

/-! ## Subjects 0B and 0C -/

/-- 0x0B01 (13 R408). -/
def hostOptionsOk (b : List Byte) : Bool :=
  form b 8 [(1, 1), (6, 2)] && decide (fieldLE b 0 1 ≤ 15) && inR (fieldLE b 2 2) 50 50000 && inR (fieldLE b 4 2) 1 10000

/-- 0x0B02. -/
def inputQueueOk (b : List Byte) : Bool :=
  form b 24 [(20, 4)] && decide (fieldLE b 0 1 < 64) && decide (fieldLE b 1 1 < 4) && inR (fieldLE b 4 4) 1 262144
    && decide (fieldLE b 16 2 ≤ 60000) && decide (fieldLE b 18 2 ≤ 60000)

/-- 0x0B03. -/
def workerOk (b : List Byte) : Bool :=
  form b 8 [(6, 2)] && decide (fieldLE b 0 1 < 64) && decide (fieldLE b 2 1 < 16) && decide (fieldLE b 3 1 < 2)
    && inR (fieldLE b 4 2) 1 60000

/-- A worker's function exists: TOTAL_VFS is 0 without 0x0B01. -/
def Almanac.workerFits (a : Almanac) (b : List Byte) : Bool := decide (fieldLE b 1 1 ≤ fieldLE (a.first 0x0B01) 0 1)

/-- Failures of subject 0B. -/
def Almanac.subject11 (a : Almanac) : List RecFail :=
  a.over 0x0B01 1 ++ a.bad 0x0B01 hostOptionsOk ++ a.over 0x0B02 64 ++ a.bad 0x0B02 inputQueueOk ++ a.unique 0x0B02 (fun b => fieldLE b 0 1)
    ++ a.over 0x0B03 64 ++ a.bad 0x0B03 workerOk
    ++ a.across 0x0B03 a.workerFits (fun _ => (a.of 0x0B01).take 1) ++ a.unique 0x0B03 (fun b => fieldLE b 0 1) ++ a.undefinedTypes 11 [1, 2, 3]

/-- MODE, MEDIUM and FEC of a port are ones that R414 and R417 allow. -/
def portModeOk (port mode medium fec : Nat) : Bool :=
  let f := fun i => fec / 4 ^ i % 4
  if port < 2 then
    decide (medium ≤ 2) && decide (fec < 256) && (if mode = 0 then fec == 0
      else if mode = 1 then decide (fec < 4) && (f 0 == 2 || (f 0 == 0 && medium == 0))
      else if mode = 2 then fec == 15 else mode == 3 && (List.range 4).all (fun i => decide (f i ≤ 2)))
  else decide (mode ≤ 1) && medium == 0 && fec == 0

/-- 0x0C01 (14 R438). -/
def portRecOk (b : List Byte) : Bool :=
  let p := fieldLE b 0 1
  form b 16 [(9, 7)] && decide (p ≤ 3) && decide (fieldLE b 1 1 ≤ 3) && portModeOk p (fieldLE b 1 1) (fieldLE b 2 1) (fieldLE b 3 1)
    && inR (fieldLE b 4 2) 1518 9216 && inR (fieldLE b 6 2) 256 9216 && fieldLE b 6 2 % 64 == 0
    && (if p < 2 then fieldLE b 8 1 == 0 else inR (fieldLE b 8 1) 1 15)

/-- 0x0C02. -/
def gateRecOk (b : List Byte) : Bool :=
  let n := fieldLE b 4 2
  inR n 1 1024 && form b (16 + 4 * n) [(6, 2)] && decide (fieldLE b 0 1 < 10) && decide (fieldLE b 1 1 < 2)
    && decide (fieldLE b 2 2 + n ≤ 1024) && inR (fieldLE b 8 4) 1000 204800000 && decide (fieldLE b 12 4 < 2 ^ 28)
    && (List.range n).all (fun i => decide (256 ≤ fieldLE b (16 + 4 * i) 4))

/-- Failures of subject 0C. -/
def Almanac.subject12 (a : Almanac) : List RecFail :=
  let key0 := fun (b : List Byte) => fieldLE b 0 1
  a.bad 0x0C01 portRecOk ++ a.unique 0x0C01 key0 ++ a.bad 0x0C02 gateRecOk ++ a.unique 0x0C02 key0
    ++ a.bad 0x0C03 (fun b => form b 516 [(1, 3)] && decide (fieldLE b 0 1 < 10)) ++ a.unique 0x0C03 key0
    ++ a.bad 0x0C04 (fun b => form b 16 [(12, 4)] && decide (fieldLE b 0 1 < 8) && decide (fieldLE b 1 1 < 8) && decide (fieldLE b 2 2 < 16384))
    ++ a.unique 0x0C04 key0
    ++ a.bad 0x0C05 (fun b => form b 16 [(12, 4)] && decide (fieldLE b 0 1 < 8) && decide (fieldLE b 1 1 < 16) && decide (fieldLE b 2 2 < 16384))
    ++ a.atMostPer 0x0C05 16 key0 ++ (if a.isZ73 then failAt (a.of 0x0C10) else [])
    ++ a.bad 0x0C10 (fun b => form b 8 [(5, 3)] && decide (fieldLE b 0 1 < 12) && decide (fieldLE b 1 1 < 4) && decide (fieldLE b 2 1 ≤ 2)
        && inR (fieldLE b 3 1) 1 64 && decide (fieldLE b 4 1 < 64))
    ++ a.unique 0x0C10 key0 ++ a.undefinedTypes 12 [1, 2, 3, 4, 5, 0x10]

/-! ## All subjects -/

/-- The failures of a subject by its number. -/
def Almanac.failures (a : Almanac) (n : Nat) : List RecFail :=
  match n with
  | 1 => a.subject1 | 2 => a.subject2 | 3 => a.subject3 | 4 => a.subject4 | 5 => a.subject5 | 6 => a.subject6 | 7 => a.subject7
  | 8 => a.subject8 | 9 => a.subject9 | 10 => a.subject10 | 11 => a.subject11 | 12 => a.subject12 | 13 => a.subject13
  | _ => a.subject14

/-- The first of some failures: lowest offset, then lowest type (log 45). -/
def firstFail (l : List RecFail) : Option RecFail :=
  l.foldl (fun m f => match m with
    | none => some f
    | some g => if f.1 < g.1 || (f.1 == g.1 && decide (f.2.1 < g.2.1)) then some f else some g) none

/-- The rejected subjects of an accepted image with their first failure, in the order of the failures (R87). -/
def Almanac.rejections (a : Almanac) : List (Nat × RecFail) :=
  let l := ((List.range 10).map (· + 4)).filterMap fun n => (firstFail (a.failures n)).map fun f => (n, f)
  sortBy (fun e => e.2.1 * 65536 + e.2.2.1) l

end Sys2Proof.Machine
end

