-- ==== Sys2Proof/Machine/Mac.lean ====
section
/-! DEFINITION. The rows of the scheduled-access MACs (08). -/

namespace Sys2Proof.Machine

/-! ## Commands -/

/-- A function may name a station: the PF any, a VF one of its own BSS (R214). -/
def State.mayNameSta (s : State) (fn sid : Nat) : Bool :=
  fn == 0 || (match (s.sta sid).bind (fun x => x.links.head?) with
    | some l => s.bssFn l.radio l.bss == fn
    | none => true)

/-- The SID names a station that is not being removed (R211). -/
def State.liveSta (s : State) (sid : Nat) : Option Sta := (s.sta sid).filter (fun x => !x.deleting)

/-- The MAC of a radio is gated. -/
def State.macGated (s : State) (r : Nat) : Bool := decide (r < 3) && s.gated (7 + r)

/-- The fields of MAC_TX are in range (R233, R231). -/
def State.macTxOk (s : State) (c : Cmd) : Bool :=
  let sid := c.le 16 2
  let group := sid == 0xFFFF
  let links := c.b 19
  let kind := c.b 20 / 16
  let n := c.le 22 2
  c.reservedOk [(16, 28)] && (group || decide (sid < 8192)) && decide (1 ≤ links) && decide (links < 8)
    && (if group then (match soleRadio links with | some r => decide (c.b 18 < 16) && s.bssOn r (c.b 18) | none => false)
        else c.b 18 == 0xFF)
    && decide (c.b 20 % 16 < 8) && decide (kind ≤ 1) && decide (c.b 21 < 8) && (!bitOf (c.b 21) 2 || kind == 1)
    && (if kind = 0 then decide (1 ≤ n) && decide (n ≤ 2304) else decide (24 ≤ n) && decide (n ≤ 2328))
    && decide (c.le 40 4 ≤ 10000000)

/-- The allowed links on which a management MPDU may go (R233): those whose address is A1, or all for a group address. -/
def a1Links (x : Option Sta) (links : Nat) (body : List Byte) : Nat :=
  let a1 := fieldLE body 4 6
  if a1 % 2 = 1 then links
  else bitMap 3 fun r => bitOf links r && x.any (fun x => x.links.any fun l => l.radio == r && l.addr == a1)

/-- MAC_TX (R233): its checks, and the frame into its queue. With a launch time it goes on the lowest radio that meets R233's conditions,
or misses; where every radio it may go on is down, it is refused as the lowest of them refuses (01 R33; log 152). -/
def macTx (fn tag : Nat) (data : HostData) (air : Nat) (s : State) : State :=
  s.runCmd fn tag 0x0610
    (fun c => if c.le 16 2 = 0xFFFF then fn == 0 || s.bssFn ((soleRadio (c.b 19)).getD 0) (c.b 18) == fn
      else s.mayNameSta fn (c.le 16 2))
    (fun c => [0, 1, 2].all (fun r => !bitOf (c.b 19) r || s.macGated r) && [0, 1, 2].any (fun r => bitOf (c.b 19) r))
    fun c s =>
      let sid := c.le 16 2
      let group := sid == 0xFFFF
      let x := if group then none else s.liveSta sid
      let named := if group then c.b 19 else bitMap 3 fun r => bitOf (c.b 19) r && x.any (fun x => (x.linkOn r).isSome)
      let kind := c.b 20 / 16
      let tid := c.b 20 % 16
      let launch := c.le 32 8
      if !(s.macTxOk c) then s.complete fn tag 0x02
      else match data with
      | none => s.complete fn tag 0x6E
      | some body =>
        if !group && x.isNone then s.complete fn tag 0x3A
        else if named = 0 then s.complete fn tag 0x3F
        else
        let links := if kind = 1 then a1Links x named body else named
        let rs := [0, 1, 2].filter (bitOf links)
        if links = 0 then s.complete fn tag 0x02
        else if launch ≠ 0 && 5 ≤ s.grid.mode then s.complete fn tag 0x03
        else
        let up := rs.filter (fun r => s.inService (.radio r))
        match (if up.isEmpty then rs.findSome? (fun r => s.unitStatus (.radio r)) else none) with
        | some st => (s.refuseAt (.func fn)).complete fn tag st
        | none =>
          if launch = 0 && up.isEmpty then s.complete fn tag 0x3F
          else
            let t := s.fullTime launch
            let pick := up.find? (fun r => s.openHolds r t (air + 16000))
            match (if launch = 0 then none else s.checkLaunch launch) with
            | some st => s.complete fn tag st
            | none =>
              if launch ≠ 0 && pick.isNone then s.complete fn tag 0x40
              else
                let r0 := rs.headD 0
                let links := if launch = 0 then links else 2 ^ (pick.getD 0)
                let ten := if group then s.bssTenant r0 (c.b 18) else (s.staTenant sid).getD 0
                let life := if c.le 40 4 = 0 then s.classLife r0 (s.classOf ten (aciOf tid)) else us (c.le 40 4)
                let f : Frame :=
                  { sid := sid, bss := c.b 18, radios := links, tid := tid, kind := kind, flags := c.b 21
                    cmd := some (fn, tag), body := body, launch := if launch = 0 then 0 else t, air := air, enq := s.elapsed
                    enqNt := s.ntNs, life := life
                    queue := if group then 32768 + 16 * r0 + c.b 18 else 4 * sid + aciOf tid
                    cells := 0, tenant := ten, src := 0 }
                let s1 := s.takeUp fn tag ((soleRadio links))
                { s1 with mac := { s1.mac with
                  frames := Tab.put s1.mac.frames s1.mac.nextFrame f, nextFrame := s1.mac.nextFrame + 1 } }

def execMacTx (fn tag : Nat) (data : HostData) (air : Nat) (s : State) : Host.Outcome State Fault Refusal :=
  .next (macTx fn tag data air s)

/-- Link i of MAC_STA_ADD (R234). -/
def staLinkOf (c : Cmd) (i : Nat) : StaLink :=
  let o := 28 + 12 * i
  ⟨c.b (o + 6), c.b (o + 7), c.le (o + 8) 2, c.le o 6, c.b (o + 10), c.b (o + 11)⟩

/-- The fields of MAC_STA_ADD are in range (R210 order 1, R234). -/
def State.staAddOk (s : State) (c : Cmd) : Bool :=
  let n := c.b 18
  let ls := (List.range n).map (staLinkOf c)
  let slot := c.le 26 2
  c.reservedOk [(16, 48)] && (decide (c.le 16 2 < 8192) || c.le 16 2 == 0xFFFF) && decide (1 ≤ n) && decide (n ≤ 3)
    && decide (c.b 19 < 4) && (n == 1 || bitOf (c.b 19) 1) && !bitOf (c.b 20) 0
    && allZero (c.bytes (28 + 12 * n) (36 - 12 * n))
    && ls.all (fun l => !bitOf l.addr 0 && (bitOf (c.b 19) 1 || l.addr == c.le 20 6) && decide (l.radio < 3) && decide (l.bss < 16)
        && s.bssOn l.radio l.bss && decide (1 ≤ l.aid) && l.aid == c.le 36 2 && decide (l.caps % 4 < 3) && decide (l.caps < 128)
        && decide (l.width ≤ maxWidth l.radio) && (slot == 0xFFFF || s.slotIn slot (s.bssTenant l.radio l.bss)))
    && (ls.map (·.radio)).eraseDups.length == n

/-- No MAC of a station's links has its clock: a command that names the station is addressed to gated blocks alone (02 R54; log
158). -/
def State.staGated (s : State) (sid : Nat) : Bool :=
  match s.sta sid with
  | some x => !x.links.isEmpty && x.links.all (fun l => s.macGated l.radio)
  | none => false

/-- MAC_STA_ADD (R210). -/
def staAdd (fn tag : Nat) (s : State) : State :=
  s.runCmd fn tag 0x0620 (fun _ => true)
    (fun c => (List.range (Nat.min 3 (c.b 18))).any (fun i => s.macGated (staLinkOf c i).radio))
    fun c s =>
      let ls := (List.range (c.b 18)).map (staLinkOf c)
      let want := c.le 16 2
      let addr := c.le 20 6
      let sid := if want = 0xFFFF then Tab.freeKey s.mac.stas 8192 else if Tab.has s.mac.stas want then none else some want
      let addrs := fun (x : Sta) => x.addr :: x.links.map (·.addr)
      if !(s.staAddOk c) then s.complete fn tag 0x02
      else match (if 8192 ≤ s.mac.stas.length then none else sid) with
      | none => s.complete fn tag 0x39
      | some k =>
        if staLimit s.limitMode ≤ s.mac.stas.length then s.complete fn tag 0x38
        else if s.mac.stas.any (fun e => (addrs e.2).any (fun a => a == addr || ls.any (fun l => l.addr == a))) then s.complete fn tag 0x3B
        else if ls.any (fun l => decide (s.get ⟨bssCfg l.radio l.bss, 21, 11⟩ < l.aid)
            || s.mac.stas.any (fun e => e.2.links.any (fun m => m.radio == l.radio && m.bss == l.bss && m.aid == l.aid))) then
          s.complete fn tag 0x02
        else if fn ≠ 0 && ls.any (fun l => s.tenantOwner (s.bssTenant l.radio l.bss) != fn || s.bssFn l.radio l.bss != fn) then
          s.complete fn tag 0x09
        else
          let x : Sta := { addr := addr, multi := bitOf (c.b 19) 1, links := ls, ps := bitOf (c.b 19) 0
                           keySlot := if c.le 26 2 = 0xFFFF then none else some (c.le 26 2) }
          let s1 := { s with mac := { s.mac with stas := Tab.put s.mac.stas k x } }
          let s2 := ls.foldl (fun s l => s.addStationFdb (s.bssTenant l.radio l.bss) k l.addr) s1
          s2.complete fn tag 0 k

def execMacStaAdd (fn tag : Nat) (s : State) : Host.Outcome State Fault Refusal := .next (staAdd fn tag s)

/-- MAC_STA_DEL takes step 1 (R211): frames not taken end with MAC_STA_REMOVED, planned RUs are padded, agreements,
flows and channel state go. -/
def staDel (fn tag : Nat) (s : State) : State :=
  s.runCmd fn tag 0x0621 (fun c => s.mayNameSta fn (c.le 16 2)) (fun c => s.staGated (c.le 16 2)) fun c s =>
    let sid := c.le 16 2
    if !(c.reservedOk [(16, 2)]) then s.complete fn tag 0x02
    else match s.liveSta sid with
    | none => s.complete fn tag 0x3A
    | some x =>
      let s1 := (s.takeUp fn tag).modSta sid fun x => { x with deleting := true, delCmd := some (fn, tag) }
      let ids := (s1.mac.frames.filter (fun e => e.2.sid == sid && e.2.taken.isNone)).map (·.1)
      let s2 := ids.foldl (fun (s : State) id =>
        if (Tab.get? s.mac.frames id).any (fun f => f.cmd.isNone) then s.dropAt id 0x43 (pktCnt 3 true) else s.endFrame id 0x43) s1
      let s3 := x.txBa.keys.foldl (fun s t => s.endAgreement sid t 0 2) s2
      let s4 := x.rxBa.keys.foldl (fun s t => s.endAgreement sid t 1 2) s3
      let drop := fun (p : Ppdu) => if p.cut || p.used then p
        else { p with users := p.users.map fun u => if u.sid = sid then { u with status := 0x43 } else u }
      { s4 with mac := { s4.mac with
        plan := Tab.mapV s4.mac.plan (fun _ p => drop p)
        flows := Tab.keep s4.mac.flows (fun _ f => f.sid != sid)
        csi := Tab.keep s4.mac.csi (fun k _ => k / 4 != sid) } }

def execMacStaDel (fn tag : Nat) (s : State) : Host.Outcome State Fault Refusal := .next (staDel fn tag s)

/-- No work of the station remains (R211): the SID is free and MAC_STA_DEL completes OK. -/
def staDelDone (sid : Nat) (s : State) : State :=
  match s.sta sid with
  | none => s
  | some x =>
    if !x.deleting || s.mac.frames.any (fun e => e.2.sid == sid) then s
    else
      let s1 := { s with mac := { s.mac with stas := Tab.del s.mac.stas sid } }.dropStationRefs sid
      match x.delCmd with
      | some (fn, tag) =>
        match s1.cmd? fn tag with
        | some c => if c.opcode = 0x0621 && c.stage == .admitted then s1.complete fn tag 0 else s1
        | none => s1
      | none => s1

def execStaDelDone (sid : Nat) (s : State) : Host.Outcome State Fault Refusal := .next (staDelDone sid s)

/-- A station with EHT on one of its links. -/
def Sta.eht (x : Sta) : Bool := x.links.any (fun l => bitOf l.caps 3)

/-- Set an agreement (R226). -/
def State.setBa (s : State) (sid tid dir size sn : Nat) : State :=
  if dir = 0 then s.modSta sid fun x => { x with txBa := Tab.put x.txBa tid { size := size, start := sn } }
  else (s.endRxBa sid tid).modSta sid fun x => { x with rxBa := Tab.put x.rxBa tid { size := size, start := sn } }

/-- MAC_BA, bit 1 of byte 19 clear (R226, R232). -/
def baSet (fn tag : Nat) (s : State) : State :=
  s.runCmdIf fn tag 0x0622 (fun c => !bitOf (c.b 19) 1) (fun c => s.mayNameSta fn (c.le 16 2)) (fun c => s.staGated (c.le 16 2)) fun c s =>
    let sid := c.le 16 2
    let size := c.le 20 2
    if !(c.reservedOk [(16, 8)]) || 8191 < sid || 7 < c.b 18 || 1 < c.b 19 || size = 0 || 1024 < size || 4095 < c.le 22 2 then
      s.complete fn tag 0x02
    else match s.liveSta sid with
    | none => s.complete fn tag 0x3A
    | some x =>
      if 256 < size && !x.eht then s.complete fn tag 0x02
      else (s.setBa sid (c.b 18) (c.b 19) size (c.le 22 2)).complete fn tag 0

def execMacBaSet (fn tag : Nat) (s : State) : Host.Outcome State Fault Refusal := .next (baSet fn tag s)

/-- MAC_BA with the delete bit (R226, R232). -/
def baDelete (fn tag : Nat) (s : State) : State :=
  s.runCmdIf fn tag 0x0622 (fun c => bitOf (c.b 19) 1) (fun c => s.mayNameSta fn (c.le 16 2)) (fun c => s.staGated (c.le 16 2)) fun c s =>
    let sid := c.le 16 2
    let dir := c.b 19 % 2
    if !(c.reservedOk [(16, 4)]) || 8191 < sid || 7 < c.b 18 || 3 < c.b 19 then s.complete fn tag 0x02
    else match s.liveSta sid with
    | none => s.complete fn tag 0x3A
    | some x =>
      if !(if dir = 0 then Tab.has x.txBa (c.b 18) else Tab.has x.rxBa (c.b 18)) then s.complete fn tag 0x44
      else (s.endAgreement sid (c.b 18) dir 0).complete fn tag 0

def execMacBaDelete (fn tag : Nat) (s : State) : Host.Outcome State Fault Refusal := .next (baDelete fn tag s)

/-- MAC_TWT, delete clear (R224, R232). -/
def twtSetup (fn tag : Nat) (s : State) : State :=
  s.runCmdIf fn tag 0x0623 (fun c => !bitOf (c.b 19) 7) (fun c => s.mayNameSta fn (c.le 16 2)) (fun c => s.macGated (c.b 18))
    fun c s =>
      let sid := c.le 16 2
      let r := c.b 18
      let want := c.le 20 4
      let dur := c.le 24 2
      if !(c.reservedOk [(16, 10)]) || 8191 < sid || 2 < r || 7 < c.b 19 || want < 1024 || 13107200 < want || dur < 256 then
        s.complete fn tag 0x02
      else match s.unitStatus (.radio r) with
      | some st => (s.refuseAt (.func fn)).complete fn tag st
      | none =>
      match s.liveSta sid with
      | none => s.complete fn tag 0x3A
      | some x =>
        if (x.linkOn r).isNone then s.complete fn tag 0x02
        else match s.twtPlace r (s.highClass ((s.staTenant sid).getD 0)) (want * 1000) with
        | none => s.complete fn tag 0x42
        | some (b, g) =>
          let t := s.twtOf want dur b g
          (s.modSta sid fun x => { x with twt := Tab.put x.twt (r * 8 + c.b 19) t }).complete fn tag 0 t.target

def execMacTwtSetup (fn tag : Nat) (s : State) : Host.Outcome State Fault Refusal := .next (twtSetup fn tag s)

/-- MAC_TWT with the delete bit (R232): RANGE where there is no such agreement (log 47). -/
def twtDelete (fn tag : Nat) (s : State) : State :=
  s.runCmdIf fn tag 0x0623 (fun c => bitOf (c.b 19) 7) (fun c => s.mayNameSta fn (c.le 16 2)) (fun c => s.macGated (c.b 18))
    fun c s =>
      let sid := c.le 16 2
      let k := c.b 18 * 8 + c.b 19 % 8
      if !(c.reservedOk [(16, 10)]) || 8191 < sid || 2 < c.b 18 || 8 ≤ c.b 19 % 128 then s.complete fn tag 0x02
      else match s.unitStatus (.radio (c.b 18)) with
      | some st => (s.refuseAt (.func fn)).complete fn tag st
      | none =>
      match s.liveSta sid with
      | none => s.complete fn tag 0x3A
      | some x =>
        if !(Tab.has x.twt k) then s.complete fn tag 0x02
        else (s.modSta sid fun x => { x with twt := Tab.del x.twt k }).complete fn tag 0

def execMacTwtDelete (fn tag : Nat) (s : State) : Host.Outcome State Fault Refusal := .next (twtDelete fn tag s)

/-- The flow of a station, TID and direction on a radio. -/
def State.flowKeyOf (s : State) (r sid tid : Nat) (down : Bool) : Option Nat :=
  (s.mac.flows.find? (fun e => e.1 / 64 == r && e.2.sid == sid && e.2.tid == tid && e.2.down == down)).map (·.1)

/-- MAC_DET_FLOW, delete clear (R221): the procedure runs on the active settings, before the first commit on the staged. A flow past the
64 of a radio does not fit (log 170). -/
def detFlow (fn tag : Nat) (s : State) : State :=
  s.runCmdIf fn tag 0x0624 (fun c => !bitOf (c.b 19) 7) (fun c => s.mayNameSta fn (c.le 16 2)) (fun c => s.macGated (c.b 20))
    fun c s =>
      let sid := c.le 16 2
      let r := c.b 20
      let f : DetFlow := ⟨sid, c.b 18, c.b 19 == 0, c.le 22 2, c.le 24 2⟩
      let mode := s.limitMode
      let n := slotsOf s.grid.sfLen mode
      if !(c.reservedOk [(16, 5), (22, 4)]) || 8191 < sid || 7 < c.b 18 || 1 < c.b 19 || 2 < r || f.period = 0 || 6400 < f.period
          || f.period ≤ f.phase || !(f.whole n (slotNs mode / 32000)) then s.complete fn tag 0x02
      else match s.unitStatus (.radio r) with
      | some st => (s.refuseAt (.func fn)).complete fn tag st
      | none =>
      match s.liveSta sid with
      | none => s.complete fn tag 0x3A
      | some x =>
        if (x.linkOn r).isNone then s.complete fn tag 0x3F
        else
          let old := s.flowsOf r
          let free := (List.range 64).find? (fun i => !(old.any (fun e => e.1 == i)))
          match (match s.flowKeyOf r sid f.tid f.down with | some k => some (k % 64) | none => free) with
          | none => s.complete fn tag 0x41
          | some i =>
            let flows := Tab.put s.mac.flows (r * 64 + i) f
            let s1 := { s with mac := { s.mac with flows := flows } }
            if (s1.detFit r (s.grid.mode == 7) mode s.grid.sfLen (s1.flowsOf r)).isNone then s.complete fn tag 0x41
            else s1.complete fn tag 0

def execMacDetFlow (fn tag : Nat) (s : State) : Host.Outcome State Fault Refusal := .next (detFlow fn tag s)

/-- MAC_DET_FLOW with the delete bit (R232). -/
def detFlowDelete (fn tag : Nat) (s : State) : State :=
  s.runCmdIf fn tag 0x0624 (fun c => bitOf (c.b 19) 7) (fun c => s.mayNameSta fn (c.le 16 2)) (fun c => s.macGated (c.b 20))
    fun c s =>
      let sid := c.le 16 2
      let r := c.b 20
      if !(c.reservedOk [(16, 5), (22, 4)]) || 8191 < sid || 7 < c.b 18 || 1 < c.b 19 % 128 || 2 < r then s.complete fn tag 0x02
      else match s.unitStatus (.radio r) with
      | some st => (s.refuseAt (.func fn)).complete fn tag st
      | none =>
      match s.liveSta sid with
      | none => s.complete fn tag 0x3A
      | some x =>
        if (x.linkOn r).isNone then s.complete fn tag 0x3F
        else match s.flowKeyOf r sid (c.b 18) (c.b 19 % 2 == 0) with
        | none => s.complete fn tag 0x44
        | some k => { s with mac := { s.mac with flows := Tab.del s.mac.flows k } }.complete fn tag 0

def execMacDetFlowDelete (fn tag : Nat) (s : State) : Host.Outcome State Fault Refusal := .next (detFlowDelete fn tag s)

/-! ## The plan -/

/-- Stations whose planned streams exceed their entry's antennas are sounded from now on, and in explicit operation every one planned
downlink; the others no longer (07 R200). -/
def State.soundAsked (s : State) (r : Nat) (l : List Ppdu) : State :=
  let us := l.flatMap (fun p => if p.kind = 2 then [] else p.users.filter (·.down))
  let more := fun sid => us.any fun u => u.sid == sid && ((s.radio r).explicit || decide ((Tab.getD s.mac.csi (csiKey sid r) {}).nAnt < u.ss))
  let upd := fun (sid : Nat) (x : Sta) =>
    if !(more sid) then { x with sounding := Tab.del x.sounding r, soundDue := x.soundDue.filter (· != r) }
    else if Tab.has x.sounding r then x
    else { x with sounding := Tab.put x.sounding r s.elapsed, soundDue := r :: x.soundDue.filter (· != r) }
  { s with mac := { s.mac with stas := Tab.mapV s.mac.stas upd } }

/-- The plan of the next superframe freezes at S − PLAN_LEAD (R216, R217): two plans and event 0x6001 when a commit that
targets S is pending, be it that the radio's bank or the superframe alone changes; a Dormant entry applies no bank. -/
def freeze (r : Nat) (s : State) : State :=
  let S := s.nextBoundary
  let serves := s.inService (.radio r) && decide (s.grid.mode < 5)
  let pend := s.commitPending && s.commit.target == S && s.commit.kind != .dormantEntry && (serves || s.commit.part.getLsbD r)
  let lead := s.planLead r (!serves)
  if !s.ntValid || 3 ≤ r || !(serves || pend) || Tab.get? s.mac.frozen r = some S || s.ntNs + lead < S then s
  else
    let a := if serves then s.planRadio r S false s.grid.mode s.grid.sfLen else ([], 0)
    let b := if pend then s.planRadio r S true s.commit.newMode s.commit.newLen else ([], 0)
    let s1 := (s.addPlan a.1).addPlan b.1
    let s2 := s1.incBy (macCnt r 5 true) (if serves then a.2 else b.2)
    let s3 := { s2 with mac := { s2.mac with
      frozen := Tab.put s2.mac.frozen r S
      dual := if serves && pend then (r :: s2.mac.dual) else s2.mac.dual
      stas := Tab.mapV s2.mac.stas fun _ x => { x with uplinkNext := x.uplinkNext.filter (· != r) } } }
    let s4 := s3.soundAsked r (a.1 ++ b.1)
    if serves && pend then s4.postEvent 0x6001 (items [r, S % 2 ^ 64]) else s4

def execPlanFreeze (radio : Nat) (s : State) : Host.Outcome State Fault Refusal := .next (freeze radio s)

/-! ## Content -/

/-- Octets on the air of an MPDU that carries these frames (IEEE 802.11; log 11): header, body, protection, FCS. Several are an A-MSDU, of
subframes with a header of 14 octets, padded to 4. -/
def mpduLen (l : List Frame) (prot : Bool) : Nat :=
  (match l with
    | [f] => if f.kind = 1 then f.body.length else 26 + f.body.length
    | _ => 26 + (l.map fun f => (14 + f.body.length + 3) / 4 * 4).sum) + 4 + (if prot then 24 else 0)

/-- The frames that joined a frame's A-MSDU, by id (R226). -/
def State.joinedTo (s : State) (id : Nat) : List Nat := (s.mac.frames.filter (fun e => e.2.joined == some id)).map (·.1)

/-- The frames of the MPDU that a frame opened. -/
def State.mpduOf (s : State) (id : Nat) : List Frame := (id :: s.joinedTo id).filterMap (Tab.get? s.mac.frames)

/-- The frame that a frame's fate on the air goes with: the one that opened its MPDU, while that is there. -/
def State.leadOf (s : State) (f : Frame) : Option Nat := f.joined.filter (Tab.has s.mac.frames)

/-- A frame is dropped inside an agreement's window: the station's next PPDU carries a BlockAckReq (R227). -/
def State.barAfter (s : State) (f : Frame) : State :=
  match f.sn with
  | none => s
  | some n => s.modSta f.sid fun x => { x with txBa := Tab.upd x.txBa f.tid fun a => { a with start := (n + 1) % 4096, barDue := true } }

/-- A frame's lifetime is over. -/
def State.expired (s : State) (f : Frame) : Bool := decide (f.enq + f.life ≤ s.elapsed)

/-- Drop a frame with MAC_LIFETIME (R227), and with it the frames of its A-MSDU (log 151). -/
def State.dropLife (s : State) (r id : Nat) : State :=
  (id :: s.joinedTo id).foldl (fun (s : State) k => match Tab.get? s.mac.frames k with
    | some f => (s.barAfter f).dropAt k 0x3D (macCnt r 1 true)
    | none => s) s

/-- The slot a frame is protected with: none where it goes in the clear; group-addressed management frames take the BIP slot (R359). -/
def State.frameSlot (s : State) (r : Nat) (f : Frame) : Option Nat :=
  if f.kind = 1 && bitOf f.flags 2 then none
  else if f.sid = 0xFFFF then
    (if bssOpen r f.bss then none else some (if f.kind = 1 then bipSlot r f.bss else groupSlot r f.bss))
  else (s.sta f.sid).bind (·.keySlot)

/-- The frame needs a key that its station does not name (R359). -/
def State.lacksKey (s : State) (r : Nat) (f : Frame) : Bool :=
  f.sid != 0xFFFF && !(f.kind == 1 && bitOf f.flags 2) && (s.frameSlot r f).isNone
    && !(match (s.sta f.sid).bind (·.linkOn r) with | some l => bssOpen r l.bss | none => false)

/-- The first cut-off of a frame draws its SN and its PN and admits its encryption (R227, R359): true when it stays. Where the engine
has no room it waits (12 R349); a slot of another suite is no key for it (12 R348; log 180). The SN of a group-addressed frame, which belongs to no station's counter, is free. -/
def State.firstCut (s : State) (r id : Nat) : Bool × State :=
  match Tab.get? s.mac.frames id with
  | none => (false, s)
  | some f =>
    if f.sn.isSome then (true, s)
    else if (s.frameSlot r f).isSome && s.inService .cipher && !s.cphRoom then (false, s)
    else if s.lacksKey r f then (false, s.dropAt id 0x64 ⟨pageBase f.tenant + 0x24, 15, 0⟩)
    else
      let protect : Option (Bool × State) := (s.frameSlot r f).map fun k =>
        if !(s.inService .cipher) then (false, (s.refuseAt (.radio r)).endFrame id 0x01)
        else if !(s.slotIn k f.tenant) then
          let s1 := s.countPage k 1 true
          (false, (match f.cmd with
            | some (fn, _) => s1.isolationEvent fn k
            | none => s1.isolationTenant f.tenant k).endFrame id 0x09)
        else match s.bindGen k with
        | none => (false, (s.countPage k 1 false).endFrame id 0x64)
        | some g =>
          if g.serves 0 && (decide (5 ≤ g.suite) == (f.sid == 0xFFFF && f.kind == 1)) then
          match s.drawCounter k with
          | (none, s1) => (false, (s1.countPage k 2 false).endFrame id 0x08)
          | (some pn, s1) =>
            (true, (s1.cphAdmit { slot := k, gen := g.gen, frame := some id }).modFrame id fun f => { f with pn := some pn, gen := g.gen })
          else (false, (s.countPage k 1 false).endFrame id 0x65)
      let (ok, s1) := protect.getD (true, s)
      if !ok then (false, s1)
      else if f.sid = 0xFFFF then
        let (v, s2) := s1.draw 12
        (true, s2.modFrame id fun f => { f with sn := some v.toNat })
      else
        let n := ((s1.sta f.sid).elim 0 (fun x => Tab.getD x.sn f.tid 0)) % 4096
        let s2 := s1.modSta f.sid fun x => { x with sn := Tab.put x.sn f.tid ((n + 1) % 4096) }
        (true, s2.modFrame id fun f => { f with sn := some n })

/-- A launch takes a frame: it is dequeued (11 R338), and the radio holds its command. -/
def State.takeFrame (s : State) (r : Nat) (of_ : LaunchOf) (id : Nat) : State :=
  match Tab.get? s.mac.frames id with
  | none => s
  | some f =>
    let s1 := (s.modFrame id fun f => { f with taken := some (r, of_) }).watchOut f.queue f.body.length (s.ntNs - f.enqNt)
    match f.cmd with
    | some (fn, tag) => s1.cmdUnit fn tag (some r)
    | none => s1

/-- Where filling a user's RU stands: octets left, frames taken, the frame that opened the last new MPDU, queues whose head stays,
whether the RU takes no more. -/
structure Fill where
  left : Nat
  ids : List Nat := []
  opened : Option Nat := none
  blocked : List Nat := []
  closed : Bool := false
deriving DecidableEq, Repr

/-- The greatest MPDU of a station on a radio (R231, R234). -/
def State.maxMpdu (s : State) (r sid : Nat) : Nat :=
  [3895, 7991, 11454].getD (((s.sta sid).bind (·.linkOn r)).elim 0 (·.caps) % 4) 3895

/-- A new frame joins the MPDU opened last, as an A-MSDU within an A-MPDU (R226, R231; log 151): MSDUs of one queue with the same
acknowledgement, up to the station's MAX_MPDU. -/
def State.joins (s : State) (r : Nat) (f : Frame) (opened : Option Nat) : Option (Nat × Frame) :=
  opened.bind fun id => (Tab.get? s.mac.frames id).bind fun g =>
    if f.sn.isNone && f.kind = 0 && g.kind = 0 && !bitOf f.flags 0 && !bitOf g.flags 0 && bitOf f.flags 1 == bitOf g.flags 1
        && f.queue == g.queue && f.tid == g.tid && f.cmd.map (·.1) == g.cmd.map (·.1)
        && decide (mpduLen (s.mpduOf id ++ [f]) (s.frameSlot r f).isSome ≤ s.maxMpdu r f.sid) then some (id, g) else none

/-- Try a queued frame for a user's RU (R218, R226, R227, 11 R332, R334): one that may not go on the radio stays at its queue's head, and
those behind it wait. -/
def State.fillStep (s : State) (r : Nat) (of_ : LaunchOf) (a : State × Fill) (id : Nat) : State × Fill :=
  let (t, k) := a
  match Tab.get? t.mac.frames id with
  | none => a
  | some f =>
    if k.closed || k.blocked.contains f.queue then a
    else if !bitOf f.radios r then (t, { k with blocked := f.queue :: k.blocked })
    else if (t.leadOf f).isSome then
      if (t.leadOf f).any k.ids.contains then (t.takeFrame r of_ id, { k with ids := k.ids ++ [id] }) else a
    else if t.expired f then (t.dropLife r id, k)
    else if f.dram ≠ 0 then
      if t.dramLost f.dram then (t.dropAt id 0x3D (pktCnt 7 true), k)
      else (t.inc (pktCnt 6 false), { k with blocked := f.queue :: k.blocked })
    else
      let ba := (s.sta f.sid).bind fun x => Tab.get? x.txBa f.tid
      let mine := (k.ids.filter (fun i => (Tab.get? t.mac.frames i).any (fun g => g.tid == f.tid && g.joined.isNone))).length
      let alone := ba.isNone || f.kind = 1 || bitOf f.flags 0
      let prot := (t.frameSlot r f).isSome
      let n := mpduLen (t.mpduOf id) prot
      match (if alone then none else t.joins r f k.opened) with
      | some (l, g) =>
        let more := mpduLen (t.mpduOf l ++ [f]) prot - mpduLen (t.mpduOf l) prot
        if k.left < more then (t, { k with blocked := f.queue :: k.blocked })
        else ((t.modFrame id fun f => { f with sn := g.sn, pn := g.pn, gen := g.gen, joined := some l }).takeFrame r of_ id,
          { k with left := k.left - more, ids := k.ids ++ [id] })
      | none =>
      if k.left < n || (alone && !k.ids.isEmpty) || (match ba with | some b => decide (b.size ≤ mine) | none => false) then
        (t, { k with blocked := f.queue :: k.blocked })
      else
        match t.firstCut r id with
        | (false, t1) => (t1, k)
        | (true, t1) => (t1.takeFrame r of_ id,
          { k with left := k.left - n, ids := k.ids ++ [id], opened := if f.sn.isNone then some id else none, closed := alone })

/-- The frames in a station's queues, those of the user's class first, then by class and order of entry; one that names its launch
stands in no queue's order (R233). -/
def State.userFrames (s : State) (r sid cls : Nat) : List Nat :=
  let l := s.mac.frames.filter (fun e => e.2.sid == sid && e.2.taken.isNone && e.2.launch == 0)
  let key := fun (e : Nat × Frame) =>
    let c := s.serveClass r sid e.2.tid e.2.tenant true
    if c = cls then 0 else 1 + c
  (sortBy key l).map (·.1)

/-- The plaintext of an MPDU: a frame's body, or an A-MSDU, whose subframe addresses are free (log 181). -/
def mpduBody (l : List Frame) : List Byte :=
  match l with
  | [f] => f.body
  | l => l.flatMap fun f =>
    let n := 14 + f.body.length
    leBytes 12 (Config.freeOf 96 (0x0359 :: f.body.map (·.toNat))).toNat ++ beBytes 2 f.body.length ++ f.body
      ++ List.replicate ((n + 3) / 4 * 4 - n) 0

/-- The bytes that encryption under a generation leaves in an MPDU's cells (12 R348, R359): of IEEE 802.11's nonce and AAD, the parts that
come from the MAC header are free (log 181). -/
def KeyGen.seal (g : KeyGen) (pn sn : Nat) (b : List Byte) : List Byte :=
  let hdr := fun (n k : Nat) => leBytes n (Config.freeOf (8 * n) (0x0359 :: k :: pn :: sn :: b.map (·.toNat))).toNat
  let aad := hdr 22 1
  if g.suite ≤ 2 then
    let (ct, t) := ccmEncrypt g.key (hdr 7 2 ++ beBytes 6 pn) aad b (8 * g.suite)
    ct ++ t
  else if g.suite ≤ 4 then
    let (ct, t) := gcmEncrypt g.key (hdr 6 2 ++ beBytes 6 pn) aad b
    ct ++ t
  else if g.suite = 5 then b ++ (cmac g.key (aad ++ b)).take 8
  else if g.suite = 6 then b ++ cmac g.key (aad ++ b)
  else b ++ gcmTag g.key (hdr 6 2 ++ beBytes 6 pn) (aad ++ b) []

/-- The MPDU that a frame opened is encrypted into its cells, once (12 R359, R360). -/
def State.sealMpdu (s : State) (r id : Nat) : State :=
  match Tab.get? s.mac.frames id with
  | none => s
  | some f =>
    match f.pn, s.frameSlot r f with
    | some pn, some k =>
      let gens := [(s.slot k).cur, (s.slot k).ret].filterMap fun o => o
      match gens.find? (fun g => g.gen == f.gen) with
      | some g =>
        if f.joined.isSome || !f.sealed.isEmpty then s
        else s.modFrame id fun f => { f with sealed := g.seal pn (f.sn.getD 0) (mpduBody (s.mpduOf id)) }
      | none => s
    | _, _ => s

/-- The content cut-off of a planned PPDU (R218). -/
def cutPlan (r id : Nat) (room : List Nat) (s : State) : State :=
  match Tab.get? s.mac.plan id with
  | none => s
  | some p =>
    if p.radio ≠ r || p.cut || p.used || p.staged || s.ntNs + 10000 < p.launch then s
    else
      let fill := fun (acc : State × List PlanUser) (ui : PlanUser × Nat) =>
        let (u, i) := ui
        if !u.down || u.status ≠ 0 then (acc.1, acc.2 ++ [u])
        else
          let q := (acc.1.userFrames r u.sid u.cls).foldl (acc.1.fillStep r (.plan id)) (acc.1, { left := room.getD i 0 })
          (q.2.ids.foldl (fun (s : State) k => s.sealMpdu r k) q.1, acc.2 ++ [{ u with frames := q.2.ids }])
      let (s1, us) := p.users.zipIdx.foldl fill (s, [])
      let sends := us.any (fun u => !u.frames.isEmpty) || us.any (fun u => !u.down && u.status == 0)
      let s2 := if sends then s1 else s1.inc (macCnt r 5 false)
      s2.modPpdu id fun p => { p with users := us, cut := true, used := !sends }

/-- The content cut-off of a frame sent on its own. One that is still in DRAM is not taken (11 R332), and is read for its next
opportunity (log 178). -/
def cutOne (r : Nat) (of_ : LaunchOf) (id t : Nat) (s : State) : State :=
  match Tab.get? s.mac.frames id with
  | none => s
  | some f =>
    if f.taken.isSome || !bitOf f.radios r || s.ntNs + 10000 < t then s
    else if s.expired f then s.dropLife r id
    else if f.dram ≠ 0 then if s.dramLost f.dram then s.dropAt id 0x3D (pktCnt 7 true) else (s.inc (pktCnt 6 false)).readFrame id
    else match s.firstCut r id with
      | (false, s1) => s1
      | (true, s1) => (s1.takeFrame r of_ id).sealMpdu r id

/-- CONTENT_CUT_OFF (R218). A frame dequeued for a radio that is not in service is refused there: the packet path counts it, and it
stays in its queue (01 R33). -/
def cutOff (r : Nat) (of_ : LaunchOf) (t0 : Nat) (room : List Nat) (s : State) : State :=
  let t := match of_ with
    | .single fn tag => (s.mac.frames.find? (fun e => e.2.cmd == some (fn, tag))).elim t0 (·.2.launch)
    | _ => t0
  let names : Option Nat := match of_ with
    | .single fn tag => (s.mac.frames.find? (fun (e : Nat × Frame) => e.2.cmd == some (fn, tag))).map (fun (e : Nat × Frame) => e.1)
    | .group id => some id
    | .contended id => some id
    | _ => none
  if !s.ntValid then s
  else if !(s.inService (.radio r)) then
    if (names.bind (Tab.get? s.mac.frames)).any (fun (f : Frame) => f.taken.isNone && bitOf f.radios r) && decide (t ≤ s.ntNs + 10000) then
      s.refuseAt .pkt
    else s
  else match of_ with
  | .plan id => cutPlan r id room s
  | .single fn tag =>
    match s.mac.frames.find? (fun e => e.2.cmd == some (fn, tag) && e.2.launch != 0) with
    | some e => cutOne r of_ e.1 t s
    | none => s
  | .group id =>
    let head := fun (f : Frame) => !(s.mac.frames.any fun e => decide (e.1 < id) && e.2.queue == f.queue && e.2.taken.isNone)
    if (Tab.get? s.mac.frames id).any (fun f => f.sid == 0xFFFF && f.launch == 0 && head f) then cutOne r of_ id t s else s
  | .contended id =>
    if (Tab.get? s.mac.frames id).any (fun f => f.sid != 0xFFFF && f.launch == 0) && s.openHolds r t 1 then cutOne r of_ id t s else s
  | .beacon _ | .randomTrigger _ => s

def execContentCutOff (radio : Nat) (of_ : LaunchOf) (t : Nat) (room : List Nat) (s : State) :
    Host.Outcome State Fault Refusal := .next (cutOff radio of_ t room s)

/-! ## Beacons and outcomes -/

/-- BEACON_LAUNCH (R213): late beacons are not sent, event 0x6005, and count nowhere (log 167); a front-end that cannot launch sends nothing (06 R165);
a reception ends with BB_RX_CUT (07 R190). -/
def beaconGo (r bss air : Nat) (s : State) : State :=
  let t := s.beaconAt r
  if !(s.inService (.radio r)) || !s.ntValid || s.airClosed || s.grid.start.isNone || 5 ≤ s.grid.mode || !(s.beaconTurn r bss)
      || (s.radio r).launches.any (fun l => l.of_ == .beacon bss) || s.ntNs < t then s
  else
    let sl := slotNs s.grid.mode
    let over_ := s.grid.start.getD 0 + (s.beaconSlots r false).2 * sl
    let set := s.launchSet r
    let next := fun (s : State) => { s with mac := { s.mac with beacons := Tab.put s.mac.beacons r (bss + 1) } }
    if over_ < t + air then (next s).postEvent 0x6005 (items [r, bss])
    else if set.isEmpty || s.radioEclipsing r then next s
    else if !(s.chainsLocked r set) then
      let l := Tab.getD s.mac.late r (t, 0)
      let s1 := ((next s).inc ⟨feBase r + 0x28, 15, 0⟩).inc (macCnt r 0 false)
      { s1 with mac := { s1.mac with late := Tab.put s1.mac.late r (l.1, l.2 + 1) } }.postEvent 0x4003 (items [r, t % 2 ^ 64])
    else
      (s.cutReception r).beaconSent r bss t (t + air)

def execBeaconLaunch (radio bss air : Nat) (s : State) : Host.Outcome State Fault Refusal := .next (beaconGo radio bss air s)

/-- RETRY_LIMIT of a radio. -/
def State.retryLimit (s : State) (r : Nat) : Nat := s.get ⟨macBase r + 8, 3, 0⟩

/-- An attempt without acknowledgement (R227): retried, or dropped with MAC_RETRY_LIMIT. A frame with a launch time is
sent once. -/
def State.unacked (s : State) (r id : Nat) : State :=
  match Tab.get? s.mac.frames id with
  | none => s
  | some f =>
    if f.launch ≠ 0 then (if f.lastStatus = 0x29 then s.endFrame id 0x29 else s.dropAt id 0x3E (macCnt r 1 false))
    else if s.retryLimit r + 1 ≤ f.attempts then (s.barAfter f).dropAt id 0x3E (macCnt r 1 false)
    else s.returnFrame id

/-- Count an attempt of a frame. -/
def State.attempt (s : State) (r id st : Nat) : State :=
  s.modFrame id fun f => { f with attempts := f.attempts + 1, lastRadio := r, lastStatus := st }

/-- A launch without an attempt (R225): its frames are returned and counted; a frame with a launch time completes with the
outcome. -/
def State.notSent (s : State) (r id st : Nat) : State :=
  match Tab.get? s.mac.frames id with
  | none => s
  | some f =>
    if f.launch ≠ 0 then
      (s.modFrame id fun f => { f with lastStatus := if 0x28 ≤ st then st else 0 }).endFrame id st
    else (s.returnFrame id).inc (macCnt r 0 true)

/-- What a PPDU that was sent carried beside its frames: the BlockAckReqs due to the stations it sent to (R227, R230), in a DL part the
TWT setup frames due to them (R224), and of a sounding sequence the soundings due (07 R200). -/
def State.served (s : State) (r : Nat) (of_ : LaunchOf) (ids : List Nat) : State :=
  let plan : Option Ppdu := match of_ with
    | .plan id => Tab.get? s.mac.plan id
    | _ => none
  let sids := match plan with
    | some p => (p.users.filter (fun (u : PlanUser) => u.down && u.status == 0)).map (fun (u : PlanUser) => u.sid)
    | none => ids.filterMap (fun i => (Tab.get? s.mac.frames i).map (fun (f : Frame) => f.sid))
  let dl := plan.any (fun (p : Ppdu) => p.kind == 5)
  let sounded := match plan with
    | some p => if p.kind = 2 then p.users.map (fun (u : PlanUser) => u.sid) else []
    | none => []
  let s1 := sids.eraseDups.foldl (fun (s : State) sid => s.modSta sid fun x =>
    { x with txBa := Tab.mapV x.txBa fun _ a => { a with barDue := false }
             twt := Tab.mapV x.twt fun k t => if dl && k / 8 = r then { t with setupDue := false } else t }) s
  sounded.foldl (fun (s : State) sid => s.modSta sid fun x => { x with soundDue := x.soundDue.filter (· != r) }) s1

/-- A launch's outcome (R225): the stations of a launch refused for its chains or its form are not served in what is left of
the radio's plan. -/
def outcome (r : Nat) (of_ : LaunchOf) (acked : List Nat) (s : State) : State :=
  match (s.radio r).launches.find? (fun l => l.of_ == of_ && l.outcome.isSome) with
  | none => s
  | some l =>
    let st := l.outcome.getD 0
    let ids := s.takenBy r of_
    let sids := (match of_ with
      | .plan id => ((Tab.get? s.mac.plan id).map (fun (p : Ppdu) => p.users.map (fun (u : PlanUser) => u.sid))).getD []
      | _ => ids.filterMap (fun i => (Tab.get? s.mac.frames i).map (fun (f : Frame) => f.sid))).eraseDups
    let s1 := s.modRadio r fun x => { x with launches := x.launches.filter (fun m => m.of_ != of_) }
    let s2 := match of_ with
      | .plan id =>
        let miss := ((Tab.get? s.mac.plan id).map (fun (p : Ppdu) => (p.users.filter (fun u => u.status == 0x30 || u.status == 0x31)).map (·.sid))).getD []
        (miss.foldl (fun (s : State) sid => s.modSta sid fun x =>
          { x with uplinkNext := if x.uplinkNext.contains r then x.uplinkNext else r :: x.uplinkNext }) s1).modPpdu id
          fun p => { p with used := true }
      | _ => s1
    if st = 0 then
      let served := s2.served r of_ ids
      let s3 := ids.foldl (fun (s : State) id =>
        let s := s.attempt r id 0
        match Tab.get? s.mac.frames id with
        | none => s
        | some f =>
          if acked.contains (f.joined.getD id) then (if f.joined.isNone then s.inc64 (macBase r + 0x820) else s).endFrame id 0
          else if f.sid = 0xFFFF || bitOf f.flags 1 then s.endFrame id 0
          else s.unacked r id) served
      sids.foldl (fun (s : State) sid => s.modSta sid fun x =>
        { x with traffic := 5, awake := x.awake && s.buffered sid }) s3
    else if st = 0x29 then ids.foldl (fun s id => (s.attempt r id 0x29).unacked r id) s2
    else
      let s3 := ids.foldl (fun s id => s.notSent r id st) s2
      let s4 := if st = 0x04 then
          let x := Tab.getD s3.mac.late r (l.t, 0)
          { s3.inc (macCnt r 0 false) with mac := { (s3.inc (macCnt r 0 false)).mac with late := Tab.put s3.mac.late r (x.1, x.2 + 1) } }
        else s3
      if st = 0x28 || st = 0x33 || st = 0x35 then
        let sf := match of_ with
          | .plan id => ((Tab.get? s.mac.plan id).map (·.sf)).getD 0
          | _ => s.grid.start.getD 0
        { s4 with mac := { s4.mac with plan := Tab.mapV s4.mac.plan fun _ p =>
          if p.radio = r && p.sf = sf && !p.cut && !p.used then
            { p with users := p.users.map fun u => if sids.contains u.sid && u.status = 0 then { u with status := st } else u }
          else p } }
      else s4

def execLaunchOutcome (radio : Nat) (of_ : LaunchOf) (acked : List Nat) (s : State) : Host.Outcome State Fault Refusal :=
  .next (outcome radio of_ acked s)

/-! ## Reception -/

/-- Octets of an MPDU's header, without its FCS (IEEE 802.11; log 11): a fourth address, QoS Control and HT Control where they are there. -/
def headerLen (m : RxMpdu) : Nat :=
  24 + (if m.fourAddr then 6 else 0) + (if m.type = 2 && m.tid < 8 then 2 else 0) + (if m.htc then 4 else 0)

/-- The reception that ended last delivers the MPDU (07 R191, R194): its stamp is the PPDU's, and its user was not missing from it. -/
def State.delivers (s : State) (m : RxMpdu) : Bool :=
  (s.radio m.radio).rx.ended.any fun e => m.stamp % 2 ^ 64 == e.1.toNat && !(e.2.contains m.user)

/-- The decryption of a protected MPDU (12 R348, R351, R352, R355, R361): it was admitted when its first protected byte came, under the
generation of that instant; none where it goes no further. A management frame that streams direct into host buffers (13 R387) is
delivered as UNTRUSTED where its tag fails. -/
def State.rxTag (s : State) (m : RxMpdu) (sid : Nat) (slot : Option Nat) : Option RxMpdu × State :=
  match m.sec with
  | none => (some m, s)
  | some (_, tagOk) =>
    if !(s.inService .cipher) then (none, s.refuseAt (.radio m.radio))
    else match slot with
    | none => (none, s.inc ⟨pageBase (s.bssTenant m.radio m.bss) + 0x24, 15, 0⟩)
    | some k =>
      if !(s.slotIn k (s.bssTenant m.radio m.bss)) then (none, (s.countPage k 1 true).isolationEvent (s.bssFn m.radio m.bss) k)
      else match (s.boundAt k (s.nsAgo m.since)).filter (·.serves 0) with
      | none => (none, s.countPage k 1 false)
      | some g =>
        let s1 := s.cphAdmit { slot := k, gen := g.gen }
        if tagOk then (some { m with gen := some g.gen }, s1)
        else if m.type = 0 && s.flag ⟨hqBase (s.bssFn m.radio m.bss) + 0x24, 4, 4⟩ then
          (none, (s1.tagFailed k true).toHost m (some sid) 0x07)
        else (none, s1.tagFailed k false)

/-- The duplicate check (R228) of an MPDU of a station: it is discarded, held for its order, or accepted. -/
def State.rxAccept (s : State) (m : RxMpdu) (sid : Nat) (x : Sta) : State :=
  let tid := if m.type = 2 && m.tid < 8 then m.tid else 16
  match Tab.get? x.rxBa tid with
  | some a =>
    let off := (m.sn + 4096 - a.start) % 4096
    if off < a.size then
      if a.got.contains m.sn then s.inc (macCnt m.radio 2 false)
      else
        (s.modSta sid fun x => { x with rxBa := Tab.upd x.rxBa tid fun a =>
          { a with got := m.sn :: a.got, held := Tab.put a.held m.sn m } }).releaseInOrder sid tid
    else if 2048 ≤ off then s.inc (macCnt m.radio 2 true)
    else
      let s1 := s.moveWindow sid tid ((m.sn + 4096 + 1 - a.size) % 4096)
      (s1.modSta sid fun x => { x with rxBa := Tab.upd x.rxBa tid fun a =>
        { a with got := m.sn :: a.got, held := Tab.put a.held m.sn m } }).releaseInOrder sid tid
  | none =>
    if m.retry && Tab.get? x.lastRx tid == some (m.sn, m.frag) then s.inc (macCnt m.radio 2 false)
    else (s.modSta sid fun x => { x with lastRx := Tab.put x.lastRx tid (m.sn, m.frag) }).releaseMpdu m (some sid) x.keySlot

/-- RX_MPDU (R228, R231): size, type, FCS, station, power save and reports, tag, duplicates, and delivery. A frame of a type that IEEE
802.11 does not define is discarded and counted (01 R39); one of 14 B names no sender. A protected one waits for room in the engine
(12 R349). -/
def mpduIn (m : RxMpdu) (s : State) : State :=
  let r := m.radio
  let least := if m.type = 1 then 14 else headerLen m + 4
  if !(s.inService (.radio r)) then s
  else if !(s.delivers m) then s
  else if m.len < least then s.inc (macCnt r 3 false)
  else if 11454 < m.len then s.inc (macCnt r 3 true)
  else if !m.fcsOk then s
  else if m.sec.isSome && s.inService .cipher && !s.cphRoom then s
  else if 3 ≤ m.type then s.countReject 6
  else match s.mac.stas.find? (fun e => e.2.links.any (fun l => l.radio == r && l.addr == m.ta)) with
  | none =>
    if m.type = 1 && m.len = 14 then s
    else
      (s.inc (macCnt r 4 true)).toHost m none 0
  | some (sid, _) =>
    let s1 := s.modSta sid fun x =>
      { x with ps := m.pm, awake := (m.pm && (x.awake || m.poll)), ul := m.ul.getD x.ul, traffic := if m.type = 2 then 5 else x.traffic }
    match s1.sta sid with
    | none => s1
    | some x =>
      if m.type = 1 then
        match m.bar with
        | some (tid, sn) =>
          let back := match Tab.get? x.rxBa tid with | some a => decide (2048 ≤ (sn + 4096 - a.start) % 4096) | none => true
          if back then s1 else (s1.moveWindow sid tid sn).releaseInOrder sid tid
        | none => s1
      else
        match s1.rxTag m sid x.keySlot with
        | (none, s2) => s2
        | (some m, s2) => s2.rxAccept m sid x

def execRxMpdu (m : RxMpdu) (s : State) : Host.Outcome State Fault Refusal := .next (mpduIn m s)

/-- A hole has stood for REORDER_TIMEOUT (R229): it is released past. -/
def reorderOut (sid tid : Nat) (s : State) : State :=
  match (s.sta sid).bind (fun x => (Tab.get? x.rxBa tid).map (fun a => (x, a))) with
  | none => s
  | some (x, a) =>
    let r := x.firstRadio
    match Tab.get? a.holes a.start with
    | none => s
    | some t =>
      if s.elapsed < t + ms (s.get ⟨macBase r + 0x14, 9, 0⟩) then s
      else match (snRange a.start a.size).find? (fun k => Tab.has a.held k) with
      | none => s
      | some k =>
        let s1 := ((s.moveWindow sid tid k).releaseInOrder sid tid).inc (macCnt r 4 false)
        { s1 with mac := { s1.mac with reorders := Tab.put s1.mac.reorders r (Tab.getD s1.mac.reorders r 0 + 1) } }

def execReorderTimeout (sid tid : Nat) (s : State) : Host.Outcome State Fault Refusal := .next (reorderOut sid tid s)

/-- A queued frame's lifetime ends before a cut-off takes it (R227); one that joined an A-MSDU goes with that (log 151). -/
def lifeOut (id : Nat) (s : State) : State :=
  match Tab.get? s.mac.frames id with
  | none => s
  | some f =>
    if f.taken.isSome || (s.leadOf f).isSome || !(s.expired f) then s
    else s.dropLife (([0, 1, 2].find? (bitOf f.radios)).getD 0) id

def execFrameLifetimeExpiry (id : Nat) (s : State) : Host.Outcome State Fault Refusal := .next (lifeOut id s)

/-- An ADDBA request (R226): accepted up to the station's limit; a TID above 7 is discarded and counted (01 R36, R39). -/
def addba (sid tid size sn : Nat) (s : State) : State :=
  match s.liveSta sid with
  | none => s
  | some x =>
    let top := if x.eht then 1024 else 256
    if 7 < tid then s.countReject 6 else s.setBa sid tid 1 (if size = 0 then top else Nat.min size top) (sn % 4096)

def execAddbaRequestRx (sid tid size sn : Nat) (s : State) : Host.Outcome State Fault Refusal := .next (addba sid tid size sn s)

/-- An agreement ends by timeout (R238). -/
def agreementOut (sid tid dir : Nat) (s : State) : State :=
  match s.sta sid with
  | none => s
  | some x =>
    if (if dir = 1 then Tab.has x.rxBa tid else dir == 0 && Tab.has x.txBa tid) then s.endAgreement sid tid dir 1 else s

def execAgreementTimeout (sid tid dir : Nat) (s : State) : Host.Outcome State Fault Refusal := .next (agreementOut sid tid dir s)

end Sys2Proof.Machine
end

