-- ==== Sys2Proof/Machine/HostIf.lean ====
section
/-! DEFINITION. The commands of the PCI Express endpoint, the rings and Eclipse (13 R372 to R396). -/

namespace Sys2Proof.Machine

/-! ## The link and configuration (R374) -/

/-- Training may have begun: from boot step 4 on (03 R75), and not between Dormant entry step 9 and exit step 3 (05 R147,
R148). -/
def State.mayTrain (s : State) : Bool :=
  s.boot.state != .reset && s.boot.state != .qualify && (match s.dormant.seq with
    | .none => true
    | .entry k => decide (k < 9)
    | .exit k => decide (3 ≤ k)
    | _ => false)

/-- The data link layer reports DL_Active. -/
def linkUp (speed width : Nat) (s : State) : State :=
  if s.host.linkUp || !s.mayTrain || speed = 0 || 5 < speed || !([1, 2, 4, 8].contains width) then s
  else { s with host := { s.host with linkUp := true, speed := speed, width := width } }.postEvent 0xB003 (items [1, speed, width])

def execPcieLinkUp (speed width : Nat) (s : State) : Host.Outcome State Fault Refusal := .next (linkUp speed width s)

/-- The link goes down; 0xB003 tells it. -/
def State.linkDown (s : State) : State :=
  if s.host.linkUp then
    { s with host := { s.host with linkUp := false, speed := 0, width := 0 } }.postEvent 0xB003 (items [0, 0, 0])
  else s

/-- The functions that are enabled. -/
def State.enabledFns (s : State) : List Nat := (List.range 16).filter s.fnEnabled

/-- Every enabled function faults with LINK_DOWN, each with its own record. -/
def State.linkFaults (s : State) : State := s.enabledFns.foldl (fun s f => s.strobe (.func f) 0x08 0) s.linkDown

/-- PCIE_PERST_N asserted after its filter. Before link training there is nothing for it to take down. -/
def perst (s : State) : State := if s.boot.state == .reset || s.boot.state == .qualify then s else s.linkFaults

def execPciePerstAssert (s : State) : Host.Outcome State Fault Refusal := .next (perst s)

/-- A hot reset over a link that is up. -/
def hotReset (s : State) : State := if s.host.linkUp then s.linkFaults else s

def execPcieHotReset (s : State) : Host.Outcome State Fault Refusal := .next (hotReset s)

/-- The data link is lost. -/
def linkLoss (s : State) : State := if s.host.linkUp then s.linkFaults else s

def execPcieLinkLoss (s : State) : Host.Outcome State Fault Refusal := .next (linkLoss s)

/-- A function returns to its reset values: its HQ registers, rings and buffers, what is in flight, its workers' credits
and contexts; FAULTED reads 0 (R374). -/
def State.resetFn (s : State) (f : Nat) : State :=
  let mine := fun k => hqBase f ≤ k && k < hqBase f + 0x10000
  let ringOf := fun k => k / 64 == f
  let s1 := (s.mapCmds (·.filter (fun c => c.fn != f))).dropFnWork f
  let s2 := (s1.workersOf f).foldl (fun s w => s.dropConsumer (16 + w)) s1
  { s2 with
    regs := Tab.keep s2.regs (fun k _ => !(mine k))
    host := { s2.host with
      rings := Tab.keep s2.host.rings (fun k _ => !(ringOf k)), ev := Tab.del s2.host.ev f
      buffers := Tab.keep s2.host.buffers (fun k _ => !(ringOf k)), bqTail := Tab.keep s2.host.bqTail (fun k _ => !(ringOf k))
      faulted := s2.host.faulted.filter (· != f), rrSq := Tab.del s2.host.rrSq f
      msixTab := Tab.keep s2.host.msixTab (fun k _ => k / 65536 != f), msixPend := s2.host.msixPend.filter (·.1 != f)
      d3 := s2.host.d3.filter (· != f)
      truncs := Tab.keep s2.host.truncs (fun k _ => k / 16 != f) } }

/-- The reset of a function's configuration space and HQ registers; the PF's clears VF Enable, and the VFs go with it. -/
def State.flrFn (s : State) (f : Nat) : State :=
  let gone := if f = 0 then s.enabledFns else [f]
  let s1 := gone.foldl (fun s g => s.resetFn g) s
  if f = 0 then { s1 with host := { s1.host with vfEn := 0 } } else s1

/-- A word of a function's configuration space (R372): the vendor and device identifiers and the class code; 0 for what PCI
Express alone gives (log 22). -/
def configWord (f reg : Nat) : Word :=
  if reg = 0 then BitVec.ofNat 32 (0x4C59 + 65536 * (if f = 0 then 0x5A07 else 0x5A17)) else if reg = 8 then 0x0D800000#32 else 0

/-- A configuration request (R374): Retry Status until boot step 8 has ended; one that writes the SR-IOV control enables
the first `n` VFs, at most TotalVFs, and takes the others away; a read gives the identity and a write of the power state puts
a function into D0 or D3hot (R372). -/
def configRequest (q : ConfigReq) (s : State) : State :=
  if !s.host.linkUp then { s with answer := some .absent }
  else match s.boot.state with
  | .configure | .hold | .run | .recovery =>
    match q with
    | .read f reg => { s with answer := some (if s.fnEnabled f then .value (configWord f reg) else .absent) }
    | .power f d3 =>
      if !s.fnEnabled f then { s with answer := some .absent }
      else
        let l := s.host.d3.filter (· != f)
        { s with host := { s.host with d3 := if d3 then l ++ [f] else l }, answer := some .done }
    | .sriov n =>
      let n := Nat.min n (s.get ⟨0x3100004, 19, 16⟩)
      let gone := (s.enabledFns).filter (fun f => decide (n < f))
      let s1 := gone.foldl (fun s f => s.resetFn f) s
      { s1 with host := { s1.host with vfEn := (2 ^ (n + 1) - 2) }, answer := some .done }
  | _ => { s with answer := some .retry }

def execPcieConfigRequest (q : ConfigReq) (s : State) : Host.Outcome State Fault Refusal := .next (configRequest q s)

/-! ## Doorbells (R377, R381, R384, R391) -/

/-- An invalid doorbell, buffer or release: counted (01 R39), event 0xB008 (R377, R384, R402, R410). -/
def State.badDoorbell (s : State) (f a : Nat) : State := (s.countReject 0xB).postEvent 0xB008 (items [f, a]) [f]

/-- A write to a doorbell of function f's sub-block, from the PF's map or f's window; SQ, CQ and RQ doorbells are ignored
during an Eclipse (R393). -/
def State.doorbell (s : State) (r : Requester) (f a : Nat) (always : Bool) (act : State → State) : State :=
  s.access r a (fun s => if s.eclipsing f && !always then s else act s) (fun g => g == f)

/-- Depth of an SQ. -/
def State.sqDepth (s : State) (f n : Nat) : Nat := 2 ^ (s.get ⟨sqBase f n + 8, 3, 0⟩ + 4)

/-- SQ tail doorbell. -/
def sqTail (r : Requester) (f n : Nat) (v : Word) (s : State) : State :=
  if 16 ≤ f || 16 ≤ n then s
  else
    let a := sqBase f n + 0xC
    s.doorbell r f a false fun s =>
      if s.sqDepth f n ≤ v.toNat % 1024 then s.badDoorbell f a else s.put ⟨a, 9, 0⟩ (v.toNat % 1024)

def execSqTailDoorbell (r : Requester) (f n : Nat) (v : Word) (s : State) : Host.Outcome State Fault Refusal :=
  .next (sqTail r f n v s)

/-- The head of a ring that the Z7 writes. -/
def State.ringHead (s : State) (f kind n : Nat) : Nat :=
  let d := s.ringDepth f kind n
  let r := s.ring (ringKey f kind n)
  (r.tail + d - r.used % d) % d

/-- A head doorbell of a ring that the Z7 writes, at address a: the entries it frees, or none where it lies outside the
ring or past the tail. -/
def State.headMove (s : State) (f kind n v : Nat) : Option Nat :=
  let d := s.ringDepth f kind n
  let k := (v + d - s.ringHead f kind n) % d
  if d ≤ v then none
  else if (s.ring (ringKey f kind n)).used < k then none
  else some k

/-- Free k entries at the head of a ring. -/
def State.ringFreeN (s : State) (f kind n k : Nat) : State :=
  let r := s.ring (ringKey f kind n)
  s.setRing (ringKey f kind n) { r with used := r.used - k, fresh := Nat.min r.fresh (r.used - k) }

/-- CQ head doorbell: the commands whose completions it passes are no longer in flight (R381). -/
def cqHead (r : Requester) (f n : Nat) (v : Word) (s : State) : State :=
  if 16 ≤ f || 16 ≤ n then s
  else
    let a := hqBase f + 0x40C + 0x20 * n
    s.doorbell r f a false fun s =>
      let h := v.toNat % 4096
      match s.headMove f 0 n h with
      | none => s.badDoorbell f a
      | some k =>
        let d := s.ringDepth f 0 n
        let h0 := s.ringHead f 0 n
        let s1 := s.mapCmds (·.filter fun c => !(c.fn == f && c.cq == n && (match c.cqe with
          | some i => decide ((i + d - h0) % d < k)
          | none => false)))
        (s1.ringFreeN f 0 n k).put ⟨a, 11, 0⟩ h

def execCqHeadDoorbell (r : Requester) (f n : Nat) (v : Word) (s : State) : Host.Outcome State Fault Refusal :=
  .next (cqHead r f n v s)

/-- RQ head doorbell. -/
def rqHead (r : Requester) (f n : Nat) (v : Word) (s : State) : State :=
  if 16 ≤ f || 16 ≤ n then s
  else
    let a := hqBase f + 0x814 + 0x40 * n
    s.doorbell r f a false fun s =>
      match s.headMove f 1 n (v.toNat % 4096) with
      | none => s.badDoorbell f a
      | some k => (s.ringFreeN f 1 n k).put ⟨a, 11, 0⟩ (v.toNat % 4096)

def execRqHeadDoorbell (r : Requester) (f n : Nat) (v : Word) (s : State) : Host.Outcome State Fault Refusal :=
  .next (rqHead r f n v s)

/-- BQ tail doorbell (R384): the buffers it posts, with their addresses as read from the BQ; one that is not aligned to
64 B is skipped, counted and reported. -/
def bqTail (r : Requester) (f n : Nat) (v : Word) (addrs : List NT64) (s : State) : State :=
  if 16 ≤ f || 16 ≤ n then s
  else
    let a := hqBase f + 0x818 + 0x40 * n
    s.doorbell r f a false fun s =>
      let t := v.toNat % 4096
      let d := s.ringDepth f 1 n
      let k := ringKey f 1 n
      let t0 := Tab.getD s.host.bqTail k 0
      let m := (t + d - t0 % d) % d
      if d ≤ t then s.badDoorbell f a
      else if addrs.length ≠ m then s
      else
        let new := addrs.zipIdx.map fun (x, i) => ((t0 + i) % d, x)
        let good := new.filter (fun p => p.2.toNat % 64 == 0)
        let bad := m - good.length
        let s1 := { s with host := { s.host with
          buffers := Tab.put s.host.buffers k (Tab.getD s.host.buffers k [] ++ good), bqTail := Tab.put s.host.bqTail k t } }
        let s2 := (List.range bad).foldl (fun s _ => (s.inc ⟨hqBase f + 0x820 + 0x40 * n, 15, 0⟩).badDoorbell f a) s1
        s2.put ⟨a, 11, 0⟩ t

def execBqTailDoorbell (r : Requester) (f n : Nat) (v : Word) (addrs : List NT64) (s : State) :
    Host.Outcome State Fault Refusal := .next (bqTail r f n v addrs s)

/-- Event ring head doorbell: entries are free again, and losses are reported once two are (R391). -/
def evqHead (r : Requester) (f : Nat) (v : Word) (s : State) : State :=
  if 16 ≤ f then s
  else
    let a := hqBase f + 0x1C
    s.doorbell r f a true fun s =>
      match s.headMove f 2 0 (v.toNat % 4096) with
      | none => s.badDoorbell f a
      | some k => ((s.ringFreeN f 2 0 k).put ⟨a, 11, 0⟩ (v.toNat % 4096)).reportLost f

def execEvqHeadDoorbell (r : Requester) (f : Nat) (v : Word) (s : State) : Host.Outcome State Fault Refusal :=
  .next (evqHead r f v s)

/-! ## Fetching (R380 to R383) -/

/-- The opcodes this manual defines. -/
def opcodes : List Nat :=
  [0x0110, 0x0111, 0x0112, 0x0113, 0x0114, 0x0610, 0x0620, 0x0621, 0x0622, 0x0623, 0x0624, 0x0810, 0x0811, 0x0812,
   0x0910, 0x0911, 0x0912, 0x0913, 0x0914, 0x0915, 0x0916, 0x0917, 0x0A01, 0x0A10, 0x0B01, 0x0B10, 0x0B11, 0x0C10]

/-- Commands in flight of a function, and those bound to one of its CQs. -/
def State.inFlight (s : State) (f : Nat) : Nat := (s.host.cmds.filter (fun c => c.fn == f)).length
def State.cqFlight (s : State) (f q : Nat) : Nat := (s.host.cmds.filter (fun c => c.fn == f && c.cq == q)).length

/-- The CQ that an SQ is bound to, and the SQ's WEIGHT. -/
def State.sqCq (s : State) (f n : Nat) : Nat := s.get ⟨sqBase f n + 8, 11, 8⟩
def State.sqWeight (s : State) (f n : Nat) : Nat := s.get ⟨sqBase f n + 8, 19, 16⟩
def State.sqHead (s : State) (f n : Nat) : Nat := s.get ⟨sqBase f n + 0x10, 9, 0⟩

/-- A function that runs: enabled, in D0, neither recovering nor held, and not eclipsed. -/
def State.fnRuns (s : State) (f : Nat) : Bool :=
  let u := s.unit (FUnit.func f).idx
  s.fnEnabled f && !(s.host.d3.contains f) && !s.eclipsing f && u.held.isNone && u.phase != .recovering

/-- An SQ that may be fetched from now: it holds a command and the limits of R381 allow one more. -/
def State.fetchable (s : State) (f n : Nat) : Bool :=
  s.host.linkUp && !s.gated 13 && s.fnRuns f && s.flag ⟨sqBase f n + 8, 4, 4⟩ && s.sqHead f n != s.get ⟨sqBase f n + 0xC, 9, 0⟩
    && decide (s.inFlight f < 1024) && decide (s.host.cmds.length < 4096)
    && decide (s.cqFlight f (s.sqCq f n) < s.ringDepth f 0 (s.sqCq f n))

/-- The function whose turn it is (R381): the next one, from where the last turn left off, with an SQ to fetch from. -/
def State.turnFn (s : State) : Option Nat :=
  ((List.range 16).map (fun i => (s.host.rrFn + i) % 16)).find? fun f => (List.range 16).any (s.fetchable f)

/-- The SQ of a function whose turn it is: the present one up to its WEIGHT, then the next. -/
def State.turnSq (s : State) (f : Nat) : Option Nat :=
  let (n, k) := Tab.getD s.host.rrSq f (0, 0)
  if s.fetchable f n && decide (k < s.sqWeight f n) then some n
  else ((List.range 16).map (fun i => (n + 1 + i) % 16)).find? (s.fetchable f)

/-- A command is fetched from the SQ whose turn it is, and passes orders 1 and 2 of R380; once a Dormant entry is
irrevocable it completes MER_DORMANT (05 R147). A fetch that fails is a fault of the function (R383). -/
def fetch (f n : Nat) (desc : HostData) (s : State) : State :=
  if s.turnFn ≠ some f || s.turnSq f ≠ some n then s
  else match desc with
  | none => s.strobe (.func f) 0x09 n
  | some d =>
    let (m, k) := Tab.getD s.host.rrSq f (0, 0)
    let tag := fieldLE d 2 2
    let fl := fieldLE d 4 1
    let dup := s.host.cmds.any (fun c => c.fn == f && c.tag == tag && !c.dup)
    let c : Cmd :=
      { fn := f, sq := n, tag := tag, opcode := fieldLE d 0 2, fence := bitOf fl 0, irq := bitOf fl 1, desc := slice d 0 64
        cq := s.sqCq f n }
    let s1 := s.put ⟨sqBase f n + 0x10, 9, 0⟩ ((s.sqHead f n + 1) % s.sqDepth f n)
    let s2 := { s1 with host := { s1.host with
      rrFn := (f + 1) % 16, rrSq := Tab.put s1.host.rrSq f (if n = m && decide (k < s.sqWeight f n) then (n, k + 1) else (n, 1)) } }
    if !(opcodes.contains c.opcode) then
      let (s3, i) := s2.postCompletion c 0x6C 0
      s3.mapCmds (· ++ [{ c with stage := .completed, cqe := some i, doneAt := some s.elapsed }])
    else if dup then
      let (s3, i) := (s2.inc ⟨hqBase f + 0x1000, 15, 0⟩).postCompletion { c with dup := true } 0x6D 0
      s3.mapCmds (· ++ [{ c with stage := .completed, dup := true, cqe := some i, doneAt := some s.elapsed }])
    else
      let s3 := s2.mapCmds (· ++ [c])
      match s.dormant.seq with
      | .none => s3
      | .exit _ => s3
      | _ => s3.complete f tag 0x25

def execCommandFetch (f n : Nat) (desc : HostData) (s : State) : Host.Outcome State Fault Refusal := .next (fetch f n desc s)

/-- MOD_TIME has passed since the oldest unsignalled entry of a ring (R388). -/
def modTimer (f kind n : Nat) (s : State) : State :=
  let r := s.ring (ringKey f kind n)
  let t := s.get ⟨ringCfg f kind n, 31, 24⟩
  if 16 ≤ f || 16 ≤ n || 2 < kind || r.fresh = 0 || t = 0 || s.elapsed < r.since + us t || !s.ringOn f kind n then s
  else s.signal f kind n

def execMsixModerationTimer (f kind n : Nat) (s : State) : Host.Outcome State Fault Refusal := .next (modTimer f kind n s)

/-! ## Eclipse (R392 to R395) -/

/-- The Eclipse instant of a function: completions of that very cycle do not stand (R392, 01 R29), its work is discarded in every unit, its workers lose credits and contexts, its
direct ring is disabled; the issuing command stays. -/
def State.eclipseFn (s : State) (f : Nat) (issuer : Option (Nat × Nat)) (flr : Bool) : State :=
  let s := s.withdrawUnit (.func f)
  let mine := fun (c : Cmd) => issuer == some (c.fn, c.tag)
  let cs := (s.unitCmds (.func f)).filter (fun c => !(mine c))
  let e : Eclipse := ⟨issuer, cs.length, reachedTags cs, flr⟩
  let s1 := s.mapCmds (·.filter fun c => c.fn != f || c.stage == .completed || mine c)
  let s2 := { s1 with host := { s1.host with eclipses := Tab.put s1.host.eclipses f e } }
  let s3 := ((s2.workersOf f).foldl (fun s w => s.dropConsumer (16 + w)) s2).put ⟨hqBase f + 0x24, 4, 4⟩ 0
  s3.dropFnWork f

/-- A frame of a launch that an Eclipse truncates (R395): it counts one attempt and is retried; one with a launch time
completes ABORTED. -/
def State.cutFrame (s : State) (r id : Nat) : State :=
  let s1 := s.attempt r id 0
  if (Tab.get? s.mac.frames id).any (fun f => f.launch != 0) then s1.endFrame id 0x01 else s1.unacked r id

/-- The Eclipse instant of a radio (R395): its timed MAC_TX that completed in this very cycle complete ABORTED instead (R392,
01 R29). -/
def State.eclipseRadio (s : State) (r : Nat) (issuer : Option (Nat × Nat)) : State :=
  let late := (s.host.cmds.filter fun c => c.doneAt == some s.elapsed && c.unit == some r)
  let s := late.foldl (fun s c => s.complete c.fn c.tag 0x01) (s.withdrawUnit (.radio r))
  let hard0 := (late.filter (·.medium.isSome)).map fun c => (c.fn, c.tag)
  let air := (s.onAir r).map (·.of_)
  let airIds := match air with | some o => s.takenBy r o | none => []
  let hard := hard0 ++ airIds.filterMap fun id => (Tab.get? s.mac.frames id).bind fun (f : Frame) => if f.launch = 0 then none else f.cmd
  let single := (s.mac.frames.filter (fun (e : Nat × Frame) =>
    e.2.launch != 0 && e.2.radios == 2 ^ r && !(airIds.contains e.1))).map (·.1)
  let back := (s.mac.frames.filter (fun (e : Nat × Frame) =>
    e.2.launch == 0 && !(airIds.contains e.1) && (match e.2.taken with | some (q, _) => q == r | none => false))).map (·.1)
  let e : Eclipse := ⟨issuer, single.length + hard.length + (late.length - hard0.length), hard.map (fun (c : Nat × Nat) => (c.2, c.1, 0)), false⟩
  let s1 := match s.onAir r with | some l => s.endLaunch r l 0x01 | none => s
  let s2 := airIds.foldl (fun s id => s.cutFrame r id) s1
  let s3 := single.foldl (fun s id => s.endFrame id 0x01) s2
  let s4 := back.foldl (fun s id => s.returnFrame id) s3
  let ids := (s.radio r).launches.filterMap fun l => match l.of_ with | .plan id => some id | _ => none
  let s5 := ids.foldl (fun s id => s.modPpdu id fun p => { p with used := true }) s4
  let s6 := s5.modRadio r fun x => { x with launches := [] }
  { s6 with
    mac := { s6.mac with beaconAir := Tab.del s6.mac.beaconAir r }
    host := { s6.host with eclipses := Tab.put s6.host.eclipses (16 + r) e } }

/-- The status that refuses an Eclipse of a target (R392): one runs, or the target is in fault recovery. -/
def State.eclipseRefused (s : State) (key : Nat) (u : FUnit) : Option Nat :=
  let x := s.unit u.idx
  if Tab.has s.host.eclipses key then some 0x71
  else if x.held.isSome || x.phase == .recovering then some 0x03
  else none

/-- HQ_ECLIPSE of a function; a KIND that is neither completes RANGE. -/
def eclipseFunction (fn tag : Nat) (s : State) : State :=
  s.runCmdIf fn tag 0x0B01 (fun c => c.b 16 != 1) (fun c => fn == 0 || (c.b 16 == 0 && c.b 17 == fn)) (fun _ => s.gated 13)
    fun c s =>
      let f := c.b 17
      if c.b 16 ≠ 0 || !(decide (f < 16) && s.fnEnabled f) || !(c.reservedOk [(16, 2)]) then s.complete fn tag 0x02
      else match s.eclipseRefused f (.func f) with
        | some st => s.complete fn tag st
        | none => (s.takeUp fn tag).eclipseFn f (some (fn, tag)) false

def execHqEclipseFunction (fn tag : Nat) (s : State) : Host.Outcome State Fault Refusal := .next (eclipseFunction fn tag s)

/-- HQ_ECLIPSE of a radio. -/
def eclipseOfRadio (fn tag : Nat) (s : State) : State :=
  s.runCmdIf fn tag 0x0B01 (fun c => c.b 16 == 1) (fun _ => fn == 0) (fun _ => s.gated 13) fun c s =>
    let r := c.b 17
    if 2 < r || !(c.reservedOk [(16, 2)]) then s.complete fn tag 0x02
    else match s.eclipseRefused (16 + r) (.radio r) with
      | some st => s.complete fn tag st
      | none => (s.takeUp fn tag).eclipseRadio r (some (fn, tag))

def execHqEclipseRadio (fn tag : Nat) (s : State) : Host.Outcome State Fault Refusal := .next (eclipseOfRadio fn tag s)

/-- HQ_F_CTRL.RESULT of a function. -/
def ctrlResult (f : Nat) : FieldRef := ⟨hqBase f + 4, 15, 8⟩

/-- A write of 1 to HQ_F_CTRL.ECLIPSE (R392). -/
def ctrlEclipse (r : Requester) (f : Nat) (s : State) : State :=
  if 16 ≤ f then s
  else s.access r (hqBase f + 4) (fun s =>
    match s.eclipseRefused f (.func f) with
    | some st => s.put (ctrlResult f) st
    | none => s.eclipseFn f none false) (fun g => g == f)

def execFuncCtrlEclipseWrite (r : Requester) (f : Nat) (s : State) : Host.Outcome State Fault Refusal := .next (ctrlEclipse r f s)

/-- A write of 1 to HQ_F_CTRL.CLEAR clears FAULTED (R396). -/
def ctrlClear (r : Requester) (f : Nat) (s : State) : State :=
  if 16 ≤ f then s
  else s.access r (hqBase f + 4) (fun s => { s with host := { s.host with faulted := s.host.faulted.filter (· != f) } })
    (fun g => g == f)

def execFuncCtrlClearWrite (r : Requester) (f : Nat) (s : State) : Host.Outcome State Fault Refusal := .next (ctrlClear r f s)

/-- Post an Eclipse record (R393, R390): kind, index, discarded, tags, 50 tags an event (log 10); a VF gets its own tags,
or the record of its own Eclipse. -/
def State.eclipseRecord (s : State) (kind index n : Nat) (tags : List (Nat × Nat × Nat)) : State :=
  let parts := fun (t : List (Nat × Nat × Nat)) => (List.range (Nat.max 1 ((t.length + 49) / 50))).map fun i =>
    items [kind, index, n] ++ ((t.drop (50 * i)).take 50).flatMap tagBytes
  let s1 := (parts tags).foldl (fun s p => s.postOn 0 0xB002 p) s
  ((List.range 15).map (· + 1)).foldl (fun s f =>
    let own := tags.filter (fun t => t.2.1 == f)
    if !own.isEmpty || (kind = 0 && index = f) then (parts own).foldl (fun s p => s.postOn f 0xB002 p) s else s) s1

/-- The Eclipse of a function or a radio ends (R393, R395): its record, its completion, and a function's rings disabled;
that of an FLR resets the function. -/
def eclipseDone (radio : Bool) (index : Nat) (s : State) : State :=
  let key := if radio then 16 + index else index
  if (if radio then decide (2 < index) else decide (15 < index)) then s
  else match Tab.get? s.host.eclipses key with
  | none => s
  | some e =>
    let s1 := s.eclipseRecord (b2n radio) index e.discarded e.tags
    let s2 := match e.issuer with
      | some (fn, tag) => s1.complete fn tag 0x00 e.discarded
      | none => if radio then s1 else s1.put (ctrlResult index) 0x00
    let s3 := { s2 with host := { s2.host with eclipses := Tab.del s2.host.eclipses key } }
    let s4 := if radio then s3 else s3.disableRings index
    if e.flr && !radio then s4.flrFn index else s4

def execEclipseComplete (radio : Bool) (index : Nat) (s : State) : Host.Outcome State Fault Refusal :=
  .next (eclipseDone radio index s)

/-- An FLR (R374): an Eclipse of the function, then its reset; while an Eclipse runs the reset follows that one, and in
fault recovery it comes at once. -/
def flr (f : Nat) (s : State) : State :=
  if !(decide (f < 16) && s.fnEnabled f) then s
  else match Tab.get? s.host.eclipses f with
  | some e => { s with host := { s.host with eclipses := Tab.put s.host.eclipses f { e with flr := true } } }
  | none => match s.eclipseRefused f (.func f) with
    | some _ => s.flrFn f
    | none => s.eclipseFn f none true

def execFunctionLevelReset (f : Nat) (s : State) : Host.Outcome State Fault Refusal := .next (flr f s)

end Sys2Proof.Machine
end

