-- ==== Sys2Proof/Machine/Tasks.lean ====
section
/-! DEFINITION. The commands of the hardware task scheduler (13 R397 to R407). -/

namespace Sys2Proof.Machine

/-- Registers of worker w in function f's sub-block (R411). -/
def wkReg (f w : Nat) : Nat := hqBase f + 0xC00 + 0x10 * w

/-- A worker is bound to a function (R411). -/
def State.wkBound (s : State) (f w : Nat) : Bool := s.workerOn w && s.workerFn w == f

/-- Credits of a consumer. -/
def State.askOf (s : State) (c : Nat) : Credit := Tab.getD s.tasks.credits c {}

/-- Set the credits of a consumer; none pending is not listed. -/
def State.setAsk (s : State) (c : Nat) (x : Credit) : State :=
  { s with tasks := { s.tasks with
    credits := if x.pending = 0 then Tab.del s.tasks.credits c else Tab.put s.tasks.credits c x } }

/-- Whether a consumer may be given a payload now (R386, R393, R404): a worker with credit, of a function that runs, with
the buffers for all of it; a core while the CPU cluster's clock runs. What a core asks for is the signed firmware's: the
row stands for its ask (log 56). -/
def State.mayTake (s : State) (c : Nat) (payload : List Byte) : Bool :=
  if c < 16 then !s.gated 14
  else
    let w := c - 16
    decide (0 < (s.askOf c).pending) && s.fnRuns (s.workerFn w) && !s.gated 13
      && decide (bufsFor payload.length ≤ s.rqAvail (s.workerFn w) (s.workerRq w))

/-- The item given to a consumer leaves for it (R398, R401, R404): an item of an atomic queue that is no MAC's stays held. -/
def State.giveItem (s : State) (c idx : Nat) (i : Item) : State :=
  let holds := i.atomic && i.mac.isNone
  let s1 := if holds then
      { s with tasks := { s.tasks with items := Tab.upd s.tasks.items idx fun i => { i with holder := some (c, s.elapsed) } } }
    else s.dropItem idx
  let s2 := s1.modQ i.queue fun x => { x with nOut := x.nOut + 1, maxWait := Nat.max x.maxWait (s.waitOf i) }
  let s3 := s2.modC c fun x => { x with deliv := x.deliv + 1, heldMax := Nat.max x.heldMax (s2.heldBy c) }
  if c < 16 then s3
  else
    let w := c - 16
    let s4 := s3.setAsk c ⟨(s.askOf c).pending - 1, s.elapsed⟩
    let (src, rest) := match i.mac with | some b => (0, b) | none => (1, itemBytes idx i)
    s4.rqWrite (s.workerFn w) (s.workerRq w) (bufsFor i.payload.length) src rest i.payload

/-- The scheduler gives a consumer its best item (R400, R404). -/
def deliverItem (c : Nat) (s : State) : State :=
  if 80 ≤ c || s.stopped 12 then s
  else match s.bestItem c with
  | none => s
  | some (idx, i) => if s.mayTake c i.payload then (s.giveItem c idx i).trackIdle else s

def execWorkItemDeliver (c : Nat) (s : State) : Host.Outcome State Fault Refusal := .next (deliverItem c s)

/-- ASK with CREDITS (R404): more than 4,095 pending is invalid. -/
def askWrite (r : Requester) (f w : Nat) (v : Word) (s : State) : State :=
  if 16 ≤ f || 64 ≤ w || bitOf v.toNat 12 then s
  else s.access r (wkReg f w) (fun s =>
    let n := (s.askOf (16 + w)).pending + v.toNat % 4096
    if !(s.wkBound f w) || 4095 < n then s.invalidWrite r (wkReg f w) v
    else (s.setAsk (16 + w) ⟨n, s.elapsed⟩).trackIdle) (fun g => g == f)

def execWorkerAskWrite (r : Requester) (f w : Nat) (v : Word) (s : State) : Host.Outcome State Fault Refusal :=
  .next (askWrite r f w v s)

/-- ASK with CANCEL withdraws every pending credit, those of the same write among them (R404; log 55). -/
def askCancel (r : Requester) (f w : Nat) (v : Word) (s : State) : State :=
  if 16 ≤ f || 64 ≤ w || !(bitOf v.toNat 12) then s
  else s.access r (wkReg f w) (fun s =>
    if !(s.wkBound f w) then s.invalidWrite r (wkReg f w) v else (s.setAsk (16 + w) {}).trackIdle) (fun g => g == f)

def execWorkerAskCancel (r : Requester) (f w : Nat) (v : Word) (s : State) : Host.Outcome State Fault Refusal :=
  .next (askCancel r f w v s)

/-- RELEASE (R402): the context of the handle, when this worker holds it; any other handle is counted and reported. -/
def releaseWrite (r : Requester) (f w : Nat) (v : Word) (s : State) : State :=
  if 16 ≤ f || 64 ≤ w then s
  else s.access r (wkReg f w + 4) (fun s =>
    let idx := v.toNat % 2 ^ 18
    if !(s.wkBound f w) then s.badDoorbell f (wkReg f w + 4)
    else
      let mine := (Tab.get? s.tasks.items idx).any fun (i : Item) =>
        i.gen % 2 ^ 14 == v.toNat / 2 ^ 18 && (match i.holder with | some (c, _) => c == 16 + w | none => false)
      if mine then (s.dropItem idx).trackIdle
      else (s.inc ⟨0x2C00014, 31, 16⟩).badDoorbell f (wkReg f w + 4)) (fun g => g == f)

def execWorkerReleaseWrite (r : Requester) (f w : Nat) (v : Word) (s : State) : Host.Outcome State Fault Refusal :=
  .next (releaseWrite r f w v s)

/-- ATOMIC_TIMEOUT since delivery (R402). -/
def atomicExpired (idx : Nat) (s : State) : State :=
  match Tab.get? s.tasks.items idx with
  | some i => match i.holder with
    | some (c, t) =>
      if s.elapsed < t + ms (s.get ⟨0x2C00008, 13, 0⟩) then s
      else (((s.dropItem idx).inc ⟨0x2C00014, 15, 0⟩).postEvent 0xB004 (items [c, i.queue, i.ctx])).trackIdle
    | none => s
  | none => s

def execAtomicTimeout (idx : Nat) (s : State) : Host.Outcome State Fault Refusal := .next (atomicExpired idx s)

/-- An item's wait reaches MAX_WAIT (R403). -/
def maxWaited (idx : Nat) (s : State) : State :=
  match Tab.get? s.tasks.items idx with
  | some i =>
    let m := s.get ⟨tskQ i.queue + 0x10, 15, 0⟩
    if i.holder.isSome || m = 0 || s.waitOf i < ms m then s
    else
      let s1 := ((s.dropItem idx).inc ⟨0x2C00010, 31, 16⟩).modQ i.queue fun x => { x with nDrop := x.nDrop + 1 }
      { s1 with tasks := { s1.tasks with
        dropsWait := Tab.put s1.tasks.dropsWait i.queue (Tab.getD s1.tasks.dropsWait i.queue 0 + 1) } }.trackIdle
  | none => s

def execWorkItemMaxWait (idx : Nat) (s : State) : Host.Outcome State Fault Refusal := .next (maxWaited idx s)

/-- Credits lapse after ASK_WAIT (R405): a descriptor with SRC 2 wakes the worker, where its RQ has room. -/
def askLapse (w : Nat) (s : State) : State :=
  let x := s.askOf (16 + w)
  let f := s.workerFn w
  let n := s.workerRq w
  if 64 ≤ w || x.pending = 0 || s.elapsed < x.since + ms (s.askWait w) then s
  else
    let s1 := (s.setAsk (16 + w) {}).trackIdle
    if s1.ringOn f 1 n && decide (1 ≤ s1.ringFree f 1 n) then
      (s1.putRx f n 0xFFFF 0 false true 2 0 (List.replicate 24 0#8)).moderate f 1 n false
    else s1

def execAskWaitLapse (w : Nat) (s : State) : Host.Outcome State Fault Refusal := .next (askLapse w s)

/-- A function may act for a tenant (R407): its own; the PF for none (0xFF) too. A tenant out of range is left to the
range check. -/
def State.mayTenant (s : State) (fn t : Nat) (none_ : Bool) : Bool :=
  if none_ && t == 0xFF then fn == 0 else decide (15 < t) || s.tenantOwner t == fn

/-- TSK_SUBMIT. -/
def submit (fn tag : Nat) (data : HostData) (s : State) : State :=
  s.runCmd fn tag 0x0B10 (fun c => s.mayTenant fn (c.b 19) true) (fun _ => s.gated 12) fun c s =>
    let q := c.b 16
    if 63 < q || 7 < c.b 17 || 1 < c.b 18 || (15 < c.b 19 && c.b 19 ≠ 0xFF) || 8192 < c.le 24 4
        || !(c.reservedOk [(16, 6), (24, 4), (32, 8)]) then s.complete fn tag 0x02
    else if !(s.qOn q) then s.complete fn tag 0x6F
    else match data with
      | none => s.complete fn tag 0x6E
      | some b =>
        let (h, s1) := s.enqueue q (c.b 17) (c.b 19) (if c.b 18 = 1 then some (c.le 20 2) else none) 0x0B 0
          (slice b 0 (c.le 24 4)) []
        match h with
        | none => s1.complete fn tag 0x70
        | some idx => match Tab.get? s1.tasks.items idx with
          | some i => s1.complete fn tag 0x00 (handleOf idx i)
          | none => s1

def execTskSubmit (fn tag : Nat) (data : HostData) (s : State) : Host.Outcome State Fault Refusal := .next (submit fn tag data s)

/-- TSK_INJECT: the frame enters the FIFO of source 0x1C. -/
def inject (fn tag : Nat) (data : HostData) (s : State) : State :=
  s.runCmd fn tag 0x0B11 (fun c => s.mayTenant fn (c.b 16) false) (fun _ => s.gated 10) fun c s =>
    let n := c.le 18 2
    if 15 < c.b 16 || n < 60 || 9212 < n || !(c.reservedOk [(16, 1), (18, 2), (24, 8)]) then s.complete fn tag 0x02
    else match s.unitStatus .pkt with
      | some st => (s.refuseAt (.func fn)).complete fn tag st
      | none => match data with
        | none => s.complete fn tag 0x6E
        | some b =>
          if !(s.inService .pkt) then (s.refuseAt (.func fn)).complete fn tag 0x03
          else if 256 ≤ (Tab.getD s.fifos 0x1C []).length then s.complete fn tag 0x70
          else (s.ingress 0x1C { bytes := slice b 0 n, tenant := some (c.b 16) }).complete fn tag 0x00

def execTskInject (fn tag : Nat) (data : HostData) (s : State) : Host.Outcome State Fault Refusal := .next (inject fn tag data s)

/-- A statistics window of the scheduler ends (R406): its values become readable, and the next one begins. IDLE is kept in
per mille of the window. -/
def State.rollTasks (s : State) : State :=
  let s1 := s.trackIdle
  let w := Nat.max 1 (s1.elapsed - s1.tasks.statFrom)
  let cons := s1.tasks.cNow.map (·.1)
  { s1 with tasks := { s1.tasks with
    statFrom := s1.elapsed
    qLast := s1.tasks.qNow
    qNow := ((List.range 64).map fun q => (q, ({ maxDepth := s1.queueDepth q } : QStat))).filter (fun e => e.2.maxDepth != 0)
    cLast := Tab.mapV s1.tasks.cNow fun _ x => { x with idle := x.idle * 1000 / w }
    cNow := (cons.map fun c => (c, ({ heldMax := s1.heldBy c, idleFrom := (Tab.getD s1.tasks.cNow c {}).idleFrom } : CStat))) } }

/-- A superframe start (R397, R403, R386, R406; log 18): the drops and truncations of the superframe that ended, and the
statistics. -/
def State.taskSuperframe (s : State) : State :=
  let s1 := s.tasks.dropsWait.foldl (fun s e => s.postEvent 0xB005 (items [e.1, e.2])) s
  let s2 := s.tasks.dropsFull.foldl (fun s e => s.postEvent 0xB006 (items [e.1, e.2])) s1
  let s3 := s.host.truncs.foldl (fun s e => s.postEvent 0xB007 (items [e.1 / 16, e.1 % 16, e.2]) [e.1 / 16]) s2
  { s3 with tasks := { s3.tasks with dropsWait := [], dropsFull := [] }, host := { s3.host with truncs := [] } }.rollTasks

/-- The statistics windows while NT is not valid: 102.4 ms of FR each (R406). -/
def State.taskWindow (s : State) : State :=
  if !s.ntValid && s.time.frRuns && decide (s.tasks.statFrom + us 102400 ≤ s.elapsed) then s.rollTasks else s

/-- What an idle step does: 5/3 ns pass (log 2). -/
def State.idle (s : State) : State := s.tick.fcTick.taskWindow

end Sys2Proof.Machine
end

