-- ==== Sys2Proof/Machine/Wired.lean ====
section
/-! DEFINITION. The rows of the ports and the Tile Links (14, 11 R336). -/

namespace Sys2Proof.Machine

/-! ## Ports -/

/-- ETH_p_s_CNT_A to _D of a sub-port: 0 A to 3 D. -/
def ethCnt (sub i : Nat) (high : Bool) : FieldRef :=
  ⟨ethBase (portOf sub).1 + 0x100 + 0x10 * (portOf sub).2 + 4 * i, if high then 31 else 15, if high then 16 else 0⟩

/-- The page of a slot is owned by the PF, which MACsec asks for (12 R351). -/
def State.pfSlot (s : State) (slot : Nat) : Bool := (s.slotPage slot).any (·.owner == 0)

/-- The MACsec key of a slot at an instant (elapsed; 12 R348, R352). -/
def State.secKey (s : State) (slot t : Nat) : Option KeyGen := (s.boundAt slot t).filter (·.serves 1)

/-- A frame whose decryption or encryption the engine has no room for waits (12 R349). -/
def State.secWaits (s : State) (sub : Nat) (bytes : List Byte) (sec : Bool) : Bool :=
  (s.macsec sub).isSome && (sec || !s.bypasses sub bytes) && s.inService .cipher && !s.cphRoom

/-- MACsec on reception (R426, 12 R351, R352, R355, R361, R362): whether the frame passes. Its SA is looked up, and its decryption
admitted, when its first protected byte comes. A frame whose SCI is known by an SA without a key counts as NO_KEY, one that matches no SA in
MS_DROP. -/
def State.secIn (s : State) (sub : Nat) (bytes : List Byte) (sec : Option EthSec) : Bool × State :=
  if (s.macsec sub).isNone || (sec.isNone && s.bypasses sub bytes) then (true, s)
  else
    let drop := (false, s.inc (ethCnt sub 3 true))
    match sec with
    | none => drop
    | some c =>
      let t := s.nsAgo c.since
      let sas := (s.eth.rxSa.filter (fun e => e.1 / 16 == sub && e.2.2 == c.sci)).map (·.2.1)
      match sas.find? (fun k => (s.secKey k t).any (·.keyId == c.an)) with
      | none =>
        match sas.find? (fun k => (s.secKey k t).isNone) with
        | some k => (false, s.countPage k 1 false)
        | none => drop
      | some k =>
        if !(s.inService .cipher) then (false, s.refuseAt (.port (portOf sub).1))
        else if !s.pfSlot k then (false, (s.countPage k 1 true).isolationEvent 0 k)
        else
          let g := ((s.secKey k t).map (·.gen)).getD 0
          let s1 := s.cphAdmit { slot := k, gen := g }
          if !c.tagOk then (false, s1.tagFailed k false) else s1.replayCheck k g 8 c.pn

/-- A datagram to OWN_ADDRESS and CST_PORT on the constellation's sub-port is taken before classification (09 R242); what it says comes
with the row of its message (log 33). -/
def State.cstTakes (s : State) (sub : Nat) (bytes : List Byte) : Bool :=
  let p := parse bytes
  s.cstInService && sub == s.cstSub && p.hasL4 && p.proto == 17 && p.good && !p.frag && p.v6 == (fieldLE s.cstRec 5 1 == 1)
    && p.dst == slice s.cstRec 24 16 && p.l4dst == beBytes 2 (fieldLE s.cstRec 6 2)

/-- A PTP message of the configured domain on a sub-port of PTP_PORTS (11 R301, 04 R125): EtherType 0x88F7, or UDP port 319 or 320; its
domain is octet 4 (log 176). -/
def State.ptpTakes (s : State) (sub : Nat) (bytes : List Byte) : Bool :=
  let r := s.recBytes 0x0201
  let p := parse bytes
  let at_ := if p.etherType = 0x88F7 then some (14 + 4 * p.tags.length)
    else if p.good && !p.frag && p.hasL4 && p.proto == 17 && (beNat p.l4dst == 319 || beNat p.l4dst == 320) then some (p.l4 + 8) else none
  decide (sub < 8) && bitOf (fieldLE r 4 2) sub && (match at_ with
    | some o => fieldBE bytes (o + 4) 1 == fieldLE r 2 1
    | none => false)

/-- A frame received on a sub-port (R415, R419, R425, R426, 11 R301). Without MACsec a frame is what it is on the wire:
`sec` tells the SecTAG of a sub-port that has it, and `bytes` the frame without. The row stands at the frame's last bit; the
stamp is that of the first bit after the SFD (04 R120). Of its length and its FCS one counter tells (log 185). -/
def frameIn (sub : Nat) (bytes : List Byte) (fcsOk : Bool) (sec : Option EthSec) (s : State) : State :=
  let len := bytes.length + 4 + (match sec with | some c => c.overhead | none => 0)
  if !(s.subUp sub) || (sec.isSome && (s.macsec sub).isNone) || s.secWaits sub bytes sec.isSome then s
  else if s.maxFrame sub < len then s.inc (ethCnt sub 0 true)
  else if !fcsOk then s.inc (ethCnt sub 1 false)
  else if len < 64 then s.inc (ethCnt sub 0 false)
  else
    let s1 := s.inc64 (ethBase (portOf sub).1 + 0x200 + 0x10 * (portOf sub).2)
    if fieldBE bytes 12 2 = 0x8808 then s1.inc (ethCnt sub 3 false)
    else if !(s1.filterPass sub bytes) then s1.inc (ethCnt sub 1 true)
    else
      let (ok, s2) := s1.secIn sub bytes sec
      if ok then
        if s2.cstTakes sub bytes || s2.ptpTakes sub bytes then s2
        else s2.ingress sub { bytes := bytes, stamp := s.stampBack (len * byteTime (Tab.getD s.eth.links sub 0)) }
      else s2

def execEthFrameRx (sub : Nat) (bytes : List Byte) (fcsOk : Bool) (sec : Option EthSec) (s : State) :
    Host.Outcome State Fault Refusal := .next (frameIn sub bytes fcsOk sec s)

/-- Drop the head of a wired queue, counted. -/
def State.dropHead (s : State) (sub q : Nat) (cnt : FieldRef) : State :=
  let key := sub * 8 + q
  { s with wired := Tab.put s.wired key (Tab.getD s.wired key []).tail }.inc cnt

/-- Heads that may not be sent any more are dropped (11 R334, R337, R423), at most n of them. -/
def State.dropStale (s : State) (sub q : Nat) : Nat → State
  | 0 => s
  | n + 1 =>
    match Tab.getD s.wired (sub * 8 + q) [] with
    | [] => s
    | f :: _ =>
      let maxD := s.get ⟨0x2401400 + 0x20 * sub + 4 * q, 19, 0⟩ * 1000
      let d := s.wireTime sub f
      if s.dramLost f.dram then (s.dropHead sub q (pktCnt 7 true)).dropStale sub q n
      else if maxD ≠ 0 && decide (f.enqNt + maxD ≤ s.ntNs) then
        ((s.dropHead sub q (pktCnt 6 true)).watchDrop (wiredId sub q)).dropStale sub q n
      else match (gateListOf s.reg sub).longest q with
        | some l =>
          if l < d then
            let s1 := s.dropHead sub q (ethCnt sub 2 true)
            ({ s1 with eth := { s1.eth with gateOver := Tab.put s1.eth.gateOver sub (Tab.getD s1.eth.gateOver sub 0 + 1) } }).dropStale sub q n
          else s
        | none => s

/-- MACsec on transmission (R426, R427, 12 R348, R351, R355 to R357): whether the frame may go. -/
def State.secOut (s : State) (sub : Nat) (body : List Byte) : Bool × State :=
  if (s.macsec sub).isNone || s.bypasses sub body then (true, s)
  else if !(s.inService .cipher) then (false, s.refuseAt (.port (portOf sub).1))
  else
    let slot := Tab.getD s.eth.txSa sub 0
    if !s.pfSlot slot then (false, (s.countPage slot 1 true).isolationEvent 0 slot)
    else match (s.bindGen slot).filter (·.serves 1) with
    | none => (false, s.countPage slot 1 false)
    | some g => match s.drawCounter slot with
      | (some _, s1) => (true, s1.cphAdmit { slot := slot, gen := g.gen })
      | (none, s1) => (false, s1.countPage slot 2 false)

/-- Start a queue's head on the wire (11 R335, R338, 14 R420): its wire length is taken from the credit; a constellation
message is stamped at the first bit after its SFD, and the stamp of a part 0 kept for its S (09 R242, R255). -/
def State.startFrame (s : State) (sub q : Nat) (f : WireFrame) : State :=
  if s.secWaits sub f.body false then s
  else
  let key := sub * 8 + q
  let n := Nat.max 64 f.len + s.frameOverhead sub f
  let bt := byteTime (Tab.getD s.eth.links sub 0)
  let s1 := { s with wired := Tab.put s.wired key (Tab.getD s.wired key []).tail }
  let (ok, s2) := s1.secOut sub f.body
  if !ok then s2
  else
    let s3 := (s2.spend key (n + 20)).inc64 (ethBase (portOf sub).1 + 0x208 + 0x10 * (portOf sub).2)
    let s4 := s3.watchOut (wiredId sub q) f.len (s.ntNs - f.enqNt)
    let s5 : State := { s4 with eth := { s4.eth with tx := Tab.put s4.eth.tx sub ⟨f, s.elapsed, s.elapsed + ((n + 20) * bt * 3 + 499) / 500, false⟩ } }
    let at_ := s.ntNs + 8 * bt / 100
    match f.cst with
    | some (m, part0) => s5.modMember m fun x =>
      { x with sentAt := some at_, tx := match part0 with | some S => Tab.put x.tx S at_ | none => x.tx }
    | none => s5

/-- The highest queue that may send, from queue n − 1 down, its stale heads dropped on the way (11 R336, R337). -/
def State.pickQueue (s : State) (sub : Nat) : Nat → Option (Nat × WireFrame) × State
  | 0 => (none, s)
  | q + 1 =>
    let s1 := s.dropStale sub q (Tab.getD s.wired (sub * 8 + q) []).length
    match Tab.getD s1.wired (sub * 8 + q) [] with
    | f :: _ =>
      if s1.gatePass sub q (s1.wireTime sub f) && (s1.shpRate (sub * 8 + q) == 0 || decide (0 ≤ s1.credit (sub * 8 + q))) then
        (some (q, f), s1)
      else s1.pickQueue sub q
    | [] => s1.pickQueue sub q

/-- A sub-port that can start a frame selects one (11 R336). -/
def egress (sub : Nat) (s : State) : State :=
  let busy := match Tab.get? s.eth.tx sub with | some t => decide (s.elapsed < t.endAt) && !t.cut | none => false
  if !(s.subUp sub) || !(s.inService .pkt) || busy then s
  else match s.pickQueue sub 8 with
    | (some (q, f), s1) => s1.startFrame sub q f
    | (none, s1) => s1

def execWiredEgressSelect (sub : Nat) (s : State) : Host.Outcome State Fault Refusal := .next (egress sub s)

/-- A byte of a frame from DRAM is missing when it is due (R421): the frame ends, START_THRESH rises by 256 B up to MAX_FRAME. -/
def underrun (sub : Nat) (s : State) : State :=
  match Tab.get? s.eth.tx sub with
  | none => s
  | some t =>
    let f : FieldRef := ⟨ethBase (portOf sub).1 + 0xC, 13, 0⟩
    if t.cut || t.endAt ≤ s.elapsed || t.frame.dram = 0 || t.frame.len ≤ s.get f then s
    else
      let v := Nat.min (s.get f + 256) (s.maxFrame sub)
      ((({ s with eth := { s.eth with tx := Tab.put s.eth.tx sub { t with cut := true } } }).inc (ethCnt sub 2 false)).put f v).postEvent
        0xC002 (items [sub, v])

def execTxUnderrun (sub : Nat) (s : State) : Host.Outcome State Fault Refusal := .next (underrun sub s)

/-- The speeds at which a sub-port's link can be up (R414, R417): that of the port's MODE; on a copper port those of ADV. -/
def State.linkSpeed (s : State) (sub speed : Nat) : Bool :=
  let p := (portOf sub).1
  let w := (s.reg (ethBase p)).toNat
  if p < 2 then speed == 8 - bitsOf w 1 0 else decide (1 ≤ speed) && decide (speed ≤ 4) && bitOf w (11 + speed)

/-- A sub-port's PCS reports its link up with a speed, or down (R416). -/
def linkChange (sub speed : Nat) (s : State) : State :=
  if !(s.subExists sub) || !(s.inService (.port (portOf sub).1)) || (speed != 0 && !s.linkSpeed sub speed) then s
  else s.setLink sub speed

def execEthLinkChange (sub speed : Nat) (s : State) : Host.Outcome State Fault Refusal := .next (linkChange sub speed s)

/-- The common part of ETH_MACSEC_SA (R439): PF only, the port's clock, fields, the unit, the slot. -/
def State.saCmd (s : State) (fn tag : Nat) (dir del : Bool) (act : Cmd → State → State) : State :=
  s.runCmd fn tag 0x0C10 byPF (fun c => s.gated (16 + c.b 16 / 4 % 2)) fun c s =>
    if bitOf (c.b 17) 0 != dir || (dir && bitOf (c.b 17) 1 != del) then s
    else if 7 < c.b 16 || 3 < c.b 17 || (!dir && bitOf (c.b 17) 1) || 15 < c.b 18 || 16383 < c.le 20 2 || !c.reservedOk [(16, 3), (20, 2), (24, 8)] then
      s.complete fn tag 0x02
    else match s.unitStatus (.port (c.b 16 / 4)) with
      | some st => (s.refuseAt (.func fn)).complete fn tag st
      | none => act c s

/-- The slot may hold a MACsec key (12 R350). -/
def State.secSlot (s : State) (slot : Nat) : Option Nat :=
  match s.slotPage slot with
  | none => some 0x09
  | some p =>
    if p.owner ≠ 0 then some 0x09
    else if !bitOf p.suites 1 || (match (s.slot slot).cur with | some g => suiteClass g.suite != some 1 | none => false) then some 0x65
    else none

/-- ETH_MACSEC_SA, transmit (R427). -/
def saTx (fn tag : Nat) (s : State) : State :=
  s.saCmd fn tag false false fun c s =>
    match s.secSlot (c.le 20 2) with
    | some st => s.complete fn tag st
    | none => { s with eth := { s.eth with txSa := Tab.put s.eth.txSa (c.b 16) (c.le 20 2) } }.complete fn tag 0

def execEthMacsecSaTx (fn tag : Nat) (s : State) : Host.Outcome State Fault Refusal := .next (saTx fn tag s)

/-- ETH_MACSEC_SA, receive, added (R439): a full sub-port refuses it; below that an index in use is replaced (log 43). -/
def saRxAdd (fn tag : Nat) (s : State) : State :=
  s.saCmd fn tag true false fun c s =>
    match s.secSlot (c.le 20 2) with
    | some st => s.complete fn tag st
    | none =>
      if 16 ≤ (s.eth.rxSa.filter (fun e => e.1 / 16 == c.b 16)).length then s.complete fn tag 0x74
      else { s with eth := { s.eth with rxSa := Tab.put s.eth.rxSa (c.b 16 * 16 + c.b 18) (c.le 20 2, c.le 24 8) } }.complete fn tag 0

def execEthMacsecSaRxAdd (fn tag : Nat) (s : State) : Host.Outcome State Fault Refusal := .next (saRxAdd fn tag s)

/-- ETH_MACSEC_SA, receive, deleted (R439). -/
def saRxDelete (fn tag : Nat) (s : State) : State :=
  s.saCmd fn tag true true fun c s =>
    if !Tab.has s.eth.rxSa (c.b 16 * 16 + c.b 18) then s.complete fn tag 0x75
    else { s with eth := { s.eth with rxSa := Tab.del s.eth.rxSa (c.b 16 * 16 + c.b 18) } }.complete fn tag 0

def execEthMacsecSaRxDelete (fn tag : Nat) (s : State) : Host.Outcome State Fault Refusal := .next (saRxDelete fn tag s)

/-! ## Tile Links -/

/-- A write of TL_k_CTRL (R443): POLY 3 makes it invalid; the RW fields are set with it; AUTO_TRAIN
newly set trains a link that stands in DOWN (R436). -/
def tileWrite (r : Requester) (k : Nat) (v : Word) (act : State → State) (s : State) : State :=
  if 11 < k then s
  else s.access r (tlCtrl k) fun s =>
    if bitsOf v.toNat 4 3 = 3 then s.invalidWrite r (tlCtrl k) v
    else
      let s1 := act ((s.put ⟨tlCtrl k, 4, 3⟩ (bitsOf v.toNat 4 3)).put ⟨tlCtrl k, 5, 5⟩ (bitsOf v.toNat 5 5))
      if (s.tile k).state == .down && !s.flag ⟨tlCtrl k, 5, 5⟩ then s1.autoTrain k else s1

/-- TRAIN written (R435, R436). -/
def trainWrite (r : Requester) (k : Nat) (v : Word) (s : State) : State :=
  tileWrite r k v (fun s => if v.getLsbD 0 && (s.tile k).state == .down then s.startTraining k else s) s

def execTlTrainWrite (r : Requester) (link : Nat) (v : Word) (s : State) : Host.Outcome State Fault Refusal :=
  .next (trainWrite r link v s)

/-- PRBS_START written (R436, R437). -/
def prbsStart (r : Requester) (k : Nat) (v : Word) (s : State) : State :=
  tileWrite r k v (fun s =>
    let x := s.tile k
    if !v.getLsbD 1 then s
    else if x.state == .down then s.modTile k fun x => { x with state := .test, result := 0, prbs := List.replicate 5 0 }
    else if x.state == .up then
      if (s.bind k).isSome then s.modTile k fun x => { x with result := 0x76 }
      else (s.setUnit (3 + k) { s.unit (3 + k) with phase := .reset }).modTile k fun x =>
        { x with state := .test, result := 0, prbs := List.replicate 5 0 }
    else s) s

def execTlPrbsStart (r : Requester) (link : Nat) (v : Word) (s : State) : Host.Outcome State Fault Refusal :=
  .next (prbsStart r link v s)

/-- PRBS_STOP written (R436, R437): the lanes' counters saturate at 2^48 − 1; event 0xC007. -/
def prbsStop (r : Requester) (k : Nat) (v : Word) (errors : List Nat) (s : State) : State :=
  tileWrite r k v (fun s =>
    let e := (List.range 5).map fun l => Nat.min (errors.getD l 0) (2 ^ 48 - 1)
    if !v.getLsbD 2 || (s.tile k).state != .test then s
    else (s.modTile k fun x => { x with state := .down, result := 0, prbs := e }).postEvent 0xC007 (items (k :: e))) s

def execTlPrbsStop (r : Requester) (link : Nat) (v : Word) (errors : List Nat) (s : State) :
    Host.Outcome State Fault Refusal := .next (prbsStop r link v errors s)

/-- The bound of a training step in 0.1 ms (R435). -/
def stepBound (n : Nat) : Nat := [0, 1, 20, 40, 240, 260, 400, 420, 450].getD n 450

/-- A training step is done within its bound (R435): step 7 takes what TS2 told, step 8 makes the link UP. -/
def stepDone (k : Nat) (i : TileInfo) (s : State) : State :=
  let x := s.tile k
  if x.state != .training || s.gated (32 + k) || x.from_ + us 100 * stepBound x.step < s.elapsed then s
  else if x.step = 4 then s.modTile k fun x => { x with step := 5, eq := i.eq }
  else if x.step = 5 then s.modTile k fun x => { x with step := 6, blockLock := 31 }
  else if x.step = 7 then
    if i.version ≠ 1 || i.counts / 65536 % 256 = 0 then s
    else s.modTile k fun x => { x with step := 8, counts := i.counts % 2 ^ 24, dtx := i.dtx % 2 ^ 20
                                       drx := i.drx % 2 ^ 20, id := i.id.take 8, profile := i.profile % 256 }
  else if x.step = 8 then
    let s1 := s.modTile k fun x =>
      { x with state := .up, step := 0, frame0 := s.ntNs, result := 0, lock := none, pretuned := false, msgs := [], masks := [] }
    let s2 := if (s1.unit (3 + k)).held.isSome then s1 else s1.setUnit (3 + k) { s1.unit (3 + k) with phase := s1.joinPhase }
    (s2.setUpTile k).postEvent 0xC004 (items [k, leNat x.id, x.profile])
  else s.modTile k fun x => { x with step := x.step + 1 }

def execTlTrainStepDone (link : Nat) (info : TileInfo) (s : State) : Host.Outcome State Fault Refusal :=
  .next (stepDone link info s)

/-- A step overruns its bound (R435): the third failed attempt completes TL_TRAIN_FAIL. -/
def stepTimeout (k : Nat) (s : State) : State :=
  let x := s.tile k
  if x.state != .training || s.elapsed ≤ x.from_ + us 100 * stepBound x.step then s
  else if x.attempts < 3 then
    s.modTile k fun x => { x with attempts := x.attempts + 1, step := 1, from_ := s.elapsed }
  else (s.modTile k fun x => { x with state := .down, result := 0x77, step := 0 }).postEvent 0xC006 (items [k, x.step])

def execTlTrainStepTimeout (link : Nat) (s : State) : Host.Outcome State Fault Refusal := .next (stepTimeout link s)

/-- A link's own fault (R436): cause 1 SYNC, 2 WANDER, 3 CTL, 4 CTL_TIMEOUT; event 0xC005. -/
def State.tileFault (s : State) (k cause lane : Nat) : State :=
  if (s.tile k).state != .up then s
  else s.strobe (.link k) (9 + cause) lane

/-- An upstream frame (R432): LOCK is a lock indication of the tile's synthesiser (06 R162); message bytes are taken. -/
def upstream (k : Nat) (ctl : List Byte) (bad : Nat) (s : State) : State :=
  if (s.tile k).state != .up then s
  else
    let fl := fieldLE ctl 1 1
    let part := slice ctl 4 4
    let s1 := s.incBy ⟨tlCnt k, 15, 0⟩ bad
    let s2 := s1.modTile k fun x =>
      { x with lock := if bitOf fl 2 then some s.elapsed else x.lock, pretuned := bitOf fl 3, tripPending := bitOf fl 4
               rx := if bitOf fl 0 then part else if x.inMsg then x.rx ++ part else x.rx
               inMsg := (bitOf fl 0 || x.inMsg) && !bitOf fl 1 }
    match (s.bind k).or (if s.commitPending then s.sbind k else none) with
    | some (r, _, _) =>
      s2.modSyn r (2 + k) fun y =>
        { y with locked := y.locked || bitOf fl 2, lockFrom := if !y.locked && bitOf fl 2 then s.elapsed else y.lockFrom
                 heard := if bitOf fl 2 then s.elapsed else y.heard
                 idle := if bitOf fl 3 && y.idle == .pretuning then .pretuned else y.idle }
    | none => s2

def execTlUpstreamFrame (link : Nat) (ctl : List Byte) (badSync : Nat) (s : State) : Host.Outcome State Fault Refusal :=
  .next (upstream link ctl badSync s)

/-- A message that fails its CRC, or whose fields are out of range (01 R36): counted; sixteen within 1 ms fault the link. -/
def State.badMessage (s : State) (k : Nat) : State :=
  let s1 := s.inc ⟨tlCnt k, 31, 16⟩
  let l := ((s.tile k).crcAt ++ [s.elapsed]).filter (fun t => decide (s.elapsed < t + ms 1))
  let s2 := s1.modTile k fun x => { x with crcAt := l }
  if 16 ≤ l.length then s2.tileFault k 3 0 else s2

/-- A complete control message (R433). -/
def ctlMessage (k : Nat) (s : State) : State :=
  let x := s.tile k
  if x.state != .up || x.inMsg || x.rx.isEmpty then s
  else
    let b := x.rx
    let type := fieldLE b 0 1
    let len := fieldLE b 1 1
    let s1 := s.modTile k fun x => { x with rx := [] }
    let p := slice b 2 len
    if 58 < len || b.length < len + 4 || crc16 (b.take (2 + len)) ≠ fieldLE b (2 + len) 2 then s1.badMessage k
    else
      let chain := fun (t : Nat) => (s.bind k).bind fun (r, base, n) => if t < n then some (r, base + t) else none
      if type = 0x81 && len = 1 then
        let t := fieldLE p 0 1
        match x.msgs.find? (fun m => m.type == t) with
        | none => s1
        | some m =>
          s1.modTile k fun x =>
            { x with msgs := x.msgs.erase m, masks := x.masks ++ m.mask.toList }
      else if type = 0x82 && len = 2 then
        match chain (fieldLE p 0 1) with
        | some (r, c) => trip (chainBase r + c) (fieldLE p 1 1) s1
        | none => s1.badMessage k
      else if type = 0x83 && len = 2 then
        match chain (fieldLE p 0 1) with
        | some (r, c) => s1.modChain (chainBase r + c) fun y => { y with vswr := fieldLE p 1 1 }
        | none => s1.badMessage k
      else if type = 0x84 && len = 2 then s1.modTile k fun x => { x with status := fieldLE p 0 2 }
      else s1.badMessage k

def execTlCtlMessageRx (link : Nat) (s : State) : Host.Outcome State Fault Refusal := .next (ctlMessage link s)

/-- A message without ACK for 20 µs (R433): sent once more, then the link faults. -/
def ackTimeout (k : Nat) (s : State) : State :=
  let x := s.tile k
  match x.msgs.find? (fun m => decide (m.at_ + us 20 ≤ s.elapsed)) with
  | none => s
  | some m =>
    if x.state != .up then s
    else if m.sent = 1 then
      s.modTile k fun x => { x with msgs := x.msgs.map fun n => if n = m then { m with sent := 2, at_ := s.elapsed } else n }
    else s.tileFault k 4 0

def execTlCtlAckTimeout (link : Nat) (s : State) : Host.Outcome State Fault Refusal := .next (ackTimeout link s)

/-- A lane lost block lock (R429). -/
def blockLockLost (k lane : Nat) (s : State) : State :=
  if (s.tile k).state != .up || 4 < lane then s
  else (s.modTile k fun x => { x with blockLock := x.blockLock - (if bitOf x.blockLock lane then 2 ^ lane else 0) }).tileFault k 1 lane

def execTlBlockLockLost (link lane : Nat) (s : State) : Host.Outcome State Fault Refusal := .next (blockLockLost link lane s)

/-- The returned phase wanders past ±8 UI (R428). -/
def wander (k : Nat) (s : State) : State := s.tileFault k 2 0

def execTlWander (link : Nat) (s : State) : Host.Outcome State Fault Refusal := .next (wander link s)

/-- TX_MASK of a launch that is not precoded, at least 64 µs before it (R433). -/
def maskSend (r : Nat) (of_ : LaunchOf) (s : State) : State :=
  match (s.radio r).launches.find? (fun l => l.of_ == of_ && l.outcome.isNone && !l.onAir) with
  | none => s
  | some l => if l.t < s.ntNs + 64000 then s else s.sendMasks r of_ l.t l.chains

def execTxMaskSend (radio : Nat) (of_ : LaunchOf) (s : State) : Host.Outcome State Fault Refusal :=
  .next (maskSend radio of_ s)

end Sys2Proof.Machine
end

