-- ==== Sys2Proof/Machine/Configure.lean ====
section
/-! DEFINITION. What the accepted records of the selected image set, chapter by chapter (03 R87, and the fields whose reset
the register tables give as "record"). A staged setting stands in both banks until the boot commit (log 6). -/

namespace Sys2Proof.Machine

/-- Set an immediate register to a value. -/
def State.setR (s : State) (a v : Nat) : State := s.setReg a (BitVec.ofNat 32 v)

/-- Set a staged register in both banks. -/
def State.setBoth (s : State) (a v : Nat) : State := (s.setReg a (BitVec.ofNat 32 v)).setSreg a (BitVec.ofNat 32 v)

/-- The record of a type whose first byte is k; [] without one. -/
def State.recFor (s : State) (t k : Nat) : List Byte := ((s.recsOf t).find? (fun b => fieldLE b 0 1 == k)).getD []

/-- A subject is accepted. -/
def State.accepted (s : State) (n : Nat) : Bool := !(s.boot.rejected.contains n)

/-! ## 05 and 16 -/

/-- 0x0301 and 0x0302: the grid, and the wake sources (05 R153). -/
def State.setMeridian (s : State) : State :=
  let b := s.recBytes 0x0301
  let d := s.recBytes 0x0302
  let s1 := { s with grid := { s.grid with phase := fieldLE b 0 4, sfLen := fieldLE b 4 1, recMode := fieldLE b 5 1 } }
  if d.isEmpty then s1.setR 0x300060 (7 * 2 + 2 * 16 + 128)
  else ((s1.setR 0x300060 (fieldLE d 0 1 * 2 + fieldLE d 1 1 * 16 + fieldLE d 2 1 / 128 * 128 + fieldLE d 2 1 % 32 * 256)).setR 0x300064
    (fieldLE d 4 4)).setR 0x300068 (fieldLE d 8 4)

/-- 0x0E01 and 0x0E02: rail limits and estimates, temperatures, hold release and RAIL_RAMP (16 R476). -/
def State.setBoard (s : State) : State :=
  let h := s.recBytes 0x0E02
  let l := railEntries (s.recBytes 0x0E01)
  let s1 := { s with power := { s.power with
    boardRecord := true
    limits := l.foldl (fun t (e : Nat × Nat × Nat × Nat) => Tab.put t e.1 (e.2.1, e.2.2.1)) []
    estimates := l.foldl (fun t (e : Nat × Nat × Nat × Nat) => Tab.put t e.1 e.2.2.2) []
    railRamp := if h.isEmpty then 0 else fieldLE h 5 1 } }
  if h.isEmpty then s1.setR 0x400030 (105 + 115 * 256 + 60 * 65536)
  else s1.setR 0x400030 (fieldLE h 0 1 + fieldLE h 1 1 * 256 + fieldLE h 2 2 * 65536)

/-! ## 06 to 08 -/

/-- The chain set of a radio in the initial mode (07 R203): every integrated chain and every external chain bound to it, in
Economy those in the lower half. -/
def State.initialSet (s : State) (r : Nat) : List Nat :=
  let binds := (s.recsOf 0x0C10).filter fun b => bitOf (fieldLE b 1 1) 0 && fieldLE b 2 1 == r
  let n := if s.grid.recMode = 4 then s.chainCount r / 2 else s.chainCount r
  (List.range n).filter fun c => decide (c < integrated r)
    || binds.any (fun b => decide (fieldLE b 4 1 ≤ c) && decide (c < fieldLE b 4 1 + fieldLE b 3 1))

/-- 0x0401 and 0x0403 for a radio (06 R181). -/
def State.setFrontEnd (s : State) (r : Nat) : State :=
  let b := s.recBytes 0x0401
  if b.isEmpty then s
  else
    let s1 := (s.setR (feBase r + 4) (fieldLE b 0 2 + fieldLE b 2 1 * 256 + fieldLE b 3 1 * 65536 + b2n (bitOf (fieldLE b 4 1) r) * 2 ^ 24)).setR
      (feBase r + 8) (fieldLE b 8 4)
    (List.range (s.chainCount r)).foldl (fun s c =>
      let p := s.recFor 0x0403 (chainBase r + c)
      s.setBoth (feBase r + 0x1000 + 4 * c) (if p.isEmpty then 0x210 else fieldLE p 2 2)) s1

/-- 0x0501 and 0x0502 for a radio (07 R206), and its chain set. -/
def State.setBaseband (s : State) (r : Nat) : State :=
  let b := s.recFor 0x0501 r
  let c := s.recFor 0x0502 r
  if b.isEmpty then s
  else
    let s1 := ((s.setR (bbBase r + 0xC) (fieldLE b 1 1 + fieldLE b 2 1 * 256 + fieldLE b 3 1 * 65536 + fieldLE b 4 1 * 2 ^ 24)).setR
      (bbBase r + 0x10) (fieldLE b 5 1 + fieldLE b 6 1 * 256 + fieldLE b 7 1 * 65536 + fieldLE b 8 1 * 2 ^ 24)).setR (bbBase r + 0x14) (fieldLE b 9 1)
    if fieldLE c 1 1 = 7 then s1.setBoth (bbBase r + 4) (7 * 65536)
    else
      let m := bitMap 64 (s.initialSet r).contains
      (((s1.setBoth (bbBase r + 4) (fieldLE c 2 1 + fieldLE c 3 1 * 256 + fieldLE c 1 1 * 65536)).setBoth (bbBase r + 8) (fieldLE c 4 2)).setBoth
        (feBase r + 0x10) m).setBoth (feBase r + 0x14) (m / 2 ^ 32)

/-- The template of a mode for a radio (0x0603), in the staged bank; false without one. -/
def State.stageTemplate (s : State) (r mode : Nat) (put : State → Nat → Nat → State) : Option State :=
  ((s.recsOf 0x0603).find? (fun b => fieldLE b 0 1 == r && fieldLE b 1 1 == mode)).map fun b =>
    (List.range 64).foldl (fun s i =>
      let a := macBase r + 0x400 + 8 * i
      if i < fieldLE b 2 1 then put (put s a (fieldLE b (4 + 8 * i) 4)) (a + 4) (fieldLE b (8 + 8 * i) 4)
      else put (put s a (resetWord a).toNat) (a + 4) (resetWord (a + 4)).toNat) s

/-- 0x0601 to 0x0603 for a radio (08 R239). -/
def State.setMac (s : State) (r : Nat) : State :=
  let b := s.recFor 0x0601 r
  if b.isEmpty then s
  else
    let m := macBase r
    let s1 := (((s.setR (m + 8) (fieldLE b 1 1)).setBoth (m + 0xC) (fieldLE b 4 1)).setBoth (m + 0x10) (fieldLE b 2 2)).setR (m + 0x14) (fieldLE b 6 2)
    let s2 := (List.range 4).foldl (fun s k => s.setR (m + 0x18 + 4 * k) (fieldLE b (8 + 2 * k) 2)) s1
    let s3 := ((s2.recsOf 0x0602).filter (fun x => fieldLE x 0 1 == r)).foldl (fun s x =>
      let a := bssCfg r (fieldLE x 1 1)
      ((s.setBoth a (fieldLE x 11 1 + fieldLE x 2 1 * 2 + fieldLE x 3 1 * 32 + fieldLE x 10 1 * 512 + fieldLE x 12 2 * 2048)).setBoth (a + 4)
        (fieldLE x 4 4)).setBoth (a + 8) (fieldLE x 8 2)) s2
    (s3.stageTemplate r s.grid.recMode State.setBoth).getD s3

/-! ## 10 to 12 -/

/-- 0x0801 and 0x0802 (10 R299). -/
def State.setMesh (s : State) : State :=
  let o := s.recBytes 0x0801
  let m := s.recBytes 0x0802
  if o.isEmpty then s
  else
    let s1 := (s.setR 0x2000014 (fieldLE o 14 1 + b2n (bitOf (fieldLE o 20 1) 1) * 256)).setBoth 0x2000004 (fieldLE m 0 1 - 1 + fieldLE m 1 1 * 64)
    (List.range 32).foldl (fun s i => s.setBoth (0x2000100 + 4 * i) (if i < fieldLE m 2 1 then fieldLE m (4 + 4 * i) 4 else 0)) s1

/-- A tenant's registers: 0x0902, 0x0904 and the defaults without them (11 R344). -/
def State.setTenant (s : State) (t : Nat) : State :=
  let b := s.recFor 0x0902 t
  let d := s.recFor 0x0904 t
  let s1 := (List.range 8).foldl (fun s i => s.setR (0x2400200 + 0x20 * t + 4 * i)
    (((List.range 8).map fun k => (if d.isEmpty then (8 * i + k) / 8 else fieldLE d (2 + 8 * i + k) 1) * 8 ^ k).sum)) s
  let s2 := s1.setBoth (0x2400400 + 4 * t) (if b.isEmpty then 0x6F else fieldLE b 15 1)
  if b.isEmpty then s2
  else
    let f := fieldLE b 1 1
    (((s2.setR (tenCfg t) (fieldLE b 2 2 + f % 16 * 4096 + fieldLE b 10 2 * 65536)).setR (tenCfg t + 4) (fieldLE b 4 4)).setR (tenCfg t + 8)
      (fieldLE b 8 2)).setR (tenCfg t + 12) (fieldLE b 12 3 + b2n (bitOf f 4) * 2 ^ 24)

/-- A table from the records of a type. -/
def State.tabOf {α : Type} (s : State) (t : Nat) (g : Tab α → List Byte → Tab α) : Tab α := (s.recsOf t).foldl g []

/-- Subject 09: thresholds, tenants, sub-ports, shapers and the tables (11 R344, R347). -/
def State.setPkt (s : State) : State :=
  let o := s.recBytes 0x0901
  if o.isEmpty then s
  else
    let s1 := (((s.setR 0x2400008 (fieldLE o 0 2 + fieldLE o 2 2 * 65536)).setR 0x240000C (fieldLE o 4 2)).setR 0x2400010
      (fieldLE o 8 2 + fieldLE o 10 2 * 65536)).setR 0x2400014 (fieldLE o 13 1 % 64 + fieldLE o 13 1 / 128 * 64)
    let s2 := (List.range 16).foldl State.setTenant s1
    let s3 := (s.recsOf 0x0903).foldl (fun s b => s.setBoth (0x2400440 + 4 * fieldLE b 0 1) (fieldLE b 4 3)) s2
    let s4 := (s.recsOf 0x090D).foldl (fun s b =>
      let i := fieldLE b 0 1
      let q := fieldLE b 1 1
      ((s.setBoth (0x2401000 + 0x40 * i + 8 * q) (fieldLE b 4 4)).setBoth (0x2401004 + 0x40 * i + 8 * q) (fieldLE b 8 4)).setBoth
        (0x2401400 + 0x20 * i + 4 * q) (fieldLE b 12 4)) s3
    let pol := s.tabOf 0x090C fun t b => Tab.put t (fieldLE b 0 2) (policerOf b)
    s4.modPkt fun p =>
      { p with
        ranges := s.tabOf 0x0905 fun t b => if fieldLE b 1 1 = 0xFF then Tab.del t (fieldLE b 0 1)
          else Tab.put t (fieldLE b 0 1) ⟨fieldLE b 1 1, fieldLE b 2 2, fieldLE b 4 2⟩
        rules := s.tabOf 0x0906 fun t b => Tab.put t (fieldLE b 0 2) (b.drop 2)
        routes := s.tabOf 0x0907 fun t b =>
          let (n, v6, len, pre) := routeFields b
          Tab.put t (routeKey n v6 len pre) ⟨fieldLE b 4 2, fieldLE b 3 1⟩
        nextHops := s.tabOf 0x0908 fun t b => Tab.put t (fieldLE b 0 2) (hopOf b)
        fdb := s.tabOf 0x0909 fun t b => Tab.put t (fdbRecKey b) (fdbOf b)
        flows := s.tabOf 0x090A fun t b => Tab.put t (Sys2Proof.Machine.flowKeyOf b) ⟨fieldLE b 40 2, bitOf (fieldLE b 1 1) 2, s.elapsed⟩
        tunnels := s.tabOf 0x090B fun t b => Tab.put t (fieldLE b 0 2) (b.drop 2)
        policers := pol, policersStaged := pol }

/-- Subject 0A: sealed keys into their slots and the mesh's key indexes (12 R368). -/
def State.setKeys (s : State) : State :=
  (s.recsOf 0x0A02).foldl (fun s b =>
    match openSealed s.fuses b with
    | some k =>
      let slot := fieldLE b 0 2
      let suite := fieldLE b 2 1
      let s1 := s.installKey slot suite k
      if fieldLE b 3 1 ≤ 7 then s1.modMesh fun m => { m with keys := Tab.put m.keys (fieldLE b 3 1) (slice k 0 16) } else s1
    | none => s) s

/-! ## 13 to 15 -/

/-- Subject 0B: functions, time-outs, input queues and workers, with the defaults of R403 (13 R408, R411 to R413; log 57). -/
def State.setHost (s : State) : State :=
  let o := s.recBytes 0x0B01
  let s1 := ((s.setR 0x3100004 (fieldLE o 0 1 * 65536)).setR 0x3100008 (if o.isEmpty then 10000 else fieldLE o 2 2)).setR 0x2C00008
    (if o.isEmpty then 100 else fieldLE o 4 2)
  let dflt := (s.recsOf 0x0B02).isEmpty
  let s2 := (List.range 64).foldl (fun s q =>
    let b := s.recFor 0x0B02 q
    let a := tskQ q
    if dflt then ((s.setR a (1 + 0xFFFF * 256)).setR (a + 4) 4096).setR (a + 0x10) 1000
    else if b.isEmpty then s
    else ((((s.setR a (fieldLE b 1 1 + fieldLE b 2 2 * 256)).setR (a + 4) (fieldLE b 4 4)).setR (a + 8) (fieldLE b 8 4)).setR (a + 0xC)
      (fieldLE b 12 4)).setR (a + 0x10) (fieldLE b 16 2 + fieldLE b 18 2 * 65536)) s1
  (s.recsOf 0x0B03).foldl (fun s b =>
    s.setR (workerReg (fieldLE b 0 1)) (fieldLE b 1 1 + fieldLE b 2 1 * 16 + fieldLE b 3 1 * 256 + fieldLE b 4 2 * 65536)) s2

/-- A gate list of 0x0C02 (14 R442). -/
def State.setGates (s : State) (b : List Byte) : State :=
  let (p, l) := portOf (fieldLE b 0 1)
  let a := ethBase p + 0x10 + 0x10 * l
  let s1 := ((s.setBoth a (fieldLE b 2 2 + fieldLE b 4 2 * 1024 + fieldLE b 1 1 * 2 ^ 21)).setBoth (a + 4) (fieldLE b 8 4)).setBoth (a + 8)
    (fieldLE b 12 4)
  (List.range (fieldLE b 4 2)).foldl (fun s i => s.setBoth (ethBase p + 0x1000 + 4 * (fieldLE b 2 2 + i)) (fieldLE b (16 + 4 * i) 4)) s1

/-- Subject 0C (14 R438, R442, R443). -/
def State.setWired (s : State) : State :=
  let s1 := (s.recsOf 0x0C01).foldl (fun s b =>
    let a := ethBase (fieldLE b 0 1)
    ((s.setBoth a (fieldLE b 1 1 + fieldLE b 2 1 * 4 + fieldLE b 3 1 * 16 + fieldLE b 8 1 * 4096)).setBoth (a + 8) (fieldLE b 4 2)).setR (a + 0xC)
      (fieldLE b 6 2)) s
  let s2 := (s.recsOf 0x0C02).foldl State.setGates s1
  let s3 := (s.recsOf 0x0C03).foldl (fun s b =>
    let (p, l) := portOf (fieldLE b 0 1)
    (List.range 128).foldl (fun s i => s.setR (ethBase p + 0x2000 + 0x200 * l + 4 * i) (fieldLE b (4 + 4 * i) 4)) s) s2
  let s4 := (s.recsOf 0x0C04).foldl (fun s b =>
    let (p, l) := portOf (fieldLE b 0 1)
    let s1 := s.setR (ethBase p + 0x50 + 4 * l)
      (fieldLE b 2 2 + b2n (bitOf (fieldLE b 1 1) 0) * 2 ^ 14 + b2n (bitOf (fieldLE b 1 1) 2) * 2 ^ 15)
    { s1 with eth := { s1.eth with txSa := Tab.put s1.eth.txSa (fieldLE b 0 1) (fieldLE b 2 2) } }) s3
  let s5 := (s.recsOf 0x0C05).foldl (fun s b =>
    { s with eth := { s.eth with rxSa := Tab.put s.eth.rxSa (fieldLE b 0 1 * 16 + fieldLE b 1 1) (fieldLE b 2 2, fieldLE b 4 8) } }) s4
  (s.recsOf 0x0C10).foldl (fun s b =>
    let k := fieldLE b 0 1
    (s.setBoth (0x3800008 + 0x10000 * k) (fieldLE b 1 1 % 2 + fieldLE b 2 1 * 2 + fieldLE b 4 1 * 8 + fieldLE b 3 1 * 512)).put ⟨tlCtrl k, 5, 5⟩
      (fieldLE b 1 1 / 2 % 2)) s5

/-- (CLASS, TARGET in 10 ns) of a DRAM port without a record (15 R447). -/
def dramPortDefault (p : Nat) : Nat × Nat :=
  [(0, 200), (1, 400), (0, 150), (1, 100), (2, 800), (0, 100), (2, 400), (3, 10000)].getD p (0, 10)

/-- Subject 0D (15 R461). -/
def State.setDram (s : State) : State :=
  let o := s.recBytes 0x0D01
  if o.isEmpty then s
  else (List.range 8).foldl (fun s p =>
    let b := s.recFor 0x0D02 p
    let (c, t) := if b.isEmpty then dramPortDefault p else (fieldLE b 1 1, fieldLE b 2 2)
    s.setBoth (0x3C00010 + 4 * p) (c + t * 16)) (s.setBoth 0x3C00004 (fieldLE o 3 1 + fieldLE o 2 1 * 256))

/-! ## The image as a whole -/

/-- The blocks whose clocks start at boot: those of accepted subjects with something to configure (03 R87; log 25). -/
def State.bootBlocks (s : State) : List Nat :=
  let ports := (s.recsOf 0x0C01).map (fun b => 16 + fieldLE b 0 1)
  let links := (s.recsOf 0x0C10).map (fun b => 32 + fieldLE b 0 1)
  (if s.accepted 4 then [0, 1, 2] else []) ++ (if s.accepted 5 then [3, 4, 5, 6] else []) ++ (if s.accepted 6 then [7, 8, 9] else [])
    ++ (if s.accepted 9 then [10] else []) ++ (if s.accepted 0xA then [11] else []) ++ [12, 13, 14]
    ++ (if (s.recBytes 0x0801).isEmpty then [] else [15]) ++ ports ++ (if s.accepted 0xD then [20, 21, 22, 23] else []) ++ links

/-- Every accepted record takes effect, and the blocks they configure ask for power (03 R75, R87). -/
def State.applyRecords (s : State) : State :=
  let s1 := s.setMeridian.setBoard
  let s2 := [0, 1, 2].foldl (fun s r => ((s.setFrontEnd r).setBaseband r).setMac r) s1
  let s3 := s2.setMesh.setPkt.setKeys.setHost.setWired.setDram
  let s4 := (s3.bootBlocks).foldl (fun s b => s.enableBlock b) s3
  (List.range 16).foldl (fun s f => s.setUnit (32 + f) { s.unit (32 + f) with phase := .service }) s4

end Sys2Proof.Machine
end

