-- ==== Sys2Proof/Machine/Dram.lean ====
section
/-! DEFINITION. The rows of the DRAM controller (15). -/

namespace Sys2Proof.Machine

/-- A port's request takes an entry of its channel, or waits at its port (R445, R448); a channel out of service answers
DMC_OFFLINE and counts the refusal (R457, 01 R33), a gated one GATED (02 R54). A write carries 1 to 64 B of its granule from an offset on. -/
def dramRequest_ (port granule : Nat) (write : Bool) (off : Nat) (data : List Byte) (s : State) : State :=
  let c := channelOf granule
  if 7 < port || s.granuleCount ≤ granule || (write && (data.isEmpty || decide (64 < off + data.length))) then s
  else if s.gated (20 + c) then s.dramAnswer port granule 0x0D []
  else if !(s.inService (.dram c)) then (s.refuseBy (portUnit port)).dramAnswer port granule 0x7D []
  else
    let q : DramReq := ⟨port, granule, bankOf granule, rowOf granule, write, decide (data.length = 64), s.elapsed,
      s.dram.nextOrder, false, off, data⟩
    if (s.dch c).room port && (Tab.getD s.dram.waiting (c * 8 + port) []).isEmpty then
      let s1 := s.modDch c fun x => { x with queue := x.queue ++ [q] }
      { s1 with dram := { s1.dram with nextOrder := s1.dram.nextOrder + 1 } }
    else { s with dram := { s.dram with waiting := Tab.put s.dram.waiting (c * 8 + port) (Tab.getD s.dram.waiting (c * 8 + port) [] ++ [q]) } }

def execDramRequest (port granule : Nat) (write : Bool) (off : Nat) (data : List Byte) (s : State) :
    Host.Outcome State Fault Refusal := .next (dramRequest_ port granule write off data s)

/-- A channel issues a column command (R450 to R452): a whole-granule write is done with it; a read, and the
read-modify-write of a partial write, wait for their data. Z5 ordering counts the hits to a row while another row of its
bank is waited for. -/
def issue (c banks : Nat) (s : State) : State :=
  let x := s.dch c
  if !(s.inService (.dram c)) || x.pause.isSome then s
  else match s.dramPick c banks with
    | none => s
    | some q =>
      let hit := if s.z5Order then x.z5Hit q else x.hit q
      let other := x.queue.any fun o => !o.sent && o.bank == q.bank && o.row != q.row
      let s1 := s.modDch c fun x =>
        { x with rows := Tab.put x.rows q.bank q.row
                 hits := Tab.put x.hits q.bank (if hit && other then Tab.getD x.hits q.bank 0 + 1 else 0)
                 queue := x.queue.map fun o => if o.order = q.order then
                   { o with sent := true, data := if o.write then o.data else s.granule o.granule } else o }
      if q.write && q.whole then ((s1.granuleWrite q.granule 0 q.data).dramAnswer q.port q.granule 0 []).dramDone c q else s1

def execDramCommandIssue (channel ready : Nat) (s : State) : Host.Outcome State Fault Refusal := .next (issue channel ready s)

/-- Read data returns (R446, R456): one symbol is corrected, counted and written back unless a write to the granule is
queued; two or more are uncorrectable: logged, answered DMC_UNCORR to the port (log 186), and a partial write is not performed. -/
def readReturn (c granule symbols rank subch : Nat) (s : State) : State :=
  match (s.dch c).queue.find? (fun q => q.sent && q.granule == granule) with
  | none => s
  | some q =>
    let good := ((if q.write then s.granuleWrite granule q.off q.data else s).dramAnswer q.port granule 0
      (if q.write then [] else q.data)).dramDone c q
    if symbols = 0 then good
    else if symbols = 1 then good.inc ⟨0x3C00080 + 4 * c, 15, 0⟩
    else ((s.dramAnswer q.port granule 0x7C []).dramDone c q).dramError ⟨c, rank % 2, subch % 2, q.bank % 16, q.row % 2 ^ 18,
      q.port, colOf granule % 2 ^ 16, if symbols = 2 || symbols = 3 then symbols else 0, s.stamp⟩

def execDramReadReturn (channel granule symbols rank subch : Nat) (s : State) : Host.Outcome State Fault Refusal :=
  .next (readReturn channel granule symbols rank subch s)

/-- A pause begins (R454): deferred while a request of urgency 3 waits, by at most 50 µs. -/
def pauseStart (c : Nat) (s : State) : State :=
  let x := s.dch c
  let due := x.checkAt
  let urgent := x.queue.any (fun q => !q.sent && s.urgency q == 3)
  let other := (List.range 4).any fun d => d != c && ((s.dch d).pause).isSome
  if !(s.inService (.dram c)) || x.pause.isSome || other || s.elapsed < due || (urgent && s.elapsed < due + us 50) then s
  else s.modDch c fun x => { x with pause := some s.elapsed, checkAt := due + ms 4
                                    extra := x.extra - 1 }

def execDramPauseStart (channel : Nat) (s : State) : Host.Outcome State Fault Refusal := .next (pauseStart channel s)

/-- A pause ends (R454): queued requests resume; beyond the correctable drift a full centring is owed, with event 0xD004.
A pause longer than 1.2 µs is a fault of the channel (R457). -/
def pauseEnd (c : Nat) (drift : Int) (beyond : Bool) (s : State) : State :=
  match (s.dch c).pause with
  | none => s
  | some t =>
    let ns := (s.elapsed - t) * 5 / 3
    let s1 := s.modDch c fun x => { x with pause := none, drift := clampS 8 drift, pauseMax := Nat.max x.pauseMax (Nat.min ns 65535) }
    let s2 := if beyond then
        ((s1.modDch c fun x => { x with extra := 16 }).inc ⟨0x3C00090 + 4 * c, 15, 8⟩).postEvent 0xD004 (items [c, sItem drift])
      else s1
    if 1200 < ns then s2.strobe (.dram c) 0x0F ns else s2

def execDramPauseEnd (channel : Nat) (drift : Int) (beyond : Bool) (s : State) : Host.Outcome State Fault Refusal :=
  .next (pauseEnd channel drift beyond s)

/-- When a trained channel's next pause is due (R454): on a grid of 4 ms, c ms from channel 0's, which the first channel that
trains sets (log 184). -/
def State.firstPause (s : State) (c : Nat) : Nat :=
  match (List.range 4).find? fun d => d != c && (s.dch d).trained && !(s.dch d).selfRefresh with
  | none => s.elapsed + ms (4 + c)
  | some d =>
    let on := (s.dch d).checkAt + ms (4 + c - d)
    s.elapsed + ms 4 - (s.elapsed + ms 4 - on % ms 4) % ms 4

/-- A channel trained at both rates waits for a Meridian (R455, 05 R136). -/
def State.dramTrained (s : State) (c : Nat) : State :=
  let s1 := s.modDch c fun x =>
    { x with trained := true, selfRefresh := false, retraining := false, checkAt := s.firstPause c }
  let u := s1.unit (21 + c)
  if u.held.isSome || u.phase == .service then s1 else s1.setUnit (21 + c) { u with phase := s1.joinPhase }

/-- Training at boot finds contents that nothing tells (log 61). -/
def State.dramFirst (s : State) : State :=
  if (List.range 4).any (fun c => (s.dch c).selfRefresh) then s
  else { s with fresh := s.fresh + 1, dram := { s.dram with granules := [], gen := s.fresh } }

/-- Training ends at both rates (R455): a channel that failed at either leaves all four in their reset state with clocks
gated, event 0xD003 (rate 0: 9,600, 1: 4,800) and subject 0x0D as rejected. -/
def trainingDone (fast slow : Nat) (s : State) : State :=
  let bad := (List.range 4).find? fun c => !(bitOf fast c && bitOf slow c)
  if (s.recBytes 0x0D01).isEmpty || !((List.range 4).all (fun c => s.flag (clkSt (20 + c)))) || (List.range 4).all (fun c => (s.dch c).trained && !(s.dch c).selfRefresh) then s
  else match bad with
    | none => (List.range 4).foldl (fun s c => s.dramTrained c) s.dramFirst
    | some c =>
      let s1 := (List.range 4).foldl (fun s c =>
        (((s.put (clkEn (20 + c)) 0).put (clkSt (20 + c)) 0).setUnit (21 + c) { s.unit (21 + c) with phase := .reset }).modDch c fun _ => {}) s
      ({ s1 with boot := { s1.boot with rejected := if s1.boot.rejected.contains 0xD then s1.boot.rejected else s1.boot.rejected ++ [0xD] } }).postEvent
        0xD003 (items [c, b2n (bitOf fast c)])

def execDramTrainingDone (fast slow : Nat) (s : State) : Host.Outcome State Fault Refusal := .next (trainingDone fast slow s)

/-- A recovered channel has retrained (R457): it serves again from the next Meridian. -/
def retrained (c : Nat) (s : State) : State :=
  if !(s.dch c).retraining || (s.unit (21 + c)).phase != .reset || (s.unit (21 + c)).held.isSome then s else s.dramTrained c

def execDramRetrainAfterFault (channel : Nat) (s : State) : Host.Outcome State Fault Refusal := .next (retrained channel s)

end Sys2Proof.Machine
end

