-- ==== Sys2Proof/Machine/MeridianOps.lean ====
section
/-! DEFINITION. The commit controller: which settings belong to which unit, participants, what each unit checks at arming,
and the outcome of a deadline (05 R129 to R146, 06 R160, R161, 07 R187, 08 R220, 09 R257, 10 R281, 14 R422). -/

namespace Sys2Proof.Machine

/-! ## Banks -/

/-- The commit units whose staged setting a register holds (R133, 06 R160). -/
def addrUnits (a : Nat) : List Nat :=
  if a < 0x1000000 then []
  else if a < 0x1C00000 then [a % 0x400000 / 0x100000]
  else if a < 0x2000000 then []
  else if a < 0x2400000 then [25]
  else if a < 0x2800000 then
    if 0x2401400 ≤ a then [15 + (portOf ((a - 0x2401400) / 0x20)).1]
    else if 0x2401000 ≤ a then [15 + (portOf ((a - 0x2401000) / 0x40)).1]
    else if 0x2400440 ≤ a && a < 0x2400468 then [15 + (portOf ((a - 0x2400440) / 4)).1]
    else [19]
  else if a < 0x3400000 then []
  else if a < 0x3800000 then [15 + (a - 0x3400000) / 0x10000]
  else if a < 0x3C00000 then [3 + (a - 0x3800000) / 0x10000]
  else [21, 22, 23, 24]

/-- An active address holds a staged setting. -/
def isStaged (a : Nat) : Bool := (rowAt a).any (·.staged)

/-- The staged registers that a bank lists, of the units that pass. -/
def State.stagedKeys (s : State) (p : Nat → Bool) : List Nat :=
  ((Tab.keys s.staged ++ Tab.keys s.regs).filter fun a => (addrUnits a).any p && isStaged a).eraseDups

/-- A unit's staged bank differs from its active bank (R136). -/
def State.bankDiffers (s : State) (u : Nat) : Bool :=
  (s.stagedKeys (· == u)).any (fun a => s.sreg a != s.reg a) || (u == 19 && s.pkt.policersStaged != s.pkt.policers)

/-- The staged banks of the units that pass become active (R134). -/
def State.bankToActive (s : State) (p : Nat → Bool) : State :=
  (s.stagedKeys p).foldl (fun s a => s.setReg a (s.sreg a)) s

/-- The units that pass copy their active bank into their staged bank (R134). -/
def State.bankToStaged (s : State) (p : Nat → Bool) : State :=
  let s1 := (s.stagedKeys p).foldl (fun s a => s.setSreg a (s.reg a)) s
  if p 19 then s1.modPkt fun q => { q with policersStaged := q.policers } else s1

/-! ## Participants (R136) -/

/-- A unit is in service, or for a Tile Link takes part: neither in fault recovery, held, gated nor absent. -/
def State.canPart (s : State) (u : Nat) : Bool :=
  let x := s.unit u
  x.held.isNone && (match unitOf u with
    | .link k => !s.isZ73 && x.phase != .recovering && s.flag (clkSt (32 + k))
    | .mesh => x.phase == .service && (s.mesh.state == .alone || s.mesh.state == .bridged)
    | v => x.phase == .service && (unitBlocks v).all (fun b => s.flag (clkSt b)))

/-- A map over the units. -/
def unitMap (n : Nat) (p : Nat → Bool) : BitVec 27 := BitVec.ofNat 27 (bitMap n p)

/-- The participants: every unit that takes part when the mode changes, else those whose banks differ; the constellation
when the length changes while the cell belongs to one. -/
def State.participants (s : State) (every lenChange : Bool) : BitVec 27 :=
  unitMap 27 fun u => if u = 26 then lenChange && s.cstJoined else s.canPart u && (every || s.bankDiffers u)

/-- The units that take no part. -/
def State.nonParts (s : State) : BitVec 27 := unitMap 26 fun u => !s.canPart u

/-- Participants of the pending commit, by its kind. -/
def State.partsNow (s : State) : BitVec 27 :=
  s.participants (s.commit.kind != .host || s.commit.newMode != s.grid.mode) (s.commit.newLen != s.grid.sfLen)

/-! ## Causes at arming (R137) -/

/-- A cause and the events that name it. -/
abbrev ArmCause := Nat × List (Nat × List Byte)

/-- The staged width code of a radio. -/
def State.stagedWidth (s : State) (r : Nat) : Nat := s.sget ⟨bbBase r + 4, 18, 16⟩

/-- The staged budget in eighths (07 R185). -/
def State.stagedBudget (s : State) : Nat :=
  ([0, 1, 2].map fun r => (s.stagedSet r).length * chainCost (s.stagedWidth r)).sum

/-- A radio's staged template equals its active one (08 R236). -/
def State.templateSame (s : State) (r : Nat) : Bool :=
  (List.range 128).all fun i => s.sreg (macBase r + 0x400 + 4 * i) == s.reg (macBase r + 0x400 + 4 * i)

/-- The image has a template for a radio and a mode. -/
def State.hasTemplate (s : State) (r mode : Nat) : Bool :=
  (s.recsOf 0x0603).any fun b => fieldLE b 0 1 == r && fieldLE b 1 1 == mode

/-- At a GO that changes the mode, the template of the staged mode is copied for a radio that staged none of its own (08
R236). -/
def State.stageTemplates (s : State) (from_ mode : Nat) : State :=
  if from_ = mode then s
  else [0, 1, 2].foldl (fun s r =>
    if s.stagedWidth r = 7 || !s.templateSame r then s
    else (s.stageTemplate r mode (fun s a v => s.setSreg a (BitVec.ofNat 32 v))).getD s) s

/-- The staged channel and power are covered by a regulatory limit (06 R177). -/
def State.regOk (s : State) (r : Nat) : Bool :=
  let centre := centreKhz r (s.sget ⟨bbBase r + 4, 15, 8⟩) / 1000
  (s.recsOf 0x0402).any fun b => fieldLE b 0 1 == r && fieldLE b 1 1 == s.stagedWidth r && fieldLE b 2 2 == centre
    && decide (signed 8 (s.sget ⟨feBase r + 0x18, 7, 0⟩) ≤ fieldS b 4 1)

/-- The mode that a commit changes from: in a Dormant exit, that at entry. -/
def State.fromMode (s : State) : Nat := if s.grid.mode = 5 then s.dormant.entryMode else s.grid.mode

/-- A BSS that the staged bank leaves disabled has stations (08 R212). -/
def State.bssLeft (s : State) (r : Nat) : Bool :=
  s.mac.stas.any fun e => e.2.links.any fun l => l.radio == r && s.sget ⟨bssCfg r l.bss, 0, 0⟩ == 0

/-- A radio's staged values exceed the staged mode's limits (R145, R146, 06 R177, 07 R206, 08 R209 to R221): the event of a
template that fails comes with it. -/
def State.radioLimit (s : State) (r : Nat) : Option (List (Nat × List Byte)) :=
  let m := s.commit.newMode
  let w := s.stagedWidth r
  let set := s.stagedSet r
  let c := fun (hi lo : Nat) => s.sget ⟨bbBase r + 4, hi, lo⟩
  if staLimit m < s.mac.stas.length || s.bssLeft r || decide (sfLenNs s.commit.newLen < 2 * s.planLead r true) then some []
  else if w = 7 then (if set.isEmpty then none else some [])
  else if modeWidth r m < w || !channelOk r w (c 7 0) (c 15 8) (s.sget ⟨bbBase r + 8, 15, 0⟩) || !s.regOk r
      || (m == 4 && set.any (fun i => decide (s.chainCount r / 2 ≤ i))) then some []
  else if s.templateSame r && !s.hasTemplate r m && (s.commit.kind == .boot || m != s.fromMode) then some []
  else match s.templateCheck r true m s.commit.newLen with
    | some (g, k) => some [(0x6007, items [r, g, k])]
    | none => if (s.detFit r true m s.commit.newLen (s.flowsOf r)).isNone then some [] else none

/-- The links that the staged bank binds to a radio, with base and count. -/
def State.stagedLinks (s : State) (r : Nat) : List (Nat × Nat × Nat) :=
  (List.range 12).filterMap fun k => match s.sbind k with
    | some (q, b, n) => if q = r then some (k, b, n) else none
    | none => none

/-- Checks 3, 5 and 6 of 07 R187 at a radio. -/
def State.radioChecks (s : State) (r : Nat) : List Nat :=
  let ls := s.stagedLinks r
  let ext := (s.stagedSet r).filter (fun c => decide (integrated r ≤ c))
  (if ls.any (fun l => decide (8 < (bindingSlots (s.stagedWidth r) l.2.1 l.2.2).length)) then [3] else [])
    ++ (if ext.all (fun c => ls.any fun l => decide (l.2.1 ≤ c) && decide (c < l.2.1 + l.2.2) && s.inService (.link l.1)) then [] else [5])
    ++ (if 800 < s.stagedBudget && (decide (s.stagedSet r ≠ s.chainSet r) || s.stagedWidth r != s.chanWidth r) then [6] else [])

/-- Checks 1 to 4 of 07 R187 at a Tile Link: check 4 by the counts that an UP tile reported. -/
def State.linkChecks (s : State) (k : Nat) : List Nat :=
  match s.sbind k with
  | none => []
  | some (r, b, n) =>
    let w := s.stagedWidth r
    let x := s.tile k
    (if integrated r ≤ b && b + n ≤ s.chainCount r then [] else [1])
      ++ (if (s.stagedLinks r).any (fun l => l.1 != k && meets (b, b + n) (l.2.1, l.2.1 + l.2.2)) then [2] else [])
      ++ (if 8 < (bindingSlots w b n).length then [3] else [])
      ++ (if x.state == .up && decide (x.counts / 256 ^ (if w ≤ 1 then 2 else if w ≤ 3 then 1 else 0) % 256 < n) then [4] else [])

/-- CHECK with event 0x5001 for each check. -/
def State.checkCause (s : State) (u : Nat) (l : List Nat) : ArmCause :=
  (3, l.map fun c => (0x5001, items [u, c, s.stagedBudget]))

/-- Tuners whose staged position differs and that lack credit (R150, 06 R155); one that waits at rest with a credit of 0 never
counts (06 R156). -/
def State.shortTuners (s : State) (r : Nat) : List Nat :=
  ((List.range (s.chainCount r)).filter fun c =>
    let x := s.chain (chainBase r + c)
    s.sget (tunerPos r c) != s.get (tunerPos r c) && x.lacksCredit && (x.pos != 0 || s.get (tunerPos r c) == 0 || x.credit != 0)).map (chainBase r + ·)

/-- The group of a chain under the staged bindings. -/
def State.stagedGroup (s : State) (r c : Nat) : Option Nat :=
  if c < integrated r then some (c / 8)
  else ((s.stagedLinks r).find? (fun l => decide (l.2.1 ≤ c) && decide (c < l.2.1 + l.2.2))).map (2 + ·.1)

/-- A radio is ready to swap (06 R161, R163, 08 R217, 14 R433): chains powered, groups locked or pre-tuned, tiles done, no
plan frozen for the target under the active bank alone. -/
def State.radioReady (s : State) (r : Nat) : Bool :=
  let set := s.stagedSet r
  let late := Tab.get? s.mac.frozen r == some s.commit.target && !s.mac.dual.contains r && s.inService (.radio r) && decide (s.grid.mode < 5)
    && s.bankDiffers r
  set.all (fun c => s.chainOn (chainBase r + c))
    && ((set.filterMap (s.stagedGroup r)).eraseDups).all (fun g =>
      if s.channelStaged r then (s.syn r g).idle == .pretuned else s.groupLocked r g)
    && s.tilesReady r && !late

/-- A radio's cause: LIMIT, CHECK, TUNER_BUDGET, NOT_READY in this order; the failed checks are reported beside LIMIT too (07
R187). -/
def State.radioCause (s : State) (r : Nat) : ArmCause :=
  let ch := s.radioChecks r
  match s.radioLimit r with
  | some ev => (2, ev ++ (s.checkCause r ch).2)
  | none =>
    let tu := s.shortTuners r
    if !ch.isEmpty then s.checkCause r ch
    else if !tu.isEmpty then (4, tu.map fun i => (0x3014, items [i]))
    else if s.radioReady r then (0, []) else (1, [])

/-- A link's cause: its checks, and while it is bound, whether it is UP. -/
def State.linkCause (s : State) (k : Nat) : ArmCause :=
  let ch := s.linkChecks k
  if !ch.isEmpty then s.checkCause (3 + k) ch
  else if (s.sbind k).isSome && (s.tile k).state != .up then (1, []) else (0, [])

/-- A sub-port's staged gate list passes (14 R422); a sub-port without one has nothing to check. -/
def State.gateOk (s : State) (len sub : Nat) : Bool :=
  let (p, l) := portOf sub
  let a := ethBase p + 0x10 + 0x10 * l
  let n := s.sget ⟨a, 20, 10⟩
  let base := s.sget ⟨a, 9, 0⟩
  let cyc := s.sget ⟨a + 4, 27, 0⟩
  let en := s.sget ⟨a, 21, 21⟩ == 1
  let durs := (List.range n).map fun i => s.sget ⟨ethBase p + 0x1000 + 4 * ((base + i) % 1024), 31, 8⟩
  let other := fun (b : Nat) =>
    let g := ethBase p + 0x10 + 0x10 * (portOf b).2
    (s.sget ⟨g, 9, 0⟩, s.sget ⟨g, 9, 0⟩ + s.sget ⟨g, 20, 10⟩)
  (!en && cyc == 0 && n == 0)
    || (cyc != 0 && sfLenNs len % cyc == 0 && decide (s.sget ⟨a + 8, 27, 0⟩ < cyc) && decide (durs.sum ≤ cyc) && !(n == 0 && en)
      && (subsOf p).all (fun b => b == sub || !meets (base, base + n) (other b)))

/-- The mesh's staged map and slot length pass (10 R280, R281). -/
def State.meshMapOk (s : State) (len : Nat) : Bool :=
  let sl := meshSlotNs (s.sget ⟨0x2000004, 8, 6⟩)
  let tot := (s.sget ⟨0x2000004, 5, 0⟩ + 1) * sfLenNs len
  let m := mapOf s.sreg
  let beacon := fun (r : Nat × Nat × Nat) => r.2.2 == 1
  tot % sl == 0 && kindIn m 0 == 1 && m.all (fun r => !beacon r || (r.1 == 0 && r.2.1 == 1))
    && (List.range m.length).all (fun i => (List.range i).all fun j =>
      let x := m.getD i (0, 0, 0)
      let y := m.getD j (0, 0, 0)
      !meets (x.1, x.1 + x.2.1) (y.1, y.1 + y.2.1))
    && m.any (fun r => r.2.2 == 3 && decide (r.1 < tot / sl))

/-- Every ACTIVE member's latest digest carries this cell's length commit (09 R257). -/
def State.cstAgreed (s : State) : Bool :=
  s.cstActive.all fun m => (s.member m).lenCommit == some (s.commit.target % 2 ^ 64, s.commit.newLen)

/-- What a participant reports (R137): a busy unit NOT_READY at least; for a Dormant entry only whether it is busy (R147). -/
def State.armCause (s : State) (u : Nat) (busy : Bool) : ArmCause :=
  let c : ArmCause :=
    if s.commit.kind == .dormantEntry then (0, [])
    else if u < 3 then s.radioCause u
    else if u < 15 then s.linkCause (u - 3)
    else if u < 19 then (if (subsOf (u - 15)).all (s.gateOk s.commit.newLen) then (0, []) else (2, []))
    else if u = 25 then (if s.meshMapOk s.commit.newLen then (0, []) else (2, []))
    else if u = 26 then (if s.cstAgreed then (0, []) else (6, []))
    else (0, [])
  if c.1 = 0 && busy then (1, []) else c

/-! ## From GO to the outcome -/

/-- Arming prepares a radio's swap (06 R161, R163, 14 R433): added chains are powered, a channel change pre-tunes the idle
synthesisers, tiles get what the staged bank needs. -/
def State.prepareRadio (s : State) (r : Nat) : State :=
  let add := (s.stagedSet r).filter (fun c => !(s.chainSet r).contains c && !s.chainOn (chainBase r + c))
  let s1 := (s.requestItems (add.map (32 + chainBase r + ·))).modRadio r fun x => { x with added := add }
  let s2 := if s.channelStaged r then
      (dieGroups r s.sbind).foldl (fun s g => s.modSyn r g fun x => { x with idle := .pretuning }) s1
    else s1
  s2.stageTiles r

/-- A commit that is cancelled or refused: added chains return to OFF, pre-tuned synthesisers become shadows again, and proposals
that waited are staged (06 R158). -/
def State.releaseArm (s : State) : State :=
  let s1 := [0, 1, 2].foldl (fun s r =>
    let s := if s.channelStaged r && s.commit.part.getLsbD r then s.shadowTiles r else s
    let s0 := ((s.radio r).added).foldl (fun s c => s.modChain (chainBase r + c) fun x =>
      if x.serving then x else { x with state := .off }) s
    let s1 := s0.powerDown (((s.radio r).added).map (32 + chainBase r + ·))
    s1.modRadio r fun x => { x with added := [], syn := Tab.mapV x.syn fun _ y =>
      match y.idle with
      | .pretuning => { y with idle := .relocking }
      | .pretuned => { y with idle := .relocking }
      | _ => y }) s
  { s1 with commit := { s1.commit with state := .idle, locked := false } }.stageHeld

/-- A participant that has not reported yet is still checking: NOT_READY; so is one that had faulted before an earlier deadline
and takes part again (R141). -/
def waiting (part armed : BitVec 27) (old : Tab Nat) : Tab Nat :=
  ((List.range 27).filter fun u => part.getLsbD u && !armed.getLsbD u).map fun u =>
    (u, if Tab.getD old u 1 = 5 then 1 else Tab.getD old u 1)

/-- Tiles that the staged bank binds to a radio that takes no part get what they need too (06 R162). -/
def State.stageBound (s : State) (p : BitVec 27) : State :=
  (List.range 12).foldl (fun s k => match s.sbind k with
    | some (r, _, _) => if p.getLsbD (3 + k) && !p.getLsbD r then s.stageTile r k else s
    | none => s) s

/-- Lock the banks and enter ARMING (R137, R143). -/
def State.startArming (s : State) (kind : CommitKind) (mode len target : Nat) : State :=
  let from_ := if s.grid.mode = 7 then mode else s.fromMode
  let s1 := s.stageTemplates from_ mode
  let s2 := { s1 with
    time := { s1.time with commitSeen := true }
    commit := { s1.commit with
      state := .arming, kind := kind, target := target, deferrals := 0, notArmed := 0, armed := 0, locked := true, told := []
      newMode := mode, newLen := len } }
  let p := s2.partsNow
  let s3 := { s2 with commit := { s2.commit with part := p, excluded := s2.nonParts, causes := waiting p 0 [] } }
  if kind == .dormantEntry then s3
  else (([0, 1, 2].filter p.getLsbD).foldl (fun s r => s.prepareRadio r) s3).stageBound p

/-- A length that has only grid points of both (R129: each length divides every longer one). -/
def longer (a b : Nat) : Nat := sfLenNs (Nat.max a b)

/-- The first target of both lengths whose deadline is not past (R135). -/
def State.firstTarget (s : State) (len : Nat) : Nat := s.gridAtOrAfter (longer s.grid.sfLen len) (s.ntNs + 2000000)

/-- The boot commit is armed once NT is valid (R144): while the controller runs and no commit has applied a mode. -/
def State.armBoot (s : State) : State :=
  if s.boot.state == .run && s.grid.mode == 7 && s.commit.state == .idle && s.ntValid && !s.realigning then
    s.startArming .boot s.grid.recMode s.grid.sfLen (s.firstTarget s.grid.sfLen)
  else s

/-- The four MER_CAUSE words (R154). -/
def causeWord (c : Tab Nat) (i : Nat) : Nat := ((List.range 8).map fun j => Tab.getD c (8 * i + j) 0 % 16 * 16 ^ j).sum

/-- Event 0x3003. -/
def State.postRefused (s : State) : State :=
  s.postEvent 0x3003 (items ([s.commit.target % 2 ^ 64, s.commit.notArmed.toNat] ++ (List.range 4).map (causeWord s.commit.causes)))

/-- Set the result of the commit's requester. -/
def State.setCommitResult (s : State) (v : Nat) : State :=
  if s.commit.kind == .dormantEntry then { s with commit := { s.commit with dormantResult := v } }
  else { s with commit := { s.commit with result := v } }

/-- The commit moves to the next grid point of both lengths, with its participants anew (R139); a unit stays ARMED. -/
def State.retarget (s : State) (defers : Nat) : State :=
  let t := s.gridAtOrAfter (longer s.grid.sfLen s.commit.newLen) (s.commit.target + 1)
  let s1 := { s with commit := { s.commit with target := t, deferrals := defers } }
  let p := s1.partsNow
  let a := s.commit.armed &&& p
  let new := [0, 1, 2].filter fun r => p.getLsbD r && !s.commit.part.getLsbD r
  let s2 := { s1 with commit := { s1.commit with part := p, armed := a, excluded := s1.nonParts, causes := waiting p a s.commit.causes } }
  if s.commit.kind == .dormantEntry then s2 else new.foldl (fun s r => s.prepareRadio r) s2

/-- A failed deadline while DEFERRALS is below 3 (R139). -/
def State.deferCommit (s : State) : State :=
  let old := s.commit.target
  let s1 := (s.setCommitResult 0x0B).retarget (s.commit.deferrals + 1)
  (s1.inc ⟨0x300050, 15, 0⟩).postEvent 0x3002 (items [old % 2 ^ 64, s1.commit.target % 2 ^ 64, s.commit.notArmed.toNat])

/-- A failed deadline while DEFERRALS is 3 (R139); a refused exit commit ends the Dormant sequence with the radios unserved
(R148). -/
def State.refuseCommit (s : State) : State :=
  let s1 := ((s.setCommitResult 0x21).inc ⟨0x300050, 23, 16⟩).postRefused.releaseArm
  if s.commit.kind == .dormantExit then { s1 with dormant := { s1.dormant with seq := .none } } else s1

/-- A unit left out of the boot commit is held in its reset state with its clocks gated (R144). -/
def State.excludeUnit (s : State) (u : Nat) : State :=
  if 26 ≤ u then s
  else
    let v := unitOf u
    let s1 := s.clearUnit v 0 0
    let s2 := s1.setUnit u { s1.unit u with phase := .reset }
    let s3 := (unitBlocks v).foldl (fun s b => (s.put (clkEn b) 0).put (clkSt b) 0) s2
    if u = 25 then s3.modMesh fun m => { m with state := .reset } else s3

/-- The boot commit after its third deferral (R144): unarmed units are excluded, unless a step of NT is armed for the
target, which then costs one more grid point and there moves on itself. That move is no deferral: no event 0x3002, no count (log 161). -/
def State.bootDeadline (s : State) : State :=
  let t := s.commit.target
  if s.commit.deferrals = 3 && s.stepArmedFor t then s.retarget 4
  else
    let s1 := if s.stepArmedFor t then s.deferStep t else s
    let out := s.commit.notArmed
    let s2 := if out = 0 then s1 else ((List.range 26).filter out.getLsbD).foldl (fun s u => s.excludeUnit u) s1.postRefused
    { s2 with commit := { s2.commit with
      state := .committed, part := s2.commit.part &&& ~~~out, excluded := s2.commit.excluded ||| out } }

/-! ## Tuner counts (03 R98) -/

/-- Runs of chain indices that all exist: first index and count. -/
def State.countRuns (s : State) : List (Nat × Nat) :=
  if s.isZ73 then [(0, 8), (32, 16), (96, 16)] else [(0, 32), (32, 32), (64, 32), (96, 32), (128, 32)]

/-- Write one tuner-count entry per run. -/
def State.writeCounts (s : State) : State :=
  s.countRuns.foldl (fun s e =>
    let l := (List.range e.2).map fun i => s.chain (e.1 + i)
    s.logWrite 2 (leBytes 2 e.1 ++ leBytes 2 e.2 ++ l.flatMap (fun x => leBytes 4 x.count) ++ l.flatMap (fun x => leBytes 3 x.credit))) s

end Sys2Proof.Machine
end

