-- ==== Sys2Proof/Machine/Boot.lean ====
section
/-! DEFINITION. The commands of the boot controller, the Almanac and the serial flash (03 R73 to R99). -/

namespace Sys2Proof.Machine

/-! ## The checks of a slot (R80 to R85) -/

/-- The outcome of R85 for a slot: the order that failed, or 0, with its status and the image offset of a failing record;
SEQUENCE, and what a valid image holds. -/
structure SlotCheck where
  order : Nat
  status : Nat
  offset : Nat := 0
  seq : Nat := 0
  image : Option Image := none
  recs : List Rec := []

/-- "Z7ALMNC1" and "Z7SIGBLK". -/
def almMagic : List Byte := [0x5A, 0x37, 0x41, 0x4C, 0x4D, 0x4E, 0x43, 0x31]
def sigMagic : List Byte := [0x5A, 0x37, 0x53, 0x49, 0x47, 0x42, 0x4C, 0x4B]

/-- Every header field holds an accepted value (R80), in a slot of n bytes. -/
def headerAccepted (h : List Byte) (n : Nat) : Bool :=
  slice h 0 8 == almMagic && fieldLE h 8 2 == 1 && fieldLE h 0xA 2 == 0x1000 && decide (fieldLE h 0x10 1 ≤ 64)
    && decide (fieldLE h 0x11 1 < 2) && decide (fieldLE h 0x12 1 ≤ 4) && fieldLE h 0x13 1 == 0 && decide (fieldLE h 0x14 1 < 4)
    && fieldLE h 0x16 2 == 0 && fieldLE h 0x18 4 == 0x1000 && fieldLE h 0x1C 4 % 8 == 0 && decide (8 ≤ fieldLE h 0x1C 4)
    && decide (fieldLE h 0x1C 4 + 4352 ≤ n) && allZero (slice h 0x24 28) && allZero (slice h 0x78 3976)

/-- The image's key is accepted (R84). -/
def keyAccepted (f : Fuses) (k : Nat) (key : List Byte) : Bool :=
  if k = 0 then f.slots.all (fun x => !x.programmed) && keyHash key == f.vendor
  else (f.slot k).programmed && !(f.slot k).revoked && keyHash key == (f.slot k).hash

/-- The records of an area (R82), or the offset in the image of a framing error. -/
def frameRecs (area : List Byte) : Nat → Nat → List Rec → Except Nat (List Rec)
  | 0, _, acc => .ok acc.reverse
  | fuel + 1, o, acc =>
    if area.length ≤ o then .ok acc.reverse
    else
      let b := area.drop o
      let n := fieldLE b 2 4
      let m := (6 + n + 7) / 8 * 8
      if b.length < m || !allZero (slice b (6 + n) (m - 6 - n)) then .error (4096 + o)
      else frameRecs area fuel (o + m) (⟨fieldLE b 0 2, 4096 + o, slice b 6 n⟩ :: acc)

/-- The first failure of the records that order 9 covers. -/
def Almanac.first9 (a : Almanac) : Option RecFail := firstFail (a.subject1 ++ a.subject2 ++ a.subject3 ++ a.subject14)

/-- Orders 2 to 9 (R85) of the image in a slot. Bytes written without an erase, or left by a failed or cut operation, fail
order 6 (R95). -/
def State.checkImage (s : State) (slot : Nat) : SlotCheck :=
  let base := s.slotBase slot
  let h := s.flashRead base 4096
  let len := fieldLE h 0x1C 4
  let seq := fieldLE h 0xC 4
  let key := slice h 0x40 32
  let vbit := if s.isZ73 then 1 else 0
  let spoiled := s.flash.spoiled.any fun k => decide (base / 65536 ≤ k) && decide (k < (base + s.slotSize) / 65536)
  if !headerAccepted h s.slotSize then { order := 2, status := 0x14 }
  else if !bitOf (fieldLE h 0x14 1) vbit || 0xB1 < fieldLE h 0x15 1 then { order := 3, status := 0x18, seq := seq }
  else if fieldLE h 0x10 1 < s.fuses.rollback then { order := 4, status := 0x16, seq := seq }
  else if !keyAccepted s.fuses (fieldLE h 0x12 1) key then { order := 5, status := 0x15, seq := seq }
  else
    let signed := s.flashRead base (4096 + len)
    let sig := s.flashRead (base + 4096 + len) 256
    let digest := slice sig 8 64
    if spoiled || slice sig 0 8 != sigMagic || !allZero (slice sig 0x88 120) || sha512 signed != digest
        || !ed25519Verify key digest (slice sig 0x48 64) then { order := 6, status := 0x06, seq := seq }
    else match frameRecs (signed.drop 4096) (len / 8 + 1) 0 [] with
    | .error o => { order := 7, status := 0x17, offset := o, seq := seq }
    | .ok recs =>
      if recs.length ≠ fieldLE h 0x20 4 then { order := 7, status := 0x17, seq := seq }
      else match recs.find? (fun r => r.type < 0x100 || 0x0F00 ≤ r.type) with
      | some r => { order := 8, status := 0x17, offset := r.offset, seq := seq }
      | none =>
        let a : Almanac := ⟨s.isZ73, s.fuses, 4096 + len, recs⟩
        match a.first9 with
        | some f => { order := 9, status := f.2.2, offset := f.1, seq := seq }
        | none =>
          let fw := a.first 0x0102
          { order := 0, status := 0, seq := seq, recs := recs
            image := some ⟨seq, fieldLE h 0x10 1, bitOf (fieldLE h 0x11 1) 0, fieldLE h 0x12 1, BitVec.ofNat 64 (fieldLE h 0x60 8),
              digest, fieldLE fw 96 4, fieldLE fw 100 4, sha512 (fw.drop 96)⟩ }

/-- R85 with a flash read that fails at an order (order 1): it decides the slot where it was needed. -/
def State.checkSlot (s : State) (slot : Nat) (fail : Option Nat) : SlotCheck :=
  let c := s.checkImage slot
  match fail with
  | none => c
  | some k =>
    if k ≤ 2 then { order := 1, status := 0x1A }
    else if c.order = 0 || (k ≤ c.order && c.order ≠ 2) then { order := 1, status := 0x1A, seq := c.seq } else c

/-- A slot's check as its registers show it. -/
def SlotCheck.stat (c : SlotCheck) : SlotStat := ⟨c.status, c.order == 0, c.seq⟩

/-! ## Discovery and selection (R77, R85 to R87) -/

/-- Discovery succeeded: CS0 is there with a supported density and the table, CS1 absent or equal (R76, R77). -/
def discovered (cs0 cs1 : Option FlashDev) : Bool :=
  match cs0 with
  | none => false
  | some d => [512, 1024, 2048].contains d.density && d.profile && (match cs1 with
    | none => true
    | some e => e.density == d.density && e.profile)

/-- Event 0x1001 for both slots. -/
def State.postSlots (s : State) : State :=
  (s.postEvent 0x1001 (items [0, s.boot.slotA.status])).postEvent 0x1001 (items [1, s.boot.slotB.status])

/-- Discovery ends (R77). A failure leaves LAST_STATUS at 0 (log 136). -/
def discoveryDone (cs0 cs1 : Option FlashDev) (s : State) : State :=
  if (s.boot.state != .load && s.boot.state != .recovery) || s.flash.ok || s.boot.flashError then s
  else
    let s1 := { s with flash := { s.flash with
      devices := b2n cs0.isSome + b2n cs1.isSome, density := cs0.elim 0 (·.density), ok := discovered cs0 cs1 } }
    if s1.flash.ok then s1
    else
      let s2 := { s1 with boot := { s1.boot with flashError := true, slotA := { status := 0x1A }, slotB := { status := 0x1A } } }
      if s.boot.state == .load then s2.postSlots.enterRecovery 2 else s2

def execFlashDiscoveryDone (cs0 cs1 : Option FlashDev) (s : State) : Host.Outcome State Fault Refusal :=
  .next (discoveryDone cs0 cs1 s)

/-- The log's pointer is the page after the entry with the highest SEQ (R97). -/
def State.findLog (s : State) : State :=
  match newestEntry s.logEntries with
  | some e =>
    { s with log := { s.log with found := true, ptr := (e.page + 1) % 32768, seq := (e.seq + 1) % 2 ^ 32 } }.eraseAhead
  | none => s

/-- The latest recorded (count, credit) of each chain (R98). -/
def recordedCounts (l : List LogEntry) : Tab (Nat × Nat) :=
  (sortBy (·.seq) (l.filter (·.type == 2))).foldl (fun t e =>
    (List.range (Nat.min 32 (fieldLE e.payload 2 2))).foldl (fun t i =>
      let n := Nat.min 32 (fieldLE e.payload 2 2)
      Tab.put t (fieldLE e.payload 0 2 + i) (fieldLE e.payload (4 + 4 * i) 4, fieldLE e.payload (4 + 4 * n + 3 * i) 3 % 2 ^ 18)) t) []

/-- A chain's count is restored: the recorded credit and 7,500 are added, with the milestones of 06 R157. -/
def State.restoreCount (s : State) (i count credit : Nat) : State :=
  let n := Nat.min (count + credit + 7500) (2 ^ 32 - 1)
  let s1 := s.modChain i fun x => { x with count := n, freezeDue := decide (count < 1000000000) && decide (1000000000 ≤ n) }
  if count / 100000000 < n / 100000000 then s1.postEvent 0x4007 (items [i, n]) else s1

/-- The counts of the image's chains, restored and then written once (R98). -/
def State.restoreCounts (s : State) : State :=
  let t := recordedCounts s.logEntries
  let s1 := (s.allChains.filter (fun i => Tab.has t i)).foldl (fun s i =>
    let e := Tab.getD t i (0, 0)
    s.restoreCount i e.1 e.2) s
  s1.writeCounts

/-- The selected image: its records are checked subject by subject (R87), the rejections recorded, counted (01 R39) and posted in order, and
the accepted records applied; domain 4 moves to ROOT (R75 step 12). -/
def State.takeImage (s : State) (slot : Nat) (c : SlotCheck) : State :=
  let fin := 4096 + fieldLE (s.flashRead (s.slotBase slot) 4096) 0x1C 4
  let rej : List (Nat × RecFail) := (⟨s.isZ73, s.fuses, fin, c.recs⟩ : Almanac).rejections
  let s1 := { s with boot := { s.boot with
    state := .configure, active := some slot, image := c.image, records := c.recs, rejected := rej.map (fun (e : Nat × RecFail) => e.1) } }
  let s2 := rej.foldl (fun (s : State) (e : Nat × RecFail) => (s.countReject 1).postEvent 0x1002 (items [e.2.2.1, e.2.2.2, e.2.1])) s1
  let s3 := match rej with
    | [] => s2
    | e :: _ => (s2.setR 0x18 (e.2.2.1 + e.2.2.2 * 65536)).setR 0x1C e.2.1
  (if s3.boot.rootReady then s3.setSource 4 true else s3).applyRecords

/-- The status of an order of R85. -/
def orderStatus (k : Nat) : Nat := [0x00, 0x1A, 0x14, 0x18, 0x16, 0x15, 0x06, 0x17, 0x17, 0x19].getD k 0x1A

/-- A slot whose image, once selected, fails an order at its second reading becomes invalid (R86). -/
def SlotCheck.reread (c : SlotCheck) (second : Option Nat) : SlotCheck :=
  match second with
  | none => c
  | some k => { order := Nat.max k 1, status := orderStatus k, seq := c.seq }

/-- Of two slots the one selected (R86): the valid one with the higher SEQUENCE, A on a tie. -/
def selectSlot (a b : SlotCheck) : Option Nat :=
  if a.order = 0 && (b.order ≠ 0 || b.seq ≤ a.seq) then some 0 else if b.order = 0 then some 1 else none

/-- A record that the checks of orders 8 and 9 refuse is counted (01 R39). -/
def State.countSlot (s : State) (c : SlotCheck) : State := if 8 ≤ c.order then s.countReject 1 else s

/-- The checks of both slots end (R85, R86): the slot selected is read again, and where that reading fails it is invalid and
the other is considered in the same way; without a valid one RECOVERY. -/
def imageChecked (readA readB : SlotReads) (s : State) : State :=
  if s.boot.state != .load || !s.flash.ok then s
  else
    let a0 := s.checkSlot 0 readA.first
    let b0 := s.checkSlot 1 readB.first
    let again := fun (p : SlotCheck × SlotCheck) => match selectSlot p.1 p.2 with
      | some 0 => (p.1.reread readA.second, p.2)
      | some _ => (p.1, p.2.reread readB.second)
      | none => p
    let (a, b) := again (again (a0, b0))
    let s1 := (s.findLog.restoreCounts.countSlot a).countSlot b
    let s2 := { s1 with boot := { s1.boot with slotA := a.stat, slotB := b.stat } }
    let last := fun (s : State) (v : Nat) => { s with boot := { s.boot with lastStatus := v } }
    match selectSlot a b with
    | some 0 => (last s2 0).takeImage 0 a
    | some _ => (last s2 0).takeImage 1 b
    | none => (last s2 b.status).postSlots.enterRecovery 1

def execImageCheckDone (readA readB : SlotReads) (s : State) : Host.Outcome State Fault Refusal :=
  .next (imageChecked readA readB s)

/-! ## RUN, HOLD and RECOVERY (R73) -/

/-- RUN is entered: a log region without a valid entry is erased whole once (R97), and the first commit is armed. -/
def State.enterRun (s : State) : State :=
  let s1 := { s with boot := { s.boot with state := .run } }
  let s2 := if s1.flash.ok && !s1.log.found && !s1.log.erasing then
      (List.range 128).foldl (fun s k => s.queueLogOp (.logErase k)) { s1 with log := { s1.log with erasing := true } }
    else s1
  s2.armBoot

/-- All subjects are applied (R73): units whose clocks run are configured; BOOTMODE 0b01 waits in HOLD. -/
def configured (s : State) : State :=
  if s.boot.state != .configure then s
  else
    let s1 := { s with boot := { s.boot with state := .hold, holdFrom := s.elapsed } }
    let s2 := ((List.range 25).foldl (fun s u => s.rejoin (unitOf u)) s1).meshStart.meshLink
    if s.boot.bootmode = 1 then s2 else s2.enterRun

def execConfigureDone (s : State) : Host.Outcome State Fault Refusal := .next (configured s)

/-- RELEASE written with 1: it leaves HOLD, and is ignored in other states. -/
def bootRelease (r : Requester) (s : State) : State :=
  s.access r 0xC fun s => if s.boot.state == .hold then s.enterRun else s

def execBootReleaseWrite (r : Requester) (s : State) : Host.Outcome State Fault Refusal := .next (bootRelease r s)

/-- HOLD_TIMEOUT of record 0x0101, in seconds. -/
def State.holdTimeout (s : State) : Nat := fieldLE (s.recBytes 0x0101) 0 2

/-- The hold timeout expires: event 0x1004. -/
def holdExpires (s : State) : State :=
  if s.boot.state != .hold || s.elapsed < s.boot.holdFrom + ms (1000 * s.holdTimeout) then s
  else (s.postEvent 0x1004 (items [s.holdTimeout])).enterRun

def execBootHoldTimeout (s : State) : Host.Outcome State Fault Refusal := .next (holdExpires s)

/-- 600 s in RECOVERY without an Almanac command reset the device. -/
def recoveryExpires (s : State) : State :=
  if s.boot.state != .recovery || s.elapsed < s.boot.almFrom + ms 600000 then s else s.softReset

def execRecoveryTimeout (s : State) : Host.Outcome State Fault Refusal := .next (recoveryExpires s)

/-- The reset key resets the device in RUN, HOLD and RECOVERY; any other value has no effect. -/
def resetKey (r : Requester) (v : Word) (s : State) : State :=
  s.access r 0x10 fun s =>
    if v = 0x7A110001#32 && (s.boot.state == .run || s.boot.state == .hold || s.boot.state == .recovery) then s.softReset else s

def execDeviceResetKeyWrite (r : Requester) (v : Word) (s : State) : Host.Outcome State Fault Refusal := .next (resetKey r v s)

/-! ## Almanac commands (R93 to R95) -/

/-- An Almanac command of the PF. -/
def Cmd.almanac (c : Cmd) : Bool := c.fn == 0 && decide (0x0110 ≤ c.opcode) && decide (c.opcode ≤ 0x0114)

/-- An Almanac command runs, or one fetched earlier waits (R94). -/
def State.almBusy (s : State) (tag : Nat) : Bool :=
  s.boot.almRunning.isSome || ((s.host.cmds.takeWhile (fun c => !(c.fn == 0 && c.tag == tag && c.stage != .completed))).any fun c =>
    c.almanac && c.stage != .completed)

/-- An Almanac command: only of the PF, one at a time in the order fetched (R94); RECOVERY's 600 s start anew. -/
def State.almCmd (s : State) (fn tag opcode : Nat) (act : Cmd → State → State) : State :=
  if fn = 0 && s.almBusy tag then s
  else s.runCmd fn tag opcode byPF neverGated fun c s => act c { s with boot := { s.boot with almFrom := s.elapsed } }

/-- A slot is writable unless it holds the running image; in RECOVERY both are (R94). -/
def State.slotWritable (s : State) (slot : Nat) : Bool := s.boot.state == .recovery || s.boot.active != some slot

/-- The head that runs belongs to the flash medium from its start (16 R474). -/
def State.almMark (s : State) : State :=
  match s.boot.almRunning, s.flash.ops with
  | some (f, t), .program .. :: _ => s.reached f t 2
  | some (f, t), .erase .. :: _ => s.reached f t 2
  | _, _ => s

/-- Start an Almanac command's flash work. -/
def State.almStart (s : State) (c : Cmd) (ops : List FlashOp) : State :=
  let s1 := s.takeUp c.fn c.tag
  let s2 := { s1 with boot := { s1.boot with almRunning := some (c.fn, c.tag) } }
  (ops.foldl (fun s o => s.queueFlashOp o) s2).almMark

/-- ALM_SLOT_ERASE: its sectors one by one (R79). -/
def slotErase (fn tag : Nat) (s : State) : State :=
  s.almCmd fn tag 0x0110 fun c s =>
    let slot := c.b 16
    let off := c.le 20 4
    let len := c.le 24 4
    if !c.reservedOk [(16, 1), (20, 4), (24, 4)] || 1 < slot || !s.slotWritable slot || off % 65536 ≠ 0 || len % 65536 ≠ 0 || len = 0
        || s.slotSize < off + len then s.complete fn tag 0x02
    else if !s.flash.ok then s.complete fn tag 0x1A
    else s.almStart c ((List.range (len / 65536)).map fun i => .erase ((s.slotBase slot + off) / 65536 + i))

def execAlmSlotErase (fn tag : Nat) (s : State) : Host.Outcome State Fault Refusal := .next (slotErase fn tag s)

/-- ALM_SLOT_WRITE: its pages one by one. -/
def slotWrite (fn tag : Nat) (data : HostData) (s : State) : State :=
  s.almCmd fn tag 0x0111 fun c s =>
    let slot := c.b 16
    let off := c.le 20 4
    let len := c.le 24 4
    if !c.reservedOk [(16, 1), (20, 4), (24, 4), (32, 8)] || 1 < slot || !s.slotWritable slot || off % 256 ≠ 0 || len % 256 ≠ 0
        || len = 0 || 65536 < len || s.slotSize < off + len then s.complete fn tag 0x02
    else if !s.flash.ok then s.complete fn tag 0x1A
    else match data with
    | none => s.complete fn tag 0x6E
    | some d => s.almStart c ((List.range (len / 256)).map fun i => .program (s.slotBase slot + off + 256 * i) (slice d (256 * i) 256))

def execAlmSlotWrite (fn tag : Nat) (data : HostData) (s : State) : Host.Outcome State Fault Refusal :=
  .next (slotWrite fn tag data s)

/-- ALM_SLOT_VERIFY. -/
def slotVerify (fn tag : Nat) (s : State) : State :=
  s.almCmd fn tag 0x0112 fun c s =>
    if !c.reservedOk [(16, 1)] || 1 < c.b 16 then s.complete fn tag 0x02
    else if !s.flash.ok then s.complete fn tag 0x1A
    else s.almStart c [.verify (c.b 16)]

def execAlmSlotVerify (fn tag : Nat) (s : State) : Host.Outcome State Fault Refusal := .next (slotVerify fn tag s)

/-- LOG_READ. -/
def logReads (fn tag : Nat) (s : State) : State :=
  s.almCmd fn tag 0x0114 fun c s =>
    if !c.reservedOk [(16, 4), (20, 4), (32, 8)] || 32767 < c.le 16 4 || c.le 20 4 = 0 || 256 < c.le 20 4 then s.complete fn tag 0x02
    else if !s.flash.ok then s.complete fn tag 0x1A
    else s.almStart c [.logRead (c.le 16 4) (c.le 20 4)]

def execLogRead (fn tag : Nat) (s : State) : Host.Outcome State Fault Refusal := .next (logReads fn tag s)

/-- KEY_STATE: per customer slot PROGRAMMED and REVOKED. -/
def Fuses.keyState (f : Fuses) : Nat :=
  ((List.range 4).map fun i => (b2n (f.slot (i + 1)).programmed + 2 * b2n (f.slot (i + 1)).revoked) * 4 ^ i).sum

/-- GCTL_BOOT_STATUS.STATE (R73). -/
def BootState.code : BootState → Nat
  | .reset => 0 | .qualify => 1 | .load => 2 | .configure => 3 | .hold => 4 | .run => 5 | .recovery => 6

/-- The attestation report without its signature (R93). -/
def State.attestBody (s : State) (nonce : List Byte) : List Byte :=
  let z := fun (f : Image → List Byte) (n : Nat) => s.boot.image.elim (List.replicate n 0#8) f
  [0x5A#8, 0x37#8, 0x41#8, 0x54#8] ++ leBytes 2 1 ++ leBytes 2 0x120 ++ leBytes 1 (b2n s.isZ73) ++ leBytes 1 0xB1
    ++ leBytes 1 s.fuses.rollback ++ leBytes 1 s.fuses.keyState ++ leBytes 1 (s.boot.active.getD 0xFF)
    ++ leBytes 1 (s.boot.image.elim 0xFF (·.keyIndex))
    ++ leBytes 1 (s.boot.bootmode.toNat + 4 * b2n s.fuses.debugLock + 8 * s.boot.state.code) ++ leBytes 1 0
    ++ z (fun i => leBytes 4 i.sequence) 4 ++ z (fun i => leBytes 4 i.fwVersion) 4 ++ leBytes 8 s.stamp.toNat ++ nonce
    ++ ed25519Public s.fuses.idSeed ++ z (fun i => slice i.digest 0 64) 64 ++ z (fun i => slice i.fwDigest 0 64) 64

/-- ATTEST: the report signed over the SHA-512 of its first 224 bytes. -/
def attest (fn tag : Nat) (s : State) : State :=
  s.almCmd fn tag 0x0113 fun c s =>
    if !c.reservedOk [(16, 32), (48, 8)] then s.complete fn tag 0x02
    else
      let b := s.attestBody (c.bytes 16 32)
      (s.writeHost fn (c.le 48 8) (b ++ ed25519Sign s.fuses.idSeed (sha512 b))).complete fn tag 0x00

def execAttest (fn tag : Nat) (s : State) : Host.Outcome State Fault Refusal := .next (attest fn tag s)

/-! ## Flash accesses (R77, R79, R95, R97, R99) -/

/-- Complete the Almanac command that runs. -/
def State.almDone (s : State) (status result : Nat) : State :=
  match s.boot.almRunning with
  | some (f, t) => ({ s with boot := { s.boot with almRunning := none } }).complete f t status result
  | none => s

/-- ALM_SLOT_VERIFY's result (R94): the first failing status with the image offset of the failing record. -/
def State.verifyResult (s : State) (slot : Nat) : Nat × Nat :=
  let c := s.checkSlot slot none
  if c.order ≠ 0 then (c.status, c.offset)
  else
    let fin := 4096 + fieldLE (s.flashRead (s.slotBase slot) 4096) 0x1C 4
    match (⟨s.isZ73, s.fuses, fin, c.recs⟩ : Almanac).rejections with
    | e :: _ => (e.2.2.2, e.2.1)
    | [] => (0, 0)

/-- The region of the log has been erased whole: the pointer starts at page 0 (R97); the first SEQ is 0 (log 135). -/
def State.logErased (s : State) : State :=
  if s.log.erasing && !(s.flash.ops.any fun o => match o with | .logErase _ => true | _ => false) then
    { s with log := { s.log with found := true, erasing := false, ptr := 0, seq := 0 } }
  else s

/-- An Almanac erase or write whose accesses are all done completes OK. -/
def State.almProgress (s : State) : State :=
  if s.flash.ops.all FlashOp.ofLog then s.almDone 0x00 0 else s

/-- The effect of an access that succeeded. -/
def State.flashEffect (s : State) : FlashOp → State
  | .program a d => (s.flashProgram a d).almProgress
  | .erase k => (s.flashErase k).almProgress
  | .logEntry t p _ => s.logProgram t p
  | .logErase k => (s.flashErase (s.logBase / 65536 + k)).logErased
  | .logRead pg n =>
    let bytes := (List.range n).flatMap fun i => s.flashRead (s.logBase + 256 * ((pg + i) % 32768)) 256
    let addr := ((s.boot.almRunning.bind fun (f, t) => s.cmd? f t).map (fun c => c.le 32 8)).getD 0
    (s.writeHost 0 addr bytes).almDone 0x00 0
  | .verify slot => s.almDone (s.verifyResult slot).1 (s.verifyResult slot).2

/-- The log is unavailable until the next boot (R99): no tuner's credit grows any more (R98). -/
def State.logDown (s : State) : State :=
  let s1 := s.postEvent 0x1007 (items [s.log.ptr, 0x1A])
  { s1 with
    log := { s1.log with down := true, creditStop := true, erasing := false }
    flash := { s1.flash with ops := s1.flash.ops.filter (fun o => !o.ofLog) } }

/-- The accesses of the Almanac command that still wait are dropped. -/
def State.almDrop (s : State) : State := { s with flash := { s.flash with ops := s.flash.ops.filter FlashOp.ofLog } }

/-- The effect of an access that timed out (R77, R95, R99): an Almanac command ends with FLASH_ERROR and leaves its slot
invalid; a log entry is tried once more at the next page. -/
def State.flashFailed (s : State) : FlashOp → State
  | .program a _ => ((s.almDrop.freePage a).spoil (a / 65536)).almDone 0x1A 0
  | .erase k => (s.almDrop.flashScramble k).almDone 0x1A 0
  | .logEntry t p again =>
    let s1 := s.freePage (s.logBase + 256 * s.log.ptr)
    let s2 := if t = 2 then { s1 with log := { s1.log with creditStop := true } } else s1
    if again then s2.logDown
    else
      let s3 := s2.logAdvance
      { s3 with flash := { s3.flash with ops := .logEntry t p true :: s3.flash.ops } }
  | .logErase k => (s.flashScramble (s.logBase / 65536 + k)).logErased
  | .logRead _ _ => s.almDone 0x1A 0
  | .verify _ => s.almDone 0x1A 0

/-- The access that runs ends one way or the other where it may, and the next runs (R79). -/
def State.flashEnd (s : State) (may : FlashOp → Bool) (effect : State → FlashOp → State) : State :=
  if !s.flash.running then s
  else match s.flash.ops with
  | [] => s
  | o :: rest =>
    if may o then (effect { s with flash := { s.flash with ops := rest, running := false } } o).flashKick.almMark else s

/-- A flash access ends: a program or an erase before its timeout (R77). -/
def flashDone (s : State) : State :=
  s.flashEnd (fun o => !o.whole || decide (s.elapsed < s.flash.since + o.limit)) State.flashEffect
def execFlashOpDone (s : State) : Host.Outcome State Fault Refusal := .next (flashDone s)

/-- A flash access, or a burst of a read, passes its timeout (R77). -/
def flashTimeout (s : State) : State :=
  s.flashEnd (fun o => decide (s.flash.since + o.limit ≤ s.elapsed)) State.flashFailed
def execFlashOpTimeout (s : State) : Host.Outcome State Fault Refusal := .next (flashTimeout s)

/-- Every 3,600 s of FR the counts are written once they have been restored, in RECOVERY too (R98). -/
def countTimer (s : State) : State :=
  if [BootState.reset, .qualify, .load].contains s.boot.state || s.frNs < s.log.countsFrom + 3600000000000 then s
  else
    let s1 := s.writeCounts
    { s1 with log := { s1.log with countsFrom := s.log.countsFrom + 3600000000000 } }

def execTunerCountWriteTimer (s : State) : Host.Outcome State Fault Refusal := .next (countTimer s)

/-- Every 3,600 s of FR each tuner's credit grows by 7,500, up to 180,000, while the log takes its counts (05 R149). -/
def creditTimer (s : State) : State :=
  if s.frNs < s.log.creditFrom + 3600000000000 then s
  else
    let s1 := { s with log := { s.log with creditFrom := s.log.creditFrom + 3600000000000 } }
    if s.log.creditStop then s1
    else s1.allChains.foldl (fun s i => s.modChain i fun x => { x with credit := Nat.min 180000 (x.credit + 7500) }) s1

def execTunerCreditTimer (s : State) : Host.Outcome State Fault Refusal := .next (creditTimer s)

end Sys2Proof.Machine
end

