-- ==== Sys2Proof/Machine/Const.lean ====
section
/-! DEFINITION. The rows of the constellation (09). -/

namespace Sys2Proof.Machine

/-- SEQ in [NT − 2 s, NT + 2 s) and after every SEQ accepted from the sender (R245 order 4), compared as 00 R14 says. -/
def State.seqOk (s : State) (m seq : Nat) : Bool :=
  let n := s.nt64.toNat
  notEarlier (seq + 2000000000) n && later (n + 2000000000) seq
    && (match (s.member m).lastSeq with | some p => later seq p | none => true)

/-- An accepted SEQ of a sender (R245 order 4): the latest is kept. -/
def State.acceptSeq (s : State) (m seq : Nat) : State :=
  s.modMember m fun x => { x with lastSeq := match x.lastSeq with | some p => if later seq p then some seq else some p | none => some seq }

/-- HELLO_PERIOD in IDLE with participation allowed and no LEFT (R248): a HELLO is sent. -/
def helloTimer (m : Nat) (s : State) : State :=
  let x := s.member m
  if !(s.memberIds.contains m) || x.session != .idle || !s.cstMayJoin || s.cst.left
      || s.elapsed < x.tried + ms (fieldLE s.cstRec 11 1 * 100) then s
  else
    let (nonce, s1) := s.draw32
    let (eph, s2) := s1.draw32
    let s3 := s2.modMember m fun x => { x with session := .joining, tried := s.elapsed, nonce := nonce, eph := eph }
    s3.cstSend m (s3.helloMsg 1 m nonce (x25519Public eph) (List.replicate 32 0))

def execHelloPeriodTimer (m : Nat) (s : State) : Host.Outcome State Fault Refusal := .next (helloTimer m s)

/-- The checks of R245 on a HELLO or HELLO_ACK, with the ranges of R244 (01 R36) in the first: the status of the first that
fails. LEFT turns a HELLO away beside the fifth (R248). -/
def State.helloCheck (s : State) (type : Nat) (b : List Byte) : Option Nat :=
  let m := fieldLE b 6 1
  if !(s.headerOk b) || fieldLE b 5 1 ≠ type || b.length ≠ 224 || fieldLE b 0x9A 6 ≠ 0
      || (fieldLE b 0x99 1 ≠ 2 && fieldLE b 0x99 1 ≠ 3) || (type = 1 && fieldLE b 0x78 32 ≠ 0) then some 0x4D
  else if (sha512 (slice b 0x58 32)).take 32 ≠ slice ((s.memberRec m).getD []) 4 32 then some 0x06
  else if !(ed25519Verify (slice b 0x58 32) (sha512 (b.take 160)) (slice b 0xA0 64)) then some 0x06
  else if !(s.seqOk m (fieldLE b 0x10 8)) then some 0x4A
  else if !s.cstMayJoin || (type = 1 && s.cst.left) then some 0x48
  else if type = 2 && ((s.member m).session != .joining || slice b 0x78 32 ≠ (s.member m).nonce) then some 0x4A
  else none

/-- Reject a message of the wire by its sender, where the sender is a member. -/
def State.rejectMsg (s : State) (b : List Byte) (status : Nat) : State :=
  let m := fieldLE b 6 1
  s.cstReject m (fieldLE b 5 1) status (s.memberIds.contains m && decide (24 ≤ b.length))

/-- A HELLO (R245, R246, R248): accepted, it is answered and opens or replaces the session; in JOINING one from a higher
index is discarded. -/
def helloIn (b : List Byte) (s0 : State) : State :=
  let m := fieldLE b 6 1
  let s := s0.cstHeard b
  match s.helloCheck 1 b with
  | some st => s.rejectMsg b st
  | none =>
    if (s.member m).session == .joining && decide (s.cstOwn < m) then
      s.acceptSeq m (fieldLE b 0x10 8)
    else
      let (nonce, s1) := s.draw32
      let (eph, s2) := s1.draw32
      let s3 := s2.cstSend m (s2.helloMsg 2 m nonce (x25519Public eph) (slice b 0x18 32))
      let z := x25519 eph (slice b 0x38 32)
      s3.sessionUp m (cstKey z (slice b 0x18 32) nonce s.cstOwn m) (cstKey z (slice b 0x18 32) nonce m s.cstOwn)
        (fieldLE b 0x10 8)

def execHelloRx (msg : List Byte) (s : State) : Host.Outcome State Fault Refusal := .next (helloIn msg s)

/-- A HELLO_ACK (R245, R246, R248). -/
def helloAckIn (b : List Byte) (s0 : State) : State :=
  let m := fieldLE b 6 1
  let s := s0.cstHeard b
  match s.helloCheck 2 b with
  | some st => s.rejectMsg b st
  | none =>
    let x := s.member m
    let z := x25519 x.eph (slice b 0x38 32)
    s.sessionUp m (cstKey z x.nonce (slice b 0x18 32) s.cstOwn m) (cstKey z x.nonce (slice b 0x18 32) m s.cstOwn)
      (fieldLE b 0x10 8)

def execHelloAckRx (msg : List Byte) (s : State) : Host.Outcome State Fault Refusal := .next (helloAckIn msg s)

/-- 100 ms in JOINING without an accepted HELLO_ACK: a join time-out is counted (R248; log 78). -/
def joinTimer (m : Nat) (s : State) : State :=
  let x := s.member m
  if x.session != .joining || s.elapsed < x.tried + ms 100 then s
  else
    let s1 := s.modMember m fun x => { x with session := .idle, eph := [], nonce := [] }
    { s1 with cst := { s1.cst with joinTimeouts := s1.cst.joinTimeouts + 1 } }

def execJoinTimeout (m : Nat) (s : State) : Host.Outcome State Fault Refusal := .next (joinTimer m s)

/-! ## Digests -/

/-- The users of a digest entry (R249): the downlink users, or every user whose trigger solicits the TB response, each once. -/
def Ppdu.digestUsers (p : Ppdu) (up : Bool) : List PlanUser :=
  if !up then p.users.filter (·.down)
  else p.users.filter fun u => !u.down || (p.kind ≠ 6 && !(p.users.any fun v => !v.down && v.sid == u.sid))

/-- The bytes of a digest entry (R251); what the plan leaves free stays free. -/
def entryBytes (sf id : Nat) (p : Ppdu) (up : Bool) : List Byte :=
  let v := (Config.freeOf 8 [0x0251, id]).toNat
  let users := p.digestUsers up
  let start := if up then p.te - sf else p.launch - sf
  let dur := (if up then p.tbDur else p.dlDur) / 250
  let kind := if up then 1 + 2 * (v % 2) + 4 * (v / 2 % 3) + 16 * (v / 8 % 5) else 2 * (v % 2)
  leBytes 4 start ++ leBytes 2 dur ++ leBytes 1 kind ++ leBytes 1 users.length ++ users.flatMap fun u =>
    let nss := Nat.min 4 (Nat.max 1 u.ss)
    leBytes 2 (u.sid % 8192) ++ leBytes 2 (u.ru % 512 + 512 * (nss - 1)
      + 4096 * ((Config.freeOf 8 [0x0252, id, u.sid]).toNat % (Nat.min 8 (9 - nss))))

/-- What the digest for S may list of a radio under the plan of the governing bank: (radio, START, bytes), in order (R249,
R252). -/
def State.digestAll (s : State) (sf : Nat) (staged : Bool) (r : Nat) : List (Nat × Nat × List Byte) :=
  let ps := s.mac.plan.filter fun e => e.2.sf == sf && e.2.radio == r && (e.2.staged == staged || !(s.mac.dual.contains r))
  let es := ps.flatMap fun e =>
    let dl := if (e.2.kind == 4 || e.2.kind == 5) && e.2.users.any (·.down) then
      [(r, e.2.launch - sf, entryBytes sf e.1 e.2 false)] else []
    let ul := if e.2.te ≠ 0 && !(e.2.digestUsers true).isEmpty then [(r, e.2.te - sf, entryBytes sf e.1 e.2 true)] else []
    dl ++ ul
  sortBy (fun x => x.2.1) es

/-- Entries of the digest for S: of each radio the first DIGEST_MAX. -/
def State.digestEntries (s : State) (sf : Nat) (staged : Bool) : List (Nat × Nat × List Byte) :=
  (List.range 3).flatMap fun r => (s.digestAll sf staged r).take (fieldLE s.cstRec 22 2)

/-- How many entries of a radio DIGEST_MAX drops. -/
def State.digestCut (s : State) (sf : Nat) (staged : Bool) (r : Nat) : Nat :=
  (s.digestAll sf staged r).length - fieldLE s.cstRec 22 2

/-- Pack whole entries into parts (R252): each part lists blocks of (radio, entries, bytes). `room` is what is left. -/
def packParts (size : Nat) : List (Nat × Nat × List Byte) → List (Nat × Nat × List Byte) → Nat → Bool →
    List (List (Nat × Nat × List Byte))
  | [], cur, _, _ => [cur]
  | e :: es, cur, used, first =>
    let sameRadio := match cur.getLast? with | some b => b.1 == e.1 | none => false
    let need := e.2.2.length + (if sameRadio then 0 else 8)
    if used + need ≤ size || cur.isEmpty then
      let cur' := if sameRadio then
          cur.dropLast ++ (match cur.getLast? with | some b => [(b.1, b.2.1 + 1, b.2.2 ++ e.2.2)] | none => [])
        else cur ++ [(e.1, 1, e.2.2)]
      packParts size es cur' (used + need) first
    else cur :: packParts size es [(e.1, 1, e.2.2)] (24 + 8 + 16 + 8 + e.2.2.length) false

/-- An 8-byte radio header (R250). -/
def State.radioHeader (s : State) (r n : Nat) (staged : Bool) : List Byte :=
  let w := if staged then s.sreg (bbBase r + 4) else s.reg (bbBase r + 4)
  let p := if staged then s.sreg (bbBase r + 8) else s.reg (bbBase r + 8)
  leBytes 1 r ++ leBytes 1 (bitsOf w.toNat 18 16) ++ leBytes 1 (bitsOf w.toNat 7 0) ++ leBytes 1 (bitsOf w.toNat 15 8)
    ++ leBytes 2 (p.toNat % 65536) ++ leBytes 2 n

/-- A pending commit that changes the superframe length (R257): its target and length code. -/
def State.lenCommit (s : State) : Option (Nat × Nat) :=
  if s.commitPending && s.commit.newLen ≠ s.grid.sfLen then some (s.commit.target, s.commit.newLen) else none

/-- The latest superframe for which part 0 was both sent to a member and received from it (R250). -/
def CstMember.echo (x : CstMember) : Nat × Nat × Nat :=
  (x.tx.filterMap (fun e => (Tab.get? x.rx e.1).map (fun r => (e.1, e.2, r)))).foldl (fun m e => if m.1 < e.1 then e else m) (0, 0, 0)

/-- A digest for S may go to a member: within a session SEQ increases strictly (R247), even after a backward step of NT. -/
def CstMember.newSeq (x : CstMember) (S : Nat) : Bool := match x.sentSeq with | some p => later S p | none => true

/-- At S − 2 ms the digest of the governing plan is sent to every ACTIVE member (R247, R249, R252, R256). Event 0x7006 carries the first
radio that lost entries and how many it lost (log 171). -/
def sendDigest (s : State) : State :=
  let S := s.nextBoundary
  if !s.ntValid || s.cst.sentFor = S || s.ntNs + 2000000 < S || s.cstActive.isEmpty then s
  else if s.stepArmedFor S then { s with cst := { s.cst with sentFor := S } }
  else
    let gov := s.commit.state == .committed && s.commit.target == S
    let es := s.digestEntries S gov
    let size := fieldLE s.cstRec 20 2
    let all := packParts size es [] (24 + 8 + 40 + 16) true
    let parts := all.take 16
    let kept := (parts.flatMap (fun p => p.map (·.2.1))).sum
    let cuts := (List.range 3).map fun r => (r, s.digestCut S gov r)
    let trunc := decide (kept < es.length) || cuts.any (fun c => c.2 != 0)
    let lc := s.lenCommit
    let flags := b2n (s.time.state == .holdover) + 2 * b2n trunc + 4 * b2n lc.isSome
    let s1 := (s.cstActive.filter (fun m => (s.member m).newSeq S)).foldl (fun s m =>
      let s := s.modMember m fun x => { x with sentSeq := some (S % 2 ^ 64) }
      let (eS, eTx, eRx) := (s.member m).echo
      let cell := leBytes 1 (if gov then s.commit.newLen else s.grid.sfLen) ++ leBytes 1 (if gov then s.commit.newMode else s.grid.mode)
        ++ leBytes 1 flags ++ leBytes 1 (lc.elim 0 (·.2)) ++ leBytes 4 0 ++ leBytes 8 eS ++ leBytes 8 eTx ++ leBytes 8 eRx
        ++ leBytes 8 (lc.elim 0 (·.1))
      (parts.zipIdx).foldl (fun s (blocks, i) =>
        let body := leBytes 1 blocks.length ++ List.replicate 7 0#8 ++ (if i = 0 then cell else [])
          ++ blocks.flatMap (fun b => s.radioHeader b.1 b.2.1 gov ++ b.2.2)
        let n := 24 + body.length + 16
        let b := s.cstHeader 3 m n i parts.length S ++ body
        s.cstSend m (b ++ gmacTag (s.member m).keyTx b) (if i = 0 then some S else none)) s)
      { s with cst := { s.cst with sentFor := S } }
    if !trunc then s1
    else
      let drops := if cuts.any (fun c => c.2 != 0) then cuts.filter (fun c => c.2 != 0) else [((es.getLast?).elim 0 (·.1), es.length - kept)]
      match drops with
      | d :: _ => s1.postEvent 0x7006 (items [d.1, d.2])
      | [] => s1

def execDigestSend (s : State) : Host.Outcome State Fault Refusal := .next (sendDigest s)

/-- Whether a RU allocation index is valid for a width (R251): the tables are IEEE 802.11's, a free value here (log 11). -/
def ruValid (width index : Nat) : Bool := Config.freeOf 1 [0x0253, width, index] == 1#1

/-- Parse the entries of a radio block: n entries from the bytes, and what is left; none where they do not fit. -/
def parseEntries (hdr : List Byte) : Nat → List Byte → Option (List (DigestEntry × Bool) × List Byte)
  | 0, b => some ([], b)
  | n + 1, b =>
    let k := fieldLE b 7 1
    if b.length < 8 + 4 * k then none
    else
      let users := (List.range k).map fun j => (fieldLE b (8 + 4 * j) 2, fieldLE b (10 + 4 * j) 2)
      let kind := fieldLE b 6 1
      let dur := fieldLE b 4 2
      let ok := decide (1 ≤ dur) && decide (dur ≤ 21936) && decide (1 ≤ k) && decide (k ≤ 32) && decide (kind < 128)
        && decide (kind / 4 % 4 ≠ 3) && decide (kind / 16 % 8 ≤ 4) && (kind % 2 == 1 || kind / 4 == 0)
        && users.all (fun u => ruValid (fieldLE hdr 1 1) (u.2 % 512) && decide (u.1 < 8192) && decide (u.2 < 32768) && decide (u.2 / 512 % 8 ≤ 3)
          && decide (u.2 / 4096 % 8 + u.2 / 512 % 8 + 1 ≤ 8))
      let e : DigestEntry :=
        { radio := fieldLE hdr 0 1, width := fieldLE hdr 1 1, centre := fieldLE hdr 3 1, punct := fieldLE hdr 4 2, start := fieldLE b 0 4
          dur := dur * 250, up := kind % 2 == 1, users := users }
      match parseEntries hdr n (b.drop (8 + 4 * k)) with
      | some (es, rest) => some ((e, ok) :: es, rest)
      | none => none

/-- Parse the radio blocks, which must fill the bytes exactly (R253 order 1): the entries and whether all are in range. -/
def parseBlocks : Nat → List Byte → Option (List (DigestEntry × Bool))
  | 0, b => if b.isEmpty then some [] else none
  | n + 1, b =>
    if b.length < 8 then none
    else
      let cnt := fieldLE b 6 2
      let hok := decide (fieldLE b 0 1 ≤ 2) && channelOk (fieldLE b 0 1) (fieldLE b 1 1) (fieldLE b 2 1) (fieldLE b 3 1) (fieldLE b 4 2)
        && decide (fieldLE b 1 1 ≤ 4) && decide (1 ≤ cnt) && decide (cnt ≤ 512)
      match parseEntries (b.take 8) cnt (b.drop 8) with
      | none => none
      | some (es, rest) =>
        match parseBlocks n rest with
        | none => none
        | some more => some (es.map (fun e => (e.1, e.2 && hok)) ++ (if es.isEmpty then [(⟨0, 0, 0, 0, 0, 0, false, []⟩, false)] else []) ++ more)

/-- Mark a fault of the digest for S of the member that a part names, unless its status is fixed already (R254); a part too short to
name one marks none. -/
def State.digestFault (s : State) (b : List Byte) (S code : Nat) : State :=
  let m := fieldLE b 6 1
  if b.length < 7 || s.cst.decidedFor = S || !(s.memberIds.contains m) then s
  else s.modMember m fun x => { x with fault := some (x.fault.getD code) }

/-- A DIGEST part in the order of R253; part 0 gives an alignment sample once its tag verifies, from which on a step of NT in the peer
cell, which no message names, clears the earlier ones (R255; log 76). NT64 values are taken as 00 R14 says. -/
def digestIn (b : List Byte) (stepped : Bool) (s0 : State) : State :=
  let m := fieldLE b 6 1
  let s := s0.cstHeard b
  let part := fieldLE b 0xE 1
  let seq := s.fullTime (fieldLE b 0x10 8)
  let S := s.nextBoundary
  let bodyAt := if part = 0 then 0x48 else 0x20
  let blocks := if b.length < bodyAt + 16 then none else parseBlocks (fieldLE b 0x18 1) (slice b bodyAt (b.length - bodyAt - 16))
  match (if s.headerOk b && fieldLE b 5 1 == 3 then blocks else none) with
  | none => (s.rejectMsg b 0x4D).digestFault b S 3
  | some es =>
    if (s.member m).session != .active then s.cstReject m 3 0x49 false
    else if gmacTag (s.member m).keyRx (b.take (b.length - 16)) ≠ b.drop (b.length - 16) then
      (s.rejectMsg b 0x06).digestFault b S 3
    else
      let cell := slice b 0x20 40
      let x := s.member m
      let s1 := if part ≠ 0 then s
        else
          let E := s.fullTime (fieldLE cell 8 8)
          let y := s.modMember m fun x =>
            { x with rx := Tab.put x.rx seq (s.cstStamp b.length), peerHoldover := bitOf (fieldLE cell 2 1) 0, samples := if stepped then [] else x.samples }
          match (if fieldLE cell 8 8 = 0 then none else Tab.get? x.tx E), Tab.get? x.rx E with
          | some t1, some t4 =>
            let asym := signed 32 (fieldLE ((s.memberRec m).getD []) 52 4)
            let o : Int := (((s.fullTime (fieldLE cell 24 8) : Int) - t1) - ((t4 : Int) - (s.fullTime (fieldLE cell 16 8) : Int))) / 2 - asym
            y.alignSample m o
          | _, _ => y
      if !(s.isGrid s.sfNs seq) then (s1.rejectMsg b 0x4B).digestFault b S 5
      else if seq ≠ S then s1.rejectMsg b 0x4A
      else if S ≤ s.ntNs + s.acceptMargin then (s1.inc ⟨0x301020, 15, 0⟩).digestFault b S 2
      else if s.ntNs + 3000000 < S then s1.rejectMsg b 0x4A
      else
        let lenAtS := if s.commit.state == .committed && s.commit.target == S then s.commit.newLen else s.grid.sfLen
        if part = 0 && fieldLE cell 0 1 ≠ lenAtS then (s1.rejectMsg b 0x4B).digestFault b S 5
        else
          let ok := es.all (·.2) && es.all (fun e => decide (e.1.start + e.1.dur ≤ sfLenNs lenAtS))
            && decide (fieldLE b 0x18 1 ≤ 3) && allZero (slice b 0x19 7)
            && (part ≠ 0 || (decide (fieldLE cell 1 1 ≤ 4) && decide (fieldLE cell 2 1 < 8) && fieldLE cell 4 4 == 0
              && (if bitOf (fieldLE cell 2 1) 2 then decide (fieldLE cell 3 1 ≤ 3)
                  else fieldLE cell 3 1 == 0 && fieldLE cell 32 8 == 0)))
            && (x.parts.isEmpty || x.partsFor ≠ S || x.partCount == fieldLE b 0xF 1)
          if !ok then (s1.rejectMsg b 0x02).digestFault b S 3
          else if x.partsFor = S && Tab.has x.parts part then s1.inc ⟨0x301020, 31, 16⟩
          else
            (s1.acceptSeq m (fieldLE b 0x10 8)).modMember m fun x =>
              { x with partsFor := S, partCount := fieldLE b 0xF 1
                       parts := Tab.put (if x.partsFor = S then x.parts else []) part (es.map (·.1))
                       pendCommit := if part = 0 then
                           (if bitOf (fieldLE cell 2 1) 2 then some (fieldLE cell 32 8, fieldLE cell 3 1) else none)
                         else x.pendCommit }

def execDigestPartRx (msg : DigestMsg) (s : State) : Host.Outcome State Fault Refusal :=
  .next (digestIn msg.bytes msg.peerStepped s)

/-- An authenticated LEAVE ends the session (R247, R248); event 0x7002 with its reason. -/
def leaveIn (b : List Byte) (s0 : State) : State :=
  let m := fieldLE b 6 1
  let s := s0.cstHeard b
  if !(s.headerOk b) || fieldLE b 5 1 ≠ 4 || b.length ≠ 48 || 3 < fieldLE b 0x18 1 || fieldLE b 0x19 7 ≠ 0 then s.rejectMsg b 0x4D
  else if (s.member m).session != .active then s.cstReject m 4 0x49 false
  else if gmacTag (s.member m).keyRx (b.take 32) ≠ b.drop 32 then s.rejectMsg b 0x06
  else if !(s.seqOk m (fieldLE b 0x10 8)) then s.rejectMsg b 0x4A
  else
    ((s.acceptSeq m (fieldLE b 0x10 8)).endSession m).postEvent 0x7002 (items [m, fieldLE b 0x18 1])

def execLeaveRx (msg : List Byte) (s : State) : Host.Outcome State Fault Refusal := .next (leaveIn msg s)

/-- The status of a member for S (R254). -/
def CstMember.decide_ (x : CstMember) (S : Nat) : Nat :=
  match x.fault with
  | some f => f
  | none =>
    if x.partsFor = S && x.partCount ≠ 0 && x.parts.length == x.partCount then (if x.misaligned then 4 else 0) else 1

/-- At S − ACCEPT_MARGIN every ACTIVE member gets its status (R254); MISS_LIMIT misses end its session, event 0x7002
with cause 0xFF (misses; log 10). -/
def statusDecide (s : State) : State :=
  let S := s.nextBoundary
  if !s.ntValid || s.cst.decidedFor = S || s.ntNs + s.acceptMargin < S || s.cstRec.isEmpty then s
  else
    s.cstActive.foldl (fun s m =>
      let x := s.member m
      let st := x.decide_ S
      let miss := st == 1 || st == 2 || st == 3
      let n := if miss then Nat.min 255 (x.misses + 1) else if st = 0 then 0 else x.misses
      let s1 := s.modMember m fun x =>
        { x with status := st, misses := n, next := if st = 0 then x.parts.flatMap (·.2) else []
                 lenCommit := if st = 0 || st = 4 then x.pendCommit else x.lenCommit }
      let s2 := if st = x.status then s1 else s1.postEvent 0x7003 (items [m, x.status, st, S % 2 ^ 64])
      if miss && fieldLE s.cstRec 10 1 ≤ n then (s2.endSession m).postEvent 0x7002 (items [m, 0xFF]) else s2)
      { s with cst := { s.cst with decidedFor := S } }

def execMemberStatusDecide (s : State) : Host.Outcome State Fault Refusal := .next (statusDecide s)

/-- LEAVE written to CST_CTRL (R248, R264). -/
def cstLeave (r : Requester) (s : State) : State :=
  s.access r 0x30101C fun s =>
    let s1 := s.leaveAll 0 1
    { s1 with cst := { s1.cst with left := true, result := 0 } }

def execCstLeaveWrite (r : Requester) (s : State) : Host.Outcome State Fault Refusal := .next (cstLeave r s)

/-- REJOIN written to CST_CTRL (R264): clears LEFT, or CST_NOT_LOCKED. -/
def cstRejoin (r : Requester) (s : State) : State :=
  s.access r 0x30101C fun s =>
    if s.cstMayJoin then { s with cst := { s.cst with left := false, result := 0 } }
    else { s with cst := { s.cst with result := 0x48 } }

def execCstRejoinWrite (r : Requester) (s : State) : Host.Outcome State Fault Refusal := .next (cstRejoin r s)

/-- A foreign entry not updated for FOREIGN_AGE is freed (R258). -/
def foreignAged (m sid r : Nat) (s : State) : State :=
  match Tab.get? s.cst.foreign (foreignKey m sid r) with
  | some e =>
    if s.elapsed < e.updated + ms (fieldLE s.cstRec 18 2) then s
    else { s with cst := { s.cst with foreign := Tab.del s.cst.foreign (foreignKey m sid r) } }
  | none => s

def execForeignEntryAge (m sid radio : Nat) (s : State) : Host.Outcome State Fault Refusal :=
  .next (foreignAged m sid radio s)

/-- NT has been in HOLDOVER for HOLDOVER_KEEP, once for each HOLDOVER (R241, R248). -/
def keepExpired (s : State) : State :=
  if s.cstRec.isEmpty || s.time.state != .holdover || s.ntNs < s.time.holdFrom + fieldLE s.cstRec 12 2 * 1000000000
      || s.cst.keepFor = some s.time.holdFrom then s
  else
    let s1 := s.leaveAll 1 0
    { s1 with cst := { s1.cst with keepFor := some s.time.holdFrom } }

def execHoldoverKeepExpiry (s : State) : Host.Outcome State Fault Refusal := .next (keepExpired s)

end Sys2Proof.Machine
end

