-- ==== Sys2Proof/Machine/HostReads.lean ====
section
/-! DEFINITION. What a command that reads host memory does when the read fails (13 R380, R383). -/

namespace Sys2Proof.Machine

/-- A command that reads host memory (R383): the forms that clear or erase read none. -/
def Cmd.readsHost (c : Cmd) : Bool :=
  [0x0111, 0x0610, 0x0810, 0x0A10, 0x0B11].contains c.opcode
    || ([0x0910, 0x0916].contains c.opcode && !bitOf (c.b 18) 0) || (c.opcode == 0x0A01 && c.b 18 != 1)
    || (c.opcode == 0x0B10 && c.le 24 4 != 0)

/-- A command's own row with a read that failed: its checks come first (R380), then HQ_DMA (R383). -/
def State.readFails (s : State) (c : Cmd) : State :=
  if c.opcode = 0x0111 then slotWrite c.fn c.tag none s
  else if c.opcode = 0x0610 then macTx c.fn c.tag none 0 s
  else if c.opcode = 0x0810 then nwSend c.fn c.tag none s
  else if c.opcode = 0x0910 then ruleWrite c.fn c.tag none s
  else if c.opcode = 0x0916 then tunnelWrite c.fn c.tag none s
  else if c.opcode = 0x0A01 then keyWrite c.fn c.tag none s
  else if c.opcode = 0x0A10 then cphCrypt (c.b 18 % 4) c.fn c.tag none s
  else if c.opcode = 0x0B10 then submit c.fn c.tag none s
  else if c.opcode = 0x0B11 then inject c.fn c.tag none s
  else s

/-- A command's read of host memory returns (R383): the data goes to the command's own row; an error completes it with
HQ_DMA unless a check before it fails (R380). A return for a discarded command is dropped (R393). -/
def dmaDone (f tag : Nat) (ok : Bool) (s : State) : State :=
  match s.cmd? f tag with
  | some c => if !ok && c.stage == .fetched && c.readsHost then s.readFails c else s
  | none => s

def execHostDmaCompletion (f tag : Nat) (ok : Bool) (s : State) : Host.Outcome State Fault Refusal := .next (dmaDone f tag ok s)

end Sys2Proof.Machine
end

