-- ==== Sys2Proof/Machine/Meridian.lean ====
section
/-! DEFINITION. The commands of the superframe grid, the commit controller and the Dormant sequences (05 R129 to R150, 16
R465). -/

namespace Sys2Proof.Machine

/-! ## Requests (R135, R143, R147) -/

/-- Event 0x3005. -/
def State.stageRefused (s : State) (a status : Nat) : State := s.postEvent 0x3005 (items [a, status])

/-- The target of a GO, by R135 orders 5 to 7: a status, or the full-width instant. MER_TARGET is an NT64 value (00 R14). -/
def State.goTarget (s : State) (len : Nat) : Except Nat Nat :=
  let t := s.get64 0x300028
  if t = 0 then .ok (s.firstTarget len)
  else
    let n : Int := (s.ntNs : Int) + signed 64 (t + 2 ^ 64 - s.nt64.toNat)
    if (n - s.grid.phase) % (longer s.grid.sfLen len : Nat) ≠ 0 then .error 0x24
    else if n < s.ntNs + 2000000 then .error 0x04
    else if (s.ntNs : Int) + 2 ^ 34 < n then .error 0x02
    else .ok n.toNat

/-- A GO (R135): the checks in order; RESULT tells the first failure. No commit is armed before the boot controller runs: one that
passes them all is refused then (03 R74, log 109). -/
def State.go (s : State) : State :=
  let mode := s.get ⟨0x300020, 2, 0⟩
  let len := s.get ⟨0x300020, 5, 4⟩
  let fail := fun (s : State) (v : Nat) => { s with commit := { s.commit with result := v } }
  if s.commit.state != .idle then (fail s 0x22).postEvent 0x3006 (items [s.commit.target % 2 ^ 64])
  else if s.dormantRunning then fail s 0x25
  else if !s.ntValid then fail s 0x1C
  else if 4 < mode || (mode == 1 && len != 0) then fail s 0x02
  else match s.goTarget len with
    | .error v => fail s v
    | .ok t => if s.boot.state != .run then fail s 0x03 else s.startArming .host mode len t

/-- GO written to MER_COMMIT; in the boundary interval it is ignored (R131). -/
def commitGo_ (r : Requester) (s : State) : State :=
  s.access r 0x300024 fun s => if s.inBoundary then s.stageRefused 0x300024 0x0F else s.go

def execCommitGo (r : Requester) (s : State) : Host.Outcome State Fault Refusal := .next (commitGo_ r s)

/-- CANCEL (R143): it ends a commit that GO or a Dormant entry requested, while ARMING. -/
def State.cancel (s : State) : State :=
  if s.commit.state == .arming && (s.commit.kind == .host || s.commit.kind == .dormantEntry) then
    ((s.setCommitResult 0x23).postEvent 0x3004 (items [s.commit.target % 2 ^ 64])).releaseArm
  else s

def commitCancel_ (r : Requester) (s : State) : State :=
  s.access r 0x300024 fun s => if s.inBoundary then s.stageRefused 0x300024 0x0F else s.cancel

def execCommitCancel (r : Requester) (s : State) : Host.Outcome State Fault Refusal := .next (commitCancel_ r s)

/-- What makes a failed check's event the same one: its code and what it names first, the unit and the check (07 R187), or the tuner. -/
def toldKey (e : Nat × List Byte) : Nat × List Byte := (e.1, e.2.take 16)

/-- A participant reports (R137): ARMED, or a cause with the events of its checks, each once in an arming (07 R187); a report in the deadline's cycle comes
too late (R138); one that faulted counts as not armed at the deadline it faulted before (R141). -/
def armReport (u : Nat) (busy : Bool) (s : State) : State :=
  if s.commit.state != .arming || 27 ≤ u || !s.commit.part.getLsbD u || s.commit.armed.getLsbD u || s.commit.target ≤ s.ntNs + 2000000
      || Tab.get? s.commit.causes u == some 5 then s
  else
    let (c, ev) := s.armCause u busy
    if c = 0 then { s with commit := { s.commit with
      armed := s.commit.armed ||| unitMap 27 (· == u), causes := Tab.del s.commit.causes u } }
    else
      let new := ev.filter fun e => !s.commit.told.contains (toldKey e)
      let s1 := new.foldl (fun s e => s.postEvent e.1 e.2) s
      { s1 with commit := { s1.commit with causes := Tab.put s1.commit.causes u c, told := s1.commit.told ++ new.map toldKey } }

def execUnitArmReport (u : Nat) (busy : Bool) (s : State) : Host.Outcome State Fault Refusal := .next (armReport u busy s)

/-- The commit is irrevocable (R138); a Dormant entry then starts its sequence with event 0x3010 and leaves the constellation
(R147, 09 R248). -/
def State.irrevocable (s : State) : State :=
  let s1 := { s with commit := { s.commit with state := .committed } }
  if s.commit.kind == .dormantEntry then
    ({ s1 with dormant := { s1.dormant with seq := .entry 1, boundary := s.commit.target, heldWake := none } }.postEvent 0x3010
      (items [s.commit.target % 2 ^ 64])).leaveAll 2 2
  else s1

/-- The deadline (R138, R139, R144): the first cycle whose NT is at least target − 2 ms. -/
def deadline (s0 : State) : State :=
  if s0.commit.state != .arming || !s0.ntValid || s0.ntNs + 2000000 < s0.commit.target then s0
  else
    let s := { s0 with commit := { s0.commit with notArmed := s0.commit.part &&& ~~~s0.commit.armed } }
    if s.commit.notArmed = 0 && !s.stepArmedFor s.commit.target then s.irrevocable
    else if s.commit.deferrals < 3 then s.deferCommit
    else if s.commit.kind == .boot then s.bootDeadline
    else s.refuseCommit

def execCommitDeadline (s : State) : Host.Outcome State Fault Refusal := .next (deadline s)

/-! ## The strobe (R134, R140) -/

/-- What of a radio a swap changed: the chain set before, the whole channel word, the width, the template. -/
structure RadioSwap where
  r : Nat
  old : List Nat
  chan : Bool
  width : Bool
  grid : Bool

/-- A participating radio before the swap; the boot and exit commits bring every chain in. -/
def State.radioSwap (s : State) (r : Nat) : RadioSwap :=
  let first := 5 ≤ s.grid.mode
  ⟨r, if first then [] else s.chainSet r, s.channelStaged r, s.stagedWidth r != s.chanWidth r, first || !s.templateSame r⟩

/-- A radio's part of the strobe, under the new bank. -/
def State.swapRadio (s : State) (x : RadioSwap) : State :=
  let s1 := (s.feSwap x.r x.old x.chan).bbSwap x.r x.old x.chan x.width
  let s2 := if x.chan then (s1.shadowTiles x.r).freeForeignRadio x.r else s1
  if x.grid then s2.twtSwap x.r else s2

/-- The DRAM channels take the mode's rate (15 R455): a change is one pause that begins at the strobe. -/
def State.dramRate (s : State) (slow : Bool) : State :=
  if s.dram.slow = slow then s
  else
    let s1 := (List.range 4).foldl (fun s c =>
      if s.inService (.dram c) && (s.dch c).pause.isNone then s.modDch c fun x => { x with pause := some s.elapsed } else s) s
    { s1 with dram := { s1.dram with slow := slow } }

/-- A strobe is due (R140). -/
def State.strobeDue (s : State) : Bool :=
  s.commit.state == .committed && s.commit.kind != .dormantEntry && s.ntValid && decide (s.commit.target ≤ s.ntNs)

/-- Every participant swaps (R140): banks, mode and length, and each block's part. The staged bank of an excluded unit
becomes active with them, for its return under R136 and R141. -/
def State.swap (s : State) : State :=
  let c := s.commit
  let p := fun u => c.part.getLsbD u
  let q := fun u => c.part.getLsbD u || c.excluded.getLsbD u
  let radios := ([0, 1, 2].filter p).map s.radioSwap
  let ports := (List.range 4).filter fun i => p (15 + i)
  let moded := ports.filter fun i => s.sget ⟨ethBase i, 11, 0⟩ != s.get ⟨ethBase i, 11, 0⟩
  let mesh := c.newLen != s.grid.sfLen || (q 25 && s.bankDiffers 25)
  let s1 := ports.foldl (fun s i => s.settleShapers i) s
  let s2 := s1.bankToActive q
  let s3 := { s2 with grid := { s2.grid with mode := c.newMode, sfLen := c.newLen } }
  let s4 := if q 19 then s3.policerSwap else s3
  let s5 := radios.foldl (fun s x => s.swapRadio x) s4
  let s6 := ports.foldl (fun s i => s.portSwap i (moded.contains i)) s5
  let s7 := (s6.resolvePlans fun r => p r || s6.mac.dual.contains r).dramRate (c.newMode == 4)
  if mesh then s7.modMesh fun m => { m with change := true } else s7

/-- The first commit after a start of NT sets the TSF bases to the latest 204.8 ms grid point at or before its superframe
(04 R106). -/
def State.setTsf (s : State) (b : Nat) : State :=
  if s.time.tsfSet then s
  else { s with time := { s.time with
    tsfSet := true, tsfBase := List.replicate 3 (BitVec.ofNat 64 (s.gridBefore (sfLenNs 3) b)) } }

/-- The strobe at B (R140, R143): MER_LAST, RESULT OK, event 0x3001, and the copies begin. -/
def strobe_ (s : State) : State :=
  if !s.strobeDue then s
  else
    let c := s.commit
    let s1 := s.swap.setTsf c.target
    let s2 := { s1 with
      commit := { s1.commit with
        state := .copying, locked := false, stageOpen := false, result := 0, last := BitVec.ofNat 64 c.target
        deferrals := Nat.min 3 c.deferrals }
      dormant := if c.kind == CommitKind.dormantExit then { s1.dormant with seq := .exit 9 } else s1.dormant }
    s2.postEvent 0x3001 (items [c.target % 2 ^ 64, Nat.min 3 c.deferrals, c.excluded.toNat])

def execMeridianStrobe (s : State) : Host.Outcome State Fault Refusal := .next (strobe_ s)

/-- Every unit has copied its active bank (R134, R143); own-accord retunes that waited are staged (06 R158). -/
def copied (s : State) : State :=
  if s.commit.state != .copying then s
  else
    let s1 := s.bankToStaged fun u => s.commit.part.getLsbD u
    { s1 with commit := { s1.commit with state := .idle, stageOpen := true } }.stageHeld

def execBankCopyDone (s : State) : Host.Outcome State Fault Refusal := .next (copied s)

/-! ## Superframes (R129, R136) -/

/-- A unit that was configured joins at the Meridian with the cell's active bank (R136): a link once it is UP, a radio once its
chains are powered (06 R156). -/
def State.joinUnit (s : State) (u : Nat) : State :=
  let x := s.unit u
  let up := match unitOf u with
    | .link k => (s.tile k).state == .up
    | .radio r => (s.chainSet r).all fun c => s.linkAbsent r c || s.chainOn (chainBase r + c)
    | _ => true
  if x.phase != .joining || !up then s
  else
    let s1 := s.setUnit u { x with phase := .service }
    if u < 3 then (s1.feSwap u [] false).macRejoin u
    else if u = 19 then s1.meshLink else s1

/-- Steps armed for a boundary that a length change or a step took from the grid wait for this one, a TSF's re-anchor for
the next grid point of 204.8 ms (04 R117). -/
def State.catchSteps (s : State) (b : Nat) : State :=
  { s with time := { s.time with
    stepPending := s.time.stepPending.map fun p => (p.1, Nat.max p.2 b)
    reanchors := Tab.mapV s.time.reanchors fun base t =>
      if b ≤ t then t else if base < 2 then b else s.gridAtOrAfter (sfLenNs 3) b } }

/-- A boundary's steps (04 R117 to R119): the boundary of a commit takes no step of NT; alignment samples go with a step (09 R255);
a realignment interval has no superframe. -/
def State.boundarySteps (s : State) (b : Nat) : State :=
  if s.commit.last = BitVec.ofNat 64 b then (s.deferStep b).applySteps b
  else
    let s1 := s.applySteps b
    if !s.stepArmedFor b then s1
    else
      let s2 := { s1 with cst := { s1.cst with members := Tab.mapV s1.cst.members fun _ x => { x with samples := [] } } }
      { s2 with grid := { s2.grid with start := if s2.realigning then none else some (s2.gridBefore s2.sfNs s2.ntNs) } }

/-- Each block's part of a superframe start. -/
def State.blockSuperframes (s : State) (b : Nat) : State :=
  let s1 := ((s.feMeridian.bbSuperframe).cipherSuperframe).cstSuperframe b
  let s2 := (s1.pktSuperframe b).dramSuperframe
  let s3 := (s2.macSuperframe b).taskSuperframe
  { s3 with power := { s3.power with backoff := decide (2 ≤ s3.throttle) } }

/-- Units that wait for a Meridian join, while a mode is in force. -/
def State.joinAll (s : State) : State :=
  if 5 ≤ s.grid.mode then s else (List.range 25).foldl (fun s u => s.joinUnit u) s

/-- A superframe begins at a grid point (R129); a strobe due there comes first (R140), then a step of NT, so that what the
superframe starts counts and stamps in the new NT (04 R119); in a realignment interval nothing starts (04 R118). -/
def superframe (s : State) : State :=
  let b := s.gridBefore s.sfNs s.ntNs
  if !s.ntValid || s.realigning || s.strobeDue || s.grid.start == some b then s
  else
    let s1 := ({ s with grid := { s.grid with start := some b } }.catchSteps b).boundarySteps b
    match s1.grid.start with
    | none => s1
    | some b => (s1.blockSuperframes b).joinAll.armBoot

def execSuperframeStart (s : State) : Host.Outcome State Fault Refusal := .next (superframe s)

/-! ## Entering Dormant (R147, R148) -/

/-- WAKE_MT is allowed (R148): later than MT by 2 s to 2^55 ns, and not 0. -/
def State.wakeMtOk (s : State) : Bool :=
  let w := s.get64 0x300064
  let d := (w + 2 ^ 64 - s.mt64.toNat) % 2 ^ 64
  w != 0 && decide (2000000000 ≤ d) && decide (d ≤ 2 ^ 55)

/-- A request for Dormant entry: R135 orders 1 and 3, then the wake sources; it runs as a commit, and none is armed before
the boot controller runs (03 R74, log 109). -/
def State.enterDormant (s : State) : State :=
  let fail := fun (s : State) (v : Nat) => { s with commit := { s.commit with dormantResult := v } }
  if s.commit.state != .idle then (fail s 0x22).postEvent 0x3006 (items [s.commit.target % 2 ^ 64])
  else if !s.ntValid then fail s 0x1C
  else if s.flag ⟨0x300060, 4, 4⟩ && !s.wakeMtOk then fail s 0x02
  else if s.boot.state != .run then fail s 0x03
  else s.startArming .dormantEntry s.grid.mode s.grid.sfLen (s.firstTarget s.grid.sfLen)

/-- A write of MER_DORMANT with ENTER: the write is invalid while a sequence runs or with EXIT_MODE 5 or 6; only the
physical function's ENTER counts. -/
def dormantWrite (r : Requester) (v : Word) (s : State) : State :=
  s.access r 0x300060 fun s =>
    if s.dormantRunning || bitsOf v.toNat 3 1 = 5 || bitsOf v.toNat 3 1 = 6 then s.invalidWrite r 0x300060 v
    else
      let s1 := s.put ⟨0x300060, 12, 1⟩ (bitsOf v.toNat 12 1)
      if r == .pf && v.getLsbD 0 then s1.enterDormant else s1

def execDormantEnterRequest (r : Requester) (v : Word) (s : State) : Host.Outcome State Fault Refusal := .next (dormantWrite r v s)

/-- Step 2 at a radio: nothing launches and nothing is received, chains are off; coefficients and channel state stay
(06 R167, 07 R196). -/
def State.radioOff (s : State) (r : Nat) : State :=
  let n := s.chainCount r
  let s1 := s.cutReception r
  let s2 := (match s1.onAir r with | some l => s1.endLaunch r l 0x01 | none => s1).clearMac r []
  let s3 := (List.range n).foldl (fun s c => s.modChain (chainBase r + c) fun x => { x with state := .off, serving := false, high := 0 }) s2
  let s4 := s3.modRadio r fun x => { x with rxOpen := false, launches := [], cal := none, rx := { records := x.rx.records, ended := x.rx.ended } }
  let s5 := s4.powerDown (((List.range n).filter (fun c => (s.chain (chainBase r + c)).powered)).map (32 + chainBase r + ·))
  if (s5.unit r).phase == .recovering then s5 else s5.setUnit r { s5.unit r with phase := .reset }

/-- Step 2 ends at B: the mode is Dormant, the request has its result. -/
def State.atB (s : State) : State :=
  let s1 := [0, 1, 2].foldl (fun s r => s.radioOff r) s
  { s1 with
    dormant := { s1.dormant with entryMode := s.grid.mode, entryLen := s.grid.sfLen }
    grid := { s1.grid with mode := 5 }
    commit := { s1.commit with state := .idle, locked := false, dormantResult := 0 } }

/-- Step 3: commands in flight complete ABORTED, what they asked of the units goes with them, event 0x3011 is the last. -/
def State.abortAll (s : State) : State :=
  let cs := s.host.cmds.filter (·.stage != .completed)
  let s1 := cs.foldl (fun s c => s.complete c.fn c.tag 0x01) s
  let s2 := s.enabledFns.foldl (fun s f => s.dropFnWork f) s1
  s2.postEvent 0x3011 (items [s.nt64.toNat])

/-- Step 4: the frames left in the wired queues are discarded and counted. -/
def State.dropWired (s : State) : State :=
  let s1 := s.wired.foldl (fun s e => (s.incBy (pktCnt 8 false) e.2.length)) s
  { s1 with wired := [] }

/-- Step 5: tuner counts are written, the bridge's clock is gated. -/
def State.closeBridge (s : State) : State :=
  let s1 := s.writeCounts
  let s2 := { s1 with dormant := { s1.dormant with clocksSaved := b2n (s1.flag (clkEn 15)) } }
  ((s2.put (clkEn 15) 0).put (clkSt 15) 0).meshLink

/-- Step 8: domain 7 on REF, NT, the TSFs and FR stop, the FR bridge counter starts. -/
def State.stopTime (s : State) : State :=
  let s1 := s.setSource 7 false
  { s1 with
    clocks := { s1.clocks with onRoot := s1.clocks.onRoot.set 4 false }
    time := { s1.time with
      state := .notStarted, active := none, cand := none, stepPending := none, reanchors := [], ntReanchorReady := none
      realignEnd := none, firstWaitFrom := none, ptp := {}, pps := {} }
    grid := { s1.grid with start := none }
    dormant := { s1.dormant with bridge := some s.elapsed } }

/-- Step 9: the link, the domains and the SerDes go down; what the spec does not list as saved is lost: frames, FIFOs,
items, and every function's HQ state. -/
def State.powerOff (s : State) : State :=
  let s1 := s.linkDown.flrFn 0
  let s2 := clockBlocks.foldl (fun s b => s.put (clkSt b) 0) s1
  let s3 := (List.range 12).foldl (fun s k => s.tileDown k) ((List.range 10).foldl (fun s b => s.setLink b 0) s2)
  let s4 := (List.range 25).foldl (fun (s : State) u => s.setUnit u { s.unit u with phase := .reset }) s3
  { s4 with
    boot := { s4.boot with rootReady := false }
    clocks := { s4.clocks with draining := [], switching := [] }
    power := { s4.power with up := 0, queue := [], ramping := [], charging := [], downing := [], powerLevel := 0, thermalLevel := 0, backoff := false }
    chains := Tab.mapV s4.chains fun _ x => { x with powered := false, state := .off, pos := 0, serving := false }
    radios := Tab.mapV s4.radios fun _ x => { x with syn := Tab.mapV x.syn fun _ y => { y with locked := false, idle := .relocking } }
    mac := { s4.mac with frames := [], plan := [], frozen := [], dual := [] }
    fifos := [], wired := [], overflows := []
    pkt := { s4.pkt with lpm := [], buckets := [], shapes := [] }
    eth := { s4.eth with tx := [] }
    tasks := { s4.tasks with items := [], credits := [] }
    cipher := { s4.cipher with ops := [] }
    dram := { s4.dram with waiting := [], chans := Tab.mapV s4.dram.chans fun _ x => { x with queue := [], rows := [], hits := [], pause := none } } }

/-- A step of the entry ends and the next one runs (R147). -/
def State.entryStep (s : State) (n : Nat) : State :=
  let to_ := fun (s : State) => { s with dormant := { s.dormant with seq := .entry (n + 1) } }
  if n = 1 then to_ s
  else if n = 2 then (if s.ntNs < s.dormant.boundary then s else to_ s.atB)
  else if n = 3 then to_ s.abortAll
  else if n = 4 then to_ s.dropWired
  else if n = 5 then to_ s.closeBridge
  else if n = 6 then to_ s
  else if n = 7 then
    to_ ((List.range 4).foldl (fun s c => if (s.dch c).trained then s.modDch c fun x => { x with selfRefresh := true } else s) s)
  else if n = 8 then to_ s.stopTime
  else if n = 9 then to_ s.powerOff
  else s

def entryStepDone (s : State) : State := match s.dormant.seq with | .entry n => s.entryStep n | _ => s

def execDormantEntryStepDone (s : State) : Host.Outcome State Fault Refusal := .next (entryStepDone s)

/-- DORMANT_REQ exists (16 R476). -/
def State.hasDormantReq (s : State) : Bool := bitOf (fieldLE (s.recBytes 0x0E02) 4 1) 7

/-- Step 10: Dormant is reached and DORMANT_REQ is driven high; a wake that was held starts the exit (R148). -/
def reachedDormant (s : State) : State :=
  match s.dormant.seq with
  | .entry n =>
    if n < 10 then s
    else
      let s1 := { s with power := { s.power with dormantReq := s.hasDormantReq }, dormant := { s.dormant with seq := .dormant } }
      match s.dormant.heldWake with
      | some c => s1.startExit c
      | none => s1
  | _ => s

def execDormantReached (s : State) : Host.Outcome State Fault Refusal := .next (reachedDormant s)

/-! ## Leaving Dormant (R148) -/

/-- MT reaches WAKE_MT. -/
def wakeMt (s : State) : State :=
  if s.wakeable 1 && notEarlier s.mt64.toNat (s.get64 0x300064) then s.wake 1 else s

def execWakeMtReached (s : State) : Host.Outcome State Fault Refusal := .next (wakeMt s)

/-- An edge of a GPIO, filtered: it wakes on the selected one at the selected level. -/
def wakeGpio (gpio : Nat) (level : Bool) (s : State) : State :=
  if s.wakeable 2 && s.get ⟨0x300060, 12, 8⟩ == gpio && s.flag ⟨0x300060, 7, 7⟩ == level then s.wake 2 else s

def execWakeGpioEdge (gpio : Nat) (level : Bool) (s : State) : Host.Outcome State Fault Refusal := .next (wakeGpio gpio level s)

/-- Step 2 begins: every domain whose blocks an accepted subject configures, or whose clock is enabled (16 R464). -/
def State.requestAll (s : State) : State :=
  let blocks := s.bootBlocks ++ clockBlocks.filter (fun b => s.flag (clkEn b))
  let s1 := s.requestItems ((0 :: blocks.flatMap blockDomains).eraseDups)
  { s1 with dormant := { s1.dormant with seq := .exit 2 } }

/-- RAIL_RAMP after DORMANT_REQ went low (16 R465). -/
def rampExpires (s : State) : State :=
  if s.dormant.seq == .rampWait && decide (s.power.rampFrom + 60000 * s.power.railRamp ≤ s.elapsed) then s.requestAll else s

def execRailRampExpiry (s : State) : Host.Outcome State Fault Refusal := .next (rampExpires s)

/-- Every domain asked for is up. -/
def State.domainsUp (s : State) : Bool :=
  s.power.queue.all (fun i => decide (25 ≤ i)) && s.power.ramping.all (fun a => decide (25 ≤ a.item))

/-- Step 3: domain 4 on ROOT, NT PROVISIONAL equal to MT with event 0x2007 (origin 2), FR resumes over the bridge. -/
def State.resumeTime (s : State) : State :=
  let fr := s.time.fr + (match s.dormant.bridge with | some t => 5 * (s.elapsed - t) | none => 0)
  let s1 := { s with dormant := { s.dormant with bridge := none }, time := { s.time with fr := fr, state := .provisional } }
  (((s1.setSource 4 true).setNt s1.time.mt.v).ntStarts).postEvent 0x2007 (items [s.mtNs % 2 ^ 64, 2])

/-- Step 5: what was saved is back. A failed tag erases every key slot with event 0x3013 (12 R369); the staged banks hold
the restored active bank; the bridge's clock is enabled as before; the counts are written. -/
def State.restoreSaved (s : State) (tagOk : Bool) : State :=
  let held := (s.cipher.slots.filter (fun e => e.2.cur.isSome || e.2.ret.isSome)).map (·.1)
  let s1 := if tagOk then s
    else (held.foldl (fun s k => s.setSlot k { gen := (s.slot k).gen }) s).postEvent 0x3013 (items [held.length])
  let s2 := if s.dormant.clocksSaved = 1 then s1.put (clkEn 15) 1 else s1
  (s2.bankToStaged fun _ => true).writeCounts

/-- Step 8: the commit in mode EXIT_MODE; 7 keeps the mode at entry, Latency applies 25.6 ms. -/
def State.exitCommit (s : State) : State :=
  let x := s.get ⟨0x300060, 3, 1⟩
  let m := if x = 7 then (if s.dormant.entryMode < 5 then s.dormant.entryMode else s.grid.recMode) else x
  let len := if m = 1 then 0 else s.dormant.entryLen
  s.startArming .dormantExit m len (s.firstTarget len)

/-- A step of the exit ends and the next one runs. -/
def State.exitStep (s : State) (n : Nat) (tagOk : Bool) : State :=
  let to_ := fun (s : State) => { s with dormant := { s.dormant with seq := .exit (n + 1) } }
  if n = 1 then
    if !s.boot.rootReady then s
    else if s.hasDormantReq then { s with dormant := { s.dormant with seq := .rampWait } } else s.requestAll
  else if n = 2 then (if s.domainsUp then to_ s else s)
  else if n = 3 then to_ s.resumeTime
  else if n = 4 then
    if (List.range 4).all (fun c => !(s.dch c).selfRefresh) || !s.accepted 0xD then to_ s else s
  else if n = 5 then to_ (s.restoreSaved tagOk)
  else if n = 6 then to_ s
  else if n = 7 then (to_ s).exitCommit
  else if n = 9 then { s with dormant := { s.dormant with seq := .none } }
  else s

def exitStepDone (tagOk : Bool) (s : State) : State := match s.dormant.seq with | .exit n => s.exitStep n tagOk | _ => s

def execDormantExitStepDone (tagOk : Bool) (s : State) : Host.Outcome State Fault Refusal := .next (exitStepDone tagOk s)

end Sys2Proof.Machine
end

