-- ==== Sys2Proof/Machine/Power.lean ====
section
/-! DEFINITION. The rows of the inrush ledger, power, temperature and holds (16). -/

namespace Sys2Proof.Machine

/-- An item's slew on a rail, in 0.01 A/ms: the lesser of its intrinsic slew and SLEW_MAX (R466). -/
def State.itemSlew (s : State) (i r step : Nat) : Nat :=
  Nat.min (step * 1000000 / itemRamp i) ((s.railLimit r).2 * 1000)

/-- An item's step on a rail in 0.01 A; 0 when it does not draw from it. -/
def stepOn (i r : Nat) : Nat := ((itemSteps i).find? (fun p => p.1 == r)).elim 0 (·.2)

/-- The window sum of a rail at tick t, in 0.01 A (R466): items admitted in (t − 10 µs, t]. -/
def State.windowSum (s : State) (r t : Nat) : Nat :=
  ((s.power.charging.filter (fun a => decide (t < a.at_ + 1000))).map (fun a => stepOn a.item r)).sum

/-- The slews of the items still ramping on a rail at tick t. -/
def State.slewSum (s : State) (r t : Nat) : Nat :=
  ((s.power.ramping.filter (fun a => decide (t < a.upAt))).map
    (fun a => if stepOn a.item r = 0 then 0 else s.itemSlew a.item r (stepOn a.item r))).sum

/-- The rail and condition that holds the head back at tick t: condition 0 step, 1 slew (R466). -/
def State.ledgerBinds (s : State) (i t : Nat) : Option (Nat × Nat) :=
  (itemSteps i).findSome? fun (r, st) =>
    let (mx, sl) := s.railLimit r
    if mx * 10 < s.windowSum r t + st then some (r, 0)
    else if sl * 1000 < s.slewSum r t + s.itemSlew i r st then some (r, 1)
    else none

/-- The ramp an item takes in 10 ns ticks: its intrinsic ramp, longer where SLEW_MAX is the lesser slew (R466). -/
def State.rampTicks (s : State) (i : Nat) : Nat :=
  (itemSteps i).foldl (fun m (r, st) =>
    Nat.max m ((st * 100000 + s.itemSlew i r st - 1) / Nat.max 1 (s.itemSlew i r st))) (itemRamp i / 10)

/-- The head is admitted when every rail it draws from allows it; a chain waits for its band
domain, and an item whose switches open until they have (R464, R466). -/
def ledgerAdmit (s : State) : State :=
  match s.power.queue with
  | [] => s
  | i :: rest =>
    let t := s.tick10
    if (decide (32 ≤ i) && !s.domUp (bandDomain i)) || Tab.has s.power.downing i || (s.ledgerBinds i t).isSome then s
    else
      let a : Admitted := ⟨i, t, t + s.rampTicks i⟩
      let p := s.power
      let s1 := { s with power := { p with
        queue := rest, headSince := s.elapsed, headPosted := false, ramping := p.ramping ++ [a]
        charging := (p.charging.filter (fun x => decide (t < x.at_ + 1000))) ++ [a] } }
      (itemSteps i).foldl (fun s (r, _) =>
        let w := s.windowSum r t / 10
        { s with power := { s.power with peaks := Tab.put s.power.peaks r (Nat.max w (Tab.getD s.power.peaks r 0)) } }) s1

def execLedgerAdmit (s : State) : Host.Outcome State Fault Refusal := .next (ledgerAdmit s)

/-- An admitted item is up when its ramp ends (R466): a domain may clock its blocks, a chain reaches STANDBY,
unless its power-down has begun meanwhile (06 R161). -/
def ledgerUp (item : Nat) (s : State) : State :=
  if s.power.ramping.any (fun a => a.item == item && decide (a.upAt ≤ s.tick10)) then
    let s1 := { s with power := { s.power with ramping := s.power.ramping.filter (fun a => a.item != item) } }
    if item < 25 then { s1 with power := { s1.power with up := s1.power.up ||| BitVec.ofNat 25 (2 ^ item) } }
    else if Tab.has s1.power.downing item then s1.modChain (item - 32) fun x => { x with powered := true }
    else s1.chainPowered (item - 32) true
  else s

def execLedgerItemUp (item : Nat) (s : State) : Host.Outcome State Fault Refusal := .next (ledgerUp item s)

/-- An item that has waited 1 ms at the head is reported once (R467). -/
def ledgerWait (s : State) : State :=
  match s.power.queue with
  | [] => s
  | i :: _ =>
    if s.power.headPosted || s.elapsed < s.power.headSince + ms 1 then s
    else
      let (r, c) := (s.ledgerBinds i s.tick10).getD (0, 0)
      let s1 := { s with power := { s.power with headPosted := true } }
      (s1.inc ⟨0x400040, 15, 0⟩).postEvent 0xE001 (items [if i < 25 then i else i - 32, r, c])

def execLedgerHeadWait (s : State) : Host.Outcome State Fault Refusal := .next (ledgerWait s)

/-- A chain or domain whose switches have opened over the ramp is down (R161, R464). -/
def powerDowned (item : Nat) (s : State) : State :=
  match Tab.get? s.power.downing item with
  | some t =>
    if s.elapsed * 5 < t * 5 + itemRamp item * 3 then s
    else
      let s1 := { s with power := { s.power with
        downing := Tab.del s.power.downing item
        ramping := s.power.ramping.filter (fun a => a.item != item) } }
      if item < 25 then { s1 with power := { s1.power with up := s1.power.up &&& ~~~(BitVec.ofNat 25 (2 ^ item)) } }
      else s1.chainPowered (item - 32) false
  | none => s

def execPowerDownComplete (item : Nat) (s : State) : Host.Outcome State Fault Refusal := .next (powerDowned item s)

/-- The mode's power ceiling in mW (05 R145). -/
def ceilingMw (mode : Nat) : Nat := [135000, 120000, 110000, 125000, 45000, 900].getD mode 135000

/-- The rails measured on die with their nominal voltage in 0.01 V (R462). -/
def measuredRails : List (Nat × Nat) := [(3, 75), (4, 80), (5, 80), (8, 90), (9, 120), (10, 120), (13, 330)]

/-- Package power of the last 1 ms and its 10 ms mean, and the power condition (R469, R471); none in the reset state. -/
def powerSampled (amps : List Nat) (s : State) : State :=
  if s.boot.state == .reset then s else
  let meas := (measuredRails.zip amps).map fun ((_, v), a) => v * a / 10
  let est := ([6, 7, 11, 12].map fun r => Tab.getD s.power.estimates r 0 * 100).sum
  let mw := meas.sum + est
  let p := s.power
  let smp := lastN10 (p.samples ++ [mw])
  let avg := smp.sum / smp.length
  let holds := decide (ceilingMw s.limitMode < avg) && s.dormant.seq == .none
  let cur := (measuredRails.zip amps).foldl (fun t ((r, _), a) => Tab.put t r a) p.currents
  let l3 := if holds && s.throttle = 3 then some (p.level3From.getD s.elapsed) else none
  let s1 := { s with power := { p with
    mw := mw, samples := smp, currents := cur, powerHolds := holds
    powerFrom := if holds = p.powerHolds then p.powerFrom else s.elapsed
    level3From := l3, ceilingPosted := p.ceilingPosted && l3.isSome } }
  match l3 with
  | some t =>
    if s.elapsed < t + ms 1000 || p.ceilingPosted then s1
    else { s1 with power := { s1.power with ceilingPosted := true } }.postEvent 0xE007 (items [s.grid.mode, avg])
  | none => s1
where
  lastN10 (l : List Nat) : List Nat := l.drop (l.length - 10)

def execPowerSample (amps : List Nat) (s : State) : Host.Outcome State Fault Refusal := .next (powerSampled amps s)

/-- T_THROTTLE in force in °C: the register, or 105 before the records are applied (R476). -/
def State.tThrottle (s : State) : Nat := if s.get ⟨0x400030, 7, 0⟩ = 0 then 105 else s.get ⟨0x400030, 7, 0⟩

/-- T_TRIP in force in °C. -/
def State.tTrip (s : State) : Nat := if s.get ⟨0x400030, 15, 8⟩ = 0 then 115 else s.get ⟨0x400030, 15, 8⟩

/-- The highest reading and its sensor. -/
def hottest (l : List Int) : Int × Nat :=
  (l.foldl (fun (acc : (Int × Nat) × Nat) t =>
    (if acc.2 = 0 || decide (acc.1.1 < t) then (t, acc.2) else acc.1, acc.2 + 1)) ((0, 0), 0)).1

/-- The sensors are read (R470): the thermal condition with its hysteresis (R471), the trip at T_TRIP (R472), and after
a trip the cold boot once the Nightwatch sensor is below T_THROTTLE − 10 °C; a device in its reset state reads none else. -/
def tempSampled (temps : List Int) (s : State) : State :=
  let (tj, sensor) := hottest temps
  if s.boot.wait == .cooldown then
    if s.boot.resetN && decide (temps.getD 22 0 < 4 * ((s.power.tripThrottle : Int) - 10)) then
      if s.boot.pwrOk then { s with boot := { s.boot with wait := .resetN } }.startQualify
      else { s with boot := { s.boot with wait := .pwrOk } }
    else s
  else if s.boot.state == .reset then s
  else
    let t4 : Int := 4 * s.tThrottle
    let holds := if s.power.thermalHolds then decide (t4 - 20 ≤ tj) else decide (t4 ≤ tj)
    let s1 := { s with power := { s.power with
      temps := temps, tj := tj, sensor := sensor, thermalHolds := holds, tripThrottle := s.tThrottle
      thermalFrom := if holds = s.power.thermalHolds then s.power.thermalFrom else s.elapsed } }
    if decide (4 * (s.tTrip : Int) ≤ tj) then
      let s2 := (s1.postEvent 0xE003 (items [sensor, sItem tj])).deviceFaultWith 0x10 sensor
      { s2 with power := { s2.power with tripThrottle := s.tThrottle } }
    else s1

def execTempSample (temps : List Int) (s : State) : Host.Outcome State Fault Refusal := .next (tempSampled temps s)

/-- A level moves after 10 ms with its condition or 100 ms without (R471); event 0xE002 at each change of the throttle. -/
def throttleTimer (thermal : Bool) (s : State) : State :=
  let p := s.power
  let holds := if thermal then p.thermalHolds else p.powerHolds
  let from_ := if thermal then p.thermalFrom else p.powerFrom
  let lv := if thermal then p.thermalLevel else p.powerLevel
  if s.dormant.seq != .none || s.elapsed < from_ + (if holds then ms 10 else ms 100) then s
  else
    let nl := if holds then Nat.min 3 (lv + 1) else lv - 1
    let s1 := if thermal then { s with power := { p with thermalLevel := nl, thermalFrom := s.elapsed } }
      else { s with power := { p with powerLevel := nl, powerFrom := s.elapsed } }
    if s1.throttle = s.throttle then s1
    else
      let s2 := if s.throttle < s1.throttle then s1.inc ⟨0x400040, 23, 16⟩ else s1
      s2.postEvent 0xE002 (items [s.throttle, s1.throttle, s1.power.powerLevel, s1.power.thermalLevel, sItem p.tj])

def execThrottleLevelTimer (thermal : Bool) (s : State) : Host.Outcome State Fault Refusal :=
  .next (throttleTimer thermal s)

/-- Release a held unit (R473): its count of faults starts again from zero and it re-enters service under 05 R136.
Cause 0 host, 1 HOLD_RELEASE. -/
def State.releaseUnit (s : State) (u : FUnit) (cause : Nat) : State :=
  let x := s.unit u.idx
  if x.held.isNone then s
  else
    let s1 := (s.setUnit u.idx { x with held := none, faults := [] }).put (holdBit u) 0
    (s1.postEvent 0xE005 (items [u.kind, u.index, cause])).reenter u

/-- A write of ones to the hold registers (R473, R479). -/
def holdWrite (r : Requester) (hf : Bool) (v : Word) (s : State) : State :=
  s.access r (if hf then 0x400038 else 0x400034) fun s =>
    (List.range (if hf then 16 else 26)).foldl (fun s i =>
      if v.getLsbD i then s.releaseUnit (if hf then .func i else unitOf i) 0 else s) s

def execPwrHoldReleaseWrite (r : Requester) (hf : Bool) (v : Word) (s : State) : Host.Outcome State Fault Refusal :=
  .next (holdWrite r hf v s)

/-- HOLD_RELEASE seconds of NT, or of FR while NT is not valid, have passed (R473); 0 never releases. -/
def holdTimer (u : FUnit) (s : State) : State :=
  let n := s.get ⟨0x400030, 31, 16⟩ * 1000000000
  match (s.unit u.idx).held with
  | some (nt, fr) =>
    let due := match nt with
      | some t => if s.ntValid then decide (t + n ≤ s.ntNs) else decide (fr + n ≤ s.frNs)
      | none => decide (fr + n ≤ s.frNs)
    if n ≠ 0 && due then s.releaseUnit u 1 else s
  | none => s

def execHoldReleaseTimer (u : FUnit) (s : State) : Host.Outcome State Fault Refusal := .next (holdTimer u s)

end Sys2Proof.Machine
end

