-- ==== Sys2Proof/Machine/ReadOps.lean ====
section
/-! DEFINITION. Register access: who reaches an address, what a register that shows live state reads as, and the
snapshot pairs (00 R7 to R12, 12 R371, 13 R375, R411 to R413, and the register tables of the chapters). -/

namespace Sys2Proof.Machine

/-! ## Addresses (R9, R11, R12) -/

/-- The address in the physical function's map that an address of function f's window stands for (13 R375). -/
def State.windowAddr (s : State) (f a : Nat) : Option Nat :=
  if a < 0x10000 then some (hqBase f + a)
  else if a < 0x20000 then (s.pages.find? (·.owner == f)).map fun (p : Page) => pageBase p.page + (a - 0x10000)
  else none

/-- Whether a requester of the map reaches a register; an address that is not listed reads 0 for everyone (00 R9): key pages and worker bindings are the physical function's,
CPH_STATUS and the TSK block also the CPU cluster's (12 R371, 13 R412, R413). -/
def reaches (r : Requester) (a : Nat) : Bool :=
  if (rowAt a).isNone then true
  else if 0x2800000 ≤ a && a < 0x2900000 then r == .pf
  else if 0x2900000 ≤ a && a < 0x3000000 then r == .pf || r == .cpu
  else if 0x3100000 ≤ a && a < 0x3400000 then r == .pf
  else true

/-- The block of an address is gated (02 R54); the whole TL block is on the Z7-3 (00 R2). -/
def State.addrGated (s : State) (a : Nat) : Bool :=
  if s.isZ73 && 0x3800000 ≤ a && a < 0x3C00000 then true
  else if 0x3C00000 ≤ a then s.dmcGated else match gateBlock a with | some b => s.gated b | none => false

/-- The address in the map that an access goes to, or how it is refused (00 R7, R9, R12, 02 R45, R54, 03 R90; log 132). `clockOf` is the
address whose block's clock counts. -/
def State.resolve (s : State) (r : Requester) (width a : Nat) (clockOf : Nat → Nat) : Except Answer Nat :=
  let check := fun (n : Nat) => if !s.boot.refReady || s.addrGated (clockOf n) then Except.error (denied r) else Except.ok n
  match r with
  | .debug =>
    if s.fuses.debugLock then Except.error .absent
    else if width ≠ 32 || a % 4 ≠ 0 || !inBlock a || !reaches r a then Except.error (denied r) else check a
  | .bar2 _ => .error .abort
  | .vf f =>
    if width ≠ 32 || a % 4 ≠ 0 then Except.error (denied r)
    else match s.windowAddr f a with
      | some n => check n
      | none => Except.error (denied r)
  | _ => if width ≠ 32 || a % 4 ≠ 0 || !inBlock a || !reaches r a then Except.error (denied r) else check a

/-! ## BAR2: the MSI-X table and pending bits (13 R375, R388) -/

/-- An access to function f's BAR2 is served: an aligned word inside it, of an enabled function whose block's clock runs. -/
def State.bar2Ok (s : State) (f width a : Nat) : Bool :=
  width == 32 && a % 4 == 0 && decide (a < 65536) && s.fnEnabled f && s.boot.refReady && !s.gated 13

/-- A word of BAR2. -/
def State.bar2Word (s : State) (f a : Nat) : Word :=
  if a < 16 * vecCount f then s.msixWord f a
  else if 0x8000 ≤ a && a < 0x8000 + vecCount f / 8 then
    BitVec.ofNat 32 (bitMap 32 fun i => s.host.msixPend.contains (f, 8 * (a - 0x8000) + i))
  else 0

/-- A write to BAR2: a table entry's address is aligned to 4 B and its control keeps the mask alone; a pending vector that the
write unmasks is sent (R388). -/
def State.bar2Put (s : State) (f a : Nat) (v : Word) : State :=
  if 16 * vecCount f ≤ a then s
  else
    let w := if a % 16 = 0 then v &&& 0xFFFFFFFC#32 else if a % 16 = 12 then v &&& 1#32 else v
    let s1 := { s with host := { s.host with msixTab := Tab.put s.host.msixTab (f * 65536 + a) w } }
    if s1.host.msixPend.contains (f, a / 16) && !s1.vecMasked f (a / 16) then
      ({ s1 with host := { s1.host with msixPend := s1.host.msixPend.filter (· != (f, a / 16)) } }).raiseVector f (a / 16)
    else s1

/-! ## Selectors that each requester holds (12 R371, 13 R413) -/

/-- Key of a word that each requester has of its own. -/
def ownKey (r : Requester) (a : Nat) : Nat := reqIdx r * 2 ^ 26 + a

/-- Registers held separately for each requester: CPH_Pp_SLOT_SEL, TSK_QSTAT_SEL and TSK_CSTAT_SEL. -/
def ownSelector (a : Nat) : Bool :=
  (decide (0x2800000 ≤ a) && decide (a < 0x2900000) && a % 0x10000 == 0x10) || a == 0x2C01000 || a == 0x2C01020

/-- A requester's selector; CPH_Pp_SLOT_SEL starts at BASE. -/
def State.selector (s : State) (r : Requester) (a : Nat) : Nat :=
  ((Tab.get? s.sels (ownKey r a)).map BitVec.toNat).getD
    (if a < 0x2900000 then (s.page ((a - 0x2800000) / 0x10000)).base else 0)

/-! ## Live values -/

/-- Fields as (value, lowest bit). -/
def pack (l : List (Nat × Nat)) : Nat := (l.map fun e => e.1 * 2 ^ e.2).sum

/-- A count that saturates at n bits. -/
def sat (n v : Nat) : Nat := Nat.min v (2 ^ n - 1)

/-- A signed count that saturates at 32 bits. -/
def sat32 (i : Int) : Nat := unsigned 32 (clampS 32 i)

/-- GCTL (03 R101). -/
def State.liveGctl (s : State) (a : Nat) : Option Nat :=
  let stat := fun (x : SlotStat) => pack [(x.status, 0), (b2n x.valid, 8)]
  if a = 0x4 then some (pack [(0xB1, 0), (b2n s.isZ73, 8), (b2n s.fuses.debugLock, 9)])
  else if a = 0x8 then
    some (pack [(s.boot.state.code, 0), (s.boot.active.getD 3, 4), (s.boot.bootmode.toNat, 6), (s.boot.lastStatus, 8)])
  else if a = 0x14 then some (bitMap 14 fun n => decide (4 ≤ n) && s.boot.rejected.contains n)
  else if a = 0x20 then some (stat s.boot.slotA)
  else if a = 0x24 then some s.boot.slotA.seq
  else if a = 0x28 then some (stat s.boot.slotB)
  else if a = 0x2C then some s.boot.slotB.seq
  else if a = 0x30 then
    some (pack [(s.fuses.rollback, 0), (s.fuses.keyState, 8), (b2n (s.fuses.slots.all fun k => !k.programmed), 16)])
  else if a = 0x34 then
    some (pack [(s.flash.devices, 0), (if s.boot.flashError then 3 else s.flash.density / 1024, 2), (b2n s.flash.ok, 4)])
  else if a = 0x38 then some s.log.ptr
  else if a = 0x3C then some s.log.seq
  else if 0x40 ≤ a && a < 0x60 then some (leNat (slice (ed25519Public s.fuses.idSeed) (a - 0x40) 4))
  else none

/-- CKR (02 R69). -/
def State.liveCkr (s : State) (a : Nat) : Option Nat :=
  if a = 0x100000 then some (pack [(s.boot.refsel.toNat, 0), (s.boot.clkq.toNat, 2)])
  else if a = 0x100004 then
    some (pack [(b2n s.boot.refReady, 0), (b2n s.boot.rootReady, 1), (bitMap 8 fun d => s.clocks.onRoot.getD d false, 2)])
  else if 0x100040 ≤ a && a < 0x100060 then
    let d := (a - 0x100040) / 4
    some ((s.reg a).toNat + pack [(b2n (s.clocks.onRoot.getD d false), 0), (b2n (Tab.has s.clocks.switching d), 24)])
  else if 0x100100 ≤ a && a < 0x100180 && a % 16 = 4 then
    some ((s.reg a).toNat + pack [(b2n (s.clocks.fcBusy.contains ((a - 0x100100) / 16)), 8)])
  else none

/-- MT state code (04 R128). -/
def MtState.code : MtState → Nat
  | .notStarted => 0 | .steered => 1 | .holdover => 2

/-- TIME (04 R128). A re-anchor of MT is no longer PENDING once its boundary has passed, while MT waits for the mesh superframe start
(log 160). -/
def State.liveTime (s : State) (a : Nat) : Option Nat :=
  let t := s.time
  if a = 0x200000 then
    some (pack [(s.ntStateCode, 0), (b2n s.ntValid, 3), (t.active.getD 0, 4), (b2n (t.stepPending.isSome || Tab.has t.reanchors 0), 6), (s.holdAge, 16)])
  else if a = 0x200020 then some (unsigned 32 t.rate)
  else if a = 0x200024 then some (sat32 (ns16 t.lastOffset))
  else if a = 0x200030 then some ((s.reg a).toNat + pack [(b2n !t.reanchors.isEmpty, 16)])
  else if a = 0x200068 then some t.mtState.code
  else if a = 0x20006C then some (sat32 t.mtDiff)
  else none

/-- COMMIT_STATE; 4 while a Dormant sequence runs (05 R143, R154). -/
def State.commitCode (s : State) : Nat :=
  if s.dormantRunning then 4
  else match s.commit.state with | .idle => 0 | .arming => 1 | .committed => 2 | .copying => 3

/-- MER (05 R154). -/
def State.liveMer (s : State) (a : Nat) : Option Nat :=
  let c := s.commit
  if a = 0x300000 then
    some (pack [(s.grid.mode, 0), (b2n c.stageOpen, 3), (s.grid.sfLen, 4), (b2n (s.limitMode == 1), 6), (s.commitCode, 8)])
  else if a = 0x300004 then some s.grid.phase
  else if a = 0x300024 then some (pack [(c.result, 8), (Nat.min 3 c.deferrals, 16)])
  else if a = 0x300030 then some c.part.toNat
  else if a = 0x300034 then some c.armed.toNat
  else if a = 0x300038 then some c.notArmed.toNat
  else if a = 0x30003C then some c.excluded.toNat
  else if 0x300040 ≤ a && a < 0x300050 then some (causeWord c.causes ((a - 0x300040) / 4))
  else if a = 0x300060 then some ((s.reg a).toNat + pack [(c.dormantResult, 16), (s.dormant.lastWake, 24)])
  else if a = 0x300074 then some (s.chain (s.reg 0x300070).toNat).credit
  else none

/-- CST (09 R264). -/
def State.liveCst (s : State) (a : Nat) : Option Nat :=
  let x := s.member (s.reg 0x301010).toNat
  let session := match x.session with | .idle => 0 | .joining => 1 | .active => 2
  let act := s.cstActive
  if a = 0x301000 then
    some (pack [(b2n s.cstInService, 0), (b2n s.cstJoined, 1), (s.cstOwn, 2), (act.length, 8), (s.cst.lastReject, 16)])
  else if a = 0x301004 then some (bitMap 32 act.contains)
  else if a = 0x301008 then some (bitMap 32 fun m => act.contains m && (s.member m).status == 0)
  else if a = 0x30100C then some (bitMap 32 fun m => act.contains m && (s.member m).status != 0)
  else if a = 0x301014 then some (pack [(session, 0), (x.status, 2), (b2n x.peerHoldover, 5), (sat 8 x.misses, 8)])
  else if a = 0x301018 then some (sat32 x.offset)
  else if a = 0x30101C then some (pack [(s.cst.result, 8), (b2n s.cst.left, 16)])
  else if a = 0x30102C then some s.cst.foreign.length
  else none

/-- PWR (16 R479). -/
def State.livePwr (s : State) (a : Nat) : Option Nat :=
  let p := s.power
  let rail := (s.reg 0x400020).toNat % 16
  if a = 0x400000 then
    some (pack [(b2n p.boardRecord, 0), (b2n p.dormantReq, 1), (s.throttle, 2), (p.powerLevel, 4), (p.thermalLevel, 6),
      (Nat.min 256 p.queue.length, 8)])
  else if a = 0x400004 then some p.up.toNat
  else if a = 0x400008 then some (p.mw % 2 ^ 20)
  else if a = 0x40000C then some (p.samples.sum / Nat.max 1 p.samples.length % 2 ^ 20)
  else if a = 0x400010 then some (pack [(unsigned 11 p.tj, 0), (p.sensor, 16)])
  else if a = 0x400018 then some (unsigned 11 (p.temps.getD (s.reg 0x400014).toNat 0))
  else if a = 0x400024 then some (pack [((s.railLimit rail).1, 0), ((s.railLimit rail).2, 16)])
  else if a = 0x400028 then some (pack [(Tab.getD p.currents rail 0 % 65536, 0), (Tab.getD p.peaks rail 0 % 65536, 16)])
  else none

/-- Integrated groups of a radio. -/
def groupsIn (r : Nat) : Nat := if r = 0 then 1 else 2

/-- Chain state code (06 R167). -/
def ChainState.code : ChainState → Nat
  | .off => 0 | .standby => 1 | .rx => 2 | .tx => 3 | .cal => 4

/-- FE_x_CHAIN_STAT_c (06 R181). -/
def State.chainStat (s : State) (i : Nat) : Nat :=
  let x := s.chain i
  let age := match x.coefAt with
    | some t => sat 16 ((s.elapsed - t) / ms 1)
    | none => 65535
  pack [(x.state.code, 0), (b2n x.blocked, 3), (s.calStatus i, 4), (b2n (decide (1000000000 ≤ x.count)), 6), (x.vswr, 8),
    (age, 16)]

/-- FE (06 R181); a register of an absent chain reads 0. -/
def State.liveFe (s : State) (r o : Nat) : Option Nat :=
  let g := fun (p : SynSt → Bool) => bitMap (groupsIn r) fun k => p (s.syn r k)
  let there := fun (c : Nat) => decide (c < s.chainCount r)
  if o = 0x0 then
    some (pack [(g fun x => x.active == 1, 0), (g fun x => x.locked, 5), (g fun x => x.idle == .shadow, 10),
      (g fun x => x.idle == .pretuned, 15), (b2n (s.radio r).cal.isSome, 20)])
  else if o = 0x1C then some (bitMap 32 fun c => there c && (s.chain (chainBase r + c)).blocked)
  else if o = 0x20 then some (bitMap 32 fun c => there (32 + c) && (s.chain (chainBase r + 32 + c)).blocked)
  else if o = 0x24 then some ((s.radio r).ref.getD 0)
  else if 0x1000 ≤ o && o < 0x1100 then if there ((o - 0x1000) / 4) then none else some 0
  else if 0x2000 ≤ o && o < 0x2100 then
    some (if there ((o - 0x2000) / 4) then s.chainStat (chainBase r + (o - 0x2000) / 4) else 0)
  else if 0x3000 ≤ o && o < 0x3100 then
    some (if there ((o - 0x3000) / 4) then (s.chain (chainBase r + (o - 0x3000) / 4)).count else 0)
  else none

/-- The active cost of a radio in eighths (07 R185). -/
def State.activeCost (s : State) (r : Nat) : Nat := (s.chainSet r).length * chainCost (s.chanWidth r)

/-- Receiver state code (07 R190). -/
def RxState.code : RxState → Nat
  | .search => 0 | .preamble => 1 | .data => 2 | .tb => 3

/-- BB (07 R206). -/
def State.liveBb (s : State) (r o : Nat) : Option Nat :=
  if o = 0x0 then
    some (pack [((s.radio r).rx.state.code, 0), (b2n (s.radio r).explicit, 2), (s.validPct r, 8)])
  else if o = 0x18 then some (pack [(s.activeCost r, 0), (s.activeCost 0 + s.activeCost 1 + s.activeCost 2, 16)])
  else none

/-- MAC (08 R239). -/
def State.liveMac (s : State) (r o : Nat) : Option Nat :=
  if o = 0x0 then
    some (pack [(b2n (s.mac.dual.contains r), 0), ((s.mac.stas.filter fun e => (e.2.linkOn r).isSome).length, 1),
      ((s.flowsOf r).length, 16)])
  else if o = 0x4 then some (pack [(s.mac.stas.length, 0), (if (s.recsOf 0x0301).isEmpty then 0 else staLimit s.limitMode, 16)])
  else none

/-- NW (10 R299). -/
def State.liveNw (s : State) (a : Nat) : Option Nat :=
  let m := s.mesh
  let st := match m.state with | .reset => 0 | .alone => 1 | .bridged => 2 | .recovering => 3
  let rx := match m.rx with | .search => 0 | .preamble => 1 | .header => 2 | .payload => 3
  if a = 0x2000000 then some (pack [(st, 0), (rx, 2), (b2n s.rxSave, 4), (b2n (s.time.mtState != .notStarted), 5)])
  else if a = 0x2000010 then some m.bsn
  else if a = 0x2000020 then some (pack [(s.upCells, 0), (s.downCells, 16)])
  else if a = 0x2000024 then some (pack [(m.replay.length, 0), (m.routers.length, 16)])
  else if a = 0x2000034 then some (s.ledgerSum ((s.reg 0x2000030).toNat % 4) (bucketOf s.frNs) / 36000)
  else none

/-- PKT (11 R347). -/
def State.livePkt (s : State) (a : Nat) : Option Nat :=
  let p := s.pkt
  let w := (Tab.getD p.watches ((s.reg 0x2400700).toNat % 64) {}).last
  if a = 0x2400000 then some (b2n (s.inService .pkt))
  else if a = 0x2400004 then some s.sramCells
  else if a = 0x2400018 then some p.flows.length
  else if a = 0x240001C then some s.lpmUsed
  else if a = 0x2400020 then some (pack [(p.fdb.length, 0), (p.nextHops.length, 17)])
  else if a = 0x2400504 then some p.captured.1
  else if a = 0x2400508 then some (pack [(sat 16 p.captured.2.1, 0), (sat 16 (p.captured.2.2 / 1000), 16)])
  else if a = 0x2400704 then some (sat 32 w.maxDepth)
  else if a = 0x2400708 then some (sat 32 w.maxSoj)
  else none

/-- CPH (12 R371), for a requester. -/
def State.liveCph (s : State) (r : Requester) (a : Nat) : Option Nat :=
  let keyed := (s.cipher.slots.filter fun e => e.2.cur.isSome).length
  if a = 0x2900000 then some (pack [(b2n (s.inService .cipher), 0), (s.cipher.ops.length, 1), (keyed, 12)])
  else if a < 0x2900000 then
    let g := s.page ((a - 0x2800000) / 0x10000)
    let o := a % 0x10000
    let x := s.slot (s.selector r (pageBase g.page + 0x10))
    if o = 0x0 then some (pack [(g.owner, 0), (g.suites, 4)])
    else if o = 0x4 then some (pack [(g.base % 2 ^ 14, 0), (g.count, 16)])
    else if o = 0x10 then some (s.selector r a)
    else if o = 0x14 then
      let st := if x.erasing.isSome then 2 else if x.cur.isSome then 1 else 0
      some (pack [(st, 0), (b2n x.ret.isSome, 2), (b2n (x.cur.any (·.locked)), 3), (b2n (x.cur.any (·.warned)), 4),
        (x.cur.elim 0 (·.suite), 8), (x.cur.elim 0 (·.gen) % 65536, 16)])
    else none
  else none

/-- TSK (13 R413), for a requester. -/
def State.liveTsk (s : State) (r : Requester) (a : Nat) : Option Nat :=
  let t := s.tasks
  let q := Tab.getD t.qLast (s.selector r 0x2C01000) {}
  let c := Tab.getD t.cLast (s.selector r 0x2C01020) {}
  if a = 0x2C00000 then some (pack [(b2n (!s.gated 12), 0), (t.items.length, 1)])
  else if a = 0x2C00004 then some (t.items.filter fun e => e.2.holder.isSome).length
  else if a = 0x2C01000 || a = 0x2C01020 then some (s.selector r a)
  else if a = 0x2C01004 then some q.maxDepth
  else if a = 0x2C01008 then some (sat 32 (q.maxWait / us 1))
  else if a = 0x2C0100C then some (sat 32 q.nIn)
  else if a = 0x2C01010 then some (sat 32 q.nOut)
  else if a = 0x2C01014 then some (sat 32 q.nDrop)
  else if a = 0x2C01024 then some (sat 32 c.deliv)
  else if a = 0x2C01028 then some (pack [(c.idle % 1024, 0), (sat 16 c.heldMax, 16)])
  else none

/-- HQ (13 R411, R412). -/
def State.liveHq (s : State) (a : Nat) : Option Nat :=
  if a = 0x3100000 then some (pack [(s.host.speed, 0), (s.host.width, 3)])
  else if a = 0x3100004 then some ((s.reg a).toNat / 65536 % 16 * 65536 + s.host.vfEn % 65536)
  else if a < 0x3100000 then
    let f := (a - 0x3000000) / 0x10000
    let o := a % 0x10000
    if o = 0x0 then
      some (pack [(b2n (s.fnEnabled f), 0), (b2n (s.host.faulted.contains f), 1), (b2n (s.eclipsing f), 2),
        ((s.host.cmds.filter fun c => c.fn == f).length, 4)])
    else if 0x400 ≤ o && o < 0x600 && o % 0x20 = 0x10 then some (s.ring (ringKey f 0 ((o - 0x400) / 0x20))).tail
    else if 0xC00 ≤ o && o < 0x1000 && o % 16 = 8 then
      let w := (o - 0xC00) / 16
      some (if s.wkBound f w then
        pack [(1, 0), (s.workerRq w, 1), (sat 12 (s.askOf (16 + w)).pending, 8), (sat 12 (s.heldBy (16 + w)), 20)] else 0)
    else none
  else none

/-- CU_SPEED or the links of a port (14 R442). -/
def State.portStatus (s : State) (p : Nat) : Nat :=
  let up := fun (b : Nat) => Tab.has s.eth.links b
  let cu := if p < 2 then 0 else Tab.getD s.eth.links (6 + p) 0
  pack [(((subsOf p).filter up).foldl (fun a b => a + 2 ^ (portOf b).2) 0, 0),
    (b2n ((s.unit (15 + p)).phase == .recovering), 4), (if cu ≤ 4 then cu else 0, 5)]

/-- ETH (14 R442). -/
def State.liveEth (s : State) (a : Nat) : Option Nat :=
  let p := (a - 0x3400000) / 0x10000
  let o := a % 0x10000
  if 3 < p then none
  else if o = 0x4 then some (s.portStatus p)
  else if 0x50 ≤ o && o < 0x60 then
    let sub := if p < 2 then 4 * p + (o - 0x50) / 4 else 6 + p
    some (if 2 ≤ p && o ≠ 0x50 then 0 else
      pack [(Tab.getD s.eth.txSa sub 0 % 2 ^ 14, 0), (b2n (s.macsec sub).isSome, 14),
        (b2n ((s.macsec sub).any fun (b : List Byte) => bitOf (fieldLE b 1 1) 2), 15),
        ((s.eth.rxSa.filter fun e => e.1 / 16 == sub).length, 16)])
  else none

/-- Tile Link state code (14 R436). -/
def TileState.code : TileState → Nat
  | .down => 0 | .training => 1 | .up => 2 | .test => 3 | .recovering => 4

/-- TL (14 R443). -/
def State.liveTl (s : State) (a : Nat) : Option Nat :=
  let k := (a - 0x3800000) / 0x10000
  let o := a % 0x10000
  let x := s.tile k
  let lock := match x.lock with | some t => decide (s.elapsed ≤ t + us 100) | none => false
  if 11 < k then none
  else if o = 0x0 then
    some (pack [(x.state.code, 0), (x.blockLock % 32, 3), (b2n lock, 8), (b2n x.pretuned, 9), (x.cause, 16)])
  else if o = 0x4 then some ((s.reg a).toNat + pack [(x.result, 8)])
  else if o = 0x10 then some (pack [(x.counts % 2 ^ 24, 0), (x.profile % 256, 24)])
  else if o = 0x14 then some x.dtx
  else if o = 0x18 then some x.drx
  else if o = 0x1C then some (leNat (slice x.id 0 4))
  else if o = 0x20 then some (leNat (slice x.id 4 4))
  else if 0x40 ≤ o && o < 0x54 then some (x.eq.getD ((o - 0x40) / 4) 0 % 2 ^ 29)
  else none

/-- DMC (15 R461). -/
def State.liveDmc (s : State) (a : Nat) : Option Nat :=
  let faulted := fun (c : Nat) => (s.dch c).retraining || (s.unit (21 + c)).phase == .recovering
  let e := s.dram.log[(s.reg 0x3C000A0).toNat % 16]?
  if a = 0x3C00000 then
    some (pack [(bitMap 4 fun c => (s.dch c).trained, 0), (bitMap 4 fun c => (s.dch c).selfRefresh, 4), (bitMap 4 faulted, 8),
      (b2n s.dram.slow, 12), (b2n s.z5Order, 13)])
  else if 0x3C00040 ≤ a && a < 0x3C00060 then
    some ((s.reg a).toNat % 65536 + sat 16 (Tab.getD s.dram.latLast ((a - 0x3C00040) / 4) 0) * 65536)
  else if 0x3C00090 ≤ a && a < 0x3C000A0 then
    let x := s.dch ((a - 0x3C00090) / 4)
    some (pack [(unsigned 8 x.drift, 0), (bitsOf (s.reg a).toNat 15 8, 8), (x.pauseMax, 16)])
  else if a = 0x3C000A4 then
    some (e.elim 0 fun e =>
      pack [(e.channel, 0), (e.rank, 2), (e.subch, 3), (e.bank, 4), (e.row % 2 ^ 18, 8), (e.port, 26)])
  else if a = 0x3C000A8 then some (e.elim 0 fun e => pack [(e.column % 65536, 0), (e.symbols, 16)])
  else if a = 0x3C000AC then some (e.elim 0 fun e => e.time.toNat % 2 ^ 32)
  else if a = 0x3C000B0 then some (e.elim 0 fun e => e.time.toNat / 2 ^ 32)
  else if a = 0x3C000B4 then some s.dram.written
  else none

/-- What a register shows of live state, or none where the stored word is what it reads as. -/
def State.live (s : State) (r : Requester) (a : Nat) : Option Nat :=
  if a < 0x100000 then s.liveGctl a
  else if a < 0x200000 then s.liveCkr a
  else if a < 0x300000 then s.liveTime a
  else if a < 0x301000 then s.liveMer a
  else if a < 0x400000 then s.liveCst a
  else if a < 0x1000000 then s.livePwr a
  else if a < 0x1400000 then s.liveFe ((a - 0x1000000) / 0x100000) (a % 0x100000)
  else if a < 0x1800000 then s.liveBb ((a - 0x1400000) / 0x100000) (a % 0x100000)
  else if a < 0x1C00000 then s.liveMac ((a - 0x1800000) / 0x100000) (a % 0x100000)
  else if a < 0x2400000 then s.liveNw a
  else if a < 0x2800000 then s.livePkt a
  else if a < 0x2C00000 then s.liveCph r a
  else if a < 0x3000000 then s.liveTsk r a
  else if a < 0x3400000 then s.liveHq a
  else if a < 0x3800000 then s.liveEth a
  else if a < 0x3C00000 then s.liveTl a
  else s.liveDmc a

/-! ## Snapshot pairs (R10) -/

/-- The whole value that a read of the FIELD_LO at an address captures, or none where the address is no such register. -/
def State.pairValue (s : State) (r : Requester) (a : Nat) : Option Nat :=
  if a = 0x60 then some (s.boot.firstBeacon.elim 0 BitVec.toNat)
  else if 0x100100 ≤ a && a < 0x100180 && a % 16 = 8 then some (Tab.getD s.clocks.fcCount ((a - 0x100100) / 16) 0 % 2 ^ 40)
  else if a = 0x200008 then some s.nt64.toNat
  else if a = 0x200010 then some (s.ntNs / 1000000000 % 2 ^ 48)
  else if a = 0x200040 || a = 0x200048 || a = 0x200050 then some (s.time.tsfBase.getD ((a - 0x200040) / 8) 0).toNat
  else if a = 0x200060 then some s.mt64.toNat
  else if a = 0x200070 then some (s.frNs % 2 ^ 64)
  else if a = 0x200078 then some s.time.ppsInNT.toNat
  else if a = 0x300008 then some (if s.ntValid then s.nextBoundary % 2 ^ 64 else 0)
  else if a = 0x300010 then some s.commit.last.toNat
  else if 0x1400000 ≤ a && a < 0x1700000 && a % 0x100000 = 0x30 then some (s.get64 a)
  else if 0x1800000 ≤ a && a < 0x1B00000 && a % 0x100000 = 0x820 then some (s.get64 a)
  else if a = 0x2000008 then some (s.mesh.anchor % 2 ^ 64)
  else if a = 0x2000018 then some s.mesh.epoch.toNat
  else if a = 0x2000060 then some (s.get64 a)
  else if a = 0x2400714 then some (Tab.getD s.pkt.hits ((s.reg 0x2400710).toNat % 8192) 0 % 2 ^ 64)
  else if a = 0x2400830 then some (s.get64 a)
  else if 0x2800000 ≤ a && a < 0x2900000 && a % 0x10000 = 0x18 then
    some (((s.slot (s.selector r (a - 8))).cur.elim 0 (·.tx)) % 2 ^ 64)
  else if 0x3000000 ≤ a && a < 0x3100000 && a % 0x10000 = 0x1008 then some (s.get64 a)
  else if 0x3400000 ≤ a && a < 0x3440000 && 0x200 ≤ a % 0x10000 && a % 0x10000 < 0x240 && a % 8 = 0 then some (s.get64 a)
  else if 0x3800000 ≤ a && a < 0x38C0000 && 0x80 ≤ a % 0x10000 && a % 0x10000 < 0xA8 && a % 8 = 0 then
    let x := s.tile ((a - 0x3800000) / 0x10000)
    if x.state == .test then some (Config.free 48 s.fresh).toNat
    else some (x.prbs.getD ((a % 0x10000 - 0x80) / 8) 0 % 2 ^ 48)
  else none

/-- Set a requester's capture. -/
def State.setCap (s : State) (r : Requester) (a v : Nat) : State :=
  { s with caps := Tab.put s.caps (ownKey r a) (BitVec.ofNat 32 v) }

/-- A requester's capture: 0 before any. -/
def State.cap (s : State) (r : Requester) (a : Nat) : Word := Tab.getD s.caps (ownKey r a) 0#32

/-- The address is the high half, or another part, of a captured value. -/
def State.isCapture (s : State) (r : Requester) (a : Nat) : Bool :=
  (decide (4 ≤ a) && (s.pairValue r (a - 4)).isSome) || a == 0x200018 || a == 0x20001C

/-- A read of a FIELD_LO captures the whole value; that of TIME_NT_SEC_LO seconds, nanoseconds and fraction together
(04 R128). -/
def State.capture (s : State) (r : Requester) (a v : Nat) : State :=
  let s1 := { s.setCap r (a + 4) (v / 2 ^ 32) with
    fresh := if 0x3800000 ≤ a && a < 0x38C0000 then s.fresh + 1 else s.fresh }
  if a = 0x200010 then (s1.setCap r 0x200018 (s.ntNs % 1000000000)).setCap r 0x20001C (s.nt16 % 65536) else s1

/-- What a read of an active or staged address returns and leaves behind (00 R8 to R10, 05 R132). -/
def State.readWord (s : State) (r : Requester) (a : Nat) : Word × State :=
  match s.pairValue r a with
  | some v => (BitVec.ofNat 32 v, s.capture r a v)
  | none =>
    if s.isCapture r a then (s.cap r a, s)
    else match s.live r a, rowAt a with
      | some v, some row =>
        (row.readMask (BitVec.ofNat 32 v), if row.hasRC then s.setReg a (row.afterRead (s.reg a)) else s)
      | _, some row => (row.readMask (s.reg a), if row.hasRC then s.setReg a (row.afterRead (s.reg a)) else s)
      | _, none => match activeOf a with
        | some b => (((rowAt b).map fun row => row.readMask (s.sreg b)).getD 0#32, s)
        | none => (0#32, s)

/-- A read by a requester (R7, R8, R10, R54). -/
def State.readAt (s : State) (r : Requester) (width a : Nat) : State :=
  match r with
  | .bar2 f => { s with answer := some (if s.bar2Ok f width a then .value (s.bar2Word f a) else .abort) }
  | _ => match s.resolve r width a id with
    | .error e => { s with answer := some e }
    | .ok n =>
      let x := s.readWord r n
      { x.2 with answer := some (.value x.1) }

end Sys2Proof.Machine
end

