-- ==== Sys2Proof/Machine/Time.lean ====
section
/-! DEFINITION. The rows of the time bases (04). -/

namespace Sys2Proof.Machine

/-- A Sync exchange of the configured domain and a configured port yields an offset, with the port's asymmetry taken
off (R109, R125); a log interval outside −7 to 1 is ignored and counted. -/
def ptpMessage (port domain : Nat) (logSync srcTime : Int) (s : State) : State :=
  let r := s.recBytes 0x0201
  if !(s.srcOrder.contains 1) || !(s.clocks.onRoot.getD 4 false) || !(bitOf (fieldLE r 4 2) port) || !(s.subExists port)
      || fieldLE r 2 1 ≠ domain
  then s
  else if decide (logSync < -7) || decide (1 < logSync) then s.inc ⟨0x200028, 15, 0⟩
  else
    let asym := signed 32 (fieldLE (s.recBytes 0x0204) (4 * port) 4) * 65536 / 1000
    s.newOffset 1 (s.stampBase16 - srcTime - asym)

def execPtpMessageRx (port domain : Nat) (logSync srcTime : Int) (s : State) : Host.Outcome State Fault Refusal :=
  .next (ptpMessage port domain logSync srcTime s).meshStart

/-- The best master clock algorithm's choice (R114): a different clockIdentity clears the PTP window; where PTP is the
active source that is a change of source, and its next seed must pass R113. An ARB timescale is ignored (R109). -/
def State.newMaster (s : State) (clockId : BitVec 64) : State :=
  if s.time.gm = clockId then s
  else if s.time.gm = 0 then { s with time := { s.time with gm := clockId } }
  else
    let s1 := { s with time := { s.time with gm := clockId, ptp := { lastFR := s.time.ptp.lastFR } } }.dropStep 1
    if s.time.active = some 1 then
      let s2 := { s1 with time := { s1.time with okRun := 0 } }.postEvent 0x2005 (items [1, 1, clockId.toNat])
      if s.time.state == .locked || s.time.state == .holdover then { s2 with time := { s2.time with cand := some 1 } }
      else s2
    else s1

/-- The UTC offset and leap flags that a source sends pass through, those of the other source while one is active do not (R104,
log 142). -/
def State.passUtc (s : State) (k utc leap : Nat) : State :=
  if s.time.active.all (· == k) then { s with time := { s.time with utc := utc % 65536, leap := leap % 4 } } else s

/-- An Announce of the configured domain on a configured port that exists (R104, R109, R114, R125). -/
def ptpAnnounce (port domain : Nat) (clockId : BitVec 64) (a : Announce) (s : State) : State :=
  let r := s.recBytes 0x0201
  if a.arb || !(s.srcOrder.contains 1) || !(bitOf (fieldLE r 4 2) port) || !(s.subExists port) || fieldLE r 2 1 ≠ domain then s
  else (s.passUtc 1 a.utc a.leap).newMaster clockId

def execPtpAnnounceRx (port domain : Nat) (clockId : BitVec 64) (a : Announce) (s : State) :
    Host.Outcome State Fault Refusal := .next (ptpAnnounce port domain clockId a s)

/-- A PPS_IN edge (R111): within 999 ms of FR of the previous edge it is ignored and counted; else it is stamped. The previous
edge is the last one that was not ignored (log 145). -/
def ppsIn (s : State) : State :=
  if !(s.clocks.onRoot.getD 4 false) then s
  else match s.time.ppsLastFR with
    | some t =>
      if s.frNs < t + 999000000 then s.inc ⟨0x200028, 31, 24⟩
      else { s with time := { s.time with ppsLastFR := some s.frNs, ppsEdge := some (s.frNs, s.stampBase16) } }
    | none => { s with time := { s.time with ppsLastFR := some s.frNs, ppsEdge := some (s.frNs, s.stampBase16) } }

def execPpsInEdge (s : State) : Host.Outcome State Fault Refusal := .next (ppsIn s)

/-- Baud rate of record 0x0203 (R125). -/
def baudOf (code : Nat) : Nat :=
  [9600, 19200, 38400, 57600, 115200, 230400, 460800, 921600].getD code 115200

/-- A message that fails a check is discarded and counted, with event 0x2008 (R111): cause 0 timing, 1 SYNC, VERSION or
CRC, 2 VALID, 3 sequence. -/
def todReject (cause : Nat) (s : State) : State := (s.inc ⟨0x200028, 31, 24⟩).postEvent 0x2008 (items [cause])

/-- A time-of-day message, whole at its last stop bit (R110, R111): with its edge it yields a sample. Its fields stand low byte
first (log 144). -/
def todMessage (b : List Byte) (s : State) : State :=
  let rec3 := s.recBytes 0x0203
  let start := s.frNs - 160 * 1000000000 / baudOf (fieldLE rec3 0 1)
  let tai := fieldLE b 4 6
  if !(s.srcOrder.contains 2) then s
  else match s.time.ppsEdge with
    | none => todReject 0 s
    | some (edge, stamp) =>
      if start < edge + 10000000 || edge + 900000000 ≤ start then todReject 0 s
      else if b.length ≠ 16 || fieldLE b 0 2 ≠ 0x545A || fieldLE b 2 1 ≠ 1 || fieldLE b 14 2 ≠ crc16 (b.take 14) then
        todReject 1 s
      else if !(bitOf (fieldLE b 3 1) 0) then todReject 2 s
      else if (match s.time.todSec with | some p => tai != (p + 1) | none => false) then todReject 3 s
      else
        let s1 := { s with time := { s.time with
          todSec := some tai, ppsEdge := none, ppsInNT := BitVec.ofNat 64 ((stamp / 65536).toNat) } }
        (s1.passUtc 2 (fieldLE b 10 2) (fieldLE b 3 1 / 2)).newOffset 2 (stamp - (tai * 1000000000 : Nat) * 65536 - signed 32 (fieldLE rec3 4 4) * 65536)

def execTodMessageRx (bytes : List Byte) (s : State) : Host.Outcome State Fault Refusal := .next (todMessage bytes s).meshStart

/-- A source without an accepted sample for INPUT_TIMEOUT (R112, R114): its window is cleared, an empty one goes on towards its
seed; when it was active, the other source takes over from its latest 4 offsets if it is seeded, else NT enters HOLDOVER. -/
def sourceTimeout (k : Nat) (s : State) : State :=
  let w := s.src k
  if !(s.srcOrder.contains k) || s.frNs < w.lastFR + s.inputTimeout then s
  else
    let s1 := if w.window.isEmpty then s else (s.setSrc k { lastFR := w.lastFR }).dropStep k
    if s.time.active ≠ some k then s1
    else
      let o := 3 - k
      let ow := s1.src o
      if s1.srcOrder.contains o && !ow.window.isEmpty then
        let m := median ow.seedRun
        let s2 := (s1.setSrc o { ow with window := [m] }).postEvent 0x2005 (items [k, o, s1.time.gm.toNat])
        { s2 with time := { s2.time with cand := some o, okRun := 0 } }.seeded o m
      else
        let s2 := s1.changeSource none
        { s2 with time := { s2.time with cand := none } }.enterHoldover 1

def execSourceInputTimeout (src : Nat) (s : State) : Host.Outcome State Fault Refusal := .next (sourceTimeout src s).meshStart

/-- TIME of the newest valid entry of the fault-log region (R116). -/
def State.newestLogTime (s : State) : Nat :=
  match newestEntry s.logEntries with | some e => e.time | none => 0

/-- FIRST_WAIT ends with no seed: NT and MT start at the provisional value (R115, R116). -/
def firstWait (s : State) : State :=
  match s.time.firstWaitFrom with
  | some t =>
    if s.time.state != .notStarted || !(s.clocks.onRoot.getD 4 false) || s.dormantRunning
        || s.frNs < t + fieldLE (s.recBytes 0x0201) 8 4 * 1000000 then s
    else
      let b := (s.boot.image.map (·.buildTime.toNat)).getD 0
      let l := s.newestLogTime
      let v := if later l b then l else b
      let s1 := { s with time := { s.time with state := .provisional, firstWaitFrom := none } }
      let s2 := (s1.setNt (nsTo48 v)).ntStarts.startMt
      s2.postEvent 0x2007 (items [v, b2n (later l b)])
  | none => s

def execFirstWaitExpiry (s : State) : Host.Outcome State Fault Refusal := .next (firstWait s).meshStart

/-- A write of TIME_REANCHOR with GO (R117, R128): BASE 5 to 7 is an invalid write. -/
def reanchorGo (r : Requester) (v : Word) (s : State) : State :=
  s.access r 0x200030 fun s =>
    let base := bitsOf v.toNat 2 0
    if 4 < base then s.invalidWrite r 0x200030 v
    else
      let (st, s1) := (s.put ⟨0x200030, 2, 0⟩ base).reanchor base
      s1.put ⟨0x200030, 15, 8⟩ st

/-- A GO that names a base. -/
def reanchorWrite (r : Requester) (base : Nat) (s : State) : State := reanchorGo r (BitVec.ofNat 32 (base % 8 + 8)) s

def execReanchorGo (r : Requester) (base : Nat) (s : State) : Host.Outcome State Fault Refusal :=
  .next (reanchorWrite r base s)

/-- The arming deadline of a re-anchor of NT (R117), 2 ms before its boundary on the grid that is now in force: the active source's filtered offset, else that of the first seeded
source, which becomes active; with neither, TIME_NO_INPUT. -/
def reanchorTake (s : State) : State :=
  match Tab.get? s.time.reanchors 0 with
  | none => s
  | some b =>
    if s.ntNs + 2000000 < s.gridAtOrAfter s.sfNs b || s.time.ntReanchorReady.isSome then s
    else
      let filtered := fun (k : Nat) => !(s.src k).window.isEmpty
      match (s.time.active.filter filtered).or (s.srcOrder.find? filtered) with
      | some k =>
        let s1 := s.changeSource (some k)
        { s1 with time := { s1.time with ntReanchorReady := some (median (s1.src k).window), cand := none } }.noteOffset
      | none =>
        { s with time := { s.time with reanchors := Tab.del s.time.reanchors 0 } }.put ⟨0x200030, 15, 8⟩ 0x1E

def execReanchorDeadline (s : State) : Host.Outcome State Fault Refusal := .next (reanchorTake s)

/-- The re-anchor the Z7 issues itself 1 s after HOLDOVER through a refused jump (R117). -/
def autoReanchor (s : State) : State :=
  match s.time.autoAt with
  | some t =>
    if s.time.state == .holdover && decide (t ≤ s.ntNs) then
      ({ s with time := { s.time with autoAt := none } }.reanchor 0).2
    else s
  | none => s

def execAutoReanchorTimer (s : State) : Host.Outcome State Fault Refusal := .next (autoReanchor s)

/-- Seconds that MT has spent in holdover, of FR (log 147). -/
def State.mtHoldAge (s : State) : Nat := Nat.min ((s.frNs - s.time.mtHoldFrom) / 1000000000) 65535

/-- Once per second of NT, after a backward step from the second after the last one measured (log 159): MT − NT, steered by MT_RATE (a free value within ±200 ppm), or refused beyond JUMP_MT (R107). -/
def mtDiff (s : State) : State :=
  let sec := s.ntNs / 1000000000
  if !s.ntValid || s.time.mtState == .notStarted || sec ≤ s.time.mtMeasuredSec then s
  else
    let d : Int := ((s.time.mt.v : Int) - s.time.nt.v) / 2 ^ 48
    let s1 := { s with time := { s.time with mtMeasuredSec := sec, mtDiff := d } }
    if decide ((s.jumpMt : Int) < d) || decide (d < -(s.jumpMt : Int)) then
      let s2 := (s1.inc ⟨0x200028, 23, 16⟩).postEvent 0x2002 (items [1, sItem d, s.jumpMt])
      let s3 := if s.time.mtState == .steered then
          { s2 with time := { s2.time with mtHoldFrom := s.frNs } }.postEvent 0x2003 (items [1, 0])
        else s2
      { s3 with time := { s3.time with mtState := .holdover, mtFollow := s.time.mtFollow || s.autoMt } }
    else
      let s1 := if s.time.mtState == .holdover then s1.postEvent 0x2004 (items [1, s.mtHoldAge]) else s1
      let (v, s2) := s1.draw 32
      { s2 with time := { s2.time with mtState := .steered, mtRate := (v.toNat % 1717987 : Nat) - 858993 } }

def execMtDiffMeasure (s : State) : Host.Outcome State Fault Refusal := .next (mtDiff s)

/-- PPS_OUT rises when NT passes a whole second plus PPS_OUT_OFFSET (R124): not for one that a start or a step of NT left behind
(log 146), and once for each. -/
def ppsOutRise (s : State) : State :=
  let k := s.ppsSecond
  if bitOf (fieldLE (s.recBytes 0x0203) 1 1) 1 && s.stepTaken && s.time.ppsBase.all (fun p => decide (p < k))
      && s.time.ppsOutSec.all (fun p => decide (p < k)) then
    { s with time := { s.time with ppsOutSec := some k, ppsRose := s.elapsed } }
  else s

def execPpsOutEdge (s : State) : Host.Outcome State Fault Refusal := .next (ppsOutRise s)

/-- The level of PPS_OUT: high for PPS_OUT_WIDTH from its edge, whatever NT does meanwhile (R124). -/
def State.ppsOut (s : State) : Bool :=
  s.time.ppsOutSec.isSome && s.stepTaken
    && decide (5 * (s.elapsed - s.time.ppsRose) < 3 * fieldLE (s.recBytes 0x0203) 12 4)

/-- The 16 B of a time-of-day message (R110). -/
def todBytes (flags tai utc : Nat) : List Byte :=
  let b := [0x5A#8, 0x54#8, 1#8] ++ leBytes 1 flags ++ leBytes 6 tai ++ leBytes 2 utc ++ leBytes 2 0
  b ++ leBytes 2 (crc16 b)

/-- The message of the latest PPS_OUT edge, 100 ms after it (R124): VALID only in LOCKED; the UTC offset and leap flags
pass through (R104). -/
def todSend (s : State) : State :=
  let r := s.recBytes 0x0203
  match s.time.ppsOutSec with
  | some k =>
    if bitOf (fieldLE r 1 1) 0 && s.time.todSentSec != some k && s.stepTaken
        && decide ((k : Int) * 1000000000 + signed 32 (fieldLE r 8 4) + 100000000 ≤ s.ntNs) then
      { s with time := { s.time with
          todSentSec := some k
          todOut := todBytes (b2n (s.time.state == .locked) + 2 * s.time.leap) k s.time.utc } }
    else s
  | none => s

def execTodTxSend (s : State) : Host.Outcome State Fault Refusal := .next (todSend s)

end Sys2Proof.Machine
end

