-- ==== Sys2Proof/Machine/RegAccess.lean ====
section
/-! DEFINITION. The rows of register access: a write to any register, to a staged window, and the reads that capture or
clear (00 R7 to R10, R36, 05 R131, R132). -/

namespace Sys2Proof.Machine

/-! ## Values and states in which a write is invalid (R36) -/

/-- Change of base, depth or binding of an enabled ring, or a vector that the function does not have (13 R378, R388). -/
def State.ringWriteBad (s : State) (f o : Nat) (v : Word) : Bool :=
  let old := s.reg (hqBase f + o)
  let moved := if o % 8 = 0 then v.toNat / 4096 != old.toNat / 4096 else v != old
  let vec := decide ((if f = 0 then 64 else 16) ≤ bitsOf v.toNat 15 8)
  let depth := bitsOf v.toNat 3 0 != bitsOf old.toNat 3 0
  if o = 0x10 || o = 0x14 then s.ringOn f 2 0 && moved
  else if o = 0x18 then vec || (s.ringOn f 2 0 && depth)
  else if 0x100 ≤ o && o < 0x300 then
    let n := (o - 0x100) / 0x20
    let on_ := s.flag ⟨sqBase f n + 8, 4, 4⟩
    if o % 0x20 < 8 then on_ && moved
    else o % 0x20 == 8 && on_ && (depth || bitsOf v.toNat 11 8 != bitsOf old.toNat 11 8)
  else if 0x400 ≤ o && o < 0x600 then
    let n := (o - 0x400) / 0x20
    if o % 0x20 < 8 then s.ringOn f 0 n && moved else o % 0x20 == 8 && (vec || (s.ringOn f 0 n && depth))
  else if 0x800 ≤ o && o < 0xC00 then
    let n := (o - 0x800) / 0x40
    if o % 0x40 < 0x10 then s.ringOn f 1 n && moved else o % 0x40 == 0x10 && (vec || (s.ringOn f 1 n && depth))
  else false

/-- A write of an immediate register that its chapter makes invalid beyond the ranges of its fields. -/
def State.writeBad (s : State) (a : Nat) (v : Word) : Bool :=
  let n := v.toNat
  if a = 0x300064 || a = 0x300068 then s.dormantRunning
  else if a = 0x300070 then !s.chainExists (n % 256)
  else if a = 0x301010 then !s.memberIds.contains (n % 32)
  else if a = 0x400030 then decide (bitsOf n 15 8 < bitsOf n 7 0 + 5)
  else if 0x1000000 ≤ a && a < 0x1300000 && a % 0x100000 = 4 then decide (bitsOf n 15 8 ≤ bitsOf n 23 16)
  else if 0x1400000 ≤ a && a < 0x1700000 && a % 0x100000 = 0xC then decide (bitsOf n 20 16 < bitsOf n 12 8)
  else if 0x1400000 ≤ a && a < 0x1700000 && a % 0x100000 = 0x10 then decide (bitsOf n 30 24 ≤ bitsOf n 22 16)
  else if a = 0x2000014 then
    !s.subBands.isEmpty && decide (fieldS (s.subBands.getD s.frameBand []) 14 1 < signed 8 n)
  else if a = 0x2000030 then decide (s.subBands.length ≤ n % 4)
  else if 0x2400100 ≤ a && a < 0x2400200 && a % 16 = 0 then
    let vid := bitsOf n 11 0
    vid != 0 && (List.range 16).any fun t => tenCfg t != a && s.tenVid t == vid
  else if 0x2400600 ≤ a && a < 0x2400700 then !queueIdOk (bitsOf n 16 0)
  else if ownSelector a && a < 0x2900000 then
    let g := s.page ((a - 0x2800000) / 0x10000)
    decide (n % 2 ^ 14 < g.base) || decide (g.base + g.count ≤ n % 2 ^ 14)
  else if 0x2C00100 ≤ a && a < 0x2C00900 && a % 0x20 = 0 then
    bitOf n 1 != s.flag ⟨a, 1, 1⟩ && decide (s.queueDepth ((a - 0x2C00100) / 0x20) ≠ 0)
  else if 0x3000000 ≤ a && a < 0x3100000 then s.ringWriteBad ((a - 0x3000000) / 0x10000) (a % 0x10000) v
  else if 0x3100100 ≤ a && a < 0x3100200 then
    s.workerOn ((a - 0x3100100) / 4) && bitsOf n 7 0 != bitsOf (s.reg a).toNat 7 0
  else false

/-- The same for a staged register at its active address. -/
def State.stagedBad (s : State) (b : Nat) (v : Word) : Bool :=
  let n := v.toNat
  let o := b % 0x100000
  if 0x1400000 ≤ b && b < 0x1700000 && o = 4 then
    let r := (b - 0x1400000) / 0x100000
    let w := bitsOf n 18 16
    w != 7 && (decide (maxWidth r < w) || !inR (bitsOf n 7 0) (channelRange r).1 (channelRange r).2
      || !inR (bitsOf n 15 8) (channelRange r).1 (channelRange r).2)
  else if 0x1800000 ≤ b && b < 0x1B00000 then
    if 0x100 ≤ o && o < 0x200 && o % 16 = 0 then decide (0x1900000 ≤ b) && bitsOf n 10 9 == 0
    else if 0x400 ≤ o && o < 0x600 && o % 8 = 0 then
      if inR (bitsOf n 24 22) 4 6 then bitsOf n 26 25 == 0 else bitsOf n 26 25 != 0
    else if 0x400 ≤ o && o < 0x600 then
      decide (1 < bitsOf n 21 11) && decide (bitsOf n 10 0 < s.sget ⟨b - 4, 21, 11⟩)
    else false
  else if 0x3400000 ≤ b && b < 0x3800000 && b % 0x10000 = 0 then
    let p := (b - 0x3400000) / 0x10000
    !portModeOk p (bitsOf n 1 0) (bitsOf n 3 2) (bitsOf n 11 4)
  else false

/-! ## What a valid write does besides setting its fields -/

/-- A ring becomes enabled: head and tail 0, phase 1 (13 R378); a CQ's completed commands are gone with its entries (log
53). -/
def State.ringEnabled (s : State) (f kind n : Nat) : State :=
  let k := ringKey f kind n
  let s1 := s.setRing k {}
  if kind = 0 then
    (s1.setReg (hqBase f + 0x40C + 0x20 * n) 0).mapCmds (·.filter fun c => !(c.fn == f && c.cq == n && c.stage == .completed))
  else if kind = 1 then
    let s2 := (s1.setReg (hqBase f + 0x814 + 0x40 * n) 0).setReg (hqBase f + 0x818 + 0x40 * n) 0
    { s2 with host := { s2.host with buffers := Tab.del s2.host.buffers k, bqTail := Tab.del s2.host.bqTail k } }
  else
    let s2 := (s1.setReg (hqBase f + 0x1C) 0).reportLost f
    if f ≠ 0 then s2
    else
      let s3 := if s2.dormant.postLeft then
          { s2 with dormant := { s2.dormant with postLeft := false } }.postEvent 0x3012
            (items [s2.dormant.lastWake, s2.dormant.mtAtWake.toNat])
        else s2
      s3.chains.foldl (fun s e => if e.2.freezeDue then
        (s.modChain e.1 fun x => { x with freezeDue := false }).postEvent 0x4008 (items [e.1]) else s) s3

/-- HQ: rings enabled, workers taken out of use (13 R378, R412). -/
def State.afterHq (s0 s : State) (a : Nat) : State :=
  let up := fun (b : Nat) => !s0.flag ⟨a, b, b⟩ && s.flag ⟨a, b, b⟩
  if 0x3100100 ≤ a then
    let w := (a - 0x3100100) / 4
    if s0.workerOn w && !s.workerOn w then (s.dropConsumer (16 + w)).trackIdle else s
  else
    let f := (a - 0x3000000) / 0x10000
    let o := a % 0x10000
    if !up 4 then s
    else if o = 0x18 then s.ringEnabled f 2 0
    else if 0x100 ≤ o && o < 0x300 && o % 0x20 = 8 then
      (s.setReg (a + 4) 0).setReg (a + 8) 0
    else if 0x400 ≤ o && o < 0x600 && o % 0x20 = 8 then s.ringEnabled f 0 ((o - 0x400) / 0x20)
    else if 0x800 ≤ o && o < 0xC00 && o % 0x40 = 0x10 then s.ringEnabled f 1 ((o - 0x800) / 0x40)
    else s

/-- Effects of a valid write, from the state before it and the state with its fields set. -/
def State.afterWrite (s0 s : State) (a : Nat) : State :=
  if 0x2400600 ≤ a && a < 0x2400700 then
    let n := (a - 0x2400600) / 4
    if s0.get ⟨a, 16, 0⟩ = s.get ⟨a, 16, 0⟩ && (s0.flag ⟨a, 31, 31⟩ || !s.flag ⟨a, 31, 31⟩) then s
    else s.modPkt fun p => { p with watches := Tab.put p.watches n { Tab.getD p.watches n {} with restart := true } }
  else if 0x3000000 ≤ a && a < 0x3100200 then s0.afterHq s a
  else if 0x3800000 ≤ a && a < 0x38C0000 && a % 0x10000 = 4 then
    if s0.flag ⟨a, 5, 5⟩ then s else s.autoTrain ((a - 0x3800000) / 0x10000)
  else s

/-! ## Registers whose write has a row of its own -/

/-- Apply an operation where its bit is written 1. -/
def onBit (v : Word) (i : Nat) (act : State → State) (s : State) : State := if v.getLsbD i then act s else s

/-- A write of CKR_CLKEN_0 or _1: every bit is an enable or a disable of its block (02 R55, R56). The bits change together
(02 R67), and the domains they ask for are requested together (16 R464). -/
def State.clkWrite (s : State) (r : Requester) (first count : Nat) (v : Word) : State :=
  s.access r (clkEnAddr first) fun s =>
    let bs := (List.range count).map (first + ·)
    let on_ := bs.filter fun b => v.getLsbD (b - first) && !(s.isZ73 && decide (32 ≤ b))
    let off := bs.filter fun b => !v.getLsbD (b - first) && s.flag (clkEn b)
    let s1 := off.foldl (fun s b => s.put (clkEn b) 0) (on_.foldl (fun s b => s.put (clkEn b) 1) s)
    let drains := (on_.foldl Tab.del s1.clocks.draining)
    let s2 := { s1 with clocks := { s1.clocks with
      draining := (off.filter fun b => s.flag (clkSt b)).foldl (fun t b => Tab.put t b s.elapsed) drains } }
    let s3 := s2.requestItems ((on_.flatMap blockDomains).eraseDups.filter fun d => !s2.domUp d)
    let s4 := (off.filter fun b => !s.flag (clkSt b)).foldl (fun s b => s.groupOff b) s3
    if off.contains 15 then s4.meshLink else s4

/-- A write of TL_k_CTRL with an action bit (14 R443); the error counts that PRBS_STOP shows are free values here. -/
def State.tileCtrlWrite (s : State) (r : Requester) (k : Nat) (v : Word) : State :=
  let errs := (List.range 5).map fun l => (Config.free 48 (s.fresh + l)).toNat
  let stop := fun (s : State) => prbsStop r k v errs { s with fresh := s.fresh + 5 }
  (((onBit v 0 (trainWrite r k v) s) |> onBit v 1 (prbsStart r k v)) |> onBit v 2 stop)

/-- A write of a BQ doorbell without the buffers' addresses: they stand in host memory, and are free values here. -/
def State.bqWrite (s : State) (r : Requester) (f n : Nat) (v : Word) : State :=
  let d := s.ringDepth f 1 n
  let m := (v.toNat % 4096 + d - Tab.getD s.host.bqTail (ringKey f 1 n) 0 % d) % d
  let addrs := (List.range m).map fun i => Config.free 64 (s.fresh + i)
  bqTail r f n v addrs { s with fresh := s.fresh + m }

/-- A write of an HQ register that has a row. -/
def State.hqWrite (s : State) (r : Requester) (f o : Nat) (v : Word) : Option State :=
  if o = 0x4 then some (onBit v 1 (ctrlClear r f) (onBit v 0 (ctrlEclipse r f) s))
  else if o = 0x1C then some (evqHead r f v s)
  else if 0x100 ≤ o && o < 0x300 && o % 0x20 = 0xC then some (sqTail r f ((o - 0x100) / 0x20) v s)
  else if 0x400 ≤ o && o < 0x600 && o % 0x20 = 0xC then some (cqHead r f ((o - 0x400) / 0x20) v s)
  else if 0x800 ≤ o && o < 0xC00 && o % 0x40 = 0x14 then some (rqHead r f ((o - 0x800) / 0x40) v s)
  else if 0x800 ≤ o && o < 0xC00 && o % 0x40 = 0x18 then some (s.bqWrite r f ((o - 0x800) / 0x40) v)
  else if 0xC00 ≤ o && o < 0x1000 && o % 16 = 0 then
    some (if bitOf v.toNat 12 then askCancel r f ((o - 0xC00) / 16) v s else askWrite r f ((o - 0xC00) / 16) v s)
  else if 0xC00 ≤ o && o < 0x1000 && o % 16 = 4 then some (releaseWrite r f ((o - 0xC00) / 16) v s)
  else none

/-- A write whose register has a row of its own does what that row does; none for the others, and for those rows' registers
written without their action bit. -/
def State.rowWrite (s : State) (r : Requester) (a : Nat) (v : Word) : Option State :=
  if a = 0xC then some (onBit v 0 (bootRelease r) s)
  else if a = 0x10 then some (resetKey r v s)
  else if a = 0x100010 then some (s.clkWrite r 0 24 v)
  else if a = 0x100014 then some (s.clkWrite r 32 12 v)
  else if 0x100040 ≤ a && a < 0x100060 && v.getLsbD 9 then some (switchGo r ((a - 0x100040) / 4) (v.getLsbD 8) s)
  else if 0x100100 ≤ a && a < 0x100180 && a % 16 = 0 && v.getLsbD 16 then
    some (fcWrite r ((a - 0x100100) / 16) v s)
  else if a = 0x200030 && v.getLsbD 3 then some (reanchorGo r v s)
  else if a = 0x300024 then
    some (if s.inBoundary then s.stageRefused a 0x0F else onBit v 1 (commitCancel_ r) (onBit v 0 (commitGo_ r) s))
  else if a = 0x300060 then some (dormantWrite r v s)
  else if a = 0x30101C then some (onBit v 1 (cstRejoin r) (onBit v 0 (cstLeave r) s))
  else if a = 0x400034 then some (holdWrite r false v s)
  else if a = 0x400038 then some (holdWrite r true v s)
  else if 0x1000000 ≤ a && a < 0x1300000 && (a % 0x100000 = 0x1C || a % 0x100000 = 0x20) then
    some (blockClear r ((a - 0x1000000) / 0x100000) (decide (a % 0x100000 = 0x20)) v s)
  else if a = 0x2400500 then some (qdepthSel r v s)
  else if 0x3000000 ≤ a && a < 0x3100000 then s.hqWrite r ((a - 0x3000000) / 0x10000) (a % 0x10000) v
  else if 0x3800000 ≤ a && a < 0x38C0000 && a % 0x10000 = 4 && bitsOf v.toNat 2 0 ≠ 0 && bitsOf v.toNat 4 3 ≠ 3 then
    some (s.tileCtrlWrite r ((a - 0x3800000) / 0x10000) v)
  else none

/-! ## REGISTER_WRITE and STAGED_WINDOW_WRITE -/

/-- The bits of a staged FE register that belong to chains of the variant (06 R181). -/
def State.chainMask (s : State) (b : Nat) : Word :=
  let r := (b - 0x1000000) / 0x100000
  let o := b % 0x100000
  if 0x1000000 ≤ b && b < 0x1300000 && (o = 0x10 || o = 0x14) then
    BitVec.ofNat 32 (bitMap 32 fun c => decide ((if o = 0x14 then 32 else 0) + c < s.chainCount r))
  else BitVec.ofNat 32 (2 ^ 32 - 1)

/-- An FE register of a chain that the variant does not have (06 R181). -/
def State.absentChainReg (s : State) (b : Nat) : Bool :=
  let o := b % 0x100000
  decide (0x1000000 ≤ b) && decide (b < 0x1300000) && decide (0x1000 ≤ o) && decide (o < 0x4000)
    && decide (s.chainCount ((b - 0x1000000) / 0x100000) ≤ o % 0x1000 / 4)

/-- A write of TUNER_POS by the host: the own accord leaves the chain alone until the next swap (06 R158). -/
def State.afterStaged (s : State) (b : Nat) : State :=
  let r := (b - 0x1000000) / 0x100000
  let o := b % 0x100000
  if 0x1000000 ≤ b && b < 0x1300000 && 0x1000 ≤ o && o < 0x2000 then
    s.modChain (chainBase r + (o - 0x1000) / 4) fun x => { x with hostPos := true, proposed := false }
  else s

/-- A write to the staged copy, at address a, of the register at b (05 R131, R132, R134, R137): refused in the boundary
interval and while the bank is locked; MER_CNT.LOCKED_WRITE counts the staged writes refused. -/
def State.writeStaged (s : State) (r : Requester) (a b : Nat) (v : Word) : State :=
  match (addrUnits b).findSome? s.stageStatus with
  | some st => (s.inc ⟨0x300050, 31, 24⟩).stageRefused a st
  | none => match rowAt b with
    | some row =>
      if s.absentChainReg b then s
      else if !row.accepts v || s.stagedBad b v then s.invalidWrite r a v
      else (s.setSreg b (row.write (s.sreg b) v &&& s.chainMask b)).afterStaged b
    | none => s

/-- A write to a register at its active address: the active offset of a staged field refuses it (05 R132), an address that
is not listed ignores it (00 R9), an invalid value leaves the register as it is (R36). -/
def State.writeActive (s : State) (r : Requester) (a : Nat) (v : Word) : State :=
  match rowAt a with
  | none => s
  | some row =>
    if row.staged then s.stageRefused a 0x02
    else match s.rowWrite r a v with
      | some t => t
      | none =>
        if !row.accepts v || s.writeBad a v then s.invalidWrite r a v
        else if ownSelector a then { s with sels := Tab.put s.sels (ownKey r a) (row.write 0 v) }
        else s.afterWrite (s.setReg a (row.write (s.reg a) v)) a

/-- A write by a requester (00 R7, 02 R54): a staged copy is written under its own link's clock (log 8). -/
def State.writeAt (s : State) (r : Requester) (width a : Nat) (v : Word) : State :=
  match r with
  | .bar2 f => if s.bar2Ok f width a then { s.bar2Put f a v with answer := some .done } else { s with answer := some .abort }
  | _ => match s.resolve r width a (fun n => (activeOf n).getD n) with
    | .error e => { s with answer := some e }
    | .ok n => { (match activeOf n with
        | some b => s.writeStaged r n b v
        | none => s.writeActive r n v) with answer := some .done }

/-- REGISTER_WRITE: a write to a register sets its fields, or is refused (R36, R7, R54). -/
def registerWrite (r : Requester) (width addr : Nat) (v : Word) (s : State) : State := s.writeAt r width addr v

def execRegisterWrite (r : Requester) (width addr : Nat) (v : Word) (s : State) : Host.Outcome State Fault Refusal :=
  .next (registerWrite r width addr v s)

/-- STAGED_WINDOW_WRITE: the same write; its address lies in a staged window or is the active offset of a staged register
(05 R132). -/
def stagedWindowWrite (r : Requester) (width addr : Nat) (v : Word) (s : State) : State := s.writeAt r width addr v

def execStagedWindowWrite (r : Requester) (width addr : Nat) (v : Word) (s : State) : Host.Outcome State Fault Refusal :=
  .next (stagedWindowWrite r width addr v s)

/-- SNAPSHOT_LO_READ: a read captures where the register is a FIELD_LO (R10). -/
def snapshotLoRead (r : Requester) (width addr : Nat) (s : State) : State := s.readAt r width addr

def execSnapshotLoRead (r : Requester) (width addr : Nat) (s : State) : Host.Outcome State Fault Refusal :=
  .next (snapshotLoRead r width addr s)

/-- RC_FIELD_READ: a read returns the fields and clears those that read clears (R8). -/
def rcFieldRead (r : Requester) (width addr : Nat) (s : State) : State := s.readAt r width addr

def execRcFieldRead (r : Requester) (width addr : Nat) (s : State) : Host.Outcome State Fault Refusal :=
  .next (rcFieldRead r width addr s)

end Sys2Proof.Machine
end

