-- ==== Sys2Proof/Machine/Dispatch.lean ====
section
/-! DEFINITION. One arm per command: exec answers the outcome of the command's own meaning. -/

namespace Sys2Proof.Machine

/-- The effect of a command on everything but the queue. -/
def exec (i : Instr) (s : State) : Host.Outcome State Fault Refusal :=
  match i with
  | .registerWrite r width addr v => Sys2Proof.Machine.execRegisterWrite r width addr v s
  | .snapshotLoRead r width addr => Sys2Proof.Machine.execSnapshotLoRead r width addr s
  | .rcFieldRead r width addr => Sys2Proof.Machine.execRcFieldRead r width addr s
  | .stagedWindowWrite r width addr v => Sys2Proof.Machine.execStagedWindowWrite r width addr v s
  | .containmentStrobe u cause detail => Sys2Proof.Machine.execContainmentStrobe u cause detail s
  | .unitResetStateReached u => Sys2Proof.Machine.execUnitResetStateReached u s
  | .deviceFault cause detail => Sys2Proof.Machine.execDeviceFault cause detail s
  | .resetNRelease refsel clkq bootmode => Sys2Proof.Machine.execResetNRelease refsel clkq bootmode s
  | .resetNAssert => Sys2Proof.Machine.execResetNAssert s
  | .pwrOkFall => Sys2Proof.Machine.execPwrOkFall s
  | .pwrOkReturn => Sys2Proof.Machine.execPwrOkReturn s
  | .referenceQualified edges ppm => Sys2Proof.Machine.execReferenceQualified edges ppm s
  | .referenceLoss deviation => Sys2Proof.Machine.execReferenceLoss deviation s
  | .rootPllLocked => Sys2Proof.Machine.execRootPllLocked s
  | .rootPllUnlock => Sys2Proof.Machine.execRootPllUnlock s
  | .clockEnableWrite r block => Sys2Proof.Machine.execClockEnableWrite r block s
  | .clockStart block => Sys2Proof.Machine.execClockStart block s
  | .clockDisableWrite r block => Sys2Proof.Machine.execClockDisableWrite r block s
  | .clockStop block => Sys2Proof.Machine.execClockStop block s
  | .drainTimeout block => Sys2Proof.Machine.execDrainTimeout block s
  | .sourceSwitchGo r d root => Sys2Proof.Machine.execSourceSwitchGo r d root s
  | .sourceSwitchDone d => Sys2Proof.Machine.execSourceSwitchDone d s
  | .switchAbandoned d => Sys2Proof.Machine.execSwitchAbandoned d s
  | .freqMeasureStart r n sel exp evt => Sys2Proof.Machine.execFreqMeasureStart r n sel exp evt s
  | .freqMeasureDone n edges => Sys2Proof.Machine.execFreqMeasureDone n edges s
  | .flashDiscoveryDone cs0 cs1 => Sys2Proof.Machine.execFlashDiscoveryDone cs0 cs1 s
  | .flashOpTimeout => Sys2Proof.Machine.execFlashOpTimeout s
  | .flashOpDone => Sys2Proof.Machine.execFlashOpDone s
  | .imageCheckDone readA readB => Sys2Proof.Machine.execImageCheckDone readA readB s
  | .configureDone => Sys2Proof.Machine.execConfigureDone s
  | .bootReleaseWrite r => Sys2Proof.Machine.execBootReleaseWrite r s
  | .bootHoldTimeout => Sys2Proof.Machine.execBootHoldTimeout s
  | .recoveryTimeout => Sys2Proof.Machine.execRecoveryTimeout s
  | .deviceResetKeyWrite r v => Sys2Proof.Machine.execDeviceResetKeyWrite r v s
  | .almSlotErase fn tag => Sys2Proof.Machine.execAlmSlotErase fn tag s
  | .almSlotWrite fn tag data => Sys2Proof.Machine.execAlmSlotWrite fn tag data s
  | .almSlotVerify fn tag => Sys2Proof.Machine.execAlmSlotVerify fn tag s
  | .attest fn tag => Sys2Proof.Machine.execAttest fn tag s
  | .logRead fn tag => Sys2Proof.Machine.execLogRead fn tag s
  | .tunerCountWriteTimer => Sys2Proof.Machine.execTunerCountWriteTimer s
  | .ptpMessageRx port domain logSync srcTime => Sys2Proof.Machine.execPtpMessageRx port domain logSync srcTime s
  | .ptpAnnounceRx port domain clockId a => Sys2Proof.Machine.execPtpAnnounceRx port domain clockId a s
  | .ppsInEdge => Sys2Proof.Machine.execPpsInEdge s
  | .todMessageRx bytes => Sys2Proof.Machine.execTodMessageRx bytes s
  | .sourceInputTimeout src => Sys2Proof.Machine.execSourceInputTimeout src s
  | .firstWaitExpiry => Sys2Proof.Machine.execFirstWaitExpiry s
  | .reanchorGo r base => Sys2Proof.Machine.execReanchorGo r base s
  | .reanchorDeadline => Sys2Proof.Machine.execReanchorDeadline s
  | .autoReanchorTimer => Sys2Proof.Machine.execAutoReanchorTimer s
  | .mtDiffMeasure => Sys2Proof.Machine.execMtDiffMeasure s
  | .ppsOutEdge => Sys2Proof.Machine.execPpsOutEdge s
  | .todTxSend => Sys2Proof.Machine.execTodTxSend s
  | .superframeStart => Sys2Proof.Machine.execSuperframeStart s
  | .commitGo r => Sys2Proof.Machine.execCommitGo r s
  | .commitCancel r => Sys2Proof.Machine.execCommitCancel r s
  | .unitArmReport u busy => Sys2Proof.Machine.execUnitArmReport u busy s
  | .commitDeadline => Sys2Proof.Machine.execCommitDeadline s
  | .meridianStrobe => Sys2Proof.Machine.execMeridianStrobe s
  | .bankCopyDone => Sys2Proof.Machine.execBankCopyDone s
  | .dormantEnterRequest r v => Sys2Proof.Machine.execDormantEnterRequest r v s
  | .dormantReached => Sys2Proof.Machine.execDormantReached s
  | .wakeMtReached => Sys2Proof.Machine.execWakeMtReached s
  | .wakeGpioEdge gpio level => Sys2Proof.Machine.execWakeGpioEdge gpio level s
  | .dormantExitStepDone tagOk => Sys2Proof.Machine.execDormantExitStepDone tagOk s
  | .railRampExpiry => Sys2Proof.Machine.execRailRampExpiry s
  | .tunerCreditTimer => Sys2Proof.Machine.execTunerCreditTimer s
  | .mismatchTrip chain vswr => Sys2Proof.Machine.execMismatchTrip chain vswr s
  | .feBlockClearWrite r radio hi v => Sys2Proof.Machine.execFeBlockClearWrite r radio hi v s
  | .synthLockAcquired radio group syn => Sys2Proof.Machine.execSynthLockAcquired radio group syn s
  | .synthLockLost radio group => Sys2Proof.Machine.execSynthLockLost radio group s
  | .tileLockTimeout link => Sys2Proof.Machine.execTileLockTimeout link s
  | .launchRequest radio of_ t air form => Sys2Proof.Machine.execLaunchRequest radio of_ t air form s
  | .paRampStart radio of_ => Sys2Proof.Machine.execPaRampStart radio of_ s
  | .ppduTxEnd radio => Sys2Proof.Machine.execPpduTxEnd radio s
  | .rxWindowStart radio => Sys2Proof.Machine.execRxWindowStart radio s
  | .rxWindowEnd radio => Sys2Proof.Machine.execRxWindowEnd radio s
  | .txTimeoutWatchdog chain => Sys2Proof.Machine.execTxTimeoutWatchdog chain s
  | .calStepStart radio kind chain => Sys2Proof.Machine.execCalStepStart radio kind chain s
  | .calStepDone radio res => Sys2Proof.Machine.execCalStepDone radio res s
  | .coeffStale chain => Sys2Proof.Machine.execCoeffStale chain s
  | .detection radio level d => Sys2Proof.Machine.execDetection radio level d s
  | .lltfTimeout radio => Sys2Proof.Machine.execLltfTimeout radio s
  | .sigFieldDone radio ok last => Sys2Proof.Machine.execSigFieldDone radio ok last s
  | .rxRestart radio level d => Sys2Proof.Machine.execRxRestart radio level d s
  | .rxCapture radio level d => Sys2Proof.Machine.execRxCapture radio level d s
  | .rxPpduEnd radio m => Sys2Proof.Machine.execRxPpduEnd radio m s
  | .tbWindowOpen radio of_ te len => Sys2Proof.Machine.execTbWindowOpen radio of_ te len s
  | .tbWindowClose radio users => Sys2Proof.Machine.execTbWindowClose radio users s
  | .csiPrefetch ppdu slow => Sys2Proof.Machine.execCsiPrefetch ppdu slow s
  | .precoderCompute ppdu rus => Sys2Proof.Machine.execPrecoderCompute ppdu rus s
  | .explicitTest radio => Sys2Proof.Machine.execExplicitTest radio s
  | .soundPeriodTimer sid radio => Sys2Proof.Machine.execSoundPeriodTimer sid radio s
  | .macTx fn tag data air => Sys2Proof.Machine.execMacTx fn tag data air s
  | .macStaAdd fn tag => Sys2Proof.Machine.execMacStaAdd fn tag s
  | .macStaDel fn tag => Sys2Proof.Machine.execMacStaDel fn tag s
  | .staDelDone sid => Sys2Proof.Machine.execStaDelDone sid s
  | .macBaSet fn tag => Sys2Proof.Machine.execMacBaSet fn tag s
  | .macBaDelete fn tag => Sys2Proof.Machine.execMacBaDelete fn tag s
  | .macTwtSetup fn tag => Sys2Proof.Machine.execMacTwtSetup fn tag s
  | .macTwtDelete fn tag => Sys2Proof.Machine.execMacTwtDelete fn tag s
  | .macDetFlow fn tag => Sys2Proof.Machine.execMacDetFlow fn tag s
  | .macDetFlowDelete fn tag => Sys2Proof.Machine.execMacDetFlowDelete fn tag s
  | .planFreeze radio => Sys2Proof.Machine.execPlanFreeze radio s
  | .contentCutOff radio of_ t room => Sys2Proof.Machine.execContentCutOff radio of_ t room s
  | .beaconLaunch radio bss air => Sys2Proof.Machine.execBeaconLaunch radio bss air s
  | .launchOutcome radio of_ acked => Sys2Proof.Machine.execLaunchOutcome radio of_ acked s
  | .rxMpdu m => Sys2Proof.Machine.execRxMpdu m s
  | .reorderTimeout sid tid => Sys2Proof.Machine.execReorderTimeout sid tid s
  | .frameLifetimeExpiry id => Sys2Proof.Machine.execFrameLifetimeExpiry id s
  | .addbaRequestRx sid tid size sn => Sys2Proof.Machine.execAddbaRequestRx sid tid size sn s
  | .helloPeriodTimer m => Sys2Proof.Machine.execHelloPeriodTimer m s
  | .helloRx msg => Sys2Proof.Machine.execHelloRx msg s
  | .helloAckRx msg => Sys2Proof.Machine.execHelloAckRx msg s
  | .joinTimeout m => Sys2Proof.Machine.execJoinTimeout m s
  | .digestSend => Sys2Proof.Machine.execDigestSend s
  | .digestPartRx msg => Sys2Proof.Machine.execDigestPartRx msg s
  | .leaveRx msg => Sys2Proof.Machine.execLeaveRx msg s
  | .memberStatusDecide => Sys2Proof.Machine.execMemberStatusDecide s
  | .cstLeaveWrite r => Sys2Proof.Machine.execCstLeaveWrite r s
  | .cstRejoinWrite r => Sys2Proof.Machine.execCstRejoinWrite r s
  | .foreignEntryAge m sid radio => Sys2Proof.Machine.execForeignEntryAge m sid radio s
  | .holdoverKeepExpiry => Sys2Proof.Machine.execHoldoverKeepExpiry s
  | .meshPreambleDetect d => Sys2Proof.Machine.execMeshPreambleDetect d s
  | .meshSfdFound rssi0 rssi1 => Sys2Proof.Machine.execMeshSfdFound rssi0 rssi1 s
  | .meshSfdWaitExpiry => Sys2Proof.Machine.execMeshSfdWaitExpiry s
  | .meshRxRestart level => Sys2Proof.Machine.execMeshRxRestart level s
  | .meshPhrDone len ok => Sys2Proof.Machine.execMeshPhrDone len ok s
  | .meshRxCapture level => Sys2Proof.Machine.execMeshRxCapture level s
  | .meshFrameEnd psdu fcsOk => Sys2Proof.Machine.execMeshFrameEnd psdu fcsOk s
  | .replayEntryExpiry src fc => Sys2Proof.Machine.execReplayEntryExpiry src fc s
  | .meshSuperframeStart => Sys2Proof.Machine.execMeshSuperframeStart s
  | .meshBeaconTx level => Sys2Proof.Machine.execMeshBeaconTx level s
  | .meshReplyWindowTx level => Sys2Proof.Machine.execMeshReplyWindowTx level s
  | .meshListenSlotTx level => Sys2Proof.Machine.execMeshListenSlotTx level s
  | .meshRouterSlotTx id level => Sys2Proof.Machine.execMeshRouterSlotTx id level s
  | .wakeSignalTx level => Sys2Proof.Machine.execWakeSignalTx level s
  | .meshTxEnd => Sys2Proof.Machine.execMeshTxEnd s
  | .meshLifetimeExpiry id => Sys2Proof.Machine.execMeshLifetimeExpiry id s
  | .routerAgeExpiry addr => Sys2Proof.Machine.execRouterAgeExpiry addr s
  | .wakeSignalRx wua cmd crcOk => Sys2Proof.Machine.execWakeSignalRx wua cmd crcOk s
  | .wuListenExpiry => Sys2Proof.Machine.execWuListenExpiry s
  | .meshTxTimeout => Sys2Proof.Machine.execMeshTxTimeout s
  | .meshDownlinkFrame => Sys2Proof.Machine.execMeshDownlinkFrame s
  | .nwTx fn tag data => Sys2Proof.Machine.execNwTx fn tag data s
  | .nwWake fn tag => Sys2Proof.Machine.execNwWake fn tag s
  | .nwKeyLoad fn tag => Sys2Proof.Machine.execNwKeyLoad fn tag s
  | .nwKeyErase fn tag => Sys2Proof.Machine.execNwKeyErase fn tag s
  | .ethFrameRx sub bytes fcsOk sec => Sys2Proof.Machine.execEthFrameRx sub bytes fcsOk sec s
  | .pktPipelineFrame src => Sys2Proof.Machine.execPktPipelineFrame src s
  | .lpmDramResult src ok => Sys2Proof.Machine.execLpmDramResult src ok s
  | .wiredEgressSelect sub => Sys2Proof.Machine.execWiredEgressSelect sub s
  | .txUnderrun sub => Sys2Proof.Machine.execTxUnderrun sub s
  | .ethLinkChange sub speed => Sys2Proof.Machine.execEthLinkChange sub speed s
  | .fdbAgeExpiry tenant addr => Sys2Proof.Machine.execFdbAgeExpiry tenant addr s
  | .flowAgeExpiry key => Sys2Proof.Machine.execFlowAgeExpiry key s
  | .qdepthSelWrite r v => Sys2Proof.Machine.execQdepthSelWrite r v s
  | .pktRuleWrite fn tag data => Sys2Proof.Machine.execPktRuleWrite fn tag data s
  | .pktRuleClear fn tag => Sys2Proof.Machine.execPktRuleClear fn tag s
  | .pktRouteAdd fn tag => Sys2Proof.Machine.execPktRouteAdd fn tag s
  | .pktRouteDelete fn tag => Sys2Proof.Machine.execPktRouteDelete fn tag s
  | .pktNextHopWrite fn tag => Sys2Proof.Machine.execPktNextHopWrite fn tag s
  | .pktNextHopDelete fn tag => Sys2Proof.Machine.execPktNextHopDelete fn tag s
  | .pktFdbWrite fn tag => Sys2Proof.Machine.execPktFdbWrite fn tag s
  | .pktFdbDelete fn tag => Sys2Proof.Machine.execPktFdbDelete fn tag s
  | .pktFlowAdd fn tag => Sys2Proof.Machine.execPktFlowAdd fn tag s
  | .pktFlowDelete fn tag => Sys2Proof.Machine.execPktFlowDelete fn tag s
  | .pktRangeSet fn tag => Sys2Proof.Machine.execPktRangeSet fn tag s
  | .pktRangeDisable fn tag => Sys2Proof.Machine.execPktRangeDisable fn tag s
  | .pktTunnelWrite fn tag data => Sys2Proof.Machine.execPktTunnelWrite fn tag data s
  | .pktTunnelClear fn tag => Sys2Proof.Machine.execPktTunnelClear fn tag s
  | .pktPolicer fn tag => Sys2Proof.Machine.execPktPolicer fn tag s
  | .cphKeyWrite fn tag block => Sys2Proof.Machine.execCphKeyWrite fn tag block s
  | .cphKeyErase fn tag => Sys2Proof.Machine.execCphKeyErase fn tag s
  | .referenceEnd op => Sys2Proof.Machine.execReferenceEnd op s
  | .keyWriteProceed slot => Sys2Proof.Machine.execKeyWriteProceed slot s
  | .keyEraseDone slot => Sys2Proof.Machine.execKeyEraseDone slot s
  | .cphCryptGcmEncrypt fn tag src => Sys2Proof.Machine.execCphCryptGcmEncrypt fn tag src s
  | .cphCryptGcmDecrypt fn tag src => Sys2Proof.Machine.execCphCryptGcmDecrypt fn tag src s
  | .cphCryptCcmEncrypt fn tag src => Sys2Proof.Machine.execCphCryptCcmEncrypt fn tag src s
  | .cphCryptCcmDecrypt fn tag src => Sys2Proof.Machine.execCphCryptCcmDecrypt fn tag src s
  | .serviceOpDone op => Sys2Proof.Machine.execServiceOpDone op s
  | .pcieLinkUp speed width => Sys2Proof.Machine.execPcieLinkUp speed width s
  | .pciePerstAssert => Sys2Proof.Machine.execPciePerstAssert s
  | .pcieHotReset => Sys2Proof.Machine.execPcieHotReset s
  | .pcieLinkLoss => Sys2Proof.Machine.execPcieLinkLoss s
  | .functionLevelReset f => Sys2Proof.Machine.execFunctionLevelReset f s
  | .pcieConfigRequest q => Sys2Proof.Machine.execPcieConfigRequest q s
  | .sqTailDoorbell r f n v => Sys2Proof.Machine.execSqTailDoorbell r f n v s
  | .cqHeadDoorbell r f n v => Sys2Proof.Machine.execCqHeadDoorbell r f n v s
  | .rqHeadDoorbell r f n v => Sys2Proof.Machine.execRqHeadDoorbell r f n v s
  | .bqTailDoorbell r f n v addrs => Sys2Proof.Machine.execBqTailDoorbell r f n v addrs s
  | .evqHeadDoorbell r f v => Sys2Proof.Machine.execEvqHeadDoorbell r f v s
  | .commandFetch f n desc => Sys2Proof.Machine.execCommandFetch f n desc s
  | .hostDmaCompletion f tag ok => Sys2Proof.Machine.execHostDmaCompletion f tag ok s
  | .msixModerationTimer f kind n => Sys2Proof.Machine.execMsixModerationTimer f kind n s
  | .hqEclipseFunction fn tag => Sys2Proof.Machine.execHqEclipseFunction fn tag s
  | .hqEclipseRadio fn tag => Sys2Proof.Machine.execHqEclipseRadio fn tag s
  | .funcCtrlEclipseWrite r f => Sys2Proof.Machine.execFuncCtrlEclipseWrite r f s
  | .funcCtrlClearWrite r f => Sys2Proof.Machine.execFuncCtrlClearWrite r f s
  | .eclipseComplete radio index => Sys2Proof.Machine.execEclipseComplete radio index s
  | .workItemDeliver c => Sys2Proof.Machine.execWorkItemDeliver c s
  | .workerAskWrite r f w v => Sys2Proof.Machine.execWorkerAskWrite r f w v s
  | .workerAskCancel r f w v => Sys2Proof.Machine.execWorkerAskCancel r f w v s
  | .workerReleaseWrite r f w v => Sys2Proof.Machine.execWorkerReleaseWrite r f w v s
  | .atomicTimeout idx => Sys2Proof.Machine.execAtomicTimeout idx s
  | .workItemMaxWait idx => Sys2Proof.Machine.execWorkItemMaxWait idx s
  | .askWaitLapse w => Sys2Proof.Machine.execAskWaitLapse w s
  | .tskSubmit fn tag data => Sys2Proof.Machine.execTskSubmit fn tag data s
  | .tskInject fn tag data => Sys2Proof.Machine.execTskInject fn tag data s
  | .ethMacsecSaTx fn tag => Sys2Proof.Machine.execEthMacsecSaTx fn tag s
  | .ethMacsecSaRxAdd fn tag => Sys2Proof.Machine.execEthMacsecSaRxAdd fn tag s
  | .ethMacsecSaRxDelete fn tag => Sys2Proof.Machine.execEthMacsecSaRxDelete fn tag s
  | .tlTrainWrite r link v => Sys2Proof.Machine.execTlTrainWrite r link v s
  | .tlPrbsStart r link v => Sys2Proof.Machine.execTlPrbsStart r link v s
  | .tlPrbsStop r link v errors => Sys2Proof.Machine.execTlPrbsStop r link v errors s
  | .tlTrainStepDone link info => Sys2Proof.Machine.execTlTrainStepDone link info s
  | .tlTrainStepTimeout link => Sys2Proof.Machine.execTlTrainStepTimeout link s
  | .tlUpstreamFrame link ctl badSync => Sys2Proof.Machine.execTlUpstreamFrame link ctl badSync s
  | .tlCtlMessageRx link => Sys2Proof.Machine.execTlCtlMessageRx link s
  | .tlCtlAckTimeout link => Sys2Proof.Machine.execTlCtlAckTimeout link s
  | .tlBlockLockLost link lane => Sys2Proof.Machine.execTlBlockLockLost link lane s
  | .tlWander link => Sys2Proof.Machine.execTlWander link s
  | .dramRequest port granule write off data => Sys2Proof.Machine.execDramRequest port granule write off data s
  | .dramCommandIssue channel ready => Sys2Proof.Machine.execDramCommandIssue channel ready s
  | .dramReadReturn channel granule symbols rank subch => Sys2Proof.Machine.execDramReadReturn channel granule symbols rank subch s
  | .dramPauseStart channel => Sys2Proof.Machine.execDramPauseStart channel s
  | .dramPauseEnd channel drift beyond => Sys2Proof.Machine.execDramPauseEnd channel drift beyond s
  | .dramTrainingDone fast slow => Sys2Proof.Machine.execDramTrainingDone fast slow s
  | .dramRetrainAfterFault channel => Sys2Proof.Machine.execDramRetrainAfterFault channel s
  | .ledgerAdmit => Sys2Proof.Machine.execLedgerAdmit s
  | .ledgerItemUp item => Sys2Proof.Machine.execLedgerItemUp item s
  | .ledgerHeadWait => Sys2Proof.Machine.execLedgerHeadWait s
  | .powerSample amps => Sys2Proof.Machine.execPowerSample amps s
  | .tempSample temps => Sys2Proof.Machine.execTempSample temps s
  | .throttleLevelTimer thermal => Sys2Proof.Machine.execThrottleLevelTimer thermal s
  | .pwrHoldReleaseWrite r hf v => Sys2Proof.Machine.execPwrHoldReleaseWrite r hf v s
  | .holdReleaseTimer u => Sys2Proof.Machine.execHoldReleaseTimer u s
  | .dormantEntryStepDone => Sys2Proof.Machine.execDormantEntryStepDone s
  | .powerDownComplete item => Sys2Proof.Machine.execPowerDownComplete item s
  | .meshSlotStart => Sys2Proof.Machine.execMeshSlotStart s
  | .listenNowWindowTx id level => Sys2Proof.Machine.execListenNowWindowTx id level s
  | .txMaskSend radio of_ => Sys2Proof.Machine.execTxMaskSend radio of_ s
  | .agreementTimeout sid tid dir => Sys2Proof.Machine.execAgreementTimeout sid tid dir s

end Sys2Proof.Machine
end

