-- ==== Sys2Proof/Machine/Pins.lean ====
section
/-! DEFINITION. The states of the balls (17 R484). -/

namespace Sys2Proof.Machine

/-- The balls and groups of R484's table that the state decides; a GPIO by its number. -/
inductive Ball where
  | ppsOut | todTx | uartTx | gpio (n : Nat) | xspiBus | xspiCs | xspiRst | jtagTdo | smb | lanes | ant | meshAnt
deriving DecidableEq, Repr

/-- What a ball shows; `active` stands for what its block drives on it, idle included. -/
inductive BallState where
  | low | high | highZ | pullDown | pullUp | released | electricalIdle | off | active
deriving DecidableEq, Repr

/-- Dormant, from step 9 of its entry to the wake (05 R147, R148). -/
def State.inDormant (s : State) : Bool := s.dormant.seq == .dormant

/-- The GPIO that record 0x0E02 names DORMANT_REQ (16 R465, R476). -/
def State.dormantGpio (s : State) : Option Nat :=
  let b := fieldLE (s.recBytes 0x0E02) 4 1
  if bitOf b 7 then some (b % 32) else none

/-- The state of a ball (R484). The xSPI balls are driven from LOAD on, which is step 5 of 03 R75. -/
def State.ball (s : State) (b : Ball) : BallState :=
  let up := s.boot.resetN
  let driven := up && s.boot.state != .reset && s.boot.state != .qualify && !s.inDormant
  match b with
  | .ppsOut => if up && !s.inDormant && s.ppsOut then .high else .low
  | .todTx => if !up then .highZ else if s.inDormant || !s.accepted 2 || s.recBytes 0x0203 == [] then .high else .active
  | .uartTx => if !up then .highZ else if s.inDormant then .high else .active
  | .gpio n =>
    if up && s.dormantGpio == some n then (if s.power.dormantReq then .high else .low)
    else if up && !s.inDormant && (s.boot.state == .hold || s.boot.state == .run) then .active else .pullDown
  | .xspiBus => if driven then .active else .highZ
  | .xspiCs => if driven then .active else if up && !s.inDormant then .high else .pullUp
  | .xspiRst => if driven then .active else .low
  | .jtagTdo => if up then .active else .highZ
  | .smb => if up && !s.inDormant then .active else .released
  | .lanes => if s.inDormant then .off else if driven then .active else .electricalIdle
  | .ant => if driven then .active else .off
  | .meshAnt => if up then .active else .off

end Sys2Proof.Machine
end

