-- ==== Sys2Proof/WellFormed.lean ====
section
/-! DEFINITION. The range of every operand of a command: the parts it names exist in the numbers of 00 R1, 01 R27 and
13 R375. -/

namespace Sys2Proof

/-- A virtual function is 1 to 15, a function 0 to 15. -/
def Requester.valid : Requester → Bool
  | .vf f => decide (1 ≤ f) && decide (f < 16)
  | .bar2 f => decide (f < 16)
  | _ => true

/-- The unit is one of 01 R27's. -/
def FUnit.valid : FUnit → Bool
  | .radio r => decide (r < 3)
  | .link k => decide (k < 12)
  | .port p => decide (p < 4)
  | .dram c => decide (c < 4)
  | .func f => decide (f < 16)
  | .pkt => true
  | .cipher => true
  | .mesh => true

/-- A block with a clock enable (02 R69): 0 to 23, or 32 + k for Tile Link k. -/
def blockValid (b : Nat) : Bool := decide (b < 24) || (decide (32 ≤ b) && decide (b < 44))

/-- Every operand is in its range. -/
def Instr.wf : Instr → Bool
  | .registerWrite r _ _ _ => r.valid
  | .snapshotLoRead r _ _ => r.valid
  | .rcFieldRead r _ _ => r.valid
  | .stagedWindowWrite r _ _ _ => r.valid
  | .containmentStrobe u _ _ => u.valid
  | .unitResetStateReached u => u.valid
  | .clockEnableWrite r block => r.valid && blockValid block
  | .clockStart block => blockValid block
  | .clockDisableWrite r block => r.valid && blockValid block
  | .clockStop block => blockValid block
  | .drainTimeout block => blockValid block
  | .sourceSwitchGo r d _ => r.valid && decide (d < 8)
  | .sourceSwitchDone d => decide (d < 8)
  | .switchAbandoned d => decide (d < 8)
  | .freqMeasureStart r n sel exp _ => r.valid && decide (n < 8) && decide (sel < 64) && decide (exp < 32)
  | .freqMeasureDone n _ => decide (n < 8)
  | .bootReleaseWrite r => r.valid
  | .deviceResetKeyWrite r _ => r.valid
  | .almSlotErase fn tag => decide (fn < 16) && decide (tag < 65536)
  | .almSlotWrite fn tag _ => decide (fn < 16) && decide (tag < 65536)
  | .almSlotVerify fn tag => decide (fn < 16) && decide (tag < 65536)
  | .attest fn tag => decide (fn < 16) && decide (tag < 65536)
  | .logRead fn tag => decide (fn < 16) && decide (tag < 65536)
  | .ptpMessageRx port _ _ _ => decide (port < 10)
  | .ptpAnnounceRx port _ _ _ => decide (port < 10)
  | .todMessageRx bytes => bytes.length == 16
  | .sourceInputTimeout src => (src == 1 || src == 2)
  | .reanchorGo r base => r.valid && decide (base < 8)
  | .commitGo r => r.valid
  | .commitCancel r => r.valid
  | .unitArmReport u _ => decide (u < 27)
  | .dormantEnterRequest r _ => r.valid
  | .wakeGpioEdge gpio _ => decide (gpio < 32)
  | .mismatchTrip chain _ => decide (chain < 160)
  | .feBlockClearWrite r radio _ _ => r.valid && decide (radio < 3)
  | .synthLockAcquired radio group syn => decide (radio < 3) && decide (group < 14) && decide (syn < 2)
  | .synthLockLost radio group => decide (radio < 3) && decide (group < 14)
  | .tileLockTimeout link => decide (link < 12)
  | .launchRequest radio _ _ _ _ => decide (radio < 3)
  | .paRampStart radio _ => decide (radio < 3)
  | .ppduTxEnd radio => decide (radio < 3)
  | .rxWindowStart radio => decide (radio < 3)
  | .rxWindowEnd radio => decide (radio < 3)
  | .txTimeoutWatchdog chain => decide (chain < 160)
  | .calStepStart radio kind chain => decide (radio < 3) && decide (kind < 6) && decide (chain < 64)
  | .calStepDone radio _ => decide (radio < 3)
  | .coeffStale chain => decide (chain < 160)
  | .detection radio _ _ => decide (radio < 3)
  | .lltfTimeout radio => decide (radio < 3)
  | .sigFieldDone radio _ _ => decide (radio < 3)
  | .rxRestart radio _ _ => decide (radio < 3)
  | .rxCapture radio _ _ => decide (radio < 3)
  | .rxPpduEnd radio _ => decide (radio < 3)
  | .tbWindowOpen radio _ _ _ => decide (radio < 3)
  | .tbWindowClose radio _ => decide (radio < 3)
  | .explicitTest radio => decide (radio < 3)
  | .soundPeriodTimer sid radio => decide (sid < 8192) && decide (radio < 3)
  | .macTx fn tag _ _ => decide (fn < 16) && decide (tag < 65536)
  | .macStaAdd fn tag => decide (fn < 16) && decide (tag < 65536)
  | .macStaDel fn tag => decide (fn < 16) && decide (tag < 65536)
  | .staDelDone sid => decide (sid < 8192)
  | .macBaSet fn tag => decide (fn < 16) && decide (tag < 65536)
  | .macBaDelete fn tag => decide (fn < 16) && decide (tag < 65536)
  | .macTwtSetup fn tag => decide (fn < 16) && decide (tag < 65536)
  | .macTwtDelete fn tag => decide (fn < 16) && decide (tag < 65536)
  | .macDetFlow fn tag => decide (fn < 16) && decide (tag < 65536)
  | .macDetFlowDelete fn tag => decide (fn < 16) && decide (tag < 65536)
  | .planFreeze radio => decide (radio < 3)
  | .contentCutOff radio _ _ _ => decide (radio < 3)
  | .beaconLaunch radio bss _ => decide (radio < 3) && decide (bss < 16)
  | .launchOutcome radio _ _ => decide (radio < 3)
  | .rxMpdu m => decide (m.radio < 3) && decide (m.bss < 16)
  | .reorderTimeout sid tid => decide (sid < 8192) && decide (tid < 8)
  | .addbaRequestRx sid tid _ _ => decide (sid < 8192) && decide (tid < 8)
  | .agreementTimeout sid tid dir => decide (sid < 8192) && decide (tid < 8) && decide (dir < 2)
  | .helloPeriodTimer m => decide (m < 32)
  | .joinTimeout m => decide (m < 32)
  | .cstLeaveWrite r => r.valid
  | .cstRejoinWrite r => r.valid
  | .foreignEntryAge m sid radio => decide (m < 32) && decide (sid < 8192) && decide (radio < 3)
  | .nwTx fn tag _ => decide (fn < 16) && decide (tag < 65536)
  | .nwWake fn tag => decide (fn < 16) && decide (tag < 65536)
  | .nwKeyLoad fn tag => decide (fn < 16) && decide (tag < 65536)
  | .nwKeyErase fn tag => decide (fn < 16) && decide (tag < 65536)
  | .ethFrameRx sub _ _ _ => decide (sub < 10)
  | .pktPipelineFrame src => decide (src < 64)
  | .lpmDramResult src _ => decide (src < 64)
  | .wiredEgressSelect sub => decide (sub < 10)
  | .txUnderrun sub => decide (sub < 10)
  | .ethLinkChange sub speed => decide (sub < 10) && decide (speed < 8)
  | .fdbAgeExpiry tenant _ => decide (tenant < 16)
  | .qdepthSelWrite r _ => r.valid
  | .pktRuleWrite fn tag _ => decide (fn < 16) && decide (tag < 65536)
  | .pktRuleClear fn tag => decide (fn < 16) && decide (tag < 65536)
  | .pktRouteAdd fn tag => decide (fn < 16) && decide (tag < 65536)
  | .pktRouteDelete fn tag => decide (fn < 16) && decide (tag < 65536)
  | .pktNextHopWrite fn tag => decide (fn < 16) && decide (tag < 65536)
  | .pktNextHopDelete fn tag => decide (fn < 16) && decide (tag < 65536)
  | .pktFdbWrite fn tag => decide (fn < 16) && decide (tag < 65536)
  | .pktFdbDelete fn tag => decide (fn < 16) && decide (tag < 65536)
  | .pktFlowAdd fn tag => decide (fn < 16) && decide (tag < 65536)
  | .pktFlowDelete fn tag => decide (fn < 16) && decide (tag < 65536)
  | .pktRangeSet fn tag => decide (fn < 16) && decide (tag < 65536)
  | .pktRangeDisable fn tag => decide (fn < 16) && decide (tag < 65536)
  | .pktTunnelWrite fn tag _ => decide (fn < 16) && decide (tag < 65536)
  | .pktTunnelClear fn tag => decide (fn < 16) && decide (tag < 65536)
  | .pktPolicer fn tag => decide (fn < 16) && decide (tag < 65536)
  | .cphKeyWrite fn tag _ => decide (fn < 16) && decide (tag < 65536)
  | .cphKeyErase fn tag => decide (fn < 16) && decide (tag < 65536)
  | .keyWriteProceed slot => decide (slot < 16384)
  | .keyEraseDone slot => decide (slot < 16384)
  | .cphCryptGcmEncrypt fn tag _ => decide (fn < 16) && decide (tag < 65536)
  | .cphCryptGcmDecrypt fn tag _ => decide (fn < 16) && decide (tag < 65536)
  | .cphCryptCcmEncrypt fn tag _ => decide (fn < 16) && decide (tag < 65536)
  | .cphCryptCcmDecrypt fn tag _ => decide (fn < 16) && decide (tag < 65536)
  | .pcieLinkUp speed width => decide (1 ≤ speed) && decide (speed ≤ 5) && [1, 2, 4, 8].contains width
  | .functionLevelReset f => decide (f < 16)
  | .sqTailDoorbell r f n _ => r.valid && decide (f < 16) && decide (n < 16)
  | .cqHeadDoorbell r f n _ => r.valid && decide (f < 16) && decide (n < 16)
  | .rqHeadDoorbell r f n _ => r.valid && decide (f < 16) && decide (n < 16)
  | .bqTailDoorbell r f n _ _ => r.valid && decide (f < 16) && decide (n < 16)
  | .evqHeadDoorbell r f _ => r.valid && decide (f < 16)
  | .commandFetch f n _ => decide (f < 16) && decide (n < 16)
  | .hostDmaCompletion f tag _ => decide (f < 16) && decide (tag < 65536)
  | .msixModerationTimer f kind n => decide (f < 16) && decide (kind < 3) && decide (n < 16)
  | .hqEclipseFunction fn tag => decide (fn < 16) && decide (tag < 65536)
  | .hqEclipseRadio fn tag => decide (fn < 16) && decide (tag < 65536)
  | .funcCtrlEclipseWrite r f => r.valid && decide (f < 16)
  | .funcCtrlClearWrite r f => r.valid && decide (f < 16)
  | .eclipseComplete radio index => decide (index < if radio then 3 else 16)
  | .workItemDeliver c => decide (c < 80)
  | .workerAskWrite r f w _ => r.valid && decide (f < 16) && decide (w < 64)
  | .workerAskCancel r f w _ => r.valid && decide (f < 16) && decide (w < 64)
  | .workerReleaseWrite r f w _ => r.valid && decide (f < 16) && decide (w < 64)
  | .askWaitLapse w => decide (w < 64)
  | .tskSubmit fn tag _ => decide (fn < 16) && decide (tag < 65536)
  | .tskInject fn tag _ => decide (fn < 16) && decide (tag < 65536)
  | .ethMacsecSaTx fn tag => decide (fn < 16) && decide (tag < 65536)
  | .ethMacsecSaRxAdd fn tag => decide (fn < 16) && decide (tag < 65536)
  | .ethMacsecSaRxDelete fn tag => decide (fn < 16) && decide (tag < 65536)
  | .tlTrainWrite r link _ => r.valid && decide (link < 12)
  | .tlPrbsStart r link _ => r.valid && decide (link < 12)
  | .tlPrbsStop r link _ _ => r.valid && decide (link < 12)
  | .tlTrainStepDone link _ => decide (link < 12)
  | .tlTrainStepTimeout link => decide (link < 12)
  | .tlUpstreamFrame link _ _ => decide (link < 12)
  | .tlCtlMessageRx link => decide (link < 12)
  | .tlCtlAckTimeout link => decide (link < 12)
  | .tlBlockLockLost link lane => decide (link < 12) && decide (lane < 5)
  | .tlWander link => decide (link < 12)
  | .txMaskSend radio _ => decide (radio < 3)
  | .dramRequest port _ _ off _ => decide (port < 8) && decide (off < 64)
  | .dramCommandIssue channel ready => decide (channel < 4) && decide (ready < 65536)
  | .dramReadReturn channel _ symbols rank subch =>
    decide (channel < 4) && decide (symbols < 5) && decide (rank < 2) && decide (subch < 2)
  | .dramPauseStart channel => decide (channel < 4)
  | .dramPauseEnd channel _ _ => decide (channel < 4)
  | .dramTrainingDone fast slow => decide (fast < 16) && decide (slow < 16)
  | .dramRetrainAfterFault channel => decide (channel < 4)
  | .ledgerItemUp item => (decide (item < 25) || (decide (32 ≤ item) && decide (item < 192)))
  | .powerSample amps => amps.length == 7
  | .tempSample temps => temps.length == 23
  | .pwrHoldReleaseWrite r _ _ => r.valid
  | .holdReleaseTimer u => u.valid
  | .powerDownComplete item => (decide (item < 25) || (decide (32 ≤ item) && decide (item < 192)))
  | .deviceFault _ _ => true
  | .resetNRelease _ _ _ => true
  | .resetNAssert => true
  | .pwrOkFall => true
  | .pwrOkReturn => true
  | .referenceQualified _ _ => true
  | .referenceLoss _ => true
  | .rootPllLocked => true
  | .rootPllUnlock => true
  | .flashDiscoveryDone _ _ => true
  | .flashOpTimeout => true
  | .flashOpDone => true
  | .imageCheckDone _ _ => true
  | .configureDone => true
  | .bootHoldTimeout => true
  | .recoveryTimeout => true
  | .tunerCountWriteTimer => true
  | .ppsInEdge => true
  | .firstWaitExpiry => true
  | .reanchorDeadline => true
  | .autoReanchorTimer => true
  | .mtDiffMeasure => true
  | .ppsOutEdge => true
  | .todTxSend => true
  | .superframeStart => true
  | .commitDeadline => true
  | .meridianStrobe => true
  | .bankCopyDone => true
  | .dormantReached => true
  | .wakeMtReached => true
  | .dormantExitStepDone _ => true
  | .railRampExpiry => true
  | .tunerCreditTimer => true
  | .csiPrefetch _ _ => true
  | .precoderCompute _ _ => true
  | .frameLifetimeExpiry _ => true
  | .helloRx _ => true
  | .helloAckRx _ => true
  | .digestSend => true
  | .digestPartRx _ => true
  | .leaveRx _ => true
  | .memberStatusDecide => true
  | .holdoverKeepExpiry => true
  | .meshPreambleDetect _ => true
  | .meshSfdFound _ _ => true
  | .meshSfdWaitExpiry => true
  | .meshRxRestart _ => true
  | .meshPhrDone _ _ => true
  | .meshRxCapture _ => true
  | .meshFrameEnd _ _ => true
  | .replayEntryExpiry _ _ => true
  | .meshSuperframeStart => true
  | .meshBeaconTx _ => true
  | .meshReplyWindowTx _ => true
  | .meshListenSlotTx _ => true
  | .meshRouterSlotTx _ _ => true
  | .wakeSignalTx _ => true
  | .meshTxEnd => true
  | .meshLifetimeExpiry _ => true
  | .routerAgeExpiry _ => true
  | .wakeSignalRx _ _ _ => true
  | .wuListenExpiry => true
  | .meshTxTimeout => true
  | .meshDownlinkFrame => true
  | .meshSlotStart => true
  | .listenNowWindowTx _ _ => true
  | .flowAgeExpiry _ => true
  | .referenceEnd _ => true
  | .serviceOpDone _ => true
  | .pciePerstAssert => true
  | .pcieHotReset => true
  | .pcieLinkLoss => true
  | .pcieConfigRequest _ => true
  | .atomicTimeout _ => true
  | .workItemMaxWait _ => true
  | .ledgerAdmit => true
  | .ledgerHeadWait => true
  | .throttleLevelTimer _ => true
  | .dormantEntryStepDone => true

end Sys2Proof
end

