-- ==== Sys2Proof/Safety.lean ====
section
/-! DEFINITION. What the claims speak of: a step that answers, the order of the queue, a host command that is next to be
admitted, the canonical form of the flash and the order in which fuses change. -/

namespace Sys2Proof.Machine

/-- A step that stops with neither a fault nor a refusal. -/
def Safe (s : State) : Prop := ∃ t, step s = .next t

/-- The command of a function and tag is fetched, is of the opcode, and its SQ lets it be admitted now (13 R379, R382). -/
def Offered (s : State) (fn tag opcode : Nat) (c : Cmd) : Prop :=
  s.cmd? fn tag = some c ∧ c.opcode = opcode ∧ c.stage = .fetched ∧ s.admissible c = true

/-- A queue of a sub-port in service takes n octets more in SRAM: its length limit, its spill threshold and the cells leave them room (11
R332, R333, R334). -/
def TakesWired (s : State) (sub q n : Nat) : Prop :=
  s.subUp sub = true ∧ (Tab.getD s.wired (sub * 8 + q) []).all (fun f => f.dram == 0) = true
    ∧ ((Tab.getD s.wired (sub * 8 + q) []).map (·.len)).sum + n ≤ s.get ⟨0x240000C, 14, 0⟩ * 1024
    ∧ ((Tab.getD s.wired (sub * 8 + q) []).map (·.len)).sum + n ≤ s.get ⟨0x2400008, 9, 0⟩ * 1024 ∧ s.sramCells + n ≤ 131072

/-- The queue only ever loses its front: what waits is an end part of q (log 2). -/
def QueueOf (q : List Instr) (s : State) : Prop := s.pending <:+ q

/-- The bytes of the flash are in canonical form. -/
def FlashWf (s : State) : Prop := Memory.wf s.flash.bytes = true

/-- A key slot's fuses only ever gain: once programmed it keeps its hash and stays programmed, once revoked it stays
revoked (03 R89). -/
def KeyFuse.le (a b : KeyFuse) : Prop :=
  (a.programmed = true → b.programmed = true ∧ b.hash = a.hash) ∧ (a.revoked = true → b.revoked = true)

/-- The fuses of b are those of a or more fuses blown: the variant, the vendor key, the seed and the debug lock stand, the
rollback counter does not fall, key slots only gain (03 R89). -/
def Fuses.le (a b : Fuses) : Prop :=
  b.isZ73 = a.isZ73 ∧ b.vendor = a.vendor ∧ b.seed = a.seed ∧ b.debugLock = a.debugLock ∧ a.rollback ≤ b.rollback
    ∧ ∀ k, 1 ≤ k → k ≤ 4 → (a.slot k).le (b.slot k)

/-- A requester that reaches the PF's register map: the PF, the device CPU, and the debug port unless it is locked out (00
R11, 03 R90), once the register bus runs (02 R45). -/
def Mapped (s : State) (r : Requester) : Prop :=
  s.boot.refReady = true ∧ match r with
    | .pf => True
    | .cpu => True
    | .debug => s.fuses.debugLock = false
    | .vf _ => False
    | .bar2 _ => False

/-- The clock of a register's block runs, or the block has no enable bit (02 R53, R54). -/
def Clocked (s : State) (a : Nat) : Prop := ∀ b, gateBlock a = some b → s.gated b = false

/-- What a write of a register with a row of its own answers once its effect is taken. -/
def answered (t : State) : Host.Outcome State Fault Refusal := .next { t with answer := some .done }

/-- The requester of a row that accesses a register (00 R7, R10). -/
def requesterOf : Instr → Option Requester
  | .registerWrite r _ _ _ => some r
  | .snapshotLoRead r _ _ => some r
  | .rcFieldRead r _ _ => some r
  | .stagedWindowWrite r _ _ _ => some r
  | .clockEnableWrite r _ => some r
  | .clockDisableWrite r _ => some r
  | .sourceSwitchGo r _ _ => some r
  | .freqMeasureStart r _ _ _ _ => some r
  | .bootReleaseWrite r => some r
  | .deviceResetKeyWrite r _ => some r
  | .reanchorGo r _ => some r
  | .commitGo r => some r
  | .commitCancel r => some r
  | .dormantEnterRequest r _ => some r
  | .feBlockClearWrite r _ _ _ => some r
  | .cstLeaveWrite r => some r
  | .cstRejoinWrite r => some r
  | .qdepthSelWrite r _ => some r
  | .sqTailDoorbell r _ _ _ => some r
  | .cqHeadDoorbell r _ _ _ => some r
  | .rqHeadDoorbell r _ _ _ => some r
  | .bqTailDoorbell r _ _ _ _ => some r
  | .evqHeadDoorbell r _ _ => some r
  | .funcCtrlEclipseWrite r _ => some r
  | .funcCtrlClearWrite r _ => some r
  | .workerAskWrite r _ _ _ => some r
  | .workerAskCancel r _ _ _ => some r
  | .workerReleaseWrite r _ _ _ => some r
  | .tlTrainWrite r _ _ => some r
  | .tlPrbsStart r _ _ => some r
  | .tlPrbsStop r _ _ _ => some r
  | .pwrHoldReleaseWrite r _ _ => some r
  | _ => none

/-- The host command of a row: its function, its tag and its opcode (13 R379). -/
def hostRow : Instr → Option (Nat × Nat × Nat)
  | .almSlotErase f t => some (f, t, 0x0110)
  | .almSlotWrite f t _ => some (f, t, 0x0111)
  | .almSlotVerify f t => some (f, t, 0x0112)
  | .attest f t => some (f, t, 0x0113)
  | .logRead f t => some (f, t, 0x0114)
  | .macTx f t _ _ => some (f, t, 0x0610)
  | .macStaAdd f t => some (f, t, 0x0620)
  | .macStaDel f t => some (f, t, 0x0621)
  | .macBaSet f t => some (f, t, 0x0622)
  | .macBaDelete f t => some (f, t, 0x0622)
  | .macTwtSetup f t => some (f, t, 0x0623)
  | .macTwtDelete f t => some (f, t, 0x0623)
  | .macDetFlow f t => some (f, t, 0x0624)
  | .macDetFlowDelete f t => some (f, t, 0x0624)
  | .nwTx f t _ => some (f, t, 0x0810)
  | .nwWake f t => some (f, t, 0x0811)
  | .nwKeyLoad f t => some (f, t, 0x0812)
  | .nwKeyErase f t => some (f, t, 0x0812)
  | .pktRuleWrite f t _ => some (f, t, 0x0910)
  | .pktRuleClear f t => some (f, t, 0x0910)
  | .pktRouteAdd f t => some (f, t, 0x0911)
  | .pktRouteDelete f t => some (f, t, 0x0911)
  | .pktNextHopWrite f t => some (f, t, 0x0912)
  | .pktNextHopDelete f t => some (f, t, 0x0912)
  | .pktFdbWrite f t => some (f, t, 0x0913)
  | .pktFdbDelete f t => some (f, t, 0x0913)
  | .pktFlowAdd f t => some (f, t, 0x0914)
  | .pktFlowDelete f t => some (f, t, 0x0914)
  | .pktRangeSet f t => some (f, t, 0x0915)
  | .pktRangeDisable f t => some (f, t, 0x0915)
  | .pktTunnelWrite f t _ => some (f, t, 0x0916)
  | .pktTunnelClear f t => some (f, t, 0x0916)
  | .pktPolicer f t => some (f, t, 0x0917)
  | .cphKeyWrite f t _ => some (f, t, 0x0A01)
  | .cphKeyErase f t => some (f, t, 0x0A01)
  | .cphCryptGcmEncrypt f t _ => some (f, t, 0x0A10)
  | .cphCryptGcmDecrypt f t _ => some (f, t, 0x0A10)
  | .cphCryptCcmEncrypt f t _ => some (f, t, 0x0A10)
  | .cphCryptCcmDecrypt f t _ => some (f, t, 0x0A10)
  | .hqEclipseFunction f t => some (f, t, 0x0B01)
  | .hqEclipseRadio f t => some (f, t, 0x0B01)
  | .tskSubmit f t _ => some (f, t, 0x0B10)
  | .tskInject f t _ => some (f, t, 0x0B11)
  | .ethMacsecSaTx f t => some (f, t, 0x0C10)
  | .ethMacsecSaRxAdd f t => some (f, t, 0x0C10)
  | .ethMacsecSaRxDelete f t => some (f, t, 0x0C10)
  | _ => none

end Sys2Proof.Machine
end

