-- ==== Sys2Proof/Certificates/Slice0/Obligations.lean ====
section
/-! DEFINITION. The statements for the provers: what a step does, what the registers do, and for every command that it
completes, with what its rule gives. -/

open Sys2Proof Sys2Proof.Machine

/-! ## The queue and a step (log 2) -/

/-- A step takes the command at the front of the queue and runs it with the queue's rest, and nothing else leaves or joins the
queue. -/
def Obligations.StepRunsFront : Prop :=
  ∀ (c : Instr) (rest : List Instr) (s : State), s.pending = c :: rest →
    step s = exec c { s with pending := rest } ∧ ∀ t, step s = .next t → t.pending = rest

/-- On an empty queue 5/3 ns pass (the model's choice, log 2): the idle count rises by one, no register changes but what a
load-statistics window moves, and FR advances by 5/3 ns while it runs. -/
def Obligations.IdleStep : Prop :=
  ∀ s : State, s.pending = [] →
    ∃ t, step s = .next t ∧ t.pending = [] ∧ t.elapsed = s.elapsed + 1 ∧ t.regs = s.regs ∧ t.staged = s.staged
      ∧ t.units = s.units ∧ t.boot = s.boot ∧ t.host = s.host ∧ t.grid = s.grid ∧ t.commit = s.commit
      ∧ t.time.fr = (if s.clocks.onRoot.getD 4 false && s.time.frRuns then s.time.fr + 5 else s.time.fr)

/-- Every command has an effect: a step never ends in a fault or a refusal. -/
def Obligations.EveryStepAnswers : Prop := ∀ s : State, Safe s

/-- The queue is first in, first out: whatever a step does, what waits afterwards is an end part of what waited, so no
command is lost from the middle, sent twice or made up. -/
def Obligations.QueueOnlyLosesFront : Prop :=
  ∀ (q : List Instr) (s t : State), QueueOf q s → step s = .next t → QueueOf q t

/-- The flash's bytes keep their canonical form. -/
def Obligations.FlashStaysCanonical : Prop :=
  ∀ s t : State, FlashWf s → step s = .next t → FlashWf t

/-- Fuses are only ever blown: no command lowers the rollback counter, clears the debug lock, changes the variant, the vendor
key or the seed, unprograms a key slot, changes a programmed slot's hash or takes a revocation back. -/
def Obligations.FusesOnlyGain : Prop :=
  ∀ (f : Fuses) (s t : State), f.le s.fuses → step s = .next t → f.le t.fuses

/-- At reset the three invariants hold. -/
def Obligations.ResetMeetsInvariants : Prop :=
  (∀ q : List Instr, QueueOf q State.reset) ∧ FlashWf State.reset ∧ State.reset.fuses.le State.reset.fuses

/-- The state right after reset, where the registers' chapters give it (R101, R154): boot state 0, no active slot, mode
0b111, staged writes accepted, no commit, no unit in service, every register at its reset word, NT, MT and FR not started. -/
def Obligations.ResetState : Prop :=
  State.reset.boot.state = .reset ∧ State.reset.boot.active = none ∧ State.reset.grid.mode = 7
    ∧ State.reset.commit.stageOpen = true ∧ State.reset.commit.state = .idle ∧ State.reset.pending = []
    ∧ (∀ a, State.reset.reg a = resetWord a) ∧ (∀ a, State.reset.sreg a = resetWord a)
    ∧ (∀ u, (State.reset.unit u).phase = .reset) ∧ State.reset.time.state = .notStarted
    ∧ State.reset.time.mtState = .notStarted ∧ State.reset.time.frRuns = false

/-! ## Register access (00 R7 to R10, R36, 05 R132) -/

/-- An access that is not 32 bits wide and aligned has no effect (R7): it completes with an abort to the host and an access
error to an internal requester; the debug port, when it is not locked out, is one. With DEBUG_LOCK 1 no access of the debug port,
of whatever row, does anything but answer as absent (R90). -/
def Obligations.AccessRefused : Prop :=
  (∀ (s : State) (r : Requester) (width a : Nat) (v : Word), width ≠ 32 ∨ a % 4 ≠ 0 →
    (r = .debug → s.fuses.debugLock = false) →
    ∀ c ∈ [Instr.registerWrite r width a v, .stagedWindowWrite r width a v, .snapshotLoRead r width a, .rcFieldRead r width a],
      exec c s = .next { s with answer := some (match r with | .pf => .abort | .vf _ => .abort | .bar2 _ => .abort | _ => .accessError) })
  ∧ ∀ (c : Instr) (s : State), requesterOf c = some .debug → s.fuses.debugLock = true →
    exec c s = .next s ∨ exec c s = .next { s with answer := some .absent }

/-- REGISTER_WRITE of a register without a row of its own (R8, R9, R36): a value that every field accepts sets the RW fields, clears
the W1C bits written 1 and changes no other register and nothing else. A value that a field does not accept, or that its chapter
makes invalid in the present state, changes no register but the event ring's loss count, is counted among the block's rejections
and posts event 0xsFFE with the register's address, the value and the requester. The first form leaves out TL_k_CTRL where the
write raises its AUTO_TRAIN, which starts a training. An address that its block's chapter does not list ignores the write and reads 0. -/
def Obligations.RegisterWrites : Prop :=
  (∀ (s : State) (r : Requester) (a n : Nat) (v : Word) (row : RegRow),
    s.resolve r 32 a (fun n => (activeOf n).getD n) = .ok n → activeOf n = none → rowAt n = some row → row.staged = false →
    s.rowWrite r n v = none → row.accepts v = true → s.writeBad n v = false → ownSelector n = false →
    n < 0x2400000 ∨ 0x3100200 ≤ n →
    (∀ k, k < 12 → n = 0x3800004 + k * 0x10000 → v.getLsbD 5 = true → s.flag ⟨n, 5, 5⟩ = true) →
    exec (.registerWrite r 32 a v) s = .next { s.setReg n (row.write (s.reg n) v) with answer := some .done })
  ∧ (∀ (s : State) (r : Requester) (a n : Nat) (v : Word) (row : RegRow),
    s.resolve r 32 a (fun n => (activeOf n).getD n) = .ok n → activeOf n = none → rowAt n = some row → row.staged = false →
    s.rowWrite r n v = none → (row.accepts v = false ∨ s.writeBad n v = true) →
    exec (.registerWrite r 32 a v) s =
      .next { ({ s with rejects := Tab.put s.rejects (subjNibble n) (Tab.getD s.rejects (subjNibble n) 0 + 1) }.postEvent
        (subjNibble n * 0x1000 + 0xFFE) (items [n, v.toNat, reqIdx r]) (match r with | .vf f => [f] | _ => [])) with
        answer := some .done })
  ∧ ∀ (s : State) (r : Requester) (a : Nat) (v : Word), r = .pf ∨ r = .cpu →
    s.boot.refReady = true →
    a % 4 = 0 → inBlock a = true → reaches r a = true → s.addrGated a = false → rowAt a = none → activeOf a = none →
    s.isCapture r a = false → s.pairValue r a = none →
    exec (.registerWrite r 32 a v) s = .next { s with answer := some .done }
    ∧ exec (.snapshotLoRead r 32 a) s = .next { s with answer := some (.value 0) }

/-- What `RegRow.write` and `RegRow.readMask` make of a register's word (R8): every RW field reads as written, an RO field
keeps its value, a W1C field loses the bits written 1, a WO field reads 0. -/
def Obligations.FieldAccessCodes : Prop :=
  ∀ (a : Nat) (row : RegRow) (f : RFld) (old v : Word), rowAt a = some row → f ∈ row.flds →
    (f.acc = .rw → bitsOf (row.write old v).toNat f.hi f.lo = bitsOf v.toNat f.hi f.lo)
    ∧ (f.acc = .ro → bitsOf (row.write old v).toNat f.hi f.lo = bitsOf old.toNat f.hi f.lo)
    ∧ (f.acc = .w1c → ∀ i, f.lo ≤ i → i ≤ f.hi →
        bitOf (row.write old v).toNat i = (bitOf old.toNat i && !bitOf v.toNat i))
    ∧ (f.acc = .wo → bitsOf (row.readMask old).toNat f.hi f.lo = 0)
    ∧ (f.acc = .rc → bitsOf (row.afterRead old).toNat f.hi f.lo = 0)

/-- Reads with an effect (R8, R10). A read of FIELD_LO captures the whole value and returns its low half; the next read of FIELD_HI
by the same requester returns the high half of that capture, whatever other requesters read in between; FIELD_HI before any capture
by the requester reads 0. RC_FIELD_READ of a counter register that shows no live state returns the word and clears the RC fields; no
other register changes. -/
def Obligations.ReadSideEffects : Prop :=
  ((∀ (s : State) (r : Requester) (a n x : Nat), s.resolve r 32 a id = .ok n → s.pairValue r n = some x →
    ∃ t, exec (.snapshotLoRead r 32 a) s = .next t ∧ t.answer = some (.value (BitVec.ofNat 32 x))
      ∧ t.cap r (n + 4) = BitVec.ofNat 32 (x / 2 ^ 32)
      ∧ (∀ q b, q ≠ r → reqIdx q ≠ reqIdx r → b < 2 ^ 26 → t.cap q b = s.cap q b)
      ∧ t.regs = s.regs ∧ t.staged = s.staged ∧ t.time = s.time ∧ t.host = s.host)
  ∧ ∀ (s : State) (r : Requester) (a n : Nat), s.resolve r 32 a id = .ok n → s.pairValue r n = none →
    s.isCapture r n = true →
    exec (.snapshotLoRead r 32 a) s = .next { s with answer := some (.value (s.cap r n)) }
    ∧ (Tab.get? s.caps (ownKey r n) = none → s.cap r n = 0))
  ∧ ∀ (s : State) (r : Requester) (a n : Nat) (row : RegRow), s.resolve r 32 a id = .ok n → s.pairValue r n = none →
    s.isCapture r n = false → s.live r n = none → rowAt n = some row → row.hasRC = true →
    exec (.rcFieldRead r 32 a) s =
      .next { s.setReg n (row.afterRead (s.reg n)) with answer := some (.value (row.readMask (s.reg n))) }

/-- STAGED_WINDOW_WRITE at offset + 0x8_0000 sets the staged register and leaves the active one (05 R132; this is the form
for a register outside the chain registers of the front-ends, with the bank open). A write to the active offset of a staged field
is ignored, and event 0x3005 is posted with status RANGE; a write to a staged window in the boundary interval is ignored with
BUSY_MERIDIAN, one while the bank is locked with MER_STAGE_LOCKED, and counted. -/
def Obligations.StagedWrites : Prop :=
  (∀ (s : State) (r : Requester) (a n b : Nat) (v : Word) (row : RegRow),
    s.resolve r 32 a (fun n => (activeOf n).getD n) = .ok n → activeOf n = some b → rowAt b = some row →
    (addrUnits b).findSome? s.stageStatus = none → 0x1300000 ≤ b → row.accepts v = true → s.stagedBad b v = false →
    exec (.stagedWindowWrite r 32 a v) s = .next { s.setSreg b (row.write (s.sreg b) v) with answer := some .done })
  ∧ (∀ (s : State) (r : Requester) (a n : Nat) (v : Word) (row : RegRow),
    s.resolve r 32 a (fun n => (activeOf n).getD n) = .ok n → activeOf n = none → rowAt n = some row → row.staged = true →
    exec (.stagedWindowWrite r 32 a v) s = .next { s.postEvent 0x3005 (items [n, 0x02]) with answer := some .done })
  ∧ (∀ (s : State) (r : Requester) (a n b st : Nat) (v : Word),
    s.resolve r 32 a (fun n => (activeOf n).getD n) = .ok n → activeOf n = some b →
    (addrUnits b).findSome? s.stageStatus = some st →
    exec (.stagedWindowWrite r 32 a v) s =
      .next { (s.inc ⟨0x300050, 31, 24⟩).postEvent 0x3005 (items [n, st]) with answer := some .done })


/-! ## Shared effects: events, completions and the admission of host commands (13 R379 to R383, R389 to R391) -/

/-- What posting an event can do (13 R376, R389 to R391): it touches event rings, their entries in host memory, vectors and
loss counts only; a ring with room takes the event whole at its tail with the ring's next SEQ, the stamp and the ring's phase,
its bytes standing at the ring's base plus 32 bytes for each entry before it; one without room (or not enabled) counts it as lost
and stores nothing. -/
def Obligations.EventPosting : Prop :=
  (∀ (s : State) (code : Nat) (p : List Byte) (vfs : List Nat), ∃ t, s.postEvent code p vfs = t
    ∧ t = { s with host := t.host, regs := t.regs, fresh := t.fresh }
    ∧ t.host = { s.host with
        rings := t.host.rings, ev := t.host.ev, evs := t.host.evs, msix := t.host.msix,
        msixPend := t.host.msixPend, mem := t.host.mem }
    ∧ ∀ a, (∀ f, f < 16 → a ≠ hqBase f + 0x20) → t.reg a = s.reg a)
  ∧ (∀ (s : State) (f code : Nat) (p : List Byte), s.eventsOpen = true → s.ringOn f 2 0 = true → p.length ≤ 16 →
    1 ≤ s.ringFree f 2 0 → (Tab.getD s.host.ev f {}).lost = 0 → code = 0xB002 ∨ s.eclipsing f = false →
    ∃ e : EvEntry, e = ⟨⟨code, (Tab.getD s.host.ev f {}).seq, s.stamp, p⟩, 0, (s.ring (ringKey f 2 0)).phase⟩ ∧ ∃ t, s.postOn f code p = t
      ∧ Tab.get? t.host.evs (ringKey f 2 0 * 4096 + (s.ring (ringKey f 2 0)).tail) = some e
      ∧ (∀ i, i < e.bytes.length →
          Tab.get? t.host.mem (f * 2 ^ 64 + (s.entryAddr f 2 0 (s.ring (ringKey f 2 0)).tail + i) % 2 ^ 64)
            = some (e.bytes.getD i 0#8))
      ∧ (Tab.getD t.host.ev f {}).seq = ((Tab.getD s.host.ev f {}).seq + 1) % 2 ^ 32
      ∧ (t.ring (ringKey f 2 0)).used = (s.ring (ringKey f 2 0)).used + 1 ∧ t.regs = s.regs)
  ∧ (∀ (s : State) (f code : Nat) (p : List Byte), s.eventsOpen = true → (Tab.getD s.host.ev f {}).lost = 0 →
    s.ringFree f 2 0 < evEntries p →
    ∃ t, s.postOn f code p = t ∧ t.host.evs = s.host.evs ∧ t.host.rings = s.host.rings ∧ (Tab.getD t.host.ev f {}).lost = 1
      ∧ (s.get ⟨hqBase f + 0x20, 15, 0⟩ < 65535 → t.get ⟨hqBase f + 0x20, 15, 0⟩ = s.get ⟨hqBase f + 0x20, 15, 0⟩ + 1))
  ∧ (∀ (s : State) (f : Nat), (Tab.getD s.host.ev f {}).lost ≠ 0 → s.ringOn f 2 0 = true → s.eclipsing f = false → 2 ≤ s.ringFree f 2 0 →
    ∃ t, s.reportLost f = t ∧ (Tab.getD t.host.ev f {}).lost = 0
      ∧ Tab.get? t.host.evs (ringKey f 2 0 * 4096 + (s.ring (ringKey f 2 0)).tail)
          = some ⟨⟨0x0001, (Tab.getD s.host.ev f {}).seq, s.stamp, leBytes 8 (Tab.getD s.host.ev f {}).lost⟩, 0,
              (s.ring (ringKey f 2 0)).phase⟩)
  ∧ ∀ (s : State) (f code : Nat) (p : List Byte), s.ringOn f 2 0 = false →
    ∃ t, s.postOn f code p = t ∧ t.host.evs = s.host.evs ∧ t.host.rings = s.host.rings
      ∧ (Tab.getD t.host.ev f {}).lost = (Tab.getD s.host.ev f {}).lost + 1

/-- What a completion does (13 R376, R382, R383): an entry with the command's TAG, the status, the result (MAC_TX without one
of its own: its frame's result word, 08 R233), the SQ's index and the ring's phase stands at the CQ's tail and in host memory at
the ring's base plus 16 bytes for each entry before it, the command is no longer in flight unfinished, every other command stays
as it is, and only the host interface's registers and rings change, and the rejections counted where the status is RANGE. -/
def Obligations.CompletionPosting : Prop :=
  ∀ (s : State) (f tag status result : Nat) (c : Cmd), s.cmd? f tag = some c →
    ∃ t, s.complete f tag status result = t
      ∧ t = { s with host := t.host, regs := t.regs, fresh := t.fresh, rejects := t.rejects }
      ∧ (status ≠ 0x02 → t.rejects = s.rejects)
      ∧ t.host = { s.host with
          rings := t.host.rings, cqes := t.host.cqes, msix := t.host.msix, cmds := t.host.cmds,
          msixPend := t.host.msixPend, mem := t.host.mem }
      ∧ (∃ e, Tab.get? t.host.cqes (ringKey f 0 c.cq * 4096 + (s.ring (ringKey f 0 c.cq)).tail) = some e
          ∧ e.tag = tag ∧ e.status = status ∧ e.sq = c.sq ∧ e.dup = c.dup
          ∧ e.result = (if c.opcode = 0x0610 ∧ result = 0 then s.txResult f tag else result) % 2 ^ 32
          ∧ (∀ i, i < e.bytes.length →
              Tab.get? t.host.mem (f * 2 ^ 64 + (s.entryAddr f 0 c.cq (s.ring (ringKey f 0 c.cq)).tail + i) % 2 ^ 64)
                = some (e.bytes.getD i 0#8))
          ∧ e.phase = (s.ring (ringKey f 0 c.cq)).phase ∧ e.time = s.stamp.toNat % 2 ^ 32)
      ∧ t.cmd? f tag = none
      ∧ t.host.cmds.filter (fun d => !(d.fn == f && d.tag == tag)) = s.host.cmds.filter (fun d => !(d.fn == f && d.tag == tag))
      ∧ ∀ a, a ≠ hqBase f + 0x1000 → a ≠ hqBase f + 0x1008 → a ≠ hqBase f + 0x100C → t.reg a = s.reg a

/-- A host command row acts only on a command of its function and tag that is fetched, has the row's opcode and may be
admitted now (R379, R382: in the order of its SQ, after every earlier command with FENCE); otherwise nothing happens (the
model's choice for a row whose precondition fails, log 7). -/
def Obligations.HostCommandsWaitTheirTurn : Prop :=
  ∀ (c : Instr) (fn tag op : Nat) (s : State), hostRow c = some (fn, tag, op) → (∀ x, ¬ Offered s fn tag op x) →
    exec c s = .next s

/-- The checks before a command's own (R380 orders 3 and 4, 02 R54): commands only the physical function may issue complete
ISOLATION from any other; a command whose target block's clock does not run then completes GATED (the packet path's, the cipher
engine's and the mesh island's commands of the physical function); neither has an effect. -/
def Obligations.IssuerAndClockChecked : Prop :=
  (∀ (c : Instr) (fn tag op : Nat) (x : Cmd) (s : State), hostRow c = some (fn, tag, op) → Offered s fn tag op x → fn ≠ 0 →
    (0x0110 ≤ op ∧ op ≤ 0x0114) ∨ (0x0810 ≤ op ∧ op ≤ 0x0812) ∨ (0x0910 ≤ op ∧ op ≤ 0x0917) ∨ op = 0x0C10 →
    exec c s = .next (s.complete fn tag 0x09))
  ∧ ∀ (c : Instr) (tag op : Nat) (x : Cmd) (s : State), hostRow c = some (0, tag, op) → Offered s 0 tag op x →
    (0x0910 ≤ op ∧ op ≤ 0x0917 ∧ s.gated 10 = true)
      ∨ ((op = 0x0A01 ∨ op = 0x0A10) ∧ s.gated 11 = true) ∨ ((0x0810 ≤ op ∧ op ≤ 0x0812) ∧ s.gated 15 = true) →
    exec c s = .next (s.complete 0 tag 0x0D)

/-! ## Containment and resets (01 R27 to R34, 03 R73, 16 R463, R473, 17 R487) -/

/-- A containment strobe (01 R27, R29, R31, R34): the unit that exists and is not held leaves for its reset state, holds no
command any more, and one that faults for the third time within 1 s of FR is held with its hold bit set; the fuses, the
queue of commands and the boot controller stand. A unit already held stays as it is. -/
def Obligations.StrobeContains : Prop :=
  (∀ (u : FUnit) (cause detail : Nat) (s : State), s.awake = true → u.exists_ = true → (s.unit u.idx).held = none →
    ∃ t, exec (.containmentStrobe u cause detail) s = .next t ∧ (t.unit u.idx).phase = .recovering
      ∧ (t.unit u.idx).held.isSome
          = decide (3 ≤ (((s.unit u.idx).faults ++ [s.frNs]).filter (fun x => decide (s.frNs < x + 1000000000))).length)
      ∧ t.unitCmds u = [] ∧ t.pending = s.pending ∧ t.fuses = s.fuses ∧ t.boot.state = s.boot.state)
  ∧ ∀ (u : FUnit) (cause detail : Nat) (s : State), s.awake = true → u.exists_ = true → (s.unit u.idx).held.isSome →
    ∃ t, exec (.containmentStrobe u cause detail) s = .next t ∧ t.units = s.units ∧ t.host.cmds = s.host.cmds
      ∧ t.radios = s.radios ∧ t.pkt = s.pkt ∧ t.cipher = s.cipher ∧ t.mac = s.mac ∧ t.tiles = s.tiles

/-- A unit reaches its reset state (01 R27, 05 R136): a held one stays in it; a host function and the mesh island are back in
service at once, a DRAM channel waits for its retraining, every other unit is configured and waits for the next Meridian
(before the first commit it stands in service, log 59), and the island before its cold start stays in its reset state; no other unit
takes part. -/
def Obligations.ResetStateReached : Prop :=
  (∀ (u : FUnit) (s : State), u.exists_ = true → (s.unit u.idx).phase = .recovering → (s.unit u.idx).held.isSome →
    ∃ t, exec (.unitResetStateReached u) s = .next t ∧ (t.unit u.idx).phase = .reset ∧ t.pending = s.pending)
  ∧ (∀ (f : Nat) (s : State), f < 16 → (s.unit (32 + f)).phase = .recovering → (s.unit (32 + f)).held = none →
    ∃ t, exec (.unitResetStateReached (.func f)) s = .next t ∧ (t.unit (32 + f)).phase = .service ∧ t.regs = s.regs
      ∧ t.host = s.host ∧ ∀ i, i ≠ 32 + f → t.unit i = s.unit i)
  ∧ (∀ (k : Nat) (s : State), k < 4 → (s.unit (21 + k)).phase = .recovering → (s.unit (21 + k)).held = none →
    ∃ t, exec (.unitResetStateReached (.dram k)) s = .next t ∧ (t.unit (21 + k)).phase = .reset ∧ t.regs = s.regs
      ∧ ∀ i, i ≠ 21 + k → t.unit i = s.unit i)
  ∧ (∀ (u : FUnit) (s : State), u.exists_ = true → u.idx < 32 → u.kind ≠ 5 → (s.unit u.idx).phase = .recovering →
    (s.unit u.idx).held = none → (u = .mesh → s.mesh.state = .recovering) →
    ∃ t, exec (.unitResetStateReached u) s = .next t
      ∧ (t.unit u.idx).phase = (if u = .mesh then .service else if u.kind = 1 then .joining else s.joinPhase)
      ∧ ∀ i, i ≠ u.idx → t.unit i = s.unit i)
  ∧ (∀ s : State, (s.unit 25).phase = .recovering → (s.unit 25).held = none → s.mesh.state = .reset →
    s.time.mtState = .notStarted →
    ∃ t, exec (.unitResetStateReached .mesh) s = .next t ∧ (t.unit 25).phase = .reset ∧ t.mesh = s.mesh)
  ∧ ∀ (u : FUnit) (s : State), (s.unit u.idx).phase ≠ .recovering → exec (.unitResetStateReached u) s = .next s

/-- What every device reset leaves, whatever starts it (03 R73, R89, 17 R487, R488): the fuses and the queue stand, no unit is in
service, no bank is active, every register is at its reset word, NT, MT and FR are not started; RESET_N low additionally
forgets the straps, and leaves the flash as it is where nothing runs on it and no attempt at a fault record is under way;
where it falls in the same cycle as PWR_OK, PWR_OK makes no fault (log 2). -/
def Obligations.DeviceResets : Prop :=
  (∀ s : State, ∃ t, exec .resetNAssert s = .next t ∧ t.boot.state = .reset ∧ t.boot.resetN = false ∧ t.boot.refsel = 0
      ∧ t.boot.clkq = 0 ∧ t.boot.bootmode = 0 ∧ t.fuses = s.fuses ∧ t.pending = s.pending ∧ t.regs = [] ∧ t.staged = []
      ∧ t.units = [] ∧ t.time = {} ∧ t.grid = {} ∧ t.flash.ok = false)
  ∧ (∀ (cause detail : Nat) (s : State), s.boot.state ≠ .reset →
    ∃ t, exec (.deviceFault cause detail) s = .next t ∧ t.fuses = s.fuses ∧ t.pending = s.pending ∧ t.regs = []
      ∧ t.staged = [] ∧ t.units = [] ∧ t.time = {} ∧ t.grid = {} ∧ t.boot.refsel = s.boot.refsel
      ∧ (cause = 0x10 → t.boot.state = .reset ∧ t.boot.wait = .cooldown)
      ∧ (cause = 0x11 → t.boot.state = .reset ∧ t.boot.wait = .pwrOk)
      ∧ (cause ≠ 0x10 → cause ≠ 0x11 → s.boot.refsel ≠ 3 → s.boot.bootmode ≠ 3 → t.boot.state = .qualify))
  ∧ (∀ s : State, s.boot.pwrOk = true → s.boot.state ≠ .reset → .resetNAssert ∉ s.pending →
    ∃ t, exec .pwrOkFall s = .next t ∧ t.boot.state = .reset ∧ t.boot.wait = .pwrOk ∧ t.boot.pwrOk = false
      ∧ t.fuses = s.fuses ∧ t.regs = [] ∧ t.units = [])
  ∧ (∀ (b : Bool) (s : State), s.boot.refReady = true → s.boot.refsel ≠ 3 → s.boot.bootmode ≠ 3 →
    ∃ t, exec (.referenceLoss b) s = .next t ∧ t.boot.state = .qualify ∧ t.boot.refReady = false ∧ t.fuses = s.fuses
      ∧ t.regs = [] ∧ t.units = [])
  ∧ (∀ s : State, s.boot.rootReady = true → s.boot.refsel ≠ 3 → s.boot.bootmode ≠ 3 →
    ∃ t, exec .rootPllUnlock s = .next t ∧ t.boot.state = .qualify ∧ t.boot.rootReady = false ∧ t.fuses = s.fuses
      ∧ t.regs = [] ∧ t.units = [])
  ∧ (∀ (r : Requester) (s : State), Mapped s r → s.boot.state = .run ∨ s.boot.state = .hold ∨ s.boot.state = .recovery →
    s.boot.refsel ≠ 3 → s.boot.bootmode ≠ 3 →
    ∃ t, exec (.deviceResetKeyWrite r 0x7A110001#32) s = .next t ∧ t.boot.state = .qualify ∧ t.fuses = s.fuses
      ∧ t.regs = [] ∧ t.units = [] ∧ t.answer = some .done)
  ∧ (∀ (r : Requester) (v : Word) (s : State), Mapped s r → v ≠ 0x7A110001#32 →
    exec (.deviceResetKeyWrite r v) s = answered s)
  ∧ (∀ s : State, s.boot.state = .recovery → s.boot.almFrom + ms 600000 ≤ s.elapsed → s.boot.refsel ≠ 3 →
    s.boot.bootmode ≠ 3 →
    ∃ t, exec .recoveryTimeout s = .next t ∧ t.boot.state = .qualify ∧ t.fuses = s.fuses ∧ t.regs = [] ∧ t.units = [])
  ∧ (∀ s : State, .resetNAssert ∈ s.pending →
    exec .pwrOkFall s = .next { s with boot := { s.boot with pwrOk := false } })
  ∧ ∀ s : State, s.flash.running = false → s.boot.attempt.all (fun a => decide (a.1 ≤ s.elapsed)) = true →
    ∃ t, exec .resetNAssert s = .next t ∧ t.flash.bytes = s.flash.bytes ∧ t.boot.attempt = none

/-- From the reset state to LOAD (02 R45, R47, 03 R70, R73, R74, 16 R463): releasing RESET_N samples the straps and starts
qualification unless a strap is reserved; CLKQ's edges within ±1,000 ppm qualify the reference; the root PLL's lock moves
domains 0, 1, 5 and 6 to ROOT and enters LOAD, or RECOVERY where BOOTMODE says so; PWR_OK's return starts a device that waits
for it. -/
def Obligations.ColdBoot : Prop :=
  (∀ (q : BitVec 3) (refsel bootmode : BitVec 2) (s : State), s.boot.resetN = false →
    ∃ t, exec (.resetNRelease refsel q bootmode) s = .next t ∧ t.boot.resetN = true ∧ t.boot.refsel = refsel
      ∧ t.boot.clkq = q ∧ t.boot.bootmode = bootmode ∧ t.regs = s.regs ∧ t.fuses = s.fuses ∧ t.time = s.time
      ∧ t.boot.state = (if refsel = 3 ∨ bootmode = 3 then .reset else .qualify))
  ∧ (∀ s : State, s.boot.state = .reset → s.boot.wait = .pwrOk → s.boot.resetN = true → s.boot.refsel ≠ 3 →
    s.boot.bootmode ≠ 3 →
    ∃ t, exec .pwrOkReturn s = .next t ∧ t.boot.pwrOk = true ∧ t.boot.state = .qualify ∧ t.regs = s.regs)
  ∧ (∀ (ppm : Int) (s : State), s.boot.state = .qualify → s.boot.refReady = false → -1000 ≤ ppm → ppm ≤ 1000 →
    exec (.referenceQualified s.qualEdges ppm) s = .next { s with boot := { s.boot with refReady := true } })
  ∧ (∀ (edges : Nat) (ppm : Int) (s : State), ppm < -1000 ∨ 1000 < ppm → exec (.referenceQualified edges ppm) s = .next s)
  ∧ ∀ s : State, s.boot.state = .qualify → s.boot.refReady = true → s.boot.rootReady = false →
    s.clocks.onRoot.length = 8 →
    ∃ t, exec .rootPllLocked s = .next t ∧ t.boot.rootReady = true
      ∧ t.boot.state = (if s.boot.bootmode = 2 then .recovery else .load)
      ∧ (∀ d ∈ [0, 1, 5, 6], t.clocks.onRoot.getD d false = true)
      ∧ (∀ d ∈ [2, 3, 4], t.clocks.onRoot.getD d false = s.clocks.onRoot.getD d false)
      ∧ t.clocks.onRoot.getD 7 false = (s.clocks.onRoot.getD 7 false || decide (s.boot.refsel = 1))
      ∧ t.fuses = s.fuses ∧ t.time = s.time

/-! ## Clock enables, source switches and frequency counters (02 R53 to R63) -/

/-- Clock enables (02 R55, R56): a write of 1 sets the bit and takes back a drain; a write of 0 clears it and starts the
drain of a running clock; the drained clock stops once the block holds no work accepted before (log 139), a port's with its links down, and one not idle
within 100 µs keeps its clock with event 0x1804 and the DRAIN flag; the clock of an enabled block whose domains are up starts. -/
def Obligations.ClockEnables : Prop :=
  (∀ (r : Requester) (b : Nat) (s : State), b ∈ clockBlocks → Mapped s r →
    ∃ t, exec (.clockEnableWrite r b) s = .next t ∧ t.answer = some .done
      ∧ (s.isZ73 = false ∨ b < 32 → t.flag (clkEn b) = true ∧ Tab.get? t.clocks.draining b = none)
      ∧ (∀ a, a ≠ (clkEn b).a → t.reg a = s.reg a) ∧ t.time = s.time ∧ t.units = s.units ∧ t.host = s.host)
  ∧ (∀ (b : Nat) (s : State), b ∈ clockBlocks → s.flag (clkSt b) = false → s.flag (clkEn b) = true →
    s.boot.rootReady = true → (∀ d ∈ blockDomains b, s.domUp d = true) → s.blockRejected b = false →
    ∃ t, exec (.clockStart b) s = .next t ∧ t.flag (clkSt b) = true)
  ∧ (∀ (r : Requester) (b : Nat) (s : State), b ∈ clockBlocks → b ≠ 15 → Mapped s r → s.flag (clkEn b) = true →
    s.flag (clkSt b) = true →
    ∃ t, exec (.clockDisableWrite r b) s = .next t ∧ t.answer = some .done ∧ t.flag (clkEn b) = false
      ∧ t.flag (clkSt b) = true ∧ Tab.get? t.clocks.draining b = some s.elapsed ∧ t.gated b = true
      ∧ (∀ f : FieldRef, f.a ≠ (clkEn b).a → t.get f = s.get f) ∧ t.units = s.units)
  ∧ (∀ (b : Nat) (s : State), b < 16 ∨ 20 ≤ b ∧ b < 32 → b ≠ 10 → b ≠ 15 → Tab.has s.clocks.draining b = true → s.blockRecovering b = false →
    s.blockIdle b = true →
    ∃ t, exec (.clockStop b) s = .next t ∧ t.flag (clkSt b) = false ∧ Tab.get? t.clocks.draining b = none
      ∧ (∀ a, a ≠ (clkSt b).a → t.reg a = s.reg a) ∧ t.units = s.units ∧ t.host = s.host)
  ∧ (∀ (p : Nat) (s : State), p < 4 → Tab.has s.clocks.draining (16 + p) = true → s.blockRecovering (16 + p) = false →
    s.blockIdle (16 + p) = true →
    ∃ t, exec (.clockStop (16 + p)) s = .next t ∧ t.flag (clkSt (16 + p)) = false ∧ Tab.get? t.clocks.draining (16 + p) = none
      ∧ (∀ sub ∈ subsOf p, Tab.getD t.eth.links sub 0 = 0)
      ∧ (∀ a, a ≠ 0x100018 → (∀ f, f < 16 → a ≠ hqBase f + 0x20) → t.reg a = s.reg a) ∧ t.units = s.units
      ∧ t.host.cmds = s.host.cmds)
  ∧ (∀ (b : Nat) (s : State), Tab.has s.clocks.draining b = true → s.blockIdle b = false → exec (.clockStop b) s = .next s)
  ∧ ∀ (b from_ : Nat) (s : State), b ∈ clockBlocks → b ≠ 15 → Tab.get? s.clocks.draining b = some from_ →
    s.blockRecovering b = false → s.blockIdle b = false → from_ + us 100 ≤ s.elapsed →
    exec (.drainTimeout b) s = .next
      ((({ s with clocks := { s.clocks with draining := Tab.del s.clocks.draining b } }.put (clkEn b) 1).put ⟨0x100008, 2, 2⟩
        1).postEvent 0x1804 (items [(clkEn b).a, b % 32]))

/-- Source switches (02 R57 to R59): the checks of a request in order — BUSY while one runs, none for the source in use (the
model's reading, log 127), RANGE for domain 7 off a ROOT it may not use, NOT_READY for a source that is not there, the refusal
of domain 4 under a valid NT and of domain 6 under a link that is up; the source in use completes OK; a switch that ends well sets the source with OK; one whose old source shows no
edge is forced, with ABANDONED in the register, the flag and event 0x1801. -/
def Obligations.SourceSwitches : Prop :=
  (∀ (r : Requester) (d : Nat) (root : Bool) (st : Nat) (s : State), d < 8 → Mapped s r → s.switchCheck d root = some st →
    exec (.sourceSwitchGo r d root) s = answered ((s.put ⟨ckrSrc d, 8, 8⟩ (b2n root)).put (srcResult d) st))
  ∧ (∀ (r : Requester) (d : Nat) (root : Bool) (s : State), d < 8 → Mapped s r → s.switchCheck d root = none →
    ∃ t, exec (.sourceSwitchGo r d root) s = .next t ∧ t.answer = some .done ∧ t.clocks.onRoot = s.clocks.onRoot
      ∧ (s.clocks.onRoot.getD d false = root → t.get (srcResult d) = 0 ∧ t.clocks = s.clocks)
      ∧ (s.clocks.onRoot.getD d false ≠ root → Tab.get? t.clocks.switching d = some root)
      ∧ ∀ a, a ≠ ckrSrc d → t.reg a = s.reg a)
  ∧ (∀ (d : Nat) (root : Bool) (s : State), d < 8 → d ≠ 4 → s.clocks.onRoot.length = 8 →
    Tab.get? s.clocks.switching d = some root →
    ∃ t, exec (.sourceSwitchDone d) s = .next t ∧ t.clocks.onRoot.getD d false = root
      ∧ Tab.get? t.clocks.switching d = none ∧ t.get (srcResult d) = 0 ∧ t.time = s.time ∧ t.units = s.units
      ∧ ∀ a, a ≠ ckrSrc d → t.reg a = s.reg a)
  ∧ (∀ (d : Nat) (root : Bool) (s : State), Tab.get? s.clocks.switching d = some root →
    exec (.switchAbandoned d) s = .next ((((((s.setSource d root).put (srcResult d) 0x10).put ⟨0x100008, 0, 0⟩ 1).postEvent
      0x1801 (items [d, b2n (!root), ((s.setSource d root).put (srcResult d) 0x10).stamp.toNat])).abandonFault d)))
  ∧ ∀ (d : Nat) (root : Bool) (s : State), d < 8 →
    s.switchCheck d root = (if Tab.has s.clocks.switching d = true then some 0x11
      else if s.clocks.onRoot.getD d false = root then none
      else if d = 7 ∧ root = true ∧ s.boot.refsel ≠ 1 then some 0x02
      else if (if root = true then s.boot.rootReady else s.boot.refReady) = false then some 0x03
      else if (d = 4 ∧ s.time.state ≠ .notStarted) ∨ (d = 6 ∧ s.host.linkUp = true) then some 0x13 else none)

/-- Frequency counters (02 R61 to R63): a write with START whose SEL and N are accepted sets SEL, N and EVT; on a counter that runs
it leaves the window as it is and RESULT is CLK_BUSY (log 131), on an idle one the window starts with that clock and exponent. A SEL
or an N that is not accepted makes the write invalid, and RESULT is CLK_BUSY or, on an idle counter, RANGE (the model's choice, log
15). Once 2^N REF cycles of the window have passed, the counter shows the edges of its clock with OK and DONE; a clock that stood
throughout counts no edge. -/
def Obligations.FrequencyCounters : Prop :=
  (∀ (r : Requester) (n sel exp : Nat) (evt : Bool) (s : State), n < 8 → Mapped s r → s.clocks.fcBusy.contains n = true →
    10 ≤ exp → exp ≤ 30 → fcSelOk sel = true →
    exec (.freqMeasureStart r n sel exp evt) s = answered ((((s.put ⟨fcCtrl n, 5, 0⟩ sel).put ⟨fcCtrl n, 12, 8⟩ exp).put
      ⟨fcCtrl n, 17, 17⟩ (b2n evt)).put ⟨fcCtrl n + 4, 7, 0⟩ 0x11))
  ∧ (∀ (r : Requester) (n sel exp : Nat) (evt : Bool) (s : State), n < 8 → Mapped s r → s.clocks.fcBusy.contains n = false →
    10 ≤ exp → exp ≤ 30 → fcSelOk sel = true →
    ∃ t, exec (.freqMeasureStart r n sel exp evt) s = .next t ∧ t.answer = some .done ∧ t.get ⟨fcCtrl n, 5, 0⟩ = sel
      ∧ t.get ⟨fcCtrl n, 12, 8⟩ = exp ∧ t.flag ⟨fcCtrl n, 17, 17⟩ = evt ∧ t.clocks.fcBusy = s.clocks.fcBusy ++ [n]
      ∧ Tab.get? t.clocks.fcFrom n = some s.elapsed
      ∧ Tab.get? t.clocks.fcWin n = some { sel := sel, exp := exp, rate := s.fcClock sel }
      ∧ ∀ a, a ≠ fcCtrl n → t.reg a = s.reg a)
  ∧ (∀ (r : Requester) (n sel exp : Nat) (evt : Bool) (s : State), n < 8 → Mapped s r → sel < 64 → exp < 32 →
    exp < 10 ∨ exp = 31 ∨ fcSelOk sel = false →
    exec (.freqMeasureStart r n sel exp evt) s = answered ((s.invalidWrite r (fcCtrl n) (fcWord sel exp evt)).put
      ⟨fcCtrl n + 4, 7, 0⟩ (if s.clocks.fcBusy.contains n = true then 0x11 else 0x02)))
  ∧ (∀ (n edges : Nat) (w : FcWin) (s : State), n < 8 → s.clocks.fcBusy.contains n = true →
    Tab.get? s.clocks.fcWin n = some w → s.flag ⟨fcCtrl n, 17, 17⟩ = false → s.fcCounts w edges = true →
    2 ^ w.exp * 3000000 ≤ (s.elapsed - Tab.getD s.clocks.fcFrom n 0) * 5 * s.refKhz →
    ∃ t, exec (.freqMeasureDone n edges) s = .next t ∧ t.clocks.fcBusy.contains n = false
      ∧ Tab.get? t.clocks.fcCount n = some (edges % 2 ^ 40) ∧ t.get ⟨fcCtrl n + 4, 7, 0⟩ = 0
      ∧ t.flag ⟨fcCtrl n + 4, 9, 9⟩ = true ∧ ∀ a, a ≠ fcCtrl n + 4 → t.reg a = s.reg a)
  ∧ ∀ (n edges : Nat) (w : FcWin) (s : State), Tab.get? s.clocks.fcWin n = some w → w.ran = false → edges ≠ 0 →
    exec (.freqMeasureDone n edges) s = .next s

/-! ## Boot, the serial flash and the Almanac (03 R73 to R99) -/

/-- The boot controller from LOAD on (03 R73, R77, R85, R86): discovery records the devices found, and one that fails leaves
FLASH_ERROR in both slots and enters RECOVERY; when the slots are checked the valid one with the higher SEQUENCE is selected, A
on a tie, and read again: where that fails its slot is invalid and the other is considered in the same way; the controller enters
CONFIGURE with the slot that stands, or RECOVERY when neither is valid; after CONFIGURE it waits in HOLD where
BOOTMODE is 0b01 and else runs; RELEASE and the hold timeout leave HOLD. -/
def Obligations.BootSequence : Prop :=
  (∀ (a b : Option FlashDev) (s : State), s.boot.state = .load → s.flash.ok = false → s.boot.flashError = false →
    ∃ t, exec (.flashDiscoveryDone a b) s = .next t ∧ t.flash.ok = discovered a b
      ∧ t.flash.devices = b2n a.isSome + b2n b.isSome ∧ t.flash.bytes = s.flash.bytes ∧ t.fuses = s.fuses
      ∧ (discovered a b = true → t.boot = s.boot)
      ∧ (discovered a b = false → t.boot.state = .recovery ∧ t.boot.flashError = true ∧ t.boot.slotA.status = 0x1A
          ∧ t.boot.slotB.status = 0x1A ∧ t.boot.slotA.valid = false ∧ t.boot.slotB.valid = false))
  ∧ (∀ (ra rb : SlotReads) (a b : SlotCheck) (s : State), s.boot.state = .load → s.flash.ok = true →
    a = s.checkSlot 0 ra.first → b = s.checkSlot 1 rb.first → (a.order = 0 → ra.second = none) → (b.order = 0 → rb.second = none) →
    ∃ t, exec (.imageCheckDone ra rb) s = .next t ∧ t.boot.slotA = a.stat
      ∧ t.boot.slotB = b.stat ∧ t.flash.bytes = s.flash.bytes ∧ t.fuses = s.fuses
      ∧ (t.boot.active, t.boot.state) =
          (if a.order = 0 ∧ (b.order ≠ 0 ∨ b.seq ≤ a.seq) then (some 0, .configure)
            else if b.order = 0 then (some 1, .configure) else (s.boot.active, .recovery)))
  ∧ (∀ (ra rb : SlotReads) (a b : SlotCheck) (k : Nat) (s : State), s.boot.state = .load → s.flash.ok = true →
    a = s.checkSlot 0 ra.first → b = s.checkSlot 1 rb.first →
    ((a.order = 0 ∧ (b.order ≠ 0 ∨ b.seq ≤ a.seq)) → ra.second = some k →
      ∃ t, exec (.imageCheckDone ra rb) s = .next t ∧ t.boot.slotA = ⟨orderStatus k, false, a.seq⟩ ∧ t.fuses = s.fuses
        ∧ (b.order = 0 → rb.second = none →
            t.boot.slotB = b.stat ∧ t.boot.active = some 1 ∧ t.boot.state = .configure)
        ∧ (b.order ≠ 0 ∨ rb.second.isSome →
            t.boot.slotB.valid = false ∧ t.boot.active = s.boot.active ∧ t.boot.state = .recovery))
    ∧ (b.order = 0 ∧ (a.order ≠ 0 ∨ a.seq < b.seq) → rb.second = some k →
      ∃ t, exec (.imageCheckDone ra rb) s = .next t ∧ t.boot.slotB = ⟨orderStatus k, false, b.seq⟩ ∧ t.fuses = s.fuses
        ∧ (a.order = 0 → ra.second = none →
            t.boot.slotA = a.stat ∧ t.boot.active = some 0 ∧ t.boot.state = .configure)
        ∧ (a.order ≠ 0 ∨ ra.second.isSome →
            t.boot.slotA.valid = false ∧ t.boot.active = s.boot.active ∧ t.boot.state = .recovery)))
  ∧ (∀ s : State, s.boot.state = .configure →
    ∃ t, exec .configureDone s = .next t ∧ t.boot.state = (if s.boot.bootmode = 1 then .hold else .run)
      ∧ t.boot.holdFrom = s.elapsed ∧ t.boot.active = s.boot.active ∧ t.fuses = s.fuses)
  ∧ (∀ (r : Requester) (s : State), Mapped s r → s.boot.state = .hold →
    ∃ t, exec (.bootReleaseWrite r) s = .next t ∧ t.boot = { s.boot with state := .run } ∧ t.answer = some .done
      ∧ t.regs = s.regs ∧ t.units = s.units)
  ∧ (∀ (r : Requester) (s : State), Mapped s r → s.boot.state ≠ .hold → exec (.bootReleaseWrite r) s = answered s)
  ∧ ∀ s : State, s.boot.state = .hold → s.boot.holdFrom + ms (1000 * s.holdTimeout) ≤ s.elapsed →
    ∃ t, exec .bootHoldTimeout s = .next t ∧ t.boot = { s.boot with state := .run } ∧ t.units = s.units

/-- The Almanac commands of the physical function when none runs or waits before them (03 R93 to R95, R79). ALM_SLOT_ERASE and
ALM_SLOT_WRITE of a slot that is writable, ALM_SLOT_VERIFY and LOG_READ put their accesses behind what the flash has to do, one erase
per 64 KB, one program per 256 B of the host's data, one reading: no byte of the flash changes yet, and the command runs. ATTEST
writes the report and its signature to the host and completes OK. A field outside the table of R94 (a reserved byte that is not
0, a SLOT above 1, a length, offset, page or count outside its range or its granularity), or a slot to erase or write that is not
writable, completes with RANGE, and the other four without a flash complete with FLASH_ERROR after that check (13 R380). -/
def Obligations.AlmanacCommands : Prop :=
  (∀ (tag : Nat) (c : Cmd) (s : State), Offered s 0 tag 0x0110 c → s.almBusy tag = false → s.flash.ok = true →
    c.reservedOk [(16, 1), (20, 4), (24, 4)] = true → c.b 16 ≤ 1 → s.slotWritable (c.b 16) = true → c.le 20 4 % 65536 = 0 →
    c.le 24 4 % 65536 = 0 → c.le 24 4 ≠ 0 → c.le 20 4 + c.le 24 4 ≤ s.slotSize →
    ∃ t, exec (.almSlotErase 0 tag) s = .next t ∧ t.boot.almRunning = some (0, tag) ∧ t.flash.running = true
      ∧ t.flash.ops = s.flash.ops ++ (List.range (c.le 24 4 / 65536)).map
          (fun i => FlashOp.erase ((s.slotBase (c.b 16) + c.le 20 4) / 65536 + i))
      ∧ t.flash.bytes = s.flash.bytes ∧ t.regs = s.regs ∧ t.boot.almFrom = s.elapsed)
  ∧ (∀ (tag : Nat) (c : Cmd) (d : List Byte) (s : State), Offered s 0 tag 0x0111 c → s.almBusy tag = false →
    s.flash.ok = true → c.reservedOk [(16, 1), (20, 4), (24, 4), (32, 8)] = true → c.b 16 ≤ 1 →
    s.slotWritable (c.b 16) = true → c.le 20 4 % 256 = 0 → c.le 24 4 % 256 = 0 → c.le 24 4 ≠ 0 → c.le 24 4 ≤ 65536 →
    c.le 20 4 + c.le 24 4 ≤ s.slotSize →
    ∃ t, exec (.almSlotWrite 0 tag (some d)) s = .next t ∧ t.boot.almRunning = some (0, tag) ∧ t.flash.running = true
      ∧ t.flash.ops = s.flash.ops ++ (List.range (c.le 24 4 / 256)).map
          (fun i => FlashOp.program (s.slotBase (c.b 16) + c.le 20 4 + 256 * i) (slice d (256 * i) 256))
      ∧ t.flash.bytes = s.flash.bytes ∧ t.regs = s.regs)
  ∧ (∀ (tag : Nat) (c : Cmd) (s : State), Offered s 0 tag 0x0112 c → s.almBusy tag = false → s.flash.ok = true →
    c.reservedOk [(16, 1)] = true → c.b 16 ≤ 1 →
    ∃ t, exec (.almSlotVerify 0 tag) s = .next t ∧ t.boot.almRunning = some (0, tag) ∧ t.flash.running = true
      ∧ t.flash.ops = s.flash.ops ++ [.verify (c.b 16)] ∧ t.flash.bytes = s.flash.bytes ∧ t.regs = s.regs)
  ∧ (∀ (tag : Nat) (c : Cmd) (s : State), Offered s 0 tag 0x0114 c → s.almBusy tag = false → s.flash.ok = true →
    c.reservedOk [(16, 4), (20, 4), (32, 8)] = true → c.le 16 4 ≤ 32767 → c.le 20 4 ≠ 0 → c.le 20 4 ≤ 256 →
    ∃ t, exec (.logRead 0 tag) s = .next t ∧ t.boot.almRunning = some (0, tag) ∧ t.flash.running = true
      ∧ t.flash.ops = s.flash.ops ++ [.logRead (c.le 16 4) (c.le 20 4)] ∧ t.flash.bytes = s.flash.bytes ∧ t.regs = s.regs)
  ∧ (∀ (tag : Nat) (c : Cmd) (s : State), Offered s 0 tag 0x0113 c → s.almBusy tag = false →
    c.reservedOk [(16, 32), (48, 8)] = true →
    exec (.attest 0 tag) s = .next (({ s with boot := { s.boot with almFrom := s.elapsed } }.writeHost 0 (c.le 48 8)
      (s.attestBody (c.bytes 16 32) ++ ed25519Sign s.fuses.idSeed (sha512 (s.attestBody (c.bytes 16 32))))).complete 0 tag 0))
  ∧ (∀ (tag op : Nat) (c : Cmd) (i : Instr) (data : HostData) (s : State),
    (op = 0x0110 ∧ i = .almSlotErase 0 tag ∧ c.reservedOk [(16, 1), (20, 4), (24, 4)] = true ∧ c.b 16 ≤ 1
        ∧ s.slotWritable (c.b 16) = true ∧ c.le 20 4 % 65536 = 0 ∧ c.le 24 4 % 65536 = 0 ∧ c.le 24 4 ≠ 0
        ∧ c.le 20 4 + c.le 24 4 ≤ s.slotSize)
      ∨ (op = 0x0111 ∧ i = .almSlotWrite 0 tag data ∧ c.reservedOk [(16, 1), (20, 4), (24, 4), (32, 8)] = true ∧ c.b 16 ≤ 1
        ∧ s.slotWritable (c.b 16) = true ∧ c.le 20 4 % 256 = 0 ∧ c.le 24 4 % 256 = 0 ∧ c.le 24 4 ≠ 0 ∧ c.le 24 4 ≤ 65536
        ∧ c.le 20 4 + c.le 24 4 ≤ s.slotSize)
      ∨ (op = 0x0112 ∧ i = .almSlotVerify 0 tag ∧ c.reservedOk [(16, 1)] = true ∧ c.b 16 ≤ 1)
      ∨ (op = 0x0114 ∧ i = .logRead 0 tag ∧ c.reservedOk [(16, 4), (20, 4), (32, 8)] = true ∧ c.le 16 4 ≤ 32767
        ∧ c.le 20 4 ≠ 0 ∧ c.le 20 4 ≤ 256) →
    Offered s 0 tag op c → s.almBusy tag = false → s.flash.ok = false →
    exec i s = .next ({ s with boot := { s.boot with almFrom := s.elapsed } }.complete 0 tag 0x1A))
  ∧ ∀ (tag op : Nat) (c : Cmd) (i : Instr) (data : HostData) (s : State), s.almBusy tag = false → Offered s 0 tag op c →
    ((op = 0x0110 ∧ i = .almSlotErase 0 tag ∧ (c.reservedOk [(16, 1), (20, 4), (24, 4)] = false ∨ 1 < c.b 16
          ∨ s.slotWritable (c.b 16) = false ∨ c.le 20 4 % 65536 ≠ 0 ∨ c.le 24 4 % 65536 ≠ 0 ∨ c.le 24 4 = 0
          ∨ s.slotSize < c.le 20 4 + c.le 24 4))
        ∨ (op = 0x0111 ∧ i = .almSlotWrite 0 tag data ∧ (c.reservedOk [(16, 1), (20, 4), (24, 4), (32, 8)] = false ∨ 1 < c.b 16
          ∨ s.slotWritable (c.b 16) = false ∨ c.le 20 4 % 256 ≠ 0 ∨ c.le 24 4 % 256 ≠ 0 ∨ c.le 24 4 = 0 ∨ 65536 < c.le 24 4
          ∨ s.slotSize < c.le 20 4 + c.le 24 4))
        ∨ (op = 0x0112 ∧ i = .almSlotVerify 0 tag ∧ (c.reservedOk [(16, 1)] = false ∨ 1 < c.b 16))
        ∨ (op = 0x0114 ∧ i = .logRead 0 tag ∧ (c.reservedOk [(16, 4), (20, 4), (32, 8)] = false ∨ 32767 < c.le 16 4
          ∨ c.le 20 4 = 0 ∨ 256 < c.le 20 4)))
      ∨ (op = 0x0113 ∧ i = .attest 0 tag ∧ c.reservedOk [(16, 32), (48, 8)] = false) →
    exec i s = .next ({ s with boot := { s.boot with almFrom := s.elapsed } }.complete 0 tag 0x02)

/-- A flash access that ends (03 R76, R79, R94 to R97): a program writes an erased page, an erase leaves its sector erased and
no longer spoiled, a log entry moves the pointer on by a page; a program or an erase ends so only before its 5 ms or 2 s (R77). One
that reaches them times out (R99) and leaves an Almanac command's sector
spoiled, ends the command and drops its other accesses, and tries a log entry once more at the next page, where that
page opens a sector with the erase of the sector after it queued; the second timeout leaves the log unavailable. -/
def Obligations.FlashAccessesEnd : Prop :=
  (∀ (a : Nat) (d : List Byte) (rest : List FlashOp) (s : State), s.flash.running = true → s.flash.ops = .program a d :: rest →
    s.elapsed < s.flash.since + ms 5 → s.flash.written.contains (a / 256) = false →
    (s.flashRead a d.length).all (· == Memory.unlisted) = true →
    ∃ t, exec .flashOpDone s = .next t ∧ t.flash.bytes = Memory.writeN s.flash.bytes a d ∧ t.flash.ops = rest
      ∧ t.flash.spoiled = s.flash.spoiled ∧ t.flash.running = !rest.isEmpty ∧ t.log = s.log ∧ t.fuses = s.fuses)
  ∧ (∀ (k : Nat) (rest : List FlashOp) (s : State), s.flash.running = true → s.flash.ops = .erase k :: rest →
    s.elapsed < s.flash.since + ms 2000 →
    ∃ t, exec .flashOpDone s = .next t ∧ (∀ a, k * 65536 ≤ a → a < k * 65536 + 65536 → Memory.read t.flash.bytes a = 0xFF#8)
      ∧ (∀ a, a < k * 65536 ∨ k * 65536 + 65536 ≤ a → Memory.read t.flash.bytes a = Memory.read s.flash.bytes a)
      ∧ t.flash.ops = rest ∧ t.flash.spoiled.contains k = false ∧ t.log = s.log)
  ∧ (∀ (ty : Nat) (p : List Byte) (again : Bool) (rest : List FlashOp) (s : State), s.flash.running = true →
    s.flash.ops = .logEntry ty p again :: rest → s.elapsed < s.flash.since + ms 5 →
    ∃ t, exec .flashOpDone s = .next t ∧ t.log.ptr = (s.log.ptr + 1) % 32768 ∧ t.log.seq = (s.log.seq + 1) % 2 ^ 32
      ∧ t.host.cqes = s.host.cqes ∧ t.regs = s.regs)
  ∧ (∀ (k : Nat) (rest : List FlashOp) (s : State), s.flash.running = true → s.flash.ops = .erase k :: rest →
    s.flash.since + ms 2000 ≤ s.elapsed →
    ∃ t, exec .flashOpTimeout s = .next t ∧ t.flash.spoiled.contains k = true ∧ t.flash.ops = rest.filter FlashOp.ofLog
      ∧ t.boot.almRunning = none
      ∧ ∀ a, a < k * 65536 ∨ k * 65536 + 65536 ≤ a → Memory.read t.flash.bytes a = Memory.read s.flash.bytes a)
  ∧ (∀ (ty : Nat) (p : List Byte) (rest : List FlashOp) (s : State), s.flash.running = true →
    s.flash.ops = .logEntry ty p false :: rest → s.flash.since + ms 5 ≤ s.elapsed →
    ∃ t, exec .flashOpTimeout s = .next t
      ∧ t.flash.ops = .logEntry ty p true :: (if (s.log.ptr + 1) % 256 = 0
          then rest.takeWhile FlashOp.ofLog ++ [.logErase (((s.log.ptr + 1) / 256 % 128 + 1) % 128)] ++ rest.dropWhile FlashOp.ofLog
          else rest)
      ∧ t.log.ptr = (s.log.ptr + 1) % 32768 ∧ t.log.creditStop = (s.log.creditStop || decide (ty = 2)) ∧ t.host = s.host)
  ∧ ∀ (ty : Nat) (p : List Byte) (rest : List FlashOp) (s : State), s.flash.running = true →
    s.flash.ops = .logEntry ty p true :: rest → s.flash.since + ms 5 ≤ s.elapsed →
    ∃ t, exec .flashOpTimeout s = .next t ∧ t.log.down = true ∧ t.log.creditStop = true
      ∧ t.flash.ops = rest.filter (fun o => !o.ofLog)

/-- Every 3,600 s of FR the tuners' counts are written to the log once boot has restored them (03 R98), and every tuner's credit grows
by 7,500 up to 180,000 unless the log takes no counts (05 R149). -/
def Obligations.TunerCountTimers : Prop :=
  (∀ s : State, s.boot.state ∉ [BootState.reset, .qualify, .load] → s.log.countsFrom + 3600000000000 ≤ s.frNs →
    exec .tunerCountWriteTimer s = .next
      { s.writeCounts with log := { s.writeCounts.log with countsFrom := s.log.countsFrom + 3600000000000 } })
  ∧ (∀ s : State, s.boot.state ∈ [BootState.reset, .qualify, .load] ∨ s.frNs < s.log.countsFrom + 3600000000000 → exec .tunerCountWriteTimer s = .next s)
  ∧ (∀ s : State, s.log.creditFrom + 3600000000000 ≤ s.frNs →
    ∃ t, exec .tunerCreditTimer s = .next t ∧ t.log = { s.log with creditFrom := s.log.creditFrom + 3600000000000 }
      ∧ (∀ i, (t.chain i).credit = (if s.log.creditStop = false ∧ s.chainExists i = true
          then Nat.min 180000 ((s.chain i).credit + 7500) else (s.chain i).credit))
      ∧ (∀ i, (t.chain i).count = (s.chain i).count ∧ (t.chain i).pos = (s.chain i).pos) ∧ t.regs = s.regs)
  ∧ ∀ s : State, s.frNs < s.log.creditFrom + 3600000000000 → exec .tunerCreditTimer s = .next s

/-! ## Time bases (04 R102 to R124) -/

/-- Time inputs (04 R104, R109 to R114, R125). A Sync exchange of the configured domain on a configured port that exists gives an
offset to PTP's filter with the port's asymmetry taken off; a log interval outside −7 to 1 is counted and ignored, as is any Announce of
an ARB timescale, which is not counted. An Announce whose UTC offset and leap flags come from the active source, or from any while
none is active, passes them on (log 142); one with another clockIdentity than PTP's has takes it over and clears PTP's window, and
posts event 0x2005 where PTP is the active source. A 1PPS edge within 999 ms of FR of the last one not ignored (log 145) is counted
and ignored, any other is stamped. A time-of-day message without an edge is discarded and counted with event 0x2008; one in the window
after its edge that passes every check gives its filter the offset of its edge. In the outlier filter an empty window's offset only
joins the run of four that may seed; an offset within OUTLIER_LIMIT of the window's median is taken; any other is counted and leaves the
window, NT and RATE as they are. After a message the mesh island makes its cold start where it now can (10 R267). -/
def Obligations.TimeInputs : Prop :=
  ((∀ (port domain : Nat) (log src : Int) (s : State), s.srcOrder.contains 1 = true → s.clocks.onRoot.getD 4 false = true →
    bitOf (fieldLE (s.recBytes 0x0201) 4 2) port = true → s.subExists port = true → fieldLE (s.recBytes 0x0201) 2 1 = domain →
    exec (.ptpMessageRx port domain log src) s = .next
      (if log < -7 ∨ 1 < log then s.inc ⟨0x200028, 15, 0⟩ else s.newOffset 1
        (s.stampBase16 - src - signed 32 (fieldLE (s.recBytes 0x0204) (4 * port) 4) * 65536 / 1000)).meshStart)
  ∧ (∀ (port domain utc leap : Nat) (id : BitVec 64) (s : State), exec (.ptpAnnounceRx port domain id ⟨true, utc, leap⟩) s = .next s)
  ∧ (∀ (port domain utc leap : Nat) (id : BitVec 64) (s : State), s.srcOrder.contains 1 = true →
    bitOf (fieldLE (s.recBytes 0x0201) 4 2) port = true → s.subExists port = true → fieldLE (s.recBytes 0x0201) 2 1 = domain →
    s.time.gm = 0 ∨ s.time.gm = id →
    exec (.ptpAnnounceRx port domain id ⟨false, utc, leap⟩) s = .next { s with time := { s.time with
      gm := id,
      utc := if s.time.active = none ∨ s.time.active = some 1 then utc % 65536 else s.time.utc,
      leap := if s.time.active = none ∨ s.time.active = some 1 then leap % 4 else s.time.leap } })
  ∧ (∀ (port domain utc leap : Nat) (id : BitVec 64) (s : State), s.srcOrder.contains 1 = true →
    bitOf (fieldLE (s.recBytes 0x0201) 4 2) port = true → s.subExists port = true → fieldLE (s.recBytes 0x0201) 2 1 = domain →
    s.time.gm ≠ 0 → s.time.gm ≠ id →
    ∃ t, exec (.ptpAnnounceRx port domain id ⟨false, utc, leap⟩) s = .next t ∧ t.time.gm = id ∧ t.time.nt = s.time.nt
      ∧ t.time.rate = s.time.rate ∧ t.time.state = s.time.state ∧ t.time.pps = s.time.pps ∧ t.time.active = s.time.active
      ∧ t.time.ptp = { lastFR := s.time.ptp.lastFR }
      ∧ t.time.utc = (if s.time.active = none ∨ s.time.active = some 1 then utc % 65536 else s.time.utc)
      ∧ t.host = (if s.time.active = some 1 then s.postEvent 0x2005 (items [1, 1, id.toNat]) else s).host
      ∧ t.regs = (if s.time.active = some 1 then s.postEvent 0x2005 (items [1, 1, id.toNat]) else s).regs)
  ∧ (∀ s : State, s.clocks.onRoot.getD 4 false = true → (∀ t, s.time.ppsLastFR = some t → t + 999000000 ≤ s.frNs) →
    exec .ppsInEdge s = .next
      { s with time := { s.time with ppsLastFR := some s.frNs, ppsEdge := some (s.frNs, s.stampBase16) } })
  ∧ (∀ (t : Nat) (s : State), s.clocks.onRoot.getD 4 false = true → s.time.ppsLastFR = some t → s.frNs < t + 999000000 →
    exec .ppsInEdge s = .next (s.inc ⟨0x200028, 31, 24⟩))
  ∧ (∀ (b : List Byte) (s : State), s.srcOrder.contains 2 = true → s.time.ppsEdge = none →
    exec (.todMessageRx b) s = .next ((s.inc ⟨0x200028, 31, 24⟩).postEvent 0x2008 (items [0])).meshStart)
  ∧ ∀ (b : List Byte) (edge : Nat) (stamp : Int) (s : State), s.srcOrder.contains 2 = true → s.time.ppsEdge = some (edge, stamp) →
    edge + 10000000 ≤ s.frNs - 160 * 1000000000 / baudOf (fieldLE (s.recBytes 0x0203) 0 1) →
    s.frNs - 160 * 1000000000 / baudOf (fieldLE (s.recBytes 0x0203) 0 1) < edge + 900000000 →
    b.length = 16 → fieldLE b 0 2 = 0x545A → fieldLE b 2 1 = 1 → fieldLE b 14 2 = crc16 (b.take 14) → bitOf (fieldLE b 3 1) 0 = true →
    (∀ p, s.time.todSec = some p → fieldLE b 4 6 = p + 1) →
    exec (.todMessageRx b) s = .next ({ s with time := { s.time with
        todSec := some (fieldLE b 4 6),
        ppsEdge := none,
        ppsInNT := BitVec.ofNat 64 (stamp / 65536).toNat,
        utc := if s.time.active = none ∨ s.time.active = some 2 then fieldLE b 10 2 % 65536 else s.time.utc,
        leap := if s.time.active = none ∨ s.time.active = some 2 then fieldLE b 3 1 / 2 % 4 else s.time.leap } }.newOffset 2
      (stamp - (fieldLE b 4 6 * 1000000000 : Nat) * 65536 - signed 32 (fieldLE (s.recBytes 0x0203) 4 4) * 65536)).meshStart)
  ∧ (∀ (k : Nat) (off : Int) (s : State), k = 1 ∨ k = 2 → (s.src k).window = [] → (s.src k).seedRun.length < 3 →
    ∃ t, s.newOffset k off = t ∧ (t.src k).seedRun = (s.src k).seedRun ++ [off] ∧ (t.src k).window = [] ∧ t.time.nt = s.time.nt
      ∧ t.time.rate = s.time.rate ∧ t.time.state = s.time.state ∧ t.regs = s.regs)
  ∧ (∀ (k : Nat) (off : Int) (s : State), k = 1 ∨ k = 2 → (s.src k).window ≠ [] → s.time.active ≠ some k →
    off - median (s.src k).window ≤ (s.outlierLimit : Int) * 65536 → median (s.src k).window - off ≤ (s.outlierLimit : Int) * 65536 →
    ∃ t, s.newOffset k off = t ∧ (t.src k).window = lastN 8 ((s.src k).window ++ [off]) ∧ (t.src k).rejects = []
      ∧ (t.src k).lastFR = s.frNs ∧ t.time.nt = s.time.nt ∧ t.time.rate = s.time.rate ∧ t.regs = s.regs)
  ∧ ∀ (k : Nat) (off : Int) (s : State), k = 1 ∨ k = 2 → (s.src k).window ≠ [] →
    (s.outlierLimit : Int) * 65536 < off - median (s.src k).window ∨ (s.outlierLimit : Int) * 65536 < median (s.src k).window - off →
    (s.src k).rejects.length + 1 < s.outlierRun →
    ∃ t, s.newOffset k off = t ∧ (t.src k).window = (s.src k).window ∧ (t.src k).rejects = (s.src k).rejects ++ [off]
      ∧ t.time.nt = s.time.nt ∧ t.time.rate = s.time.rate ∧ t.time.state = s.time.state ∧ t.time.active = s.time.active

/-- Time-outs, starts and steps (04 R107, R115 to R119): a source without a sample for INPUT_TIMEOUT loses its window (an empty one
goes on towards its seed), and NT in LOCKED without another source holds over with its last RATE; FIRST_WAIT ends with a provisional start; a re-anchor is refused
before NT runs or while one is pending and else armed for the first boundary at least 2 ms ahead, of the length that a commit already
irrevocable brings where that boundary lies past its target; its deadline, 2 ms before the first boundary at or after that instant
on the grid in force, takes the filtered offset; a refused jump in LOCKED sets the instant 1 s later where the automatic one is on, and
at it the automatic one is issued. -/
def Obligations.TimeStates : Prop :=
  (∀ (k : Nat) (s : State), k = 1 ∨ k = 2 → s.srcOrder.contains k = true → (s.src k).lastFR + s.inputTimeout ≤ s.frNs →
    s.time.active ≠ some k →
    exec (.sourceInputTimeout k) s = .next (if (s.src k).window = [] then s
      else (s.setSrc k { lastFR := (s.src k).lastFR }).dropStep k).meshStart)
  ∧ (∀ (k : Nat) (s : State), k = 1 ∨ k = 2 → s.srcOrder = [k] → (s.src k).lastFR + s.inputTimeout ≤ s.frNs →
    s.time.active = some k → s.time.state = .locked →
    ∃ t, exec (.sourceInputTimeout k) s = .next t ∧ t.time.state = .holdover ∧ t.time.active = none ∧ (t.src k).window = []
      ∧ t.time.nt = s.time.nt ∧ t.time.rate = s.time.rate ∧ t.time.holdFrom = s.ntNs ∧ t.time.autoAt = none)
  ∧ (∀ (from_ : Nat) (s : State), s.time.firstWaitFrom = some from_ → s.time.state = .notStarted →
    s.clocks.onRoot.getD 4 false = true → s.dormantRunning = false →
    from_ + fieldLE (s.recBytes 0x0201) 8 4 * 1000000 ≤ s.frNs →
    ∃ t, exec .firstWaitExpiry s = .next t ∧ t.time.state = .provisional ∧ t.time.firstWaitFrom = none
      ∧ t.time.mtState ≠ .notStarted ∧ (s.time.mtState = .notStarted → t.time.mt = t.time.nt) ∧ t.time.active = s.time.active)
  ∧ (∀ (r : Requester) (base : Nat) (s : State), Mapped s r → base ≤ 4 →
    ∃ t, exec (.reanchorGo r base) s = .next t ∧ t.answer = some .done ∧ t.get ⟨0x200030, 2, 0⟩ = base ∧ t.time.nt = s.time.nt
      ∧ (s.time.state = .notStarted → t.get ⟨0x200030, 15, 8⟩ = 0x1C ∧ t.time = s.time)
      ∧ (s.time.state ≠ .notStarted → Tab.has s.time.reanchors base = true →
          t.get ⟨0x200030, 15, 8⟩ = 0x1D ∧ t.time = s.time)
      ∧ (s.time.state ≠ .notStarted → Tab.has s.time.reanchors base = false → s.time.stepPending = none →
          s.time.mtFollow = false → t.get ⟨0x200030, 15, 8⟩ = 0 ∧ Tab.get? t.time.reanchors base
            = some (s.gridAtOrAfter (if base < 2 then
                (if s.commit.state = .committed ∧ s.commit.target < s.ntNs + 2000000 then sfLenNs s.commit.newLen else s.sfNs)
              else sfLenNs 3) (s.ntNs + 2000000)))
      ∧ ∀ a, a ≠ 0x200030 → t.reg a = s.reg a)
  ∧ (∀ (r : Requester) (base : Nat) (s : State), Mapped s r → 5 ≤ base → base ≤ 7 →
    exec (.reanchorGo r base) s = answered (s.invalidWrite r 0x200030 (BitVec.ofNat 32 (base + 8))))
  ∧ (∀ (b k : Nat) (s : State), Tab.get? s.time.reanchors 0 = some b → s.gridAtOrAfter s.sfNs b ≤ s.ntNs + 2000000 →
    s.time.ntReanchorReady = none → s.time.active = some k → (s.src k).window ≠ [] →
    exec .reanchorDeadline s = .next
      { s with time := { s.time with
        ntReanchorReady := some (median (s.src k).window), cand := none, lastOffset := median (s.src k).window } })
  ∧ (∀ (b : Nat) (s : State), Tab.get? s.time.reanchors 0 = some b → s.gridAtOrAfter s.sfNs b ≤ s.ntNs + 2000000 →
    s.time.ntReanchorReady = none → (∀ j ∈ s.time.active.toList ++ s.srcOrder, (s.src j).window = []) →
    ∃ t, exec .reanchorDeadline s = .next t ∧ Tab.get? t.time.reanchors 0 = none ∧ t.get ⟨0x200030, 15, 8⟩ = 0x1E
      ∧ t.time.nt = s.time.nt ∧ ∀ a, a ≠ 0x200030 → t.reg a = s.reg a)
  ∧ (∀ (seed : Int) (s : State), s.time.state = .locked →
    ∃ t, s.refuseJump seed = t ∧ t.time.state = .holdover ∧ t.time.nt = s.time.nt ∧ t.time.rate = s.time.rate
      ∧ t.time.autoAt = (if s.autoNt = true then some (s.ntNs + 1000000000) else none))
  ∧ ∀ (at_ : Nat) (s : State), s.time.autoAt = some at_ → s.time.state = .holdover → at_ ≤ s.ntNs →
    Tab.has s.time.reanchors 0 = false → s.time.stepPending = none →
    ∃ t, exec .autoReanchorTimer s = .next t ∧ t.time.autoAt = none
      ∧ Tab.get? t.time.reanchors 0 = some (s.gridAtOrAfter
          (if s.commit.state = .committed ∧ s.commit.target < s.ntNs + 2000000 then sfLenNs s.commit.newLen else s.sfNs)
          (s.ntNs + 2000000)) ∧ t.regs = s.regs ∧ t.time.nt = s.time.nt

/-- MT, PPS_OUT and the time-of-day output (04 R107, R110, R124): once a second MT − NT is measured; within JUMP_MT a rate of at
most ±200 ppm steers MT, beyond it MT holds over and the refusal is counted; PPS_OUT rises at a new second after NT's start-up step
that no start or step of NT left behind (log 146) and is high for PPS_OUT_WIDTH from that edge, and its message follows 100 ms later
with VALID only in LOCKED. -/
def Obligations.MtAndOutputs : Prop :=
  (∀ s : State, s.ntValid = true → s.time.mtState ≠ .notStarted → s.time.mtMeasuredSec < s.ntNs / 1000000000 →
    ∃ t, exec .mtDiffMeasure s = .next t ∧ t.time.mtDiff = ((s.time.mt.v : Int) - s.time.nt.v) / 2 ^ 48
      ∧ t.time.mtMeasuredSec = s.ntNs / 1000000000 ∧ t.time.nt = s.time.nt ∧ t.time.mt = s.time.mt ∧ t.time.rate = s.time.rate
      ∧ (-(s.jumpMt : Int) ≤ t.time.mtDiff → t.time.mtDiff ≤ s.jumpMt → t.time.mtState = .steered ∧ -858993 ≤ t.time.mtRate
          ∧ t.time.mtRate ≤ 858993 ∧ t.time.mtFollow = s.time.mtFollow ∧ (s.time.mtState = .steered → t.regs = s.regs))
      ∧ (t.time.mtDiff < -(s.jumpMt : Int) ∨ (s.jumpMt : Int) < t.time.mtDiff → t.time.mtState = .holdover
          ∧ t.time.mtRate = s.time.mtRate ∧ t.time.mtFollow = (s.time.mtFollow || s.autoMt)))
  ∧ (∀ (k : Nat) (s : State), k = (((s.ntNs : Int) - signed 32 (fieldLE (s.recBytes 0x0203) 8 4)) / 1000000000).toNat →
    bitOf (fieldLE (s.recBytes 0x0203) 1 1) 1 = true → s.stepTaken = true → (∀ p, s.time.ppsOutSec = some p → p < k) →
    (∀ p, s.time.ppsBase = some p → p < k) →
    exec .ppsOutEdge s = .next { s with time := { s.time with ppsOutSec := some k, ppsRose := s.elapsed } })
  ∧ (∀ s : State, s.time.ppsOutSec.isSome → s.stepTaken = true →
    s.ppsOut = decide (5 * (s.elapsed - s.time.ppsRose) < 3 * fieldLE (s.recBytes 0x0203) 12 4))
  ∧ (∀ (s : State), s.stepTaken = false → exec .ppsOutEdge s = .next s)
  ∧ ∀ (k : Nat) (s : State), s.time.ppsOutSec = some k → bitOf (fieldLE (s.recBytes 0x0203) 1 1) 0 = true →
    s.time.todSentSec ≠ some k → s.stepTaken = true →
    (k : Int) * 1000000000 + signed 32 (fieldLE (s.recBytes 0x0203) 8 4) + 100000000 ≤ s.ntNs →
    exec .todTxSend s = .next { s with time := { s.time with
      todSentSec := some k, todOut := todBytes (b2n (s.time.state == .locked) + 2 * s.time.leap) k s.time.utc } }

/-! ## The Meridian and Dormant (05 R129 to R150) -/

/-- GO and CANCEL (05 R131, R135, R143): in the boundary interval both are ignored with BUSY_MERIDIAN; a GO while a commit is
pending, in a Dormant sequence, before NT is valid, with a mode above 4 or Latency off 25.6 ms, or with a target off the grid, too
early or too far sets RESULT to the first failure, and one that passes these before the controller runs is refused (the model's choice
of 0x03, log 109); one that passes locks the banks and arms the target with every participant's report outstanding; CANCEL in ARMING releases it, the staged banks as they
were but for tuner positions that a radio of its own accord now proposes (06 R158). -/
def Obligations.CommitRequests : Prop :=
  (∀ (r : Requester) (s : State), Mapped s r → s.inBoundary = true →
    exec (.commitGo r) s = answered (s.postEvent 0x3005 (items [0x300024, 0x0F]))
    ∧ exec (.commitCancel r) s = answered (s.postEvent 0x3005 (items [0x300024, 0x0F])))
  ∧ (∀ (r : Requester) (s : State), Mapped s r → s.inBoundary = false → s.commit.state ≠ .idle →
    ∃ t, exec (.commitGo r) s = .next t ∧ t.commit = { s.commit with result := 0x22 } ∧ t.staged = s.staged)
  ∧ (∀ (r : Requester) (s : State), Mapped s r → s.inBoundary = false → s.commit.state = .idle → s.dormantRunning = true →
    exec (.commitGo r) s = answered { s with commit := { s.commit with result := 0x25 } })
  ∧ (∀ (r : Requester) (s : State), Mapped s r → s.inBoundary = false → s.commit.state = .idle → s.dormantRunning = false →
    s.ntValid = false → exec (.commitGo r) s = answered { s with commit := { s.commit with result := 0x1C } })
  ∧ (∀ (r : Requester) (s : State), Mapped s r → s.inBoundary = false → s.commit.state = .idle → s.dormantRunning = false →
    s.ntValid = true → s.get ⟨0x300020, 2, 0⟩ ≤ 4 → (s.get ⟨0x300020, 2, 0⟩ = 1 → s.get ⟨0x300020, 5, 4⟩ = 0) →
    (∀ v, s.goTarget (s.get ⟨0x300020, 5, 4⟩) = .error v →
      exec (.commitGo r) s = answered { s with commit := { s.commit with result := v } })
    ∧ (∀ target, s.boot.state ≠ .run → s.goTarget (s.get ⟨0x300020, 5, 4⟩) = .ok target →
      exec (.commitGo r) s = answered { s with commit := { s.commit with result := 0x03 } }))
  ∧ (∀ (n : Int) (len : Nat) (s : State), s.get64 0x300028 ≠ 0 →
    n = (s.ntNs : Int) + signed 64 (s.get64 0x300028 + 2 ^ 64 - s.nt64.toNat) →
    s.goTarget len = (if (n - s.grid.phase) % (longer s.grid.sfLen len : Nat) ≠ 0 then .error 0x24
      else if n < s.ntNs + 2000000 then .error 0x04
      else if (s.ntNs : Int) + 2 ^ 34 < n then .error 0x02 else .ok n.toNat))
  ∧ (∀ (r : Requester) (s : State), Mapped s r → s.inBoundary = false → s.commit.state = .idle → s.dormantRunning = false →
    s.ntValid = true → 4 < s.get ⟨0x300020, 2, 0⟩ ∨ (s.get ⟨0x300020, 2, 0⟩ = 1 ∧ s.get ⟨0x300020, 5, 4⟩ ≠ 0) →
    exec (.commitGo r) s = answered { s with commit := { s.commit with result := 0x02 } })
  ∧ (∀ (r : Requester) (target : Nat) (s : State), Mapped s r → s.inBoundary = false → s.commit.state = .idle →
    s.dormantRunning = false → s.boot.state = .run → s.ntValid = true → s.get ⟨0x300020, 2, 0⟩ ≤ 4 →
    (s.get ⟨0x300020, 2, 0⟩ = 1 → s.get ⟨0x300020, 5, 4⟩ = 0) → s.goTarget (s.get ⟨0x300020, 5, 4⟩) = .ok target →
    ∃ t, exec (.commitGo r) s = .next t ∧ t.commit.state = .arming ∧ t.commit.kind = .host ∧ t.commit.target = target
      ∧ t.commit.locked = true ∧ t.commit.armed = 0 ∧ t.commit.deferrals = 0 ∧ t.commit.newMode = s.get ⟨0x300020, 2, 0⟩
      ∧ t.commit.newLen = s.get ⟨0x300020, 5, 4⟩ ∧ t.regs = s.regs ∧ t.grid = s.grid ∧ t.units = s.units)
  ∧ (∀ (r : Requester) (s : State), Mapped s r → s.inBoundary = false → s.commit.state = .arming → s.commit.kind = .host →
    ∃ t, exec (.commitCancel r) s = .next t ∧ t.commit.state = .idle ∧ t.commit.locked = false ∧ t.commit.result = 0x23
      ∧ (∀ a, (∀ q c, q < 3 → c < 64 → a ≠ (tunerPos q c).a) → t.sreg a = s.sreg a)
      ∧ (s.chains.all (fun e => e.2.heldPos.isNone) = true → t.staged = s.staged) ∧ t.grid = s.grid ∧ t.units = s.units)
  ∧ ∀ (r : Requester) (s : State), Mapped s r → s.inBoundary = false → s.commit.state ≠ .arming →
    exec (.commitCancel r) s = answered s

/-- From arming to the outcome (05 R137 to R139, R144): a participant without a cause is ARMED, another names its cause; at the
deadline a commit whose participants are all armed is irrevocable, one with a unit outstanding is deferred with the staged banks
untouched, and a host's commit deferred three times is refused with MER_REFUSED and the active banks as they were. Where
no own-accord retune waited (06 R158), the staged banks are as they were too. -/
def Obligations.CommitArming : Prop :=
  (∀ (u : Nat) (busy : Bool) (s : State), s.commit.state = .arming → u < 27 → s.commit.part.getLsbD u = true →
    s.commit.armed.getLsbD u = false → s.ntNs + 2000000 < s.commit.target → Tab.get? s.commit.causes u ≠ some 5 →
    ∃ t, exec (.unitArmReport u busy) s = .next t
      ∧ t.commit.armed.getLsbD u = decide ((s.armCause u busy).1 = 0)
      ∧ (∀ v, v < 27 → v ≠ u → t.commit.armed.getLsbD v = s.commit.armed.getLsbD v)
      ∧ (Tab.get? t.commit.causes u = if (s.armCause u busy).1 = 0 then none else some (s.armCause u busy).1)
      ∧ t.commit.state = .arming ∧ t.staged = s.staged ∧ t.grid = s.grid ∧ t.units = s.units)
  ∧ (∀ s : State, s.commit.state = .arming → s.ntValid = true → s.commit.target ≤ s.ntNs + 2000000 →
    s.commit.part &&& ~~~s.commit.armed = 0 → s.stepArmedFor s.commit.target = false → s.commit.kind ≠ .dormantEntry →
    exec .commitDeadline s = .next { s with commit := { s.commit with notArmed := 0, state := .committed } })
  ∧ (∀ s : State, s.commit.state = .arming → s.ntValid = true → s.commit.target ≤ s.ntNs + 2000000 →
    s.commit.part &&& ~~~s.commit.armed ≠ 0 → s.commit.deferrals < 3 → s.commit.kind ≠ .dormantEntry →
    ∃ t, exec .commitDeadline s = .next t ∧ t.commit.state = .arming ∧ t.commit.deferrals = s.commit.deferrals + 1
      ∧ t.commit.result = 0x0B ∧ s.commit.target < t.commit.target ∧ t.staged = s.staged ∧ t.grid = s.grid ∧ t.units = s.units
      ∧ t.commit.notArmed = s.commit.part &&& ~~~s.commit.armed)
  ∧ ∀ s : State, s.commit.state = .arming → s.ntValid = true → s.commit.target ≤ s.ntNs + 2000000 →
    s.commit.part &&& ~~~s.commit.armed ≠ 0 → s.commit.deferrals = 3 → s.commit.kind = .host →
    ∃ t, exec .commitDeadline s = .next t ∧ t.commit.state = .idle ∧ t.commit.result = 0x21 ∧ t.commit.locked = false
      ∧ (∀ a, (∀ q c, q < 3 → c < 64 → a ≠ (tunerPos q c).a) → t.sreg a = s.sreg a)
      ∧ (s.chains.all (fun e => e.2.heldPos.isNone) = true → t.staged = s.staged) ∧ t.grid = s.grid ∧ t.units = s.units

/-- The strobe and the copies (05 R134, R140, R143): at the target every staged register of a participating unit becomes active
together with the mode and the length, RESULT is OK, MER_LAST the target, and the first commit after a start of
NT sets the TSF bases to the latest grid point of 204.8 ms (04 R106); the copies then leave the staged
bank equal to the active one and open it (the tuner positions that a radio proposes of its own accord then follow, 06 R158); a superframe starts at its grid point. -/
def Obligations.StrobeAndCopy : Prop :=
  (∀ s : State, s.strobeDue = true →
    ∃ t, exec .meridianStrobe s = .next t ∧ t.commit.state = .copying ∧ t.commit.result = 0 ∧ t.commit.stageOpen = false
      ∧ t.commit.locked = false ∧ t.commit.last = BitVec.ofNat 64 s.commit.target ∧ t.grid.mode = s.commit.newMode
      ∧ t.grid.sfLen = s.commit.newLen ∧ t.grid.phase = s.grid.phase ∧ t.fuses = s.fuses
      ∧ (s.commit.kind = .dormantExit → t.dormant.seq = .exit 9)
      ∧ t.time.tsfBase = (if s.time.tsfSet = true then s.time.tsfBase
          else List.replicate 3 (BitVec.ofNat 64 (s.commit.target - (((s.commit.target : Int) - s.grid.phase) % 204800000).toNat)))
      ∧ ∀ a u, u < 27 → u ∈ addrUnits a → isStaged a = true → s.commit.part.getLsbD u = true → t.reg a = s.sreg a)
  ∧ (∀ s : State, s.strobeDue = false → exec .meridianStrobe s = .next s)
  ∧ (∀ s : State, s.commit.state = .copying →
    ∃ t, exec .bankCopyDone s = .next t ∧ t.commit.state = .idle ∧ t.commit.stageOpen = true ∧ t.grid = s.grid
      ∧ (∀ a, isStaged a = true → (addrUnits a).any (fun u => s.commit.part.getLsbD u) = true →
          (∀ q c, q < 3 → c < 64 → a ≠ (tunerPos q c).a) → t.sreg a = s.reg a)
      ∧ (s.chains.all (fun e => e.2.heldPos.isNone) = true → t.regs = s.regs
          ∧ (∀ a, isStaged a = true → (addrUnits a).any (fun u => s.commit.part.getLsbD u) = true → t.sreg a = s.reg a)
          ∧ ∀ a, (addrUnits a).any (fun u => s.commit.part.getLsbD u) = false → t.sreg a = s.sreg a))
  ∧ (∀ s : State, s.ntValid = true → s.realigning = false → s.strobeDue = false →
    s.grid.start ≠ some (s.gridBefore s.sfNs s.ntNs) → s.stepArmedFor (s.gridBefore s.sfNs s.ntNs) = false →
    s.time.stepPending = none → s.time.reanchors = [] → s.time.ntReanchorReady = none →
    ∃ t, exec .superframeStart s = .next t ∧ t.grid.start = some (s.gridBefore s.sfNs s.ntNs) ∧ t.grid.mode = s.grid.mode
      ∧ t.grid.sfLen = s.grid.sfLen ∧ t.fuses = s.fuses)

/-- Entering Dormant (05 R147, R148): ENTER by the physical function while the controller runs arms the commit of the entry, with
a wake by MT only where WAKE_MT is allowed, and else sets its result to the first failure (before the controller runs the model's
choice of 0x03, log 109); another requester's ENTER sets the fields and arms nothing; a write while a sequence runs or with EXIT_MODE
5 or 6 is invalid; each step of the entry leads to the next, step 2 not before the boundary; at step 10 Dormant is
reached, and a wake that was held starts the exit. -/
def Obligations.DormantEntry : Prop :=
  (∀ (v : Word) (s : State), Mapped s .pf → s.dormantRunning = false → bitsOf v.toNat 3 1 ≠ 5 → bitsOf v.toNat 3 1 ≠ 6 → v.getLsbD 0 = true →
    s.commit.state = .idle → s.ntValid = true → (v.getLsbD 4 = true → s.wakeMtOk = true) → s.boot.state = .run →
    ∃ t, exec (.dormantEnterRequest .pf v) s = .next t ∧ t.answer = some .done ∧ t.commit.state = .arming
      ∧ t.commit.kind = .dormantEntry ∧ t.commit.newMode = s.grid.mode ∧ t.commit.newLen = s.grid.sfLen
      ∧ t.get ⟨0x300060, 12, 1⟩ = bitsOf v.toNat 12 1 ∧ t.grid = s.grid ∧ ∀ a, a ≠ 0x300060 → t.reg a = s.reg a)
  ∧ (∀ (v : Word) (s : State), Mapped s .pf → s.dormantRunning = false → bitsOf v.toNat 3 1 ≠ 5 → bitsOf v.toNat 3 1 ≠ 6 →
    v.getLsbD 0 = true → s.commit.state = .idle →
    s.ntValid = false ∨ (v.getLsbD 4 = true ∧ s.wakeMtOk = false) ∨ s.boot.state ≠ .run →
    ∃ t, exec (.dormantEnterRequest .pf v) s = .next t ∧ t.answer = some .done
      ∧ t.commit = { s.commit with dormantResult :=
          if s.ntValid = false then 0x1C else if v.getLsbD 4 = true ∧ s.wakeMtOk = false then 0x02 else 0x03 }
      ∧ t.dormant = s.dormant ∧ t.grid = s.grid ∧ ∀ a, a ≠ 0x300060 → t.reg a = s.reg a)
  ∧ (∀ (v : Word) (s : State), Mapped s .pf → s.dormantRunning = false → bitsOf v.toNat 3 1 ≠ 5 → bitsOf v.toNat 3 1 ≠ 6 →
    v.getLsbD 0 = true → s.commit.state ≠ .idle →
    ∃ t, exec (.dormantEnterRequest .pf v) s = .next t ∧ t.commit = { s.commit with dormantResult := 0x22 } ∧ t.dormant = s.dormant)
  ∧ (∀ (r : Requester) (v : Word) (s : State), Mapped s r → r ≠ .pf ∨ v.getLsbD 0 = false → s.dormantRunning = false →
    bitsOf v.toNat 3 1 ≠ 5 → bitsOf v.toNat 3 1 ≠ 6 →
    exec (.dormantEnterRequest r v) s = answered (s.put ⟨0x300060, 12, 1⟩ (bitsOf v.toNat 12 1)))
  ∧ (∀ (r : Requester) (v : Word) (s : State), Mapped s r → s.dormantRunning = true ∨ bitsOf v.toNat 3 1 = 5 ∨ bitsOf v.toNat 3 1 = 6 →
    exec (.dormantEnterRequest r v) s = answered (s.invalidWrite r 0x300060 v))
  ∧ (∀ (n : Nat) (s : State), s.dormant.seq = .entry n → 1 ≤ n → n ≤ 9 → (n = 2 → s.dormant.boundary ≤ s.ntNs) →
    ∃ t, exec .dormantEntryStepDone s = .next t ∧ t.dormant.seq = .entry (n + 1) ∧ t.fuses = s.fuses ∧ t.time.mt = s.time.mt
      ∧ (n = 2 → t.grid.mode = 5 ∧ t.commit.state = .idle ∧ t.commit.dormantResult = 0) ∧ (n = 4 → t.wired = [])
      ∧ (n = 5 → t.flag (clkSt 15) = false) ∧ (n = 8 → t.time.state = .notStarted ∧ t.dormant.bridge = some s.elapsed)
      ∧ (n = 9 → t.power.up = 0 ∧ t.host.linkUp = false ∧ ∀ u, u < 25 → (t.unit u).phase = .reset))
  ∧ (∀ s : State, s.dormant.seq = .entry 2 → s.ntNs < s.dormant.boundary → exec .dormantEntryStepDone s = .next s)
  ∧ (∀ (n : Nat) (s : State), s.dormant.seq = .entry n → 10 ≤ n → s.dormant.heldWake = none →
    exec .dormantReached s = .next { s with power := { s.power with dormantReq := s.hasDormantReq }, dormant := { s.dormant with seq := .dormant } })
  ∧ ∀ (n c : Nat) (s : State), s.dormant.seq = .entry n → 10 ≤ n → s.dormant.heldWake = some c →
    ∃ t, exec .dormantReached s = .next t ∧ t.dormant.seq = .exit 1 ∧ t.dormant.lastWake = c ∧ t.dormant.heldWake = none
      ∧ t.dormant.mtAtWake = s.mt64 ∧ t.power.dormantReq = false

/-- Leaving Dormant (05 R148, 16 R465): MT reaching WAKE_MT and the selected edge wake, and before step 10 of the entry the wake is
held; a source that is not enabled, MT short of WAKE_MT and another edge do nothing; the rail ramp and each step of the exit lead on,
step 1 once the root PLL has locked, step 2 once the domains are up, step 4 once no DRAM channel refreshes itself; step 3 brings NT
back PROVISIONAL and equal to MT with FR continued over the bridge, step 5 leaves the staged banks as the active ones, step 7 arms the
commit of the exit, and step 8 ends with its strobe (StrobeAndCopy). -/
def Obligations.DormantExit : Prop :=
  (∀ s : State, s.dormant.seq = .dormant → s.wakeable 1 = true → notEarlier s.mt64.toNat (s.get64 0x300064) = true →
    ∃ t, exec .wakeMtReached s = .next t ∧ t.dormant.seq = .exit 1 ∧ t.dormant.lastWake = 1 ∧ t.dormant.mtAtWake = s.mt64
      ∧ t.regs = s.regs ∧ t.units = s.units)
  ∧ (∀ (g : Nat) (level : Bool) (s : State), s.dormant.seq = .dormant → s.wakeable 2 = true → s.get ⟨0x300060, 12, 8⟩ = g →
    s.flag ⟨0x300060, 7, 7⟩ = level →
    ∃ t, exec (.wakeGpioEdge g level) s = .next t ∧ t.dormant.seq = .exit 1 ∧ t.dormant.lastWake = 2 ∧ t.dormant.mtAtWake = s.mt64
      ∧ t.regs = s.regs ∧ t.units = s.units)
  ∧ (∀ (n : Nat) (s : State), s.dormant.seq = .entry n → s.wakeable 1 = true → notEarlier s.mt64.toNat (s.get64 0x300064) = true →
    exec .wakeMtReached s = .next { s with dormant := { s.dormant with heldWake := some 1 } })
  ∧ (∀ (n g : Nat) (level : Bool) (s : State), s.dormant.seq = .entry n → s.wakeable 2 = true → s.get ⟨0x300060, 12, 8⟩ = g →
    s.flag ⟨0x300060, 7, 7⟩ = level →
    exec (.wakeGpioEdge g level) s = .next { s with dormant := { s.dormant with heldWake := some 2 } })
  ∧ (∀ s : State, s.wakeable 1 = false ∨ notEarlier s.mt64.toNat (s.get64 0x300064) = false → exec .wakeMtReached s = .next s)
  ∧ (∀ (g : Nat) (level : Bool) (s : State), s.wakeable 2 = false ∨ s.get ⟨0x300060, 12, 8⟩ ≠ g ∨ s.flag ⟨0x300060, 7, 7⟩ ≠ level →
    exec (.wakeGpioEdge g level) s = .next s)
  ∧ (∀ s : State, s.dormant.seq = .rampWait → s.power.rampFrom + 60000 * s.power.railRamp ≤ s.elapsed →
    ∃ t, exec .railRampExpiry s = .next t ∧ t.dormant.seq = .exit 2 ∧ t.regs = s.regs ∧ t.units = s.units)
  ∧ (∀ (tagOk : Bool) (s : State), s.dormant.seq = .exit 1 → s.boot.rootReady = true →
    ∃ t, exec (.dormantExitStepDone tagOk) s = .next t ∧ t.dormant.seq = (if s.hasDormantReq = true then .rampWait else .exit 2))
  ∧ (∀ (tagOk : Bool) (s : State), s.dormant.seq = .exit 2 → s.domainsUp = true →
    exec (.dormantExitStepDone tagOk) s = .next { s with dormant := { s.dormant with seq := .exit 3 } })
  ∧ (∀ (tagOk : Bool) (s : State), s.dormant.seq = .exit 3 → s.clocks.onRoot.length = 8 →
    ∃ t, exec (.dormantExitStepDone tagOk) s = .next t ∧ t.dormant.seq = .exit 4 ∧ t.time.state = .provisional
      ∧ t.time.nt.v = s.time.mt.v % (2 ^ 48 * 1000000000 * 2 ^ 48) ∧ t.time.frRuns = true ∧ t.dormant.bridge = none
      ∧ t.time.fr = s.time.fr + (match s.dormant.bridge with | some b => 5 * (s.elapsed - b) | none => 0)
      ∧ t.clocks.onRoot.getD 4 false = true)
  ∧ (∀ (tagOk : Bool) (s : State), s.dormant.seq = .exit 4 → (∀ c, c < 4 → (s.dch c).selfRefresh = false) →
    exec (.dormantExitStepDone tagOk) s = .next { s with dormant := { s.dormant with seq := .exit 5 } })
  ∧ (∀ (tagOk : Bool) (s : State), s.dormant.seq = .exit 6 →
    exec (.dormantExitStepDone tagOk) s = .next { s with dormant := { s.dormant with seq := .exit 7 } })
  ∧ (∀ (tagOk : Bool) (s : State), s.dormant.seq = .exit 8 ∨ (s.dormant.seq = .exit 1 ∧ s.boot.rootReady = false)
      ∨ (s.dormant.seq = .exit 2 ∧ s.domainsUp = false) → exec (.dormantExitStepDone tagOk) s = .next s)
  ∧ (∀ (tagOk : Bool) (s : State), s.dormant.seq = .exit 5 →
    ∃ t, exec (.dormantExitStepDone tagOk) s = .next t ∧ t.dormant.seq = .exit 6
      ∧ (∀ a, isStaged a = true → addrUnits a ≠ [] → t.sreg a = t.reg a)
      ∧ (s.dormant.clocksSaved = 1 → t.flag (clkEn 15) = true))
  ∧ (∀ (tagOk : Bool) (s : State), s.dormant.seq = .exit 7 →
    ∃ t, exec (.dormantExitStepDone tagOk) s = .next t ∧ t.dormant.seq = .exit 8 ∧ t.commit.state = .arming
      ∧ t.commit.kind = .dormantExit)
  ∧ ∀ (tagOk : Bool) (s : State), s.dormant.seq = .exit 9 →
    exec (.dormantExitStepDone tagOk) s = .next { s with dormant := { s.dormant with seq := .none } }

/-! ## PCI Express and the rings (13 R374 to R388) -/

/-- The link (13 R374): it comes up with its speed and width where training may have begun; PCIE_PERST_N, a hot reset and the loss of
the data link take it down and each is a fault of every enabled function, with the rest of the device left alone; an FLR is an
Eclipse of the function, or at once its reset where the function recovers; a configuration request is retried until boot step 8 has
ended and then reads the identity of an enabled function, enables VFs up to TotalVFs, or puts a function into D0 or D3hot, in which
nothing is fetched for it. -/
def Obligations.LinkEvents : Prop :=
  (∀ (speed width : Nat) (s : State), s.host.linkUp = false → s.mayTrain = true → 1 ≤ speed → speed ≤ 5 → width ∈ [1, 2, 4, 8] →
    ∃ t, exec (.pcieLinkUp speed width) s = .next t ∧ t.host.linkUp = true ∧ t.host.speed = speed ∧ t.host.width = width
      ∧ t.host.cmds = s.host.cmds ∧ t.units = s.units ∧ t.boot = s.boot)
  ∧ (∀ (c : Instr) (s : State), (c = .pciePerstAssert ∧ s.boot.state ≠ .reset ∧ s.boot.state ≠ .qualify)
      ∨ ((c = .pcieHotReset ∨ c = .pcieLinkLoss) ∧ s.host.linkUp = true) →
    ∃ t, exec c s = .next t ∧ t.host.linkUp = false ∧ t.fuses = s.fuses ∧ t.time = s.time ∧ t.boot.state = s.boot.state
      ∧ (∀ f, s.fnEnabled f = true → (s.unit (32 + f)).held = none → (t.unit (32 + f)).phase = .recovering)
      ∧ ∀ u, u < 32 → (t.unit u).phase = (s.unit u).phase)
  ∧ (∀ (f : Nat) (s : State), f < 16 → s.fnEnabled f = true → Tab.get? s.host.eclipses f = none →
    s.eclipseRefused f (.func f) = none →
    ∃ t, exec (.functionLevelReset f) s = .next t ∧ (Tab.get? t.host.eclipses f).any (·.flr) = true ∧ t.units = s.units
      ∧ t.host.cmds.all (fun c => c.fn != f || c.stage == .completed) = true)
  ∧ (∀ (f : Nat) (s : State), 1 ≤ f → f < 16 → s.fnEnabled f = true → Tab.get? s.host.eclipses f = none →
    s.eclipseRefused f (.func f) ≠ none →
    ∃ t, exec (.functionLevelReset f) s = .next t ∧ (∀ a, hqBase f ≤ a → a < hqBase f + 0x10000 → t.reg a = resetWord a)
      ∧ t.host.cmds.all (fun c => c.fn != f) = true ∧ t.units = s.units)
  ∧ (∀ (n : Nat) (s : State), s.host.linkUp = true → s.boot.state ∉ [BootState.reset, .qualify, .load] → s.host.vfEn = 0 →
    ∃ t, exec (.pcieConfigRequest (.sriov n)) s = .next t ∧ t.answer = some .done ∧ t.regs = s.regs ∧ t.units = s.units
      ∧ ∀ f, 1 ≤ f → f < 16 → (t.fnEnabled f = true ↔ f ≤ n ∧ f ≤ s.get ⟨0x3100004, 19, 16⟩))
  ∧ (∀ (f reg : Nat) (s : State), s.host.linkUp = true → s.boot.state ∉ [BootState.reset, .qualify, .load] →
    exec (.pcieConfigRequest (.read f reg)) s = .next { s with answer := some (if s.fnEnabled f = true then .value (configWord f reg)
      else .absent) }
    ∧ configWord 0 0 = 0x5A074C59#32 ∧ (f ≠ 0 → configWord f 0 = 0x5A174C59#32) ∧ configWord f 8 = 0x0D800000#32)
  ∧ (∀ (f : Nat) (d3 : Bool) (s : State), s.host.linkUp = true → s.boot.state ∉ [BootState.reset, .qualify, .load] →
    s.fnEnabled f = true →
    ∃ t, exec (.pcieConfigRequest (.power f d3)) s = .next t ∧ t = { s with host := { s.host with d3 := t.host.d3 }, answer := some .done }
      ∧ t.host.d3.contains f = d3 ∧ (∀ g, g ≠ f → t.host.d3.contains g = s.host.d3.contains g)
      ∧ (d3 = true → t.turnFn ≠ some f))
  ∧ (∀ (q : ConfigReq) (s : State), s.host.linkUp = true → s.boot.state ∈ [BootState.reset, .qualify, .load] →
    exec (.pcieConfigRequest q) s = .next { s with answer := some .retry })
  ∧ ∀ (q : ConfigReq) (s : State), s.host.linkUp = false → exec (.pcieConfigRequest q) s = .next { s with answer := some .absent }

/-- Doorbells (13 R377, R378, R384, R391): a tail inside its SQ is the register's new value, an index outside the ring is invalid,
counted and reported with event 0xB008, as a head past the tail is; a head that does not pass the tail frees the entries it passes, and
a CQ's also ends the flight of the commands whose completions it passes; a BQ's tail posts the aligned buffers among those it adds; an Eclipse of the function ignores all but the event ring's. Enabling
a CQ sets its head and tail to 0 and its phase to 1. -/
def Obligations.Doorbells : Prop :=
  ((∀ (r : Requester) (f n : Nat) (v : Word) (s : State), f < 16 → n < 16 → Mapped s r ∨ (r = .vf f ∧ s.boot.refReady = true) → s.gated 13 = false →
    s.eclipsing f = false →
    exec (.sqTailDoorbell r f n v) s = answered (if s.sqDepth f n ≤ v.toNat % 1024 then (s.countReject 0xB).postEvent 0xB008 (items [f, sqBase f n + 0xC]) [f]
      else s.put ⟨sqBase f n + 0xC, 9, 0⟩ (v.toNat % 1024)))
  ∧ (∀ (r : Requester) (f n k : Nat) (v : Word) (s : State), f < 16 → n < 16 → Mapped s r ∨ (r = .vf f ∧ s.boot.refReady = true) → s.gated 13 = false →
    s.eclipsing f = false → s.headMove f 0 n (v.toNat % 4096) = some k →
    ∃ t, exec (.cqHeadDoorbell r f n v) s = .next t ∧ t.answer = some .done
      ∧ (t.ring (ringKey f 0 n)).used = (s.ring (ringKey f 0 n)).used - k ∧ t.get ⟨hqBase f + 0x40C + 0x20 * n, 11, 0⟩ = v.toNat % 4096
      ∧ (∀ c ∈ s.host.cmds, c.fn ≠ f ∨ c.cq ≠ n ∨ c.cqe = none → c ∈ t.host.cmds) ∧ (∀ c ∈ t.host.cmds, c ∈ s.host.cmds)
      ∧ ∀ a, a ≠ hqBase f + 0x40C + 0x20 * n → t.reg a = s.reg a)
  ∧ (∀ (r : Requester) (f n : Nat) (v : Word) (s : State), f < 16 → n < 16 → Mapped s r ∨ (r = .vf f ∧ s.boot.refReady = true) → s.gated 13 = false →
    s.eclipsing f = false → s.headMove f 0 n (v.toNat % 4096) = none →
    exec (.cqHeadDoorbell r f n v) s = answered ((s.countReject 0xB).postEvent 0xB008 (items [f, hqBase f + 0x40C + 0x20 * n]) [f]))
  ∧ (∀ (r : Requester) (f n : Nat) (v : Word) (s : State), f < 16 → n < 16 → Mapped s r ∨ (r = .vf f ∧ s.boot.refReady = true) → s.gated 13 = false →
    s.eclipsing f = false → s.headMove f 1 n (v.toNat % 4096) = none →
    exec (.rqHeadDoorbell r f n v) s = answered ((s.countReject 0xB).postEvent 0xB008 (items [f, hqBase f + 0x814 + 0x40 * n]) [f]))
  ∧ (∀ (r : Requester) (f : Nat) (v : Word) (s : State), f < 16 → Mapped s r ∨ (r = .vf f ∧ s.boot.refReady = true) → s.gated 13 = false →
    s.headMove f 2 0 (v.toNat % 4096) = none →
    exec (.evqHeadDoorbell r f v) s = answered ((s.countReject 0xB).postEvent 0xB008 (items [f, hqBase f + 0x1C]) [f]))
  ∧ (∀ (r : Requester) (f n : Nat) (v : Word) (addrs : List NT64) (s : State), f < 16 → n < 16 → Mapped s r ∨ (r = .vf f ∧ s.boot.refReady = true) →
    s.gated 13 = false → s.eclipsing f = false → s.ringDepth f 1 n ≤ v.toNat % 4096 →
    exec (.bqTailDoorbell r f n v addrs) s = answered ((s.countReject 0xB).postEvent 0xB008 (items [f, hqBase f + 0x818 + 0x40 * n]) [f]))
  ∧ (∀ (f kind n v : Nat) (s : State), s.ringDepth f kind n ≤ v → s.headMove f kind n v = none)
  ∧ (∀ (r : Requester) (f n k : Nat) (v : Word) (s : State), f < 16 → n < 16 → Mapped s r ∨ (r = .vf f ∧ s.boot.refReady = true) → s.gated 13 = false →
    s.eclipsing f = false → s.headMove f 1 n (v.toNat % 4096) = some k →
    exec (.rqHeadDoorbell r f n v) s = answered ((s.ringFreeN f 1 n k).put ⟨hqBase f + 0x814 + 0x40 * n, 11, 0⟩ (v.toNat % 4096)))
  ∧ (∀ (r : Requester) (f n : Nat) (v : Word) (addrs : List NT64) (s : State), f < 16 → n < 16 → Mapped s r ∨ (r = .vf f ∧ s.boot.refReady = true) →
    s.gated 13 = false → s.eclipsing f = false → v.toNat % 4096 < s.ringDepth f 1 n →
    addrs.length = (v.toNat % 4096 + s.ringDepth f 1 n - Tab.getD s.host.bqTail (ringKey f 1 n) 0 % s.ringDepth f 1 n) % s.ringDepth f 1 n →
    ∃ t, exec (.bqTailDoorbell r f n v addrs) s = .next t ∧ t.answer = some .done
      ∧ ((Tab.getD t.host.buffers (ringKey f 1 n) []).map (·.2))
          = ((Tab.getD s.host.buffers (ringKey f 1 n) []).map (·.2)) ++ addrs.filter (fun x => x.toNat % 64 == 0)
      ∧ Tab.get? t.host.bqTail (ringKey f 1 n) = some (v.toNat % 4096)
      ∧ t.get ⟨hqBase f + 0x818 + 0x40 * n, 11, 0⟩ = v.toNat % 4096 ∧ t.host.cmds = s.host.cmds)
  ∧ (∀ (r : Requester) (f k : Nat) (v : Word) (s : State), f < 16 → Mapped s r ∨ (r = .vf f ∧ s.boot.refReady = true) → s.gated 13 = false →
    s.headMove f 2 0 (v.toNat % 4096) = some k →
    exec (.evqHeadDoorbell r f v) s =
      answered (((s.ringFreeN f 2 0 k).put ⟨hqBase f + 0x1C, 11, 0⟩ (v.toNat % 4096)).reportLost f))
  ∧ ∀ (r : Requester) (f n : Nat) (v : Word) (addrs : List NT64) (s : State), f < 16 → n < 16 → Mapped s r ∨ (r = .vf f ∧ s.boot.refReady = true) →
    s.gated 13 = false → s.eclipsing f = true →
    ∀ c ∈ [Instr.sqTailDoorbell r f n v, .cqHeadDoorbell r f n v, .rqHeadDoorbell r f n v, .bqTailDoorbell r f n v addrs],
      exec c s = answered s)
  ∧ ∀ (s : State) (f n : Nat) (v : Word), f < 16 → n < 16 → s.boot.refReady = true → s.gated 13 = false → s.ringOn f 0 n = false →
    v.getLsbD 4 = true → bitsOf v.toNat 3 0 ≤ 8 → bitsOf v.toNat 15 8 < 16 →
    ∃ t, exec (.registerWrite .pf 32 (ringCfg f 0 n) v) s = .next t ∧ t.ringOn f 0 n = true
      ∧ t.ring (ringKey f 0 n) = { tail := 0, used := 0, phase := true, fresh := 0, since := 0 }
      ∧ t.reg (hqBase f + 0x40C + 0x20 * n) = 0

/-- Fetching, DMA errors and moderation (13 R380 to R383, R388): a descriptor fetched from the SQ whose turn it is becomes a command
in flight; an undefined opcode completes HQ_OPCODE, a tag in flight HQ_TAG_IN_USE with DUP_TAG and leaves the earlier command
alone; a failed fetch is a fault of the function; a failed read of host memory is the command's own row without its data, which
completes HQ_DMA once the command's checks pass; MOD_TIME raises the vector, and one masked in its function's MSI-X table is held
pending until the mask is taken back. -/
def Obligations.CommandFlow : Prop :=
  (∀ (f n : Nat) (d : List Byte) (s : State), s.turnFn = some f → s.turnSq f = some n → opcodes.contains (fieldLE d 0 2) = true →
    s.host.cmds.any (fun c => c.fn == f && c.tag == fieldLE d 2 2 && !c.dup) = false → s.dormant.seq = .none →
    ∃ t, exec (.commandFetch f n (some d)) s = .next t
      ∧ t.host.cmds = s.host.cmds ++ [{ fn := f, sq := n, tag := fieldLE d 2 2, opcode := fieldLE d 0 2, fence := bitOf (fieldLE d 4 1) 0, irq := bitOf (fieldLE d 4 1) 1, desc := slice d 0 64, cq := s.sqCq f n }]
      ∧ t.sqHead f n = ((s.sqHead f n + 1) % s.sqDepth f n) % 1024 ∧ t.host.rrFn = (f + 1) % 16 ∧ t.host.cqes = s.host.cqes
      ∧ ∀ a, a ≠ sqBase f n + 0x10 → t.reg a = s.reg a)
  ∧ (∀ (f n : Nat) (d : List Byte) (s : State), s.turnFn = some f → s.turnSq f = some n → opcodes.contains (fieldLE d 0 2) = false →
    ∃ t e, exec (.commandFetch f n (some d)) s = .next t
      ∧ Tab.get? t.host.cqes (ringKey f 0 (s.sqCq f n) * 4096 + (s.ring (ringKey f 0 (s.sqCq f n))).tail) = some e
      ∧ e.tag = fieldLE d 2 2 ∧ e.status = 0x6C ∧ e.sq = n ∧ e.dup = false
      ∧ ∃ c, t.host.cmds = s.host.cmds ++ [c] ∧ c.stage = .completed)
  ∧ (∀ (f n : Nat) (d : List Byte) (s : State), s.turnFn = some f → s.turnSq f = some n → opcodes.contains (fieldLE d 0 2) = true →
    s.host.cmds.any (fun c => c.fn == f && c.tag == fieldLE d 2 2 && !c.dup) = true →
    ∃ t e, exec (.commandFetch f n (some d)) s = .next t
      ∧ Tab.get? t.host.cqes (ringKey f 0 (s.sqCq f n) * 4096 + (s.ring (ringKey f 0 (s.sqCq f n))).tail) = some e
      ∧ e.tag = fieldLE d 2 2 ∧ e.status = 0x6D ∧ e.dup = true ∧ ∃ c, t.host.cmds = s.host.cmds ++ [c] ∧ c.stage = .completed)
  ∧ (∀ (f n : Nat) (s : State), s.turnFn = some f → s.turnSq f = some n →
    exec (.commandFetch f n none) s = .next (s.strobe (.func f) 0x09 n))
  ∧ (∀ (f n : Nat) (d : HostData) (s : State), s.turnFn ≠ some f → exec (.commandFetch f n d) s = .next s)
  ∧ (∀ (f tag : Nat) (c : Cmd) (i : Instr) (s : State), s.cmd? f tag = some c → c.stage = .fetched → c.readsHost = true →
    (c.opcode, i) ∈ [(0x0111, Instr.almSlotWrite f tag none), (0x0610, .macTx f tag none 0), (0x0810, .nwTx f tag none),
      (0x0910, .pktRuleWrite f tag none), (0x0916, .pktTunnelWrite f tag none), (0x0A01, .cphKeyWrite f tag none),
      (0x0B10, .tskSubmit f tag none), (0x0B11, .tskInject f tag none)] →
    exec (.hostDmaCompletion f tag false) s = exec i s)
  ∧ (∀ (f tag : Nat) (c : Cmd) (s : State), Offered s f tag 0x0B10 c → c.le 24 4 ≠ 0 → s.mayTenant f (c.b 19) true = true →
    s.gated 12 = false → c.b 16 < 64 → c.b 17 < 8 → c.b 18 < 2 → c.b 19 < 16 ∨ c.b 19 = 0xFF → c.le 24 4 ≤ 8192 →
    c.reservedOk [(16, 6), (24, 4), (32, 8)] = true → s.qOn (c.b 16) = true →
    exec (.hostDmaCompletion f tag false) s = .next (s.complete f tag 0x6E))
  ∧ (∀ (f tag : Nat) (s : State), exec (.hostDmaCompletion f tag true) s = .next s)
  ∧ (∀ (f kind n : Nat) (s : State), f < 16 → n < 16 → kind ≤ 2 → (s.ring (ringKey f kind n)).fresh ≠ 0 →
    s.get ⟨ringCfg f kind n, 31, 24⟩ ≠ 0 → (s.ring (ringKey f kind n)).since + us (s.get ⟨ringCfg f kind n, 31, 24⟩) ≤ s.elapsed →
    s.ringOn f kind n = true →
    ∃ t, exec (.msixModerationTimer f kind n) s = .next t
      ∧ (s.vecMasked f (s.get ⟨ringCfg f kind n, 15, 8⟩) = false →
          t.host.msix = s.host.msix ++ [(f, s.get ⟨ringCfg f kind n, 15, 8⟩)] ∧ t.host.msixPend = s.host.msixPend)
      ∧ (s.vecMasked f (s.get ⟨ringCfg f kind n, 15, 8⟩) = true →
          t.host.msix = s.host.msix ∧ (f, s.get ⟨ringCfg f kind n, 15, 8⟩) ∈ t.host.msixPend)
      ∧ (t.ring (ringKey f kind n)).fresh = 0 ∧ t.regs = s.regs ∧ t.host.cmds = s.host.cmds)
  ∧ ∀ (f v : Nat) (s : State), f < 16 → v < vecCount f → s.fnEnabled f = true → s.boot.refReady = true → s.gated 13 = false →
    (f, v) ∈ s.host.msixPend →
    ∃ t, exec (.registerWrite (.bar2 f) 32 (16 * v + 12) 0#32) s = .next t ∧ t.answer = some .done ∧ t.vecMasked f v = false
      ∧ t.host.msix = s.host.msix ++ [(f, v)] ∧ (f, v) ∉ t.host.msixPend ∧ t.regs = s.regs
      ∧ ∀ g w, (g, w) ≠ (f, v) → g < 16 → w < 64 → t.vecMasked g w = s.vecMasked g w

/-- Eclipse (13 R392 to R396): of a function by command or by HQ_F_CTRL, of a radio by command; a target that is being eclipsed or
recovers refuses it; at its instant the function holds no other unfinished command; it ends with the record, the completion with the
count of discarded work, and for a function with its rings disabled; CLEAR takes FAULTED back. -/
def Obligations.Eclipses : Prop :=
  (∀ (fn tag : Nat) (c : Cmd) (s : State), Offered s fn tag 0x0B01 c → c.b 16 = 0 → c.b 17 < 16 → s.fnEnabled (c.b 17) = true →
    fn = 0 ∨ c.b 17 = fn → s.gated 13 = false → c.reservedOk [(16, 2)] = true → s.eclipseRefused (c.b 17) (.func (c.b 17)) = none →
    ∃ t, exec (.hqEclipseFunction fn tag) s = .next t ∧ Tab.has t.host.eclipses (c.b 17) = true
      ∧ t.host.cmds.all (fun d => d.fn != c.b 17 || d.stage == .completed || (d.fn == fn && d.tag == tag)) = true
      ∧ t.units = s.units)
  ∧ (∀ (fn tag st : Nat) (c : Cmd) (s : State), Offered s fn tag 0x0B01 c → c.b 16 = 0 → c.b 17 < 16 →
    s.fnEnabled (c.b 17) = true → fn = 0 ∨ c.b 17 = fn → s.gated 13 = false → c.reservedOk [(16, 2)] = true →
    s.eclipseRefused (c.b 17) (.func (c.b 17)) = some st → exec (.hqEclipseFunction fn tag) s = .next (s.complete fn tag st))
  ∧ (∀ (tag : Nat) (c : Cmd) (s : State), Offered s 0 tag 0x0B01 c → c.b 16 = 1 → c.b 17 ≤ 2 → s.gated 13 = false →
    c.reservedOk [(16, 2)] = true → s.eclipseRefused (16 + c.b 17) (.radio (c.b 17)) = none →
    ∃ t, exec (.hqEclipseRadio 0 tag) s = .next t ∧ Tab.has t.host.eclipses (16 + c.b 17) = true
      ∧ (t.radio (c.b 17)).launches = [])
  ∧ (∀ (r : Requester) (f : Nat) (s : State), f < 16 → Mapped s r ∨ (r = .vf f ∧ s.boot.refReady = true) → s.gated 13 = false →
    s.eclipseRefused f (.func f) = none →
    ∃ t, exec (.funcCtrlEclipseWrite r f) s = .next t ∧ t.answer = some .done ∧ Tab.has t.host.eclipses f = true
      ∧ t.host.cmds.all (fun d => d.fn != f || d.stage == .completed) = true ∧ t.units = s.units)
  ∧ (∀ (r : Requester) (f st : Nat) (s : State), f < 16 → Mapped s r ∨ (r = .vf f ∧ s.boot.refReady = true) → s.gated 13 = false →
    s.eclipseRefused f (.func f) = some st → exec (.funcCtrlEclipseWrite r f) s = answered (s.put ⟨hqBase f + 4, 15, 8⟩ st))
  ∧ (∀ (r : Requester) (f : Nat) (s : State), f < 16 → Mapped s r ∨ (r = .vf f ∧ s.boot.refReady = true) → s.gated 13 = false →
    ∃ t, exec (.funcCtrlClearWrite r f) s = .next t ∧ t.answer = some .done ∧ t.host.faulted.contains f = false ∧ t.regs = s.regs
      ∧ ∀ g, g ≠ f → t.host.faulted.contains g = s.host.faulted.contains g)
  ∧ (∀ (f : Nat) (e : Eclipse) (s : State), f < 16 → Tab.get? s.host.eclipses f = some e → e.flr = false →
    ∃ t, exec (.eclipseComplete false f) s = .next t ∧ Tab.get? t.host.eclipses f = none ∧ t.units = s.units
      ∧ ∀ n, n < 16 → t.flag ⟨sqBase f n + 8, 4, 4⟩ = false ∧ t.ringOn f 0 n = false ∧ t.ringOn f 1 n = false)
  ∧ (∀ (f : Nat) (e : Eclipse) (u : State) (s : State), f < 16 → Tab.get? s.host.eclipses f = some e → e.flr = false →
    u = (match e.issuer with
      | some (fn, tag) => (s.eclipseRecord 0 f e.discarded e.tags).complete fn tag 0 e.discarded
      | none => (s.eclipseRecord 0 f e.discarded e.tags).put ⟨hqBase f + 4, 15, 8⟩ 0) →
    exec (.eclipseComplete false f) s
      = .next ({ u with host := { u.host with eclipses := Tab.del u.host.eclipses f } }.disableRings f))
  ∧ (∀ (r : Nat) (e : Eclipse) (fn tag : Nat) (s : State), r ≤ 2 → Tab.get? s.host.eclipses (16 + r) = some e → e.issuer = some (fn, tag) →
    ∃ t u, exec (.eclipseComplete true r) s = .next t ∧ u = (s.eclipseRecord 1 r e.discarded e.tags).complete fn tag 0 e.discarded
      ∧ t = { u with host := { u.host with eclipses := Tab.del u.host.eclipses (16 + r) } })
  ∧ ∀ (radio : Bool) (i : Nat) (s : State), Tab.get? s.host.eclipses (if radio = true then 16 + i else i) = none →
    exec (.eclipseComplete radio i) s = .next s

/-! ## The task scheduler (13 R397 to R407) -/

/-- Consumers (13 R400 to R405): the best deliverable item leaves the pool, or stays held when its queue is atomic, and costs a
worker one credit; ASK adds credits up to 4,095 and CANCEL withdraws them; RELEASE frees exactly the context that its handle names and
that the worker holds, and with any other handle is counted and reported; contexts held for ATOMIC_TIMEOUT, items past MAX_WAIT and credits past ASK_WAIT lapse. -/
def Obligations.TaskConsumers : Prop :=
  (∀ (c idx : Nat) (i : Item) (s : State), c < 80 → s.stopped 12 = false → s.bestItem c = some (idx, i) → s.mayTake c i.payload = true →
    Tab.get? s.tasks.items idx = some i → Tab.sorted s.tasks.items = true →
    ∃ t, exec (.workItemDeliver c) s = .next t ∧ t.tasks.gens = s.tasks.gens
      ∧ ((i.atomic && i.mac.isNone) = false → Tab.get? t.tasks.items idx = none)
      ∧ ((i.atomic && i.mac.isNone) = true → (Tab.get? t.tasks.items idx).bind (·.holder) = some (c, s.elapsed))
      ∧ (16 ≤ c → (t.askOf c).pending = (s.askOf c).pending - 1)
      ∧ ∀ j, j ≠ idx → Tab.get? t.tasks.items j = Tab.get? s.tasks.items j)
  ∧ (∀ (c : Nat) (s : State), s.bestItem c = none → exec (.workItemDeliver c) s = .next s)
  ∧ (∀ (r : Requester) (f w : Nat) (v : Word) (s : State), f < 16 → w < 64 → Mapped s r ∨ (r = .vf f ∧ s.boot.refReady = true) → s.gated 13 = false →
    bitOf v.toNat 12 = false → s.wkBound f w = true → (s.askOf (16 + w)).pending + v.toNat % 4096 ≤ 4095 →
    ∃ t, exec (.workerAskWrite r f w v) s = .next t ∧ t.answer = some .done
      ∧ (t.askOf (16 + w)).pending = (s.askOf (16 + w)).pending + v.toNat % 4096
      ∧ (∀ x, x ≠ 16 + w → t.askOf x = s.askOf x) ∧ t.tasks.items = s.tasks.items ∧ t.regs = s.regs)
  ∧ (∀ (r : Requester) (f w : Nat) (v : Word) (s : State), f < 16 → w < 64 → Mapped s r ∨ (r = .vf f ∧ s.boot.refReady = true) → s.gated 13 = false →
    bitOf v.toNat 12 = true → s.wkBound f w = true →
    ∃ t, exec (.workerAskCancel r f w v) s = .next t ∧ t.answer = some .done ∧ (t.askOf (16 + w)).pending = 0
      ∧ (∀ x, x ≠ 16 + w → t.askOf x = s.askOf x) ∧ t.tasks.items = s.tasks.items ∧ t.regs = s.regs)
  ∧ (∀ (r : Requester) (f w : Nat) (v : Word) (i : Item) (from_ : Nat) (s : State), f < 16 → w < 64 → Mapped s r ∨ (r = .vf f ∧ s.boot.refReady = true) →
    s.gated 13 = false → s.wkBound f w = true → Tab.get? s.tasks.items (v.toNat % 2 ^ 18) = some i →
    i.gen % 2 ^ 14 = v.toNat / 2 ^ 18 → i.holder = some (16 + w, from_) →
    ∃ t, exec (.workerReleaseWrite r f w v) s = .next t ∧ t.answer = some .done ∧ Tab.get? t.tasks.items (v.toNat % 2 ^ 18) = none
      ∧ (∀ j, j ≠ v.toNat % 2 ^ 18 → Tab.get? t.tasks.items j = Tab.get? s.tasks.items j) ∧ t.regs = s.regs ∧ t.host = s.host)
  ∧ (∀ (r : Requester) (f w : Nat) (v : Word) (s : State), f < 16 → w < 64 → Mapped s r ∨ (r = .vf f ∧ s.boot.refReady = true) → s.gated 13 = false →
    s.wkBound f w = true →
    (∀ i from_, Tab.get? s.tasks.items (v.toNat % 2 ^ 18) = some i → i.gen % 2 ^ 14 = v.toNat / 2 ^ 18 → i.holder ≠ some (16 + w, from_)) →
    exec (.workerReleaseWrite r f w v) s =
      answered (((s.inc ⟨0x2C00014, 31, 16⟩).countReject 0xB).postEvent 0xB008 (items [f, hqBase f + 0xC04 + 0x10 * w]) [f]))
  ∧ (∀ (idx c from_ : Nat) (i : Item) (s : State), Tab.get? s.tasks.items idx = some i → i.holder = some (c, from_) →
    from_ + ms (s.get ⟨0x2C00008, 13, 0⟩) ≤ s.elapsed →
    ∃ t, exec (.atomicTimeout idx) s = .next t ∧ Tab.get? t.tasks.items idx = none
      ∧ ∀ j, j ≠ idx → Tab.get? t.tasks.items j = Tab.get? s.tasks.items j)
  ∧ (∀ (idx : Nat) (i : Item) (s : State), Tab.get? s.tasks.items idx = some i → i.holder = none →
    s.get ⟨tskQ i.queue + 0x10, 15, 0⟩ ≠ 0 → ms (s.get ⟨tskQ i.queue + 0x10, 15, 0⟩) ≤ s.waitOf i →
    ∃ t, exec (.workItemMaxWait idx) s = .next t ∧ Tab.get? t.tasks.items idx = none
      ∧ (∀ j, j ≠ idx → Tab.get? t.tasks.items j = Tab.get? s.tasks.items j)
      ∧ Tab.getD t.tasks.dropsWait i.queue 0 = Tab.getD s.tasks.dropsWait i.queue 0 + 1)
  ∧ ∀ (w : Nat) (s : State), w < 64 → (s.askOf (16 + w)).pending ≠ 0 → (s.askOf (16 + w)).since + ms (s.askWait w) ≤ s.elapsed →
    ∃ t, exec (.askWaitLapse w) s = .next t ∧ (t.askOf (16 + w)).pending = 0 ∧ t.tasks.items = s.tasks.items ∧ t.regs = s.regs
      ∧ ∀ x, x ≠ 16 + w → t.askOf x = s.askOf x

/-- Submitting and injecting (13 R397, R407): TSK_SUBMIT to an enabled queue with room enqueues the payload under the handle of its
completion; a disabled queue completes 0x6F; TSK_INJECT enters the frame with its tenant at the FIFO of source 0x1C, and a full one
refuses it. -/
def Obligations.TaskCommands : Prop :=
  (∀ (fn tag : Nat) (c : Cmd) (b : List Byte) (s : State), Offered s fn tag 0x0B10 c → s.mayTenant fn (c.b 19) true = true →
    s.gated 12 = false → c.b 16 < 64 → c.b 17 < 8 → c.b 18 < 2 → c.b 19 < 16 ∨ c.b 19 = 0xFF → c.le 24 4 ≤ 8192 →
    c.reservedOk [(16, 6), (24, 4), (32, 8)] = true → s.qOn (c.b 16) = true → s.tskRoom (c.b 16) = true →
    Tab.freeKey s.tasks.items 262144 ≠ none →
    ∃ t idx i, exec (.tskSubmit fn tag (some b)) s = .next t ∧ Tab.freeKey s.tasks.items 262144 = some idx
      ∧ Tab.get? t.tasks.items idx = some i ∧ i.queue = c.b 16 ∧ i.prio = c.b 17 ∧ i.tenant = c.b 19 ∧ i.source = 0x0B
      ∧ i.payload = slice b 0 (c.le 24 4) ∧ i.holder = none ∧ (c.b 18 = 1 → i.ctx = c.le 20 2)
      ∧ (∀ j, j ≠ idx → Tab.get? t.tasks.items j = Tab.get? s.tasks.items j)
      ∧ (∃ e, Tab.get? t.host.cqes (ringKey fn 0 c.cq * 4096 + (s.ring (ringKey fn 0 c.cq)).tail) = some e ∧ e.tag = tag
          ∧ e.status = 0 ∧ e.result = handleOf idx i % 2 ^ 32))
  ∧ (∀ (fn tag : Nat) (c : Cmd) (b : HostData) (s : State), Offered s fn tag 0x0B10 c → s.mayTenant fn (c.b 19) true = true →
    s.gated 12 = false → c.b 16 < 64 → c.b 17 < 8 → c.b 18 < 2 → c.b 19 < 16 ∨ c.b 19 = 0xFF → c.le 24 4 ≤ 8192 →
    c.reservedOk [(16, 6), (24, 4), (32, 8)] = true → s.qOn (c.b 16) = false →
    exec (.tskSubmit fn tag b) s = .next (s.complete fn tag 0x6F))
  ∧ (∀ (fn tag : Nat) (c : Cmd) (b : List Byte) (s : State), Offered s fn tag 0x0B11 c → s.mayTenant fn (c.b 16) false = true →
    s.gated 10 = false → c.b 16 < 16 → 60 ≤ c.le 18 2 → c.le 18 2 ≤ 9212 → c.reservedOk [(16, 1), (18, 2), (24, 8)] = true →
    s.unitStatus .pkt = none → s.inService .pkt = true → (Tab.getD s.fifos 0x1C []).length < 256 →
    exec (.tskInject fn tag (some b)) s = .next ((s.ingress 0x1C { bytes := slice b 0 (c.le 18 2), tenant := some (c.b 16) }).complete fn tag 0))
  ∧ ∀ (fn tag : Nat) (c : Cmd) (b : List Byte) (s : State), Offered s fn tag 0x0B11 c → s.mayTenant fn (c.b 16) false = true →
    s.gated 10 = false → c.b 16 < 16 → 60 ≤ c.le 18 2 → c.le 18 2 ≤ 9212 → c.reservedOk [(16, 1), (18, 2), (24, 8)] = true →
    s.unitStatus .pkt = none → s.inService .pkt = true → 256 ≤ (Tab.getD s.fifos 0x1C []).length →
    exec (.tskInject fn tag (some b)) s = .next (s.complete fn tag 0x70)

/-! ## Radio front-ends (06) and basebands (07) -/

/-- Synthesisers, protection and chains (06 R158 to R171): a trip blocks the chain and turns its PA off while the PPDU goes on; a
written clear waits for the Meridian; a lock feeds the chains of the die, its loss passes to a locked shadow or leaves the die's groups
unlocked and truncates a PPDU that it fed; a
tile silent for 100 µs is unlocked; receive windows move serving chains between STANDBY and RX; calibration steps run alone, in
a gap of 12 µs, and store their result; the pair of probes between a chain and the reference gives the chain's coefficient (R169; the
words' arithmetic is free, log 28) and the reference's is 1; an old coefficient is reported once. -/
def Obligations.FrontEndChains : Prop :=
  (∀ (i v : Nat) (s : State), i < 160 → (s.chain i).state = .tx → (s.chain i).blocked = false →
    s.get ⟨feBase (chainOf i).1 + 4, 15, 8⟩ ≤ v →
    ∃ t, exec (.mismatchTrip i v) s = .next t ∧ (t.chain i).blocked = true ∧ (t.chain i).paOff = true ∧ (t.chain i).state = .tx
      ∧ (∀ j, j ≠ i → (t.chain j).blocked = (s.chain j).blocked ∧ (t.chain j).state = (s.chain j).state)
      ∧ (t.radio (chainOf i).1).launches = (s.radio (chainOf i).1).launches)
  ∧ (∀ (q : Requester) (r : Nat) (hi : Bool) (v : Word) (s : State), r < 3 → (hi = true → r ≠ 0) → Mapped s q → s.gated r = false →
    ∃ t, exec (.feBlockClearWrite q r hi v) s = .next t ∧ t.answer = some .done ∧ t.regs = s.regs
      ∧ (∀ b, b < 32 → v.getLsbD b = true → (s.chain (chainBase r + b + if hi then 32 else 0)).blocked = true →
          (t.chain (chainBase r + b + if hi then 32 else 0)).clearing = true)
      ∧ ∀ j, (t.chain j).blocked = (s.chain j).blocked)
  ∧ (∀ (r g k : Nat) (s : State),
    ∃ t, exec (.synthLockAcquired r g k) s = .next t ∧ t.regs = s.regs ∧ (t.syn r g).active = (s.syn r g).active
      ∧ (k = (s.syn r g).active → (t.syn r g).locked = true ∧ (t.syn r g).idle = (s.syn r g).idle)
      ∧ (k ≠ (s.syn r g).active → (t.syn r g).locked = (s.syn r g).locked ∧ (t.syn r g).idle =
          if (s.syn r g).idle = .pretuning ∨ (s.syn r g).idle = .pretuned then .pretuned else .shadow))
  ∧ (∀ (r g : Nat) (s : State), (s.syn r g).locked = true →
    ∃ t, exec (.synthLockLost r g) s = .next t ∧ (t.syn r g).locked = decide ((s.syn r g).idle = .shadow)
      ∧ (t.syn r g).active = (if (s.syn r g).idle = .shadow then 1 - (s.syn r g).active else (s.syn r g).active)
      ∧ ∀ l, s.onAir r = some l → l.chains.any (fun c => (s.groupOf r c).map dieOf == some (dieOf g)) = true →
          (t.radio r).launches.all (fun m => m.of_ != l.of_ || (!m.onAir && m.outcome == some 0x29)) = true)
  ∧ (∀ (k r b n : Nat) (s : State), s.bind k = some (r, b, n) → (s.syn r (2 + k)).heard + us 100 ≤ s.elapsed →
    exec (.tileLockTimeout k) s = .next (s.modSyn r (2 + k) fun x => { x with locked := false }))
  ∧ (∀ (r : Nat) (s : State), s.inService (.radio r) = true →
    ∃ t, exec (.rxWindowStart r) s = .next t ∧ (t.radio r).rxOpen = true ∧ t.regs = s.regs
      ∧ ∀ c ∈ s.chainSet r, (t.chain (chainBase r + c)).state =
          if (s.chain (chainBase r + c)).state = .standby ∧ (s.chain (chainBase r + c)).serving = true then .rx
          else (s.chain (chainBase r + c)).state)
  ∧ (∀ (r : Nat) (s : State),
    ∃ t, exec (.rxWindowEnd r) s = .next t ∧ (t.radio r).rxOpen = false ∧ t.regs = s.regs
      ∧ ∀ c ∈ s.chainSet r, (t.chain (chainBase r + c)).state =
          if (s.chain (chainBase r + c)).state = .rx then .standby else (s.chain (chainBase r + c)).state)
  ∧ (∀ (r kind c : Nat) (s : State), kind < 5 → c < s.chainCount r → (s.radio r).cal = none → s.onAir r = none →
    (∀ x, s.nextBusy r = some x → s.ntNs + 4600 ≤ x ∧ (s.radio r).gapFrom + 12000 ≤ x) → (s.chain (chainBase r + c)).powered = true →
    (s.chain (chainBase r + c)).state = .standby → (s.radio r).rx.state = .search →
    ∃ t, exec (.calStepStart r kind c) s = .next t ∧ (t.radio r).cal = some ⟨kind, c, s.elapsed⟩
      ∧ (t.chain (chainBase r + c)).state = .cal ∧ ∀ j, j ≠ chainBase r + c → t.chain j = s.chain j)
  ∧ (∀ (r : Nat) (k : CalRun) (res : CalResult) (s : State), (s.radio r).cal = some k → k.kind < 4 →
    ∃ t, exec (.calStepDone r res) s = .next t ∧ (t.radio r).cal = none ∧ t.regs = s.regs
      ∧ ∀ c, c < s.chainCount r → (s.chain (chainBase r + c)).state = .cal →
          (t.chain (chainBase r + c)).state = (s.chain (chainBase r + c)).before)
  ∧ (∀ (r ref : Nat) (a b : List Nat) (k : CalRun) (res : CalResult) (s : State), (s.radio r).cal = some k → k.kind = 5 →
    (s.radio r).ref = some ref → ref ∈ s.chainSet r → (s.chain (chainBase r + ref)).blocked = false → ref < 64 → k.chain < 64 → k.chain ≠ ref → (∀ x ∈ res.good, x < 64) →
    (res.good.zip res.h).filter (fun e => e.1 == ref) = [(ref, a)] → Tab.get? (s.radio r).probes (ref * 64 + k.chain) = some b →
    ∃ t, exec (.calStepDone r res) s = .next t ∧ (t.radio r).cal = none ∧ (t.chain (chainBase r + ref)).coef = .one
      ∧ (t.chain (chainBase r + k.chain)).coef = pairCoef a b .one
      ∧ (t.chain (chainBase r + k.chain)).coefAt = some s.elapsed ∧ (t.chain (chainBase r + k.chain)).pending = false)
  ∧ (∀ (r : Nat) (k : CalRun) (res : CalResult) (s : State), (s.radio r).cal = some k → k.kind = 4 →
    ∃ t, exec (.calStepDone r res) s = .next t ∧ (t.radio r).cal = none
      ∧ (t.chain (chainBase r + k.chain)).vswr = res.vswr % 256 ∧ (t.chain (chainBase r + k.chain)).high =
        if s.get ⟨feBase r + 4, 23, 16⟩ ≤ res.vswr then (s.chain (chainBase r + k.chain)).high + 1 else 0)
  ∧ ∀ (i at_ : Nat) (s : State), (s.chain i).serving = true → (s.chain i).coefAt = some at_ → at_ + ms 2000 < s.elapsed →
    (s.chain i).pending = false → (s.chain i).stale = false →
    exec (.coeffStale i) s = .next ((s.modChain i fun x => { x with stale := true }).postEvent 0x4006 (items [i]))

/-- Launches (05 R131, R147, 06 R159, R165, R167, R171, 07 R184, R201): a request that its sender may make (08 R213, R219, R223) 4 µs ahead
on a radio in service is taken with the active chains that are neither blocked nor behind a link out of service (01 R33), a planned
one with those of its precoder, one too late, or in the boundary interval, gets its status
and never ramps; one whose form is none of R182 and R183 gets BB_FEATURE; at 0.5 µs before its time every chain goes on the air
together from STANDBY or RX, or none does; in HOLD (03 R74) and from step 2 of a Dormant entry on nothing launches; a launch ends with its air time, and a transmitter on for longer than TX_TIMEOUT is a
fault of the radio. -/
def Obligations.Launches : Prop :=
  (∀ (r x air T A : Nat) (of_ : LaunchOf) (f : PpduForm) (set : List Nat) (s : State), s.inService (.radio r) = true → s.ntValid = true →
    T = s.launchTime of_ x → A = s.launchAir of_ air →
    set = s.launchable r (match of_ with
      | .plan id => ((Tab.get? s.mac.plan id).bind (·.chains)).getD (s.launchSet r)
      | _ => s.launchSet r) →
    s.airClosed = false → (s.radio r).launches.any (fun l => l.of_ == of_) = false → s.launchOk r of_ T A f = true →
    s.groupLate r of_ T A = false → s.radioEclipsing r = false →
    formOk r s.limitMode (s.primaryAt r) f A = true → s.swapAt r = none → s.time.realignEnd = none → set ≠ [] →
    ∃ t, exec (.launchRequest r of_ x air f) s = .next t ∧ t.regs = s.regs
      ∧ (t.radio r).launches = (s.radio r).launches ++ [{
          of_ := of_, t := T, air := A, chains := set, onAir := false, asks := f.asks,
          outcome := if s.launchInBoundary T = true then some 0x0F else if T < s.ntNs + 4000 then some 0x04 else none }])
  ∧ (∀ (r : Nat) (of_ : LaunchOf) (x air : Nat) (f : PpduForm) (s : State), s.inService (.radio r) = true → s.ntValid = true →
    s.airClosed = false → (s.radio r).launches.any (fun l => l.of_ == of_) = false → s.radioEclipsing r = false →
    s.launchOk r of_ (s.launchTime of_ x) (s.launchAir of_ air) f = true →
    s.groupLate r of_ (s.launchTime of_ x) (s.launchAir of_ air) = false →
    formOk r s.limitMode (s.primaryAt r) f (s.launchAir of_ air) = false →
    ∃ t l, exec (.launchRequest r of_ x air f) s = .next t ∧ (t.radio r).launches = (s.radio r).launches ++ [l]
      ∧ l.of_ = of_ ∧ l.onAir = false ∧ l.outcome = some 0x35)
  ∧ (∀ (r : Nat) (of_ : LaunchOf) (l : Launch) (s : State),
    (s.radio r).launches.find? (fun l => l.of_ == of_ && l.outcome.isNone && !l.onAir) = some l → l.t ≤ s.ntNs + 500 →
    s.airClosed = false → (s.radio r).cal = none → s.inRealign l.t = false → s.launchable r l.chains ≠ [] →
    s.chainsLocked r (s.launchable r l.chains) = true → s.canRamp r (s.launchable r l.chains) = true →
    s.masksReady r of_ l.t (s.launchable r l.chains) = true →
    ∃ t, exec (.paRampStart r of_) s = .next t ∧ (∀ c ∈ s.launchable r l.chains, (t.chain (chainBase r + c)).state = .tx)
      ∧ (t.radio r).launches.all (fun m => m.of_ != of_ || m.onAir) = true
      ∧ ((t.radio r).rx.state = .search ∨ (t.radio r).rx.state = .tb))
  ∧ (∀ (r : Nat) (of_ : LaunchOf) (l : Launch) (s : State),
    (s.radio r).launches.find? (fun l => l.of_ == of_ && l.outcome.isNone && !l.onAir) = some l → l.t ≤ s.ntNs + 500 →
    s.airClosed = false → (s.radio r).cal = none →
    s.inRealign l.t = true ∨ s.launchable r l.chains = [] ∨ s.chainsLocked r (s.launchable r l.chains) = false →
    ∃ t, exec (.paRampStart r of_) s = .next t ∧ t.chains = s.chains
      ∧ (t.radio r).launches.all (fun m => m.of_ != of_
          || m.outcome == some (if s.inRealign l.t = false ∧ s.launchable r l.chains = [] then 0x28 else 0x04)) = true)
  ∧ (∀ (r : Nat) (of_ : LaunchOf) (x air : Nat) (f : PpduForm) (s : State), s.airClosed = true →
    exec (.launchRequest r of_ x air f) s = .next s ∧ exec (.paRampStart r of_) s = .next s
      ∧ exec (.beaconLaunch r x air) s = .next s)
  ∧ (∀ (r : Nat) (l : Launch) (s : State), s.onAir r = some l → l.t + l.air ≤ s.ntNs →
    ∃ t, exec (.ppduTxEnd r) s = .next t ∧ t.regs = s.regs
      ∧ (t.radio r).launches = (s.radio r).launches.map (fun m => if m.of_ = l.of_ then { m with onAir := false, outcome := some 0 } else m)
      ∧ (∀ id p, l.of_ = .plan id → Tab.get? s.mac.plan id = some p → Tab.get? t.mac.plan id = some { p with sent := true })
      ∧ ∀ c ∈ l.chains, (t.chain (chainBase r + c)).state ≠ .tx)
  ∧ ∀ (i : Nat) (l : Launch) (s : State), s.onAir (chainOf i).1 = some l → (s.chain i).state = .tx → (s.chain i).paOff = false →
    l.t + s.get ⟨feBase (chainOf i).1 + 4, 7, 0⟩ * 100000 < s.ntNs →
    exec (.txTimeoutWatchdog i) s = .next ((s.postEvent 0x4004 (items [(chainOf i).1, i])).strobe (.radio (chainOf i).1) 0x05 i)

/-- The receiver (07 R189 to R194, R206): an L-STF at or above DET_THRESH in an open window, its autocorrelation above 0.5, its gains of
at most 72 dB settled within 1.6 µs, detected within 4.0 µs of its start or from what remains of one that began up to 4.8 µs before
SEARCH, freezes level, gains, stamp and the settings of the detector. It is abandoned as noise after 10 µs or a failed SIG field, moves
to DATA with the last one and an estimate of the channel on every receiving chain, smoothed where it may be, restarts or is captured by a preamble stronger by the RESTART_DB or CAPTURE_DB frozen then, and ends in
SEARCH with its record. A planned trigger's TB window opens 2 µs ahead with the plan's t_e and length, where the trigger was sent, one
of a trigger with random-access RUs 2 µs before SIFS after its end with the length it asked for, and it closes with one record per
solicited user; a user below 0 dB is missing and counted. The stamp of a TB PPDU is t_e and the least offset of those heard (log 164). -/
def Obligations.Receiver : Prop :=
  (∀ (r : Nat) (level : Int) (d : Detect) (s : State), (s.radio r).rx.state = .search → s.inService (.radio r) = true → (s.radio r).rxOpen = true →
    signed 8 (s.get ⟨bbBase r + 0xC, 7, 0⟩) ≤ level → 500 < d.corr → d.settle ≤ 1600 → d.settle ≤ d.ago →
    d.gains.length = (s.chainSet r).length → d.gains.all (fun g => decide (g ≤ 72)) = true →
    d.ago ≤ 4000 ∨ ((s.elapsed - (s.radio r).rx.searchFrom) * 5 / 3 < d.ago
      ∧ d.ago ≤ (s.elapsed - (s.radio r).rx.searchFrom) * 5 / 3 + 4800 ∧ d.ago ≤ 8000) →
    ∃ t, exec (.detection r level d) s = .next t ∧ (t.radio r).rx.state = .preamble ∧ (t.radio r).rx.level = level
      ∧ (t.radio r).rx.gains = d.gains ∧ (t.radio r).rx.stamp = s.stampAgo d.ago
      ∧ (t.radio r).rx.restartDb = s.get ⟨bbBase r + 0xC, 12, 8⟩ ∧ (t.radio r).rx.captureDb = s.get ⟨bbBase r + 0xC, 20, 16⟩
      ∧ (t.radio r).rx.captureEn = s.flag ⟨bbBase r + 0xC, 24, 24⟩
      ∧ (t.radio r).launches = (s.radio r).launches ∧ t.chains = s.chains ∧ ∀ a, a ≠ bbBase r + 0x20 → t.reg a = s.reg a)
  ∧ (∀ (r : Nat) (level : Int) (d : Detect) (s : State), level < signed 8 (s.get ⟨bbBase r + 0xC, 7, 0⟩) ∨ d.corr ≤ 500 →
    exec (.detection r level d) s = .next s)
  ∧ (∀ (r : Nat) (s : State), (s.radio r).rx.state = .preamble → (s.radio r).rx.from_ + us 10 ≤ s.elapsed →
    ∃ t, exec (.lltfTimeout r) s = .next t ∧ (t.radio r).rx.state = .search ∧ ∀ a, a ≠ bbBase r + 0x20 → t.reg a = s.reg a)
  ∧ (∀ (r : Nat) (last : Option LtfForm) (s : State), (s.radio r).rx.state = .preamble →
    (∃ t, exec (.sigFieldDone r false last) s = .next t ∧ (t.radio r).rx.state = .search)
    ∧ ∃ t, exec (.sigFieldDone r true last) s = .next t ∧ (t.radio r).rx.state = (if last.isSome then .data else .preamble)
        ∧ (∀ f, last = some f → ∃ e, (t.radio r).rx.est = some e ∧ e.chains = s.receiving r ∧ e.ss = f.ss
            ∧ (e.smooth = true ↔ (f.ltf = 2 ∨ f.ltf = 4) ∧ f.ss ≤ 4 ∧ f.noSmooth = false))
        ∧ (t.radio r).rx.stamp = (s.radio r).rx.stamp ∧ t.regs = s.regs)
  ∧ (∀ (r : Nat) (level : Int) (d : Detect) (s : State), (s.radio r).rx.state = .preamble → s.detects r level d = true → d.ago ≤ 4000 →
    (s.radio r).rx.level + (s.radio r).rx.restartDb ≤ level →
    ∃ t, exec (.rxRestart r level d) s = .next t ∧ (t.radio r).rx.state = .preamble ∧ (t.radio r).rx.level = level
      ∧ (t.radio r).rx.gains = d.gains ∧ (t.radio r).rx.stamp = s.stampAgo d.ago ∧ ∀ a, a ≠ bbBase r + 0x24 → t.reg a = s.reg a)
  ∧ (∀ (r : Nat) (level : Int) (d : Detect) (s : State), (s.radio r).rx.state = .data → (s.radio r).rx.captureEn = true → s.detects r level d = true →
    d.ago ≤ 4000 → (s.radio r).rx.level + (s.radio r).rx.captureDb ≤ level →
    ∃ t, exec (.rxCapture r level d) s = .next t ∧ (t.radio r).rx.state = .preamble ∧ (t.radio r).rx.level = level
      ∧ (t.radio r).rx.gains = d.gains ∧ (t.radio r).rx.stamp = s.stampAgo d.ago)
  ∧ (∀ (r : Nat) (level : Int) (d : Detect) (s : State), (s.radio r).rx.captureEn = false → exec (.rxCapture r level d) s = .next s)
  ∧ (∀ (r : Nat) (m : Measured) (s : State), (s.radio r).rx.state = .data → s.measurable r false m = true →
    ∃ t, exec (.rxPpduEnd r m) s = .next t ∧ (t.radio r).rx.state = .search
      ∧ (t.radio r).rx.records = [(0, metricsBytes (s.radio r).rx.stamp 0 0 false m)]
      ∧ (t.radio r).rx.ended = some ((s.radio r).rx.stamp, [])
      ∧ t.get64 (bbBase r + 0x30) = (s.get64 (bbBase r + 0x30) + 1) % 2 ^ 64 ∧ t.host = s.host)
  ∧ (∀ (r id : Nat) (p : Ppdu) (s : State), Tab.get? s.mac.plan id = some p → p.radio = r → p.sent = true → p.te ≠ 0 →
    p.te ≤ s.ntNs + 2000 → s.ntNs < p.te + p.tbDur → s.inService (.radio r) = true → (s.radio r).rx.state ≠ .tb →
    ∃ t, exec (.tbWindowOpen r (.own id) p.te p.tbDur) s = .next t ∧ (t.radio r).rx.state = .tb ∧ (t.radio r).rx.te = p.te
      ∧ (t.radio r).rx.windowEnd = p.te + p.tbDur ∧ (t.radio r).rx.window = some (.own id) ∧ t.mac.plan = s.mac.plan)
  ∧ (∀ (r id te len : Nat) (p : Ppdu) (s : State), Tab.get? s.mac.plan id = some p → p.sent = false →
    exec (.tbWindowOpen r (.own id) te len) s = .next s)
  ∧ (∀ (r id : Nat) (p : Ppdu) (users : List Measured) (s : State), (s.radio r).rx.state = .tb →
    (s.radio r).rx.window = some (.own id) → Tab.get? s.mac.plan id = some p → (s.radio r).rx.windowEnd ≤ s.ntNs →
    users.all (s.measurable r true) = true →
    users.map (fun m => (m.sta, m.ru, m.nss)) = p.solicited.map (fun u => (some u.sid, u.ru, u.ss)) →
    ∃ t, exec (.tbWindowClose r users) s = .next t ∧ (t.radio r).rx.state = .search ∧ (t.radio r).rx.window = none
      ∧ (t.radio r).rx.ended = some (if s.ntValid = true then BitVec.ofNat 64 (tbStart (s.radio r).rx.te users) else 0,
          ((users.zipIdx).filter (fun u => decide (u.1.ltfSnr < 0))).map (·.2)))
  ∧ (∀ (r n end_ : Nat) (f : TriggerAsk) (s : State), (s.radio r).trigger = some (n, end_, f) → end_ + 16000 ≤ s.ntNs + 2000 →
    s.ntNs < end_ + 16000 + f.len → s.inService (.radio r) = true → (s.radio r).rx.state ≠ .tb →
    ∃ t, exec (.tbWindowOpen r (.random n) (end_ + 16000) f.len) s = .next t ∧ (t.radio r).rx.state = .tb
      ∧ (t.radio r).rx.te = end_ + 16000 ∧ (t.radio r).rx.windowEnd = end_ + 16000 + f.len
      ∧ (t.radio r).rx.window = some (.random n) ∧ t.mac.plan = s.mac.plan)
  ∧ ∀ (r id sid : Nat) (u : PlanUser) (p : Ppdu) (m : Measured) (s : State), (s.radio r).rx.state = .tb →
    (s.radio r).rx.window = some (.own id) → Tab.get? s.mac.plan id = some p → (s.radio r).rx.windowEnd ≤ s.ntNs →
    s.measurable r true m = true → p.solicited = [u] → u.sid = sid → m.sta = some sid → m.ru = u.ru → m.nss = u.ss → s.ntValid = true →
    ∃ t, exec (.tbWindowClose r [m]) s = .next t
      ∧ (0 ≤ m.ltfSnr → t.host = s.host ∧ t.get64 (bbBase r + 0x30) = (s.get64 (bbBase r + 0x30) + 1) % 2 ^ 64
          ∧ (t.radio r).rx.records
              = [(0, metricsBytes (BitVec.ofNat 64 (((s.radio r).rx.te : Int) + m.timing).toNat) 0 0 true m)])
      ∧ (m.ltfSnr < 0 → s.get ⟨bbBase r + 0x2C, 15, 0⟩ < 65535 → (t.radio r).rx.records = []
          ∧ t.get ⟨bbBase r + 0x2C, 15, 0⟩ = s.get ⟨bbBase r + 0x2C, 15, 0⟩ + 1)

/-- The spatial engine (07 R197 to R200, 09 R260): four slots ahead, in launch order, a PPDU's entries are fetched and after them those
of its null users, those too slow or beyond the SRAM left out; two slots ahead its precoder is computed once, a downlink user without an entry removed; explicit operation is entered below FALLBACK_LOW
and left at FALLBACK_HIGH; after SOUND_PERIOD a sounded station is due to be sounded again, and what it answers to a sounding in its TB
window is a new feedback entry in every segment. -/
def Obligations.SpatialEngine : Prop :=
  (∀ (id : Nat) (slow : List Nat) (p : Ppdu) (s : State), Tab.get? s.mac.plan id = some p → p.fetchDone = false →
    p.launch ≤ s.ntNs + 4 * slotNs s.limitMode → s.fetchesFirst p = false →
    ∃ t q, exec (.csiPrefetch id slow) s = .next t ∧ Tab.get? t.mac.plan id = some q ∧ q.fetchDone = true ∧ t.regs = s.regs
      ∧ (∀ sid ∈ q.fetched, sid ∉ slow ∧ Tab.has s.mac.csi (csiKey sid p.radio) = true ∧ sid ∈ (p.users.filter (·.down)).map (·.sid))
      ∧ (∀ k ∈ q.fetchedNulls, 8192 + k ∉ slow ∧ Tab.has s.cst.foreign k = true) ∧ q.users = p.users ∧ t.mac.csi = s.mac.csi)
  ∧ (∀ (id : Nat) (rus : List RuPlan) (p : Ppdu) (s : State), Tab.get? s.mac.plan id = some p → p.precoder = none →
    p.launch ≤ s.ntNs + 2 * slotNs s.limitMode →
    ∃ t q, exec (.precoderCompute id rus) s = .next t ∧ Tab.get? t.mac.plan id = some q ∧ q.precoder.isSome
      ∧ (∀ u ∈ q.users, u.down = true → u.status = 0 → u.sid ∈ p.fetched) ∧ q.users.map (·.sid) = p.users.map (·.sid))
  ∧ (∀ (id : Nat) (rus : List RuPlan) (p : Ppdu) (s : State), Tab.get? s.mac.plan id = some p →
    s.ntNs + 2 * slotNs s.limitMode < p.launch → exec (.precoderCompute id rus) s = .next s)
  ∧ (∀ (r : Nat) (s : State), s.inService (.radio r) = true → (s.radio r).testedAt + ms 10 ≤ s.elapsed → s.chainSet r ≠ [] →
    ∃ t, exec (.explicitTest r) s = .next t ∧ (t.radio r).testedAt = s.elapsed ∧ t.chains = s.chains
      ∧ (t.radio r).explicit = if (s.radio r).explicit then decide (s.validPct r < s.get ⟨bbBase r + 0x10, 30, 24⟩)
          else decide (s.validPct r < s.get ⟨bbBase r + 0x10, 22, 16⟩))
  ∧ (∀ (sid r from_ : Nat) (x : Sta) (s : State), Tab.get? s.mac.stas sid = some x → Tab.get? x.sounding r = some from_ →
    from_ + ms (s.get ⟨bbBase r + 0x10, 15, 8⟩) ≤ s.elapsed →
    ∃ t, exec (.soundPeriodTimer sid r) s = .next t ∧ (Tab.get? t.mac.stas sid).any (fun x => x.soundDue.contains r) = true
      ∧ (Tab.get? t.mac.stas sid).bind (fun x => Tab.get? x.sounding r) = some s.elapsed ∧ t.mac.csi = s.mac.csi ∧ t.regs = s.regs)
  ∧ ∀ (r id sid : Nat) (u : PlanUser) (p : Ppdu) (m : Measured) (s : State), (s.radio r).rx.state = .tb →
    (s.radio r).rx.window = some (.own id) → Tab.get? s.mac.plan id = some p → p.kind = 2 → (s.radio r).rx.windowEnd ≤ s.ntNs →
    s.measurable r true m = true → p.solicited = [u] → u.sid = sid → m.sta = some sid → m.ru = u.ru → m.nss = u.ss → s.ntValid = true →
    Tab.has s.mac.stas sid = true → 0 ≤ m.ltfSnr →
    ∃ t, exec (.tbWindowClose r [m]) s = .next t
      ∧ (Tab.get? t.mac.csi (csiKey sid r)).map (·.fb)
          = some (List.replicate 16 (some (BitVec.ofNat 64 (((s.radio r).rx.te : Int) + m.timing).toNat : NT64).toNat))

/-! ## The scheduled-access MAC (08) -/

/-- The MAC's commands (08 R210, R211, R221, R224, R226, R232 to R234): MAC_TX queues the frame for the station and its access
category with its lifetime; MAC_STA_ADD enters a station under the SID asked for and answers it, MAC_STA_DEL takes it out of
service with its flows, channel state and agreements, and once no frame is left the SID is free; MAC_BA, MAC_TWT and MAC_DET_FLOW set and
delete an agreement, a service period and a flow, and refuse what does not fit or is not there, a flow past the radio's 64 as one that does not
fit (the model's choice, log 170); a command that names a station none of whose MACs has its clock completes GATED (log 158). -/
def Obligations.MacCommands : Prop :=
  (∀ (fn tag r air : Nat) (c : Cmd) (body : List Byte) (x : Sta) (s : State), Offered s fn tag 0x0610 c → c.le 16 2 ≠ 0xFFFF →
    s.mayNameSta fn (c.le 16 2) = true → r < 3 → c.b 19 = 2 ^ r → s.gated (7 + r) = false → s.macTxOk c = true → c.b 20 / 16 = 0 →
    c.le 32 8 = 0 → s.liveSta (c.le 16 2) = some x → (x.linkOn r).isSome → s.unitStatus (.radio r) = none →
    s.inService (.radio r) = true →
    ∃ t f, exec (.macTx fn tag (some body) air) s = .next t ∧ Tab.get? t.mac.frames s.mac.nextFrame = some f
      ∧ f.sid = c.le 16 2 ∧ f.tid = c.b 20 % 16 ∧ f.body = body ∧ f.radios = 2 ^ r ∧ f.cmd = some (fn, tag) ∧ f.launch = 0
      ∧ f.queue = 4 * (c.le 16 2) + aciOf (c.b 20 % 16) ∧ f.attempts = 0 ∧ f.taken = none
      ∧ (c.le 40 4 ≠ 0 → f.life = us (c.le 40 4)) ∧ t.mac.nextFrame = s.mac.nextFrame + 1
      ∧ (∀ k, k ≠ s.mac.nextFrame → Tab.get? t.mac.frames k = Tab.get? s.mac.frames k) ∧ t.regs = s.regs ∧ t.host.cqes = s.host.cqes)
  ∧ (∀ (fn tag air : Nat) (c : Cmd) (body : List Byte) (s : State), Offered s fn tag 0x0610 c → c.le 16 2 ≠ 0xFFFF →
    s.mayNameSta fn (c.le 16 2) = true → s.gated 7 = false → s.gated 8 = false → s.gated 9 = false → s.macTxOk c = true →
    s.liveSta (c.le 16 2) = none → exec (.macTx fn tag (some body) air) s = .next (s.complete fn tag 0x3A))
  ∧ (∀ (tag : Nat) (c : Cmd) (s : State), Offered s 0 tag 0x0620 c → s.staAddOk c = true → s.gated 7 = false → s.gated 8 = false →
    s.gated 9 = false → c.le 16 2 < 8192 → Tab.has s.mac.stas (c.le 16 2) = false → s.mac.stas.length < staLimit s.limitMode →
    s.mac.stas.any (fun e => (e.2.addr :: e.2.links.map (·.addr)).any
      (fun a => a == c.le 20 6 || ((List.range (c.b 18)).map (staLinkOf c)).any (fun l => l.addr == a))) = false →
    ((List.range (c.b 18)).map (staLinkOf c)).any (fun l => decide (s.get ⟨bssCfg l.radio l.bss, 21, 11⟩ < l.aid)
      || s.mac.stas.any (fun e => e.2.links.any (fun m => m.radio == l.radio && m.bss == l.bss && m.aid == l.aid))) = false →
    ∃ t x, exec (.macStaAdd 0 tag) s = .next t ∧ t.sta (c.le 16 2) = some x ∧ x.addr = c.le 20 6
      ∧ x.links = (List.range (c.b 18)).map (staLinkOf c) ∧ x.multi = bitOf (c.b 19) 1 ∧ x.ps = bitOf (c.b 19) 0
      ∧ x.keySlot = (if c.le 26 2 = 0xFFFF then none else some (c.le 26 2)) ∧ x.deleting = false
      ∧ (∀ k, k ≠ c.le 16 2 → t.sta k = s.sta k)
      ∧ ∃ e, Tab.get? t.host.cqes (ringKey 0 0 c.cq * 4096 + (s.ring (ringKey 0 0 c.cq)).tail) = some e ∧ e.status = 0
          ∧ e.result = c.le 16 2)
  ∧ (∀ (fn tag : Nat) (c : Cmd) (x : Sta) (s : State), Offered s fn tag 0x0621 c → s.mayNameSta fn (c.le 16 2) = true →
    s.staGated (c.le 16 2) = false → c.reservedOk [(16, 2)] = true → s.liveSta (c.le 16 2) = some x →
    ∃ t y, exec (.macStaDel fn tag) s = .next t ∧ t.sta (c.le 16 2) = some y ∧ y.deleting = true ∧ y.delCmd = some (fn, tag)
      ∧ y.txBa = [] ∧ y.rxBa = [] ∧ t.mac.flows.any (fun e => e.2.sid == c.le 16 2) = false
      ∧ t.mac.csi.any (fun e => e.1 / 4 == c.le 16 2) = false
      ∧ t.mac.frames.any (fun e => e.2.sid == c.le 16 2 && e.2.taken.isNone) = false)
  ∧ (∀ (fn tag : Nat) (c : Cmd) (x : Sta) (s : State), s.sta (c.le 16 2) = some x → x.links ≠ [] →
    x.links.all (fun l => s.macGated l.radio) = true → s.mayNameSta fn (c.le 16 2) = true →
    (Offered s fn tag 0x0621 c → exec (.macStaDel fn tag) s = .next (s.complete fn tag 0x0D))
    ∧ (Offered s fn tag 0x0622 c → bitOf (c.b 19) 1 = false → exec (.macBaSet fn tag) s = .next (s.complete fn tag 0x0D))
    ∧ (Offered s fn tag 0x0622 c → bitOf (c.b 19) 1 = true → exec (.macBaDelete fn tag) s = .next (s.complete fn tag 0x0D)))
  ∧ (∀ (sid : Nat) (x : Sta) (s : State), s.sta sid = some x → x.deleting = true → s.mac.frames.any (fun e => e.2.sid == sid) = false →
    ∃ t, exec (.staDelDone sid) s = .next t ∧ t.sta sid = none ∧ ∀ k, k ≠ sid → t.sta k = s.sta k)
  ∧ (∀ (sid : Nat) (s : State), s.mac.frames.any (fun e => e.2.sid == sid) = true → exec (.staDelDone sid) s = .next s)
  ∧ (∀ (fn tag : Nat) (c : Cmd) (x : Sta) (s : State), Offered s fn tag 0x0622 c → bitOf (c.b 19) 1 = false →
    s.mayNameSta fn (c.le 16 2) = true → s.staGated (c.le 16 2) = false → c.reservedOk [(16, 8)] = true → c.le 16 2 < 8192 → c.b 18 < 8 → c.b 19 ≤ 1 → 1 ≤ c.le 20 2 →
    c.le 20 2 ≤ 256 → c.le 22 2 < 4096 → s.liveSta (c.le 16 2) = some x →
    exec (.macBaSet fn tag) s = .next ((s.setBa (c.le 16 2) (c.b 18) (c.b 19) (c.le 20 2) (c.le 22 2)).complete fn tag 0)
      ∧ (c.b 19 = 0 → ((s.setBa (c.le 16 2) (c.b 18) (c.b 19) (c.le 20 2) (c.le 22 2)).sta (c.le 16 2)).bind
          (fun y => Tab.get? y.txBa (c.b 18)) = some { size := c.le 20 2, start := c.le 22 2 }))
  ∧ (∀ (fn tag : Nat) (c : Cmd) (x : Sta) (s : State), Offered s fn tag 0x0622 c → bitOf (c.b 19) 1 = true →
    s.mayNameSta fn (c.le 16 2) = true → s.staGated (c.le 16 2) = false → c.reservedOk [(16, 4)] = true → c.le 16 2 < 8192 → c.b 18 < 8 → c.b 19 ≤ 3 →
    s.liveSta (c.le 16 2) = some x →
    exec (.macBaDelete fn tag) s = .next (if (if c.b 19 % 2 = 0 then Tab.has x.txBa (c.b 18) else Tab.has x.rxBa (c.b 18)) = true
      then (s.endAgreement (c.le 16 2) (c.b 18) (c.b 19 % 2) 0).complete fn tag 0 else s.complete fn tag 0x44))
  ∧ (∀ (fn tag : Nat) (c : Cmd) (x : Sta) (s : State), Offered s fn tag 0x0623 c → s.mayNameSta fn (c.le 16 2) = true →
    s.macGated (c.b 18) = false → c.reservedOk [(16, 10)] = true → c.le 16 2 < 8192 → c.b 18 < 3 → c.b 19 < 8 →
    1024 ≤ c.le 20 4 → c.le 20 4 ≤ 13107200 → 256 ≤ c.le 24 2 → s.unitStatus (.radio (c.b 18)) = none → s.liveSta (c.le 16 2) = some x → (x.linkOn (c.b 18)).isSome →
    (s.twtPlace (c.b 18) (s.highClass ((s.staTenant (c.le 16 2)).getD 0)) (c.le 20 4 * 1000) = none →
      exec (.macTwtSetup fn tag) s = .next (s.complete fn tag 0x42))
    ∧ ∀ b g, s.twtPlace (c.b 18) (s.highClass ((s.staTenant (c.le 16 2)).getD 0)) (c.le 20 4 * 1000) = some (b, g) →
      ∃ t w, exec (.macTwtSetup fn tag) s = .next t
        ∧ (t.sta (c.le 16 2)).bind (fun y => Tab.get? y.twt (c.b 18 * 8 + c.b 19)) = some w ∧ w.want = c.le 20 4 ∧ w.interval = b
        ∧ w.interval ≤ c.le 20 4 * 1000 ∧ w.target = s.nextBoundary + g.start * slotNs s.limitMode)
  ∧ (∀ (fn tag : Nat) (c : Cmd) (x : Sta) (s : State), Offered s fn tag 0x0623 c → bitOf (c.b 19) 7 = true →
    s.mayNameSta fn (c.le 16 2) = true → s.macGated (c.b 18) = false → c.reservedOk [(16, 10)] = true → c.le 16 2 < 8192 → c.b 18 < 3 →
    c.b 19 % 128 < 8 → s.unitStatus (.radio (c.b 18)) = none → s.liveSta (c.le 16 2) = some x →
    exec (.macTwtDelete fn tag) s = .next (if Tab.has x.twt (c.b 18 * 8 + c.b 19 % 8) = true
      then (s.modSta (c.le 16 2) fun x => { x with twt := Tab.del x.twt (c.b 18 * 8 + c.b 19 % 8) }).complete fn tag 0
      else s.complete fn tag 0x02))
  ∧ (∀ (fn tag i : Nat) (c : Cmd) (x : Sta) (f : DetFlow) (s : State), Offered s fn tag 0x0624 c → s.mayNameSta fn (c.le 16 2) = true →
    s.macGated (c.b 20) = false → f = ⟨c.le 16 2, c.b 18, c.b 19 == 0, c.le 22 2, c.le 24 2⟩ → c.reservedOk [(16, 5), (22, 4)] = true →
    c.le 16 2 < 8192 → c.b 18 < 8 → c.b 19 ≤ 1 → c.b 20 < 3 → 1 ≤ f.period → f.period ≤ 6400 → f.phase < f.period →
    f.whole (slotsOf s.grid.sfLen s.limitMode) (slotNs s.limitMode / 32000) = true → s.unitStatus (.radio (c.b 20)) = none →
    s.liveSta (c.le 16 2) = some x →
    (x.linkOn (c.b 20)).isSome → s.flowKeyOf (c.b 20) (c.le 16 2) (c.b 18) (c.b 19 == 0) = none →
    (List.range 64).find? (fun i => !((s.flowsOf (c.b 20)).any (fun e => e.1 == i))) = some i →
    exec (.macDetFlow fn tag) s = .next
      (if (({ s with mac := { s.mac with flows := Tab.put s.mac.flows (c.b 20 * 64 + i) f } }).detFit (c.b 20) (s.grid.mode == 7)
          s.limitMode s.grid.sfLen (({ s with mac := { s.mac with flows := Tab.put s.mac.flows (c.b 20 * 64 + i) f } }).flowsOf (c.b 20))).isSome
        then ({ s with mac := { s.mac with flows := Tab.put s.mac.flows (c.b 20 * 64 + i) f } }).complete fn tag 0
        else s.complete fn tag 0x41))
  ∧ (∀ (fn tag : Nat) (c : Cmd) (x : Sta) (s : State), Offered s fn tag 0x0624 c → s.mayNameSta fn (c.le 16 2) = true →
    s.macGated (c.b 20) = false → c.reservedOk [(16, 5), (22, 4)] = true →
    c.le 16 2 < 8192 → c.b 18 < 8 → c.b 19 ≤ 1 → c.b 20 < 3 → 1 ≤ c.le 22 2 → c.le 22 2 ≤ 6400 → c.le 24 2 < c.le 22 2 →
    DetFlow.whole ⟨c.le 16 2, c.b 18, c.b 19 == 0, c.le 22 2, c.le 24 2⟩ (slotsOf s.grid.sfLen s.limitMode) (slotNs s.limitMode / 32000) = true →
    s.unitStatus (.radio (c.b 20)) = none → s.liveSta (c.le 16 2) = some x → (x.linkOn (c.b 20)).isSome →
    s.flowKeyOf (c.b 20) (c.le 16 2) (c.b 18) (c.b 19 == 0) = none →
    (List.range 64).all (fun i => (s.flowsOf (c.b 20)).any (fun e => e.1 == i)) = true →
    exec (.macDetFlow fn tag) s = .next (s.complete fn tag 0x41))
  ∧ ∀ (fn tag : Nat) (c : Cmd) (x : Sta) (s : State), Offered s fn tag 0x0624 c → bitOf (c.b 19) 7 = true →
    s.mayNameSta fn (c.le 16 2) = true → s.macGated (c.b 20) = false → c.reservedOk [(16, 5), (22, 4)] = true → c.le 16 2 < 8192 →
    c.b 18 < 8 → c.b 19 % 128 ≤ 1 → c.b 20 < 3 → s.unitStatus (.radio (c.b 20)) = none → s.liveSta (c.le 16 2) = some x →
    (x.linkOn (c.b 20)).isSome →
    exec (.macDetFlowDelete fn tag) s = .next (match s.flowKeyOf (c.b 20) (c.le 16 2) (c.b 18) (c.b 19 % 2 == 0) with
      | none => s.complete fn tag 0x44
      | some k => ({ s with mac := { s.mac with flows := Tab.del s.mac.flows k } }).complete fn tag 0)

/-- Transmission (08 R213, R216 to R218, R225, R227): the plan of the next superframe freezes once at S − PLAN_LEAD; the content
cut-off takes a frame 10 µs ahead and draws its SN; a beacon that would overrun its slots is not sent; an outcome ends the
acknowledged frames, an A-MSDU's with the one that opened it, returns untouched those of a launch not made, and forgets the launch; a
frame past its lifetime ends, with the frames of its A-MSDU (log 151). -/
def Obligations.MacTransmission : Prop :=
  (∀ (r : Nat) (s : State), r < 3 → s.ntValid = true → s.inService (.radio r) = true → s.grid.mode < 5 → s.commitPending = false →
    Tab.get? s.mac.frozen r ≠ some s.nextBoundary → s.nextBoundary ≤ s.ntNs + s.planLead r false →
    ∃ t, exec (.planFreeze r) s = .next t ∧ Tab.get? t.mac.frozen r = some s.nextBoundary ∧ t.mac.frames = s.mac.frames
      ∧ t.mac.dual = s.mac.dual ∧ t.mac.nextPpdu = s.mac.nextPpdu + (s.planRadio r s.nextBoundary false s.grid.mode s.grid.sfLen).1.length
      ∧ t.host.evs = s.host.evs)
  ∧ (∀ (r : Nat) (s : State), Tab.get? s.mac.frozen r = some s.nextBoundary → exec (.planFreeze r) s = .next s)
  ∧ (∀ (r fn tag id x : Nat) (f : Frame) (sta : Sta) (room : List Nat) (s : State), s.inService (.radio r) = true → s.ntValid = true →
    s.mac.frames.find? (fun e => e.2.cmd == some (fn, tag)) = some (id, f) → Tab.get? s.mac.frames id = some f → f.launch ≠ 0 →
    f.taken = none → bitOf f.radios r = true → f.launch ≤ s.ntNs + 10000 → s.expired f = false → f.dram = 0 → f.kind = 1 → bitOf f.flags 2 = true →
    f.sn = none → f.sid ≠ 0xFFFF → s.sta f.sid = some sta →
    ∃ t g, exec (.contentCutOff r (.single fn tag) x room) s = .next t ∧ Tab.get? t.mac.frames id = some g
      ∧ g.taken = some (r, .single fn tag) ∧ g.sn = some (Tab.getD sta.sn f.tid 0 % 4096) ∧ g.body = f.body ∧ g.pn = f.pn
      ∧ ∀ k, k ≠ id → Tab.get? t.mac.frames k = Tab.get? s.mac.frames k)
  ∧ (∀ (r bss air b : Nat) (s : State), s.inService (.radio r) = true → s.ntValid = true → s.grid.start = some b → s.grid.mode < 5 →
    s.bssOn r bss = true → Tab.getD s.mac.beacons r 0 = bss → s.beaconAt r ≤ s.ntNs → s.airClosed = false →
    s.beaconAt r + air ≤ b + (s.beaconSlots r false).2 * slotNs s.grid.mode → s.launchSet r ≠ [] → s.radioEclipsing r = false →
    s.chainsLocked r (s.launchSet r) = true →
    (s.radio r).launches.any (fun l => l.of_ == .beacon bss) = false →
    ∃ t, exec (.beaconLaunch r bss air) s = .next t
      ∧ Tab.get? t.mac.beaconAir r = some (Tab.getD s.mac.beaconAir r [] ++ [(s.beaconAt r, s.beaconAt r + air)])
      ∧ Tab.get? t.mac.beacons r = some (bss + 1)
      ∧ t.boot.firstBeacon = (if s.boot.state = .run ∧ s.boot.firstBeacon = none then some (BitVec.ofNat 64 (s.beaconAt r)) else s.boot.firstBeacon))
  ∧ (∀ (r bss air b : Nat) (s : State), s.inService (.radio r) = true → s.ntValid = true → s.grid.start = some b → s.grid.mode < 5 →
    s.bssOn r bss = true → Tab.getD s.mac.beacons r 0 = bss → s.beaconAt r ≤ s.ntNs → s.airClosed = false →
    b + (s.beaconSlots r false).2 * slotNs s.grid.mode < s.beaconAt r + air →
    (s.radio r).launches.any (fun l => l.of_ == .beacon bss) = false →
    exec (.beaconLaunch r bss air) s = .next
      (({ s with mac := { s.mac with beacons := Tab.put s.mac.beacons r (bss + 1) } }).postEvent 0x6005 (items [r, bss])))
  ∧ (∀ (r : Nat) (of_ : LaunchOf) (acked : List Nat) (l : Launch) (s : State),
    (s.radio r).launches.find? (fun l => l.of_ == of_ && l.outcome.isSome) = some l → l.outcome = some 0 →
    ∃ t, exec (.launchOutcome r of_ acked) s = .next t ∧ (t.radio r).launches.all (fun m => m.of_ != of_) = true
      ∧ ∀ id f, id ∈ s.takenBy r of_ → Tab.get? s.mac.frames id = some f → f.joined.getD id ∈ acked → Tab.get? t.mac.frames id = none)
  ∧ (∀ (r : Nat) (of_ : LaunchOf) (acked : List Nat) (l : Launch) (s : State),
    (s.radio r).launches.find? (fun l => l.of_ == of_ && l.outcome.isSome) = some l → l.outcome = some 0x28 →
    ∃ t, exec (.launchOutcome r of_ acked) s = .next t ∧ (t.radio r).launches.all (fun m => m.of_ != of_) = true
      ∧ ∀ id f, id ∈ s.takenBy r of_ → Tab.get? s.mac.frames id = some f → f.launch = 0 →
          (s.sta f.sid).any (fun x => x.deleting) = false →
          Tab.get? t.mac.frames id = some { f with taken := none })
  ∧ (∀ (r : Nat) (of_ : LaunchOf) (acked : List Nat) (s : State),
    (s.radio r).launches.find? (fun l => l.of_ == of_ && l.outcome.isSome) = none → exec (.launchOutcome r of_ acked) s = .next s)
  ∧ ∀ (id : Nat) (f : Frame) (s : State), Tab.get? s.mac.frames id = some f → f.taken = none → s.leadOf f = none →
    s.expired f = true →
    ∃ t, exec (.frameLifetimeExpiry id) s = .next t ∧ Tab.get? t.mac.frames id = none
      ∧ (∀ k ∈ s.joinedTo id, Tab.get? t.mac.frames k = none)
      ∧ ∀ k, k ≠ id → k ∉ s.joinedTo id → Tab.get? t.mac.frames k = Tab.get? s.mac.frames k

/-- Reception (07 R191, R194, 08 R226, R228, R229, R231, R238): an MPDU of which the last reception delivered nothing does nothing; one
of no type that IEEE 802.11 has is counted as rejected (01 R39); one too short, too long or without a correct FCS goes no further, and a protected one waits while the cipher engine is full; a first one without
an agreement is taken and its (SN, fragment) remembered, a retry of it counted as a duplicate; a hole that stood for
REORDER_TIMEOUT is released past; an ADDBA request is granted within the station's limit, and one that names no TID counted; an agreement that times out ends
with event 0x6004. -/
def Obligations.MacReception : Prop :=
  (∀ (m : RxMpdu) (s : State), s.inService (.radio m.radio) = true →
    s.delivers m = true →
    (m.len < (if m.type = 1 then 14 else headerLen m + 4) → exec (.rxMpdu m) s = .next (s.inc (macCnt m.radio 3 false)))
    ∧ ((if m.type = 1 then 14 else headerLen m + 4) ≤ m.len → 11454 < m.len → exec (.rxMpdu m) s = .next (s.inc (macCnt m.radio 3 true)))
    ∧ ((if m.type = 1 then 14 else headerLen m + 4) ≤ m.len → m.len ≤ 11454 → m.fcsOk = false → exec (.rxMpdu m) s = .next s)
    ∧ (headerLen m + 4 ≤ m.len → m.len ≤ 11454 → m.fcsOk = true → 3 ≤ m.type → m.sec = none → exec (.rxMpdu m) s = .next (s.countReject 6))
    ∧ (headerLen m + 4 ≤ m.len → m.len ≤ 11454 → m.fcsOk = true → m.sec.isSome = true → s.inService .cipher = true → s.cphRoom = false → m.type ≠ 1 →
      exec (.rxMpdu m) s = .next s))
  ∧ (∀ (m : RxMpdu) (s : State), s.delivers m = false →
    exec (.rxMpdu m) s = .next s)
  ∧ (∀ (m : RxMpdu) (sid : Nat) (x : Sta) (s : State), s.inService (.radio m.radio) = true → headerLen m + 4 ≤ m.len → m.len ≤ 11454 →
    m.fcsOk = true → m.type = 2 → m.tid < 8 → m.sec = none →
    s.mac.stas.find? (fun e => e.2.links.any (fun l => l.radio == m.radio && l.addr == m.ta)) = some (sid, x) → s.sta sid = some x →
    s.delivers m = true →
    Tab.get? x.rxBa m.tid = none →
    (m.retry = false ∨ Tab.get? x.lastRx m.tid ≠ some (m.sn, m.frag) →
      ∃ t y, exec (.rxMpdu m) s = .next t ∧ t.sta sid = some y ∧ Tab.get? y.lastRx m.tid = some (m.sn, m.frag) ∧ y.ps = m.pm
        ∧ y.traffic = 5 ∧ t.mac.frames = s.mac.frames)
    ∧ (m.retry = true → Tab.get? x.lastRx m.tid = some (m.sn, m.frag) →
      ∃ t y, exec (.rxMpdu m) s = .next t ∧ t.sta sid = some y ∧ y.lastRx = x.lastRx ∧ t.fifos = s.fifos ∧ t.host = s.host
        ∧ ∀ a, a ≠ (macCnt m.radio 2 false).a → t.reg a = s.reg a))
  ∧ (∀ (sid tid from_ k : Nat) (x : Sta) (a : RxBa) (s : State), s.sta sid = some x → Tab.get? x.rxBa tid = some a →
    Tab.get? a.holes a.start = some from_ → from_ + ms (s.get ⟨macBase x.firstRadio + 0x14, 9, 0⟩) ≤ s.elapsed →
    (snRange a.start a.size).find? (fun k => Tab.has a.held k) = some k →
    ∃ u, u = ((s.moveWindow sid tid k).releaseInOrder sid tid).inc (macCnt x.firstRadio 4 false)
      ∧ exec (.reorderTimeout sid tid) s = .next
        { u with mac := { u.mac with reorders := Tab.put u.mac.reorders x.firstRadio (Tab.getD u.mac.reorders x.firstRadio 0 + 1) } })
  ∧ (∀ (sid tid size sn : Nat) (x : Sta) (s : State), s.liveSta sid = some x → tid < 8 →
    ∃ t, exec (.addbaRequestRx sid tid size sn) s = .next t ∧ (t.sta sid).bind (fun y => Tab.get? y.rxBa tid)
        = some { size := if size = 0 then (if x.eht then 1024 else 256) else Nat.min size (if x.eht then 1024 else 256), start := sn % 4096 })
  ∧ (∀ (sid tid size sn : Nat) (x : Sta) (s : State), s.liveSta sid = some x → 7 < tid →
    exec (.addbaRequestRx sid tid size sn) s = .next (s.countReject 6))
  ∧ (∀ (sid tid dir : Nat) (x : Sta) (s : State), s.sta sid = some x → dir ≤ 1 →
    (if dir = 1 then Tab.has x.rxBa tid else Tab.has x.txBa tid) = true →
    exec (.agreementTimeout sid tid dir) s = .next (s.endAgreement sid tid dir 1))
  ∧ ∀ (sid tid : Nat) (x : Sta) (s : State), s.sta sid = some x → Tab.has x.rxBa tid = false →
    exec (.agreementTimeout sid tid 1) s = .next s

/-! ## The constellation (09 R240 to R264) -/

/-- The constellation (09 R245, R248, R252 to R254, R258, R264): HELLO_PERIOD opens JOINING with a HELLO in wired queue 7, by the route to the member's address, and drops it where there is none; a HELLO or
HELLO_ACK that fails a check is rejected with its status and opens nothing, one that passes brings the session up with its SEQ;
100 ms without an acknowledgement it is IDLE and the time-out is counted (log 78); at S − 2 ms every ACTIVE member is sent its digest where queue 7 takes it, with
a SEQ later than every one of its session; a part that verifies is held for S;
at S − ACCEPT_MARGIN each member gets its status and MISS_LIMIT misses end its session; an authenticated LEAVE and the host's end
sessions; REJOIN clears LEFT where participation is allowed; an entry aged FOREIGN_AGE is freed. -/
def Obligations.Constellation : Prop :=
  (∀ (m : Nat) (s : State), s.memberIds.contains m = true → (s.member m).session = .idle → s.cstMayJoin = true → s.cst.left = false →
    (s.member m).tried + ms (fieldLE s.cstRec 11 1 * 100) ≤ s.elapsed →
    ∃ t, exec (.helloPeriodTimer m) s = .next t ∧ (t.member m).session = .joining ∧ (t.member m).tried = s.elapsed
      ∧ (t.member m).nonce.length = 32 ∧ (∀ k, k ≠ m → t.member k = s.member k)
      ∧ (s.cstRoute m = none → t.wired = s.wired ∧ ∀ a, a ≠ (pktCnt 1 true).a → t.reg a = s.reg a)
      ∧ ∀ h, s.cstRoute m = some h → TakesWired s s.cstSub 7 (h.da.length + h.sa.length + 290) →
          (∃ f, Tab.getD t.wired (s.cstSub * 8 + 7) [] = Tab.getD s.wired (s.cstSub * 8 + 7) [] ++ [f] ∧ f.cst = some (m, none))
          ∧ ∀ a, a ≠ 0x2400830 → a ≠ 0x2400834 → t.reg a = s.reg a)
  ∧ (∀ (m : Nat) (s : State), (s.member m).session ≠ .idle ∨ s.cst.left = true ∨ s.cstMayJoin = false →
    exec (.helloPeriodTimer m) s = .next s)
  ∧ (∀ (b : List Byte) (s : State), ∃ t, exec (.helloRx b) s = .next t ∧ (∀ k, k ≠ fieldLE b 6 1 → t.member k = s.member k)
      ∧ match s.helloCheck 1 b with
        | some st => t.cst.lastReject = st ∧ t.member (fieldLE b 6 1) = (s.cstHeard b).member (fieldLE b 6 1) ∧ t.wired = s.wired
        | none => if (s.member (fieldLE b 6 1)).session = .joining ∧ s.cstOwn < fieldLE b 6 1
            then t = (s.cstHeard b).modMember (fieldLE b 6 1) (fun x => { x with lastSeq := some (fieldLE b 0x10 8) })
            else (t.member (fieldLE b 6 1)).session = .active ∧ (t.member (fieldLE b 6 1)).lastSeq = some (fieldLE b 0x10 8)
              ∧ (s.cstRoute (fieldLE b 6 1) = none → t.wired = s.wired)
              ∧ ∀ h, s.cstRoute (fieldLE b 6 1) = some h → TakesWired s s.cstSub 7 (h.da.length + h.sa.length + 290) →
                  ∃ f, Tab.getD t.wired (s.cstSub * 8 + 7) [] = Tab.getD s.wired (s.cstSub * 8 + 7) [] ++ [f] ∧ f.cst = some (fieldLE b 6 1, none))
  ∧ (∀ (b : List Byte) (s : State), ∃ t, exec (.helloAckRx b) s = .next t ∧ (∀ k, k ≠ fieldLE b 6 1 → t.member k = s.member k)
      ∧ t.wired = s.wired ∧ match s.helloCheck 2 b with
        | some st => t.cst.lastReject = st ∧ t.member (fieldLE b 6 1) = (s.cstHeard b).member (fieldLE b 6 1)
        | none => (t.member (fieldLE b 6 1)).session = .active ∧ (t.member (fieldLE b 6 1)).lastSeq = some (fieldLE b 0x10 8)
            ∧ (t.member (fieldLE b 6 1)).eph = [] ∧ (t.member (fieldLE b 6 1)).keyTx
              = cstKey (x25519 (s.member (fieldLE b 6 1)).eph (slice b 0x38 32)) (s.member (fieldLE b 6 1)).nonce (slice b 0x18 32) s.cstOwn (fieldLE b 6 1))
  ∧ (∀ (m : Nat) (s : State), (s.member m).session = .joining → (s.member m).tried + ms 100 ≤ s.elapsed →
    ∃ t, exec (.joinTimeout m) s = .next t ∧ t.member m = { s.member m with session := .idle, eph := [], nonce := [] }
      ∧ t.cst.joinTimeouts = s.cst.joinTimeouts + 1 ∧ (∀ k, k ≠ m → t.member k = s.member k) ∧ t.regs = s.regs ∧ t.wired = s.wired)
  ∧ (∀ (m : Nat) (s : State), (s.member m).session ≠ .joining ∨ s.elapsed < (s.member m).tried + ms 100 →
    exec (.joinTimeout m) s = .next s)
  ∧ (∀ s : State, s.ntValid = true → s.cst.sentFor ≠ s.nextBoundary → s.nextBoundary ≤ s.ntNs + 2000000 →
    s.cstActive ≠ [] → s.stepArmedFor s.nextBoundary = false →
    ∃ t fs, exec .digestSend s = .next t ∧ t.cst.sentFor = s.nextBoundary
      ∧ Tab.getD t.wired (s.cstSub * 8 + 7) [] = Tab.getD s.wired (s.cstSub * 8 + 7) [] ++ fs
      ∧ (∀ m ∈ s.cstActive, (s.member m).newSeq s.nextBoundary = true → t.member m = { s.member m with sentSeq := some (s.nextBoundary % 2 ^ 64) })
      ∧ ((∀ m ∈ s.cstActive, ∃ h, s.cstRoute m = some h ∧ h.da.length = 6 ∧ h.sa.length = 6) →
          TakesWired s s.cstSub 7 (s.cstActive.length * (16 * 160 + ((s.digestEntries s.nextBoundary
            (s.commit.state == .committed && s.commit.target == s.nextBoundary)).map (fun e => e.2.2.length + 8)).sum)) →
          ∀ m ∈ s.cstActive, (s.member m).newSeq s.nextBoundary = true → ∃ f ∈ fs, f.cst = some (m, some s.nextBoundary))
      ∧ (∀ f ∈ fs, ∃ m ∈ s.cstActive, (s.member m).newSeq s.nextBoundary = true ∧ (f.cst = some (m, some s.nextBoundary) ∨ f.cst = some (m, none)))
      ∧ (∀ k, k ≠ s.cstSub * 8 + 7 → Tab.get? t.wired k = Tab.get? s.wired k)
      ∧ ∀ m, m ∉ s.cstActive ∨ (s.member m).newSeq s.nextBoundary = false → t.member m = s.member m)
  ∧ (∀ s : State, s.ntValid = false ∨ s.cst.sentFor = s.nextBoundary ∨ s.ntNs + 2000000 < s.nextBoundary → exec .digestSend s = .next s)
  ∧ (∀ (b : List Byte) (p : Bool) (s : State), s.headerOk b = false →
    ∃ t, exec (.digestPartRx ⟨b, p⟩) s = .next t ∧ t.cst.lastReject = 0x4D ∧ (∀ m, (t.member m).parts = (s.member m).parts)
      ∧ ∀ m, m ≠ fieldLE b 6 1 → t.member m = s.member m)
  ∧ (∀ (b tag : List Byte) (es : List (DigestEntry × Bool)) (p : Bool) (s : State), s.headerOk (b ++ tag) = true → fieldLE (b ++ tag) 5 1 = 3 →
    32 ≤ b.length → fieldLE (b ++ tag) 0xE 1 ≠ 0 → parseBlocks (fieldLE (b ++ tag) 0x18 1) (slice (b ++ tag) 0x20 (b.length - 0x20)) = some es →
    (s.member (fieldLE (b ++ tag) 6 1)).session = .active → gmacTag (s.member (fieldLE (b ++ tag) 6 1)).keyRx b = tag → tag.length = 16 →
    s.fullTime (fieldLE (b ++ tag) 0x10 8) = s.nextBoundary → s.isGrid s.sfNs s.nextBoundary = true → s.ntNs + s.acceptMargin < s.nextBoundary →
    s.nextBoundary ≤ s.ntNs + 3000000 → es.all (·.2) = true → s.commit.state ≠ .committed →
    es.all (fun e => decide (e.1.start + e.1.dur ≤ sfLenNs s.grid.sfLen)) = true → fieldLE (b ++ tag) 0x18 1 ≤ 3 →
    allZero (slice (b ++ tag) 0x19 7) = true → (s.member (fieldLE (b ++ tag) 6 1)).partsFor ≠ s.nextBoundary →
    ∃ t, exec (.digestPartRx ⟨b ++ tag, p⟩) s = .next t ∧ (t.member (fieldLE (b ++ tag) 6 1)).partsFor = s.nextBoundary
      ∧ Tab.get? (t.member (fieldLE (b ++ tag) 6 1)).parts (fieldLE (b ++ tag) 0xE 1) = some (es.map (·.1))
      ∧ (t.member (fieldLE (b ++ tag) 6 1)).partCount = fieldLE (b ++ tag) 0xF 1 ∧ t.regs = s.regs
      ∧ ∀ m, m ≠ fieldLE (b ++ tag) 6 1 → t.member m = s.member m)
  ∧ (∀ (b tag : List Byte) (s : State), s.headerOk (b ++ tag) = true → fieldLE (b ++ tag) 5 1 = 4 → b.length = 32 → tag.length = 16 →
    fieldLE (b ++ tag) 0x18 1 ≤ 3 → fieldLE (b ++ tag) 0x19 7 = 0 → (s.member (fieldLE (b ++ tag) 6 1)).session = .active →
    gmacTag (s.member (fieldLE (b ++ tag) 6 1)).keyRx b = tag → s.seqOk (fieldLE (b ++ tag) 6 1) (fieldLE (b ++ tag) 0x10 8) = true →
    ∃ t, exec (.leaveRx (b ++ tag)) s = .next t ∧ (t.member (fieldLE (b ++ tag) 6 1)).session = .idle
      ∧ (t.member (fieldLE (b ++ tag) 6 1)).keyRx = [] ∧ (t.member (fieldLE (b ++ tag) 6 1)).lastSeq = some (fieldLE (b ++ tag) 0x10 8)
      ∧ (∀ k, k / 2 ^ 15 = fieldLE (b ++ tag) 6 1 → Tab.get? t.cst.foreign k = none)
      ∧ ∀ m, m ≠ fieldLE (b ++ tag) 6 1 → t.member m = s.member m)
  ∧ (∀ (m : Nat) (s : State), s.ntValid = true → s.cst.decidedFor ≠ s.nextBoundary → s.nextBoundary ≤ s.ntNs + s.acceptMargin →
    s.cstRec ≠ [] → s.memberIds.Nodup → m ∈ s.cstActive →
    ∃ t, exec .memberStatusDecide s = .next t ∧ t.cst.decidedFor = s.nextBoundary
      ∧ (∀ k, k ∉ s.cstActive → t.member k = s.member k)
      ∧ ((s.member m).decide_ s.nextBoundary = 0 → (t.member m).status = 0 ∧ (t.member m).misses = 0 ∧ (t.member m).session = .active
          ∧ (t.member m).next = (s.member m).parts.flatMap (·.2))
      ∧ ((s.member m).decide_ s.nextBoundary ∈ [1, 2, 3] → (t.member m).misses = Nat.min 255 ((s.member m).misses + 1)
          ∧ ((t.member m).session = .idle ↔ fieldLE s.cstRec 10 1 ≤ Nat.min 255 ((s.member m).misses + 1))))
  ∧ (∀ (r : Requester) (s : State), Mapped s r → Clocked s 0x30101C →
    ∃ t, exec (.cstLeaveWrite r) s = .next t ∧ t.answer = some .done ∧ t.cst.left = true ∧ t.cst.result = 0 ∧ t.cst.foreign = []
      ∧ ∀ m, s.memberIds.contains m = true → (t.member m).session = .idle)
  ∧ (∀ (r : Requester) (s : State), Mapped s r → Clocked s 0x30101C →
    exec (.cstRejoinWrite r) s = answered { s with cst := if s.cstMayJoin = true then { s.cst with left := false, result := 0 } else { s.cst with result := 0x48 } })
  ∧ (∀ (m sid r : Nat) (e : ForeignEntry) (s : State), Tab.get? s.cst.foreign (foreignKey m sid r) = some e →
    e.updated + ms (fieldLE s.cstRec 18 2) ≤ s.elapsed →
    ∃ t, exec (.foreignEntryAge m sid r) s = .next t ∧ Tab.get? t.cst.foreign (foreignKey m sid r) = none
      ∧ (∀ k, k ≠ foreignKey m sid r → Tab.get? t.cst.foreign k = Tab.get? s.cst.foreign k) ∧ t.cst.members = s.cst.members ∧ t.regs = s.regs)
  ∧ ∀ s : State, s.cstRec ≠ [] → s.time.state = .holdover → s.time.holdFrom + fieldLE s.cstRec 12 2 * 1000000000 ≤ s.ntNs →
    (s.cst.keepFor = some s.time.holdFrom → exec .holdoverKeepExpiry s = .next s)
    ∧ (s.cst.keepFor ≠ some s.time.holdFrom → ∃ t, exec .holdoverKeepExpiry s = .next t ∧ t.cst.foreign = [] ∧ t.cst.keepFor = some s.time.holdFrom
      ∧ ∀ m, s.memberIds.contains m = true → (t.member m).session = .idle)

/-! ## The mesh island (10 R265 to R295) -/

/-- The island's receiver (10 R274, R276 to R279, R284, R288): each state is left by the signal the rule names and by no other, a preamble that began before the return to SEARCH is taken only where 24 bit periods of it were left; an
ended frame returns it to SEARCH, and one that passes every check enters the replay cache with its expiry, unless it is a
duplicate, the cache is full or the MIC is wrong; entries and routers age out; a wake-up signal opens the main receivers for
WU_LISTEN. -/
def Obligations.MeshReception : Prop :=
  (∀ (d : MeshDetect) (s : State), exec (.meshPreambleDetect d) s = .next
    (if s.mesh.rx = .search ∧ s.meshHears = true ∧ s.nwDb 17 ≤ d.level ∧ (d.since ≤ (s.elapsed - s.mesh.searchFrom) * 5 / 3
        ∨ 24 ≤ d.left + (s.elapsed - s.mesh.searchFrom) * 5 / 3 * s.nwRate / 1000000)
      then { s with mesh := { s.mesh with rx := .preamble, rxLevel := d.level, rxFrom := s.elapsed } } else s))
  ∧ (∀ (r0 r1 : Int) (s : State), exec (.meshSfdFound r0 r1) s = .next (if s.mesh.rx = .preamble
      then { s with mesh := { s.mesh with rx := .header, rssi := max r0 r1, sfd := s.mtNs } } else s))
  ∧ (∀ s : State, s.mesh.rx = .preamble → s.mesh.rxFrom + s.sfdWait ≤ s.elapsed →
    ∃ t, exec .meshSfdWaitExpiry s = .next t ∧ t.mesh = { s.mesh with rx := .search, searchFrom := s.elapsed }
      ∧ (s.get (nwCnt 0 false) < 65535 → t.get (nwCnt 0 false) = s.get (nwCnt 0 false) + 1) ∧ ∀ a, a ≠ (nwCnt 0 false).a → t.reg a = s.reg a)
  ∧ (∀ s : State, s.mesh.rx ≠ .preamble ∨ s.elapsed < s.mesh.rxFrom + s.sfdWait → exec .meshSfdWaitExpiry s = .next s)
  ∧ (∀ (level : Int) (s : State), s.mesh.rx = .preamble → s.mesh.rxLevel + s.nwDb 18 ≤ level →
    ∃ t, exec (.meshRxRestart level) s = .next t ∧ t.mesh = { s.mesh with rxLevel := level, rxFrom := s.elapsed }
      ∧ (s.get (nwCnt 5 false) < 65535 → t.get (nwCnt 5 false) = s.get (nwCnt 5 false) + 1))
  ∧ (∀ (level : Int) (s : State), s.mesh.rx = .payload → bitOf (fieldLE s.nwRec 20 1) 0 = true → s.mesh.rxLevel + s.nwDb 19 ≤ level →
    ∃ t, exec (.meshRxCapture level) s = .next t ∧ t.mesh = { s.mesh with rx := .preamble, rxLevel := level, rxFrom := s.elapsed }
      ∧ (s.get (nwCnt 5 true) < 65535 → t.get (nwCnt 5 true) = s.get (nwCnt 5 true) + 1))
  ∧ (∀ (level : Int) (s : State), s.mesh.rx ≠ .preamble ∨ level < s.mesh.rxLevel + s.nwDb 18 → exec (.meshRxRestart level) s = .next s)
  ∧ (∀ (level : Int) (s : State), s.mesh.rx ≠ .payload ∨ level < s.mesh.rxLevel + s.nwDb 19 → exec (.meshRxCapture level) s = .next s)
  ∧ (∀ (len : Nat) (s : State), s.mesh.rx = .header → 38 + s.fcsBytes ≤ len →
    exec (.meshPhrDone len true) s = .next { s with mesh := { s.mesh with rx := .payload } })
  ∧ (∀ (len : Nat) (ok : Bool) (s : State), s.mesh.rx = .header → ok = false ∨ len < 38 + s.fcsBytes →
    ∃ t, exec (.meshPhrDone len ok) s = .next t ∧ t.mesh = { s.mesh with rx := .search, searchFrom := s.elapsed }
      ∧ (s.get (nwCnt 0 false) < 65535 → t.get (nwCnt 0 false) = s.get (nwCnt 0 false) + 1)
      ∧ (s.get (nwCnt 0 true) < 65535 → t.get (nwCnt 0 true) = s.get (nwCnt 0 true) + b2n (decide (len < 38 + s.fcsBytes))))
  ∧ (∀ (b : List Byte) (s : State), s.mesh.rx = .payload →
    exec (.meshFrameEnd b false) s = .next { s with mesh := { s.mesh with rx := .search, searchFrom := s.elapsed } })
  ∧ (∀ (b : List Byte) (named : Nat) (s : State), s.mesh.rx = .payload → meshHdr b + 8 ≤ b.length → fieldLE b 0 1 < 64 →
    fieldLE b 0 1 % 8 ≤ 3 → fieldLE b 28 1 < 16 → fieldLE b 1 1 % 16 + fieldLE b 1 1 / 16 ≤ 15 →
    fieldLE b 10 8 = s.coordinator ∨ fieldLE b 10 8 = 2 ^ 64 - 1 → s.time.mtState ≠ .notStarted →
    (named : Int) = (s.mtMs : Int) + signed 32 ((fieldLE b 18 4 + 2 ^ 32 - s.mtMs % 2 ^ 32) % 2 ^ 32) →
    named < s.mtMs + 2000 → s.mtMs ≤ named + 2000 → s.mesh.floor ≤ named →
    Tab.has s.mesh.keys (fieldLE b 28 1 % 8) = true →
    ∃ t, exec (.meshFrameEnd b true) s = .next t ∧ t.mesh.rx = .search ∧ t.mesh.keys = s.mesh.keys ∧ t.mesh.floor = s.mesh.floor
      ∧ t.mesh.replay = (match s.meshOpen b with
        | none => s.mesh.replay
        | some _ =>
          if s.mesh.replay.any (fun e => e.src == fieldLE b 2 8 && e.fc == fieldLE b 24 4) = true ∨ 16384 ≤ s.mesh.replay.length
            then s.mesh.replay else s.mesh.replay ++ [⟨fieldLE b 2 8, fieldLE b 24 4, named + 2000⟩]))
  ∧ (∀ (src fc : Nat) (s : State), ∃ t, exec (.replayEntryExpiry src fc) s = .next t
      ∧ (∀ e, e ∈ t.mesh.replay ↔ e ∈ s.mesh.replay ∧ ¬(e.src = src ∧ e.fc = fc ∧ e.expiry ≤ s.mtMs))
      ∧ t.mesh.routers = s.mesh.routers ∧ t.mesh.up = s.mesh.up ∧ t.regs = s.regs)
  ∧ (∀ (addr : Nat) (r : Router) (s : State), Tab.get? s.mesh.routers addr = some r →
    r.heard + ms (fieldLE s.nwRec 40 2 * 1000) ≤ s.elapsed →
    ∃ t, exec (.routerAgeExpiry addr) s = .next t ∧ Tab.get? t.mesh.routers addr = none
      ∧ (∀ k, k ≠ addr → Tab.get? t.mesh.routers k = Tab.get? s.mesh.routers k) ∧ t.mesh.replay = s.mesh.replay ∧ t.regs = s.regs)
  ∧ (∀ (wua : Nat) (s : State), wua = fieldLE s.nwRec 36 3 ∨ wua = 0xFFFFFF → s.mesh.state = .alone ∨ s.mesh.state = .bridged →
    exec (.wakeSignalRx wua 1 true) s = .next { s with mesh := { s.mesh with wuOpen := some s.elapsed } }
      ∧ (s.mesh.tx = none → State.meshHears { s with mesh := { s.mesh with wuOpen := some s.elapsed } } = true))
  ∧ (∀ (wua cmd : Nat) (s : State), exec (.wakeSignalRx wua cmd false) s = .next s)
  ∧ ∀ (t0 : Nat) (s : State), s.mesh.wuOpen = some t0 → t0 + ms (fieldLE s.nwRec 31 1 * 10) ≤ s.elapsed →
    exec .wuListenExpiry s = .next { s with mesh := { s.mesh with wuOpen := none } }
      ∧ (s.rxSave = true → s.mesh.mainRx = false → s.mesh.replies = [] →
        State.meshHears { s with mesh := { s.mesh with wuOpen := none } } = false)

/-- The island's transmitter (10 R280 to R283, R287, R290 to R294): a superframe start counts BSN and takes a changed
format, and in the island's reset state moves MT alone (log 143); one that takes a step of MT moves the floor and the expiries with it and opens the gap in which nothing goes;
a beacon, an acknowledgement, a leaf's or router's frame and a wake-up signal go where the slot, the ledger, the channel
and a reply window that is due allow them, and take the transmitter for their air time; a refusal charges nothing; a transmission's end frees the
transmitter and completes a frame that asks for no acknowledgement; a frame's lifetime and the watchdog end it. -/
def Obligations.MeshTransmission : Prop :=
  (∀ s : State, s.mesh.state ≠ .reset → s.mesh.next ≤ s.mtNs → s.time.mtFollow = false →
    ∃ t, exec .meshSuperframeStart s = .next t ∧ t.mesh.bsn = (if s.mesh.started = true then (s.mesh.bsn + 1) % 2 ^ 32 else 0)
      ∧ t.mesh.started = true ∧ t.mesh.sf = s.mesh.next ∧ t.mesh.change = false ∧ t.mesh.beaconSent = false
      ∧ t.mesh.n = (if s.mesh.change = true then s.get ⟨0x2000004, 5, 0⟩ + 1 else s.mesh.n)
      ∧ t.mesh.next = s.mesh.next + t.mesh.n * t.mesh.sfNs ∧ t.mesh.map = (if s.mesh.change = true then mapOf s.reg else s.mesh.map)
      ∧ t.mesh.replay = s.mesh.replay ∧ t.mesh.down = s.mesh.down ∧ t.mesh.keys = s.mesh.keys ∧ t.regs = s.regs)
  ∧ (∀ s : State, s.mesh.state ≠ .reset → s.mesh.next ≤ s.mtNs → s.time.mtFollow = true → s.ntValid = true → 0 < s.mesh.n * s.mesh.sfNs →
    ∃ t, exec .meshSuperframeStart s = .next t ∧ t.time.mt = s.time.nt ∧ t.time.mtFollow = false ∧ t.mesh.bsn = s.mesh.bsn
      ∧ (t.mesh.gap = true ↔ ((t.mtNs : Int) - s.mesh.anchor) % (s.mesh.n * s.mesh.sfNs : Nat) ≠ 0)
      ∧ t.mesh.floor = ((s.mesh.floor : Int) + ((t.mtMs : Int) - s.mtMs)).toNat
      ∧ t.mesh.replay = s.mesh.replay.map (fun e => { e with expiry := ((e.expiry : Int) + ((t.mtMs : Int) - s.mtMs)).toNat }))
  ∧ (∀ s : State, s.mesh.state = .reset → exec .meshSuperframeStart s = .next s.mtFollows)
  ∧ (∀ s : State, s.mesh.state ≠ .reset → s.mtNs < s.mesh.next → exec .meshSuperframeStart s = .next s)
  ∧ (∀ s : State, ∃ t, exec .meshSlotStart s = .next t ∧ t.mesh.slotFirst = true
      ∧ (t.mesh.mainRx = true ↔ s.slotKind ∈ [1, 2, 4])
      ∧ t.regs = s.regs ∧ t.mesh.tx = s.mesh.tx)
  ∧ (∀ (level : Int) (air : Nat) (s : State), s.mesh.started = true → s.mesh.gap = false → s.mesh.beaconSent = false → s.meshSlot = 0 →
    s.mesh.state = .alone ∨ s.mesh.state = .bridged → s.mesh.tx = none → s.boot.state ≠ .hold → s.realigning = false →
    bitOf (fieldLE (s.subBands.getD s.frameBand []) 12 1) 0 = false ∨ level < signed 8 (fieldLE (s.subBands.getD s.frameBand []) 13 1) →
    air = s.airTime (fieldLE s.nwRec 23 1 * 100000) (24 + 4 * s.mesh.map.length) → s.dutyOk s.frameBand air = true →
    ∃ t, exec (.meshBeaconTx level) s = .next t ∧ t.mesh.tx = some ⟨.beacon, s.mtNs + air, s.elapsed, false⟩ ∧ t.mesh.beaconSent = true
      ∧ t.mesh.rx = .search ∧ t.mesh.fc = s.mesh.fc + 1
      ∧ t.mesh.ledger = (s.charge s.frameBand air).mesh.ledger)
  ∧ (∀ (level : Int) (s : State), s.mesh.started = true → s.mesh.gap = false → s.mesh.beaconSent = false → s.meshSlot = 0 →
    s.mesh.state = .alone ∨ s.mesh.state = .bridged → s.mesh.tx = none → s.boot.state ≠ .hold →
    bitOf (fieldLE (s.subBands.getD s.frameBand []) 12 1) 0 = true → signed 8 (fieldLE (s.subBands.getD s.frameBand []) 13 1) ≤ level →
    ∃ t, exec (.meshBeaconTx level) s = .next t ∧ t.mesh.tx = none ∧ t.mesh.ledger = s.mesh.ledger ∧ t.mesh.fc = s.mesh.fc
      ∧ t.mesh.beaconSent = true)
  ∧ (∀ (level : Int) (s : State), s.mesh.started = true → s.mesh.gap = true → s.mesh.beaconSent = false → s.meshSlot = 0 →
    s.mesh.state = .alone ∨ s.mesh.state = .bridged → s.mesh.tx = none → s.boot.state ≠ .hold →
    exec (.meshBeaconTx level) s = .next { s with mesh := { s.mesh with beaconSent := true } })
  ∧ (∀ (level : Int) (r : MeshReply) (s : State), s.mesh.replies.find? (fun r => decide (r.at_ ≤ s.mtNs)) = some r →
    s.mesh.tx = none → s.slotKind = 1 →
    exec (.meshReplyWindowTx level) s = .next { s with mesh := { s.mesh with replies := s.mesh.replies.filter (·.node != r.node) } })
  ∧ (∀ (level : Int) (r : MeshReply) (fc : Nat) (s : State), s.mesh.replies.find? (fun r => decide (r.at_ ≤ s.mtNs)) = some r →
    s.mesh.tx = none → s.slotKind ≠ 1 → r.ack = some fc →
    (s.meshSend (.ack r.node) s.frameBand (s.airTime 0 16) true level).1 = none →
    ∃ t, exec (.meshReplyWindowTx level) s = .next t
      ∧ t.mesh.tx = some ⟨.ack r.node, s.mtNs + s.airTime 0 16, s.elapsed, true⟩
      ∧ (∀ x ∈ t.mesh.replies, x.node = r.node → x.ack = none) ∧ t.mesh.down = s.mesh.down)
  ∧ (∀ (level : Int) (id g0 : Nat) (d : MeshDown) (s : State), s.slotKind = 3 → s.mesh.tx = none →
    s.replyDue (s.airTime (s.wholeGuard g0) d.payload.length) = false →
    s.slotFrames = [(id, g0)] → s.mesh.slotFirst = true → Tab.get? s.mesh.down id = some d →
    s.meshSlotStart + 5000000 ≤ s.mtNs + s.wholeGuard g0 / 2 →
    s.mtNs + s.airTime (s.wholeGuard g0) d.payload.length ≤ s.meshSlotStart + meshSlotNs s.mesh.slot → d.ackReq = false →
    (s.meshSend (.data id) s.frameBand (s.airTime (s.wholeGuard g0) d.payload.length) false level).1 = none →
    ∃ t, exec (.meshListenSlotTx level) s = .next t
      ∧ t.mesh.tx = some ⟨.data id, s.mtNs + s.airTime (s.wholeGuard g0) d.payload.length, s.elapsed, false⟩
      ∧ t.mesh.slotFirst = false ∧ (Tab.get? t.mesh.down id).map (·.lastSlot) = some (some s.meshSlotStart)
      ∧ (Tab.get? t.mesh.down id).map (·.attempts) = some (d.attempts + 1))
  ∧ (∀ (level : Int) (id g0 : Nat) (d : MeshDown) (s : State), s.slotKind = 3 → s.mesh.tx = none → s.mesh.gap = true → s.boot.state ≠ .hold →
    s.slotFrames = [(id, g0)] → s.mesh.slotFirst = true → Tab.get? s.mesh.down id = some d → d.ackReq = false →
    s.meshSlotStart + 5000000 ≤ s.mtNs + s.wholeGuard g0 / 2 → s.replyDue (s.airTime (s.wholeGuard g0) d.payload.length) = false →
    s.mtNs + s.airTime (s.wholeGuard g0) d.payload.length ≤ s.meshSlotStart + meshSlotNs s.mesh.slot →
    ∃ t, exec (.meshListenSlotTx level) s = .next t ∧ t.mesh.tx = none ∧ Tab.get? t.mesh.down id = some { d with late := d.late + 1 })
  ∧ (∀ (id slot : Nat) (level : Int) (d : MeshDown) (r : Router) (s : State), Tab.get? s.mesh.down id = some d →
    Tab.get? s.mesh.routers d.dst = some r → r.drift ≠ none → s.routerSlot r 120000 = some slot → s.mesh.tx = none → d.ackReq = false →
    d.lastSlot ≠ some slot → s.replyDue (s.airTime 120000 d.payload.length) = false →
    (s.meshSend (.data id) s.frameBand (s.airTime 120000 d.payload.length) false level).1 = none →
    ∃ t, exec (.meshRouterSlotTx id level) s = .next t
      ∧ t.mesh.tx = some ⟨.data id, s.mtNs + s.airTime 120000 d.payload.length, s.elapsed, false⟩
      ∧ (Tab.get? t.mesh.down id).map (·.attempts) = some (d.attempts + 1) ∧ t.mesh.routers = s.mesh.routers)
  ∧ (∀ (level : Int) (wua cmd fn tag : Nat) (rest : List (Nat × Nat × Option (Nat × Nat))) (c : Cmd) (s : State),
    s.mesh.wakes = (wua, cmd, some (fn, tag)) :: rest → s.slotKind = 2 ∨ s.slotKind = 3 → s.mesh.tx = none → s.replyDue 16000000 = false →
    (s.meshSend (.wake wua cmd) s.wakeBand 16000000 false level).1 = none → s.cmd? fn tag = some c →
    ∃ t, exec (.wakeSignalTx level) s = .next t ∧ t.mesh.tx = some ⟨.wake wua cmd, s.mtNs + 16000000, s.elapsed, false⟩
      ∧ t.cmd? fn tag ≠ some c ∧ (wua, cmd, some (fn, tag)) ∉ t.mesh.wakes)
  ∧ (∀ (id : Nat) (level : Int) (d : MeshDown) (w : Nat) (s : State), Tab.get? s.mesh.down id = some d → d.woken = some w →
    w + 5000000 ≤ s.mtNs + s.wholeGuard 500000 / 2 → s.mtNs < w + 55000000 → s.replyDue (s.airTime 500000 d.payload.length) = false → s.mesh.tx = none → d.ackReq = false →
    (s.meshSend (.data id) s.frameBand (s.airTime 500000 d.payload.length) false level).1 = none →
    ∃ t, exec (.listenNowWindowTx id level) s = .next t
      ∧ t.mesh.tx = some ⟨.data id, s.mtNs + s.airTime 500000 d.payload.length, s.elapsed, false⟩)
  ∧ (∀ (m : MeshTx) (id : Nat) (d : MeshDown) (s : State), s.mesh.tx = some m → m.endAt ≤ s.mtNs → m.what = .data id →
    Tab.get? s.mesh.down id = some d →
    ∃ t, exec .meshTxEnd s = .next t ∧ t.mesh.tx = none
      ∧ Tab.get? t.mesh.down id = (if d.ackReq = true then some d else none) ∧ t.mesh.ledger = s.mesh.ledger)
  ∧ (∀ (m : MeshTx) (s : State), s.mesh.tx = some m → s.mtNs < m.endAt → exec .meshTxEnd s = .next s)
  ∧ (∀ (id : Nat) (d : MeshDown) (s : State), Tab.get? s.mesh.down id = some d → d.enq + ms d.lifeMs ≤ s.elapsed → s.mesh.tx = none →
    ∃ t, exec (.meshLifetimeExpiry id) s = .next t ∧ Tab.get? t.mesh.down id = none
      ∧ (∀ k, k ≠ id → Tab.get? t.mesh.down k = Tab.get? s.mesh.down k) ∧ t.mesh.replay = s.mesh.replay)
  ∧ ∀ (m : MeshTx) (s : State), s.mesh.tx = some m → m.from_ + ms (fieldLE s.nwRec 24 2) < s.elapsed →
    exec .meshTxTimeout s = .next ((s.postEvent 0x8007 (items [s.mtNs % 2 ^ 64])).strobe .mesh 0x05 0xFF)

/-- The island's queue and commands (10 R269, R285, R294): a bridged frame and an NW_TX whose fields are in range take their place in the
DOWN queue where DOWN_LIMIT and the 4,859 cells leave room (log 82), and the command completes NW_QUEUE_FULL where it does not; NW_WAKE waits for a slot; NW_KEY loads a
copy of a suite 0x10 key into a slot, or erases it; a field out of range completes RANGE. -/
def Obligations.MeshCommands : Prop :=
  (∀ (f : List Byte) (rest : List (List Byte)) (s : State), s.mesh.inbox = f :: rest → s.mesh.state = .bridged → 34 ≤ f.length →
    fieldLE (slice f 14 20) 8 4 = 0 → fieldLE (slice f 14 20) 12 1 < 4 → fieldLE (slice f 14 20) 13 1 < 8 →
    fieldLE (slice f 14 20) 14 2 + s.fcsBytes ≤ 2009 → 34 + fieldLE (slice f 14 20) 14 2 ≤ f.length →
    1 ≤ fieldLE (slice f 14 20) 16 4 → fieldLE (slice f 14 20) 16 4 ≤ 3600000 →
    s.queueRoom (slice f 34 (fieldLE (slice f 14 20) 14 2)) s.downCells (fieldLE s.nwRec 28 2) = true →
    ∃ t d, exec .meshDownlinkFrame s = .next t ∧ t.mesh.inbox = rest ∧ Tab.get? t.mesh.down s.mesh.nextDown = some d
      ∧ d.dst = fieldLE (slice f 14 20) 0 8 ∧ d.payload = slice f 34 (fieldLE (slice f 14 20) 14 2) ∧ d.enq = s.elapsed
      ∧ d.lifeMs = fieldLE (slice f 14 20) 16 4 ∧ t.regs = s.regs)
  ∧ (∀ (f : List Byte) (rest : List (List Byte)) (s : State), s.mesh.inbox = f :: rest → s.mesh.state ≠ .bridged →
    exec .meshDownlinkFrame s = .next (({ s with mesh := { s.mesh with inbox := rest } }).refuseAt .pkt))
  ∧ (∀ (tag : Nat) (c : Cmd) (b : List Byte) (s : State), Offered s 0 tag 0x0810 c → s.gated 15 = false →
    c.b 24 < 4 → c.b 25 < 8 → Tab.has s.mesh.keys (c.b 25) = true → c.le 26 2 + s.fcsBytes ≤ 2009 → 1 ≤ c.le 28 4 → c.le 28 4 ≤ 3600000 →
    c.reservedOk [(16, 24)] = true → s.mesh.state = .alone ∨ s.mesh.state = .bridged → s.unitStatus .mesh = none →
    (s.queueRoom (slice b 0 (c.le 26 2)) s.downCells (fieldLE s.nwRec 28 2) = true →
      ∃ t d, exec (.nwTx 0 tag (some b)) s = .next t ∧ Tab.get? t.mesh.down s.mesh.nextDown = some d ∧ d.dst = c.le 16 8
        ∧ d.payload = slice b 0 (c.le 26 2) ∧ d.key = c.b 25 ∧ d.ackReq = bitOf (c.b 24) 0 ∧ d.lifeMs = c.le 28 4
        ∧ d.cmd = some (0, tag) ∧ (t.cmd? 0 tag).map (·.stage) = some .admitted ∧ t.regs = s.regs)
    ∧ (s.queueRoom (slice b 0 (c.le 26 2)) s.downCells (fieldLE s.nwRec 28 2) = false →
      exec (.nwTx 0 tag (some b)) s = .next (s.complete 0 tag 0x50)))
  ∧ (∀ (tag : Nat) (c : Cmd) (d : HostData) (s : State), Offered s 0 tag 0x0810 c → s.gated 15 = false →
    8 ≤ c.b 25 ∨ Tab.has s.mesh.keys (c.b 25) = false ∨ 2009 < c.le 26 2 ∨ c.le 28 4 = 0 →
    exec (.nwTx 0 tag d) s = .next (s.complete 0 tag 0x02))
  ∧ (∀ (tag : Nat) (c : Cmd) (s : State), Offered s 0 tag 0x0811 c → s.gated 15 = false →
    c.b 19 = 1 ∨ c.b 19 = 2 → c.reservedOk [(16, 4)] = true → s.mesh.state = .alone ∨ s.mesh.state = .bridged →
    s.unitStatus .mesh = none →
    ∃ t, exec (.nwWake 0 tag) s = .next t ∧ t.mesh = { s.mesh with wakes := s.mesh.wakes ++ [(c.le 16 3, c.b 19, some (0, tag))] }
      ∧ (t.cmd? 0 tag).map (·.stage) = some .admitted ∧ t.regs = s.regs)
  ∧ (∀ (tag : Nat) (c : Cmd) (g : KeyGen) (s : State), Offered s 0 tag 0x0812 c → s.gated 15 = false →
    c.b 17 = 0 → c.b 16 < 8 → s.slotIn (c.le 18 2) 0 = true → s.bindGen (c.le 18 2) = some g → g.suite = 0x10 →
    c.reservedOk [(16, 4)] = true → s.mesh.state = .alone ∨ s.mesh.state = .bridged → s.unitStatus .mesh = none →
    exec (.nwKeyLoad 0 tag) s = .next
      (({ s with mesh := { s.mesh with keys := Tab.put s.mesh.keys (c.b 16) g.key } }).complete 0 tag 0))
  ∧ (∀ (tag : Nat) (c : Cmd) (s : State), Offered s 0 tag 0x0812 c → s.gated 15 = false →
    c.b 17 = 1 → c.b 16 < 8 → c.reservedOk [(16, 4)] = true → s.mesh.state = .alone ∨ s.mesh.state = .bridged →
    s.unitStatus .mesh = none →
    exec (.nwKeyErase 0 tag) s = .next (if Tab.has s.mesh.keys (c.b 16) = true
      then ({ s with mesh := { s.mesh with keys := Tab.del s.mesh.keys (c.b 16) } }).complete 0 tag 0 else s.complete 0 tag 0x55))
  ∧ ∀ (tag : Nat) (c : Cmd) (s : State), Offered s 0 tag 0x0812 c → s.gated 15 = false → c.b 17 = 1 → 8 ≤ c.b 16 →
    exec (.nwKeyErase 0 tag) s = .next (s.complete 0 tag 0x02)

/-! ## The packet path (11 R300 to R343) -/

/-- The pipelines and tables of the packet path (11 R301, R308, R309, R312, R318, R321, R339): a pipeline takes the first frame of its
source, and no other for two steps, 4 fabric cycles; one without a tenant is counted, one whose rule drops it is counted and goes nowhere, and one that no rule touches is bridged
to the wired queue of its forwarding entry; a route lookup that fails in DRAM drops the frame but for its COPY_CPU
copy; learned entries and flows age out; a queue
written to PKT_QDEPTH_SEL is captured. -/
def Obligations.PacketPath : Prop :=
  (∀ (src : Nat) (f : SrcFrame) (rest : List SrcFrame) (s : State), Tab.getD s.fifos src [] = f :: rest → s.inService .pkt = true →
    s.stopped 10 = false → Tab.has s.pkt.lpm src = false → s.pipeFree (pipeOf src) = true → s.pipeYields src = false →
    src ≠ 0x18 ∨ s.mesh.up = [] →
    ∃ t, exec (.pktPipelineFrame src) s = .next t ∧ Tab.getD t.fifos src [] = rest
      ∧ (∀ k, k ≠ src → Tab.get? t.fifos k = Tab.get? s.fifos k) ∧ t.pkt.rules = s.pkt.rules ∧ t.pkt.routes = s.pkt.routes
      ∧ t.pkt.nextHops = s.pkt.nextHops ∧ t.pkt.ranges = s.pkt.ranges ∧ t.pkt.tunnels = s.pkt.tunnels ∧ t.pkt.policers = s.pkt.policers
      ∧ t.host.cmds = s.host.cmds ∧ t.eth = s.eth ∧ Tab.get? t.pkt.piped (pipeOf src) = some s.elapsed)
  ∧ (∀ (src : Nat) (s : State), Tab.getD s.fifos src [] = [] ∨ s.inService .pkt = false ∨ s.stopped 10 = true ∨ Tab.has s.pkt.lpm src = true
      ∨ (∃ at_, Tab.get? s.pkt.piped (pipeOf src) = some at_ ∧ s.elapsed < at_ + 2) →
    exec (.pktPipelineFrame src) s = .next s)
  ∧ (∀ (src : Nat) (f : SrcFrame) (rest : List SrcFrame) (s : State), Tab.getD s.fifos src [] = f :: rest → s.inService .pkt = true →
    s.stopped 10 = false → Tab.has s.pkt.lpm src = false → s.pipeFree (pipeOf src) = true → s.pipeYields src = false → src ≠ 0x18 →
    (s.tenantOf src f).1 = none →
    exec (.pktPipelineFrame src) s = .next (({ s with fifos := Tab.put s.fifos src rest, pkt := { s.pkt with piped := Tab.put s.pkt.piped (pipeOf src) s.elapsed } }).inc (pktCnt 0 true)))
  ∧ (∀ (i tn : Nat) (f : SrcFrame) (rest : List SrcFrame) (e : List Byte) (s : State), Tab.getD s.fifos 0x10 [] = f :: rest →
    s.inService .pkt = true → s.stopped 10 = false → s.pipeFree 0 = true → Tab.has s.pkt.lpm 0x10 = false → f.noLlc = false → f.tenant = some tn →
    s.pkt.flows = [] → s.pkt.rules = [(i, e)] → bitOf (fieldLE e 0x80 1) 0 = true → allZero (slice e 0x40 64) = true →
    fieldLE e 0x81 1 = 0xFF → fieldLE e 0x82 1 = 0xFF → fieldLE e 0x83 1 = 1 →
    ∃ t, exec (.pktPipelineFrame 0x10) s = .next t ∧ Tab.getD t.pkt.hits i 0 = Tab.getD s.pkt.hits i 0 + 1 ∧ t.wired = s.wired
      ∧ t.mac = s.mac ∧ t.mesh = s.mesh ∧ t.tasks = s.tasks ∧ t.pkt.fdb = s.pkt.fdb
      ∧ (s.get (pktCnt 2 false) < 65535 → t.get (pktCnt 2 false) = s.get (pktCnt 2 false) + 1))
  ∧ (∀ (tn : Nat) (f : SrcFrame) (rest : List SrcFrame) (e : FdbEntry) (s : State), Tab.getD s.fifos 0x10 [] = f :: rest →
    s.inService .pkt = true → s.stopped 10 = false → s.pipeFree 0 = true → Tab.has s.pkt.lpm 0x10 = false → f.noLlc = false → f.tenant = some tn →
    s.pkt.rules = [] → s.pkt.flows = [] → slice f.bytes 0 6 ≠ s.tenMac tn → isGroup f.bytes = false →
    Tab.get? s.pkt.fdb (fdbKey tn f.bytes) = some e → e.type = 1 → s.subMode e.sub = 0 →
    f.bytes.length + 4 + s.secOverhead e.sub ≤ s.maxFrame e.sub →
    exec (.pktPipelineFrame 0x10) s = .next (({ s with fifos := Tab.put s.fifos 0x10 rest, pkt := { s.pkt with piped := Tab.put s.pkt.piped 0 s.elapsed } }).toWired
      { src := 0x10, tenant := tn, bytes := f.bytes, up := f.up, act := List.replicate 32 0, bss := f.bss } e.sub
      (s.get ⟨0x2400440 + 4 * e.sub, 3 * f.up + 2, 3 * f.up⟩) f.bytes))
  ∧ (∀ (src : Nat) (x : PktCtx) (ok : Bool) (s : State), Tab.get? s.pkt.lpm src = some x →
    ok = false ∨ s.boot.rejected.contains 0xD = true ∨ (∀ c, c < 4 → s.inService (.dram c) = false) →
    exec (.lpmDramResult src ok) s = .next ((({ s with pkt := { s.pkt with lpm := Tab.del s.pkt.lpm src } }).inc (pktCnt 7 true)).deliver x false x.copies))
  ∧ (∀ (src : Nat) (x : PktCtx) (s : State), Tab.get? s.pkt.lpm src = some x → s.boot.rejected.contains 0xD = false →
    (∃ c, c < 4 ∧ s.inService (.dram c) = true) → x.copies = [] →
    s.route x.tenant (parse x.bytes).v6 (parse x.bytes).dst (fun _ => true) = none → s.flag ⟨tenCfg x.tenant, 13, 13⟩ = false →
    exec (.lpmDramResult src true) s = .next (({ s with pkt := { s.pkt with lpm := Tab.del s.pkt.lpm src } }).inc (pktCnt 1 true)))
  ∧ (∀ (tn addr : Nat) (e : FdbEntry) (s : State), Tab.get? s.pkt.fdb (tn * 2 ^ 48 + addr) = some e →
    exec (.fdbAgeExpiry tn addr) s = .next (if e.origin = 2 ∧ e.seen + ms (1000 * s.get ⟨0x2400010, 15, 0⟩) ≤ s.elapsed
      then { s with pkt := { s.pkt with fdb := Tab.del s.pkt.fdb (tn * 2 ^ 48 + addr) } } else s))
  ∧ (∀ (key : Nat) (e : FlowEntry) (s : State), Tab.get? s.pkt.flows key = some e →
    exec (.flowAgeExpiry key) s = .next (if e.aged = true ∧ e.seen + ms (1000 * s.get ⟨0x2400010, 31, 16⟩) ≤ s.elapsed
      then { s with pkt := { s.pkt with flows := Tab.del s.pkt.flows key } } else s))
  ∧ ∀ (r : Requester) (v : Word) (s : State), Mapped s r → Clocked s 0x2400500 →
    (queueIdOk (v.toNat % 131072) = true →
      ∃ t, exec (.qdepthSelWrite r v) s = .next t ∧ t.answer = some .done ∧ t.pkt = { s.pkt with captured := s.queueOf (v.toNat % 131072) }
        ∧ t.reg 0x2400500 = BitVec.ofNat 32 (v.toNat % 131072) ∧ ∀ a, a ≠ 0x2400500 → t.reg a = s.reg a)
    ∧ (queueIdOk (v.toNat % 131072) = false → exec (.qdepthSelWrite r v) s = answered (s.invalidWrite r 0x2400500 v))

/-- The packet path's commands (11 R310, R315, R318, R319, R321, R327, R341, R342): each writes or takes out exactly its entry and completes OK; a reference
that is not there completes PKT_BAD_REF, an entry that is not there PKT_NO_ENTRY, one in use PKT_IN_USE and a rule or flow that would send a tenant's frames to a station of
another ISOLATION, a policer out of the
staging phase is refused, and a rule is refused while the packet path is out of service. -/
def Obligations.PacketCommands : Prop :=
  (∀ (tag : Nat) (c : Cmd) (e : List Byte) (s : State), Offered s 0 tag 0x0910 c → s.gated 10 = false → s.unitStatus .pkt = none →
    c.le 16 2 < 8192 → c.b 18 = 0 → c.reservedOk [(16, 3), (24, 8)] = true → ruleOk e = true →
    exec (.pktRuleWrite 0 tag (some e)) s = .next (if ruleRefs s.pkt.nextHops s.pkt.ranges e = true
      then if s.ruleForeign (c.le 16 2) e = true then s.complete 0 tag 0x09 else ({ s with pkt := { s.pkt with rules := Tab.put s.pkt.rules (c.le 16 2) e } }).complete 0 tag 0 else s.complete 0 tag 0x60))
  ∧ (∀ (tag : Nat) (c : Cmd) (s : State), Offered s 0 tag 0x0910 c → s.gated 10 = false → s.unitStatus .pkt = none →
    c.le 16 2 < 8192 → c.b 18 = 1 → c.reservedOk [(16, 3), (24, 8)] = true →
    exec (.pktRuleClear 0 tag) s = .next (if Tab.has s.pkt.rules (c.le 16 2) = true
      then ({ s with pkt := { s.pkt with rules := Tab.del s.pkt.rules (c.le 16 2) } }).complete 0 tag 0 else s.complete 0 tag 0x5E))
  ∧ (∀ (tag k : Nat) (c : Cmd) (s : State), Offered s 0 tag 0x0911 c → s.gated 10 = false → s.unitStatus .pkt = none →
    bitOf (c.b 17) 1 = false → routeOk (c.bytes 16 24) = true → 1 ≤ c.b 19 → c.b 19 ≤ 16 → c.le 20 2 + c.b 19 ≤ 16384 →
    c.reservedOk [(16, 6), (24, 16)] = true → (∀ i, c.le 20 2 ≤ i → i < c.le 20 2 + c.b 19 → Tab.has s.pkt.nextHops i = true) →
    (∀ i, c.le 20 2 ≤ i → i < c.le 20 2 + c.b 19 → s.foreignHop (c.b 16) i = false) → s.lpmUsed + 2 ≤ 262144 →
    k = routeKey (c.b 16) (bitOf (c.b 17) 0) (c.b 18) (beNat (c.bytes 24 (if bitOf (c.b 17) 0 = true then 16 else 4))) →
    ∃ t, exec (.pktRouteAdd 0 tag) s = .next t ∧ Tab.get? t.pkt.routes k = some ⟨c.le 20 2, c.b 19⟩
      ∧ (∀ j, j ≠ k → Tab.get? t.pkt.routes j = Tab.get? s.pkt.routes j) ∧ t.pkt.nextHops = s.pkt.nextHops
      ∧ (t.cmd? 0 tag).isSome = false)
  ∧ (∀ (tag k : Nat) (c : Cmd) (s : State), Offered s 0 tag 0x0911 c → s.gated 10 = false → s.unitStatus .pkt = none →
    bitOf (c.b 17) 1 = true → routeOk (c.bytes 16 24) = true → c.reservedOk [(16, 6), (24, 16)] = true →
    k = routeKey (c.b 16) (bitOf (c.b 17) 0) (c.b 18) (beNat (c.bytes 24 (if bitOf (c.b 17) 0 = true then 16 else 4))) →
    ∃ t, exec (.pktRouteDelete 0 tag) s = .next t ∧ Tab.get? t.pkt.routes k = none
      ∧ (∀ j, j ≠ k → Tab.get? t.pkt.routes j = Tab.get? s.pkt.routes j) ∧ t.pkt.nextHops = s.pkt.nextHops
      ∧ (t.cmd? 0 tag).isSome = false)
  ∧ (∀ (tag : Nat) (c : Cmd) (s : State), Offered s 0 tag 0x0912 c → s.gated 10 = false → s.unitStatus .pkt = none →
    c.b 36 = 0 → hopOk (c.bytes 16 20) = true → c.reservedOk [(16, 21)] = true → s.hopForeign (c.le 16 2) (hopOf (c.bytes 16 20)) = false →
    exec (.pktNextHopWrite 0 tag) s = .next (if hopRefs s.pkt.tunnels (hopOf (c.bytes 16 20)) = true
      then ({ s with pkt := { s.pkt with nextHops := Tab.put s.pkt.nextHops (c.le 16 2) (hopOf (c.bytes 16 20)) } }).complete 0 tag 0
      else s.complete 0 tag 0x60))
  ∧ (∀ (tag : Nat) (c : Cmd) (s : State), Offered s 0 tag 0x0912 c → s.gated 10 = false → s.unitStatus .pkt = none →
    c.b 36 = 1 → c.le 16 2 < 16384 → c.reservedOk [(16, 21)] = true →
    exec (.pktNextHopDelete 0 tag) s = .next (if Tab.has s.pkt.nextHops (c.le 16 2) = false then s.complete 0 tag 0x5E
      else if s.hopInUse (c.le 16 2) = true then s.complete 0 tag 0x5F
      else ({ s with pkt := { s.pkt with nextHops := Tab.del s.pkt.nextHops (c.le 16 2) } }).complete 0 tag 0))
  ∧ (∀ (tag : Nat) (c : Cmd) (s : State), Offered s 0 tag 0x0913 c → s.gated 10 = false → s.unitStatus .pkt = none →
    c.b 17 = 0 → fdbOk (c.bytes 16 14) = true → c.reservedOk [(16, 14)] = true → c.b 24 ≠ 2 →
    fdbRefs s.pkt.tunnels (fdbOf (c.bytes 16 14)) = true → s.fdbFull (fdbKey (c.b 16) (c.bytes 18 6)) = false →
    exec (.pktFdbWrite 0 tag) s = .next
      (({ s with pkt := { s.pkt with fdb := Tab.put s.pkt.fdb (fdbKey (c.b 16) (c.bytes 18 6)) (fdbOf (c.bytes 16 14)) } }).complete 0 tag 0))
  ∧ (∀ (tag : Nat) (c : Cmd) (s : State), Offered s 0 tag 0x0913 c → s.gated 10 = false → s.unitStatus .pkt = none →
    c.b 17 = 1 → c.b 16 < 16 → isGroup (c.bytes 18 6) = false → c.reservedOk [(16, 14)] = true →
    exec (.pktFdbDelete 0 tag) s = .next (if Tab.has s.pkt.fdb (fdbKey (c.b 16) (c.bytes 18 6)) = true
      then ({ s with pkt := { s.pkt with fdb := Tab.del s.pkt.fdb (fdbKey (c.b 16) (c.bytes 18 6)) } }).complete 0 tag 0
      else s.complete 0 tag 0x5E))
  ∧ (∀ (tag : Nat) (c : Cmd) (s : State), Offered s 0 tag 0x0914 c → s.gated 10 = false → s.unitStatus .pkt = none →
    bitOf (c.b 17) 1 = false → flowOk (c.bytes 16 42) = true → c.reservedOk [(16, 3), (20, 38)] = true →
    s.flowFull (flowKeyOf (c.bytes 16 42)) = false →
    exec (.pktFlowAdd 0 tag) s = .next (if (s.rule (c.le 56 2)).isNone = true then s.complete 0 tag 0x60
      else if (s.rule (c.le 56 2)).any (fun e => fieldLE e 0x83 1 == 3 && s.foreignHop (c.b 16) (fieldLE e 0x8C 2)) = true then s.complete 0 tag 0x09
      else ({ s with pkt := { s.pkt with flows := Tab.put s.pkt.flows (flowKeyOf (c.bytes 16 42)) ⟨c.le 56 2, bitOf (c.b 17) 2, s.elapsed⟩ } }).complete 0 tag 0))
  ∧ (∀ (tag : Nat) (c : Cmd) (s : State), Offered s 0 tag 0x0914 c → s.gated 10 = false → s.unitStatus .pkt = none →
    bitOf (c.b 17) 1 = true → flowOk (c.bytes 16 42) = true → c.reservedOk [(16, 3), (20, 38)] = true →
    exec (.pktFlowDelete 0 tag) s = .next (if Tab.has s.pkt.flows (flowKeyOf (c.bytes 16 42)) = true
      then ({ s with pkt := { s.pkt with flows := Tab.del s.pkt.flows (flowKeyOf (c.bytes 16 42)) } }).complete 0 tag 0
      else s.complete 0 tag 0x5E))
  ∧ (∀ (tag : Nat) (c : Cmd) (s : State), Offered s 0 tag 0x0915 c → s.gated 10 = false → s.unitStatus .pkt = none →
    c.b 16 < 64 → c.b 17 ≤ 5 → c.le 18 2 ≤ c.le 20 2 → c.reservedOk [(16, 6)] = true →
    exec (.pktRangeSet 0 tag) s = .next
      (({ s with pkt := { s.pkt with ranges := Tab.put s.pkt.ranges (c.b 16) ⟨c.b 17, c.le 18 2, c.le 20 2⟩ } }).complete 0 tag 0))
  ∧ (∀ (tag : Nat) (c : Cmd) (s : State), Offered s 0 tag 0x0915 c → s.gated 10 = false → s.unitStatus .pkt = none →
    c.b 16 < 64 → c.b 17 = 0xFF → c.reservedOk [(16, 6)] = true →
    exec (.pktRangeDisable 0 tag) s = .next (({ s with pkt := { s.pkt with ranges := Tab.del s.pkt.ranges (c.b 16) } }).complete 0 tag 0))
  ∧ (∀ (tag : Nat) (c : Cmd) (t : List Byte) (s : State), Offered s 0 tag 0x0916 c → s.gated 10 = false → s.unitStatus .pkt = none →
    c.le 16 2 < 1024 → c.b 18 = 0 → c.reservedOk [(16, 3), (24, 8)] = true →
    exec (.pktTunnelWrite 0 tag (some t)) s = .next (if tunnelOk t = true
      then ({ s with pkt := { s.pkt with tunnels := Tab.put s.pkt.tunnels (c.le 16 2) t } }).complete 0 tag 0 else s.complete 0 tag 0x02))
  ∧ (∀ (tag : Nat) (c : Cmd) (s : State), Offered s 0 tag 0x0916 c → s.gated 10 = false → s.unitStatus .pkt = none →
    c.le 16 2 < 1024 → c.b 18 = 1 → c.reservedOk [(16, 3), (24, 8)] = true →
    exec (.pktTunnelClear 0 tag) s = .next (if Tab.has s.pkt.tunnels (c.le 16 2) = false then s.complete 0 tag 0x5E
      else if s.tunnelInUse (c.le 16 2) = true then s.complete 0 tag 0x5F
      else ({ s with pkt := { s.pkt with tunnels := Tab.del s.pkt.tunnels (c.le 16 2) } }).complete 0 tag 0))
  ∧ (∀ (tag : Nat) (c : Cmd) (s : State), Offered s 0 tag 0x0917 c → s.gated 10 = false → s.unitStatus .pkt = none →
    policerOk (c.bytes 16 21) = true → c.reservedOk [(16, 21)] = true →
    exec (.pktPolicer 0 tag) s = .next (match s.stageStatus 19 with
      | some st => s.complete 0 tag st
      | none => ({ s with pkt := { s.pkt with policersStaged := Tab.put s.pkt.policersStaged (c.le 16 2) (policerOf (c.bytes 16 21)) } }).complete 0 tag 0))
  ∧ ∀ (tag st : Nat) (c : Cmd) (d : HostData) (s : State), Offered s 0 tag 0x0910 c → s.gated 10 = false → s.unitStatus .pkt = some st →
    c.le 16 2 < 8192 → c.b 18 = 0 → c.reservedOk [(16, 3), (24, 8)] = true →
    exec (.pktRuleWrite 0 tag d) s = .next ((s.refuseAt (.func 0)).complete 0 tag st)

/-! ## The cipher engine (12 R348 to R368) -/

/-- The cipher engine (12 R351 to R357, R363, R364): a key write waits for its slot and then replaces the current generation, or with the
same key keeps it and its counters; an erase ends when nothing refers to the slot; a function's command on a slot of another
completes ISOLATION; a service operation binds to the current generation, draws the counter when it makes the nonce, and ends with its
whole destination and OK, or with AUTH_FAIL and nothing written; an ended reference lets its retired generation go. -/
def Obligations.CipherEngine : Prop :=
  (∀ (fn tag : Nat) (c : Cmd) (b : List Byte) (p : Page) (s : State), Offered s fn tag 0x0A01 c → s.gated 11 = false → c.le 16 2 < 16384 →
    c.b 18 = 0 → c.reservedOk [(16, 4), (24, 8)] = true → s.unitStatus .cipher = none → s.mayUseSlot fn (c.le 16 2) = true →
    s.slotPage (c.le 16 2) = some p → p.admits (c.b 19) = true → (s.slot (c.le 16 2)).erasing = none → blockOk (c.b 19) b = true →
    ∃ t, exec (.cphKeyWrite fn tag (some b)) s = .next t
      ∧ t.slot (c.le 16 2) = { s.slot (c.le 16 2) with waiting := (s.slot (c.le 16 2)).waiting ++ [⟨fn, tag, c.b 19, some b⟩] }
      ∧ (t.cmd? fn tag).map (·.stage) = some .admitted ∧ (∀ k, k ≠ c.le 16 2 → t.slot k = s.slot k) ∧ t.regs = s.regs)
  ∧ (∀ (fn tag : Nat) (c : Cmd) (b : List Byte) (s : State), Offered s fn tag 0x0A01 c → s.gated 11 = false → c.le 16 2 < 16384 →
    c.b 18 = 0 → (suiteClass (c.b 19)).isSome = true → c.reservedOk [(16, 4), (24, 8)] = true → s.unitStatus .cipher = none →
    s.mayUseSlot fn (c.le 16 2) = false →
    exec (.cphKeyWrite fn tag (some b)) s = .next ((s.isolationEvent fn (c.le 16 2)).complete fn tag 0x09))
  ∧ (∀ (fn tag : Nat) (c : Cmd) (s : State), Offered s fn tag 0x0A01 c → s.gated 11 = false → c.le 16 2 < 16384 → c.b 18 = 1 → c.b 19 = 0 →
    c.reservedOk [(16, 4)] = true → s.unitStatus .cipher = none → s.mayUseSlot fn (c.le 16 2) = true →
    (s.slot (c.le 16 2)).waiting = [] → (s.slot (c.le 16 2)).erasing = none →
    ((s.slot (c.le 16 2)).cur = none → (s.slot (c.le 16 2)).ret = none →
      exec (.cphKeyErase fn tag) s = .next (s.complete fn tag 0x64))
    ∧ ((s.slot (c.le 16 2)).cur ≠ none ∨ (s.slot (c.le 16 2)).ret ≠ none →
      ∃ t, exec (.cphKeyErase fn tag) s = .next t
        ∧ t.slot (c.le 16 2) = { s.slot (c.le 16 2) with erasing := some (fn, tag), eraseAt := s.elapsed }
        ∧ t.bindGen (c.le 16 2) = none ∧ (∀ k, k ≠ c.le 16 2 → t.slot k = s.slot k) ∧ t.regs = s.regs))
  ∧ (∀ (fn tag : Nat) (c : Cmd) (s : State), Offered s fn tag 0x0A01 c → s.gated 11 = false → c.le 16 2 < 16384 → c.b 18 = 1 → c.b 19 = 0 →
    c.reservedOk [(16, 4)] = true → s.unitStatus .cipher = none → s.mayUseSlot fn (c.le 16 2) = true →
    (s.slot (c.le 16 2)).waiting ≠ [] ∨ (s.slot (c.le 16 2)).erasing ≠ none →
    ∃ t, exec (.cphKeyErase fn tag) s = .next t
      ∧ t.slot (c.le 16 2) = { s.slot (c.le 16 2) with waiting := (s.slot (c.le 16 2)).waiting ++ [⟨fn, tag, 0, none⟩] }
      ∧ (t.cmd? fn tag).map (·.stage) = some .admitted ∧ (∀ k, k ≠ c.le 16 2 → t.slot k = s.slot k) ∧ t.regs = s.regs)
  ∧ (∀ (slot : Nat) (w : KeyWait) (rest : List KeyWait) (b : List Byte) (s : State), (s.slot slot).waiting = w :: rest → w.block = some b →
    (s.slot slot).erasing = none → (s.slot slot).ret = none →
    ∃ t, exec (.keyWriteProceed slot) s = .next t ∧ t.cmd? w.fn w.tag = none
      ∧ (t.slot slot).cur = (match (s.slot slot).cur with
        | some g => if g.key = slice b 0 (suiteKeyLen w.suite)
            then some { g with keyId := (genOf g.gen w.suite b).keyId, rx := (genOf g.gen w.suite b).rx }
            else some { genOf (((s.slot slot).gen + 1) % 65536) w.suite b with since := s.elapsed }
        | none => some { genOf (((s.slot slot).gen + 1) % 65536) w.suite b with since := s.elapsed })
      ∧ (∀ k, k ≠ slot → t.slot k = s.slot k) ∧ ∀ k, k < s.cipher.nextOp → Tab.get? t.cipher.ops k = Tab.get? s.cipher.ops k)
  ∧ (∀ (slot : Nat) (w : KeyWait) (rest : List KeyWait) (b : List Byte) (s : State), (s.slot slot).waiting = w :: rest → w.block = some b →
    (s.slot slot).ret ≠ none → s.sameKey slot w.suite b = false → exec (.keyWriteProceed slot) s = .next s)
  ∧ (∀ (slot fn tag : Nat) (s : State), (s.slot slot).erasing = some (fn, tag) → s.cipher.ops.any (fun o => o.2.slot == slot) = false →
    ∃ t, exec (.keyEraseDone slot) s = .next t ∧ (t.slot slot).cur = none ∧ (t.slot slot).ret = none ∧ (t.slot slot).gen = (s.slot slot).gen
      ∧ t.cmd? fn tag = none ∧ ∀ k, k ≠ slot → t.slot k = s.slot k)
  ∧ (∀ (slot : Nat) (s : State), s.cipher.ops.any (fun o => o.2.slot == slot) = true → exec (.keyEraseDone slot) s = .next s)
  ∧ (∀ (fn tag op : Nat) (i : Instr) (c : Cmd) (g : KeyGen) (b : List Byte) (s : State), Offered s fn tag 0x0A10 c → s.gated 11 = false →
    (op, i) ∈ [(0, Instr.cphCryptGcmEncrypt fn tag (some b)), (1, .cphCryptGcmDecrypt fn tag (some b)),
      (2, .cphCryptCcmEncrypt fn tag (some b)), (3, .cphCryptCcmDecrypt fn tag (some b))] →
    c.b 18 = op → c.le 16 2 < 16384 → (op ≤ 1 → 12 ≤ c.b 19 ∧ c.b 19 ≤ 16 ∧ c.b 20 = 12) →
    (2 ≤ op → 4 ≤ c.b 19 ∧ c.b 19 ≤ 16 ∧ c.b 19 % 2 = 0 ∧ 7 ≤ c.b 20 ∧ c.b 20 ≤ 13 ∧ c.le 28 4 < 2 ^ (8 * (15 - c.b 20))) →
    c.le 24 4 ≤ 4096 → c.le 28 4 ≤ 65536 → 1 ≤ c.le 24 4 + c.le 28 4 → c.le 32 8 = c.le 40 8 → c.reservedOk [(16, 5), (24, 37)] = true →
    s.unitStatus .cipher = none → s.mayUseSlot fn (c.le 16 2) = true → s.bindGen (c.le 16 2) = some g → g.suite = 0x30 ∨ g.suite = 0x31 →
    g.locked = false → s.cphRoom = true →
    ∃ t o, exec i s = .next t ∧ Tab.get? t.cipher.ops s.cipher.nextOp = some o ∧ t.cipher.nextOp = s.cipher.nextOp + 1
      ∧ o.slot = c.le 16 2 ∧ o.gen = g.gen ∧ o.service = some (fn, tag) ∧ o.dst = c.le 40 8
      ∧ o.out = serviceOut op g.key (c.bytes 48 (c.b 20)) (slice b 0 (c.le 24 4)) (slice b (c.le 24 4) (c.le 28 4))
          (slice b (c.le 24 4 + c.le 28 4) (c.b 19)) false (c.b 19)
      ∧ (t.cmd? fn tag).map (·.stage) = some .admitted ∧ t.cipher.slots = s.cipher.slots ∧ t.regs = s.regs ∧ t.host.mem = s.host.mem)
  ∧ (∀ (fn tag : Nat) (c : Cmd) (g : KeyGen) (b : List Byte) (s : State), Offered s fn tag 0x0A10 c → s.gated 11 = false →
    c.b 18 = 4 → c.le 16 2 < 16384 → 12 ≤ c.b 19 → c.b 19 ≤ 16 → c.b 20 = 12 → c.le 24 4 ≤ 4096 → c.le 28 4 ≤ 65536 →
    1 ≤ c.le 24 4 + c.le 28 4 → c.le 32 8 = c.le 40 8 → c.reservedOk [(16, 5), (24, 37)] = true → s.unitStatus .cipher = none →
    s.mayUseSlot fn (c.le 16 2) = true → s.bindGen (c.le 16 2) = some g → g.suite = 0x30 ∨ g.suite = 0x31 → g.locked = false →
    s.cphRoom = true → g.tx < finalValue g.suite →
    ∃ t h, exec (.cphCryptGcmEncrypt fn tag (some b)) s = .next t ∧ (t.slot (c.le 16 2)).cur = some h ∧ h.tx = g.tx + 1 ∧ h.key = g.key
      ∧ (Tab.get? t.cipher.ops s.cipher.nextOp).map (·.counter) = some g.tx)
  ∧ (∀ (op fn tag : Nat) (o : CphOp) (b : List Byte) (c : Cmd) (s : State), Tab.get? s.cipher.ops op = some o → o.service = some (fn, tag) →
    s.cmd? fn tag = some c → o.out = some b →
    exec (.serviceOpDone op) s = .next (((({ s with cipher := { s.cipher with ops := Tab.del s.cipher.ops op } }).zeroise o.slot).writeHost
      fn o.dst b).complete fn tag 0x00 o.counter))
  ∧ (∀ (op fn tag : Nat) (o : CphOp) (c : Cmd) (s : State), Tab.get? s.cipher.ops op = some o → o.service = some (fn, tag) →
    s.cmd? fn tag = some c → o.out = none →
    exec (.serviceOpDone op) s = .next ((({ s with cipher := { s.cipher with ops := Tab.del s.cipher.ops op } }).zeroise o.slot).complete fn tag 0x06))
  ∧ ∀ (op : Nat) (o : CphOp) (s : State), Tab.get? s.cipher.ops op = some o → o.service = none →
    ∃ t, exec (.referenceEnd op) s = .next t ∧ Tab.get? t.cipher.ops op = none
      ∧ (∀ k, k ≠ op → Tab.get? t.cipher.ops k = Tab.get? s.cipher.ops k) ∧ (t.slot o.slot).cur = (s.slot o.slot).cur
      ∧ ((∀ e ∈ s.cipher.ops, e.1 = op ∨ e.2.slot ≠ o.slot) → (t.slot o.slot).ret = none) ∧ t.regs = s.regs

/-! ## The ports and the Tile Links (14 R414 to R442, 11 R336) -/

/-- The ports (14 R415, R416, R419 to R421, R425 to R427, 11 R301, R336, 12 R349, R361): a received frame is counted where its length, its FCS or its
type says so and otherwise enters its sub-port's FIFO, a datagram of the constellation and a PTP message of the domain apart, and a
protected one waits while the cipher engine is full; the highest wired queue that may send starts its head; an underrun ends the
frame and raises START_THRESH; the PCS moves the link; a secure association is written to its sub-port, or taken out. -/
def Obligations.WiredPorts : Prop :=
  (∀ (sub : Nat) (bytes : List Byte) (ok : Bool) (sec : Option EthSec) (s : State), s.subUp sub = false →
    exec (.ethFrameRx sub bytes ok sec) s = .next s)
  ∧ (∀ (sub : Nat) (bytes : List Byte) (ok : Bool) (s : State), s.subUp sub = true → s.secWaits sub bytes false = false →
    (s.maxFrame sub < bytes.length + 4 → exec (.ethFrameRx sub bytes ok none) s = .next (s.inc (ethCnt sub 0 true)))
    ∧ (bytes.length + 4 ≤ s.maxFrame sub → ok = false → exec (.ethFrameRx sub bytes ok none) s = .next (s.inc (ethCnt sub 1 false)))
    ∧ (bytes.length + 4 ≤ s.maxFrame sub → ok = true → bytes.length + 4 < 64 →
      exec (.ethFrameRx sub bytes ok none) s = .next (s.inc (ethCnt sub 0 false))))
  ∧ (∀ (sub : Nat) (bytes : List Byte) (s : State), s.subUp sub = true → 60 ≤ bytes.length → bytes.length + 4 ≤ s.maxFrame sub →
    fieldBE bytes 12 2 ≠ 0x8808 → s.filterPass sub bytes = true → s.macsec sub = none → s.inService .pkt = true →
    s.gated 10 = false → s.cstTakes sub bytes = false → s.ptpTakes sub bytes = false → (Tab.getD s.fifos sub []).length < 256 →
    ∃ t, exec (.ethFrameRx sub bytes true none) s = .next t
      ∧ Tab.getD t.fifos sub [] = Tab.getD s.fifos sub [] ++ 
          [{ bytes := bytes, stamp := s.stampBack ((bytes.length + 4) * byteTime (Tab.getD s.eth.links sub 0)) }]
      ∧ (∀ k, k ≠ sub → Tab.get? t.fifos k = Tab.get? s.fifos k) ∧ t.wired = s.wired ∧ t.host = s.host)
  ∧ (∀ (sub : Nat) (bytes : List Byte) (s : State), s.subUp sub = true → 60 ≤ bytes.length → bytes.length + 4 ≤ s.maxFrame sub →
    fieldBE bytes 12 2 ≠ 0x8808 → s.filterPass sub bytes = true → s.macsec sub = none →
    s.cstTakes sub bytes = true ∨ s.ptpTakes sub bytes = true →
    ∃ t, exec (.ethFrameRx sub bytes true none) s = .next t ∧ t.fifos = s.fifos ∧ t.wired = s.wired ∧ t.host = s.host ∧ t.cst = s.cst)
  ∧ (∀ (sub : Nat) (bytes : List Byte) (ok : Bool) (c : EthSec) (s : State), (s.macsec sub).isSome = true → s.inService .cipher = true →
    s.cphRoom = false → exec (.ethFrameRx sub bytes ok (some c)) s = .next s)
  ∧ (∀ (sub : Nat) (f : WireFrame) (rest : List WireFrame) (s : State), s.subUp sub = true → s.inService .pkt = true →
    Tab.get? s.eth.tx sub = none → Tab.getD s.wired (sub * 8 + 7) [] = f :: rest → s.dramLost f.dram = false →
    s.get ⟨0x2401400 + 0x20 * sub + 4 * 7, 19, 0⟩ = 0 → (∀ l, (gateListOf s.reg sub).longest 7 = some l → s.wireTime sub f ≤ l) →
    s.gatePass sub 7 (s.wireTime sub f) = true → s.shpRate (sub * 8 + 7) = 0 ∨ 0 ≤ s.credit (sub * 8 + 7) → s.macsec sub = none →
    ∃ t, exec (.wiredEgressSelect sub) s = .next t ∧ Tab.getD t.wired (sub * 8 + 7) [] = rest
      ∧ (∀ k, k ≠ sub * 8 + 7 → Tab.get? t.wired k = Tab.get? s.wired k)
      ∧ Tab.get? t.eth.tx sub = some ⟨f, s.elapsed,
          s.elapsed + ((Nat.max 64 f.len + 20) * byteTime (Tab.getD s.eth.links sub 0) * 3 + 499) / 500, false⟩)
  ∧ (∀ (sub : Nat) (x : EthTx) (s : State), Tab.get? s.eth.tx sub = some x → s.elapsed < x.endAt → x.cut = false →
    exec (.wiredEgressSelect sub) s = .next s)
  ∧ (∀ (sub : Nat) (x : EthTx) (s : State), Tab.get? s.eth.tx sub = some x → x.cut = false → s.elapsed < x.endAt → x.frame.dram ≠ 0 →
    s.get ⟨ethBase (portOf sub).1 + 0xC, 13, 0⟩ < x.frame.len →
    ∃ t, exec (.txUnderrun sub) s = .next t ∧ Tab.get? t.eth.tx sub = some { x with cut := true }
      ∧ t.get ⟨ethBase (portOf sub).1 + 0xC, 13, 0⟩ = Nat.min (s.get ⟨ethBase (portOf sub).1 + 0xC, 13, 0⟩ + 256) (s.maxFrame sub)
      ∧ t.wired = s.wired ∧ t.units = s.units)
  ∧ (∀ (sub speed : Nat) (s : State), s.subExists sub = true → s.inService (.port (portOf sub).1) = true →
    speed = 0 ∨ s.linkSpeed sub speed = true →
    ∃ t, exec (.ethLinkChange sub speed) s = .next t ∧ Tab.getD t.eth.links sub 0 = speed
      ∧ (∀ k, k ≠ sub → Tab.get? t.eth.links k = Tab.get? s.eth.links k) ∧ (Tab.getD s.eth.links sub 0 = speed → t = s)
      ∧ t.wired = s.wired ∧ t.units = s.units)
  ∧ (∀ (tag : Nat) (c : Cmd) (s : State), Offered s 0 tag 0x0C10 c → s.gated (16 + c.b 16 / 4 % 2) = false → c.b 17 = 0 → c.b 16 ≤ 7 →
    c.b 18 ≤ 15 → c.le 20 2 ≤ 16383 → c.reservedOk [(16, 3), (20, 2), (24, 8)] = true → s.unitStatus (.port (c.b 16 / 4)) = none →
    exec (.ethMacsecSaTx 0 tag) s = .next (match s.secSlot (c.le 20 2) with
      | some st => s.complete 0 tag st
      | none => ({ s with eth := { s.eth with txSa := Tab.put s.eth.txSa (c.b 16) (c.le 20 2) } }).complete 0 tag 0))
  ∧ (∀ (tag : Nat) (c : Cmd) (s : State), Offered s 0 tag 0x0C10 c → s.gated (16 + c.b 16 / 4 % 2) = false → c.b 17 = 1 → c.b 16 ≤ 7 →
    c.b 18 ≤ 15 → c.le 20 2 ≤ 16383 → c.reservedOk [(16, 3), (20, 2), (24, 8)] = true → s.unitStatus (.port (c.b 16 / 4)) = none →
    exec (.ethMacsecSaRxAdd 0 tag) s = .next (match s.secSlot (c.le 20 2) with
      | some st => s.complete 0 tag st
      | none => if 16 ≤ (s.eth.rxSa.filter (fun e => e.1 / 16 == c.b 16)).length then s.complete 0 tag 0x74
        else ({ s with eth := { s.eth with rxSa := Tab.put s.eth.rxSa (c.b 16 * 16 + c.b 18) (c.le 20 2, c.le 24 8) } }).complete 0 tag 0))
  ∧ ∀ (tag : Nat) (c : Cmd) (s : State), Offered s 0 tag 0x0C10 c → s.gated (16 + c.b 16 / 4 % 2) = false → c.b 17 = 3 → c.b 16 ≤ 7 →
    c.b 18 ≤ 15 → c.le 20 2 ≤ 16383 → c.reservedOk [(16, 3), (20, 2), (24, 8)] = true → s.unitStatus (.port (c.b 16 / 4)) = none →
    exec (.ethMacsecSaRxDelete 0 tag) s = .next (if Tab.has s.eth.rxSa (c.b 16 * 16 + c.b 18) = true
      then ({ s with eth := { s.eth with rxSa := Tab.del s.eth.rxSa (c.b 16 * 16 + c.b 18) } }).complete 0 tag 0 else s.complete 0 tag 0x75)

/-- The Tile Links (14 R428, R429, R432, R433, R435 to R437): TRAIN and PRBS_START leave DOWN, PRBS_STOP ends TEST with its counts; a training
step done in its bound leads to the next and the eighth to UP, a third attempt that overruns fails with TL_TRAIN_FAIL; an upstream
frame tells what the tile shows; a message acknowledged leaves, one twice without an acknowledgement faults the link, as a lost block
lock and a wander do; a mask goes out at least 64 µs ahead. -/
def Obligations.TileLinks : Prop :=
  (∀ (r : Requester) (k : Nat) (v : Word) (s : State), k ≤ 11 → Mapped s r → Clocked s (tlCtrl k) →
    (bitsOf v.toNat 4 3 = 3 → ∀ e, exec (.tlTrainWrite r k v) s = answered (s.invalidWrite r (tlCtrl k) v)
      ∧ exec (.tlPrbsStart r k v) s = answered (s.invalidWrite r (tlCtrl k) v)
      ∧ exec (.tlPrbsStop r k v e) s = answered (s.invalidWrite r (tlCtrl k) v))
    ∧ (bitsOf v.toNat 4 3 ≠ 3 → v.getLsbD 0 = true → (s.tile k).state = .down →
      ∃ t, exec (.tlTrainWrite r k v) s = .next t ∧ t.answer = some .done ∧ (t.tile k).state = .training ∧ (t.tile k).step = 1
        ∧ (t.tile k).attempts = 1 ∧ t.get ⟨tlCtrl k, 4, 3⟩ = bitsOf v.toNat 4 3 ∧ (∀ j, j ≠ k → t.tile j = s.tile j)
        ∧ ∀ a, a ≠ tlCtrl k → t.reg a = s.reg a)
    ∧ (bitsOf v.toNat 4 3 ≠ 3 → v.getLsbD 1 = true → (s.tile k).state = .down →
      ∃ t, exec (.tlPrbsStart r k v) s = .next t ∧ t.answer = some .done ∧ (t.tile k).state = .test ∧ (t.tile k).result = 0
        ∧ t.get ⟨tlCtrl k, 4, 3⟩ = bitsOf v.toNat 4 3 ∧ ∀ j, j ≠ k → t.tile j = s.tile j)
    ∧ (bitsOf v.toNat 4 3 ≠ 3 → v.getLsbD 1 = true → (s.tile k).state = .up → s.bind k ≠ none →
      ∃ t, exec (.tlPrbsStart r k v) s = .next t ∧ t.tile k = { s.tile k with result := 0x76 } ∧ t.units = s.units)
    ∧ (bitsOf v.toNat 4 3 ≠ 3 → v.getLsbD 2 = true → (s.tile k).state = .test → ∀ e : List Nat,
      ∃ t, exec (.tlPrbsStop r k v e) s = .next t ∧ t.answer = some .done ∧ (t.tile k).state = .down
        ∧ (t.tile k).prbs = (List.range 5).map (fun l => Nat.min (e.getD l 0) (2 ^ 48 - 1)) ∧ ∀ j, j ≠ k → t.tile j = s.tile j))
  ∧ (∀ (k : Nat) (i : TileInfo) (s : State), (s.tile k).state = .training → s.gated (32 + k) = false →
    s.elapsed ≤ (s.tile k).from_ + us 100 * stepBound (s.tile k).step →
    ((s.tile k).step ∈ [1, 2, 3, 4, 5, 6] →
      ∃ t, exec (.tlTrainStepDone k i) s = .next t ∧ (t.tile k).step = (s.tile k).step + 1 ∧ (t.tile k).state = .training
        ∧ (t.tile k).attempts = (s.tile k).attempts ∧ (∀ j, j ≠ k → t.tile j = s.tile j) ∧ t.regs = s.regs)
    ∧ ((s.tile k).step = 7 → i.version = 1 → i.counts / 65536 % 256 ≠ 0 →
      ∃ t, exec (.tlTrainStepDone k i) s = .next t ∧ (t.tile k).step = 8 ∧ (t.tile k).counts = i.counts % 2 ^ 24
        ∧ (t.tile k).id = i.id.take 8 ∧ ∀ j, j ≠ k → t.tile j = s.tile j)
    ∧ ((s.tile k).step = 8 → (s.unit (3 + k)).held = none →
      ∃ t, exec (.tlTrainStepDone k i) s = .next t ∧ (t.tile k).state = .up ∧ (t.tile k).frame0 = s.ntNs
        ∧ (t.unit (3 + k)).phase = (if 5 ≤ s.grid.mode then .service else .joining) ∧ ∀ j, j ≠ k → t.tile j = s.tile j))
  ∧ (∀ (k : Nat) (s : State), (s.tile k).state = .training → (s.tile k).from_ + us 100 * stepBound (s.tile k).step < s.elapsed →
    ((s.tile k).attempts < 3 →
      ∃ t, exec (.tlTrainStepTimeout k) s = .next t ∧ (t.tile k).attempts = (s.tile k).attempts + 1 ∧ (t.tile k).step = 1
        ∧ (t.tile k).state = .training ∧ t.regs = s.regs)
    ∧ (3 ≤ (s.tile k).attempts →
      ∃ t, exec (.tlTrainStepTimeout k) s = .next t ∧ (t.tile k).state = .down ∧ (t.tile k).result = 0x77))
  ∧ (∀ (k : Nat) (ctl : List Byte) (bad : Nat) (s : State), (s.tile k).state = .up →
    ∃ t, exec (.tlUpstreamFrame k ctl bad) s = .next t ∧ (t.tile k).pretuned = bitOf (fieldLE ctl 1 1) 3
      ∧ (t.tile k).tripPending = bitOf (fieldLE ctl 1 1) 4 ∧ (t.tile k).msgs = (s.tile k).msgs ∧ (t.tile k).state = .up
      ∧ (bitOf (fieldLE ctl 1 1) 2 = true → (t.tile k).lock = some s.elapsed)
      ∧ (bitOf (fieldLE ctl 1 1) 2 = false → (t.tile k).lock = (s.tile k).lock) ∧ ∀ j, j ≠ k → t.tile j = s.tile j)
  ∧ (∀ (k : Nat) (m : TileMsg) (b : List Byte) (s : State), (s.tile k).state = .up → (s.tile k).inMsg = false → (s.tile k).rx = b →
    5 ≤ b.length → fieldLE b 0 1 = 0x81 → fieldLE b 1 1 = 1 → fieldLE b 3 2 = crc16 (b.take 3) →
    (s.tile k).msgs.find? (fun m => m.type == fieldLE (slice b 2 1) 0 1) = some m →
    ∃ t, exec (.tlCtlMessageRx k) s = .next t ∧ (t.tile k).msgs = (s.tile k).msgs.erase m ∧ (t.tile k).rx = []
      ∧ (∀ j, j ≠ k → t.tile j = s.tile j) ∧ t.regs = s.regs)
  ∧ (∀ (k : Nat) (s : State), (s.tile k).state ≠ .up ∨ (s.tile k).inMsg = true ∨ (s.tile k).rx = [] →
    exec (.tlCtlMessageRx k) s = .next s)
  ∧ (∀ (k : Nat) (m : TileMsg) (s : State), (s.tile k).state = .up →
    (s.tile k).msgs.find? (fun m => decide (m.at_ + us 20 ≤ s.elapsed)) = some m → m.sent = 1 →
    ∃ t, exec (.tlCtlAckTimeout k) s = .next t ∧ { m with sent := 2, at_ := s.elapsed } ∈ (t.tile k).msgs
      ∧ (t.tile k).msgs.length = (s.tile k).msgs.length ∧ t.units = s.units ∧ t.regs = s.regs)
  ∧ (∀ (k lane : Nat) (m : TileMsg) (c : Instr) (s : State), k ≤ 11 → (s.tile k).state = .up → (s.unit (3 + k)).held = none →
    ((c = .tlCtlAckTimeout k ∧ (s.tile k).msgs.find? (fun m => decide (m.at_ + us 20 ≤ s.elapsed)) = some m ∧ m.sent ≠ 1)
      ∨ (c = .tlBlockLockLost k lane ∧ lane ≤ 4) ∨ c = .tlWander k) →
    ∃ t, exec c s = .next t ∧ (t.unit (3 + k)).phase = .recovering ∧ (t.tile k).state = .recovering ∧ (t.tile k).msgs = []
      ∧ (∀ u, u ≠ 3 + k → t.unit u = s.unit u) ∧ ∀ j, j ≠ k → t.tile j = s.tile j)
  ∧ ∀ (r : Nat) (of_ : LaunchOf) (l : Launch) (s : State),
    (s.radio r).launches.find? (fun l => l.of_ == of_ && l.outcome.isNone && !l.onAir) = some l →
    exec (.txMaskSend r of_) s = .next (if l.t < s.ntNs + 64000 then s else s.sendMasks r of_ l.t l.chains)

/-! ## The DRAM controller (15 R444 to R457) -/

/-- The DRAM controller (15 R445, R448 to R452, R454 to R457): a request takes an entry of its channel while its port has one, and is refused
where the channel is out of service, and with GATED where its clock is off; a whole write issued is done with it, a read waits; one bad symbol is counted, two or more are
logged; a pause holds the channel, ends with its drift, and beyond 1.2 µs is a fault; channels trained at both rates wait for a
Meridian, and one that failed stops them all with subject 0x0D. -/
def Obligations.DramController : Prop :=
  (∀ (p g off : Nat) (w : Bool) (b : List Byte) (s : State), p ≤ 7 → g < s.granuleCount →
    (w = true → b ≠ [] ∧ off + b.length ≤ 64) → s.gated (20 + channelOf g) = false → s.inService (.dram (channelOf g)) = true →
    (s.dch (channelOf g)).room p = true → Tab.getD s.dram.waiting (channelOf g * 8 + p) [] = [] →
    ∃ t, exec (.dramRequest p g w off b) s = .next t
      ∧ (t.dch (channelOf g)).queue = (s.dch (channelOf g)).queue
          ++ [⟨p, g, bankOf g, rowOf g, w, decide (b.length = 64), s.elapsed, s.dram.nextOrder, false, off, b⟩]
      ∧ t.dram.nextOrder = s.dram.nextOrder + 1 ∧ (∀ c, c ≠ channelOf g → t.dch c = s.dch c) ∧ t.regs = s.regs ∧ t.units = s.units)
  ∧ (∀ (p g off : Nat) (w : Bool) (b : List Byte) (s : State), p ≤ 7 → g < s.granuleCount →
    (w = true → b ≠ [] ∧ off + b.length ≤ 64) → s.gated (20 + channelOf g) = false → s.inService (.dram (channelOf g)) = false →
    exec (.dramRequest p g w off b) s = .next ((s.refuseBy (portUnit p)).dramAnswer p g 0x7D []))
  ∧ (∀ (p g off : Nat) (w : Bool) (b : List Byte) (s : State), p ≤ 7 → g < s.granuleCount →
    (w = true → b ≠ [] ∧ off + b.length ≤ 64) → s.gated (20 + channelOf g) = true →
    exec (.dramRequest p g w off b) s = .next (s.dramAnswer p g 0x0D []))
  ∧ (∀ (c banks : Nat) (q : DramReq) (s : State), s.inService (.dram c) = true → (s.dch c).pause = none → s.dramPick c banks = some q →
    q.write = false ∨ q.whole = false →
    ∃ t, exec (.dramCommandIssue c banks) s = .next t ∧ Tab.get? (t.dch c).rows q.bank = some q.row
      ∧ (t.dch c).queue = (s.dch c).queue.map (fun o => if o.order = q.order
          then { o with sent := true, data := if o.write then o.data else s.granule o.granule } else o)
      ∧ t.dram.granules = s.dram.granules ∧ (∀ d, d ≠ c → t.dch d = s.dch d) ∧ t.regs = s.regs)
  ∧ (∀ (c banks : Nat) (q : DramReq) (s : State), s.inService (.dram c) = true → (s.dch c).pause = none → s.dramPick c banks = some q →
    q.write = true → q.whole = true → (∀ p, p < 8 → Tab.getD s.dram.waiting (c * 8 + p) [] = []) →
    ∃ t, exec (.dramCommandIssue c banks) s = .next t ∧ Tab.get? (t.dch c).rows q.bank = some q.row
      ∧ (∀ o ∈ (t.dch c).queue, o.order ≠ q.order) ∧ (∀ o ∈ (s.dch c).queue, o.order ≠ q.order → o ∈ (t.dch c).queue)
      ∧ (q.data.length = 64 → (s.granule q.granule).length = 64 → t.granule q.granule = q.data)
      ∧ (∀ g, g ≠ q.granule → t.granule g = s.granule g) ∧ Tab.get? t.dram.resp q.port = some ⟨q.granule, 0, []⟩
      ∧ ∀ d, d ≠ c → t.dch d = s.dch d)
  ∧ (∀ (c banks : Nat) (s : State), s.inService (.dram c) = false ∨ (s.dch c).pause ≠ none ∨ s.dramPick c banks = none →
    exec (.dramCommandIssue c banks) s = .next s)
  ∧ (∀ (c g sym rank sc : Nat) (q : DramReq) (s : State), (s.dch c).queue.find? (fun q => q.sent && q.granule == g) = some q →
    (sym = 0 → exec (.dramReadReturn c g sym rank sc) s = .next
        (((if q.write then s.granuleWrite g q.off q.data else s).dramAnswer q.port g 0 (if q.write then [] else q.data)).dramDone c q))
    ∧ (sym = 1 → exec (.dramReadReturn c g sym rank sc) s = .next
        ((((if q.write then s.granuleWrite g q.off q.data else s).dramAnswer q.port g 0 (if q.write then [] else q.data)).dramDone c q).inc
          ⟨0x3C00080 + 4 * c, 15, 0⟩))
    ∧ (2 ≤ sym → ∃ t e, exec (.dramReadReturn c g sym rank sc) s = .next t ∧ t.dram.log = (e :: s.dram.log).take 16
        ∧ e.channel = c ∧ e.rank = rank % 2 ∧ e.subch = sc % 2 ∧ e.bank = q.bank % 16 ∧ e.port = q.port
        ∧ Tab.get? t.dram.resp q.port = some ⟨g, 0x7C, []⟩ ∧ t.dram.granules = s.dram.granules ∧ t.dram.written = (s.dram.written + 1) % 2 ^ 32))
  ∧ (∀ (c : Nat) (s : State), s.inService (.dram c) = true → (∀ d, d < 4 ∨ d = c → (s.dch d).pause = none) → (s.dch c).checkAt ≤ s.elapsed →
    (∀ q ∈ (s.dch c).queue, q.sent = true ∨ s.urgency q ≠ 3) ∨ (s.dch c).checkAt + us 50 ≤ s.elapsed →
    ∃ t, exec (.dramPauseStart c) s = .next t ∧ (t.dch c).pause = some s.elapsed ∧ (t.dch c).queue = (s.dch c).queue
      ∧ (t.dch c).checkAt = (s.dch c).checkAt + ms 4 ∧ (∀ d, d ≠ c → t.dch d = s.dch d) ∧ t.regs = s.regs)
  ∧ (∀ (c t0 : Nat) (drift : Int) (s : State), (s.dch c).pause = some t0 → (s.elapsed - t0) * 5 / 3 ≤ 1200 →
    ∃ t, exec (.dramPauseEnd c drift false) s = .next t ∧ (t.dch c).pause = none ∧ (t.dch c).drift = clampS 8 drift
      ∧ (t.dch c).queue = (s.dch c).queue ∧ (∀ d, d ≠ c → t.dch d = s.dch d) ∧ t.regs = s.regs ∧ t.units = s.units)
  ∧ (∀ (c t0 : Nat) (drift : Int) (s : State), c < 4 → (s.dch c).pause = some t0 → 1200 < (s.elapsed - t0) * 5 / 3 →
    (s.unit (21 + c)).held = none →
    ∃ t, exec (.dramPauseEnd c drift false) s = .next t ∧ (t.unit (21 + c)).phase = .recovering ∧ (t.dch c).queue = []
      ∧ (t.dch c).retraining = true ∧ ∀ d, d ≠ c → t.dch d = s.dch d)
  ∧ (∀ (fast slow : Nat) (s : State), s.recBytes 0x0D01 ≠ [] → (∀ c, c < 4 → s.flag (clkSt (20 + c)) = true) →
    (∃ c, c < 4 ∧ ((s.dch c).trained = false ∨ (s.dch c).selfRefresh = true)) →
    ((∀ c, c < 4 → bitOf fast c = true ∧ bitOf slow c = true) →
      ∃ t, exec (.dramTrainingDone fast slow) s = .next t ∧ t.boot = s.boot ∧ t.regs = s.regs
        ∧ ∀ c, c < 4 → (t.dch c).trained = true ∧ (t.dch c).selfRefresh = false
          ∧ ((s.unit (21 + c)).held = none → (s.unit (21 + c)).phase ≠ .service → (t.unit (21 + c)).phase = s.joinPhase))
    ∧ ((∃ c, c < 4 ∧ (bitOf fast c = false ∨ bitOf slow c = false)) →
      ∃ t, exec (.dramTrainingDone fast slow) s = .next t ∧ t.boot.rejected.contains 0xD = true
        ∧ ∀ c, c < 4 → (t.dch c).trained = false ∧ (t.unit (21 + c)).phase = .reset ∧ t.flag (clkEn (20 + c)) = false))
  ∧ ∀ (c : Nat) (s : State), (s.dch c).retraining = true → (s.unit (21 + c)).phase = .reset → (s.unit (21 + c)).held = none →
    ∃ t, exec (.dramRetrainAfterFault c) s = .next t ∧ (t.dch c).retraining = false ∧ (t.dch c).trained = true
      ∧ (t.unit (21 + c)).phase = s.joinPhase ∧ (∀ d, d ≠ c → t.dch d = s.dch d) ∧ t.regs = s.regs

/-! ## Power, temperature and holds (16 R464 to R476) -/

/-- Power (16 R464, R466, R467, R469 to R473): the ledger admits its head once no rail binds, and an admitted item is up when its ramp ends, a
switched-off one down after its; a head held back 1 ms is reported once; samples keep ten and set the conditions; the trip at T_TRIP is
a device fault; a level rises after 10 ms with its condition and falls after 100 ms without; a hold ends by the host or after
HOLD_RELEASE with its count cleared. What the balls show while RESET_N is low, and in Dormant (17 R484). -/
def Obligations.PowerAndHolds : Prop :=
  (∀ (i : Nat) (rest : List Nat) (s : State), s.power.queue = i :: rest → i < 32 ∨ s.domUp (bandDomain i) = true →
    Tab.has s.power.downing i = false → s.ledgerBinds i s.tick10 = none →
    ∃ t, exec .ledgerAdmit s = .next t ∧ t.power.queue = rest ∧ t.power.headPosted = false ∧ t.power.headSince = s.elapsed
      ∧ t.power.ramping = s.power.ramping ++ [⟨i, s.tick10, s.tick10 + s.rampTicks i⟩] ∧ t.power.up = s.power.up ∧ t.regs = s.regs)
  ∧ (∀ (i : Nat) (rest : List Nat) (s : State), s.power.queue = i :: rest → s.ledgerBinds i s.tick10 ≠ none → exec .ledgerAdmit s = .next s)
  ∧ (∀ (i : Nat) (a : Admitted) (s : State), i < 25 → a ∈ s.power.ramping → a.item = i → a.upAt ≤ s.tick10 →
    ∃ t, exec (.ledgerItemUp i) s = .next t ∧ t.power.up = s.power.up ||| BitVec.ofNat 25 (2 ^ i)
      ∧ t.power.ramping = s.power.ramping.filter (fun a => a.item != i) ∧ t.power.queue = s.power.queue ∧ t.regs = s.regs)
  ∧ (∀ (i : Nat) (a : Admitted) (s : State), 32 ≤ i → a ∈ s.power.ramping → a.item = i → a.upAt ≤ s.tick10 →
    Tab.has s.power.downing i = false →
    exec (.ledgerItemUp i) s = .next
      (({ s with power := { s.power with ramping := s.power.ramping.filter (fun a => a.item != i) } }).chainPowered (i - 32) true))
  ∧ (∀ (i : Nat) (rest : List Nat) (s : State), s.power.queue = i :: rest → s.power.headPosted = false →
    s.power.headSince + ms 1 ≤ s.elapsed →
    ∃ t, exec .ledgerHeadWait s = .next t ∧ t.power = { s.power with headPosted := true }
      ∧ (s.get ⟨0x400040, 15, 0⟩ < 65535 → t.get ⟨0x400040, 15, 0⟩ = s.get ⟨0x400040, 15, 0⟩ + 1))
  ∧ (∀ s : State, s.power.queue = [] ∨ s.power.headPosted = true → exec .ledgerHeadWait s = .next s)
  ∧ (∀ (i t0 : Nat) (s : State), i < 25 → Tab.get? s.power.downing i = some t0 → t0 * 5 + itemRamp i * 3 ≤ s.elapsed * 5 →
    ∃ t, exec (.powerDownComplete i) s = .next t ∧ t.power.up = s.power.up &&& ~~~(BitVec.ofNat 25 (2 ^ i))
      ∧ Tab.get? t.power.downing i = none ∧ (∀ j, j ≠ i → Tab.get? t.power.downing j = Tab.get? s.power.downing j) ∧ t.regs = s.regs)
  ∧ (∀ (amps : List Nat) (temps : List Int) (s : State), s.boot.state = .reset → exec (.powerSample amps) s = .next s
    ∧ (s.boot.wait ≠ .cooldown → exec (.tempSample temps) s = .next s))
  ∧ (∀ (amps : List Nat) (s : State), s.boot.state ≠ .reset → ∃ t, exec (.powerSample amps) s = .next t
      ∧ t.power.samples = (s.power.samples ++ [t.power.mw]).drop (s.power.samples.length + 1 - 10)
      ∧ (t.power.powerHolds = true ↔ ceilingMw s.limitMode < t.power.samples.sum / t.power.samples.length ∧ s.dormant.seq = .none)
      ∧ t.power.powerFrom = (if t.power.powerHolds = s.power.powerHolds then s.power.powerFrom else s.elapsed)
      ∧ t.power.powerLevel = s.power.powerLevel ∧ t.power.thermalLevel = s.power.thermalLevel ∧ t.power.temps = s.power.temps)
  ∧ (∀ (temps : List Int) (s : State), s.boot.state ≠ .reset → s.boot.wait ≠ .cooldown → (hottest temps).1 < 4 * (s.tTrip : Int) →
    ∃ t, exec (.tempSample temps) s = .next t ∧ t.power.temps = temps ∧ t.power.tj = (hottest temps).1
      ∧ (t.power.thermalHolds = true ↔ 4 * (s.tThrottle : Int) ≤ (hottest temps).1
          ∨ (s.power.thermalHolds = true ∧ 4 * (s.tThrottle : Int) - 20 ≤ (hottest temps).1))
      ∧ t.regs = s.regs ∧ t.boot = s.boot ∧ t.units = s.units)
  ∧ (∀ (temps : List Int) (s : State), s.boot.state ≠ .reset → s.boot.wait ≠ .cooldown → 4 * (s.tTrip : Int) ≤ (hottest temps).1 →
    ∃ t, exec (.tempSample temps) s = .next t ∧ t.boot.state = .reset ∧ t.boot.wait = .cooldown
      ∧ t.power.tripThrottle = s.tThrottle ∧ t.fuses = s.fuses ∧ t.pending = s.pending ∧ t.units = [])
  ∧ (∀ (thermal : Bool) (s : State), s.dormant.seq = .none →
    (if thermal = true then s.power.thermalFrom else s.power.powerFrom)
      + (if (if thermal = true then s.power.thermalHolds else s.power.powerHolds) = true then ms 10 else ms 100) ≤ s.elapsed →
    ∃ t, exec (.throttleLevelTimer thermal) s = .next t
      ∧ (if thermal = true then t.power.thermalLevel else t.power.powerLevel)
        = (if (if thermal = true then s.power.thermalHolds else s.power.powerHolds) = true
            then Nat.min 3 ((if thermal = true then s.power.thermalLevel else s.power.powerLevel) + 1)
            else (if thermal = true then s.power.thermalLevel else s.power.powerLevel) - 1)
      ∧ (if thermal = true then t.power.powerLevel = s.power.powerLevel else t.power.thermalLevel = s.power.thermalLevel)
      ∧ t.throttle = Nat.max t.power.powerLevel t.power.thermalLevel ∧ t.units = s.units)
  ∧ (∀ (thermal : Bool) (s : State), s.dormant.seq ≠ .none → exec (.throttleLevelTimer thermal) s = .next s)
  ∧ (∀ (r : Requester) (hf : Bool) (v : Word) (i : Nat) (s : State), Mapped s r → i < (if hf = true then 16 else 26) → v.toNat = 2 ^ i →
    exec (.pwrHoldReleaseWrite r hf v) s = answered (s.releaseUnit (if hf = true then .func i else unitOf i) 0))
  ∧ (∀ (u : FUnit) (nt : Option Nat) (fr : Nat) (s : State), (s.unit u.idx).held = some (nt, fr) → s.get ⟨0x400030, 31, 16⟩ ≠ 0 →
    (match nt with
      | some t => if s.ntValid = true then t + s.get ⟨0x400030, 31, 16⟩ * 1000000000 ≤ s.ntNs else fr + s.get ⟨0x400030, 31, 16⟩ * 1000000000 ≤ s.frNs
      | none => fr + s.get ⟨0x400030, 31, 16⟩ * 1000000000 ≤ s.frNs) →
    ∃ t, exec (.holdReleaseTimer u) s = .next t ∧ (t.unit u.idx).held = none ∧ (t.unit u.idx).faults = [] ∧ t.get (holdBit u) = 0
      ∧ ∀ v, v ≠ u.idx → t.unit v = s.unit v)
  ∧ (∀ (u : FUnit) (s : State), (s.unit u.idx).held = none ∨ s.get ⟨0x400030, 31, 16⟩ = 0 → exec (.holdReleaseTimer u) s = .next s)
  ∧ (∀ s : State, s.boot.resetN = false → s.ball .ppsOut = .low ∧ s.ball .todTx = .highZ ∧ s.ball .uartTx = .highZ
    ∧ s.ball .xspiBus = .highZ ∧ s.ball .xspiCs = .pullUp ∧ s.ball .xspiRst = .low ∧ s.ball .jtagTdo = .highZ ∧ s.ball .smb = .released
    ∧ s.ball .ant = .off ∧ s.ball .meshAnt = .off ∧ ∀ n, s.ball (.gpio n) = .pullDown)
  ∧ ∀ s : State, s.boot.resetN = true → s.dormant.seq = .dormant → s.ball .ppsOut = .low ∧ s.ball .todTx = .high ∧ s.ball .uartTx = .high
    ∧ s.ball .xspiBus = .highZ ∧ s.ball .xspiCs = .pullUp ∧ s.ball .xspiRst = .low ∧ s.ball .smb = .released ∧ s.ball .lanes = .off
    ∧ s.ball .ant = .off
    ∧ ∀ n, s.ball (.gpio n) = (if s.dormantGpio = some n then (if s.power.dormantReq = true then .high else .low) else .pullDown)
end

