-- ==== Sys2Proof/Laws/State.lean ====
section
/-! SUPPORT. What each plain update leaves alone, one lemma for each field of the state, so that no later proof unfolds
a record update. -/

namespace Sys2Proof.Machine

variable (s : State) (a v i : Nat) (w : Word) (p : FieldRef) (x : UnitSt) (u : FUnit) (q : RingSt) (o : Option Nat)
  (bs : List Byte) (l : List Nat) (r : Requester) (kf : KeyFuse) (ks : KeySlot) (wf : WireFrame)
  (gc : List Cmd → List Cmd) (fm : CstMember → CstMember) (fd : DramCh → DramCh) (fs : Sta → Sta) (ff : Frame → Frame)
  (fp : Ppdu → Ppdu) (fh : MeshSt → MeshSt) (fk : PktSt → PktSt) (fr : RadioSt → RadioSt) (fx : RxSt → RxSt)
  (fy : SynSt → SynSt) (fc : ChainSt → ChainSt) (ft : TileSt → TileSt)

@[simp] theorem State.setReg_pending : (s.setReg a w).pending = s.pending := rfl
@[simp] theorem State.setReg_elapsed : (s.setReg a w).elapsed = s.elapsed := rfl
@[simp] theorem State.setReg_fresh : (s.setReg a w).fresh = s.fresh := rfl
@[simp] theorem State.setReg_answer : (s.setReg a w).answer = s.answer := rfl
@[simp] theorem State.setReg_staged : (s.setReg a w).staged = s.staged := rfl
@[simp] theorem State.setReg_caps : (s.setReg a w).caps = s.caps := rfl
@[simp] theorem State.setReg_sels : (s.setReg a w).sels = s.sels := rfl
@[simp] theorem State.setReg_units : (s.setReg a w).units = s.units := rfl
@[simp] theorem State.setReg_rejects : (s.setReg a w).rejects = s.rejects := rfl
@[simp] theorem State.setReg_fuses : (s.setReg a w).fuses = s.fuses := rfl
@[simp] theorem State.setReg_flash : (s.setReg a w).flash = s.flash := rfl
@[simp] theorem State.setReg_log : (s.setReg a w).log = s.log := rfl
@[simp] theorem State.setReg_boot : (s.setReg a w).boot = s.boot := rfl
@[simp] theorem State.setReg_clocks : (s.setReg a w).clocks = s.clocks := rfl
@[simp] theorem State.setReg_time : (s.setReg a w).time = s.time := rfl
@[simp] theorem State.setReg_grid : (s.setReg a w).grid = s.grid := rfl
@[simp] theorem State.setReg_commit : (s.setReg a w).commit = s.commit := rfl
@[simp] theorem State.setReg_dormant : (s.setReg a w).dormant = s.dormant := rfl
@[simp] theorem State.setReg_host : (s.setReg a w).host = s.host := rfl
@[simp] theorem State.setReg_tasks : (s.setReg a w).tasks = s.tasks := rfl
@[simp] theorem State.setReg_power : (s.setReg a w).power = s.power := rfl
@[simp] theorem State.setReg_radios : (s.setReg a w).radios = s.radios := rfl
@[simp] theorem State.setReg_chains : (s.setReg a w).chains = s.chains := rfl
@[simp] theorem State.setReg_mac : (s.setReg a w).mac = s.mac := rfl
@[simp] theorem State.setReg_cipher : (s.setReg a w).cipher = s.cipher := rfl
@[simp] theorem State.setReg_cst : (s.setReg a w).cst = s.cst := rfl
@[simp] theorem State.setReg_wired : (s.setReg a w).wired = s.wired := rfl
@[simp] theorem State.setReg_mesh : (s.setReg a w).mesh = s.mesh := rfl
@[simp] theorem State.setReg_fifos : (s.setReg a w).fifos = s.fifos := rfl
@[simp] theorem State.setReg_overflows : (s.setReg a w).overflows = s.overflows := rfl
@[simp] theorem State.setReg_pkt : (s.setReg a w).pkt = s.pkt := rfl
@[simp] theorem State.setReg_eth : (s.setReg a w).eth = s.eth := rfl
@[simp] theorem State.setReg_tiles : (s.setReg a w).tiles = s.tiles := rfl
@[simp] theorem State.setReg_dram : (s.setReg a w).dram = s.dram := rfl

@[simp] theorem State.setSreg_pending : (s.setSreg a w).pending = s.pending := rfl
@[simp] theorem State.setSreg_elapsed : (s.setSreg a w).elapsed = s.elapsed := rfl
@[simp] theorem State.setSreg_fresh : (s.setSreg a w).fresh = s.fresh := rfl
@[simp] theorem State.setSreg_answer : (s.setSreg a w).answer = s.answer := rfl
@[simp] theorem State.setSreg_regs : (s.setSreg a w).regs = s.regs := rfl
@[simp] theorem State.setSreg_caps : (s.setSreg a w).caps = s.caps := rfl
@[simp] theorem State.setSreg_sels : (s.setSreg a w).sels = s.sels := rfl
@[simp] theorem State.setSreg_units : (s.setSreg a w).units = s.units := rfl
@[simp] theorem State.setSreg_rejects : (s.setSreg a w).rejects = s.rejects := rfl
@[simp] theorem State.setSreg_fuses : (s.setSreg a w).fuses = s.fuses := rfl
@[simp] theorem State.setSreg_flash : (s.setSreg a w).flash = s.flash := rfl
@[simp] theorem State.setSreg_log : (s.setSreg a w).log = s.log := rfl
@[simp] theorem State.setSreg_boot : (s.setSreg a w).boot = s.boot := rfl
@[simp] theorem State.setSreg_clocks : (s.setSreg a w).clocks = s.clocks := rfl
@[simp] theorem State.setSreg_time : (s.setSreg a w).time = s.time := rfl
@[simp] theorem State.setSreg_grid : (s.setSreg a w).grid = s.grid := rfl
@[simp] theorem State.setSreg_commit : (s.setSreg a w).commit = s.commit := rfl
@[simp] theorem State.setSreg_dormant : (s.setSreg a w).dormant = s.dormant := rfl
@[simp] theorem State.setSreg_host : (s.setSreg a w).host = s.host := rfl
@[simp] theorem State.setSreg_tasks : (s.setSreg a w).tasks = s.tasks := rfl
@[simp] theorem State.setSreg_power : (s.setSreg a w).power = s.power := rfl
@[simp] theorem State.setSreg_radios : (s.setSreg a w).radios = s.radios := rfl
@[simp] theorem State.setSreg_chains : (s.setSreg a w).chains = s.chains := rfl
@[simp] theorem State.setSreg_mac : (s.setSreg a w).mac = s.mac := rfl
@[simp] theorem State.setSreg_cipher : (s.setSreg a w).cipher = s.cipher := rfl
@[simp] theorem State.setSreg_cst : (s.setSreg a w).cst = s.cst := rfl
@[simp] theorem State.setSreg_wired : (s.setSreg a w).wired = s.wired := rfl
@[simp] theorem State.setSreg_mesh : (s.setSreg a w).mesh = s.mesh := rfl
@[simp] theorem State.setSreg_fifos : (s.setSreg a w).fifos = s.fifos := rfl
@[simp] theorem State.setSreg_overflows : (s.setSreg a w).overflows = s.overflows := rfl
@[simp] theorem State.setSreg_pkt : (s.setSreg a w).pkt = s.pkt := rfl
@[simp] theorem State.setSreg_eth : (s.setSreg a w).eth = s.eth := rfl
@[simp] theorem State.setSreg_tiles : (s.setSreg a w).tiles = s.tiles := rfl
@[simp] theorem State.setSreg_dram : (s.setSreg a w).dram = s.dram := rfl

@[simp] theorem State.put_pending : (s.put p v).pending = s.pending := rfl
@[simp] theorem State.put_elapsed : (s.put p v).elapsed = s.elapsed := rfl
@[simp] theorem State.put_fresh : (s.put p v).fresh = s.fresh := rfl
@[simp] theorem State.put_answer : (s.put p v).answer = s.answer := rfl
@[simp] theorem State.put_staged : (s.put p v).staged = s.staged := rfl
@[simp] theorem State.put_caps : (s.put p v).caps = s.caps := rfl
@[simp] theorem State.put_sels : (s.put p v).sels = s.sels := rfl
@[simp] theorem State.put_units : (s.put p v).units = s.units := rfl
@[simp] theorem State.put_rejects : (s.put p v).rejects = s.rejects := rfl
@[simp] theorem State.put_fuses : (s.put p v).fuses = s.fuses := rfl
@[simp] theorem State.put_flash : (s.put p v).flash = s.flash := rfl
@[simp] theorem State.put_log : (s.put p v).log = s.log := rfl
@[simp] theorem State.put_boot : (s.put p v).boot = s.boot := rfl
@[simp] theorem State.put_clocks : (s.put p v).clocks = s.clocks := rfl
@[simp] theorem State.put_time : (s.put p v).time = s.time := rfl
@[simp] theorem State.put_grid : (s.put p v).grid = s.grid := rfl
@[simp] theorem State.put_commit : (s.put p v).commit = s.commit := rfl
@[simp] theorem State.put_dormant : (s.put p v).dormant = s.dormant := rfl
@[simp] theorem State.put_host : (s.put p v).host = s.host := rfl
@[simp] theorem State.put_tasks : (s.put p v).tasks = s.tasks := rfl
@[simp] theorem State.put_power : (s.put p v).power = s.power := rfl
@[simp] theorem State.put_radios : (s.put p v).radios = s.radios := rfl
@[simp] theorem State.put_chains : (s.put p v).chains = s.chains := rfl
@[simp] theorem State.put_mac : (s.put p v).mac = s.mac := rfl
@[simp] theorem State.put_cipher : (s.put p v).cipher = s.cipher := rfl
@[simp] theorem State.put_cst : (s.put p v).cst = s.cst := rfl
@[simp] theorem State.put_wired : (s.put p v).wired = s.wired := rfl
@[simp] theorem State.put_mesh : (s.put p v).mesh = s.mesh := rfl
@[simp] theorem State.put_fifos : (s.put p v).fifos = s.fifos := rfl
@[simp] theorem State.put_overflows : (s.put p v).overflows = s.overflows := rfl
@[simp] theorem State.put_pkt : (s.put p v).pkt = s.pkt := rfl
@[simp] theorem State.put_eth : (s.put p v).eth = s.eth := rfl
@[simp] theorem State.put_tiles : (s.put p v).tiles = s.tiles := rfl
@[simp] theorem State.put_dram : (s.put p v).dram = s.dram := rfl

@[simp] theorem State.sput_pending : (s.sput p v).pending = s.pending := rfl
@[simp] theorem State.sput_elapsed : (s.sput p v).elapsed = s.elapsed := rfl
@[simp] theorem State.sput_fresh : (s.sput p v).fresh = s.fresh := rfl
@[simp] theorem State.sput_answer : (s.sput p v).answer = s.answer := rfl
@[simp] theorem State.sput_regs : (s.sput p v).regs = s.regs := rfl
@[simp] theorem State.sput_caps : (s.sput p v).caps = s.caps := rfl
@[simp] theorem State.sput_sels : (s.sput p v).sels = s.sels := rfl
@[simp] theorem State.sput_units : (s.sput p v).units = s.units := rfl
@[simp] theorem State.sput_rejects : (s.sput p v).rejects = s.rejects := rfl
@[simp] theorem State.sput_fuses : (s.sput p v).fuses = s.fuses := rfl
@[simp] theorem State.sput_flash : (s.sput p v).flash = s.flash := rfl
@[simp] theorem State.sput_log : (s.sput p v).log = s.log := rfl
@[simp] theorem State.sput_boot : (s.sput p v).boot = s.boot := rfl
@[simp] theorem State.sput_clocks : (s.sput p v).clocks = s.clocks := rfl
@[simp] theorem State.sput_time : (s.sput p v).time = s.time := rfl
@[simp] theorem State.sput_grid : (s.sput p v).grid = s.grid := rfl
@[simp] theorem State.sput_commit : (s.sput p v).commit = s.commit := rfl
@[simp] theorem State.sput_dormant : (s.sput p v).dormant = s.dormant := rfl
@[simp] theorem State.sput_host : (s.sput p v).host = s.host := rfl
@[simp] theorem State.sput_tasks : (s.sput p v).tasks = s.tasks := rfl
@[simp] theorem State.sput_power : (s.sput p v).power = s.power := rfl
@[simp] theorem State.sput_radios : (s.sput p v).radios = s.radios := rfl
@[simp] theorem State.sput_chains : (s.sput p v).chains = s.chains := rfl
@[simp] theorem State.sput_mac : (s.sput p v).mac = s.mac := rfl
@[simp] theorem State.sput_cipher : (s.sput p v).cipher = s.cipher := rfl
@[simp] theorem State.sput_cst : (s.sput p v).cst = s.cst := rfl
@[simp] theorem State.sput_wired : (s.sput p v).wired = s.wired := rfl
@[simp] theorem State.sput_mesh : (s.sput p v).mesh = s.mesh := rfl
@[simp] theorem State.sput_fifos : (s.sput p v).fifos = s.fifos := rfl
@[simp] theorem State.sput_overflows : (s.sput p v).overflows = s.overflows := rfl
@[simp] theorem State.sput_pkt : (s.sput p v).pkt = s.pkt := rfl
@[simp] theorem State.sput_eth : (s.sput p v).eth = s.eth := rfl
@[simp] theorem State.sput_tiles : (s.sput p v).tiles = s.tiles := rfl
@[simp] theorem State.sput_dram : (s.sput p v).dram = s.dram := rfl

@[simp] theorem State.incSat_pending : (s.incSat p).pending = s.pending := rfl
@[simp] theorem State.incSat_elapsed : (s.incSat p).elapsed = s.elapsed := rfl
@[simp] theorem State.incSat_fresh : (s.incSat p).fresh = s.fresh := rfl
@[simp] theorem State.incSat_answer : (s.incSat p).answer = s.answer := rfl
@[simp] theorem State.incSat_staged : (s.incSat p).staged = s.staged := rfl
@[simp] theorem State.incSat_caps : (s.incSat p).caps = s.caps := rfl
@[simp] theorem State.incSat_sels : (s.incSat p).sels = s.sels := rfl
@[simp] theorem State.incSat_units : (s.incSat p).units = s.units := rfl
@[simp] theorem State.incSat_rejects : (s.incSat p).rejects = s.rejects := rfl
@[simp] theorem State.incSat_fuses : (s.incSat p).fuses = s.fuses := rfl
@[simp] theorem State.incSat_flash : (s.incSat p).flash = s.flash := rfl
@[simp] theorem State.incSat_log : (s.incSat p).log = s.log := rfl
@[simp] theorem State.incSat_boot : (s.incSat p).boot = s.boot := rfl
@[simp] theorem State.incSat_clocks : (s.incSat p).clocks = s.clocks := rfl
@[simp] theorem State.incSat_time : (s.incSat p).time = s.time := rfl
@[simp] theorem State.incSat_grid : (s.incSat p).grid = s.grid := rfl
@[simp] theorem State.incSat_commit : (s.incSat p).commit = s.commit := rfl
@[simp] theorem State.incSat_dormant : (s.incSat p).dormant = s.dormant := rfl
@[simp] theorem State.incSat_host : (s.incSat p).host = s.host := rfl
@[simp] theorem State.incSat_tasks : (s.incSat p).tasks = s.tasks := rfl
@[simp] theorem State.incSat_power : (s.incSat p).power = s.power := rfl
@[simp] theorem State.incSat_radios : (s.incSat p).radios = s.radios := rfl
@[simp] theorem State.incSat_chains : (s.incSat p).chains = s.chains := rfl
@[simp] theorem State.incSat_mac : (s.incSat p).mac = s.mac := rfl
@[simp] theorem State.incSat_cipher : (s.incSat p).cipher = s.cipher := rfl
@[simp] theorem State.incSat_cst : (s.incSat p).cst = s.cst := rfl
@[simp] theorem State.incSat_wired : (s.incSat p).wired = s.wired := rfl
@[simp] theorem State.incSat_mesh : (s.incSat p).mesh = s.mesh := rfl
@[simp] theorem State.incSat_fifos : (s.incSat p).fifos = s.fifos := rfl
@[simp] theorem State.incSat_overflows : (s.incSat p).overflows = s.overflows := rfl
@[simp] theorem State.incSat_pkt : (s.incSat p).pkt = s.pkt := rfl
@[simp] theorem State.incSat_eth : (s.incSat p).eth = s.eth := rfl
@[simp] theorem State.incSat_tiles : (s.incSat p).tiles = s.tiles := rfl
@[simp] theorem State.incSat_dram : (s.incSat p).dram = s.dram := rfl

@[simp] theorem State.put64_pending : (s.put64 a v).pending = s.pending := rfl
@[simp] theorem State.put64_elapsed : (s.put64 a v).elapsed = s.elapsed := rfl
@[simp] theorem State.put64_fresh : (s.put64 a v).fresh = s.fresh := rfl
@[simp] theorem State.put64_answer : (s.put64 a v).answer = s.answer := rfl
@[simp] theorem State.put64_staged : (s.put64 a v).staged = s.staged := rfl
@[simp] theorem State.put64_caps : (s.put64 a v).caps = s.caps := rfl
@[simp] theorem State.put64_sels : (s.put64 a v).sels = s.sels := rfl
@[simp] theorem State.put64_units : (s.put64 a v).units = s.units := rfl
@[simp] theorem State.put64_rejects : (s.put64 a v).rejects = s.rejects := rfl
@[simp] theorem State.put64_fuses : (s.put64 a v).fuses = s.fuses := rfl
@[simp] theorem State.put64_flash : (s.put64 a v).flash = s.flash := rfl
@[simp] theorem State.put64_log : (s.put64 a v).log = s.log := rfl
@[simp] theorem State.put64_boot : (s.put64 a v).boot = s.boot := rfl
@[simp] theorem State.put64_clocks : (s.put64 a v).clocks = s.clocks := rfl
@[simp] theorem State.put64_time : (s.put64 a v).time = s.time := rfl
@[simp] theorem State.put64_grid : (s.put64 a v).grid = s.grid := rfl
@[simp] theorem State.put64_commit : (s.put64 a v).commit = s.commit := rfl
@[simp] theorem State.put64_dormant : (s.put64 a v).dormant = s.dormant := rfl
@[simp] theorem State.put64_host : (s.put64 a v).host = s.host := rfl
@[simp] theorem State.put64_tasks : (s.put64 a v).tasks = s.tasks := rfl
@[simp] theorem State.put64_power : (s.put64 a v).power = s.power := rfl
@[simp] theorem State.put64_radios : (s.put64 a v).radios = s.radios := rfl
@[simp] theorem State.put64_chains : (s.put64 a v).chains = s.chains := rfl
@[simp] theorem State.put64_mac : (s.put64 a v).mac = s.mac := rfl
@[simp] theorem State.put64_cipher : (s.put64 a v).cipher = s.cipher := rfl
@[simp] theorem State.put64_cst : (s.put64 a v).cst = s.cst := rfl
@[simp] theorem State.put64_wired : (s.put64 a v).wired = s.wired := rfl
@[simp] theorem State.put64_mesh : (s.put64 a v).mesh = s.mesh := rfl
@[simp] theorem State.put64_fifos : (s.put64 a v).fifos = s.fifos := rfl
@[simp] theorem State.put64_overflows : (s.put64 a v).overflows = s.overflows := rfl
@[simp] theorem State.put64_pkt : (s.put64 a v).pkt = s.pkt := rfl
@[simp] theorem State.put64_eth : (s.put64 a v).eth = s.eth := rfl
@[simp] theorem State.put64_tiles : (s.put64 a v).tiles = s.tiles := rfl
@[simp] theorem State.put64_dram : (s.put64 a v).dram = s.dram := rfl

@[simp] theorem State.inc64_pending : (s.inc64 a).pending = s.pending := rfl
@[simp] theorem State.inc64_elapsed : (s.inc64 a).elapsed = s.elapsed := rfl
@[simp] theorem State.inc64_fresh : (s.inc64 a).fresh = s.fresh := rfl
@[simp] theorem State.inc64_answer : (s.inc64 a).answer = s.answer := rfl
@[simp] theorem State.inc64_staged : (s.inc64 a).staged = s.staged := rfl
@[simp] theorem State.inc64_caps : (s.inc64 a).caps = s.caps := rfl
@[simp] theorem State.inc64_sels : (s.inc64 a).sels = s.sels := rfl
@[simp] theorem State.inc64_units : (s.inc64 a).units = s.units := rfl
@[simp] theorem State.inc64_rejects : (s.inc64 a).rejects = s.rejects := rfl
@[simp] theorem State.inc64_fuses : (s.inc64 a).fuses = s.fuses := rfl
@[simp] theorem State.inc64_flash : (s.inc64 a).flash = s.flash := rfl
@[simp] theorem State.inc64_log : (s.inc64 a).log = s.log := rfl
@[simp] theorem State.inc64_boot : (s.inc64 a).boot = s.boot := rfl
@[simp] theorem State.inc64_clocks : (s.inc64 a).clocks = s.clocks := rfl
@[simp] theorem State.inc64_time : (s.inc64 a).time = s.time := rfl
@[simp] theorem State.inc64_grid : (s.inc64 a).grid = s.grid := rfl
@[simp] theorem State.inc64_commit : (s.inc64 a).commit = s.commit := rfl
@[simp] theorem State.inc64_dormant : (s.inc64 a).dormant = s.dormant := rfl
@[simp] theorem State.inc64_host : (s.inc64 a).host = s.host := rfl
@[simp] theorem State.inc64_tasks : (s.inc64 a).tasks = s.tasks := rfl
@[simp] theorem State.inc64_power : (s.inc64 a).power = s.power := rfl
@[simp] theorem State.inc64_radios : (s.inc64 a).radios = s.radios := rfl
@[simp] theorem State.inc64_chains : (s.inc64 a).chains = s.chains := rfl
@[simp] theorem State.inc64_mac : (s.inc64 a).mac = s.mac := rfl
@[simp] theorem State.inc64_cipher : (s.inc64 a).cipher = s.cipher := rfl
@[simp] theorem State.inc64_cst : (s.inc64 a).cst = s.cst := rfl
@[simp] theorem State.inc64_wired : (s.inc64 a).wired = s.wired := rfl
@[simp] theorem State.inc64_mesh : (s.inc64 a).mesh = s.mesh := rfl
@[simp] theorem State.inc64_fifos : (s.inc64 a).fifos = s.fifos := rfl
@[simp] theorem State.inc64_overflows : (s.inc64 a).overflows = s.overflows := rfl
@[simp] theorem State.inc64_pkt : (s.inc64 a).pkt = s.pkt := rfl
@[simp] theorem State.inc64_eth : (s.inc64 a).eth = s.eth := rfl
@[simp] theorem State.inc64_tiles : (s.inc64 a).tiles = s.tiles := rfl
@[simp] theorem State.inc64_dram : (s.inc64 a).dram = s.dram := rfl

@[simp] theorem State.setUnit_pending : (s.setUnit i x).pending = s.pending := rfl
@[simp] theorem State.setUnit_elapsed : (s.setUnit i x).elapsed = s.elapsed := rfl
@[simp] theorem State.setUnit_fresh : (s.setUnit i x).fresh = s.fresh := rfl
@[simp] theorem State.setUnit_answer : (s.setUnit i x).answer = s.answer := rfl
@[simp] theorem State.setUnit_regs : (s.setUnit i x).regs = s.regs := rfl
@[simp] theorem State.setUnit_staged : (s.setUnit i x).staged = s.staged := rfl
@[simp] theorem State.setUnit_caps : (s.setUnit i x).caps = s.caps := rfl
@[simp] theorem State.setUnit_sels : (s.setUnit i x).sels = s.sels := rfl
@[simp] theorem State.setUnit_rejects : (s.setUnit i x).rejects = s.rejects := rfl
@[simp] theorem State.setUnit_fuses : (s.setUnit i x).fuses = s.fuses := rfl
@[simp] theorem State.setUnit_flash : (s.setUnit i x).flash = s.flash := rfl
@[simp] theorem State.setUnit_log : (s.setUnit i x).log = s.log := rfl
@[simp] theorem State.setUnit_boot : (s.setUnit i x).boot = s.boot := rfl
@[simp] theorem State.setUnit_clocks : (s.setUnit i x).clocks = s.clocks := rfl
@[simp] theorem State.setUnit_time : (s.setUnit i x).time = s.time := rfl
@[simp] theorem State.setUnit_grid : (s.setUnit i x).grid = s.grid := rfl
@[simp] theorem State.setUnit_commit : (s.setUnit i x).commit = s.commit := rfl
@[simp] theorem State.setUnit_dormant : (s.setUnit i x).dormant = s.dormant := rfl
@[simp] theorem State.setUnit_host : (s.setUnit i x).host = s.host := rfl
@[simp] theorem State.setUnit_tasks : (s.setUnit i x).tasks = s.tasks := rfl
@[simp] theorem State.setUnit_power : (s.setUnit i x).power = s.power := rfl
@[simp] theorem State.setUnit_radios : (s.setUnit i x).radios = s.radios := rfl
@[simp] theorem State.setUnit_chains : (s.setUnit i x).chains = s.chains := rfl
@[simp] theorem State.setUnit_mac : (s.setUnit i x).mac = s.mac := rfl
@[simp] theorem State.setUnit_cipher : (s.setUnit i x).cipher = s.cipher := rfl
@[simp] theorem State.setUnit_cst : (s.setUnit i x).cst = s.cst := rfl
@[simp] theorem State.setUnit_wired : (s.setUnit i x).wired = s.wired := rfl
@[simp] theorem State.setUnit_mesh : (s.setUnit i x).mesh = s.mesh := rfl
@[simp] theorem State.setUnit_fifos : (s.setUnit i x).fifos = s.fifos := rfl
@[simp] theorem State.setUnit_overflows : (s.setUnit i x).overflows = s.overflows := rfl
@[simp] theorem State.setUnit_pkt : (s.setUnit i x).pkt = s.pkt := rfl
@[simp] theorem State.setUnit_eth : (s.setUnit i x).eth = s.eth := rfl
@[simp] theorem State.setUnit_tiles : (s.setUnit i x).tiles = s.tiles := rfl
@[simp] theorem State.setUnit_dram : (s.setUnit i x).dram = s.dram := rfl

@[simp] theorem State.refuseAt_pending : (s.refuseAt u).pending = s.pending := rfl
@[simp] theorem State.refuseAt_elapsed : (s.refuseAt u).elapsed = s.elapsed := rfl
@[simp] theorem State.refuseAt_fresh : (s.refuseAt u).fresh = s.fresh := rfl
@[simp] theorem State.refuseAt_answer : (s.refuseAt u).answer = s.answer := rfl
@[simp] theorem State.refuseAt_regs : (s.refuseAt u).regs = s.regs := rfl
@[simp] theorem State.refuseAt_staged : (s.refuseAt u).staged = s.staged := rfl
@[simp] theorem State.refuseAt_caps : (s.refuseAt u).caps = s.caps := rfl
@[simp] theorem State.refuseAt_sels : (s.refuseAt u).sels = s.sels := rfl
@[simp] theorem State.refuseAt_rejects : (s.refuseAt u).rejects = s.rejects := rfl
@[simp] theorem State.refuseAt_fuses : (s.refuseAt u).fuses = s.fuses := rfl
@[simp] theorem State.refuseAt_flash : (s.refuseAt u).flash = s.flash := rfl
@[simp] theorem State.refuseAt_log : (s.refuseAt u).log = s.log := rfl
@[simp] theorem State.refuseAt_boot : (s.refuseAt u).boot = s.boot := rfl
@[simp] theorem State.refuseAt_clocks : (s.refuseAt u).clocks = s.clocks := rfl
@[simp] theorem State.refuseAt_time : (s.refuseAt u).time = s.time := rfl
@[simp] theorem State.refuseAt_grid : (s.refuseAt u).grid = s.grid := rfl
@[simp] theorem State.refuseAt_commit : (s.refuseAt u).commit = s.commit := rfl
@[simp] theorem State.refuseAt_dormant : (s.refuseAt u).dormant = s.dormant := rfl
@[simp] theorem State.refuseAt_host : (s.refuseAt u).host = s.host := rfl
@[simp] theorem State.refuseAt_tasks : (s.refuseAt u).tasks = s.tasks := rfl
@[simp] theorem State.refuseAt_power : (s.refuseAt u).power = s.power := rfl
@[simp] theorem State.refuseAt_radios : (s.refuseAt u).radios = s.radios := rfl
@[simp] theorem State.refuseAt_chains : (s.refuseAt u).chains = s.chains := rfl
@[simp] theorem State.refuseAt_mac : (s.refuseAt u).mac = s.mac := rfl
@[simp] theorem State.refuseAt_cipher : (s.refuseAt u).cipher = s.cipher := rfl
@[simp] theorem State.refuseAt_cst : (s.refuseAt u).cst = s.cst := rfl
@[simp] theorem State.refuseAt_wired : (s.refuseAt u).wired = s.wired := rfl
@[simp] theorem State.refuseAt_mesh : (s.refuseAt u).mesh = s.mesh := rfl
@[simp] theorem State.refuseAt_fifos : (s.refuseAt u).fifos = s.fifos := rfl
@[simp] theorem State.refuseAt_overflows : (s.refuseAt u).overflows = s.overflows := rfl
@[simp] theorem State.refuseAt_pkt : (s.refuseAt u).pkt = s.pkt := rfl
@[simp] theorem State.refuseAt_eth : (s.refuseAt u).eth = s.eth := rfl
@[simp] theorem State.refuseAt_tiles : (s.refuseAt u).tiles = s.tiles := rfl
@[simp] theorem State.refuseAt_dram : (s.refuseAt u).dram = s.dram := rfl

@[simp] theorem State.setRing_pending : (s.setRing a q).pending = s.pending := rfl
@[simp] theorem State.setRing_elapsed : (s.setRing a q).elapsed = s.elapsed := rfl
@[simp] theorem State.setRing_fresh : (s.setRing a q).fresh = s.fresh := rfl
@[simp] theorem State.setRing_answer : (s.setRing a q).answer = s.answer := rfl
@[simp] theorem State.setRing_regs : (s.setRing a q).regs = s.regs := rfl
@[simp] theorem State.setRing_staged : (s.setRing a q).staged = s.staged := rfl
@[simp] theorem State.setRing_caps : (s.setRing a q).caps = s.caps := rfl
@[simp] theorem State.setRing_sels : (s.setRing a q).sels = s.sels := rfl
@[simp] theorem State.setRing_units : (s.setRing a q).units = s.units := rfl
@[simp] theorem State.setRing_rejects : (s.setRing a q).rejects = s.rejects := rfl
@[simp] theorem State.setRing_fuses : (s.setRing a q).fuses = s.fuses := rfl
@[simp] theorem State.setRing_flash : (s.setRing a q).flash = s.flash := rfl
@[simp] theorem State.setRing_log : (s.setRing a q).log = s.log := rfl
@[simp] theorem State.setRing_boot : (s.setRing a q).boot = s.boot := rfl
@[simp] theorem State.setRing_clocks : (s.setRing a q).clocks = s.clocks := rfl
@[simp] theorem State.setRing_time : (s.setRing a q).time = s.time := rfl
@[simp] theorem State.setRing_grid : (s.setRing a q).grid = s.grid := rfl
@[simp] theorem State.setRing_commit : (s.setRing a q).commit = s.commit := rfl
@[simp] theorem State.setRing_dormant : (s.setRing a q).dormant = s.dormant := rfl
@[simp] theorem State.setRing_tasks : (s.setRing a q).tasks = s.tasks := rfl
@[simp] theorem State.setRing_power : (s.setRing a q).power = s.power := rfl
@[simp] theorem State.setRing_radios : (s.setRing a q).radios = s.radios := rfl
@[simp] theorem State.setRing_chains : (s.setRing a q).chains = s.chains := rfl
@[simp] theorem State.setRing_mac : (s.setRing a q).mac = s.mac := rfl
@[simp] theorem State.setRing_cipher : (s.setRing a q).cipher = s.cipher := rfl
@[simp] theorem State.setRing_cst : (s.setRing a q).cst = s.cst := rfl
@[simp] theorem State.setRing_wired : (s.setRing a q).wired = s.wired := rfl
@[simp] theorem State.setRing_mesh : (s.setRing a q).mesh = s.mesh := rfl
@[simp] theorem State.setRing_fifos : (s.setRing a q).fifos = s.fifos := rfl
@[simp] theorem State.setRing_overflows : (s.setRing a q).overflows = s.overflows := rfl
@[simp] theorem State.setRing_pkt : (s.setRing a q).pkt = s.pkt := rfl
@[simp] theorem State.setRing_eth : (s.setRing a q).eth = s.eth := rfl
@[simp] theorem State.setRing_tiles : (s.setRing a q).tiles = s.tiles := rfl
@[simp] theorem State.setRing_dram : (s.setRing a q).dram = s.dram := rfl

@[simp] theorem State.raiseVector_pending : (s.raiseVector a v).pending = s.pending := rfl
@[simp] theorem State.raiseVector_elapsed : (s.raiseVector a v).elapsed = s.elapsed := rfl
@[simp] theorem State.raiseVector_fresh : (s.raiseVector a v).fresh = s.fresh := rfl
@[simp] theorem State.raiseVector_answer : (s.raiseVector a v).answer = s.answer := rfl
@[simp] theorem State.raiseVector_regs : (s.raiseVector a v).regs = s.regs := rfl
@[simp] theorem State.raiseVector_staged : (s.raiseVector a v).staged = s.staged := rfl
@[simp] theorem State.raiseVector_caps : (s.raiseVector a v).caps = s.caps := rfl
@[simp] theorem State.raiseVector_sels : (s.raiseVector a v).sels = s.sels := rfl
@[simp] theorem State.raiseVector_units : (s.raiseVector a v).units = s.units := rfl
@[simp] theorem State.raiseVector_rejects : (s.raiseVector a v).rejects = s.rejects := rfl
@[simp] theorem State.raiseVector_fuses : (s.raiseVector a v).fuses = s.fuses := rfl
@[simp] theorem State.raiseVector_flash : (s.raiseVector a v).flash = s.flash := rfl
@[simp] theorem State.raiseVector_log : (s.raiseVector a v).log = s.log := rfl
@[simp] theorem State.raiseVector_boot : (s.raiseVector a v).boot = s.boot := rfl
@[simp] theorem State.raiseVector_clocks : (s.raiseVector a v).clocks = s.clocks := rfl
@[simp] theorem State.raiseVector_time : (s.raiseVector a v).time = s.time := rfl
@[simp] theorem State.raiseVector_grid : (s.raiseVector a v).grid = s.grid := rfl
@[simp] theorem State.raiseVector_commit : (s.raiseVector a v).commit = s.commit := rfl
@[simp] theorem State.raiseVector_dormant : (s.raiseVector a v).dormant = s.dormant := rfl
@[simp] theorem State.raiseVector_tasks : (s.raiseVector a v).tasks = s.tasks := rfl
@[simp] theorem State.raiseVector_power : (s.raiseVector a v).power = s.power := rfl
@[simp] theorem State.raiseVector_radios : (s.raiseVector a v).radios = s.radios := rfl
@[simp] theorem State.raiseVector_chains : (s.raiseVector a v).chains = s.chains := rfl
@[simp] theorem State.raiseVector_mac : (s.raiseVector a v).mac = s.mac := rfl
@[simp] theorem State.raiseVector_cipher : (s.raiseVector a v).cipher = s.cipher := rfl
@[simp] theorem State.raiseVector_cst : (s.raiseVector a v).cst = s.cst := rfl
@[simp] theorem State.raiseVector_wired : (s.raiseVector a v).wired = s.wired := rfl
@[simp] theorem State.raiseVector_mesh : (s.raiseVector a v).mesh = s.mesh := rfl
@[simp] theorem State.raiseVector_fifos : (s.raiseVector a v).fifos = s.fifos := rfl
@[simp] theorem State.raiseVector_overflows : (s.raiseVector a v).overflows = s.overflows := rfl
@[simp] theorem State.raiseVector_pkt : (s.raiseVector a v).pkt = s.pkt := rfl
@[simp] theorem State.raiseVector_eth : (s.raiseVector a v).eth = s.eth := rfl
@[simp] theorem State.raiseVector_tiles : (s.raiseVector a v).tiles = s.tiles := rfl
@[simp] theorem State.raiseVector_dram : (s.raiseVector a v).dram = s.dram := rfl

@[simp] theorem State.mapCmds_pending : (s.mapCmds gc).pending = s.pending := rfl
@[simp] theorem State.mapCmds_elapsed : (s.mapCmds gc).elapsed = s.elapsed := rfl
@[simp] theorem State.mapCmds_fresh : (s.mapCmds gc).fresh = s.fresh := rfl
@[simp] theorem State.mapCmds_answer : (s.mapCmds gc).answer = s.answer := rfl
@[simp] theorem State.mapCmds_regs : (s.mapCmds gc).regs = s.regs := rfl
@[simp] theorem State.mapCmds_staged : (s.mapCmds gc).staged = s.staged := rfl
@[simp] theorem State.mapCmds_caps : (s.mapCmds gc).caps = s.caps := rfl
@[simp] theorem State.mapCmds_sels : (s.mapCmds gc).sels = s.sels := rfl
@[simp] theorem State.mapCmds_units : (s.mapCmds gc).units = s.units := rfl
@[simp] theorem State.mapCmds_rejects : (s.mapCmds gc).rejects = s.rejects := rfl
@[simp] theorem State.mapCmds_fuses : (s.mapCmds gc).fuses = s.fuses := rfl
@[simp] theorem State.mapCmds_flash : (s.mapCmds gc).flash = s.flash := rfl
@[simp] theorem State.mapCmds_log : (s.mapCmds gc).log = s.log := rfl
@[simp] theorem State.mapCmds_boot : (s.mapCmds gc).boot = s.boot := rfl
@[simp] theorem State.mapCmds_clocks : (s.mapCmds gc).clocks = s.clocks := rfl
@[simp] theorem State.mapCmds_time : (s.mapCmds gc).time = s.time := rfl
@[simp] theorem State.mapCmds_grid : (s.mapCmds gc).grid = s.grid := rfl
@[simp] theorem State.mapCmds_commit : (s.mapCmds gc).commit = s.commit := rfl
@[simp] theorem State.mapCmds_dormant : (s.mapCmds gc).dormant = s.dormant := rfl
@[simp] theorem State.mapCmds_tasks : (s.mapCmds gc).tasks = s.tasks := rfl
@[simp] theorem State.mapCmds_power : (s.mapCmds gc).power = s.power := rfl
@[simp] theorem State.mapCmds_radios : (s.mapCmds gc).radios = s.radios := rfl
@[simp] theorem State.mapCmds_chains : (s.mapCmds gc).chains = s.chains := rfl
@[simp] theorem State.mapCmds_mac : (s.mapCmds gc).mac = s.mac := rfl
@[simp] theorem State.mapCmds_cipher : (s.mapCmds gc).cipher = s.cipher := rfl
@[simp] theorem State.mapCmds_cst : (s.mapCmds gc).cst = s.cst := rfl
@[simp] theorem State.mapCmds_wired : (s.mapCmds gc).wired = s.wired := rfl
@[simp] theorem State.mapCmds_mesh : (s.mapCmds gc).mesh = s.mesh := rfl
@[simp] theorem State.mapCmds_fifos : (s.mapCmds gc).fifos = s.fifos := rfl
@[simp] theorem State.mapCmds_overflows : (s.mapCmds gc).overflows = s.overflows := rfl
@[simp] theorem State.mapCmds_pkt : (s.mapCmds gc).pkt = s.pkt := rfl
@[simp] theorem State.mapCmds_eth : (s.mapCmds gc).eth = s.eth := rfl
@[simp] theorem State.mapCmds_tiles : (s.mapCmds gc).tiles = s.tiles := rfl
@[simp] theorem State.mapCmds_dram : (s.mapCmds gc).dram = s.dram := rfl

@[simp] theorem State.takeUp_pending : (s.takeUp a v o).pending = s.pending := rfl
@[simp] theorem State.takeUp_elapsed : (s.takeUp a v o).elapsed = s.elapsed := rfl
@[simp] theorem State.takeUp_fresh : (s.takeUp a v o).fresh = s.fresh := rfl
@[simp] theorem State.takeUp_answer : (s.takeUp a v o).answer = s.answer := rfl
@[simp] theorem State.takeUp_regs : (s.takeUp a v o).regs = s.regs := rfl
@[simp] theorem State.takeUp_staged : (s.takeUp a v o).staged = s.staged := rfl
@[simp] theorem State.takeUp_caps : (s.takeUp a v o).caps = s.caps := rfl
@[simp] theorem State.takeUp_sels : (s.takeUp a v o).sels = s.sels := rfl
@[simp] theorem State.takeUp_units : (s.takeUp a v o).units = s.units := rfl
@[simp] theorem State.takeUp_rejects : (s.takeUp a v o).rejects = s.rejects := rfl
@[simp] theorem State.takeUp_fuses : (s.takeUp a v o).fuses = s.fuses := rfl
@[simp] theorem State.takeUp_flash : (s.takeUp a v o).flash = s.flash := rfl
@[simp] theorem State.takeUp_log : (s.takeUp a v o).log = s.log := rfl
@[simp] theorem State.takeUp_boot : (s.takeUp a v o).boot = s.boot := rfl
@[simp] theorem State.takeUp_clocks : (s.takeUp a v o).clocks = s.clocks := rfl
@[simp] theorem State.takeUp_time : (s.takeUp a v o).time = s.time := rfl
@[simp] theorem State.takeUp_grid : (s.takeUp a v o).grid = s.grid := rfl
@[simp] theorem State.takeUp_commit : (s.takeUp a v o).commit = s.commit := rfl
@[simp] theorem State.takeUp_dormant : (s.takeUp a v o).dormant = s.dormant := rfl
@[simp] theorem State.takeUp_tasks : (s.takeUp a v o).tasks = s.tasks := rfl
@[simp] theorem State.takeUp_power : (s.takeUp a v o).power = s.power := rfl
@[simp] theorem State.takeUp_radios : (s.takeUp a v o).radios = s.radios := rfl
@[simp] theorem State.takeUp_chains : (s.takeUp a v o).chains = s.chains := rfl
@[simp] theorem State.takeUp_mac : (s.takeUp a v o).mac = s.mac := rfl
@[simp] theorem State.takeUp_cipher : (s.takeUp a v o).cipher = s.cipher := rfl
@[simp] theorem State.takeUp_cst : (s.takeUp a v o).cst = s.cst := rfl
@[simp] theorem State.takeUp_wired : (s.takeUp a v o).wired = s.wired := rfl
@[simp] theorem State.takeUp_mesh : (s.takeUp a v o).mesh = s.mesh := rfl
@[simp] theorem State.takeUp_fifos : (s.takeUp a v o).fifos = s.fifos := rfl
@[simp] theorem State.takeUp_overflows : (s.takeUp a v o).overflows = s.overflows := rfl
@[simp] theorem State.takeUp_pkt : (s.takeUp a v o).pkt = s.pkt := rfl
@[simp] theorem State.takeUp_eth : (s.takeUp a v o).eth = s.eth := rfl
@[simp] theorem State.takeUp_tiles : (s.takeUp a v o).tiles = s.tiles := rfl
@[simp] theorem State.takeUp_dram : (s.takeUp a v o).dram = s.dram := rfl

@[simp] theorem State.reached_pending : (s.reached a v i).pending = s.pending := rfl
@[simp] theorem State.reached_elapsed : (s.reached a v i).elapsed = s.elapsed := rfl
@[simp] theorem State.reached_fresh : (s.reached a v i).fresh = s.fresh := rfl
@[simp] theorem State.reached_answer : (s.reached a v i).answer = s.answer := rfl
@[simp] theorem State.reached_regs : (s.reached a v i).regs = s.regs := rfl
@[simp] theorem State.reached_staged : (s.reached a v i).staged = s.staged := rfl
@[simp] theorem State.reached_caps : (s.reached a v i).caps = s.caps := rfl
@[simp] theorem State.reached_sels : (s.reached a v i).sels = s.sels := rfl
@[simp] theorem State.reached_units : (s.reached a v i).units = s.units := rfl
@[simp] theorem State.reached_rejects : (s.reached a v i).rejects = s.rejects := rfl
@[simp] theorem State.reached_fuses : (s.reached a v i).fuses = s.fuses := rfl
@[simp] theorem State.reached_flash : (s.reached a v i).flash = s.flash := rfl
@[simp] theorem State.reached_log : (s.reached a v i).log = s.log := rfl
@[simp] theorem State.reached_boot : (s.reached a v i).boot = s.boot := rfl
@[simp] theorem State.reached_clocks : (s.reached a v i).clocks = s.clocks := rfl
@[simp] theorem State.reached_time : (s.reached a v i).time = s.time := rfl
@[simp] theorem State.reached_grid : (s.reached a v i).grid = s.grid := rfl
@[simp] theorem State.reached_commit : (s.reached a v i).commit = s.commit := rfl
@[simp] theorem State.reached_dormant : (s.reached a v i).dormant = s.dormant := rfl
@[simp] theorem State.reached_tasks : (s.reached a v i).tasks = s.tasks := rfl
@[simp] theorem State.reached_power : (s.reached a v i).power = s.power := rfl
@[simp] theorem State.reached_radios : (s.reached a v i).radios = s.radios := rfl
@[simp] theorem State.reached_chains : (s.reached a v i).chains = s.chains := rfl
@[simp] theorem State.reached_mac : (s.reached a v i).mac = s.mac := rfl
@[simp] theorem State.reached_cipher : (s.reached a v i).cipher = s.cipher := rfl
@[simp] theorem State.reached_cst : (s.reached a v i).cst = s.cst := rfl
@[simp] theorem State.reached_wired : (s.reached a v i).wired = s.wired := rfl
@[simp] theorem State.reached_mesh : (s.reached a v i).mesh = s.mesh := rfl
@[simp] theorem State.reached_fifos : (s.reached a v i).fifos = s.fifos := rfl
@[simp] theorem State.reached_overflows : (s.reached a v i).overflows = s.overflows := rfl
@[simp] theorem State.reached_pkt : (s.reached a v i).pkt = s.pkt := rfl
@[simp] theorem State.reached_eth : (s.reached a v i).eth = s.eth := rfl
@[simp] theorem State.reached_tiles : (s.reached a v i).tiles = s.tiles := rfl
@[simp] theorem State.reached_dram : (s.reached a v i).dram = s.dram := rfl

@[simp] theorem State.writeHost_pending : (s.writeHost a v bs).pending = s.pending := rfl
@[simp] theorem State.writeHost_elapsed : (s.writeHost a v bs).elapsed = s.elapsed := rfl
@[simp] theorem State.writeHost_fresh : (s.writeHost a v bs).fresh = s.fresh := rfl
@[simp] theorem State.writeHost_answer : (s.writeHost a v bs).answer = s.answer := rfl
@[simp] theorem State.writeHost_regs : (s.writeHost a v bs).regs = s.regs := rfl
@[simp] theorem State.writeHost_staged : (s.writeHost a v bs).staged = s.staged := rfl
@[simp] theorem State.writeHost_caps : (s.writeHost a v bs).caps = s.caps := rfl
@[simp] theorem State.writeHost_sels : (s.writeHost a v bs).sels = s.sels := rfl
@[simp] theorem State.writeHost_units : (s.writeHost a v bs).units = s.units := rfl
@[simp] theorem State.writeHost_rejects : (s.writeHost a v bs).rejects = s.rejects := rfl
@[simp] theorem State.writeHost_fuses : (s.writeHost a v bs).fuses = s.fuses := rfl
@[simp] theorem State.writeHost_flash : (s.writeHost a v bs).flash = s.flash := rfl
@[simp] theorem State.writeHost_log : (s.writeHost a v bs).log = s.log := rfl
@[simp] theorem State.writeHost_boot : (s.writeHost a v bs).boot = s.boot := rfl
@[simp] theorem State.writeHost_clocks : (s.writeHost a v bs).clocks = s.clocks := rfl
@[simp] theorem State.writeHost_time : (s.writeHost a v bs).time = s.time := rfl
@[simp] theorem State.writeHost_grid : (s.writeHost a v bs).grid = s.grid := rfl
@[simp] theorem State.writeHost_commit : (s.writeHost a v bs).commit = s.commit := rfl
@[simp] theorem State.writeHost_dormant : (s.writeHost a v bs).dormant = s.dormant := rfl
@[simp] theorem State.writeHost_tasks : (s.writeHost a v bs).tasks = s.tasks := rfl
@[simp] theorem State.writeHost_power : (s.writeHost a v bs).power = s.power := rfl
@[simp] theorem State.writeHost_radios : (s.writeHost a v bs).radios = s.radios := rfl
@[simp] theorem State.writeHost_chains : (s.writeHost a v bs).chains = s.chains := rfl
@[simp] theorem State.writeHost_mac : (s.writeHost a v bs).mac = s.mac := rfl
@[simp] theorem State.writeHost_cipher : (s.writeHost a v bs).cipher = s.cipher := rfl
@[simp] theorem State.writeHost_cst : (s.writeHost a v bs).cst = s.cst := rfl
@[simp] theorem State.writeHost_wired : (s.writeHost a v bs).wired = s.wired := rfl
@[simp] theorem State.writeHost_mesh : (s.writeHost a v bs).mesh = s.mesh := rfl
@[simp] theorem State.writeHost_fifos : (s.writeHost a v bs).fifos = s.fifos := rfl
@[simp] theorem State.writeHost_overflows : (s.writeHost a v bs).overflows = s.overflows := rfl
@[simp] theorem State.writeHost_pkt : (s.writeHost a v bs).pkt = s.pkt := rfl
@[simp] theorem State.writeHost_eth : (s.writeHost a v bs).eth = s.eth := rfl
@[simp] theorem State.writeHost_tiles : (s.writeHost a v bs).tiles = s.tiles := rfl
@[simp] theorem State.writeHost_dram : (s.writeHost a v bs).dram = s.dram := rfl

@[simp] theorem State.setKeyFuse_pending : (s.setKeyFuse a kf).pending = s.pending := rfl
@[simp] theorem State.setKeyFuse_elapsed : (s.setKeyFuse a kf).elapsed = s.elapsed := rfl
@[simp] theorem State.setKeyFuse_fresh : (s.setKeyFuse a kf).fresh = s.fresh := rfl
@[simp] theorem State.setKeyFuse_answer : (s.setKeyFuse a kf).answer = s.answer := rfl
@[simp] theorem State.setKeyFuse_regs : (s.setKeyFuse a kf).regs = s.regs := rfl
@[simp] theorem State.setKeyFuse_staged : (s.setKeyFuse a kf).staged = s.staged := rfl
@[simp] theorem State.setKeyFuse_caps : (s.setKeyFuse a kf).caps = s.caps := rfl
@[simp] theorem State.setKeyFuse_sels : (s.setKeyFuse a kf).sels = s.sels := rfl
@[simp] theorem State.setKeyFuse_units : (s.setKeyFuse a kf).units = s.units := rfl
@[simp] theorem State.setKeyFuse_rejects : (s.setKeyFuse a kf).rejects = s.rejects := rfl
@[simp] theorem State.setKeyFuse_flash : (s.setKeyFuse a kf).flash = s.flash := rfl
@[simp] theorem State.setKeyFuse_log : (s.setKeyFuse a kf).log = s.log := rfl
@[simp] theorem State.setKeyFuse_boot : (s.setKeyFuse a kf).boot = s.boot := rfl
@[simp] theorem State.setKeyFuse_clocks : (s.setKeyFuse a kf).clocks = s.clocks := rfl
@[simp] theorem State.setKeyFuse_time : (s.setKeyFuse a kf).time = s.time := rfl
@[simp] theorem State.setKeyFuse_grid : (s.setKeyFuse a kf).grid = s.grid := rfl
@[simp] theorem State.setKeyFuse_commit : (s.setKeyFuse a kf).commit = s.commit := rfl
@[simp] theorem State.setKeyFuse_dormant : (s.setKeyFuse a kf).dormant = s.dormant := rfl
@[simp] theorem State.setKeyFuse_host : (s.setKeyFuse a kf).host = s.host := rfl
@[simp] theorem State.setKeyFuse_tasks : (s.setKeyFuse a kf).tasks = s.tasks := rfl
@[simp] theorem State.setKeyFuse_power : (s.setKeyFuse a kf).power = s.power := rfl
@[simp] theorem State.setKeyFuse_radios : (s.setKeyFuse a kf).radios = s.radios := rfl
@[simp] theorem State.setKeyFuse_chains : (s.setKeyFuse a kf).chains = s.chains := rfl
@[simp] theorem State.setKeyFuse_mac : (s.setKeyFuse a kf).mac = s.mac := rfl
@[simp] theorem State.setKeyFuse_cipher : (s.setKeyFuse a kf).cipher = s.cipher := rfl
@[simp] theorem State.setKeyFuse_cst : (s.setKeyFuse a kf).cst = s.cst := rfl
@[simp] theorem State.setKeyFuse_wired : (s.setKeyFuse a kf).wired = s.wired := rfl
@[simp] theorem State.setKeyFuse_mesh : (s.setKeyFuse a kf).mesh = s.mesh := rfl
@[simp] theorem State.setKeyFuse_fifos : (s.setKeyFuse a kf).fifos = s.fifos := rfl
@[simp] theorem State.setKeyFuse_overflows : (s.setKeyFuse a kf).overflows = s.overflows := rfl
@[simp] theorem State.setKeyFuse_pkt : (s.setKeyFuse a kf).pkt = s.pkt := rfl
@[simp] theorem State.setKeyFuse_eth : (s.setKeyFuse a kf).eth = s.eth := rfl
@[simp] theorem State.setKeyFuse_tiles : (s.setKeyFuse a kf).tiles = s.tiles := rfl
@[simp] theorem State.setKeyFuse_dram : (s.setKeyFuse a kf).dram = s.dram := rfl

@[simp] theorem State.setSlot_pending : (s.setSlot a ks).pending = s.pending := rfl
@[simp] theorem State.setSlot_elapsed : (s.setSlot a ks).elapsed = s.elapsed := rfl
@[simp] theorem State.setSlot_fresh : (s.setSlot a ks).fresh = s.fresh := rfl
@[simp] theorem State.setSlot_answer : (s.setSlot a ks).answer = s.answer := rfl
@[simp] theorem State.setSlot_regs : (s.setSlot a ks).regs = s.regs := rfl
@[simp] theorem State.setSlot_staged : (s.setSlot a ks).staged = s.staged := rfl
@[simp] theorem State.setSlot_caps : (s.setSlot a ks).caps = s.caps := rfl
@[simp] theorem State.setSlot_sels : (s.setSlot a ks).sels = s.sels := rfl
@[simp] theorem State.setSlot_units : (s.setSlot a ks).units = s.units := rfl
@[simp] theorem State.setSlot_rejects : (s.setSlot a ks).rejects = s.rejects := rfl
@[simp] theorem State.setSlot_fuses : (s.setSlot a ks).fuses = s.fuses := rfl
@[simp] theorem State.setSlot_flash : (s.setSlot a ks).flash = s.flash := rfl
@[simp] theorem State.setSlot_log : (s.setSlot a ks).log = s.log := rfl
@[simp] theorem State.setSlot_boot : (s.setSlot a ks).boot = s.boot := rfl
@[simp] theorem State.setSlot_clocks : (s.setSlot a ks).clocks = s.clocks := rfl
@[simp] theorem State.setSlot_time : (s.setSlot a ks).time = s.time := rfl
@[simp] theorem State.setSlot_grid : (s.setSlot a ks).grid = s.grid := rfl
@[simp] theorem State.setSlot_commit : (s.setSlot a ks).commit = s.commit := rfl
@[simp] theorem State.setSlot_dormant : (s.setSlot a ks).dormant = s.dormant := rfl
@[simp] theorem State.setSlot_host : (s.setSlot a ks).host = s.host := rfl
@[simp] theorem State.setSlot_tasks : (s.setSlot a ks).tasks = s.tasks := rfl
@[simp] theorem State.setSlot_power : (s.setSlot a ks).power = s.power := rfl
@[simp] theorem State.setSlot_radios : (s.setSlot a ks).radios = s.radios := rfl
@[simp] theorem State.setSlot_chains : (s.setSlot a ks).chains = s.chains := rfl
@[simp] theorem State.setSlot_mac : (s.setSlot a ks).mac = s.mac := rfl
@[simp] theorem State.setSlot_cst : (s.setSlot a ks).cst = s.cst := rfl
@[simp] theorem State.setSlot_wired : (s.setSlot a ks).wired = s.wired := rfl
@[simp] theorem State.setSlot_mesh : (s.setSlot a ks).mesh = s.mesh := rfl
@[simp] theorem State.setSlot_fifos : (s.setSlot a ks).fifos = s.fifos := rfl
@[simp] theorem State.setSlot_overflows : (s.setSlot a ks).overflows = s.overflows := rfl
@[simp] theorem State.setSlot_pkt : (s.setSlot a ks).pkt = s.pkt := rfl
@[simp] theorem State.setSlot_eth : (s.setSlot a ks).eth = s.eth := rfl
@[simp] theorem State.setSlot_tiles : (s.setSlot a ks).tiles = s.tiles := rfl
@[simp] theorem State.setSlot_dram : (s.setSlot a ks).dram = s.dram := rfl

@[simp] theorem State.modMember_pending : (s.modMember a fm).pending = s.pending := rfl
@[simp] theorem State.modMember_elapsed : (s.modMember a fm).elapsed = s.elapsed := rfl
@[simp] theorem State.modMember_fresh : (s.modMember a fm).fresh = s.fresh := rfl
@[simp] theorem State.modMember_answer : (s.modMember a fm).answer = s.answer := rfl
@[simp] theorem State.modMember_regs : (s.modMember a fm).regs = s.regs := rfl
@[simp] theorem State.modMember_staged : (s.modMember a fm).staged = s.staged := rfl
@[simp] theorem State.modMember_caps : (s.modMember a fm).caps = s.caps := rfl
@[simp] theorem State.modMember_sels : (s.modMember a fm).sels = s.sels := rfl
@[simp] theorem State.modMember_units : (s.modMember a fm).units = s.units := rfl
@[simp] theorem State.modMember_rejects : (s.modMember a fm).rejects = s.rejects := rfl
@[simp] theorem State.modMember_fuses : (s.modMember a fm).fuses = s.fuses := rfl
@[simp] theorem State.modMember_flash : (s.modMember a fm).flash = s.flash := rfl
@[simp] theorem State.modMember_log : (s.modMember a fm).log = s.log := rfl
@[simp] theorem State.modMember_boot : (s.modMember a fm).boot = s.boot := rfl
@[simp] theorem State.modMember_clocks : (s.modMember a fm).clocks = s.clocks := rfl
@[simp] theorem State.modMember_time : (s.modMember a fm).time = s.time := rfl
@[simp] theorem State.modMember_grid : (s.modMember a fm).grid = s.grid := rfl
@[simp] theorem State.modMember_commit : (s.modMember a fm).commit = s.commit := rfl
@[simp] theorem State.modMember_dormant : (s.modMember a fm).dormant = s.dormant := rfl
@[simp] theorem State.modMember_host : (s.modMember a fm).host = s.host := rfl
@[simp] theorem State.modMember_tasks : (s.modMember a fm).tasks = s.tasks := rfl
@[simp] theorem State.modMember_power : (s.modMember a fm).power = s.power := rfl
@[simp] theorem State.modMember_radios : (s.modMember a fm).radios = s.radios := rfl
@[simp] theorem State.modMember_chains : (s.modMember a fm).chains = s.chains := rfl
@[simp] theorem State.modMember_mac : (s.modMember a fm).mac = s.mac := rfl
@[simp] theorem State.modMember_cipher : (s.modMember a fm).cipher = s.cipher := rfl
@[simp] theorem State.modMember_wired : (s.modMember a fm).wired = s.wired := rfl
@[simp] theorem State.modMember_mesh : (s.modMember a fm).mesh = s.mesh := rfl
@[simp] theorem State.modMember_fifos : (s.modMember a fm).fifos = s.fifos := rfl
@[simp] theorem State.modMember_overflows : (s.modMember a fm).overflows = s.overflows := rfl
@[simp] theorem State.modMember_pkt : (s.modMember a fm).pkt = s.pkt := rfl
@[simp] theorem State.modMember_eth : (s.modMember a fm).eth = s.eth := rfl
@[simp] theorem State.modMember_tiles : (s.modMember a fm).tiles = s.tiles := rfl
@[simp] theorem State.modMember_dram : (s.modMember a fm).dram = s.dram := rfl

@[simp] theorem State.wiredPush_pending : (s.wiredPush a wf).pending = s.pending := rfl
@[simp] theorem State.wiredPush_elapsed : (s.wiredPush a wf).elapsed = s.elapsed := rfl
@[simp] theorem State.wiredPush_fresh : (s.wiredPush a wf).fresh = s.fresh := rfl
@[simp] theorem State.wiredPush_answer : (s.wiredPush a wf).answer = s.answer := rfl
@[simp] theorem State.wiredPush_regs : (s.wiredPush a wf).regs = s.regs := rfl
@[simp] theorem State.wiredPush_staged : (s.wiredPush a wf).staged = s.staged := rfl
@[simp] theorem State.wiredPush_caps : (s.wiredPush a wf).caps = s.caps := rfl
@[simp] theorem State.wiredPush_sels : (s.wiredPush a wf).sels = s.sels := rfl
@[simp] theorem State.wiredPush_units : (s.wiredPush a wf).units = s.units := rfl
@[simp] theorem State.wiredPush_rejects : (s.wiredPush a wf).rejects = s.rejects := rfl
@[simp] theorem State.wiredPush_fuses : (s.wiredPush a wf).fuses = s.fuses := rfl
@[simp] theorem State.wiredPush_flash : (s.wiredPush a wf).flash = s.flash := rfl
@[simp] theorem State.wiredPush_log : (s.wiredPush a wf).log = s.log := rfl
@[simp] theorem State.wiredPush_boot : (s.wiredPush a wf).boot = s.boot := rfl
@[simp] theorem State.wiredPush_clocks : (s.wiredPush a wf).clocks = s.clocks := rfl
@[simp] theorem State.wiredPush_time : (s.wiredPush a wf).time = s.time := rfl
@[simp] theorem State.wiredPush_grid : (s.wiredPush a wf).grid = s.grid := rfl
@[simp] theorem State.wiredPush_commit : (s.wiredPush a wf).commit = s.commit := rfl
@[simp] theorem State.wiredPush_dormant : (s.wiredPush a wf).dormant = s.dormant := rfl
@[simp] theorem State.wiredPush_host : (s.wiredPush a wf).host = s.host := rfl
@[simp] theorem State.wiredPush_tasks : (s.wiredPush a wf).tasks = s.tasks := rfl
@[simp] theorem State.wiredPush_power : (s.wiredPush a wf).power = s.power := rfl
@[simp] theorem State.wiredPush_radios : (s.wiredPush a wf).radios = s.radios := rfl
@[simp] theorem State.wiredPush_chains : (s.wiredPush a wf).chains = s.chains := rfl
@[simp] theorem State.wiredPush_mac : (s.wiredPush a wf).mac = s.mac := rfl
@[simp] theorem State.wiredPush_cipher : (s.wiredPush a wf).cipher = s.cipher := rfl
@[simp] theorem State.wiredPush_cst : (s.wiredPush a wf).cst = s.cst := rfl
@[simp] theorem State.wiredPush_mesh : (s.wiredPush a wf).mesh = s.mesh := rfl
@[simp] theorem State.wiredPush_fifos : (s.wiredPush a wf).fifos = s.fifos := rfl
@[simp] theorem State.wiredPush_overflows : (s.wiredPush a wf).overflows = s.overflows := rfl
@[simp] theorem State.wiredPush_pkt : (s.wiredPush a wf).pkt = s.pkt := rfl
@[simp] theorem State.wiredPush_eth : (s.wiredPush a wf).eth = s.eth := rfl
@[simp] theorem State.wiredPush_tiles : (s.wiredPush a wf).tiles = s.tiles := rfl
@[simp] theorem State.wiredPush_dram : (s.wiredPush a wf).dram = s.dram := rfl

@[simp] theorem State.modDch_pending : (s.modDch a fd).pending = s.pending := rfl
@[simp] theorem State.modDch_elapsed : (s.modDch a fd).elapsed = s.elapsed := rfl
@[simp] theorem State.modDch_fresh : (s.modDch a fd).fresh = s.fresh := rfl
@[simp] theorem State.modDch_answer : (s.modDch a fd).answer = s.answer := rfl
@[simp] theorem State.modDch_regs : (s.modDch a fd).regs = s.regs := rfl
@[simp] theorem State.modDch_staged : (s.modDch a fd).staged = s.staged := rfl
@[simp] theorem State.modDch_caps : (s.modDch a fd).caps = s.caps := rfl
@[simp] theorem State.modDch_sels : (s.modDch a fd).sels = s.sels := rfl
@[simp] theorem State.modDch_units : (s.modDch a fd).units = s.units := rfl
@[simp] theorem State.modDch_rejects : (s.modDch a fd).rejects = s.rejects := rfl
@[simp] theorem State.modDch_fuses : (s.modDch a fd).fuses = s.fuses := rfl
@[simp] theorem State.modDch_flash : (s.modDch a fd).flash = s.flash := rfl
@[simp] theorem State.modDch_log : (s.modDch a fd).log = s.log := rfl
@[simp] theorem State.modDch_boot : (s.modDch a fd).boot = s.boot := rfl
@[simp] theorem State.modDch_clocks : (s.modDch a fd).clocks = s.clocks := rfl
@[simp] theorem State.modDch_time : (s.modDch a fd).time = s.time := rfl
@[simp] theorem State.modDch_grid : (s.modDch a fd).grid = s.grid := rfl
@[simp] theorem State.modDch_commit : (s.modDch a fd).commit = s.commit := rfl
@[simp] theorem State.modDch_dormant : (s.modDch a fd).dormant = s.dormant := rfl
@[simp] theorem State.modDch_host : (s.modDch a fd).host = s.host := rfl
@[simp] theorem State.modDch_tasks : (s.modDch a fd).tasks = s.tasks := rfl
@[simp] theorem State.modDch_power : (s.modDch a fd).power = s.power := rfl
@[simp] theorem State.modDch_radios : (s.modDch a fd).radios = s.radios := rfl
@[simp] theorem State.modDch_chains : (s.modDch a fd).chains = s.chains := rfl
@[simp] theorem State.modDch_mac : (s.modDch a fd).mac = s.mac := rfl
@[simp] theorem State.modDch_cipher : (s.modDch a fd).cipher = s.cipher := rfl
@[simp] theorem State.modDch_cst : (s.modDch a fd).cst = s.cst := rfl
@[simp] theorem State.modDch_wired : (s.modDch a fd).wired = s.wired := rfl
@[simp] theorem State.modDch_mesh : (s.modDch a fd).mesh = s.mesh := rfl
@[simp] theorem State.modDch_fifos : (s.modDch a fd).fifos = s.fifos := rfl
@[simp] theorem State.modDch_overflows : (s.modDch a fd).overflows = s.overflows := rfl
@[simp] theorem State.modDch_pkt : (s.modDch a fd).pkt = s.pkt := rfl
@[simp] theorem State.modDch_eth : (s.modDch a fd).eth = s.eth := rfl
@[simp] theorem State.modDch_tiles : (s.modDch a fd).tiles = s.tiles := rfl

@[simp] theorem State.modSta_pending : (s.modSta a fs).pending = s.pending := rfl
@[simp] theorem State.modSta_elapsed : (s.modSta a fs).elapsed = s.elapsed := rfl
@[simp] theorem State.modSta_fresh : (s.modSta a fs).fresh = s.fresh := rfl
@[simp] theorem State.modSta_answer : (s.modSta a fs).answer = s.answer := rfl
@[simp] theorem State.modSta_regs : (s.modSta a fs).regs = s.regs := rfl
@[simp] theorem State.modSta_staged : (s.modSta a fs).staged = s.staged := rfl
@[simp] theorem State.modSta_caps : (s.modSta a fs).caps = s.caps := rfl
@[simp] theorem State.modSta_sels : (s.modSta a fs).sels = s.sels := rfl
@[simp] theorem State.modSta_units : (s.modSta a fs).units = s.units := rfl
@[simp] theorem State.modSta_rejects : (s.modSta a fs).rejects = s.rejects := rfl
@[simp] theorem State.modSta_fuses : (s.modSta a fs).fuses = s.fuses := rfl
@[simp] theorem State.modSta_flash : (s.modSta a fs).flash = s.flash := rfl
@[simp] theorem State.modSta_log : (s.modSta a fs).log = s.log := rfl
@[simp] theorem State.modSta_boot : (s.modSta a fs).boot = s.boot := rfl
@[simp] theorem State.modSta_clocks : (s.modSta a fs).clocks = s.clocks := rfl
@[simp] theorem State.modSta_time : (s.modSta a fs).time = s.time := rfl
@[simp] theorem State.modSta_grid : (s.modSta a fs).grid = s.grid := rfl
@[simp] theorem State.modSta_commit : (s.modSta a fs).commit = s.commit := rfl
@[simp] theorem State.modSta_dormant : (s.modSta a fs).dormant = s.dormant := rfl
@[simp] theorem State.modSta_host : (s.modSta a fs).host = s.host := rfl
@[simp] theorem State.modSta_tasks : (s.modSta a fs).tasks = s.tasks := rfl
@[simp] theorem State.modSta_power : (s.modSta a fs).power = s.power := rfl
@[simp] theorem State.modSta_radios : (s.modSta a fs).radios = s.radios := rfl
@[simp] theorem State.modSta_chains : (s.modSta a fs).chains = s.chains := rfl
@[simp] theorem State.modSta_cipher : (s.modSta a fs).cipher = s.cipher := rfl
@[simp] theorem State.modSta_cst : (s.modSta a fs).cst = s.cst := rfl
@[simp] theorem State.modSta_wired : (s.modSta a fs).wired = s.wired := rfl
@[simp] theorem State.modSta_mesh : (s.modSta a fs).mesh = s.mesh := rfl
@[simp] theorem State.modSta_fifos : (s.modSta a fs).fifos = s.fifos := rfl
@[simp] theorem State.modSta_overflows : (s.modSta a fs).overflows = s.overflows := rfl
@[simp] theorem State.modSta_pkt : (s.modSta a fs).pkt = s.pkt := rfl
@[simp] theorem State.modSta_eth : (s.modSta a fs).eth = s.eth := rfl
@[simp] theorem State.modSta_tiles : (s.modSta a fs).tiles = s.tiles := rfl
@[simp] theorem State.modSta_dram : (s.modSta a fs).dram = s.dram := rfl

@[simp] theorem State.modFrame_pending : (s.modFrame a ff).pending = s.pending := rfl
@[simp] theorem State.modFrame_elapsed : (s.modFrame a ff).elapsed = s.elapsed := rfl
@[simp] theorem State.modFrame_fresh : (s.modFrame a ff).fresh = s.fresh := rfl
@[simp] theorem State.modFrame_answer : (s.modFrame a ff).answer = s.answer := rfl
@[simp] theorem State.modFrame_regs : (s.modFrame a ff).regs = s.regs := rfl
@[simp] theorem State.modFrame_staged : (s.modFrame a ff).staged = s.staged := rfl
@[simp] theorem State.modFrame_caps : (s.modFrame a ff).caps = s.caps := rfl
@[simp] theorem State.modFrame_sels : (s.modFrame a ff).sels = s.sels := rfl
@[simp] theorem State.modFrame_units : (s.modFrame a ff).units = s.units := rfl
@[simp] theorem State.modFrame_rejects : (s.modFrame a ff).rejects = s.rejects := rfl
@[simp] theorem State.modFrame_fuses : (s.modFrame a ff).fuses = s.fuses := rfl
@[simp] theorem State.modFrame_flash : (s.modFrame a ff).flash = s.flash := rfl
@[simp] theorem State.modFrame_log : (s.modFrame a ff).log = s.log := rfl
@[simp] theorem State.modFrame_boot : (s.modFrame a ff).boot = s.boot := rfl
@[simp] theorem State.modFrame_clocks : (s.modFrame a ff).clocks = s.clocks := rfl
@[simp] theorem State.modFrame_time : (s.modFrame a ff).time = s.time := rfl
@[simp] theorem State.modFrame_grid : (s.modFrame a ff).grid = s.grid := rfl
@[simp] theorem State.modFrame_commit : (s.modFrame a ff).commit = s.commit := rfl
@[simp] theorem State.modFrame_dormant : (s.modFrame a ff).dormant = s.dormant := rfl
@[simp] theorem State.modFrame_host : (s.modFrame a ff).host = s.host := rfl
@[simp] theorem State.modFrame_tasks : (s.modFrame a ff).tasks = s.tasks := rfl
@[simp] theorem State.modFrame_power : (s.modFrame a ff).power = s.power := rfl
@[simp] theorem State.modFrame_radios : (s.modFrame a ff).radios = s.radios := rfl
@[simp] theorem State.modFrame_chains : (s.modFrame a ff).chains = s.chains := rfl
@[simp] theorem State.modFrame_cipher : (s.modFrame a ff).cipher = s.cipher := rfl
@[simp] theorem State.modFrame_cst : (s.modFrame a ff).cst = s.cst := rfl
@[simp] theorem State.modFrame_wired : (s.modFrame a ff).wired = s.wired := rfl
@[simp] theorem State.modFrame_mesh : (s.modFrame a ff).mesh = s.mesh := rfl
@[simp] theorem State.modFrame_fifos : (s.modFrame a ff).fifos = s.fifos := rfl
@[simp] theorem State.modFrame_overflows : (s.modFrame a ff).overflows = s.overflows := rfl
@[simp] theorem State.modFrame_pkt : (s.modFrame a ff).pkt = s.pkt := rfl
@[simp] theorem State.modFrame_eth : (s.modFrame a ff).eth = s.eth := rfl
@[simp] theorem State.modFrame_tiles : (s.modFrame a ff).tiles = s.tiles := rfl
@[simp] theorem State.modFrame_dram : (s.modFrame a ff).dram = s.dram := rfl

@[simp] theorem State.modPpdu_pending : (s.modPpdu a fp).pending = s.pending := rfl
@[simp] theorem State.modPpdu_elapsed : (s.modPpdu a fp).elapsed = s.elapsed := rfl
@[simp] theorem State.modPpdu_fresh : (s.modPpdu a fp).fresh = s.fresh := rfl
@[simp] theorem State.modPpdu_answer : (s.modPpdu a fp).answer = s.answer := rfl
@[simp] theorem State.modPpdu_regs : (s.modPpdu a fp).regs = s.regs := rfl
@[simp] theorem State.modPpdu_staged : (s.modPpdu a fp).staged = s.staged := rfl
@[simp] theorem State.modPpdu_caps : (s.modPpdu a fp).caps = s.caps := rfl
@[simp] theorem State.modPpdu_sels : (s.modPpdu a fp).sels = s.sels := rfl
@[simp] theorem State.modPpdu_units : (s.modPpdu a fp).units = s.units := rfl
@[simp] theorem State.modPpdu_rejects : (s.modPpdu a fp).rejects = s.rejects := rfl
@[simp] theorem State.modPpdu_fuses : (s.modPpdu a fp).fuses = s.fuses := rfl
@[simp] theorem State.modPpdu_flash : (s.modPpdu a fp).flash = s.flash := rfl
@[simp] theorem State.modPpdu_log : (s.modPpdu a fp).log = s.log := rfl
@[simp] theorem State.modPpdu_boot : (s.modPpdu a fp).boot = s.boot := rfl
@[simp] theorem State.modPpdu_clocks : (s.modPpdu a fp).clocks = s.clocks := rfl
@[simp] theorem State.modPpdu_time : (s.modPpdu a fp).time = s.time := rfl
@[simp] theorem State.modPpdu_grid : (s.modPpdu a fp).grid = s.grid := rfl
@[simp] theorem State.modPpdu_commit : (s.modPpdu a fp).commit = s.commit := rfl
@[simp] theorem State.modPpdu_dormant : (s.modPpdu a fp).dormant = s.dormant := rfl
@[simp] theorem State.modPpdu_host : (s.modPpdu a fp).host = s.host := rfl
@[simp] theorem State.modPpdu_tasks : (s.modPpdu a fp).tasks = s.tasks := rfl
@[simp] theorem State.modPpdu_power : (s.modPpdu a fp).power = s.power := rfl
@[simp] theorem State.modPpdu_radios : (s.modPpdu a fp).radios = s.radios := rfl
@[simp] theorem State.modPpdu_chains : (s.modPpdu a fp).chains = s.chains := rfl
@[simp] theorem State.modPpdu_cipher : (s.modPpdu a fp).cipher = s.cipher := rfl
@[simp] theorem State.modPpdu_cst : (s.modPpdu a fp).cst = s.cst := rfl
@[simp] theorem State.modPpdu_wired : (s.modPpdu a fp).wired = s.wired := rfl
@[simp] theorem State.modPpdu_mesh : (s.modPpdu a fp).mesh = s.mesh := rfl
@[simp] theorem State.modPpdu_fifos : (s.modPpdu a fp).fifos = s.fifos := rfl
@[simp] theorem State.modPpdu_overflows : (s.modPpdu a fp).overflows = s.overflows := rfl
@[simp] theorem State.modPpdu_pkt : (s.modPpdu a fp).pkt = s.pkt := rfl
@[simp] theorem State.modPpdu_eth : (s.modPpdu a fp).eth = s.eth := rfl
@[simp] theorem State.modPpdu_tiles : (s.modPpdu a fp).tiles = s.tiles := rfl
@[simp] theorem State.modPpdu_dram : (s.modPpdu a fp).dram = s.dram := rfl

@[simp] theorem State.modMesh_pending : (s.modMesh fh).pending = s.pending := rfl
@[simp] theorem State.modMesh_elapsed : (s.modMesh fh).elapsed = s.elapsed := rfl
@[simp] theorem State.modMesh_fresh : (s.modMesh fh).fresh = s.fresh := rfl
@[simp] theorem State.modMesh_answer : (s.modMesh fh).answer = s.answer := rfl
@[simp] theorem State.modMesh_regs : (s.modMesh fh).regs = s.regs := rfl
@[simp] theorem State.modMesh_staged : (s.modMesh fh).staged = s.staged := rfl
@[simp] theorem State.modMesh_caps : (s.modMesh fh).caps = s.caps := rfl
@[simp] theorem State.modMesh_sels : (s.modMesh fh).sels = s.sels := rfl
@[simp] theorem State.modMesh_units : (s.modMesh fh).units = s.units := rfl
@[simp] theorem State.modMesh_rejects : (s.modMesh fh).rejects = s.rejects := rfl
@[simp] theorem State.modMesh_fuses : (s.modMesh fh).fuses = s.fuses := rfl
@[simp] theorem State.modMesh_flash : (s.modMesh fh).flash = s.flash := rfl
@[simp] theorem State.modMesh_log : (s.modMesh fh).log = s.log := rfl
@[simp] theorem State.modMesh_boot : (s.modMesh fh).boot = s.boot := rfl
@[simp] theorem State.modMesh_clocks : (s.modMesh fh).clocks = s.clocks := rfl
@[simp] theorem State.modMesh_time : (s.modMesh fh).time = s.time := rfl
@[simp] theorem State.modMesh_grid : (s.modMesh fh).grid = s.grid := rfl
@[simp] theorem State.modMesh_commit : (s.modMesh fh).commit = s.commit := rfl
@[simp] theorem State.modMesh_dormant : (s.modMesh fh).dormant = s.dormant := rfl
@[simp] theorem State.modMesh_host : (s.modMesh fh).host = s.host := rfl
@[simp] theorem State.modMesh_tasks : (s.modMesh fh).tasks = s.tasks := rfl
@[simp] theorem State.modMesh_power : (s.modMesh fh).power = s.power := rfl
@[simp] theorem State.modMesh_radios : (s.modMesh fh).radios = s.radios := rfl
@[simp] theorem State.modMesh_chains : (s.modMesh fh).chains = s.chains := rfl
@[simp] theorem State.modMesh_mac : (s.modMesh fh).mac = s.mac := rfl
@[simp] theorem State.modMesh_cipher : (s.modMesh fh).cipher = s.cipher := rfl
@[simp] theorem State.modMesh_cst : (s.modMesh fh).cst = s.cst := rfl
@[simp] theorem State.modMesh_wired : (s.modMesh fh).wired = s.wired := rfl
@[simp] theorem State.modMesh_fifos : (s.modMesh fh).fifos = s.fifos := rfl
@[simp] theorem State.modMesh_overflows : (s.modMesh fh).overflows = s.overflows := rfl
@[simp] theorem State.modMesh_pkt : (s.modMesh fh).pkt = s.pkt := rfl
@[simp] theorem State.modMesh_eth : (s.modMesh fh).eth = s.eth := rfl
@[simp] theorem State.modMesh_tiles : (s.modMesh fh).tiles = s.tiles := rfl
@[simp] theorem State.modMesh_dram : (s.modMesh fh).dram = s.dram := rfl

@[simp] theorem State.modPkt_pending : (s.modPkt fk).pending = s.pending := rfl
@[simp] theorem State.modPkt_elapsed : (s.modPkt fk).elapsed = s.elapsed := rfl
@[simp] theorem State.modPkt_fresh : (s.modPkt fk).fresh = s.fresh := rfl
@[simp] theorem State.modPkt_answer : (s.modPkt fk).answer = s.answer := rfl
@[simp] theorem State.modPkt_regs : (s.modPkt fk).regs = s.regs := rfl
@[simp] theorem State.modPkt_staged : (s.modPkt fk).staged = s.staged := rfl
@[simp] theorem State.modPkt_caps : (s.modPkt fk).caps = s.caps := rfl
@[simp] theorem State.modPkt_sels : (s.modPkt fk).sels = s.sels := rfl
@[simp] theorem State.modPkt_units : (s.modPkt fk).units = s.units := rfl
@[simp] theorem State.modPkt_rejects : (s.modPkt fk).rejects = s.rejects := rfl
@[simp] theorem State.modPkt_fuses : (s.modPkt fk).fuses = s.fuses := rfl
@[simp] theorem State.modPkt_flash : (s.modPkt fk).flash = s.flash := rfl
@[simp] theorem State.modPkt_log : (s.modPkt fk).log = s.log := rfl
@[simp] theorem State.modPkt_boot : (s.modPkt fk).boot = s.boot := rfl
@[simp] theorem State.modPkt_clocks : (s.modPkt fk).clocks = s.clocks := rfl
@[simp] theorem State.modPkt_time : (s.modPkt fk).time = s.time := rfl
@[simp] theorem State.modPkt_grid : (s.modPkt fk).grid = s.grid := rfl
@[simp] theorem State.modPkt_commit : (s.modPkt fk).commit = s.commit := rfl
@[simp] theorem State.modPkt_dormant : (s.modPkt fk).dormant = s.dormant := rfl
@[simp] theorem State.modPkt_host : (s.modPkt fk).host = s.host := rfl
@[simp] theorem State.modPkt_tasks : (s.modPkt fk).tasks = s.tasks := rfl
@[simp] theorem State.modPkt_power : (s.modPkt fk).power = s.power := rfl
@[simp] theorem State.modPkt_radios : (s.modPkt fk).radios = s.radios := rfl
@[simp] theorem State.modPkt_chains : (s.modPkt fk).chains = s.chains := rfl
@[simp] theorem State.modPkt_mac : (s.modPkt fk).mac = s.mac := rfl
@[simp] theorem State.modPkt_cipher : (s.modPkt fk).cipher = s.cipher := rfl
@[simp] theorem State.modPkt_cst : (s.modPkt fk).cst = s.cst := rfl
@[simp] theorem State.modPkt_wired : (s.modPkt fk).wired = s.wired := rfl
@[simp] theorem State.modPkt_mesh : (s.modPkt fk).mesh = s.mesh := rfl
@[simp] theorem State.modPkt_fifos : (s.modPkt fk).fifos = s.fifos := rfl
@[simp] theorem State.modPkt_overflows : (s.modPkt fk).overflows = s.overflows := rfl
@[simp] theorem State.modPkt_eth : (s.modPkt fk).eth = s.eth := rfl
@[simp] theorem State.modPkt_tiles : (s.modPkt fk).tiles = s.tiles := rfl
@[simp] theorem State.modPkt_dram : (s.modPkt fk).dram = s.dram := rfl

@[simp] theorem State.powerDown_pending : (s.powerDown l).pending = s.pending := rfl
@[simp] theorem State.powerDown_elapsed : (s.powerDown l).elapsed = s.elapsed := rfl
@[simp] theorem State.powerDown_fresh : (s.powerDown l).fresh = s.fresh := rfl
@[simp] theorem State.powerDown_answer : (s.powerDown l).answer = s.answer := rfl
@[simp] theorem State.powerDown_regs : (s.powerDown l).regs = s.regs := rfl
@[simp] theorem State.powerDown_staged : (s.powerDown l).staged = s.staged := rfl
@[simp] theorem State.powerDown_caps : (s.powerDown l).caps = s.caps := rfl
@[simp] theorem State.powerDown_sels : (s.powerDown l).sels = s.sels := rfl
@[simp] theorem State.powerDown_units : (s.powerDown l).units = s.units := rfl
@[simp] theorem State.powerDown_rejects : (s.powerDown l).rejects = s.rejects := rfl
@[simp] theorem State.powerDown_fuses : (s.powerDown l).fuses = s.fuses := rfl
@[simp] theorem State.powerDown_flash : (s.powerDown l).flash = s.flash := rfl
@[simp] theorem State.powerDown_log : (s.powerDown l).log = s.log := rfl
@[simp] theorem State.powerDown_boot : (s.powerDown l).boot = s.boot := rfl
@[simp] theorem State.powerDown_clocks : (s.powerDown l).clocks = s.clocks := rfl
@[simp] theorem State.powerDown_time : (s.powerDown l).time = s.time := rfl
@[simp] theorem State.powerDown_grid : (s.powerDown l).grid = s.grid := rfl
@[simp] theorem State.powerDown_commit : (s.powerDown l).commit = s.commit := rfl
@[simp] theorem State.powerDown_dormant : (s.powerDown l).dormant = s.dormant := rfl
@[simp] theorem State.powerDown_host : (s.powerDown l).host = s.host := rfl
@[simp] theorem State.powerDown_tasks : (s.powerDown l).tasks = s.tasks := rfl
@[simp] theorem State.powerDown_radios : (s.powerDown l).radios = s.radios := rfl
@[simp] theorem State.powerDown_chains : (s.powerDown l).chains = s.chains := rfl
@[simp] theorem State.powerDown_mac : (s.powerDown l).mac = s.mac := rfl
@[simp] theorem State.powerDown_cipher : (s.powerDown l).cipher = s.cipher := rfl
@[simp] theorem State.powerDown_cst : (s.powerDown l).cst = s.cst := rfl
@[simp] theorem State.powerDown_wired : (s.powerDown l).wired = s.wired := rfl
@[simp] theorem State.powerDown_mesh : (s.powerDown l).mesh = s.mesh := rfl
@[simp] theorem State.powerDown_fifos : (s.powerDown l).fifos = s.fifos := rfl
@[simp] theorem State.powerDown_overflows : (s.powerDown l).overflows = s.overflows := rfl
@[simp] theorem State.powerDown_pkt : (s.powerDown l).pkt = s.pkt := rfl
@[simp] theorem State.powerDown_eth : (s.powerDown l).eth = s.eth := rfl
@[simp] theorem State.powerDown_tiles : (s.powerDown l).tiles = s.tiles := rfl
@[simp] theorem State.powerDown_dram : (s.powerDown l).dram = s.dram := rfl

@[simp] theorem State.modRadio_pending : (s.modRadio a fr).pending = s.pending := rfl
@[simp] theorem State.modRadio_elapsed : (s.modRadio a fr).elapsed = s.elapsed := rfl
@[simp] theorem State.modRadio_fresh : (s.modRadio a fr).fresh = s.fresh := rfl
@[simp] theorem State.modRadio_answer : (s.modRadio a fr).answer = s.answer := rfl
@[simp] theorem State.modRadio_regs : (s.modRadio a fr).regs = s.regs := rfl
@[simp] theorem State.modRadio_staged : (s.modRadio a fr).staged = s.staged := rfl
@[simp] theorem State.modRadio_caps : (s.modRadio a fr).caps = s.caps := rfl
@[simp] theorem State.modRadio_sels : (s.modRadio a fr).sels = s.sels := rfl
@[simp] theorem State.modRadio_units : (s.modRadio a fr).units = s.units := rfl
@[simp] theorem State.modRadio_rejects : (s.modRadio a fr).rejects = s.rejects := rfl
@[simp] theorem State.modRadio_fuses : (s.modRadio a fr).fuses = s.fuses := rfl
@[simp] theorem State.modRadio_flash : (s.modRadio a fr).flash = s.flash := rfl
@[simp] theorem State.modRadio_log : (s.modRadio a fr).log = s.log := rfl
@[simp] theorem State.modRadio_boot : (s.modRadio a fr).boot = s.boot := rfl
@[simp] theorem State.modRadio_clocks : (s.modRadio a fr).clocks = s.clocks := rfl
@[simp] theorem State.modRadio_time : (s.modRadio a fr).time = s.time := rfl
@[simp] theorem State.modRadio_grid : (s.modRadio a fr).grid = s.grid := rfl
@[simp] theorem State.modRadio_commit : (s.modRadio a fr).commit = s.commit := rfl
@[simp] theorem State.modRadio_dormant : (s.modRadio a fr).dormant = s.dormant := rfl
@[simp] theorem State.modRadio_host : (s.modRadio a fr).host = s.host := rfl
@[simp] theorem State.modRadio_tasks : (s.modRadio a fr).tasks = s.tasks := rfl
@[simp] theorem State.modRadio_power : (s.modRadio a fr).power = s.power := rfl
@[simp] theorem State.modRadio_chains : (s.modRadio a fr).chains = s.chains := rfl
@[simp] theorem State.modRadio_mac : (s.modRadio a fr).mac = s.mac := rfl
@[simp] theorem State.modRadio_cipher : (s.modRadio a fr).cipher = s.cipher := rfl
@[simp] theorem State.modRadio_cst : (s.modRadio a fr).cst = s.cst := rfl
@[simp] theorem State.modRadio_wired : (s.modRadio a fr).wired = s.wired := rfl
@[simp] theorem State.modRadio_mesh : (s.modRadio a fr).mesh = s.mesh := rfl
@[simp] theorem State.modRadio_fifos : (s.modRadio a fr).fifos = s.fifos := rfl
@[simp] theorem State.modRadio_overflows : (s.modRadio a fr).overflows = s.overflows := rfl
@[simp] theorem State.modRadio_pkt : (s.modRadio a fr).pkt = s.pkt := rfl
@[simp] theorem State.modRadio_eth : (s.modRadio a fr).eth = s.eth := rfl
@[simp] theorem State.modRadio_tiles : (s.modRadio a fr).tiles = s.tiles := rfl
@[simp] theorem State.modRadio_dram : (s.modRadio a fr).dram = s.dram := rfl

@[simp] theorem State.modRx_pending : (s.modRx a fx).pending = s.pending := rfl
@[simp] theorem State.modRx_elapsed : (s.modRx a fx).elapsed = s.elapsed := rfl
@[simp] theorem State.modRx_fresh : (s.modRx a fx).fresh = s.fresh := rfl
@[simp] theorem State.modRx_answer : (s.modRx a fx).answer = s.answer := rfl
@[simp] theorem State.modRx_regs : (s.modRx a fx).regs = s.regs := rfl
@[simp] theorem State.modRx_staged : (s.modRx a fx).staged = s.staged := rfl
@[simp] theorem State.modRx_caps : (s.modRx a fx).caps = s.caps := rfl
@[simp] theorem State.modRx_sels : (s.modRx a fx).sels = s.sels := rfl
@[simp] theorem State.modRx_units : (s.modRx a fx).units = s.units := rfl
@[simp] theorem State.modRx_rejects : (s.modRx a fx).rejects = s.rejects := rfl
@[simp] theorem State.modRx_fuses : (s.modRx a fx).fuses = s.fuses := rfl
@[simp] theorem State.modRx_flash : (s.modRx a fx).flash = s.flash := rfl
@[simp] theorem State.modRx_log : (s.modRx a fx).log = s.log := rfl
@[simp] theorem State.modRx_boot : (s.modRx a fx).boot = s.boot := rfl
@[simp] theorem State.modRx_clocks : (s.modRx a fx).clocks = s.clocks := rfl
@[simp] theorem State.modRx_time : (s.modRx a fx).time = s.time := rfl
@[simp] theorem State.modRx_grid : (s.modRx a fx).grid = s.grid := rfl
@[simp] theorem State.modRx_commit : (s.modRx a fx).commit = s.commit := rfl
@[simp] theorem State.modRx_dormant : (s.modRx a fx).dormant = s.dormant := rfl
@[simp] theorem State.modRx_host : (s.modRx a fx).host = s.host := rfl
@[simp] theorem State.modRx_tasks : (s.modRx a fx).tasks = s.tasks := rfl
@[simp] theorem State.modRx_power : (s.modRx a fx).power = s.power := rfl
@[simp] theorem State.modRx_chains : (s.modRx a fx).chains = s.chains := rfl
@[simp] theorem State.modRx_mac : (s.modRx a fx).mac = s.mac := rfl
@[simp] theorem State.modRx_cipher : (s.modRx a fx).cipher = s.cipher := rfl
@[simp] theorem State.modRx_cst : (s.modRx a fx).cst = s.cst := rfl
@[simp] theorem State.modRx_wired : (s.modRx a fx).wired = s.wired := rfl
@[simp] theorem State.modRx_mesh : (s.modRx a fx).mesh = s.mesh := rfl
@[simp] theorem State.modRx_fifos : (s.modRx a fx).fifos = s.fifos := rfl
@[simp] theorem State.modRx_overflows : (s.modRx a fx).overflows = s.overflows := rfl
@[simp] theorem State.modRx_pkt : (s.modRx a fx).pkt = s.pkt := rfl
@[simp] theorem State.modRx_eth : (s.modRx a fx).eth = s.eth := rfl
@[simp] theorem State.modRx_tiles : (s.modRx a fx).tiles = s.tiles := rfl
@[simp] theorem State.modRx_dram : (s.modRx a fx).dram = s.dram := rfl

@[simp] theorem State.modSyn_pending : (s.modSyn a v fy).pending = s.pending := rfl
@[simp] theorem State.modSyn_elapsed : (s.modSyn a v fy).elapsed = s.elapsed := rfl
@[simp] theorem State.modSyn_fresh : (s.modSyn a v fy).fresh = s.fresh := rfl
@[simp] theorem State.modSyn_answer : (s.modSyn a v fy).answer = s.answer := rfl
@[simp] theorem State.modSyn_regs : (s.modSyn a v fy).regs = s.regs := rfl
@[simp] theorem State.modSyn_staged : (s.modSyn a v fy).staged = s.staged := rfl
@[simp] theorem State.modSyn_caps : (s.modSyn a v fy).caps = s.caps := rfl
@[simp] theorem State.modSyn_sels : (s.modSyn a v fy).sels = s.sels := rfl
@[simp] theorem State.modSyn_units : (s.modSyn a v fy).units = s.units := rfl
@[simp] theorem State.modSyn_rejects : (s.modSyn a v fy).rejects = s.rejects := rfl
@[simp] theorem State.modSyn_fuses : (s.modSyn a v fy).fuses = s.fuses := rfl
@[simp] theorem State.modSyn_flash : (s.modSyn a v fy).flash = s.flash := rfl
@[simp] theorem State.modSyn_log : (s.modSyn a v fy).log = s.log := rfl
@[simp] theorem State.modSyn_boot : (s.modSyn a v fy).boot = s.boot := rfl
@[simp] theorem State.modSyn_clocks : (s.modSyn a v fy).clocks = s.clocks := rfl
@[simp] theorem State.modSyn_time : (s.modSyn a v fy).time = s.time := rfl
@[simp] theorem State.modSyn_grid : (s.modSyn a v fy).grid = s.grid := rfl
@[simp] theorem State.modSyn_commit : (s.modSyn a v fy).commit = s.commit := rfl
@[simp] theorem State.modSyn_dormant : (s.modSyn a v fy).dormant = s.dormant := rfl
@[simp] theorem State.modSyn_host : (s.modSyn a v fy).host = s.host := rfl
@[simp] theorem State.modSyn_tasks : (s.modSyn a v fy).tasks = s.tasks := rfl
@[simp] theorem State.modSyn_power : (s.modSyn a v fy).power = s.power := rfl
@[simp] theorem State.modSyn_chains : (s.modSyn a v fy).chains = s.chains := rfl
@[simp] theorem State.modSyn_mac : (s.modSyn a v fy).mac = s.mac := rfl
@[simp] theorem State.modSyn_cipher : (s.modSyn a v fy).cipher = s.cipher := rfl
@[simp] theorem State.modSyn_cst : (s.modSyn a v fy).cst = s.cst := rfl
@[simp] theorem State.modSyn_wired : (s.modSyn a v fy).wired = s.wired := rfl
@[simp] theorem State.modSyn_mesh : (s.modSyn a v fy).mesh = s.mesh := rfl
@[simp] theorem State.modSyn_fifos : (s.modSyn a v fy).fifos = s.fifos := rfl
@[simp] theorem State.modSyn_overflows : (s.modSyn a v fy).overflows = s.overflows := rfl
@[simp] theorem State.modSyn_pkt : (s.modSyn a v fy).pkt = s.pkt := rfl
@[simp] theorem State.modSyn_eth : (s.modSyn a v fy).eth = s.eth := rfl
@[simp] theorem State.modSyn_tiles : (s.modSyn a v fy).tiles = s.tiles := rfl
@[simp] theorem State.modSyn_dram : (s.modSyn a v fy).dram = s.dram := rfl

@[simp] theorem State.modChain_pending : (s.modChain a fc).pending = s.pending := rfl
@[simp] theorem State.modChain_elapsed : (s.modChain a fc).elapsed = s.elapsed := rfl
@[simp] theorem State.modChain_fresh : (s.modChain a fc).fresh = s.fresh := rfl
@[simp] theorem State.modChain_answer : (s.modChain a fc).answer = s.answer := rfl
@[simp] theorem State.modChain_regs : (s.modChain a fc).regs = s.regs := rfl
@[simp] theorem State.modChain_staged : (s.modChain a fc).staged = s.staged := rfl
@[simp] theorem State.modChain_caps : (s.modChain a fc).caps = s.caps := rfl
@[simp] theorem State.modChain_sels : (s.modChain a fc).sels = s.sels := rfl
@[simp] theorem State.modChain_units : (s.modChain a fc).units = s.units := rfl
@[simp] theorem State.modChain_rejects : (s.modChain a fc).rejects = s.rejects := rfl
@[simp] theorem State.modChain_fuses : (s.modChain a fc).fuses = s.fuses := rfl
@[simp] theorem State.modChain_flash : (s.modChain a fc).flash = s.flash := rfl
@[simp] theorem State.modChain_log : (s.modChain a fc).log = s.log := rfl
@[simp] theorem State.modChain_boot : (s.modChain a fc).boot = s.boot := rfl
@[simp] theorem State.modChain_clocks : (s.modChain a fc).clocks = s.clocks := rfl
@[simp] theorem State.modChain_time : (s.modChain a fc).time = s.time := rfl
@[simp] theorem State.modChain_grid : (s.modChain a fc).grid = s.grid := rfl
@[simp] theorem State.modChain_commit : (s.modChain a fc).commit = s.commit := rfl
@[simp] theorem State.modChain_dormant : (s.modChain a fc).dormant = s.dormant := rfl
@[simp] theorem State.modChain_host : (s.modChain a fc).host = s.host := rfl
@[simp] theorem State.modChain_tasks : (s.modChain a fc).tasks = s.tasks := rfl
@[simp] theorem State.modChain_power : (s.modChain a fc).power = s.power := rfl
@[simp] theorem State.modChain_radios : (s.modChain a fc).radios = s.radios := rfl
@[simp] theorem State.modChain_mac : (s.modChain a fc).mac = s.mac := rfl
@[simp] theorem State.modChain_cipher : (s.modChain a fc).cipher = s.cipher := rfl
@[simp] theorem State.modChain_cst : (s.modChain a fc).cst = s.cst := rfl
@[simp] theorem State.modChain_wired : (s.modChain a fc).wired = s.wired := rfl
@[simp] theorem State.modChain_mesh : (s.modChain a fc).mesh = s.mesh := rfl
@[simp] theorem State.modChain_fifos : (s.modChain a fc).fifos = s.fifos := rfl
@[simp] theorem State.modChain_overflows : (s.modChain a fc).overflows = s.overflows := rfl
@[simp] theorem State.modChain_pkt : (s.modChain a fc).pkt = s.pkt := rfl
@[simp] theorem State.modChain_eth : (s.modChain a fc).eth = s.eth := rfl
@[simp] theorem State.modChain_tiles : (s.modChain a fc).tiles = s.tiles := rfl
@[simp] theorem State.modChain_dram : (s.modChain a fc).dram = s.dram := rfl

@[simp] theorem State.setCap_pending : (s.setCap r a v).pending = s.pending := rfl
@[simp] theorem State.setCap_elapsed : (s.setCap r a v).elapsed = s.elapsed := rfl
@[simp] theorem State.setCap_fresh : (s.setCap r a v).fresh = s.fresh := rfl
@[simp] theorem State.setCap_answer : (s.setCap r a v).answer = s.answer := rfl
@[simp] theorem State.setCap_regs : (s.setCap r a v).regs = s.regs := rfl
@[simp] theorem State.setCap_staged : (s.setCap r a v).staged = s.staged := rfl
@[simp] theorem State.setCap_sels : (s.setCap r a v).sels = s.sels := rfl
@[simp] theorem State.setCap_units : (s.setCap r a v).units = s.units := rfl
@[simp] theorem State.setCap_rejects : (s.setCap r a v).rejects = s.rejects := rfl
@[simp] theorem State.setCap_fuses : (s.setCap r a v).fuses = s.fuses := rfl
@[simp] theorem State.setCap_flash : (s.setCap r a v).flash = s.flash := rfl
@[simp] theorem State.setCap_log : (s.setCap r a v).log = s.log := rfl
@[simp] theorem State.setCap_boot : (s.setCap r a v).boot = s.boot := rfl
@[simp] theorem State.setCap_clocks : (s.setCap r a v).clocks = s.clocks := rfl
@[simp] theorem State.setCap_time : (s.setCap r a v).time = s.time := rfl
@[simp] theorem State.setCap_grid : (s.setCap r a v).grid = s.grid := rfl
@[simp] theorem State.setCap_commit : (s.setCap r a v).commit = s.commit := rfl
@[simp] theorem State.setCap_dormant : (s.setCap r a v).dormant = s.dormant := rfl
@[simp] theorem State.setCap_host : (s.setCap r a v).host = s.host := rfl
@[simp] theorem State.setCap_tasks : (s.setCap r a v).tasks = s.tasks := rfl
@[simp] theorem State.setCap_power : (s.setCap r a v).power = s.power := rfl
@[simp] theorem State.setCap_radios : (s.setCap r a v).radios = s.radios := rfl
@[simp] theorem State.setCap_chains : (s.setCap r a v).chains = s.chains := rfl
@[simp] theorem State.setCap_mac : (s.setCap r a v).mac = s.mac := rfl
@[simp] theorem State.setCap_cipher : (s.setCap r a v).cipher = s.cipher := rfl
@[simp] theorem State.setCap_cst : (s.setCap r a v).cst = s.cst := rfl
@[simp] theorem State.setCap_wired : (s.setCap r a v).wired = s.wired := rfl
@[simp] theorem State.setCap_mesh : (s.setCap r a v).mesh = s.mesh := rfl
@[simp] theorem State.setCap_fifos : (s.setCap r a v).fifos = s.fifos := rfl
@[simp] theorem State.setCap_overflows : (s.setCap r a v).overflows = s.overflows := rfl
@[simp] theorem State.setCap_pkt : (s.setCap r a v).pkt = s.pkt := rfl
@[simp] theorem State.setCap_eth : (s.setCap r a v).eth = s.eth := rfl
@[simp] theorem State.setCap_tiles : (s.setCap r a v).tiles = s.tiles := rfl
@[simp] theorem State.setCap_dram : (s.setCap r a v).dram = s.dram := rfl

@[simp] theorem State.setNt_pending : (s.setNt v).pending = s.pending := rfl
@[simp] theorem State.setNt_elapsed : (s.setNt v).elapsed = s.elapsed := rfl
@[simp] theorem State.setNt_fresh : (s.setNt v).fresh = s.fresh := rfl
@[simp] theorem State.setNt_answer : (s.setNt v).answer = s.answer := rfl
@[simp] theorem State.setNt_regs : (s.setNt v).regs = s.regs := rfl
@[simp] theorem State.setNt_staged : (s.setNt v).staged = s.staged := rfl
@[simp] theorem State.setNt_caps : (s.setNt v).caps = s.caps := rfl
@[simp] theorem State.setNt_sels : (s.setNt v).sels = s.sels := rfl
@[simp] theorem State.setNt_units : (s.setNt v).units = s.units := rfl
@[simp] theorem State.setNt_rejects : (s.setNt v).rejects = s.rejects := rfl
@[simp] theorem State.setNt_fuses : (s.setNt v).fuses = s.fuses := rfl
@[simp] theorem State.setNt_flash : (s.setNt v).flash = s.flash := rfl
@[simp] theorem State.setNt_log : (s.setNt v).log = s.log := rfl
@[simp] theorem State.setNt_boot : (s.setNt v).boot = s.boot := rfl
@[simp] theorem State.setNt_clocks : (s.setNt v).clocks = s.clocks := rfl
@[simp] theorem State.setNt_grid : (s.setNt v).grid = s.grid := rfl
@[simp] theorem State.setNt_commit : (s.setNt v).commit = s.commit := rfl
@[simp] theorem State.setNt_dormant : (s.setNt v).dormant = s.dormant := rfl
@[simp] theorem State.setNt_host : (s.setNt v).host = s.host := rfl
@[simp] theorem State.setNt_tasks : (s.setNt v).tasks = s.tasks := rfl
@[simp] theorem State.setNt_power : (s.setNt v).power = s.power := rfl
@[simp] theorem State.setNt_radios : (s.setNt v).radios = s.radios := rfl
@[simp] theorem State.setNt_chains : (s.setNt v).chains = s.chains := rfl
@[simp] theorem State.setNt_mac : (s.setNt v).mac = s.mac := rfl
@[simp] theorem State.setNt_cipher : (s.setNt v).cipher = s.cipher := rfl
@[simp] theorem State.setNt_cst : (s.setNt v).cst = s.cst := rfl
@[simp] theorem State.setNt_wired : (s.setNt v).wired = s.wired := rfl
@[simp] theorem State.setNt_mesh : (s.setNt v).mesh = s.mesh := rfl
@[simp] theorem State.setNt_fifos : (s.setNt v).fifos = s.fifos := rfl
@[simp] theorem State.setNt_overflows : (s.setNt v).overflows = s.overflows := rfl
@[simp] theorem State.setNt_pkt : (s.setNt v).pkt = s.pkt := rfl
@[simp] theorem State.setNt_eth : (s.setNt v).eth = s.eth := rfl
@[simp] theorem State.setNt_tiles : (s.setNt v).tiles = s.tiles := rfl
@[simp] theorem State.setNt_dram : (s.setNt v).dram = s.dram := rfl

@[simp] theorem State.modTile_pending : (s.modTile a ft).pending = s.pending := rfl
@[simp] theorem State.modTile_elapsed : (s.modTile a ft).elapsed = s.elapsed := rfl
@[simp] theorem State.modTile_fresh : (s.modTile a ft).fresh = s.fresh := rfl
@[simp] theorem State.modTile_answer : (s.modTile a ft).answer = s.answer := rfl
@[simp] theorem State.modTile_regs : (s.modTile a ft).regs = s.regs := rfl
@[simp] theorem State.modTile_staged : (s.modTile a ft).staged = s.staged := rfl
@[simp] theorem State.modTile_caps : (s.modTile a ft).caps = s.caps := rfl
@[simp] theorem State.modTile_sels : (s.modTile a ft).sels = s.sels := rfl
@[simp] theorem State.modTile_units : (s.modTile a ft).units = s.units := rfl
@[simp] theorem State.modTile_rejects : (s.modTile a ft).rejects = s.rejects := rfl
@[simp] theorem State.modTile_fuses : (s.modTile a ft).fuses = s.fuses := rfl
@[simp] theorem State.modTile_flash : (s.modTile a ft).flash = s.flash := rfl
@[simp] theorem State.modTile_log : (s.modTile a ft).log = s.log := rfl
@[simp] theorem State.modTile_boot : (s.modTile a ft).boot = s.boot := rfl
@[simp] theorem State.modTile_clocks : (s.modTile a ft).clocks = s.clocks := rfl
@[simp] theorem State.modTile_time : (s.modTile a ft).time = s.time := rfl
@[simp] theorem State.modTile_grid : (s.modTile a ft).grid = s.grid := rfl
@[simp] theorem State.modTile_commit : (s.modTile a ft).commit = s.commit := rfl
@[simp] theorem State.modTile_dormant : (s.modTile a ft).dormant = s.dormant := rfl
@[simp] theorem State.modTile_host : (s.modTile a ft).host = s.host := rfl
@[simp] theorem State.modTile_tasks : (s.modTile a ft).tasks = s.tasks := rfl
@[simp] theorem State.modTile_power : (s.modTile a ft).power = s.power := rfl
@[simp] theorem State.modTile_radios : (s.modTile a ft).radios = s.radios := rfl
@[simp] theorem State.modTile_chains : (s.modTile a ft).chains = s.chains := rfl
@[simp] theorem State.modTile_mac : (s.modTile a ft).mac = s.mac := rfl
@[simp] theorem State.modTile_cipher : (s.modTile a ft).cipher = s.cipher := rfl
@[simp] theorem State.modTile_cst : (s.modTile a ft).cst = s.cst := rfl
@[simp] theorem State.modTile_wired : (s.modTile a ft).wired = s.wired := rfl
@[simp] theorem State.modTile_mesh : (s.modTile a ft).mesh = s.mesh := rfl
@[simp] theorem State.modTile_fifos : (s.modTile a ft).fifos = s.fifos := rfl
@[simp] theorem State.modTile_overflows : (s.modTile a ft).overflows = s.overflows := rfl
@[simp] theorem State.modTile_pkt : (s.modTile a ft).pkt = s.pkt := rfl
@[simp] theorem State.modTile_eth : (s.modTile a ft).eth = s.eth := rfl
@[simp] theorem State.modTile_dram : (s.modTile a ft).dram = s.dram := rfl

@[simp] theorem State.draw_pending : (s.draw a).2.pending = s.pending := rfl
@[simp] theorem State.draw_elapsed : (s.draw a).2.elapsed = s.elapsed := rfl
@[simp] theorem State.draw_answer : (s.draw a).2.answer = s.answer := rfl
@[simp] theorem State.draw_regs : (s.draw a).2.regs = s.regs := rfl
@[simp] theorem State.draw_staged : (s.draw a).2.staged = s.staged := rfl
@[simp] theorem State.draw_caps : (s.draw a).2.caps = s.caps := rfl
@[simp] theorem State.draw_sels : (s.draw a).2.sels = s.sels := rfl
@[simp] theorem State.draw_units : (s.draw a).2.units = s.units := rfl
@[simp] theorem State.draw_rejects : (s.draw a).2.rejects = s.rejects := rfl
@[simp] theorem State.draw_fuses : (s.draw a).2.fuses = s.fuses := rfl
@[simp] theorem State.draw_flash : (s.draw a).2.flash = s.flash := rfl
@[simp] theorem State.draw_log : (s.draw a).2.log = s.log := rfl
@[simp] theorem State.draw_boot : (s.draw a).2.boot = s.boot := rfl
@[simp] theorem State.draw_clocks : (s.draw a).2.clocks = s.clocks := rfl
@[simp] theorem State.draw_time : (s.draw a).2.time = s.time := rfl
@[simp] theorem State.draw_grid : (s.draw a).2.grid = s.grid := rfl
@[simp] theorem State.draw_commit : (s.draw a).2.commit = s.commit := rfl
@[simp] theorem State.draw_dormant : (s.draw a).2.dormant = s.dormant := rfl
@[simp] theorem State.draw_host : (s.draw a).2.host = s.host := rfl
@[simp] theorem State.draw_tasks : (s.draw a).2.tasks = s.tasks := rfl
@[simp] theorem State.draw_power : (s.draw a).2.power = s.power := rfl
@[simp] theorem State.draw_radios : (s.draw a).2.radios = s.radios := rfl
@[simp] theorem State.draw_chains : (s.draw a).2.chains = s.chains := rfl
@[simp] theorem State.draw_mac : (s.draw a).2.mac = s.mac := rfl
@[simp] theorem State.draw_cipher : (s.draw a).2.cipher = s.cipher := rfl
@[simp] theorem State.draw_cst : (s.draw a).2.cst = s.cst := rfl
@[simp] theorem State.draw_wired : (s.draw a).2.wired = s.wired := rfl
@[simp] theorem State.draw_mesh : (s.draw a).2.mesh = s.mesh := rfl
@[simp] theorem State.draw_fifos : (s.draw a).2.fifos = s.fifos := rfl
@[simp] theorem State.draw_overflows : (s.draw a).2.overflows = s.overflows := rfl
@[simp] theorem State.draw_pkt : (s.draw a).2.pkt = s.pkt := rfl
@[simp] theorem State.draw_eth : (s.draw a).2.eth = s.eth := rfl
@[simp] theorem State.draw_tiles : (s.draw a).2.tiles = s.tiles := rfl
@[simp] theorem State.draw_dram : (s.draw a).2.dram = s.dram := rfl

@[simp] theorem State.inc_pending : (s.inc p).pending = s.pending := by unfold State.inc; split <;> rfl
@[simp] theorem State.inc_elapsed : (s.inc p).elapsed = s.elapsed := by unfold State.inc; split <;> rfl
@[simp] theorem State.inc_answer : (s.inc p).answer = s.answer := by unfold State.inc; split <;> rfl
@[simp] theorem State.inc_staged : (s.inc p).staged = s.staged := by unfold State.inc; split <;> rfl
@[simp] theorem State.inc_caps : (s.inc p).caps = s.caps := by unfold State.inc; split <;> rfl
@[simp] theorem State.inc_sels : (s.inc p).sels = s.sels := by unfold State.inc; split <;> rfl
@[simp] theorem State.inc_units : (s.inc p).units = s.units := by unfold State.inc; split <;> rfl
@[simp] theorem State.inc_rejects : (s.inc p).rejects = s.rejects := by unfold State.inc; split <;> rfl
@[simp] theorem State.inc_fuses : (s.inc p).fuses = s.fuses := by unfold State.inc; split <;> rfl
@[simp] theorem State.inc_flash : (s.inc p).flash = s.flash := by unfold State.inc; split <;> rfl
@[simp] theorem State.inc_log : (s.inc p).log = s.log := by unfold State.inc; split <;> rfl
@[simp] theorem State.inc_boot : (s.inc p).boot = s.boot := by unfold State.inc; split <;> rfl
@[simp] theorem State.inc_clocks : (s.inc p).clocks = s.clocks := by unfold State.inc; split <;> rfl
@[simp] theorem State.inc_time : (s.inc p).time = s.time := by unfold State.inc; split <;> rfl
@[simp] theorem State.inc_grid : (s.inc p).grid = s.grid := by unfold State.inc; split <;> rfl
@[simp] theorem State.inc_commit : (s.inc p).commit = s.commit := by unfold State.inc; split <;> rfl
@[simp] theorem State.inc_dormant : (s.inc p).dormant = s.dormant := by unfold State.inc; split <;> rfl
@[simp] theorem State.inc_host : (s.inc p).host = s.host := by unfold State.inc; split <;> rfl
@[simp] theorem State.inc_tasks : (s.inc p).tasks = s.tasks := by unfold State.inc; split <;> rfl
@[simp] theorem State.inc_power : (s.inc p).power = s.power := by unfold State.inc; split <;> rfl
@[simp] theorem State.inc_radios : (s.inc p).radios = s.radios := by unfold State.inc; split <;> rfl
@[simp] theorem State.inc_chains : (s.inc p).chains = s.chains := by unfold State.inc; split <;> rfl
@[simp] theorem State.inc_mac : (s.inc p).mac = s.mac := by unfold State.inc; split <;> rfl
@[simp] theorem State.inc_cipher : (s.inc p).cipher = s.cipher := by unfold State.inc; split <;> rfl
@[simp] theorem State.inc_cst : (s.inc p).cst = s.cst := by unfold State.inc; split <;> rfl
@[simp] theorem State.inc_wired : (s.inc p).wired = s.wired := by unfold State.inc; split <;> rfl
@[simp] theorem State.inc_mesh : (s.inc p).mesh = s.mesh := by unfold State.inc; split <;> rfl
@[simp] theorem State.inc_fifos : (s.inc p).fifos = s.fifos := by unfold State.inc; split <;> rfl
@[simp] theorem State.inc_overflows : (s.inc p).overflows = s.overflows := by unfold State.inc; split <;> rfl
@[simp] theorem State.inc_pkt : (s.inc p).pkt = s.pkt := by unfold State.inc; split <;> rfl
@[simp] theorem State.inc_eth : (s.inc p).eth = s.eth := by unfold State.inc; split <;> rfl
@[simp] theorem State.inc_tiles : (s.inc p).tiles = s.tiles := by unfold State.inc; split <;> rfl
@[simp] theorem State.inc_dram : (s.inc p).dram = s.dram := by unfold State.inc; split <;> rfl

@[simp] theorem State.incBy_pending : (s.incBy p a).pending = s.pending := by unfold State.incBy; split <;> rfl
@[simp] theorem State.incBy_elapsed : (s.incBy p a).elapsed = s.elapsed := by unfold State.incBy; split <;> rfl
@[simp] theorem State.incBy_answer : (s.incBy p a).answer = s.answer := by unfold State.incBy; split <;> rfl
@[simp] theorem State.incBy_staged : (s.incBy p a).staged = s.staged := by unfold State.incBy; split <;> rfl
@[simp] theorem State.incBy_caps : (s.incBy p a).caps = s.caps := by unfold State.incBy; split <;> rfl
@[simp] theorem State.incBy_sels : (s.incBy p a).sels = s.sels := by unfold State.incBy; split <;> rfl
@[simp] theorem State.incBy_units : (s.incBy p a).units = s.units := by unfold State.incBy; split <;> rfl
@[simp] theorem State.incBy_rejects : (s.incBy p a).rejects = s.rejects := by unfold State.incBy; split <;> rfl
@[simp] theorem State.incBy_fuses : (s.incBy p a).fuses = s.fuses := by unfold State.incBy; split <;> rfl
@[simp] theorem State.incBy_flash : (s.incBy p a).flash = s.flash := by unfold State.incBy; split <;> rfl
@[simp] theorem State.incBy_log : (s.incBy p a).log = s.log := by unfold State.incBy; split <;> rfl
@[simp] theorem State.incBy_boot : (s.incBy p a).boot = s.boot := by unfold State.incBy; split <;> rfl
@[simp] theorem State.incBy_clocks : (s.incBy p a).clocks = s.clocks := by unfold State.incBy; split <;> rfl
@[simp] theorem State.incBy_time : (s.incBy p a).time = s.time := by unfold State.incBy; split <;> rfl
@[simp] theorem State.incBy_grid : (s.incBy p a).grid = s.grid := by unfold State.incBy; split <;> rfl
@[simp] theorem State.incBy_commit : (s.incBy p a).commit = s.commit := by unfold State.incBy; split <;> rfl
@[simp] theorem State.incBy_dormant : (s.incBy p a).dormant = s.dormant := by unfold State.incBy; split <;> rfl
@[simp] theorem State.incBy_host : (s.incBy p a).host = s.host := by unfold State.incBy; split <;> rfl
@[simp] theorem State.incBy_tasks : (s.incBy p a).tasks = s.tasks := by unfold State.incBy; split <;> rfl
@[simp] theorem State.incBy_power : (s.incBy p a).power = s.power := by unfold State.incBy; split <;> rfl
@[simp] theorem State.incBy_radios : (s.incBy p a).radios = s.radios := by unfold State.incBy; split <;> rfl
@[simp] theorem State.incBy_chains : (s.incBy p a).chains = s.chains := by unfold State.incBy; split <;> rfl
@[simp] theorem State.incBy_mac : (s.incBy p a).mac = s.mac := by unfold State.incBy; split <;> rfl
@[simp] theorem State.incBy_cipher : (s.incBy p a).cipher = s.cipher := by unfold State.incBy; split <;> rfl
@[simp] theorem State.incBy_cst : (s.incBy p a).cst = s.cst := by unfold State.incBy; split <;> rfl
@[simp] theorem State.incBy_wired : (s.incBy p a).wired = s.wired := by unfold State.incBy; split <;> rfl
@[simp] theorem State.incBy_mesh : (s.incBy p a).mesh = s.mesh := by unfold State.incBy; split <;> rfl
@[simp] theorem State.incBy_fifos : (s.incBy p a).fifos = s.fifos := by unfold State.incBy; split <;> rfl
@[simp] theorem State.incBy_overflows : (s.incBy p a).overflows = s.overflows := by unfold State.incBy; split <;> rfl
@[simp] theorem State.incBy_pkt : (s.incBy p a).pkt = s.pkt := by unfold State.incBy; split <;> rfl
@[simp] theorem State.incBy_eth : (s.incBy p a).eth = s.eth := by unfold State.incBy; split <;> rfl
@[simp] theorem State.incBy_tiles : (s.incBy p a).tiles = s.tiles := by unfold State.incBy; split <;> rfl
@[simp] theorem State.incBy_dram : (s.incBy p a).dram = s.dram := by unfold State.incBy; split <;> rfl

end Sys2Proof.Machine
end

