-- ==== Sys2Proof/Laws/Table.lean ====
section
/-! SUPPORT. Laws of the sparse tables: read after put, the other keys, and the rising order of the keys. -/

namespace Sys2Proof

variable {α : Type}

@[simp] theorem Tab.get?_nil (k : Nat) : Tab.get? ([] : Tab α) k = none := rfl

@[simp] theorem Tab.get?_cons (j : Nat) (v : α) (t : Tab α) (k : Nat) :
    Tab.get? ((j, v) :: t) k = if j = k then some v else Tab.get? t k := rfl

@[simp] theorem Tab.get?_put_self (t : Tab α) (k : Nat) (v : α) : Tab.get? (Tab.put t k v) k = some v := by
  induction t with
  | nil => simp [Tab.put]
  | cons e t ih =>
    unfold Tab.put
    split
    · simp
    · split
      · simp
      · simp only [Tab.get?_cons, ih]
        split <;> first | omega | rfl

theorem Tab.get?_put_ne (t : Tab α) {k j : Nat} (v : α) (h : j ≠ k) : Tab.get? (Tab.put t k v) j = Tab.get? t j := by
  induction t with
  | nil => simp [Tab.put, Ne.symm h]
  | cons e t ih =>
    obtain ⟨i, w⟩ := e
    unfold Tab.put
    split
    · simp [Ne.symm h]
    · split
      · subst_vars; simp [Ne.symm h]
      · simp [ih]

@[simp] theorem Tab.getD_put_self (t : Tab α) (k : Nat) (v d : α) : Tab.getD (Tab.put t k v) k d = v := by
  simp [Tab.getD]

theorem Tab.getD_put_ne (t : Tab α) {k j : Nat} (v d : α) (h : j ≠ k) :
    Tab.getD (Tab.put t k v) j d = Tab.getD t j d := by
  simp [Tab.getD, Tab.get?_put_ne t v h]

@[simp] theorem Tab.has_put_self (t : Tab α) (k : Nat) (v : α) : Tab.has (Tab.put t k v) k = true := by
  simp [Tab.has]

@[simp] theorem Tab.get?_del_self (t : Tab α) (k : Nat) : Tab.get? (Tab.del t k) k = none := by
  induction t with
  | nil => rfl
  | cons e t ih =>
    simp only [Tab.del, List.filter_cons] at ih ⊢
    split
    · rename_i h
      have h' : e.1 ≠ k := by simpa using h
      simpa [Tab.get?, h'] using ih
    · exact ih

theorem Tab.get?_del_ne (t : Tab α) {k j : Nat} (h : j ≠ k) : Tab.get? (Tab.del t k) j = Tab.get? t j := by
  induction t with
  | nil => rfl
  | cons e t ih =>
    simp only [Tab.del, List.filter_cons] at ih ⊢
    split
    · simp [Tab.get?, ih]
    · rename_i h'
      have h' : e.1 = k := by simpa using h'
      rw [ih]
      simp [Tab.get?, h', Ne.symm h]

/-- Every key is at least b. -/
def Tab.above (b : Nat) (t : Tab α) : Prop := ∀ e ∈ t, b ≤ e.1

theorem Tab.sorted_cons (j : Nat) (v : α) (t : Tab α) :
    Tab.sorted ((j, v) :: t) = true ↔ Tab.sorted t = true ∧ Tab.above (j + 1) t := by
  induction t generalizing j v with
  | nil => simp [Tab.sorted, Tab.above]
  | cons e t ih =>
    obtain ⟨k, w⟩ := e
    simp only [Tab.sorted, Bool.and_eq_true, decide_eq_true_eq]
    constructor
    · rintro ⟨h1, h2⟩
      refine ⟨h2, fun e he => ?_⟩
      rcases List.mem_cons.mp he with rfl | he
      · exact h1
      · have := ((ih k w).mp h2).2 e he
        omega
    · rintro ⟨h1, h2⟩
      exact ⟨h2 _ (List.mem_cons_self ..), h1⟩

theorem Tab.above_put {b k : Nat} (t : Tab α) (v : α) (h : Tab.above b t) (hk : b ≤ k) : Tab.above b (Tab.put t k v) := by
  induction t with
  | nil =>
    intro e he
    simp [Tab.put] at he
    subst he; exact hk
  | cons e t ih =>
    have ht : Tab.above b t := fun x hx => h x (List.mem_cons_of_mem _ hx)
    have he := h e (List.mem_cons_self ..)
    intro x hx
    unfold Tab.put at hx
    split at hx
    · rcases List.mem_cons.mp hx with rfl | hx
      · exact hk
      · exact h x hx
    · split at hx
      · rcases List.mem_cons.mp hx with rfl | hx
        · exact hk
        · exact ht x hx
      · rcases List.mem_cons.mp hx with rfl | hx
        · exact he
        · exact ih ht x hx

theorem Tab.sorted_put (t : Tab α) (k : Nat) (v : α) (h : Tab.sorted t = true) : Tab.sorted (Tab.put t k v) = true := by
  induction t with
  | nil => rfl
  | cons e t ih =>
    obtain ⟨j, w⟩ := e
    have ⟨h1, h2⟩ := (Tab.sorted_cons j w t).mp h
    unfold Tab.put
    split
    · refine (Tab.sorted_cons ..).mpr ⟨h, fun e he => ?_⟩
      rcases List.mem_cons.mp he with rfl | he
      · exact ‹k < j›
      · have := h2 e he; omega
    · split
      · subst_vars; exact (Tab.sorted_cons ..).mpr ⟨h1, h2⟩
      · exact (Tab.sorted_cons ..).mpr ⟨ih h1, Tab.above_put t v h2 (by omega)⟩

theorem Tab.sorted_filter (t : Tab α) (p : Nat × α → Bool) (h : Tab.sorted t = true) :
    Tab.sorted (t.filter p) = true := by
  induction t with
  | nil => rfl
  | cons e t ih =>
    obtain ⟨j, w⟩ := e
    have ⟨h1, h2⟩ := (Tab.sorted_cons j w t).mp h
    rw [List.filter_cons]
    split
    · exact (Tab.sorted_cons ..).mpr ⟨ih h1, fun e he => h2 e (List.mem_filter.mp he).1⟩
    · exact ih h1

theorem Tab.sorted_del (t : Tab α) (k : Nat) (h : Tab.sorted t = true) : Tab.sorted (Tab.del t k) = true :=
  Tab.sorted_filter t _ h

theorem Tab.sorted_keep (t : Tab α) (p : Nat → α → Bool) (h : Tab.sorted t = true) :
    Tab.sorted (Tab.keep t p) = true :=
  Tab.sorted_filter t _ h

theorem Tab.above_map {b : Nat} (t : Tab α) (g : Nat × α → α) (h : Tab.above b t) :
    Tab.above b (t.map fun e => (e.1, g e)) := by
  intro e he
  obtain ⟨x, hx, rfl⟩ := List.mem_map.mp he
  exact h x hx

theorem Tab.sorted_upd (t : Tab α) (k : Nat) (f : α → α) (h : Tab.sorted t = true) :
    Tab.sorted (Tab.upd t k f) = true := by
  have hf : (fun e : Nat × α => if e.1 = k then (e.1, f e.2) else e) =
      fun e => (e.1, if e.1 = k then f e.2 else e.2) := by
    funext e; split <;> rfl
  rw [Tab.upd, hf]
  induction t with
  | nil => rfl
  | cons e t ih =>
    obtain ⟨j, w⟩ := e
    have ⟨h1, h2⟩ := (Tab.sorted_cons j w t).mp h
    exact (Tab.sorted_cons ..).mpr ⟨ih h1, Tab.above_map t (fun e => if e.1 = k then f e.2 else e.2) h2⟩

theorem Tab.get?_upd_self (t : Tab α) (k : Nat) (f : α → α) : Tab.get? (Tab.upd t k f) k = (Tab.get? t k).map f := by
  induction t with
  | nil => rfl
  | cons e t ih =>
    simp only [Tab.upd, List.map_cons] at ih ⊢
    by_cases h : e.1 = k
    · simp [Tab.get?, h]
    · simp [Tab.get?, h, ih]

theorem Tab.get?_upd_ne (t : Tab α) {k j : Nat} (f : α → α) (h : j ≠ k) :
    Tab.get? (Tab.upd t k f) j = Tab.get? t j := by
  induction t with
  | nil => rfl
  | cons e t ih =>
    simp only [Tab.upd, List.map_cons] at ih ⊢
    by_cases h' : e.1 = k
    · simp [Tab.get?, h', ih, Ne.symm h]
    · simp [Tab.get?, h', ih]

theorem Tab.get?_mapV {β : Type} (t : Tab α) (f : Nat → α → β) (k : Nat) :
    Tab.get? (Tab.mapV t f) k = (Tab.get? t k).map (f k) := by
  induction t with
  | nil => rfl
  | cons e t ih =>
    simp only [Tab.mapV, List.map_cons] at ih ⊢
    by_cases h : e.1 = k
    · simp [Tab.get?, h]
    · simp [Tab.get?, h, ih]

@[simp] theorem leBytes_length (n v : Nat) : (leBytes n v).length = n := by
  induction n generalizing v with
  | zero => rfl
  | succ n ih => simp [leBytes, ih]

@[simp] theorem slice_length (bs : List Byte) (o n : Nat) : (slice bs o n).length = n := by
  simp [slice, List.length_take]

end Sys2Proof
end

