-- ==== Sys2Proof/Laws/Ops.lean ====
section
/-! SUPPORT. What the shared operations over registers, counters, tables of units and the flash do. -/

namespace Sys2Proof.Machine

/-! ## Registers -/

@[simp] theorem State.reg_setReg (s : State) (a : Nat) (w : Word) : (s.setReg a w).reg a = w := by
  unfold State.setReg State.reg
  split <;> simp_all

theorem State.reg_setReg_ne (s : State) {a b : Nat} (w : Word) (h : b ≠ a) : (s.setReg a w).reg b = s.reg b := by
  unfold State.setReg State.reg
  split
  · simp [Tab.get?_del_ne s.regs h]
  · simp [Tab.get?_put_ne s.regs w h]

@[simp] theorem State.sreg_setSreg (s : State) (a : Nat) (w : Word) : (s.setSreg a w).sreg a = w := by
  unfold State.setSreg State.sreg
  split <;> simp_all

theorem State.sreg_setSreg_ne (s : State) {a b : Nat} (w : Word) (h : b ≠ a) : (s.setSreg a w).sreg b = s.sreg b := by
  unfold State.setSreg State.sreg
  split
  · simp [Tab.get?_del_ne s.staged h]
  · simp [Tab.get?_put_ne s.staged w h]

@[simp] theorem State.sreg_setReg (s : State) (a b : Nat) (w : Word) : (s.setReg a w).sreg b = s.sreg b := rfl

@[simp] theorem State.reg_setSreg (s : State) (a b : Nat) (w : Word) : (s.setSreg a w).reg b = s.reg b := rfl

theorem State.get_put_ne (s : State) {f g : FieldRef} (v : Nat) (h : g.a ≠ f.a) : (s.put f v).get g = s.get g := by
  simp [State.put, State.get, State.reg_setReg_ne s _ h]

/-- A counter below its width counts one (00 R8). -/
theorem State.inc_of_lt (s : State) (f : FieldRef) (h : s.get f + 1 < 2 ^ (f.hi + 1 - f.lo)) :
    s.inc f = s.put f (s.get f + 1) := by
  simp [State.inc, h]

/-- Counting draws at most one free value. -/
theorem State.fresh_inc (s : State) (f : FieldRef) : (s.inc f).fresh = s.fresh ∨ (s.inc f).fresh = s.fresh + 1 := by
  unfold State.inc
  split
  · exact .inl rfl
  · exact .inr rfl

/-- Counting changes no other register. -/
theorem State.reg_inc_ne (s : State) {f : FieldRef} {a : Nat} (h : a ≠ f.a) : (s.inc f).reg a = s.reg a := by
  unfold State.inc
  split
  · exact s.reg_setReg_ne _ h
  · exact (s.draw 32).2.reg_setReg_ne _ h

@[simp] theorem State.unit_setUnit (s : State) (i : Nat) (x : UnitSt) : (s.setUnit i x).unit i = x := by
  simp [State.unit, State.setUnit]

theorem State.unit_setUnit_ne (s : State) {i j : Nat} (x : UnitSt) (h : j ≠ i) : (s.setUnit i x).unit j = s.unit j := by
  simp [State.unit, State.setUnit, Tab.getD_put_ne s.units x {} h]

/-- A refusal is counted at the unit's boundary and changes nothing else of it (01 R33). -/
theorem State.unit_refuseAt (s : State) (u : FUnit) :
    (s.refuseAt u).unit u.idx = { s.unit u.idx with refused := (s.unit u.idx).refused + 1 } := by
  simp [State.refuseAt]

@[simp] theorem State.ring_setRing (s : State) (k : Nat) (q : RingSt) : (s.setRing k q).ring k = q := by
  simp [State.ring, State.setRing]

theorem State.ring_setRing_ne (s : State) {k j : Nat} (q : RingSt) (h : j ≠ k) : (s.setRing k q).ring j = s.ring j := by
  simp [State.ring, State.setRing, Tab.getD_put_ne s.host.rings q {} h]

@[simp] theorem State.radio_modRadio (s : State) (r : Nat) (f : RadioSt → RadioSt) :
    (s.modRadio r f).radio r = f (s.radio r) := by
  simp [State.radio, State.modRadio]

@[simp] theorem State.tile_modTile (s : State) (k : Nat) (f : TileSt → TileSt) :
    (s.modTile k f).tile k = f (s.tile k) := by
  simp [State.tile, State.modTile]

@[simp] theorem State.chain_modChain (s : State) (k : Nat) (f : ChainSt → ChainSt) :
    (s.modChain k f).chain k = f (s.chain k) := by
  simp [State.chain, State.modChain]

@[simp] theorem State.member_modMember (s : State) (m : Nat) (f : CstMember → CstMember) :
    (s.modMember m f).member m = f (s.member m) := by
  simp [State.member, State.modMember]

@[simp] theorem State.dch_modDch (s : State) (c : Nat) (f : DramCh → DramCh) :
    (s.modDch c f).dch c = f (s.dch c) := by
  simp [State.dch, State.modDch]

end Sys2Proof.Machine

namespace Sys2Proof

/-! ## The flash as memory -/

theorem Memory.rising_eq (m : List Host.Cell) : Memory.rising m = Tab.sorted m := by
  induction m with
  | nil => rfl
  | cons e t ih =>
    cases t with
    | nil => rfl
    | cons d t => simp only [Memory.rising, Tab.sorted, ih]

theorem Memory.read_eq (m : List Host.Cell) (a : Nat) : Memory.read m a = (Tab.get? m a).getD Memory.unlisted := by
  induction m with
  | nil => rfl
  | cons e t ih =>
    obtain ⟨b, v⟩ := e
    simp only [Memory.read, Tab.get?_cons, ih]
    split <;> rfl

/-- A byte reads as it was written. -/
@[simp] theorem Memory.read_write (m : List Host.Cell) (a : Nat) (v : Byte) :
    Memory.read (Memory.write m a v) a = v := by
  rw [Memory.read_eq, Memory.write]
  split <;> simp_all

/-- A write changes no other byte. -/
theorem Memory.read_write_ne (m : List Host.Cell) {a b : Nat} (v : Byte) (h : b ≠ a) :
    Memory.read (Memory.write m a v) b = Memory.read m b := by
  rw [Memory.read_eq, Memory.read_eq, Memory.write]
  split
  · rw [Tab.get?_del_ne m h]
  · rw [Tab.get?_put_ne m v h]

theorem Memory.mem_put (m : List Host.Cell) (a : Nat) (v : Byte) (c : Host.Cell) (h : c ∈ Tab.put m a v) :
    c = (a, v) ∨ c ∈ m := by
  induction m with
  | nil => simpa [Tab.put] using h
  | cons e t ih =>
    obtain ⟨j, w⟩ := e
    unfold Tab.put at h
    split at h
    · exact List.mem_cons.mp h
    · split at h
      · exact (List.mem_cons.mp h).imp id (List.mem_cons_of_mem _)
      · rcases List.mem_cons.mp h with rfl | h
        · exact .inr (List.mem_cons_self ..)
        · exact (ih h).imp id (List.mem_cons_of_mem _)

/-- What the canonical form says. -/
theorem Memory.wf_iff (m : List Host.Cell) :
    Memory.wf m = true ↔ Tab.sorted m = true ∧ ∀ c ∈ m, c.2 ≠ Memory.unlisted := by
  simp [Memory.wf, Memory.rising_eq]

theorem Memory.wf_filter (m : List Host.Cell) (p : Host.Cell → Bool) (h : Memory.wf m = true) :
    Memory.wf (m.filter p) = true := by
  rw [Memory.wf_iff] at h ⊢
  exact ⟨Tab.sorted_filter m p h.1, fun c hc => h.2 c (List.mem_filter.mp hc).1⟩

/-- A write keeps the canonical form. -/
theorem Memory.wf_write (m : List Host.Cell) (a : Nat) (v : Byte) (h : Memory.wf m = true) :
    Memory.wf (Memory.write m a v) = true := by
  unfold Memory.write
  split
  · exact Memory.wf_filter m _ h
  · rename_i hv
    rw [Memory.wf_iff] at h ⊢
    refine ⟨Tab.sorted_put m a v h.1, fun c hc => ?_⟩
    rcases Memory.mem_put m a v c hc with rfl | hc
    · exact hv
    · exact h.2 c hc

theorem Memory.wf_foldl {ι : Type} (l : List ι) (g : List Host.Cell → ι → List Host.Cell)
    (hg : ∀ m i, Memory.wf m = true → Memory.wf (g m i) = true) (m : List Host.Cell) (h : Memory.wf m = true) :
    Memory.wf (l.foldl g m) = true := by
  induction l generalizing m with
  | nil => exact h
  | cons i l ih => exact ih (g m i) (hg m i h)

/-- Writing bytes keeps the canonical form. -/
theorem Memory.wf_writeN (m : List Host.Cell) (a : Nat) (bs : List Byte) (h : Memory.wf m = true) :
    Memory.wf (Memory.writeN m a bs) = true :=
  Memory.wf_foldl _ _ (fun m i h => Memory.wf_write m (a + i) _ h) m h

/-- An erase keeps the canonical form. -/
theorem Memory.wf_erase (m : List Host.Cell) (a n : Nat) (h : Memory.wf m = true) :
    Memory.wf (Memory.erase m a n) = true :=
  Memory.wf_filter m _ h

theorem Memory.get?_filter (m : List Host.Cell) (p : Nat → Bool) (b : Nat) :
    Tab.get? (m.filter fun c => p c.1) b = if p b then Tab.get? m b else none := by
  induction m with
  | nil => simp
  | cons e t ih =>
    obtain ⟨j, w⟩ := e
    simp only [List.filter_cons]
    by_cases hj : p j
    · simp only [hj, if_true, Tab.get?_cons, ih]
      by_cases h : j = b
      · subst h; simp [hj]
      · simp [h]
    · have hn : p j = false := by simpa using hj
      by_cases h : j = b
      · subst h; simpa [hn] using ih
      · simpa [hn, h] using ih

/-- An erased byte reads erased, every other byte as before. -/
theorem Memory.read_erase (m : List Host.Cell) (a n b : Nat) :
    Memory.read (Memory.erase m a n) b = if a ≤ b ∧ b < a + n then Memory.unlisted else Memory.read m b := by
  rw [Memory.read_eq, Memory.read_eq, Memory.erase,
    Memory.get?_filter m (fun x => !(decide (a ≤ x) && decide (x < a + n))) b]
  by_cases h : a ≤ b ∧ b < a + n
  · simp [h]
  · rw [if_neg h, if_pos (by simp; omega)]

/-- Bytes outside those written read as before. -/
theorem Memory.read_writeN_ne (m : List Host.Cell) (a b : Nat) (bs : List Byte)
    (h : b < a ∨ a + bs.length ≤ b) : Memory.read (Memory.writeN m a bs) b = Memory.read m b := by
  unfold Memory.writeN
  have key : ∀ l : List Nat, (∀ i ∈ l, i < bs.length) → ∀ m,
      Memory.read (l.foldl (fun m i => Memory.write m (a + i) (bs.getD i Memory.unlisted)) m) b = Memory.read m b := by
    intro l
    induction l with
    | nil => intro _ _; rfl
    | cons i l ih =>
      intro hl m
      have hi := hl i (List.mem_cons_self ..)
      rw [List.foldl_cons, ih (fun j hj => hl j (List.mem_cons_of_mem _ hj)), Memory.read_write_ne]
      omega
  exact key _ (fun i hi => List.mem_range.mp hi) m

end Sys2Proof

namespace Sys2Proof.Machine

theorem State.foldl_inv {ι : Type} (P : State → Prop) (l : List ι) (g : State → ι → State)
    (hg : ∀ s i, P s → P (g s i)) (s : State) (h : P s) : P (l.foldl g s) := by
  induction l generalizing s with
  | nil => exact h
  | cons i l ih => exact ih (g s i) (hg s i h)

/-- Marking a sector changes no byte. -/
@[simp] theorem State.bytes_spoil (s : State) (k : Nat) : (s.spoil k).flash.bytes = s.flash.bytes := by
  unfold State.spoil
  split <;> rfl

/-- Programming a page keeps the flash canonical (03 R76, R95). -/
theorem State.flashProgram_wf (s : State) (a : Nat) (bs : List Byte) (h : Memory.wf s.flash.bytes = true) :
    Memory.wf (s.flashProgram a bs).flash.bytes = true := by
  dsimp only [State.flashProgram]
  split
  · split
    · rw [State.bytes_spoil]; exact Memory.wf_writeN _ _ _ h
    · exact Memory.wf_writeN _ _ _ h
  · rw [State.bytes_spoil]
    refine State.foldl_inv (fun s => Memory.wf s.flash.bytes = true) _ _ (fun s i h => ?_) _ h
    split
    · exact Memory.wf_write _ _ _ h
    · exact Memory.wf_write _ _ _ h

/-- Erasing a sector keeps the flash canonical. -/
theorem State.flashErase_wf (s : State) (k : Nat) (h : Memory.wf s.flash.bytes = true) :
    Memory.wf (s.flashErase k).flash.bytes = true :=
  Memory.wf_erase _ _ _ h

/-- A page in an unknown state keeps the flash canonical. -/
theorem State.freePage_wf (s : State) (a : Nat) (h : Memory.wf s.flash.bytes = true) :
    Memory.wf (s.freePage a).flash.bytes = true :=
  State.foldl_inv (fun s => Memory.wf s.flash.bytes = true) _ _ (fun _ _ h => Memory.wf_write _ _ _ h) s h

/-- A sector in an unknown state keeps the flash canonical. -/
theorem State.flashScramble_wf (s : State) (k : Nat) (h : Memory.wf s.flash.bytes = true) :
    Memory.wf (s.flashScramble k).flash.bytes = true := by
  dsimp only [State.flashScramble]
  rw [State.bytes_spoil]
  exact State.foldl_inv (fun s => Memory.wf s.flash.bytes = true) _ _ (fun _ _ h => Memory.wf_write _ _ _ h) s h

end Sys2Proof.Machine
end

