-- ==== Sys2Proof/Laws/Host.lean ====
section
/-! SUPPORT. What events, completions and the admission of host commands can change: the rings and the commands of the
host interface, registers, free values drawn and the counts of rejections; and what an access or an admission is once its premises hold. -/

namespace Sys2Proof.Machine

/-- t is s with other contents of the host interface, of the registers and of the counts of free values and rejections. -/
def HostEffect (s t : State) : Prop := ∃ h r n k, t = { s with host := h, regs := r, fresh := n, rejects := k }

theorem HostEffect.refl (s : State) : HostEffect s s := ⟨s.host, s.regs, s.fresh, s.rejects, rfl⟩

theorem HostEffect.trans {s t u : State} : HostEffect s t → HostEffect t u → HostEffect s u := by
  rintro ⟨h, r, n, k, rfl⟩ ⟨h', r', n', k', rfl⟩
  exact ⟨_, _, _, _, rfl⟩

theorem HostEffect.foldl {ι : Type} (l : List ι) (g : State → ι → State) (hg : ∀ s i, HostEffect s (g s i)) (s : State) :
    HostEffect s (l.foldl g s) := by
  induction l generalizing s with
  | nil => exact .refl s
  | cons i l ih => exact (hg s i).trans (ih (g s i))

theorem State.put_effect (s : State) (f : FieldRef) (v : Nat) : HostEffect s (s.put f v) := ⟨_, _, _, _, rfl⟩

theorem State.inc_effect (s : State) (f : FieldRef) : HostEffect s (s.inc f) := by
  unfold State.inc
  split <;> exact ⟨_, _, _, _, rfl⟩

theorem State.signal_effect (s : State) (f kind n : Nat) : HostEffect s (s.signal f kind n) := ⟨_, _, _, _, rfl⟩

theorem State.ringTake_effect (s : State) (f kind n : Nat) : HostEffect s (s.ringTake f kind n).1 := ⟨_, _, _, _, rfl⟩

theorem State.moderate_effect (s : State) (f kind n : Nat) (now : Bool) : HostEffect s (s.moderate f kind n now) := by
  unfold State.moderate
  dsimp only
  split
  · exact s.signal_effect f kind n
  · exact .refl s

theorem State.putEvent_effect (s : State) (f : Nat) (e : Event) : HostEffect s (s.putEvent f e) :=
  (HostEffect.foldl _ _ (fun _ _ => ⟨_, _, _, _, rfl⟩) s).trans (State.moderate_effect _ f 2 0 false)

theorem State.loseEvent_effect (s : State) (f : Nat) : HostEffect s (s.loseEvent f) :=
  (s.inc_effect _).trans ⟨_, _, _, _, rfl⟩

theorem State.postSeq_effect (s : State) (f code : Nat) (b : List Byte) : HostEffect s (s.postSeq f code b) :=
  HostEffect.trans ⟨_, _, _, _, rfl⟩ (State.putEvent_effect _ f _)

theorem State.reportLost_effect (s : State) (f : Nat) : HostEffect s (s.reportLost f) := by
  unfold State.reportLost
  dsimp only
  split
  · exact HostEffect.trans ⟨_, _, _, _, rfl⟩ (State.postSeq_effect _ f _ _)
  · exact .refl s

theorem State.postOn_effect (s : State) (f code : Nat) (b : List Byte) : HostEffect s (s.postOn f code b) := by
  dsimp only [State.postOn]
  have h : HostEffect s (if s.eventsOpen then s.reportLost f else s) := by
    split
    · exact s.reportLost_effect f
    · exact .refl s
  generalize (if s.eventsOpen then s.reportLost f else s) = t at h ⊢
  split
  · exact h.trans (State.postSeq_effect _ f code b)
  · exact h.trans (State.loseEvent_effect _ f)

/-- Posting an event touches the host interface, registers and free values alone. -/
theorem State.postEvent_effect (s : State) (code : Nat) (b : List Byte) (vfs : List Nat) :
    HostEffect s (s.postEvent code b vfs) :=
  (s.postOn_effect 0 code b).trans (HostEffect.foldl _ _ (fun s f => s.postOn_effect f code b) _)

theorem State.countReject_effect (s : State) (k : Nat) : HostEffect s (s.countReject k) := ⟨_, _, _, _, rfl⟩

theorem State.invalidWrite_effect (s : State) (r : Requester) (a : Nat) (w : Word) :
    HostEffect s (s.invalidWrite r a w) :=
  HostEffect.trans ⟨_, _, _, _, rfl⟩ (State.postEvent_effect _ _ _ _)

theorem State.inc64_effect (s : State) (a : Nat) : HostEffect s (s.inc64 a) := ⟨_, _, _, _, rfl⟩

theorem State.postCompletion_effect (s : State) (c : Cmd) (status result : Nat) :
    HostEffect s (s.postCompletion c status result).1 :=
  ((s.ringTake_effect c.fn 0 c.cq).trans
    (HostEffect.trans (t := { (s.ringTake c.fn 0 c.cq).1 with host := _ }) ⟨_, _, _, _, rfl⟩ (State.inc64_effect _ _))).trans
    (State.moderate_effect _ c.fn 0 c.cq c.irq)

/-- Completing a command touches the host interface, registers and free values alone. -/
theorem State.complete_effect (s : State) (f tag status result : Nat) :
    HostEffect s (s.complete f tag status result) := by
  unfold State.complete
  split
  · exact .refl s
  · rename_i c _
    dsimp only
    generalize (if c.opcode = 0x0610 && result = 0 then s.txResult f tag else result) = result
    refine (s.postCompletion_effect c status result).trans ?_
    generalize (s.postCompletion c status result).1 = t
    have h : HostEffect t (if status = 0x6E then t.inc ⟨hqBase f + 0x1000, 31, 16⟩ else t) := by
      split
      · exact State.inc_effect _ _
      · exact .refl _
    refine h.trans ?_
    generalize (if status = 0x6E then t.inc ⟨hqBase f + 0x1000, 31, 16⟩ else t) = u
    have h : HostEffect u (if status = 0x02 then u.countReject (c.opcode / 256) else u) := by
      split
      · exact State.countReject_effect _ _
      · exact .refl _
    exact h.trans ⟨_, _, _, _, rfl⟩

/-- A tag not in flight completes nothing (13 R382). -/
theorem State.complete_of_none {s : State} {f tag : Nat} (h : s.cmd? f tag = none) (status result : Nat) :
    s.complete f tag status result = s := by
  simp [State.complete, h]

/-- A write of a register with a row of its own, from a requester that reaches it, to a block whose clock runs, has its
effect and answers (00 R7, 02 R54). -/
theorem State.access_of_mapped {s : State} {r : Requester} {a : Nat} (act : State → State) (ok : Nat → Bool)
    (h : Mapped s r) (hc : Clocked s a) : s.access r a act ok = { act s with answer := some .done } := by
  cases hg : gateBlock a with
  | none => cases r <;> simp_all [State.access, Mapped]
  | some b =>
    have := hc b hg
    cases r <;> simp_all [State.access, Mapped]

/-- A VF reaches no such register but one in its own window (03 R90). -/
theorem State.access_of_vf (s : State) (f a : Nat) (act : State → State) :
    s.access (.vf f) a act = { s with answer := some .abort } := rfl

/-- A command that is offered, may be issued and is not gated has its effect (13 R380). -/
theorem State.runCmd_of_offered {s : State} {fn tag opcode : Nat} {c : Cmd} {may gatedFor : Cmd → Bool}
    (act : Cmd → State → State) (h : Offered s fn tag opcode c) (hm : may c = true) (hg : gatedFor c = false) :
    s.runCmd fn tag opcode may gatedFor act = act c s := by
  obtain ⟨h1, h2, h3, h4⟩ := h
  simp [State.runCmd, h1, h2, h3, h4, hm, hg]

/-- A command whose issuer may not issue it completes PERMISSION (13 R380 order 3). -/
theorem State.runCmd_of_issuer {s : State} {fn tag opcode : Nat} {c : Cmd} {may gatedFor : Cmd → Bool}
    (act : Cmd → State → State) (h : Offered s fn tag opcode c) (hm : may c = false) :
    s.runCmd fn tag opcode may gatedFor act = s.complete fn tag 0x09 := by
  obtain ⟨h1, h2, h3, h4⟩ := h
  simp [State.runCmd, h1, h2, h3, h4, hm]

/-- A command to a block whose clock is gated completes CLOCK_GATED (13 R380 order 4). -/
theorem State.runCmd_of_gated {s : State} {fn tag opcode : Nat} {c : Cmd} {may gatedFor : Cmd → Bool}
    (act : Cmd → State → State) (h : Offered s fn tag opcode c) (hm : may c = true) (hg : gatedFor c = true) :
    s.runCmd fn tag opcode may gatedFor act = s.complete fn tag 0x0D := by
  obtain ⟨h1, h2, h3, h4⟩ := h
  simp [State.runCmd, h1, h2, h3, h4, hm, hg]

/-- A command that is not offered changes nothing (log 7). -/
theorem State.runCmd_of_not_offered {s : State} {fn tag opcode : Nat} {may gatedFor : Cmd → Bool}
    (act : Cmd → State → State) (h : ∀ c, ¬Offered s fn tag opcode c) : s.runCmd fn tag opcode may gatedFor act = s := by
  unfold State.runCmd
  split
  · rfl
  · rename_i c hc
    split
    · rfl
    · rename_i hn
      have hn : (c.opcode = opcode ∧ c.stage = .fetched) ∧ s.admissible c = true := by simpa using hn
      exact absurd ⟨hc, hn.1.1, hn.1.2, hn.2⟩ (h c)

section
variable (s : State) (code : Nat) (b : List Byte) (vfs : List Nat)

@[simp] theorem State.postEvent_pending : (s.postEvent code b vfs).pending = s.pending := by
  obtain ⟨h, r, n, k, e⟩ := s.postEvent_effect code b vfs; rw [e]
@[simp] theorem State.postEvent_elapsed : (s.postEvent code b vfs).elapsed = s.elapsed := by
  obtain ⟨h, r, n, k, e⟩ := s.postEvent_effect code b vfs; rw [e]
@[simp] theorem State.postEvent_answer : (s.postEvent code b vfs).answer = s.answer := by
  obtain ⟨h, r, n, k, e⟩ := s.postEvent_effect code b vfs; rw [e]
@[simp] theorem State.postEvent_staged : (s.postEvent code b vfs).staged = s.staged := by
  obtain ⟨h, r, n, k, e⟩ := s.postEvent_effect code b vfs; rw [e]
@[simp] theorem State.postEvent_caps : (s.postEvent code b vfs).caps = s.caps := by
  obtain ⟨h, r, n, k, e⟩ := s.postEvent_effect code b vfs; rw [e]
@[simp] theorem State.postEvent_sels : (s.postEvent code b vfs).sels = s.sels := by
  obtain ⟨h, r, n, k, e⟩ := s.postEvent_effect code b vfs; rw [e]
@[simp] theorem State.postEvent_units : (s.postEvent code b vfs).units = s.units := by
  obtain ⟨h, r, n, k, e⟩ := s.postEvent_effect code b vfs; rw [e]
@[simp] theorem State.postEvent_fuses : (s.postEvent code b vfs).fuses = s.fuses := by
  obtain ⟨h, r, n, k, e⟩ := s.postEvent_effect code b vfs; rw [e]
@[simp] theorem State.postEvent_flash : (s.postEvent code b vfs).flash = s.flash := by
  obtain ⟨h, r, n, k, e⟩ := s.postEvent_effect code b vfs; rw [e]
@[simp] theorem State.postEvent_log : (s.postEvent code b vfs).log = s.log := by
  obtain ⟨h, r, n, k, e⟩ := s.postEvent_effect code b vfs; rw [e]
@[simp] theorem State.postEvent_boot : (s.postEvent code b vfs).boot = s.boot := by
  obtain ⟨h, r, n, k, e⟩ := s.postEvent_effect code b vfs; rw [e]
@[simp] theorem State.postEvent_clocks : (s.postEvent code b vfs).clocks = s.clocks := by
  obtain ⟨h, r, n, k, e⟩ := s.postEvent_effect code b vfs; rw [e]
@[simp] theorem State.postEvent_time : (s.postEvent code b vfs).time = s.time := by
  obtain ⟨h, r, n, k, e⟩ := s.postEvent_effect code b vfs; rw [e]
@[simp] theorem State.postEvent_grid : (s.postEvent code b vfs).grid = s.grid := by
  obtain ⟨h, r, n, k, e⟩ := s.postEvent_effect code b vfs; rw [e]
@[simp] theorem State.postEvent_commit : (s.postEvent code b vfs).commit = s.commit := by
  obtain ⟨h, r, n, k, e⟩ := s.postEvent_effect code b vfs; rw [e]
@[simp] theorem State.postEvent_dormant : (s.postEvent code b vfs).dormant = s.dormant := by
  obtain ⟨h, r, n, k, e⟩ := s.postEvent_effect code b vfs; rw [e]
@[simp] theorem State.postEvent_tasks : (s.postEvent code b vfs).tasks = s.tasks := by
  obtain ⟨h, r, n, k, e⟩ := s.postEvent_effect code b vfs; rw [e]
@[simp] theorem State.postEvent_power : (s.postEvent code b vfs).power = s.power := by
  obtain ⟨h, r, n, k, e⟩ := s.postEvent_effect code b vfs; rw [e]
@[simp] theorem State.postEvent_radios : (s.postEvent code b vfs).radios = s.radios := by
  obtain ⟨h, r, n, k, e⟩ := s.postEvent_effect code b vfs; rw [e]
@[simp] theorem State.postEvent_chains : (s.postEvent code b vfs).chains = s.chains := by
  obtain ⟨h, r, n, k, e⟩ := s.postEvent_effect code b vfs; rw [e]
@[simp] theorem State.postEvent_mac : (s.postEvent code b vfs).mac = s.mac := by
  obtain ⟨h, r, n, k, e⟩ := s.postEvent_effect code b vfs; rw [e]
@[simp] theorem State.postEvent_cipher : (s.postEvent code b vfs).cipher = s.cipher := by
  obtain ⟨h, r, n, k, e⟩ := s.postEvent_effect code b vfs; rw [e]
@[simp] theorem State.postEvent_cst : (s.postEvent code b vfs).cst = s.cst := by
  obtain ⟨h, r, n, k, e⟩ := s.postEvent_effect code b vfs; rw [e]
@[simp] theorem State.postEvent_wired : (s.postEvent code b vfs).wired = s.wired := by
  obtain ⟨h, r, n, k, e⟩ := s.postEvent_effect code b vfs; rw [e]
@[simp] theorem State.postEvent_mesh : (s.postEvent code b vfs).mesh = s.mesh := by
  obtain ⟨h, r, n, k, e⟩ := s.postEvent_effect code b vfs; rw [e]
@[simp] theorem State.postEvent_fifos : (s.postEvent code b vfs).fifos = s.fifos := by
  obtain ⟨h, r, n, k, e⟩ := s.postEvent_effect code b vfs; rw [e]
@[simp] theorem State.postEvent_overflows : (s.postEvent code b vfs).overflows = s.overflows := by
  obtain ⟨h, r, n, k, e⟩ := s.postEvent_effect code b vfs; rw [e]
@[simp] theorem State.postEvent_pkt : (s.postEvent code b vfs).pkt = s.pkt := by
  obtain ⟨h, r, n, k, e⟩ := s.postEvent_effect code b vfs; rw [e]
@[simp] theorem State.postEvent_eth : (s.postEvent code b vfs).eth = s.eth := by
  obtain ⟨h, r, n, k, e⟩ := s.postEvent_effect code b vfs; rw [e]
@[simp] theorem State.postEvent_tiles : (s.postEvent code b vfs).tiles = s.tiles := by
  obtain ⟨h, r, n, k, e⟩ := s.postEvent_effect code b vfs; rw [e]
@[simp] theorem State.postEvent_dram : (s.postEvent code b vfs).dram = s.dram := by
  obtain ⟨h, r, n, k, e⟩ := s.postEvent_effect code b vfs; rw [e]

end

section
variable (s : State) (f tag status result : Nat)

@[simp] theorem State.complete_pending : (s.complete f tag status result).pending = s.pending := by
  obtain ⟨h, r, n, k, e⟩ := s.complete_effect f tag status result; rw [e]
@[simp] theorem State.complete_elapsed : (s.complete f tag status result).elapsed = s.elapsed := by
  obtain ⟨h, r, n, k, e⟩ := s.complete_effect f tag status result; rw [e]
@[simp] theorem State.complete_answer : (s.complete f tag status result).answer = s.answer := by
  obtain ⟨h, r, n, k, e⟩ := s.complete_effect f tag status result; rw [e]
@[simp] theorem State.complete_staged : (s.complete f tag status result).staged = s.staged := by
  obtain ⟨h, r, n, k, e⟩ := s.complete_effect f tag status result; rw [e]
@[simp] theorem State.complete_caps : (s.complete f tag status result).caps = s.caps := by
  obtain ⟨h, r, n, k, e⟩ := s.complete_effect f tag status result; rw [e]
@[simp] theorem State.complete_sels : (s.complete f tag status result).sels = s.sels := by
  obtain ⟨h, r, n, k, e⟩ := s.complete_effect f tag status result; rw [e]
@[simp] theorem State.complete_units : (s.complete f tag status result).units = s.units := by
  obtain ⟨h, r, n, k, e⟩ := s.complete_effect f tag status result; rw [e]
@[simp] theorem State.complete_fuses : (s.complete f tag status result).fuses = s.fuses := by
  obtain ⟨h, r, n, k, e⟩ := s.complete_effect f tag status result; rw [e]
@[simp] theorem State.complete_flash : (s.complete f tag status result).flash = s.flash := by
  obtain ⟨h, r, n, k, e⟩ := s.complete_effect f tag status result; rw [e]
@[simp] theorem State.complete_log : (s.complete f tag status result).log = s.log := by
  obtain ⟨h, r, n, k, e⟩ := s.complete_effect f tag status result; rw [e]
@[simp] theorem State.complete_boot : (s.complete f tag status result).boot = s.boot := by
  obtain ⟨h, r, n, k, e⟩ := s.complete_effect f tag status result; rw [e]
@[simp] theorem State.complete_clocks : (s.complete f tag status result).clocks = s.clocks := by
  obtain ⟨h, r, n, k, e⟩ := s.complete_effect f tag status result; rw [e]
@[simp] theorem State.complete_time : (s.complete f tag status result).time = s.time := by
  obtain ⟨h, r, n, k, e⟩ := s.complete_effect f tag status result; rw [e]
@[simp] theorem State.complete_grid : (s.complete f tag status result).grid = s.grid := by
  obtain ⟨h, r, n, k, e⟩ := s.complete_effect f tag status result; rw [e]
@[simp] theorem State.complete_commit : (s.complete f tag status result).commit = s.commit := by
  obtain ⟨h, r, n, k, e⟩ := s.complete_effect f tag status result; rw [e]
@[simp] theorem State.complete_dormant : (s.complete f tag status result).dormant = s.dormant := by
  obtain ⟨h, r, n, k, e⟩ := s.complete_effect f tag status result; rw [e]
@[simp] theorem State.complete_tasks : (s.complete f tag status result).tasks = s.tasks := by
  obtain ⟨h, r, n, k, e⟩ := s.complete_effect f tag status result; rw [e]
@[simp] theorem State.complete_power : (s.complete f tag status result).power = s.power := by
  obtain ⟨h, r, n, k, e⟩ := s.complete_effect f tag status result; rw [e]
@[simp] theorem State.complete_radios : (s.complete f tag status result).radios = s.radios := by
  obtain ⟨h, r, n, k, e⟩ := s.complete_effect f tag status result; rw [e]
@[simp] theorem State.complete_chains : (s.complete f tag status result).chains = s.chains := by
  obtain ⟨h, r, n, k, e⟩ := s.complete_effect f tag status result; rw [e]
@[simp] theorem State.complete_mac : (s.complete f tag status result).mac = s.mac := by
  obtain ⟨h, r, n, k, e⟩ := s.complete_effect f tag status result; rw [e]
@[simp] theorem State.complete_cipher : (s.complete f tag status result).cipher = s.cipher := by
  obtain ⟨h, r, n, k, e⟩ := s.complete_effect f tag status result; rw [e]
@[simp] theorem State.complete_cst : (s.complete f tag status result).cst = s.cst := by
  obtain ⟨h, r, n, k, e⟩ := s.complete_effect f tag status result; rw [e]
@[simp] theorem State.complete_wired : (s.complete f tag status result).wired = s.wired := by
  obtain ⟨h, r, n, k, e⟩ := s.complete_effect f tag status result; rw [e]
@[simp] theorem State.complete_mesh : (s.complete f tag status result).mesh = s.mesh := by
  obtain ⟨h, r, n, k, e⟩ := s.complete_effect f tag status result; rw [e]
@[simp] theorem State.complete_fifos : (s.complete f tag status result).fifos = s.fifos := by
  obtain ⟨h, r, n, k, e⟩ := s.complete_effect f tag status result; rw [e]
@[simp] theorem State.complete_overflows : (s.complete f tag status result).overflows = s.overflows := by
  obtain ⟨h, r, n, k, e⟩ := s.complete_effect f tag status result; rw [e]
@[simp] theorem State.complete_pkt : (s.complete f tag status result).pkt = s.pkt := by
  obtain ⟨h, r, n, k, e⟩ := s.complete_effect f tag status result; rw [e]
@[simp] theorem State.complete_eth : (s.complete f tag status result).eth = s.eth := by
  obtain ⟨h, r, n, k, e⟩ := s.complete_effect f tag status result; rw [e]
@[simp] theorem State.complete_tiles : (s.complete f tag status result).tiles = s.tiles := by
  obtain ⟨h, r, n, k, e⟩ := s.complete_effect f tag status result; rw [e]
@[simp] theorem State.complete_dram : (s.complete f tag status result).dram = s.dram := by
  obtain ⟨h, r, n, k, e⟩ := s.complete_effect f tag status result; rw [e]

end

end Sys2Proof.Machine
end

