-- ==== Sys2Proof/Tests/Slice0.lean ====
section
/-! SUPPORT. Tests: a smoke test of well-formedness, a few single steps, and for every obligation with hypotheses concrete
states and operands that meet them, clause by clause, at boundary values of their ranges. -/

namespace Sys2Proof.Tests
set_option Elab.async false
set_option linter.unusedVariables false
open Sys2Proof.Machine

/-! ## Helpers -/

/-- A running device: every block's clock on, NT and FR running, the domains up, every unit in service, the link up, mode 0, and
the superframe that began 5 ms ago, at 10 s of NT. -/
def live : State := { State.reset with
  regs := [(0x100010, 0xFFFFFF#32), (0x100014, 0xFFF#32), (0x100018, 0xFFFFFF#32), (0x10001C, 0xFFF#32)]
  units := (List.range 48).map fun u => (u, { phase := .service })
  elapsed := 7000000000
  flash := { devices := 1, density := 512, ok := true }
  boot := { state := .run, resetN := true, pwrOk := true, refReady := true, rootReady := true, active := some 0 }
  clocks := { onRoot := List.replicate 8 true }
  time := { nt := ⟨10005000000 * 2 ^ 48, 0⟩, state := .locked, mt := ⟨10005000000 * 2 ^ 48, 0⟩, mtState := .steered
            fr := 30000000000, frRuns := true, mtMeasuredSec := 9 }
  grid := { mode := 0, start := some 10000000000, phase := 10000000000 }
  host := { linkUp := true, speed := 4, width := 8 }
  power := { up := 0x1FFFFFF }
  mesh := { state := .bridged, started := true, fc := 1 } }

/-- n bytes with the fields (offset, size, value), the rest 0. -/
def fields (n : Nat) (fs : List (Nat × Nat × Nat)) : List Byte :=
  fs.foldl (fun b x => b.take x.1 ++ leBytes x.2.1 x.2.2 ++ b.drop (x.1 + x.2.1)) (List.replicate n 0#8)

/-- The 64 bytes of a descriptor: its opcode, its tag and its fields. -/
def desc (op tag : Nat) (fs : List (Nat × Nat × Nat)) : List Byte := fields 64 ((0, 2, op) :: (2, 2, tag) :: fs)

/-- A fetched command on SQ 0. -/
def mkCmd (fn tag op : Nat) (fs : List (Nat × Nat × Nat)) : Cmd :=
  { fn, sq := 0, tag, opcode := op, fence := false, irq := false, desc := desc op tag fs }

/-- The state with that command in flight. -/
def offer (s : State) (c : Cmd) : State := { s with host := { s.host with cmds := [c] } }

/-- The state with further register words, in rising order of address. -/
def words (s : State) (l : List (Nat × Nat)) : State := l.foldl (fun s x => s.setReg x.1 (BitVec.ofNat 32 x.2)) s

/-- The state with records of the running image. -/
def recs (s : State) (l : List (Nat × List Byte)) : State :=
  { s with boot := { s.boot with records := l.map fun x => ⟨x.1, 0, x.2⟩ } }

/-- The row of a register that has one. -/
def rrow (a : Nat) : RegRow := (rowAt a).getD ⟨a, [], false, []⟩

/-- Time records (04 R125): PTP before PPS_TOD, domain 24, every port, INPUT_TIMEOUT 1 s, FIRST_WAIT 1 ms; JUMP_NT 1 ms, JUMP_MT
1 µs, OUTLIER_LIMIT 100 ns, OUTLIER_RUN 8; both outputs on. -/
def timed : State := recs live [(0x0201, [1, 2, 24, 0, 0xFF, 3, 4, 0, 1, 0, 0, 0]),
  (0x0202, [0x40, 0x42, 0xF, 0, 0xE8, 3, 0, 0, 100, 0, 0, 0, 8, 3]), (0x0203, [4, 3, 0, 0, 0, 0, 0, 0, 0, 0, 0, 0])]

/-- The state with sub-ports 0 and 9 created by their ports' mode. -/
def onPort (s : State) : State := words s [(0x3400000, 1), (0x3430000, 1)]

/-- Radio 0 with chain 0 enabled, powered, in standby and locked. -/
def aired : State := { words live [(0x1000010, 1)] with
  radios := [(0, { syn := [(0, { locked := true }), (1, { locked := true })], rxOpen := true, rx := { ended := some (0, []) } })]
  chains := [(0, { powered := true, serving := true, state := .standby })] }

/-- Its radio changed. -/
def onRadio (f : RadioSt → RadioSt) : State := aired.modRadio 0 f

/-- A form of R182 that every radio sends. -/
def goodForm : PpduForm := ⟨1, 0, true, [(0, false, 1, 242)], [[242]], 800, 1, false, 0, false, false, false, false, 0, 0, {}⟩

/-- What a reception measured. -/
def measured : Measured := ⟨1, 0, -50, 40, 30, 0, 1, 0, 0, 0, 0, 1, -50, -50, 40, 1, 1, none⟩

/-- A planned PPDU of radio 0. -/
def ppdu : Ppdu := { radio := 0, sf := 10025600000, launch := 10005200000, kind := 0, cls := 0, len := 2, users := [] }

/-- BSS 0 of radio 0 on, its Beacon region in slots 0 to 3 and a scheduled region of class 1 in slots 10 to 59. -/
def served : State := words aired [(0x1800010, 206), (0x1800014, 100), (0x1800100, 0x3EB801), (0x1800400, 0x402000), (0x1800404, 0x800),
  (0x1800408, 0x301900A), (0x180040C, 0x800)]

/-- A station of that BSS. -/
def station : Sta := { addr := 2, multi := false, links := [⟨0, 0, 1, 2, 0, 0⟩], keySlot := none, ps := false }

/-- The state with it as SID 5. -/
def withSta (x : Sta) : State := { served with mac := { stas := [(5, x)] } }

/-- An MPDU of it. -/
def mpdu : RxMpdu := ⟨0, 0, 100, true, 2, 2, 0, 7, 0, false, false, false, none, false, false, false, [], [], none, none, 0, 0, 0, none⟩

/-- A management frame that command 7 of the physical function queued for it. -/
def frame : Frame := { sid := 5, bss := 0, radios := 1, tid := 0, kind := 1, flags := 4, cmd := some (0, 7), body := [1], launch := 10005010000, enq := 6999999999, life := 2, queue := 20, cells := 0, tenant := 0, src := 0x1F }

/-- The state with it as frame 9. -/
def withFrame (f : Frame) : State := { withSta station with mac := { stas := [(5, station)], frames := [(9, f)], nextFrame := 10 } }

/-- A constellation with member 1 (09 R261), NT 1 ms before the next boundary. -/
def joined (x : CstMember) : State :=
  { recs live [(0x0701, fields 24 [(0, 4, 9), (9, 1, 5), (11, 1, 1), (12, 2, 60), (18, 2, 100)]), (0x0702, fields 44 [(0, 1, 1)])] with
    time := { live.time with nt := ⟨10024600000 * 2 ^ 48, 0⟩ }
    cst := { members := [(1, x)] } }

/-- The header of a message of member 1 (09 R243). -/
def header (n type length part count seq : Nat) : List Byte :=
  fields n [(0, 4, 0x4E43375A), (4, 1, 1), (5, 1, type), (6, 1, 1), (8, 4, 9), (0xC, 2, length), (0xE, 1, part), (0xF, 1, count), (0x10, 8, seq)]

/-- The island with record 0x0801 (10 R295): coordinator 1, detection at -90 dBm, restart and capture at 10 dB, and a sub-band
for its channel and its wake-up signals. -/
def meshed (m : MeshSt) : State :=
  { recs live [(0x0801, fields 44 [(0, 8, 1), (8, 4, 868000), (15, 1, 8), (16, 1, 8), (17, 1, 166), (18, 1, 10), (19, 1, 10), (20, 1, 1),
      (21, 1, 1), (24, 2, 100), (28, 2, 16), (31, 1, 1), (32, 4, 868000), (36, 3, 5), (40, 2, 1)]),
      (0x0803, fields 16 [(0, 4, 867000), (4, 4, 869000), (8, 4, 360000), (13, 1, 166)])] with
    mesh := m }

/-- The island in service, in the mesh superframe that began 5 ms ago. -/
def island : MeshSt := { state := .bridged, started := true, fc := 1, sf := 10000000000, next := 10102400000, mainRx := true }

/-- A slot of the flash that may be written: the image runs from slot A. -/
def almCmd (op : Nat) (fs : List (Nat × Nat × Nat)) : State := offer live (mkCmd 0 7 op fs)

/-- A commit that stands, 7 ms into the superframe with its target 1.9 ms ahead. -/
def armed (k : CommitState) (target : Nat) (part got : BitVec 27) (n : Nat) : State :=
  { live with commit := { state := k, kind := .host, target := target, deferrals := n, part := part, armed := got, locked := true } }

/-- A Dormant sequence that stands at a step. -/
def asleep (q : DormantSeq) : State := { live with dormant := { seq := q } }

/-- A task item in queue 0 for core 0 and worker 0. -/
def item : Item := { queue := 0, prio := 3, tenant := 0xFF, atomic := false, ctx := 0, source := 0, reason := 0, payload := [1]
                     gen := 2, order := 0, enqAt := 0, enqNt := 0 }

/-- Queue 0 on for every core and worker 0, worker 0 bound to the physical function with RQ 0, items in the pool. -/
def queued (l : List (Nat × Item)) : State :=
  { words live [(0x2C00008, 1000), (0x2C00100, 0xFFFF01), (0x2C00104, 8), (0x2C00108, 1), (0x3100100, 0x10100)] with tasks := { items := l } }

/-- The constellation with its sub-port up. -/
def wiredCell (x : CstMember) : State := { words (joined x) [(0x3400000, 1), (0x3400008, 2000)] with eth := { links := [(0, 7)] } }

/-- And with the default route of its tenant by that sub-port. -/
def routedCell (x : CstMember) : State :=
  { words (wiredCell x) [(0x2400008, 100), (0x240000C, 100)] with pkt := { routes := [(0, ⟨0, 1⟩)], nextHops := [(0, ⟨1, 0, 0, List.replicate 6 1, List.replicate 6 2, 1500⟩)] } }

/-- An Ethernet frame to the group-free address 02:00:00:00:00:09. -/
def dataFrame : List Byte := [2, 0, 0, 0, 0, 9, 4, 0, 0, 0, 0, 1, 0x88, 0xB5] ++ List.replicate 50 0#8

/-- A source FIFO with that frame for tenant 0. -/
def sourced (src : Nat) (p : PktSt) : State :=
  { words live [(0x3400008, 2000)] with fifos := [(src, [{ bytes := dataFrame, tenant := some 0 }])], pkt := p }

/-- A rule that matches every frame and discards it (11 R315). -/
def ruleAll : List Byte := fields 160 [(0x80, 1, 1), (0x81, 1, 0xFF), (0x82, 1, 0xFF), (0x83, 1, 1)]

/-- The state with a command in flight and a packet path. -/
def pathed (c : Cmd) (p : PktSt) : State := { offer live c with pkt := p }

/-- A service key of generation 1. -/
def svcKey : KeyGen := ⟨1, 0x30, List.replicate 16 5, List.replicate 12 0, 0, 0, 1, List.replicate 9 0, false, false, 0⟩

/-- Slot 3 with it. -/
def keyed (x : KeySlot) (ops : Tab CphOp) : State := { live with cipher := { slots := [(3, x)], ops := ops, nextOp := 1 } }

/-- Port 0 in mode 1 with its link at 100 Gb/s, and frames of 2,000 octets. -/
def ported : State := { words live [(0x3400000, 1), (0x3400008, 2000)] with eth := { links := [(0, 7)] } }

/-- A UDP datagram from 10.0.0.1 to 10.0.0.9, port 0x1234. -/
def datagram : List Byte := [2, 0, 0, 0, 0, 9, 4, 0, 0, 0, 0, 1, 8, 0, 0x45, 0, 0, 0x1C, 0, 0, 0, 0, 0x40, 0x11, 0x66, 0xC8, 10, 0, 0, 1,
  10, 0, 0, 9, 0, 1, 0x12, 0x34, 0, 8] ++ List.replicate 24 0#8

/-- A frame of a wired queue. -/
def wired : WireFrame := { body := dataFrame, tenant := 0, enq := 6999999999, cells := 1, src := 0x10 }

/-- Tile Link 0. -/
def linked (x : TileSt) : State := { live with tiles := [(0, x)] }

/-- DRAM channel 0. -/
def channelled (x : DramCh) : State := { recs live [(0x0D01, [0, 16])] with dram := { chans := [(0, x)], nextOrder := 2 } }

/-- The power sequencer. -/
def powered (p : PowerSt) : State := { live with power := p }

theorem offered_of {s : State} {fn tag op : Nat} {c : Cmd}
    (h : s.cmd? fn tag = some c ∧ c.opcode = op ∧ c.stage = .fetched ∧ s.admissible c = true) : Offered s fn tag op c := h

theorem takes_of {s : State} {sub q n : Nat} (h : (s.subUp sub && (Tab.getD s.wired (sub * 8 + q) []).all (fun f => f.dram == 0)
    && decide (((Tab.getD s.wired (sub * 8 + q) []).map (·.len)).sum + n ≤ s.get ⟨0x240000C, 14, 0⟩ * 1024)
    && decide (((Tab.getD s.wired (sub * 8 + q) []).map (·.len)).sum + n ≤ s.get ⟨0x2400008, 9, 0⟩ * 1024)
    && decide (s.sramCells + n ≤ 131072)) = true) : TakesWired s sub q n := by
  simpa [TakesWired, and_assoc] using h

theorem routed_of {s : State}
    (h : s.cstActive.all (fun m => (s.cstRoute m).any fun h => h.da.length == 6 && h.sa.length == 6) = true) :
    ∀ m ∈ s.cstActive, ∃ h, s.cstRoute m = some h ∧ h.da.length = 6 ∧ h.sa.length = 6 := by
  simpa [List.all_eq_true, Option.any_eq_true] using h

theorem clocked_of {s : State} {a : Nat} (h : (match gateBlock a with | some b => s.gated b | none => false) = false) :
    Clocked s a := by
  intro b e; rw [e] at h; exact h

theorem mapped_of {s : State} {r : Requester}
    (h : ((match r with | .vf _ | .bar2 _ => false | .debug => !s.fuses.debugLock | _ => true) && s.boot.refReady) = true) : Mapped s r := by
  cases r <;> simp_all [Mapped]

theorem next_of {o : Host.Outcome State Fault Refusal} {t : State}
    (h : (match o with | .next u => decide (u = t) | _ => false) = true) : o = .next t := by
  cases o <;> simp_all

theorem not_offered_of {s : State} {fn tag op : Nat} (h : s.cmd? fn tag = none) : ∀ x, ¬ Offered s fn tag op x := by
  intro x o; rw [Offered, h] at o; exact absurd o.1 (by simp)

/-! ## Well-formedness: a term for each check, which the check refuses, and terms it takes -/

theorem smoke_ill_formed_0 : ∀ i ∈ ([
    .registerWrite (.vf 16) 0 0 0, .snapshotLoRead (.vf 16) 0 0, .rcFieldRead (.vf 16) 0 0,
    .stagedWindowWrite (.vf 16) 0 0 0, .containmentStrobe (.func 16) 0 0, .unitResetStateReached (.func 16),
    .clockEnableWrite (.vf 16) 0, .clockEnableWrite .pf 24, .clockEnableWrite .pf 44,
    .clockStart 24, .clockStart 44, .clockDisableWrite (.vf 16) 0,
    .clockDisableWrite .pf 24, .clockDisableWrite .pf 44, .clockStop 24,
    .clockStop 44, .drainTimeout 24, .drainTimeout 44,
    .sourceSwitchGo (.vf 16) 0 true, .sourceSwitchGo .pf 8 true, .sourceSwitchDone 8,
    .switchAbandoned 8, .freqMeasureStart (.vf 16) 0 0 0 true, .freqMeasureStart .pf 8 0 0 true,
    .freqMeasureStart .pf 0 64 0 true, .freqMeasureStart .pf 0 0 32 true, .freqMeasureDone 8 0,
    .bootReleaseWrite (.vf 16), .deviceResetKeyWrite (.vf 16) 0, .almSlotErase 16 0,
    .almSlotErase 0 65536, .almSlotWrite 16 0 none, .almSlotWrite 0 65536 none,
    .almSlotVerify 16 0, .almSlotVerify 0 65536, .attest 16 0,
    .attest 0 65536, .logRead 16 0, .logRead 0 65536,
    .ptpMessageRx 10 0 0 0] : List Instr), i.wf = false := by decide

theorem smoke_ill_formed_1 : ∀ i ∈ ([
    .ptpAnnounceRx 10 0 0 ⟨true, 0, 0⟩, .todMessageRx (List.replicate 15 0), .sourceInputTimeout 0,
    .sourceInputTimeout 3, .reanchorGo (.vf 16) 0, .reanchorGo .pf 8,
    .commitGo (.vf 16), .commitCancel (.vf 16), .unitArmReport 27 true,
    .dormantEnterRequest (.vf 16) 0, .wakeGpioEdge 32 true, .mismatchTrip 160 0,
    .feBlockClearWrite (.vf 16) 0 true 0, .feBlockClearWrite .pf 3 true 0, .synthLockAcquired 3 0 0,
    .synthLockAcquired 0 14 0, .synthLockAcquired 0 0 2, .synthLockLost 3 0,
    .synthLockLost 0 14, .tileLockTimeout 12, .launchRequest 3 (.plan 0) 0 0 goodForm,
    .paRampStart 3 (.plan 0), .ppduTxEnd 3, .rxWindowStart 3,
    .rxWindowEnd 3, .txTimeoutWatchdog 160, .calStepStart 3 0 0,
    .calStepStart 0 6 0, .calStepStart 0 0 64, .calStepDone 3 ⟨0, 0, 0, [], []⟩,
    .coeffStale 160, .detection 3 0 ⟨0, [], 0, 0⟩, .lltfTimeout 3,
    .sigFieldDone 3 true none, .rxRestart 3 0 ⟨0, [], 0, 0⟩, .rxCapture 3 0 ⟨0, [], 0, 0⟩,
    .rxPpduEnd 3 measured, .tbWindowOpen 3 (.own 0) 0 0, .tbWindowClose 3 [],
    .explicitTest 3] : List Instr), i.wf = false := by decide

theorem smoke_ill_formed_2 : ∀ i ∈ ([
    .soundPeriodTimer 8192 0, .soundPeriodTimer 0 3, .macTx 16 0 none 0,
    .macTx 0 65536 none 0, .macStaAdd 16 0, .macStaAdd 0 65536,
    .macStaDel 16 0, .macStaDel 0 65536, .staDelDone 8192,
    .macBaSet 16 0, .macBaSet 0 65536, .macBaDelete 16 0,
    .macBaDelete 0 65536, .macTwtSetup 16 0, .macTwtSetup 0 65536,
    .macTwtDelete 16 0, .macTwtDelete 0 65536, .macDetFlow 16 0,
    .macDetFlow 0 65536, .macDetFlowDelete 16 0, .macDetFlowDelete 0 65536,
    .planFreeze 3, .contentCutOff 3 (.plan 0) 0 [], .beaconLaunch 3 0 0,
    .beaconLaunch 0 16 0, .launchOutcome 3 (.plan 0) [], .rxMpdu { mpdu with radio := 3 },
    .rxMpdu { mpdu with bss := 16 }, .reorderTimeout 8192 0, .reorderTimeout 0 8,
    .addbaRequestRx 8192 0 0 0, .addbaRequestRx 0 8 0 0, .agreementTimeout 8192 0 0,
    .agreementTimeout 0 8 0, .agreementTimeout 0 0 2, .helloPeriodTimer 32,
    .joinTimeout 32, .cstLeaveWrite (.vf 16), .cstRejoinWrite (.vf 16),
    .foreignEntryAge 32 0 0] : List Instr), i.wf = false := by decide

theorem smoke_ill_formed_3 : ∀ i ∈ ([
    .foreignEntryAge 0 8192 0, .foreignEntryAge 0 0 3, .nwTx 16 0 none,
    .nwTx 0 65536 none, .nwWake 16 0, .nwWake 0 65536,
    .nwKeyLoad 16 0, .nwKeyLoad 0 65536, .nwKeyErase 16 0,
    .nwKeyErase 0 65536, .ethFrameRx 10 [] true none, .pktPipelineFrame 64,
    .lpmDramResult 64 true, .wiredEgressSelect 10, .txUnderrun 10,
    .ethLinkChange 10 0, .ethLinkChange 0 8, .fdbAgeExpiry 16 0,
    .qdepthSelWrite (.vf 16) 0, .pktRuleWrite 16 0 none, .pktRuleWrite 0 65536 none,
    .pktRuleClear 16 0, .pktRuleClear 0 65536, .pktRouteAdd 16 0,
    .pktRouteAdd 0 65536, .pktRouteDelete 16 0, .pktRouteDelete 0 65536,
    .pktNextHopWrite 16 0, .pktNextHopWrite 0 65536, .pktNextHopDelete 16 0,
    .pktNextHopDelete 0 65536, .pktFdbWrite 16 0, .pktFdbWrite 0 65536,
    .pktFdbDelete 16 0, .pktFdbDelete 0 65536, .pktFlowAdd 16 0,
    .pktFlowAdd 0 65536, .pktFlowDelete 16 0, .pktFlowDelete 0 65536,
    .pktRangeSet 16 0] : List Instr), i.wf = false := by decide

theorem smoke_ill_formed_4 : ∀ i ∈ ([
    .pktRangeSet 0 65536, .pktRangeDisable 16 0, .pktRangeDisable 0 65536,
    .pktTunnelWrite 16 0 none, .pktTunnelWrite 0 65536 none, .pktTunnelClear 16 0,
    .pktTunnelClear 0 65536, .pktPolicer 16 0, .pktPolicer 0 65536,
    .cphKeyWrite 16 0 none, .cphKeyWrite 0 65536 none, .cphKeyErase 16 0,
    .cphKeyErase 0 65536, .keyWriteProceed 16384, .keyEraseDone 16384,
    .cphCryptGcmEncrypt 16 0 none, .cphCryptGcmEncrypt 0 65536 none, .cphCryptGcmDecrypt 16 0 none,
    .cphCryptGcmDecrypt 0 65536 none, .cphCryptCcmEncrypt 16 0 none, .cphCryptCcmEncrypt 0 65536 none,
    .cphCryptCcmDecrypt 16 0 none, .cphCryptCcmDecrypt 0 65536 none, .pcieLinkUp 0 8,
    .pcieLinkUp 6 8, .pcieLinkUp 1 3, .functionLevelReset 16,
    .sqTailDoorbell (.vf 16) 0 0 0, .sqTailDoorbell .pf 16 0 0, .sqTailDoorbell .pf 0 16 0,
    .cqHeadDoorbell (.vf 16) 0 0 0, .cqHeadDoorbell .pf 16 0 0, .cqHeadDoorbell .pf 0 16 0,
    .rqHeadDoorbell (.vf 16) 0 0 0, .rqHeadDoorbell .pf 16 0 0, .rqHeadDoorbell .pf 0 16 0,
    .bqTailDoorbell (.vf 16) 0 0 0 [], .bqTailDoorbell .pf 16 0 0 [], .bqTailDoorbell .pf 0 16 0 [],
    .evqHeadDoorbell (.vf 16) 0 0] : List Instr), i.wf = false := by decide

theorem smoke_ill_formed_5 : ∀ i ∈ ([
    .evqHeadDoorbell .pf 16 0, .commandFetch 16 0 none, .commandFetch 0 16 none,
    .hostDmaCompletion 16 0 true, .hostDmaCompletion 0 65536 true, .msixModerationTimer 16 0 0,
    .msixModerationTimer 0 3 0, .msixModerationTimer 0 0 16, .hqEclipseFunction 16 0,
    .hqEclipseFunction 0 65536, .hqEclipseRadio 16 0, .hqEclipseRadio 0 65536,
    .funcCtrlEclipseWrite (.vf 16) 0, .funcCtrlEclipseWrite .pf 16, .funcCtrlClearWrite (.vf 16) 0,
    .funcCtrlClearWrite .pf 16, .eclipseComplete true 3, .eclipseComplete false 16,
    .workItemDeliver 80, .workerAskWrite (.vf 16) 0 0 0, .workerAskWrite .pf 16 0 0,
    .workerAskWrite .pf 0 64 0, .workerAskCancel (.vf 16) 0 0 0, .workerAskCancel .pf 16 0 0,
    .workerAskCancel .pf 0 64 0, .workerReleaseWrite (.vf 16) 0 0 0, .workerReleaseWrite .pf 16 0 0,
    .workerReleaseWrite .pf 0 64 0, .askWaitLapse 64, .tskSubmit 16 0 none,
    .tskSubmit 0 65536 none, .tskInject 16 0 none, .tskInject 0 65536 none,
    .ethMacsecSaTx 16 0, .ethMacsecSaTx 0 65536, .ethMacsecSaRxAdd 16 0,
    .ethMacsecSaRxAdd 0 65536, .ethMacsecSaRxDelete 16 0, .ethMacsecSaRxDelete 0 65536,
    .tlTrainWrite (.vf 16) 0 0] : List Instr), i.wf = false := by decide

theorem smoke_ill_formed_6 : ∀ i ∈ ([
    .tlTrainWrite .pf 12 0, .tlPrbsStart (.vf 16) 0 0, .tlPrbsStart .pf 12 0,
    .tlPrbsStop (.vf 16) 0 0 [], .tlPrbsStop .pf 12 0 [], .tlTrainStepDone 12 ⟨0, 0, 0, [], 0, 1, []⟩,
    .tlTrainStepTimeout 12, .tlUpstreamFrame 12 [] 0, .tlCtlMessageRx 12,
    .tlCtlAckTimeout 12, .tlBlockLockLost 12 0, .tlBlockLockLost 0 5,
    .tlWander 12, .txMaskSend 3 (.plan 0), .dramRequest 8 0 true 0 [],
    .dramRequest 0 0 true 64 [], .dramCommandIssue 4 0, .dramCommandIssue 0 65536,
    .dramReadReturn 4 0 0 0 0, .dramReadReturn 0 0 5 0 0, .dramReadReturn 0 0 0 2 0,
    .dramReadReturn 0 0 0 0 2, .dramPauseStart 4, .dramPauseEnd 4 0 true,
    .dramTrainingDone 16 0, .dramTrainingDone 0 16, .dramRetrainAfterFault 4,
    .ledgerItemUp 25, .ledgerItemUp 192, .powerSample (List.replicate 6 0),
    .tempSample (List.replicate 24 0), .pwrHoldReleaseWrite (.vf 16) true 0, .holdReleaseTimer (.func 16),
    .powerDownComplete 25, .powerDownComplete 192] : List Instr), i.wf = false := by decide

theorem smoke_well_formed_0 : ∀ i ∈ ([
    .registerWrite .pf 0 0 0, .snapshotLoRead .pf 0 0, .rcFieldRead .pf 0 0,
    .stagedWindowWrite .pf 0 0 0, .containmentStrobe .pkt 0 0, .unitResetStateReached .pkt,
    .clockEnableWrite .pf 0, .clockStart 0, .clockDisableWrite .pf 0,
    .clockStop 0, .drainTimeout 0, .sourceSwitchGo .pf 0 true,
    .sourceSwitchDone 0, .switchAbandoned 0, .freqMeasureStart .pf 0 0 0 true,
    .freqMeasureDone 0 0, .bootReleaseWrite .pf, .deviceResetKeyWrite .pf 0,
    .almSlotErase 0 0, .almSlotWrite 0 0 none, .almSlotVerify 0 0,
    .attest 0 0, .logRead 0 0, .ptpMessageRx 0 0 0 0,
    .ptpAnnounceRx 0 0 0 ⟨true, 0, 0⟩, .todMessageRx (List.replicate 16 0), .sourceInputTimeout 1,
    .reanchorGo .pf 0, .commitGo .pf, .commitCancel .pf,
    .unitArmReport 0 true, .dormantEnterRequest .pf 0, .wakeGpioEdge 0 true,
    .mismatchTrip 0 0, .feBlockClearWrite .pf 0 true 0, .synthLockAcquired 0 0 0,
    .synthLockLost 0 0, .tileLockTimeout 0, .launchRequest 0 (.plan 0) 0 0 goodForm,
    .paRampStart 0 (.plan 0)] : List Instr), i.wf = true := by decide

theorem smoke_well_formed_1 : ∀ i ∈ ([
    .ppduTxEnd 0, .rxWindowStart 0, .rxWindowEnd 0,
    .txTimeoutWatchdog 0, .calStepStart 0 0 0, .calStepDone 0 ⟨0, 0, 0, [], []⟩,
    .coeffStale 0, .detection 0 0 ⟨0, [], 0, 0⟩, .lltfTimeout 0,
    .sigFieldDone 0 true none, .rxRestart 0 0 ⟨0, [], 0, 0⟩, .rxCapture 0 0 ⟨0, [], 0, 0⟩,
    .rxPpduEnd 0 measured, .tbWindowOpen 0 (.own 0) 0 0, .tbWindowClose 0 [],
    .explicitTest 0, .soundPeriodTimer 0 0, .macTx 0 0 none 0,
    .macStaAdd 0 0, .macStaDel 0 0, .staDelDone 0,
    .macBaSet 0 0, .macBaDelete 0 0, .macTwtSetup 0 0,
    .macTwtDelete 0 0, .macDetFlow 0 0, .macDetFlowDelete 0 0,
    .planFreeze 0, .contentCutOff 0 (.plan 0) 0 [], .beaconLaunch 0 0 0,
    .launchOutcome 0 (.plan 0) [], .rxMpdu mpdu, .reorderTimeout 0 0,
    .addbaRequestRx 0 0 0 0, .agreementTimeout 0 0 0, .helloPeriodTimer 0,
    .joinTimeout 0, .cstLeaveWrite .pf, .cstRejoinWrite .pf,
    .foreignEntryAge 0 0 0] : List Instr), i.wf = true := by decide

theorem smoke_well_formed_2 : ∀ i ∈ ([
    .nwTx 0 0 none, .nwWake 0 0, .nwKeyLoad 0 0,
    .nwKeyErase 0 0, .ethFrameRx 0 [] true none, .pktPipelineFrame 0,
    .lpmDramResult 0 true, .wiredEgressSelect 0, .txUnderrun 0,
    .ethLinkChange 0 0, .fdbAgeExpiry 0 0, .qdepthSelWrite .pf 0,
    .pktRuleWrite 0 0 none, .pktRuleClear 0 0, .pktRouteAdd 0 0,
    .pktRouteDelete 0 0, .pktNextHopWrite 0 0, .pktNextHopDelete 0 0,
    .pktFdbWrite 0 0, .pktFdbDelete 0 0, .pktFlowAdd 0 0,
    .pktFlowDelete 0 0, .pktRangeSet 0 0, .pktRangeDisable 0 0,
    .pktTunnelWrite 0 0 none, .pktTunnelClear 0 0, .pktPolicer 0 0,
    .cphKeyWrite 0 0 none, .cphKeyErase 0 0, .keyWriteProceed 0,
    .keyEraseDone 0, .cphCryptGcmEncrypt 0 0 none, .cphCryptGcmDecrypt 0 0 none,
    .cphCryptCcmEncrypt 0 0 none, .cphCryptCcmDecrypt 0 0 none, .pcieLinkUp 1 8,
    .functionLevelReset 0, .sqTailDoorbell .pf 0 0 0, .cqHeadDoorbell .pf 0 0 0,
    .rqHeadDoorbell .pf 0 0 0] : List Instr), i.wf = true := by decide

theorem smoke_well_formed_3 : ∀ i ∈ ([
    .bqTailDoorbell .pf 0 0 0 [], .evqHeadDoorbell .pf 0 0, .commandFetch 0 0 none,
    .hostDmaCompletion 0 0 true, .msixModerationTimer 0 0 0, .hqEclipseFunction 0 0,
    .hqEclipseRadio 0 0, .funcCtrlEclipseWrite .pf 0, .funcCtrlClearWrite .pf 0,
    .eclipseComplete true 0, .workItemDeliver 0, .workerAskWrite .pf 0 0 0,
    .workerAskCancel .pf 0 0 0, .workerReleaseWrite .pf 0 0 0, .askWaitLapse 0,
    .tskSubmit 0 0 none, .tskInject 0 0 none, .ethMacsecSaTx 0 0,
    .ethMacsecSaRxAdd 0 0, .ethMacsecSaRxDelete 0 0, .tlTrainWrite .pf 0 0,
    .tlPrbsStart .pf 0 0, .tlPrbsStop .pf 0 0 [], .tlTrainStepDone 0 ⟨0, 0, 0, [], 0, 1, []⟩,
    .tlTrainStepTimeout 0, .tlUpstreamFrame 0 [] 0, .tlCtlMessageRx 0,
    .tlCtlAckTimeout 0, .tlBlockLockLost 0 0, .tlWander 0,
    .txMaskSend 0 (.plan 0), .dramRequest 0 0 true 0 [], .dramCommandIssue 0 0,
    .dramReadReturn 0 0 0 0 0, .dramPauseStart 0, .dramPauseEnd 0 0 true,
    .dramTrainingDone 0 0, .dramRetrainAfterFault 0, .ledgerItemUp 0,
    .powerSample (List.replicate 7 0)] : List Instr), i.wf = true := by decide

theorem smoke_well_formed_4 : ∀ i ∈ ([
    .tempSample (List.replicate 23 0), .pwrHoldReleaseWrite .pf true 0, .holdReleaseTimer .pkt,
    .powerDownComplete 0] : List Instr), i.wf = true := by decide

/-! ## One step each -/

/-- A part of the state after a command. -/
def after {α : Type} (c : Instr) (s : State) (f : State → α) : Option α := match exec c s with | .next t => some (f t) | _ => none

/-- The bytes of "123456789", the check input of the CRC catalogues. -/
def checkInput : List Byte := [0x31, 0x32, 0x33, 0x34, 0x35, 0x36, 0x37, 0x38, 0x39]

theorem test_crc16_check_value : crc16 checkInput = 0x29B1 := by decide +kernel
theorem test_crc32_check_value : crc32 checkInput = 0xCBF43926 := by decide +kernel
theorem test_crc8_check_value : crc8 checkInput = 0xF4 := by decide +kernel

/-- A clock disable clears the enable bit of its block alone (02 R53). -/
theorem test_clock_disable : after (.clockDisableWrite .pf 10) live (fun t => (t.flag (clkEn 10), t.flag (clkEn 11))) = some (false, true) := by
  decide +kernel

/-- An FDB entry that was learned ages at its time and not one tick of elapsed before (11 R321). -/
theorem test_fdb_ages : after (.fdbAgeExpiry 0 7) { words live [(0x2400010, 4)] with pkt := { fdb := [(7, { type := 1, origin := 2, seen := 4600000000 })] } }
    (fun t => t.pkt.fdb.length) = some 0 := by decide +kernel
theorem test_fdb_stays : after (.fdbAgeExpiry 0 7) { words live [(0x2400010, 4)] with pkt := { fdb := [(7, { type := 1, origin := 2, seen := 4600000001 })] } }
    (fun t => t.pkt.fdb.length) = some 1 := by decide +kernel

/-- A new key makes the next generation and retires the one before (12 R353). -/
theorem test_key_rotates : after (.keyWriteProceed 3)
    (keyed { gen := 1, cur := some svcKey, waiting := [⟨0, 7, 0x30, some (fields 64 [(0, 8, 77)])⟩] } [(0, { slot := 3, gen := 1 })])
    (fun t => ((t.slot 3).cur.map (·.gen), (t.slot 3).ret.map (·.gen))) = some (some 2, some 1) := by decide +kernel

/-- A third failed attempt takes a link down with result 0x77 (14 R435). -/
theorem test_training_gives_up : after (.tlTrainStepTimeout 0) (linked { state := .training, step := 1, attempts := 3 })
    (fun t => ((t.tile 0).state, (t.tile 0).result)) = some (.down, 0x77) := by decide +kernel

/-- The level rises to 3 and no further (16 R471). -/
theorem test_throttle_stops_at_3 : after (.throttleLevelTimer true) (powered { thermalHolds := true, thermalLevel := 3, thermalFrom := 6994000000 })
    (fun t => t.throttle) = some 3 := by decide +kernel

/-- The head of the ledger waits while a rail's limit binds (16 R466). -/
theorem test_ledger_waits : after .ledgerAdmit (powered { queue := [24], limits := (List.range 16).map fun r => (r, (0, 0)) })
    (fun t => t.power.queue) = some [24] := by decide +kernel

/-- A pause of 1.2 us is no fault of the channel (15 R454, R457). -/
theorem test_dram_pause_ends : after (.dramPauseEnd 0 0 false) (channelled { pause := some 6999999280 })
    (fun t => (t.unit 21).phase) = some .service := by decide +kernel

/-- A frame too long for the port is counted and goes nowhere (14 R419). -/
theorem test_oversize : after (.ethFrameRx 0 dataFrame true none) (words ported [(0x3400008, 67)])
    (fun t => (t.get (ethCnt 0 0 true), t.fifos)) = some (1, []) := by decide +kernel

/-- A rule's discard counts a hit and takes the frame (11 R311). -/
theorem test_rule_hit : after (.pktPipelineFrame 0x10) (sourced 0x10 { rules := [(8191, ruleAll)] })
    (fun t => (Tab.getD t.pkt.hits 8191 0, Tab.getD t.fifos 0x10 [])) = some (1, []) := by decide +kernel

/-- An idle step lets time pass (log 3). -/
theorem test_idle : (match step live with | .next t => some t.elapsed | _ => none) = some 7000000001 := by decide +kernel

/-! ## Witnesses -/

theorem witness_StepRunsFront :
    (∃ (c : Instr) (rest : List Instr) (s : State),
      s.pending = c :: rest) :=
  ⟨.resetNAssert, [.pwrOkReturn], { State.reset with pending := [.resetNAssert, .pwrOkReturn] },
      by decide +kernel⟩

theorem witness_IdleStep :
    (∃ (s : State),
      s.pending = []) :=
  ⟨live,
      by decide +kernel⟩

theorem witness_QueueOnlyLosesFront :
    (∃ (q : List Instr) (s : State) (t : State),
      QueueOf q s ∧ step s = .next t) :=
  ⟨[.pwrOkReturn, .resetNAssert], { State.reset with pending := [.resetNAssert] }, State.reset,
      ⟨[.pwrOkReturn], rfl⟩, next_of (by decide +kernel)⟩

theorem witness_FlashStaysCanonical :
    (∃ (s : State) (t : State),
      FlashWf s ∧ step s = .next t) :=
  ⟨{ State.reset with flash := { bytes := [(5, 0#8)] } }, ({ State.reset with flash := { bytes := [(5, 0#8)] } } : State).idle,
      (by decide +kernel : Memory.wf _ = true), next_of (by decide +kernel)⟩

theorem witness_FusesOnlyGain :
    (∃ (f : Fuses) (s : State) (t : State),
      f.le s.fuses ∧ step s = .next t) :=
  ⟨{ rollback := 1 }, { State.reset with fuses := { rollback := 2 } }, ({ State.reset with fuses := { rollback := 2 } } : State).idle,
      ⟨rfl, rfl, rfl, rfl, by decide, fun _ _ _ => ⟨fun h => ⟨h, rfl⟩, id⟩⟩, next_of (by decide +kernel)⟩

theorem witness_AccessRefused :
    (∃ (s : State) (r : Requester) (width : Nat) (a : Nat) (v : Word),
      (width ≠ 32 ∨ a % 4 ≠ 0) ∧ (r = .debug → s.fuses.debugLock = false))
    ∧ (∃ (s : State) (r : Requester) (width : Nat) (a : Nat) (v : Word),
      (width ≠ 32 ∨ a % 4 ≠ 0) ∧ (r = .debug → s.fuses.debugLock = false))
    ∧ (∃ (c : Instr) (s : State),
      requesterOf c = some .debug ∧ s.fuses.debugLock = true) :=
  ⟨⟨live, .vf 15, 32, 3, 0,
      by decide +kernel⟩,
    ⟨live, .debug, 8, 0, 0,
      by decide +kernel⟩,
    ⟨.commitGo .debug, { live with fuses := { debugLock := true } },
      by decide +kernel⟩⟩

theorem witness_RegisterWrites :
    (∃ (s : State) (r : Requester) (a : Nat) (n : Nat) (v : Word) (row : RegRow),
      s.resolve r 32 a (fun n => (activeOf n).getD n) = .ok n ∧ activeOf n = none ∧ rowAt n = some row ∧ row.staged = false ∧ s.rowWrite r n v = none ∧ row.accepts v = true ∧ s.writeBad n v = false ∧ ownSelector n = false ∧ (n < 0x2400000 ∨ 0x3100200 ≤ n) ∧ (∀ k, k < 12 → n = 0x3800004 + k * 0x10000 → v.getLsbD 5 = true → s.flag ⟨n, 5, 5⟩ = true))
    ∧ (∃ (s : State) (r : Requester) (a : Nat) (n : Nat) (v : Word) (row : RegRow),
      s.resolve r 32 a (fun n => (activeOf n).getD n) = .ok n ∧ activeOf n = none ∧ rowAt n = some row ∧ row.staged = false ∧ s.rowWrite r n v = none ∧ (row.accepts v = false ∨ s.writeBad n v = true))
    ∧ (∃ (s : State) (r : Requester) (a : Nat) (v : Word),
      (r = .pf ∨ r = .cpu) ∧ s.boot.refReady = true ∧ a % 4 = 0 ∧ inBlock a = true ∧ reaches r a = true ∧ s.addrGated a = false ∧ rowAt a = none ∧ activeOf a = none ∧ s.isCapture r a = false ∧ s.pairValue r a = none) :=
  ⟨⟨live, .pf, 0x300020, 0x300020, 0x11#32, rrow 0x300020,
      by decide +kernel⟩,
    ⟨words live [(0x3000018, 0x13)], .pf, 0x300020, 0x300020, 0x5#32, rrow 0x300020,
      by decide +kernel⟩,
    ⟨live, .cpu, 0x0000FC, 7,
      by decide +kernel⟩⟩

theorem witness_FieldAccessCodes :
    (∃ (a : Nat) (row : RegRow) (f : RFld) (old : Word) (v : Word),
      rowAt a = some row ∧ f ∈ row.flds ∧ f.acc = .rw)
    ∧ (∃ (a : Nat) (row : RegRow) (f : RFld) (old : Word) (v : Word),
      rowAt a = some row ∧ f ∈ row.flds ∧ f.acc = .ro)
    ∧ (∃ (a : Nat) (row : RegRow) (f : RFld) (old : Word) (v : Word),
      rowAt a = some row ∧ f ∈ row.flds ∧ f.acc = .w1c)
    ∧ (∃ (a : Nat) (row : RegRow) (f : RFld) (old : Word) (v : Word),
      rowAt a = some row ∧ f ∈ row.flds ∧ f.acc = .wo)
    ∧ (∃ (a : Nat) (row : RegRow) (f : RFld) (old : Word) (v : Word),
      rowAt a = some row ∧ f ∈ row.flds ∧ f.acc = .rc) :=
  ⟨⟨0x300020, rrow 0x300020, rwV 2 0 0 0 4, 0x11#32, 0x22#32,
      by decide +kernel⟩,
    ⟨0x100040, rrow 0x100040, ro 24 24, 0x1000000#32, 0#32,
      by decide +kernel⟩,
    ⟨0x100008, rrow 0x100008, w1c 2 0, 7#32, 5#32,
      by decide +kernel⟩,
    ⟨0x10, rrow 0x10, wo 31 0, 7#32, 5#32,
      by decide +kernel⟩,
    ⟨0x200028, rrow 0x200028, rc 15 0, 7#32, 5#32,
      by decide +kernel⟩⟩

theorem witness_ReadSideEffects :
    (∃ (s : State) (r : Requester) (a : Nat) (n : Nat) (x : Nat),
      s.resolve r 32 a id = .ok n ∧ s.pairValue r n = some x)
    ∧ (∃ (s : State) (r : Requester) (a : Nat) (n : Nat),
      s.resolve r 32 a id = .ok n ∧ s.pairValue r n = none ∧ s.isCapture r n = true ∧ Tab.get? s.caps (ownKey r n) = none)
    ∧ (∃ (s : State) (r : Requester) (a : Nat) (n : Nat) (row : RegRow),
      s.resolve r 32 a id = .ok n ∧ s.pairValue r n = none ∧ s.isCapture r n = false ∧ s.live r n = none ∧ rowAt n = some row ∧ row.hasRC = true) :=
  ⟨⟨live, .pf, 0x200010, 0x200010, 10,
      by decide +kernel⟩,
    ⟨live, .cpu, 0x20000C, 0x20000C,
      by decide +kernel⟩,
    ⟨words live [(0x200028, 0x05000003)], .pf, 0x200028, 0x200028, rrow 0x200028,
      by decide +kernel⟩⟩

theorem witness_StagedWrites :
    (∃ (s : State) (r : Requester) (a : Nat) (n : Nat) (b : Nat) (v : Word) (row : RegRow),
      s.resolve r 32 a (fun n => (activeOf n).getD n) = .ok n ∧ activeOf n = some b ∧ rowAt b = some row ∧ (addrUnits b).findSome? s.stageStatus = none ∧ 0x1300000 ≤ b ∧ row.accepts v = true ∧ s.stagedBad b v = false)
    ∧ (∃ (s : State) (r : Requester) (a : Nat) (n : Nat) (v : Word) (row : RegRow),
      s.resolve r 32 a (fun n => (activeOf n).getD n) = .ok n ∧ activeOf n = none ∧ rowAt n = some row ∧ row.staged = true)
    ∧ (∃ (s : State) (r : Requester) (a : Nat) (n : Nat) (b : Nat) (st : Nat) (v : Word),
      s.resolve r 32 a (fun n => (activeOf n).getD n) = .ok n ∧ activeOf n = some b ∧ (addrUnits b).findSome? s.stageStatus = some st) :=
  ⟨⟨live, .pf, 0x3480008, 0x3480008, 0x3400008, 1518, rrow 0x3400008,
      by decide +kernel⟩,
    ⟨live, .pf, 0x3400008, 0x3400008, 0, rrow 0x3400008,
      by decide +kernel⟩,
    ⟨{ live with commit := { part := 0x7FFFFFF, locked := true } }, .pf, 0x3480008, 0x3480008, 0x3400008, 0x20, 0,
      by decide +kernel⟩⟩

theorem witness_EventPosting :
    (∃ (s : State) (f : Nat) (code : Nat) (p : List Byte),
      s.eventsOpen = true ∧ s.ringOn f 2 0 = true ∧ p.length ≤ 16 ∧ 1 ≤ s.ringFree f 2 0 ∧ (Tab.getD s.host.ev f {}).lost = 0 ∧ (code = 0xB002 ∨ s.eclipsing f = false))
    ∧ (∃ (s : State) (f : Nat) (code : Nat) (p : List Byte),
      s.eventsOpen = true ∧ (Tab.getD s.host.ev f {}).lost = 0 ∧ s.ringFree f 2 0 < evEntries p ∧ s.get ⟨hqBase f + 0x20, 15, 0⟩ < 65535)
    ∧ (∃ (s : State) (f : Nat),
      (Tab.getD s.host.ev f {}).lost ≠ 0 ∧ s.ringOn f 2 0 = true ∧ s.eclipsing f = false ∧ 2 ≤ s.ringFree f 2 0)
    ∧ (∃ (s : State) (f : Nat) (code : Nat) (p : List Byte),
      s.ringOn f 2 0 = false) :=
  ⟨⟨words live [(0x3000018, 0x10)], 0, 0x1001, List.replicate 16 7,
      by decide +kernel⟩,
    ⟨{ words live [(0x3000018, 0x10)] with host := { live.host with rings := [(32, { used := 15 })] } }, 0, 0x1001, List.replicate 17 7,
      by decide +kernel⟩,
    ⟨{ words live [(0x3000018, 0x10)] with host := { live.host with rings := [(32, { used := 14, tail := 15 })], ev := [(0, { lost := 3 })] } }, 0,
      by decide +kernel⟩,
    ⟨live, 1, 1, [],
      by decide +kernel⟩⟩

theorem witness_CompletionPosting :
    (∃ (s : State) (f : Nat) (tag : Nat) (status : Nat) (result : Nat) (c : Cmd),
      s.cmd? f tag = some c ∧ status ≠ 0x02) :=
  ⟨offer live (mkCmd 0 5 0x0110 []), 0, 5, 0x6E, 2 ^ 32, mkCmd 0 5 0x0110 [],
      by decide +kernel⟩

theorem witness_HostCommandsWaitTheirTurn :
    (∃ (c : Instr) (fn : Nat) (tag : Nat) (op : Nat) (s : State),
      hostRow c = some (fn, tag, op) ∧ (∀ x, ¬ Offered s fn tag op x)) :=
  ⟨.attest 0 1, 0, 1, 0x0113, live,
      by decide +kernel, not_offered_of (by decide +kernel)⟩

theorem witness_IssuerAndClockChecked :
    (∃ (c : Instr) (fn : Nat) (tag : Nat) (op : Nat) (x : Cmd) (s : State),
      hostRow c = some (fn, tag, op) ∧ Offered s fn tag op x ∧ fn ≠ 0 ∧ ((0x0110 ≤ op ∧ op ≤ 0x0114) ∨ (0x0810 ≤ op ∧ op ≤ 0x0812) ∨ (0x0910 ≤ op ∧ op ≤ 0x0917) ∨ op = 0x0C10))
    ∧ (∃ (c : Instr) (fn : Nat) (tag : Nat) (op : Nat) (x : Cmd) (s : State),
      hostRow c = some (fn, tag, op) ∧ Offered s fn tag op x ∧ fn ≠ 0 ∧ ((0x0110 ≤ op ∧ op ≤ 0x0114) ∨ (0x0810 ≤ op ∧ op ≤ 0x0812) ∨ (0x0910 ≤ op ∧ op ≤ 0x0917) ∨ op = 0x0C10))
    ∧ (∃ (c : Instr) (tag : Nat) (op : Nat) (x : Cmd) (s : State),
      hostRow c = some (0, tag, op) ∧ Offered s 0 tag op x ∧ ((0x0910 ≤ op ∧ op ≤ 0x0917 ∧ s.gated 10 = true) ∨ ((op = 0x0A01 ∨ op = 0x0A10) ∧ s.gated 11 = true) ∨ ((0x0810 ≤ op ∧ op ≤ 0x0812) ∧ s.gated 15 = true)))
    ∧ (∃ (c : Instr) (tag : Nat) (op : Nat) (x : Cmd) (s : State),
      hostRow c = some (0, tag, op) ∧ Offered s 0 tag op x ∧ ((0x0910 ≤ op ∧ op ≤ 0x0917 ∧ s.gated 10 = true) ∨ ((op = 0x0A01 ∨ op = 0x0A10) ∧ s.gated 11 = true) ∨ ((0x0810 ≤ op ∧ op ≤ 0x0812) ∧ s.gated 15 = true)))
    ∧ (∃ (c : Instr) (tag : Nat) (op : Nat) (x : Cmd) (s : State),
      hostRow c = some (0, tag, op) ∧ Offered s 0 tag op x ∧ ((0x0910 ≤ op ∧ op ≤ 0x0917 ∧ s.gated 10 = true) ∨ ((op = 0x0A01 ∨ op = 0x0A10) ∧ s.gated 11 = true) ∨ ((0x0810 ≤ op ∧ op ≤ 0x0812) ∧ s.gated 15 = true))) :=
  ⟨⟨.ethMacsecSaTx 15 0, 15, 0, 0x0C10, mkCmd 15 0 0x0C10 [], offer live (mkCmd 15 0 0x0C10 []),
      by decide +kernel, offered_of (by decide +kernel), by decide +kernel⟩,
    ⟨.attest 1 0, 1, 0, 0x0113, mkCmd 1 0 0x0113 [], offer live (mkCmd 1 0 0x0113 []),
      by decide +kernel, offered_of (by decide +kernel), by decide +kernel⟩,
    ⟨.pktPolicer 0 9, 9, 0x0917, mkCmd 0 9 0x0917 [], offer (words live [(0x100018, 0)]) (mkCmd 0 9 0x0917 []),
      by decide +kernel, offered_of (by decide +kernel), by decide +kernel⟩,
    ⟨.cphKeyErase 0 9, 9, 0x0A01, mkCmd 0 9 0x0A01 [], offer (words live [(0x100018, 0)]) (mkCmd 0 9 0x0A01 []),
      by decide +kernel, offered_of (by decide +kernel), by decide +kernel⟩,
    ⟨.nwWake 0 9, 9, 0x0811, mkCmd 0 9 0x0811 [], offer (words live [(0x100018, 0)]) (mkCmd 0 9 0x0811 []),
      by decide +kernel, offered_of (by decide +kernel), by decide +kernel⟩⟩

theorem witness_StrobeContains :
    (∃ (u : FUnit) (cause : Nat) (detail : Nat) (s : State),
      s.awake = true ∧ u.exists_ = true ∧ (s.unit u.idx).held = none)
    ∧ (∃ (u : FUnit) (cause : Nat) (detail : Nat) (s : State),
      s.awake = true ∧ u.exists_ = true ∧ (s.unit u.idx).held = none)
    ∧ (∃ (u : FUnit) (cause : Nat) (detail : Nat) (s : State),
      s.awake = true ∧ u.exists_ = true ∧ (s.unit u.idx).held.isSome) :=
  ⟨⟨.radio 2, 5, 0, live,
      by decide +kernel⟩,
    ⟨.func 15, 9, 7, { offer live (mkCmd 15 3 0x0B11 []) with units := [(47, { phase := .service, faults := [29100000000 / 3, 29900000000 / 3] })] },
      by decide +kernel⟩,
    ⟨.dram 3, 1, 0, { live with units := [(24, { held := some (none, 5) })] },
      by decide +kernel⟩⟩

theorem witness_ResetStateReached :
    (∃ (u : FUnit) (s : State),
      u.exists_ = true ∧ (s.unit u.idx).phase = .recovering ∧ (s.unit u.idx).held.isSome)
    ∧ (∃ (f : Nat) (s : State),
      f < 16 ∧ (s.unit (32 + f)).phase = .recovering ∧ (s.unit (32 + f)).held = none)
    ∧ (∃ (k : Nat) (s : State),
      k < 4 ∧ (s.unit (21 + k)).phase = .recovering ∧ (s.unit (21 + k)).held = none)
    ∧ (∃ (u : FUnit) (s : State),
      u.exists_ = true ∧ u.idx < 32 ∧ u.kind ≠ 5 ∧ (s.unit u.idx).phase = .recovering ∧ (s.unit u.idx).held = none ∧ (u = .mesh → s.mesh.state = .recovering))
    ∧ (∃ (u : FUnit) (s : State),
      u.exists_ = true ∧ u.idx < 32 ∧ u.kind ≠ 5 ∧ (s.unit u.idx).phase = .recovering ∧ (s.unit u.idx).held = none ∧ (u = .mesh → s.mesh.state = .recovering))
    ∧ (∃ (u : FUnit) (s : State),
      (s.unit u.idx).phase ≠ .recovering)
    ∧ (∃ (s : State),
      (s.unit 25).phase = .recovering ∧ (s.unit 25).held = none ∧ s.mesh.state = .reset ∧ s.time.mtState = .notStarted) :=
  ⟨⟨.port 3, { live with units := [(18, { phase := .recovering, held := some (some 1, 5) })] },
      by decide +kernel⟩,
    ⟨15, { live with units := [(47, { phase := .recovering })] },
      by decide +kernel⟩,
    ⟨3, { live with units := [(24, { phase := .recovering })] },
      by decide +kernel⟩,
    ⟨.mesh, { live with units := [(25, { phase := .recovering })], mesh := { live.mesh with state := .recovering } },
      by decide +kernel⟩,
    ⟨.radio 0, { live with units := [(0, { phase := .recovering })] },
      by decide +kernel⟩,
    ⟨.pkt, live,
      by decide +kernel⟩,
    ⟨{ live with units := [(25, { phase := .recovering })], mesh := {}, time := { live.time with mtState := .notStarted } },
      by decide +kernel⟩⟩

theorem witness_DeviceResets :
    (∃ (cause : Nat) (detail : Nat) (s : State),
      s.boot.state ≠ .reset ∧ cause = 0x10)
    ∧ (∃ (cause : Nat) (detail : Nat) (s : State),
      s.boot.state ≠ .reset ∧ cause = 0x11)
    ∧ (∃ (cause : Nat) (detail : Nat) (s : State),
      s.boot.state ≠ .reset ∧ cause ≠ 0x10 ∧ cause ≠ 0x11 ∧ s.boot.refsel ≠ 3 ∧ s.boot.bootmode ≠ 3)
    ∧ (∃ (s : State),
      s.boot.pwrOk = true ∧ s.boot.state ≠ .reset ∧ .resetNAssert ∉ s.pending)
    ∧ (∃ (b : Bool) (s : State),
      s.boot.refReady = true ∧ s.boot.refsel ≠ 3 ∧ s.boot.bootmode ≠ 3)
    ∧ (∃ (s : State),
      s.boot.rootReady = true ∧ s.boot.refsel ≠ 3 ∧ s.boot.bootmode ≠ 3)
    ∧ (∃ (r : Requester) (s : State),
      Mapped s r ∧ (s.boot.state = .run ∨ s.boot.state = .hold ∨ s.boot.state = .recovery) ∧ s.boot.refsel ≠ 3 ∧ s.boot.bootmode ≠ 3)
    ∧ (∃ (r : Requester) (v : Word) (s : State),
      Mapped s r ∧ v ≠ 0x7A110001#32)
    ∧ (∃ (s : State),
      s.boot.state = .recovery ∧ s.boot.almFrom + ms 600000 ≤ s.elapsed ∧ s.boot.refsel ≠ 3 ∧ s.boot.bootmode ≠ 3)
    ∧ (∃ (s : State),
      .resetNAssert ∈ s.pending)
    ∧ (∃ (s : State),
      s.flash.running = false ∧ s.boot.attempt.all (fun a => decide (a.1 ≤ s.elapsed)) = true) :=
  ⟨⟨0x10, 0, live,
      by decide +kernel⟩,
    ⟨0x11, 0, live,
      by decide +kernel⟩,
    ⟨3, 0, live,
      by decide +kernel⟩,
    ⟨live,
      by decide +kernel⟩,
    ⟨true, live,
      by decide +kernel⟩,
    ⟨live,
      by decide +kernel⟩,
    ⟨.pf, live,
      mapped_of rfl, by decide +kernel⟩,
    ⟨.cpu, 0x7A110000#32, live,
      mapped_of rfl, by decide +kernel⟩,
    ⟨{ live with elapsed := 600000 * 600000, boot := { live.boot with state := .recovery } },
      by decide +kernel⟩,
    ⟨{ live with pending := [.pwrOkReturn, .resetNAssert] },
      by decide +kernel⟩,
    ⟨{ live with boot := { live.boot with attempt := some (live.elapsed, [0]) } },
      by decide +kernel⟩⟩

theorem witness_ColdBoot :
    (∃ (q : BitVec 3) (refsel : BitVec 2) (bootmode : BitVec 2) (s : State),
      s.boot.resetN = false)
    ∧ (∃ (q : BitVec 3) (refsel : BitVec 2) (bootmode : BitVec 2) (s : State),
      s.boot.resetN = false)
    ∧ (∃ (s : State),
      s.boot.state = .reset ∧ s.boot.wait = .pwrOk ∧ s.boot.resetN = true ∧ s.boot.refsel ≠ 3 ∧ s.boot.bootmode ≠ 3)
    ∧ (∃ (ppm : Int) (s : State),
      s.boot.state = .qualify ∧ s.boot.refReady = false ∧ -1000 ≤ ppm ∧ ppm ≤ 1000)
    ∧ (∃ (ppm : Int) (s : State),
      s.boot.state = .qualify ∧ s.boot.refReady = false ∧ -1000 ≤ ppm ∧ ppm ≤ 1000)
    ∧ (∃ (edges : Nat) (ppm : Int) (s : State),
      (ppm < -1000 ∨ 1000 < ppm))
    ∧ (∃ (s : State),
      s.boot.state = .qualify ∧ s.boot.refReady = true ∧ s.boot.rootReady = false ∧ s.clocks.onRoot.length = 8) :=
  ⟨⟨7, 3, 0, State.reset,
      by decide +kernel⟩,
    ⟨7, 2, 2, State.reset,
      by decide +kernel⟩,
    ⟨{ State.reset with boot := { wait := .pwrOk, resetN := true, refsel := 2, bootmode := 2 } },
      by decide +kernel⟩,
    ⟨-1000, { State.reset with boot := { state := .qualify } },
      by decide +kernel⟩,
    ⟨1000, { State.reset with boot := { state := .qualify } },
      by decide +kernel⟩,
    ⟨0, 1001, State.reset,
      by decide +kernel⟩,
    ⟨{ State.reset with boot := { state := .qualify, refReady := true, bootmode := 2 } },
      by decide +kernel⟩⟩

theorem witness_ClockEnables :
    (∃ (r : Requester) (b : Nat) (s : State),
      b ∈ clockBlocks ∧ Mapped s r ∧ (s.isZ73 = false ∨ b < 32))
    ∧ (∃ (b : Nat) (s : State),
      b ∈ clockBlocks ∧ s.flag (clkSt b) = false ∧ s.flag (clkEn b) = true ∧ s.boot.rootReady = true ∧ (∀ d ∈ blockDomains b, s.domUp d = true) ∧ s.blockRejected b = false)
    ∧ (∃ (b : Nat) (s : State),
      b ∈ clockBlocks ∧ s.flag (clkSt b) = false ∧ s.flag (clkEn b) = true ∧ s.boot.rootReady = true ∧ (∀ d ∈ blockDomains b, s.domUp d = true) ∧ s.blockRejected b = false)
    ∧ (∃ (r : Requester) (b : Nat) (s : State),
      b ∈ clockBlocks ∧ b ≠ 15 ∧ Mapped s r ∧ s.flag (clkEn b) = true ∧ s.flag (clkSt b) = true)
    ∧ (∃ (b : Nat) (s : State),
      (b < 16 ∨ 20 ≤ b ∧ b < 32) ∧ b ≠ 10 ∧ b ≠ 15 ∧ Tab.has s.clocks.draining b = true ∧ s.blockRecovering b = false ∧ s.blockIdle b = true)
    ∧ (∃ (p : Nat) (s : State),
      p < 4 ∧ Tab.has s.clocks.draining (16 + p) = true ∧ s.blockRecovering (16 + p) = false ∧ s.blockIdle (16 + p) = true)
    ∧ (∃ (b : Nat) (s : State),
      Tab.has s.clocks.draining b = true ∧ s.blockIdle b = false)
    ∧ (∃ (b : Nat) (from_ : Nat) (s : State),
      b ∈ clockBlocks ∧ b ≠ 15 ∧ Tab.get? s.clocks.draining b = some from_ ∧ s.blockRecovering b = false ∧ s.blockIdle b = false ∧ from_ + us 100 ≤ s.elapsed) :=
  ⟨⟨.debug, 43, live,
      by decide +kernel, mapped_of rfl, by decide +kernel⟩,
    ⟨43, words live [(0x10001C, 0)],
      by decide +kernel⟩,
    ⟨0, words live [(0x100018, 0)],
      by decide +kernel⟩,
    ⟨.pf, 43, live,
      by decide +kernel, by decide +kernel, mapped_of rfl, by decide +kernel⟩,
    ⟨23, { live with clocks := { live.clocks with draining := [(23, 5)] } },
      by decide +kernel⟩,
    ⟨0, { live with clocks := { live.clocks with draining := [(16, 5)] } },
      by decide +kernel⟩,
    ⟨11, { live with clocks := { live.clocks with draining := [(11, 5)] }, cipher := { ops := [(0, { slot := 4, gen := 1 })] } },
      by decide +kernel⟩,
    ⟨32, 7000000000 - 60000, { live with clocks := { live.clocks with draining := [(32, 7000000000 - 60000)] }, tiles := [(0, { msgs := [⟨1, [], 1, 0, none⟩] })] },
      by decide +kernel⟩⟩

theorem witness_SourceSwitches :
    (∃ (r : Requester) (d : Nat) (root : Bool) (st : Nat) (s : State),
      d < 8 ∧ Mapped s r ∧ s.switchCheck d root = some st)
    ∧ (∃ (r : Requester) (d : Nat) (root : Bool) (s : State),
      d < 8 ∧ Mapped s r ∧ s.switchCheck d root = none ∧ s.clocks.onRoot.getD d false = root)
    ∧ (∃ (r : Requester) (d : Nat) (root : Bool) (s : State),
      d < 8 ∧ Mapped s r ∧ s.switchCheck d root = none ∧ s.clocks.onRoot.getD d false ≠ root)
    ∧ (∃ (d : Nat) (root : Bool) (s : State),
      d < 8 ∧ d ≠ 4 ∧ s.clocks.onRoot.length = 8 ∧ Tab.get? s.clocks.switching d = some root)
    ∧ (∃ (d : Nat) (root : Bool) (s : State),
      Tab.get? s.clocks.switching d = some root)
    ∧ (∃ (d : Nat) (root : Bool) (s : State),
      d < 8) :=
  ⟨⟨.pf, 7, true, 2, { live with clocks := { live.clocks with onRoot := List.replicate 7 true ++ [false] } },
      by decide +kernel, mapped_of rfl, by decide +kernel⟩,
    ⟨.pf, 0, true, live,
      by decide +kernel, mapped_of rfl, by decide +kernel⟩,
    ⟨.pf, 5, false, live,
      by decide +kernel, mapped_of rfl, by decide +kernel⟩,
    ⟨7, false, { live with clocks := { live.clocks with switching := [(7, false)] } },
      by decide +kernel⟩,
    ⟨3, true, { live with clocks := { live.clocks with switching := [(3, true)] } },
      by decide +kernel⟩,
    ⟨4, true, live,
      by decide +kernel⟩⟩

theorem witness_FrequencyCounters :
    (∃ (r : Requester) (n : Nat) (sel : Nat) (exp : Nat) (evt : Bool) (s : State),
      n < 8 ∧ Mapped s r ∧ s.clocks.fcBusy.contains n = true ∧ 10 ≤ exp ∧ exp ≤ 30 ∧ fcSelOk sel = true)
    ∧ (∃ (r : Requester) (n : Nat) (sel : Nat) (exp : Nat) (evt : Bool) (s : State),
      n < 8 ∧ Mapped s r ∧ s.clocks.fcBusy.contains n = false ∧ 10 ≤ exp ∧ exp ≤ 30 ∧ fcSelOk sel = true)
    ∧ (∃ (r : Requester) (n : Nat) (sel : Nat) (exp : Nat) (evt : Bool) (s : State),
      n < 8 ∧ Mapped s r ∧ sel < 64 ∧ exp < 32 ∧ (exp < 10 ∨ exp = 31 ∨ fcSelOk sel = false))
    ∧ (∃ (r : Requester) (n : Nat) (sel : Nat) (exp : Nat) (evt : Bool) (s : State),
      n < 8 ∧ Mapped s r ∧ sel < 64 ∧ exp < 32 ∧ (exp < 10 ∨ exp = 31 ∨ fcSelOk sel = false))
    ∧ (∃ (r : Requester) (n : Nat) (sel : Nat) (exp : Nat) (evt : Bool) (s : State),
      n < 8 ∧ Mapped s r ∧ sel < 64 ∧ exp < 32 ∧ (exp < 10 ∨ exp = 31 ∨ fcSelOk sel = false))
    ∧ (∃ (n : Nat) (edges : Nat) (w : FcWin) (s : State),
      n < 8 ∧ s.clocks.fcBusy.contains n = true ∧ Tab.get? s.clocks.fcWin n = some w ∧ s.flag ⟨fcCtrl n, 17, 17⟩ = false ∧ s.fcCounts w edges = true ∧ 2 ^ w.exp * 3000000 ≤ (s.elapsed - Tab.getD s.clocks.fcFrom n 0) * 5 * s.refKhz)
    ∧ (∃ (n : Nat) (edges : Nat) (w : FcWin) (s : State),
      Tab.get? s.clocks.fcWin n = some w ∧ w.ran = false ∧ edges ≠ 0) :=
  ⟨⟨.pf, 7, 0, 10, false, { live with clocks := { live.clocks with fcBusy := [7] } },
      by decide +kernel, mapped_of rfl, by decide +kernel⟩,
    ⟨.pf, 7, 0, 30, true, live,
      by decide +kernel, mapped_of rfl, by decide +kernel⟩,
    ⟨.pf, 0, 1, 9, false, live,
      by decide +kernel, mapped_of rfl, by decide +kernel⟩,
    ⟨.pf, 0, 1, 31, false, live,
      by decide +kernel, mapped_of rfl, by decide +kernel⟩,
    ⟨.pf, 7, 63, 10, true, { live with clocks := { live.clocks with fcBusy := [7] } },
      by decide +kernel, mapped_of rfl, by decide +kernel⟩,
    ⟨0, 77, { sel := 0x30, exp := 10, rate := some none, ran := true }, { live with boot := { live.boot with refsel := 1 }, clocks := { live.clocks with fcBusy := [0], fcFrom := [(0, 6999900000)], fcWin := [(0, { sel := 0x30, exp := 10, rate := some none, ran := true })] } },
      by decide +kernel⟩,
    ⟨0, 1, { sel := 1, exp := 10 }, { live with clocks := { live.clocks with fcBusy := [0], fcWin := [(0, { sel := 1, exp := 10 })] } },
      by decide +kernel⟩⟩

theorem witness_BootSequence :
    (∃ (a : Option FlashDev) (b : Option FlashDev) (s : State),
      s.boot.state = .load ∧ s.flash.ok = false ∧ s.boot.flashError = false ∧ discovered a b = true)
    ∧ (∃ (a : Option FlashDev) (b : Option FlashDev) (s : State),
      s.boot.state = .load ∧ s.flash.ok = false ∧ s.boot.flashError = false ∧ discovered a b = false)
    ∧ (∃ (ra : SlotReads) (rb : SlotReads) (a : SlotCheck) (b : SlotCheck) (s : State),
      s.boot.state = .load ∧ s.flash.ok = true ∧ a = s.checkSlot 0 ra.first ∧ b = s.checkSlot 1 rb.first ∧ (a.order = 0 → ra.second = none) ∧ (b.order = 0 → rb.second = none))
    ∧ (∃ (ra : SlotReads) (rb : SlotReads) (a : SlotCheck) (b : SlotCheck) (k : Nat) (s : State),
      s.boot.state = .load ∧ s.flash.ok = true ∧ a = s.checkSlot 0 ra.first ∧ b = s.checkSlot 1 rb.first ∧ (b.order ≠ 0 ∨ rb.second.isSome) ∧ (a.order ≠ 0 ∨ ra.second.isSome))
    ∧ (∃ (s : State),
      s.boot.state = .configure)
    ∧ (∃ (r : Requester) (s : State),
      Mapped s r ∧ s.boot.state = .hold)
    ∧ (∃ (r : Requester) (s : State),
      Mapped s r ∧ s.boot.state ≠ .hold)
    ∧ (∃ (s : State),
      s.boot.state = .hold ∧ s.boot.holdFrom + ms (1000 * s.holdTimeout) ≤ s.elapsed) :=
  ⟨⟨some ⟨512, true⟩, some ⟨512, true⟩, { live with flash := {}, boot := { live.boot with state := .load } },
      by decide +kernel⟩,
    ⟨none, none, { live with flash := {}, boot := { live.boot with state := .load } },
      by decide +kernel⟩,
    ⟨{}, ⟨some 3, none⟩, ({ live with boot := { live.boot with state := .load, active := none } } : State).checkSlot 0 none, ({ live with boot := { live.boot with state := .load, active := none } } : State).checkSlot 1 (some 3), { live with boot := { live.boot with state := .load, active := none } },
      by decide +kernel, by decide +kernel, rfl, rfl, by decide +kernel⟩,
    ⟨⟨none, some 5⟩, {}, ({ live with boot := { live.boot with state := .load, active := none } } : State).checkSlot 0 none, ({ live with boot := { live.boot with state := .load, active := none } } : State).checkSlot 1 none, 5, { live with boot := { live.boot with state := .load, active := none } },
      by decide +kernel, by decide +kernel, rfl, rfl, by decide +kernel⟩,
    ⟨{ live with boot := { live.boot with state := .configure, bootmode := 1 } },
      by decide +kernel⟩,
    ⟨.cpu, { live with boot := { live.boot with state := .hold } },
      mapped_of rfl, by decide +kernel⟩,
    ⟨.debug, live,
      mapped_of rfl, by decide +kernel⟩,
    ⟨{ live with boot := { live.boot with state := .hold, holdFrom := 7000000000 } },
      by decide +kernel⟩⟩

theorem witness_AlmanacCommands :
    (∃ (tag : Nat) (c : Cmd) (s : State),
      Offered s 0 tag 0x0110 c ∧ s.almBusy tag = false ∧ s.flash.ok = true ∧ c.reservedOk [(16, 1), (20, 4), (24, 4)] = true ∧ c.b 16 ≤ 1 ∧ s.slotWritable (c.b 16) = true ∧ c.le 20 4 % 65536 = 0 ∧ c.le 24 4 % 65536 = 0 ∧ c.le 24 4 ≠ 0 ∧ c.le 20 4 + c.le 24 4 ≤ s.slotSize)
    ∧ (∃ (tag : Nat) (c : Cmd) (d : List Byte) (s : State),
      Offered s 0 tag 0x0111 c ∧ s.almBusy tag = false ∧ s.flash.ok = true ∧ c.reservedOk [(16, 1), (20, 4), (24, 4), (32, 8)] = true ∧ c.b 16 ≤ 1 ∧ s.slotWritable (c.b 16) = true ∧ c.le 20 4 % 256 = 0 ∧ c.le 24 4 % 256 = 0 ∧ c.le 24 4 ≠ 0 ∧ c.le 24 4 ≤ 65536 ∧ c.le 20 4 + c.le 24 4 ≤ s.slotSize)
    ∧ (∃ (tag : Nat) (c : Cmd) (s : State),
      Offered s 0 tag 0x0112 c ∧ s.almBusy tag = false ∧ s.flash.ok = true ∧ c.reservedOk [(16, 1)] = true ∧ c.b 16 ≤ 1)
    ∧ (∃ (tag : Nat) (c : Cmd) (s : State),
      Offered s 0 tag 0x0114 c ∧ s.almBusy tag = false ∧ s.flash.ok = true ∧ c.reservedOk [(16, 4), (20, 4), (32, 8)] = true ∧ c.le 16 4 ≤ 32767 ∧ c.le 20 4 ≠ 0 ∧ c.le 20 4 ≤ 256)
    ∧ (∃ (tag : Nat) (c : Cmd) (s : State),
      Offered s 0 tag 0x0113 c ∧ s.almBusy tag = false ∧ c.reservedOk [(16, 32), (48, 8)] = true)
    ∧ (∃ (tag : Nat) (op : Nat) (c : Cmd) (i : Instr) (data : HostData) (s : State),
      ((op = 0x0110 ∧ i = .almSlotErase 0 tag ∧ c.reservedOk [(16, 1), (20, 4), (24, 4)] = true ∧ c.b 16 ≤ 1 ∧ s.slotWritable (c.b 16) = true ∧ c.le 20 4 % 65536 = 0 ∧ c.le 24 4 % 65536 = 0 ∧ c.le 24 4 ≠ 0 ∧ c.le 20 4 + c.le 24 4 ≤ s.slotSize) ∨ (op = 0x0111 ∧ i = .almSlotWrite 0 tag data ∧ c.reservedOk [(16, 1), (20, 4), (24, 4), (32, 8)] = true ∧ c.b 16 ≤ 1 ∧ s.slotWritable (c.b 16) = true ∧ c.le 20 4 % 256 = 0 ∧ c.le 24 4 % 256 = 0 ∧ c.le 24 4 ≠ 0 ∧ c.le 24 4 ≤ 65536 ∧ c.le 20 4 + c.le 24 4 ≤ s.slotSize) ∨ (op = 0x0112 ∧ i = .almSlotVerify 0 tag ∧ c.reservedOk [(16, 1)] = true ∧ c.b 16 ≤ 1) ∨ (op = 0x0114 ∧ i = .logRead 0 tag ∧ c.reservedOk [(16, 4), (20, 4), (32, 8)] = true ∧ c.le 16 4 ≤ 32767 ∧ c.le 20 4 ≠ 0 ∧ c.le 20 4 ≤ 256)) ∧ Offered s 0 tag op c ∧ s.almBusy tag = false ∧ s.flash.ok = false)
    ∧ (∃ (tag : Nat) (op : Nat) (c : Cmd) (i : Instr) (data : HostData) (s : State),
      ((op = 0x0110 ∧ i = .almSlotErase 0 tag ∧ c.reservedOk [(16, 1), (20, 4), (24, 4)] = true ∧ c.b 16 ≤ 1 ∧ s.slotWritable (c.b 16) = true ∧ c.le 20 4 % 65536 = 0 ∧ c.le 24 4 % 65536 = 0 ∧ c.le 24 4 ≠ 0 ∧ c.le 20 4 + c.le 24 4 ≤ s.slotSize) ∨ (op = 0x0111 ∧ i = .almSlotWrite 0 tag data ∧ c.reservedOk [(16, 1), (20, 4), (24, 4), (32, 8)] = true ∧ c.b 16 ≤ 1 ∧ s.slotWritable (c.b 16) = true ∧ c.le 20 4 % 256 = 0 ∧ c.le 24 4 % 256 = 0 ∧ c.le 24 4 ≠ 0 ∧ c.le 24 4 ≤ 65536 ∧ c.le 20 4 + c.le 24 4 ≤ s.slotSize) ∨ (op = 0x0112 ∧ i = .almSlotVerify 0 tag ∧ c.reservedOk [(16, 1)] = true ∧ c.b 16 ≤ 1) ∨ (op = 0x0114 ∧ i = .logRead 0 tag ∧ c.reservedOk [(16, 4), (20, 4), (32, 8)] = true ∧ c.le 16 4 ≤ 32767 ∧ c.le 20 4 ≠ 0 ∧ c.le 20 4 ≤ 256)) ∧ Offered s 0 tag op c ∧ s.almBusy tag = false ∧ s.flash.ok = false)
    ∧ (∃ (tag : Nat) (op : Nat) (c : Cmd) (i : Instr) (data : HostData) (s : State),
      ((op = 0x0110 ∧ i = .almSlotErase 0 tag ∧ c.reservedOk [(16, 1), (20, 4), (24, 4)] = true ∧ c.b 16 ≤ 1 ∧ s.slotWritable (c.b 16) = true ∧ c.le 20 4 % 65536 = 0 ∧ c.le 24 4 % 65536 = 0 ∧ c.le 24 4 ≠ 0 ∧ c.le 20 4 + c.le 24 4 ≤ s.slotSize) ∨ (op = 0x0111 ∧ i = .almSlotWrite 0 tag data ∧ c.reservedOk [(16, 1), (20, 4), (24, 4), (32, 8)] = true ∧ c.b 16 ≤ 1 ∧ s.slotWritable (c.b 16) = true ∧ c.le 20 4 % 256 = 0 ∧ c.le 24 4 % 256 = 0 ∧ c.le 24 4 ≠ 0 ∧ c.le 24 4 ≤ 65536 ∧ c.le 20 4 + c.le 24 4 ≤ s.slotSize) ∨ (op = 0x0112 ∧ i = .almSlotVerify 0 tag ∧ c.reservedOk [(16, 1)] = true ∧ c.b 16 ≤ 1) ∨ (op = 0x0114 ∧ i = .logRead 0 tag ∧ c.reservedOk [(16, 4), (20, 4), (32, 8)] = true ∧ c.le 16 4 ≤ 32767 ∧ c.le 20 4 ≠ 0 ∧ c.le 20 4 ≤ 256)) ∧ Offered s 0 tag op c ∧ s.almBusy tag = false ∧ s.flash.ok = false)
    ∧ (∃ (tag : Nat) (op : Nat) (c : Cmd) (i : Instr) (data : HostData) (s : State),
      ((op = 0x0110 ∧ i = .almSlotErase 0 tag ∧ c.reservedOk [(16, 1), (20, 4), (24, 4)] = true ∧ c.b 16 ≤ 1 ∧ s.slotWritable (c.b 16) = true ∧ c.le 20 4 % 65536 = 0 ∧ c.le 24 4 % 65536 = 0 ∧ c.le 24 4 ≠ 0 ∧ c.le 20 4 + c.le 24 4 ≤ s.slotSize) ∨ (op = 0x0111 ∧ i = .almSlotWrite 0 tag data ∧ c.reservedOk [(16, 1), (20, 4), (24, 4), (32, 8)] = true ∧ c.b 16 ≤ 1 ∧ s.slotWritable (c.b 16) = true ∧ c.le 20 4 % 256 = 0 ∧ c.le 24 4 % 256 = 0 ∧ c.le 24 4 ≠ 0 ∧ c.le 24 4 ≤ 65536 ∧ c.le 20 4 + c.le 24 4 ≤ s.slotSize) ∨ (op = 0x0112 ∧ i = .almSlotVerify 0 tag ∧ c.reservedOk [(16, 1)] = true ∧ c.b 16 ≤ 1) ∨ (op = 0x0114 ∧ i = .logRead 0 tag ∧ c.reservedOk [(16, 4), (20, 4), (32, 8)] = true ∧ c.le 16 4 ≤ 32767 ∧ c.le 20 4 ≠ 0 ∧ c.le 20 4 ≤ 256)) ∧ Offered s 0 tag op c ∧ s.almBusy tag = false ∧ s.flash.ok = false)
    ∧ (∃ (tag : Nat) (op : Nat) (c : Cmd) (i : Instr) (data : HostData) (s : State),
      s.almBusy tag = false ∧ Offered s 0 tag op c ∧ (((op = 0x0110 ∧ i = .almSlotErase 0 tag ∧ (c.reservedOk [(16, 1), (20, 4), (24, 4)] = false ∨ 1 < c.b 16 ∨ s.slotWritable (c.b 16) = false ∨ c.le 20 4 % 65536 ≠ 0 ∨ c.le 24 4 % 65536 ≠ 0 ∨ c.le 24 4 = 0 ∨ s.slotSize < c.le 20 4 + c.le 24 4)) ∨ (op = 0x0111 ∧ i = .almSlotWrite 0 tag data ∧ (c.reservedOk [(16, 1), (20, 4), (24, 4), (32, 8)] = false ∨ 1 < c.b 16 ∨ s.slotWritable (c.b 16) = false ∨ c.le 20 4 % 256 ≠ 0 ∨ c.le 24 4 % 256 ≠ 0 ∨ c.le 24 4 = 0 ∨ 65536 < c.le 24 4 ∨ s.slotSize < c.le 20 4 + c.le 24 4)) ∨ (op = 0x0112 ∧ i = .almSlotVerify 0 tag ∧ (c.reservedOk [(16, 1)] = false ∨ 1 < c.b 16)) ∨ (op = 0x0114 ∧ i = .logRead 0 tag ∧ (c.reservedOk [(16, 4), (20, 4), (32, 8)] = false ∨ 32767 < c.le 16 4 ∨ c.le 20 4 = 0 ∨ 256 < c.le 20 4))) ∨ (op = 0x0113 ∧ i = .attest 0 tag ∧ c.reservedOk [(16, 32), (48, 8)] = false)))
    ∧ (∃ (tag : Nat) (op : Nat) (c : Cmd) (i : Instr) (data : HostData) (s : State),
      s.almBusy tag = false ∧ Offered s 0 tag op c ∧ (((op = 0x0110 ∧ i = .almSlotErase 0 tag ∧ (c.reservedOk [(16, 1), (20, 4), (24, 4)] = false ∨ 1 < c.b 16 ∨ s.slotWritable (c.b 16) = false ∨ c.le 20 4 % 65536 ≠ 0 ∨ c.le 24 4 % 65536 ≠ 0 ∨ c.le 24 4 = 0 ∨ s.slotSize < c.le 20 4 + c.le 24 4)) ∨ (op = 0x0111 ∧ i = .almSlotWrite 0 tag data ∧ (c.reservedOk [(16, 1), (20, 4), (24, 4), (32, 8)] = false ∨ 1 < c.b 16 ∨ s.slotWritable (c.b 16) = false ∨ c.le 20 4 % 256 ≠ 0 ∨ c.le 24 4 % 256 ≠ 0 ∨ c.le 24 4 = 0 ∨ 65536 < c.le 24 4 ∨ s.slotSize < c.le 20 4 + c.le 24 4)) ∨ (op = 0x0112 ∧ i = .almSlotVerify 0 tag ∧ (c.reservedOk [(16, 1)] = false ∨ 1 < c.b 16)) ∨ (op = 0x0114 ∧ i = .logRead 0 tag ∧ (c.reservedOk [(16, 4), (20, 4), (32, 8)] = false ∨ 32767 < c.le 16 4 ∨ c.le 20 4 = 0 ∨ 256 < c.le 20 4))) ∨ (op = 0x0113 ∧ i = .attest 0 tag ∧ c.reservedOk [(16, 32), (48, 8)] = false)))
    ∧ (∃ (tag : Nat) (op : Nat) (c : Cmd) (i : Instr) (data : HostData) (s : State),
      s.almBusy tag = false ∧ Offered s 0 tag op c ∧ (((op = 0x0110 ∧ i = .almSlotErase 0 tag ∧ (c.reservedOk [(16, 1), (20, 4), (24, 4)] = false ∨ 1 < c.b 16 ∨ s.slotWritable (c.b 16) = false ∨ c.le 20 4 % 65536 ≠ 0 ∨ c.le 24 4 % 65536 ≠ 0 ∨ c.le 24 4 = 0 ∨ s.slotSize < c.le 20 4 + c.le 24 4)) ∨ (op = 0x0111 ∧ i = .almSlotWrite 0 tag data ∧ (c.reservedOk [(16, 1), (20, 4), (24, 4), (32, 8)] = false ∨ 1 < c.b 16 ∨ s.slotWritable (c.b 16) = false ∨ c.le 20 4 % 256 ≠ 0 ∨ c.le 24 4 % 256 ≠ 0 ∨ c.le 24 4 = 0 ∨ 65536 < c.le 24 4 ∨ s.slotSize < c.le 20 4 + c.le 24 4)) ∨ (op = 0x0112 ∧ i = .almSlotVerify 0 tag ∧ (c.reservedOk [(16, 1)] = false ∨ 1 < c.b 16)) ∨ (op = 0x0114 ∧ i = .logRead 0 tag ∧ (c.reservedOk [(16, 4), (20, 4), (32, 8)] = false ∨ 32767 < c.le 16 4 ∨ c.le 20 4 = 0 ∨ 256 < c.le 20 4))) ∨ (op = 0x0113 ∧ i = .attest 0 tag ∧ c.reservedOk [(16, 32), (48, 8)] = false)))
    ∧ (∃ (tag : Nat) (op : Nat) (c : Cmd) (i : Instr) (data : HostData) (s : State),
      s.almBusy tag = false ∧ Offered s 0 tag op c ∧ (((op = 0x0110 ∧ i = .almSlotErase 0 tag ∧ (c.reservedOk [(16, 1), (20, 4), (24, 4)] = false ∨ 1 < c.b 16 ∨ s.slotWritable (c.b 16) = false ∨ c.le 20 4 % 65536 ≠ 0 ∨ c.le 24 4 % 65536 ≠ 0 ∨ c.le 24 4 = 0 ∨ s.slotSize < c.le 20 4 + c.le 24 4)) ∨ (op = 0x0111 ∧ i = .almSlotWrite 0 tag data ∧ (c.reservedOk [(16, 1), (20, 4), (24, 4), (32, 8)] = false ∨ 1 < c.b 16 ∨ s.slotWritable (c.b 16) = false ∨ c.le 20 4 % 256 ≠ 0 ∨ c.le 24 4 % 256 ≠ 0 ∨ c.le 24 4 = 0 ∨ 65536 < c.le 24 4 ∨ s.slotSize < c.le 20 4 + c.le 24 4)) ∨ (op = 0x0112 ∧ i = .almSlotVerify 0 tag ∧ (c.reservedOk [(16, 1)] = false ∨ 1 < c.b 16)) ∨ (op = 0x0114 ∧ i = .logRead 0 tag ∧ (c.reservedOk [(16, 4), (20, 4), (32, 8)] = false ∨ 32767 < c.le 16 4 ∨ c.le 20 4 = 0 ∨ 256 < c.le 20 4))) ∨ (op = 0x0113 ∧ i = .attest 0 tag ∧ c.reservedOk [(16, 32), (48, 8)] = false)))
    ∧ (∃ (tag : Nat) (op : Nat) (c : Cmd) (i : Instr) (data : HostData) (s : State),
      s.almBusy tag = false ∧ Offered s 0 tag op c ∧ (((op = 0x0110 ∧ i = .almSlotErase 0 tag ∧ (c.reservedOk [(16, 1), (20, 4), (24, 4)] = false ∨ 1 < c.b 16 ∨ s.slotWritable (c.b 16) = false ∨ c.le 20 4 % 65536 ≠ 0 ∨ c.le 24 4 % 65536 ≠ 0 ∨ c.le 24 4 = 0 ∨ s.slotSize < c.le 20 4 + c.le 24 4)) ∨ (op = 0x0111 ∧ i = .almSlotWrite 0 tag data ∧ (c.reservedOk [(16, 1), (20, 4), (24, 4), (32, 8)] = false ∨ 1 < c.b 16 ∨ s.slotWritable (c.b 16) = false ∨ c.le 20 4 % 256 ≠ 0 ∨ c.le 24 4 % 256 ≠ 0 ∨ c.le 24 4 = 0 ∨ 65536 < c.le 24 4 ∨ s.slotSize < c.le 20 4 + c.le 24 4)) ∨ (op = 0x0112 ∧ i = .almSlotVerify 0 tag ∧ (c.reservedOk [(16, 1)] = false ∨ 1 < c.b 16)) ∨ (op = 0x0114 ∧ i = .logRead 0 tag ∧ (c.reservedOk [(16, 4), (20, 4), (32, 8)] = false ∨ 32767 < c.le 16 4 ∨ c.le 20 4 = 0 ∨ 256 < c.le 20 4))) ∨ (op = 0x0113 ∧ i = .attest 0 tag ∧ c.reservedOk [(16, 32), (48, 8)] = false)))
    ∧ (∃ (tag : Nat) (op : Nat) (c : Cmd) (i : Instr) (data : HostData) (s : State),
      s.almBusy tag = false ∧ Offered s 0 tag op c ∧ (((op = 0x0110 ∧ i = .almSlotErase 0 tag ∧ (c.reservedOk [(16, 1), (20, 4), (24, 4)] = false ∨ 1 < c.b 16 ∨ s.slotWritable (c.b 16) = false ∨ c.le 20 4 % 65536 ≠ 0 ∨ c.le 24 4 % 65536 ≠ 0 ∨ c.le 24 4 = 0 ∨ s.slotSize < c.le 20 4 + c.le 24 4)) ∨ (op = 0x0111 ∧ i = .almSlotWrite 0 tag data ∧ (c.reservedOk [(16, 1), (20, 4), (24, 4), (32, 8)] = false ∨ 1 < c.b 16 ∨ s.slotWritable (c.b 16) = false ∨ c.le 20 4 % 256 ≠ 0 ∨ c.le 24 4 % 256 ≠ 0 ∨ c.le 24 4 = 0 ∨ 65536 < c.le 24 4 ∨ s.slotSize < c.le 20 4 + c.le 24 4)) ∨ (op = 0x0112 ∧ i = .almSlotVerify 0 tag ∧ (c.reservedOk [(16, 1)] = false ∨ 1 < c.b 16)) ∨ (op = 0x0114 ∧ i = .logRead 0 tag ∧ (c.reservedOk [(16, 4), (20, 4), (32, 8)] = false ∨ 32767 < c.le 16 4 ∨ c.le 20 4 = 0 ∨ 256 < c.le 20 4))) ∨ (op = 0x0113 ∧ i = .attest 0 tag ∧ c.reservedOk [(16, 32), (48, 8)] = false))) :=
  ⟨⟨7, mkCmd 0 7 0x0110 [(16, 1, 1), (20, 4, 0x1770000), (24, 4, 0x90000)], almCmd 0x0110 [(16, 1, 1), (20, 4, 0x1770000), (24, 4, 0x90000)],
      offered_of (by decide +kernel), by decide +kernel⟩,
    ⟨7, mkCmd 0 7 0x0111 [(16, 1, 1), (20, 4, 0x100), (24, 4, 0x200), (32, 8, 0x1000)], List.replicate 512 9, almCmd 0x0111 [(16, 1, 1), (20, 4, 0x100), (24, 4, 0x200), (32, 8, 0x1000)],
      offered_of (by decide +kernel), by decide +kernel⟩,
    ⟨7, mkCmd 0 7 0x0112 [(16, 1, 0)], almCmd 0x0112 [(16, 1, 0)],
      offered_of (by decide +kernel), by decide +kernel⟩,
    ⟨7, mkCmd 0 7 0x0114 [(16, 4, 32767), (20, 4, 256), (32, 8, 0x1000)], almCmd 0x0114 [(16, 4, 32767), (20, 4, 256), (32, 8, 0x1000)],
      offered_of (by decide +kernel), by decide +kernel⟩,
    ⟨7, mkCmd 0 7 0x0113 [(48, 8, 0x1000)], almCmd 0x0113 [(48, 8, 0x1000)],
      offered_of (by decide +kernel), by decide +kernel⟩,
    ⟨7, 0x0110, mkCmd 0 7 0x0110 [(16, 1, 1), (20, 4, 0x1770000), (24, 4, 0x90000)], .almSlotErase 0 7, none, { almCmd 0x0110 [(16, 1, 1), (20, 4, 0x1770000), (24, 4, 0x90000)] with flash := { live.flash with ok := false } },
      by decide +kernel, offered_of (by decide +kernel), by decide +kernel⟩,
    ⟨7, 0x0111, mkCmd 0 7 0x0111 [(16, 1, 1), (24, 4, 0x10000)], .almSlotWrite 0 7 none, none, { almCmd 0x0111 [(16, 1, 1), (24, 4, 0x10000)] with flash := { live.flash with ok := false } },
      by decide +kernel, offered_of (by decide +kernel), by decide +kernel⟩,
    ⟨7, 0x0112, mkCmd 0 7 0x0112 [(16, 1, 1)], .almSlotVerify 0 7, none, { almCmd 0x0112 [(16, 1, 1)] with flash := { live.flash with ok := false } },
      by decide +kernel, offered_of (by decide +kernel), by decide +kernel⟩,
    ⟨7, 0x0114, mkCmd 0 7 0x0114 [(16, 4, 32767), (20, 4, 256)], .logRead 0 7, none, { almCmd 0x0114 [(16, 4, 32767), (20, 4, 256)] with flash := { live.flash with ok := false } },
      by decide +kernel, offered_of (by decide +kernel), by decide +kernel⟩,
    ⟨7, 0x0110, mkCmd 0 7 0x0110 [(24, 4, 0x10000)], .almSlotErase 0 7, none, almCmd 0x0110 [(24, 4, 0x10000)],
      by decide +kernel, offered_of (by decide +kernel), by decide +kernel⟩,
    ⟨7, 0x0111, mkCmd 0 7 0x0111 [(16, 1, 1), (24, 4, 0x10100)], .almSlotWrite 0 7 none, none, almCmd 0x0111 [(16, 1, 1), (24, 4, 0x10100)],
      by decide +kernel, offered_of (by decide +kernel), by decide +kernel⟩,
    ⟨7, 0x0112, mkCmd 0 7 0x0112 [(16, 1, 2)], .almSlotVerify 0 7, none, almCmd 0x0112 [(16, 1, 2)],
      by decide +kernel, offered_of (by decide +kernel), by decide +kernel⟩,
    ⟨7, 0x0114, mkCmd 0 7 0x0114 [(16, 4, 32768), (20, 4, 1)], .logRead 0 7, none, almCmd 0x0114 [(16, 4, 32768), (20, 4, 1)],
      by decide +kernel, offered_of (by decide +kernel), by decide +kernel⟩,
    ⟨7, 0x0113, mkCmd 0 7 0x0113 [(56, 8, 1)], .attest 0 7, none, almCmd 0x0113 [(56, 8, 1)],
      by decide +kernel, offered_of (by decide +kernel), by decide +kernel⟩,
    ⟨7, 0x0110, mkCmd 0 7 0x0110 [(16, 1, 1), (20, 4, 0x1FF0000), (24, 4, 0x20000)], .almSlotErase 0 7, none, almCmd 0x0110 [(16, 1, 1), (20, 4, 0x1FF0000), (24, 4, 0x20000)],
      by decide +kernel, offered_of (by decide +kernel), by decide +kernel⟩⟩

theorem witness_FlashAccessesEnd :
    (∃ (a : Nat) (d : List Byte) (rest : List FlashOp) (s : State),
      s.flash.running = true ∧ s.flash.ops = .program a d :: rest ∧ s.elapsed < s.flash.since + ms 5 ∧ s.flash.written.contains (a / 256) = false ∧ (s.flashRead a d.length).all (· == Memory.unlisted) = true)
    ∧ (∃ (k : Nat) (rest : List FlashOp) (s : State),
      s.flash.running = true ∧ s.flash.ops = .erase k :: rest ∧ s.elapsed < s.flash.since + ms 2000)
    ∧ (∃ (ty : Nat) (p : List Byte) (again : Bool) (rest : List FlashOp) (s : State),
      s.flash.running = true ∧ s.flash.ops = .logEntry ty p again :: rest ∧ s.elapsed < s.flash.since + ms 5)
    ∧ (∃ (k : Nat) (rest : List FlashOp) (s : State),
      s.flash.running = true ∧ s.flash.ops = .erase k :: rest ∧ s.flash.since + ms 2000 ≤ s.elapsed)
    ∧ (∃ (ty : Nat) (p : List Byte) (rest : List FlashOp) (s : State),
      s.flash.running = true ∧ s.flash.ops = .logEntry ty p false :: rest ∧ s.flash.since + ms 5 ≤ s.elapsed)
    ∧ (∃ (ty : Nat) (p : List Byte) (rest : List FlashOp) (s : State),
      s.flash.running = true ∧ s.flash.ops = .logEntry ty p true :: rest ∧ s.flash.since + ms 5 ≤ s.elapsed) :=
  ⟨⟨256, List.replicate 256 3, [], { live with flash := { live.flash with running := true, since := 7000000000, ops := [.program 256 (List.replicate 256 3)] } },
      by decide +kernel⟩,
    ⟨1, [.verify 0], { live with flash := { live.flash with bytes := [(65535, 1), (65536, 2), (131071, 3), (131072, 4)], spoiled := [1], running := true, since := 7000000000, ops := [.erase 1, .verify 0] } },
      by decide +kernel⟩,
    ⟨1, [1], true, [], { live with log := { found := true, ptr := 32767, seq := 9 }, flash := { live.flash with running := true, since := 7000000000, ops := [.logEntry 1 [1] true] } },
      by decide +kernel⟩,
    ⟨1, [.erase 2, .logErase 3], { live with boot := { live.boot with almRunning := some (0, 7) }, flash := { live.flash with running := true, ops := [.erase 1, .erase 2, .logErase 3] } },
      by decide +kernel⟩,
    ⟨2, [1], [.erase 2], { live with log := { found := true, ptr := 255 }, flash := { live.flash with running := true, ops := [.logEntry 2 [1] false, .erase 2] } },
      by decide +kernel⟩,
    ⟨2, [1], [.erase 2, .logErase 3], { live with log := { found := true, ptr := 255 }, flash := { live.flash with running := true, ops := [.logEntry 2 [1] true, .erase 2, .logErase 3] } },
      by decide +kernel⟩⟩

theorem witness_TunerCountTimers :
    (∃ (s : State),
      s.boot.state ∉ [BootState.reset, .qualify, .load] ∧ s.log.countsFrom + 3600000000000 ≤ s.frNs)
    ∧ (∃ (s : State),
      (s.boot.state ∈ [BootState.reset, .qualify, .load] ∨ s.frNs < s.log.countsFrom + 3600000000000))
    ∧ (∃ (s : State),
      (s.boot.state ∈ [BootState.reset, .qualify, .load] ∨ s.frNs < s.log.countsFrom + 3600000000000))
    ∧ (∃ (s : State),
      s.log.creditFrom + 3600000000000 ≤ s.frNs)
    ∧ (∃ (s : State),
      s.frNs < s.log.creditFrom + 3600000000000) :=
  ⟨⟨{ live with time := { live.time with fr := 3 * 3600000000000 } },
      by decide +kernel⟩,
    ⟨{ live with boot := {} },
      by decide +kernel⟩,
    ⟨live,
      by decide +kernel⟩,
    ⟨{ live with time := { live.time with fr := 3 * 3600000000000 }, chains := [(0, { credit := 179999 })] },
      by decide +kernel⟩,
    ⟨live,
      by decide +kernel⟩⟩

theorem witness_TimeInputs :
    (∃ (port : Nat) (domain : Nat) (log : Int) (src : Int) (s : State),
      s.srcOrder.contains 1 = true ∧ s.clocks.onRoot.getD 4 false = true ∧ bitOf (fieldLE (s.recBytes 0x0201) 4 2) port = true ∧ s.subExists port = true ∧ fieldLE (s.recBytes 0x0201) 2 1 = domain)
    ∧ (∃ (port : Nat) (domain : Nat) (log : Int) (src : Int) (s : State),
      s.srcOrder.contains 1 = true ∧ s.clocks.onRoot.getD 4 false = true ∧ bitOf (fieldLE (s.recBytes 0x0201) 4 2) port = true ∧ s.subExists port = true ∧ fieldLE (s.recBytes 0x0201) 2 1 = domain)
    ∧ (∃ (port : Nat) (domain : Nat) (utc : Nat) (leap : Nat) (id : BitVec 64) (s : State),
      s.srcOrder.contains 1 = true ∧ bitOf (fieldLE (s.recBytes 0x0201) 4 2) port = true ∧ s.subExists port = true ∧ fieldLE (s.recBytes 0x0201) 2 1 = domain ∧ (s.time.gm = 0 ∨ s.time.gm = id))
    ∧ (∃ (port : Nat) (domain : Nat) (utc : Nat) (leap : Nat) (id : BitVec 64) (s : State),
      s.srcOrder.contains 1 = true ∧ bitOf (fieldLE (s.recBytes 0x0201) 4 2) port = true ∧ s.subExists port = true ∧ fieldLE (s.recBytes 0x0201) 2 1 = domain ∧ s.time.gm ≠ 0 ∧ s.time.gm ≠ id)
    ∧ (∃ (port : Nat) (domain : Nat) (utc : Nat) (leap : Nat) (id : BitVec 64) (s : State),
      s.srcOrder.contains 1 = true ∧ bitOf (fieldLE (s.recBytes 0x0201) 4 2) port = true ∧ s.subExists port = true ∧ fieldLE (s.recBytes 0x0201) 2 1 = domain ∧ s.time.gm ≠ 0 ∧ s.time.gm ≠ id)
    ∧ (∃ (s : State),
      s.clocks.onRoot.getD 4 false = true ∧ (∀ t, s.time.ppsLastFR = some t → t + 999000000 ≤ s.frNs))
    ∧ (∃ (t : Nat) (s : State),
      s.clocks.onRoot.getD 4 false = true ∧ s.time.ppsLastFR = some t ∧ s.frNs < t + 999000000)
    ∧ (∃ (b : List Byte) (s : State),
      s.srcOrder.contains 2 = true ∧ s.time.ppsEdge = none)
    ∧ (∃ (b : List Byte) (edge : Nat) (stamp : Int) (s : State),
      s.srcOrder.contains 2 = true ∧ s.time.ppsEdge = some (edge, stamp) ∧ edge + 10000000 ≤ s.frNs - 160 * 1000000000 / baudOf (fieldLE (s.recBytes 0x0203) 0 1) ∧ s.frNs - 160 * 1000000000 / baudOf (fieldLE (s.recBytes 0x0203) 0 1) < edge + 900000000 ∧ b.length = 16 ∧ fieldLE b 0 2 = 0x545A ∧ fieldLE b 2 1 = 1 ∧ fieldLE b 14 2 = crc16 (b.take 14) ∧ bitOf (fieldLE b 3 1) 0 = true ∧ (∀ p, s.time.todSec = some p → fieldLE b 4 6 = p + 1))
    ∧ (∃ (k : Nat) (off : Int) (s : State),
      (k = 1 ∨ k = 2) ∧ (s.src k).window = [] ∧ (s.src k).seedRun.length < 3)
    ∧ (∃ (k : Nat) (off : Int) (s : State),
      (k = 1 ∨ k = 2) ∧ (s.src k).window ≠ [] ∧ s.time.active ≠ some k ∧ off - median (s.src k).window ≤ (s.outlierLimit : Int) * 65536 ∧ median (s.src k).window - off ≤ (s.outlierLimit : Int) * 65536)
    ∧ (∃ (k : Nat) (off : Int) (s : State),
      (k = 1 ∨ k = 2) ∧ (s.src k).window ≠ [] ∧ ((s.outlierLimit : Int) * 65536 < off - median (s.src k).window ∨ (s.outlierLimit : Int) * 65536 < median (s.src k).window - off) ∧ (s.src k).rejects.length + 1 < s.outlierRun) :=
  ⟨⟨9, 24, -7, 5, onPort timed,
      by decide +kernel⟩,
    ⟨0, 24, 2, 5, onPort timed,
      by decide +kernel⟩,
    ⟨0, 24, 37, 1, 2, onPort timed,
      by decide +kernel⟩,
    ⟨0, 24, 37, 1, 2, let s := onPort timed; { s with time := { s.time with gm := 1, active := some 1 } },
      by decide +kernel⟩,
    ⟨0, 24, 37, 1, 2, let s := onPort timed; { s with time := { s.time with gm := 1, active := some 2 } },
      by decide +kernel⟩,
    ⟨{ timed with time := { timed.time with ppsLastFR := some (10000000000 - 999000000) } },
      by decide +kernel⟩,
    ⟨10000000000 - 998999999, { timed with time := { timed.time with ppsLastFR := some (10000000000 - 998999999) } },
      by decide +kernel⟩,
    ⟨[], timed,
      by decide +kernel⟩,
    ⟨todBytes 1 10 37, 9500000000, 655360000000, { timed with time := { timed.time with ppsEdge := some (9500000000, 655360000000), todSec := some 9 } },
      by decide +kernel⟩,
    ⟨1, -9, { timed with time := { timed.time with ptp := { seedRun := [1, 2] } } },
      by decide +kernel⟩,
    ⟨2, 6553600, { timed with time := { timed.time with pps := { window := [0, 0, 0, 0, 0, 0, 0, 0], rejects := [3] } } },
      by decide +kernel⟩,
    ⟨1, 6553601, { timed with time := { timed.time with active := some 1, ptp := { window := [0], rejects := [3] } } },
      by decide +kernel⟩⟩

theorem witness_TimeStates :
    (∃ (k : Nat) (s : State),
      (k = 1 ∨ k = 2) ∧ s.srcOrder.contains k = true ∧ (s.src k).lastFR + s.inputTimeout ≤ s.frNs ∧ s.time.active ≠ some k)
    ∧ (∃ (k : Nat) (s : State),
      (k = 1 ∨ k = 2) ∧ s.srcOrder = [k] ∧ (s.src k).lastFR + s.inputTimeout ≤ s.frNs ∧ s.time.active = some k ∧ s.time.state = .locked)
    ∧ (∃ (from_ : Nat) (s : State),
      s.time.firstWaitFrom = some from_ ∧ s.time.state = .notStarted ∧ s.clocks.onRoot.getD 4 false = true ∧ s.dormantRunning = false ∧ from_ + fieldLE (s.recBytes 0x0201) 8 4 * 1000000 ≤ s.frNs ∧ s.time.mtState = .notStarted)
    ∧ (∃ (r : Requester) (base : Nat) (s : State),
      Mapped s r ∧ base ≤ 4 ∧ s.time.state ≠ .notStarted ∧ Tab.has s.time.reanchors base = false ∧ s.time.stepPending = none ∧ s.time.mtFollow = false)
    ∧ (∃ (r : Requester) (base : Nat) (s : State),
      Mapped s r ∧ base ≤ 4 ∧ s.time.state = .notStarted)
    ∧ (∃ (r : Requester) (base : Nat) (s : State),
      Mapped s r ∧ base ≤ 4 ∧ s.time.state ≠ .notStarted ∧ Tab.has s.time.reanchors base = true)
    ∧ (∃ (r : Requester) (base : Nat) (s : State),
      Mapped s r ∧ 5 ≤ base ∧ base ≤ 7)
    ∧ (∃ (r : Requester) (base : Nat) (s : State),
      Mapped s r ∧ 5 ≤ base ∧ base ≤ 7)
    ∧ (∃ (b : Nat) (k : Nat) (s : State),
      Tab.get? s.time.reanchors 0 = some b ∧ s.gridAtOrAfter s.sfNs b ≤ s.ntNs + 2000000 ∧ s.time.ntReanchorReady = none ∧ s.time.active = some k ∧ (s.src k).window ≠ [])
    ∧ (∃ (b : Nat) (s : State),
      Tab.get? s.time.reanchors 0 = some b ∧ s.gridAtOrAfter s.sfNs b ≤ s.ntNs + 2000000 ∧ s.time.ntReanchorReady = none ∧ (∀ j ∈ s.time.active.toList ++ s.srcOrder, (s.src j).window = []))
    ∧ (∃ (seed : Int) (s : State),
      s.time.state = .locked)
    ∧ (∃ (at_ : Nat) (s : State),
      s.time.autoAt = some at_ ∧ s.time.state = .holdover ∧ at_ ≤ s.ntNs ∧ Tab.has s.time.reanchors 0 = false ∧ s.time.stepPending = none) :=
  ⟨⟨2, { timed with time := { timed.time with active := some 1, pps := { window := [1], lastFR := 9000000000 } } },
      by decide +kernel⟩,
    ⟨1, { recs live [(0x0201, [1, 0, 24, 0, 0xFF, 3, 4, 0])] with time := { live.time with active := some 1, ptp := { window := [1], lastFR := 9000000000 } } },
      by decide +kernel⟩,
    ⟨9999000000, { timed with time := { timed.time with firstWaitFrom := some 9999000000, state := .notStarted, mtState := .notStarted } },
      by decide +kernel⟩,
    ⟨.pf, 4, timed,
      mapped_of rfl, by decide +kernel⟩,
    ⟨.pf, 0, { timed with time := { timed.time with state := .notStarted } },
      mapped_of rfl, by decide +kernel⟩,
    ⟨.pf, 0, { timed with time := { timed.time with reanchors := [(0, 5)] } },
      mapped_of rfl, by decide +kernel⟩,
    ⟨.pf, 5, timed,
      mapped_of rfl, by decide +kernel⟩,
    ⟨.pf, 7, timed,
      mapped_of rfl, by decide +kernel⟩,
    ⟨10025600000, 1, { timed with time := { timed.time with nt := ⟨10023600000 * 2 ^ 48, 0⟩, active := some 1, ptp := { window := [5] }, reanchors := [(0, 10025600000)] } },
      by decide +kernel⟩,
    ⟨10025600000, { timed with time := { timed.time with nt := ⟨10023600000 * 2 ^ 48, 0⟩, active := some 1, reanchors := [(0, 10025600000)] } },
      by decide +kernel⟩,
    ⟨-3000000, timed,
      by decide +kernel⟩,
    ⟨10005000000, { timed with time := { timed.time with state := .holdover, autoAt := some 10005000000 } },
      by decide +kernel⟩⟩

theorem witness_MtAndOutputs :
    (∃ (s : State),
      s.ntValid = true ∧ s.time.mtState ≠ .notStarted ∧ s.time.mtMeasuredSec < s.ntNs / 1000000000 ∧ s.time.mtState = .steered)
    ∧ (∃ (s : State),
      s.ntValid = true ∧ s.time.mtState ≠ .notStarted ∧ s.time.mtMeasuredSec < s.ntNs / 1000000000)
    ∧ (∃ (k : Nat) (s : State),
      k = (((s.ntNs : Int) - signed 32 (fieldLE (s.recBytes 0x0203) 8 4)) / 1000000000).toNat ∧ bitOf (fieldLE (s.recBytes 0x0203) 1 1) 1 = true ∧ s.stepTaken = true ∧ (∀ p, s.time.ppsOutSec = some p → p < k) ∧ (∀ p, s.time.ppsBase = some p → p < k))
    ∧ (∃ (s : State),
      s.time.ppsOutSec.isSome ∧ s.stepTaken = true)
    ∧ (∃ (s : State),
      s.time.ppsOutSec.isSome ∧ s.stepTaken = true)
    ∧ (∃ (s : State),
      s.stepTaken = false)
    ∧ (∃ (k : Nat) (s : State),
      s.time.ppsOutSec = some k ∧ bitOf (fieldLE (s.recBytes 0x0203) 1 1) 0 = true ∧ s.time.todSentSec ≠ some k ∧ s.stepTaken = true ∧ (k : Int) * 1000000000 + signed 32 (fieldLE (s.recBytes 0x0203) 8 4) + 100000000 ≤ s.ntNs) :=
  ⟨⟨timed,
      by decide +kernel⟩,
    ⟨{ timed with time := { timed.time with mt := ⟨10005000900 * 2 ^ 48, 0⟩ } },
      by decide +kernel⟩,
    ⟨10, { timed with time := { timed.time with ppsBase := some 9, ppsOutSec := some 9 } },
      by decide +kernel⟩,
    ⟨{ timed with time := { timed.time with ppsOutSec := some 9, ppsRose := 6999999999 } },
      by decide +kernel⟩,
    ⟨{ timed with time := { timed.time with ppsOutSec := some 9, ppsRose := 6000000000 } },
      by decide +kernel⟩,
    ⟨{ timed with time := { timed.time with state := .provisional } },
      by decide +kernel⟩,
    ⟨9, { timed with time := { timed.time with ppsOutSec := some 9 } },
      by decide +kernel⟩⟩

theorem witness_CommitRequests :
    (∃ (r : Requester) (s : State),
      Mapped s r ∧ s.inBoundary = true)
    ∧ (∃ (r : Requester) (s : State),
      Mapped s r ∧ s.inBoundary = false ∧ s.commit.state ≠ .idle)
    ∧ (∃ (r : Requester) (s : State),
      Mapped s r ∧ s.inBoundary = false ∧ s.commit.state = .idle ∧ s.dormantRunning = true)
    ∧ (∃ (r : Requester) (s : State),
      Mapped s r ∧ s.inBoundary = false ∧ s.commit.state = .idle ∧ s.dormantRunning = false ∧ s.ntValid = false)
    ∧ (∃ (r : Requester) (s : State),
      Mapped s r ∧ s.inBoundary = false ∧ s.commit.state = .idle ∧ s.dormantRunning = false ∧ s.ntValid = true ∧ s.get ⟨0x300020, 2, 0⟩ ≤ 4 ∧ (s.get ⟨0x300020, 2, 0⟩ = 1 → s.get ⟨0x300020, 5, 4⟩ = 0))
    ∧ (∃ (n : Int) (len : Nat) (s : State),
      s.get64 0x300028 ≠ 0 ∧ n = (s.ntNs : Int) + signed 64 (s.get64 0x300028 + 2 ^ 64 - s.nt64.toNat))
    ∧ (∃ (n : Int) (len : Nat) (s : State),
      s.get64 0x300028 ≠ 0 ∧ n = (s.ntNs : Int) + signed 64 (s.get64 0x300028 + 2 ^ 64 - s.nt64.toNat))
    ∧ (∃ (n : Int) (len : Nat) (s : State),
      s.get64 0x300028 ≠ 0 ∧ n = (s.ntNs : Int) + signed 64 (s.get64 0x300028 + 2 ^ 64 - s.nt64.toNat))
    ∧ (∃ (n : Int) (len : Nat) (s : State),
      s.get64 0x300028 ≠ 0 ∧ n = (s.ntNs : Int) + signed 64 (s.get64 0x300028 + 2 ^ 64 - s.nt64.toNat))
    ∧ (∃ (n : Int) (len : Nat) (s : State),
      s.get64 0x300028 ≠ 0 ∧ n = (s.ntNs : Int) + signed 64 (s.get64 0x300028 + 2 ^ 64 - s.nt64.toNat))
    ∧ (∃ (r : Requester) (s : State),
      Mapped s r ∧ s.inBoundary = false ∧ s.commit.state = .idle ∧ s.dormantRunning = false ∧ s.ntValid = true ∧ (4 < s.get ⟨0x300020, 2, 0⟩ ∨ (s.get ⟨0x300020, 2, 0⟩ = 1 ∧ s.get ⟨0x300020, 5, 4⟩ ≠ 0)))
    ∧ (∃ (r : Requester) (s : State),
      Mapped s r ∧ s.inBoundary = false ∧ s.commit.state = .idle ∧ s.dormantRunning = false ∧ s.ntValid = true ∧ (4 < s.get ⟨0x300020, 2, 0⟩ ∨ (s.get ⟨0x300020, 2, 0⟩ = 1 ∧ s.get ⟨0x300020, 5, 4⟩ ≠ 0)))
    ∧ (∃ (r : Requester) (target : Nat) (s : State),
      Mapped s r ∧ s.inBoundary = false ∧ s.commit.state = .idle ∧ s.dormantRunning = false ∧ s.boot.state = .run ∧ s.ntValid = true ∧ s.get ⟨0x300020, 2, 0⟩ ≤ 4 ∧ (s.get ⟨0x300020, 2, 0⟩ = 1 → s.get ⟨0x300020, 5, 4⟩ = 0) ∧ s.goTarget (s.get ⟨0x300020, 5, 4⟩) = .ok target)
    ∧ (∃ (r : Requester) (target : Nat) (s : State),
      Mapped s r ∧ s.inBoundary = false ∧ s.commit.state = .idle ∧ s.dormantRunning = false ∧ s.boot.state = .run ∧ s.ntValid = true ∧ s.get ⟨0x300020, 2, 0⟩ ≤ 4 ∧ (s.get ⟨0x300020, 2, 0⟩ = 1 → s.get ⟨0x300020, 5, 4⟩ = 0) ∧ s.goTarget (s.get ⟨0x300020, 5, 4⟩) = .ok target)
    ∧ (∃ (r : Requester) (s : State),
      Mapped s r ∧ s.inBoundary = false ∧ s.commit.state = .arming ∧ s.commit.kind = .host ∧ s.chains.all (fun e => e.2.heldPos.isNone) = true)
    ∧ (∃ (r : Requester) (s : State),
      Mapped s r ∧ s.inBoundary = false ∧ s.commit.state ≠ .arming) :=
  ⟨⟨.pf, { live with time := { live.time with nt := ⟨10000001999 * 2 ^ 48, 0⟩ } },
      mapped_of rfl, by decide +kernel⟩,
    ⟨.cpu, armed .copying 1 1 1 0,
      mapped_of rfl, by decide +kernel⟩,
    ⟨.cpu, asleep (.exit 1),
      mapped_of rfl, by decide +kernel⟩,
    ⟨.cpu, { live with time := {} },
      mapped_of rfl, by decide +kernel⟩,
    ⟨.cpu, { live with boot := { live.boot with state := .hold } },
      mapped_of rfl, by decide +kernel⟩,
    ⟨10051200000, 0, words { live with time := { live.time with nt := ⟨10005000000 * 2 ^ 48, 0⟩ } } [(0x300028, 1461265408), (0x30002C, 2)],
      by decide +kernel⟩,
    ⟨10051200001, 0, words { live with time := { live.time with nt := ⟨10005000000 * 2 ^ 48, 0⟩ } } [(0x300028, 1461265409), (0x30002C, 2)],
      by decide +kernel⟩,
    ⟨10025600000, 0, words { live with time := { live.time with nt := ⟨10023600001 * 2 ^ 48, 0⟩ } } [(0x300028, 1435665408), (0x30002C, 2)],
      by decide +kernel⟩,
    ⟨30505600000, 0, words { live with time := { live.time with nt := ⟨10005000000 * 2 ^ 48, 0⟩ } } [(0x300028, 440828928), (0x30002C, 7)],
      by decide +kernel⟩,
    ⟨25385600000, 0, words { live with time := { live.time with nt := ⟨10005000000 * 2 ^ 48, 0⟩ } } [(0x300028, 3910763520), (0x30002C, 5)],
      by decide +kernel⟩,
    ⟨.cpu, words live [(0x300020, 0x11)],
      mapped_of rfl, by decide +kernel⟩,
    ⟨.cpu, words live [(0x300020, 5)],
      mapped_of rfl, by decide +kernel⟩,
    ⟨.debug, 10025600000, words live [(0x300020, 1)],
      mapped_of rfl, by decide +kernel⟩,
    ⟨.debug, 11638400000, words live [(0x300020, 0x34), (0x300028, 0xb5b3e400), (0x30002C, 2)],
      mapped_of rfl, by decide +kernel⟩,
    ⟨.pf, armed .arming 1 1 1 0,
      mapped_of rfl, by decide +kernel⟩,
    ⟨.pf, armed .committed 1 1 1 0,
      mapped_of rfl, by decide +kernel⟩⟩

theorem witness_CommitArming :
    (∃ (u : Nat) (busy : Bool) (s : State),
      s.commit.state = .arming ∧ u < 27 ∧ s.commit.part.getLsbD u = true ∧ s.commit.armed.getLsbD u = false ∧ s.ntNs + 2000000 < s.commit.target ∧ Tab.get? s.commit.causes u ≠ some 5)
    ∧ (∃ (u : Nat) (busy : Bool) (s : State),
      s.commit.state = .arming ∧ u < 27 ∧ s.commit.part.getLsbD u = true ∧ s.commit.armed.getLsbD u = false ∧ s.ntNs + 2000000 < s.commit.target ∧ Tab.get? s.commit.causes u ≠ some 5)
    ∧ (∃ (s : State),
      s.commit.state = .arming ∧ s.ntValid = true ∧ s.commit.target ≤ s.ntNs + 2000000 ∧ s.commit.part &&& ~~~s.commit.armed = 0 ∧ s.stepArmedFor s.commit.target = false ∧ s.commit.kind ≠ .dormantEntry)
    ∧ (∃ (s : State),
      s.commit.state = .arming ∧ s.ntValid = true ∧ s.commit.target ≤ s.ntNs + 2000000 ∧ s.commit.part &&& ~~~s.commit.armed ≠ 0 ∧ s.commit.deferrals < 3 ∧ s.commit.kind ≠ .dormantEntry)
    ∧ (∃ (s : State),
      s.commit.state = .arming ∧ s.ntValid = true ∧ s.commit.target ≤ s.ntNs + 2000000 ∧ s.commit.part &&& ~~~s.commit.armed ≠ 0 ∧ s.commit.deferrals = 3 ∧ s.commit.kind = .host ∧ s.chains.all (fun e => e.2.heldPos.isNone) = true) :=
  ⟨⟨26, false, armed .arming 10102400000 0x4000001 1 0,
      by decide +kernel⟩,
    ⟨0, true, armed .arming 10007000001 0x4000001 0 0,
      by decide +kernel⟩,
    ⟨armed .arming 10007000000 0x4000001 0x4000001 0,
      by decide +kernel⟩,
    ⟨armed .arming 10006000000 0x4000001 0x0000001 2,
      by decide +kernel⟩,
    ⟨armed .arming 10006000000 0x4000001 0x0000001 3,
      by decide +kernel⟩⟩

theorem witness_StrobeAndCopy :
    (∃ (s : State),
      s.strobeDue = true)
    ∧ (∃ (s : State),
      s.strobeDue = true ∧ s.commit.kind = .dormantExit)
    ∧ (∃ (s : State),
      s.strobeDue = false)
    ∧ (∃ (s : State),
      s.commit.state = .copying ∧ s.chains.all (fun e => e.2.heldPos.isNone) = true)
    ∧ (∃ (s : State),
      s.ntValid = true ∧ s.realigning = false ∧ s.strobeDue = false ∧ s.grid.start ≠ some (s.gridBefore s.sfNs s.ntNs) ∧ s.stepArmedFor (s.gridBefore s.sfNs s.ntNs) = false ∧ s.time.stepPending = none ∧ s.time.reanchors = [] ∧ s.time.ntReanchorReady = none) :=
  ⟨⟨{ armed .committed 10005000000 0x2008001 0x2008001 0 with staged := [(0x3400008, 1600#32)] },
      by decide +kernel⟩,
    ⟨{ armed .committed 10005000000 0x2008001 0x2008001 0 with commit := { (armed .committed 10005000000 0x2008001 0x2008001 0).commit with kind := .dormantExit }, dormant := { seq := .exit 8 } },
      by decide +kernel⟩,
    ⟨armed .committed 10005000001 0x2008001 0x2008001 0,
      by decide +kernel⟩,
    ⟨{ armed .copying 10005000000 0x0008001 0x0008001 0 with staged := [(0x2000004, 3#32), (0x3400008, 1600#32), (0x3410008, 1601#32)] },
      by decide +kernel⟩,
    ⟨{ live with grid := { live.grid with start := some 9974400000 } },
      by decide +kernel⟩⟩

theorem witness_DormantEntry :
    (∃ (v : Word) (s : State),
      Mapped s .pf ∧ s.dormantRunning = false ∧ bitsOf v.toNat 3 1 ≠ 5 ∧ bitsOf v.toNat 3 1 ≠ 6 ∧ v.getLsbD 0 = true ∧ s.commit.state = .idle ∧ s.ntValid = true ∧ (v.getLsbD 4 = true → s.wakeMtOk = true) ∧ s.boot.state = .run)
    ∧ (∃ (v : Word) (s : State),
      Mapped s .pf ∧ s.dormantRunning = false ∧ bitsOf v.toNat 3 1 ≠ 5 ∧ bitsOf v.toNat 3 1 ≠ 6 ∧ v.getLsbD 0 = true ∧ s.commit.state = .idle ∧ (s.ntValid = false ∨ (v.getLsbD 4 = true ∧ s.wakeMtOk = false) ∨ s.boot.state ≠ .run))
    ∧ (∃ (v : Word) (s : State),
      Mapped s .pf ∧ s.dormantRunning = false ∧ bitsOf v.toNat 3 1 ≠ 5 ∧ bitsOf v.toNat 3 1 ≠ 6 ∧ v.getLsbD 0 = true ∧ s.commit.state = .idle ∧ (s.ntValid = false ∨ (v.getLsbD 4 = true ∧ s.wakeMtOk = false) ∨ s.boot.state ≠ .run))
    ∧ (∃ (v : Word) (s : State),
      Mapped s .pf ∧ s.dormantRunning = false ∧ bitsOf v.toNat 3 1 ≠ 5 ∧ bitsOf v.toNat 3 1 ≠ 6 ∧ v.getLsbD 0 = true ∧ s.commit.state = .idle ∧ (s.ntValid = false ∨ (v.getLsbD 4 = true ∧ s.wakeMtOk = false) ∨ s.boot.state ≠ .run))
    ∧ (∃ (v : Word) (s : State),
      Mapped s .pf ∧ s.dormantRunning = false ∧ bitsOf v.toNat 3 1 ≠ 5 ∧ bitsOf v.toNat 3 1 ≠ 6 ∧ v.getLsbD 0 = true ∧ s.commit.state ≠ .idle)
    ∧ (∃ (r : Requester) (v : Word) (s : State),
      Mapped s r ∧ (r ≠ .pf ∨ v.getLsbD 0 = false) ∧ s.dormantRunning = false ∧ bitsOf v.toNat 3 1 ≠ 5 ∧ bitsOf v.toNat 3 1 ≠ 6)
    ∧ (∃ (r : Requester) (v : Word) (s : State),
      Mapped s r ∧ (r ≠ .pf ∨ v.getLsbD 0 = false) ∧ s.dormantRunning = false ∧ bitsOf v.toNat 3 1 ≠ 5 ∧ bitsOf v.toNat 3 1 ≠ 6)
    ∧ (∃ (r : Requester) (v : Word) (s : State),
      Mapped s r ∧ (s.dormantRunning = true ∨ bitsOf v.toNat 3 1 = 5 ∨ bitsOf v.toNat 3 1 = 6))
    ∧ (∃ (r : Requester) (v : Word) (s : State),
      Mapped s r ∧ (s.dormantRunning = true ∨ bitsOf v.toNat 3 1 = 5 ∨ bitsOf v.toNat 3 1 = 6))
    ∧ (∃ (n : Nat) (s : State),
      s.dormant.seq = .entry n ∧ 1 ≤ n ∧ n ≤ 9 ∧ (n = 2 → s.dormant.boundary ≤ s.ntNs))
    ∧ (∃ (n : Nat) (s : State),
      s.dormant.seq = .entry n ∧ 1 ≤ n ∧ n ≤ 9 ∧ (n = 2 → s.dormant.boundary ≤ s.ntNs) ∧ n = 9)
    ∧ (∃ (n : Nat) (s : State),
      s.dormant.seq = .entry n ∧ 1 ≤ n ∧ n ≤ 9 ∧ (n = 2 → s.dormant.boundary ≤ s.ntNs) ∧ n = 2)
    ∧ (∃ (n : Nat) (s : State),
      s.dormant.seq = .entry n ∧ 1 ≤ n ∧ n ≤ 9 ∧ (n = 2 → s.dormant.boundary ≤ s.ntNs) ∧ n = 4)
    ∧ (∃ (n : Nat) (s : State),
      s.dormant.seq = .entry n ∧ 1 ≤ n ∧ n ≤ 9 ∧ (n = 2 → s.dormant.boundary ≤ s.ntNs) ∧ n = 5)
    ∧ (∃ (n : Nat) (s : State),
      s.dormant.seq = .entry n ∧ 1 ≤ n ∧ n ≤ 9 ∧ (n = 2 → s.dormant.boundary ≤ s.ntNs) ∧ n = 8)
    ∧ (∃ (s : State),
      s.dormant.seq = .entry 2 ∧ s.ntNs < s.dormant.boundary)
    ∧ (∃ (n : Nat) (s : State),
      s.dormant.seq = .entry n ∧ 10 ≤ n ∧ s.dormant.heldWake = none)
    ∧ (∃ (n : Nat) (c : Nat) (s : State),
      s.dormant.seq = .entry n ∧ 10 ≤ n ∧ s.dormant.heldWake = some c) :=
  ⟨⟨0x1FEF#32, live,
      mapped_of rfl, by decide +kernel⟩,
    ⟨0xF#32, { live with time := {} },
      mapped_of rfl, by decide +kernel⟩,
    ⟨0x1F#32, live,
      mapped_of rfl, by decide +kernel⟩,
    ⟨1#32, { live with boot := { live.boot with state := .hold } },
      mapped_of rfl, by decide +kernel⟩,
    ⟨1#32, { live with commit := { state := .arming } },
      mapped_of rfl, by decide +kernel⟩,
    ⟨.cpu, 0x1FF1#32, live,
      mapped_of rfl, by decide +kernel⟩,
    ⟨.pf, 8#32, live,
      mapped_of rfl, by decide +kernel⟩,
    ⟨.pf, 0#32, asleep .dormant,
      mapped_of rfl, by decide +kernel⟩,
    ⟨.pf, 0xB#32, live,
      mapped_of rfl, by decide +kernel⟩,
    ⟨1, asleep (.entry 1),
      by decide +kernel⟩,
    ⟨9, asleep (.entry 9),
      by decide +kernel⟩,
    ⟨2, asleep (.entry 2),
      by decide +kernel⟩,
    ⟨4, asleep (.entry 4),
      by decide +kernel⟩,
    ⟨5, asleep (.entry 5),
      by decide +kernel⟩,
    ⟨8, asleep (.entry 8),
      by decide +kernel⟩,
    ⟨{ live with dormant := { seq := .entry 2, boundary := 10005000001 } },
      by decide +kernel⟩,
    ⟨10, asleep (.entry 10),
      by decide +kernel⟩,
    ⟨10, 2, { live with dormant := { seq := .entry 10, heldWake := some 2 } },
      by decide +kernel⟩⟩

theorem witness_DormantExit :
    (∃ (s : State),
      s.dormant.seq = .dormant ∧ s.wakeable 1 = true ∧ notEarlier s.mt64.toNat (s.get64 0x300064) = true)
    ∧ (∃ (g : Nat) (level : Bool) (s : State),
      s.dormant.seq = .dormant ∧ s.wakeable 2 = true ∧ s.get ⟨0x300060, 12, 8⟩ = g ∧ s.flag ⟨0x300060, 7, 7⟩ = level)
    ∧ (∃ (n : Nat) (s : State),
      s.dormant.seq = .entry n ∧ s.wakeable 1 = true ∧ notEarlier s.mt64.toNat (s.get64 0x300064) = true)
    ∧ (∃ (n : Nat) (g : Nat) (level : Bool) (s : State),
      s.dormant.seq = .entry n ∧ s.wakeable 2 = true ∧ s.get ⟨0x300060, 12, 8⟩ = g ∧ s.flag ⟨0x300060, 7, 7⟩ = level)
    ∧ (∃ (s : State),
      (s.wakeable 1 = false ∨ notEarlier s.mt64.toNat (s.get64 0x300064) = false))
    ∧ (∃ (g : Nat) (level : Bool) (s : State),
      (s.wakeable 2 = false ∨ s.get ⟨0x300060, 12, 8⟩ ≠ g ∨ s.flag ⟨0x300060, 7, 7⟩ ≠ level))
    ∧ (∃ (g : Nat) (level : Bool) (s : State),
      (s.wakeable 2 = false ∨ s.get ⟨0x300060, 12, 8⟩ ≠ g ∨ s.flag ⟨0x300060, 7, 7⟩ ≠ level))
    ∧ (∃ (s : State),
      s.dormant.seq = .rampWait ∧ s.power.rampFrom + 60000 * s.power.railRamp ≤ s.elapsed)
    ∧ (∃ (tagOk : Bool) (s : State),
      s.dormant.seq = .exit 1 ∧ s.boot.rootReady = true)
    ∧ (∃ (tagOk : Bool) (s : State),
      s.dormant.seq = .exit 2 ∧ s.domainsUp = true)
    ∧ (∃ (tagOk : Bool) (s : State),
      s.dormant.seq = .exit 3 ∧ s.clocks.onRoot.length = 8)
    ∧ (∃ (tagOk : Bool) (s : State),
      s.dormant.seq = .exit 4 ∧ (∀ c, c < 4 → (s.dch c).selfRefresh = false))
    ∧ (∃ (tagOk : Bool) (s : State),
      s.dormant.seq = .exit 6)
    ∧ (∃ (tagOk : Bool) (s : State),
      (s.dormant.seq = .exit 8 ∨ (s.dormant.seq = .exit 1 ∧ s.boot.rootReady = false) ∨ (s.dormant.seq = .exit 2 ∧ s.domainsUp = false)))
    ∧ (∃ (tagOk : Bool) (s : State),
      (s.dormant.seq = .exit 8 ∨ (s.dormant.seq = .exit 1 ∧ s.boot.rootReady = false) ∨ (s.dormant.seq = .exit 2 ∧ s.domainsUp = false)))
    ∧ (∃ (tagOk : Bool) (s : State),
      (s.dormant.seq = .exit 8 ∨ (s.dormant.seq = .exit 1 ∧ s.boot.rootReady = false) ∨ (s.dormant.seq = .exit 2 ∧ s.domainsUp = false)))
    ∧ (∃ (tagOk : Bool) (s : State),
      s.dormant.seq = .exit 5 ∧ s.dormant.clocksSaved = 1)
    ∧ (∃ (tagOk : Bool) (s : State),
      s.dormant.seq = .exit 7)
    ∧ (∃ (tagOk : Bool) (s : State),
      s.dormant.seq = .exit 9) :=
  ⟨⟨words (asleep .dormant) [(0x300060, 0x10), (0x300064, 0x540BE400), (0x300068, 2)],
      by decide +kernel⟩,
    ⟨31, true, words (asleep .dormant) [(0x300060, 0x1FA0)],
      by decide +kernel⟩,
    ⟨2, words (asleep (.entry 2)) [(0x300060, 0x10), (0x300064, 0x540BE400), (0x300068, 2)],
      by decide +kernel⟩,
    ⟨9, 31, true, words (asleep (.entry 9)) [(0x300060, 0x1FA0)],
      by decide +kernel⟩,
    ⟨asleep .dormant,
      by decide +kernel⟩,
    ⟨30, true, words (asleep .dormant) [(0x300060, 0x1FA0)],
      by decide +kernel⟩,
    ⟨31, false, words (asleep .dormant) [(0x300060, 0x1FA0)],
      by decide +kernel⟩,
    ⟨{ asleep .rampWait with power := { live.power with rampFrom := 6999940000, railRamp := 1 } },
      by decide +kernel⟩,
    ⟨true, asleep (.exit 1),
      by decide +kernel⟩,
    ⟨true, asleep (.exit 2),
      by decide +kernel⟩,
    ⟨true, { live with dormant := { seq := .exit 3, bridge := some 6000000000 }, time := { live.time with state := .notStarted, frRuns := false } },
      by decide +kernel⟩,
    ⟨true, asleep (.exit 4),
      by decide +kernel⟩,
    ⟨true, asleep (.exit 6),
      by decide +kernel⟩,
    ⟨true, asleep (.exit 8),
      by decide +kernel⟩,
    ⟨true, { asleep (.exit 1) with boot := { live.boot with rootReady := false } },
      by decide +kernel⟩,
    ⟨true, { asleep (.exit 2) with power := { live.power with queue := [3] } },
      by decide +kernel⟩,
    ⟨true, { live with dormant := { seq := .exit 5, clocksSaved := 1 }, staged := [(0x3400008, 1600#32)] },
      by decide +kernel⟩,
    ⟨true, { live with dormant := { seq := .exit 7, entryMode := 0 } },
      by decide +kernel⟩,
    ⟨false, asleep (.exit 9),
      by decide +kernel⟩⟩

theorem witness_LinkEvents :
    (∃ (speed : Nat) (width : Nat) (s : State),
      s.host.linkUp = false ∧ s.mayTrain = true ∧ 1 ≤ speed ∧ speed ≤ 5 ∧ width ∈ [1, 2, 4, 8])
    ∧ (∃ (c : Instr) (s : State),
      ((c = .pciePerstAssert ∧ s.boot.state ≠ .reset ∧ s.boot.state ≠ .qualify) ∨ ((c = .pcieHotReset ∨ c = .pcieLinkLoss) ∧ s.host.linkUp = true)))
    ∧ (∃ (c : Instr) (s : State),
      ((c = .pciePerstAssert ∧ s.boot.state ≠ .reset ∧ s.boot.state ≠ .qualify) ∨ ((c = .pcieHotReset ∨ c = .pcieLinkLoss) ∧ s.host.linkUp = true)))
    ∧ (∃ (f : Nat) (s : State),
      f < 16 ∧ s.fnEnabled f = true ∧ Tab.get? s.host.eclipses f = none ∧ s.eclipseRefused f (.func f) = none)
    ∧ (∃ (f : Nat) (s : State),
      1 ≤ f ∧ f < 16 ∧ s.fnEnabled f = true ∧ Tab.get? s.host.eclipses f = none ∧ s.eclipseRefused f (.func f) ≠ none)
    ∧ (∃ (n : Nat) (s : State),
      s.host.linkUp = true ∧ s.boot.state ∉ [BootState.reset, .qualify, .load] ∧ s.host.vfEn = 0)
    ∧ (∃ (f : Nat) (reg : Nat) (s : State),
      s.host.linkUp = true ∧ s.boot.state ∉ [BootState.reset, .qualify, .load])
    ∧ (∃ (f : Nat) (reg : Nat) (s : State),
      s.host.linkUp = true ∧ s.boot.state ∉ [BootState.reset, .qualify, .load] ∧ f ≠ 0)
    ∧ (∃ (f : Nat) (d3 : Bool) (s : State),
      s.host.linkUp = true ∧ s.boot.state ∉ [BootState.reset, .qualify, .load] ∧ s.fnEnabled f = true ∧ d3 = true)
    ∧ (∃ (f : Nat) (d3 : Bool) (s : State),
      s.host.linkUp = true ∧ s.boot.state ∉ [BootState.reset, .qualify, .load] ∧ s.fnEnabled f = true)
    ∧ (∃ (q : ConfigReq) (s : State),
      s.host.linkUp = true ∧ s.boot.state ∈ [BootState.reset, .qualify, .load])
    ∧ (∃ (q : ConfigReq) (s : State),
      s.host.linkUp = false) :=
  ⟨⟨5, 8, { live with host := {} },
      by decide +kernel⟩,
    ⟨.pciePerstAssert, { live with host := {} },
      by decide +kernel⟩,
    ⟨.pcieLinkLoss, live,
      by decide +kernel⟩,
    ⟨0, live,
      by decide +kernel⟩,
    ⟨15, { words live [(0x30F0018, 0x10)] with host := { live.host with vfEn := 0x8000, cmds := [mkCmd 15 1 0x0610 []] }, units := [(47, { phase := .recovering })] },
      by decide +kernel⟩,
    ⟨16, words live [(0x3100004, 0x70000)],
      by decide +kernel⟩,
    ⟨0, 0, live,
      by decide +kernel⟩,
    ⟨1, 8, { live with host := { live.host with vfEn := 2 } },
      by decide +kernel⟩,
    ⟨0, true, live,
      by decide +kernel⟩,
    ⟨0, false, { live with host := { live.host with d3 := [0] } },
      by decide +kernel⟩,
    ⟨.sriov 1, { live with boot := { live.boot with state := .load } },
      by decide +kernel⟩,
    ⟨.read 0 0, { live with host := {} },
      by decide +kernel⟩⟩

theorem witness_Doorbells :
    (∃ (r : Requester) (f : Nat) (n : Nat) (v : Word) (s : State),
      f < 16 ∧ n < 16 ∧ (Mapped s r ∨ (r = .vf f ∧ s.boot.refReady = true)) ∧ s.gated 13 = false ∧ s.eclipsing f = false)
    ∧ (∃ (r : Requester) (f : Nat) (n : Nat) (v : Word) (s : State),
      f < 16 ∧ n < 16 ∧ (Mapped s r ∨ (r = .vf f ∧ s.boot.refReady = true)) ∧ s.gated 13 = false ∧ s.eclipsing f = false)
    ∧ (∃ (r : Requester) (f : Nat) (n : Nat) (k : Nat) (v : Word) (s : State),
      f < 16 ∧ n < 16 ∧ (Mapped s r ∨ (r = .vf f ∧ s.boot.refReady = true)) ∧ s.gated 13 = false ∧ s.eclipsing f = false ∧ s.headMove f 0 n (v.toNat % 4096) = some k)
    ∧ (∃ (r : Requester) (f : Nat) (n : Nat) (v : Word) (s : State),
      f < 16 ∧ n < 16 ∧ (Mapped s r ∨ (r = .vf f ∧ s.boot.refReady = true)) ∧ s.gated 13 = false ∧ s.eclipsing f = false ∧ s.headMove f 0 n (v.toNat % 4096) = none)
    ∧ (∃ (r : Requester) (f : Nat) (n : Nat) (v : Word) (s : State),
      f < 16 ∧ n < 16 ∧ (Mapped s r ∨ (r = .vf f ∧ s.boot.refReady = true)) ∧ s.gated 13 = false ∧ s.eclipsing f = false ∧ s.headMove f 1 n (v.toNat % 4096) = none)
    ∧ (∃ (r : Requester) (f : Nat) (v : Word) (s : State),
      f < 16 ∧ (Mapped s r ∨ (r = .vf f ∧ s.boot.refReady = true)) ∧ s.gated 13 = false ∧ s.headMove f 2 0 (v.toNat % 4096) = none)
    ∧ (∃ (r : Requester) (f : Nat) (n : Nat) (v : Word) (addrs : List NT64) (s : State),
      f < 16 ∧ n < 16 ∧ (Mapped s r ∨ (r = .vf f ∧ s.boot.refReady = true)) ∧ s.gated 13 = false ∧ s.eclipsing f = false ∧ s.ringDepth f 1 n ≤ v.toNat % 4096)
    ∧ (∃ (f : Nat) (kind : Nat) (n : Nat) (v : Nat) (s : State),
      s.ringDepth f kind n ≤ v)
    ∧ (∃ (r : Requester) (f : Nat) (n : Nat) (k : Nat) (v : Word) (s : State),
      f < 16 ∧ n < 16 ∧ (Mapped s r ∨ (r = .vf f ∧ s.boot.refReady = true)) ∧ s.gated 13 = false ∧ s.eclipsing f = false ∧ s.headMove f 1 n (v.toNat % 4096) = some k)
    ∧ (∃ (r : Requester) (f : Nat) (n : Nat) (v : Word) (addrs : List NT64) (s : State),
      f < 16 ∧ n < 16 ∧ (Mapped s r ∨ (r = .vf f ∧ s.boot.refReady = true)) ∧ s.gated 13 = false ∧ s.eclipsing f = false ∧ v.toNat % 4096 < s.ringDepth f 1 n ∧ addrs.length = (v.toNat % 4096 + s.ringDepth f 1 n - Tab.getD s.host.bqTail (ringKey f 1 n) 0 % s.ringDepth f 1 n) % s.ringDepth f 1 n)
    ∧ (∃ (r : Requester) (f : Nat) (k : Nat) (v : Word) (s : State),
      f < 16 ∧ (Mapped s r ∨ (r = .vf f ∧ s.boot.refReady = true)) ∧ s.gated 13 = false ∧ s.headMove f 2 0 (v.toNat % 4096) = some k)
    ∧ (∃ (r : Requester) (f : Nat) (n : Nat) (v : Word) (addrs : List NT64) (s : State),
      f < 16 ∧ n < 16 ∧ (Mapped s r ∨ (r = .vf f ∧ s.boot.refReady = true)) ∧ s.gated 13 = false ∧ s.eclipsing f = true)
    ∧ (∃ (s : State) (f : Nat) (n : Nat) (v : Word),
      f < 16 ∧ n < 16 ∧ s.boot.refReady = true ∧ s.gated 13 = false ∧ s.ringOn f 0 n = false ∧ v.getLsbD 4 = true ∧ bitsOf v.toNat 3 0 ≤ 8 ∧ bitsOf v.toNat 15 8 < 16) :=
  ⟨⟨.vf 15, 15, 15, 16#32, live,
      by decide +kernel, by decide +kernel, Or.inr ⟨rfl, rfl⟩, by decide +kernel⟩,
    ⟨.pf, 15, 15, 15#32, live,
      by decide +kernel, by decide +kernel, Or.inl (mapped_of rfl), by decide +kernel⟩,
    ⟨.pf, 0, 0, 15, 15#32, { live with host := { live.host with cmds := [{ mkCmd 0 1 0x0110 [] with stage := .completed, cqe := some 3 }, mkCmd 0 2 0x0110 []], rings := [(0, { tail := 15, used := 15, fresh := 15 })] } },
      by decide +kernel, by decide +kernel, Or.inl (mapped_of rfl), by decide +kernel⟩,
    ⟨.pf, 0, 0, 16#32, live,
      by decide +kernel, by decide +kernel, Or.inl (mapped_of rfl), by decide +kernel⟩,
    ⟨.pf, 0, 15, 16#32, live,
      by decide +kernel, by decide +kernel, Or.inl (mapped_of rfl), by decide +kernel⟩,
    ⟨.vf 15, 15, 1#32, live,
      by decide +kernel, Or.inr ⟨rfl, rfl⟩, by decide +kernel⟩,
    ⟨.pf, 15, 0, 16#32, [], words live [(ringCfg 15 1 0, 0)],
      by decide +kernel, by decide +kernel, Or.inl (mapped_of rfl), by decide +kernel⟩,
    ⟨0, 2, 0, 16, words live [(ringCfg 0 2 0, 0)],
      by decide +kernel⟩,
    ⟨.vf 1, 1, 15, 1, 1#32, { live with host := { live.host with rings := [(95, { tail := 1, used := 1, fresh := 1 })] } },
      by decide +kernel, by decide +kernel, Or.inr ⟨rfl, rfl⟩, by decide +kernel⟩,
    ⟨.pf, 0, 0, 2#32, [64, 128], live,
      by decide +kernel, by decide +kernel, Or.inl (mapped_of rfl), by decide +kernel⟩,
    ⟨.pf, 0, 1, 1#32, { words live [(0x3000018, 0x12)] with host := { live.host with rings := [(32, { tail := 1, used := 1, fresh := 1 })], ev := [(0, { lost := 2 })] } },
      by decide +kernel, Or.inl (mapped_of rfl), by decide +kernel⟩,
    ⟨.vf 1, 1, 3, 9#32, [], { live with host := { live.host with eclipses := [(1, ⟨none, 0, [], false⟩)] } },
      by decide +kernel, by decide +kernel, Or.inr ⟨rfl, rfl⟩, by decide +kernel⟩,
    ⟨{ live with host := { live.host with rings := [(975, { tail := 5, used := 4, phase := false })] } }, 15, 15, 0xFFFF0F18#32,
      by decide +kernel⟩⟩

theorem witness_CommandFlow :
    (∃ (f : Nat) (n : Nat) (d : List Byte) (s : State),
      s.turnFn = some f ∧ s.turnSq f = some n ∧ opcodes.contains (fieldLE d 0 2) = true ∧ s.host.cmds.any (fun c => c.fn == f && c.tag == fieldLE d 2 2 && !c.dup) = false ∧ s.dormant.seq = .none)
    ∧ (∃ (f : Nat) (n : Nat) (d : List Byte) (s : State),
      s.turnFn = some f ∧ s.turnSq f = some n ∧ opcodes.contains (fieldLE d 0 2) = false)
    ∧ (∃ (f : Nat) (n : Nat) (d : List Byte) (s : State),
      s.turnFn = some f ∧ s.turnSq f = some n ∧ opcodes.contains (fieldLE d 0 2) = true ∧ s.host.cmds.any (fun c => c.fn == f && c.tag == fieldLE d 2 2 && !c.dup) = true)
    ∧ (∃ (f : Nat) (n : Nat) (s : State),
      s.turnFn = some f ∧ s.turnSq f = some n)
    ∧ (∃ (f : Nat) (n : Nat) (d : HostData) (s : State),
      s.turnFn ≠ some f)
    ∧ (∃ (f : Nat) (tag : Nat) (c : Cmd) (i : Instr) (s : State),
      s.cmd? f tag = some c ∧ c.stage = .fetched ∧ c.readsHost = true ∧ (c.opcode, i) ∈ [(0x0111, Instr.almSlotWrite f tag none), (0x0610, .macTx f tag none 0), (0x0810, .nwTx f tag none), (0x0910, .pktRuleWrite f tag none), (0x0916, .pktTunnelWrite f tag none), (0x0A01, .cphKeyWrite f tag none), (0x0B10, .tskSubmit f tag none), (0x0B11, .tskInject f tag none)])
    ∧ (∃ (f : Nat) (tag : Nat) (c : Cmd) (i : Instr) (s : State),
      s.cmd? f tag = some c ∧ c.stage = .fetched ∧ c.readsHost = true ∧ (c.opcode, i) ∈ [(0x0111, Instr.almSlotWrite f tag none), (0x0610, .macTx f tag none 0), (0x0810, .nwTx f tag none), (0x0910, .pktRuleWrite f tag none), (0x0916, .pktTunnelWrite f tag none), (0x0A01, .cphKeyWrite f tag none), (0x0B10, .tskSubmit f tag none), (0x0B11, .tskInject f tag none)])
    ∧ (∃ (f : Nat) (tag : Nat) (c : Cmd) (s : State),
      Offered s f tag 0x0B10 c ∧ c.le 24 4 ≠ 0 ∧ s.mayTenant f (c.b 19) true = true ∧ s.gated 12 = false ∧ c.b 16 < 64 ∧ c.b 17 < 8 ∧ c.b 18 < 2 ∧ (c.b 19 < 16 ∨ c.b 19 = 0xFF) ∧ c.le 24 4 ≤ 8192 ∧ c.reservedOk [(16, 6), (24, 4), (32, 8)] = true ∧ s.qOn (c.b 16) = true)
    ∧ (∃ (f : Nat) (kind : Nat) (n : Nat) (s : State),
      f < 16 ∧ n < 16 ∧ kind ≤ 2 ∧ (s.ring (ringKey f kind n)).fresh ≠ 0 ∧ s.get ⟨ringCfg f kind n, 31, 24⟩ ≠ 0 ∧ (s.ring (ringKey f kind n)).since + us (s.get ⟨ringCfg f kind n, 31, 24⟩) ≤ s.elapsed ∧ s.ringOn f kind n = true ∧ s.vecMasked f (s.get ⟨ringCfg f kind n, 15, 8⟩) = true)
    ∧ (∃ (f : Nat) (kind : Nat) (n : Nat) (s : State),
      f < 16 ∧ n < 16 ∧ kind ≤ 2 ∧ (s.ring (ringKey f kind n)).fresh ≠ 0 ∧ s.get ⟨ringCfg f kind n, 31, 24⟩ ≠ 0 ∧ (s.ring (ringKey f kind n)).since + us (s.get ⟨ringCfg f kind n, 31, 24⟩) ≤ s.elapsed ∧ s.ringOn f kind n = true ∧ s.vecMasked f (s.get ⟨ringCfg f kind n, 15, 8⟩) = false)
    ∧ (∃ (f : Nat) (v : Nat) (s : State),
      f < 16 ∧ v < vecCount f ∧ s.fnEnabled f = true ∧ s.boot.refReady = true ∧ s.gated 13 = false ∧ (f, v) ∈ s.host.msixPend) :=
  ⟨⟨0, 0, desc 0x0110 7 [(4, 1, 3)], words live [(0x3000108, 0x10010), (0x300010C, 1), (0x3000408, 0x10)],
      by decide +kernel⟩,
    ⟨0, 0, desc 0x0115 7 [], words live [(0x3000108, 0x10010), (0x300010C, 1), (0x3000408, 0x10)],
      by decide +kernel⟩,
    ⟨0, 0, desc 0x0110 7 [], offer (words live [(0x3000108, 0x10010), (0x300010C, 1), (0x3000408, 0x10)]) (mkCmd 0 7 0x0114 []),
      by decide +kernel⟩,
    ⟨0, 0, words live [(0x3000108, 0x10010), (0x300010C, 1), (0x3000408, 0x10)],
      by decide +kernel⟩,
    ⟨0, 0, none, live,
      by decide +kernel⟩,
    ⟨0, 7, mkCmd 0 7 0x0910 [], .pktRuleWrite 0 7 none, offer live (mkCmd 0 7 0x0910 []),
      by decide +kernel⟩,
    ⟨0, 7, mkCmd 0 7 0x0A01 [], .cphKeyWrite 0 7 none, offer live (mkCmd 0 7 0x0A01 []),
      by decide +kernel⟩,
    ⟨0, 7, mkCmd 0 7 0x0B10 [(24, 4, 8192)], words (offer live (mkCmd 0 7 0x0B10 [(24, 4, 8192)])) [(tskQ 0, 1)],
      offered_of (by decide +kernel), by decide +kernel⟩,
    ⟨15, 2, 0, { words live [(0x30F0018, 0x01020310)] with host := { live.host with rings := [(992, { fresh := 1, used := 1, tail := 1, since := 6999999400 })] } },
      by decide +kernel⟩,
    ⟨15, 2, 0, { words live [(0x30F0018, 0x01020310)] with host := { live.host with rings := [(992, { fresh := 1, used := 1, tail := 1, since := 6999999400 })], msixTab := [(983100, 0)] } },
      by decide +kernel⟩,
    ⟨0, 0, { live with host := { live.host with msixTab := [(3, 1)], msixPend := [(0, 0)] } },
      by decide +kernel⟩⟩

theorem witness_Eclipses :
    (∃ (fn : Nat) (tag : Nat) (c : Cmd) (s : State),
      Offered s fn tag 0x0B01 c ∧ c.b 16 = 0 ∧ c.b 17 < 16 ∧ s.fnEnabled (c.b 17) = true ∧ (fn = 0 ∨ c.b 17 = fn) ∧ s.gated 13 = false ∧ c.reservedOk [(16, 2)] = true ∧ s.eclipseRefused (c.b 17) (.func (c.b 17)) = none)
    ∧ (∃ (fn : Nat) (tag : Nat) (st : Nat) (c : Cmd) (s : State),
      Offered s fn tag 0x0B01 c ∧ c.b 16 = 0 ∧ c.b 17 < 16 ∧ s.fnEnabled (c.b 17) = true ∧ (fn = 0 ∨ c.b 17 = fn) ∧ s.gated 13 = false ∧ c.reservedOk [(16, 2)] = true ∧ s.eclipseRefused (c.b 17) (.func (c.b 17)) = some st)
    ∧ (∃ (fn : Nat) (tag : Nat) (st : Nat) (c : Cmd) (s : State),
      Offered s fn tag 0x0B01 c ∧ c.b 16 = 0 ∧ c.b 17 < 16 ∧ s.fnEnabled (c.b 17) = true ∧ (fn = 0 ∨ c.b 17 = fn) ∧ s.gated 13 = false ∧ c.reservedOk [(16, 2)] = true ∧ s.eclipseRefused (c.b 17) (.func (c.b 17)) = some st)
    ∧ (∃ (tag : Nat) (c : Cmd) (s : State),
      Offered s 0 tag 0x0B01 c ∧ c.b 16 = 1 ∧ c.b 17 ≤ 2 ∧ s.gated 13 = false ∧ c.reservedOk [(16, 2)] = true ∧ s.eclipseRefused (16 + c.b 17) (.radio (c.b 17)) = none)
    ∧ (∃ (r : Requester) (f : Nat) (s : State),
      f < 16 ∧ (Mapped s r ∨ (r = .vf f ∧ s.boot.refReady = true)) ∧ s.gated 13 = false ∧ s.eclipseRefused f (.func f) = none)
    ∧ (∃ (r : Requester) (f : Nat) (st : Nat) (s : State),
      f < 16 ∧ (Mapped s r ∨ (r = .vf f ∧ s.boot.refReady = true)) ∧ s.gated 13 = false ∧ s.eclipseRefused f (.func f) = some st)
    ∧ (∃ (r : Requester) (f : Nat) (s : State),
      f < 16 ∧ (Mapped s r ∨ (r = .vf f ∧ s.boot.refReady = true)) ∧ s.gated 13 = false)
    ∧ (∃ (f : Nat) (e : Eclipse) (s : State),
      f < 16 ∧ Tab.get? s.host.eclipses f = some e ∧ e.flr = false)
    ∧ (∃ (f : Nat) (e : Eclipse) (u : State) (s : State),
      f < 16 ∧ Tab.get? s.host.eclipses f = some e ∧ e.flr = false ∧ (u = (match e.issuer with | some (fn, tag) => (s.eclipseRecord 0 f e.discarded e.tags).complete fn tag 0 e.discarded | none => (s.eclipseRecord 0 f e.discarded e.tags).put ⟨hqBase f + 4, 15, 8⟩ 0)))
    ∧ (∃ (r : Nat) (e : Eclipse) (fn : Nat) (tag : Nat) (s : State),
      r ≤ 2 ∧ Tab.get? s.host.eclipses (16 + r) = some e ∧ e.issuer = some (fn, tag))
    ∧ (∃ (radio : Bool) (i : Nat) (s : State),
      (Tab.get? s.host.eclipses (if radio = true then 16 + i else i) = none)) :=
  ⟨⟨0, 7, mkCmd 0 7 0x0B01 [(17, 1, 15)], { offer live (mkCmd 0 7 0x0B01 [(17, 1, 15)]) with host := { live.host with vfEn := 0x8000, cmds := [mkCmd 15 1 0x0610 [], mkCmd 0 7 0x0B01 [(17, 1, 15)]] } },
      offered_of (by decide +kernel), by decide +kernel⟩,
    ⟨1, 7, 0x71, mkCmd 1 7 0x0B01 [(17, 1, 1)], { live with host := { live.host with vfEn := 2, cmds := [mkCmd 1 7 0x0B01 [(17, 1, 1)]], eclipses := [(1, ⟨none, 0, [], false⟩)] } },
      offered_of (by decide +kernel), by decide +kernel⟩,
    ⟨0, 7, 3, mkCmd 0 7 0x0B01 [(17, 1, 1)], { live with host := { live.host with vfEn := 2, cmds := [mkCmd 0 7 0x0B01 [(17, 1, 1)]] }, units := [(33, { phase := .recovering })] },
      offered_of (by decide +kernel), by decide +kernel⟩,
    ⟨7, mkCmd 0 7 0x0B01 [(16, 1, 1), (17, 1, 2)], { offer live (mkCmd 0 7 0x0B01 [(16, 1, 1), (17, 1, 2)]) with radios := [(2, { launches := [⟨.beacon 0, 10006000000, 5, [0], false, none, {}⟩] })] },
      offered_of (by decide +kernel), by decide +kernel⟩,
    ⟨.vf 15, 15, { live with host := { live.host with vfEn := 0x8000, cmds := [mkCmd 15 1 0x0610 []] } },
      by decide +kernel, Or.inr ⟨rfl, rfl⟩, by decide +kernel⟩,
    ⟨.pf, 0, 3, { live with units := [(32, { held := some (none, 1) })] },
      by decide +kernel, Or.inl (mapped_of rfl), by decide +kernel⟩,
    ⟨.pf, 15, { live with host := { live.host with faulted := [15, 0] } },
      by decide +kernel, Or.inl (mapped_of rfl), by decide +kernel⟩,
    ⟨0, ⟨none, 3, [(0, 1, 2)], false⟩, { words live [(0x3000108, 0x10010), (0x3000408, 0x10), (0x3000810, 0x12)] with host := { live.host with eclipses := [(0, ⟨none, 3, [(0, 1, 2)], false⟩)] } },
      by decide +kernel⟩,
    ⟨0, ⟨none, 3, [(0, 1, 2)], false⟩, ({ words live [(0x3000108, 0x10010)] with host := { live.host with eclipses := [(0, ⟨none, 3, [(0, 1, 2)], false⟩)] } } : State).eclipseRecord 0 0 3 [(0, 1, 2)] |>.put ⟨hqBase 0 + 4, 15, 8⟩ 0, { words live [(0x3000108, 0x10010)] with host := { live.host with eclipses := [(0, ⟨none, 3, [(0, 1, 2)], false⟩)] } },
      by decide +kernel⟩,
    ⟨2, ⟨some (0, 7), 3, [(0, 1, 2)], false⟩, 0, 7, { live with host := { live.host with cmds := [mkCmd 0 7 0x0B01 []], eclipses := [(18, ⟨some (0, 7), 3, [(0, 1, 2)], false⟩)] } },
      by decide +kernel⟩,
    ⟨true, 0, live,
      by decide +kernel⟩⟩

theorem witness_TaskConsumers :
    (∃ (c : Nat) (idx : Nat) (i : Item) (s : State),
      c < 80 ∧ s.stopped 12 = false ∧ s.bestItem c = some (idx, i) ∧ s.mayTake c i.payload = true ∧ Tab.get? s.tasks.items idx = some i ∧ Tab.sorted s.tasks.items = true ∧ (i.atomic && i.mac.isNone) = false)
    ∧ (∃ (c : Nat) (idx : Nat) (i : Item) (s : State),
      c < 80 ∧ s.stopped 12 = false ∧ s.bestItem c = some (idx, i) ∧ s.mayTake c i.payload = true ∧ Tab.get? s.tasks.items idx = some i ∧ Tab.sorted s.tasks.items = true ∧ (i.atomic && i.mac.isNone) = true)
    ∧ (∃ (c : Nat) (idx : Nat) (i : Item) (s : State),
      c < 80 ∧ s.stopped 12 = false ∧ s.bestItem c = some (idx, i) ∧ s.mayTake c i.payload = true ∧ Tab.get? s.tasks.items idx = some i ∧ Tab.sorted s.tasks.items = true ∧ 16 ≤ c)
    ∧ (∃ (c : Nat) (s : State),
      s.bestItem c = none)
    ∧ (∃ (r : Requester) (f : Nat) (w : Nat) (v : Word) (s : State),
      f < 16 ∧ w < 64 ∧ (Mapped s r ∨ (r = .vf f ∧ s.boot.refReady = true)) ∧ s.gated 13 = false ∧ bitOf v.toNat 12 = false ∧ s.wkBound f w = true ∧ (s.askOf (16 + w)).pending + v.toNat % 4096 ≤ 4095)
    ∧ (∃ (r : Requester) (f : Nat) (w : Nat) (v : Word) (s : State),
      f < 16 ∧ w < 64 ∧ (Mapped s r ∨ (r = .vf f ∧ s.boot.refReady = true)) ∧ s.gated 13 = false ∧ bitOf v.toNat 12 = true ∧ s.wkBound f w = true)
    ∧ (∃ (r : Requester) (f : Nat) (w : Nat) (v : Word) (i : Item) (from_ : Nat) (s : State),
      f < 16 ∧ w < 64 ∧ (Mapped s r ∨ (r = .vf f ∧ s.boot.refReady = true)) ∧ s.gated 13 = false ∧ s.wkBound f w = true ∧ Tab.get? s.tasks.items (v.toNat % 2 ^ 18) = some i ∧ i.gen % 2 ^ 14 = v.toNat / 2 ^ 18 ∧ i.holder = some (16 + w, from_))
    ∧ (∃ (r : Requester) (f : Nat) (w : Nat) (v : Word) (s : State),
      f < 16 ∧ w < 64 ∧ (Mapped s r ∨ (r = .vf f ∧ s.boot.refReady = true)) ∧ s.gated 13 = false ∧ s.wkBound f w = true ∧ (∀ i from_, Tab.get? s.tasks.items (v.toNat % 2 ^ 18) = some i → i.gen % 2 ^ 14 = v.toNat / 2 ^ 18 → i.holder ≠ some (16 + w, from_)))
    ∧ (∃ (idx : Nat) (c : Nat) (from_ : Nat) (i : Item) (s : State),
      Tab.get? s.tasks.items idx = some i ∧ i.holder = some (c, from_) ∧ from_ + ms (s.get ⟨0x2C00008, 13, 0⟩) ≤ s.elapsed)
    ∧ (∃ (idx : Nat) (i : Item) (s : State),
      Tab.get? s.tasks.items idx = some i ∧ i.holder = none ∧ s.get ⟨tskQ i.queue + 0x10, 15, 0⟩ ≠ 0 ∧ ms (s.get ⟨tskQ i.queue + 0x10, 15, 0⟩) ≤ s.waitOf i)
    ∧ (∃ (w : Nat) (s : State),
      w < 64 ∧ (s.askOf (16 + w)).pending ≠ 0 ∧ (s.askOf (16 + w)).since + ms (s.askWait w) ≤ s.elapsed) :=
  ⟨⟨15, 5, item, queued [(5, item)],
      by decide +kernel⟩,
    ⟨0, 5, { item with atomic := true }, queued [(5, { item with atomic := true }), (6, item)],
      by decide +kernel⟩,
    ⟨16, 5, item, { words (queued [(5, item)]) [(0x3000810, 0x12)] with tasks := { items := [(5, item)], credits := [(16, { pending := 2 })] }, host := { live.host with buffers := [(16, [(0, 64), (1, 128)])] } },
      by decide +kernel⟩,
    ⟨79, queued [(5, item)],
      by decide +kernel⟩,
    ⟨.pf, 0, 0, 3#32, { queued [] with tasks := { credits := [(16, { pending := 4092 })] } },
      by decide +kernel, by decide +kernel, Or.inl (mapped_of rfl), by decide +kernel⟩,
    ⟨.vf 0, 0, 0, 0x1000#32, { queued [] with tasks := { credits := [(16, { pending := 4092 })] } },
      by decide +kernel, by decide +kernel, Or.inr ⟨rfl, rfl⟩, by decide +kernel⟩,
    ⟨.pf, 0, 0, BitVec.ofNat 32 (2 * 2 ^ 18 + 5), { item with atomic := true, holder := some (16, 0) }, 0, queued [(5, { item with atomic := true, holder := some (16, 0) })],
      by decide +kernel, by decide +kernel, Or.inl (mapped_of rfl), by decide +kernel⟩,
    ⟨.pf, 0, 0, 5#32, queued [],
      by decide +kernel, by decide +kernel, Or.inl (mapped_of rfl), by decide +kernel, by decide +kernel, fun _ _ h _ => by cases (show (none : Option Item) = some _ from h)⟩,
    ⟨5, 0, 7000000000 - 600000000, { item with atomic := true, holder := some (0, 7000000000 - 600000000) }, queued [(5, { item with atomic := true, holder := some (0, 7000000000 - 600000000) })],
      by decide +kernel⟩,
    ⟨5, item, words (queued [(5, item)]) [(0x2C00110, 1)],
      by decide +kernel⟩,
    ⟨0, { queued [] with tasks := { credits := [(16, { pending := 1, since := 6999400000 })] } },
      by decide +kernel⟩⟩

theorem witness_TaskCommands :
    (∃ (fn : Nat) (tag : Nat) (c : Cmd) (b : List Byte) (s : State),
      Offered s fn tag 0x0B10 c ∧ s.mayTenant fn (c.b 19) true = true ∧ s.gated 12 = false ∧ c.b 16 < 64 ∧ c.b 17 < 8 ∧ c.b 18 < 2 ∧ (c.b 19 < 16 ∨ c.b 19 = 0xFF) ∧ c.le 24 4 ≤ 8192 ∧ c.reservedOk [(16, 6), (24, 4), (32, 8)] = true ∧ s.qOn (c.b 16) = true ∧ s.tskRoom (c.b 16) = true ∧ Tab.freeKey s.tasks.items 262144 ≠ none ∧ c.b 18 = 1)
    ∧ (∃ (fn : Nat) (tag : Nat) (c : Cmd) (b : HostData) (s : State),
      Offered s fn tag 0x0B10 c ∧ s.mayTenant fn (c.b 19) true = true ∧ s.gated 12 = false ∧ c.b 16 < 64 ∧ c.b 17 < 8 ∧ c.b 18 < 2 ∧ (c.b 19 < 16 ∨ c.b 19 = 0xFF) ∧ c.le 24 4 ≤ 8192 ∧ c.reservedOk [(16, 6), (24, 4), (32, 8)] = true ∧ s.qOn (c.b 16) = false)
    ∧ (∃ (fn : Nat) (tag : Nat) (c : Cmd) (b : List Byte) (s : State),
      Offered s fn tag 0x0B11 c ∧ s.mayTenant fn (c.b 16) false = true ∧ s.gated 10 = false ∧ c.b 16 < 16 ∧ 60 ≤ c.le 18 2 ∧ c.le 18 2 ≤ 9212 ∧ c.reservedOk [(16, 1), (18, 2), (24, 8)] = true ∧ s.unitStatus .pkt = none ∧ s.inService .pkt = true ∧ (Tab.getD s.fifos 0x1C []).length < 256)
    ∧ (∃ (fn : Nat) (tag : Nat) (c : Cmd) (b : List Byte) (s : State),
      Offered s fn tag 0x0B11 c ∧ s.mayTenant fn (c.b 16) false = true ∧ s.gated 10 = false ∧ c.b 16 < 16 ∧ 60 ≤ c.le 18 2 ∧ c.le 18 2 ≤ 9212 ∧ c.reservedOk [(16, 1), (18, 2), (24, 8)] = true ∧ s.unitStatus .pkt = none ∧ s.inService .pkt = true ∧ (Tab.getD s.fifos 0x1C []).length < 256)
    ∧ (∃ (fn : Nat) (tag : Nat) (c : Cmd) (b : List Byte) (s : State),
      Offered s fn tag 0x0B11 c ∧ s.mayTenant fn (c.b 16) false = true ∧ s.gated 10 = false ∧ c.b 16 < 16 ∧ 60 ≤ c.le 18 2 ∧ c.le 18 2 ≤ 9212 ∧ c.reservedOk [(16, 1), (18, 2), (24, 8)] = true ∧ s.unitStatus .pkt = none ∧ s.inService .pkt = true ∧ 256 ≤ (Tab.getD s.fifos 0x1C []).length) :=
  ⟨⟨0, 7, mkCmd 0 7 0x0B10 [(17, 1, 7), (18, 1, 1), (19, 1, 255), (24, 4, 3), (32, 8, 64)], [1, 2, 3], offer (queued []) (mkCmd 0 7 0x0B10 [(17, 1, 7), (18, 1, 1), (19, 1, 255), (24, 4, 3), (32, 8, 64)]),
      offered_of (by decide +kernel), by decide +kernel⟩,
    ⟨0, 7, mkCmd 0 7 0x0B10 [(16, 1, 63), (19, 1, 255)], none, offer (queued []) (mkCmd 0 7 0x0B10 [(16, 1, 63), (19, 1, 255)]),
      offered_of (by decide +kernel), by decide +kernel⟩,
    ⟨0, 7, mkCmd 0 7 0x0B11 [(18, 2, 60), (24, 8, 64)], List.replicate 60 1, offer live (mkCmd 0 7 0x0B11 [(18, 2, 60), (24, 8, 64)]),
      offered_of (by decide +kernel), by decide +kernel⟩,
    ⟨0, 7, mkCmd 0 7 0x0B11 [(18, 2, 9212), (24, 8, 64)], [], offer live (mkCmd 0 7 0x0B11 [(18, 2, 9212), (24, 8, 64)]),
      offered_of (by decide +kernel), by decide +kernel⟩,
    ⟨0, 7, mkCmd 0 7 0x0B11 [(18, 2, 60), (24, 8, 64)], [], { offer live (mkCmd 0 7 0x0B11 [(18, 2, 60), (24, 8, 64)]) with fifos := [(0x1C, List.replicate 256 { bytes := [] })] },
      offered_of (by decide +kernel), by decide +kernel⟩⟩

theorem witness_FrontEndChains :
    (∃ (i : Nat) (v : Nat) (s : State),
      i < 160 ∧ (s.chain i).state = .tx ∧ (s.chain i).blocked = false ∧ s.get ⟨feBase (chainOf i).1 + 4, 15, 8⟩ ≤ v)
    ∧ (∃ (q : Requester) (r : Nat) (hi : Bool) (v : Word) (s : State),
      r < 3 ∧ (hi = true → r ≠ 0) ∧ Mapped s q ∧ s.gated r = false)
    ∧ (∃ (q : Requester) (r : Nat) (hi : Bool) (v : Word) (s : State),
      r < 3 ∧ (hi = true → r ≠ 0) ∧ Mapped s q ∧ s.gated r = false)
    ∧ (∃ (r : Nat) (g : Nat) (k : Nat) (s : State),
      k ≠ (s.syn r g).active)
    ∧ (∃ (r : Nat) (g : Nat) (k : Nat) (s : State),
      k = (s.syn r g).active)
    ∧ (∃ (r : Nat) (g : Nat) (s : State),
      (s.syn r g).locked = true)
    ∧ (∃ (k : Nat) (r : Nat) (b : Nat) (n : Nat) (s : State),
      s.bind k = some (r, b, n) ∧ (s.syn r (2 + k)).heard + us 100 ≤ s.elapsed)
    ∧ (∃ (r : Nat) (s : State),
      s.inService (.radio r) = true)
    ∧ (∃ (r : Nat) (kind : Nat) (c : Nat) (s : State),
      kind < 5 ∧ c < s.chainCount r ∧ (s.radio r).cal = none ∧ s.onAir r = none ∧ (∀ x, s.nextBusy r = some x → s.ntNs + 4600 ≤ x ∧ (s.radio r).gapFrom + 12000 ≤ x) ∧ (s.chain (chainBase r + c)).powered = true ∧ (s.chain (chainBase r + c)).state = .standby ∧ (s.radio r).rx.state = .search)
    ∧ (∃ (r : Nat) (k : CalRun) (res : CalResult) (s : State),
      (s.radio r).cal = some k ∧ k.kind < 4)
    ∧ (∃ (r : Nat) (ref : Nat) (a : List Nat) (b : List Nat) (k : CalRun) (res : CalResult) (s : State),
      (s.radio r).cal = some k ∧ k.kind = 5 ∧ (s.radio r).ref = some ref ∧ ref ∈ s.chainSet r ∧ (s.chain (chainBase r + ref)).blocked = false ∧ ref < 64 ∧ k.chain < 64 ∧ k.chain ≠ ref ∧ (∀ x ∈ res.good, x < 64) ∧ (res.good.zip res.h).filter (fun e => e.1 == ref) = [(ref, a)] ∧ Tab.get? (s.radio r).probes (ref * 64 + k.chain) = some b)
    ∧ (∃ (r : Nat) (k : CalRun) (res : CalResult) (s : State),
      (s.radio r).cal = some k ∧ k.kind = 4)
    ∧ (∃ (i : Nat) (at_ : Nat) (s : State),
      (s.chain i).serving = true ∧ (s.chain i).coefAt = some at_ ∧ at_ + ms 2000 < s.elapsed ∧ (s.chain i).pending = false ∧ (s.chain i).stale = false) :=
  ⟨⟨0, 16, { words aired [(0x1000004, 0x1037)] with chains := [(0, { powered := true, state := .tx })] },
      by decide +kernel⟩,
    ⟨.pf, 2, true, 0x80000001#32, live,
      by decide +kernel, by decide +kernel, mapped_of rfl, by decide +kernel⟩,
    ⟨.cpu, 0, false, 1#32, { aired with chains := [(0, { blocked := true })] },
      by decide +kernel, by decide +kernel, mapped_of rfl, by decide +kernel⟩,
    ⟨0, 1, 1, aired,
      by decide +kernel⟩,
    ⟨0, 1, 0, aired,
      by decide +kernel⟩,
    ⟨0, 1, aired,
      by decide +kernel⟩,
    ⟨11, 2, 63, 1, { words live [(0x38B0008, 0x3FD)] with radios := [(2, { syn := [(13, { locked := true, heard := 6999940000 })] })] },
      by decide +kernel⟩,
    ⟨0, aired,
      by decide +kernel⟩,
    ⟨0, 4, 0, onRadio fun x => { x with launches := [⟨.beacon 0, 10005004600, 5, [0], false, none, {}⟩] },
      by decide +kernel⟩,
    ⟨0, ⟨3, 0, 0⟩, ⟨11, 5, 11, [], []⟩, onRadio fun x => { x with cal := some ⟨3, 0, 0⟩ },
      by decide +kernel⟩,
    ⟨0, 0, [7], [3], ⟨5, 1, 0⟩, ⟨11, 5, 11, [0], [[7]]⟩, onRadio fun x => { x with cal := some ⟨5, 1, 0⟩, ref := some 0, probes := [(1, [3])] },
      by decide +kernel⟩,
    ⟨0, ⟨4, 0, 0⟩, ⟨11, 5, 11, [0], [[7]]⟩, { onRadio (fun x => { x with cal := some ⟨4, 0, 0⟩ }) with chains := [(0, { powered := true, state := .cal, before := .rx })] },
      by decide +kernel⟩,
    ⟨0, 7000000000 - 1200000001, { aired with chains := [(0, { serving := true, coefAt := some (7000000000 - 1200000001) })] },
      by decide +kernel⟩⟩

theorem witness_Launches :
    (∃ (r : Nat) (x : Nat) (air : Nat) (T : Nat) (A : Nat) (of_ : LaunchOf) (f : PpduForm) (set : List Nat) (s : State),
      s.inService (.radio r) = true ∧ s.ntValid = true ∧ T = s.launchTime of_ x ∧ A = s.launchAir of_ air ∧ (set = s.launchable r (match of_ with | .plan id => ((Tab.get? s.mac.plan id).bind (·.chains)).getD (s.launchSet r) | _ => s.launchSet r)) ∧ s.airClosed = false ∧ (s.radio r).launches.any (fun l => l.of_ == of_) = false ∧ s.launchOk r of_ T A f = true ∧ s.groupLate r of_ T A = false ∧ s.radioEclipsing r = false ∧ formOk r s.limitMode (s.primaryAt r) f A = true ∧ s.swapAt r = none ∧ s.time.realignEnd = none ∧ set ≠ [])
    ∧ (∃ (r : Nat) (of_ : LaunchOf) (x : Nat) (air : Nat) (f : PpduForm) (s : State),
      s.inService (.radio r) = true ∧ s.ntValid = true ∧ s.airClosed = false ∧ (s.radio r).launches.any (fun l => l.of_ == of_) = false ∧ s.radioEclipsing r = false ∧ s.launchOk r of_ (s.launchTime of_ x) (s.launchAir of_ air) f = true ∧ s.groupLate r of_ (s.launchTime of_ x) (s.launchAir of_ air) = false ∧ formOk r s.limitMode (s.primaryAt r) f (s.launchAir of_ air) = false)
    ∧ (∃ (r : Nat) (of_ : LaunchOf) (l : Launch) (s : State),
      (s.radio r).launches.find? (fun l => l.of_ == of_ && l.outcome.isNone && !l.onAir) = some l ∧ l.t ≤ s.ntNs + 500 ∧ s.airClosed = false ∧ (s.radio r).cal = none ∧ s.inRealign l.t = false ∧ s.launchable r l.chains ≠ [] ∧ s.chainsLocked r (s.launchable r l.chains) = true ∧ s.canRamp r (s.launchable r l.chains) = true ∧ s.masksReady r of_ l.t (s.launchable r l.chains) = true)
    ∧ (∃ (r : Nat) (of_ : LaunchOf) (l : Launch) (s : State),
      (s.radio r).launches.find? (fun l => l.of_ == of_ && l.outcome.isNone && !l.onAir) = some l ∧ l.t ≤ s.ntNs + 500 ∧ s.airClosed = false ∧ (s.radio r).cal = none ∧ (s.inRealign l.t = true ∨ s.launchable r l.chains = [] ∨ s.chainsLocked r (s.launchable r l.chains) = false))
    ∧ (∃ (r : Nat) (of_ : LaunchOf) (x : Nat) (air : Nat) (f : PpduForm) (s : State),
      s.airClosed = true)
    ∧ (∃ (r : Nat) (l : Launch) (s : State),
      s.onAir r = some l ∧ l.t + l.air ≤ s.ntNs)
    ∧ (∃ (i : Nat) (l : Launch) (s : State),
      s.onAir (chainOf i).1 = some l ∧ (s.chain i).state = .tx ∧ (s.chain i).paOff = false ∧ l.t + s.get ⟨feBase (chainOf i).1 + 4, 7, 0⟩ * 100000 < s.ntNs) :=
  ⟨⟨0, 0, 0, 10005200000, 200000, .plan 3, { goodForm with beaconOrResponse := false }, [0], { aired with mac := { plan := [(3, { ppdu with launch := 10005200000, dlDur := 200000, cut := true })] } },
      by decide +kernel⟩,
    ⟨0, .plan 3, 0, 0, { goodForm with format := 0, beaconOrResponse := false }, { aired with mac := { plan := [(3, { ppdu with cut := true })] } },
      by decide +kernel⟩,
    ⟨0, .beacon 0, ⟨.beacon 0, 10005000500, 5, [0], false, none, {}⟩, onRadio fun x => { x with launches := [⟨.beacon 0, 10005000500, 5, [0], false, none, {}⟩] },
      by decide +kernel⟩,
    ⟨0, .beacon 0, ⟨.beacon 0, 10005000500, 5, [0], false, none, {}⟩, onRadio fun x => { x with syn := [], launches := [⟨.beacon 0, 10005000500, 5, [0], false, none, {}⟩] },
      by decide +kernel⟩,
    ⟨0, .beacon 0, 0, 5, goodForm, { aired with dormant := { seq := .entry 2 } },
      by decide +kernel⟩,
    ⟨0, ⟨.beacon 0, 10004999000, 1000, [0], true, none, {}⟩, onRadio fun x => { x with launches := [⟨.beacon 0, 10004999000, 1000, [0], true, none, {}⟩] },
      by decide +kernel⟩,
    ⟨0, ⟨.beacon 0, 10004999000 - 5500000, 1000, [0], true, none, {}⟩, { words (onRadio fun x => { x with launches := [⟨.beacon 0, 10004999000 - 5500000, 1000, [0], true, none, {}⟩] }) [(0x1000004, 0x1037)] with chains := [(0, { powered := true, state := .tx })] },
      by decide +kernel⟩⟩

theorem witness_Receiver :
    (∃ (r : Nat) (level : Int) (d : Detect) (s : State),
      (s.radio r).rx.state = .search ∧ s.inService (.radio r) = true ∧ (s.radio r).rxOpen = true ∧ signed 8 (s.get ⟨bbBase r + 0xC, 7, 0⟩) ≤ level ∧ 500 < d.corr ∧ d.settle ≤ 1600 ∧ d.settle ≤ d.ago ∧ d.gains.length = (s.chainSet r).length ∧ d.gains.all (fun g => decide (g ≤ 72)) = true ∧ (d.ago ≤ 4000 ∨ ((s.elapsed - (s.radio r).rx.searchFrom) * 5 / 3 < d.ago ∧ d.ago ≤ (s.elapsed - (s.radio r).rx.searchFrom) * 5 / 3 + 4800 ∧ d.ago ≤ 8000)))
    ∧ (∃ (r : Nat) (level : Int) (d : Detect) (s : State),
      (s.radio r).rx.state = .search ∧ s.inService (.radio r) = true ∧ (s.radio r).rxOpen = true ∧ signed 8 (s.get ⟨bbBase r + 0xC, 7, 0⟩) ≤ level ∧ 500 < d.corr ∧ d.settle ≤ 1600 ∧ d.settle ≤ d.ago ∧ d.gains.length = (s.chainSet r).length ∧ d.gains.all (fun g => decide (g ≤ 72)) = true ∧ (d.ago ≤ 4000 ∨ ((s.elapsed - (s.radio r).rx.searchFrom) * 5 / 3 < d.ago ∧ d.ago ≤ (s.elapsed - (s.radio r).rx.searchFrom) * 5 / 3 + 4800 ∧ d.ago ≤ 8000)))
    ∧ (∃ (r : Nat) (level : Int) (d : Detect) (s : State),
      (level < signed 8 (s.get ⟨bbBase r + 0xC, 7, 0⟩) ∨ d.corr ≤ 500))
    ∧ (∃ (r : Nat) (level : Int) (d : Detect) (s : State),
      (level < signed 8 (s.get ⟨bbBase r + 0xC, 7, 0⟩) ∨ d.corr ≤ 500))
    ∧ (∃ (r : Nat) (s : State),
      (s.radio r).rx.state = .preamble ∧ (s.radio r).rx.from_ + us 10 ≤ s.elapsed)
    ∧ (∃ (r : Nat) (last : Option LtfForm) (s : State),
      (s.radio r).rx.state = .preamble)
    ∧ (∃ (r : Nat) (last : Option LtfForm) (s : State),
      (s.radio r).rx.state = .preamble)
    ∧ (∃ (r : Nat) (last : Option LtfForm) (s : State),
      (s.radio r).rx.state = .preamble)
    ∧ (∃ (r : Nat) (level : Int) (d : Detect) (s : State),
      (s.radio r).rx.state = .preamble ∧ s.detects r level d = true ∧ d.ago ≤ 4000 ∧ (s.radio r).rx.level + (s.radio r).rx.restartDb ≤ level)
    ∧ (∃ (r : Nat) (level : Int) (d : Detect) (s : State),
      (s.radio r).rx.state = .data ∧ (s.radio r).rx.captureEn = true ∧ s.detects r level d = true ∧ d.ago ≤ 4000 ∧ (s.radio r).rx.level + (s.radio r).rx.captureDb ≤ level)
    ∧ (∃ (r : Nat) (level : Int) (d : Detect) (s : State),
      (s.radio r).rx.captureEn = false)
    ∧ (∃ (r : Nat) (m : Measured) (s : State),
      (s.radio r).rx.state = .data ∧ s.measurable r false m = true)
    ∧ (∃ (r : Nat) (id : Nat) (p : Ppdu) (s : State),
      Tab.get? s.mac.plan id = some p ∧ p.radio = r ∧ p.sent = true ∧ p.te ≠ 0 ∧ p.te ≤ s.ntNs + 2000 ∧ s.ntNs < p.te + p.tbDur ∧ s.inService (.radio r) = true ∧ (s.radio r).rx.state ≠ .tb)
    ∧ (∃ (r : Nat) (id : Nat) (te : Nat) (len : Nat) (p : Ppdu) (s : State),
      Tab.get? s.mac.plan id = some p ∧ p.sent = false)
    ∧ (∃ (r : Nat) (id : Nat) (p : Ppdu) (users : List Measured) (s : State),
      (s.radio r).rx.state = .tb ∧ (s.radio r).rx.window = some (.own id) ∧ Tab.get? s.mac.plan id = some p ∧ (s.radio r).rx.windowEnd ≤ s.ntNs ∧ users.all (s.measurable r true) = true ∧ users.map (fun m => (m.sta, m.ru, m.nss)) = p.solicited.map (fun u => (some u.sid, u.ru, u.ss)))
    ∧ (∃ (r : Nat) (n : Nat) (end_ : Nat) (f : TriggerAsk) (s : State),
      (s.radio r).trigger = some (n, end_, f) ∧ end_ + 16000 ≤ s.ntNs + 2000 ∧ s.ntNs < end_ + 16000 + f.len ∧ s.inService (.radio r) = true ∧ (s.radio r).rx.state ≠ .tb)
    ∧ (∃ (r : Nat) (id : Nat) (sid : Nat) (u : PlanUser) (p : Ppdu) (m : Measured) (s : State),
      (s.radio r).rx.state = .tb ∧ (s.radio r).rx.window = some (.own id) ∧ Tab.get? s.mac.plan id = some p ∧ (s.radio r).rx.windowEnd ≤ s.ntNs ∧ s.measurable r true m = true ∧ p.solicited = [u] ∧ u.sid = sid ∧ m.sta = some sid ∧ m.ru = u.ru ∧ m.nss = u.ss ∧ s.ntValid = true ∧ 0 ≤ m.ltfSnr)
    ∧ (∃ (r : Nat) (id : Nat) (sid : Nat) (u : PlanUser) (p : Ppdu) (m : Measured) (s : State),
      (s.radio r).rx.state = .tb ∧ (s.radio r).rx.window = some (.own id) ∧ Tab.get? s.mac.plan id = some p ∧ (s.radio r).rx.windowEnd ≤ s.ntNs ∧ s.measurable r true m = true ∧ p.solicited = [u] ∧ u.sid = sid ∧ m.sta = some sid ∧ m.ru = u.ru ∧ m.nss = u.ss ∧ s.ntValid = true ∧ m.ltfSnr < 0 ∧ s.get ⟨bbBase r + 0x2C, 15, 0⟩ < 65535) :=
  ⟨⟨0, -62, { ago := 4000, gains := [72], corr := 501, settle := 1600 }, words aired [(0x140000C, 0x03C2)],
      by decide +kernel⟩,
    ⟨0, -62, { ago := 8000, gains := [72], corr := 501, settle := 1600 }, words (onRadio fun x => { x with rx := { searchFrom := 6999998080 } }) [(0x140000C, 0x03C2)],
      by decide +kernel⟩,
    ⟨0, -63, { ago := 1600, gains := [72], corr := 501, settle := 1600 }, words aired [(0x140000C, 0x03C2)],
      by decide +kernel⟩,
    ⟨0, -62, { ago := 1600, gains := [72], corr := 500, settle := 1600 }, words aired [(0x140000C, 0x03C2)],
      by decide +kernel⟩,
    ⟨0, onRadio fun x => { x with rx := { state := .preamble, from_ := 6999994000 } },
      by decide +kernel⟩,
    ⟨0, some ⟨4, 4, false⟩, onRadio fun x => { x with rx := { state := .preamble } },
      by decide +kernel⟩,
    ⟨0, some ⟨1, 1, false⟩, onRadio fun x => { x with rx := { state := .preamble } },
      by decide +kernel⟩,
    ⟨0, none, onRadio fun x => { x with rx := { state := .preamble } },
      by decide +kernel⟩,
    ⟨0, -57, { ago := 4000, gains := [30], corr := 501, settle := 1600 }, words (onRadio fun x => { x with rx := { state := .preamble, level := -60, restartDb := 3 } }) [(0x140000C, 0x03C2)],
      by decide +kernel⟩,
    ⟨0, -57, { ago := 4000, gains := [30], corr := 501, settle := 1600 }, words (onRadio fun x => { x with rx := { state := .data, level := -60, captureDb := 3, captureEn := true } }) [(0x140000C, 0x10303C2)],
      by decide +kernel⟩,
    ⟨0, 0, { ago := 4000, gains := [30], corr := 501, settle := 1600 }, words (onRadio fun x => { x with rx := { state := .data } }) [(0x140000C, 0x10303C2)],
      by decide +kernel⟩,
    ⟨0, measured, onRadio fun x => { x with rx := { state := .data } },
      by decide +kernel⟩,
    ⟨0, 4, { ppdu with users := [⟨5, false, 1, 0, 1, -50, 0, []⟩], te := 10005002000, tbDur := 1000, sent := true }, { aired with mac := { plan := [(4, { ppdu with users := [⟨5, false, 1, 0, 1, -50, 0, []⟩], te := 10005002000, tbDur := 1000, sent := true })] } },
      by decide +kernel⟩,
    ⟨0, 4, 10005002000, 1000, { ppdu with users := [⟨5, false, 1, 0, 1, -50, 0, []⟩], te := 10005002000, tbDur := 1000 }, { aired with mac := { plan := [(4, { ppdu with users := [⟨5, false, 1, 0, 1, -50, 0, []⟩], te := 10005002000, tbDur := 1000 })] } },
      by decide +kernel⟩,
    ⟨0, 4, { ppdu with users := [⟨5, false, 1, 0, 1, -50, 0, []⟩], te := 10004999000, tbDur := 1000, sent := true }, [{ measured with format := 6, sta := some 5 }], { onRadio (fun x => { x with rx := { state := .tb, window := some (.own 4), te := 10004999000, windowEnd := 10005000000 } }) with mac := { plan := [(4, { ppdu with users := [⟨5, false, 1, 0, 1, -50, 0, []⟩], te := 10004999000, tbDur := 1000, sent := true })] } },
      by decide +kernel⟩,
    ⟨0, 0, 10004986000, { len := 1000, rus := [(26, 1)], power := -50 }, onRadio fun x => { x with trigger := some (0, 10004986000, { len := 1000, rus := [(26, 1)], power := -50 }) },
      by decide +kernel⟩,
    ⟨0, 4, 5, ⟨5, false, 1, 0, 1, -50, 0, []⟩, { ppdu with users := [⟨5, false, 1, 0, 1, -50, 0, []⟩], te := 10004999000, tbDur := 1000, sent := true }, { measured with format := 6, sta := some 5 }, { onRadio (fun x => { x with rx := { state := .tb, window := some (.own 4), te := 10004999000, windowEnd := 10005000000 } }) with mac := { plan := [(4, { ppdu with users := [⟨5, false, 1, 0, 1, -50, 0, []⟩], te := 10004999000, tbDur := 1000, sent := true })] } },
      by decide +kernel⟩,
    ⟨0, 4, 5, ⟨5, false, 1, 0, 1, -50, 0, []⟩, { ppdu with users := [⟨5, false, 1, 0, 1, -50, 0, []⟩], te := 10004999000, tbDur := 1000, sent := true }, { measured with format := 6, ltfSnr := -1, sta := some 5 }, { onRadio (fun x => { x with rx := { state := .tb, window := some (.own 4), te := 10004999000, windowEnd := 10005000000 } }) with mac := { plan := [(4, { ppdu with users := [⟨5, false, 1, 0, 1, -50, 0, []⟩], te := 10004999000, tbDur := 1000, sent := true })] } },
      by decide +kernel⟩⟩

theorem witness_SpatialEngine :
    (∃ (id : Nat) (slow : List Nat) (p : Ppdu) (s : State),
      Tab.get? s.mac.plan id = some p ∧ p.fetchDone = false ∧ p.launch ≤ s.ntNs + 4 * slotNs s.limitMode ∧ s.fetchesFirst p = false)
    ∧ (∃ (id : Nat) (rus : List RuPlan) (p : Ppdu) (s : State),
      Tab.get? s.mac.plan id = some p ∧ p.precoder = none ∧ p.launch ≤ s.ntNs + 2 * slotNs s.limitMode)
    ∧ (∃ (id : Nat) (rus : List RuPlan) (p : Ppdu) (s : State),
      Tab.get? s.mac.plan id = some p ∧ s.ntNs + 2 * slotNs s.limitMode < p.launch)
    ∧ (∃ (r : Nat) (s : State),
      s.inService (.radio r) = true ∧ (s.radio r).testedAt + ms 10 ≤ s.elapsed ∧ s.chainSet r ≠ [])
    ∧ (∃ (sid : Nat) (r : Nat) (from_ : Nat) (x : Sta) (s : State),
      Tab.get? s.mac.stas sid = some x ∧ Tab.get? x.sounding r = some from_ ∧ from_ + ms (s.get ⟨bbBase r + 0x10, 15, 8⟩) ≤ s.elapsed)
    ∧ (∃ (r : Nat) (id : Nat) (sid : Nat) (u : PlanUser) (p : Ppdu) (m : Measured) (s : State),
      (s.radio r).rx.state = .tb ∧ (s.radio r).rx.window = some (.own id) ∧ Tab.get? s.mac.plan id = some p ∧ p.kind = 2 ∧ (s.radio r).rx.windowEnd ≤ s.ntNs ∧ s.measurable r true m = true ∧ p.solicited = [u] ∧ u.sid = sid ∧ m.sta = some sid ∧ m.ru = u.ru ∧ m.nss = u.ss ∧ s.ntValid = true ∧ Tab.has s.mac.stas sid = true ∧ 0 ≤ m.ltfSnr) :=
  ⟨⟨3, [5], ppdu, { aired with mac := { plan := [(3, ppdu)] } },
      by decide +kernel⟩,
    ⟨3, [⟨[], 1, []⟩], ppdu, { aired with mac := { plan := [(3, ppdu)] } },
      by decide +kernel⟩,
    ⟨3, [], { ppdu with launch := 10005256001 }, { aired with mac := { plan := [(3, { ppdu with launch := 10005256001 })] } },
      by decide +kernel⟩,
    ⟨0, onRadio fun x => { x with testedAt := 6994000000 },
      by decide +kernel⟩,
    ⟨8191, 0, 6994000000, { addr := 1, multi := false, links := [], keySlot := none, ps := false, sounding := [(0, 6994000000)] }, { words aired [(0x1400010, 0x0B0A0A02)] with mac := { stas := [(8191, { addr := 1, multi := false, links := [], keySlot := none, ps := false, sounding := [(0, 6994000000)] })] } },
      by decide +kernel⟩,
    ⟨0, 4, 5, ⟨5, false, 1, 0, 1, -50, 0, []⟩, { ppdu with kind := 2, users := [⟨5, false, 1, 0, 1, -50, 0, []⟩], te := 10004999000, tbDur := 1000, sent := true }, { measured with format := 6, sta := some 5 }, { onRadio (fun x => { x with rx := { state := .tb, window := some (.own 4), te := 10004999000, windowEnd := 10005000000 } }) with mac := { stas := [(5, { addr := 2, multi := false, links := [⟨0, 0, 1, 2, 0, 0⟩], keySlot := none, ps := false })], plan := [(4, { ppdu with kind := 2, users := [⟨5, false, 1, 0, 1, -50, 0, []⟩], te := 10004999000, tbDur := 1000, sent := true })] } },
      by decide +kernel⟩⟩

theorem witness_MacCommands :
    (∃ (fn : Nat) (tag : Nat) (r : Nat) (air : Nat) (c : Cmd) (body : List Byte) (x : Sta) (s : State),
      Offered s fn tag 0x0610 c ∧ c.le 16 2 ≠ 0xFFFF ∧ s.mayNameSta fn (c.le 16 2) = true ∧ r < 3 ∧ c.b 19 = 2 ^ r ∧ s.gated (7 + r) = false ∧ s.macTxOk c = true ∧ c.b 20 / 16 = 0 ∧ c.le 32 8 = 0 ∧ s.liveSta (c.le 16 2) = some x ∧ (x.linkOn r).isSome ∧ s.unitStatus (.radio r) = none ∧ s.inService (.radio r) = true ∧ c.le 40 4 ≠ 0)
    ∧ (∃ (fn : Nat) (tag : Nat) (air : Nat) (c : Cmd) (body : List Byte) (s : State),
      Offered s fn tag 0x0610 c ∧ c.le 16 2 ≠ 0xFFFF ∧ s.mayNameSta fn (c.le 16 2) = true ∧ s.gated 7 = false ∧ s.gated 8 = false ∧ s.gated 9 = false ∧ s.macTxOk c = true ∧ s.liveSta (c.le 16 2) = none)
    ∧ (∃ (tag : Nat) (c : Cmd) (s : State),
      Offered s 0 tag 0x0620 c ∧ s.staAddOk c = true ∧ s.gated 7 = false ∧ s.gated 8 = false ∧ s.gated 9 = false ∧ c.le 16 2 < 8192 ∧ Tab.has s.mac.stas (c.le 16 2) = false ∧ s.mac.stas.length < staLimit s.limitMode ∧ s.mac.stas.any (fun e => (e.2.addr :: e.2.links.map (·.addr)).any (fun a => a == c.le 20 6 || ((List.range (c.b 18)).map (staLinkOf c)).any (fun l => l.addr == a))) = false ∧ ((List.range (c.b 18)).map (staLinkOf c)).any (fun l => decide (s.get ⟨bssCfg l.radio l.bss, 21, 11⟩ < l.aid) || s.mac.stas.any (fun e => e.2.links.any (fun m => m.radio == l.radio && m.bss == l.bss && m.aid == l.aid))) = false)
    ∧ (∃ (fn : Nat) (tag : Nat) (c : Cmd) (x : Sta) (s : State),
      Offered s fn tag 0x0621 c ∧ s.mayNameSta fn (c.le 16 2) = true ∧ s.staGated (c.le 16 2) = false ∧ c.reservedOk [(16, 2)] = true ∧ s.liveSta (c.le 16 2) = some x)
    ∧ (∃ (fn : Nat) (tag : Nat) (c : Cmd) (x : Sta) (s : State),
      s.sta (c.le 16 2) = some x ∧ x.links ≠ [] ∧ x.links.all (fun l => s.macGated l.radio) = true ∧ s.mayNameSta fn (c.le 16 2) = true ∧ Offered s fn tag 0x0621 c)
    ∧ (∃ (fn : Nat) (tag : Nat) (c : Cmd) (x : Sta) (s : State),
      s.sta (c.le 16 2) = some x ∧ x.links ≠ [] ∧ x.links.all (fun l => s.macGated l.radio) = true ∧ s.mayNameSta fn (c.le 16 2) = true ∧ Offered s fn tag 0x0622 c ∧ bitOf (c.b 19) 1 = false)
    ∧ (∃ (fn : Nat) (tag : Nat) (c : Cmd) (x : Sta) (s : State),
      s.sta (c.le 16 2) = some x ∧ x.links ≠ [] ∧ x.links.all (fun l => s.macGated l.radio) = true ∧ s.mayNameSta fn (c.le 16 2) = true ∧ Offered s fn tag 0x0622 c ∧ bitOf (c.b 19) 1 = true)
    ∧ (∃ (sid : Nat) (x : Sta) (s : State),
      s.sta sid = some x ∧ x.deleting = true ∧ s.mac.frames.any (fun e => e.2.sid == sid) = false)
    ∧ (∃ (sid : Nat) (s : State),
      s.mac.frames.any (fun e => e.2.sid == sid) = true)
    ∧ (∃ (fn : Nat) (tag : Nat) (c : Cmd) (x : Sta) (s : State),
      Offered s fn tag 0x0622 c ∧ bitOf (c.b 19) 1 = false ∧ s.mayNameSta fn (c.le 16 2) = true ∧ s.staGated (c.le 16 2) = false ∧ c.reservedOk [(16, 8)] = true ∧ c.le 16 2 < 8192 ∧ c.b 18 < 8 ∧ c.b 19 ≤ 1 ∧ 1 ≤ c.le 20 2 ∧ c.le 20 2 ≤ 256 ∧ c.le 22 2 < 4096 ∧ s.liveSta (c.le 16 2) = some x ∧ c.b 19 = 0)
    ∧ (∃ (fn : Nat) (tag : Nat) (c : Cmd) (x : Sta) (s : State),
      Offered s fn tag 0x0622 c ∧ bitOf (c.b 19) 1 = true ∧ s.mayNameSta fn (c.le 16 2) = true ∧ s.staGated (c.le 16 2) = false ∧ c.reservedOk [(16, 4)] = true ∧ c.le 16 2 < 8192 ∧ c.b 18 < 8 ∧ c.b 19 ≤ 3 ∧ s.liveSta (c.le 16 2) = some x)
    ∧ (∃ (fn : Nat) (tag : Nat) (c : Cmd) (x : Sta) (s : State),
      Offered s fn tag 0x0623 c ∧ s.mayNameSta fn (c.le 16 2) = true ∧ s.macGated (c.b 18) = false ∧ c.reservedOk [(16, 10)] = true ∧ c.le 16 2 < 8192 ∧ c.b 18 < 3 ∧ c.b 19 < 8 ∧ 1024 ≤ c.le 20 4 ∧ c.le 20 4 ≤ 13107200 ∧ 256 ≤ c.le 24 2 ∧ s.unitStatus (.radio (c.b 18)) = none ∧ s.liveSta (c.le 16 2) = some x ∧ (x.linkOn (c.b 18)).isSome)
    ∧ (∃ (fn : Nat) (tag : Nat) (c : Cmd) (x : Sta) (s : State),
      Offered s fn tag 0x0623 c ∧ s.mayNameSta fn (c.le 16 2) = true ∧ s.macGated (c.b 18) = false ∧ c.reservedOk [(16, 10)] = true ∧ c.le 16 2 < 8192 ∧ c.b 18 < 3 ∧ c.b 19 < 8 ∧ 1024 ≤ c.le 20 4 ∧ c.le 20 4 ≤ 13107200 ∧ 256 ≤ c.le 24 2 ∧ s.unitStatus (.radio (c.b 18)) = none ∧ s.liveSta (c.le 16 2) = some x ∧ (x.linkOn (c.b 18)).isSome ∧ s.twtPlace (c.b 18) (s.highClass ((s.staTenant (c.le 16 2)).getD 0)) (c.le 20 4 * 1000) = none)
    ∧ (∃ (fn : Nat) (tag : Nat) (c : Cmd) (x : Sta) (s : State),
      Offered s fn tag 0x0623 c ∧ bitOf (c.b 19) 7 = true ∧ s.mayNameSta fn (c.le 16 2) = true ∧ s.macGated (c.b 18) = false ∧ c.reservedOk [(16, 10)] = true ∧ c.le 16 2 < 8192 ∧ c.b 18 < 3 ∧ c.b 19 % 128 < 8 ∧ s.unitStatus (.radio (c.b 18)) = none ∧ s.liveSta (c.le 16 2) = some x)
    ∧ (∃ (fn : Nat) (tag : Nat) (i : Nat) (c : Cmd) (x : Sta) (f : DetFlow) (s : State),
      Offered s fn tag 0x0624 c ∧ s.mayNameSta fn (c.le 16 2) = true ∧ s.macGated (c.b 20) = false ∧ f = ⟨c.le 16 2, c.b 18, c.b 19 == 0, c.le 22 2, c.le 24 2⟩ ∧ c.reservedOk [(16, 5), (22, 4)] = true ∧ c.le 16 2 < 8192 ∧ c.b 18 < 8 ∧ c.b 19 ≤ 1 ∧ c.b 20 < 3 ∧ 1 ≤ f.period ∧ f.period ≤ 6400 ∧ f.phase < f.period ∧ f.whole (slotsOf s.grid.sfLen s.limitMode) (slotNs s.limitMode / 32000) = true ∧ s.unitStatus (.radio (c.b 20)) = none ∧ s.liveSta (c.le 16 2) = some x ∧ (x.linkOn (c.b 20)).isSome ∧ s.flowKeyOf (c.b 20) (c.le 16 2) (c.b 18) (c.b 19 == 0) = none ∧ (List.range 64).find? (fun i => !((s.flowsOf (c.b 20)).any (fun e => e.1 == i))) = some i)
    ∧ (∃ (fn : Nat) (tag : Nat) (c : Cmd) (x : Sta) (s : State),
      Offered s fn tag 0x0624 c ∧ s.mayNameSta fn (c.le 16 2) = true ∧ s.macGated (c.b 20) = false ∧ c.reservedOk [(16, 5), (22, 4)] = true ∧ c.le 16 2 < 8192 ∧ c.b 18 < 8 ∧ c.b 19 ≤ 1 ∧ c.b 20 < 3 ∧ 1 ≤ c.le 22 2 ∧ c.le 22 2 ≤ 6400 ∧ c.le 24 2 < c.le 22 2 ∧ DetFlow.whole ⟨c.le 16 2, c.b 18, c.b 19 == 0, c.le 22 2, c.le 24 2⟩ (slotsOf s.grid.sfLen s.limitMode) (slotNs s.limitMode / 32000) = true ∧ s.unitStatus (.radio (c.b 20)) = none ∧ s.liveSta (c.le 16 2) = some x ∧ (x.linkOn (c.b 20)).isSome ∧ s.flowKeyOf (c.b 20) (c.le 16 2) (c.b 18) (c.b 19 == 0) = none ∧ (List.range 64).all (fun i => (s.flowsOf (c.b 20)).any (fun e => e.1 == i)) = true)
    ∧ (∃ (fn : Nat) (tag : Nat) (c : Cmd) (x : Sta) (s : State),
      Offered s fn tag 0x0624 c ∧ bitOf (c.b 19) 7 = true ∧ s.mayNameSta fn (c.le 16 2) = true ∧ s.macGated (c.b 20) = false ∧ c.reservedOk [(16, 5), (22, 4)] = true ∧ c.le 16 2 < 8192 ∧ c.b 18 < 8 ∧ c.b 19 % 128 ≤ 1 ∧ c.b 20 < 3 ∧ s.unitStatus (.radio (c.b 20)) = none ∧ s.liveSta (c.le 16 2) = some x ∧ (x.linkOn (c.b 20)).isSome) :=
  ⟨⟨0, 7, 0, 0, mkCmd 0 7 0x0610 [(16, 2, 5), (18, 1, 0xFF), (19, 1, 1), (20, 1, 7), (22, 2, 3), (40, 4, 10000000)], [1, 2, 3], station, offer (withSta station) (mkCmd 0 7 0x0610 [(16, 2, 5), (18, 1, 0xFF), (19, 1, 1), (20, 1, 7), (22, 2, 3), (40, 4, 10000000)]),
      offered_of (by decide +kernel), by decide +kernel⟩,
    ⟨0, 7, 0, mkCmd 0 7 0x0610 [(16, 2, 8191), (18, 1, 0xFF), (19, 1, 7), (22, 2, 3)], [1, 2, 3], offer (withSta station) (mkCmd 0 7 0x0610 [(16, 2, 8191), (18, 1, 0xFF), (19, 1, 7), (22, 2, 3)]),
      offered_of (by decide +kernel), by decide +kernel⟩,
    ⟨7, mkCmd 0 7 0x0620 [(16, 2, 8191), (18, 1, 1), (20, 6, 4), (26, 2, 0xFFFF), (28, 6, 4), (36, 2, 2007)], offer (withSta station) (mkCmd 0 7 0x0620 [(16, 2, 8191), (18, 1, 1), (20, 6, 4), (26, 2, 0xFFFF), (28, 6, 4), (36, 2, 2007)]),
      offered_of (by decide +kernel), by decide +kernel⟩,
    ⟨0, 7, mkCmd 0 7 0x0621 [(16, 2, 5)], station, offer (withSta station) (mkCmd 0 7 0x0621 [(16, 2, 5)]),
      offered_of (by decide +kernel), by decide +kernel⟩,
    ⟨0, 7, mkCmd 0 7 0x0621 [(16, 2, 5)], station, offer (words (withSta station) [(0x100010, 0xFFFF7F)]) (mkCmd 0 7 0x0621 [(16, 2, 5)]),
      by decide +kernel, by decide +kernel, by decide +kernel, by decide +kernel, offered_of (by decide +kernel)⟩,
    ⟨0, 7, mkCmd 0 7 0x0622 [(16, 2, 5), (18, 1, 7), (20, 2, 256)], station, offer (words (withSta station) [(0x100010, 0xFFFF7F)]) (mkCmd 0 7 0x0622 [(16, 2, 5), (18, 1, 7), (20, 2, 256)]),
      by decide +kernel, by decide +kernel, by decide +kernel, by decide +kernel, offered_of (by decide +kernel), by decide +kernel⟩,
    ⟨0, 7, mkCmd 0 7 0x0622 [(16, 2, 5), (18, 1, 7), (19, 1, 2)], station, offer (words (withSta station) [(0x100010, 0xFFFF7F)]) (mkCmd 0 7 0x0622 [(16, 2, 5), (18, 1, 7), (19, 1, 2)]),
      by decide +kernel, by decide +kernel, by decide +kernel, by decide +kernel, offered_of (by decide +kernel), by decide +kernel⟩,
    ⟨5, { station with deleting := true }, withSta { station with deleting := true },
      by decide +kernel⟩,
    ⟨5, withFrame frame,
      by decide +kernel⟩,
    ⟨0, 7, mkCmd 0 7 0x0622 [(16, 2, 5), (18, 1, 7), (20, 2, 256), (22, 2, 4095)], station, offer (withSta station) (mkCmd 0 7 0x0622 [(16, 2, 5), (18, 1, 7), (20, 2, 256), (22, 2, 4095)]),
      offered_of (by decide +kernel), by decide +kernel⟩,
    ⟨0, 7, mkCmd 0 7 0x0622 [(16, 2, 5), (18, 1, 7), (19, 1, 2)], station, offer (withSta station) (mkCmd 0 7 0x0622 [(16, 2, 5), (18, 1, 7), (19, 1, 2)]),
      offered_of (by decide +kernel), by decide +kernel⟩,
    ⟨0, 7, mkCmd 0 7 0x0623 [(16, 2, 5), (19, 1, 7), (20, 4, 13107200), (24, 2, 256)], station, offer (withSta station) (mkCmd 0 7 0x0623 [(16, 2, 5), (19, 1, 7), (20, 4, 13107200), (24, 2, 256)]),
      offered_of (by decide +kernel), by decide +kernel⟩,
    ⟨0, 7, mkCmd 0 7 0x0623 [(16, 2, 5), (19, 1, 7), (20, 4, 1024), (24, 2, 256)], station, offer (withSta station) (mkCmd 0 7 0x0623 [(16, 2, 5), (19, 1, 7), (20, 4, 1024), (24, 2, 256)]),
      offered_of (by decide +kernel), by decide +kernel⟩,
    ⟨0, 7, mkCmd 0 7 0x0623 [(16, 2, 5), (19, 1, 0x87)], station, offer (withSta station) (mkCmd 0 7 0x0623 [(16, 2, 5), (19, 1, 0x87)]),
      offered_of (by decide +kernel), by decide +kernel⟩,
    ⟨0, 7, 0, mkCmd 0 7 0x0624 [(16, 2, 5), (18, 1, 7), (22, 2, 800)], station, ⟨5, 7, true, 800, 0⟩, offer (withSta station) (mkCmd 0 7 0x0624 [(16, 2, 5), (18, 1, 7), (22, 2, 800)]),
      offered_of (by decide +kernel), by decide +kernel⟩,
    ⟨0, 7, mkCmd 0 7 0x0624 [(16, 2, 5), (18, 1, 7), (22, 2, 800)], station, { offer (withSta station) (mkCmd 0 7 0x0624 [(16, 2, 5), (18, 1, 7), (22, 2, 800)]) with mac := { stas := [(5, station)], flows := (List.range 64).map fun i => (i, ⟨6, 0, true, 800, 0⟩) } },
      offered_of (by decide +kernel), by decide +kernel⟩,
    ⟨0, 7, mkCmd 0 7 0x0624 [(16, 2, 5), (18, 1, 7), (19, 1, 0x80)], station, offer (withSta station) (mkCmd 0 7 0x0624 [(16, 2, 5), (18, 1, 7), (19, 1, 0x80)]),
      offered_of (by decide +kernel), by decide +kernel⟩⟩

theorem witness_MacTransmission :
    (∃ (r : Nat) (s : State),
      r < 3 ∧ s.ntValid = true ∧ s.inService (.radio r) = true ∧ s.grid.mode < 5 ∧ s.commitPending = false ∧ Tab.get? s.mac.frozen r ≠ some s.nextBoundary ∧ s.nextBoundary ≤ s.ntNs + s.planLead r false)
    ∧ (∃ (r : Nat) (s : State),
      Tab.get? s.mac.frozen r = some s.nextBoundary)
    ∧ (∃ (r : Nat) (fn : Nat) (tag : Nat) (id : Nat) (x : Nat) (f : Frame) (sta : Sta) (room : List Nat) (s : State),
      s.inService (.radio r) = true ∧ s.ntValid = true ∧ s.mac.frames.find? (fun e => e.2.cmd == some (fn, tag)) = some (id, f) ∧ Tab.get? s.mac.frames id = some f ∧ f.launch ≠ 0 ∧ f.taken = none ∧ bitOf f.radios r = true ∧ f.launch ≤ s.ntNs + 10000 ∧ s.expired f = false ∧ f.dram = 0 ∧ f.kind = 1 ∧ bitOf f.flags 2 = true ∧ f.sn = none ∧ f.sid ≠ 0xFFFF ∧ s.sta f.sid = some sta)
    ∧ (∃ (r : Nat) (bss : Nat) (air : Nat) (b : Nat) (s : State),
      s.inService (.radio r) = true ∧ s.ntValid = true ∧ s.grid.start = some b ∧ s.grid.mode < 5 ∧ s.bssOn r bss = true ∧ Tab.getD s.mac.beacons r 0 = bss ∧ s.beaconAt r ≤ s.ntNs ∧ s.airClosed = false ∧ s.beaconAt r + air ≤ b + (s.beaconSlots r false).2 * slotNs s.grid.mode ∧ s.launchSet r ≠ [] ∧ s.radioEclipsing r = false ∧ s.chainsLocked r (s.launchSet r) = true ∧ (s.radio r).launches.any (fun l => l.of_ == .beacon bss) = false)
    ∧ (∃ (r : Nat) (bss : Nat) (air : Nat) (b : Nat) (s : State),
      s.inService (.radio r) = true ∧ s.ntValid = true ∧ s.grid.start = some b ∧ s.grid.mode < 5 ∧ s.bssOn r bss = true ∧ Tab.getD s.mac.beacons r 0 = bss ∧ s.beaconAt r ≤ s.ntNs ∧ s.airClosed = false ∧ b + (s.beaconSlots r false).2 * slotNs s.grid.mode < s.beaconAt r + air ∧ (s.radio r).launches.any (fun l => l.of_ == .beacon bss) = false)
    ∧ (∃ (r : Nat) (of_ : LaunchOf) (acked : List Nat) (l : Launch) (s : State),
      (s.radio r).launches.find? (fun l => l.of_ == of_ && l.outcome.isSome) = some l ∧ l.outcome = some 0)
    ∧ (∃ (r : Nat) (of_ : LaunchOf) (acked : List Nat) (l : Launch) (s : State),
      (s.radio r).launches.find? (fun l => l.of_ == of_ && l.outcome.isSome) = some l ∧ l.outcome = some 0x28)
    ∧ (∃ (r : Nat) (of_ : LaunchOf) (acked : List Nat) (s : State),
      (s.radio r).launches.find? (fun l => l.of_ == of_ && l.outcome.isSome) = none)
    ∧ (∃ (id : Nat) (f : Frame) (s : State),
      Tab.get? s.mac.frames id = some f ∧ f.taken = none ∧ s.leadOf f = none ∧ s.expired f = true) :=
  ⟨⟨0, served,
      by decide +kernel⟩,
    ⟨0, { served with mac := { frozen := [(0, 10025600000)] } },
      by decide +kernel⟩,
    ⟨0, 0, 7, 9, 0, { frame with launch := 10005010000 }, { station with sn := [(0, 4095)] }, [], { withFrame frame with mac := { stas := [(5, { station with sn := [(0, 4095)] })], frames := [(9, frame)] } },
      by decide +kernel⟩,
    ⟨0, 0, 510000, 10000000000, served,
      by decide +kernel⟩,
    ⟨0, 0, 510001, 10000000000, served,
      by decide +kernel⟩,
    ⟨0, .single 0 7, [9], ⟨.single 0 7, 10004000000, 5, [0], false, some 0, {}⟩, { withFrame { frame with taken := some (0, .single 0 7) } with radios := [(0, { launches := [⟨.single 0 7, 10004000000, 5, [0], false, some 0, {}⟩] })] },
      by decide +kernel⟩,
    ⟨0, .plan 3, [], ⟨.plan 3, 10004000000, 5, [0], false, some 0x28, {}⟩, { withFrame { frame with launch := 0, taken := some (0, .plan 3) } with radios := [(0, { launches := [⟨.plan 3, 10004000000, 5, [0], false, some 0x28, {}⟩] })] },
      by decide +kernel⟩,
    ⟨0, .plan 3, [], served,
      by decide +kernel⟩,
    ⟨9, { frame with life := 1 }, withFrame { frame with life := 1 },
      by decide +kernel⟩⟩

theorem witness_MacReception :
    (∃ (m : RxMpdu) (s : State),
      s.inService (.radio m.radio) = true ∧ s.delivers m = true ∧ ((if m.type = 1 then 14 else headerLen m + 4) ≤ m.len) ∧ 11454 < m.len)
    ∧ (∃ (m : RxMpdu) (s : State),
      s.inService (.radio m.radio) = true ∧ s.delivers m = true ∧ ((if m.type = 1 then 14 else headerLen m + 4) ≤ m.len) ∧ m.len ≤ 11454 ∧ m.fcsOk = false)
    ∧ (∃ (m : RxMpdu) (s : State),
      s.inService (.radio m.radio) = true ∧ s.delivers m = true ∧ (m.len < (if m.type = 1 then 14 else headerLen m + 4)))
    ∧ (∃ (m : RxMpdu) (s : State),
      s.inService (.radio m.radio) = true ∧ s.delivers m = true ∧ headerLen m + 4 ≤ m.len ∧ m.len ≤ 11454 ∧ m.fcsOk = true ∧ 3 ≤ m.type ∧ m.sec = none)
    ∧ (∃ (m : RxMpdu) (s : State),
      s.inService (.radio m.radio) = true ∧ s.delivers m = true ∧ headerLen m + 4 ≤ m.len ∧ m.len ≤ 11454 ∧ m.fcsOk = true ∧ m.sec.isSome = true ∧ s.inService .cipher = true ∧ s.cphRoom = false ∧ m.type ≠ 1)
    ∧ (∃ (m : RxMpdu) (s : State),
      s.delivers m = false)
    ∧ (∃ (m : RxMpdu) (s : State),
      s.delivers m = false)
    ∧ (∃ (m : RxMpdu) (sid : Nat) (x : Sta) (s : State),
      s.inService (.radio m.radio) = true ∧ headerLen m + 4 ≤ m.len ∧ m.len ≤ 11454 ∧ m.fcsOk = true ∧ m.type = 2 ∧ m.tid < 8 ∧ m.sec = none ∧ s.mac.stas.find? (fun e => e.2.links.any (fun l => l.radio == m.radio && l.addr == m.ta)) = some (sid, x) ∧ s.sta sid = some x ∧ s.delivers m = true ∧ Tab.get? x.rxBa m.tid = none ∧ (m.retry = false ∨ Tab.get? x.lastRx m.tid ≠ some (m.sn, m.frag)))
    ∧ (∃ (m : RxMpdu) (sid : Nat) (x : Sta) (s : State),
      s.inService (.radio m.radio) = true ∧ headerLen m + 4 ≤ m.len ∧ m.len ≤ 11454 ∧ m.fcsOk = true ∧ m.type = 2 ∧ m.tid < 8 ∧ m.sec = none ∧ s.mac.stas.find? (fun e => e.2.links.any (fun l => l.radio == m.radio && l.addr == m.ta)) = some (sid, x) ∧ s.sta sid = some x ∧ s.delivers m = true ∧ Tab.get? x.rxBa m.tid = none ∧ m.retry = true ∧ Tab.get? x.lastRx m.tid = some (m.sn, m.frag))
    ∧ (∃ (sid : Nat) (tid : Nat) (from_ : Nat) (k : Nat) (x : Sta) (a : RxBa) (s : State),
      s.sta sid = some x ∧ Tab.get? x.rxBa tid = some a ∧ Tab.get? a.holes a.start = some from_ ∧ from_ + ms (s.get ⟨macBase x.firstRadio + 0x14, 9, 0⟩) ≤ s.elapsed ∧ (snRange a.start a.size).find? (fun k => Tab.has a.held k) = some k)
    ∧ (∃ (sid : Nat) (tid : Nat) (size : Nat) (sn : Nat) (x : Sta) (s : State),
      s.liveSta sid = some x ∧ tid < 8)
    ∧ (∃ (sid : Nat) (tid : Nat) (size : Nat) (sn : Nat) (x : Sta) (s : State),
      s.liveSta sid = some x ∧ 7 < tid)
    ∧ (∃ (sid : Nat) (tid : Nat) (dir : Nat) (x : Sta) (s : State),
      s.sta sid = some x ∧ dir ≤ 1 ∧ ((if dir = 1 then Tab.has x.rxBa tid else Tab.has x.txBa tid) = true))
    ∧ (∃ (sid : Nat) (tid : Nat) (x : Sta) (s : State),
      s.sta sid = some x ∧ Tab.has x.rxBa tid = false) :=
  ⟨⟨{ mpdu with len := 11455 }, served,
      by decide +kernel⟩,
    ⟨{ mpdu with len := 11454, fcsOk := false }, served,
      by decide +kernel⟩,
    ⟨{ mpdu with len := 13, type := 1 }, served,
      by decide +kernel⟩,
    ⟨{ mpdu with type := 3 }, served,
      by decide +kernel⟩,
    ⟨{ mpdu with sec := some (5, true) }, { served with cipher := { ops := (List.range 1024).map fun i => (i, { slot := 5, gen := 0 }) } },
      by decide +kernel⟩,
    ⟨{ mpdu with stamp := 1 }, withSta station,
      by decide +kernel⟩,
    ⟨mpdu, (withSta station).modRadio 0 fun x => { x with rx := { ended := some (0, [0]) } },
      by decide +kernel⟩,
    ⟨mpdu, 5, station, withSta station,
      by decide +kernel⟩,
    ⟨{ mpdu with retry := true }, 5, { station with lastRx := [(0, (7, 0))] }, withSta { station with lastRx := [(0, (7, 0))] },
      by decide +kernel⟩,
    ⟨5, 7, 6940000000, 1, { station with rxBa := [(7, { size := 8, start := 4095, held := [(1, mpdu)], holes := [(4095, 6940000000), (0, 6970000000)] })] }, { size := 8, start := 4095, held := [(1, mpdu)], holes := [(4095, 6940000000), (0, 6970000000)] }, withSta { station with rxBa := [(7, { size := 8, start := 4095, held := [(1, mpdu)], holes := [(4095, 6940000000), (0, 6970000000)] })] },
      by decide +kernel⟩,
    ⟨5, 7, 0, 4096, station, withSta station,
      by decide +kernel⟩,
    ⟨5, 8, 0, 0, station, withSta station,
      by decide +kernel⟩,
    ⟨5, 7, 1, { station with rxBa := [(7, { size := 3, start := 5 })] }, withSta { station with rxBa := [(7, { size := 3, start := 5 })] },
      by decide +kernel⟩,
    ⟨5, 7, station, withSta station,
      by decide +kernel⟩⟩

theorem witness_Constellation :
    (∃ (m : Nat) (s : State),
      s.memberIds.contains m = true ∧ (s.member m).session = .idle ∧ s.cstMayJoin = true ∧ s.cst.left = false ∧ (s.member m).tried + ms (fieldLE s.cstRec 11 1 * 100) ≤ s.elapsed ∧ s.cstRoute m = none)
    ∧ (∃ (m : Nat) (s : State),
      ((s.member m).session ≠ .idle ∨ s.cst.left = true ∨ s.cstMayJoin = false))
    ∧ (∃ (b : List Byte) (s : State),
      s.cstRoute (fieldLE b 6 1) = none)
    ∧ (∃ (m : Nat) (s : State),
      (s.member m).session = .joining ∧ (s.member m).tried + ms 100 ≤ s.elapsed)
    ∧ (∃ (m : Nat) (s : State),
      ((s.member m).session ≠ .joining ∨ s.elapsed < (s.member m).tried + ms 100))
    ∧ (∃ (s : State),
      s.ntValid = true ∧ s.cst.sentFor ≠ s.nextBoundary ∧ s.nextBoundary ≤ s.ntNs + 2000000 ∧ s.cstActive ≠ [] ∧ s.stepArmedFor s.nextBoundary = false)
    ∧ (∃ (s : State),
      s.ntValid = true ∧ s.cst.sentFor ≠ s.nextBoundary ∧ s.nextBoundary ≤ s.ntNs + 2000000 ∧ s.cstActive ≠ [] ∧ s.stepArmedFor s.nextBoundary = false ∧ (∀ m ∈ s.cstActive, ∃ h, s.cstRoute m = some h ∧ h.da.length = 6 ∧ h.sa.length = 6) ∧ TakesWired s s.cstSub 7 (s.cstActive.length * (16 * 160 + ((s.digestEntries s.nextBoundary (s.commit.state == .committed && s.commit.target == s.nextBoundary)).map (fun e => e.2.2.length + 8)).sum)) ∧ (∀ m ∈ s.cstActive, (s.member m).newSeq s.nextBoundary = true))
    ∧ (∃ (s : State),
      (s.ntValid = false ∨ s.cst.sentFor = s.nextBoundary ∨ s.ntNs + 2000000 < s.nextBoundary))
    ∧ (∃ (b : List Byte) (p : Bool) (s : State),
      s.headerOk b = false)
    ∧ (∃ (b : List Byte) (tag : List Byte) (es : List (DigestEntry × Bool)) (p : Bool) (s : State),
      s.headerOk (b ++ tag) = true ∧ fieldLE (b ++ tag) 5 1 = 3 ∧ 32 ≤ b.length ∧ fieldLE (b ++ tag) 0xE 1 ≠ 0 ∧ parseBlocks (fieldLE (b ++ tag) 0x18 1) (slice (b ++ tag) 0x20 (b.length - 0x20)) = some es ∧ (s.member (fieldLE (b ++ tag) 6 1)).session = .active ∧ gmacTag (s.member (fieldLE (b ++ tag) 6 1)).keyRx b = tag ∧ tag.length = 16 ∧ s.fullTime (fieldLE (b ++ tag) 0x10 8) = s.nextBoundary ∧ s.isGrid s.sfNs s.nextBoundary = true ∧ s.ntNs + s.acceptMargin < s.nextBoundary ∧ s.nextBoundary ≤ s.ntNs + 3000000 ∧ es.all (·.2) = true ∧ s.commit.state ≠ .committed ∧ es.all (fun e => decide (e.1.start + e.1.dur ≤ sfLenNs s.grid.sfLen)) = true ∧ fieldLE (b ++ tag) 0x18 1 ≤ 3 ∧ allZero (slice (b ++ tag) 0x19 7) = true ∧ (s.member (fieldLE (b ++ tag) 6 1)).partsFor ≠ s.nextBoundary)
    ∧ (∃ (b : List Byte) (tag : List Byte) (s : State),
      s.headerOk (b ++ tag) = true ∧ fieldLE (b ++ tag) 5 1 = 4 ∧ b.length = 32 ∧ tag.length = 16 ∧ fieldLE (b ++ tag) 0x18 1 ≤ 3 ∧ fieldLE (b ++ tag) 0x19 7 = 0 ∧ (s.member (fieldLE (b ++ tag) 6 1)).session = .active ∧ gmacTag (s.member (fieldLE (b ++ tag) 6 1)).keyRx b = tag ∧ s.seqOk (fieldLE (b ++ tag) 6 1) (fieldLE (b ++ tag) 0x10 8) = true)
    ∧ (∃ (m : Nat) (s : State),
      s.ntValid = true ∧ s.cst.decidedFor ≠ s.nextBoundary ∧ s.nextBoundary ≤ s.ntNs + s.acceptMargin ∧ s.cstRec ≠ [] ∧ s.memberIds.Nodup ∧ m ∈ s.cstActive ∧ (s.member m).decide_ s.nextBoundary ∈ [1, 2, 3])
    ∧ (∃ (m : Nat) (s : State),
      s.ntValid = true ∧ s.cst.decidedFor ≠ s.nextBoundary ∧ s.nextBoundary ≤ s.ntNs + s.acceptMargin ∧ s.cstRec ≠ [] ∧ s.memberIds.Nodup ∧ m ∈ s.cstActive ∧ (s.member m).decide_ s.nextBoundary = 0)
    ∧ (∃ (r : Requester) (s : State),
      Mapped s r ∧ Clocked s 0x30101C)
    ∧ (∃ (r : Requester) (s : State),
      Mapped s r ∧ Clocked s 0x30101C)
    ∧ (∃ (m : Nat) (sid : Nat) (r : Nat) (e : ForeignEntry) (s : State),
      Tab.get? s.cst.foreign (foreignKey m sid r) = some e ∧ e.updated + ms (fieldLE s.cstRec 18 2) ≤ s.elapsed)
    ∧ (∃ (s : State),
      s.cstRec ≠ [] ∧ s.time.state = .holdover ∧ s.time.holdFrom + fieldLE s.cstRec 12 2 * 1000000000 ≤ s.ntNs ∧ s.cst.keepFor ≠ some s.time.holdFrom)
    ∧ (∃ (s : State),
      s.cstRec ≠ [] ∧ s.time.state = .holdover ∧ s.time.holdFrom + fieldLE s.cstRec 12 2 * 1000000000 ≤ s.ntNs ∧ s.cst.keepFor = some s.time.holdFrom) :=
  ⟨⟨1, wiredCell {},
      by decide +kernel⟩,
    ⟨1, joined { session := .active },
      by decide +kernel⟩,
    ⟨[], joined {},
      by decide +kernel⟩,
    ⟨1, joined { session := .joining, tried := 6940000000 },
      by decide +kernel⟩,
    ⟨1, joined { session := .joining, tried := 6940000001 },
      by decide +kernel⟩,
    ⟨wiredCell { session := .active, keyTx := List.replicate 32 5 },
      by decide +kernel⟩,
    ⟨routedCell { session := .active, keyTx := List.replicate 32 5 },
      by decide +kernel, by decide +kernel, by decide +kernel, by decide +kernel, by decide +kernel, routed_of (by decide +kernel), takes_of (by decide +kernel), by decide +kernel⟩,
    ⟨{ joined { session := .active } with time := {} },
      by decide +kernel⟩,
    ⟨List.replicate 24 0, false, joined {},
      by decide +kernel⟩,
    ⟨header 32 3 48 1 2 10025600000, gmacTag (List.replicate 32 5) (header 32 3 48 1 2 10025600000), [], false, joined { session := .active, keyRx := List.replicate 32 5, partsFor := 10000000000 },
      by decide +kernel, by decide +kernel, by decide +kernel, by decide +kernel, by decide +kernel, by decide +kernel, congrArg (fun k => gmacTag k _) (by decide +kernel), by decide +kernel⟩,
    ⟨header 32 4 48 0 1 10024600000, gmacTag (List.replicate 32 5) (header 32 4 48 0 1 10024600000), joined { session := .active, keyRx := List.replicate 32 5, lastSeq := some 10024599999 },
      by decide +kernel, by decide +kernel, by decide +kernel, by decide +kernel, by decide +kernel, by decide +kernel, by decide +kernel, congrArg (fun k => gmacTag k _) (by decide +kernel), by decide +kernel⟩,
    ⟨1, { joined { session := .active } with time := { live.time with nt := ⟨10025100000 * 2 ^ 48, 0⟩ } },
      by decide +kernel⟩,
    ⟨1, { joined { session := .active, parts := [(0, [])], partCount := 1, partsFor := 10025600000 } with time := { live.time with nt := ⟨10025100000 * 2 ^ 48, 0⟩ } },
      by decide +kernel⟩,
    ⟨.pf, joined { session := .active },
      mapped_of rfl, clocked_of (by decide +kernel)⟩,
    ⟨.cpu, { joined {} with cst := { left := true } },
      mapped_of rfl, clocked_of (by decide +kernel)⟩,
    ⟨1, 5, 2, ⟨{}, -60, 6940000000⟩, { joined { session := .active } with cst := { foreign := [(foreignKey 1 5 2, ⟨{}, -60, 6940000000⟩)] } },
      by decide +kernel⟩,
    ⟨{ joined { session := .active } with time := { live.time with state := .holdover, nt := ⟨70000000000 * 2 ^ 48, 0⟩, holdFrom := 10000000000 } },
      by decide +kernel⟩,
    ⟨{ joined { session := .active } with time := { live.time with state := .holdover, nt := ⟨70000000000 * 2 ^ 48, 0⟩, holdFrom := 10000000000 }, cst := { members := [(1, {})], keepFor := some 10000000000 } },
      by decide +kernel⟩⟩

theorem witness_MeshReception :
    (∃ (s : State),
      s.mesh.rx = .preamble ∧ s.mesh.rxFrom + s.sfdWait ≤ s.elapsed ∧ s.get (nwCnt 0 false) < 65535)
    ∧ (∃ (s : State),
      (s.mesh.rx ≠ .preamble ∨ s.elapsed < s.mesh.rxFrom + s.sfdWait))
    ∧ (∃ (level : Int) (s : State),
      s.mesh.rx = .preamble ∧ s.mesh.rxLevel + s.nwDb 18 ≤ level ∧ s.get (nwCnt 5 false) < 65535)
    ∧ (∃ (level : Int) (s : State),
      s.mesh.rx = .payload ∧ bitOf (fieldLE s.nwRec 20 1) 0 = true ∧ s.mesh.rxLevel + s.nwDb 19 ≤ level ∧ s.get (nwCnt 5 true) < 65535)
    ∧ (∃ (level : Int) (s : State),
      (s.mesh.rx ≠ .preamble ∨ level < s.mesh.rxLevel + s.nwDb 18))
    ∧ (∃ (level : Int) (s : State),
      (s.mesh.rx ≠ .payload ∨ level < s.mesh.rxLevel + s.nwDb 19))
    ∧ (∃ (len : Nat) (s : State),
      s.mesh.rx = .header ∧ 38 + s.fcsBytes ≤ len)
    ∧ (∃ (len : Nat) (ok : Bool) (s : State),
      s.mesh.rx = .header ∧ (ok = false ∨ len < 38 + s.fcsBytes) ∧ s.get (nwCnt 0 false) < 65535 ∧ s.get (nwCnt 0 true) < 65535)
    ∧ (∃ (b : List Byte) (s : State),
      s.mesh.rx = .payload)
    ∧ (∃ (b : List Byte) (named : Nat) (s : State),
      s.mesh.rx = .payload ∧ meshHdr b + 8 ≤ b.length ∧ fieldLE b 0 1 < 64 ∧ fieldLE b 0 1 % 8 ≤ 3 ∧ fieldLE b 28 1 < 16 ∧ fieldLE b 1 1 % 16 + fieldLE b 1 1 / 16 ≤ 15 ∧ (fieldLE b 10 8 = s.coordinator ∨ fieldLE b 10 8 = 2 ^ 64 - 1) ∧ s.time.mtState ≠ .notStarted ∧ (named : Int) = (s.mtMs : Int) + signed 32 ((fieldLE b 18 4 + 2 ^ 32 - s.mtMs % 2 ^ 32) % 2 ^ 32) ∧ named < s.mtMs + 2000 ∧ s.mtMs ≤ named + 2000 ∧ s.mesh.floor ≤ named ∧ Tab.has s.mesh.keys (fieldLE b 28 1 % 8) = true)
    ∧ (∃ (addr : Nat) (r : Router) (s : State),
      Tab.get? s.mesh.routers addr = some r ∧ r.heard + ms (fieldLE s.nwRec 40 2 * 1000) ≤ s.elapsed)
    ∧ (∃ (wua : Nat) (s : State),
      (wua = fieldLE s.nwRec 36 3 ∨ wua = 0xFFFFFF) ∧ (s.mesh.state = .alone ∨ s.mesh.state = .bridged) ∧ s.mesh.tx = none)
    ∧ (∃ (wua : Nat) (s : State),
      (wua = fieldLE s.nwRec 36 3 ∨ wua = 0xFFFFFF) ∧ (s.mesh.state = .alone ∨ s.mesh.state = .bridged))
    ∧ (∃ (t0 : Nat) (s : State),
      s.mesh.wuOpen = some t0 ∧ t0 + ms (fieldLE s.nwRec 31 1 * 10) ≤ s.elapsed)
    ∧ (∃ (t0 : Nat) (s : State),
      s.mesh.wuOpen = some t0 ∧ t0 + ms (fieldLE s.nwRec 31 1 * 10) ≤ s.elapsed)
    ∧ (∃ (t0 : Nat) (s : State),
      s.mesh.wuOpen = some t0 ∧ t0 + ms (fieldLE s.nwRec 31 1 * 10) ≤ s.elapsed ∧ s.rxSave = true ∧ s.mesh.mainRx = false ∧ s.mesh.replies = []) :=
  ⟨⟨meshed { island with rx := .preamble },
      by decide +kernel⟩,
    ⟨meshed { island with rx := .preamble, rxFrom := 6999999999 },
      by decide +kernel⟩,
    ⟨-70, meshed { island with rx := .preamble, rxLevel := -80 },
      by decide +kernel⟩,
    ⟨-70, meshed { island with rx := .payload, rxLevel := -80 },
      by decide +kernel⟩,
    ⟨-71, meshed { island with rx := .preamble, rxLevel := -80 },
      by decide +kernel⟩,
    ⟨-71, meshed { island with rx := .payload, rxLevel := -80 },
      by decide +kernel⟩,
    ⟨40, meshed { island with rx := .header },
      by decide +kernel⟩,
    ⟨39, true, meshed { island with rx := .header },
      by decide +kernel⟩,
    ⟨[], meshed { island with rx := .payload },
      by decide +kernel⟩,
    ⟨fields 38 [(2, 8, 77), (10, 8, 1), (18, 4, 10005), (24, 4, 3), (28, 1, 2)], 10005, meshed { island with rx := .payload, sfd := 10005000000, keys := [(2, List.replicate 16 1)] },
      by decide +kernel⟩,
    ⟨9, { err := 0, at_ := 0, heard := 6400000000 }, meshed { island with routers := [(8, { err := 0, at_ := 0, heard := 0 }), (9, { err := 0, at_ := 0, heard := 6400000000 })] },
      by decide +kernel⟩,
    ⟨5, meshed island,
      by decide +kernel⟩,
    ⟨0xFFFFFF, meshed { island with state := .alone },
      by decide +kernel⟩,
    ⟨6994000000, meshed { island with wuOpen := some 6994000000 },
      by decide +kernel⟩,
    ⟨6994000000, { words (meshed { island with wuOpen := some 6994000000 }) [(0x2000014, 0x100)] with dormant := { seq := .dormant } },
      by decide +kernel⟩,
    ⟨6994000000, { words (meshed { island with wuOpen := some 6994000000, mainRx := false }) [(0x2000014, 0x100)] with dormant := { seq := .dormant } },
      by decide +kernel⟩⟩

theorem witness_MeshTransmission :
    (∃ (s : State),
      s.mesh.state ≠ .reset ∧ s.mesh.next ≤ s.mtNs ∧ s.time.mtFollow = false)
    ∧ (∃ (s : State),
      s.mesh.state ≠ .reset ∧ s.mesh.next ≤ s.mtNs ∧ s.time.mtFollow = true ∧ s.ntValid = true ∧ 0 < s.mesh.n * s.mesh.sfNs)
    ∧ (∃ (s : State),
      s.mesh.state = .reset)
    ∧ (∃ (s : State),
      s.mesh.state ≠ .reset ∧ s.mtNs < s.mesh.next)
    ∧ (∃ (level : Int) (air : Nat) (s : State),
      s.mesh.started = true ∧ s.mesh.gap = false ∧ s.mesh.beaconSent = false ∧ s.meshSlot = 0 ∧ (s.mesh.state = .alone ∨ s.mesh.state = .bridged) ∧ s.mesh.tx = none ∧ s.boot.state ≠ .hold ∧ s.realigning = false ∧ (bitOf (fieldLE (s.subBands.getD s.frameBand []) 12 1) 0 = false ∨ level < signed 8 (fieldLE (s.subBands.getD s.frameBand []) 13 1)) ∧ air = s.airTime (fieldLE s.nwRec 23 1 * 100000) (24 + 4 * s.mesh.map.length) ∧ s.dutyOk s.frameBand air = true)
    ∧ (∃ (level : Int) (s : State),
      s.mesh.started = true ∧ s.mesh.gap = false ∧ s.mesh.beaconSent = false ∧ s.meshSlot = 0 ∧ (s.mesh.state = .alone ∨ s.mesh.state = .bridged) ∧ s.mesh.tx = none ∧ s.boot.state ≠ .hold ∧ bitOf (fieldLE (s.subBands.getD s.frameBand []) 12 1) 0 = true ∧ signed 8 (fieldLE (s.subBands.getD s.frameBand []) 13 1) ≤ level)
    ∧ (∃ (level : Int) (s : State),
      s.mesh.started = true ∧ s.mesh.gap = true ∧ s.mesh.beaconSent = false ∧ s.meshSlot = 0 ∧ (s.mesh.state = .alone ∨ s.mesh.state = .bridged) ∧ s.mesh.tx = none ∧ s.boot.state ≠ .hold)
    ∧ (∃ (level : Int) (r : MeshReply) (s : State),
      s.mesh.replies.find? (fun r => decide (r.at_ ≤ s.mtNs)) = some r ∧ s.mesh.tx = none ∧ s.slotKind = 1)
    ∧ (∃ (level : Int) (r : MeshReply) (fc : Nat) (s : State),
      s.mesh.replies.find? (fun r => decide (r.at_ ≤ s.mtNs)) = some r ∧ s.mesh.tx = none ∧ s.slotKind ≠ 1 ∧ r.ack = some fc ∧ (s.meshSend (.ack r.node) s.frameBand (s.airTime 0 16) true level).1 = none)
    ∧ (∃ (level : Int) (id : Nat) (g0 : Nat) (d : MeshDown) (s : State),
      s.slotKind = 3 ∧ s.mesh.tx = none ∧ s.replyDue (s.airTime (s.wholeGuard g0) d.payload.length) = false ∧ s.slotFrames = [(id, g0)] ∧ s.mesh.slotFirst = true ∧ Tab.get? s.mesh.down id = some d ∧ s.meshSlotStart + 5000000 ≤ s.mtNs + s.wholeGuard g0 / 2 ∧ s.mtNs + s.airTime (s.wholeGuard g0) d.payload.length ≤ s.meshSlotStart + meshSlotNs s.mesh.slot ∧ d.ackReq = false ∧ (s.meshSend (.data id) s.frameBand (s.airTime (s.wholeGuard g0) d.payload.length) false level).1 = none)
    ∧ (∃ (level : Int) (id : Nat) (g0 : Nat) (d : MeshDown) (s : State),
      s.slotKind = 3 ∧ s.mesh.tx = none ∧ s.mesh.gap = true ∧ s.boot.state ≠ .hold ∧ s.slotFrames = [(id, g0)] ∧ s.mesh.slotFirst = true ∧ Tab.get? s.mesh.down id = some d ∧ d.ackReq = false ∧ s.meshSlotStart + 5000000 ≤ s.mtNs + s.wholeGuard g0 / 2 ∧ s.replyDue (s.airTime (s.wholeGuard g0) d.payload.length) = false ∧ s.mtNs + s.airTime (s.wholeGuard g0) d.payload.length ≤ s.meshSlotStart + meshSlotNs s.mesh.slot)
    ∧ (∃ (id : Nat) (slot : Nat) (level : Int) (d : MeshDown) (r : Router) (s : State),
      Tab.get? s.mesh.down id = some d ∧ Tab.get? s.mesh.routers d.dst = some r ∧ r.drift ≠ none ∧ s.routerSlot r 120000 = some slot ∧ s.mesh.tx = none ∧ d.ackReq = false ∧ d.lastSlot ≠ some slot ∧ s.replyDue (s.airTime 120000 d.payload.length) = false ∧ (s.meshSend (.data id) s.frameBand (s.airTime 120000 d.payload.length) false level).1 = none)
    ∧ (∃ (level : Int) (wua : Nat) (cmd : Nat) (fn : Nat) (tag : Nat) (rest : List (Nat × Nat × Option (Nat × Nat))) (c : Cmd) (s : State),
      s.mesh.wakes = (wua, cmd, some (fn, tag)) :: rest ∧ (s.slotKind = 2 ∨ s.slotKind = 3) ∧ s.mesh.tx = none ∧ s.replyDue 16000000 = false ∧ (s.meshSend (.wake wua cmd) s.wakeBand 16000000 false level).1 = none ∧ s.cmd? fn tag = some c)
    ∧ (∃ (id : Nat) (level : Int) (d : MeshDown) (w : Nat) (s : State),
      Tab.get? s.mesh.down id = some d ∧ d.woken = some w ∧ w + 5000000 ≤ s.mtNs + s.wholeGuard 500000 / 2 ∧ s.mtNs < w + 55000000 ∧ s.replyDue (s.airTime 500000 d.payload.length) = false ∧ s.mesh.tx = none ∧ d.ackReq = false ∧ (s.meshSend (.data id) s.frameBand (s.airTime 500000 d.payload.length) false level).1 = none)
    ∧ (∃ (m : MeshTx) (id : Nat) (d : MeshDown) (s : State),
      s.mesh.tx = some m ∧ m.endAt ≤ s.mtNs ∧ m.what = .data id ∧ Tab.get? s.mesh.down id = some d)
    ∧ (∃ (m : MeshTx) (s : State),
      s.mesh.tx = some m ∧ s.mtNs < m.endAt)
    ∧ (∃ (id : Nat) (d : MeshDown) (s : State),
      Tab.get? s.mesh.down id = some d ∧ d.enq + ms d.lifeMs ≤ s.elapsed ∧ s.mesh.tx = none)
    ∧ (∃ (m : MeshTx) (s : State),
      s.mesh.tx = some m ∧ m.from_ + ms (fieldLE s.nwRec 24 2) < s.elapsed) :=
  ⟨⟨meshed { island with next := 10005000000, change := true },
      by decide +kernel⟩,
    ⟨{ meshed { island with next := 10005000000 } with time := { live.time with mtFollow := true, mt := ⟨10005000000 * 2 ^ 48, 0⟩, nt := ⟨10007000000 * 2 ^ 48, 0⟩ } },
      by decide +kernel⟩,
    ⟨meshed { state := .reset },
      by decide +kernel⟩,
    ⟨meshed { island with next := 10005000001 },
      by decide +kernel⟩,
    ⟨-91, (meshed island).airTime 0 24, meshed island,
      by decide +kernel⟩,
    ⟨-90, recs (meshed island) ((0x0801, (meshed island).nwRec) :: [(0x0803, fields 16 [(0, 4, 867000), (4, 4, 869000), (8, 4, 360000), (12, 1, 1), (13, 1, 166)])]),
      by decide +kernel⟩,
    ⟨-91, meshed { island with gap := true },
      by decide +kernel⟩,
    ⟨-91, ⟨9, 10005000000, some 4, []⟩, meshed { island with map := [(0, 1, 1)], replies := [⟨9, 10005000000, some 4, []⟩] },
      by decide +kernel⟩,
    ⟨-91, ⟨9, 10005000000, some 4, []⟩, 4, meshed { island with replies := [⟨9, 10005000000, some 4, []⟩] },
      by decide +kernel⟩,
    ⟨-91, 3, 100000, { dst := 9, payload := [1], key := 2, ackReq := false, wake := false, enq := 6999000000, lifeMs := 1000, cmd := none, leaf := some ⟨0, false, 0, 0, 10004000000⟩ }, meshed { island with sfNs := 25600000, slot := 2, map := [(0, 1, 3)], keys := [(2, List.replicate 16 1)], nextDown := 4, down := [(3, { dst := 9, payload := [1], key := 2, ackReq := false, wake := false, enq := 6999000000, lifeMs := 1000, cmd := none, leaf := some ⟨0, false, 0, 0, 10004000000⟩ })] },
      by decide +kernel⟩,
    ⟨-91, 3, 100000, { dst := 9, payload := [1], key := 2, ackReq := false, wake := false, enq := 6999000000, lifeMs := 1000, cmd := none, leaf := some ⟨0, false, 0, 0, 10004000000⟩ }, meshed { island with gap := true, sfNs := 25600000, slot := 2, map := [(0, 1, 3)], keys := [(2, List.replicate 16 1)], nextDown := 4, down := [(3, { dst := 9, payload := [1], key := 2, ackReq := false, wake := false, enq := 6999000000, lifeMs := 1000, cmd := none, leaf := some ⟨0, false, 0, 0, 10004000000⟩ })] },
      by decide +kernel⟩,
    ⟨3, 10000000000, -91, { dst := 9, payload := [1], key := 2, ackReq := false, wake := false, enq := 6999000000, lifeMs := 1000, cmd := none }, { err := 0, at_ := 10005000000, drift := some (0, 10000000000), heard := 0 }, meshed { island with map := [(0, 4, 4)], keys := [(2, List.replicate 16 1)], nextDown := 4, routers := [(9, { err := 0, at_ := 10005000000, drift := some (0, 10000000000), heard := 0 })], down := [(3, { dst := 9, payload := [1], key := 2, ackReq := false, wake := false, enq := 6999000000, lifeMs := 1000, cmd := none })] },
      by decide +kernel⟩,
    ⟨-91, 9, 1, 0, 7, [], mkCmd 0 7 0x0811 [], offer (meshed { island with map := [(0, 4, 3)], wakes := [(9, 1, some (0, 7))] }) (mkCmd 0 7 0x0811 []),
      by decide +kernel⟩,
    ⟨3, -91, { dst := 9, payload := [1], key := 2, ackReq := false, wake := true, enq := 6999000000, lifeMs := 1000, cmd := none, woken := some 10000250000 }, 10000250000, meshed { island with keys := [(2, List.replicate 16 1)], nextDown := 4, down := [(3, { dst := 9, payload := [1], key := 2, ackReq := false, wake := true, enq := 6999000000, lifeMs := 1000, cmd := none, woken := some 10000250000 })] },
      by decide +kernel⟩,
    ⟨⟨.data 3, 10005000000, 6990000000, false⟩, 3, { dst := 9, payload := [1], key := 2, ackReq := false, wake := false, enq := 6999000000, lifeMs := 1000, cmd := none }, meshed { island with tx := some ⟨.data 3, 10005000000, 6990000000, false⟩, down := [(3, { dst := 9, payload := [1], key := 2, ackReq := false, wake := false, enq := 6999000000, lifeMs := 1000, cmd := none })] },
      by decide +kernel⟩,
    ⟨⟨.beacon, 10005000001, 6990000000, false⟩, meshed { island with tx := some ⟨.beacon, 10005000001, 6990000000, false⟩ },
      by decide +kernel⟩,
    ⟨3, { dst := 9, payload := [1], key := 2, ackReq := false, wake := false, enq := 6400000000, lifeMs := 1000, cmd := some (0, 7) }, offer (meshed { island with down := [(3, { dst := 9, payload := [1], key := 2, ackReq := false, wake := false, enq := 6400000000, lifeMs := 1000, cmd := some (0, 7) })] }) { mkCmd 0 7 0x0810 [] with stage := .admitted },
      by decide +kernel⟩,
    ⟨⟨.beacon, 10009000000, 6939999999, false⟩, meshed { island with tx := some ⟨.beacon, 10009000000, 6939999999, false⟩ },
      by decide +kernel⟩⟩

theorem witness_MeshCommands :
    (∃ (f : List Byte) (rest : List (List Byte)) (s : State),
      s.mesh.inbox = f :: rest ∧ s.mesh.state = .bridged ∧ 34 ≤ f.length ∧ fieldLE (slice f 14 20) 8 4 = 0 ∧ fieldLE (slice f 14 20) 12 1 < 4 ∧ fieldLE (slice f 14 20) 13 1 < 8 ∧ fieldLE (slice f 14 20) 14 2 + s.fcsBytes ≤ 2009 ∧ 34 + fieldLE (slice f 14 20) 14 2 ≤ f.length ∧ 1 ≤ fieldLE (slice f 14 20) 16 4 ∧ fieldLE (slice f 14 20) 16 4 ≤ 3600000 ∧ s.queueRoom (slice f 34 (fieldLE (slice f 14 20) 14 2)) s.downCells (fieldLE s.nwRec 28 2) = true)
    ∧ (∃ (f : List Byte) (rest : List (List Byte)) (s : State),
      s.mesh.inbox = f :: rest ∧ s.mesh.state ≠ .bridged)
    ∧ (∃ (tag : Nat) (c : Cmd) (b : List Byte) (s : State),
      Offered s 0 tag 0x0810 c ∧ s.gated 15 = false ∧ c.b 24 < 4 ∧ c.b 25 < 8 ∧ Tab.has s.mesh.keys (c.b 25) = true ∧ c.le 26 2 + s.fcsBytes ≤ 2009 ∧ 1 ≤ c.le 28 4 ∧ c.le 28 4 ≤ 3600000 ∧ c.reservedOk [(16, 24)] = true ∧ (s.mesh.state = .alone ∨ s.mesh.state = .bridged) ∧ s.unitStatus .mesh = none ∧ s.queueRoom (slice b 0 (c.le 26 2)) s.downCells (fieldLE s.nwRec 28 2) = true)
    ∧ (∃ (tag : Nat) (c : Cmd) (b : List Byte) (s : State),
      Offered s 0 tag 0x0810 c ∧ s.gated 15 = false ∧ c.b 24 < 4 ∧ c.b 25 < 8 ∧ Tab.has s.mesh.keys (c.b 25) = true ∧ c.le 26 2 + s.fcsBytes ≤ 2009 ∧ 1 ≤ c.le 28 4 ∧ c.le 28 4 ≤ 3600000 ∧ c.reservedOk [(16, 24)] = true ∧ (s.mesh.state = .alone ∨ s.mesh.state = .bridged) ∧ s.unitStatus .mesh = none ∧ s.queueRoom (slice b 0 (c.le 26 2)) s.downCells (fieldLE s.nwRec 28 2) = false)
    ∧ (∃ (tag : Nat) (c : Cmd) (d : HostData) (s : State),
      Offered s 0 tag 0x0810 c ∧ s.gated 15 = false ∧ (8 ≤ c.b 25 ∨ Tab.has s.mesh.keys (c.b 25) = false ∨ 2009 < c.le 26 2 ∨ c.le 28 4 = 0))
    ∧ (∃ (tag : Nat) (c : Cmd) (s : State),
      Offered s 0 tag 0x0811 c ∧ s.gated 15 = false ∧ (c.b 19 = 1 ∨ c.b 19 = 2) ∧ c.reservedOk [(16, 4)] = true ∧ (s.mesh.state = .alone ∨ s.mesh.state = .bridged) ∧ s.unitStatus .mesh = none)
    ∧ (∃ (tag : Nat) (c : Cmd) (g : KeyGen) (s : State),
      Offered s 0 tag 0x0812 c ∧ s.gated 15 = false ∧ c.b 17 = 0 ∧ c.b 16 < 8 ∧ s.slotIn (c.le 18 2) 0 = true ∧ s.bindGen (c.le 18 2) = some g ∧ g.suite = 0x10 ∧ c.reservedOk [(16, 4)] = true ∧ (s.mesh.state = .alone ∨ s.mesh.state = .bridged) ∧ s.unitStatus .mesh = none)
    ∧ (∃ (tag : Nat) (c : Cmd) (s : State),
      Offered s 0 tag 0x0812 c ∧ s.gated 15 = false ∧ c.b 17 = 1 ∧ c.b 16 < 8 ∧ c.reservedOk [(16, 4)] = true ∧ (s.mesh.state = .alone ∨ s.mesh.state = .bridged) ∧ s.unitStatus .mesh = none)
    ∧ (∃ (tag : Nat) (c : Cmd) (s : State),
      Offered s 0 tag 0x0812 c ∧ s.gated 15 = false ∧ c.b 17 = 1 ∧ 8 ≤ c.b 16) :=
  ⟨⟨fields 35 [(14, 8, 77), (26, 1, 0), (27, 1, 2), (28, 2, 1), (30, 4, 3600000)], [], meshed { island with inbox := [fields 35 [(14, 8, 77), (26, 1, 0), (27, 1, 2), (28, 2, 1), (30, 4, 3600000)]] },
      by decide +kernel⟩,
    ⟨[1], [[2]], meshed { island with state := .alone, inbox := [[1], [2]] },
      by decide +kernel⟩,
    ⟨7, mkCmd 0 7 0x0810 [(16, 8, 77), (24, 1, 1), (25, 1, 2), (26, 2, 3), (28, 4, 3600000)], [1, 2, 3], offer (meshed { island with keys := [(2, List.replicate 16 1)] }) (mkCmd 0 7 0x0810 [(16, 8, 77), (24, 1, 1), (25, 1, 2), (26, 2, 3), (28, 4, 3600000)]),
      offered_of (by decide +kernel), by decide +kernel⟩,
    ⟨7, mkCmd 0 7 0x0810 [(16, 8, 77), (24, 1, 3), (25, 1, 2), (26, 2, 2007), (28, 4, 1)], [], offer (recs (meshed { island with keys := [(2, List.replicate 16 1)] }) []) (mkCmd 0 7 0x0810 [(16, 8, 77), (24, 1, 3), (25, 1, 2), (26, 2, 2007), (28, 4, 1)]),
      offered_of (by decide +kernel), by decide +kernel⟩,
    ⟨7, mkCmd 0 7 0x0810 [(25, 1, 8)], none, offer (meshed island) (mkCmd 0 7 0x0810 [(25, 1, 8)]),
      offered_of (by decide +kernel), by decide +kernel⟩,
    ⟨7, mkCmd 0 7 0x0811 [(16, 3, 9), (19, 1, 2)], offer (meshed island) (mkCmd 0 7 0x0811 [(16, 3, 9), (19, 1, 2)]),
      offered_of (by decide +kernel), by decide +kernel⟩,
    ⟨7, mkCmd 0 7 0x0812 [(16, 1, 7), (18, 2, 4)], ⟨1, 0x10, List.replicate 16 9, [], 0, 0, 0, [], false, false, 0⟩, { offer (words (meshed island) [(0x2801000, 0x41)]) (mkCmd 0 7 0x0812 [(16, 1, 7), (18, 2, 4)]) with cipher := { slots := [(4, { gen := 1, cur := some ⟨1, 0x10, List.replicate 16 9, [], 0, 0, 0, [], false, false, 0⟩ })] } },
      offered_of (by decide +kernel), by decide +kernel⟩,
    ⟨7, mkCmd 0 7 0x0812 [(16, 1, 7), (17, 1, 1)], offer (meshed { island with keys := [(7, [])] }) (mkCmd 0 7 0x0812 [(16, 1, 7), (17, 1, 1)]),
      offered_of (by decide +kernel), by decide +kernel⟩,
    ⟨7, mkCmd 0 7 0x0812 [(16, 1, 8), (17, 1, 1)], offer (meshed island) (mkCmd 0 7 0x0812 [(16, 1, 8), (17, 1, 1)]),
      offered_of (by decide +kernel), by decide +kernel⟩⟩

theorem witness_PacketPath :
    (∃ (src : Nat) (f : SrcFrame) (rest : List SrcFrame) (s : State),
      Tab.getD s.fifos src [] = f :: rest ∧ s.inService .pkt = true ∧ s.stopped 10 = false ∧ Tab.has s.pkt.lpm src = false ∧ s.pipeFree (pipeOf src) = true ∧ s.pipeYields src = false ∧ (src ≠ 0x18 ∨ s.mesh.up = []))
    ∧ (∃ (src : Nat) (s : State),
      (Tab.getD s.fifos src [] = [] ∨ s.inService .pkt = false ∨ s.stopped 10 = true ∨ Tab.has s.pkt.lpm src = true ∨ (∃ at_, Tab.get? s.pkt.piped (pipeOf src) = some at_ ∧ s.elapsed < at_ + 2)))
    ∧ (∃ (src : Nat) (f : SrcFrame) (rest : List SrcFrame) (s : State),
      Tab.getD s.fifos src [] = f :: rest ∧ s.inService .pkt = true ∧ s.stopped 10 = false ∧ Tab.has s.pkt.lpm src = false ∧ s.pipeFree (pipeOf src) = true ∧ s.pipeYields src = false ∧ src ≠ 0x18 ∧ (s.tenantOf src f).1 = none)
    ∧ (∃ (i : Nat) (tn : Nat) (f : SrcFrame) (rest : List SrcFrame) (e : List Byte) (s : State),
      Tab.getD s.fifos 0x10 [] = f :: rest ∧ s.inService .pkt = true ∧ s.stopped 10 = false ∧ s.pipeFree 0 = true ∧ Tab.has s.pkt.lpm 0x10 = false ∧ f.noLlc = false ∧ f.tenant = some tn ∧ s.pkt.flows = [] ∧ s.pkt.rules = [(i, e)] ∧ bitOf (fieldLE e 0x80 1) 0 = true ∧ allZero (slice e 0x40 64) = true ∧ fieldLE e 0x81 1 = 0xFF ∧ fieldLE e 0x82 1 = 0xFF ∧ fieldLE e 0x83 1 = 1 ∧ s.get (pktCnt 2 false) < 65535)
    ∧ (∃ (tn : Nat) (f : SrcFrame) (rest : List SrcFrame) (e : FdbEntry) (s : State),
      Tab.getD s.fifos 0x10 [] = f :: rest ∧ s.inService .pkt = true ∧ s.stopped 10 = false ∧ s.pipeFree 0 = true ∧ Tab.has s.pkt.lpm 0x10 = false ∧ f.noLlc = false ∧ f.tenant = some tn ∧ s.pkt.rules = [] ∧ s.pkt.flows = [] ∧ slice f.bytes 0 6 ≠ s.tenMac tn ∧ isGroup f.bytes = false ∧ Tab.get? s.pkt.fdb (fdbKey tn f.bytes) = some e ∧ e.type = 1 ∧ s.subMode e.sub = 0 ∧ f.bytes.length + 4 + s.secOverhead e.sub ≤ s.maxFrame e.sub)
    ∧ (∃ (src : Nat) (x : PktCtx) (ok : Bool) (s : State),
      Tab.get? s.pkt.lpm src = some x ∧ (ok = false ∨ s.boot.rejected.contains 0xD = true ∨ (∀ c, c < 4 → s.inService (.dram c) = false)))
    ∧ (∃ (src : Nat) (x : PktCtx) (s : State),
      Tab.get? s.pkt.lpm src = some x ∧ s.boot.rejected.contains 0xD = false ∧ (∃ c, c < 4 ∧ s.inService (.dram c) = true) ∧ x.copies = [] ∧ s.route x.tenant (parse x.bytes).v6 (parse x.bytes).dst (fun _ => true) = none ∧ s.flag ⟨tenCfg x.tenant, 13, 13⟩ = false)
    ∧ (∃ (tn : Nat) (addr : Nat) (e : FdbEntry) (s : State),
      Tab.get? s.pkt.fdb (tn * 2 ^ 48 + addr) = some e)
    ∧ (∃ (key : Nat) (e : FlowEntry) (s : State),
      Tab.get? s.pkt.flows key = some e)
    ∧ (∃ (r : Requester) (v : Word) (s : State),
      Mapped s r ∧ Clocked s 0x2400500 ∧ queueIdOk (v.toNat % 131072) = true)
    ∧ (∃ (r : Requester) (v : Word) (s : State),
      Mapped s r ∧ Clocked s 0x2400500 ∧ queueIdOk (v.toNat % 131072) = false) :=
  ⟨⟨0x10, { bytes := dataFrame, tenant := some 0 }, [], sourced 0x10 {},
      by decide +kernel⟩,
    ⟨0x10, live,
      by decide +kernel⟩,
    ⟨9, { bytes := dataFrame, tenant := some 0 }, [], sourced 9 {},
      by decide +kernel⟩,
    ⟨8191, 0, { bytes := dataFrame, tenant := some 0 }, [], ruleAll, sourced 0x10 { rules := [(8191, ruleAll)] },
      by decide +kernel⟩,
    ⟨0, { bytes := dataFrame, tenant := some 0 }, [], { type := 1 }, sourced 0x10 { fdb := [(fdbKey 0 dataFrame, { type := 1 })] },
      by decide +kernel⟩,
    ⟨0x10, ⟨0x10, 0, dataFrame, 0, List.replicate 32 0, none⟩, false, { live with pkt := { lpm := [(0x10, ⟨0x10, 0, dataFrame, 0, List.replicate 32 0, none⟩)] } },
      by decide +kernel⟩,
    ⟨0x10, ⟨0x10, 0, dataFrame, 0, List.replicate 32 0, none⟩, { live with pkt := { lpm := [(0x10, ⟨0x10, 0, dataFrame, 0, List.replicate 32 0, none⟩)] } },
      by decide +kernel⟩,
    ⟨15, 7, { type := 1, origin := 2, seen := 0 }, { words live [(0x2400010, 4)] with pkt := { fdb := [(15 * 2 ^ 48 + 7, { type := 1, origin := 2, seen := 0 })] } },
      by decide +kernel⟩,
    ⟨5, ⟨3, true, 0⟩, { words live [(0x2400010, 0x40000)] with pkt := { flows := [(5, ⟨3, true, 0⟩)] } },
      by decide +kernel⟩,
    ⟨.pf, 65615#32, live,
      mapped_of rfl, clocked_of (by decide +kernel), by decide +kernel⟩,
    ⟨.cpu, 65616#32, live,
      mapped_of rfl, clocked_of (by decide +kernel), by decide +kernel⟩⟩

theorem witness_PacketCommands :
    (∃ (tag : Nat) (c : Cmd) (e : List Byte) (s : State),
      Offered s 0 tag 0x0910 c ∧ s.gated 10 = false ∧ s.unitStatus .pkt = none ∧ c.le 16 2 < 8192 ∧ c.b 18 = 0 ∧ c.reservedOk [(16, 3), (24, 8)] = true ∧ ruleOk e = true)
    ∧ (∃ (tag : Nat) (c : Cmd) (s : State),
      Offered s 0 tag 0x0910 c ∧ s.gated 10 = false ∧ s.unitStatus .pkt = none ∧ c.le 16 2 < 8192 ∧ c.b 18 = 1 ∧ c.reservedOk [(16, 3), (24, 8)] = true)
    ∧ (∃ (tag : Nat) (k : Nat) (c : Cmd) (s : State),
      Offered s 0 tag 0x0911 c ∧ s.gated 10 = false ∧ s.unitStatus .pkt = none ∧ bitOf (c.b 17) 1 = false ∧ routeOk (c.bytes 16 24) = true ∧ 1 ≤ c.b 19 ∧ c.b 19 ≤ 16 ∧ c.le 20 2 + c.b 19 ≤ 16384 ∧ c.reservedOk [(16, 6), (24, 16)] = true ∧ (∀ i, c.le 20 2 ≤ i → i < c.le 20 2 + c.b 19 → Tab.has s.pkt.nextHops i = true) ∧ (∀ i, c.le 20 2 ≤ i → i < c.le 20 2 + c.b 19 → s.foreignHop (c.b 16) i = false) ∧ s.lpmUsed + 2 ≤ 262144 ∧ (k = routeKey (c.b 16) (bitOf (c.b 17) 0) (c.b 18) (beNat (c.bytes 24 (if bitOf (c.b 17) 0 = true then 16 else 4)))))
    ∧ (∃ (tag : Nat) (k : Nat) (c : Cmd) (s : State),
      Offered s 0 tag 0x0911 c ∧ s.gated 10 = false ∧ s.unitStatus .pkt = none ∧ bitOf (c.b 17) 1 = true ∧ routeOk (c.bytes 16 24) = true ∧ c.reservedOk [(16, 6), (24, 16)] = true ∧ (k = routeKey (c.b 16) (bitOf (c.b 17) 0) (c.b 18) (beNat (c.bytes 24 (if bitOf (c.b 17) 0 = true then 16 else 4)))))
    ∧ (∃ (tag : Nat) (c : Cmd) (s : State),
      Offered s 0 tag 0x0912 c ∧ s.gated 10 = false ∧ s.unitStatus .pkt = none ∧ c.b 36 = 0 ∧ hopOk (c.bytes 16 20) = true ∧ c.reservedOk [(16, 21)] = true ∧ s.hopForeign (c.le 16 2) (hopOf (c.bytes 16 20)) = false)
    ∧ (∃ (tag : Nat) (c : Cmd) (s : State),
      Offered s 0 tag 0x0912 c ∧ s.gated 10 = false ∧ s.unitStatus .pkt = none ∧ c.b 36 = 1 ∧ c.le 16 2 < 16384 ∧ c.reservedOk [(16, 21)] = true)
    ∧ (∃ (tag : Nat) (c : Cmd) (s : State),
      Offered s 0 tag 0x0913 c ∧ s.gated 10 = false ∧ s.unitStatus .pkt = none ∧ c.b 17 = 0 ∧ fdbOk (c.bytes 16 14) = true ∧ c.reservedOk [(16, 14)] = true ∧ c.b 24 ≠ 2 ∧ fdbRefs s.pkt.tunnels (fdbOf (c.bytes 16 14)) = true ∧ s.fdbFull (fdbKey (c.b 16) (c.bytes 18 6)) = false)
    ∧ (∃ (tag : Nat) (c : Cmd) (s : State),
      Offered s 0 tag 0x0913 c ∧ s.gated 10 = false ∧ s.unitStatus .pkt = none ∧ c.b 17 = 1 ∧ c.b 16 < 16 ∧ isGroup (c.bytes 18 6) = false ∧ c.reservedOk [(16, 14)] = true)
    ∧ (∃ (tag : Nat) (c : Cmd) (s : State),
      Offered s 0 tag 0x0914 c ∧ s.gated 10 = false ∧ s.unitStatus .pkt = none ∧ bitOf (c.b 17) 1 = false ∧ flowOk (c.bytes 16 42) = true ∧ c.reservedOk [(16, 3), (20, 38)] = true ∧ s.flowFull (flowKeyOf (c.bytes 16 42)) = false)
    ∧ (∃ (tag : Nat) (c : Cmd) (s : State),
      Offered s 0 tag 0x0914 c ∧ s.gated 10 = false ∧ s.unitStatus .pkt = none ∧ bitOf (c.b 17) 1 = true ∧ flowOk (c.bytes 16 42) = true ∧ c.reservedOk [(16, 3), (20, 38)] = true)
    ∧ (∃ (tag : Nat) (c : Cmd) (s : State),
      Offered s 0 tag 0x0915 c ∧ s.gated 10 = false ∧ s.unitStatus .pkt = none ∧ c.b 16 < 64 ∧ c.b 17 ≤ 5 ∧ c.le 18 2 ≤ c.le 20 2 ∧ c.reservedOk [(16, 6)] = true)
    ∧ (∃ (tag : Nat) (c : Cmd) (s : State),
      Offered s 0 tag 0x0915 c ∧ s.gated 10 = false ∧ s.unitStatus .pkt = none ∧ c.b 16 < 64 ∧ c.b 17 = 0xFF ∧ c.reservedOk [(16, 6)] = true)
    ∧ (∃ (tag : Nat) (c : Cmd) (t : List Byte) (s : State),
      Offered s 0 tag 0x0916 c ∧ s.gated 10 = false ∧ s.unitStatus .pkt = none ∧ c.le 16 2 < 1024 ∧ c.b 18 = 0 ∧ c.reservedOk [(16, 3), (24, 8)] = true)
    ∧ (∃ (tag : Nat) (c : Cmd) (s : State),
      Offered s 0 tag 0x0916 c ∧ s.gated 10 = false ∧ s.unitStatus .pkt = none ∧ c.le 16 2 < 1024 ∧ c.b 18 = 1 ∧ c.reservedOk [(16, 3), (24, 8)] = true)
    ∧ (∃ (tag : Nat) (c : Cmd) (s : State),
      Offered s 0 tag 0x0917 c ∧ s.gated 10 = false ∧ s.unitStatus .pkt = none ∧ policerOk (c.bytes 16 21) = true ∧ c.reservedOk [(16, 21)] = true)
    ∧ (∃ (tag : Nat) (st : Nat) (c : Cmd) (d : HostData) (s : State),
      Offered s 0 tag 0x0910 c ∧ s.gated 10 = false ∧ s.unitStatus .pkt = some st ∧ c.le 16 2 < 8192 ∧ c.b 18 = 0 ∧ c.reservedOk [(16, 3), (24, 8)] = true) :=
  ⟨⟨7, mkCmd 0 7 0x0910 [(16, 2, 8191), (24, 8, 0x1000)], ruleAll, pathed (mkCmd 0 7 0x0910 [(16, 2, 8191), (24, 8, 0x1000)]) {},
      offered_of (by decide +kernel), by decide +kernel⟩,
    ⟨7, mkCmd 0 7 0x0910 [(16, 2, 8191), (18, 1, 1)], pathed (mkCmd 0 7 0x0910 [(16, 2, 8191), (18, 1, 1)]) { rules := [(8191, ruleAll)] },
      offered_of (by decide +kernel), by decide +kernel⟩,
    ⟨7, routeKey 0 false 32 7, mkCmd 0 7 0x0911 [(18, 1, 32), (19, 1, 1), (20, 2, 16383), (27, 1, 7)], pathed (mkCmd 0 7 0x0911 [(18, 1, 32), (19, 1, 1), (20, 2, 16383), (27, 1, 7)]) { nextHops := [(16383, ⟨0, 0, 0, [], [], 1500⟩)] },
      offered_of (by decide +kernel), by decide +kernel⟩,
    ⟨7, routeKey 0 true 0 0, mkCmd 0 7 0x0911 [(17, 1, 3)], pathed (mkCmd 0 7 0x0911 [(17, 1, 3)]) { routes := [(routeKey 0 true 0 0, ⟨0, 1⟩)] },
      offered_of (by decide +kernel), by decide +kernel⟩,
    ⟨7, mkCmd 0 7 0x0912 [(16, 2, 16383), (18, 1, 1), (19, 1, 9), (20, 2, 0xFFFF), (34, 2, 68)], pathed (mkCmd 0 7 0x0912 [(16, 2, 16383), (18, 1, 1), (19, 1, 9), (20, 2, 0xFFFF), (34, 2, 68)]) {},
      offered_of (by decide +kernel), by decide +kernel⟩,
    ⟨7, mkCmd 0 7 0x0912 [(16, 2, 16383), (36, 1, 1)], pathed (mkCmd 0 7 0x0912 [(16, 2, 16383), (36, 1, 1)]) { nextHops := [(16383, ⟨0, 0, 0, [], [], 1500⟩)] },
      offered_of (by decide +kernel), by decide +kernel⟩,
    ⟨7, mkCmd 0 7 0x0913 [(16, 1, 15), (18, 1, 2), (24, 1, 1), (25, 1, 9), (28, 2, 0xFFFF)], pathed (mkCmd 0 7 0x0913 [(16, 1, 15), (18, 1, 2), (24, 1, 1), (25, 1, 9), (28, 2, 0xFFFF)]) {},
      offered_of (by decide +kernel), by decide +kernel⟩,
    ⟨7, mkCmd 0 7 0x0913 [(16, 1, 15), (17, 1, 1), (18, 1, 2)], pathed (mkCmd 0 7 0x0913 [(16, 1, 15), (17, 1, 1), (18, 1, 2)]) {},
      offered_of (by decide +kernel), by decide +kernel⟩,
    ⟨7, mkCmd 0 7 0x0914 [(16, 1, 15), (56, 2, 8191)], pathed (mkCmd 0 7 0x0914 [(16, 1, 15), (56, 2, 8191)]) { rules := [(8191, ruleAll)] },
      offered_of (by decide +kernel), by decide +kernel⟩,
    ⟨7, mkCmd 0 7 0x0914 [(16, 1, 15), (17, 1, 2)], pathed (mkCmd 0 7 0x0914 [(16, 1, 15), (17, 1, 2)]) {},
      offered_of (by decide +kernel), by decide +kernel⟩,
    ⟨7, mkCmd 0 7 0x0915 [(16, 1, 63), (17, 1, 5), (18, 2, 9), (20, 2, 9)], pathed (mkCmd 0 7 0x0915 [(16, 1, 63), (17, 1, 5), (18, 2, 9), (20, 2, 9)]) {},
      offered_of (by decide +kernel), by decide +kernel⟩,
    ⟨7, mkCmd 0 7 0x0915 [(16, 1, 63), (17, 1, 0xFF)], pathed (mkCmd 0 7 0x0915 [(16, 1, 63), (17, 1, 0xFF)]) { ranges := [(63, ⟨0, 1, 2⟩)] },
      offered_of (by decide +kernel), by decide +kernel⟩,
    ⟨7, mkCmd 0 7 0x0916 [(16, 2, 1023), (24, 8, 0x1000)], fields 64 [(2, 1, 64), (0x16, 2, 4789)], pathed (mkCmd 0 7 0x0916 [(16, 2, 1023), (24, 8, 0x1000)]) {},
      offered_of (by decide +kernel), by decide +kernel⟩,
    ⟨7, mkCmd 0 7 0x0916 [(16, 2, 1023), (18, 1, 1)], pathed (mkCmd 0 7 0x0916 [(16, 2, 1023), (18, 1, 1)]) { tunnels := [(1023, [])] },
      offered_of (by decide +kernel), by decide +kernel⟩,
    ⟨7, mkCmd 0 7 0x0917 [(16, 2, 16383), (18, 1, 2), (20, 4, 8), (24, 4, 8), (28, 4, 1600), (32, 4, 1600)], pathed (mkCmd 0 7 0x0917 [(16, 2, 16383), (18, 1, 2), (20, 4, 8), (24, 4, 8), (28, 4, 1600), (32, 4, 1600)]) {},
      offered_of (by decide +kernel), by decide +kernel⟩,
    ⟨7, 3, mkCmd 0 7 0x0910 [(16, 2, 8191), (24, 8, 0x1000)], some ruleAll, { pathed (mkCmd 0 7 0x0910 [(16, 2, 8191), (24, 8, 0x1000)]) {} with units := [] },
      offered_of (by decide +kernel), by decide +kernel⟩⟩

theorem witness_CipherEngine :
    (∃ (fn : Nat) (tag : Nat) (c : Cmd) (b : List Byte) (p : Page) (s : State),
      Offered s fn tag 0x0A01 c ∧ s.gated 11 = false ∧ c.le 16 2 < 16384 ∧ c.b 18 = 0 ∧ c.reservedOk [(16, 4), (24, 8)] = true ∧ s.unitStatus .cipher = none ∧ s.mayUseSlot fn (c.le 16 2) = true ∧ s.slotPage (c.le 16 2) = some p ∧ p.admits (c.b 19) = true ∧ (s.slot (c.le 16 2)).erasing = none ∧ blockOk (c.b 19) b = true)
    ∧ (∃ (fn : Nat) (tag : Nat) (c : Cmd) (b : List Byte) (s : State),
      Offered s fn tag 0x0A01 c ∧ s.gated 11 = false ∧ c.le 16 2 < 16384 ∧ c.b 18 = 0 ∧ (suiteClass (c.b 19)).isSome = true ∧ c.reservedOk [(16, 4), (24, 8)] = true ∧ s.unitStatus .cipher = none ∧ s.mayUseSlot fn (c.le 16 2) = false)
    ∧ (∃ (fn : Nat) (tag : Nat) (c : Cmd) (s : State),
      Offered s fn tag 0x0A01 c ∧ s.gated 11 = false ∧ c.le 16 2 < 16384 ∧ c.b 18 = 1 ∧ c.b 19 = 0 ∧ c.reservedOk [(16, 4)] = true ∧ s.unitStatus .cipher = none ∧ s.mayUseSlot fn (c.le 16 2) = true ∧ (s.slot (c.le 16 2)).waiting = [] ∧ (s.slot (c.le 16 2)).erasing = none ∧ (s.slot (c.le 16 2)).cur = none ∧ (s.slot (c.le 16 2)).ret = none)
    ∧ (∃ (fn : Nat) (tag : Nat) (c : Cmd) (s : State),
      Offered s fn tag 0x0A01 c ∧ s.gated 11 = false ∧ c.le 16 2 < 16384 ∧ c.b 18 = 1 ∧ c.b 19 = 0 ∧ c.reservedOk [(16, 4)] = true ∧ s.unitStatus .cipher = none ∧ s.mayUseSlot fn (c.le 16 2) = true ∧ (s.slot (c.le 16 2)).waiting = [] ∧ (s.slot (c.le 16 2)).erasing = none ∧ ((s.slot (c.le 16 2)).cur ≠ none ∨ (s.slot (c.le 16 2)).ret ≠ none))
    ∧ (∃ (fn : Nat) (tag : Nat) (c : Cmd) (s : State),
      Offered s fn tag 0x0A01 c ∧ s.gated 11 = false ∧ c.le 16 2 < 16384 ∧ c.b 18 = 1 ∧ c.b 19 = 0 ∧ c.reservedOk [(16, 4)] = true ∧ s.unitStatus .cipher = none ∧ s.mayUseSlot fn (c.le 16 2) = true ∧ ((s.slot (c.le 16 2)).waiting ≠ [] ∨ (s.slot (c.le 16 2)).erasing ≠ none))
    ∧ (∃ (slot : Nat) (w : KeyWait) (rest : List KeyWait) (b : List Byte) (s : State),
      (s.slot slot).waiting = w :: rest ∧ w.block = some b ∧ (s.slot slot).erasing = none ∧ (s.slot slot).ret = none)
    ∧ (∃ (slot : Nat) (w : KeyWait) (rest : List KeyWait) (b : List Byte) (s : State),
      (s.slot slot).waiting = w :: rest ∧ w.block = some b ∧ (s.slot slot).ret ≠ none ∧ s.sameKey slot w.suite b = false)
    ∧ (∃ (slot : Nat) (fn : Nat) (tag : Nat) (s : State),
      (s.slot slot).erasing = some (fn, tag) ∧ s.cipher.ops.any (fun o => o.2.slot == slot) = false)
    ∧ (∃ (slot : Nat) (s : State),
      s.cipher.ops.any (fun o => o.2.slot == slot) = true)
    ∧ (∃ (fn : Nat) (tag : Nat) (op : Nat) (i : Instr) (c : Cmd) (g : KeyGen) (b : List Byte) (s : State),
      Offered s fn tag 0x0A10 c ∧ s.gated 11 = false ∧ (op, i) ∈ [(0, Instr.cphCryptGcmEncrypt fn tag (some b)), (1, .cphCryptGcmDecrypt fn tag (some b)), (2, .cphCryptCcmEncrypt fn tag (some b)), (3, .cphCryptCcmDecrypt fn tag (some b))] ∧ c.b 18 = op ∧ c.le 16 2 < 16384 ∧ (op ≤ 1 → 12 ≤ c.b 19 ∧ c.b 19 ≤ 16 ∧ c.b 20 = 12) ∧ (2 ≤ op → 4 ≤ c.b 19 ∧ c.b 19 ≤ 16 ∧ c.b 19 % 2 = 0 ∧ 7 ≤ c.b 20 ∧ c.b 20 ≤ 13 ∧ c.le 28 4 < 2 ^ (8 * (15 - c.b 20))) ∧ c.le 24 4 ≤ 4096 ∧ c.le 28 4 ≤ 65536 ∧ 1 ≤ c.le 24 4 + c.le 28 4 ∧ c.le 32 8 = c.le 40 8 ∧ c.reservedOk [(16, 5), (24, 37)] = true ∧ s.unitStatus .cipher = none ∧ s.mayUseSlot fn (c.le 16 2) = true ∧ s.bindGen (c.le 16 2) = some g ∧ (g.suite = 0x30 ∨ g.suite = 0x31) ∧ g.locked = false ∧ s.cphRoom = true)
    ∧ (∃ (fn : Nat) (tag : Nat) (c : Cmd) (g : KeyGen) (b : List Byte) (s : State),
      Offered s fn tag 0x0A10 c ∧ s.gated 11 = false ∧ c.b 18 = 4 ∧ c.le 16 2 < 16384 ∧ 12 ≤ c.b 19 ∧ c.b 19 ≤ 16 ∧ c.b 20 = 12 ∧ c.le 24 4 ≤ 4096 ∧ c.le 28 4 ≤ 65536 ∧ 1 ≤ c.le 24 4 + c.le 28 4 ∧ c.le 32 8 = c.le 40 8 ∧ c.reservedOk [(16, 5), (24, 37)] = true ∧ s.unitStatus .cipher = none ∧ s.mayUseSlot fn (c.le 16 2) = true ∧ s.bindGen (c.le 16 2) = some g ∧ (g.suite = 0x30 ∨ g.suite = 0x31) ∧ g.locked = false ∧ s.cphRoom = true ∧ g.tx < finalValue g.suite)
    ∧ (∃ (op : Nat) (fn : Nat) (tag : Nat) (o : CphOp) (b : List Byte) (c : Cmd) (s : State),
      Tab.get? s.cipher.ops op = some o ∧ o.service = some (fn, tag) ∧ s.cmd? fn tag = some c ∧ o.out = some b)
    ∧ (∃ (op : Nat) (fn : Nat) (tag : Nat) (o : CphOp) (c : Cmd) (s : State),
      Tab.get? s.cipher.ops op = some o ∧ o.service = some (fn, tag) ∧ s.cmd? fn tag = some c ∧ o.out = none)
    ∧ (∃ (op : Nat) (o : CphOp) (s : State),
      Tab.get? s.cipher.ops op = some o ∧ o.service = none ∧ (∀ e ∈ s.cipher.ops, e.1 = op ∨ e.2.slot ≠ o.slot)) :=
  ⟨⟨0, 7, mkCmd 0 7 0x0A01 [(16, 2, 3), (19, 1, 0x30), (24, 8, 0x1000)], fields 64 [(0, 8, 77)], ⟨0, 0, 15, 0, 16384⟩, offer live (mkCmd 0 7 0x0A01 [(16, 2, 3), (19, 1, 0x30), (24, 8, 0x1000)]),
      offered_of (by decide +kernel), by decide +kernel⟩,
    ⟨1, 7, mkCmd 1 7 0x0A01 [(16, 2, 3), (19, 1, 0x30), (24, 8, 0x1000)], fields 64 [(0, 8, 77)], offer live (mkCmd 1 7 0x0A01 [(16, 2, 3), (19, 1, 0x30), (24, 8, 0x1000)]),
      offered_of (by decide +kernel), by decide +kernel⟩,
    ⟨0, 7, mkCmd 0 7 0x0A01 [(16, 2, 3), (18, 1, 1)], offer live (mkCmd 0 7 0x0A01 [(16, 2, 3), (18, 1, 1)]),
      offered_of (by decide +kernel), by decide +kernel⟩,
    ⟨0, 7, mkCmd 0 7 0x0A01 [(16, 2, 3), (18, 1, 1)], offer (keyed { gen := 1, cur := some svcKey } []) (mkCmd 0 7 0x0A01 [(16, 2, 3), (18, 1, 1)]),
      offered_of (by decide +kernel), by decide +kernel⟩,
    ⟨0, 7, mkCmd 0 7 0x0A01 [(16, 2, 3), (18, 1, 1)], offer (keyed { gen := 1, cur := some svcKey, waiting := [⟨0, 8, 0x30, some (fields 64 [(0, 8, 77)])⟩] } []) (mkCmd 0 7 0x0A01 [(16, 2, 3), (18, 1, 1)]),
      offered_of (by decide +kernel), by decide +kernel⟩,
    ⟨3, ⟨0, 7, 0x30, some (fields 64 [(0, 8, 77)])⟩, [], fields 64 [(0, 8, 77)], keyed { gen := 1, cur := some svcKey, waiting := [⟨0, 7, 0x30, some (fields 64 [(0, 8, 77)])⟩] } [],
      by decide +kernel⟩,
    ⟨3, ⟨0, 7, 0x30, some (fields 64 [(0, 8, 77)])⟩, [], fields 64 [(0, 8, 77)], keyed { gen := 2, cur := some { svcKey with gen := 2 }, ret := some svcKey, waiting := [⟨0, 7, 0x30, some (fields 64 [(0, 8, 77)])⟩] } [],
      by decide +kernel⟩,
    ⟨3, 0, 7, offer (keyed { gen := 1, cur := some svcKey, erasing := some (0, 7) } []) { mkCmd 0 7 0x0A01 [(16, 2, 3), (18, 1, 1)] with stage := .admitted },
      by decide +kernel⟩,
    ⟨3, keyed { gen := 1, cur := some svcKey, erasing := some (0, 7) } [(0, { slot := 3, gen := 1 })],
      by decide +kernel⟩,
    ⟨0, 7, 0, .cphCryptGcmEncrypt 0 7 (some (List.replicate 16 0)), mkCmd 0 7 0x0A10 [(16, 2, 3), (19, 1, 16), (20, 1, 12), (28, 4, 16), (32, 8, 0x1000), (40, 8, 0x1000)], svcKey, List.replicate 16 0, offer (keyed { gen := 1, cur := some svcKey } []) (mkCmd 0 7 0x0A10 [(16, 2, 3), (19, 1, 16), (20, 1, 12), (28, 4, 16), (32, 8, 0x1000), (40, 8, 0x1000)]),
      offered_of (by decide +kernel), by decide +kernel⟩,
    ⟨0, 7, mkCmd 0 7 0x0A10 [(16, 2, 3), (18, 1, 4), (19, 1, 16), (20, 1, 12), (28, 4, 16), (32, 8, 0x1000), (40, 8, 0x1000)], svcKey, List.replicate 16 0, offer (keyed { gen := 1, cur := some svcKey } []) (mkCmd 0 7 0x0A10 [(16, 2, 3), (18, 1, 4), (19, 1, 16), (20, 1, 12), (28, 4, 16), (32, 8, 0x1000), (40, 8, 0x1000)]),
      offered_of (by decide +kernel), by decide +kernel⟩,
    ⟨0, 0, 7, { slot := 3, gen := 1, service := some (0, 7), dst := 0x2000, out := some [1, 2], counter := 5 }, [1, 2], { mkCmd 0 7 0x0A10 [(16, 2, 3)] with stage := .admitted }, offer (keyed { gen := 1, cur := some svcKey } [(0, { slot := 3, gen := 1, service := some (0, 7), dst := 0x2000, out := some [1, 2], counter := 5 })]) { mkCmd 0 7 0x0A10 [(16, 2, 3)] with stage := .admitted },
      by decide +kernel⟩,
    ⟨0, 0, 7, { slot := 3, gen := 1, service := some (0, 7), dst := 0x2000 }, { mkCmd 0 7 0x0A10 [(16, 2, 3)] with stage := .admitted }, offer (keyed { gen := 1, cur := some svcKey } [(0, { slot := 3, gen := 1, service := some (0, 7), dst := 0x2000 })]) { mkCmd 0 7 0x0A10 [(16, 2, 3)] with stage := .admitted },
      by decide +kernel⟩,
    ⟨0, { slot := 3, gen := 1 }, keyed { gen := 2, cur := some { svcKey with gen := 2 }, ret := some svcKey } [(0, { slot := 3, gen := 1 })],
      by decide +kernel⟩⟩

theorem witness_WiredPorts :
    (∃ (sub : Nat) (bytes : List Byte) (ok : Bool) (sec : Option EthSec) (s : State),
      s.subUp sub = false)
    ∧ (∃ (sub : Nat) (bytes : List Byte) (ok : Bool) (s : State),
      s.subUp sub = true ∧ s.secWaits sub bytes false = false ∧ bytes.length + 4 ≤ s.maxFrame sub ∧ ok = true ∧ bytes.length + 4 < 64)
    ∧ (∃ (sub : Nat) (bytes : List Byte) (ok : Bool) (s : State),
      s.subUp sub = true ∧ s.secWaits sub bytes false = false ∧ s.maxFrame sub < bytes.length + 4)
    ∧ (∃ (sub : Nat) (bytes : List Byte) (ok : Bool) (s : State),
      s.subUp sub = true ∧ s.secWaits sub bytes false = false ∧ bytes.length + 4 ≤ s.maxFrame sub ∧ ok = false)
    ∧ (∃ (sub : Nat) (bytes : List Byte) (s : State),
      s.subUp sub = true ∧ 60 ≤ bytes.length ∧ bytes.length + 4 ≤ s.maxFrame sub ∧ fieldBE bytes 12 2 ≠ 0x8808 ∧ s.filterPass sub bytes = true ∧ s.macsec sub = none ∧ s.inService .pkt = true ∧ s.gated 10 = false ∧ s.cstTakes sub bytes = false ∧ s.ptpTakes sub bytes = false ∧ (Tab.getD s.fifos sub []).length < 256)
    ∧ (∃ (sub : Nat) (bytes : List Byte) (s : State),
      s.subUp sub = true ∧ 60 ≤ bytes.length ∧ bytes.length + 4 ≤ s.maxFrame sub ∧ fieldBE bytes 12 2 ≠ 0x8808 ∧ s.filterPass sub bytes = true ∧ s.macsec sub = none ∧ (s.cstTakes sub bytes = true ∨ s.ptpTakes sub bytes = true))
    ∧ (∃ (sub : Nat) (bytes : List Byte) (ok : Bool) (c : EthSec) (s : State),
      (s.macsec sub).isSome = true ∧ s.inService .cipher = true ∧ s.cphRoom = false)
    ∧ (∃ (sub : Nat) (f : WireFrame) (rest : List WireFrame) (s : State),
      s.subUp sub = true ∧ s.inService .pkt = true ∧ Tab.get? s.eth.tx sub = none ∧ Tab.getD s.wired (sub * 8 + 7) [] = f :: rest ∧ s.dramLost f.dram = false ∧ s.get ⟨0x2401400 + 0x20 * sub + 4 * 7, 19, 0⟩ = 0 ∧ (∀ l, (gateListOf s.reg sub).longest 7 = some l → s.wireTime sub f ≤ l) ∧ s.gatePass sub 7 (s.wireTime sub f) = true ∧ (s.shpRate (sub * 8 + 7) = 0 ∨ 0 ≤ s.credit (sub * 8 + 7)) ∧ s.macsec sub = none)
    ∧ (∃ (sub : Nat) (x : EthTx) (s : State),
      Tab.get? s.eth.tx sub = some x ∧ s.elapsed < x.endAt ∧ x.cut = false)
    ∧ (∃ (sub : Nat) (x : EthTx) (s : State),
      Tab.get? s.eth.tx sub = some x ∧ x.cut = false ∧ s.elapsed < x.endAt ∧ x.frame.dram ≠ 0 ∧ s.get ⟨ethBase (portOf sub).1 + 0xC, 13, 0⟩ < x.frame.len)
    ∧ (∃ (sub : Nat) (speed : Nat) (s : State),
      s.subExists sub = true ∧ s.inService (.port (portOf sub).1) = true ∧ (speed = 0 ∨ s.linkSpeed sub speed = true))
    ∧ (∃ (sub : Nat) (speed : Nat) (s : State),
      s.subExists sub = true ∧ s.inService (.port (portOf sub).1) = true ∧ (speed = 0 ∨ s.linkSpeed sub speed = true) ∧ Tab.getD s.eth.links sub 0 = speed)
    ∧ (∃ (tag : Nat) (c : Cmd) (s : State),
      Offered s 0 tag 0x0C10 c ∧ s.gated (16 + c.b 16 / 4 % 2) = false ∧ c.b 17 = 0 ∧ c.b 16 ≤ 7 ∧ c.b 18 ≤ 15 ∧ c.le 20 2 ≤ 16383 ∧ c.reservedOk [(16, 3), (20, 2), (24, 8)] = true ∧ s.unitStatus (.port (c.b 16 / 4)) = none)
    ∧ (∃ (tag : Nat) (c : Cmd) (s : State),
      Offered s 0 tag 0x0C10 c ∧ s.gated (16 + c.b 16 / 4 % 2) = false ∧ c.b 17 = 1 ∧ c.b 16 ≤ 7 ∧ c.b 18 ≤ 15 ∧ c.le 20 2 ≤ 16383 ∧ c.reservedOk [(16, 3), (20, 2), (24, 8)] = true ∧ s.unitStatus (.port (c.b 16 / 4)) = none)
    ∧ (∃ (tag : Nat) (c : Cmd) (s : State),
      Offered s 0 tag 0x0C10 c ∧ s.gated (16 + c.b 16 / 4 % 2) = false ∧ c.b 17 = 3 ∧ c.b 16 ≤ 7 ∧ c.b 18 ≤ 15 ∧ c.le 20 2 ≤ 16383 ∧ c.reservedOk [(16, 3), (20, 2), (24, 8)] = true ∧ s.unitStatus (.port (c.b 16 / 4)) = none) :=
  ⟨⟨0, dataFrame, true, none, live,
      by decide +kernel⟩,
    ⟨0, dataFrame.take 59, true, ported,
      by decide +kernel⟩,
    ⟨0, dataFrame, false, words ported [(0x3400008, 67)],
      by decide +kernel⟩,
    ⟨0, dataFrame, false, ported,
      by decide +kernel⟩,
    ⟨0, dataFrame, ported,
      by decide +kernel⟩,
    ⟨0, datagram, recs ported [(0x0701, fields 40 [(0, 4, 9), (6, 2, 0x1234), (24, 4, 0x0900000A)])],
      by decide +kernel⟩,
    ⟨0, dataFrame, true, ⟨9, 0, 1, 24, true, 0⟩, { recs ported [(0x0C04, fields 20 [(1, 1, 1)])] with cipher := { ops := (List.range 1024).map fun i => (i, { slot := 3, gen := 1 }) } },
      by decide +kernel⟩,
    ⟨0, wired, [], { ported with wired := [(7, [wired])] },
      by decide +kernel⟩,
    ⟨0, ⟨wired, 6999999999, 7000000001, false⟩, { ported with eth := { links := [(0, 7)], tx := [(0, ⟨wired, 6999999999, 7000000001, false⟩)] } },
      by decide +kernel⟩,
    ⟨0, ⟨{ wired with dram := 1 }, 6999999999, 7000000001, false⟩, { ported with eth := { links := [(0, 7)], tx := [(0, ⟨{ wired with dram := 1 }, 6999999999, 7000000001, false⟩)] } },
      by decide +kernel⟩,
    ⟨0, 7, { ported with eth := {} },
      by decide +kernel⟩,
    ⟨0, 7, ported,
      by decide +kernel⟩,
    ⟨7, mkCmd 0 7 0x0C10 [(16, 1, 7), (18, 1, 15), (20, 2, 16383)], offer live (mkCmd 0 7 0x0C10 [(16, 1, 7), (18, 1, 15), (20, 2, 16383)]),
      offered_of (by decide +kernel), by decide +kernel⟩,
    ⟨7, mkCmd 0 7 0x0C10 [(16, 1, 7), (17, 1, 1), (18, 1, 15), (20, 2, 16383)], offer live (mkCmd 0 7 0x0C10 [(16, 1, 7), (17, 1, 1), (18, 1, 15), (20, 2, 16383)]),
      offered_of (by decide +kernel), by decide +kernel⟩,
    ⟨7, mkCmd 0 7 0x0C10 [(16, 1, 7), (17, 1, 3), (18, 1, 15)], { offer live (mkCmd 0 7 0x0C10 [(16, 1, 7), (17, 1, 3), (18, 1, 15)]) with eth := { rxSa := [(127, (3, 0))] } },
      offered_of (by decide +kernel), by decide +kernel⟩⟩

theorem witness_TileLinks :
    (∃ (r : Requester) (k : Nat) (v : Word) (s : State),
      k ≤ 11 ∧ Mapped s r ∧ Clocked s (tlCtrl k) ∧ bitsOf v.toNat 4 3 = 3)
    ∧ (∃ (r : Requester) (k : Nat) (v : Word) (s : State),
      k ≤ 11 ∧ Mapped s r ∧ Clocked s (tlCtrl k) ∧ bitsOf v.toNat 4 3 ≠ 3 ∧ v.getLsbD 1 = true ∧ (s.tile k).state = .up ∧ s.bind k ≠ none)
    ∧ (∃ (r : Requester) (k : Nat) (v : Word) (s : State),
      k ≤ 11 ∧ Mapped s r ∧ Clocked s (tlCtrl k) ∧ bitsOf v.toNat 4 3 ≠ 3 ∧ v.getLsbD 0 = true ∧ (s.tile k).state = .down)
    ∧ (∃ (r : Requester) (k : Nat) (v : Word) (s : State),
      k ≤ 11 ∧ Mapped s r ∧ Clocked s (tlCtrl k) ∧ bitsOf v.toNat 4 3 ≠ 3 ∧ v.getLsbD 1 = true ∧ (s.tile k).state = .down)
    ∧ (∃ (r : Requester) (k : Nat) (v : Word) (s : State),
      k ≤ 11 ∧ Mapped s r ∧ Clocked s (tlCtrl k) ∧ bitsOf v.toNat 4 3 ≠ 3 ∧ v.getLsbD 2 = true ∧ (s.tile k).state = .test)
    ∧ (∃ (k : Nat) (i : TileInfo) (s : State),
      (s.tile k).state = .training ∧ s.gated (32 + k) = false ∧ s.elapsed ≤ (s.tile k).from_ + us 100 * stepBound (s.tile k).step ∧ (s.tile k).step ∈ [1, 2, 3, 4, 5, 6])
    ∧ (∃ (k : Nat) (i : TileInfo) (s : State),
      (s.tile k).state = .training ∧ s.gated (32 + k) = false ∧ s.elapsed ≤ (s.tile k).from_ + us 100 * stepBound (s.tile k).step ∧ (s.tile k).step = 7 ∧ i.version = 1 ∧ i.counts / 65536 % 256 ≠ 0)
    ∧ (∃ (k : Nat) (i : TileInfo) (s : State),
      (s.tile k).state = .training ∧ s.gated (32 + k) = false ∧ s.elapsed ≤ (s.tile k).from_ + us 100 * stepBound (s.tile k).step ∧ (s.tile k).step = 8 ∧ (s.unit (3 + k)).held = none)
    ∧ (∃ (k : Nat) (s : State),
      (s.tile k).state = .training ∧ (s.tile k).from_ + us 100 * stepBound (s.tile k).step < s.elapsed ∧ (s.tile k).attempts < 3)
    ∧ (∃ (k : Nat) (s : State),
      (s.tile k).state = .training ∧ (s.tile k).from_ + us 100 * stepBound (s.tile k).step < s.elapsed ∧ 3 ≤ (s.tile k).attempts)
    ∧ (∃ (k : Nat) (ctl : List Byte) (bad : Nat) (s : State),
      (s.tile k).state = .up ∧ bitOf (fieldLE ctl 1 1) 2 = true)
    ∧ (∃ (k : Nat) (ctl : List Byte) (bad : Nat) (s : State),
      (s.tile k).state = .up ∧ bitOf (fieldLE ctl 1 1) 2 = false)
    ∧ (∃ (k : Nat) (m : TileMsg) (b : List Byte) (s : State),
      (s.tile k).state = .up ∧ (s.tile k).inMsg = false ∧ (s.tile k).rx = b ∧ 5 ≤ b.length ∧ fieldLE b 0 1 = 0x81 ∧ fieldLE b 1 1 = 1 ∧ fieldLE b 3 2 = crc16 (b.take 3) ∧ (s.tile k).msgs.find? (fun m => m.type == fieldLE (slice b 2 1) 0 1) = some m)
    ∧ (∃ (k : Nat) (s : State),
      ((s.tile k).state ≠ .up ∨ (s.tile k).inMsg = true ∨ (s.tile k).rx = []))
    ∧ (∃ (k : Nat) (m : TileMsg) (s : State),
      (s.tile k).state = .up ∧ (s.tile k).msgs.find? (fun m => decide (m.at_ + us 20 ≤ s.elapsed)) = some m ∧ m.sent = 1)
    ∧ (∃ (k : Nat) (lane : Nat) (m : TileMsg) (c : Instr) (s : State),
      k ≤ 11 ∧ (s.tile k).state = .up ∧ (s.unit (3 + k)).held = none ∧ ((c = .tlCtlAckTimeout k ∧ (s.tile k).msgs.find? (fun m => decide (m.at_ + us 20 ≤ s.elapsed)) = some m ∧ m.sent ≠ 1) ∨ (c = .tlBlockLockLost k lane ∧ lane ≤ 4) ∨ c = .tlWander k))
    ∧ (∃ (k : Nat) (lane : Nat) (m : TileMsg) (c : Instr) (s : State),
      k ≤ 11 ∧ (s.tile k).state = .up ∧ (s.unit (3 + k)).held = none ∧ ((c = .tlCtlAckTimeout k ∧ (s.tile k).msgs.find? (fun m => decide (m.at_ + us 20 ≤ s.elapsed)) = some m ∧ m.sent ≠ 1) ∨ (c = .tlBlockLockLost k lane ∧ lane ≤ 4) ∨ c = .tlWander k))
    ∧ (∃ (k : Nat) (lane : Nat) (m : TileMsg) (c : Instr) (s : State),
      k ≤ 11 ∧ (s.tile k).state = .up ∧ (s.unit (3 + k)).held = none ∧ ((c = .tlCtlAckTimeout k ∧ (s.tile k).msgs.find? (fun m => decide (m.at_ + us 20 ≤ s.elapsed)) = some m ∧ m.sent ≠ 1) ∨ (c = .tlBlockLockLost k lane ∧ lane ≤ 4) ∨ c = .tlWander k))
    ∧ (∃ (r : Nat) (of_ : LaunchOf) (l : Launch) (s : State),
      (s.radio r).launches.find? (fun l => l.of_ == of_ && l.outcome.isNone && !l.onAir) = some l) :=
  ⟨⟨.pf, 11, 0x19#32, live,
      by decide +kernel, mapped_of rfl, clocked_of (by decide +kernel), by decide +kernel⟩,
    ⟨.pf, 0, 2#32, words (linked { state := .up }) [(0x3800008, 1)],
      by decide +kernel, mapped_of rfl, clocked_of (by decide +kernel), by decide +kernel⟩,
    ⟨.pf, 0, 1#32, live,
      by decide +kernel, mapped_of rfl, clocked_of (by decide +kernel), by decide +kernel⟩,
    ⟨.cpu, 11, 0x12#32, live,
      by decide +kernel, mapped_of rfl, clocked_of (by decide +kernel), by decide +kernel⟩,
    ⟨.pf, 0, 4#32, linked { state := .test },
      by decide +kernel, mapped_of rfl, clocked_of (by decide +kernel), by decide +kernel⟩,
    ⟨0, ⟨0x10000, 0, 0, [], 0, 1, []⟩, linked { state := .training, step := 1, from_ := 6999999999 },
      by decide +kernel⟩,
    ⟨0, ⟨0x10000, 0, 0, [], 0, 1, []⟩, linked { state := .training, step := 7, from_ := 6999999999 },
      by decide +kernel⟩,
    ⟨0, ⟨0x10000, 0, 0, [], 0, 1, []⟩, linked { state := .training, step := 8, from_ := 6999999999 },
      by decide +kernel⟩,
    ⟨0, linked { state := .training, step := 8, attempts := 2 },
      by decide +kernel⟩,
    ⟨0, linked { state := .training, step := 1, attempts := 3 },
      by decide +kernel⟩,
    ⟨0, [0, 0x1C], 0, linked { state := .up, lock := some 1 },
      by decide +kernel⟩,
    ⟨0, [0, 0], 0, linked { state := .up, lock := some 1 },
      by decide +kernel⟩,
    ⟨0, ⟨2, [], 1, 0, none⟩, [0x81, 1, 2] ++ leBytes 2 (crc16 [0x81, 1, 2]), linked { state := .up, rx := [0x81, 1, 2] ++ leBytes 2 (crc16 [0x81, 1, 2]), msgs := [⟨2, [], 1, 0, none⟩] },
      by decide +kernel⟩,
    ⟨0, linked { state := .up },
      by decide +kernel⟩,
    ⟨0, ⟨2, [], 1, 0, none⟩, linked { state := .up, msgs := [⟨2, [], 1, 0, none⟩] },
      by decide +kernel⟩,
    ⟨0, 0, ⟨2, [], 2, 0, none⟩, .tlCtlAckTimeout 0, linked { state := .up, msgs := [⟨2, [], 2, 0, none⟩] },
      by decide +kernel⟩,
    ⟨0, 4, ⟨2, [], 2, 0, none⟩, .tlBlockLockLost 0 4, linked { state := .up },
      by decide +kernel⟩,
    ⟨11, 0, ⟨2, [], 2, 0, none⟩, .tlWander 11, { live with tiles := [(11, { state := .up })] },
      by decide +kernel⟩,
    ⟨0, .plan 0, { of_ := .plan 0, t := 10005100000, air := 100000, chains := [0] }, { aired with radios := [(0, { launches := [{ of_ := .plan 0, t := 10005100000, air := 100000, chains := [0] }] })] },
      by decide +kernel⟩⟩

theorem witness_DramController :
    (∃ (p : Nat) (g : Nat) (off : Nat) (w : Bool) (b : List Byte) (s : State),
      p ≤ 7 ∧ g < s.granuleCount ∧ (w = true → b ≠ [] ∧ off + b.length ≤ 64) ∧ s.gated (20 + channelOf g) = false ∧ s.inService (.dram (channelOf g)) = true ∧ (s.dch (channelOf g)).room p = true ∧ Tab.getD s.dram.waiting (channelOf g * 8 + p) [] = [])
    ∧ (∃ (p : Nat) (g : Nat) (off : Nat) (w : Bool) (b : List Byte) (s : State),
      p ≤ 7 ∧ g < s.granuleCount ∧ (w = true → b ≠ [] ∧ off + b.length ≤ 64) ∧ s.gated (20 + channelOf g) = false ∧ s.inService (.dram (channelOf g)) = false)
    ∧ (∃ (p : Nat) (g : Nat) (off : Nat) (w : Bool) (b : List Byte) (s : State),
      p ≤ 7 ∧ g < s.granuleCount ∧ (w = true → b ≠ [] ∧ off + b.length ≤ 64) ∧ s.gated (20 + channelOf g) = true)
    ∧ (∃ (c : Nat) (banks : Nat) (q : DramReq) (s : State),
      s.inService (.dram c) = true ∧ (s.dch c).pause = none ∧ s.dramPick c banks = some q ∧ (q.write = false ∨ q.whole = false))
    ∧ (∃ (c : Nat) (banks : Nat) (q : DramReq) (s : State),
      s.inService (.dram c) = true ∧ (s.dch c).pause = none ∧ s.dramPick c banks = some q ∧ q.write = true ∧ q.whole = true ∧ (∀ p, p < 8 → Tab.getD s.dram.waiting (c * 8 + p) [] = []) ∧ q.data.length = 64 ∧ (s.granule q.granule).length = 64)
    ∧ (∃ (c : Nat) (banks : Nat) (s : State),
      (s.inService (.dram c) = false ∨ (s.dch c).pause ≠ none ∨ s.dramPick c banks = none))
    ∧ (∃ (c : Nat) (g : Nat) (sym : Nat) (rank : Nat) (sc : Nat) (q : DramReq) (s : State),
      (s.dch c).queue.find? (fun q => q.sent && q.granule == g) = some q ∧ sym = 0)
    ∧ (∃ (c : Nat) (g : Nat) (sym : Nat) (rank : Nat) (sc : Nat) (q : DramReq) (s : State),
      (s.dch c).queue.find? (fun q => q.sent && q.granule == g) = some q ∧ sym = 1)
    ∧ (∃ (c : Nat) (g : Nat) (sym : Nat) (rank : Nat) (sc : Nat) (q : DramReq) (s : State),
      (s.dch c).queue.find? (fun q => q.sent && q.granule == g) = some q ∧ 2 ≤ sym)
    ∧ (∃ (c : Nat) (s : State),
      s.inService (.dram c) = true ∧ (∀ d, d < 4 ∨ d = c → (s.dch d).pause = none) ∧ (s.dch c).checkAt ≤ s.elapsed ∧ ((∀ q ∈ (s.dch c).queue, q.sent = true ∨ s.urgency q ≠ 3) ∨ (s.dch c).checkAt + us 50 ≤ s.elapsed))
    ∧ (∃ (c : Nat) (t0 : Nat) (drift : Int) (s : State),
      (s.dch c).pause = some t0 ∧ (s.elapsed - t0) * 5 / 3 ≤ 1200)
    ∧ (∃ (c : Nat) (t0 : Nat) (drift : Int) (s : State),
      c < 4 ∧ (s.dch c).pause = some t0 ∧ 1200 < (s.elapsed - t0) * 5 / 3 ∧ (s.unit (21 + c)).held = none)
    ∧ (∃ (fast : Nat) (slow : Nat) (s : State),
      s.recBytes 0x0D01 ≠ [] ∧ (∀ c, c < 4 → s.flag (clkSt (20 + c)) = true) ∧ (∃ c, c < 4 ∧ ((s.dch c).trained = false ∨ (s.dch c).selfRefresh = true)) ∧ (∀ c, c < 4 → bitOf fast c = true ∧ bitOf slow c = true))
    ∧ (∃ (fast : Nat) (slow : Nat) (s : State),
      s.recBytes 0x0D01 ≠ [] ∧ (∀ c, c < 4 → s.flag (clkSt (20 + c)) = true) ∧ (∃ c, c < 4 ∧ ((s.dch c).trained = false ∨ (s.dch c).selfRefresh = true)) ∧ (∃ c, c < 4 ∧ (bitOf fast c = false ∨ bitOf slow c = false)))
    ∧ (∃ (c : Nat) (s : State),
      (s.dch c).retraining = true ∧ (s.unit (21 + c)).phase = .reset ∧ (s.unit (21 + c)).held = none) :=
  ⟨⟨7, 0, 0, false, [], channelled {},
      by decide +kernel⟩,
    ⟨7, 59, 60, true, [1, 2, 3, 4], recs { live with units := [] } [(0x0D01, [0, 16])],
      by decide +kernel⟩,
    ⟨7, 59, 60, true, [1, 2, 3, 4], recs .reset [(0x0D01, [0, 16])],
      by decide +kernel⟩,
    ⟨0, 1, ⟨0, 0, 0, 5, false, false, 0, 0, false, 0, []⟩, channelled { queue := [⟨0, 0, 0, 5, false, false, 0, 0, false, 0, []⟩, ⟨1, 15, 1, 6, false, false, 0, 1, false, 0, []⟩] },
      by decide +kernel⟩,
    ⟨0, 1, ⟨0, 0, 0, 5, true, true, 0, 0, false, 0, List.replicate 64 7⟩, channelled { queue := [⟨0, 0, 0, 5, true, true, 0, 0, false, 0, List.replicate 64 7⟩, ⟨1, 15, 1, 6, false, false, 0, 1, false, 0, []⟩] },
      by decide +kernel⟩,
    ⟨0, 15, channelled {},
      by decide +kernel⟩,
    ⟨0, 0, 0, 1, 1, ⟨0, 0, 0, 5, false, false, 0, 0, true, 0, []⟩, channelled { queue := [⟨0, 0, 0, 5, false, false, 0, 0, true, 0, []⟩] },
      by decide +kernel⟩,
    ⟨0, 0, 1, 1, 1, ⟨0, 0, 0, 5, false, false, 0, 0, true, 0, []⟩, channelled { queue := [⟨0, 0, 0, 5, false, false, 0, 0, true, 0, []⟩] },
      by decide +kernel⟩,
    ⟨0, 0, 2, 1, 1, ⟨0, 0, 0, 5, false, false, 0, 0, true, 0, []⟩, channelled { queue := [⟨0, 0, 0, 5, false, false, 0, 0, true, 0, []⟩] },
      by decide +kernel⟩,
    ⟨0, channelled { checkAt := 7000000000, queue := [⟨0, 0, 0, 5, false, false, 0, 0, true, 0, []⟩] },
      by decide +kernel, by rintro d (h | rfl) <;> [(revert d; decide +kernel); decide +kernel], by decide +kernel⟩,
    ⟨0, 6999999280, -200, channelled { pause := some 6999999280 },
      by decide +kernel⟩,
    ⟨0, 6999999279, 0, channelled { pause := some 6999999279 },
      by decide +kernel⟩,
    ⟨15, 15, recs { live with units := [] } [(0x0D01, [1])],
      by decide +kernel⟩,
    ⟨14, 15, recs { live with units := [] } [(0x0D01, [1])],
      by decide +kernel⟩,
    ⟨0, { channelled { retraining := true } with units := [] },
      by decide +kernel⟩⟩

theorem witness_PowerAndHolds :
    (∃ (i : Nat) (rest : List Nat) (s : State),
      s.power.queue = i :: rest ∧ (i < 32 ∨ s.domUp (bandDomain i) = true) ∧ Tab.has s.power.downing i = false ∧ s.ledgerBinds i s.tick10 = none)
    ∧ (∃ (i : Nat) (rest : List Nat) (s : State),
      s.power.queue = i :: rest ∧ s.ledgerBinds i s.tick10 ≠ none)
    ∧ (∃ (i : Nat) (a : Admitted) (s : State),
      i < 25 ∧ a ∈ s.power.ramping ∧ a.item = i ∧ a.upAt ≤ s.tick10)
    ∧ (∃ (i : Nat) (a : Admitted) (s : State),
      32 ≤ i ∧ a ∈ s.power.ramping ∧ a.item = i ∧ a.upAt ≤ s.tick10 ∧ Tab.has s.power.downing i = false)
    ∧ (∃ (i : Nat) (rest : List Nat) (s : State),
      s.power.queue = i :: rest ∧ s.power.headPosted = false ∧ s.power.headSince + ms 1 ≤ s.elapsed ∧ s.get ⟨0x400040, 15, 0⟩ < 65535)
    ∧ (∃ (s : State),
      (s.power.queue = [] ∨ s.power.headPosted = true))
    ∧ (∃ (i : Nat) (t0 : Nat) (s : State),
      i < 25 ∧ Tab.get? s.power.downing i = some t0 ∧ t0 * 5 + itemRamp i * 3 ≤ s.elapsed * 5)
    ∧ (∃ (amps : List Nat) (temps : List Int) (s : State),
      s.boot.state = .reset ∧ s.boot.wait ≠ .cooldown)
    ∧ (∃ (amps : List Nat) (s : State),
      s.boot.state ≠ .reset)
    ∧ (∃ (temps : List Int) (s : State),
      s.boot.state ≠ .reset ∧ s.boot.wait ≠ .cooldown ∧ (hottest temps).1 < 4 * (s.tTrip : Int))
    ∧ (∃ (temps : List Int) (s : State),
      s.boot.state ≠ .reset ∧ s.boot.wait ≠ .cooldown ∧ 4 * (s.tTrip : Int) ≤ (hottest temps).1)
    ∧ (∃ (thermal : Bool) (s : State),
      s.dormant.seq = .none ∧ ((if thermal = true then s.power.thermalFrom else s.power.powerFrom) + (if (if thermal = true then s.power.thermalHolds else s.power.powerHolds) = true then ms 10 else ms 100) ≤ s.elapsed))
    ∧ (∃ (thermal : Bool) (s : State),
      s.dormant.seq = .none ∧ ((if thermal = true then s.power.thermalFrom else s.power.powerFrom) + (if (if thermal = true then s.power.thermalHolds else s.power.powerHolds) = true then ms 10 else ms 100) ≤ s.elapsed))
    ∧ (∃ (thermal : Bool) (s : State),
      s.dormant.seq ≠ .none)
    ∧ (∃ (r : Requester) (hf : Bool) (v : Word) (i : Nat) (s : State),
      Mapped s r ∧ (i < (if hf = true then 16 else 26)) ∧ v.toNat = 2 ^ i)
    ∧ (∃ (r : Requester) (hf : Bool) (v : Word) (i : Nat) (s : State),
      Mapped s r ∧ (i < (if hf = true then 16 else 26)) ∧ v.toNat = 2 ^ i)
    ∧ (∃ (u : FUnit) (nt : Option Nat) (fr : Nat) (s : State),
      (s.unit u.idx).held = some (nt, fr) ∧ s.get ⟨0x400030, 31, 16⟩ ≠ 0 ∧ (match nt with | some t => if s.ntValid = true then t + s.get ⟨0x400030, 31, 16⟩ * 1000000000 ≤ s.ntNs else fr + s.get ⟨0x400030, 31, 16⟩ * 1000000000 ≤ s.frNs | none => fr + s.get ⟨0x400030, 31, 16⟩ * 1000000000 ≤ s.frNs))
    ∧ (∃ (u : FUnit) (nt : Option Nat) (fr : Nat) (s : State),
      (s.unit u.idx).held = some (nt, fr) ∧ s.get ⟨0x400030, 31, 16⟩ ≠ 0 ∧ (match nt with | some t => if s.ntValid = true then t + s.get ⟨0x400030, 31, 16⟩ * 1000000000 ≤ s.ntNs else fr + s.get ⟨0x400030, 31, 16⟩ * 1000000000 ≤ s.frNs | none => fr + s.get ⟨0x400030, 31, 16⟩ * 1000000000 ≤ s.frNs))
    ∧ (∃ (u : FUnit) (s : State),
      ((s.unit u.idx).held = none ∨ s.get ⟨0x400030, 31, 16⟩ = 0))
    ∧ (∃ (s : State),
      s.boot.resetN = false)
    ∧ (∃ (s : State),
      s.boot.resetN = true ∧ s.dormant.seq = .dormant) :=
  ⟨⟨24, [32], powered { queue := [24, 32] },
      by decide +kernel⟩,
    ⟨24, [], powered { queue := [24], limits := (List.range 16).map fun r => (r, (0, 0)) },
      by decide +kernel⟩,
    ⟨24, ⟨24, 0, 9⟩, powered { ramping := [⟨24, 0, 9⟩] },
      by decide +kernel⟩,
    ⟨32, ⟨32, 0, 9⟩, powered { ramping := [⟨32, 0, 9⟩] },
      by decide +kernel⟩,
    ⟨24, [], powered { queue := [24], headSince := 6999400000 },
      by decide +kernel⟩,
    ⟨live,
      by decide +kernel⟩,
    ⟨24, 0, powered { up := 0x1FFFFFF, downing := [(24, 0)] },
      by decide +kernel⟩,
    ⟨List.replicate 7 0, [], .reset,
      by decide +kernel⟩,
    ⟨List.replicate 7 0, live,
      by decide +kernel⟩,
    ⟨[100, 459], live,
      by decide +kernel⟩,
    ⟨[100, 460], live,
      by decide +kernel⟩,
    ⟨true, powered { thermalHolds := true, thermalFrom := 6994000000 },
      by decide +kernel⟩,
    ⟨false, powered { powerLevel := 3, powerFrom := 6940000000 },
      by decide +kernel⟩,
    ⟨true, { live with dormant := { seq := .entry 1 } },
      by decide +kernel⟩,
    ⟨.pf, false, 0x2000000#32, 25, live,
      mapped_of rfl, by decide +kernel⟩,
    ⟨.cpu, true, 0x8000#32, 15, live,
      mapped_of rfl, by decide +kernel⟩,
    ⟨.pkt, some 0, 0, { words live [(0x400030, 0x10000), (0x400034, 0x80000)] with units := [(19, { phase := .service, held := some (some 0, 0), faults := [1] })] },
      by decide +kernel⟩,
    ⟨.func 15, none, 1000000000, { words live [(0x400030, 0x10000), (0x400038, 0x8000)] with units := [(47, { held := some (none, 1000000000) })] },
      by decide +kernel⟩,
    ⟨.func 15, live,
      by decide +kernel⟩,
    ⟨.reset,
      by decide +kernel⟩,
    ⟨{ live with dormant := { seq := .dormant } },
      by decide +kernel⟩⟩

end Sys2Proof.Tests
end

section
/-! PROOFS. What replacing a field of a word does to its bits and to its other fields (01 R5). -/

namespace Sys2Proof

/-! ## Bit fields -/

/-- The model's bit of a natural is the library's. -/
theorem bitOf_eq_testBit (v i : Nat) : bitOf v i = v.testBit i := by
  rw [bitOf, Nat.testBit_eq_decide_div_mod_eq]; rfl

/-- A field of one bit is that bit. -/
theorem bitsOf_bit (v i : Nat) : bitsOf v i i = (v.testBit i).toNat := by
  rw [bitsOf, Nat.add_sub_cancel_left, Nat.toNat_testBit, pow_one]

/-- Bit i of a field is bit lo + i of the word, below the field's width. -/
theorem testBit_bitsOf (v hi lo i : Nat) :
    (bitsOf v hi lo).testBit i = (decide (i < hi + 1 - lo) && v.testBit (lo + i)) := by
  rw [bitsOf, Nat.testBit_mod_two_pow, Nat.testBit_div_two_pow, Nat.add_comm i]

/-- The place value above a field is that of its lowest bit times its range. -/
theorem two_pow_above {hi lo : Nat} (h : lo ≤ hi) : 2 ^ (hi + 1) = 2 ^ lo * 2 ^ (hi + 1 - lo) := by
  rw [← pow_add]
  congr 1
  omega

/-- A word is what lies above a field, the field, and what lies below it. -/
theorem split_bitsOf (n : Nat) {hi lo : Nat} (h : lo ≤ hi) :
    n = 2 ^ (hi + 1) * (n / 2 ^ (hi + 1)) + (2 ^ lo * bitsOf n hi lo + n % 2 ^ lo) := by
  have hm : n % 2 ^ (hi + 1) = n % 2 ^ lo + 2 ^ lo * bitsOf n hi lo := by rw [two_pow_above h, Nat.mod_mul, bitsOf]
  rw [Nat.add_comm (2 ^ lo * _), ← hm, Nat.div_add_mod]

/-- A field with what lies below it stays below the place above it. -/
theorem field_lt_above {hi lo x y : Nat} (h : lo ≤ hi) (hx : x < 2 ^ (hi + 1 - lo)) (hy : y < 2 ^ lo) :
    2 ^ lo * x + y < 2 ^ (hi + 1) := by
  have : 2 ^ lo * (x + 1) ≤ 2 ^ lo * 2 ^ (hi + 1 - lo) := Nat.mul_le_mul_left _ hx
  rw [← two_pow_above h, Nat.mul_add_one] at this
  omega

/-- A field replaced changes the bits between its ends and no other. -/
theorem testBit_setBits (w : Word) {hi lo : Nat} (v i : Nat) (h : lo ≤ hi) (hi32 : hi < 32) :
    (setBits w hi lo v).toNat.testBit i =
      if lo ≤ i ∧ i ≤ hi then v.testBit (i - lo) else w.toNat.testBit i := by
  have hlow : w.toNat % 2 ^ lo < 2 ^ lo := Nat.mod_lt _ (Nat.two_pow_pos lo)
  have hmid (x : Nat) := field_lt_above h (Nat.mod_lt x (Nat.two_pow_pos (hi + 1 - lo))) hlow
  have hset : w.toNat - bitsOf w.toNat hi lo * 2 ^ lo + v % 2 ^ (hi + 1 - lo) * 2 ^ lo
      = 2 ^ (hi + 1) * (w.toNat / 2 ^ (hi + 1)) + (2 ^ lo * (v % 2 ^ (hi + 1 - lo)) + w.toNat % 2 ^ lo) := by
    have := split_bitsOf w.toNat h
    rw [Nat.mul_comm (bitsOf _ _ _), Nat.mul_comm (v % _)]
    omega
  have hhigh : 32 ≤ i → w.toNat.testBit i = false := fun hi' =>
    Nat.testBit_lt_two_pow (w.isLt.trans_le (Nat.pow_le_pow_right (by decide) hi'))
  rw [setBits, BitVec.testBit_toNat, BitVec.getLsbD_ofNat, hset, Nat.testBit_two_pow_mul_add _ (hmid v),
    Nat.testBit_two_pow_mul_add _ hlow, Nat.testBit_mod_two_pow, Nat.testBit_mod_two_pow, Nat.testBit_div_two_pow]
  by_cases hbelow : i < lo
  · simp [hbelow, show ¬ lo ≤ i by omega, show i < 32 by omega, show i < hi + 1 by omega]
  · by_cases hin : i ≤ hi
    · simp [hbelow, hin, show lo ≤ i by omega, show i < 32 by omega, show i < hi + 1 by omega,
        show i - lo < hi + 1 - lo by omega]
    · rw [if_neg (by omega), if_neg (by omega), Nat.sub_add_cancel (by omega)]
      by_cases h32 : i < 32
      · simp [h32]
      · simp [h32, hhigh (by omega)]

/-- A field reads as the value put in it. -/
theorem bitsOf_setBits_self (w : Word) {hi lo : Nat} (v : Nat) (hlo : lo ≤ hi) (hi32 : hi < 32) :
    bitsOf (setBits w hi lo v).toNat hi lo = v % 2 ^ (hi + 1 - lo) := by
  refine Nat.eq_of_testBit_eq fun i => ?_
  rw [testBit_bitsOf, testBit_setBits _ _ _ hlo hi32, Nat.testBit_mod_two_pow, Nat.add_sub_cancel_left]
  by_cases h : i < hi + 1 - lo
  · rw [if_pos (by omega)]
  · simp [h]

/-- A field replaced leaves one apart from it as it was. -/
theorem bitsOf_setBits_apart (w : Word) {hi lo hi' lo' : Nat} (v : Nat) (hlo : lo ≤ hi) (hi32 : hi < 32) (h : hi < lo' ∨ hi' < lo) :
    bitsOf (setBits w hi lo v).toNat hi' lo' = bitsOf w.toNat hi' lo' := by
  refine Nat.eq_of_testBit_eq fun i => ?_
  rw [testBit_bitsOf, testBit_bitsOf, testBit_setBits _ _ _ hlo hi32]
  by_cases hi : i < hi' + 1 - lo'
  · rw [if_neg (by omega)]
  · simp [hi]

end Sys2Proof

end

section
/-! PROOFS. The fields of a register: where they lie, and what each access code makes of them (00 R8). -/

namespace Sys2Proof.Machine

/-! ## The fields of a register -/

/-- A field lies in a word of 32 bits. -/
abbrev RFld.inWord (f : RFld) : Prop := f.lo ≤ f.hi ∧ f.hi < 32

/-- Two fields share no bit. -/
abbrev RFld.apart (f g : RFld) : Prop := f.hi < g.lo ∨ g.hi < f.lo

/-- The row's fields lie in the word, and no two share a bit. -/
def RegRow.laidOut (row : RegRow) : Bool := decide ((∀ f ∈ row.flds, f.inWord) ∧ row.flds.Pairwise RFld.apart)

/-- What holds of the members of both lists holds of the one that is chosen. -/
theorem all_ite {α : Type} {p : α → Bool} {c : Prop} [Decidable c] {l m : List α} (hl : l.all p = true) (hm : m.all p = true) :
    (if c then l else m).all p = true := by
  split
  · exact hl
  · exact hm

/-- The map's tables are finite data: each block's is evaluated. -/
theorem blockRows_laidOut (a : Nat) : (blockRows a).all RegRow.laidOut = true := by
  unfold blockRows
  iterate 18 refine all_ite (by decide +kernel) ?_
  rfl

/-- Every register of the map has its fields apart. -/
theorem rowAt_laidOut {a : Nat} {row : RegRow} (h : rowAt a = some row) : row.laidOut = true :=
  List.all_eq_true.mp (blockRows_laidOut a) row (List.mem_of_find?_eq_some h)

/-- A word with the field set to the value that it is given, if it is given one. -/
def fieldStep (value : RFld → Option Nat) (w : Word) (f : RFld) : Word :=
  match value f with
  | some x => setBits w f.hi f.lo x
  | none => w

/-- Setting other fields leaves a field as it was. -/
theorem bitsOf_foldl_fieldStep_apart (value : RFld → Option Nat) (f : RFld) (l : List RFld) (w : Word)
    (hin : ∀ g ∈ l, g.inWord) (hap : ∀ g ∈ l, f.apart g) :
    bitsOf (l.foldl (fieldStep value) w).toNat f.hi f.lo = bitsOf w.toNat f.hi f.lo := by
  induction l generalizing w with
  | nil => rfl
  | cons g l ih =>
    rw [List.forall_mem_cons] at hin hap
    rw [List.foldl_cons, ih _ hin.2 hap.2]
    unfold fieldStep
    split
    · exact bitsOf_setBits_apart w _ hin.1.1 hin.1.2 hap.1.symm
    · rfl

/-- Setting the fields of a register, each holds what it is given, or what it held. -/
theorem bitsOf_foldl_fieldStep (value : RFld → Option Nat) (l : List RFld) (w : Word)
    (hin : ∀ g ∈ l, g.inWord) (hap : l.Pairwise RFld.apart) {f : RFld} (hf : f ∈ l) :
    bitsOf (l.foldl (fieldStep value) w).toNat f.hi f.lo =
      (value f).elim (bitsOf w.toNat f.hi f.lo) (· % 2 ^ (f.hi + 1 - f.lo)) := by
  induction l generalizing w with
  | nil => cases hf
  | cons g l ih =>
    rw [List.forall_mem_cons] at hin
    rw [List.pairwise_cons] at hap
    rw [List.foldl_cons]
    obtain rfl | hf := List.mem_cons.mp hf
    · rw [bitsOf_foldl_fieldStep_apart value f l _ hin.2 hap.1]
      unfold fieldStep
      cases value f with
      | none => rfl
      | some x => exact bitsOf_setBits_self w x hin.1.1 hin.1.2
    · rw [ih _ hin.2 hap.2 hf]
      have hg : bitsOf (fieldStep value w g).toNat f.hi f.lo = bitsOf w.toNat f.hi f.lo :=
        bitsOf_foldl_fieldStep_apart value f [g] w (by simpa using hin.1) (by simpa using (hap.1 f hf).symm)
      rw [hg]

/-- What a write of v gives a field (R8). -/
def RFld.written (old v : Word) (f : RFld) : Option Nat :=
  match f.acc with
  | .rw => some (bitsOf v.toNat f.hi f.lo)
  | .w1c => some (bitsOf old.toNat f.hi f.lo &&& ((2 ^ (f.hi + 1 - f.lo) - 1) ^^^ bitsOf v.toNat f.hi f.lo))
  | _ => none

/-- The fields of one access code set to 0. -/
def RFld.zeroed (acc : Acc) (f : RFld) : Option Nat := if f.acc = acc then some 0 else none

theorem RegRow.write_eq (row : RegRow) (old v : Word) : row.write old v = row.flds.foldl (fieldStep (RFld.written old v)) old := by
  unfold RegRow.write
  congr 1
  funext w f
  cases h : f.acc <;> simp [fieldStep, RFld.written, h]

theorem RegRow.readMask_eq (row : RegRow) (w : Word) : row.readMask w = row.flds.foldl (fieldStep (RFld.zeroed .wo)) w := by
  unfold RegRow.readMask
  congr 1
  funext w f
  cases h : f.acc <;> simp [fieldStep, RFld.zeroed, h]

theorem RegRow.afterRead_eq (row : RegRow) (w : Word) : row.afterRead w = row.flds.foldl (fieldStep (RFld.zeroed .rc)) w := by
  unfold RegRow.afterRead
  congr 1
  funext w f
  cases h : f.acc <;> simp [fieldStep, RFld.zeroed, h]

section
variable {row : RegRow} {f : RFld} (h : row.laidOut = true) (hf : f ∈ row.flds)
include h hf

theorem RegRow.bitsOf_write (old v : Word) : bitsOf (row.write old v).toNat f.hi f.lo =
    (f.written old v).elim (bitsOf old.toNat f.hi f.lo) (· % 2 ^ (f.hi + 1 - f.lo)) := by
  obtain ⟨hin, hap⟩ := of_decide_eq_true h
  rw [RegRow.write_eq, bitsOf_foldl_fieldStep _ _ _ hin hap hf]

/-- An RW field reads as written. -/
theorem RegRow.write_rw (old v : Word) (ha : f.acc = .rw) :
    bitsOf (row.write old v).toNat f.hi f.lo = bitsOf v.toNat f.hi f.lo := by
  simp only [RegRow.bitsOf_write h hf, RFld.written, ha, Option.elim_some]
  exact Nat.mod_mod _ _

/-- An RO field keeps its value. -/
theorem RegRow.write_ro (old v : Word) (ha : f.acc = .ro) :
    bitsOf (row.write old v).toNat f.hi f.lo = bitsOf old.toNat f.hi f.lo := by
  simp [RegRow.bitsOf_write h hf, RFld.written, ha]

/-- A W1C field loses the bits written 1. -/
theorem RegRow.write_w1c (old v : Word) (ha : f.acc = .w1c) {i : Nat} (hlo : f.lo ≤ i) (hhi : i ≤ f.hi) :
    bitOf (row.write old v).toNat i = (bitOf old.toNat i && !bitOf v.toNat i) := by
  obtain ⟨j, rfl⟩ := Nat.exists_eq_add_of_le hlo
  have hj : j < f.hi + 1 - f.lo := by omega
  have hbit := congrArg (·.testBit j) (RegRow.bitsOf_write h hf old v)
  simpa [RFld.written, ha, testBit_bitsOf, hj, bitOf_eq_testBit, Nat.testBit_two_pow_sub_one] using hbit

/-- A WO field reads 0. -/
theorem RegRow.readMask_wo (w : Word) (ha : f.acc = .wo) : bitsOf (row.readMask w).toNat f.hi f.lo = 0 := by
  obtain ⟨hin, hap⟩ := of_decide_eq_true h
  simp [RegRow.readMask_eq, bitsOf_foldl_fieldStep _ _ _ hin hap hf, RFld.zeroed, ha]

/-- A read leaves 0 in an RC field. -/
theorem RegRow.afterRead_rc (w : Word) (ha : f.acc = .rc) : bitsOf (row.afterRead w).toNat f.hi f.lo = 0 := by
  obtain ⟨hin, hap⟩ := of_decide_eq_true h
  simp [RegRow.afterRead_eq, bitsOf_foldl_fieldStep _ _ _ hin hap hf, RFld.zeroed, ha]

end

/-- Settles O11: the fields of every register lie apart, so that each keeps what its own access code makes of it. -/
theorem fieldAccessCodes : Obligations.FieldAccessCodes := by
  intro a row f old v hrow hf
  have h := rowAt_laidOut hrow
  exact ⟨row.write_rw h hf old v, row.write_ro h hf old v, fun ha i => row.write_w1c h hf old v ha,
    row.readMask_wo h hf old, row.afterRead_rc h hf old⟩

end Sys2Proof.Machine

end

section
/-! PROOFS. Every command has an effect; what a row that accesses a register can do, and which accesses are refused (00 R7, 03 R90). -/

namespace Sys2Proof.Machine

/-! ## Every command answers -/

/-- Every command's meaning is an effect: no arm of `exec` faults or refuses. -/
theorem exec_answers (c : Instr) (s : State) : ∃ t, exec c s = .next t := by
  cases c <;> exact ⟨_, rfl⟩

/-- Settles O3: an empty queue lets time pass, and the command at the front of any other has an effect. -/
theorem everyStepAnswers : Obligations.EveryStepAnswers := by
  intro s
  unfold Safe step
  cases s.pending with
  | nil => exact ⟨_, rfl⟩
  | cons c rest => exact exec_answers c _

/-! ## What a row that accesses a register can do -/

@[simp] theorem exec_registerWrite (r : Requester) (width a : Nat) (v : Word) (s : State) :
    exec (.registerWrite r width a v) s = .next (s.writeAt r width a v) := rfl

@[simp] theorem exec_stagedWindowWrite (r : Requester) (width a : Nat) (v : Word) (s : State) :
    exec (.stagedWindowWrite r width a v) s = .next (s.writeAt r width a v) := rfl

@[simp] theorem exec_snapshotLoRead (r : Requester) (width a : Nat) (s : State) :
    exec (.snapshotLoRead r width a) s = .next (s.readAt r width a) := rfl

@[simp] theorem exec_rcFieldRead (r : Requester) (width a : Nat) (s : State) :
    exec (.rcFieldRead r width a) s = .next (s.readAt r width a) := rfl

/-- What a row of a requester can make of the state: nothing, where its operand names no register; one access of the map;
a write or a read at an address. -/
inductive AccessOf (r : Requester) (s : State) : State → Prop
  | nothing : AccessOf r s s
  | access (a : Nat) (act : State → State) (ok : Nat → Bool) : AccessOf r s (s.access r a act ok)
  | write (width a : Nat) (v : Word) : AccessOf r s (s.writeAt r width a v)
  | read (width a : Nat) : AccessOf r s (s.readAt r width a)

/-- A row whose operands are out of range does nothing. -/
theorem AccessOf.guarded {r : Requester} {s t : State} (p : Prop) [Decidable p] (h : AccessOf r s t) :
    AccessOf r s (if p then s else t) := by
  split
  · exact .nothing
  · exact h

/-- A row with a requester is one access of a register, or does nothing. -/
theorem exec_of_requesterOf {c : Instr} {r : Requester} (h : requesterOf c = some r) (s : State) :
    ∃ t, exec c s = .next t ∧ AccessOf r s t := by
  cases c <;> simp only [requesterOf, Option.some.injEq, reduceCtorEq] at h <;> subst h
  case registerWrite | stagedWindowWrite => exact ⟨_, rfl, .write ..⟩
  case snapshotLoRead | rcFieldRead => exact ⟨_, rfl, .read ..⟩
  case bootReleaseWrite | deviceResetKeyWrite | commitGo | commitCancel | dormantEnterRequest | feBlockClearWrite
      | cstLeaveWrite | cstRejoinWrite | qdepthSelWrite | pwrHoldReleaseWrite =>
    exact ⟨_, rfl, .access ..⟩
  case reanchorGo r base => exact ⟨_, rfl, (AccessOf.access .. : AccessOf r s (reanchorGo r _ s))⟩
  case clockEnableWrite | clockDisableWrite | sourceSwitchGo | freqMeasureStart | sqTailDoorbell | cqHeadDoorbell
      | rqHeadDoorbell | bqTailDoorbell | evqHeadDoorbell | funcCtrlEclipseWrite | funcCtrlClearWrite | workerAskWrite
      | workerAskCancel | workerReleaseWrite | tlTrainWrite | tlPrbsStart | tlPrbsStop =>
    exact ⟨_, rfl, .guarded _ (.access ..)⟩

/-! ## Accesses that are refused -/

section
variable {s : State} {r : Requester} {width a : Nat}

/-- No address answers an access that is not of an aligned word (R7). -/
theorem State.resolve_misaligned (clockOf : Nat → Nat) (h : width ≠ 32 ∨ a % 4 ≠ 0)
    (hd : r = .debug → s.fuses.debugLock = false) : s.resolve r width a clockOf = .error (denied r) := by
  cases r <;> simp_all [State.resolve, denied]

/-- BAR2 serves aligned words alone (R7). -/
theorem State.bar2Ok_misaligned (f : Nat) (h : width ≠ 32 ∨ a % 4 ≠ 0) : s.bar2Ok f width a = false := by
  rcases h with h | h <;> simp [State.bar2Ok, h]

theorem State.writeAt_misaligned (v : Word) (h : width ≠ 32 ∨ a % 4 ≠ 0)
    (hd : r = .debug → s.fuses.debugLock = false) : s.writeAt r width a v = { s with answer := some (denied r) } := by
  cases r with
  | bar2 f => simp [State.writeAt, State.bar2Ok_misaligned f h, denied]
  | _ => simp only [State.writeAt, State.resolve_misaligned _ h hd]

theorem State.readAt_misaligned (h : width ≠ 32 ∨ a % 4 ≠ 0)
    (hd : r = .debug → s.fuses.debugLock = false) : s.readAt r width a = { s with answer := some (denied r) } := by
  cases r with
  | bar2 f => simp [State.readAt, State.bar2Ok_misaligned f h, denied]
  | _ => simp only [State.readAt, State.resolve_misaligned _ h hd]

/-- To a debug port that is locked out every register is absent (R90). -/
theorem AccessOf.debugLocked {t : State} (hl : s.fuses.debugLock = true) (h : AccessOf .debug s t) :
    t = s ∨ t = { s with answer := some .absent } := by
  cases h with
  | nothing => exact .inl rfl
  | access => exact .inr (by simp [State.access, hl])
  | write => exact .inr (by simp [State.writeAt, State.resolve, hl])
  | read => exact .inr (by simp [State.readAt, State.resolve, hl])

end

/-- Settles O9: `resolve` refuses a width or an alignment before anything else, and a debug port that is locked out before
that. -/
theorem accessRefused : Obligations.AccessRefused := by
  refine ⟨fun s r width a v h hd c hc => ?_, fun c s hr hl => ?_⟩
  · suffices hx : exec c s = .next { s with answer := some (denied r) } by cases r <;> exact hx
    simp only [List.mem_cons, List.not_mem_nil, or_false] at hc
    obtain rfl | rfl | rfl | rfl := hc
    · rw [exec_registerWrite, State.writeAt_misaligned v h hd]
    · rw [exec_stagedWindowWrite, State.writeAt_misaligned v h hd]
    · rw [exec_snapshotLoRead, State.readAt_misaligned h hd]
    · rw [exec_rcFieldRead, State.readAt_misaligned h hd]
  · obtain ⟨t, ht, hacc⟩ := exec_of_requesterOf hr s
    rw [ht]
    exact (hacc.debugLocked hl).imp (congrArg _) (congrArg _)

end Sys2Proof.Machine

end

section
/-! PROOFS. What an access that reaches a register does: plain writes, invalid writes, captures and counters (00 R8 to R10, R36). -/

namespace Sys2Proof.Machine

/-! ## Accesses that reach a register -/

section
variable {s : State} {r : Requester} {a n : Nat} {v : Word} {row : RegRow}

/-- A write that reaches an address outside the staged windows is a write at the active address. -/
theorem State.writeAt_of_resolve (h : s.resolve r 32 a (fun n => (activeOf n).getD n) = .ok n) (ha : activeOf n = none) :
    s.writeAt r 32 a v = { s.writeActive r n v with answer := some .done } := by
  cases r with
  | bar2 f => simp [State.resolve] at h
  | _ => simp only [State.writeAt, h, ha]

/-- A read that reaches an address answers with its word. -/
theorem State.readAt_of_readWord {w : Word} {t : State} (h : s.resolve r 32 a id = .ok n) (hw : s.readWord r n = (w, t)) :
    s.readAt r 32 a = { t with answer := some (.value w) } := by
  cases r with
  | bar2 f => simp [State.resolve] at h
  | _ => simp only [State.readAt, h, hw]

/-- The physical function and the CPU reach an aligned address of a block whose clock runs. -/
theorem State.resolve_of_reaches {clockOf : Nat → Nat} (hr : r = .pf ∨ r = .cpu) (href : s.boot.refReady = true)
    (halign : a % 4 = 0) (hblock : inBlock a = true) (hreach : reaches r a = true)
    (hclock : s.addrGated (clockOf a) = false) : s.resolve r 32 a clockOf = .ok a := by
  obtain rfl | rfl := hr <;> simp [State.resolve, href, halign, hblock, hreach, hclock]

/-- A write to an address that no chapter lists is ignored (R9). -/
theorem State.writeActive_unlisted (hrow : rowAt n = none) : s.writeActive r n v = s := by
  simp [State.writeActive, hrow]

/-- A write of a value that the register does not take is invalid (R36). -/
theorem State.writeActive_invalid (hrow : rowAt n = some row) (hst : row.staged = false) (hown : s.rowWrite r n v = none)
    (hbad : row.accepts v = false ∨ s.writeBad n v = true) : s.writeActive r n v = s.invalidWrite r n v := by
  obtain hbad | hbad := hbad <;> simp [State.writeActive, hrow, hst, hown, hbad]

/-- A valid write sets the fields, and then has what effect the register has (R8). -/
theorem State.writeActive_valid (hrow : rowAt n = some row) (hst : row.staged = false) (hown : s.rowWrite r n v = none)
    (hok : row.accepts v = true) (hgood : s.writeBad n v = false) (hsel : ownSelector n = false) :
    s.writeActive r n v = s.afterWrite (s.setReg n (row.write (s.reg n) v)) n := by
  simp [State.writeActive, hrow, hst, hown, hok, hgood, hsel]

/-- A link whose AUTO_TRAIN is 0 starts no training of its own accord. -/
theorem State.autoTrain_of_off {k : Nat} (h : s.flag ⟨tlCtrl k, 5, 5⟩ = false) : s.autoTrain k = s := by
  simp [State.autoTrain, h]

/-- The row of TL_k_CTRL (14 R443). -/
def tlCtrlRow : RegRow := regA 0x3800004 [(12, 0x10000)] [wo 2 0, rwV 4 3 0 0 2, rw 5 5 0, ro 15 8]

theorem rowAt_tlCtrl : ∀ k < 12, rowAt (tlCtrl k) = some tlCtrlRow := by decide +kernel

/-- AUTO_TRAIN reads as it is written. -/
theorem State.flag_autoTrain_write (s : State) {k : Nat} (hk : k < 12) (v : Word) :
    (s.setReg (tlCtrl k) (tlCtrlRow.write (s.reg (tlCtrl k)) v)).flag ⟨tlCtrl k, 5, 5⟩ = v.getLsbD 5 := by
  have hw : bitsOf (tlCtrlRow.write (s.reg (tlCtrl k)) v).toNat 5 5 = bitsOf v.toNat 5 5 :=
    tlCtrlRow.write_rw (rowAt_laidOut (rowAt_tlCtrl k hk)) (f := rw 5 5 0) (by decide) _ v rfl
  rw [State.flag, State.get, State.reg_setReg, hw, bitsOf_bit, ← BitVec.testBit_toNat]
  cases v.toNat.testBit 5 <;> rfl

/-- A valid write outside the packet path's, the cipher's, the tasks' and the host's registers has no further effect, where it does not
raise AUTO_TRAIN. -/
theorem State.afterWrite_of_plain (hrow : rowAt n = some row) (hn : n < 0x2400000 ∨ 0x3100200 ≤ n)
    (hauto : ∀ k, k < 12 → n = 0x3800004 + k * 0x10000 → v.getLsbD 5 = true → s.flag ⟨n, 5, 5⟩ = true) :
    s.afterWrite (s.setReg n (row.write (s.reg n) v)) n = s.setReg n (row.write (s.reg n) v) := by
  unfold State.afterWrite
  rw [if_neg (by simp; omega), if_neg (by simp; omega)]
  split
  next htl =>
    simp only [Bool.and_eq_true, decide_eq_true_eq] at htl
    obtain ⟨k, hk, rfl⟩ : ∃ k, k < 12 ∧ n = tlCtrl k := ⟨(n - 0x3800000) / 0x10000, by omega, by unfold tlCtrl; omega⟩
    obtain rfl : tlCtrlRow = row := Option.some.inj ((rowAt_tlCtrl k hk).symm.trans hrow)
    split
    · rfl
    next hoff =>
      have hv : v.getLsbD 5 = false :=
        Bool.eq_false_iff.mpr fun hv => hoff (hauto k hk (by rw [tlCtrl, Nat.mul_comm]) hv)
      rw [show (tlCtrl k - 0x3800000) / 0x10000 = k by unfold tlCtrl; omega]
      exact State.autoTrain_of_off ((s.flag_autoTrain_write hk v).trans hv)
  · rfl

/-- Nothing is read at an address that no chapter lists (R9). -/
theorem State.readWord_unlisted (hpair : s.pairValue r n = none) (hcap : s.isCapture r n = false) (hrow : rowAt n = none)
    (hact : activeOf n = none) : s.readWord r n = (0#32, s) := by
  simp [State.readWord, hpair, hcap, hrow, hact]

end

/-- Settles O10: a write is ignored, invalid or valid by the address's row, and a valid one of these registers only sets its
fields. -/
theorem registerWrites : Obligations.RegisterWrites := by
  refine ⟨fun s r a n v row hres hact hrow hst hown hok hgood hsel hn hauto => ?_,
    fun s r a n v row hres hact hrow hst hown hbad => ?_,
    fun s r a v hr href halign hblock hreach hclock hrow hact hcap hpair => ⟨?_, ?_⟩⟩
  · rw [exec_registerWrite, State.writeAt_of_resolve hres hact, State.writeActive_valid hrow hst hown hok hgood hsel,
      State.afterWrite_of_plain hrow hn hauto]
  · rw [exec_registerWrite, State.writeAt_of_resolve hres hact, State.writeActive_invalid hrow hst hown hbad]
    rfl
  · have hres : s.resolve r 32 a (fun n => (activeOf n).getD n) = .ok a :=
      State.resolve_of_reaches hr href halign hblock hreach (by simpa [hact] using hclock)
    rw [exec_registerWrite, State.writeAt_of_resolve hres hact, State.writeActive_unlisted hrow]
  · have hres : s.resolve r 32 a id = .ok a := State.resolve_of_reaches hr href halign hblock hreach hclock
    rw [exec_snapshotLoRead, State.readAt_of_readWord hres (State.readWord_unlisted hpair hcap hrow hact)]
    rfl

/-! ## Reads that capture or clear -/

section
variable {s : State} {r : Requester} {n x : Nat} {row : RegRow}

/-- A read of a FIELD_LO returns the low half and captures the whole (R10). -/
theorem State.readWord_pair (h : s.pairValue r n = some x) : s.readWord r n = (BitVec.ofNat 32 x, s.capture r n x) := by
  simp [State.readWord, h]

/-- A read of a captured part returns the capture (R10). -/
theorem State.readWord_isCapture (hpair : s.pairValue r n = none) (hcap : s.isCapture r n = true) :
    s.readWord r n = (s.cap r n, s) := by
  simp [State.readWord, hpair, hcap]

/-- A read of counters returns the word and clears the RC fields (R8). -/
theorem State.readWord_hasRC (hpair : s.pairValue r n = none) (hcap : s.isCapture r n = false) (hlive : s.live r n = none)
    (hrow : rowAt n = some row) (hrc : row.hasRC = true) :
    s.readWord r n = (row.readMask (s.reg n), s.setReg n (row.afterRead (s.reg n))) := by
  simp [State.readWord, hpair, hcap, hlive, hrow, hrc]

/-- The FIELD_LO registers lie below the end of the Tile Links' registers: past it each of the 21 conditions of `pairValue` fails. -/
theorem State.pairValue_bound (h : s.pairValue r n = some x) : n < 0x38C0000 := by
  by_contra hn
  unfold State.pairValue at h
  iterate 21 rw [if_neg (by grind)] at h
  cases h

@[simp] theorem State.cap_setCap (s : State) (r : Requester) (a v : Nat) : (s.setCap r a v).cap r a = BitVec.ofNat 32 v := by
  simp [State.cap, State.setCap]

/-- A capture leaves the capture of another key as it was. -/
theorem State.cap_setCap_ne (s : State) {r q : Requester} {a b : Nat} (v : Nat) (h : ownKey q b ≠ ownKey r a) :
    (s.setCap r a v).cap q b = s.cap q b :=
  Tab.getD_put_ne _ _ _ h

/-- Requesters of different index have no key in common. -/
theorem ownKey_ne {q r : Requester} {a b : Nat} (h : reqIdx q ≠ reqIdx r) (ha : a < 2 ^ 26) (hb : b < 2 ^ 26) :
    ownKey q b ≠ ownKey r a := by
  unfold ownKey
  omega

/-- What a requester's captures are after a capture: the high half beside the low, and for TIME_NT_SEC_LO the nanoseconds and
the fraction too. -/
theorem State.cap_capture_eq (s : State) (r q : Requester) (n x b : Nat) : (s.capture r n x).cap q b =
    if n = 0x200010 then (((s.setCap r (n + 4) (x / 2 ^ 32)).setCap r 0x200018 (s.ntNs % 1000000000)).setCap r 0x20001C
      (s.nt16 % 65536)).cap q b else (s.setCap r (n + 4) (x / 2 ^ 32)).cap q b := by
  by_cases hn : n = 0x200010
  · simp only [State.capture, if_pos hn]; rfl
  · simp only [State.capture, if_neg hn]; rfl

/-- A capture holds the high half of the value. -/
theorem State.cap_capture_high (s : State) (r : Requester) (n x : Nat) :
    (s.capture r n x).cap r (n + 4) = BitVec.ofNat 32 (x / 2 ^ 32) := by
  rw [State.cap_capture_eq]
  split
  next hn =>
    rw [State.cap_setCap_ne, State.cap_setCap_ne, State.cap_setCap]
    · unfold ownKey; omega
    · unfold ownKey; omega
  · exact State.cap_setCap ..

/-- A capture is one requester's own. -/
theorem State.cap_capture_ne (s : State) {r q : Requester} {n b : Nat} (x : Nat) (h : reqIdx q ≠ reqIdx r)
    (hn : n < 0x38C0000) (hb : b < 2 ^ 26) : (s.capture r n x).cap q b = s.cap q b := by
  have hne {a : Nat} (ha : a < 2 ^ 26) := ownKey_ne h ha hb
  rw [State.cap_capture_eq]
  split
  · rw [State.cap_setCap_ne _ _ (hne (by decide)), State.cap_setCap_ne _ _ (hne (by decide)),
      State.cap_setCap_ne _ _ (hne (by omega))]
  · exact State.cap_setCap_ne _ _ (hne (by omega))

/-- A capture changes the captures alone, and a free value drawn. -/
theorem State.capture_frame (s : State) (r : Requester) (n x : Nat) :
    ∃ c k, s.capture r n x = { s with caps := c, fresh := k } := by
  by_cases hn : n = 0x200010
  · simp only [State.capture, if_pos hn]; exact ⟨_, _, rfl⟩
  · simp only [State.capture, if_neg hn]; exact ⟨_, _, rfl⟩

end

/-- Settles O12: a read returns and leaves behind what `readWord` says of the address, and a capture stands under its requester's
own key. -/
theorem readSideEffects : Obligations.ReadSideEffects := by
  refine ⟨⟨fun s r a n x hres hpair => ?_, fun s r a n hres hpair hcap => ⟨?_, fun hnone => ?_⟩⟩,
    fun s r a n row hres hpair hcap hlive hrow hrc => ?_⟩
  · rw [exec_snapshotLoRead, State.readAt_of_readWord hres (State.readWord_pair hpair)]
    refine ⟨_, rfl, rfl, s.cap_capture_high r n x, fun q b _ hq hb => ?_, ?_⟩
    · exact s.cap_capture_ne x hq (State.pairValue_bound hpair) hb
    · obtain ⟨c, k, hframe⟩ := s.capture_frame r n x
      rw [hframe]
      exact ⟨rfl, rfl, rfl, rfl⟩
  · rw [exec_snapshotLoRead, State.readAt_of_readWord hres (State.readWord_isCapture hpair hcap)]
  · rw [State.cap, Tab.getD, hnone]
    rfl
  · rw [exec_rcFieldRead, State.readAt_of_readWord hres (State.readWord_hasRC hpair hcap hlive hrow hrc)]

end Sys2Proof.Machine

end


section
/-! PROOFS. No shared operation adds a command to the queue or takes one from it (log 2): one lemma for each. -/

namespace Sys2Proof.Machine

/-! ## What a state is put together from -/

/-- A record update shows the queue that it is given. -/
theorem State.mk_pending : ∀ q x1 x2 x3 x4 x5 x6 x7 x8 x9 x10 x11 x12 x13 x14 x15 x16 x17 x18 x19 x20 x21 x22 x23 x24 x25 x26 x27
    x28 x29 x30 x31 x32 x33 x34,
    (State.mk q x1 x2 x3 x4 x5 x6 x7 x8 x9 x10 x11 x12 x13 x14 x15 x16 x17 x18 x19 x20 x21 x22 x23 x24 x25 x26 x27 x28 x29 x30 x31 x32
    x33 x34).pending = q := by
  intros
  rfl

/-- A case distinction shows the queue of the branch that it takes. -/
@[simp] theorem State.pending_ite (c : Prop) [Decidable c] (a b : State) :
    (if c then a else b).pending = if c then a.pending else b.pending := apply_ite State.pending c a b

/-- A case distinction keeps the queue where both branches do. -/
theorem State.ite_pending {c : Prop} [Decidable c] {a b s : State} (ha : a.pending = s.pending) (hb : b.pending = s.pending) :
    (if c then a else b).pending = s.pending := by
  split
  · exact ha
  · exact hb

theorem State.ite_fst_pending {α : Type} {c : Prop} [Decidable c] {a b : State × α} {s : State} (ha : a.1.pending = s.pending)
    (hb : b.1.pending = s.pending) : (if c then a else b).1.pending = s.pending := by
  split
  · exact ha
  · exact hb

theorem State.ite_snd_pending {α : Type} {c : Prop} [Decidable c] {a b : α × State} {s : State} (ha : a.2.pending = s.pending)
    (hb : b.2.pending = s.pending) : (if c then a else b).2.pending = s.pending := by
  split
  · exact ha
  · exact hb

theorem State.some_pending {a s : State} (h : a.pending = s.pending) : ∀ t, some a = some t → t.pending = s.pending := by
  rintro _ ⟨⟩
  exact h

theorem State.ite_some_pending {c : Prop} [Decidable c] {a b : Option State} {s : State}
    (ha : ∀ t, a = some t → t.pending = s.pending) (hb : ∀ t, b = some t → t.pending = s.pending) :
    ∀ t, (if c then a else b) = some t → t.pending = s.pending := by
  split
  · exact ha
  · exact hb

/-- A fold keeps the queue where each of its steps does. -/
@[simp] theorem State.foldl_pending {α : Type} {g : State → α → State} (h : ∀ s x, (g s x).pending = s.pending) {l : List α}
    {s : State} : (l.foldl g s).pending = s.pending := by
  induction l generalizing s with
  | nil => rfl
  | cons x l ih => rw [List.foldl_cons, ih, h]

/-- The same of a fold that carries more than the state. -/
theorem State.foldl_fst_pending {α β : Type} {g : State × β → α → State × β} (h : ∀ a x, (g a x).1.pending = a.1.pending)
    {l : List α} {a : State × β} : (l.foldl g a).1.pending = a.1.pending := by
  induction l generalizing a with
  | nil => rfl
  | cons x l ih => rw [List.foldl_cons, ih, h]

variable (s : State)

/-! ## Counting a refusal (01 R33) -/

@[simp] theorem State.refuseBy_pending (o : Option FUnit) : (s.refuseBy o).pending = s.pending := by
  unfold State.refuseBy
  split <;> simp

/-! ## Rings, entries and the admission of commands (13) -/

@[simp] theorem State.writeEntry_pending (f kind n idx : Nat) (bs : List Byte) :
    (s.writeEntry f kind n idx bs).pending = s.pending := by simp [State.writeEntry]
@[simp] theorem State.signal_pending (f kind n : Nat) : (s.signal f kind n).pending = s.pending := by simp [State.signal]
@[simp] theorem State.ringTake_pending (f kind n : Nat) : (s.ringTake f kind n).1.pending = s.pending := by simp [State.ringTake]
@[simp] theorem State.moderate_pending (f kind n : Nat) (now : Bool) : (s.moderate f kind n now).pending = s.pending := by
  simp [State.moderate]
@[simp] theorem State.putEvent_pending (f : Nat) (e : Event) : (s.putEvent f e).pending = s.pending := by simp [State.putEvent]
@[simp] theorem State.loseEvent_pending (f : Nat) : (s.loseEvent f).pending = s.pending := by simp [State.loseEvent]
@[simp] theorem State.postSeq_pending (f code : Nat) (payload : List Byte) : (s.postSeq f code payload).pending = s.pending := by
  simp [State.postSeq]
@[simp] theorem State.reportLost_pending (f : Nat) : (s.reportLost f).pending = s.pending := by simp [State.reportLost]
@[simp] theorem State.postOn_pending (f code : Nat) (payload : List Byte) : (s.postOn f code payload).pending = s.pending := by
  simp [State.postOn]
@[simp] theorem State.countReject_pending (block : Nat) : (s.countReject block).pending = s.pending := by simp [State.countReject]
@[simp] theorem State.invalidWrite_pending (r : Requester) (a : Nat) (v : Word) : (s.invalidWrite r a v).pending = s.pending := by
  simp [State.invalidWrite]

@[simp] theorem State.access_pending (r : Requester) (a : Nat) (act : State → State) (vfOk : Nat → Bool)
    (h : ∀ s, (act s).pending = s.pending) : (s.access r a act vfOk).pending = s.pending := by
  unfold State.access
  cases r <;> dsimp only <;> (repeat' split) <;> simp [h]

@[simp] theorem State.putCqe_pending (f cq idx : Nat) (e : Cqe) : (s.putCqe f cq idx e).pending = s.pending := by
  simp [State.putCqe]
@[simp] theorem State.postCompletion_pending (c : Cmd) (status result : Nat) :
    (s.postCompletion c status result).1.pending = s.pending := by simp [State.postCompletion]

@[simp] theorem State.runCmd_pending (f tag opcode : Nat) (mayIssue gatedFor : Cmd → Bool) (act : Cmd → State → State)
    (h : ∀ c s, (act c s).pending = s.pending) : (s.runCmd f tag opcode mayIssue gatedFor act).pending = s.pending := by
  unfold State.runCmd
  split
  · rfl
  · exact State.ite_pending rfl (State.ite_pending (State.complete_pending ..)
      (State.ite_pending (State.complete_pending ..) (h ..)))

@[simp] theorem State.runCmdIf_pending (fn tag opcode : Nat) (sel may gatedFor : Cmd → Bool) (act : Cmd → State → State)
    (h : ∀ c s, (act c s).pending = s.pending) : (s.runCmdIf fn tag opcode sel may gatedFor act).pending = s.pending := by
  unfold State.runCmdIf
  split
  · exact State.ite_pending (State.runCmd_pending _ _ _ _ _ _ _ h) rfl
  · rfl

/-! ## The flash and the fault log (03 R76 to R95) -/

@[simp] theorem State.spoil_pending (sector : Nat) : (s.spoil sector).pending = s.pending := by simp [State.spoil]
@[simp] theorem State.flashProgram_pending (a : Nat) (bs : List Byte) : (s.flashProgram a bs).pending = s.pending := by
  simp [State.flashProgram]
@[simp] theorem State.flashErase_pending (sector : Nat) : (s.flashErase sector).pending = s.pending := by simp [State.flashErase]
@[simp] theorem State.flashScramble_pending (sector : Nat) : (s.flashScramble sector).pending = s.pending := by
  simp [State.flashScramble]
@[simp] theorem State.freePage_pending (a : Nat) : (s.freePage a).pending = s.pending := by simp [State.freePage]
@[simp] theorem State.flashKick_pending : s.flashKick.pending = s.pending := by simp [State.flashKick]
@[simp] theorem State.queueLogOp_pending (o : FlashOp) : (s.queueLogOp o).pending = s.pending := by simp [State.queueLogOp]
@[simp] theorem State.queueFlashOp_pending (o : FlashOp) : (s.queueFlashOp o).pending = s.pending := by simp [State.queueFlashOp]
@[simp] theorem State.logAdvance_pending : s.logAdvance.pending = s.pending := by simp [State.logAdvance]
@[simp] theorem State.logProgram_pending (type : Nat) (payload : List Byte) : (s.logProgram type payload).pending = s.pending := by
  simp [State.logProgram]
@[simp] theorem State.eraseAhead_pending : s.eraseAhead.pending = s.pending := by simp [State.eraseAhead]
@[simp] theorem State.logWrite_pending (type : Nat) (payload : List Byte) : (s.logWrite type payload).pending = s.pending := by
  simp [State.logWrite]
@[simp] theorem State.logWriteNow_pending (type : Nat) (payload : List Byte) :
    (s.logWriteNow type payload).pending = s.pending := by simp [State.logWriteNow]

/-! ## Power items and block clocks (16 R464, 02 R53) -/

@[simp] theorem State.requestItems_pending (l : List Nat) : (s.requestItems l).pending = s.pending := by simp [State.requestItems]
@[simp] theorem State.requestBlock_pending (b : Nat) : (s.requestBlock b).pending = s.pending := by simp [State.requestBlock]
@[simp] theorem State.enableBlock_pending (b : Nat) : (s.enableBlock b).pending = s.pending := by simp [State.enableBlock]

/-! ## Time bases (04) -/

@[simp] theorem State.setSrc_pending (k : Nat) (w : SrcWin) : (s.setSrc k w).pending = s.pending := by simp [State.setSrc]
@[simp] theorem State.shiftWins_pending (d : Int) : (s.shiftWins d).pending = s.pending := by simp [State.shiftWins]
@[simp] theorem State.stepNt_pending (d : Int) : (s.stepNt d).pending = s.pending := by simp [State.stepNt]
@[simp] theorem State.noteOffset_pending : s.noteOffset.pending = s.pending := by
  unfold State.noteOffset
  split <;> simp
@[simp] theorem State.changeSource_pending (k : Option Nat) : (s.changeSource k).pending = s.pending := by simp [State.changeSource]
@[simp] theorem State.lock_pending : s.lock.pending = s.pending := by simp [State.lock]
@[simp] theorem State.enterHoldover_pending (cause : Nat) : (s.enterHoldover cause).pending = s.pending := by
  simp [State.enterHoldover]
@[simp] theorem State.refuseJump_pending (off : Int) : (s.refuseJump off).pending = s.pending := by simp [State.refuseJump]
@[simp] theorem State.servo_pending (off : Int) : (s.servo off).pending = s.pending := by simp [State.servo]
@[simp] theorem State.discipline_pending (off : Int) : (s.discipline off).pending = s.pending := by simp [State.discipline]
@[simp] theorem State.startMt_pending : s.startMt.pending = s.pending := by simp [State.startMt]
@[simp] theorem State.ntStarts_pending : s.ntStarts.pending = s.pending := by simp [State.ntStarts]
@[simp] theorem State.dropStep_pending (k : Nat) : (s.dropStep k).pending = s.pending := by
  unfold State.dropStep
  split <;> simp

@[simp] theorem State.seeded_pending (k : Nat) (seed : Int) : (s.seeded k seed).pending = s.pending := by
  unfold State.seeded
  dsimp only
  split <;> simp

@[simp] theorem State.newOffset_pending (k : Nat) (off : Int) : (s.newOffset k off).pending = s.pending := by simp [State.newOffset]
@[simp] theorem State.reanchor_pending (base : Nat) : (s.reanchor base).2.pending = s.pending := by
  simp only [State.reanchor]
  (repeat' split) <;> simp
@[simp] theorem State.deferStep_pending (b : Nat) : (s.deferStep b).pending = s.pending := by simp [State.deferStep]
@[simp] theorem State.applyNtStep_pending (b16 d : Int) : (s.applyNtStep b16 d).pending = s.pending := by simp [State.applyNtStep]

@[simp] theorem State.applySteps_pending (b : Nat) : (s.applySteps b).pending = s.pending := by
  unfold State.applySteps
  extract_lets d0 s1 s2 src s3
  clear_value d0
  have h1 : s1.pending = s.pending := by
    dsimp only [s1]
    split
    · rw [State.postEvent_pending, State.mk_pending, State.lock_pending, State.applyNtStep_pending]
    · rfl
  have h2 : s2.pending = s.pending := by
    dsimp only [s2]
    split
    · refine State.ite_pending ?_ h1
      rw [State.postEvent_pending, State.mk_pending, State.lock_pending, State.applyNtStep_pending, h1]
    · exact h1
  have h3 : s3.pending = s.pending := State.ite_pending h2 h2
  refine (State.foldl_pending fun s base => ?_).trans h3
  exact State.ite_pending (State.postEvent_pending ..) rfl

@[simp] theorem State.mtFollows_pending : s.mtFollows.pending = s.pending := by simp [State.mtFollows]

/-! ## Key slots (12) -/

@[simp] theorem State.countPage_pending (slot reg : Nat) (high : Bool) : (s.countPage slot reg high).pending = s.pending := by
  unfold State.countPage
  split <;> simp
@[simp] theorem State.isolationEvent_pending (who slot : Nat) : (s.isolationEvent who slot).pending = s.pending := by
  simp [State.isolationEvent]
@[simp] theorem State.isolationTenant_pending (tenant slot : Nat) : (s.isolationTenant tenant slot).pending = s.pending := by
  simp [State.isolationTenant]
@[simp] theorem State.drawCounter_pending (slot : Nat) : (s.drawCounter slot).2.pending = s.pending := by
  simp only [State.drawCounter]
  (repeat' split) <;> simp
@[simp] theorem State.cphAdmit_pending (op : CphOp) : (s.cphAdmit op).pending = s.pending := by simp [State.cphAdmit]

@[simp] theorem State.zeroise_pending (slot : Nat) : (s.zeroise slot).pending = s.pending := by
  unfold State.zeroise
  dsimp only
  split <;> simp

@[simp] theorem State.pinGen_pending (slot : Nat) (g : KeyGen) : (s.pinGen slot g).pending = s.pending := by simp [State.pinGen]
@[simp] theorem State.beginErase_pending (slot fn tag : Nat) : (s.beginErase slot fn tag).pending = s.pending := by
  unfold State.beginErase
  split <;> simp

@[simp] theorem State.nextWaiting_pending (slot : Nat) : (s.nextWaiting slot).pending = s.pending := by
  unfold State.nextWaiting
  dsimp only
  split <;> simp

@[simp] theorem State.installKey_pending (slot suite : Nat) (b : List Byte) : (s.installKey slot suite b).pending = s.pending := by
  unfold State.installKey
  dsimp only
  split <;> simp

@[simp] theorem State.replayCheck_pending (slot gen idx pn : Nat) : (s.replayCheck slot gen idx pn).2.pending = s.pending := by
  simp only [State.replayCheck]
  (repeat' split) <;> simp
@[simp] theorem State.tagFailed_pending (slot : Nat) (untrusted : Bool) : (s.tagFailed slot untrusted).pending = s.pending := by
  simp [State.tagFailed]
@[simp] theorem State.cipherSuperframe_pending : s.cipherSuperframe.pending = s.pending := by simp [State.cipherSuperframe]
@[simp] theorem State.clearCipher_pending (slotMemory : Bool) : (s.clearCipher slotMemory).pending = s.pending := by
  simp [State.clearCipher]

/-! ## Chains, synthesisers and launches (06) -/

@[simp] theorem State.checkRef_pending (r : Nat) : (s.checkRef r).pending = s.pending := by
  refine State.ite_pending rfl ?_
  split
  · rfl
  · exact State.ite_pending rfl ((State.foldl_pending fun s d => s.modChain_pending ..).trans (State.modRadio_pending ..))

@[simp] theorem State.checkIslands_pending (r : Nat) : (s.checkIslands r).pending = s.pending := by
  unfold State.checkIslands
  split
  · rfl
  · extract_lets set links l off new s1
    have h1 : s1.pending = s.pending := State.foldl_pending fun s c => s.modChain_pending ..
    exact State.ite_pending ((State.postEvent_pending ..).trans h1) h1

@[simp] theorem State.moveTuner_pending (i pos : Nat) : (s.moveTuner i pos).pending = s.pending := by simp [State.moveTuner]

@[simp] theorem State.feSwap_pending (r : Nat) (old : List Nat) (changed : Bool) :
    (s.feSwap r old changed).pending = s.pending := by
  unfold State.feSwap
  extract_lets new gone s1 s2 s3 s4 s5 s6
  have h3 : s3.pending = s.pending := by
    rw [State.foldl_pending, State.powerDown_pending, State.foldl_pending (fun _ _ => State.modChain_pending ..)]
    exact fun s c => State.ite_pending rfl (State.modChain_pending ..)
  have h4 : s4.pending = s3.pending := State.foldl_pending fun s c => State.ite_pending rfl <|
    State.ite_pending (State.ite_pending (State.postEvent_pending ..) rfl) (State.moveTuner_pending ..)
  have h5 : s5.pending = s4.pending := State.foldl_pending fun _ _ => State.modChain_pending ..
  have h6 : s6.pending = s5.pending := State.ite_pending (State.foldl_pending fun _ _ => State.modSyn_pending ..) rfl
  rw [State.checkRef_pending, State.modRadio_pending, h6, h5, h4, h3]

@[simp] theorem State.propose_pending (r c pos : Nat) : (s.propose r c pos).pending = s.pending :=
  State.ite_pending (by rw [State.postEvent_pending, State.modChain_pending, State.sput_pending]) rfl
@[simp] theorem State.stageHeld_pending : s.stageHeld.pending = s.pending :=
  State.foldl_pending fun s r => State.ite_pending rfl <| State.foldl_pending fun s c => by
  split <;> simp
@[simp] theorem State.feMeridian_pending : s.feMeridian.pending = s.pending := by simp [State.feMeridian]

@[simp] theorem State.endLaunch_pending (r : Nat) (l : Launch) (status : Nat) : (s.endLaunch r l status).pending = s.pending := by
  unfold State.endLaunch
  extract_lets s1 s2
  have h2 : s2.pending = s.pending := (State.modRadio_pending ..).trans (State.foldl_pending fun s c => s.modChain_pending ..)
  refine State.ite_pending h2 ?_
  split
  · exact (State.modPpdu_pending ..).trans h2
  · exact (State.modRadio_pending ..).trans h2
  · exact h2

@[simp] theorem State.dropCal_pending (r : Nat) : (s.dropCal r).pending = s.pending := by
  unfold State.dropCal
  split
  · rfl
  · rw [State.inc_pending, State.modRadio_pending, State.foldl_pending fun s c => s.modChain_pending ..]

@[simp] theorem State.clearRadio_pending (r : Nat) : (s.clearRadio r).pending = s.pending := by
  unfold State.clearRadio
  rw [State.mk_pending, State.powerDown_pending, State.foldl_pending fun s c => s.modChain_pending ..]
@[simp] theorem State.powerChains_pending (r : Nat) : (s.powerChains r).pending = s.pending := by simp [State.powerChains]

/-! ## Task queues and streams (13 R397 to R407) -/

@[simp] theorem State.putRx_pending (f n bufId len : Nat) (sop eop : Bool) (src index : Nat) (rest : List Byte) :
    (s.putRx f n bufId len sop eop src index rest).pending = s.pending := by simp [State.putRx]
@[simp] theorem State.rqWrite_pending (f n k src : Nat) (rest payload : List Byte) :
    (s.rqWrite f n k src rest payload).pending = s.pending := by simp [State.rqWrite]
@[simp] theorem State.streamDirect_pending (f : Nat) (payload rest : List Byte) :
    (s.streamDirect f payload rest).pending = s.pending := by simp [State.streamDirect]
@[simp] theorem State.modC_pending (c : Nat) (f : CStat → CStat) : (s.modC c f).pending = s.pending := by simp [State.modC]
@[simp] theorem State.modQ_pending (q : Nat) (f : QStat → QStat) : (s.modQ q f).pending = s.pending := by simp [State.modQ]
@[simp] theorem State.trackIdle_pending : s.trackIdle.pending = s.pending := by simp [State.trackIdle]
@[simp] theorem State.dropFull_pending (q : Nat) : (s.dropFull q).pending = s.pending := by simp [State.dropFull]

@[simp] theorem State.enqueue_pending (q prio tenant : Nat) (ctx : Option Nat) (source reason : Nat) (payload key : List Byte) (mac
    : Option (List Byte)) :
    (s.enqueue q prio tenant ctx source reason payload key mac).2.pending = s.pending := by
  unfold State.enqueue
  (repeat' split) <;> simp

@[simp] theorem State.deliverMac_pending (fn tenant : Nat) (payload rest : List Byte) :
    (s.deliverMac fn tenant payload rest).pending = s.pending := by simp [State.deliverMac]
@[simp] theorem State.faultNotice_pending (parts : List (List Byte)) : (s.faultNotice parts).pending = s.pending := by
  simp [State.faultNotice]
@[simp] theorem State.dropItem_pending (idx : Nat) : (s.dropItem idx).pending = s.pending := by simp [State.dropItem]

/-! ## The receiver (07) -/

@[simp] theorem State.toSearch_pending (r : Nat) : (s.toSearch r).pending = s.pending := by simp [State.toSearch]
@[simp] theorem State.countBB_pending (r reg : Nat) (high : Bool) : (s.countBB r reg high).pending = s.pending := by
  simp [State.countBB]
@[simp] theorem State.postMetrics_pending (r : Nat) (stamp : NT64) (status user : Nat) (tb : Bool) (m : Measured) :
    (s.postMetrics r stamp status user tb m).pending = s.pending := by simp [State.postMetrics]
@[simp] theorem State.drawMeasured_pending (r : Nat) : (s.drawMeasured r).2.pending = s.pending := by simp [State.drawMeasured]
@[simp] theorem State.cutReception_pending (r : Nat) : (s.cutReception r).pending = s.pending := by simp [State.cutReception]

/-! ## Constellation sessions (09) -/

@[simp] theorem State.cstReject_pending (m type status : Nat) (known : Bool) :
    (s.cstReject m type status known).pending = s.pending := by simp [State.cstReject]
@[simp] theorem State.freeForeign_pending (m : Nat) : (s.freeForeign m).pending = s.pending := by simp [State.freeForeign]
@[simp] theorem State.endSession_pending (m : Nat) : (s.endSession m).pending = s.pending := by simp [State.endSession]
@[simp] theorem State.sessionUp_pending (m : Nat) (keyTx keyRx : List Byte) (seq : Nat) :
    (s.sessionUp m keyTx keyRx seq).pending = s.pending := by simp [State.sessionUp]
@[simp] theorem State.draw32_pending : s.draw32.2.pending = s.pending := by simp [State.draw32]
@[simp] theorem State.alignSample_pending (m : Nat) (o : Int) : (s.alignSample m o).pending = s.pending := by
  simp [State.alignSample]

@[simp] theorem State.foreignHeard_pending (r m start : Nat) (users : List Measured) :
    (s.foreignHeard r m start users).pending = s.pending := by
  unfold State.foreignHeard
  split <;> simp

@[simp] theorem State.freeForeignRadio_pending (r : Nat) : (s.freeForeignRadio r).pending = s.pending := by
  simp [State.freeForeignRadio]
@[simp] theorem State.cstSuperframe_pending (start : Nat) : (s.cstSuperframe start).pending = s.pending := by
  unfold State.cstSuperframe
  split <;> simp

/-! ## Fuses (03 R89) -/

@[simp] theorem State.keyEvent_pending (slot action status : Nat) : (s.keyEvent slot action status).pending = s.pending := by
  simp [State.keyEvent]
@[simp] theorem State.provision_pending (b : List Byte) : (s.provision b).pending = s.pending := by simp [State.provision]
@[simp] theorem State.revoke_pending (b : List Byte) : (s.revoke b).pending = s.pending := by simp [State.revoke]
@[simp] theorem State.advanceRollback_pending : s.advanceRollback.pending = s.pending := by
  unfold State.advanceRollback
  split <;> simp
@[simp] theorem State.firstBeaconSent_pending (t : NT64) : (s.firstBeaconSent t).pending = s.pending := by
  simp [State.firstBeaconSent]

/-! ## DRAM channels (15) -/

@[simp] theorem State.granuleWrite_pending (g off : Nat) (data : List Byte) : (s.granuleWrite g off data).pending = s.pending := by
  simp [State.granuleWrite]
@[simp] theorem State.dramAnswer_pending (port granule status : Nat) (data : List Byte) :
    (s.dramAnswer port granule status data).pending = s.pending := by simp [State.dramAnswer]

@[simp] theorem State.dramFill_pending (c : Nat) : (s.dramFill c).pending = s.pending :=
  State.foldl_pending fun s p => by
  split
  · exact State.ite_pending rfl rfl
  · rfl

@[simp] theorem State.dramDone_pending (c : Nat) (q : DramReq) : (s.dramDone c q).pending = s.pending := by simp [State.dramDone]
@[simp] theorem State.dramSuperframe_pending : s.dramSuperframe.pending = s.pending := by simp [State.dramSuperframe]
@[simp] theorem State.clearDram_pending (c : Nat) : (s.clearDram c).pending = s.pending := by simp [State.clearDram]
@[simp] theorem State.dramError_pending (e : DramErr) : (s.dramError e).pending = s.pending := by simp [State.dramError]

/-! ## The mesh island (10) -/

@[simp] theorem State.ingress_pending (src : Nat) (f : SrcFrame) : (s.ingress src f).pending = s.pending := by simp [State.ingress]
@[simp] theorem State.charge_pending (band air : Nat) : (s.charge band air).pending = s.pending := by simp [State.charge]
@[simp] theorem State.restartLedger_pending : s.restartLedger.pending = s.pending := by simp [State.restartLedger]
@[simp] theorem State.postOnce_pending (key code : Nat) (payload : List Byte) :
    (s.postOnce key code payload).pending = s.pending := by simp [State.postOnce]

@[simp] theorem State.meshSend_pending (what : MeshWhat) (band air : Nat) (reply : Bool) (level : Int) :
    (s.meshSend what band air reply level).2.pending = s.pending := by
  simp only [State.meshSend]
  (repeat' split) <;> simp

@[simp] theorem State.meshFc_pending : s.meshFc.2.pending = s.pending := by
  unfold State.meshFc
  dsimp only
  split <;> simp

@[simp] theorem State.downDone_pending (id status : Nat) : (s.downDone id status).pending = s.pending := by
  unfold State.downDone
  (repeat' split) <;> simp
@[simp] theorem State.modDown_pending (id : Nat) (f : MeshDown → MeshDown) : (s.modDown id f).pending = s.pending := by
  simp [State.modDown]

@[simp] theorem State.sendDown_pending (id guard : Nat) (reply : Bool) (level : Int) :
    (s.sendDown id guard reply level).pending = s.pending := by
  simp only [State.sendDown]
  (repeat' split) <;> simp

@[simp] theorem State.bridgeUp_pending (u : MeshUp) : (s.bridgeUp u).pending = s.pending := by simp [State.bridgeUp]
@[simp] theorem State.drainUp_pending : s.drainUp.pending = s.pending := by simp [State.drainUp]
@[simp] theorem State.enterBridged_pending : s.enterBridged.pending = s.pending := by simp [State.enterBridged]
@[simp] theorem State.meshLink_pending : s.meshLink.pending = s.pending := by
  unfold State.meshLink
  split <;> simp
@[simp] theorem State.meshStart_pending : s.meshStart.pending = s.pending := by simp [State.meshStart]
@[simp] theorem State.clearMesh_pending (retention ledger : Bool) : (s.clearMesh retention ledger).pending = s.pending := by
  simp [State.clearMesh]
@[simp] theorem State.meshRecovered_pending : s.meshRecovered.pending = s.pending := by simp [State.meshRecovered]
@[simp] theorem State.startExit_pending (cause : Nat) : (s.startExit cause).pending = s.pending := by simp [State.startExit]
@[simp] theorem State.wake_pending (cause : Nat) : (s.wake cause).pending = s.pending := by simp [State.wake]

/-! ## The packet path (11) -/

@[simp] theorem State.place_pending (sram n : Nat) (spilled : Bool) : (s.place sram n spilled).2.pending = s.pending := by
  unfold State.place
  (repeat' split) <;> simp
@[simp] theorem State.watch_pending (qid : Nat) (f : Watch → Watch) : (s.watch qid f).pending = s.pending := by simp [State.watch]
@[simp] theorem State.watchDepth_pending (qid : Nat) : (s.watchDepth qid).pending = s.pending := by simp [State.watchDepth]
@[simp] theorem State.watchDrop_pending (qid : Nat) : (s.watchDrop qid).pending = s.pending := by simp [State.watchDrop]
@[simp] theorem State.watchOut_pending (qid n soj : Nat) : (s.watchOut qid n soj).pending = s.pending := by simp [State.watchOut]
@[simp] theorem State.exceptionDrop_pending (q : Nat) : (s.exceptionDrop q).pending = s.pending := by simp [State.exceptionDrop]
@[simp] theorem State.toTask_pending (x : PktCtx) (reason q prio : Nat) : (s.toTask x reason q prio).pending = s.pending := by
  simp [State.toTask]
@[simp] theorem State.watchSuperframe_pending (start : Nat) : (s.watchSuperframe start).pending = s.pending := by
  simp [State.watchSuperframe]
@[simp] theorem State.spend_pending (key n : Nat) : (s.spend key n).pending = s.pending := by simp [State.spend]
@[simp] theorem State.settleShapers_pending (p : Nat) : (s.settleShapers p).pending = s.pending := by simp [State.settleShapers]
@[simp] theorem State.refill_pending (k : Nat) : (s.refill k).2.pending = s.pending := by
  simp only [State.refill]
  (repeat' split) <;> simp
@[simp] theorem State.meter_pending (k n : Nat) : (s.meter k n).2.pending = s.pending := by
  simp only [State.meter]
  (repeat' split) <;> simp
@[simp] theorem State.policerSwap_pending : s.policerSwap.pending = s.pending := by simp [State.policerSwap]
@[simp] theorem State.pushWireless_pending (f : Frame) : (s.pushWireless f).pending = s.pending := by
  simp only [State.pushWireless]
  (repeat' split) <;> simp

@[simp] theorem State.toStation_pending (x : PktCtx) (sid up : Nat) (msdu : List Byte) :
    (s.toStation x sid up msdu).pending = s.pending := by
  unfold State.toStation
  split <;> simp

@[simp] theorem State.toGroup_pending (x : PktCtx) (r bss up : Nat) (msdu : List Byte) :
    (s.toGroup x r bss up msdu).pending = s.pending := by simp [State.toGroup]
@[simp] theorem State.pushWired_pending (sub q : Nat) (f : WireFrame) : (s.pushWired sub q f).pending = s.pending := by
  simp only [State.pushWired]
  (repeat' split) <;> simp
@[simp] theorem State.toWired_pending (x : PktCtx) (sub q : Nat) (body : List Byte) :
    (s.toWired x sub q body).pending = s.pending := by simp [State.toWired]

@[simp] theorem State.addStationFdb_pending (tenant sid addr : Nat) : (s.addStationFdb tenant sid addr).pending = s.pending := by
  unfold State.addStationFdb
  dsimp only
  split <;> simp

@[simp] theorem State.dropStationRefs_pending (sid : Nat) : (s.dropStationRefs sid).pending = s.pending := by
  simp [State.dropStationRefs]

@[simp] theorem State.clearPkt_pending : s.clearPkt.pending = s.pending := by
  unfold State.clearPkt
  rw [State.mk_pending, State.setUnit_pending, State.foldl_pending]
  intro s e
  split <;> simp

@[simp] theorem State.pktSuperframe_pending (start : Nat) : (s.pktSuperframe start).pending = s.pending := by
  simp [State.pktSuperframe]

@[simp] theorem State.cstSend_pending (m : Nat) (msg : List Byte) (stampFor : Option Nat) :
    (s.cstSend m msg stampFor).pending = s.pending := by
  unfold State.cstSend
  split <;> simp

@[simp] theorem State.cstHeard_pending (b : List Byte) : (s.cstHeard b).pending = s.pending := by simp [State.cstHeard]
@[simp] theorem State.leaveAll_pending (reason cause : Nat) : (s.leaveAll reason cause).pending = s.pending := by
  simp [State.leaveAll]

/-! ## Stations and frames (08) -/

@[simp] theorem State.endFrame_pending (id status : Nat) : (s.endFrame id status).pending = s.pending := by
  unfold State.endFrame
  (repeat' split) <;> simp
@[simp] theorem State.cmdUnit_pending (fn tag : Nat) (u : Option Nat) : (s.cmdUnit fn tag u).pending = s.pending := by
  simp [State.cmdUnit]
@[simp] theorem State.dropOrphans_pending : s.dropOrphans.pending = s.pending := by simp [State.dropOrphans]
@[simp] theorem State.readFrame_pending (id : Nat) : (s.readFrame id).pending = s.pending := by
  unfold State.readFrame
  split <;> simp
@[simp] theorem State.dropAt_pending (id status : Nat) (cnt : FieldRef) : (s.dropAt id status cnt).pending = s.pending := by
  simp [State.dropAt]
@[simp] theorem State.returnFrame_pending (id : Nat) : (s.returnFrame id).pending = s.pending := by
  unfold State.returnFrame
  (repeat' split) <;> simp
@[simp] theorem State.twtSwap_pending (r : Nat) : (s.twtSwap r).pending = s.pending := by simp [State.twtSwap]
@[simp] theorem State.toHost_pending (m : RxMpdu) (sid : Option Nat) (status : Nat) :
    (s.toHost m sid status).pending = s.pending := by simp [State.toHost]
@[simp] theorem State.deliverMsdus_pending (m : RxMpdu) (sid : Option Nat) : (s.deliverMsdus m sid).pending = s.pending := by
  simp [State.deliverMsdus]

@[simp] theorem State.releaseMpdu_pending (m : RxMpdu) (sid slot : Option Nat) :
    (s.releaseMpdu m sid slot).pending = s.pending := by
  unfold State.releaseMpdu
  split <;> simp

@[simp] theorem State.moveWindow_pending (sid tid to_ : Nat) : (s.moveWindow sid tid to_).pending = s.pending := by
  unfold State.moveWindow
  (repeat' split) <;> simp
@[simp] theorem State.releaseInOrder_pending (sid tid : Nat) : (s.releaseInOrder sid tid).pending = s.pending := by
  unfold State.releaseInOrder
  split <;> simp
@[simp] theorem State.endRxBa_pending (sid tid : Nat) : (s.endRxBa sid tid).pending = s.pending := by
  unfold State.endRxBa
  split <;> simp
@[simp] theorem State.endAgreement_pending (sid tid dir cause : Nat) : (s.endAgreement sid tid dir cause).pending = s.pending := by
  simp [State.endAgreement]
@[simp] theorem State.clearMac_pending (r : Nat) (onAir : List LaunchOf) : (s.clearMac r onAir).pending = s.pending := by
  simp [State.clearMac]
@[simp] theorem State.macRejoin_pending (r : Nat) : (s.macRejoin r).pending = s.pending := by simp [State.macRejoin]
@[simp] theorem State.resolvePlans_pending (swapped : Nat → Bool) : (s.resolvePlans swapped).pending = s.pending := by
  simp [State.resolvePlans]
@[simp] theorem State.macSuperframe_pending (start : Nat) : (s.macSuperframe start).pending = s.pending := by
  simp [State.macSuperframe]
@[simp] theorem State.addPlan_pending (l : List Ppdu) : (s.addPlan l).pending = s.pending := by simp [State.addPlan]

/-! ## Ports and Tile Links (14) -/

@[simp] theorem State.setLink_pending (sub speed : Nat) : (s.setLink sub speed).pending = s.pending := by simp [State.setLink]

@[simp] theorem State.clearPort_pending (p : Nat) : (s.clearPort p).pending = s.pending := by
  have h1 : ((subsOf p).foldl (fun s b => s.setLink b 0) s).pending = s.pending := State.foldl_pending fun s b => s.setLink_pending
      b 0
  exact State.ite_pending h1 ((State.put_pending ..).trans h1)

@[simp] theorem State.portSwap_pending (p : Nat) (changed : Bool) : (s.portSwap p changed).pending = s.pending := by
  simp [State.portSwap]
@[simp] theorem State.tileSend_pending (k type : Nat) (payload : List Byte) (mask : Option (LaunchOf × Nat)) :
    (s.tileSend k type payload mask).pending = s.pending := by simp [State.tileSend]
@[simp] theorem State.startTraining_pending (k : Nat) : (s.startTraining k).pending = s.pending := by simp [State.startTraining]
@[simp] theorem State.autoTrain_pending (k : Nat) : (s.autoTrain k).pending = s.pending := by simp [State.autoTrain]
@[simp] theorem State.clearTile_pending (k cause : Nat) : (s.clearTile k cause).pending = s.pending := by simp [State.clearTile]
@[simp] theorem State.tileDown_pending (k : Nat) : (s.tileDown k).pending = s.pending := by simp [State.tileDown]
@[simp] theorem State.sendMasks_pending (r : Nat) (of_ : LaunchOf) (t : Nat) (chains : List Nat) :
    (s.sendMasks r of_ t chains).pending = s.pending := by simp [State.sendMasks]
@[simp] theorem State.sendChannel_pending (k r : Nat) (w : Word) (target : Nat) :
    (s.sendChannel k r w target).pending = s.pending := by simp [State.sendChannel]
@[simp] theorem State.sendPositions_pending (k n : Nat) (pos : Nat → Nat) : (s.sendPositions k n pos).pending = s.pending := by
  simp [State.sendPositions]
@[simp] theorem State.sendPower_pending (k : Nat) (w : Word) : (s.sendPower k w).pending = s.pending := by simp [State.sendPower]
@[simp] theorem State.stageTile_pending (r k : Nat) : (s.stageTile r k).pending = s.pending := by
  unfold State.stageTile
  split <;> simp
@[simp] theorem State.stageTiles_pending (r : Nat) : (s.stageTiles r).pending = s.pending := by simp [State.stageTiles]
@[simp] theorem State.setUpTile_pending (k : Nat) : (s.setUpTile k).pending = s.pending := by
  unfold State.setUpTile
  (repeat' split) <;> simp
@[simp] theorem State.shadowTiles_pending (r : Nat) : (s.shadowTiles r).pending = s.pending := by simp [State.shadowTiles]

/-! ## The reset of a unit (01 R27) -/

@[simp] theorem State.dropConsumer_pending (c : Nat) : (s.dropConsumer c).pending = s.pending := by simp [State.dropConsumer]
@[simp] theorem State.chainPowered_pending (i : Nat) (on_ : Bool) : (s.chainPowered i on_).pending = s.pending := by
  simp [State.chainPowered]
@[simp] theorem State.reenter_pending (u : FUnit) : (s.reenter u).pending = s.pending := by
  unfold State.reenter
  (repeat' split) <;> simp

@[simp] theorem State.disableRings_pending (f : Nat) : (s.disableRings f).pending = s.pending := by
  unfold State.disableRings
  extract_lets s1 s2
  have h1 : s1.pending = s.pending :=
    State.foldl_pending fun s n => by rw [State.put_pending, State.put_pending, State.put_pending]
  rw [State.foldl_pending fun s w => s.dropConsumer_pending _, State.put_pending, h1]

@[simp] theorem State.dropFlashWork_pending : s.dropFlashWork.pending = s.pending := by
  unfold State.dropFlashWork
  dsimp only
  split <;> simp

@[simp] theorem State.dropFnWork_pending (f : Nat) : (s.dropFnWork f).pending = s.pending := by
  unfold State.dropFnWork
  extract_lets gone s1 s2 slots src s3 s4 s5 s6
  have h1 : s1.pending = s.pending := State.foldl_pending fun s r => by
    split
    · exact State.ite_pending ((State.modRadio_pending ..).trans (State.endLaunch_pending ..)) rfl
    · rfl
  have h6 : s6.pending = s.pending := by
    rw [State.modMesh_pending, State.foldl_pending fun s k => s.nextWaiting_pending k, State.foldl_pending fun s k =>
        s.zeroise_pending k,
      State.mk_pending, State.dropOrphans_pending, h1]
  exact State.ite_pending ((State.dropFlashWork_pending _).trans h6) h6

@[simp] theorem State.clearTable_pending (t : Nat) : (s.clearTable t).pending = s.pending := by simp [State.clearTable]

@[simp] theorem State.dropSealing_pending : s.dropSealing.pending = s.pending :=
  State.foldl_pending fun s id => by
  split
  · exact State.ite_pending rfl (State.endFrame_pending ..)
  · rfl

@[simp] theorem State.clearUnit_pending (u : FUnit) (cause detail : Nat) : (s.clearUnit u cause detail).pending = s.pending := by
  unfold State.clearUnit
  split <;> simp

/-! ## Fault records, strobes and device faults (01 R28 to R34) -/

@[simp] theorem State.postRecord_pending (code kind index cause detail flags : Nat) (tags : List (Nat × Nat × Nat)) :
    (s.postRecord code kind index cause detail flags tags).pending = s.pending := by
  have hp (f code : Nat) (l : List (List Byte)) (s : State) : (l.foldl (fun s p => s.postOn f code p) s).pending = s.pending :=
    State.foldl_pending fun _ _ => State.postOn_pending ..
  unfold State.postRecord
  extract_lets mk s1 s2
  have h2 : s2.pending = s1.pending := State.foldl_pending fun s f => State.ite_pending (hp ..) rfl
  rw [State.faultNotice_pending, State.incSat_pending, h2, hp]

@[simp] theorem State.withdraw_pending (c : Cmd) : (s.withdraw c).pending = s.pending := by
  unfold State.withdraw
  split
  · rfl
  · rw [State.mapCmds_pending, State.put64_pending, State.setRing_pending, State.putCqe_pending,
      State.foldl_pending fun s j => s.putCqe_pending ..]

@[simp] theorem State.withdrawUnit_pending (u : FUnit) : (s.withdrawUnit u).pending = s.pending :=
  State.foldl_pending fun s c => by split <;> simp
@[simp] theorem State.discardCmds_pending (u : FUnit) : (s.discardCmds u).pending = s.pending := by
  unfold State.discardCmds
  split <;> simp
@[simp] theorem State.commitFault_pending (i : Nat) : (s.commitFault i).pending = s.pending := by
  unfold State.commitFault
  (repeat' split) <;> simp
@[simp] theorem State.strobe_pending (u : FUnit) (cause detail : Nat) : (s.strobe u cause detail).pending = s.pending := by
  unfold State.strobe
  split <;> simp
@[simp] theorem State.spoilAlm_pending (ops : List FlashOp) : (s.spoilAlm ops).pending = s.pending := by
  unfold State.spoilAlm
  split <;> simp
@[simp] theorem State.deviceReset_pending (wait : ResetWait) (straps : Bool) : (s.deviceReset wait straps).pending = s.pending := by
  simp [State.deviceReset]
@[simp] theorem State.startQualify_pending : s.startQualify.pending = s.pending := by simp [State.startQualify]
@[simp] theorem State.writeRecord_pending (parts : List (List Byte)) : (s.writeRecord parts).1.pending = s.pending :=
  State.foldl_fst_pending fun _ _ => State.logWriteNow_pending ..
@[simp] theorem State.cutAttempt_pending : s.cutAttempt.pending = s.pending := by
  unfold State.cutAttempt
  split <;> simp
@[simp] theorem State.deviceFaultWith_pending (cause detail : Nat) : (s.deviceFaultWith cause detail).pending = s.pending := by
  simp [State.deviceFaultWith]
@[simp] theorem State.softReset_pending : s.softReset.pending = s.pending := by simp [State.softReset]

end Sys2Proof.Machine

end

section
/-! PROOFS. No command's own meaning adds a command to the queue or takes one from it (log 2): one lemma for each row and for
what only the rows use. -/

namespace Sys2Proof.Machine

variable (s : State)

/-! ## The rows of the front-ends (06) -/

@[simp] theorem trip_pending (i vswr : Nat) : (trip i vswr s).pending = s.pending := by simp [trip]
@[simp] theorem blockClear_pending (q : Requester) (r : Nat) (hi : Bool) (v : Word) : (blockClear q r hi v s).pending = s.pending :=
  State.access_pending _ _ _ _ _ fun _ => State.foldl_pending fun _ _ => State.ite_pending
  ((State.foldl_pending fun _ _ => State.tileSend_pending ..).trans (State.modChain_pending ..)) rfl
@[simp] theorem synLocks_pending (r g k : Nat) : (synLocks r g k s).pending = s.pending := by simp [synLocks]
@[simp] theorem synLost_pending (r g : Nat) : (synLost r g s).pending = s.pending := by
  simp only [synLost]
  (repeat' split) <;> simp
@[simp] theorem tileSilent_pending (k : Nat) : (tileSilent k s).pending = s.pending := by
  unfold tileSilent
  split <;> simp
@[simp] theorem State.beaconSent_pending (r bss t stop : Nat) : (s.beaconSent r bss t stop).pending = s.pending := by
  simp [State.beaconSent]
@[simp] theorem launchAsk_pending (r : Nat) (of_ : LaunchOf) (t0 air0 : Nat) (f : PpduForm) :
    (launchAsk r of_ t0 air0 f s).pending = s.pending := by simp [launchAsk]

@[simp] theorem State.airReached_pending (r : Nat) (l : Launch) : (s.airReached r l).pending = s.pending := by
  unfold State.airReached
  split
  · simp
  · simp
  · exact State.foldl_pending fun s e => State.ite_pending (by split <;> simp) rfl

@[simp] theorem rampStart_pending (r : Nat) (of_ : LaunchOf) : (rampStart r of_ s).pending = s.pending := by
  unfold rampStart
  split
  · rfl
  · extract_lets chains set s1
    have hs (s : State) (g : Launch → Launch) : (set s g).pending = s.pending := State.modRadio_pending ..
    refine State.ite_pending rfl (State.ite_pending (hs ..) (State.ite_pending (hs ..) (State.ite_pending ?_ ?_)))
    · rw [State.postEvent_pending, State.inc_pending, hs]
    · rw [State.airReached_pending, State.foldl_pending (fun _ _ => State.modChain_pending ..), hs, State.cutReception_pending]

@[simp] theorem txEnd_pending (r : Nat) : (txEnd r s).pending = s.pending := by
  unfold txEnd
  split <;> simp
@[simp] theorem rxStart_pending (r : Nat) : (rxStart r s).pending = s.pending :=
  State.ite_pending rfl ((State.foldl_pending fun s _ => s.modChain_pending ..).trans (State.modRadio_pending ..))
@[simp] theorem rxEnd_pending (r : Nat) : (rxEnd r s).pending = s.pending :=
  (State.foldl_pending fun s _ => s.modChain_pending ..).trans (State.modRadio_pending ..)

@[simp] theorem watchdog_pending (i : Nat) : (watchdog i s).pending = s.pending := by
  unfold watchdog
  dsimp only
  split <;> simp

@[simp] theorem calStart_pending (r kind c : Nat) : (calStart r kind c s).pending = s.pending := by
  refine State.ite_pending rfl ?_
  rw [State.modRadio_pending, State.foldl_pending fun s p => State.foldl_pending fun s t => s.tileSend_pending ..,
    State.foldl_pending fun s d => s.modChain_pending ..]

@[simp] theorem State.ownRetune_pending (r c newPos newVswr : Nat) : (s.ownRetune r c newPos newVswr).pending = s.pending := by
  simp [State.ownRetune]

@[simp] theorem State.probed_pending (r i : Nat) (good : List Nat) : (s.probed r i good).pending = s.pending := by
  unfold State.probed
  extract_lets key now h
  have hn (s : State) (d : Nat) (c : Coef) : (now s d c).pending = s.pending := State.modChain_pending ..
  split
  · rfl
  · refine State.ite_pending (State.foldl_pending fun s j => ?_) ?_
    · split
      · exact State.ite_pending rfl (by rw [hn, hn])
      · rfl
    · dsimp only
      split
      · rfl
      · split
        · rw [hn]; exact State.ite_pending (hn ..) rfl
        · rfl

@[simp] theorem State.roundEnds_pending (r : Nat) : (s.roundEnds r).pending = s.pending := by simp [State.roundEnds]

@[simp] theorem calDone_pending (r : Nat) (res : CalResult) : (calDone r res s).pending = s.pending := by
  unfold calDone
  split
  · rfl
  · extract_lets i s1 s1' s2 s3
    have h1 : s1'.pending = s.pending := by
      rw [State.modChain_pending, State.foldl_pending (fun _ _ => State.modChain_pending ..), State.modRadio_pending]
    refine State.ite_pending ?_ (State.ite_pending ?_ h1)
    · rw [State.ownRetune_pending, State.modChain_pending, h1]
    · rw [State.roundEnds_pending, State.probed_pending, State.checkRef_pending, State.modRadio_pending, h1]

@[simp] theorem coefStale_pending (i : Nat) : (coefStale i s).pending = s.pending := by simp [coefStale]

/-! ## The rows of the baseband (07) -/

@[simp] theorem State.freezeRx_pending (r : Nat) (level : Int) (d : Detect) : (s.freezeRx r level d).pending = s.pending := by
  simp [State.freezeRx]
@[simp] theorem detected_pending (r : Nat) (level : Int) (d : Detect) : (detected r level d s).pending = s.pending := by
  simp [detected]
@[simp] theorem State.falseDet_pending (r : Nat) : (s.falseDet r).pending = s.pending := by simp [State.falseDet]
@[simp] theorem lltfGone_pending (r : Nat) : (lltfGone r s).pending = s.pending := by simp [lltfGone]
@[simp] theorem sigDone_pending (r : Nat) (ok : Bool) (last : Option LtfForm) : (sigDone r ok last s).pending = s.pending := by
  unfold sigDone
  (repeat' split) <;> simp
@[simp] theorem restarted_pending (r : Nat) (level : Int) (d : Detect) : (restarted r level d s).pending = s.pending := by
  simp [restarted]
@[simp] theorem captured_pending (r : Nat) (level : Int) (d : Detect) : (captured r level d s).pending = s.pending := by
  simp [captured]

@[simp] theorem State.updateCsi_pending (r id : Nat) (chains : List Nat) (stamp : NT64) (m : Measured) :
    (s.updateCsi r id chains stamp m).pending = s.pending := by
  unfold State.updateCsi
  split <;> simp

@[simp] theorem State.storeFeedback_pending (r : Nat) (stamp : NT64) (m : Measured) :
    (s.storeFeedback r stamp m).pending = s.pending := by
  unfold State.storeFeedback
  split <;> simp

@[simp] theorem rxPpduEnds_pending (r : Nat) (m : Measured) : (rxPpduEnds r m s).pending = s.pending :=
  State.ite_pending rfl (by
  rw [State.toSearch_pending, State.inc64_pending, State.updateCsi_pending, State.postMetrics_pending]
  rfl)

@[simp] theorem State.openWindow_pending (r : Nat) (of_ : WindowOf) (te len : Nat) (power : Int) :
    (s.openWindow r of_ te len power).pending = s.pending := by simp [State.openWindow]
@[simp] theorem tbOpen_pending (r : Nat) (of_ : WindowOf) (te len : Nat) : (tbOpen r of_ te len s).pending = s.pending := by
  unfold tbOpen
  (repeat' split) <;> simp

@[simp] theorem State.tbUser_pending (r : Nat) (stamp : NT64) (sound : Bool) (m : Measured) (i : Nat) :
    (s.tbUser r stamp sound m i).pending = s.pending :=
  State.ite_pending (by rw [State.postMetrics_pending, State.countBB_pending]) (State.ite_pending
  (by rw [State.storeFeedback_pending, State.inc64_pending, State.updateCsi_pending, State.postMetrics_pending])
  (by rw [State.inc64_pending, State.updateCsi_pending, State.postMetrics_pending]))

@[simp] theorem tbClose_pending (r : Nat) (users : List Measured) : (tbClose r users s).pending = s.pending := by
  simp only [tbClose]
  (repeat' split) <;> simp
@[simp] theorem prefetch_pending (id : Nat) (slow : List Nat) : (prefetch id slow s).pending = s.pending := by
  unfold prefetch
  split <;> simp
@[simp] theorem State.readHeads_pending (r : Nat) (u : PlanUser) (dur : Nat) : (s.readHeads r u dur).pending = s.pending := by
  simp [State.readHeads]
@[simp] theorem precode_pending (id : Nat) (rus : List RuPlan) : (precode id rus s).pending = s.pending := by
  unfold precode
  split <;> simp
@[simp] theorem State.explicitCheck_pending (r : Nat) : (s.explicitCheck r).pending = s.pending := by simp [State.explicitCheck]
@[simp] theorem explicitTest_pending (r : Nat) : (explicitTest r s).pending = s.pending := by simp [explicitTest]
@[simp] theorem soundTimer_pending (sid r : Nat) : (soundTimer sid r s).pending = s.pending := by
  unfold soundTimer
  (repeat' split) <;> simp
@[simp] theorem State.bbSwap_pending (r : Nat) (old : List Nat) (channel width : Bool) :
    (s.bbSwap r old channel width).pending = s.pending := by simp [State.bbSwap]
@[simp] theorem State.bbSuperframe_pending : s.bbSuperframe.pending = s.pending := by simp [State.bbSuperframe]

/-! ## The rows of reset and containment (01 R27 to R34) -/

@[simp] theorem release_pending (refsel : BitVec 2) (clkq : BitVec 3) (bootmode : BitVec 2) :
    (release refsel clkq bootmode s).pending = s.pending := by simp [release]
@[simp] theorem resetLow_pending : (resetLow s).pending = s.pending := by simp [resetLow]
@[simp] theorem pwrFall_pending : (pwrFall s).pending = s.pending := by simp [pwrFall]
@[simp] theorem pwrReturn_pending : (pwrReturn s).pending = s.pending := by simp [pwrReturn]
@[simp] theorem strobeFires_pending (u : FUnit) (cause detail : Nat) : (strobeFires u cause detail s).pending = s.pending := by
  simp [strobeFires]
@[simp] theorem resetReached_pending (u : FUnit) : (resetReached u s).pending = s.pending := by
  unfold resetReached
  split <;> simp
@[simp] theorem deviceFails_pending (cause detail : Nat) : (deviceFails cause detail s).pending = s.pending := by simp [deviceFails]

/-! ## The rows of the clock tree (02) -/

@[simp] theorem qualified_pending (edges : Nat) (ppm : Int) : (qualified edges ppm s).pending = s.pending := by simp [qualified]
@[simp] theorem State.fcNoRef_pending (n : Nat) : (s.fcNoRef n).pending = s.pending := by simp [State.fcNoRef]
@[simp] theorem refLoss_pending (deviation : Bool) : (refLoss deviation s).pending = s.pending := by simp [refLoss]
@[simp] theorem State.setSource_pending (d : Nat) (root : Bool) : (s.setSource d root).pending = s.pending := by
  simp [State.setSource]
@[simp] theorem State.enterRecovery_pending (cause : Nat) : (s.enterRecovery cause).pending = s.pending := by
  simp [State.enterRecovery]
@[simp] theorem rootLocked_pending : (rootLocked s).pending = s.pending := by simp [rootLocked]
@[simp] theorem rootUnlock_pending : (rootUnlock s).pending = s.pending := by simp [rootUnlock]
@[simp] theorem State.rejoin_pending (u : FUnit) : (s.rejoin u).pending = s.pending := by simp [State.rejoin]
@[simp] theorem clkEnable_pending (r : Requester) (b : Nat) : (clkEnable r b s).pending = s.pending := by simp [clkEnable]
@[simp] theorem clkStarts_pending (b : Nat) : (clkStarts b s).pending = s.pending := by
  unfold clkStarts
  (repeat' split) <;> simp
@[simp] theorem State.groupOff_pending (b : Nat) : (s.groupOff b).pending = s.pending := by simp [State.groupOff]
@[simp] theorem clkDisable_pending (r : Requester) (b : Nat) : (clkDisable r b s).pending = s.pending := by simp [clkDisable]
@[simp] theorem clkStops_pending (b : Nat) : (clkStops b s).pending = s.pending := by simp [clkStops]
@[simp] theorem drainFails_pending (b : Nat) : (drainFails b s).pending = s.pending := by
  unfold drainFails
  split <;> simp

@[simp] theorem switchGo_pending (r : Requester) (d : Nat) (root : Bool) : (switchGo r d root s).pending = s.pending := by
  unfold switchGo
  refine State.ite_pending rfl (State.access_pending _ _ _ _ _ fun s => ?_)
  dsimp only
  split
  · rw [State.put_pending, State.put_pending]
  · refine State.ite_pending ?_ ?_
    · rw [State.put_pending, State.put_pending]
    · rw [State.mk_pending, State.put_pending]

@[simp] theorem switchDone_pending (d : Nat) : (switchDone d s).pending = s.pending := by
  unfold switchDone
  split
  · rw [State.put_pending, State.setSource_pending]
  · rfl

@[simp] theorem State.abandonFault_pending (d : Nat) : (s.abandonFault d).pending = s.pending := by simp [State.abandonFault]

@[simp] theorem switchForced_pending (d : Nat) : (switchForced d s).pending = s.pending := by
  unfold switchForced
  split
  · rw [State.abandonFault_pending, State.postEvent_pending, State.put_pending, State.put_pending, State.setSource_pending]
  · rfl

@[simp] theorem fcWrite_pending (r : Requester) (n : Nat) (v : Word) : (fcWrite r n v s).pending = s.pending := by
  refine State.ite_pending rfl (State.access_pending _ _ _ _ _ fun s => ?_)
  extract_lets sel exp ok s1
  have h1 : s1.pending = s.pending :=
    State.ite_pending (by rw [State.put_pending, State.put_pending, State.put_pending]) (State.invalidWrite_pending ..)
  exact State.ite_pending ((State.put_pending ..).trans h1) (State.ite_pending ((State.put_pending ..).trans h1) h1)

@[simp] theorem fcStart_pending (r : Requester) (n sel exp : Nat) (evt : Bool) :
    (fcStart r n sel exp evt s).pending = s.pending := by simp [fcStart]
@[simp] theorem fcDone_pending (n edges : Nat) : (fcDone n edges s).pending = s.pending := by
  unfold fcDone
  split <;> simp

/-! ## The rows of the mesh island (10) -/

@[simp] theorem meshDetect_pending (d : MeshDetect) : (meshDetect d s).pending = s.pending := by simp [meshDetect]
@[simp] theorem State.meshSearch_pending : s.meshSearch.pending = s.pending := by simp [State.meshSearch]
@[simp] theorem meshSfd_pending (r0 r1 : Int) : (meshSfd r0 r1 s).pending = s.pending := by simp [meshSfd]
@[simp] theorem meshSfdGone_pending : (meshSfdGone s).pending = s.pending := by simp [meshSfdGone]
@[simp] theorem meshRestart_pending (level : Int) : (meshRestart level s).pending = s.pending := by simp [meshRestart]
@[simp] theorem meshPhr_pending (len : Nat) (ok : Bool) : (meshPhr len ok s).pending = s.pending := by simp [meshPhr]
@[simp] theorem meshCapture_pending (level : Int) : (meshCapture level s).pending = s.pending := by simp [meshCapture]
@[simp] theorem State.observeRouter_pending (src local_ : Nat) : (s.observeRouter src local_).pending = s.pending := by
  unfold State.observeRouter
  split <;> simp
@[simp] theorem State.summarise_pending (payload : List Byte) : (s.summarise payload).pending = s.pending := by
  simp [State.summarise]
@[simp] theorem State.meshWake_pending (rule src : Nat) : (s.meshWake rule src).pending = s.pending := by simp [State.meshWake]
@[simp] theorem State.ackIn_pending (src : Nat) (payload : List Byte) : (s.ackIn src payload).pending = s.pending := by
  unfold State.ackIn
  split <;> simp
@[simp] theorem State.openReply_pending (src fc : Nat) : (s.openReply src fc).pending = s.pending := by simp [State.openReply]

@[simp] theorem State.meshAccept_pending (b payload : List Byte) (stampMs : Nat) :
    (s.meshAccept b payload stampMs).pending = s.pending := by
  unfold State.meshAccept
  dsimp only
  split <;> simp

@[simp] theorem meshEnd_pending (b : List Byte) (fcsOk : Bool) : (meshEnd b fcsOk s).pending = s.pending := by
  refine State.ite_pending rfl ?_
  extract_lets s1 fctl dst src fc d named
  have h1 : s1.pending = s.pending := State.meshSearch_pending ..
  have hi (p : FieldRef) : (s1.inc p).pending = s.pending := (State.inc_pending ..).trans h1
  refine State.ite_pending h1 (State.ite_pending (hi _) (State.ite_pending (hi _) (State.ite_pending (hi _)
    (State.ite_pending h1 (State.ite_pending (hi _) (State.ite_pending h1 ?_))))))
  split
  · exact hi _
  · refine State.ite_pending (State.ite_pending ((State.openReply_pending ..).trans (hi _)) (hi _)) (State.ite_pending ?_ ?_)
    · rw [State.postOnce_pending, hi]
    · rw [State.meshAccept_pending, h1]

@[simp] theorem replayExpired_pending (src fc : Nat) : (replayExpired src fc s).pending = s.pending := by simp [replayExpired]
@[simp] theorem meshSf_pending (s0 : State) : (meshSf s0).pending = s0.pending := by simp [meshSf]
@[simp] theorem slotStart_pending : (slotStart s).pending = s.pending := by simp [slotStart]
@[simp] theorem meshBeacon_pending (level : Int) : (meshBeacon level s).pending = s.pending := by
  simp only [meshBeacon]
  (repeat' split) <;> simp
@[simp] theorem replyTx_pending (level : Int) : (replyTx level s).pending = s.pending := by
  simp only [replyTx]
  (repeat' split) <;> simp
@[simp] theorem State.sentInSlot_pending (id : Nat) : (s.sentInSlot id).pending = s.pending := by simp [State.sentInSlot]
@[simp] theorem listenTx_pending (level : Int) : (listenTx level s).pending = s.pending := by
  simp only [listenTx]
  (repeat' split) <;> simp
@[simp] theorem routerTx_pending (id : Nat) (level : Int) : (routerTx id level s).pending = s.pending := by
  unfold routerTx
  (repeat' split) <;> simp
@[simp] theorem wakeTx_pending (level : Int) : (wakeTx level s).pending = s.pending := by
  simp only [wakeTx]
  (repeat' split) <;> simp
@[simp] theorem listenNow_pending (id : Nat) (level : Int) : (listenNow id level s).pending = s.pending := by
  unfold listenNow
  (repeat' split) <;> simp
@[simp] theorem meshTxDone_pending : (meshTxDone s).pending = s.pending := by
  unfold meshTxDone
  (repeat' split) <;> simp
@[simp] theorem meshLifetime_pending (id : Nat) : (meshLifetime id s).pending = s.pending := by
  unfold meshLifetime
  split <;> simp
@[simp] theorem routerAged_pending (addr : Nat) : (routerAged addr s).pending = s.pending := by
  unfold routerAged
  split <;> simp
@[simp] theorem wuSignal_pending (wua cmd : Nat) (crcOk : Bool) : (wuSignal wua cmd crcOk s).pending = s.pending := by
  unfold wuSignal
  (repeat' split) <;> simp
@[simp] theorem wuExpired_pending : (wuExpired s).pending = s.pending := by
  unfold wuExpired
  split <;> simp
@[simp] theorem meshWatchdog_pending : (meshWatchdog s).pending = s.pending := by
  unfold meshWatchdog
  split <;> simp
theorem State.queueDown_pending (d : MeshDown) : ∀ t, s.queueDown d = some t → t.pending = s.pending :=
  State.ite_some_pending (fun _ h => nomatch h) (State.some_pending (State.modMesh_pending ..))

@[simp] theorem meshDownlink_pending : (meshDownlink s).pending = s.pending := by
  unfold meshDownlink
  split
  · rfl
  · extract_lets s1 h len life ok d
    have h1 : s1.pending = s.pending := State.modMesh_pending ..
    refine State.ite_pending ((State.refuseAt_pending ..).trans h1) (State.ite_pending ((State.inc_pending ..).trans h1) ?_)
    split
    next hq => exact (State.queueDown_pending _ _ _ hq).trans h1
    · exact (State.inc_pending ..).trans h1

@[simp] theorem State.onMesh_pending (c : Cmd) (ok : Bool) (act : State → State)
    (h : ∀ s, (act s).pending = s.pending) : (s.onMesh c ok act).pending = s.pending := by
  refine State.ite_pending (State.complete_pending ..) (State.ite_pending (State.complete_pending ..) ?_)
  split
  · exact State.ite_pending (h s) ((State.complete_pending ..).trans (State.refuseAt_pending ..))
  · exact h s

@[simp] theorem nwSend_pending (fn tag : Nat) (data : HostData) : (nwSend fn tag data s).pending = s.pending := by
  refine State.runCmd_pending _ _ _ _ _ _ _ fun c s => State.onMesh_pending _ _ _ _ fun s => ?_
  split
  · exact State.complete_pending ..
  · extract_lets d
    split
    next hq => rw [State.takeUp_pending, State.queueDown_pending _ _ _ hq]
    · exact State.complete_pending ..

@[simp] theorem nwWakeUp_pending (fn tag : Nat) : (nwWakeUp fn tag s).pending = s.pending := by
  refine State.runCmd_pending _ _ _ _ _ _ _ fun c s => State.onMesh_pending _ _ _ _ fun s => ?_
  rw [State.modMesh_pending, State.takeUp_pending]
@[simp] theorem nwLoad_pending (fn tag : Nat) : (nwLoad fn tag s).pending = s.pending := by
  refine State.runCmd_pending _ _ _ _ _ _ _ fun c s => State.ite_pending rfl (State.onMesh_pending _ _ _ _ fun s => ?_)
  split <;> simp
@[simp] theorem nwErase_pending (fn tag : Nat) : (nwErase fn tag s).pending = s.pending := by simp [nwErase]

/-! ## The rows of the cipher engine (12) -/

@[simp] theorem State.onSlot_pending (c : Cmd) (slot : Nat) (ok : Bool) (act : State → State)
    (h : ∀ s, (act s).pending = s.pending) : (s.onSlot c slot ok act).pending = s.pending := by
  refine State.ite_pending (State.complete_pending ..) ?_
  split
  · exact (State.complete_pending ..).trans (State.refuseAt_pending ..)
  · exact State.ite_pending ((State.complete_pending ..).trans (State.isolationEvent_pending ..)) (h s)

@[simp] theorem keyWrite_pending (fn tag : Nat) (block : HostData) : (keyWrite fn tag block s).pending = s.pending := by
  unfold keyWrite
  split <;> simp
@[simp] theorem keyErase_pending (fn tag : Nat) : (keyErase fn tag s).pending = s.pending := by simp [keyErase]
@[simp] theorem refEnd_pending (op : Nat) : (refEnd op s).pending = s.pending := by
  unfold refEnd
  split <;> simp
@[simp] theorem keyProceed_pending (slot : Nat) : (keyProceed slot s).pending = s.pending := by
  simp only [keyProceed]
  (repeat' split) <;> simp

@[simp] theorem keyErased_pending (slot : Nat) : (keyErased slot s).pending = s.pending := by
  unfold keyErased
  dsimp only
  split <;> simp

@[simp] theorem cphCrypt_pending (op fn tag : Nat) (data : HostData) : (cphCrypt op fn tag data s).pending = s.pending := by
  refine State.runCmd_pending _ _ _ _ _ _ _ fun c s => ?_
  extract_lets slot o hw
  refine State.ite_pending rfl (State.onSlot_pending _ _ _ _ _ fun s => ?_)
  split
  · exact State.complete_pending ..
  · refine State.ite_pending (State.complete_pending ..) (State.ite_pending (State.complete_pending ..) ?_)
    split
    · exact State.complete_pending ..
    · refine State.ite_pending rfl ?_
      have hd : (if hw then s.drawCounter slot else (some 0, s)).2.pending = s.pending := by
        split
        · exact State.drawCounter_pending ..
        · rfl
      dsimp only
      split
      · rw [State.complete_pending, hd]
      · rw [State.cphAdmit_pending, State.takeUp_pending, hd]

@[simp] theorem serviceDone_pending (op : Nat) : (serviceDone op s).pending = s.pending := by
  unfold serviceDone
  (repeat' split) <;> simp

/-! ## The rows of the packet path (11) -/

@[simp] theorem State.hit_pending (i : Nat) : (s.hit i).pending = s.pending := by simp [State.hit]

@[simp] theorem State.classify_pending (src tenant : Nat) (bs : List Byte) (vxlan : Bool) (up : Nat) :
    (s.classify src tenant bs vxlan up).2.pending = s.pending := by
  simp only [State.classify]
  (repeat' split) <;> simp

@[simp] theorem State.learn_pending (x : PktCtx) : (s.learn x).pending = s.pending := by
  simp only [State.learn]
  (repeat' split) <;> simp

@[simp] theorem State.sendCopy_pending (x : PktCtx) (routed : Bool) (yellow : Option Nat) (d : Dest) :
    (s.sendCopy x routed yellow d).pending = s.pending := by
  unfold State.sendCopy
  dsimp only
  split <;> simp

@[simp] theorem State.police_pending (x : PktCtx) : (s.police x).2.pending = s.pending := by
  simp only [State.police]
  (repeat' split) <;> simp

@[simp] theorem State.deliver_pending (x : PktCtx) (routed : Bool) (ds : List Dest) :
    (s.deliver x routed ds).pending = s.pending := by
  unfold State.deliver
  refine State.ite_pending rfl ?_
  have hp := s.police_pending x
  split <;> rename_i heq <;> rw [heq] at hp
  · rw [State.inc_pending, hp]
  · exact (State.foldl_pending fun s d => s.sendCopy_pending ..).trans hp

@[simp] theorem State.viaNextHop_pending (x : PktCtx) (routed mtu : Bool) (h : Option NextHop) :
    (s.viaNextHop x routed mtu h).pending = s.pending := by
  unfold State.viaNextHop
  (repeat' split) <;> simp

@[simp] theorem State.routeFound_pending (x : PktCtx) (r : Option PktRoute) : (s.routeFound x r).pending = s.pending := by
  unfold State.routeFound
  split <;> simp
@[simp] theorem State.forward_pending (s0 : State) (x : PktCtx) : (s0.forward x).pending = s0.pending := by simp [State.forward]
@[simp] theorem pipeline_pending (src : Nat) : (pipeline src s).pending = s.pending := by
  simp only [pipeline]
  (repeat' split) <;> simp
@[simp] theorem lpmResult_pending (src : Nat) (ok : Bool) : (lpmResult src ok s).pending = s.pending := by
  unfold lpmResult
  split <;> simp
@[simp] theorem fdbAged_pending (tenant addr : Nat) : (fdbAged tenant addr s).pending = s.pending := by
  unfold fdbAged
  split <;> simp
@[simp] theorem flowAged_pending (key : Nat) : (flowAged key s).pending = s.pending := by
  unfold flowAged
  split <;> simp
@[simp] theorem qdepthSel_pending (r : Requester) (v : Word) : (qdepthSel r v s).pending = s.pending := by simp [qdepthSel]

@[simp] theorem State.pktCmd_pending (fn tag opcode : Nat) (fits ok : Cmd → Bool) (act : Cmd → State → State)
    (h : ∀ c s, (act c s).pending = s.pending) : (s.pktCmd fn tag opcode fits ok act).pending = s.pending := by
  refine State.runCmd_pending _ _ _ _ _ _ _ fun c s => State.ite_pending rfl (State.ite_pending (State.complete_pending ..) ?_)
  split
  · exact (State.complete_pending ..).trans (State.refuseAt_pending ..)
  · exact h c s

@[simp] theorem ruleWrite_pending (fn tag : Nat) (data : HostData) : (ruleWrite fn tag data s).pending = s.pending := by
  unfold ruleWrite
  split <;> simp
@[simp] theorem ruleClear_pending (fn tag : Nat) : (ruleClear fn tag s).pending = s.pending := by simp [ruleClear]
@[simp] theorem routeAdd_pending (fn tag : Nat) : (routeAdd fn tag s).pending = s.pending := by simp [routeAdd]
@[simp] theorem routeDelete_pending (fn tag : Nat) : (routeDelete fn tag s).pending = s.pending := by simp [routeDelete]
@[simp] theorem nextHopWrite_pending (fn tag : Nat) : (nextHopWrite fn tag s).pending = s.pending := by simp [nextHopWrite]
@[simp] theorem nextHopDelete_pending (fn tag : Nat) : (nextHopDelete fn tag s).pending = s.pending := by simp [nextHopDelete]
@[simp] theorem fdbWrite_pending (fn tag : Nat) : (fdbWrite fn tag s).pending = s.pending := by simp [fdbWrite]
@[simp] theorem fdbDelete_pending (fn tag : Nat) : (fdbDelete fn tag s).pending = s.pending := by simp [fdbDelete]
@[simp] theorem flowAdd_pending (fn tag : Nat) : (flowAdd fn tag s).pending = s.pending := by simp [flowAdd]
@[simp] theorem flowDelete_pending (fn tag : Nat) : (flowDelete fn tag s).pending = s.pending := by simp [flowDelete]
@[simp] theorem rangeSet_pending (fn tag : Nat) : (rangeSet fn tag s).pending = s.pending := by simp [rangeSet]
@[simp] theorem rangeDisable_pending (fn tag : Nat) : (rangeDisable fn tag s).pending = s.pending := by simp [rangeDisable]
@[simp] theorem tunnelWrite_pending (fn tag : Nat) (data : HostData) : (tunnelWrite fn tag data s).pending = s.pending := by
  unfold tunnelWrite
  split <;> simp
@[simp] theorem tunnelClear_pending (fn tag : Nat) : (tunnelClear fn tag s).pending = s.pending := by simp [tunnelClear]
@[simp] theorem policerWrite_pending (fn tag : Nat) : (policerWrite fn tag s).pending = s.pending := by
  refine State.pktCmd_pending _ _ _ _ _ _ _ fun c s => ?_
  split <;> simp

/-! ## The rows of the MAC (08) -/

@[simp] theorem macTx_pending (fn tag : Nat) (data : HostData) (air : Nat) : (macTx fn tag data air s).pending = s.pending := by
  refine State.runCmd_pending _ _ _ _ _ _ _ fun c s => ?_
  extract_lets
  refine State.ite_pending (State.complete_pending ..) ?_
  split
  · exact State.complete_pending ..
  · extract_lets
    refine State.ite_pending (State.complete_pending ..) (State.ite_pending (State.complete_pending ..) (State.ite_pending
        (State.complete_pending ..)
      (State.ite_pending (State.complete_pending ..) ?_)))
    split
    · simp
    · refine State.ite_pending (State.complete_pending ..) ?_
      extract_lets
      split
      · simp
      · refine State.ite_pending (State.complete_pending ..) ?_
        rw [State.mk_pending, State.takeUp_pending]

@[simp] theorem staAdd_pending (fn tag : Nat) : (staAdd fn tag s).pending = s.pending := by
  refine State.runCmd_pending _ _ _ _ _ _ _ fun c s => State.ite_pending (State.complete_pending ..) ?_
  extract_lets
  split
  · simp
  · refine State.ite_pending (State.complete_pending ..) (State.ite_pending (State.complete_pending ..)
      (State.ite_pending (State.complete_pending ..) (State.ite_pending (State.complete_pending ..) ?_)))
    rw [State.complete_pending, State.foldl_pending fun s l => s.addStationFdb_pending .., State.mk_pending]

@[simp] theorem staDel_pending (fn tag : Nat) : (staDel fn tag s).pending = s.pending := by
  refine State.runCmd_pending _ _ _ _ _ _ _ fun c s => State.ite_pending (State.complete_pending ..) ?_
  split
  · exact State.complete_pending ..
  · extract_lets s1 ids s2 s3 s4 drop
    have h2 : s2.pending = s1.pending := State.foldl_pending fun s id => State.ite_pending (State.dropAt_pending ..)
        (State.endFrame_pending ..)
    rw [State.mk_pending, State.foldl_pending fun s t => s.endAgreement_pending .., State.foldl_pending fun s t =>
        s.endAgreement_pending .., h2,
      State.modSta_pending, State.takeUp_pending]

@[simp] theorem staDelDone_pending (sid : Nat) : (staDelDone sid s).pending = s.pending := by
  simp only [staDelDone]
  (repeat' split) <;> simp
@[simp] theorem State.setBa_pending (sid tid dir size sn : Nat) : (s.setBa sid tid dir size sn).pending = s.pending := by
  simp [State.setBa]

@[simp] theorem baSet_pending (fn tag : Nat) : (baSet fn tag s).pending = s.pending := by
  refine State.runCmdIf_pending _ _ _ _ _ _ _ _ fun c s => State.ite_pending (State.complete_pending ..) ?_
  split
  · exact State.complete_pending ..
  · exact State.ite_pending (State.complete_pending ..) ((State.complete_pending ..).trans (State.setBa_pending ..))

@[simp] theorem baDelete_pending (fn tag : Nat) : (baDelete fn tag s).pending = s.pending := by
  refine State.runCmdIf_pending _ _ _ _ _ _ _ _ fun c s => State.ite_pending (State.complete_pending ..) ?_
  split
  · exact State.complete_pending ..
  · exact State.ite_pending (State.complete_pending ..) ((State.complete_pending ..).trans (State.endAgreement_pending ..))

@[simp] theorem twtSetup_pending (fn tag : Nat) : (twtSetup fn tag s).pending = s.pending := by
  refine State.runCmdIf_pending _ _ _ _ _ _ _ _ fun c s => State.ite_pending (State.complete_pending ..) ?_
  split
  · simp
  · split
    · simp
    · refine State.ite_pending (State.complete_pending ..) ?_
      split <;> simp

@[simp] theorem twtDelete_pending (fn tag : Nat) : (twtDelete fn tag s).pending = s.pending := by
  refine State.runCmdIf_pending _ _ _ _ _ _ _ _ fun c s => State.ite_pending (State.complete_pending ..) ?_
  split
  · simp
  · split
    · simp
    · refine State.ite_pending ?_ ?_ <;> simp

@[simp] theorem detFlow_pending (fn tag : Nat) : (detFlow fn tag s).pending = s.pending := by
  refine State.runCmdIf_pending _ _ _ _ _ _ _ _ fun c s => State.ite_pending (State.complete_pending ..) ?_
  split
  · simp
  · split
    · simp
    · refine State.ite_pending (State.complete_pending ..) ?_
      dsimp only
      split
      · simp
      · refine State.ite_pending ?_ ?_ <;> simp

@[simp] theorem detFlowDelete_pending (fn tag : Nat) : (detFlowDelete fn tag s).pending = s.pending := by
  refine State.runCmdIf_pending _ _ _ _ _ _ _ _ fun c s => State.ite_pending (State.complete_pending ..) ?_
  split
  · simp
  · split
    · simp
    · refine State.ite_pending (State.complete_pending ..) ?_
      split <;> simp

@[simp] theorem State.soundAsked_pending (r : Nat) (l : List Ppdu) : (s.soundAsked r l).pending = s.pending := by
  simp [State.soundAsked]
@[simp] theorem freeze_pending (r : Nat) : (freeze r s).pending = s.pending := by simp [freeze]
@[simp] theorem State.barAfter_pending (f : Frame) : (s.barAfter f).pending = s.pending := by
  unfold State.barAfter
  split <;> simp

@[simp] theorem State.dropLife_pending (r id : Nat) : (s.dropLife r id).pending = s.pending :=
  State.foldl_pending fun s k => by
  split
  · rw [State.dropAt_pending, State.barAfter_pending]
  · rfl

@[simp] theorem State.firstCut_pending (r id : Nat) : (s.firstCut r id).2.pending = s.pending := by
  unfold State.firstCut
  split
  · rfl
  next f _ =>
    refine State.ite_snd_pending rfl (State.ite_snd_pending rfl (State.ite_snd_pending (State.dropAt_pending ..) ?_))
    extract_lets protect
    have hp : (protect.getD (true, s)).2.pending = s.pending := by
      dsimp only [protect]
      cases s.frameSlot r f with
      | none => rfl
      | some k =>
        refine State.ite_snd_pending ?_ (State.ite_snd_pending ?_ ?_)
        · rw [State.endFrame_pending, State.refuseAt_pending]
        · rw [State.endFrame_pending]
          split <;> simp
        · split
          · simp
          · refine State.ite_snd_pending ?_ (by simp)
            have hd := s.drawCounter_pending k
            split <;> rename_i heq <;> rw [heq] at hd
            · rw [State.endFrame_pending, State.countPage_pending, hd]
            · rw [State.modFrame_pending, State.cphAdmit_pending, hd]
    generalize protect.getD (true, s) = q at hp ⊢
    refine State.ite_snd_pending hp (State.ite_snd_pending ?_ ?_)
    · rw [State.modFrame_pending, State.draw_pending, hp]
    · rw [State.modFrame_pending, State.modSta_pending, hp]

@[simp] theorem State.takeFrame_pending (r : Nat) (of_ : LaunchOf) (id : Nat) : (s.takeFrame r of_ id).pending = s.pending := by
  unfold State.takeFrame
  (repeat' split) <;> simp

@[simp] theorem State.fillStep_pending (r : Nat) (of_ : LaunchOf) (a : State × Fill) (id : Nat) :
    (s.fillStep r of_ a id).1.pending = a.1.pending := by
  obtain ⟨t, k⟩ := a
  unfold State.fillStep
  dsimp only
  split
  · rfl
  next f _ =>
    refine State.ite_fst_pending rfl (State.ite_fst_pending rfl (State.ite_fst_pending (State.ite_fst_pending
        (State.takeFrame_pending ..) rfl)
      (State.ite_fst_pending (State.dropLife_pending ..) (State.ite_fst_pending (State.ite_fst_pending (State.dropAt_pending ..)
          (State.inc_pending ..)) ?_))))
    split
    · exact State.ite_fst_pending rfl ((State.takeFrame_pending ..).trans (State.modFrame_pending ..))
    · refine State.ite_fst_pending rfl ?_
      have hf := t.firstCut_pending r id
      split <;> rename_i heq <;> rw [heq] at hf
      · exact hf
      · exact (State.takeFrame_pending ..).trans hf

@[simp] theorem State.sealMpdu_pending (r id : Nat) : (s.sealMpdu r id).pending = s.pending := by
  simp only [State.sealMpdu]
  (repeat' split) <;> simp

@[simp] theorem cutPlan_pending (r id : Nat) (room : List Nat) : (cutPlan r id room s).pending = s.pending := by
  unfold cutPlan
  split
  · rfl
  · refine State.ite_pending rfl ?_
    extract_lets fill
    have hfill (acc : State × List PlanUser) (ui : PlanUser × Nat) : (fill acc ui).1.pending = acc.1.pending := by
      refine State.ite_fst_pending rfl ?_
      exact (State.foldl_pending fun s k => s.sealMpdu_pending r k).trans (State.foldl_fst_pending fun a k => State.fillStep_pending
          ..)
    rw [State.modPpdu_pending]
    exact State.ite_pending (State.foldl_fst_pending hfill) ((State.inc_pending ..).trans (State.foldl_fst_pending hfill))

@[simp] theorem cutOne_pending (r : Nat) (of_ : LaunchOf) (id t : Nat) : (cutOne r of_ id t s).pending = s.pending := by
  unfold cutOne
  split
  · rfl
  · refine State.ite_pending rfl (State.ite_pending (State.dropLife_pending ..) (State.ite_pending (State.ite_pending ?_ ?_) ?_))
    · simp
    · rw [State.readFrame_pending, State.inc_pending]
    · have hf := s.firstCut_pending r id
      split <;> rename_i heq <;> rw [heq] at hf
      · exact hf
      · rw [State.sealMpdu_pending, State.takeFrame_pending, hf]

@[simp] theorem cutOff_pending (r : Nat) (of_ : LaunchOf) (t0 : Nat) (room : List Nat) :
    (cutOff r of_ t0 room s).pending = s.pending := by
  unfold cutOff
  (repeat' split) <;> simp

@[simp] theorem beaconGo_pending (r bss air : Nat) : (beaconGo r bss air s).pending = s.pending := by simp [beaconGo]
@[simp] theorem State.unacked_pending (r id : Nat) : (s.unacked r id).pending = s.pending := by
  unfold State.unacked
  split <;> simp
@[simp] theorem State.attempt_pending (r id st : Nat) : (s.attempt r id st).pending = s.pending := by simp [State.attempt]
@[simp] theorem State.notSent_pending (r id st : Nat) : (s.notSent r id st).pending = s.pending := by
  unfold State.notSent
  split <;> simp
@[simp] theorem State.served_pending (r : Nat) (of_ : LaunchOf) (ids : List Nat) : (s.served r of_ ids).pending = s.pending :=
  (State.foldl_pending fun _ _ => State.modSta_pending ..).trans (State.foldl_pending fun _ _ => State.modSta_pending ..)

@[simp] theorem outcome_pending (r : Nat) (of_ : LaunchOf) (acked : List Nat) : (outcome r of_ acked s).pending = s.pending := by
  unfold outcome
  split
  · rfl
  · extract_lets st ids sids s1 s2 served s3 s4 x src mac s5
    have h2 : s2.pending = s.pending := by
      dsimp only [s2]
      split
      · rw [State.modPpdu_pending, State.foldl_pending fun _ _ => State.modSta_pending .., State.modRadio_pending]
      · exact State.modRadio_pending ..
    have h3 : s3.pending = s2.pending := by
      refine (State.foldl_pending fun s id => ?_).trans (State.served_pending ..)
      have ha := s.attempt_pending r id 0
      dsimp only
      split
      · exact ha
      · refine State.ite_pending ((State.endFrame_pending ..).trans ?_) (State.ite_pending ?_ ?_)
        · exact State.ite_pending ((State.inc64_pending ..).trans ha) ha
        · rw [State.endFrame_pending, ha]
        · rw [State.unacked_pending, ha]
    have h4 : s4.pending = s2.pending := State.foldl_pending fun s id => State.notSent_pending ..
    have h5 : s5.pending = s2.pending := State.ite_pending ((State.mk_pending ..).trans ((State.inc_pending ..).trans h4)) h4
    refine State.ite_pending ?_ (State.ite_pending ?_ (State.ite_pending (h5.trans h2) (h5.trans h2)))
    · rw [State.foldl_pending fun _ _ => State.modSta_pending .., h3, h2]
    · rw [State.foldl_pending, h2]
      exact fun s id => by rw [State.unacked_pending, State.attempt_pending]

@[simp] theorem State.rxTag_pending (m : RxMpdu) (sid : Nat) (slot : Option Nat) : (s.rxTag m sid slot).2.pending = s.pending := by
  unfold State.rxTag
  (repeat' split) <;> simp

@[simp] theorem State.rxAccept_pending (m : RxMpdu) (sid : Nat) (x : Sta) : (s.rxAccept m sid x).pending = s.pending := by
  unfold State.rxAccept
  dsimp only
  split <;> simp

@[simp] theorem mpduIn_pending (m : RxMpdu) : (mpduIn m s).pending = s.pending := by
  unfold mpduIn
  extract_lets r least
  refine State.ite_pending rfl (State.ite_pending rfl (State.ite_pending (State.inc_pending ..) (State.ite_pending
      (State.inc_pending ..)
    (State.ite_pending rfl (State.ite_pending rfl (State.ite_pending (State.countReject_pending ..) ?_))))))
  split
  · exact State.ite_pending rfl ((State.toHost_pending ..).trans (State.inc_pending ..))
  next sid _ _ =>
    extract_lets s1
    have h1 : s1.pending = s.pending := State.modSta_pending ..
    split
    · exact h1
    next x _ =>
      refine State.ite_pending ?_ ?_
      · split
        · exact State.ite_pending h1 (by rw [State.releaseInOrder_pending, State.moveWindow_pending, h1])
        · exact h1
      · have ht := s1.rxTag_pending m sid x.keySlot
        split <;> rename_i heq <;> rw [heq] at ht
        · exact ht.trans h1
        · rw [State.rxAccept_pending, ht, h1]

@[simp] theorem reorderOut_pending (sid tid : Nat) : (reorderOut sid tid s).pending = s.pending := by
  unfold reorderOut
  (repeat' split) <;> simp
@[simp] theorem lifeOut_pending (id : Nat) : (lifeOut id s).pending = s.pending := by
  unfold lifeOut
  split <;> simp
@[simp] theorem addba_pending (sid tid size sn : Nat) : (addba sid tid size sn s).pending = s.pending := by
  unfold addba
  split <;> simp
@[simp] theorem agreementOut_pending (sid tid dir : Nat) : (agreementOut sid tid dir s).pending = s.pending := by
  unfold agreementOut
  split <;> simp

/-! ## The rows of the host interface (13) -/

@[simp] theorem linkUp_pending (speed width : Nat) : (linkUp speed width s).pending = s.pending := by simp [linkUp]
@[simp] theorem State.linkDown_pending : s.linkDown.pending = s.pending := by simp [State.linkDown]
@[simp] theorem State.linkFaults_pending : s.linkFaults.pending = s.pending := by simp [State.linkFaults]
@[simp] theorem perst_pending : (perst s).pending = s.pending := by simp [perst]
@[simp] theorem hotReset_pending : (hotReset s).pending = s.pending := by simp [hotReset]
@[simp] theorem linkLoss_pending : (linkLoss s).pending = s.pending := by simp [linkLoss]
@[simp] theorem State.resetFn_pending (f : Nat) : (s.resetFn f).pending = s.pending := by simp [State.resetFn]
@[simp] theorem State.flrFn_pending (f : Nat) : (s.flrFn f).pending = s.pending := by simp [State.flrFn]
@[simp] theorem configRequest_pending (q : ConfigReq) : (configRequest q s).pending = s.pending := by
  unfold configRequest
  (repeat' split) <;> simp
@[simp] theorem State.badDoorbell_pending (f a : Nat) : (s.badDoorbell f a).pending = s.pending := by simp [State.badDoorbell]
@[simp] theorem State.doorbell_pending (r : Requester) (f a : Nat) (always : Bool) (act : State → State)
    (h : ∀ s, (act s).pending = s.pending) : (s.doorbell r f a always act).pending = s.pending :=
  State.access_pending _ _ _ _ _ fun s => State.ite_pending rfl (h s)
@[simp] theorem sqTail_pending (r : Requester) (f n : Nat) (v : Word) : (sqTail r f n v s).pending = s.pending := by
  refine State.ite_pending rfl (State.doorbell_pending _ _ _ _ _ _ fun s => ?_)
  exact State.ite_pending (State.badDoorbell_pending ..) (State.put_pending ..)
@[simp] theorem State.ringFreeN_pending (f kind n k : Nat) : (s.ringFreeN f kind n k).pending = s.pending := by
  simp [State.ringFreeN]

@[simp] theorem cqHead_pending (r : Requester) (f n : Nat) (v : Word) : (cqHead r f n v s).pending = s.pending := by
  refine State.ite_pending rfl (State.doorbell_pending _ _ _ _ _ _ fun s => ?_)
  dsimp only
  split
  · simp
  · rw [State.put_pending, State.ringFreeN_pending, State.mapCmds_pending]

@[simp] theorem rqHead_pending (r : Requester) (f n : Nat) (v : Word) : (rqHead r f n v s).pending = s.pending := by
  refine State.ite_pending rfl (State.doorbell_pending _ _ _ _ _ _ fun s => ?_)
  split <;> simp

@[simp] theorem bqTail_pending (r : Requester) (f n : Nat) (v : Word) (addrs : List NT64) :
    (bqTail r f n v addrs s).pending = s.pending := by
  refine State.ite_pending rfl (State.doorbell_pending _ _ _ _ _ _ fun s => ?_)
  refine State.ite_pending (State.badDoorbell_pending ..) (State.ite_pending rfl ?_)
  rw [State.put_pending, State.foldl_pending]
  exact fun s _ => by rw [State.badDoorbell_pending, State.inc_pending]

@[simp] theorem evqHead_pending (r : Requester) (f : Nat) (v : Word) : (evqHead r f v s).pending = s.pending := by
  refine State.ite_pending rfl (State.doorbell_pending _ _ _ _ _ _ fun s => ?_)
  split <;> simp
@[simp] theorem fetch_pending (f n : Nat) (desc : HostData) : (fetch f n desc s).pending = s.pending := by
  unfold fetch
  (repeat' split) <;> simp
@[simp] theorem modTimer_pending (f kind n : Nat) : (modTimer f kind n s).pending = s.pending := by simp [modTimer]

@[simp] theorem State.eclipseFn_pending (f : Nat) (issuer : Option (Nat × Nat)) (flr : Bool) :
    (s.eclipseFn f issuer flr).pending = s.pending := by
  unfold State.eclipseFn
  rw [State.dropFnWork_pending, State.put_pending, State.foldl_pending fun s w => s.dropConsumer_pending _, State.mk_pending,
    State.mapCmds_pending, State.withdrawUnit_pending]

@[simp] theorem State.cutFrame_pending (r id : Nat) : (s.cutFrame r id).pending = s.pending := by simp [State.cutFrame]

@[simp] theorem State.eclipseRadio_pending (r : Nat) (issuer : Option (Nat × Nat)) :
    (s.eclipseRadio r issuer).pending = s.pending := by
  unfold State.eclipseRadio
  extract_lets late s0 hard0 air airIds hard single back e s1 s2 s3 s4 ids s5 s6
  have h0 : s0.pending = s.pending := (State.foldl_pending fun _ _ => State.complete_pending ..).trans (State.withdrawUnit_pending
      ..)
  have h1 : s1.pending = s0.pending := by
    cases h : s0.onAir r <;> simp [s1, h]
  rw [State.mk_pending, State.modRadio_pending, State.foldl_pending fun _ _ => State.modPpdu_pending .., State.foldl_pending fun s
      id => s.returnFrame_pending id,
    State.foldl_pending fun s id => s.endFrame_pending id 1, State.foldl_pending fun s id => s.cutFrame_pending r id, h1, h0]

@[simp] theorem eclipseFunction_pending (fn tag : Nat) : (eclipseFunction fn tag s).pending = s.pending := by
  refine State.runCmdIf_pending _ _ _ _ _ _ _ _ fun c s => State.ite_pending (State.complete_pending ..) ?_
  split
  · exact State.complete_pending ..
  · exact (State.eclipseFn_pending ..).trans (State.takeUp_pending ..)

@[simp] theorem eclipseOfRadio_pending (fn tag : Nat) : (eclipseOfRadio fn tag s).pending = s.pending := by
  refine State.runCmdIf_pending _ _ _ _ _ _ _ _ fun c s => State.ite_pending (State.complete_pending ..) ?_
  split
  · exact State.complete_pending ..
  · rw [State.eclipseRadio_pending, State.takeUp_pending]

@[simp] theorem ctrlEclipse_pending (r : Requester) (f : Nat) : (ctrlEclipse r f s).pending = s.pending := by
  refine State.ite_pending rfl (State.access_pending _ _ _ _ _ fun s => ?_)
  split
  · exact State.put_pending ..
  · exact State.eclipseFn_pending ..

@[simp] theorem ctrlClear_pending (r : Requester) (f : Nat) : (ctrlClear r f s).pending = s.pending := by simp [ctrlClear]
@[simp] theorem State.eclipseRecord_pending (kind index n : Nat) (tags : List (Nat × Nat × Nat)) :
    (s.eclipseRecord kind index n tags).pending = s.pending := by simp [State.eclipseRecord]

@[simp] theorem eclipseDone_pending (radio : Bool) (index : Nat) : (eclipseDone radio index s).pending = s.pending := by
  refine State.ite_pending rfl ?_
  split
  · rfl
  next e _ =>
    extract_lets s1 s2 src s3 s4
    have h1 : s1.pending = s.pending := State.eclipseRecord_pending ..
    have h2 : s2.pending = s.pending := by
      dsimp only [s2]
      split
      · exact (State.complete_pending ..).trans h1
      · exact State.ite_pending h1 ((State.put_pending ..).trans h1)
    have h4 : s4.pending = s.pending := State.ite_pending h2 ((State.disableRings_pending ..).trans h2)
    exact State.ite_pending ((State.flrFn_pending ..).trans h4) h4

@[simp] theorem flr_pending (f : Nat) : (flr f s).pending = s.pending := by
  unfold flr
  (repeat' split) <;> simp

/-! ## The rows of the task scheduler (13 R397 to R407) -/

@[simp] theorem State.setAsk_pending (c : Nat) (x : Credit) : (s.setAsk c x).pending = s.pending := by simp [State.setAsk]
@[simp] theorem State.giveItem_pending (c idx : Nat) (i : Item) : (s.giveItem c idx i).pending = s.pending := by
  simp [State.giveItem]
@[simp] theorem deliverItem_pending (c : Nat) : (deliverItem c s).pending = s.pending := by
  unfold deliverItem
  (repeat' split) <;> simp
@[simp] theorem askWrite_pending (r : Requester) (f w : Nat) (v : Word) : (askWrite r f w v s).pending = s.pending := by
  simp [askWrite]
@[simp] theorem askCancel_pending (r : Requester) (f w : Nat) (v : Word) : (askCancel r f w v s).pending = s.pending := by
  simp [askCancel]
@[simp] theorem releaseWrite_pending (r : Requester) (f w : Nat) (v : Word) : (releaseWrite r f w v s).pending = s.pending := by
  simp [releaseWrite]
@[simp] theorem atomicExpired_pending (idx : Nat) : (atomicExpired idx s).pending = s.pending := by
  unfold atomicExpired
  (repeat' split) <;> simp
@[simp] theorem maxWaited_pending (idx : Nat) : (maxWaited idx s).pending = s.pending := by
  unfold maxWaited
  split <;> simp
@[simp] theorem askLapse_pending (w : Nat) : (askLapse w s).pending = s.pending := by simp [askLapse]

@[simp] theorem submit_pending (fn tag : Nat) (data : HostData) : (submit fn tag data s).pending = s.pending := by
  refine State.runCmd_pending _ _ _ _ _ _ _ fun c s => State.ite_pending (State.complete_pending ..)
    (State.ite_pending (State.complete_pending ..) ?_)
  split
  · exact State.complete_pending ..
  · dsimp only
    split
    · rw [State.complete_pending, State.enqueue_pending]
    · split
      · rw [State.complete_pending, State.enqueue_pending]
      · rw [State.enqueue_pending]

@[simp] theorem inject_pending (fn tag : Nat) (data : HostData) : (inject fn tag data s).pending = s.pending := by
  refine State.runCmd_pending _ _ _ _ _ _ _ fun c s => State.ite_pending (State.complete_pending ..) ?_
  split
  · simp
  · split
    · simp
    · refine State.ite_pending ?_ (State.ite_pending ?_ ?_) <;> simp

@[simp] theorem State.rollTasks_pending : s.rollTasks.pending = s.pending := by simp [State.rollTasks]
@[simp] theorem State.taskSuperframe_pending : s.taskSuperframe.pending = s.pending := by simp [State.taskSuperframe]

/-! ## The rows of the ports and Tile Links (14) -/

@[simp] theorem State.secIn_pending (sub : Nat) (bytes : List Byte) (sec : Option EthSec) :
    (s.secIn sub bytes sec).2.pending = s.pending := by
  simp only [State.secIn]
  (repeat' split) <;> simp

@[simp] theorem frameIn_pending (sub : Nat) (bytes : List Byte) (fcsOk : Bool) (sec : Option EthSec) :
    (frameIn sub bytes fcsOk sec s).pending = s.pending := by
  refine State.ite_pending rfl (State.ite_pending (State.inc_pending ..) (State.ite_pending (State.inc_pending ..)
    (State.ite_pending (State.inc_pending ..) ?_)))
  extract_lets s1
  have h1 : s1.pending = s.pending := State.inc64_pending ..
  refine State.ite_pending ((State.inc_pending ..).trans h1) (State.ite_pending ((State.inc_pending ..).trans h1) ?_)
  have h2 : (s1.secIn sub bytes sec).2.pending = s.pending := (State.secIn_pending ..).trans h1
  exact State.ite_pending (State.ite_pending h2 ((State.ingress_pending ..).trans h2)) h2

@[simp] theorem State.dropHead_pending (sub q : Nat) (cnt : FieldRef) : (s.dropHead sub q cnt).pending = s.pending := by
  simp [State.dropHead]

@[simp] theorem State.dropStale_pending (sub q n : Nat) : (s.dropStale sub q n).pending = s.pending := by
  induction n generalizing s with
  | zero => rfl
  | succ n ih =>
    unfold State.dropStale
    split
    · rfl
    · refine State.ite_pending ((ih _).trans ?_) (State.ite_pending ((ih _).trans ?_) ?_)
      · rw [State.dropHead_pending]
      · rw [State.watchDrop_pending, State.dropHead_pending]
      · split
        · exact State.ite_pending ((ih _).trans (by rw [State.mk_pending, State.dropHead_pending])) rfl
        · rfl

@[simp] theorem State.secOut_pending (sub : Nat) (body : List Byte) : (s.secOut sub body).2.pending = s.pending := by
  refine State.ite_snd_pending rfl (State.ite_snd_pending (State.refuseAt_pending ..) (State.ite_snd_pending ?_ ?_))
  · rw [State.isolationEvent_pending, State.countPage_pending]
  · split
    · exact State.countPage_pending ..
    · have hd := s.drawCounter_pending (s.eth.txSa.getD sub 0)
      split <;> rename_i heq <;> rw [heq] at hd
      · rw [State.cphAdmit_pending, hd]
      · rw [State.countPage_pending, hd]

@[simp] theorem State.startFrame_pending (sub q : Nat) (f : WireFrame) : (s.startFrame sub q f).pending = s.pending := by
  refine State.ite_pending rfl ?_
  extract_lets key n bt s1
  have h2 : (s1.secOut sub f.body).2.pending = s.pending := State.secOut_pending ..
  generalize s1.secOut sub f.body = out at h2
  refine State.ite_pending h2 ?_
  extract_lets s3 s4 src s5
  have h5 : s5.pending = s.pending := by
    rw [State.mk_pending, State.watchOut_pending, State.inc64_pending, State.spend_pending, h2]
  split
  · exact (State.modMember_pending ..).trans h5
  · exact h5

@[simp] theorem State.pickQueue_pending (sub n : Nat) : (s.pickQueue sub n).2.pending = s.pending := by
  induction n generalizing s with
  | zero => rfl
  | succ q ih =>
    unfold State.pickQueue
    dsimp only
    split
    · split
      · rw [State.dropStale_pending]
      · rw [ih, State.dropStale_pending]
    · rw [ih, State.dropStale_pending]

@[simp] theorem egress_pending (sub : Nat) : (egress sub s).pending = s.pending := by
  unfold egress
  refine State.ite_pending rfl ?_
  have hp := s.pickQueue_pending sub 8
  split <;> rename_i heq <;> rw [heq] at hp
  · rw [State.startFrame_pending, hp]
  · exact hp

@[simp] theorem underrun_pending (sub : Nat) : (underrun sub s).pending = s.pending := by
  unfold underrun
  split
  · rfl
  · refine State.ite_pending rfl ?_
    rw [State.postEvent_pending, State.put_pending, State.inc_pending]

@[simp] theorem linkChange_pending (sub speed : Nat) : (linkChange sub speed s).pending = s.pending := by simp [linkChange]

@[simp] theorem State.saCmd_pending (fn tag : Nat) (dir del : Bool) (act : Cmd → State → State)
    (h : ∀ c s, (act c s).pending = s.pending) : (s.saCmd fn tag dir del act).pending = s.pending := by
  refine State.runCmd_pending _ _ _ _ _ _ _ fun c s => State.ite_pending rfl (State.ite_pending (State.complete_pending ..) ?_)
  split
  · exact (State.complete_pending ..).trans (State.refuseAt_pending ..)
  · exact h c s

@[simp] theorem saTx_pending (fn tag : Nat) : (saTx fn tag s).pending = s.pending := by
  refine State.saCmd_pending _ _ _ _ _ _ fun c s => ?_
  split <;> simp

@[simp] theorem saRxAdd_pending (fn tag : Nat) : (saRxAdd fn tag s).pending = s.pending := by
  refine State.saCmd_pending _ _ _ _ _ _ fun c s => ?_
  split
  · exact State.complete_pending ..
  · exact State.ite_pending (State.complete_pending ..) ((State.complete_pending ..).trans rfl)

@[simp] theorem saRxDelete_pending (fn tag : Nat) : (saRxDelete fn tag s).pending = s.pending := by simp [saRxDelete]

@[simp] theorem tileWrite_pending (r : Requester) (k : Nat) (v : Word) (act : State → State)
    (h : ∀ s, (act s).pending = s.pending) : (tileWrite r k v act s).pending = s.pending := by
  refine State.ite_pending rfl (State.access_pending _ _ _ _ _ fun s => State.ite_pending (State.invalidWrite_pending ..) ?_)
  extract_lets s1
  have h1 : s1.pending = s.pending := (h _).trans ((State.put_pending ..).trans (State.put_pending ..))
  exact State.ite_pending ((State.autoTrain_pending ..).trans h1) h1

@[simp] theorem trainWrite_pending (r : Requester) (k : Nat) (v : Word) : (trainWrite r k v s).pending = s.pending := by
  simp [trainWrite]
@[simp] theorem prbsStart_pending (r : Requester) (k : Nat) (v : Word) : (prbsStart r k v s).pending = s.pending := by
  simp [prbsStart]
@[simp] theorem prbsStop_pending (r : Requester) (k : Nat) (v : Word) (errors : List Nat) :
    (prbsStop r k v errors s).pending = s.pending := by simp [prbsStop]
@[simp] theorem stepDone_pending (k : Nat) (i : TileInfo) : (stepDone k i s).pending = s.pending := by simp [stepDone]
@[simp] theorem stepTimeout_pending (k : Nat) : (stepTimeout k s).pending = s.pending := by simp [stepTimeout]
@[simp] theorem State.tileFault_pending (k cause lane : Nat) : (s.tileFault k cause lane).pending = s.pending := by
  simp [State.tileFault]
@[simp] theorem upstream_pending (k : Nat) (ctl : List Byte) (bad : Nat) : (upstream k ctl bad s).pending = s.pending := by
  unfold upstream
  (repeat' split) <;> simp
@[simp] theorem State.badMessage_pending (k : Nat) : (s.badMessage k).pending = s.pending := by simp [State.badMessage]
@[simp] theorem ctlMessage_pending (k : Nat) : (ctlMessage k s).pending = s.pending := by
  simp only [ctlMessage]
  (repeat' split) <;> simp

@[simp] theorem ackTimeout_pending (k : Nat) : (ackTimeout k s).pending = s.pending := by
  unfold ackTimeout
  dsimp only
  split <;> simp

@[simp] theorem blockLockLost_pending (k lane : Nat) : (blockLockLost k lane s).pending = s.pending := by simp [blockLockLost]
@[simp] theorem wander_pending (k : Nat) : (wander k s).pending = s.pending := by simp [wander]
@[simp] theorem maskSend_pending (r : Nat) (of_ : LaunchOf) : (maskSend r of_ s).pending = s.pending := by
  unfold maskSend
  split <;> simp

/-! ## Applying the records (03 R85) -/

@[simp] theorem State.setR_pending (a v : Nat) : (s.setR a v).pending = s.pending := by simp [State.setR]
@[simp] theorem State.setBoth_pending (a v : Nat) : (s.setBoth a v).pending = s.pending := by simp [State.setBoth]
@[simp] theorem State.setMeridian_pending : s.setMeridian.pending = s.pending := by simp [State.setMeridian]
@[simp] theorem State.setBoard_pending : s.setBoard.pending = s.pending := by simp [State.setBoard]
@[simp] theorem State.setFrontEnd_pending (r : Nat) : (s.setFrontEnd r).pending = s.pending := by simp [State.setFrontEnd]
@[simp] theorem State.setBaseband_pending (r : Nat) : (s.setBaseband r).pending = s.pending := by simp [State.setBaseband]

theorem State.stageTemplate_pending (r mode : Nat) (put : State → Nat → Nat → State)
    (h : ∀ s i v, (put s i v).pending = s.pending) : ∀ t, s.stageTemplate r mode put = some t → t.pending = s.pending := by
  intro t ht
  obtain ⟨b, -, rfl⟩ := Option.map_eq_some_iff.mp ht
  exact State.foldl_pending fun s i => State.ite_pending ((h ..).trans (h ..)) ((h ..).trans (h ..))

@[simp] theorem State.setMac_pending (r : Nat) : (s.setMac r).pending = s.pending := by
  have hb (s : State) (l : List (List Byte)) : ((l.foldl (fun s x =>
      let a := bssCfg r (fieldLE x 1 1)
      ((s.setBoth a (fieldLE x 11 1 + fieldLE x 2 1 * 2 + fieldLE x 3 1 * 32 + fieldLE x 10 1 * 512 + fieldLE x 12 2 *
          2048)).setBoth (a + 4)
        (fieldLE x 4 4)).setBoth (a + 8) (fieldLE x 8 2)) s)).pending = s.pending :=
    State.foldl_pending fun _ _ => by rw [State.setBoth_pending, State.setBoth_pending, State.setBoth_pending]
  unfold State.setMac
  refine State.ite_pending rfl ?_
  extract_lets m s1 s2 s3
  have h3 : s3.pending = s2.pending :=
    State.foldl_pending fun _ _ => by rw [State.setBoth_pending, State.setBoth_pending, State.setBoth_pending]
  have h2 : s2.pending = s.pending := by
    rw [State.foldl_pending fun s k => s.setR_pending .., State.setR_pending, State.setBoth_pending, State.setBoth_pending,
        State.setR_pending]
  cases ht : s3.stageTemplate r s.grid.recMode State.setBoth with
  | none => exact h3.trans h2
  | some t => exact (State.stageTemplate_pending _ _ _ _ (fun s a v => s.setBoth_pending a v) t ht).trans (h3.trans h2)

@[simp] theorem State.setMesh_pending : s.setMesh.pending = s.pending := by simp [State.setMesh]
@[simp] theorem State.setTenant_pending (t : Nat) : (s.setTenant t).pending = s.pending := by simp [State.setTenant]
@[simp] theorem State.setPkt_pending : s.setPkt.pending = s.pending := by simp [State.setPkt]

@[simp] theorem State.setKeys_pending : s.setKeys.pending = s.pending :=
  State.foldl_pending fun s b => by
  split
  · exact State.ite_pending (by simp) (by simp)
  · rfl

@[simp] theorem State.setHost_pending : s.setHost.pending = s.pending := by simp [State.setHost]
@[simp] theorem State.setGates_pending (b : List Byte) : (s.setGates b).pending = s.pending := by simp [State.setGates]
@[simp] theorem State.setWired_pending : s.setWired.pending = s.pending := by simp [State.setWired]
@[simp] theorem State.setDram_pending : s.setDram.pending = s.pending := by simp [State.setDram]

@[simp] theorem State.applyRecords_pending : s.applyRecords.pending = s.pending := by
  unfold State.applyRecords
  rw [State.foldl_pending (fun _ _ => State.setUnit_pending ..), State.foldl_pending (fun _ _ => State.enableBlock_pending ..),
    State.setDram_pending, State.setWired_pending, State.setHost_pending, State.setKeys_pending, State.setPkt_pending,
        State.setMesh_pending,
    State.foldl_pending, State.setBoard_pending, State.setMeridian_pending]
  exact fun _ _ => by rw [State.setMac_pending, State.setBaseband_pending, State.setFrontEnd_pending]

/-! ## The rows of the DRAM controller (15) -/

@[simp] theorem dramRequest_pending (port granule : Nat) (write : Bool) (off : Nat) (data : List Byte) :
    (dramRequest_ port granule write off data s).pending = s.pending := by simp [dramRequest_]
@[simp] theorem issue_pending (c banks : Nat) : (issue c banks s).pending = s.pending := by
  unfold issue
  split <;> simp

@[simp] theorem readReturn_pending (c granule symbols rank subch : Nat) :
    (readReturn c granule symbols rank subch s).pending = s.pending := by
  unfold readReturn
  split <;> simp

@[simp] theorem pauseStart_pending (c : Nat) : (pauseStart c s).pending = s.pending := by simp [pauseStart]
@[simp] theorem pauseEnd_pending (c : Nat) (drift : Int) (beyond : Bool) : (pauseEnd c drift beyond s).pending = s.pending := by
  unfold pauseEnd
  split <;> simp
@[simp] theorem State.dramTrained_pending (c : Nat) : (s.dramTrained c).pending = s.pending := by simp [State.dramTrained]
@[simp] theorem State.dramFirst_pending : s.dramFirst.pending = s.pending := by simp [State.dramFirst]

@[simp] theorem trainingDone_pending (fast slow : Nat) : (trainingDone fast slow s).pending = s.pending := by
  unfold trainingDone
  refine State.ite_pending rfl ?_
  split
  · rw [State.foldl_pending fun s c => s.dramTrained_pending c, State.dramFirst_pending]
  · rw [State.postEvent_pending, State.mk_pending, State.foldl_pending]
    exact fun _ _ => by rw [State.modDch_pending, State.setUnit_pending, State.put_pending, State.put_pending]

@[simp] theorem retrained_pending (c : Nat) : (retrained c s).pending = s.pending := by simp [retrained]

/-! ## Banks, arming and refusal (05) -/

@[simp] theorem State.bankToActive_pending (p : Nat → Bool) : (s.bankToActive p).pending = s.pending :=
  State.foldl_pending fun s _ => s.setReg_pending ..

@[simp] theorem State.bankToStaged_pending (p : Nat → Bool) : (s.bankToStaged p).pending = s.pending := by
  have h1 : ((s.stagedKeys p).foldl (fun s a => s.setSreg a (s.reg a)) s).pending = s.pending :=
    State.foldl_pending fun s a => s.setSreg_pending ..
  exact State.ite_pending ((State.modPkt_pending ..).trans h1) h1

@[simp] theorem State.stageTemplates_pending (from_ mode : Nat) : (s.stageTemplates from_ mode).pending = s.pending := by
  have hr (s : State) (r : Nat) : ((s.stageTemplate r mode (fun s a v => s.setSreg a (BitVec.ofNat 32 v))).getD s).pending =
      s.pending := by
    cases hs : s.stageTemplate r mode (fun s a v => s.setSreg a (BitVec.ofNat 32 v)) with
    | none => rfl
    | some t => exact State.stageTemplate_pending s r mode _ (fun s a v => s.setSreg_pending ..) t hs
  exact State.ite_pending rfl (State.foldl_pending fun s r => State.ite_pending rfl (hr s r))

@[simp] theorem State.prepareRadio_pending (r : Nat) : (s.prepareRadio r).pending = s.pending := by
  unfold State.prepareRadio
  extract_lets add s1 s2
  have h1 : s1.pending = s.pending := by rw [State.modRadio_pending, State.requestItems_pending]
  have h2 : s2.pending = s.pending := State.ite_pending ((State.foldl_pending fun s g => s.modSyn_pending ..).trans h1) h1
  rw [State.stageTiles_pending, h2]

@[simp] theorem State.releaseArm_pending : s.releaseArm.pending = s.pending := by
  unfold State.releaseArm
  rw [State.stageHeld_pending, State.mk_pending, State.foldl_pending]
  intro s r
  rw [State.modRadio_pending, State.powerDown_pending, State.foldl_pending]
  · exact State.ite_pending (State.shadowTiles_pending ..) rfl
  · exact fun _ _ => by rw [State.modChain_pending]

@[simp] theorem State.stageBound_pending (p : BitVec 27) : (s.stageBound p).pending = s.pending :=
  State.foldl_pending fun s k => by
  split
  · exact State.ite_pending (State.stageTile_pending ..) rfl
  · rfl

@[simp] theorem State.startArming_pending (kind : CommitKind) (mode len target : Nat) :
    (s.startArming kind mode len target).pending = s.pending := by simp [State.startArming]
@[simp] theorem State.armBoot_pending : s.armBoot.pending = s.pending := by simp [State.armBoot]
@[simp] theorem State.postRefused_pending : s.postRefused.pending = s.pending := by simp [State.postRefused]
@[simp] theorem State.setCommitResult_pending (v : Nat) : (s.setCommitResult v).pending = s.pending := by
  simp [State.setCommitResult]
@[simp] theorem State.retarget_pending (defers : Nat) : (s.retarget defers).pending = s.pending := by simp [State.retarget]
@[simp] theorem State.deferCommit_pending : s.deferCommit.pending = s.pending := by simp [State.deferCommit]
@[simp] theorem State.refuseCommit_pending : s.refuseCommit.pending = s.pending := by simp [State.refuseCommit]

@[simp] theorem State.excludeUnit_pending (u : Nat) : (s.excludeUnit u).pending = s.pending := by
  refine State.ite_pending rfl ?_
  extract_lets v s1 x s2 s3
  have h3 : s3.pending = s.pending := by
    rw [State.foldl_pending fun s b => (State.put_pending ..).trans (State.put_pending ..), State.setUnit_pending,
        State.clearUnit_pending]
  exact State.ite_pending ((State.modMesh_pending ..).trans h3) h3

@[simp] theorem State.bootDeadline_pending : s.bootDeadline.pending = s.pending := by simp [State.bootDeadline]
@[simp] theorem State.writeCounts_pending : s.writeCounts.pending = s.pending := by simp [State.writeCounts]

/-! ## The rows of boot and the Almanac (03) -/

@[simp] theorem State.postSlots_pending : s.postSlots.pending = s.pending := by simp [State.postSlots]
@[simp] theorem discoveryDone_pending (cs0 cs1 : Option FlashDev) : (discoveryDone cs0 cs1 s).pending = s.pending := by
  simp [discoveryDone]
@[simp] theorem State.findLog_pending : s.findLog.pending = s.pending := by
  unfold State.findLog
  split <;> simp
@[simp] theorem State.restoreCount_pending (i count credit : Nat) : (s.restoreCount i count credit).pending = s.pending := by
  simp [State.restoreCount]
@[simp] theorem State.restoreCounts_pending : s.restoreCounts.pending = s.pending := by simp [State.restoreCounts]

@[simp] theorem State.takeImage_pending (slot : Nat) (c : SlotCheck) : (s.takeImage slot c).pending = s.pending := by
  unfold State.takeImage
  dsimp only
  split <;> simp

@[simp] theorem State.countSlot_pending (c : SlotCheck) : (s.countSlot c).pending = s.pending := by simp [State.countSlot]
@[simp] theorem imageChecked_pending (readA readB : SlotReads) : (imageChecked readA readB s).pending = s.pending := by
  simp only [imageChecked]
  (repeat' split) <;> simp
@[simp] theorem State.enterRun_pending : s.enterRun.pending = s.pending := by simp [State.enterRun]
@[simp] theorem configured_pending : (configured s).pending = s.pending := by simp [configured]
@[simp] theorem bootRelease_pending (r : Requester) : (bootRelease r s).pending = s.pending := by simp [bootRelease]
@[simp] theorem holdExpires_pending : (holdExpires s).pending = s.pending := by simp [holdExpires]
@[simp] theorem recoveryExpires_pending : (recoveryExpires s).pending = s.pending := by simp [recoveryExpires]
@[simp] theorem resetKey_pending (r : Requester) (v : Word) : (resetKey r v s).pending = s.pending := by simp [resetKey]
@[simp] theorem State.almCmd_pending (fn tag opcode : Nat) (act : Cmd → State → State)
    (h : ∀ c s, (act c s).pending = s.pending) : (s.almCmd fn tag opcode act).pending = s.pending :=
  State.ite_pending rfl (State.runCmd_pending _ _ _ _ _ _ _ fun c _ => (h c _).trans (State.mk_pending ..))
@[simp] theorem State.almMark_pending : s.almMark.pending = s.pending := by
  unfold State.almMark
  split <;> simp
@[simp] theorem State.almStart_pending (c : Cmd) (ops : List FlashOp) : (s.almStart c ops).pending = s.pending := by
  simp [State.almStart]
@[simp] theorem slotErase_pending (fn tag : Nat) : (slotErase fn tag s).pending = s.pending := by simp [slotErase]
@[simp] theorem slotWrite_pending (fn tag : Nat) (data : HostData) : (slotWrite fn tag data s).pending = s.pending := by
  unfold slotWrite
  split <;> simp
@[simp] theorem slotVerify_pending (fn tag : Nat) : (slotVerify fn tag s).pending = s.pending := by simp [slotVerify]
@[simp] theorem logReads_pending (fn tag : Nat) : (logReads fn tag s).pending = s.pending := by simp [logReads]
@[simp] theorem attest_pending (fn tag : Nat) : (attest fn tag s).pending = s.pending := by simp [attest]
@[simp] theorem State.almDone_pending (status result : Nat) : (s.almDone status result).pending = s.pending := by
  unfold State.almDone
  split <;> simp
@[simp] theorem State.logErased_pending : s.logErased.pending = s.pending := by simp [State.logErased]
@[simp] theorem State.almProgress_pending : s.almProgress.pending = s.pending := by simp [State.almProgress]
@[simp] theorem State.flashEffect_pending (x1 : FlashOp) : (s.flashEffect x1).pending = s.pending := by
  unfold State.flashEffect
  split <;> simp
@[simp] theorem State.logDown_pending : s.logDown.pending = s.pending := by simp [State.logDown]
@[simp] theorem State.almDrop_pending : s.almDrop.pending = s.pending := by simp [State.almDrop]
@[simp] theorem State.flashFailed_pending (x1 : FlashOp) : (s.flashFailed x1).pending = s.pending := by
  unfold State.flashFailed
  split <;> simp

@[simp] theorem State.flashEnd_pending (may : FlashOp → Bool) (effect : State → FlashOp → State)
    (h : ∀ s o, (effect s o).pending = s.pending) : (s.flashEnd may effect).pending = s.pending := by
  refine State.ite_pending rfl ?_
  split
  · rfl
  · refine State.ite_pending ?_ rfl
    rw [State.almMark_pending, State.flashKick_pending, h]

@[simp] theorem flashDone_pending : (flashDone s).pending = s.pending := by simp [flashDone]
@[simp] theorem flashTimeout_pending : (flashTimeout s).pending = s.pending := by simp [flashTimeout]
@[simp] theorem countTimer_pending : (countTimer s).pending = s.pending := by simp [countTimer]
@[simp] theorem creditTimer_pending : (creditTimer s).pending = s.pending :=
  State.ite_pending rfl (State.ite_pending rfl (State.foldl_pending fun s _ => s.modChain_pending ..))

/-! ## The rows of the constellation (09) -/

@[simp] theorem State.acceptSeq_pending (m seq : Nat) : (s.acceptSeq m seq).pending = s.pending := by simp [State.acceptSeq]
@[simp] theorem helloTimer_pending (m : Nat) : (helloTimer m s).pending = s.pending := by simp [helloTimer]
@[simp] theorem State.rejectMsg_pending (b : List Byte) (status : Nat) : (s.rejectMsg b status).pending = s.pending := by
  simp [State.rejectMsg]

@[simp] theorem helloIn_pending (b : List Byte) (s0 : State) : (helloIn b s0).pending = s0.pending := by
  unfold helloIn
  dsimp only
  split <;> simp

@[simp] theorem helloAckIn_pending (b : List Byte) (s0 : State) : (helloAckIn b s0).pending = s0.pending := by
  unfold helloAckIn
  dsimp only
  split <;> simp

@[simp] theorem joinTimer_pending (m : Nat) : (joinTimer m s).pending = s.pending := by simp [joinTimer]
@[simp] theorem sendDigest_pending : (sendDigest s).pending = s.pending := by
  simp only [sendDigest]
  (repeat' split) <;> simp
@[simp] theorem State.digestFault_pending (b : List Byte) (S code : Nat) : (s.digestFault b S code).pending = s.pending := by
  simp [State.digestFault]

@[simp] theorem digestIn_pending (b : List Byte) (stepped : Bool) (s0 : State) : (digestIn b stepped s0).pending = s0.pending := by
  unfold digestIn
  extract_lets m s part seq S bodyAt blocks cell x E y asym s1 lenAtS
  have h0 : s.pending = s0.pending := State.cstHeard_pending ..
  have h1 : s1.pending = s0.pending := by
    refine State.ite_pending h0 ?_
    split
    · exact (State.alignSample_pending ..).trans ((State.modMember_pending ..).trans h0)
    · exact (State.modMember_pending ..).trans h0
  have hr {t : State} (st : Nat) (ht : t.pending = s0.pending) : (t.rejectMsg b st).pending = s0.pending := (State.rejectMsg_pending
      ..).trans ht
  have hf {t : State} (st code : Nat) (ht : t.pending = s0.pending) : ((t.rejectMsg b st).digestFault b S code).pending = s0.pending
      :=
    (State.digestFault_pending ..).trans (hr _ ht)
  split
  · exact hf _ _ h0
  · refine State.ite_pending ((State.cstReject_pending ..).trans h0) (State.ite_pending (hf _ _ h0) ?_)
    refine State.ite_pending (hf _ _ h1) (State.ite_pending (hr _ h1) (State.ite_pending ?_ (State.ite_pending (hr _ h1) ?_)))
    · rw [State.digestFault_pending, State.inc_pending, h1]
    refine State.ite_pending (hf _ _ h1) ?_
    extract_lets ok
    refine State.ite_pending (hf _ _ h1) (State.ite_pending ((State.inc_pending ..).trans h1) ?_)
    rw [State.modMember_pending, State.acceptSeq_pending, h1]

@[simp] theorem leaveIn_pending (b : List Byte) (s0 : State) : (leaveIn b s0).pending = s0.pending := by simp [leaveIn]
@[simp] theorem statusDecide_pending : (statusDecide s).pending = s.pending := by simp [statusDecide]
@[simp] theorem cstLeave_pending (r : Requester) : (cstLeave r s).pending = s.pending := by simp [cstLeave]
@[simp] theorem cstRejoin_pending (r : Requester) : (cstRejoin r s).pending = s.pending := by simp [cstRejoin]
@[simp] theorem foreignAged_pending (m sid r : Nat) : (foreignAged m sid r s).pending = s.pending := by
  unfold foreignAged
  split <;> simp
@[simp] theorem keepExpired_pending : (keepExpired s).pending = s.pending := by simp [keepExpired]

/-! ## Reads of host memory (13) -/

@[simp] theorem State.readFails_pending (c : Cmd) : (s.readFails c).pending = s.pending := by simp [State.readFails]
@[simp] theorem dmaDone_pending (f tag : Nat) (ok : Bool) : (dmaDone f tag ok s).pending = s.pending := by
  unfold dmaDone
  split <;> simp

/-! ## The rows of the Meridian and Dormant (05) -/

@[simp] theorem State.stageRefused_pending (a status : Nat) : (s.stageRefused a status).pending = s.pending := by
  simp [State.stageRefused]
@[simp] theorem State.go_pending : s.go.pending = s.pending := by
  simp only [State.go]
  (repeat' split) <;> simp
@[simp] theorem commitGo_pending (r : Requester) : (commitGo_ r s).pending = s.pending := by simp [commitGo_]
@[simp] theorem State.cancel_pending : s.cancel.pending = s.pending := by simp [State.cancel]
@[simp] theorem commitCancel_pending (r : Requester) : (commitCancel_ r s).pending = s.pending := by simp [commitCancel_]
@[simp] theorem armReport_pending (u : Nat) (busy : Bool) : (armReport u busy s).pending = s.pending := by simp [armReport]
@[simp] theorem State.irrevocable_pending : s.irrevocable.pending = s.pending := by simp [State.irrevocable]
@[simp] theorem deadline_pending (s0 : State) : (deadline s0).pending = s0.pending := by simp [deadline]
@[simp] theorem State.swapRadio_pending (x : RadioSwap) : (s.swapRadio x).pending = s.pending := by simp [State.swapRadio]
@[simp] theorem State.dramRate_pending (slow : Bool) : (s.dramRate slow).pending = s.pending := by simp [State.dramRate]
@[simp] theorem State.swap_pending : s.swap.pending = s.pending := by simp [State.swap]
@[simp] theorem State.setTsf_pending (b : Nat) : (s.setTsf b).pending = s.pending := by simp [State.setTsf]
@[simp] theorem strobe_pending : (strobe_ s).pending = s.pending := by simp [strobe_]
@[simp] theorem copied_pending : (copied s).pending = s.pending := by simp [copied]
@[simp] theorem State.joinUnit_pending (u : Nat) : (s.joinUnit u).pending = s.pending := by simp [State.joinUnit]
@[simp] theorem State.catchSteps_pending (b : Nat) : (s.catchSteps b).pending = s.pending := by simp [State.catchSteps]
@[simp] theorem State.boundarySteps_pending (b : Nat) : (s.boundarySteps b).pending = s.pending := by simp [State.boundarySteps]
@[simp] theorem State.blockSuperframes_pending (b : Nat) : (s.blockSuperframes b).pending = s.pending := by
  simp [State.blockSuperframes]
@[simp] theorem State.joinAll_pending : s.joinAll.pending = s.pending := by simp [State.joinAll]
@[simp] theorem superframe_pending : (superframe s).pending = s.pending := by
  simp only [superframe]
  (repeat' split) <;> simp
@[simp] theorem State.enterDormant_pending : s.enterDormant.pending = s.pending := by simp [State.enterDormant]
@[simp] theorem dormantWrite_pending (r : Requester) (v : Word) : (dormantWrite r v s).pending = s.pending := by simp [dormantWrite]

@[simp] theorem State.radioOff_pending (r : Nat) : (s.radioOff r).pending = s.pending := by
  unfold State.radioOff
  extract_lets n s1 s2 s3 s4 s5
  have h2 : s2.pending = s.pending := by
    rw [State.clearMac_pending]
    split <;> simp [s1]
  have h5 : s5.pending = s.pending := by
    rw [State.powerDown_pending, State.modRadio_pending, State.foldl_pending (fun _ _ => State.modChain_pending ..), h2]
  exact State.ite_pending h5 ((State.setUnit_pending ..).trans h5)

@[simp] theorem State.atB_pending : s.atB.pending = s.pending := by simp [State.atB]
@[simp] theorem State.abortAll_pending : s.abortAll.pending = s.pending := by simp [State.abortAll]
@[simp] theorem State.dropWired_pending : s.dropWired.pending = s.pending := by simp [State.dropWired]
@[simp] theorem State.closeBridge_pending : s.closeBridge.pending = s.pending := by simp [State.closeBridge]
@[simp] theorem State.stopTime_pending : s.stopTime.pending = s.pending := by simp [State.stopTime]

@[simp] theorem State.powerOff_pending : s.powerOff.pending = s.pending := by
  unfold State.powerOff
  dsimp only
  rw [State.foldl_pending, State.foldl_pending, State.foldl_pending, State.foldl_pending, State.flrFn_pending,
      State.linkDown_pending]
  · exact fun _ _ => State.put_pending ..
  · exact fun _ _ => State.setLink_pending ..
  · exact fun _ _ => State.tileDown_pending ..
  · exact fun _ _ => State.setUnit_pending ..

@[simp] theorem State.entryStep_pending (n : Nat) : (s.entryStep n).pending = s.pending := by simp [State.entryStep]
@[simp] theorem entryStepDone_pending : (entryStepDone s).pending = s.pending := by
  unfold entryStepDone
  split <;> simp
@[simp] theorem reachedDormant_pending : (reachedDormant s).pending = s.pending := by
  unfold reachedDormant
  (repeat' split) <;> simp
@[simp] theorem wakeMt_pending : (wakeMt s).pending = s.pending := by simp [wakeMt]
@[simp] theorem wakeGpio_pending (gpio : Nat) (level : Bool) : (wakeGpio gpio level s).pending = s.pending := by simp [wakeGpio]
@[simp] theorem State.requestAll_pending : s.requestAll.pending = s.pending := by simp [State.requestAll]
@[simp] theorem rampExpires_pending : (rampExpires s).pending = s.pending := by simp [rampExpires]
@[simp] theorem State.resumeTime_pending : s.resumeTime.pending = s.pending := by simp [State.resumeTime]

@[simp] theorem State.restoreSaved_pending (tagOk : Bool) : (s.restoreSaved tagOk).pending = s.pending := by
  unfold State.restoreSaved
  extract_lets held s1 s2
  have h1 : s1.pending = s.pending := State.ite_pending rfl <|
    (State.postEvent_pending ..).trans (State.foldl_pending fun s k => s.setSlot_pending ..)
  have h2 : s2.pending = s.pending := State.ite_pending ((State.put_pending ..).trans h1) h1
  rw [State.writeCounts_pending, State.bankToStaged_pending, h2]

@[simp] theorem State.exitCommit_pending : s.exitCommit.pending = s.pending := by simp [State.exitCommit]
@[simp] theorem State.exitStep_pending (n : Nat) (tagOk : Bool) : (s.exitStep n tagOk).pending = s.pending := by
  simp [State.exitStep]
@[simp] theorem exitStepDone_pending (tagOk : Bool) : (exitStepDone tagOk s).pending = s.pending := by
  unfold exitStepDone
  split <;> simp

/-! ## The rows of power and holds (16) -/

@[simp] theorem ledgerAdmit_pending : (ledgerAdmit s).pending = s.pending := by
  unfold ledgerAdmit
  split <;> simp
@[simp] theorem ledgerUp_pending (item : Nat) : (ledgerUp item s).pending = s.pending := by simp [ledgerUp]
@[simp] theorem ledgerWait_pending : (ledgerWait s).pending = s.pending := by
  unfold ledgerWait
  split <;> simp
@[simp] theorem powerDowned_pending (item : Nat) : (powerDowned item s).pending = s.pending := by
  unfold powerDowned
  split <;> simp
@[simp] theorem powerSampled_pending (amps : List Nat) : (powerSampled amps s).pending = s.pending := by
  simp only [powerSampled]
  (repeat' split) <;> simp
@[simp] theorem tempSampled_pending (temps : List Int) : (tempSampled temps s).pending = s.pending := by simp [tempSampled]
@[simp] theorem throttleTimer_pending (thermal : Bool) : (throttleTimer thermal s).pending = s.pending := by simp [throttleTimer]
@[simp] theorem State.releaseUnit_pending (u : FUnit) (cause : Nat) : (s.releaseUnit u cause).pending = s.pending := by
  simp [State.releaseUnit]
@[simp] theorem holdWrite_pending (r : Requester) (hf : Bool) (v : Word) : (holdWrite r hf v s).pending = s.pending := by
  simp [holdWrite]
@[simp] theorem holdTimer_pending (u : FUnit) : (holdTimer u s).pending = s.pending := by
  unfold holdTimer
  split <;> simp

/-! ## Reads of registers (00 R8, R10) -/

@[simp] theorem State.bar2Put_pending (f a : Nat) (v : Word) : (s.bar2Put f a v).pending = s.pending := by simp [State.bar2Put]
@[simp] theorem State.capture_pending (r : Requester) (a v : Nat) : (s.capture r a v).pending = s.pending := by simp [State.capture]
@[simp] theorem State.readWord_pending (r : Requester) (a : Nat) : (s.readWord r a).2.pending = s.pending := by
  unfold State.readWord
  (repeat' split) <;> simp
@[simp] theorem State.readAt_pending (r : Requester) (width a : Nat) : (s.readAt r width a).pending = s.pending := by
  unfold State.readAt
  (repeat' split) <;> simp

/-! ## The rows of the time bases (04) -/

@[simp] theorem ptpMessage_pending (port domain : Nat) (logSync srcTime : Int) :
    (ptpMessage port domain logSync srcTime s).pending = s.pending := by simp [ptpMessage]
@[simp] theorem State.newMaster_pending (clockId : BitVec 64) : (s.newMaster clockId).pending = s.pending := by
  simp [State.newMaster]
@[simp] theorem State.passUtc_pending (k utc leap : Nat) : (s.passUtc k utc leap).pending = s.pending := by simp [State.passUtc]
@[simp] theorem ptpAnnounce_pending (port domain : Nat) (clockId : BitVec 64) (a : Announce) :
    (ptpAnnounce port domain clockId a s).pending = s.pending := by simp [ptpAnnounce]
@[simp] theorem ppsIn_pending : (ppsIn s).pending = s.pending := by
  unfold ppsIn
  (repeat' split) <;> simp
@[simp] theorem todReject_pending (cause : Nat) : (todReject cause s).pending = s.pending := by simp [todReject]
@[simp] theorem todMessage_pending (b : List Byte) : (todMessage b s).pending = s.pending := by
  simp only [todMessage]
  (repeat' split) <;> simp
@[simp] theorem sourceTimeout_pending (k : Nat) : (sourceTimeout k s).pending = s.pending := by simp [sourceTimeout]

@[simp] theorem firstWait_pending : (firstWait s).pending = s.pending := by
  unfold firstWait
  split
  · exact State.ite_pending rfl (by rw [State.postEvent_pending, State.startMt_pending, State.ntStarts_pending,
      State.setNt_pending])
  · rfl

@[simp] theorem reanchorGo_pending (r : Requester) (v : Word) : (reanchorGo r v s).pending = s.pending := by simp [reanchorGo]
@[simp] theorem reanchorWrite_pending (r : Requester) (base : Nat) : (reanchorWrite r base s).pending = s.pending := by
  simp [reanchorWrite]
@[simp] theorem reanchorTake_pending : (reanchorTake s).pending = s.pending := by
  simp only [reanchorTake]
  (repeat' split) <;> simp
@[simp] theorem autoReanchor_pending : (autoReanchor s).pending = s.pending := by
  unfold autoReanchor
  split <;> simp
@[simp] theorem mtDiff_pending : (mtDiff s).pending = s.pending := by simp [mtDiff]
@[simp] theorem ppsOutRise_pending : (ppsOutRise s).pending = s.pending := by simp [ppsOutRise]
@[simp] theorem todSend_pending : (todSend s).pending = s.pending := by
  unfold todSend
  split <;> simp

/-! ## The rows of register access (00 R7 to R10) -/

@[simp] theorem State.ringEnabled_pending (f kind n : Nat) : (s.ringEnabled f kind n).pending = s.pending := by
  simp [State.ringEnabled]

@[simp] theorem State.afterHq_pending (s0 : State) (a : Nat) : (s0.afterHq s a).pending = s.pending := by
  unfold State.afterHq
  extract_lets up w f o
  refine State.ite_pending (State.ite_pending ?_ rfl) ?_
  · rw [State.trackIdle_pending, State.dropConsumer_pending]
  · refine State.ite_pending rfl (State.ite_pending ?_ (State.ite_pending ?_ (State.ite_pending ?_ (State.ite_pending ?_ rfl)))) <;>
      simp

@[simp] theorem State.afterWrite_pending (s0 : State) (a : Nat) : (s0.afterWrite s a).pending = s.pending := by
  unfold State.afterWrite
  refine State.ite_pending ?_ (State.ite_pending (State.afterHq_pending ..) (State.ite_pending ?_ rfl))
  · exact State.ite_pending rfl (State.modPkt_pending ..)
  · exact State.ite_pending rfl (State.autoTrain_pending ..)

@[simp] theorem onBit_pending (v : Word) (i : Nat) (act : State → State)
    (h : ∀ s, (act s).pending = s.pending) : (onBit v i act s).pending = s.pending := State.ite_pending (h s) rfl

@[simp] theorem State.clkWrite_pending (r : Requester) (first count : Nat) (v : Word) :
    (s.clkWrite r first count v).pending = s.pending := by
  have hp (v : Nat) (s : State) (l : List Nat) : (l.foldl (fun s b => s.put (clkEn b) v) s).pending = s.pending :=
    State.foldl_pending fun s b => s.put_pending ..
  refine State.access_pending _ _ _ _ _ fun s => ?_
  extract_lets bs on_ off s1 drains src s2 s3 s4
  have h4 : s4.pending = s.pending := by
    rw [State.foldl_pending fun s b => s.groupOff_pending b, State.requestItems_pending, State.mk_pending, hp, hp]
  exact State.ite_pending ((State.meshLink_pending _).trans h4) h4

@[simp] theorem State.tileCtrlWrite_pending (r : Requester) (k : Nat) (v : Word) : (s.tileCtrlWrite r k v).pending = s.pending := by
  simp [State.tileCtrlWrite]
@[simp] theorem State.bqWrite_pending (r : Requester) (f n : Nat) (v : Word) : (s.bqWrite r f n v).pending = s.pending := by
  simp [State.bqWrite]

theorem State.hqWrite_pending (r : Requester) (f o : Nat) (v : Word) : ∀ t, s.hqWrite r f o v = some t → t.pending = s.pending := by
  unfold State.hqWrite
  repeat' refine State.ite_some_pending (State.some_pending (by simp)) ?_
  exact fun _ h => nomatch h

theorem State.rowWrite_pending (r : Requester) (a : Nat) (v : Word) : ∀ t, s.rowWrite r a v = some t → t.pending = s.pending := by
  unfold State.rowWrite
  iterate 14 refine State.ite_some_pending (State.some_pending (by simp)) ?_
  refine State.ite_some_pending (State.hqWrite_pending _ _ _ _ _) (State.ite_some_pending (State.some_pending (by simp)) ?_)
  exact fun _ h => nomatch h

@[simp] theorem State.afterStaged_pending (b : Nat) : (s.afterStaged b).pending = s.pending := by simp [State.afterStaged]
@[simp] theorem State.writeStaged_pending (r : Requester) (a b : Nat) (v : Word) : (s.writeStaged r a b v).pending = s.pending := by
  unfold State.writeStaged
  (repeat' split) <;> simp

@[simp] theorem State.writeActive_pending (r : Requester) (a : Nat) (v : Word) : (s.writeActive r a v).pending = s.pending := by
  unfold State.writeActive
  split
  · rfl
  · refine State.ite_pending (State.stageRefused_pending ..) ?_
    split
    next ht => exact State.rowWrite_pending _ _ _ _ _ ht
    · exact State.ite_pending (State.invalidWrite_pending ..) (State.ite_pending rfl ((State.afterWrite_pending ..).trans
        (State.setReg_pending ..)))

@[simp] theorem State.writeAt_pending (r : Requester) (width a : Nat) (v : Word) : (s.writeAt r width a v).pending = s.pending := by
  unfold State.writeAt
  (repeat' split) <;> simp
@[simp] theorem registerWrite_pending (r : Requester) (width addr : Nat) (v : Word) :
    (registerWrite r width addr v s).pending = s.pending := by simp [registerWrite]
@[simp] theorem stagedWindowWrite_pending (r : Requester) (width addr : Nat) (v : Word) :
    (stagedWindowWrite r width addr v s).pending = s.pending := by simp [stagedWindowWrite]
@[simp] theorem snapshotLoRead_pending (r : Requester) (width addr : Nat) :
    (snapshotLoRead r width addr s).pending = s.pending := by simp [snapshotLoRead]
@[simp] theorem rcFieldRead_pending (r : Requester) (width addr : Nat) : (rcFieldRead r width addr s).pending = s.pending := by
  simp [rcFieldRead]

end Sys2Proof.Machine

end

section
/-! PROOFS. A step takes the command at the front of the queue and runs it with the queue's rest (log 2). -/

namespace Sys2Proof.Machine

/-- Every command's meaning is an effect that leaves the queue as it is. -/
theorem exec_pending (c : Instr) (s : State) : ∃ t, exec c s = .next t ∧ t.pending = s.pending := by
  cases c <;> exact ⟨_, rfl, by simp⟩

theorem step_cons {c : Instr} {rest : List Instr} {s : State} (h : s.pending = c :: rest) :
    step s = exec c { s with pending := rest } := by
  rw [step, h]

/-- Settles O1: a step is the front command's meaning on the queue's rest, and no meaning touches the queue. -/
theorem stepRunsFront : Obligations.StepRunsFront := by
  intro c rest s hs
  obtain ⟨t, ht, hrest⟩ := exec_pending c { s with pending := rest }
  rw [step_cons hs]
  refine ⟨rfl, fun u hu => ?_⟩
  obtain rfl : t = u := Host.Outcome.next.inj (ht.symm.trans hu)
  exact hrest

end Sys2Proof.Machine

end

section
/-! PROOFS. What the task scheduler, the flash and a unit that returns to service change of the state, and a unit that
reaches its reset state (01 R27, 05 R136, 10 R267). -/

namespace Sys2Proof.Machine

/-! ## A work item handed to the task scheduler (13 R397) -/

/-- t is s with other contents of the host interface, the registers, the counts and the task scheduler. -/
def TaskEffect (s t : State) : Prop :=
  ∃ h r n k q, t = { s with host := h, regs := r, fresh := n, rejects := k, tasks := q }

theorem TaskEffect.refl (s : State) : TaskEffect s s := ⟨s.host, s.regs, s.fresh, s.rejects, s.tasks, rfl⟩

theorem TaskEffect.trans {s t u : State} : TaskEffect s t → TaskEffect t u → TaskEffect s u := by
  rintro ⟨h, r, n, k, q, rfl⟩ ⟨h', r', n', k', q', rfl⟩
  exact ⟨_, _, _, _, _, rfl⟩

theorem HostEffect.taskEffect {s t : State} : HostEffect s t → TaskEffect s t := by
  rintro ⟨h, r, n, k, rfl⟩
  exact ⟨h, r, n, k, s.tasks, rfl⟩

theorem TaskEffect.foldl {ι : Type} {l : List ι} {g : State → ι → State} (hg : ∀ s i, TaskEffect s (g s i)) (s : State) :
    TaskEffect s (l.foldl g s) := by
  induction l generalizing s with
  | nil => exact .refl s
  | cons i l ih => exact (hg s i).trans (ih (g s i))

theorem State.modQ_effect (s : State) (q : Nat) (f : QStat → QStat) : TaskEffect s (s.modQ q f) := ⟨_, _, _, _, _, rfl⟩

theorem State.trackIdle_effect (s : State) : TaskEffect s s.trackIdle := TaskEffect.foldl (fun _ _ => ⟨_, _, _, _, _, rfl⟩) s

theorem State.dropFull_effect (s : State) (q : Nat) : TaskEffect s (s.dropFull q) :=
  (s.inc_effect _).taskEffect.trans ⟨_, _, _, _, _, rfl⟩

theorem State.enqueue_effect (s : State) (q prio tenant : Nat) (ctx : Option Nat) (source reason : Nat) (payload key : List Byte)
    (mac : Option (List Byte)) : TaskEffect s (s.enqueue q prio tenant ctx source reason payload key mac).2 := by
  have hcount : TaskEffect s (s.modQ q fun x => { x with nDrop := x.nDrop + 1 }) := s.modQ_effect ..
  have hput (i : Tab Item) (g : Tab Nat) (n : Nat) (f : QStat → QStat) :
      TaskEffect s ((State.modQ { s with tasks := { s.tasks with items := i, gens := g, nextOrder := n } } q f).trackIdle) :=
    TaskEffect.trans ⟨_, _, _, _, _, rfl⟩ (State.trackIdle_effect _)
  unfold State.enqueue
  dsimp only
  split
  · exact hcount
  split
  · exact hcount
  · exact hput ..

theorem State.faultNotice_effect (s : State) (parts : List (List Byte)) : TaskEffect s (s.faultNotice parts) := by
  refine TaskEffect.foldl (fun s p => ?_) s
  have h := s.enqueue_effect faultQueue faultPrio 0xFF none 0x0E faultReason p [] none
  dsimp only
  split
  · exact h.trans (State.dropFull_effect ..)
  · exact h

/-! ## The mesh island between ALONE and BRIDGED (10 R267) -/

/-- t has the units of s, but for what the island counts of its own. -/
def OnlyMeshCounts (s t : State) : Prop :=
  (t.unit FUnit.mesh.idx).phase = (s.unit FUnit.mesh.idx).phase ∧ ∀ i, i ≠ FUnit.mesh.idx → t.unit i = s.unit i

theorem OnlyMeshCounts.of_units {s t : State} (h : t.units = s.units) : OnlyMeshCounts s t := by
  have hu (i : Nat) : t.unit i = s.unit i := by rw [State.unit, h, State.unit]
  exact ⟨by rw [hu], fun i _ => hu i⟩

theorem OnlyMeshCounts.trans {s t u : State} (h : OnlyMeshCounts s t) (h' : OnlyMeshCounts t u) : OnlyMeshCounts s u :=
  ⟨h'.1.trans h.1, fun i hi => (h'.2 i hi).trans (h.2 i hi)⟩

theorem OnlyMeshCounts.foldl {ι : Type} {l : List ι} {g : State → ι → State} (hg : ∀ s i, OnlyMeshCounts s (g s i))
    (s : State) : OnlyMeshCounts s (l.foldl g s) := by
  induction l generalizing s with
  | nil => exact .of_units rfl
  | cons i l ih => exact (hg s i).trans (ih (g s i))

theorem TaskEffect.onlyMeshCounts {s t : State} (h : TaskEffect s t) : OnlyMeshCounts s t := by
  obtain ⟨h, r, n, k, q, rfl⟩ := h
  exact .of_units rfl

theorem State.refuseAt_mesh_onlyMeshCounts (s : State) : OnlyMeshCounts s (s.refuseAt .mesh) :=
  ⟨by rw [s.unit_refuseAt], fun _ hi => s.unit_setUnit_ne _ hi⟩

theorem State.bridgeUp_onlyMeshCounts (s : State) (u : MeshUp) : OnlyMeshCounts s (s.bridgeUp u) := by
  unfold State.bridgeUp State.ingress
  split
  · exact s.refuseAt_mesh_onlyMeshCounts
  split
  · exact .of_units (s.inc_units _)
  · exact .of_units rfl

theorem State.bridgeUp_mesh (s : State) (u : MeshUp) : (s.bridgeUp u).mesh = s.mesh := by
  unfold State.bridgeUp State.ingress
  split
  · rfl
  split
  · exact s.inc_mesh _
  · rfl

/-- The first stage of the drain of R271: frames of the UP queue enter the packet path. -/
theorem State.drainFrames_onlyMeshCounts (s : State) (l : List MeshUp) :
    OnlyMeshCounts s (l.foldl (fun s u => s.bridgeUp u) s) := OnlyMeshCounts.foldl (fun s u => s.bridgeUp_onlyMeshCounts u) s

theorem State.drainFrames_mesh (s : State) (l : List MeshUp) : (l.foldl (fun s u => s.bridgeUp u) s).mesh = s.mesh := by
  induction l generalizing s with
  | nil => rfl
  | cons u l ih => rw [List.foldl_cons, ih, s.bridgeUp_mesh]

/-- The drain keeps the island's state and every unit, but for what the island counts. -/
theorem State.drainUp_keeps (s : State) : OnlyMeshCounts s s.drainUp ∧ s.drainUp.mesh.state = s.mesh.state := by
  unfold State.drainUp
  split
  · exact ⟨.of_units rfl, rfl⟩
  extract_lets n s1 sums payload
  have h1 : OnlyMeshCounts s s1 := (s.drainFrames_onlyMeshCounts _).trans (.of_units rfl)
  have hm1 : s1.mesh.state = s.mesh.state := by
    have hm := congrArg MeshSt.state (s.drainFrames_mesh (s.mesh.up.take n))
    exact hm
  split
  · exact ⟨h1, hm1⟩
  split
  rename_i h s3 he
  have h3 : TaskEffect (s1.modMesh fun m => { m with summaries := [] }) s3 := by
    have := (s1.modMesh fun m => { m with summaries := [] }).enqueue_effect macQueue macPrio 0xFF none 0x08 0x01 payload []
      none
    rwa [he] at this
  extract_lets s4
  have h4 : TaskEffect (s1.modMesh fun m => { m with summaries := [] }) s4 := by
    unfold s4
    split
    · exact h3.trans (s3.dropFull_effect _)
    · exact h3
  have h5 := h4.trans (s4.postEvent_effect 0x8009 (items [sums.length, (sums.map (·.2.count)).sum]) []).taskEffect
  obtain ⟨h, r, n, k, q, e⟩ := h5
  refine ⟨h1.trans (.of_units ?_), ?_⟩
  · rw [e]; rfl
  · rw [e]; exact hm1

theorem State.meshLink_onlyMeshCounts (s : State) : OnlyMeshCounts s s.meshLink := by
  have hopen : OnlyMeshCounts s s.enterBridged := OnlyMeshCounts.trans (.of_units rfl) (State.drainUp_keeps _).1
  unfold State.meshLink
  extract_lets open_
  split
  · split
    · exact hopen
    · exact .of_units rfl
  · split <;> exact .of_units rfl
  · exact .of_units rfl

/-- An island in ALONE ends in ALONE or BRIDGED (10 R267). -/
theorem State.meshLink_state_of_alone {s : State} (h : s.mesh.state = .alone) : s.meshLink.mesh.state ≠ .reset := by
  have hopen : s.enterBridged.mesh.state = .bridged := (State.drainUp_keeps _).2
  simp only [State.meshLink, h]
  split
  · simp [hopen]
  · simp [h]

theorem State.meshRecovered_onlyMeshCounts (s : State) : OnlyMeshCounts s s.meshRecovered := by
  unfold State.meshRecovered
  split
  · exact .of_units rfl
  · exact OnlyMeshCounts.trans (.of_units rfl) (State.meshLink_onlyMeshCounts _)

theorem State.meshRecovered_of_not_recovering {s : State} (h : s.mesh.state ≠ .recovering) : s.meshRecovered = s := by
  simp [State.meshRecovered, h]

theorem State.meshRecovered_state {s : State} (h : s.mesh.state = .recovering) : s.meshRecovered.mesh.state ≠ .reset := by
  have ha : (s.modMesh fun m => { m with state := .alone, floor := s.mtMs, gap := true }).mesh.state = .alone := rfl
  simpa [State.meshRecovered, h] using State.meshLink_state_of_alone ha

/-- An island that has started once starts cold no more. -/
theorem State.meshStart_of_started {s : State} (h : s.mesh.state ≠ .reset) : s.meshStart = s := by
  simp [State.meshStart, h]

/-- The island waits for MT (10 R267). -/
theorem State.meshStart_of_mtNotStarted {s : State} (h : s.time.mtState = .notStarted) : s.meshStart = s := by
  simp [State.meshStart, h]

/-! ## A unit's own parts on its return -/

@[simp] theorem State.requestItems_units (s : State) (l : List Nat) : (s.requestItems l).units = s.units := by
  unfold State.requestItems
  extract_lets p want
  split <;> rfl

@[simp] theorem State.powerChains_units (s : State) (r : Nat) : (s.powerChains r).units = s.units := s.requestItems_units _

@[simp] theorem State.tileDown_units (s : State) (k : Nat) : (s.tileDown k).units = s.units := rfl

@[simp] theorem State.autoTrain_units (s : State) (k : Nat) : (s.autoTrain k).units = s.units := by
  unfold State.autoTrain State.startTraining
  split <;> rfl

/-! ## A unit that reaches its reset state -/

/-- The phase of a unit that is configured again (05 R136, log 59). -/
def State.reentryPhase (s : State) : FUnit → UnitPhase
  | .func _ => .service
  | .mesh => if s.mesh.state == .recovering then .service else .reset
  | .dram _ => .reset
  | .link _ => .joining
  | _ => s.joinPhase

/-- The state in which a unit is configured again: its phase is `reset`, the drain of its blocks counts anew, a link is down. -/
def State.inReset (s : State) (u : FUnit) : State :=
  let s1 := s.setUnit u.idx { s.unit u.idx with phase := .reset }
  let s2 : State := { s1 with clocks := { s1.clocks with
    draining := Tab.mapV s1.clocks.draining fun b t => if (unitBlocks u).contains b then s.elapsed else t } }
  match u with
  | .link k => s2.tileDown k
  | _ => s2

theorem resetReached_of_recovering {u : FUnit} {s : State} (hu : u.exists_ = true) (h : (s.unit u.idx).phase = .recovering) :
    resetReached u s = (s.inReset u).reenter u := by
  simp only [resetReached, hu, h]
  rfl

theorem resetReached_of_not_recovering {u : FUnit} {s : State} (h : (s.unit u.idx).phase ≠ .recovering) :
    resetReached u s = s := by
  simp [resetReached, h]

theorem State.inReset_units (s : State) (u : FUnit) :
    (s.inReset u).units = (s.setUnit u.idx { s.unit u.idx with phase := .reset }).units := by
  cases u <;> rfl

theorem State.inReset_unit (s : State) (u : FUnit) : (s.inReset u).unit u.idx = { s.unit u.idx with phase := .reset } := by
  rw [State.unit, s.inReset_units, ← State.unit, s.unit_setUnit]

theorem State.inReset_unit_ne (s : State) {u : FUnit} {i : Nat} (h : i ≠ u.idx) : (s.inReset u).unit i = s.unit i := by
  rw [State.unit, s.inReset_units, ← State.unit, s.unit_setUnit_ne _ h]

theorem State.inReset_reentryPhase (s : State) (u v : FUnit) : (s.inReset u).reentryPhase v = s.reentryPhase v := by
  cases u <;> rfl

/-- The unit has the phase in which it is configured again. -/
def State.rejoined (s : State) (u : FUnit) : State := s.setUnit u.idx { s.unit u.idx with phase := s.reentryPhase u }

theorem State.reenter_of_held {s : State} {u : FUnit} (h : (s.unit u.idx).held.isSome) : s.reenter u = s := by
  simp [State.reenter, h]

theorem State.reenter_of_reset {s : State} {u : FUnit} (hp : (s.unit u.idx).phase = .reset)
    (hh : (s.unit u.idx).held = none) :
    s.reenter u = match u with
      | .radio r => (s.rejoined u).powerChains r
      | .link k => (s.rejoined u).autoTrain k
      | .mesh => (s.rejoined u).meshRecovered.meshStart
      | _ => s.rejoined u := by
  cases u <;> simp [State.reenter, hp, hh, State.rejoined, State.reentryPhase]

theorem State.rejoined_unit (s : State) (u : FUnit) :
    (s.rejoined u).unit u.idx = { s.unit u.idx with phase := s.reentryPhase u } := s.unit_setUnit ..

theorem State.rejoined_unit_ne (s : State) {u : FUnit} {i : Nat} (h : i ≠ u.idx) : (s.rejoined u).unit i = s.unit i :=
  s.unit_setUnit_ne _ h

/-- What a return to service changes of the units is the unit's phase, and for the island also what it counts. -/
theorem State.reenter_keeps {s : State} {u : FUnit} (hp : (s.unit u.idx).phase = .reset) (hh : (s.unit u.idx).held = none)
    (hm : u = .mesh → s.mesh.state = .recovering) :
    ((s.reenter u).unit u.idx).phase = s.reentryPhase u ∧ ∀ i, i ≠ u.idx → (s.reenter u).unit i = s.unit i := by
  have hsame {t : State} (ht : t.units = (s.rejoined u).units) :
      (t.unit u.idx).phase = s.reentryPhase u ∧ ∀ i, i ≠ u.idx → t.unit i = s.unit i := by
    have hu (i : Nat) : t.unit i = (s.rejoined u).unit i := by rw [State.unit, ht, State.unit]
    exact ⟨by rw [hu, s.rejoined_unit], fun i hi => (hu i).trans (s.rejoined_unit_ne hi)⟩
  rw [State.reenter_of_reset hp hh]
  cases u with
  | radio r => exact hsame (State.powerChains_units _ _)
  | link k => exact hsame (State.autoTrain_units _ _)
  | mesh =>
    have hstate : (s.rejoined .mesh).mesh.state = .recovering := hm rfl
    obtain ⟨hphase, hothers⟩ := (s.rejoined .mesh).meshRecovered_onlyMeshCounts
    simp only [State.meshStart_of_started (State.meshRecovered_state hstate)]
    exact ⟨by rw [hphase, s.rejoined_unit], fun i hi => (hothers i hi).trans (s.rejoined_unit_ne hi)⟩
  | _ => exact hsame rfl

/-- What reaching the reset state changes of the units, where no hold keeps the unit there (01 R27, 05 R136). -/
theorem resetReached_keeps {u : FUnit} {s : State} (hu : u.exists_ = true) (hp : (s.unit u.idx).phase = .recovering)
    (hh : (s.unit u.idx).held = none) (hm : u = .mesh → s.mesh.state = .recovering) :
    ((resetReached u s).unit u.idx).phase = s.reentryPhase u
      ∧ ∀ i, i ≠ u.idx → (resetReached u s).unit i = s.unit i := by
  have hx := s.inReset_unit u
  have hmesh : u = .mesh → (s.inReset u).mesh.state = .recovering := by
    rintro rfl
    exact hm rfl
  obtain ⟨hphase, hothers⟩ := State.reenter_keeps (s := s.inReset u) (u := u) (by rw [hx]) (by rw [hx]; exact hh) hmesh
  rw [resetReached_of_recovering hu hp]
  exact ⟨hphase.trans (s.inReset_reentryPhase u u), fun i hi => (hothers i hi).trans (s.inReset_unit_ne hi)⟩

/-- A held unit stays in its reset state (16 R473). -/
theorem resetReached_of_held {u : FUnit} {s : State} (hu : u.exists_ = true) (hp : (s.unit u.idx).phase = .recovering)
    (hh : (s.unit u.idx).held.isSome) : ((resetReached u s).unit u.idx).phase = .reset := by
  have hx := s.inReset_unit u
  rw [resetReached_of_recovering hu hp, State.reenter_of_held (by rw [hx]; exact hh), hx]

/-- A host function changes nothing else of the host interface, no register. -/
theorem resetReached_func {f : Nat} {s : State} (hf : f < 16) (hp : (s.unit (FUnit.func f).idx).phase = .recovering)
    (hh : (s.unit (FUnit.func f).idx).held = none) :
    (resetReached (.func f) s).regs = s.regs ∧ (resetReached (.func f) s).host = s.host := by
  have hx := s.inReset_unit (.func f)
  rw [resetReached_of_recovering (by simpa [FUnit.exists_] using hf) hp,
    State.reenter_of_reset (by rw [hx]) (by rw [hx]; exact hh)]
  exact ⟨rfl, rfl⟩

theorem resetReached_dram_regs {k : Nat} {s : State} (hk : k < 4) (hp : (s.unit (FUnit.dram k).idx).phase = .recovering)
    (hh : (s.unit (FUnit.dram k).idx).held = none) : (resetReached (.dram k) s).regs = s.regs := by
  have hx := s.inReset_unit (.dram k)
  rw [resetReached_of_recovering (by simpa [FUnit.exists_] using hk) hp,
    State.reenter_of_reset (by rw [hx]) (by rw [hx]; exact hh)]
  rfl

/-- Before its cold start the island stays in its reset state as long as MT has not started (10 R267). -/
theorem resetReached_mesh_of_reset {s : State} (hp : (s.unit FUnit.mesh.idx).phase = .recovering)
    (hh : (s.unit FUnit.mesh.idx).held = none) (hm : s.mesh.state = .reset) (ht : s.time.mtState = .notStarted) :
    resetReached .mesh s = (s.inReset .mesh).rejoined .mesh := by
  have hx := s.inReset_unit .mesh
  have hm' : ((s.inReset .mesh).rejoined .mesh).mesh.state ≠ .recovering := by
    change s.mesh.state ≠ .recovering
    simp [hm]
  have ht' : ((s.inReset .mesh).rejoined .mesh).time.mtState = .notStarted := ht
  rw [resetReached_of_recovering rfl hp, State.reenter_of_reset (by rw [hx]) (by rw [hx]; exact hh)]
  simp only [State.meshRecovered_of_not_recovering hm', State.meshStart_of_mtNotStarted ht']

/-- The phase of the units below the host functions, the DRAM channels apart. -/
theorem State.reentryPhase_eq {s : State} {u : FUnit} (hi : u.idx < 32) (hk : u.kind ≠ 5)
    (hm : u = .mesh → s.mesh.state = .recovering) :
    s.reentryPhase u = if u = .mesh then .service else if u.kind = 1 then .joining else s.joinPhase := by
  cases u with
  | mesh => simp [State.reentryPhase, hm]
  | dram k => exact absurd rfl hk
  | func f => simp [FUnit.idx] at hi
  | _ => simp [State.reentryPhase, FUnit.kind]

/-- Settles O19: by what reaching the reset state does to the units, for each kind of unit. -/
theorem resetStateReached : Obligations.ResetStateReached := by
  refine ⟨fun u s hu hp hh => ?_, fun f s hf hp hh => ?_, fun k s hk hp hh => ?_, fun u s hu hi hk hp hh hm => ?_,
    fun s hp hh hm ht => ?_, fun u s hp => ?_⟩
  · exact ⟨_, rfl, resetReached_of_held hu hp hh, resetReached_pending ..⟩
  · obtain ⟨hphase, hothers⟩ := resetReached_keeps (u := .func f) (by simpa [FUnit.exists_] using hf) hp hh nofun
    obtain ⟨hregs, hhost⟩ := resetReached_func hf hp hh
    exact ⟨_, rfl, hphase, hregs, hhost, hothers⟩
  · obtain ⟨hphase, hothers⟩ := resetReached_keeps (u := .dram k) (by simpa [FUnit.exists_] using hk) hp hh nofun
    exact ⟨_, rfl, hphase, resetReached_dram_regs hk hp hh, hothers⟩
  · obtain ⟨hphase, hothers⟩ := resetReached_keeps hu hp hh hm
    exact ⟨_, rfl, hphase.trans (State.reentryPhase_eq hi hk hm), hothers⟩
  · have heq := resetReached_mesh_of_reset hp hh hm ht
    refine ⟨_, rfl, ?_, ?_⟩
    · rw [heq]
      exact (congrArg UnitSt.phase (State.rejoined_unit _ .mesh)).trans (by simp [State.reentryPhase, State.inReset, hm])
    · rw [heq]
      rfl
  · exact congrArg Host.Outcome.next (resetReached_of_not_recovering hp)

end Sys2Proof.Machine

end

section
/-! PROOFS. The events that reset the device (01 R28, 03 R73, 16 R463, 17 R487, R488). -/

namespace Sys2Proof.Machine

/-! ## What posting a device fault's record leaves unchanged (01 R28) -/

/-- t is s with other contents of the flash, the fault log's pointer and the count of free values. -/
def FlashEffect (s t : State) : Prop := ∃ f l n, t = { s with flash := f, log := l, fresh := n }

theorem FlashEffect.refl (s : State) : FlashEffect s s := ⟨s.flash, s.log, s.fresh, rfl⟩

theorem FlashEffect.trans {s t u : State} : FlashEffect s t → FlashEffect t u → FlashEffect s u := by
  rintro ⟨f, l, n, rfl⟩ ⟨f', l', n', rfl⟩
  exact ⟨_, _, _, rfl⟩

theorem FlashEffect.foldl {ι : Type} {l : List ι} {g : State → ι → State} (hg : ∀ s i, FlashEffect s (g s i)) (s : State) :
    FlashEffect s (l.foldl g s) := by
  induction l generalizing s with
  | nil => exact .refl s
  | cons i l ih => exact (hg s i).trans (ih (g s i))

theorem State.spoil_effect (s : State) (sector : Nat) : FlashEffect s (s.spoil sector) := by
  unfold State.spoil
  split
  · exact .refl s
  · exact ⟨_, _, _, rfl⟩

theorem State.flashProgram_effect (s : State) (a : Nat) (bs : List Byte) : FlashEffect s (s.flashProgram a bs) := by
  unfold State.flashProgram
  extract_lets old src s0 src s1
  split
  · have h1 : FlashEffect s s1 := ⟨_, _, _, rfl⟩
    split
    · exact h1.trans (s1.spoil_effect _)
    · exact h1
  · have h0 : FlashEffect s s0 := ⟨_, _, _, rfl⟩
    refine (h0.trans (FlashEffect.foldl (fun t i => ?_) s0)).trans (State.spoil_effect _ _)
    split <;> exact ⟨_, _, _, rfl⟩

theorem State.flashKick_effect (s : State) : FlashEffect s s.flashKick := by
  unfold State.flashKick
  split <;> exact ⟨_, _, _, rfl⟩

theorem State.queueLogOp_effect (s : State) (o : FlashOp) : FlashEffect s (s.queueLogOp o) :=
  FlashEffect.trans ⟨_, _, _, rfl⟩ (State.flashKick_effect _)

theorem State.logAdvance_effect (s : State) : FlashEffect s s.logAdvance := by
  unfold State.logAdvance
  dsimp only
  split
  · exact FlashEffect.trans ⟨_, _, _, rfl⟩ (State.queueLogOp_effect _ _)
  · exact ⟨_, _, _, rfl⟩

theorem State.logProgram_effect (s : State) (type : Nat) (payload : List Byte) : FlashEffect s (s.logProgram type payload) :=
  ((s.flashProgram_effect _ _).trans ⟨_, _, _, rfl⟩).trans (State.logAdvance_effect _)

theorem State.logWriteNow_effect (s : State) (type : Nat) (payload : List Byte) :
    FlashEffect s (s.logWriteNow type payload) := by
  unfold State.logWriteNow
  split
  · exact s.logProgram_effect type payload
  · exact .refl s

theorem State.freePage_effect (s : State) (a : Nat) : FlashEffect s (s.freePage a) :=
  FlashEffect.foldl (fun _ _ => ⟨_, _, _, rfl⟩) s

theorem State.cutAttempt_effect (s : State) : FlashEffect s s.cutAttempt := by
  unfold State.cutAttempt
  split
  · split
    · exact FlashEffect.foldl (fun s a => s.freePage_effect a) s
    · exact .refl s
  · exact .refl s

/-- A fault record on its way to the log: each part writes the flash alone. -/
theorem State.writeRecord_effect (s : State) (parts : List (List Byte)) : FlashEffect s (s.writeRecord parts).1 := by
  have hfold (l : List (List Byte)) (a : State × List Nat) : FlashEffect a.1 (l.foldl (fun (s, l) p =>
      (s.logWriteNow 1 p, if s.logWritable then l ++ [s.logBase + 256 * s.log.ptr] else l)) a).1 := by
    induction l generalizing a with
    | nil => exact .refl _
    | cons p l ih => exact (a.1.logWriteNow_effect 1 p).trans (ih _)
  exact hfold parts (s, [])

theorem State.postRecord_effect (s : State) (code kind index cause detail flags : Nat) (tags : List (Nat × Nat × Nat)) :
    TaskEffect s (s.postRecord code kind index cause detail flags tags) := by
  have hparts (f : Nat) (l : List (List Byte)) (s : State) : TaskEffect s (l.foldl (fun s p => s.postOn f code p) s) :=
    TaskEffect.foldl (fun s p => (s.postOn_effect f code p).taskEffect) s
  unfold State.postRecord
  extract_lets mk s1 s2
  have h2 : TaskEffect s s2 := by
    refine (hparts 0 _ s).trans (TaskEffect.foldl (fun t f => ?_) s1)
    dsimp only
    split
    · exact hparts f _ t
    · exact .refl t
  exact (h2.trans ⟨_, _, _, _, _, rfl⟩).trans (State.faultNotice_effect _ _)

/-- What neither a record nor its way to the flash touches: the fuses and the boot controller. -/
def SameBoot (s t : State) : Prop := t.fuses = s.fuses ∧ t.boot = s.boot

theorem SameBoot.trans {s t u : State} (h : SameBoot s t) (h' : SameBoot t u) : SameBoot s u :=
  ⟨h'.1.trans h.1, h'.2.trans h.2⟩

theorem TaskEffect.sameBoot {s t : State} : TaskEffect s t → SameBoot s t := by
  rintro ⟨h, r, n, k, q, rfl⟩
  exact ⟨rfl, rfl⟩

theorem FlashEffect.sameBoot {s t : State} : FlashEffect s t → SameBoot s t := by
  rintro ⟨f, l, n, rfl⟩
  exact ⟨rfl, rfl⟩

/-! ## A device reset (03 R73, R89) -/

/-- What every device reset leaves: the fuses and the queue of s, no register word, no unit, no time base. -/
structure AfterReset (s t : State) : Prop where
  fuses : t.fuses = s.fuses
  pending : t.pending = s.pending
  regs : t.regs = []
  staged : t.staged = []
  units : t.units = []
  time : t.time = {}
  grid : t.grid = {}

theorem State.deviceReset_afterReset (s : State) (wait : ResetWait) (straps : Bool) :
    AfterReset s (s.deviceReset wait straps) := ⟨rfl, rfl, rfl, rfl, rfl, rfl, rfl⟩

theorem AfterReset.of_eq {s s' t : State} (h : AfterReset s t) (hf : s.fuses = s'.fuses) (hp : s.pending = s'.pending) :
    AfterReset s' t := { h with fuses := h.fuses.trans hf, pending := h.pending.trans hp }

/-- The boot controller and the power items alone do not show. -/
theorem AfterReset.boot {s t : State} (h : AfterReset s t) (b : Boot) : AfterReset s { t with boot := b } := { h with }

theorem State.requestItems_eq (s : State) (l : List Nat) : ∃ p, s.requestItems l = { s with power := p } := by
  unfold State.requestItems
  extract_lets p want
  split <;> exact ⟨_, rfl⟩

theorem AfterReset.startQualify {s t : State} (h : AfterReset s t) : AfterReset s t.startQualify := by
  unfold State.startQualify
  split
  · exact h.boot _
  · obtain ⟨p, e⟩ := State.requestItems_eq { t with boot := { t.boot with state := .qualify } } [0]
    rw [e]
    exact { h with }

@[simp] theorem State.requestItems_boot (s : State) (l : List Nat) : (s.requestItems l).boot = s.boot := by
  obtain ⟨p, e⟩ := s.requestItems_eq l
  rw [e]

/-- With straps that select a reference and a boot, the device qualifies its reference; the rest of the boot controller
stands (03 R73). -/
theorem State.startQualify_boot {s : State} (hr : s.boot.refsel ≠ 3) (hb : s.boot.bootmode ≠ 3) :
    s.startQualify.boot = { s.boot with state := .qualify } := by
  rw [State.startQualify, if_neg (by simpa using ⟨hr, hb⟩), State.requestItems_boot]

theorem State.startQualify_refsel (s : State) : s.startQualify.boot.refsel = s.boot.refsel := by
  unfold State.startQualify
  split
  · rfl
  · rw [State.requestItems_boot]

/-! ## A reset without a fault (03 R73) -/

theorem State.softReset_afterReset (s : State) : AfterReset s s.softReset := (s.deviceReset_afterReset _ _).startQualify

theorem State.softReset_state {s : State} (hr : s.boot.refsel ≠ 3) (hb : s.boot.bootmode ≠ 3) :
    s.softReset.boot.state = .qualify :=
  congrArg Boot.state (State.startQualify_boot (s := s.deviceReset .resetN true) hr hb)

/-! ## A device fault (01 R28) -/

/-- What a device waits for in its reset state after a fault: the cool-down, PWR_OK, or nothing but its release. -/
def faultWait (cause : Nat) : ResetWait := if cause = 0x10 then .cooldown else if cause = 0x11 then .pwrOk else .resetN

/-- The reset of a device fault keeps the straps; an attempt at the fault's record may be under way. -/
def State.faultReset (s : State) (cause : Nat) (attempt : Option (Nat × List Nat)) : State :=
  let r := s.deviceReset (faultWait cause) true
  { r with boot := { r.boot with attempt := attempt } }

/-- A device fault resets a state whose boot controller and fuses are as before; all causes but over-temperature and loss of
power go on to qualify the reference. -/
theorem State.deviceFaultWith_eq (s : State) (cause detail : Nat) : ∃ u attempt, SameBoot s u ∧ u.pending = s.pending
    ∧ s.deviceFaultWith cause detail = if cause = 0x10 ∨ cause = 0x11 then u.faultReset cause attempt
        else (u.faultReset cause attempt).startQualify := by
  unfold State.deviceFaultWith
  extract_lets tags s1
  have h1 : SameBoot s s1 := (s.postRecord_effect ..).sameBoot
  have h2 := (s1.writeRecord_effect (faultParts 8 0 cause s.stamp s.frNs detail 2 tags)).sameBoot
  have hp : (s1.writeRecord (faultParts 8 0 cause s.stamp s.frNs detail 2 tags)).1.pending = s.pending := by
    rw [State.writeRecord_pending, State.postRecord_pending]
  exact ⟨_, _, h1.trans h2, hp, rfl⟩

theorem State.deviceFaultWith_afterReset (s : State) (cause detail : Nat) : AfterReset s (s.deviceFaultWith cause detail) := by
  obtain ⟨u, attempt, ⟨hf, hb⟩, hp, e⟩ := s.deviceFaultWith_eq cause detail
  have ht : AfterReset s (u.faultReset cause attempt) := ((u.deviceReset_afterReset _ _).of_eq hf hp).boot _
  rw [e]
  split
  · exact ht
  · exact ht.startQualify

theorem State.deviceFaultWith_refsel (s : State) (cause detail : Nat) :
    (s.deviceFaultWith cause detail).boot.refsel = s.boot.refsel := by
  obtain ⟨u, attempt, ⟨hf, hb⟩, hp, e⟩ := s.deviceFaultWith_eq cause detail
  have hr : u.boot.refsel = s.boot.refsel := congrArg Boot.refsel hb
  rw [e]
  split
  · exact hr
  · exact (State.startQualify_refsel _).trans hr

/-- The two causes that leave the device in its reset state, with what it then waits for (16 R463, R472). -/
theorem State.deviceFaultWith_waits (s : State) {cause : Nat} (detail : Nat) (h : cause = 0x10 ∨ cause = 0x11) :
    (s.deviceFaultWith cause detail).boot.state = .reset ∧ (s.deviceFaultWith cause detail).boot.wait = faultWait cause
      ∧ (s.deviceFaultWith cause detail).boot.pwrOk = s.boot.pwrOk := by
  obtain ⟨u, attempt, ⟨hf, hb⟩, hp, e⟩ := s.deviceFaultWith_eq cause detail
  have hpwr : u.boot.pwrOk = s.boot.pwrOk := congrArg Boot.pwrOk hb
  rw [e, if_pos h]
  exact ⟨rfl, rfl, hpwr⟩

/-- Every other cause qualifies the reference anew (03 R73). -/
theorem State.deviceFaultWith_qualifies {s : State} {cause : Nat} (detail : Nat) (h0 : cause ≠ 0x10) (h1 : cause ≠ 0x11)
    (hr : s.boot.refsel ≠ 3) (hm : s.boot.bootmode ≠ 3) :
    (s.deviceFaultWith cause detail).boot.state = .qualify ∧ (s.deviceFaultWith cause detail).boot.refReady = false
      ∧ (s.deviceFaultWith cause detail).boot.rootReady = false := by
  obtain ⟨u, attempt, ⟨hf, hb⟩, hp, e⟩ := s.deviceFaultWith_eq cause detail
  rw [← hb] at hr hm
  have hq := State.startQualify_boot (s := u.faultReset cause attempt) hr hm
  rw [e, if_neg (by simp [h0, h1]), hq]
  exact ⟨rfl, rfl, rfl⟩

/-! ## The rows (03 R73, 16 R463, 17 R488) -/

theorem deviceFails_of_awake {s : State} (h : s.boot.state ≠ .reset) (cause detail : Nat) :
    deviceFails cause detail s = s.deviceFaultWith cause detail := by
  simp [deviceFails, h]

theorem pwrFall_of_fault {s : State} (hok : s.boot.pwrOk = true) (hst : s.boot.state ≠ .reset)
    (hp : .resetNAssert ∉ s.pending) :
    pwrFall s = State.deviceFaultWith { s with boot := { s.boot with pwrOk := false } } 0x11 0 := by
  simp [pwrFall, hok, hst, hp]

theorem pwrFall_of_resetN {s : State} (hp : .resetNAssert ∈ s.pending) :
    pwrFall s = { s with boot := { s.boot with pwrOk := false } } := by
  simp [pwrFall, hp]

theorem refLoss_of_ready {s : State} (h : s.boot.refReady = true) (b : Bool) :
    refLoss b s = (s.clocks.fcBusy.foldl State.fcNoRef s).deviceFaultWith 0x06 (b2n b) := by
  simp [refLoss, h]

theorem rootUnlock_of_ready {s : State} (h : s.boot.rootReady = true) :
    rootUnlock s = ((s.put ⟨0x100008, 1, 1⟩ 1).postEvent 0x1802 (items [s.stamp.toNat])).deviceFaultWith 0x07 0 := by
  simp [rootUnlock, h]

theorem State.fcNoRef_effect (s : State) (n : Nat) : HostEffect s (s.fcNoRef n) := by
  unfold State.fcNoRef
  extract_lets s1
  have h1 : HostEffect s s1 := (s.put_effect _ _).trans (State.put_effect _ _ _)
  split
  · exact h1.trans (State.postEvent_effect ..)
  · exact h1

/-- A fault for a reference or root PLL that is lost, where the host alone has been told before. -/
theorem HostEffect.fault_qualifies {s t : State} (h : HostEffect s t) {cause : Nat} (detail : Nat) (h0 : cause ≠ 0x10)
    (h1 : cause ≠ 0x11) (hr : s.boot.refsel ≠ 3) (hm : s.boot.bootmode ≠ 3) :
    AfterReset s (t.deviceFaultWith cause detail) ∧ (t.deviceFaultWith cause detail).boot.state = .qualify
      ∧ (t.deviceFaultWith cause detail).boot.refReady = false
      ∧ (t.deviceFaultWith cause detail).boot.rootReady = false := by
  obtain ⟨hst, r, n, k, rfl⟩ := h
  exact ⟨(State.deviceFaultWith_afterReset ..).of_eq rfl rfl, State.deviceFaultWith_qualifies detail h0 h1 hr hm⟩

theorem resetKey_of_mapped {r : Requester} {s : State} (h : Mapped s r) (v : Word) :
    resetKey r v s = { (if v = 0x7A110001#32 && (s.boot.state == .run || s.boot.state == .hold || s.boot.state == .recovery)
      then s.softReset else s) with answer := some .done } :=
  State.access_of_mapped _ _ h fun _ hg => nomatch hg

theorem recoveryExpires_of_due {s : State} (hs : s.boot.state = .recovery) (ht : s.boot.almFrom + ms 600000 ≤ s.elapsed) :
    recoveryExpires s = s.softReset := by
  simp [recoveryExpires, hs, ht]

theorem resetLow_afterReset (s : State) : AfterReset s (resetLow s) :=
  ((s.cutAttempt.deviceReset_afterReset .resetN false).of_eq s.cutAttempt_effect.sameBoot.1 s.cutAttempt_pending).boot _

/-- An attempt at a fault record that has ended holds no page any more. -/
theorem State.cutAttempt_of_ended {s : State} (h : s.boot.attempt.all (fun a => decide (a.1 ≤ s.elapsed)) = true) :
    s.cutAttempt = s := by
  unfold State.cutAttempt
  split
  next t pages ha =>
    have : t ≤ s.elapsed := by simpa [ha] using h
    exact if_neg (by omega)
  · rfl

/-- A reset leaves the flash's contents where no access runs (03 R95). -/
theorem State.deviceReset_bytes {s : State} (h : s.flash.running = false) (wait : ResetWait) (straps : Bool) :
    (s.deviceReset wait straps).flash.bytes = s.flash.bytes := by
  simp [State.deviceReset, h]

theorem resetLow_bytes {s : State} (hf : s.flash.running = false)
    (ha : s.boot.attempt.all (fun a => decide (a.1 ≤ s.elapsed)) = true) : (resetLow s).flash.bytes = s.flash.bytes := by
  simp only [resetLow, State.cutAttempt_of_ended ha]
  exact State.deviceReset_bytes hf _ _

/-- Settles O20: each event's effect is a device reset, with or without a fault, of a state with the same fuses and boot
controller. -/
theorem deviceResets : Obligations.DeviceResets := by
  refine ⟨fun s => ?_, fun cause detail s hs => ?_, fun s hok hs hp => ?_, fun b s hready hr hm => ?_,
    fun s hready hr hm => ?_, fun r s hmap hs hr hm => ?_, fun r v s hmap hv => ?_, fun s hs ht hr hm => ?_,
    fun s hp => congrArg Host.Outcome.next (pwrFall_of_resetN hp), fun s hf ha => ⟨_, rfl, resetLow_bytes hf ha, rfl⟩⟩
  · obtain ⟨hfuses, hpending, hregs, hstaged, hunits, htime, hgrid⟩ := resetLow_afterReset s
    exact ⟨_, rfl, rfl, rfl, rfl, rfl, rfl, hfuses, hpending, hregs, hstaged, hunits, htime, hgrid, rfl⟩
  · obtain ⟨hfuses, hpending, hregs, hstaged, hunits, htime, hgrid⟩ := s.deviceFaultWith_afterReset cause detail
    refine ⟨_, congrArg Host.Outcome.next (deviceFails_of_awake hs cause detail), hfuses, hpending, hregs, hstaged, hunits,
      htime, hgrid, s.deviceFaultWith_refsel cause detail, ?_, ?_, fun h0 h1 hr hm => ?_⟩
    · rintro rfl
      obtain ⟨hstate, hwait, -⟩ := s.deviceFaultWith_waits detail (.inl rfl)
      exact ⟨hstate, hwait⟩
    · rintro rfl
      obtain ⟨hstate, hwait, -⟩ := s.deviceFaultWith_waits detail (.inr rfl)
      exact ⟨hstate, hwait⟩
    · exact (State.deviceFaultWith_qualifies detail h0 h1 hr hm).1
  · have hafter := State.deviceFaultWith_afterReset { s with boot := { s.boot with pwrOk := false } } 0x11 0
    obtain ⟨hstate, hwait, hpwr⟩ := State.deviceFaultWith_waits { s with boot := { s.boot with pwrOk := false } } 0 (.inr rfl)
    exact ⟨_, congrArg Host.Outcome.next (pwrFall_of_fault hok hs hp), hstate, hwait, hpwr, hafter.fuses, hafter.regs,
      hafter.units⟩
  · obtain ⟨hafter, hstate, href, -⟩ :=
      (HostEffect.foldl s.clocks.fcBusy State.fcNoRef State.fcNoRef_effect s).fault_qualifies (cause := 0x06) (b2n b)
        (by decide) (by decide) hr hm
    exact ⟨_, congrArg Host.Outcome.next (refLoss_of_ready hready b), hstate, href, hafter.fuses, hafter.regs, hafter.units⟩
  · obtain ⟨hafter, hstate, -, hroot⟩ := ((s.put_effect ⟨0x100008, 1, 1⟩ 1).trans
      (State.postEvent_effect _ 0x1802 (items [s.stamp.toNat]) [])).fault_qualifies (cause := 0x07) 0
        (by decide) (by decide) hr hm
    exact ⟨_, congrArg Host.Outcome.next (rootUnlock_of_ready hready), hstate, hroot, hafter.fuses, hafter.regs, hafter.units⟩
  · have hafter := s.softReset_afterReset
    have hkey : resetKey r 0x7A110001#32 s = { s.softReset with answer := some .done } := by
      rw [resetKey_of_mapped hmap, if_pos (by simpa [or_assoc] using hs)]
    exact ⟨_, congrArg Host.Outcome.next hkey, State.softReset_state hr hm, hafter.fuses, hafter.regs, hafter.units, rfl⟩
  · have hkey : resetKey r v s = { s with answer := some .done } := by
      rw [resetKey_of_mapped hmap, if_neg (by simp [hv])]
    exact congrArg Host.Outcome.next hkey
  · have hafter := s.softReset_afterReset
    exact ⟨_, congrArg Host.Outcome.next (recoveryExpires_of_due hs ht), State.softReset_state hr hm, hafter.fuses,
      hafter.regs, hafter.units⟩

end Sys2Proof.Machine

end

section
/-! PROOFS. The passage of time on an empty queue (log 2), and what the task scheduler's own bookkeeping changes. -/

namespace Sys2Proof.Machine

/-! ## The scheduler's bookkeeping (13 R397, R406) -/

/-- t is s with other contents of the task scheduler alone. -/
def TasksOnly (s t : State) : Prop := ∃ q, t = { s with tasks := q }

theorem TasksOnly.refl (s : State) : TasksOnly s s := ⟨s.tasks, rfl⟩

theorem TasksOnly.trans {s t u : State} : TasksOnly s t → TasksOnly t u → TasksOnly s u := by
  rintro ⟨q, rfl⟩ ⟨q', rfl⟩
  exact ⟨q', rfl⟩

theorem TasksOnly.foldl {ι : Type} {l : List ι} {g : State → ι → State} (hg : ∀ s i, TasksOnly s (g s i)) (s : State) :
    TasksOnly s (l.foldl g s) :=
  State.foldl_inv (TasksOnly s) l g (fun t i h => h.trans (hg t i)) s (.refl s)

theorem State.trackIdle_tasksOnly (s : State) : TasksOnly s s.trackIdle := TasksOnly.foldl (fun _ _ => ⟨_, rfl⟩) s

theorem State.rollTasks_tasksOnly (s : State) : TasksOnly s s.rollTasks := s.trackIdle_tasksOnly.trans ⟨_, rfl⟩

theorem State.taskWindow_tasksOnly (s : State) : TasksOnly s s.taskWindow := by
  unfold State.taskWindow
  split
  · exact s.rollTasks_tasksOnly
  · exact .refl s

theorem State.enqueue_tasksOnly (s : State) (q prio tenant : Nat) (ctx : Option Nat) (source reason : Nat)
    (payload key : List Byte) (mac : Option (List Byte)) :
    TasksOnly s (s.enqueue q prio tenant ctx source reason payload key mac).2 := by
  unfold State.enqueue
  dsimp only
  split
  · exact ⟨_, rfl⟩
  split
  · exact ⟨_, rfl⟩
  · exact TasksOnly.trans ⟨_, rfl⟩ (State.trackIdle_tasksOnly _)

/-! ## An idle step -/

theorem step_nil {s : State} (h : s.pending = []) : step s = .next s.idle := by
  rw [step, h]

/-- Settles O2: an idle step moves the time bases and the frequency windows, and the scheduler's statistics alone besides. -/
theorem idleStep : Obligations.IdleStep := by
  intro s hs
  obtain ⟨q, hidle⟩ : TasksOnly s.tick.fcTick s.idle := s.tick.fcTick.taskWindow_tasksOnly
  refine ⟨_, step_nil hs, ?_⟩
  rw [hidle]
  exact ⟨hs, rfl, rfl, rfl, rfl, rfl, rfl, rfl, rfl, rfl⟩

end Sys2Proof.Machine

end

section
/-! PROOFS. What a field reads after a write of a field, and an access to a register that no clock gates (00 R8, 02 R54). -/

namespace Sys2Proof.Machine

/-! ## Fields after a write -/

section
variable (s : State) {a hi lo : Nat} (v : Nat)

/-- A field reads as the value put in it, to its width. -/
theorem State.get_put_self (hlo : lo ≤ hi) (hhi : hi < 32) :
    (s.put ⟨a, hi, lo⟩ v).get ⟨a, hi, lo⟩ = v % 2 ^ (hi + 1 - lo) := by
  rw [State.get, State.put, State.reg_setReg, bitsOf_setBits_self _ _ hlo hhi]

/-- A field of the same register that shares no bit with it stays. -/
theorem State.get_put_apart {hi' lo' : Nat} (hlo : lo ≤ hi) (hhi : hi < 32) (h : hi < lo' ∨ hi' < lo) :
    (s.put ⟨a, hi, lo⟩ v).get ⟨a, hi', lo'⟩ = s.get ⟨a, hi', lo'⟩ := by
  rw [State.get, State.put, State.reg_setReg, bitsOf_setBits_apart _ _ hlo hhi h, State.get]

theorem State.reg_put_ne {f : FieldRef} {b : Nat} (h : b ≠ f.a) : (s.put f v).reg b = s.reg b := s.reg_setReg_ne _ h

/-- A bit reads as it is put. -/
theorem State.flag_put_bit (b : Bool) (hhi : hi < 32) : (s.put ⟨a, hi, hi⟩ (b2n b)).flag ⟨a, hi, hi⟩ = b := by
  rw [State.flag, State.get_put_self s _ le_rfl hhi, Nat.add_sub_cancel_left]
  cases b <;> rfl

end

/-- A register is read from the register words alone. -/
theorem State.reg_of_regs {s t : State} (h : t.regs = s.regs) (a : Nat) : t.reg a = s.reg a := by
  rw [State.reg, h, State.reg]

/-- A field is read from its register alone. -/
theorem State.get_congr {s t : State} {f : FieldRef} (h : t.reg f.a = s.reg f.a) : t.get f = s.get f := by
  rw [State.get, h, State.get]

theorem State.flag_congr {s t : State} {f : FieldRef} (h : t.reg f.a = s.reg f.a) : t.flag f = s.flag f := by
  rw [State.flag, State.get_congr h, State.flag]

/-! ## Registers that no clock gates -/

/-- The blocks below FE have no enable bit (02 R53). -/
theorem clocked_of_low (s : State) {a : Nat} (h : a < 0x1000000) : Clocked s a := by
  intro b hb
  rw [gateBlock, if_pos h] at hb
  cases hb

/-- A write of a register below FE's, from a requester that reaches the map, has its effect and answers (02 R54, 03 R90). -/
theorem State.access_low {s : State} {r : Requester} {a : Nat} (h : Mapped s r) (ha : a < 0x1000000) (act : State → State) :
    s.access r a act = { act s with answer := some .done } :=
  State.access_of_mapped act _ h (clocked_of_low s ha)

end Sys2Proof.Machine

end

section
/-! PROOFS. What an event leaves of the registers and of the commands in flight (13 R389 to R391), and the island's way
between ALONE and BRIDGED (10 R267). -/

namespace Sys2Proof.Machine

/-! ## Events -/

/-- t has the registers of s but HQ_f_EVQ_LOST of function f, and its commands in flight. -/
structure EventKeeps (f : Nat) (s t : State) : Prop where
  reg : ∀ a, a ≠ hqBase f + 0x20 → t.reg a = s.reg a
  cmds : t.host.cmds = s.host.cmds

theorem EventKeeps.of_eq {f : Nat} {s t : State} (hr : t.regs = s.regs) (hc : t.host.cmds = s.host.cmds) :
    EventKeeps f s t := ⟨fun a _ => State.reg_of_regs hr a, hc⟩

theorem EventKeeps.refl (f : Nat) (s : State) : EventKeeps f s s := .of_eq rfl rfl

theorem EventKeeps.trans {f : Nat} {s t u : State} (h : EventKeeps f s t) (h' : EventKeeps f t u) : EventKeeps f s u :=
  ⟨fun a ha => (h'.reg a ha).trans (h.reg a ha), h'.cmds.trans h.cmds⟩

theorem EventKeeps.foldl {ι : Type} {f : Nat} {l : List ι} {g : State → ι → State} (hg : ∀ s i, EventKeeps f s (g s i))
    (s : State) : EventKeeps f s (l.foldl g s) :=
  State.foldl_inv (EventKeeps f s) l g (fun t i h => h.trans (hg t i)) s (.refl f s)

theorem State.moderate_eventKeeps (s : State) (f kind n : Nat) (now : Bool) : EventKeeps f s (s.moderate f kind n now) := by
  unfold State.moderate
  dsimp only
  split
  · exact .of_eq rfl rfl
  · exact .refl f s

theorem State.putEvent_eventKeeps (s : State) (f : Nat) (e : Event) : EventKeeps f s (s.putEvent f e) := by
  unfold State.putEvent
  extract_lets n s1
  have h1 : EventKeeps f s s1 := by
    refine EventKeeps.foldl (fun t i => ?_) s
    exact .of_eq rfl rfl
  exact h1.trans (s1.moderate_eventKeeps f 2 0 false)

theorem State.loseEvent_eventKeeps (s : State) (f : Nat) : EventKeeps f s (s.loseEvent f) := by
  have hcmds := congrArg HostSt.cmds (s.inc_host ⟨hqBase f + 0x20, 15, 0⟩)
  exact ⟨fun _ ha => s.reg_inc_ne ha, hcmds⟩

theorem State.postSeq_eventKeeps (s : State) (f code : Nat) (b : List Byte) : EventKeeps f s (s.postSeq f code b) := by
  unfold State.postSeq
  extract_lets e h t
  have h : EventKeeps f s t := .of_eq rfl rfl
  exact h.trans (t.putEvent_eventKeeps f _)

theorem State.reportLost_eventKeeps (s : State) (f : Nat) : EventKeeps f s (s.reportLost f) := by
  unfold State.reportLost
  extract_lets e h t
  have h : EventKeeps f s t := .of_eq rfl rfl
  split
  · exact h.trans (t.postSeq_eventKeeps f _ _)
  · exact .refl f s

theorem State.postOn_eventKeeps (s : State) (f code : Nat) (b : List Byte) : EventKeeps f s (s.postOn f code b) := by
  unfold State.postOn
  extract_lets t
  have h : EventKeeps f s t := by
    unfold t
    split
    · exact s.reportLost_eventKeeps f
    · exact .refl f s
  split
  · exact h.trans (t.postSeq_eventKeeps f code b)
  · exact h.trans (t.loseEvent_eventKeeps f)

/-- An event for the PF alone. -/
theorem State.postEvent_eventKeeps (s : State) (code : Nat) (b : List Byte) : EventKeeps 0 s (s.postEvent code b) :=
  s.postOn_eventKeeps 0 code b

/-- An event for the PF alone, posted after a change of neither the registers nor the commands in flight. -/
theorem EventKeeps.postEvent {s t : State} (hr : t.regs = s.regs) (hc : t.host.cmds = s.host.cmds) (code : Nat)
    (b : List Byte) : EventKeeps 0 s (t.postEvent code b) := (EventKeeps.of_eq hr hc).trans (t.postEvent_eventKeeps code b)

/-! ## Registers below those of the packet path -/

/-- t has the words of s in the registers below the packet path's (11). -/
def LowRegs (s t : State) : Prop := ∀ a, a < 0x2400000 → t.reg a = s.reg a

theorem LowRegs.of_eq {s t : State} (h : t.regs = s.regs) : LowRegs s t := fun a _ => State.reg_of_regs h a

theorem LowRegs.trans {s t u : State} (h : LowRegs s t) (h' : LowRegs t u) : LowRegs s u :=
  fun a ha => (h' a ha).trans (h a ha)

theorem LowRegs.foldl {ι : Type} {l : List ι} {g : State → ι → State} (hg : ∀ s i, LowRegs s (g s i)) (s : State) :
    LowRegs s (l.foldl g s) :=
  State.foldl_inv (LowRegs s) l g (fun t i h => h.trans (hg t i)) s (.of_eq rfl)

theorem TasksOnly.lowRegs {s t : State} : TasksOnly s t → LowRegs s t := by
  rintro ⟨q, rfl⟩
  exact .of_eq rfl

theorem EventKeeps.lowRegs {f : Nat} {s t : State} (h : EventKeeps f s t) : LowRegs s t :=
  fun a ha => h.reg a (by unfold hqBase; omega)

theorem State.inc_lowRegs (s : State) {f : FieldRef} (h : 0x2400000 ≤ f.a) : LowRegs s (s.inc f) :=
  fun _ ha => s.reg_inc_ne (by omega)

theorem State.dropFull_lowRegs (s : State) (q : Nat) : LowRegs s (s.dropFull q) :=
  (s.inc_lowRegs (f := ⟨0x2C00010, 15, 0⟩) (by decide)).trans (.of_eq rfl)

theorem State.bridgeUp_lowRegs (s : State) (u : MeshUp) : LowRegs s (s.bridgeUp u) := by
  unfold State.bridgeUp State.ingress
  split
  · exact .of_eq rfl
  split
  · exact (s.inc_lowRegs (f := pktCnt 0 false) (by decide)).trans (.of_eq rfl)
  · exact .of_eq rfl

theorem State.drainUp_lowRegs (s : State) : LowRegs s s.drainUp := by
  unfold State.drainUp
  split
  · exact .of_eq rfl
  extract_lets n s1 sums payload
  have h1 : LowRegs s s1 := (LowRegs.foldl (fun s u => s.bridgeUp_lowRegs u) s).trans (.of_eq rfl)
  split
  · exact h1
  split
  rename_i h s3 he
  have h3 : LowRegs s1 s3 := by
    have := ((s1.modMesh fun m => { m with summaries := [] }).enqueue_tasksOnly macQueue macPrio 0xFF none 0x08 0x01 payload []
      none).lowRegs
    rw [he] at this
    exact this
  extract_lets s4
  have h4 : LowRegs s3 s4 := by
    unfold s4
    split
    · exact s3.dropFull_lowRegs _
    · exact .of_eq rfl
  exact ((h1.trans h3).trans h4).trans (s4.postEvent_eventKeeps 0x8009 _).lowRegs

theorem State.meshLink_lowRegs (s : State) : LowRegs s s.meshLink := by
  have hopen : LowRegs s s.enterBridged := LowRegs.trans (.of_eq rfl) (State.drainUp_lowRegs _)
  unfold State.meshLink
  extract_lets open_
  split
  · split
    · exact hopen
    · exact .of_eq rfl
  · split <;> exact .of_eq rfl
  · exact .of_eq rfl

end Sys2Proof.Machine

end

section
/-! PROOFS. Clock enables: their write, their start, their drain (02 R53 to R56). -/

namespace Sys2Proof.Machine

/-! ## The enable and status bits -/

theorem clkEn_low (b : Nat) : (clkEn b).a < 0x1000000 := by
  simp only [clkEn]
  split <;> omega

theorem clkEnAddr_low (b : Nat) : clkEnAddr b < 0x1000000 := clkEn_low b

theorem clkSt_low (b : Nat) : (clkSt b).a < 0x2400000 := by
  simp only [clkSt]
  split <;> omega

theorem clkSt_ne_clkEn (b c : Nat) : (clkSt b).a ≠ (clkEn c).a := by
  simp only [clkSt, clkEn]
  split <;> split <;> omega

theorem State.flag_put_clkEn (s : State) (b : Nat) (v : Bool) : (s.put (clkEn b) (b2n v)).flag (clkEn b) = v :=
  s.flag_put_bit v (Nat.mod_lt b (by decide))

theorem State.flag_put_clkSt (s : State) (b : Nat) (v : Bool) : (s.put (clkSt b) (b2n v)).flag (clkSt b) = v :=
  s.flag_put_bit v (Nat.mod_lt b (by decide))

/-! ## A write of the enable bit -/

/-- The state with no drain of block b. -/
def State.undrained (s : State) (b : Nat) : State :=
  { s with clocks := { s.clocks with draining := Tab.del s.clocks.draining b } }

/-- Enabling a block sets its bit, where the variant has it, and asks the ledger for its domains (02 R55, R499). -/
theorem State.enableBlock_eq (s : State) (b : Nat) :
    s.enableBlock b = s ∧ s.isZ73 = true ∧ 32 ≤ b ∨ ∃ p, s.enableBlock b = { s.put (clkEn b) 1 with power := p } := by
  unfold State.enableBlock
  split
  next h => exact .inl ⟨rfl, by simpa using h⟩
  next => exact .inr ((s.put (clkEn b) 1).requestItems_eq _)

theorem clkEnable_of_mapped {r : Requester} {b : Nat} {s : State} (hb : b ∈ clockBlocks) (hm : Mapped s r) :
    clkEnable r b s = { (if (s.enableBlock b).flag (clkEn b) then (s.enableBlock b).undrained b else s.enableBlock b) with
      answer := some .done } := by
  rw [clkEnable, if_neg (by simpa using hb), State.access_low hm (clkEnAddr_low b)]
  rfl

/-- A write of 1, on a variant that has the block, leaves the bit set and no drain. -/
theorem clkEnable_of_present {r : Requester} {b : Nat} {s : State} (hb : b ∈ clockBlocks) (hm : Mapped s r)
    (h : s.isZ73 = false ∨ b < 32) :
    ∃ p, clkEnable r b s = { ({ s.put (clkEn b) 1 with power := p } : State).undrained b with answer := some .done } := by
  obtain ⟨-, hz, h32⟩ | ⟨p, he⟩ := s.enableBlock_eq b
  · rcases h with h | h
    · simp [hz] at h
    · omega
  · have hf : ({ s.put (clkEn b) 1 with power := p } : State).flag (clkEn b) = true := s.flag_put_clkEn b true
    exact ⟨p, by rw [clkEnable_of_mapped hb hm, he, if_pos hf]⟩

/-- A write of 1 changes the enable register, the ledger and the drains alone. -/
theorem clkEnable_keeps {r : Requester} {b : Nat} {s : State} (hb : b ∈ clockBlocks) (hm : Mapped s r) :
    (∀ a, a ≠ (clkEn b).a → (clkEnable r b s).reg a = s.reg a) ∧ (clkEnable r b s).time = s.time
      ∧ (clkEnable r b s).units = s.units ∧ (clkEnable r b s).host = s.host := by
  rw [clkEnable_of_mapped hb hm]
  obtain ⟨he, -⟩ | ⟨p, he⟩ := s.enableBlock_eq b <;> rw [he]
  · split <;> exact ⟨fun _ _ => rfl, rfl, rfl, rfl⟩
  · split <;> exact ⟨fun _ ha => s.reg_put_ne 1 ha, rfl, rfl, rfl⟩

/-- A write of 0 to a running block's bit clears it and starts the drain (02 R56). -/
theorem clkDisable_of_running {r : Requester} {b : Nat} {s : State} (hb : b ∈ clockBlocks) (hb15 : b ≠ 15) (hm : Mapped s r)
    (hen : s.flag (clkEn b) = true) (hst : s.flag (clkSt b) = true) :
    clkDisable r b s = { s.put (clkEn b) 0 with
      clocks := { s.clocks with draining := Tab.put s.clocks.draining b s.elapsed }, answer := some .done } := by
  rw [clkDisable, if_neg (by simpa using hb), State.access_low hm (clkEnAddr_low b)]
  simp only [hen, hst, hb15, if_false, Bool.not_true, if_true, Bool.false_eq_true, State.put_clocks]

/-! ## The start of a clock -/

theorem State.reenter_of_phase_ne {s : State} {u : FUnit} (h : (s.unit u.idx).phase ≠ .reset) : s.reenter u = s := by
  simp [State.reenter, h]

@[simp] theorem State.requestItems_regs (s : State) (l : List Nat) : (s.requestItems l).regs = s.regs := by
  obtain ⟨p, e⟩ := s.requestItems_eq l
  rw [e]

@[simp] theorem State.autoTrain_regs (s : State) (k : Nat) : (s.autoTrain k).regs = s.regs := by
  unfold State.autoTrain State.startTraining
  split <;> rfl

/-- A unit other than the island is configured again without a change of the registers (05 R136). -/
theorem State.reenter_regs {s : State} {u : FUnit} (hu : u ≠ .mesh) : (s.reenter u).regs = s.regs := by
  by_cases hp : (s.unit u.idx).phase = .reset
  · cases hh : (s.unit u.idx).held with
    | some x => rw [State.reenter_of_held (by simp [hh])]
    | none =>
      rw [State.reenter_of_reset hp hh]
      cases u with
      | radio r => exact State.requestItems_regs _ _
      | link k => exact State.autoTrain_regs _ _
      | mesh => exact absurd rfl hu
      | _ => rfl
  · rw [State.reenter_of_phase_ne hp]

/-- No block with an enable bit is the island's: its bridge alone has one (02 R53). -/
theorem blockUnit_ne_mesh {b : Nat} {u : FUnit} (h : blockUnit b = some u) : u ≠ .mesh := by
  rintro rfl
  unfold blockUnit at h
  grind

/-- What the start of a clock does beside its status bit: the unit of the block may be configured again, a link may train,
and the island's bridge may open. -/
theorem clkStarts_lowRegs {b : Nat} {s : State} (hb : b ∈ clockBlocks) (hst : s.flag (clkSt b) = false)
    (hen : s.flag (clkEn b) = true) (hroot : s.boot.rootReady = true) (hup : ∀ d ∈ blockDomains b, s.domUp d = true)
    (hrej : s.blockRejected b = false) : LowRegs (s.put (clkSt b) 1) (clkStarts b s) := by
  have hall : (blockDomains b).all s.domUp = true := List.all_eq_true.mpr hup
  rw [clkStarts, if_neg (by simp [hb, hst, hen, hroot, hall, hrej])]
  extract_lets s1 s2 s3
  have h2 : LowRegs s1 s2 := by
    unfold s2
    split
    next u hu =>
      unfold State.rejoin
      split
      · exact .of_eq (State.reenter_regs (blockUnit_ne_mesh hu))
      · exact .of_eq rfl
    next => exact .of_eq rfl
  have h3 : LowRegs s2 s3 := by
    unfold s3
    split
    · exact .of_eq (State.autoTrain_regs _ _)
    · exact .of_eq rfl
  split
  · exact (h2.trans h3).trans s3.meshLink_lowRegs
  · exact h2.trans h3

/-! ## The stop of a clock -/

/-- The state in which a drained block's clock has stopped. -/
def State.clockStopped (s : State) (b : Nat) : State := (s.undrained b).put (clkSt b) 0

theorem State.clockStopped_draining (s : State) (b : Nat) : Tab.get? (s.clockStopped b).clocks.draining b = none :=
  Tab.get?_del_self ..

/-- Where no port, link or bridge hangs on the block, its clock stops and nothing else. -/
theorem clkStops_of_plain {b : Nat} {s : State} (hb : b < 16 ∨ 20 ≤ b ∧ b < 32) (h10 : b ≠ 10) (h15 : b ≠ 15)
    (hd : Tab.has s.clocks.draining b = true) (hr : s.blockRecovering b = false) (hi : s.blockIdle b = true) :
    clkStops b s = s.clockStopped b := by
  rw [clkStops, if_neg (by simp [hd, hr, hi])]
  dsimp only
  rw [if_neg (by simp [h10, h15]), if_neg (by omega), if_neg (by simp; omega)]
  rfl

/-- A port's clock stops with its links down (log 65). -/
theorem clkStops_of_port {p : Nat} {s : State} (hp : p < 4) (hd : Tab.has s.clocks.draining (16 + p) = true)
    (hr : s.blockRecovering (16 + p) = false) (hi : s.blockIdle (16 + p) = true) :
    clkStops (16 + p) s = (subsOf p).foldl (fun s sub => s.setLink sub 0) (s.clockStopped (16 + p)) := by
  rw [clkStops, if_neg (by simp [hd, hr, hi])]
  dsimp only
  rw [if_neg (by simp; omega), if_neg (by omega), if_pos (by simp; omega), Nat.add_sub_cancel_left]
  rfl

theorem clkStops_of_busy {b : Nat} {s : State} (h : s.blockIdle b = false) : clkStops b s = s := by
  simp [clkStops, h]

/-- A link that goes down leaves the other links as they are (14 R416). -/
theorem State.setLink_down (s : State) (sub j : Nat) :
    Tab.getD (s.setLink sub 0).eth.links j 0 = if j = sub then 0 else Tab.getD s.eth.links j 0 := by
  unfold State.setLink
  split
  next h =>
    split
    next hj => rw [hj, h]
    next => rfl
  next h =>
    rw [State.postEvent_eth]
    change Tab.getD (Tab.del s.eth.links sub) j 0 = _
    by_cases hj : j = sub
    · rw [hj, if_pos rfl, Tab.getD, Tab.get?_del_self, Option.getD_none]
    · rw [if_neg hj, Tab.getD, Tab.get?_del_ne _ hj, Tab.getD]

theorem State.foldl_setLink_down (l : List Nat) (s : State) (j : Nat) :
    Tab.getD (l.foldl (fun s sub => s.setLink sub 0) s).eth.links j 0 = if j ∈ l then 0 else Tab.getD s.eth.links j 0 := by
  induction l generalizing s with
  | nil => rfl
  | cons sub l ih =>
    rw [List.foldl_cons, ih, State.setLink_down]
    by_cases hl : j ∈ l
    · rw [if_pos hl, if_pos (List.mem_cons_of_mem sub hl)]
    · rw [if_neg hl]
      simp only [List.mem_cons, hl, or_false]

/-- What links that go down leave: clocks and units, commands in flight, and every register but HQ_0_EVQ_LOST. -/
theorem State.foldl_setLink_keeps (l : List Nat) (speed : Nat) (s : State) :
    (l.foldl (fun s sub => s.setLink sub speed) s).clocks = s.clocks
      ∧ (l.foldl (fun s sub => s.setLink sub speed) s).units = s.units
      ∧ EventKeeps 0 s (l.foldl (fun s sub => s.setLink sub speed) s) := by
  refine State.foldl_inv (fun t => t.clocks = s.clocks ∧ t.units = s.units ∧ EventKeeps 0 s t) l _ ?_ s ⟨rfl, rfl, .refl 0 s⟩
  rintro t sub ⟨hc, hu, he⟩
  unfold State.setLink
  split
  · exact ⟨hc, hu, he⟩
  · refine ⟨(State.postEvent_clocks ..).trans hc, (State.postEvent_units ..).trans hu,
      he.trans (EventKeeps.postEvent ?_ ?_ _ _)⟩
    · rfl
    · rfl

/-! ## A drain that fails -/

theorem drainFails_of_late {b from_ : Nat} {s : State} (h15 : b ≠ 15) (hd : Tab.get? s.clocks.draining b = some from_)
    (hr : s.blockRecovering b = false) (hi : s.blockIdle b = false) (ht : from_ + us 100 ≤ s.elapsed) :
    drainFails b s = (((s.undrained b).put (clkEn b) 1).put ⟨0x100008, 2, 2⟩ 1).postEvent 0x1804
      (items [(clkEn b).a, b % 32]) := by
  rw [drainFails, hd]
  dsimp only
  rw [if_neg (by simp [hr, hi, ht]), if_neg h15]
  rfl

/-- Settles O22: each command's effect on the enable, the status bit and the drain of its block. -/
theorem clockEnables : Obligations.ClockEnables := by
  refine ⟨fun r b s hb hm => ?_, fun b s hb hst hen hroot hup hrej => ?_, fun r b s hb h15 hm hen hst => ?_,
    fun b s hb h10 h15 hd hr hi => ?_, fun p s hp hd hr hi => ?_,
    fun b s _ hi => congrArg Host.Outcome.next (clkStops_of_busy hi),
    fun b from_ s _ h15 hd hr hi ht => congrArg Host.Outcome.next (drainFails_of_late h15 hd hr hi ht)⟩
  · obtain ⟨hreg, htime, hunits, hhost⟩ := clkEnable_keeps hb hm
    refine ⟨_, rfl, by rw [clkEnable_of_mapped hb hm], fun hpresent => ?_, hreg, htime, hunits, hhost⟩
    obtain ⟨p, he⟩ := clkEnable_of_present hb hm hpresent
    rw [he]
    exact ⟨s.flag_put_clkEn b true, Tab.get?_del_self ..⟩
  · have hlow := clkStarts_lowRegs hb hst hen hroot hup hrej
    exact ⟨_, rfl, (State.flag_congr (hlow _ (clkSt_low b))).trans (s.flag_put_clkSt b true)⟩
  · have hen' : (s.put (clkEn b) 0).flag (clkEn b) = false := s.flag_put_clkEn b false
    have hst' : (s.put (clkEn b) 0).flag (clkSt b) = true :=
      (State.flag_congr (s.reg_put_ne 0 (clkSt_ne_clkEn b b))).trans hst
    refine ⟨_, congrArg Host.Outcome.next (clkDisable_of_running hb h15 hm hen hst), rfl, hen', hst', Tab.get?_put_self ..,
      ?_, fun f hf => s.get_put_ne 0 hf, rfl⟩
    change (!(s.put (clkEn b) 0).flag (clkSt b) || !(s.put (clkEn b) 0).flag (clkEn b)) = true
    rw [hst', hen']
    rfl
  · exact ⟨_, congrArg Host.Outcome.next (clkStops_of_plain hb h10 h15 hd hr hi), (s.undrained b).flag_put_clkSt b false,
      s.clockStopped_draining b, fun a ha => (s.undrained b).reg_put_ne 0 ha, rfl, rfl⟩
  · obtain ⟨hclocks, hunits, hreg, hcmds⟩ := State.foldl_setLink_keeps (subsOf p) 0 (s.clockStopped (16 + p))
    have hsta : (clkSt (16 + p)).a = 0x100018 := if_pos (by omega)
    refine ⟨_, congrArg Host.Outcome.next (clkStops_of_port hp hd hr hi), ?_, ?_, fun sub hsub => ?_, fun a ha hlost => ?_,
      hunits, hcmds⟩
    · rw [State.flag_congr (hreg _ (by rw [hsta]; decide))]
      exact (s.undrained (16 + p)).flag_put_clkSt (16 + p) false
    · rw [hclocks, s.clockStopped_draining]
    · rw [State.foldl_setLink_down, if_pos hsub]
    · rw [hreg a (hlost 0 (by decide))]
      exact (s.undrained (16 + p)).reg_put_ne 0 (by rwa [hsta])

end Sys2Proof.Machine

end

section
/-! PROOFS. A switch of domain 4 that is abandoned tells the NT that it takes away (02 R50, R59). -/

namespace Sys2Proof.Machine

/-! ## The events that stand after a device fault (01 R28) -/

theorem State.faultNotice_host (s : State) (parts : List (List Byte)) : (s.faultNotice parts).host = s.host := by
  refine State.foldl_inv (fun t => t.host = s.host) parts _ (fun t p ht => ?_) s rfl
  obtain ⟨q, he⟩ := t.enqueue_tasksOnly faultQueue faultPrio 0xFF none 0x0E faultReason p [] none
  dsimp only
  split
  · rw [he]
    exact (State.inc_host ..).trans ht
  · rw [he]
    exact ht

/-- The parts of a device fault's record with no tag reach the PF's ring, and no other (13 R390). -/
theorem State.postRecord_host (s : State) (code cause detail flags : Nat) :
    (s.postRecord code 8 0 cause detail flags []).host
      = ((faultParts 8 0 cause s.stamp s.frNs detail flags []).foldl (fun s p => s.postOn 0 code p) s).host := by
  unfold State.postRecord
  extract_lets mk s1 s2
  have h2 : s2.host = s1.host :=
    State.foldl_inv (fun t => t.host = s1.host) _ _ (fun t f ht => by rw [if_neg (by simp)]; exact ht) s1 rfl
  rw [State.faultNotice_host, State.incSat_host]
  exact h2

theorem State.startQualify_host (s : State) : s.startQualify.host = s.host := by
  unfold State.startQualify
  split
  · rfl
  · obtain ⟨p, e⟩ := State.requestItems_eq { s with boot := { s.boot with state := .qualify } } [0]
    rw [e]

theorem FlashEffect.host {s t : State} : FlashEffect s t → t.host = s.host := by
  rintro ⟨f, l, n, rfl⟩
  rfl

/-- The state of a device fault when its record has been posted and written (01 R28). -/
def State.deviceRecorded (s : State) (cause detail : Nat) : State :=
  let tags := reachedTags (s.host.cmds.filter fun c => c.stage == .admitted)
  ((s.postRecord 0xE010 8 0 cause detail 2 tags).writeRecord (faultParts 8 0 cause s.stamp s.frNs detail 2 tags)).1

theorem State.deviceFaultWith_recorded (s : State) (cause detail : Nat) : ∃ attempt, s.deviceFaultWith cause detail
    = if cause = 0x10 ∨ cause = 0x11 then (s.deviceRecorded cause detail).faultReset cause attempt
      else ((s.deviceRecorded cause detail).faultReset cause attempt).startQualify := ⟨_, rfl⟩

theorem State.faultReset_evs (s : State) (cause : Nat) (attempt : Option (Nat × List Nat)) :
    (s.faultReset cause attempt).host.evs = s.host.evs := rfl

/-- With no command in flight, a device fault's reset keeps the entries that its record and the events before it wrote. -/
theorem State.deviceFaultWith_evs {s : State} (cause detail : Nat) (h : s.host.cmds = []) :
    (s.deviceFaultWith cause detail).host.evs
      = ((faultParts 8 0 cause s.stamp s.frNs detail 2 []).foldl (fun s p => s.postOn 0 0xE010 p) s).host.evs := by
  have hevs : (s.deviceRecorded cause detail).host.evs
      = ((faultParts 8 0 cause s.stamp s.frNs detail 2 []).foldl (fun s p => s.postOn 0 0xE010 p) s).host.evs := by
    have htags : reachedTags (s.host.cmds.filter fun c => c.stage == .admitted) = [] := by rw [h]; rfl
    rw [State.deviceRecorded, htags, FlashEffect.host (State.writeRecord_effect _ _), State.postRecord_host]
  obtain ⟨attempt, he⟩ := s.deviceFaultWith_recorded cause detail
  rw [he, ← hevs]
  split
  · exact State.faultReset_evs ..
  · rw [State.startQualify_host, State.faultReset_evs]

/-! ## The forced switch (02 R59) -/

/-- A switch is forced, and event 0x1801 tells it for an instant. -/
def State.forcedAt (s : State) (d : Nat) (root : Bool) (t : NT64) : State :=
  (((s.setSource d root).put (srcResult d) 0x10).put ⟨0x100008, 0, 0⟩ 1).postEvent 0x1801 (items [d, b2n (!root), t.toNat])

/-- The event carries the NT of the instant at which the switch is forced, before the source changes. -/
theorem switchForced_of_switching {d : Nat} {root : Bool} {s : State} (h : Tab.get? s.clocks.switching d = some root) :
    switchForced d s = (s.forcedAt d root s.stamp).abandonFault d := by
  rw [switchForced, h]
  rfl

theorem State.setSource_host (s : State) (d : Nat) (root : Bool) : (s.setSource d root).host = s.host := by
  unfold State.setSource
  dsimp only
  split <;> rfl

theorem State.forcedAt_cmds (s : State) (d : Nat) (root : Bool) (t : NT64) :
    (s.forcedAt d root t).host.cmds = s.host.cmds := by
  rw [State.forcedAt, (State.postEvent_eventKeeps ..).cmds, State.put_host, State.put_host, State.setSource_host]

/-- A switch of domain 4 that is forced is a device fault (02 R48). -/
theorem State.abandonFault_four (s : State) : s.abandonFault 4 = s.deviceFaultWith 0x04 4 := rfl

/-- What the PF's event ring holds once domain 4's forced switch and the device fault's record are posted. -/
def State.toldOf4 (s : State) (root : Bool) (t : NT64) : Tab EvEntry :=
  let u := s.forcedAt 4 root t
  ((faultParts 8 0 0x04 u.stamp u.frNs 4 2 []).foldl (fun s p => s.postOn 0 0xE010 p) u).host.evs

theorem State.abandonFault_evs {s : State} (root : Bool) (t : NT64) (h : s.host.cmds = []) :
    ((s.forcedAt 4 root t).abandonFault 4).host.evs = s.toldOf4 root t := by
  rw [State.abandonFault_four, State.deviceFaultWith_evs _ _ ((s.forcedAt_cmds 4 root t).trans h), State.toldOf4]

/-- NT is valid, at 1 ns, on domain 4, whose switch to REF is under way; the PF's event ring is on. -/
def leavingRoot : State :=
  { regs := [(0x3000018, 0x10#32)], time := { nt := { v := 2 ^ 48 }, state := .locked }
    clocks := { onRoot := List.replicate 8 true, switching := [(4, false)] } }

/-- Refutes O23: a switch of domain 4 from ROOT to REF ends NT's validity (02 R50). The statement's stamp for event 0x1801 is
taken after the change of the source and is 0 in `leavingRoot`; the command posts the NT of its instant, which is 1. -/
theorem not_sourceSwitches : ¬ Obligations.SourceSwitches := by
  intro h
  obtain ⟨-, -, -, hforced, -⟩ := h
  have hstate : switchForced 4 leavingRoot
      = (leavingRoot.forcedAt 4 false ((leavingRoot.setSource 4 false).put (srcResult 4) 0x10).stamp).abandonFault 4 :=
    Host.Outcome.next.inj (hforced 4 false leavingRoot rfl)
  rw [switchForced_of_switching (s := leavingRoot) (root := false) rfl] at hstate
  have htold := congrArg (HostSt.evs ∘ State.host) hstate
  simp only [Function.comp_apply, State.abandonFault_evs (s := leavingRoot) _ _ rfl] at htold
  exact absurd htold (by decide +kernel)

end Sys2Proof.Machine

end

section
/-! PROOFS. Frequency counters (02 R61 to R63). -/

namespace Sys2Proof.Machine

/-! ## A write with START -/

theorem fcCtrl_low {n : Nat} (h : n < 8) : fcCtrl n < 0x1000000 := by
  unfold fcCtrl
  omega

theorem fcWord_sel (sel exp : Nat) (evt : Bool) : bitsOf (fcWord sel exp evt).toNat 5 0 = sel % 64 := by
  cases evt <;> simp [fcWord, bitsOf, b2n] <;> omega

theorem fcWord_exp (sel exp : Nat) (evt : Bool) : bitsOf (fcWord sel exp evt).toNat 12 8 = exp % 32 := by
  cases evt <;> simp [fcWord, bitsOf, b2n] <;> omega

theorem fcWord_evt (sel exp : Nat) (evt : Bool) : bitsOf (fcWord sel exp evt).toNat 17 17 = b2n evt := by
  cases evt <;> simp [fcWord, bitsOf, b2n] <;> omega

/-- The clocks' codes fit SEL (02 R62). -/
theorem fcSelOk_lt {sel : Nat} (h : fcSelOk sel = true) : sel < 64 := by
  have hall : ∀ x ∈ fcSels, x < 64 := by decide
  exact hall sel (List.contains_iff_mem.mp h)

/-- A counter's control register with SEL, N and EVT set. -/
def State.fcSet (s : State) (n sel exp : Nat) (evt : Bool) : State :=
  ((s.put ⟨fcCtrl n, 5, 0⟩ sel).put ⟨fcCtrl n, 12, 8⟩ exp).put ⟨fcCtrl n, 17, 17⟩ (b2n evt)

@[simp] theorem State.fcSet_elapsed (s : State) (n sel exp : Nat) (evt : Bool) :
    (s.fcSet n sel exp evt).elapsed = s.elapsed := by
  rw [State.fcSet, State.put_elapsed, State.put_elapsed, State.put_elapsed]

@[simp] theorem State.fcSet_clocks (s : State) (n sel exp : Nat) (evt : Bool) :
    (s.fcSet n sel exp evt).clocks = s.clocks := by
  rw [State.fcSet, State.put_clocks, State.put_clocks, State.put_clocks]

/-- A window of counter n begins: its clock, its exponent and the clock's rate (02 R61). -/
def State.fcBegin (s : State) (n : Nat) (w : FcWin) : State :=
  { s with clocks := { s.clocks with fcBusy := s.clocks.fcBusy ++ [n], fcFrom := Tab.put s.clocks.fcFrom n s.elapsed
                                     fcWin := Tab.put s.clocks.fcWin n w } }

theorem State.fcBegin_clocks (s : State) (n : Nat) (w : FcWin) : (s.fcBegin n w).clocks.fcBusy = s.clocks.fcBusy ++ [n]
    ∧ Tab.get? (s.fcBegin n w).clocks.fcFrom n = some s.elapsed ∧ Tab.get? (s.fcBegin n w).clocks.fcWin n = some w :=
  ⟨rfl, Tab.get?_put_self .., Tab.get?_put_self ..⟩

section
variable {r : Requester} {n sel exp : Nat} {evt : Bool} {s : State} (hn : n < 8) (hm : Mapped s r)
include hn hm

/-- An accepted SEL and N are set with EVT, and a counter that runs answers CLK_BUSY (log 131). -/
theorem fcStart_of_busy (h10 : 10 ≤ exp) (h30 : exp ≤ 30) (hsel : fcSelOk sel = true)
    (hbusy : s.clocks.fcBusy.contains n = true) :
    fcStart r n sel exp evt s = { (s.fcSet n sel exp evt).put ⟨fcCtrl n + 4, 7, 0⟩ 0x11 with answer := some .done } := by
  have hs : sel % 64 = sel := Nat.mod_eq_of_lt (fcSelOk_lt hsel)
  have he : exp % 32 = exp := Nat.mod_eq_of_lt (by omega)
  rw [fcStart, fcWrite, if_neg (by omega), State.access_low hm (fcCtrl_low hn)]
  simp only [fcWord_sel, fcWord_exp, fcWord_evt, hs, he, hsel, h10, h30, decide_true, Bool.and_self, if_true, hbusy]
  rfl

/-- An accepted SEL and N are set with EVT, and an idle counter begins its window (02 R61). -/
theorem fcStart_of_idle (h10 : 10 ≤ exp) (h30 : exp ≤ 30) (hsel : fcSelOk sel = true)
    (hidle : s.clocks.fcBusy.contains n = false) :
    fcStart r n sel exp evt s = { (s.fcSet n sel exp evt).fcBegin n { sel := sel, exp := exp, rate := s.fcClock sel } with
      answer := some .done } := by
  have hs : sel % 64 = sel := Nat.mod_eq_of_lt (fcSelOk_lt hsel)
  have he : exp % 32 = exp := Nat.mod_eq_of_lt (by omega)
  rw [fcStart, fcWrite, if_neg (by omega), State.access_low hm (fcCtrl_low hn)]
  simp only [fcWord_sel, fcWord_exp, fcWord_evt, hs, he, hsel, h10, h30, decide_true, Bool.and_self, if_true, hidle,
    Bool.not_true, Bool.false_eq_true, if_false]
  rfl

/-- A write whose SEL or N is not accepted is invalid, with CLK_BUSY, or RANGE on an idle counter (log 15). -/
theorem fcStart_refused (hsel : sel < 64) (hexp : exp < 32) (hbad : exp < 10 ∨ exp = 31 ∨ fcSelOk sel = false) :
    fcStart r n sel exp evt s = { (s.invalidWrite r (fcCtrl n) (fcWord sel exp evt)).put ⟨fcCtrl n + 4, 7, 0⟩
      (if s.clocks.fcBusy.contains n then 0x11 else 0x02) with answer := some .done } := by
  have hok : (fcSelOk sel && decide (10 ≤ exp) && decide (exp ≤ 30)) = false := by
    rcases hbad with h | h | h
    · simp [show ¬ 10 ≤ exp by omega]
    · simp [h]
    · simp [h]
  rw [fcStart, fcWrite, if_neg (by omega), State.access_low hm (fcCtrl_low hn)]
  simp only [fcWord_sel, fcWord_exp, Nat.mod_eq_of_lt hsel, Nat.mod_eq_of_lt hexp, hok, Bool.false_eq_true, if_false,
    Bool.not_false, if_true]
  split <;> rfl

end

/-- SEL, N and EVT read as they are set. -/
theorem State.fcSet_fields (s : State) (n : Nat) {sel exp : Nat} (evt : Bool) (hsel : sel < 64) (hexp : exp < 32) :
    (s.fcSet n sel exp evt).get ⟨fcCtrl n, 5, 0⟩ = sel ∧ (s.fcSet n sel exp evt).get ⟨fcCtrl n, 12, 8⟩ = exp
      ∧ (s.fcSet n sel exp evt).flag ⟨fcCtrl n, 17, 17⟩ = evt := by
  refine ⟨?_, ?_, State.flag_put_bit _ evt (by decide)⟩
  · simp (disch := decide) only [State.fcSet, State.get_put_apart, State.get_put_self]
    exact Nat.mod_eq_of_lt hsel
  · simp (disch := decide) only [State.fcSet, State.get_put_apart, State.get_put_self]
    exact Nat.mod_eq_of_lt hexp

/-- No other register changes with them. -/
theorem State.fcSet_reg_ne (s : State) {n a : Nat} (sel exp : Nat) (evt : Bool) (h : a ≠ fcCtrl n) :
    (s.fcSet n sel exp evt).reg a = s.reg a := by
  rw [State.fcSet, State.reg_put_ne _ _ h, State.reg_put_ne _ _ h, State.reg_put_ne _ _ h]

/-! ## The end of a window -/

/-- The counter shows a count (02 R61). -/
def State.fcShown (s : State) (n edges : Nat) : State :=
  (({ s with clocks := { s.clocks with
      fcBusy := s.clocks.fcBusy.filter (· != n), fcWin := Tab.del s.clocks.fcWin n
      fcCount := Tab.put s.clocks.fcCount n (edges % 2 ^ 40) } } : State).put ⟨fcCtrl n + 4, 7, 0⟩ 0x00).put
    ⟨fcCtrl n + 4, 9, 9⟩ 1

/-- A window whose REF cycles have passed shows its count; without EVT no event is posted. -/
theorem fcDone_of_passed {n edges : Nat} {w : FcWin} {s : State} (hbusy : s.clocks.fcBusy.contains n = true)
    (hw : Tab.get? s.clocks.fcWin n = some w) (hevt : s.flag ⟨fcCtrl n, 17, 17⟩ = false) (hc : s.fcCounts w edges = true)
    (ht : 2 ^ w.exp * 3000000 ≤ (s.elapsed - Tab.getD s.clocks.fcFrom n 0) * 5 * s.refKhz) :
    fcDone n edges s = s.fcShown n edges := by
  simp only [fcDone, hbusy, hw, hevt, hc, Nat.not_lt.mpr ht]
  rfl

/-- A clock that stood throughout the window has no edge to count. -/
theorem fcDone_of_stood {n edges : Nat} {w : FcWin} {s : State} (hw : Tab.get? s.clocks.fcWin n = some w)
    (hran : w.ran = false) (he : edges ≠ 0) : fcDone n edges s = s := by
  have hc : s.fcCounts w edges = false := by simp [State.fcCounts, hran, he]
  unfold fcDone
  extract_lets t
  split
  next w' _ hw' =>
    obtain rfl : w = w' := Option.some.inj (hw.symm.trans hw')
    rw [if_pos (by simp [hc])]
  next => rfl

/-- Settles O24: by what a write with START, accepted or not, and the end of a window do to the counter. -/
theorem frequencyCounters : Obligations.FrequencyCounters := by
  refine ⟨fun r n sel exp evt s hn hm hbusy h10 h30 hsel =>
      congrArg Host.Outcome.next (fcStart_of_busy hn hm h10 h30 hsel hbusy),
    fun r n sel exp evt s hn hm hidle h10 h30 hsel => ?_,
    fun r n sel exp evt s hn hm hsel hexp hbad => congrArg Host.Outcome.next (fcStart_refused hn hm hsel hexp hbad),
    fun n edges w s _ hbusy hw hevt hc ht => ?_,
    fun n edges w s hw hran he => congrArg Host.Outcome.next (fcDone_of_stood hw hran he)⟩
  · have heq := fcStart_of_idle (evt := evt) hn hm h10 h30 hsel hidle
    have hreg : ∀ a, (fcStart r n sel exp evt s).reg a = (s.fcSet n sel exp evt).reg a :=
      State.reg_of_regs (by rw [heq]; rfl)
    have hclocks : (fcStart r n sel exp evt s).clocks
        = ((s.fcSet n sel exp evt).fcBegin n { sel := sel, exp := exp, rate := s.fcClock sel }).clocks := by rw [heq]
    obtain ⟨hselv, hexpv, hevtv⟩ := s.fcSet_fields n evt (fcSelOk_lt hsel) (show exp < 32 by omega)
    obtain ⟨hbusy, hfrom, hwin⟩ := (s.fcSet n sel exp evt).fcBegin_clocks n { sel := sel, exp := exp, rate := s.fcClock sel }
    refine ⟨_, rfl, by rw [heq], (State.get_congr (hreg _)).trans hselv, (State.get_congr (hreg _)).trans hexpv,
      (State.flag_congr (hreg _)).trans hevtv, by rw [hclocks, hbusy, State.fcSet_clocks],
      by rw [hclocks, hfrom, State.fcSet_elapsed], by rw [hclocks, hwin],
      fun a ha => (hreg a).trans (s.fcSet_reg_ne sel exp evt ha)⟩
  · refine ⟨_, congrArg Host.Outcome.next (fcDone_of_passed hbusy hw hevt hc ht), ?_, Tab.get?_put_self .., ?_,
      State.flag_put_bit _ true (by decide), fun a ha => ?_⟩
    · simp [State.fcShown]
    · simp (disch := decide) only [State.fcShown, State.get_put_apart, State.get_put_self, Nat.zero_mod]
    · rw [State.fcShown, State.reg_put_ne _ _ ha, State.reg_put_ne _ _ ha]
      rfl

end Sys2Proof.Machine

end

section
/-! PROOFS. What outlasts a reset of the device, the fuses and the bytes of the flash (03 R89, R95), is left alone by the shared operations:
one lemma for each but those that write the flash or blow fuses. -/

namespace Sys2Proof.Machine

/-! ## What a state is put together from -/

/-- What outlasts a reset of the device: the fuses and the bytes of the flash (03 R89, R95). -/
def State.lasting (s : State) : Fuses × List Host.Cell := (s.fuses, s.flash.bytes)

theorem State.lasting_of_eq {s t : State} (hf : t.fuses = s.fuses) (hb : t.flash = s.flash) : t.lasting = s.lasting := by
  rw [State.lasting, hf, hb, State.lasting]

theorem State.fuses_of_lasting {s t : State} (h : t.lasting = s.lasting) : t.fuses = s.fuses := congrArg Prod.fst h

theorem State.bytes_of_lasting {s t : State} (h : t.lasting = s.lasting) : t.flash.bytes = s.flash.bytes := congrArg Prod.snd h

/-- An update of a state's other fields shows what outlasts a reset as it was. -/
@[simp] theorem State.mk_lasting : ∀ (s : State) x0 x1 x2 x3 x4 x5 x6 x7 x8 x9 x10 x11 x12 x13 x14 x15 x16 x17 x18 x19 x20 x21 x22 x23
    x24 x25 x26 x27 x28 x29 x30 x31 x32,
    (State.mk x0 x1 x2 x3 x4 x5 x6 x7 x8 x9 s.fuses s.flash x10 x11 x12 x13 x14 x15 x16 x17 x18 x19 x20 x21 x22 x23 x24 x25 x26 x27
    x28 x29 x30 x31 x32).lasting = s.lasting := by
  intros
  rfl

/-- So does an update of the flash's other parts. -/
@[simp] theorem State.mk_flash_lasting : ∀ (s : State) x0 x1 x2 x3 x4 x5 x6 x7 x8 x9 x10 x11 x12 x13 x14 x15 x16 x17 x18 x19 x20 x21
    x22 x23 x24 x25 x26 x27 x28 x29 x30 x31 x32 y0 y1 y2 y3 y4 y5 y6 y7,
    (State.mk x0 x1 x2 x3 x4 x5 x6 x7 x8 x9 s.fuses (Flash.mk y0 y1 y2 s.flash.bytes y3 y4 y5 y6 y7) x10 x11 x12 x13 x14 x15 x16 x17
    x18 x19 x20 x21 x22 x23 x24 x25 x26 x27 x28 x29 x30 x31 x32).lasting = s.lasting := by
  intros
  rfl

/-- A case distinction shows what the branch that it takes shows. -/
@[simp] theorem State.lasting_ite (c : Prop) [Decidable c] (a b : State) :
    (if c then a else b).lasting = if c then a.lasting else b.lasting := apply_ite State.lasting c a b

/-- A case distinction leaves the fuses and the bytes alone where both branches do. -/
theorem State.ite_lasting {c : Prop} [Decidable c] {a b s : State} (ha : a.lasting = s.lasting) (hb : b.lasting = s.lasting) :
    (if c then a else b).lasting = s.lasting := by
  split
  · exact ha
  · exact hb

theorem State.ite_fst_lasting {α : Type} {c : Prop} [Decidable c] {a b : State × α} {s : State} (ha : a.1.lasting = s.lasting)
    (hb : b.1.lasting = s.lasting) : (if c then a else b).1.lasting = s.lasting := by
  split
  · exact ha
  · exact hb

theorem State.ite_snd_lasting {α : Type} {c : Prop} [Decidable c] {a b : α × State} {s : State} (ha : a.2.lasting = s.lasting)
    (hb : b.2.lasting = s.lasting) : (if c then a else b).2.lasting = s.lasting := by
  split
  · exact ha
  · exact hb

theorem State.some_lasting {a s : State} (h : a.lasting = s.lasting) : ∀ t, some a = some t → t.lasting = s.lasting := by
  rintro _ ⟨⟩
  exact h

theorem State.ite_some_lasting {c : Prop} [Decidable c] {a b : Option State} {s : State}
    (ha : ∀ t, a = some t → t.lasting = s.lasting) (hb : ∀ t, b = some t → t.lasting = s.lasting) :
    ∀ t, (if c then a else b) = some t → t.lasting = s.lasting := by
  split
  · exact ha
  · exact hb

/-- A fold leaves them alone where each of its steps does. -/
@[simp] theorem State.foldl_lasting {α : Type} {g : State → α → State} (h : ∀ s x, (g s x).lasting = s.lasting) {l : List α}
    {s : State} : (l.foldl g s).lasting = s.lasting := by
  induction l generalizing s with
  | nil => rfl
  | cons x l ih => rw [List.foldl_cons, ih, h]

/-- The same of a fold that carries more than the state. -/
theorem State.foldl_fst_lasting {α β : Type} {g : State × β → α → State × β} (h : ∀ a x, (g a x).1.lasting = a.1.lasting)
    {l : List α} {a : State × β} : (l.foldl g a).1.lasting = a.1.lasting := by
  induction l generalizing a with
  | nil => rfl
  | cons x l ih => rw [List.foldl_cons, ih, h]

/-! ## Plain updates, events and completions -/

section
variable (s : State) (a v i : Nat) (w : Word) (p : FieldRef) (x : UnitSt) (u : FUnit) (q : RingSt) (o : Option Nat)
  (bs : List Byte) (l : List Nat) (r : Requester) (kf : KeyFuse) (ks : KeySlot) (wf : WireFrame)
  (gc : List Cmd → List Cmd) (fm : CstMember → CstMember) (fd : DramCh → DramCh) (fs : Sta → Sta) (ff : Frame → Frame)
  (fp : Ppdu → Ppdu) (fh : MeshSt → MeshSt) (fk : PktSt → PktSt) (fr : RadioSt → RadioSt) (fx : RxSt → RxSt)
  (fy : SynSt → SynSt) (fc : ChainSt → ChainSt) (ft : TileSt → TileSt)

@[simp] theorem State.setReg_lasting : (s.setReg a w).lasting = s.lasting := rfl
@[simp] theorem State.setSreg_lasting : (s.setSreg a w).lasting = s.lasting := rfl
@[simp] theorem State.put_lasting : (s.put p v).lasting = s.lasting := rfl
@[simp] theorem State.sput_lasting : (s.sput p v).lasting = s.lasting := rfl
@[simp] theorem State.incSat_lasting : (s.incSat p).lasting = s.lasting := rfl
@[simp] theorem State.put64_lasting : (s.put64 a v).lasting = s.lasting := rfl
@[simp] theorem State.inc64_lasting : (s.inc64 a).lasting = s.lasting := rfl
@[simp] theorem State.setUnit_lasting : (s.setUnit i x).lasting = s.lasting := rfl
@[simp] theorem State.refuseAt_lasting : (s.refuseAt u).lasting = s.lasting := rfl
@[simp] theorem State.setRing_lasting : (s.setRing a q).lasting = s.lasting := rfl
@[simp] theorem State.raiseVector_lasting : (s.raiseVector a v).lasting = s.lasting := rfl
@[simp] theorem State.mapCmds_lasting : (s.mapCmds gc).lasting = s.lasting := rfl
@[simp] theorem State.takeUp_lasting : (s.takeUp a v o).lasting = s.lasting := rfl
@[simp] theorem State.reached_lasting : (s.reached a v i).lasting = s.lasting := rfl
@[simp] theorem State.writeHost_lasting : (s.writeHost a v bs).lasting = s.lasting := rfl
@[simp] theorem State.setSlot_lasting : (s.setSlot a ks).lasting = s.lasting := rfl
@[simp] theorem State.modMember_lasting : (s.modMember a fm).lasting = s.lasting := rfl
@[simp] theorem State.wiredPush_lasting : (s.wiredPush a wf).lasting = s.lasting := rfl
@[simp] theorem State.modDch_lasting : (s.modDch a fd).lasting = s.lasting := rfl
@[simp] theorem State.modSta_lasting : (s.modSta a fs).lasting = s.lasting := rfl
@[simp] theorem State.modFrame_lasting : (s.modFrame a ff).lasting = s.lasting := rfl
@[simp] theorem State.modPpdu_lasting : (s.modPpdu a fp).lasting = s.lasting := rfl
@[simp] theorem State.modMesh_lasting : (s.modMesh fh).lasting = s.lasting := rfl
@[simp] theorem State.modPkt_lasting : (s.modPkt fk).lasting = s.lasting := rfl
@[simp] theorem State.powerDown_lasting : (s.powerDown l).lasting = s.lasting := rfl
@[simp] theorem State.modRadio_lasting : (s.modRadio a fr).lasting = s.lasting := rfl
@[simp] theorem State.modRx_lasting : (s.modRx a fx).lasting = s.lasting := rfl
@[simp] theorem State.modSyn_lasting : (s.modSyn a v fy).lasting = s.lasting := rfl
@[simp] theorem State.modChain_lasting : (s.modChain a fc).lasting = s.lasting := rfl
@[simp] theorem State.setCap_lasting : (s.setCap r a v).lasting = s.lasting := rfl
@[simp] theorem State.setNt_lasting : (s.setNt v).lasting = s.lasting := rfl
@[simp] theorem State.modTile_lasting : (s.modTile a ft).lasting = s.lasting := rfl
@[simp] theorem State.draw_lasting : (s.draw a).2.lasting = s.lasting := rfl
@[simp] theorem State.inc_lasting : (s.inc p).lasting = s.lasting := by unfold State.inc; split <;> rfl
@[simp] theorem State.incBy_lasting : (s.incBy p a).lasting = s.lasting := by unfold State.incBy; split <;> rfl

@[simp] theorem State.postEvent_lasting (code : Nat) (b : List Byte) (vfs : List Nat) :
    (s.postEvent code b vfs).lasting = s.lasting := State.lasting_of_eq (s.postEvent_fuses ..) (s.postEvent_flash ..)
@[simp] theorem State.complete_lasting (f tag status result : Nat) :
    (s.complete f tag status result).lasting = s.lasting := State.lasting_of_eq (s.complete_fuses ..) (s.complete_flash ..)

end

variable (s : State)

/-! ## Counting a refusal (01 R33) -/

@[simp] theorem State.refuseBy_lasting (o : Option FUnit) : (s.refuseBy o).lasting = s.lasting := by
  unfold State.refuseBy
  split <;> simp

/-! ## Rings, entries and the admission of commands (13) -/

@[simp] theorem State.writeEntry_lasting (f kind n idx : Nat) (bs : List Byte) :
    (s.writeEntry f kind n idx bs).lasting = s.lasting := by simp [State.writeEntry]
@[simp] theorem State.signal_lasting (f kind n : Nat) : (s.signal f kind n).lasting = s.lasting := by simp [State.signal]
@[simp] theorem State.ringTake_lasting (f kind n : Nat) : (s.ringTake f kind n).1.lasting = s.lasting := by simp [State.ringTake]
@[simp] theorem State.moderate_lasting (f kind n : Nat) (now : Bool) : (s.moderate f kind n now).lasting = s.lasting := by
  simp [State.moderate]
@[simp] theorem State.putEvent_lasting (f : Nat) (e : Event) : (s.putEvent f e).lasting = s.lasting := by simp [State.putEvent]
@[simp] theorem State.loseEvent_lasting (f : Nat) : (s.loseEvent f).lasting = s.lasting := by simp [State.loseEvent]
@[simp] theorem State.postSeq_lasting (f code : Nat) (payload : List Byte) : (s.postSeq f code payload).lasting = s.lasting := by
  simp [State.postSeq]
@[simp] theorem State.reportLost_lasting (f : Nat) : (s.reportLost f).lasting = s.lasting := by simp [State.reportLost]
@[simp] theorem State.postOn_lasting (f code : Nat) (payload : List Byte) : (s.postOn f code payload).lasting = s.lasting := by
  simp [State.postOn]
@[simp] theorem State.countReject_lasting (block : Nat) : (s.countReject block).lasting = s.lasting := by simp [State.countReject]
@[simp] theorem State.invalidWrite_lasting (r : Requester) (a : Nat) (v : Word) : (s.invalidWrite r a v).lasting = s.lasting := by
  simp [State.invalidWrite]

@[simp] theorem State.access_lasting (r : Requester) (a : Nat) (act : State → State) (vfOk : Nat → Bool)
    (h : ∀ s, (act s).lasting = s.lasting) : (s.access r a act vfOk).lasting = s.lasting := by
  unfold State.access
  cases r <;> dsimp only <;> (repeat' split) <;> simp [h]

@[simp] theorem State.putCqe_lasting (f cq idx : Nat) (e : Cqe) : (s.putCqe f cq idx e).lasting = s.lasting := by
  simp [State.putCqe]
@[simp] theorem State.postCompletion_lasting (c : Cmd) (status result : Nat) :
    (s.postCompletion c status result).1.lasting = s.lasting := by simp [State.postCompletion]

@[simp] theorem State.runCmd_lasting (f tag opcode : Nat) (mayIssue gatedFor : Cmd → Bool) (act : Cmd → State → State)
    (h : ∀ c s, (act c s).lasting = s.lasting) : (s.runCmd f tag opcode mayIssue gatedFor act).lasting = s.lasting := by
  unfold State.runCmd
  split
  · rfl
  · exact State.ite_lasting rfl (State.ite_lasting (State.complete_lasting ..)
      (State.ite_lasting (State.complete_lasting ..) (h ..)))

@[simp] theorem State.runCmdIf_lasting (fn tag opcode : Nat) (sel may gatedFor : Cmd → Bool) (act : Cmd → State → State)
    (h : ∀ c s, (act c s).lasting = s.lasting) : (s.runCmdIf fn tag opcode sel may gatedFor act).lasting = s.lasting := by
  unfold State.runCmdIf
  split
  · exact State.ite_lasting (State.runCmd_lasting _ _ _ _ _ _ _ h) rfl
  · rfl

/-! ## The flash and the fault log (03 R76 to R95) -/

@[simp] theorem State.spoil_lasting (sector : Nat) : (s.spoil sector).lasting = s.lasting := by simp [State.spoil]
@[simp] theorem State.flashKick_lasting : s.flashKick.lasting = s.lasting := by simp [State.flashKick]
@[simp] theorem State.queueLogOp_lasting (o : FlashOp) : (s.queueLogOp o).lasting = s.lasting := by simp [State.queueLogOp]
@[simp] theorem State.queueFlashOp_lasting (o : FlashOp) : (s.queueFlashOp o).lasting = s.lasting := by simp [State.queueFlashOp]
@[simp] theorem State.logAdvance_lasting : s.logAdvance.lasting = s.lasting := by simp [State.logAdvance]
@[simp] theorem State.eraseAhead_lasting : s.eraseAhead.lasting = s.lasting := by simp [State.eraseAhead]
@[simp] theorem State.logWrite_lasting (type : Nat) (payload : List Byte) : (s.logWrite type payload).lasting = s.lasting := by
  simp [State.logWrite]

/-! ## Power items and block clocks (16 R464, 02 R53) -/

@[simp] theorem State.requestItems_lasting (l : List Nat) : (s.requestItems l).lasting = s.lasting := by simp [State.requestItems]
@[simp] theorem State.requestBlock_lasting (b : Nat) : (s.requestBlock b).lasting = s.lasting := by simp [State.requestBlock]
@[simp] theorem State.enableBlock_lasting (b : Nat) : (s.enableBlock b).lasting = s.lasting := by simp [State.enableBlock]

/-! ## Time bases (04) -/

@[simp] theorem State.setSrc_lasting (k : Nat) (w : SrcWin) : (s.setSrc k w).lasting = s.lasting := by simp [State.setSrc]
@[simp] theorem State.shiftWins_lasting (d : Int) : (s.shiftWins d).lasting = s.lasting := by simp [State.shiftWins]
@[simp] theorem State.stepNt_lasting (d : Int) : (s.stepNt d).lasting = s.lasting := by simp [State.stepNt]
@[simp] theorem State.noteOffset_lasting : s.noteOffset.lasting = s.lasting := by
  unfold State.noteOffset
  split <;> simp
@[simp] theorem State.changeSource_lasting (k : Option Nat) : (s.changeSource k).lasting = s.lasting := by simp [State.changeSource]
@[simp] theorem State.lock_lasting : s.lock.lasting = s.lasting := by simp [State.lock]
@[simp] theorem State.enterHoldover_lasting (cause : Nat) : (s.enterHoldover cause).lasting = s.lasting := by
  simp [State.enterHoldover]
@[simp] theorem State.refuseJump_lasting (off : Int) : (s.refuseJump off).lasting = s.lasting := by simp [State.refuseJump]
@[simp] theorem State.servo_lasting (off : Int) : (s.servo off).lasting = s.lasting := by simp [State.servo]
@[simp] theorem State.discipline_lasting (off : Int) : (s.discipline off).lasting = s.lasting := by simp [State.discipline]
@[simp] theorem State.startMt_lasting : s.startMt.lasting = s.lasting := by simp [State.startMt]
@[simp] theorem State.ntStarts_lasting : s.ntStarts.lasting = s.lasting := by simp [State.ntStarts]
@[simp] theorem State.dropStep_lasting (k : Nat) : (s.dropStep k).lasting = s.lasting := by
  unfold State.dropStep
  split <;> simp

@[simp] theorem State.seeded_lasting (k : Nat) (seed : Int) : (s.seeded k seed).lasting = s.lasting := by
  unfold State.seeded
  dsimp only
  split <;> simp

@[simp] theorem State.newOffset_lasting (k : Nat) (off : Int) : (s.newOffset k off).lasting = s.lasting := by simp [State.newOffset]
@[simp] theorem State.reanchor_lasting (base : Nat) : (s.reanchor base).2.lasting = s.lasting := by
  simp only [State.reanchor]
  (repeat' split) <;> simp
@[simp] theorem State.deferStep_lasting (b : Nat) : (s.deferStep b).lasting = s.lasting := by simp [State.deferStep]
@[simp] theorem State.applyNtStep_lasting (b16 d : Int) : (s.applyNtStep b16 d).lasting = s.lasting := by simp [State.applyNtStep]

@[simp] theorem State.applySteps_lasting (b : Nat) : (s.applySteps b).lasting = s.lasting := by
  unfold State.applySteps
  extract_lets d0 s1 s2 src s3
  clear_value d0
  have h1 : s1.lasting = s.lasting := by
    dsimp only [s1]
    split
    · rw [State.postEvent_lasting, State.mk_lasting, State.lock_lasting, State.applyNtStep_lasting]
    · rfl
  have h2 : s2.lasting = s.lasting := by
    dsimp only [s2]
    split
    · refine State.ite_lasting ?_ h1
      rw [State.postEvent_lasting, State.mk_lasting, State.lock_lasting, State.applyNtStep_lasting, h1]
    · exact h1
  have h3 : s3.lasting = s.lasting := State.ite_lasting h2 h2
  refine (State.foldl_lasting fun s base => ?_).trans h3
  exact State.ite_lasting (State.postEvent_lasting ..) rfl

@[simp] theorem State.mtFollows_lasting : s.mtFollows.lasting = s.lasting := by simp [State.mtFollows]

/-! ## Key slots (12) -/

@[simp] theorem State.countPage_lasting (slot reg : Nat) (high : Bool) : (s.countPage slot reg high).lasting = s.lasting := by
  unfold State.countPage
  split <;> simp
@[simp] theorem State.isolationEvent_lasting (who slot : Nat) : (s.isolationEvent who slot).lasting = s.lasting := by
  simp [State.isolationEvent]
@[simp] theorem State.isolationTenant_lasting (tenant slot : Nat) : (s.isolationTenant tenant slot).lasting = s.lasting := by
  simp [State.isolationTenant]
@[simp] theorem State.drawCounter_lasting (slot : Nat) : (s.drawCounter slot).2.lasting = s.lasting := by
  simp only [State.drawCounter]
  (repeat' split) <;> simp
@[simp] theorem State.cphAdmit_lasting (op : CphOp) : (s.cphAdmit op).lasting = s.lasting := by simp [State.cphAdmit]

@[simp] theorem State.zeroise_lasting (slot : Nat) : (s.zeroise slot).lasting = s.lasting := by
  unfold State.zeroise
  dsimp only
  split <;> simp

@[simp] theorem State.pinGen_lasting (slot : Nat) (g : KeyGen) : (s.pinGen slot g).lasting = s.lasting := by simp [State.pinGen]
@[simp] theorem State.beginErase_lasting (slot fn tag : Nat) : (s.beginErase slot fn tag).lasting = s.lasting := by
  unfold State.beginErase
  split <;> simp

@[simp] theorem State.nextWaiting_lasting (slot : Nat) : (s.nextWaiting slot).lasting = s.lasting := by
  unfold State.nextWaiting
  dsimp only
  split <;> simp

@[simp] theorem State.installKey_lasting (slot suite : Nat) (b : List Byte) : (s.installKey slot suite b).lasting = s.lasting := by
  unfold State.installKey
  dsimp only
  split <;> simp

@[simp] theorem State.replayCheck_lasting (slot gen idx pn : Nat) : (s.replayCheck slot gen idx pn).2.lasting = s.lasting := by
  simp only [State.replayCheck]
  (repeat' split) <;> simp
@[simp] theorem State.tagFailed_lasting (slot : Nat) (untrusted : Bool) : (s.tagFailed slot untrusted).lasting = s.lasting := by
  simp [State.tagFailed]
@[simp] theorem State.cipherSuperframe_lasting : s.cipherSuperframe.lasting = s.lasting := by simp [State.cipherSuperframe]
@[simp] theorem State.clearCipher_lasting (slotMemory : Bool) : (s.clearCipher slotMemory).lasting = s.lasting := by
  simp [State.clearCipher]

/-! ## Chains, synthesisers and launches (06) -/

@[simp] theorem State.checkRef_lasting (r : Nat) : (s.checkRef r).lasting = s.lasting := by
  refine State.ite_lasting rfl ?_
  split
  · rfl
  · exact State.ite_lasting rfl ((State.foldl_lasting fun s d => s.modChain_lasting ..).trans (State.modRadio_lasting ..))

@[simp] theorem State.checkIslands_lasting (r : Nat) : (s.checkIslands r).lasting = s.lasting := by
  unfold State.checkIslands
  split
  · rfl
  · extract_lets set links l off new s1
    have h1 : s1.lasting = s.lasting := State.foldl_lasting fun s c => s.modChain_lasting ..
    exact State.ite_lasting ((State.postEvent_lasting ..).trans h1) h1

@[simp] theorem State.moveTuner_lasting (i pos : Nat) : (s.moveTuner i pos).lasting = s.lasting := by simp [State.moveTuner]

@[simp] theorem State.feSwap_lasting (r : Nat) (old : List Nat) (changed : Bool) :
    (s.feSwap r old changed).lasting = s.lasting := by
  unfold State.feSwap
  extract_lets new gone s1 s2 s3 s4 s5 s6
  have h3 : s3.lasting = s.lasting := by
    rw [State.foldl_lasting, State.powerDown_lasting, State.foldl_lasting (fun _ _ => State.modChain_lasting ..)]
    exact fun s c => State.ite_lasting rfl (State.modChain_lasting ..)
  have h4 : s4.lasting = s3.lasting := State.foldl_lasting fun s c => State.ite_lasting rfl <|
    State.ite_lasting (State.ite_lasting (State.postEvent_lasting ..) rfl) (State.moveTuner_lasting ..)
  have h5 : s5.lasting = s4.lasting := State.foldl_lasting fun _ _ => State.modChain_lasting ..
  have h6 : s6.lasting = s5.lasting := State.ite_lasting (State.foldl_lasting fun _ _ => State.modSyn_lasting ..) rfl
  rw [State.checkRef_lasting, State.modRadio_lasting, h6, h5, h4, h3]

@[simp] theorem State.propose_lasting (r c pos : Nat) : (s.propose r c pos).lasting = s.lasting :=
  State.ite_lasting (by rw [State.postEvent_lasting, State.modChain_lasting, State.sput_lasting]) rfl
@[simp] theorem State.stageHeld_lasting : s.stageHeld.lasting = s.lasting :=
  State.foldl_lasting fun s r => State.ite_lasting rfl <| State.foldl_lasting fun s c => by
  split <;> simp
@[simp] theorem State.feMeridian_lasting : s.feMeridian.lasting = s.lasting := by simp [State.feMeridian]

@[simp] theorem State.endLaunch_lasting (r : Nat) (l : Launch) (status : Nat) : (s.endLaunch r l status).lasting = s.lasting := by
  unfold State.endLaunch
  extract_lets s1 s2
  have h2 : s2.lasting = s.lasting := (State.modRadio_lasting ..).trans (State.foldl_lasting fun s c => s.modChain_lasting ..)
  refine State.ite_lasting h2 ?_
  split
  · exact (State.modPpdu_lasting ..).trans h2
  · exact (State.modRadio_lasting ..).trans h2
  · exact h2

@[simp] theorem State.dropCal_lasting (r : Nat) : (s.dropCal r).lasting = s.lasting := by
  unfold State.dropCal
  split
  · rfl
  · rw [State.inc_lasting, State.modRadio_lasting, State.foldl_lasting fun s c => s.modChain_lasting ..]

@[simp] theorem State.clearRadio_lasting (r : Nat) : (s.clearRadio r).lasting = s.lasting := by
  unfold State.clearRadio
  rw [State.mk_lasting, State.powerDown_lasting, State.foldl_lasting fun s c => s.modChain_lasting ..]
@[simp] theorem State.powerChains_lasting (r : Nat) : (s.powerChains r).lasting = s.lasting := by simp [State.powerChains]

/-! ## Task queues and streams (13 R397 to R407) -/

@[simp] theorem State.putRx_lasting (f n bufId len : Nat) (sop eop : Bool) (src index : Nat) (rest : List Byte) :
    (s.putRx f n bufId len sop eop src index rest).lasting = s.lasting := by simp [State.putRx]
@[simp] theorem State.rqWrite_lasting (f n k src : Nat) (rest payload : List Byte) :
    (s.rqWrite f n k src rest payload).lasting = s.lasting := by simp [State.rqWrite]
@[simp] theorem State.streamDirect_lasting (f : Nat) (payload rest : List Byte) :
    (s.streamDirect f payload rest).lasting = s.lasting := by simp [State.streamDirect]
@[simp] theorem State.modC_lasting (c : Nat) (f : CStat → CStat) : (s.modC c f).lasting = s.lasting := by simp [State.modC]
@[simp] theorem State.modQ_lasting (q : Nat) (f : QStat → QStat) : (s.modQ q f).lasting = s.lasting := by simp [State.modQ]
@[simp] theorem State.trackIdle_lasting : s.trackIdle.lasting = s.lasting := by simp [State.trackIdle]
@[simp] theorem State.dropFull_lasting (q : Nat) : (s.dropFull q).lasting = s.lasting := by simp [State.dropFull]

@[simp] theorem State.enqueue_lasting (q prio tenant : Nat) (ctx : Option Nat) (source reason : Nat) (payload key : List Byte) (mac
    : Option (List Byte)) :
    (s.enqueue q prio tenant ctx source reason payload key mac).2.lasting = s.lasting := by
  unfold State.enqueue
  (repeat' split) <;> simp

@[simp] theorem State.deliverMac_lasting (fn tenant : Nat) (payload rest : List Byte) :
    (s.deliverMac fn tenant payload rest).lasting = s.lasting := by simp [State.deliverMac]
@[simp] theorem State.faultNotice_lasting (parts : List (List Byte)) : (s.faultNotice parts).lasting = s.lasting := by
  simp [State.faultNotice]
@[simp] theorem State.dropItem_lasting (idx : Nat) : (s.dropItem idx).lasting = s.lasting := by simp [State.dropItem]

/-! ## The receiver (07) -/

@[simp] theorem State.toSearch_lasting (r : Nat) : (s.toSearch r).lasting = s.lasting := by simp [State.toSearch]
@[simp] theorem State.countBB_lasting (r reg : Nat) (high : Bool) : (s.countBB r reg high).lasting = s.lasting := by
  simp [State.countBB]
@[simp] theorem State.postMetrics_lasting (r : Nat) (stamp : NT64) (status user : Nat) (tb : Bool) (m : Measured) :
    (s.postMetrics r stamp status user tb m).lasting = s.lasting := by simp [State.postMetrics]
@[simp] theorem State.drawMeasured_lasting (r : Nat) : (s.drawMeasured r).2.lasting = s.lasting := by simp [State.drawMeasured]
@[simp] theorem State.cutReception_lasting (r : Nat) : (s.cutReception r).lasting = s.lasting := by simp [State.cutReception]

/-! ## Constellation sessions (09) -/

@[simp] theorem State.cstReject_lasting (m type status : Nat) (known : Bool) :
    (s.cstReject m type status known).lasting = s.lasting := by simp [State.cstReject]
@[simp] theorem State.freeForeign_lasting (m : Nat) : (s.freeForeign m).lasting = s.lasting := by simp [State.freeForeign]
@[simp] theorem State.endSession_lasting (m : Nat) : (s.endSession m).lasting = s.lasting := by simp [State.endSession]
@[simp] theorem State.sessionUp_lasting (m : Nat) (keyTx keyRx : List Byte) (seq : Nat) :
    (s.sessionUp m keyTx keyRx seq).lasting = s.lasting := by simp [State.sessionUp]
@[simp] theorem State.draw32_lasting : s.draw32.2.lasting = s.lasting := by simp [State.draw32]
@[simp] theorem State.alignSample_lasting (m : Nat) (o : Int) : (s.alignSample m o).lasting = s.lasting := by
  simp [State.alignSample]

@[simp] theorem State.foreignHeard_lasting (r m start : Nat) (users : List Measured) :
    (s.foreignHeard r m start users).lasting = s.lasting := by
  unfold State.foreignHeard
  split <;> simp

@[simp] theorem State.freeForeignRadio_lasting (r : Nat) : (s.freeForeignRadio r).lasting = s.lasting := by
  simp [State.freeForeignRadio]
@[simp] theorem State.cstSuperframe_lasting (start : Nat) : (s.cstSuperframe start).lasting = s.lasting := by
  unfold State.cstSuperframe
  split <;> simp

/-! ## Fuses (03 R89) -/

@[simp] theorem State.keyEvent_lasting (slot action status : Nat) : (s.keyEvent slot action status).lasting = s.lasting := by
  simp [State.keyEvent]

/-! ## DRAM channels (15) -/

@[simp] theorem State.granuleWrite_lasting (g off : Nat) (data : List Byte) : (s.granuleWrite g off data).lasting = s.lasting := by
  simp [State.granuleWrite]
@[simp] theorem State.dramAnswer_lasting (port granule status : Nat) (data : List Byte) :
    (s.dramAnswer port granule status data).lasting = s.lasting := by simp [State.dramAnswer]

@[simp] theorem State.dramFill_lasting (c : Nat) : (s.dramFill c).lasting = s.lasting :=
  State.foldl_lasting fun s p => by
  split
  · exact State.ite_lasting rfl rfl
  · rfl

@[simp] theorem State.dramDone_lasting (c : Nat) (q : DramReq) : (s.dramDone c q).lasting = s.lasting := by simp [State.dramDone]
@[simp] theorem State.dramSuperframe_lasting : s.dramSuperframe.lasting = s.lasting := by simp [State.dramSuperframe]
@[simp] theorem State.clearDram_lasting (c : Nat) : (s.clearDram c).lasting = s.lasting := by simp [State.clearDram]
@[simp] theorem State.dramError_lasting (e : DramErr) : (s.dramError e).lasting = s.lasting := by simp [State.dramError]

/-! ## The mesh island (10) -/

@[simp] theorem State.ingress_lasting (src : Nat) (f : SrcFrame) : (s.ingress src f).lasting = s.lasting := by simp [State.ingress]
@[simp] theorem State.charge_lasting (band air : Nat) : (s.charge band air).lasting = s.lasting := by simp [State.charge]
@[simp] theorem State.restartLedger_lasting : s.restartLedger.lasting = s.lasting := by simp [State.restartLedger]
@[simp] theorem State.postOnce_lasting (key code : Nat) (payload : List Byte) :
    (s.postOnce key code payload).lasting = s.lasting := by simp [State.postOnce]

@[simp] theorem State.meshSend_lasting (what : MeshWhat) (band air : Nat) (reply : Bool) (level : Int) :
    (s.meshSend what band air reply level).2.lasting = s.lasting := by
  simp only [State.meshSend]
  (repeat' split) <;> simp

@[simp] theorem State.meshFc_lasting : s.meshFc.2.lasting = s.lasting := by
  unfold State.meshFc
  dsimp only
  split <;> simp

@[simp] theorem State.downDone_lasting (id status : Nat) : (s.downDone id status).lasting = s.lasting := by
  unfold State.downDone
  (repeat' split) <;> simp
@[simp] theorem State.modDown_lasting (id : Nat) (f : MeshDown → MeshDown) : (s.modDown id f).lasting = s.lasting := by
  simp [State.modDown]

@[simp] theorem State.sendDown_lasting (id guard : Nat) (reply : Bool) (level : Int) :
    (s.sendDown id guard reply level).lasting = s.lasting := by
  simp only [State.sendDown]
  (repeat' split) <;> simp

@[simp] theorem State.bridgeUp_lasting (u : MeshUp) : (s.bridgeUp u).lasting = s.lasting := by simp [State.bridgeUp]
@[simp] theorem State.drainUp_lasting : s.drainUp.lasting = s.lasting := by simp [State.drainUp]
@[simp] theorem State.enterBridged_lasting : s.enterBridged.lasting = s.lasting := by simp [State.enterBridged]
@[simp] theorem State.meshLink_lasting : s.meshLink.lasting = s.lasting := by
  unfold State.meshLink
  split <;> simp
@[simp] theorem State.meshStart_lasting : s.meshStart.lasting = s.lasting := by simp [State.meshStart]
@[simp] theorem State.clearMesh_lasting (retention ledger : Bool) : (s.clearMesh retention ledger).lasting = s.lasting := by
  simp [State.clearMesh]
@[simp] theorem State.meshRecovered_lasting : s.meshRecovered.lasting = s.lasting := by simp [State.meshRecovered]
@[simp] theorem State.startExit_lasting (cause : Nat) : (s.startExit cause).lasting = s.lasting := by simp [State.startExit]
@[simp] theorem State.wake_lasting (cause : Nat) : (s.wake cause).lasting = s.lasting := by simp [State.wake]

/-! ## The packet path (11) -/

@[simp] theorem State.place_lasting (sram n : Nat) (spilled : Bool) : (s.place sram n spilled).2.lasting = s.lasting := by
  unfold State.place
  (repeat' split) <;> simp
@[simp] theorem State.watch_lasting (qid : Nat) (f : Watch → Watch) : (s.watch qid f).lasting = s.lasting := by simp [State.watch]
@[simp] theorem State.watchDepth_lasting (qid : Nat) : (s.watchDepth qid).lasting = s.lasting := by simp [State.watchDepth]
@[simp] theorem State.watchDrop_lasting (qid : Nat) : (s.watchDrop qid).lasting = s.lasting := by simp [State.watchDrop]
@[simp] theorem State.watchOut_lasting (qid n soj : Nat) : (s.watchOut qid n soj).lasting = s.lasting := by simp [State.watchOut]
@[simp] theorem State.exceptionDrop_lasting (q : Nat) : (s.exceptionDrop q).lasting = s.lasting := by simp [State.exceptionDrop]
@[simp] theorem State.toTask_lasting (x : PktCtx) (reason q prio : Nat) : (s.toTask x reason q prio).lasting = s.lasting := by
  simp [State.toTask]
@[simp] theorem State.watchSuperframe_lasting (start : Nat) : (s.watchSuperframe start).lasting = s.lasting := by
  simp [State.watchSuperframe]
@[simp] theorem State.spend_lasting (key n : Nat) : (s.spend key n).lasting = s.lasting := by simp [State.spend]
@[simp] theorem State.settleShapers_lasting (p : Nat) : (s.settleShapers p).lasting = s.lasting := by simp [State.settleShapers]
@[simp] theorem State.refill_lasting (k : Nat) : (s.refill k).2.lasting = s.lasting := by
  simp only [State.refill]
  (repeat' split) <;> simp
@[simp] theorem State.meter_lasting (k n : Nat) : (s.meter k n).2.lasting = s.lasting := by
  simp only [State.meter]
  (repeat' split) <;> simp
@[simp] theorem State.policerSwap_lasting : s.policerSwap.lasting = s.lasting := by simp [State.policerSwap]
@[simp] theorem State.pushWireless_lasting (f : Frame) : (s.pushWireless f).lasting = s.lasting := by
  simp only [State.pushWireless]
  (repeat' split) <;> simp

@[simp] theorem State.toStation_lasting (x : PktCtx) (sid up : Nat) (msdu : List Byte) :
    (s.toStation x sid up msdu).lasting = s.lasting := by
  unfold State.toStation
  split <;> simp

@[simp] theorem State.toGroup_lasting (x : PktCtx) (r bss up : Nat) (msdu : List Byte) :
    (s.toGroup x r bss up msdu).lasting = s.lasting := by simp [State.toGroup]
@[simp] theorem State.pushWired_lasting (sub q : Nat) (f : WireFrame) : (s.pushWired sub q f).lasting = s.lasting := by
  simp only [State.pushWired]
  (repeat' split) <;> simp
@[simp] theorem State.toWired_lasting (x : PktCtx) (sub q : Nat) (body : List Byte) :
    (s.toWired x sub q body).lasting = s.lasting := by simp [State.toWired]

@[simp] theorem State.addStationFdb_lasting (tenant sid addr : Nat) : (s.addStationFdb tenant sid addr).lasting = s.lasting := by
  unfold State.addStationFdb
  dsimp only
  split <;> simp

@[simp] theorem State.dropStationRefs_lasting (sid : Nat) : (s.dropStationRefs sid).lasting = s.lasting := by
  simp [State.dropStationRefs]

@[simp] theorem State.clearPkt_lasting : s.clearPkt.lasting = s.lasting := by
  unfold State.clearPkt
  rw [State.mk_lasting, State.setUnit_lasting, State.foldl_lasting]
  intro s e
  split <;> simp

@[simp] theorem State.pktSuperframe_lasting (start : Nat) : (s.pktSuperframe start).lasting = s.lasting := by
  simp [State.pktSuperframe]

@[simp] theorem State.cstSend_lasting (m : Nat) (msg : List Byte) (stampFor : Option Nat) :
    (s.cstSend m msg stampFor).lasting = s.lasting := by
  unfold State.cstSend
  split <;> simp

@[simp] theorem State.cstHeard_lasting (b : List Byte) : (s.cstHeard b).lasting = s.lasting := by simp [State.cstHeard]
@[simp] theorem State.leaveAll_lasting (reason cause : Nat) : (s.leaveAll reason cause).lasting = s.lasting := by
  simp [State.leaveAll]

/-! ## Stations and frames (08) -/

@[simp] theorem State.endFrame_lasting (id status : Nat) : (s.endFrame id status).lasting = s.lasting := by
  unfold State.endFrame
  (repeat' split) <;> simp
@[simp] theorem State.cmdUnit_lasting (fn tag : Nat) (u : Option Nat) : (s.cmdUnit fn tag u).lasting = s.lasting := by
  simp [State.cmdUnit]
@[simp] theorem State.dropOrphans_lasting : s.dropOrphans.lasting = s.lasting := by simp [State.dropOrphans]
@[simp] theorem State.readFrame_lasting (id : Nat) : (s.readFrame id).lasting = s.lasting := by
  unfold State.readFrame
  split <;> simp
@[simp] theorem State.dropAt_lasting (id status : Nat) (cnt : FieldRef) : (s.dropAt id status cnt).lasting = s.lasting := by
  simp [State.dropAt]
@[simp] theorem State.returnFrame_lasting (id : Nat) : (s.returnFrame id).lasting = s.lasting := by
  unfold State.returnFrame
  (repeat' split) <;> simp
@[simp] theorem State.twtSwap_lasting (r : Nat) : (s.twtSwap r).lasting = s.lasting := by simp [State.twtSwap]
@[simp] theorem State.toHost_lasting (m : RxMpdu) (sid : Option Nat) (status : Nat) :
    (s.toHost m sid status).lasting = s.lasting := by simp [State.toHost]
@[simp] theorem State.deliverMsdus_lasting (m : RxMpdu) (sid : Option Nat) : (s.deliverMsdus m sid).lasting = s.lasting := by
  simp [State.deliverMsdus]

@[simp] theorem State.releaseMpdu_lasting (m : RxMpdu) (sid slot : Option Nat) :
    (s.releaseMpdu m sid slot).lasting = s.lasting := by
  unfold State.releaseMpdu
  split <;> simp

@[simp] theorem State.moveWindow_lasting (sid tid to_ : Nat) : (s.moveWindow sid tid to_).lasting = s.lasting := by
  unfold State.moveWindow
  (repeat' split) <;> simp
@[simp] theorem State.releaseInOrder_lasting (sid tid : Nat) : (s.releaseInOrder sid tid).lasting = s.lasting := by
  unfold State.releaseInOrder
  split <;> simp
@[simp] theorem State.endRxBa_lasting (sid tid : Nat) : (s.endRxBa sid tid).lasting = s.lasting := by
  unfold State.endRxBa
  split <;> simp
@[simp] theorem State.endAgreement_lasting (sid tid dir cause : Nat) : (s.endAgreement sid tid dir cause).lasting = s.lasting := by
  simp [State.endAgreement]
@[simp] theorem State.clearMac_lasting (r : Nat) (onAir : List LaunchOf) : (s.clearMac r onAir).lasting = s.lasting := by
  simp [State.clearMac]
@[simp] theorem State.macRejoin_lasting (r : Nat) : (s.macRejoin r).lasting = s.lasting := by simp [State.macRejoin]
@[simp] theorem State.resolvePlans_lasting (swapped : Nat → Bool) : (s.resolvePlans swapped).lasting = s.lasting := by
  simp [State.resolvePlans]
@[simp] theorem State.macSuperframe_lasting (start : Nat) : (s.macSuperframe start).lasting = s.lasting := by
  simp [State.macSuperframe]
@[simp] theorem State.addPlan_lasting (l : List Ppdu) : (s.addPlan l).lasting = s.lasting := by simp [State.addPlan]

/-! ## Ports and Tile Links (14) -/

@[simp] theorem State.setLink_lasting (sub speed : Nat) : (s.setLink sub speed).lasting = s.lasting := by simp [State.setLink]

@[simp] theorem State.clearPort_lasting (p : Nat) : (s.clearPort p).lasting = s.lasting := by
  have h1 : ((subsOf p).foldl (fun s b => s.setLink b 0) s).lasting = s.lasting := State.foldl_lasting fun s b => s.setLink_lasting
      b 0
  exact State.ite_lasting h1 ((State.put_lasting ..).trans h1)

@[simp] theorem State.portSwap_lasting (p : Nat) (changed : Bool) : (s.portSwap p changed).lasting = s.lasting := by
  simp [State.portSwap]
@[simp] theorem State.tileSend_lasting (k type : Nat) (payload : List Byte) (mask : Option (LaunchOf × Nat)) :
    (s.tileSend k type payload mask).lasting = s.lasting := by simp [State.tileSend]
@[simp] theorem State.startTraining_lasting (k : Nat) : (s.startTraining k).lasting = s.lasting := by simp [State.startTraining]
@[simp] theorem State.autoTrain_lasting (k : Nat) : (s.autoTrain k).lasting = s.lasting := by simp [State.autoTrain]
@[simp] theorem State.clearTile_lasting (k cause : Nat) : (s.clearTile k cause).lasting = s.lasting := by simp [State.clearTile]
@[simp] theorem State.tileDown_lasting (k : Nat) : (s.tileDown k).lasting = s.lasting := by simp [State.tileDown]
@[simp] theorem State.sendMasks_lasting (r : Nat) (of_ : LaunchOf) (t : Nat) (chains : List Nat) :
    (s.sendMasks r of_ t chains).lasting = s.lasting := by simp [State.sendMasks]
@[simp] theorem State.sendChannel_lasting (k r : Nat) (w : Word) (target : Nat) :
    (s.sendChannel k r w target).lasting = s.lasting := by simp [State.sendChannel]
@[simp] theorem State.sendPositions_lasting (k n : Nat) (pos : Nat → Nat) : (s.sendPositions k n pos).lasting = s.lasting := by
  simp [State.sendPositions]
@[simp] theorem State.sendPower_lasting (k : Nat) (w : Word) : (s.sendPower k w).lasting = s.lasting := by simp [State.sendPower]
@[simp] theorem State.stageTile_lasting (r k : Nat) : (s.stageTile r k).lasting = s.lasting := by
  unfold State.stageTile
  split <;> simp
@[simp] theorem State.stageTiles_lasting (r : Nat) : (s.stageTiles r).lasting = s.lasting := by simp [State.stageTiles]
@[simp] theorem State.setUpTile_lasting (k : Nat) : (s.setUpTile k).lasting = s.lasting := by
  unfold State.setUpTile
  (repeat' split) <;> simp
@[simp] theorem State.shadowTiles_lasting (r : Nat) : (s.shadowTiles r).lasting = s.lasting := by simp [State.shadowTiles]

/-! ## The reset of a unit (01 R27) -/

@[simp] theorem State.dropConsumer_lasting (c : Nat) : (s.dropConsumer c).lasting = s.lasting := by simp [State.dropConsumer]
@[simp] theorem State.chainPowered_lasting (i : Nat) (on_ : Bool) : (s.chainPowered i on_).lasting = s.lasting := by
  simp [State.chainPowered]
@[simp] theorem State.reenter_lasting (u : FUnit) : (s.reenter u).lasting = s.lasting := by
  unfold State.reenter
  (repeat' split) <;> simp

@[simp] theorem State.disableRings_lasting (f : Nat) : (s.disableRings f).lasting = s.lasting := by
  unfold State.disableRings
  extract_lets s1 s2
  have h1 : s1.lasting = s.lasting :=
    State.foldl_lasting fun s n => by rw [State.put_lasting, State.put_lasting, State.put_lasting]
  rw [State.foldl_lasting fun s w => s.dropConsumer_lasting _, State.put_lasting, h1]

@[simp] theorem State.dropFlashWork_lasting : s.dropFlashWork.lasting = s.lasting := by
  unfold State.dropFlashWork
  dsimp only
  split <;> simp

@[simp] theorem State.dropFnWork_lasting (f : Nat) : (s.dropFnWork f).lasting = s.lasting := by
  unfold State.dropFnWork
  extract_lets gone s1 s2 slots src s3 s4 s5 s6
  have h1 : s1.lasting = s.lasting := State.foldl_lasting fun s r => by
    split
    · exact State.ite_lasting ((State.modRadio_lasting ..).trans (State.endLaunch_lasting ..)) rfl
    · rfl
  have h6 : s6.lasting = s.lasting := by
    rw [State.modMesh_lasting, State.foldl_lasting fun s k => s.nextWaiting_lasting k, State.foldl_lasting fun s k =>
        s.zeroise_lasting k,
      State.mk_lasting, State.dropOrphans_lasting, h1]
  exact State.ite_lasting ((State.dropFlashWork_lasting _).trans h6) h6

@[simp] theorem State.clearTable_lasting (t : Nat) : (s.clearTable t).lasting = s.lasting := by simp [State.clearTable]

@[simp] theorem State.dropSealing_lasting : s.dropSealing.lasting = s.lasting :=
  State.foldl_lasting fun s id => by
  split
  · exact State.ite_lasting rfl (State.endFrame_lasting ..)
  · rfl

@[simp] theorem State.clearUnit_lasting (u : FUnit) (cause detail : Nat) : (s.clearUnit u cause detail).lasting = s.lasting := by
  unfold State.clearUnit
  split <;> simp

/-! ## Fault records, strobes and device faults (01 R28 to R34) -/

@[simp] theorem State.postRecord_lasting (code kind index cause detail flags : Nat) (tags : List (Nat × Nat × Nat)) :
    (s.postRecord code kind index cause detail flags tags).lasting = s.lasting := by
  have hp (f code : Nat) (l : List (List Byte)) (s : State) : (l.foldl (fun s p => s.postOn f code p) s).lasting = s.lasting :=
    State.foldl_lasting fun _ _ => State.postOn_lasting ..
  unfold State.postRecord
  extract_lets mk s1 s2
  have h2 : s2.lasting = s1.lasting := State.foldl_lasting fun s f => State.ite_lasting (hp ..) rfl
  rw [State.faultNotice_lasting, State.incSat_lasting, h2, hp]

@[simp] theorem State.withdraw_lasting (c : Cmd) : (s.withdraw c).lasting = s.lasting := by
  unfold State.withdraw
  split
  · rfl
  · rw [State.mapCmds_lasting, State.put64_lasting, State.setRing_lasting, State.putCqe_lasting,
      State.foldl_lasting fun s j => s.putCqe_lasting ..]

@[simp] theorem State.withdrawUnit_lasting (u : FUnit) : (s.withdrawUnit u).lasting = s.lasting :=
  State.foldl_lasting fun s c => by split <;> simp
@[simp] theorem State.discardCmds_lasting (u : FUnit) : (s.discardCmds u).lasting = s.lasting := by
  unfold State.discardCmds
  split <;> simp
@[simp] theorem State.commitFault_lasting (i : Nat) : (s.commitFault i).lasting = s.lasting := by
  unfold State.commitFault
  (repeat' split) <;> simp
@[simp] theorem State.strobe_lasting (u : FUnit) (cause detail : Nat) : (s.strobe u cause detail).lasting = s.lasting := by
  unfold State.strobe
  split <;> simp
@[simp] theorem State.spoilAlm_lasting (ops : List FlashOp) : (s.spoilAlm ops).lasting = s.lasting := by
  unfold State.spoilAlm
  split <;> simp
@[simp] theorem State.startQualify_lasting : s.startQualify.lasting = s.lasting := by simp [State.startQualify]

end Sys2Proof.Machine

end

section
/-! PROOFS. The commands' own meanings leave what outlasts a reset alone: one lemma for each row and for what only the rows use, but for
those that write the flash or blow fuses. -/

namespace Sys2Proof.Machine

variable (s : State)

/-! ## The rows of the front-ends (06) -/

@[simp] theorem trip_lasting (i vswr : Nat) : (trip i vswr s).lasting = s.lasting := by simp [trip]
@[simp] theorem blockClear_lasting (q : Requester) (r : Nat) (hi : Bool) (v : Word) : (blockClear q r hi v s).lasting = s.lasting :=
  State.access_lasting _ _ _ _ _ fun _ => State.foldl_lasting fun _ _ => State.ite_lasting
  ((State.foldl_lasting fun _ _ => State.tileSend_lasting ..).trans (State.modChain_lasting ..)) rfl
@[simp] theorem synLocks_lasting (r g k : Nat) : (synLocks r g k s).lasting = s.lasting := by simp [synLocks]
@[simp] theorem synLost_lasting (r g : Nat) : (synLost r g s).lasting = s.lasting := by
  simp only [synLost]
  (repeat' split) <;> simp
@[simp] theorem tileSilent_lasting (k : Nat) : (tileSilent k s).lasting = s.lasting := by
  unfold tileSilent
  split <;> simp
@[simp] theorem launchAsk_lasting (r : Nat) (of_ : LaunchOf) (t0 air0 : Nat) (f : PpduForm) :
    (launchAsk r of_ t0 air0 f s).lasting = s.lasting := by simp [launchAsk]

@[simp] theorem txEnd_lasting (r : Nat) : (txEnd r s).lasting = s.lasting := by
  unfold txEnd
  split <;> simp
@[simp] theorem rxStart_lasting (r : Nat) : (rxStart r s).lasting = s.lasting :=
  State.ite_lasting rfl ((State.foldl_lasting fun s _ => s.modChain_lasting ..).trans (State.modRadio_lasting ..))
@[simp] theorem rxEnd_lasting (r : Nat) : (rxEnd r s).lasting = s.lasting :=
  (State.foldl_lasting fun s _ => s.modChain_lasting ..).trans (State.modRadio_lasting ..)

@[simp] theorem watchdog_lasting (i : Nat) : (watchdog i s).lasting = s.lasting := by
  unfold watchdog
  dsimp only
  split <;> simp

@[simp] theorem calStart_lasting (r kind c : Nat) : (calStart r kind c s).lasting = s.lasting := by
  refine State.ite_lasting rfl ?_
  rw [State.modRadio_lasting, State.foldl_lasting fun s p => State.foldl_lasting fun s t => s.tileSend_lasting ..,
    State.foldl_lasting fun s d => s.modChain_lasting ..]

@[simp] theorem State.ownRetune_lasting (r c newPos newVswr : Nat) : (s.ownRetune r c newPos newVswr).lasting = s.lasting := by
  simp [State.ownRetune]

@[simp] theorem State.probed_lasting (r i : Nat) (good : List Nat) : (s.probed r i good).lasting = s.lasting := by
  unfold State.probed
  extract_lets key now h
  have hn (s : State) (d : Nat) (c : Coef) : (now s d c).lasting = s.lasting := State.modChain_lasting ..
  split
  · rfl
  · refine State.ite_lasting (State.foldl_lasting fun s j => ?_) ?_
    · split
      · exact State.ite_lasting rfl (by rw [hn, hn])
      · rfl
    · dsimp only
      split
      · rfl
      · split
        · rw [hn]; exact State.ite_lasting (hn ..) rfl
        · rfl

@[simp] theorem State.roundEnds_lasting (r : Nat) : (s.roundEnds r).lasting = s.lasting := by simp [State.roundEnds]

@[simp] theorem calDone_lasting (r : Nat) (res : CalResult) : (calDone r res s).lasting = s.lasting := by
  unfold calDone
  split
  · rfl
  · extract_lets i s1 s1' s2 s3
    have h1 : s1'.lasting = s.lasting := by
      rw [State.modChain_lasting, State.foldl_lasting (fun _ _ => State.modChain_lasting ..), State.modRadio_lasting]
    refine State.ite_lasting ?_ (State.ite_lasting ?_ h1)
    · rw [State.ownRetune_lasting, State.modChain_lasting, h1]
    · rw [State.roundEnds_lasting, State.probed_lasting, State.checkRef_lasting, State.modRadio_lasting, h1]

@[simp] theorem coefStale_lasting (i : Nat) : (coefStale i s).lasting = s.lasting := by simp [coefStale]

/-! ## The rows of the baseband (07) -/

@[simp] theorem State.freezeRx_lasting (r : Nat) (level : Int) (d : Detect) : (s.freezeRx r level d).lasting = s.lasting := by
  simp [State.freezeRx]
@[simp] theorem detected_lasting (r : Nat) (level : Int) (d : Detect) : (detected r level d s).lasting = s.lasting := by
  simp [detected]
@[simp] theorem State.falseDet_lasting (r : Nat) : (s.falseDet r).lasting = s.lasting := by simp [State.falseDet]
@[simp] theorem lltfGone_lasting (r : Nat) : (lltfGone r s).lasting = s.lasting := by simp [lltfGone]
@[simp] theorem sigDone_lasting (r : Nat) (ok : Bool) (last : Option LtfForm) : (sigDone r ok last s).lasting = s.lasting := by
  unfold sigDone
  (repeat' split) <;> simp
@[simp] theorem restarted_lasting (r : Nat) (level : Int) (d : Detect) : (restarted r level d s).lasting = s.lasting := by
  simp [restarted]
@[simp] theorem captured_lasting (r : Nat) (level : Int) (d : Detect) : (captured r level d s).lasting = s.lasting := by
  simp [captured]

@[simp] theorem State.updateCsi_lasting (r id : Nat) (chains : List Nat) (stamp : NT64) (m : Measured) :
    (s.updateCsi r id chains stamp m).lasting = s.lasting := by
  unfold State.updateCsi
  split <;> simp

@[simp] theorem State.storeFeedback_lasting (r : Nat) (stamp : NT64) (m : Measured) :
    (s.storeFeedback r stamp m).lasting = s.lasting := by
  unfold State.storeFeedback
  split <;> simp

@[simp] theorem rxPpduEnds_lasting (r : Nat) (m : Measured) : (rxPpduEnds r m s).lasting = s.lasting :=
  State.ite_lasting rfl (by
  rw [State.toSearch_lasting, State.inc64_lasting, State.updateCsi_lasting, State.postMetrics_lasting]
  rfl)

@[simp] theorem State.openWindow_lasting (r : Nat) (of_ : WindowOf) (te len : Nat) (power : Int) :
    (s.openWindow r of_ te len power).lasting = s.lasting := by simp [State.openWindow]
@[simp] theorem tbOpen_lasting (r : Nat) (of_ : WindowOf) (te len : Nat) : (tbOpen r of_ te len s).lasting = s.lasting := by
  unfold tbOpen
  (repeat' split) <;> simp

@[simp] theorem State.tbUser_lasting (r : Nat) (stamp : NT64) (sound : Bool) (m : Measured) (i : Nat) :
    (s.tbUser r stamp sound m i).lasting = s.lasting := by
  unfold State.tbUser
  split
  · rw [State.postMetrics_lasting, State.countBB_lasting]
  · dsimp only
    split
    · rw [State.storeFeedback_lasting, State.mk_lasting, State.inc64_lasting, State.updateCsi_lasting, State.postMetrics_lasting]
    · rw [State.mk_lasting, State.inc64_lasting, State.updateCsi_lasting, State.postMetrics_lasting]

@[simp] theorem tbClose_lasting (r : Nat) (users : List Measured) : (tbClose r users s).lasting = s.lasting := by
  simp only [tbClose]
  (repeat' split) <;> simp
@[simp] theorem prefetch_lasting (id : Nat) (slow : List Nat) : (prefetch id slow s).lasting = s.lasting := by
  unfold prefetch
  split <;> simp
@[simp] theorem State.readHeads_lasting (r : Nat) (u : PlanUser) (dur : Nat) : (s.readHeads r u dur).lasting = s.lasting := by
  simp [State.readHeads]
@[simp] theorem precode_lasting (id : Nat) (rus : List RuPlan) : (precode id rus s).lasting = s.lasting := by
  unfold precode
  split <;> simp
@[simp] theorem State.explicitCheck_lasting (r : Nat) : (s.explicitCheck r).lasting = s.lasting := by simp [State.explicitCheck]
@[simp] theorem explicitTest_lasting (r : Nat) : (explicitTest r s).lasting = s.lasting := by simp [explicitTest]
@[simp] theorem soundTimer_lasting (sid r : Nat) : (soundTimer sid r s).lasting = s.lasting := by
  unfold soundTimer
  (repeat' split) <;> simp
@[simp] theorem State.bbSwap_lasting (r : Nat) (old : List Nat) (channel width : Bool) :
    (s.bbSwap r old channel width).lasting = s.lasting := by simp [State.bbSwap]
@[simp] theorem State.bbSuperframe_lasting : s.bbSuperframe.lasting = s.lasting := by simp [State.bbSuperframe]

/-! ## The rows of reset and containment (01 R27 to R34) -/

@[simp] theorem release_lasting (refsel : BitVec 2) (clkq : BitVec 3) (bootmode : BitVec 2) :
    (release refsel clkq bootmode s).lasting = s.lasting := by simp [release]
@[simp] theorem pwrReturn_lasting : (pwrReturn s).lasting = s.lasting := by simp [pwrReturn]
@[simp] theorem strobeFires_lasting (u : FUnit) (cause detail : Nat) : (strobeFires u cause detail s).lasting = s.lasting := by
  simp [strobeFires]
@[simp] theorem resetReached_lasting (u : FUnit) : (resetReached u s).lasting = s.lasting := by
  unfold resetReached
  split <;> simp

/-! ## The rows of the clock tree (02) -/

@[simp] theorem qualified_lasting (edges : Nat) (ppm : Int) : (qualified edges ppm s).lasting = s.lasting := by simp [qualified]
@[simp] theorem State.fcNoRef_lasting (n : Nat) : (s.fcNoRef n).lasting = s.lasting := by simp [State.fcNoRef]
@[simp] theorem State.setSource_lasting (d : Nat) (root : Bool) : (s.setSource d root).lasting = s.lasting := by
  simp [State.setSource]
@[simp] theorem State.enterRecovery_lasting (cause : Nat) : (s.enterRecovery cause).lasting = s.lasting := by
  simp [State.enterRecovery]
@[simp] theorem rootLocked_lasting : (rootLocked s).lasting = s.lasting := by simp [rootLocked]
@[simp] theorem State.rejoin_lasting (u : FUnit) : (s.rejoin u).lasting = s.lasting := by simp [State.rejoin]
@[simp] theorem clkEnable_lasting (r : Requester) (b : Nat) : (clkEnable r b s).lasting = s.lasting := by simp [clkEnable]
@[simp] theorem clkStarts_lasting (b : Nat) : (clkStarts b s).lasting = s.lasting := by
  unfold clkStarts
  (repeat' split) <;> simp
@[simp] theorem State.groupOff_lasting (b : Nat) : (s.groupOff b).lasting = s.lasting := by simp [State.groupOff]
@[simp] theorem clkDisable_lasting (r : Requester) (b : Nat) : (clkDisable r b s).lasting = s.lasting := by simp [clkDisable]
@[simp] theorem clkStops_lasting (b : Nat) : (clkStops b s).lasting = s.lasting := by simp [clkStops]
@[simp] theorem drainFails_lasting (b : Nat) : (drainFails b s).lasting = s.lasting := by
  unfold drainFails
  split <;> simp

@[simp] theorem switchGo_lasting (r : Requester) (d : Nat) (root : Bool) : (switchGo r d root s).lasting = s.lasting := by
  unfold switchGo
  refine State.ite_lasting rfl (State.access_lasting _ _ _ _ _ fun s => ?_)
  dsimp only
  split
  · rw [State.put_lasting, State.put_lasting]
  · refine State.ite_lasting ?_ ?_
    · rw [State.put_lasting, State.put_lasting]
    · rw [State.mk_lasting, State.put_lasting]

@[simp] theorem switchDone_lasting (d : Nat) : (switchDone d s).lasting = s.lasting := by
  unfold switchDone
  split
  · rw [State.put_lasting, State.setSource_lasting]
  · rfl

@[simp] theorem fcWrite_lasting (r : Requester) (n : Nat) (v : Word) : (fcWrite r n v s).lasting = s.lasting := by simp [fcWrite]

@[simp] theorem fcStart_lasting (r : Requester) (n sel exp : Nat) (evt : Bool) :
    (fcStart r n sel exp evt s).lasting = s.lasting := by simp [fcStart]
@[simp] theorem fcDone_lasting (n edges : Nat) : (fcDone n edges s).lasting = s.lasting := by
  unfold fcDone
  split <;> simp

/-! ## The rows of the mesh island (10) -/

@[simp] theorem meshDetect_lasting (d : MeshDetect) : (meshDetect d s).lasting = s.lasting := by simp [meshDetect]
@[simp] theorem State.meshSearch_lasting : s.meshSearch.lasting = s.lasting := by simp [State.meshSearch]
@[simp] theorem meshSfd_lasting (r0 r1 : Int) : (meshSfd r0 r1 s).lasting = s.lasting := by simp [meshSfd]
@[simp] theorem meshSfdGone_lasting : (meshSfdGone s).lasting = s.lasting := by simp [meshSfdGone]
@[simp] theorem meshRestart_lasting (level : Int) : (meshRestart level s).lasting = s.lasting := by simp [meshRestart]
@[simp] theorem meshPhr_lasting (len : Nat) (ok : Bool) : (meshPhr len ok s).lasting = s.lasting := by simp [meshPhr]
@[simp] theorem meshCapture_lasting (level : Int) : (meshCapture level s).lasting = s.lasting := by simp [meshCapture]
@[simp] theorem State.observeRouter_lasting (src local_ : Nat) : (s.observeRouter src local_).lasting = s.lasting := by
  unfold State.observeRouter
  split <;> simp
@[simp] theorem State.summarise_lasting (payload : List Byte) : (s.summarise payload).lasting = s.lasting := by
  simp [State.summarise]
@[simp] theorem State.meshWake_lasting (rule src : Nat) : (s.meshWake rule src).lasting = s.lasting := by simp [State.meshWake]
@[simp] theorem State.ackIn_lasting (src : Nat) (payload : List Byte) : (s.ackIn src payload).lasting = s.lasting := by
  unfold State.ackIn
  split <;> simp
@[simp] theorem State.openReply_lasting (src fc : Nat) : (s.openReply src fc).lasting = s.lasting := by simp [State.openReply]

@[simp] theorem State.meshAccept_lasting (b payload : List Byte) (stampMs : Nat) :
    (s.meshAccept b payload stampMs).lasting = s.lasting := by
  unfold State.meshAccept
  dsimp only
  split <;> simp

@[simp] theorem meshEnd_lasting (b : List Byte) (fcsOk : Bool) : (meshEnd b fcsOk s).lasting = s.lasting := by
  refine State.ite_lasting rfl ?_
  extract_lets s1 fctl dst src fc d named
  have h1 : s1.lasting = s.lasting := State.meshSearch_lasting ..
  have hi (p : FieldRef) : (s1.inc p).lasting = s.lasting := (State.inc_lasting ..).trans h1
  refine State.ite_lasting h1 (State.ite_lasting (hi _) (State.ite_lasting (hi _) (State.ite_lasting (hi _)
    (State.ite_lasting h1 (State.ite_lasting (hi _) (State.ite_lasting h1 ?_))))))
  split
  · exact hi _
  · refine State.ite_lasting (State.ite_lasting ((State.openReply_lasting ..).trans (hi _)) (hi _)) (State.ite_lasting ?_ ?_)
    · rw [State.postOnce_lasting, hi]
    · rw [State.meshAccept_lasting, h1]

@[simp] theorem replayExpired_lasting (src fc : Nat) : (replayExpired src fc s).lasting = s.lasting := by simp [replayExpired]
@[simp] theorem meshSf_lasting (s0 : State) : (meshSf s0).lasting = s0.lasting := by simp [meshSf]
@[simp] theorem slotStart_lasting : (slotStart s).lasting = s.lasting := by simp [slotStart]
@[simp] theorem meshBeacon_lasting (level : Int) : (meshBeacon level s).lasting = s.lasting := by
  simp only [meshBeacon]
  (repeat' split) <;> simp
@[simp] theorem replyTx_lasting (level : Int) : (replyTx level s).lasting = s.lasting := by
  simp only [replyTx]
  (repeat' split) <;> simp
@[simp] theorem State.sentInSlot_lasting (id : Nat) : (s.sentInSlot id).lasting = s.lasting := by simp [State.sentInSlot]
@[simp] theorem listenTx_lasting (level : Int) : (listenTx level s).lasting = s.lasting := by
  simp only [listenTx]
  (repeat' split) <;> simp
@[simp] theorem routerTx_lasting (id : Nat) (level : Int) : (routerTx id level s).lasting = s.lasting := by
  unfold routerTx
  (repeat' split) <;> simp
@[simp] theorem wakeTx_lasting (level : Int) : (wakeTx level s).lasting = s.lasting := by
  simp only [wakeTx]
  (repeat' split) <;> simp
@[simp] theorem listenNow_lasting (id : Nat) (level : Int) : (listenNow id level s).lasting = s.lasting := by
  unfold listenNow
  (repeat' split) <;> simp
@[simp] theorem meshTxDone_lasting : (meshTxDone s).lasting = s.lasting := by
  unfold meshTxDone
  (repeat' split) <;> simp
@[simp] theorem meshLifetime_lasting (id : Nat) : (meshLifetime id s).lasting = s.lasting := by
  unfold meshLifetime
  split <;> simp
@[simp] theorem routerAged_lasting (addr : Nat) : (routerAged addr s).lasting = s.lasting := by
  unfold routerAged
  split <;> simp
@[simp] theorem wuSignal_lasting (wua cmd : Nat) (crcOk : Bool) : (wuSignal wua cmd crcOk s).lasting = s.lasting := by
  unfold wuSignal
  (repeat' split) <;> simp
@[simp] theorem wuExpired_lasting : (wuExpired s).lasting = s.lasting := by
  unfold wuExpired
  split <;> simp
@[simp] theorem meshWatchdog_lasting : (meshWatchdog s).lasting = s.lasting := by
  unfold meshWatchdog
  split <;> simp
theorem State.queueDown_lasting (d : MeshDown) : ∀ t, s.queueDown d = some t → t.lasting = s.lasting :=
  State.ite_some_lasting (fun _ h => nomatch h) (State.some_lasting (State.modMesh_lasting ..))

@[simp] theorem meshDownlink_lasting : (meshDownlink s).lasting = s.lasting := by
  unfold meshDownlink
  split
  · rfl
  · extract_lets s1 h len life ok d
    have h1 : s1.lasting = s.lasting := State.modMesh_lasting ..
    refine State.ite_lasting ((State.refuseAt_lasting ..).trans h1) (State.ite_lasting ((State.inc_lasting ..).trans h1) ?_)
    split
    next hq => exact (State.queueDown_lasting _ _ _ hq).trans h1
    · exact (State.inc_lasting ..).trans h1

@[simp] theorem State.onMesh_lasting (c : Cmd) (ok : Bool) (act : State → State)
    (h : ∀ s, (act s).lasting = s.lasting) : (s.onMesh c ok act).lasting = s.lasting := by
  refine State.ite_lasting (State.complete_lasting ..) (State.ite_lasting (State.complete_lasting ..) ?_)
  split
  · exact State.ite_lasting (h s) ((State.complete_lasting ..).trans (State.refuseAt_lasting ..))
  · exact h s

@[simp] theorem nwSend_lasting (fn tag : Nat) (data : HostData) : (nwSend fn tag data s).lasting = s.lasting := by
  refine State.runCmd_lasting _ _ _ _ _ _ _ fun c s => State.onMesh_lasting _ _ _ _ fun s => ?_
  split
  · exact State.complete_lasting ..
  · extract_lets d
    split
    next hq => rw [State.takeUp_lasting, State.queueDown_lasting _ _ _ hq]
    · exact State.complete_lasting ..

@[simp] theorem nwWakeUp_lasting (fn tag : Nat) : (nwWakeUp fn tag s).lasting = s.lasting := by
  refine State.runCmd_lasting _ _ _ _ _ _ _ fun c s => State.onMesh_lasting _ _ _ _ fun s => ?_
  rw [State.modMesh_lasting, State.takeUp_lasting]
@[simp] theorem nwLoad_lasting (fn tag : Nat) : (nwLoad fn tag s).lasting = s.lasting := by
  refine State.runCmd_lasting _ _ _ _ _ _ _ fun c s => State.ite_lasting rfl (State.onMesh_lasting _ _ _ _ fun s => ?_)
  split <;> simp
@[simp] theorem nwErase_lasting (fn tag : Nat) : (nwErase fn tag s).lasting = s.lasting := by simp [nwErase]

/-! ## The rows of the cipher engine (12) -/

@[simp] theorem State.onSlot_lasting (c : Cmd) (slot : Nat) (ok : Bool) (act : State → State)
    (h : ∀ s, (act s).lasting = s.lasting) : (s.onSlot c slot ok act).lasting = s.lasting := by
  refine State.ite_lasting (State.complete_lasting ..) ?_
  split
  · exact (State.complete_lasting ..).trans (State.refuseAt_lasting ..)
  · exact State.ite_lasting ((State.complete_lasting ..).trans (State.isolationEvent_lasting ..)) (h s)

@[simp] theorem keyWrite_lasting (fn tag : Nat) (block : HostData) : (keyWrite fn tag block s).lasting = s.lasting := by
  unfold keyWrite
  split <;> simp
@[simp] theorem keyErase_lasting (fn tag : Nat) : (keyErase fn tag s).lasting = s.lasting := by simp [keyErase]
@[simp] theorem refEnd_lasting (op : Nat) : (refEnd op s).lasting = s.lasting := by
  unfold refEnd
  split <;> simp
@[simp] theorem keyProceed_lasting (slot : Nat) : (keyProceed slot s).lasting = s.lasting := by
  simp only [keyProceed]
  (repeat' split) <;> simp

@[simp] theorem keyErased_lasting (slot : Nat) : (keyErased slot s).lasting = s.lasting := by
  unfold keyErased
  dsimp only
  split <;> simp

@[simp] theorem cphCrypt_lasting (op fn tag : Nat) (data : HostData) : (cphCrypt op fn tag data s).lasting = s.lasting := by
  refine State.runCmd_lasting _ _ _ _ _ _ _ fun c s => ?_
  extract_lets slot o hw
  refine State.ite_lasting rfl (State.onSlot_lasting _ _ _ _ _ fun s => ?_)
  split
  · exact State.complete_lasting ..
  · refine State.ite_lasting (State.complete_lasting ..) (State.ite_lasting (State.complete_lasting ..) ?_)
    split
    · exact State.complete_lasting ..
    · refine State.ite_lasting rfl ?_
      have hd : (if hw then s.drawCounter slot else (some 0, s)).2.lasting = s.lasting := by
        split
        · exact State.drawCounter_lasting ..
        · rfl
      dsimp only
      split
      · rw [State.complete_lasting, hd]
      · rw [State.cphAdmit_lasting, State.takeUp_lasting, hd]

@[simp] theorem serviceDone_lasting (op : Nat) : (serviceDone op s).lasting = s.lasting := by
  unfold serviceDone
  (repeat' split) <;> simp

/-! ## The rows of the packet path (11) -/

@[simp] theorem State.hit_lasting (i : Nat) : (s.hit i).lasting = s.lasting := by simp [State.hit]

@[simp] theorem State.classify_lasting (src tenant : Nat) (bs : List Byte) (vxlan : Bool) (up : Nat) :
    (s.classify src tenant bs vxlan up).2.lasting = s.lasting := by
  simp only [State.classify]
  (repeat' split) <;> simp

@[simp] theorem State.learn_lasting (x : PktCtx) : (s.learn x).lasting = s.lasting := by
  simp only [State.learn]
  (repeat' split) <;> simp

@[simp] theorem State.sendCopy_lasting (x : PktCtx) (routed : Bool) (yellow : Option Nat) (d : Dest) :
    (s.sendCopy x routed yellow d).lasting = s.lasting := by
  unfold State.sendCopy
  dsimp only
  split <;> simp

@[simp] theorem State.police_lasting (x : PktCtx) : (s.police x).2.lasting = s.lasting := by
  simp only [State.police]
  (repeat' split) <;> simp

@[simp] theorem State.deliver_lasting (x : PktCtx) (routed : Bool) (ds : List Dest) :
    (s.deliver x routed ds).lasting = s.lasting := by
  unfold State.deliver
  refine State.ite_lasting rfl ?_
  have hp := s.police_lasting x
  split <;> rename_i heq <;> rw [heq] at hp
  · rw [State.inc_lasting, hp]
  · exact (State.foldl_lasting fun s d => s.sendCopy_lasting ..).trans hp

@[simp] theorem State.viaNextHop_lasting (x : PktCtx) (routed mtu : Bool) (h : Option NextHop) :
    (s.viaNextHop x routed mtu h).lasting = s.lasting := by
  unfold State.viaNextHop
  (repeat' split) <;> simp

@[simp] theorem State.routeFound_lasting (x : PktCtx) (r : Option PktRoute) : (s.routeFound x r).lasting = s.lasting := by
  unfold State.routeFound
  split <;> simp
@[simp] theorem State.forward_lasting (s0 : State) (x : PktCtx) : (s0.forward x).lasting = s0.lasting := by simp [State.forward]
@[simp] theorem pipeline_lasting (src : Nat) : (pipeline src s).lasting = s.lasting := by
  simp only [pipeline]
  (repeat' split) <;> simp
@[simp] theorem lpmResult_lasting (src : Nat) (ok : Bool) : (lpmResult src ok s).lasting = s.lasting := by
  unfold lpmResult
  split <;> simp
@[simp] theorem fdbAged_lasting (tenant addr : Nat) : (fdbAged tenant addr s).lasting = s.lasting := by
  unfold fdbAged
  split <;> simp
@[simp] theorem flowAged_lasting (key : Nat) : (flowAged key s).lasting = s.lasting := by
  unfold flowAged
  split <;> simp
@[simp] theorem qdepthSel_lasting (r : Requester) (v : Word) : (qdepthSel r v s).lasting = s.lasting := by simp [qdepthSel]

@[simp] theorem State.pktCmd_lasting (fn tag opcode : Nat) (fits ok : Cmd → Bool) (act : Cmd → State → State)
    (h : ∀ c s, (act c s).lasting = s.lasting) : (s.pktCmd fn tag opcode fits ok act).lasting = s.lasting := by
  refine State.runCmd_lasting _ _ _ _ _ _ _ fun c s => State.ite_lasting rfl (State.ite_lasting (State.complete_lasting ..) ?_)
  split
  · exact (State.complete_lasting ..).trans (State.refuseAt_lasting ..)
  · exact h c s

@[simp] theorem ruleWrite_lasting (fn tag : Nat) (data : HostData) : (ruleWrite fn tag data s).lasting = s.lasting := by
  unfold ruleWrite
  split <;> simp
@[simp] theorem ruleClear_lasting (fn tag : Nat) : (ruleClear fn tag s).lasting = s.lasting := by simp [ruleClear]
@[simp] theorem routeAdd_lasting (fn tag : Nat) : (routeAdd fn tag s).lasting = s.lasting := by simp [routeAdd]
@[simp] theorem routeDelete_lasting (fn tag : Nat) : (routeDelete fn tag s).lasting = s.lasting := by simp [routeDelete]
@[simp] theorem nextHopWrite_lasting (fn tag : Nat) : (nextHopWrite fn tag s).lasting = s.lasting := by simp [nextHopWrite]
@[simp] theorem nextHopDelete_lasting (fn tag : Nat) : (nextHopDelete fn tag s).lasting = s.lasting := by simp [nextHopDelete]
@[simp] theorem fdbWrite_lasting (fn tag : Nat) : (fdbWrite fn tag s).lasting = s.lasting := by simp [fdbWrite]
@[simp] theorem fdbDelete_lasting (fn tag : Nat) : (fdbDelete fn tag s).lasting = s.lasting := by simp [fdbDelete]
@[simp] theorem flowAdd_lasting (fn tag : Nat) : (flowAdd fn tag s).lasting = s.lasting := by simp [flowAdd]
@[simp] theorem flowDelete_lasting (fn tag : Nat) : (flowDelete fn tag s).lasting = s.lasting := by simp [flowDelete]
@[simp] theorem rangeSet_lasting (fn tag : Nat) : (rangeSet fn tag s).lasting = s.lasting := by simp [rangeSet]
@[simp] theorem rangeDisable_lasting (fn tag : Nat) : (rangeDisable fn tag s).lasting = s.lasting := by simp [rangeDisable]
@[simp] theorem tunnelWrite_lasting (fn tag : Nat) (data : HostData) : (tunnelWrite fn tag data s).lasting = s.lasting := by
  unfold tunnelWrite
  split <;> simp
@[simp] theorem tunnelClear_lasting (fn tag : Nat) : (tunnelClear fn tag s).lasting = s.lasting := by simp [tunnelClear]
@[simp] theorem policerWrite_lasting (fn tag : Nat) : (policerWrite fn tag s).lasting = s.lasting := by
  refine State.pktCmd_lasting _ _ _ _ _ _ _ fun c s => ?_
  split <;> simp

/-! ## The rows of the MAC (08) -/

@[simp] theorem macTx_lasting (fn tag : Nat) (data : HostData) (air : Nat) : (macTx fn tag data air s).lasting = s.lasting := by
  refine State.runCmd_lasting _ _ _ _ _ _ _ fun c s => ?_
  extract_lets
  refine State.ite_lasting (State.complete_lasting ..) ?_
  split
  · exact State.complete_lasting ..
  · extract_lets
    refine State.ite_lasting (State.complete_lasting ..) (State.ite_lasting (State.complete_lasting ..) (State.ite_lasting
        (State.complete_lasting ..)
      (State.ite_lasting (State.complete_lasting ..) ?_)))
    split
    · simp
    · refine State.ite_lasting (State.complete_lasting ..) ?_
      extract_lets
      split
      · simp
      · refine State.ite_lasting (State.complete_lasting ..) ?_
        rw [State.mk_lasting, State.takeUp_lasting]

@[simp] theorem staAdd_lasting (fn tag : Nat) : (staAdd fn tag s).lasting = s.lasting := by
  refine State.runCmd_lasting _ _ _ _ _ _ _ fun c s => State.ite_lasting (State.complete_lasting ..) ?_
  extract_lets
  split
  · simp
  · refine State.ite_lasting (State.complete_lasting ..) (State.ite_lasting (State.complete_lasting ..)
      (State.ite_lasting (State.complete_lasting ..) (State.ite_lasting (State.complete_lasting ..) ?_)))
    rw [State.complete_lasting, State.foldl_lasting fun s l => s.addStationFdb_lasting .., State.mk_lasting]

@[simp] theorem staDel_lasting (fn tag : Nat) : (staDel fn tag s).lasting = s.lasting := by
  refine State.runCmd_lasting _ _ _ _ _ _ _ fun c s => State.ite_lasting (State.complete_lasting ..) ?_
  split
  · exact State.complete_lasting ..
  · extract_lets s1 ids s2 s3 s4 drop
    have h2 : s2.lasting = s1.lasting := State.foldl_lasting fun s id => State.ite_lasting (State.dropAt_lasting ..)
        (State.endFrame_lasting ..)
    rw [State.mk_lasting, State.foldl_lasting fun s t => s.endAgreement_lasting .., State.foldl_lasting fun s t =>
        s.endAgreement_lasting .., h2,
      State.modSta_lasting, State.takeUp_lasting]

@[simp] theorem staDelDone_lasting (sid : Nat) : (staDelDone sid s).lasting = s.lasting := by
  simp only [staDelDone]
  (repeat' split) <;> simp
@[simp] theorem State.setBa_lasting (sid tid dir size sn : Nat) : (s.setBa sid tid dir size sn).lasting = s.lasting := by
  simp [State.setBa]

@[simp] theorem baSet_lasting (fn tag : Nat) : (baSet fn tag s).lasting = s.lasting := by
  refine State.runCmdIf_lasting _ _ _ _ _ _ _ _ fun c s => State.ite_lasting (State.complete_lasting ..) ?_
  split
  · exact State.complete_lasting ..
  · exact State.ite_lasting (State.complete_lasting ..) ((State.complete_lasting ..).trans (State.setBa_lasting ..))

@[simp] theorem baDelete_lasting (fn tag : Nat) : (baDelete fn tag s).lasting = s.lasting := by
  refine State.runCmdIf_lasting _ _ _ _ _ _ _ _ fun c s => State.ite_lasting (State.complete_lasting ..) ?_
  split
  · exact State.complete_lasting ..
  · exact State.ite_lasting (State.complete_lasting ..) ((State.complete_lasting ..).trans (State.endAgreement_lasting ..))

@[simp] theorem twtSetup_lasting (fn tag : Nat) : (twtSetup fn tag s).lasting = s.lasting := by
  refine State.runCmdIf_lasting _ _ _ _ _ _ _ _ fun c s => State.ite_lasting (State.complete_lasting ..) ?_
  split
  · simp
  · split
    · simp
    · refine State.ite_lasting (State.complete_lasting ..) ?_
      split <;> simp

@[simp] theorem twtDelete_lasting (fn tag : Nat) : (twtDelete fn tag s).lasting = s.lasting := by
  refine State.runCmdIf_lasting _ _ _ _ _ _ _ _ fun c s => State.ite_lasting (State.complete_lasting ..) ?_
  split
  · simp
  · split
    · simp
    · refine State.ite_lasting ?_ ?_ <;> simp

@[simp] theorem detFlow_lasting (fn tag : Nat) : (detFlow fn tag s).lasting = s.lasting := by
  refine State.runCmdIf_lasting _ _ _ _ _ _ _ _ fun c s => State.ite_lasting (State.complete_lasting ..) ?_
  split
  · simp
  · split
    · simp
    · refine State.ite_lasting (State.complete_lasting ..) ?_
      dsimp only
      split
      · simp
      · refine State.ite_lasting ?_ ?_ <;> simp

@[simp] theorem detFlowDelete_lasting (fn tag : Nat) : (detFlowDelete fn tag s).lasting = s.lasting := by
  refine State.runCmdIf_lasting _ _ _ _ _ _ _ _ fun c s => State.ite_lasting (State.complete_lasting ..) ?_
  split
  · simp
  · split
    · simp
    · refine State.ite_lasting (State.complete_lasting ..) ?_
      split <;> simp

@[simp] theorem State.soundAsked_lasting (r : Nat) (l : List Ppdu) : (s.soundAsked r l).lasting = s.lasting := by
  simp [State.soundAsked]
@[simp] theorem freeze_lasting (r : Nat) : (freeze r s).lasting = s.lasting := by simp [freeze]
@[simp] theorem State.barAfter_lasting (f : Frame) : (s.barAfter f).lasting = s.lasting := by
  unfold State.barAfter
  split <;> simp

@[simp] theorem State.dropLife_lasting (r id : Nat) : (s.dropLife r id).lasting = s.lasting :=
  State.foldl_lasting fun s k => by
  split
  · rw [State.dropAt_lasting, State.barAfter_lasting]
  · rfl

@[simp] theorem State.firstCut_lasting (r id : Nat) : (s.firstCut r id).2.lasting = s.lasting := by
  unfold State.firstCut
  split
  · rfl
  next f _ =>
    refine State.ite_snd_lasting rfl (State.ite_snd_lasting rfl (State.ite_snd_lasting (State.dropAt_lasting ..) ?_))
    extract_lets protect
    have hp : (protect.getD (true, s)).2.lasting = s.lasting := by
      dsimp only [protect]
      cases s.frameSlot r f with
      | none => rfl
      | some k =>
        refine State.ite_snd_lasting ?_ (State.ite_snd_lasting ?_ ?_)
        · rw [State.endFrame_lasting, State.refuseAt_lasting]
        · rw [State.endFrame_lasting]
          split <;> simp
        · split
          · simp
          · refine State.ite_snd_lasting ?_ (by simp)
            have hd := s.drawCounter_lasting k
            split <;> rename_i heq <;> rw [heq] at hd
            · rw [State.endFrame_lasting, State.countPage_lasting, hd]
            · rw [State.modFrame_lasting, State.cphAdmit_lasting, hd]
    generalize protect.getD (true, s) = q at hp ⊢
    refine State.ite_snd_lasting hp (State.ite_snd_lasting ?_ ?_)
    · rw [State.modFrame_lasting, State.draw_lasting, hp]
    · rw [State.modFrame_lasting, State.modSta_lasting, hp]

@[simp] theorem State.takeFrame_lasting (r : Nat) (of_ : LaunchOf) (id : Nat) : (s.takeFrame r of_ id).lasting = s.lasting := by
  unfold State.takeFrame
  (repeat' split) <;> simp

@[simp] theorem State.fillStep_lasting (r : Nat) (of_ : LaunchOf) (a : State × Fill) (id : Nat) :
    (s.fillStep r of_ a id).1.lasting = a.1.lasting := by
  obtain ⟨t, k⟩ := a
  unfold State.fillStep
  dsimp only
  split
  · rfl
  next f _ =>
    refine State.ite_fst_lasting rfl (State.ite_fst_lasting rfl (State.ite_fst_lasting (State.ite_fst_lasting
        (State.takeFrame_lasting ..) rfl)
      (State.ite_fst_lasting (State.dropLife_lasting ..) (State.ite_fst_lasting (State.ite_fst_lasting (State.dropAt_lasting ..)
          (State.inc_lasting ..)) ?_))))
    split
    · exact State.ite_fst_lasting rfl ((State.takeFrame_lasting ..).trans (State.modFrame_lasting ..))
    · refine State.ite_fst_lasting rfl ?_
      have hf := t.firstCut_lasting r id
      split <;> rename_i heq <;> rw [heq] at hf
      · exact hf
      · exact (State.takeFrame_lasting ..).trans hf

@[simp] theorem State.sealMpdu_lasting (r id : Nat) : (s.sealMpdu r id).lasting = s.lasting := by
  simp only [State.sealMpdu]
  (repeat' split) <;> simp

@[simp] theorem cutPlan_lasting (r id : Nat) (room : List Nat) : (cutPlan r id room s).lasting = s.lasting := by
  unfold cutPlan
  split
  · rfl
  · refine State.ite_lasting rfl ?_
    extract_lets fill
    have hfill (acc : State × List PlanUser) (ui : PlanUser × Nat) : (fill acc ui).1.lasting = acc.1.lasting := by
      refine State.ite_fst_lasting rfl ?_
      exact (State.foldl_lasting fun s k => s.sealMpdu_lasting r k).trans (State.foldl_fst_lasting fun a k => State.fillStep_lasting
          ..)
    rw [State.modPpdu_lasting]
    exact State.ite_lasting (State.foldl_fst_lasting hfill) ((State.inc_lasting ..).trans (State.foldl_fst_lasting hfill))

@[simp] theorem cutOne_lasting (r : Nat) (of_ : LaunchOf) (id t : Nat) : (cutOne r of_ id t s).lasting = s.lasting := by
  unfold cutOne
  split
  · rfl
  · refine State.ite_lasting rfl (State.ite_lasting (State.dropLife_lasting ..) (State.ite_lasting (State.ite_lasting ?_ ?_) ?_))
    · simp
    · rw [State.readFrame_lasting, State.inc_lasting]
    · have hf := s.firstCut_lasting r id
      split <;> rename_i heq <;> rw [heq] at hf
      · exact hf
      · rw [State.sealMpdu_lasting, State.takeFrame_lasting, hf]

@[simp] theorem cutOff_lasting (r : Nat) (of_ : LaunchOf) (t0 : Nat) (room : List Nat) :
    (cutOff r of_ t0 room s).lasting = s.lasting := by
  unfold cutOff
  (repeat' split) <;> simp

@[simp] theorem State.unacked_lasting (r id : Nat) : (s.unacked r id).lasting = s.lasting := by
  unfold State.unacked
  split <;> simp
@[simp] theorem State.attempt_lasting (r id st : Nat) : (s.attempt r id st).lasting = s.lasting := by simp [State.attempt]
@[simp] theorem State.notSent_lasting (r id st : Nat) : (s.notSent r id st).lasting = s.lasting := by
  unfold State.notSent
  split <;> simp
@[simp] theorem State.served_lasting (r : Nat) (of_ : LaunchOf) (ids : List Nat) : (s.served r of_ ids).lasting = s.lasting :=
  (State.foldl_lasting fun _ _ => State.modSta_lasting ..).trans (State.foldl_lasting fun _ _ => State.modSta_lasting ..)

@[simp] theorem outcome_lasting (r : Nat) (of_ : LaunchOf) (acked : List Nat) : (outcome r of_ acked s).lasting = s.lasting := by
  unfold outcome
  split
  · rfl
  · extract_lets st ids sids s1 s2 served s3 s4 x src mac s5
    have h2 : s2.lasting = s.lasting := by
      dsimp only [s2]
      split
      · rw [State.modPpdu_lasting, State.foldl_lasting fun _ _ => State.modSta_lasting .., State.modRadio_lasting]
      · exact State.modRadio_lasting ..
    have h3 : s3.lasting = s2.lasting := by
      refine (State.foldl_lasting fun s id => ?_).trans (State.served_lasting ..)
      have ha := s.attempt_lasting r id 0
      dsimp only
      split
      · exact ha
      · refine State.ite_lasting ((State.endFrame_lasting ..).trans ?_) (State.ite_lasting ?_ ?_)
        · exact State.ite_lasting ((State.inc64_lasting ..).trans ha) ha
        · rw [State.endFrame_lasting, ha]
        · rw [State.unacked_lasting, ha]
    have h4 : s4.lasting = s2.lasting := State.foldl_lasting fun s id => State.notSent_lasting ..
    have h5 : s5.lasting = s2.lasting := State.ite_lasting ((State.mk_lasting ..).trans ((State.inc_lasting ..).trans h4)) h4
    refine State.ite_lasting ?_ (State.ite_lasting ?_ (State.ite_lasting (h5.trans h2) (h5.trans h2)))
    · rw [State.foldl_lasting fun _ _ => State.modSta_lasting .., h3, h2]
    · rw [State.foldl_lasting, h2]
      exact fun s id => by rw [State.unacked_lasting, State.attempt_lasting]

@[simp] theorem State.rxTag_lasting (m : RxMpdu) (sid : Nat) (slot : Option Nat) : (s.rxTag m sid slot).2.lasting = s.lasting := by
  unfold State.rxTag
  (repeat' split) <;> simp

@[simp] theorem State.rxAccept_lasting (m : RxMpdu) (sid : Nat) (x : Sta) : (s.rxAccept m sid x).lasting = s.lasting := by
  unfold State.rxAccept
  dsimp only
  split <;> simp

@[simp] theorem mpduIn_lasting (m : RxMpdu) : (mpduIn m s).lasting = s.lasting := by
  unfold mpduIn
  extract_lets r least
  refine State.ite_lasting rfl (State.ite_lasting rfl (State.ite_lasting (State.inc_lasting ..) (State.ite_lasting
      (State.inc_lasting ..)
    (State.ite_lasting rfl (State.ite_lasting rfl (State.ite_lasting (State.countReject_lasting ..) ?_))))))
  split
  · exact State.ite_lasting rfl ((State.toHost_lasting ..).trans (State.inc_lasting ..))
  next sid _ _ =>
    extract_lets s1
    have h1 : s1.lasting = s.lasting := State.modSta_lasting ..
    split
    · exact h1
    next x _ =>
      refine State.ite_lasting ?_ ?_
      · split
        · exact State.ite_lasting h1 (by rw [State.releaseInOrder_lasting, State.moveWindow_lasting, h1])
        · exact h1
      · have ht := s1.rxTag_lasting m sid x.keySlot
        split <;> rename_i heq <;> rw [heq] at ht
        · exact ht.trans h1
        · rw [State.rxAccept_lasting, ht, h1]

@[simp] theorem reorderOut_lasting (sid tid : Nat) : (reorderOut sid tid s).lasting = s.lasting := by
  unfold reorderOut
  (repeat' split) <;> simp
@[simp] theorem lifeOut_lasting (id : Nat) : (lifeOut id s).lasting = s.lasting := by
  unfold lifeOut
  split <;> simp
@[simp] theorem addba_lasting (sid tid size sn : Nat) : (addba sid tid size sn s).lasting = s.lasting := by
  unfold addba
  split <;> simp
@[simp] theorem agreementOut_lasting (sid tid dir : Nat) : (agreementOut sid tid dir s).lasting = s.lasting := by
  unfold agreementOut
  split <;> simp

/-! ## The rows of the host interface (13) -/

@[simp] theorem linkUp_lasting (speed width : Nat) : (linkUp speed width s).lasting = s.lasting := by simp [linkUp]
@[simp] theorem State.linkDown_lasting : s.linkDown.lasting = s.lasting := by simp [State.linkDown]
@[simp] theorem State.linkFaults_lasting : s.linkFaults.lasting = s.lasting := by simp [State.linkFaults]
@[simp] theorem perst_lasting : (perst s).lasting = s.lasting := by simp [perst]
@[simp] theorem hotReset_lasting : (hotReset s).lasting = s.lasting := by simp [hotReset]
@[simp] theorem linkLoss_lasting : (linkLoss s).lasting = s.lasting := by simp [linkLoss]
@[simp] theorem State.resetFn_lasting (f : Nat) : (s.resetFn f).lasting = s.lasting := by simp [State.resetFn]
@[simp] theorem State.flrFn_lasting (f : Nat) : (s.flrFn f).lasting = s.lasting := by simp [State.flrFn]
@[simp] theorem configRequest_lasting (q : ConfigReq) : (configRequest q s).lasting = s.lasting := by
  unfold configRequest
  (repeat' split) <;> simp
@[simp] theorem State.badDoorbell_lasting (f a : Nat) : (s.badDoorbell f a).lasting = s.lasting := by simp [State.badDoorbell]
@[simp] theorem State.doorbell_lasting (r : Requester) (f a : Nat) (always : Bool) (act : State → State)
    (h : ∀ s, (act s).lasting = s.lasting) : (s.doorbell r f a always act).lasting = s.lasting :=
  State.access_lasting _ _ _ _ _ fun s => State.ite_lasting rfl (h s)
@[simp] theorem sqTail_lasting (r : Requester) (f n : Nat) (v : Word) : (sqTail r f n v s).lasting = s.lasting := by
  refine State.ite_lasting rfl (State.doorbell_lasting _ _ _ _ _ _ fun s => ?_)
  exact State.ite_lasting (State.badDoorbell_lasting ..) (State.put_lasting ..)
@[simp] theorem State.ringFreeN_lasting (f kind n k : Nat) : (s.ringFreeN f kind n k).lasting = s.lasting := by
  simp [State.ringFreeN]

@[simp] theorem cqHead_lasting (r : Requester) (f n : Nat) (v : Word) : (cqHead r f n v s).lasting = s.lasting := by
  refine State.ite_lasting rfl (State.doorbell_lasting _ _ _ _ _ _ fun s => ?_)
  dsimp only
  split
  · simp
  · rw [State.put_lasting, State.ringFreeN_lasting, State.mapCmds_lasting]

@[simp] theorem rqHead_lasting (r : Requester) (f n : Nat) (v : Word) : (rqHead r f n v s).lasting = s.lasting := by
  refine State.ite_lasting rfl (State.doorbell_lasting _ _ _ _ _ _ fun s => ?_)
  split <;> simp

@[simp] theorem bqTail_lasting (r : Requester) (f n : Nat) (v : Word) (addrs : List NT64) :
    (bqTail r f n v addrs s).lasting = s.lasting := by
  refine State.ite_lasting rfl (State.doorbell_lasting _ _ _ _ _ _ fun s => ?_)
  refine State.ite_lasting (State.badDoorbell_lasting ..) (State.ite_lasting rfl ?_)
  rw [State.put_lasting, State.foldl_lasting fun s _ => by rw [State.badDoorbell_lasting, State.inc_lasting], State.mk_lasting]

@[simp] theorem evqHead_lasting (r : Requester) (f : Nat) (v : Word) : (evqHead r f v s).lasting = s.lasting := by
  refine State.ite_lasting rfl (State.doorbell_lasting _ _ _ _ _ _ fun s => ?_)
  split <;> simp
@[simp] theorem fetch_lasting (f n : Nat) (desc : HostData) : (fetch f n desc s).lasting = s.lasting := by
  unfold fetch
  (repeat' split) <;> simp
@[simp] theorem modTimer_lasting (f kind n : Nat) : (modTimer f kind n s).lasting = s.lasting := by simp [modTimer]

@[simp] theorem State.eclipseFn_lasting (f : Nat) (issuer : Option (Nat × Nat)) (flr : Bool) :
    (s.eclipseFn f issuer flr).lasting = s.lasting := by
  unfold State.eclipseFn
  rw [State.dropFnWork_lasting, State.put_lasting, State.foldl_lasting fun s w => s.dropConsumer_lasting _, State.mk_lasting,
    State.mapCmds_lasting, State.withdrawUnit_lasting]

@[simp] theorem State.cutFrame_lasting (r id : Nat) : (s.cutFrame r id).lasting = s.lasting := by simp [State.cutFrame]

@[simp] theorem State.eclipseRadio_lasting (r : Nat) (issuer : Option (Nat × Nat)) :
    (s.eclipseRadio r issuer).lasting = s.lasting := by
  unfold State.eclipseRadio
  extract_lets late s0 hard0 air airIds hard single back e s1 s2 s3 s4 ids s5 s6
  have h0 : s0.lasting = s.lasting := (State.foldl_lasting fun _ _ => State.complete_lasting ..).trans (State.withdrawUnit_lasting
      ..)
  have h1 : s1.lasting = s0.lasting := by
    cases h : s0.onAir r <;> simp [s1, h]
  rw [State.mk_lasting, State.modRadio_lasting, State.foldl_lasting fun _ _ => State.modPpdu_lasting .., State.foldl_lasting fun s
      id => s.returnFrame_lasting id,
    State.foldl_lasting fun s id => s.endFrame_lasting id 1, State.foldl_lasting fun s id => s.cutFrame_lasting r id, h1, h0]

@[simp] theorem eclipseFunction_lasting (fn tag : Nat) : (eclipseFunction fn tag s).lasting = s.lasting := by
  refine State.runCmdIf_lasting _ _ _ _ _ _ _ _ fun c s => State.ite_lasting (State.complete_lasting ..) ?_
  split
  · exact State.complete_lasting ..
  · exact (State.eclipseFn_lasting ..).trans (State.takeUp_lasting ..)

@[simp] theorem eclipseOfRadio_lasting (fn tag : Nat) : (eclipseOfRadio fn tag s).lasting = s.lasting := by
  refine State.runCmdIf_lasting _ _ _ _ _ _ _ _ fun c s => State.ite_lasting (State.complete_lasting ..) ?_
  split
  · exact State.complete_lasting ..
  · rw [State.eclipseRadio_lasting, State.takeUp_lasting]

@[simp] theorem ctrlEclipse_lasting (r : Requester) (f : Nat) : (ctrlEclipse r f s).lasting = s.lasting := by
  refine State.ite_lasting rfl (State.access_lasting _ _ _ _ _ fun s => ?_)
  split
  · exact State.put_lasting ..
  · exact State.eclipseFn_lasting ..

@[simp] theorem ctrlClear_lasting (r : Requester) (f : Nat) : (ctrlClear r f s).lasting = s.lasting := by simp [ctrlClear]
@[simp] theorem State.eclipseRecord_lasting (kind index n : Nat) (tags : List (Nat × Nat × Nat)) :
    (s.eclipseRecord kind index n tags).lasting = s.lasting := by simp [State.eclipseRecord]

@[simp] theorem eclipseDone_lasting (radio : Bool) (index : Nat) : (eclipseDone radio index s).lasting = s.lasting := by
  refine State.ite_lasting rfl ?_
  split
  · rfl
  next e _ =>
    extract_lets s1 s2 src s3 s4
    have h1 : s1.lasting = s.lasting := State.eclipseRecord_lasting ..
    have h2 : s2.lasting = s.lasting := by
      dsimp only [s2]
      split
      · exact (State.complete_lasting ..).trans h1
      · exact State.ite_lasting h1 ((State.put_lasting ..).trans h1)
    have h4 : s4.lasting = s.lasting := State.ite_lasting h2 ((State.disableRings_lasting ..).trans h2)
    exact State.ite_lasting ((State.flrFn_lasting ..).trans h4) h4

@[simp] theorem flr_lasting (f : Nat) : (flr f s).lasting = s.lasting := by
  unfold flr
  (repeat' split) <;> simp

/-! ## The rows of the task scheduler (13 R397 to R407) -/

@[simp] theorem State.setAsk_lasting (c : Nat) (x : Credit) : (s.setAsk c x).lasting = s.lasting := by simp [State.setAsk]
@[simp] theorem State.giveItem_lasting (c idx : Nat) (i : Item) : (s.giveItem c idx i).lasting = s.lasting := by
  simp [State.giveItem]
@[simp] theorem deliverItem_lasting (c : Nat) : (deliverItem c s).lasting = s.lasting := by
  unfold deliverItem
  (repeat' split) <;> simp
@[simp] theorem askWrite_lasting (r : Requester) (f w : Nat) (v : Word) : (askWrite r f w v s).lasting = s.lasting := by
  simp [askWrite]
@[simp] theorem askCancel_lasting (r : Requester) (f w : Nat) (v : Word) : (askCancel r f w v s).lasting = s.lasting := by
  simp [askCancel]
@[simp] theorem releaseWrite_lasting (r : Requester) (f w : Nat) (v : Word) : (releaseWrite r f w v s).lasting = s.lasting := by
  simp [releaseWrite]
@[simp] theorem atomicExpired_lasting (idx : Nat) : (atomicExpired idx s).lasting = s.lasting := by
  unfold atomicExpired
  (repeat' split) <;> simp
@[simp] theorem maxWaited_lasting (idx : Nat) : (maxWaited idx s).lasting = s.lasting := by
  unfold maxWaited
  split <;> simp
@[simp] theorem askLapse_lasting (w : Nat) : (askLapse w s).lasting = s.lasting := by simp [askLapse]

@[simp] theorem submit_lasting (fn tag : Nat) (data : HostData) : (submit fn tag data s).lasting = s.lasting := by
  refine State.runCmd_lasting _ _ _ _ _ _ _ fun c s => State.ite_lasting (State.complete_lasting ..)
    (State.ite_lasting (State.complete_lasting ..) ?_)
  split
  · exact State.complete_lasting ..
  · dsimp only
    split
    · rw [State.complete_lasting, State.enqueue_lasting]
    · split
      · rw [State.complete_lasting, State.enqueue_lasting]
      · rw [State.enqueue_lasting]

@[simp] theorem inject_lasting (fn tag : Nat) (data : HostData) : (inject fn tag data s).lasting = s.lasting := by
  refine State.runCmd_lasting _ _ _ _ _ _ _ fun c s => State.ite_lasting (State.complete_lasting ..) ?_
  split
  · simp
  · split
    · simp
    · refine State.ite_lasting ?_ (State.ite_lasting ?_ ?_) <;> simp

@[simp] theorem State.rollTasks_lasting : s.rollTasks.lasting = s.lasting := by simp [State.rollTasks]
@[simp] theorem State.taskSuperframe_lasting : s.taskSuperframe.lasting = s.lasting := by simp [State.taskSuperframe]

/-! ## The rows of the ports and Tile Links (14) -/

@[simp] theorem State.secIn_lasting (sub : Nat) (bytes : List Byte) (sec : Option EthSec) :
    (s.secIn sub bytes sec).2.lasting = s.lasting := by
  simp only [State.secIn]
  (repeat' split) <;> simp

@[simp] theorem frameIn_lasting (sub : Nat) (bytes : List Byte) (fcsOk : Bool) (sec : Option EthSec) :
    (frameIn sub bytes fcsOk sec s).lasting = s.lasting := by
  refine State.ite_lasting rfl (State.ite_lasting (State.inc_lasting ..) (State.ite_lasting (State.inc_lasting ..)
    (State.ite_lasting (State.inc_lasting ..) ?_)))
  extract_lets s1
  have h1 : s1.lasting = s.lasting := State.inc64_lasting ..
  refine State.ite_lasting ((State.inc_lasting ..).trans h1) (State.ite_lasting ((State.inc_lasting ..).trans h1) ?_)
  have h2 : (s1.secIn sub bytes sec).2.lasting = s.lasting := (State.secIn_lasting ..).trans h1
  exact State.ite_lasting (State.ite_lasting h2 ((State.ingress_lasting ..).trans h2)) h2

@[simp] theorem State.dropHead_lasting (sub q : Nat) (cnt : FieldRef) : (s.dropHead sub q cnt).lasting = s.lasting := by
  simp [State.dropHead]

@[simp] theorem State.dropStale_lasting (sub q n : Nat) : (s.dropStale sub q n).lasting = s.lasting := by
  induction n generalizing s with
  | zero => rfl
  | succ n ih =>
    unfold State.dropStale
    split
    · rfl
    · refine State.ite_lasting ((ih _).trans ?_) (State.ite_lasting ((ih _).trans ?_) ?_)
      · rw [State.dropHead_lasting]
      · rw [State.watchDrop_lasting, State.dropHead_lasting]
      · split
        · exact State.ite_lasting ((ih _).trans (by rw [State.mk_lasting, State.dropHead_lasting])) rfl
        · rfl

@[simp] theorem State.secOut_lasting (sub : Nat) (body : List Byte) : (s.secOut sub body).2.lasting = s.lasting := by
  refine State.ite_snd_lasting rfl (State.ite_snd_lasting (State.refuseAt_lasting ..) (State.ite_snd_lasting ?_ ?_))
  · rw [State.isolationEvent_lasting, State.countPage_lasting]
  · split
    · exact State.countPage_lasting ..
    · have hd := s.drawCounter_lasting (s.eth.txSa.getD sub 0)
      split <;> rename_i heq <;> rw [heq] at hd
      · rw [State.cphAdmit_lasting, hd]
      · rw [State.countPage_lasting, hd]

@[simp] theorem State.startFrame_lasting (sub q : Nat) (f : WireFrame) : (s.startFrame sub q f).lasting = s.lasting := by
  refine State.ite_lasting rfl ?_
  extract_lets key n bt s1
  have h2 : (s1.secOut sub f.body).2.lasting = s.lasting := State.secOut_lasting ..
  generalize s1.secOut sub f.body = out at h2
  refine State.ite_lasting h2 ?_
  extract_lets s3 s4 src s5
  have h5 : s5.lasting = s.lasting := by
    rw [State.mk_lasting, State.watchOut_lasting, State.inc64_lasting, State.spend_lasting, h2]
  split
  · exact (State.modMember_lasting ..).trans h5
  · exact h5

@[simp] theorem State.pickQueue_lasting (sub n : Nat) : (s.pickQueue sub n).2.lasting = s.lasting := by
  induction n generalizing s with
  | zero => rfl
  | succ q ih =>
    unfold State.pickQueue
    dsimp only
    split
    · split
      · rw [State.dropStale_lasting]
      · rw [ih, State.dropStale_lasting]
    · rw [ih, State.dropStale_lasting]

@[simp] theorem egress_lasting (sub : Nat) : (egress sub s).lasting = s.lasting := by
  unfold egress
  refine State.ite_lasting rfl ?_
  have hp := s.pickQueue_lasting sub 8
  split <;> rename_i heq <;> rw [heq] at hp
  · rw [State.startFrame_lasting, hp]
  · exact hp

@[simp] theorem underrun_lasting (sub : Nat) : (underrun sub s).lasting = s.lasting := by
  unfold underrun
  split
  · rfl
  · refine State.ite_lasting rfl ?_
    rw [State.postEvent_lasting, State.put_lasting, State.inc_lasting, State.mk_lasting]

@[simp] theorem linkChange_lasting (sub speed : Nat) : (linkChange sub speed s).lasting = s.lasting := by simp [linkChange]

@[simp] theorem State.saCmd_lasting (fn tag : Nat) (dir del : Bool) (act : Cmd → State → State)
    (h : ∀ c s, (act c s).lasting = s.lasting) : (s.saCmd fn tag dir del act).lasting = s.lasting := by
  refine State.runCmd_lasting _ _ _ _ _ _ _ fun c s => State.ite_lasting rfl (State.ite_lasting (State.complete_lasting ..) ?_)
  split
  · exact (State.complete_lasting ..).trans (State.refuseAt_lasting ..)
  · exact h c s

@[simp] theorem saTx_lasting (fn tag : Nat) : (saTx fn tag s).lasting = s.lasting := by
  refine State.saCmd_lasting _ _ _ _ _ _ fun c s => ?_
  split <;> simp

@[simp] theorem saRxAdd_lasting (fn tag : Nat) : (saRxAdd fn tag s).lasting = s.lasting := by
  refine State.saCmd_lasting _ _ _ _ _ _ fun c s => ?_
  split
  · exact State.complete_lasting ..
  · exact State.ite_lasting (State.complete_lasting ..) ((State.complete_lasting ..).trans rfl)

@[simp] theorem saRxDelete_lasting (fn tag : Nat) : (saRxDelete fn tag s).lasting = s.lasting := by simp [saRxDelete]

@[simp] theorem tileWrite_lasting (r : Requester) (k : Nat) (v : Word) (act : State → State)
    (h : ∀ s, (act s).lasting = s.lasting) : (tileWrite r k v act s).lasting = s.lasting := by
  refine State.ite_lasting rfl (State.access_lasting _ _ _ _ _ fun s => State.ite_lasting (State.invalidWrite_lasting ..) ?_)
  extract_lets s1
  have h1 : s1.lasting = s.lasting := (h _).trans ((State.put_lasting ..).trans (State.put_lasting ..))
  exact State.ite_lasting ((State.autoTrain_lasting ..).trans h1) h1

@[simp] theorem trainWrite_lasting (r : Requester) (k : Nat) (v : Word) : (trainWrite r k v s).lasting = s.lasting := by
  simp [trainWrite]
@[simp] theorem prbsStart_lasting (r : Requester) (k : Nat) (v : Word) : (prbsStart r k v s).lasting = s.lasting := by
  simp [prbsStart]
@[simp] theorem prbsStop_lasting (r : Requester) (k : Nat) (v : Word) (errors : List Nat) :
    (prbsStop r k v errors s).lasting = s.lasting := by simp [prbsStop]
@[simp] theorem stepDone_lasting (k : Nat) (i : TileInfo) : (stepDone k i s).lasting = s.lasting := by simp [stepDone]
@[simp] theorem stepTimeout_lasting (k : Nat) : (stepTimeout k s).lasting = s.lasting := by simp [stepTimeout]
@[simp] theorem State.tileFault_lasting (k cause lane : Nat) : (s.tileFault k cause lane).lasting = s.lasting := by
  simp [State.tileFault]
@[simp] theorem upstream_lasting (k : Nat) (ctl : List Byte) (bad : Nat) : (upstream k ctl bad s).lasting = s.lasting := by
  unfold upstream
  (repeat' split) <;> simp
@[simp] theorem State.badMessage_lasting (k : Nat) : (s.badMessage k).lasting = s.lasting := by simp [State.badMessage]
@[simp] theorem ctlMessage_lasting (k : Nat) : (ctlMessage k s).lasting = s.lasting := by
  simp only [ctlMessage]
  (repeat' split) <;> simp

@[simp] theorem ackTimeout_lasting (k : Nat) : (ackTimeout k s).lasting = s.lasting := by
  unfold ackTimeout
  dsimp only
  split <;> simp

@[simp] theorem blockLockLost_lasting (k lane : Nat) : (blockLockLost k lane s).lasting = s.lasting := by simp [blockLockLost]
@[simp] theorem wander_lasting (k : Nat) : (wander k s).lasting = s.lasting := by simp [wander]
@[simp] theorem maskSend_lasting (r : Nat) (of_ : LaunchOf) : (maskSend r of_ s).lasting = s.lasting := by
  unfold maskSend
  split <;> simp

/-! ## Applying the records (03 R85) -/

@[simp] theorem State.setR_lasting (a v : Nat) : (s.setR a v).lasting = s.lasting := by simp [State.setR]
@[simp] theorem State.setBoth_lasting (a v : Nat) : (s.setBoth a v).lasting = s.lasting := by simp [State.setBoth]
@[simp] theorem State.setMeridian_lasting : s.setMeridian.lasting = s.lasting := by simp [State.setMeridian]
@[simp] theorem State.setBoard_lasting : s.setBoard.lasting = s.lasting := by simp [State.setBoard]
@[simp] theorem State.setFrontEnd_lasting (r : Nat) : (s.setFrontEnd r).lasting = s.lasting := by simp [State.setFrontEnd]
@[simp] theorem State.setBaseband_lasting (r : Nat) : (s.setBaseband r).lasting = s.lasting := by simp [State.setBaseband]

theorem State.stageTemplate_lasting (r mode : Nat) (put : State → Nat → Nat → State)
    (h : ∀ s i v, (put s i v).lasting = s.lasting) : ∀ t, s.stageTemplate r mode put = some t → t.lasting = s.lasting := by
  intro t ht
  obtain ⟨b, -, rfl⟩ := Option.map_eq_some_iff.mp ht
  exact State.foldl_lasting fun s i => State.ite_lasting ((h ..).trans (h ..)) ((h ..).trans (h ..))

@[simp] theorem State.setMac_lasting (r : Nat) : (s.setMac r).lasting = s.lasting := by
  unfold State.setMac
  refine State.ite_lasting rfl ?_
  extract_lets m s1 s2 s3
  have h3 : s3.lasting = s2.lasting :=
    State.foldl_lasting fun _ _ => by rw [State.setBoth_lasting, State.setBoth_lasting, State.setBoth_lasting]
  have h2 : s2.lasting = s.lasting := by
    rw [State.foldl_lasting fun s k => s.setR_lasting .., State.setR_lasting, State.setBoth_lasting, State.setBoth_lasting,
        State.setR_lasting]
  cases ht : s3.stageTemplate r s.grid.recMode State.setBoth with
  | none => exact h3.trans h2
  | some t => exact (State.stageTemplate_lasting _ _ _ _ (fun s a v => s.setBoth_lasting a v) t ht).trans (h3.trans h2)

@[simp] theorem State.setMesh_lasting : s.setMesh.lasting = s.lasting := by simp [State.setMesh]
@[simp] theorem State.setTenant_lasting (t : Nat) : (s.setTenant t).lasting = s.lasting := by simp [State.setTenant]
@[simp] theorem State.setPkt_lasting : s.setPkt.lasting = s.lasting := by simp [State.setPkt]

@[simp] theorem State.setKeys_lasting : s.setKeys.lasting = s.lasting :=
  State.foldl_lasting fun s b => by
  split
  · exact State.ite_lasting (by simp) (by simp)
  · rfl

@[simp] theorem State.setHost_lasting : s.setHost.lasting = s.lasting := by simp [State.setHost]
@[simp] theorem State.setGates_lasting (b : List Byte) : (s.setGates b).lasting = s.lasting := by simp [State.setGates]
@[simp] theorem State.setWired_lasting : s.setWired.lasting = s.lasting := by simp [State.setWired]
@[simp] theorem State.setDram_lasting : s.setDram.lasting = s.lasting := by simp [State.setDram]

@[simp] theorem State.applyRecords_lasting : s.applyRecords.lasting = s.lasting := by
  unfold State.applyRecords
  rw [State.foldl_lasting (fun _ _ => State.setUnit_lasting ..), State.foldl_lasting (fun _ _ => State.enableBlock_lasting ..),
    State.setDram_lasting, State.setWired_lasting, State.setHost_lasting, State.setKeys_lasting, State.setPkt_lasting,
        State.setMesh_lasting,
    State.foldl_lasting, State.setBoard_lasting, State.setMeridian_lasting]
  exact fun _ _ => by rw [State.setMac_lasting, State.setBaseband_lasting, State.setFrontEnd_lasting]

/-! ## The rows of the DRAM controller (15) -/

@[simp] theorem dramRequest_lasting (port granule : Nat) (write : Bool) (off : Nat) (data : List Byte) :
    (dramRequest_ port granule write off data s).lasting = s.lasting := by simp [dramRequest_]
@[simp] theorem issue_lasting (c banks : Nat) : (issue c banks s).lasting = s.lasting := by
  unfold issue
  split <;> simp

@[simp] theorem readReturn_lasting (c granule symbols rank subch : Nat) :
    (readReturn c granule symbols rank subch s).lasting = s.lasting := by
  unfold readReturn
  split <;> simp

@[simp] theorem pauseStart_lasting (c : Nat) : (pauseStart c s).lasting = s.lasting := by simp [pauseStart]
@[simp] theorem pauseEnd_lasting (c : Nat) (drift : Int) (beyond : Bool) : (pauseEnd c drift beyond s).lasting = s.lasting := by
  unfold pauseEnd
  split <;> simp
@[simp] theorem State.dramTrained_lasting (c : Nat) : (s.dramTrained c).lasting = s.lasting := by simp [State.dramTrained]
@[simp] theorem State.dramFirst_lasting : s.dramFirst.lasting = s.lasting := by simp [State.dramFirst]

@[simp] theorem trainingDone_lasting (fast slow : Nat) : (trainingDone fast slow s).lasting = s.lasting := by
  unfold trainingDone
  refine State.ite_lasting rfl ?_
  split
  · rw [State.foldl_lasting fun s c => s.dramTrained_lasting c, State.dramFirst_lasting]
  · rw [State.postEvent_lasting, State.mk_lasting, State.foldl_lasting]
    exact fun _ _ => by rw [State.modDch_lasting, State.setUnit_lasting, State.put_lasting, State.put_lasting]

@[simp] theorem retrained_lasting (c : Nat) : (retrained c s).lasting = s.lasting := by simp [retrained]

/-! ## Banks, arming and refusal (05) -/

@[simp] theorem State.bankToActive_lasting (p : Nat → Bool) : (s.bankToActive p).lasting = s.lasting :=
  State.foldl_lasting fun s _ => s.setReg_lasting ..

@[simp] theorem State.bankToStaged_lasting (p : Nat → Bool) : (s.bankToStaged p).lasting = s.lasting := by
  have h1 : ((s.stagedKeys p).foldl (fun s a => s.setSreg a (s.reg a)) s).lasting = s.lasting :=
    State.foldl_lasting fun s a => s.setSreg_lasting ..
  exact State.ite_lasting ((State.modPkt_lasting ..).trans h1) h1

@[simp] theorem State.stageTemplates_lasting (from_ mode : Nat) : (s.stageTemplates from_ mode).lasting = s.lasting := by
  have hr (s : State) (r : Nat) : ((s.stageTemplate r mode (fun s a v => s.setSreg a (BitVec.ofNat 32 v))).getD s).lasting =
      s.lasting := by
    cases hs : s.stageTemplate r mode (fun s a v => s.setSreg a (BitVec.ofNat 32 v)) with
    | none => rfl
    | some t => exact State.stageTemplate_lasting s r mode _ (fun s a v => s.setSreg_lasting ..) t hs
  exact State.ite_lasting rfl (State.foldl_lasting fun s r => State.ite_lasting rfl (hr s r))

@[simp] theorem State.prepareRadio_lasting (r : Nat) : (s.prepareRadio r).lasting = s.lasting := by
  unfold State.prepareRadio
  extract_lets add s1 s2
  have h1 : s1.lasting = s.lasting := by rw [State.modRadio_lasting, State.requestItems_lasting]
  have h2 : s2.lasting = s.lasting := State.ite_lasting ((State.foldl_lasting fun s g => s.modSyn_lasting ..).trans h1) h1
  rw [State.stageTiles_lasting, h2]

@[simp] theorem State.releaseArm_lasting : s.releaseArm.lasting = s.lasting := by
  unfold State.releaseArm
  rw [State.stageHeld_lasting, State.mk_lasting, State.foldl_lasting]
  intro s r
  rw [State.modRadio_lasting, State.powerDown_lasting, State.foldl_lasting]
  · exact State.ite_lasting (State.shadowTiles_lasting ..) rfl
  · exact fun _ _ => by rw [State.modChain_lasting]

@[simp] theorem State.stageBound_lasting (p : BitVec 27) : (s.stageBound p).lasting = s.lasting :=
  State.foldl_lasting fun s k => by
  split
  · exact State.ite_lasting (State.stageTile_lasting ..) rfl
  · rfl

@[simp] theorem State.startArming_lasting (kind : CommitKind) (mode len target : Nat) :
    (s.startArming kind mode len target).lasting = s.lasting := by simp [State.startArming]
@[simp] theorem State.armBoot_lasting : s.armBoot.lasting = s.lasting := by simp [State.armBoot]
@[simp] theorem State.postRefused_lasting : s.postRefused.lasting = s.lasting := by simp [State.postRefused]
@[simp] theorem State.setCommitResult_lasting (v : Nat) : (s.setCommitResult v).lasting = s.lasting := by
  simp [State.setCommitResult]
@[simp] theorem State.retarget_lasting (defers : Nat) : (s.retarget defers).lasting = s.lasting := by simp [State.retarget]
@[simp] theorem State.deferCommit_lasting : s.deferCommit.lasting = s.lasting := by simp [State.deferCommit]
@[simp] theorem State.refuseCommit_lasting : s.refuseCommit.lasting = s.lasting := by simp [State.refuseCommit]

@[simp] theorem State.excludeUnit_lasting (u : Nat) : (s.excludeUnit u).lasting = s.lasting := by
  refine State.ite_lasting rfl ?_
  extract_lets v s1 x s2 s3
  have h3 : s3.lasting = s.lasting := by
    rw [State.foldl_lasting fun s b => (State.put_lasting ..).trans (State.put_lasting ..), State.setUnit_lasting,
        State.clearUnit_lasting]
  exact State.ite_lasting ((State.modMesh_lasting ..).trans h3) h3

@[simp] theorem State.bootDeadline_lasting : s.bootDeadline.lasting = s.lasting := by simp [State.bootDeadline]
@[simp] theorem State.writeCounts_lasting : s.writeCounts.lasting = s.lasting := by simp [State.writeCounts]

/-! ## The rows of boot and the Almanac (03) -/

@[simp] theorem State.postSlots_lasting : s.postSlots.lasting = s.lasting := by simp [State.postSlots]
@[simp] theorem discoveryDone_lasting (cs0 cs1 : Option FlashDev) : (discoveryDone cs0 cs1 s).lasting = s.lasting := by
  simp [discoveryDone]
@[simp] theorem State.findLog_lasting : s.findLog.lasting = s.lasting := by
  unfold State.findLog
  split <;> simp
@[simp] theorem State.restoreCount_lasting (i count credit : Nat) : (s.restoreCount i count credit).lasting = s.lasting := by
  simp [State.restoreCount]
@[simp] theorem State.restoreCounts_lasting : s.restoreCounts.lasting = s.lasting := by simp [State.restoreCounts]

@[simp] theorem State.takeImage_lasting (slot : Nat) (c : SlotCheck) : (s.takeImage slot c).lasting = s.lasting := by
  unfold State.takeImage
  dsimp only
  split <;> simp

@[simp] theorem State.countSlot_lasting (c : SlotCheck) : (s.countSlot c).lasting = s.lasting := by simp [State.countSlot]
@[simp] theorem imageChecked_lasting (readA readB : SlotReads) : (imageChecked readA readB s).lasting = s.lasting := by
  simp only [imageChecked]
  (repeat' split) <;> simp
@[simp] theorem State.enterRun_lasting : s.enterRun.lasting = s.lasting := by simp [State.enterRun]
@[simp] theorem configured_lasting : (configured s).lasting = s.lasting := by simp [configured]
@[simp] theorem bootRelease_lasting (r : Requester) : (bootRelease r s).lasting = s.lasting := by simp [bootRelease]
@[simp] theorem holdExpires_lasting : (holdExpires s).lasting = s.lasting := by simp [holdExpires]
@[simp] theorem State.almCmd_lasting (fn tag opcode : Nat) (act : Cmd → State → State)
    (h : ∀ c s, (act c s).lasting = s.lasting) : (s.almCmd fn tag opcode act).lasting = s.lasting :=
  State.ite_lasting rfl (State.runCmd_lasting _ _ _ _ _ _ _ fun c _ => (h c _).trans (State.mk_lasting ..))
@[simp] theorem State.almMark_lasting : s.almMark.lasting = s.lasting := by
  unfold State.almMark
  split <;> simp
@[simp] theorem State.almStart_lasting (c : Cmd) (ops : List FlashOp) : (s.almStart c ops).lasting = s.lasting := by
  simp [State.almStart]
@[simp] theorem slotErase_lasting (fn tag : Nat) : (slotErase fn tag s).lasting = s.lasting := by simp [slotErase]
@[simp] theorem slotWrite_lasting (fn tag : Nat) (data : HostData) : (slotWrite fn tag data s).lasting = s.lasting := by
  unfold slotWrite
  split <;> simp
@[simp] theorem slotVerify_lasting (fn tag : Nat) : (slotVerify fn tag s).lasting = s.lasting := by simp [slotVerify]
@[simp] theorem logReads_lasting (fn tag : Nat) : (logReads fn tag s).lasting = s.lasting := by simp [logReads]
@[simp] theorem attest_lasting (fn tag : Nat) : (attest fn tag s).lasting = s.lasting := by simp [attest]
@[simp] theorem State.almDone_lasting (status result : Nat) : (s.almDone status result).lasting = s.lasting := by
  unfold State.almDone
  split <;> simp
@[simp] theorem State.logErased_lasting : s.logErased.lasting = s.lasting := by simp [State.logErased]
@[simp] theorem State.almProgress_lasting : s.almProgress.lasting = s.lasting := by simp [State.almProgress]
@[simp] theorem State.logDown_lasting : s.logDown.lasting = s.lasting := by simp [State.logDown]
@[simp] theorem State.almDrop_lasting : s.almDrop.lasting = s.lasting := by simp [State.almDrop]

@[simp] theorem countTimer_lasting : (countTimer s).lasting = s.lasting := by simp [countTimer]
@[simp] theorem creditTimer_lasting : (creditTimer s).lasting = s.lasting :=
  State.ite_lasting rfl (State.ite_lasting rfl (State.foldl_lasting fun s _ => s.modChain_lasting ..))

/-! ## The rows of the constellation (09) -/

@[simp] theorem State.acceptSeq_lasting (m seq : Nat) : (s.acceptSeq m seq).lasting = s.lasting := by simp [State.acceptSeq]
@[simp] theorem helloTimer_lasting (m : Nat) : (helloTimer m s).lasting = s.lasting := by simp [helloTimer]
@[simp] theorem State.rejectMsg_lasting (b : List Byte) (status : Nat) : (s.rejectMsg b status).lasting = s.lasting := by
  simp [State.rejectMsg]

@[simp] theorem helloIn_lasting (b : List Byte) (s0 : State) : (helloIn b s0).lasting = s0.lasting := by
  unfold helloIn
  dsimp only
  split <;> simp

@[simp] theorem helloAckIn_lasting (b : List Byte) (s0 : State) : (helloAckIn b s0).lasting = s0.lasting := by
  unfold helloAckIn
  dsimp only
  split <;> simp

@[simp] theorem joinTimer_lasting (m : Nat) : (joinTimer m s).lasting = s.lasting := by simp [joinTimer]
@[simp] theorem sendDigest_lasting : (sendDigest s).lasting = s.lasting := by
  simp only [sendDigest]
  (repeat' split) <;> simp
@[simp] theorem State.digestFault_lasting (b : List Byte) (S code : Nat) : (s.digestFault b S code).lasting = s.lasting := by
  simp [State.digestFault]

@[simp] theorem digestIn_lasting (b : List Byte) (stepped : Bool) (s0 : State) : (digestIn b stepped s0).lasting = s0.lasting := by
  unfold digestIn
  extract_lets m s part seq S bodyAt blocks cell x E y asym s1 lenAtS
  have h0 : s.lasting = s0.lasting := State.cstHeard_lasting ..
  have h1 : s1.lasting = s0.lasting := by
    refine State.ite_lasting h0 ?_
    split
    · exact (State.alignSample_lasting ..).trans ((State.modMember_lasting ..).trans h0)
    · exact (State.modMember_lasting ..).trans h0
  have hr {t : State} (st : Nat) (ht : t.lasting = s0.lasting) : (t.rejectMsg b st).lasting = s0.lasting := (State.rejectMsg_lasting
      ..).trans ht
  have hf {t : State} (st code : Nat) (ht : t.lasting = s0.lasting) : ((t.rejectMsg b st).digestFault b S code).lasting = s0.lasting
      :=
    (State.digestFault_lasting ..).trans (hr _ ht)
  split
  · exact hf _ _ h0
  · refine State.ite_lasting ((State.cstReject_lasting ..).trans h0) (State.ite_lasting (hf _ _ h0) ?_)
    refine State.ite_lasting (hf _ _ h1) (State.ite_lasting (hr _ h1) (State.ite_lasting ?_ (State.ite_lasting (hr _ h1) ?_)))
    · rw [State.digestFault_lasting, State.inc_lasting, h1]
    refine State.ite_lasting (hf _ _ h1) ?_
    extract_lets ok
    refine State.ite_lasting (hf _ _ h1) (State.ite_lasting ((State.inc_lasting ..).trans h1) ?_)
    rw [State.modMember_lasting, State.acceptSeq_lasting, h1]

@[simp] theorem leaveIn_lasting (b : List Byte) (s0 : State) : (leaveIn b s0).lasting = s0.lasting := by simp [leaveIn]
@[simp] theorem statusDecide_lasting : (statusDecide s).lasting = s.lasting := by simp [statusDecide]
@[simp] theorem cstLeave_lasting (r : Requester) : (cstLeave r s).lasting = s.lasting := by simp [cstLeave]
@[simp] theorem cstRejoin_lasting (r : Requester) : (cstRejoin r s).lasting = s.lasting := by simp [cstRejoin]
@[simp] theorem foreignAged_lasting (m sid r : Nat) : (foreignAged m sid r s).lasting = s.lasting := by
  unfold foreignAged
  split <;> simp
@[simp] theorem keepExpired_lasting : (keepExpired s).lasting = s.lasting := by simp [keepExpired]

/-! ## Reads of host memory (13) -/

@[simp] theorem State.readFails_lasting (c : Cmd) : (s.readFails c).lasting = s.lasting := by simp [State.readFails]
@[simp] theorem dmaDone_lasting (f tag : Nat) (ok : Bool) : (dmaDone f tag ok s).lasting = s.lasting := by
  unfold dmaDone
  split <;> simp

/-! ## The rows of the Meridian and Dormant (05) -/

@[simp] theorem State.stageRefused_lasting (a status : Nat) : (s.stageRefused a status).lasting = s.lasting := by
  simp [State.stageRefused]
@[simp] theorem State.go_lasting : s.go.lasting = s.lasting := by
  simp only [State.go]
  (repeat' split) <;> simp
@[simp] theorem commitGo_lasting (r : Requester) : (commitGo_ r s).lasting = s.lasting := by simp [commitGo_]
@[simp] theorem State.cancel_lasting : s.cancel.lasting = s.lasting := by simp [State.cancel]
@[simp] theorem commitCancel_lasting (r : Requester) : (commitCancel_ r s).lasting = s.lasting := by simp [commitCancel_]
@[simp] theorem armReport_lasting (u : Nat) (busy : Bool) : (armReport u busy s).lasting = s.lasting := by simp [armReport]
@[simp] theorem State.irrevocable_lasting : s.irrevocable.lasting = s.lasting := by simp [State.irrevocable]
@[simp] theorem deadline_lasting (s0 : State) : (deadline s0).lasting = s0.lasting := by simp [deadline]
@[simp] theorem State.swapRadio_lasting (x : RadioSwap) : (s.swapRadio x).lasting = s.lasting := by simp [State.swapRadio]
@[simp] theorem State.dramRate_lasting (slow : Bool) : (s.dramRate slow).lasting = s.lasting := by simp [State.dramRate]
@[simp] theorem State.swap_lasting : s.swap.lasting = s.lasting := by simp [State.swap]
@[simp] theorem State.setTsf_lasting (b : Nat) : (s.setTsf b).lasting = s.lasting := by simp [State.setTsf]
@[simp] theorem strobe_lasting : (strobe_ s).lasting = s.lasting := by simp [strobe_]
@[simp] theorem copied_lasting : (copied s).lasting = s.lasting := by simp [copied]
@[simp] theorem State.joinUnit_lasting (u : Nat) : (s.joinUnit u).lasting = s.lasting := by simp [State.joinUnit]
@[simp] theorem State.catchSteps_lasting (b : Nat) : (s.catchSteps b).lasting = s.lasting := by simp [State.catchSteps]
@[simp] theorem State.boundarySteps_lasting (b : Nat) : (s.boundarySteps b).lasting = s.lasting := by simp [State.boundarySteps]
@[simp] theorem State.blockSuperframes_lasting (b : Nat) : (s.blockSuperframes b).lasting = s.lasting := by
  simp [State.blockSuperframes]
@[simp] theorem State.joinAll_lasting : s.joinAll.lasting = s.lasting := by simp [State.joinAll]
@[simp] theorem superframe_lasting : (superframe s).lasting = s.lasting := by
  simp only [superframe]
  (repeat' split) <;> simp
@[simp] theorem State.enterDormant_lasting : s.enterDormant.lasting = s.lasting := by simp [State.enterDormant]
@[simp] theorem dormantWrite_lasting (r : Requester) (v : Word) : (dormantWrite r v s).lasting = s.lasting := by simp [dormantWrite]

@[simp] theorem State.radioOff_lasting (r : Nat) : (s.radioOff r).lasting = s.lasting := by
  unfold State.radioOff
  extract_lets n s1 s2 s3 s4 s5
  have h2 : s2.lasting = s.lasting := by
    rw [State.clearMac_lasting]
    split <;> simp [s1]
  have h5 : s5.lasting = s.lasting := by
    rw [State.powerDown_lasting, State.modRadio_lasting, State.foldl_lasting (fun _ _ => State.modChain_lasting ..), h2]
  exact State.ite_lasting h5 ((State.setUnit_lasting ..).trans h5)

@[simp] theorem State.atB_lasting : s.atB.lasting = s.lasting := by simp [State.atB]
@[simp] theorem State.abortAll_lasting : s.abortAll.lasting = s.lasting := by simp [State.abortAll]
@[simp] theorem State.dropWired_lasting : s.dropWired.lasting = s.lasting := by simp [State.dropWired]
@[simp] theorem State.closeBridge_lasting : s.closeBridge.lasting = s.lasting := by simp [State.closeBridge]
@[simp] theorem State.stopTime_lasting : s.stopTime.lasting = s.lasting := by simp [State.stopTime]

@[simp] theorem State.powerOff_lasting : s.powerOff.lasting = s.lasting := by
  unfold State.powerOff
  dsimp only
  rw [State.mk_lasting, State.foldl_lasting, State.foldl_lasting, State.foldl_lasting, State.foldl_lasting, State.flrFn_lasting,
      State.linkDown_lasting]
  · exact fun _ _ => State.put_lasting ..
  · exact fun _ _ => State.setLink_lasting ..
  · exact fun _ _ => State.tileDown_lasting ..
  · exact fun _ _ => State.setUnit_lasting ..

@[simp] theorem State.entryStep_lasting (n : Nat) : (s.entryStep n).lasting = s.lasting := by simp [State.entryStep]
@[simp] theorem entryStepDone_lasting : (entryStepDone s).lasting = s.lasting := by
  unfold entryStepDone
  split <;> simp
@[simp] theorem reachedDormant_lasting : (reachedDormant s).lasting = s.lasting := by
  unfold reachedDormant
  (repeat' split) <;> simp
@[simp] theorem wakeMt_lasting : (wakeMt s).lasting = s.lasting := by simp [wakeMt]
@[simp] theorem wakeGpio_lasting (gpio : Nat) (level : Bool) : (wakeGpio gpio level s).lasting = s.lasting := by simp [wakeGpio]
@[simp] theorem State.requestAll_lasting : s.requestAll.lasting = s.lasting := by simp [State.requestAll]
@[simp] theorem rampExpires_lasting : (rampExpires s).lasting = s.lasting := by simp [rampExpires]
@[simp] theorem State.resumeTime_lasting : s.resumeTime.lasting = s.lasting := by simp [State.resumeTime]

@[simp] theorem State.restoreSaved_lasting (tagOk : Bool) : (s.restoreSaved tagOk).lasting = s.lasting := by
  unfold State.restoreSaved
  extract_lets held s1 s2
  have h1 : s1.lasting = s.lasting := State.ite_lasting rfl <|
    (State.postEvent_lasting ..).trans (State.foldl_lasting fun s k => s.setSlot_lasting ..)
  have h2 : s2.lasting = s.lasting := State.ite_lasting ((State.put_lasting ..).trans h1) h1
  rw [State.writeCounts_lasting, State.bankToStaged_lasting, h2]

@[simp] theorem State.exitCommit_lasting : s.exitCommit.lasting = s.lasting := by simp [State.exitCommit]
@[simp] theorem State.exitStep_lasting (n : Nat) (tagOk : Bool) : (s.exitStep n tagOk).lasting = s.lasting := by
  simp [State.exitStep]
@[simp] theorem exitStepDone_lasting (tagOk : Bool) : (exitStepDone tagOk s).lasting = s.lasting := by
  unfold exitStepDone
  split <;> simp

/-! ## The rows of power and holds (16) -/

@[simp] theorem ledgerAdmit_lasting : (ledgerAdmit s).lasting = s.lasting := by
  unfold ledgerAdmit
  split <;> simp
@[simp] theorem ledgerUp_lasting (item : Nat) : (ledgerUp item s).lasting = s.lasting := by simp [ledgerUp]
@[simp] theorem ledgerWait_lasting : (ledgerWait s).lasting = s.lasting := by
  unfold ledgerWait
  split <;> simp
@[simp] theorem powerDowned_lasting (item : Nat) : (powerDowned item s).lasting = s.lasting := by
  unfold powerDowned
  split <;> simp
@[simp] theorem powerSampled_lasting (amps : List Nat) : (powerSampled amps s).lasting = s.lasting := by
  simp only [powerSampled]
  (repeat' split) <;> simp
@[simp] theorem throttleTimer_lasting (thermal : Bool) : (throttleTimer thermal s).lasting = s.lasting := by simp [throttleTimer]
@[simp] theorem State.releaseUnit_lasting (u : FUnit) (cause : Nat) : (s.releaseUnit u cause).lasting = s.lasting := by
  simp [State.releaseUnit]
@[simp] theorem holdWrite_lasting (r : Requester) (hf : Bool) (v : Word) : (holdWrite r hf v s).lasting = s.lasting := by
  simp [holdWrite]
@[simp] theorem holdTimer_lasting (u : FUnit) : (holdTimer u s).lasting = s.lasting := by
  unfold holdTimer
  split <;> simp

/-! ## Reads of registers (00 R8, R10) -/

@[simp] theorem State.bar2Put_lasting (f a : Nat) (v : Word) : (s.bar2Put f a v).lasting = s.lasting := by simp [State.bar2Put]
@[simp] theorem State.capture_lasting (r : Requester) (a v : Nat) : (s.capture r a v).lasting = s.lasting := by simp [State.capture]
@[simp] theorem State.readWord_lasting (r : Requester) (a : Nat) : (s.readWord r a).2.lasting = s.lasting := by
  unfold State.readWord
  (repeat' split) <;> simp
@[simp] theorem State.readAt_lasting (r : Requester) (width a : Nat) : (s.readAt r width a).lasting = s.lasting := by
  unfold State.readAt
  (repeat' split) <;> simp

/-! ## The rows of the time bases (04) -/

@[simp] theorem ptpMessage_lasting (port domain : Nat) (logSync srcTime : Int) :
    (ptpMessage port domain logSync srcTime s).lasting = s.lasting := by simp [ptpMessage]
@[simp] theorem State.newMaster_lasting (clockId : BitVec 64) : (s.newMaster clockId).lasting = s.lasting := by
  simp [State.newMaster]
@[simp] theorem State.passUtc_lasting (k utc leap : Nat) : (s.passUtc k utc leap).lasting = s.lasting := by simp [State.passUtc]
@[simp] theorem ptpAnnounce_lasting (port domain : Nat) (clockId : BitVec 64) (a : Announce) :
    (ptpAnnounce port domain clockId a s).lasting = s.lasting := by simp [ptpAnnounce]
@[simp] theorem ppsIn_lasting : (ppsIn s).lasting = s.lasting := by
  unfold ppsIn
  (repeat' split) <;> simp
@[simp] theorem todReject_lasting (cause : Nat) : (todReject cause s).lasting = s.lasting := by simp [todReject]
@[simp] theorem todMessage_lasting (b : List Byte) : (todMessage b s).lasting = s.lasting := by
  simp only [todMessage]
  (repeat' split) <;> simp
@[simp] theorem sourceTimeout_lasting (k : Nat) : (sourceTimeout k s).lasting = s.lasting := by simp [sourceTimeout]

@[simp] theorem firstWait_lasting : (firstWait s).lasting = s.lasting := by
  unfold firstWait
  split
  · exact State.ite_lasting rfl (by rw [State.postEvent_lasting, State.startMt_lasting, State.ntStarts_lasting,
      State.setNt_lasting, State.mk_lasting])
  · rfl

@[simp] theorem reanchorGo_lasting (r : Requester) (v : Word) : (reanchorGo r v s).lasting = s.lasting := by simp [reanchorGo]
@[simp] theorem reanchorWrite_lasting (r : Requester) (base : Nat) : (reanchorWrite r base s).lasting = s.lasting := by
  simp [reanchorWrite]
@[simp] theorem reanchorTake_lasting : (reanchorTake s).lasting = s.lasting := by
  simp only [reanchorTake]
  (repeat' split) <;> simp
@[simp] theorem autoReanchor_lasting : (autoReanchor s).lasting = s.lasting := by
  unfold autoReanchor
  split <;> simp
@[simp] theorem mtDiff_lasting : (mtDiff s).lasting = s.lasting := by simp [mtDiff]
@[simp] theorem ppsOutRise_lasting : (ppsOutRise s).lasting = s.lasting := by simp [ppsOutRise]
@[simp] theorem todSend_lasting : (todSend s).lasting = s.lasting := by
  unfold todSend
  split <;> simp

/-! ## The rows of register access (00 R7 to R10) -/

@[simp] theorem State.ringEnabled_lasting (f kind n : Nat) : (s.ringEnabled f kind n).lasting = s.lasting := by
  simp [State.ringEnabled]

@[simp] theorem State.afterHq_lasting (s0 : State) (a : Nat) : (s0.afterHq s a).lasting = s.lasting := by
  unfold State.afterHq
  extract_lets up w f o
  refine State.ite_lasting (State.ite_lasting ?_ rfl) ?_
  · rw [State.trackIdle_lasting, State.dropConsumer_lasting]
  · refine State.ite_lasting rfl (State.ite_lasting ?_ (State.ite_lasting ?_ (State.ite_lasting ?_ (State.ite_lasting ?_ rfl)))) <;>
      simp

@[simp] theorem State.afterWrite_lasting (s0 : State) (a : Nat) : (s0.afterWrite s a).lasting = s.lasting := by
  unfold State.afterWrite
  refine State.ite_lasting ?_ (State.ite_lasting (State.afterHq_lasting ..) (State.ite_lasting ?_ rfl))
  · exact State.ite_lasting rfl (State.modPkt_lasting ..)
  · exact State.ite_lasting rfl (State.autoTrain_lasting ..)

@[simp] theorem onBit_lasting (v : Word) (i : Nat) (act : State → State)
    (h : ∀ s, (act s).lasting = s.lasting) : (onBit v i act s).lasting = s.lasting := State.ite_lasting (h s) rfl

@[simp] theorem State.clkWrite_lasting (r : Requester) (first count : Nat) (v : Word) :
    (s.clkWrite r first count v).lasting = s.lasting := by
  have hp (v : Nat) (s : State) (l : List Nat) : (l.foldl (fun s b => s.put (clkEn b) v) s).lasting = s.lasting :=
    State.foldl_lasting fun s b => s.put_lasting ..
  refine State.access_lasting _ _ _ _ _ fun s => ?_
  extract_lets bs on_ off s1 drains src s2 s3 s4
  have h4 : s4.lasting = s.lasting := by
    rw [State.foldl_lasting fun s b => s.groupOff_lasting b, State.requestItems_lasting, State.mk_lasting, hp, hp]
  exact State.ite_lasting ((State.meshLink_lasting _).trans h4) h4

@[simp] theorem State.tileCtrlWrite_lasting (r : Requester) (k : Nat) (v : Word) : (s.tileCtrlWrite r k v).lasting = s.lasting := by
  simp [State.tileCtrlWrite]
@[simp] theorem State.bqWrite_lasting (r : Requester) (f n : Nat) (v : Word) : (s.bqWrite r f n v).lasting = s.lasting := by
  simp [State.bqWrite]

theorem State.hqWrite_lasting (r : Requester) (f o : Nat) (v : Word) : ∀ t, s.hqWrite r f o v = some t → t.lasting = s.lasting := by
  unfold State.hqWrite
  repeat' refine State.ite_some_lasting (State.some_lasting (by simp)) ?_
  exact fun _ h => nomatch h

@[simp] theorem State.afterStaged_lasting (b : Nat) : (s.afterStaged b).lasting = s.lasting := by simp [State.afterStaged]
@[simp] theorem State.writeStaged_lasting (r : Requester) (a b : Nat) (v : Word) : (s.writeStaged r a b v).lasting = s.lasting := by
  unfold State.writeStaged
  (repeat' split) <;> simp

@[simp] theorem snapshotLoRead_lasting (r : Requester) (width addr : Nat) :
    (snapshotLoRead r width addr s).lasting = s.lasting := by simp [snapshotLoRead]
@[simp] theorem rcFieldRead_lasting (r : Requester) (width addr : Nat) : (rcFieldRead r width addr s).lasting = s.lasting := by
  simp [rcFieldRead]

end Sys2Proof.Machine

end

section
/-! PROOFS. What the few commands do that write the flash or blow fuses: the flash stays canonical and the fuses only gain (03 R76, R89,
R91, R95). -/

namespace Sys2Proof.Machine

/-! ## What may come after a state -/

theorem KeyFuse.le_refl (a : KeyFuse) : a.le a := ⟨fun h => ⟨h, rfl⟩, id⟩

theorem KeyFuse.le_trans {a b c : KeyFuse} (h : a.le b) (h' : b.le c) : a.le c :=
  ⟨fun hp => ⟨(h'.1 (h.1 hp).1).1, (h'.1 (h.1 hp).1).2.trans (h.1 hp).2⟩, fun hr => h'.2 (h.2 hr)⟩

theorem Fuses.le_refl (a : Fuses) : a.le a := ⟨rfl, rfl, rfl, rfl, Nat.le_refl _, fun _ _ _ => KeyFuse.le_refl _⟩

theorem Fuses.le_trans {a b c : Fuses} : a.le b → b.le c → a.le c := by
  rintro ⟨hv, hk, hs, hd, hr, hslot⟩ ⟨hv', hk', hs', hd', hr', hslot'⟩
  exact ⟨hv'.trans hv, hk'.trans hk, hs'.trans hs, hd'.trans hd, Nat.le_trans hr hr',
    fun k h1 h4 => KeyFuse.le_trans (hslot k h1 h4) (hslot' k h1 h4)⟩

/-- The fuses of t are those of s or more fuses blown, and the flash of t is canonical where that of s is. -/
def Endures (s t : State) : Prop := s.fuses.le t.fuses ∧ (FlashWf s → FlashWf t)

theorem Endures.of_wf {s t : State} (hf : t.fuses = s.fuses) (hw : FlashWf s → FlashWf t) : Endures s t :=
  ⟨hf ▸ Fuses.le_refl _, hw⟩

theorem Endures.of_lasting {s t : State} (h : t.lasting = s.lasting) : Endures s t :=
  .of_wf (State.fuses_of_lasting h) fun hs => by rwa [FlashWf, State.bytes_of_lasting h]

theorem Endures.refl (s : State) : Endures s s := .of_lasting rfl

theorem Endures.trans {s t u : State} (h : Endures s t) (h' : Endures t u) : Endures s u :=
  ⟨Fuses.le_trans h.1 h'.1, h'.2 ∘ h.2⟩

/-- What follows a step that touches neither. -/
theorem Endures.after {s t u : State} (e : t.lasting = s.lasting) (h : Endures t u) : Endures s u := (of_lasting e).trans h

/-- What is followed by a step that touches neither. -/
theorem Endures.keep {s t u : State} (h : Endures s t) (e : u.lasting = t.lasting) : Endures s u := h.trans (of_lasting e)

theorem Endures.ite {c : Prop} [Decidable c] {s a b : State} (ha : Endures s a) (hb : Endures s b) :
    Endures s (if c then a else b) := by
  split
  · exact ha
  · exact hb

theorem Endures.foldl {ι : Type} {l : List ι} {g : State → ι → State} (hg : ∀ s i, Endures s (g s i)) (s : State) :
    Endures s (l.foldl g s) :=
  State.foldl_inv (Endures s) l g (fun t i h => h.trans (hg t i)) s (.refl s)

variable (s : State)

/-! ## The flash (03 R76, R95 to R99) -/

theorem State.flashProgram_endures (a : Nat) (bs : List Byte) : Endures s (s.flashProgram a bs) :=
  .of_wf (s.flashProgram_effect a bs).sameBoot.1 (s.flashProgram_wf a bs)

theorem State.flashErase_endures (sector : Nat) : Endures s (s.flashErase sector) := .of_wf rfl (s.flashErase_wf sector)

theorem State.freePage_endures (a : Nat) : Endures s (s.freePage a) :=
  .of_wf (s.freePage_effect a).sameBoot.1 (s.freePage_wf a)

theorem State.flashScramble_effect (sector : Nat) : FlashEffect s (s.flashScramble sector) := by
  unfold State.flashScramble
  extract_lets s1
  have h1 : FlashEffect s s1 := FlashEffect.foldl (fun _ _ => ⟨_, _, _, rfl⟩) s
  exact h1.trans (s1.spoil_effect sector)

theorem State.flashScramble_endures (sector : Nat) : Endures s (s.flashScramble sector) :=
  .of_wf (s.flashScramble_effect sector).sameBoot.1 (s.flashScramble_wf sector)

theorem State.logProgram_endures (type : Nat) (payload : List Byte) : Endures s (s.logProgram type payload) := by
  unfold State.logProgram
  extract_lets s1
  have h1 : Endures s s1 := s.flashProgram_endures _ _
  refine h1.keep ?_
  rw [State.logAdvance_lasting, State.mk_lasting]

theorem State.logWriteNow_endures (type : Nat) (payload : List Byte) : Endures s (s.logWriteNow type payload) :=
  .ite (s.logProgram_endures type payload) (.refl s)

theorem State.writeRecord_endures (parts : List (List Byte)) : Endures s (s.writeRecord parts).1 := by
  have hfold (a : State × List Nat) : Endures a.1 (parts.foldl (fun (s, l) p =>
      (s.logWriteNow 1 p, if s.logWritable then l ++ [s.logBase + 256 * s.log.ptr] else l)) a).1 := by
    induction parts generalizing a with
    | nil => exact .refl _
    | cons p parts ih => exact (a.1.logWriteNow_endures 1 p).trans (ih _)
  exact hfold (s, [])

theorem State.cutAttempt_endures : Endures s s.cutAttempt := by
  unfold State.cutAttempt
  split
  · exact .ite (.foldl (fun s a => s.freePage_endures a) s) (.refl s)
  · exact .refl s

/-- The effect of an access that ends in time. -/
theorem State.flashEffect_endures (o : FlashOp) : Endures s (s.flashEffect o) := by
  cases o with
  | program a d => exact (s.flashProgram_endures a d).keep (State.almProgress_lasting _)
  | erase k => exact (s.flashErase_endures k).keep (State.almProgress_lasting _)
  | logEntry t p again => exact s.logProgram_endures t p
  | logErase k => exact (s.flashErase_endures _).keep (State.logErased_lasting _)
  | logRead page n => exact .of_lasting ((State.almDone_lasting ..).trans (State.writeHost_lasting ..))
  | verify slot => exact .of_lasting (State.almDone_lasting ..)

/-- The effect of an access that does not. -/
theorem State.flashFailed_endures (o : FlashOp) : Endures s (s.flashFailed o) := by
  cases o with
  | program a d =>
    exact .after s.almDrop_lasting ((State.freePage_endures _ a).keep ((State.almDone_lasting ..).trans (State.spoil_lasting ..)))
  | erase k =>
    have h := s.almDrop.flashScramble_endures k
    rw [State.flashFailed]
    exact .after s.almDrop_lasting (h.keep (State.almDone_lasting _ _ _))
  | logEntry t p again =>
    have h1 := s.freePage_endures (s.logBase + 256 * s.log.ptr)
    rw [State.flashFailed]
    generalize s.freePage _ = s1 at h1 ⊢
    have h2 : Endures s (if t = 2 then { s1 with log := { s1.log with creditStop := true } } else s1) :=
      .ite (h1.keep (State.mk_lasting ..)) h1
    generalize (if t = 2 then { s1 with log := { s1.log with creditStop := true } } else s1) = s2 at h2 ⊢
    exact .ite (h2.keep (State.logDown_lasting _)) (h2.keep ((State.mk_flash_lasting ..).trans (State.logAdvance_lasting _)))
  | logErase k => exact (s.flashScramble_endures (s.logBase / 65536 + k)).keep (State.logErased_lasting _)
  | logRead page n => exact .of_lasting (State.almDone_lasting ..)
  | verify slot => exact .of_lasting (State.almDone_lasting ..)

theorem State.flashEnd_endures (may : FlashOp → Bool) (effect : State → FlashOp → State) (h : ∀ s o, Endures s (effect s o)) :
    Endures s (s.flashEnd may effect) := by
  unfold State.flashEnd
  refine .ite (.refl s) ?_
  split
  · exact .refl s
  next o rest _ =>
    have h0 : Endures s { s with flash := { s.flash with ops := rest, running := false } } := .of_lasting (State.mk_flash_lasting s ..)
    exact .ite ((h0.trans (h _ o)).keep ((State.almMark_lasting _).trans (State.flashKick_lasting _))) (.refl s)

/-! ## Resets of the device (01 R28, 03 R73, R89) -/

theorem State.deviceReset_endures (wait : ResetWait) (straps : Bool) : Endures s (s.deviceReset wait straps) := by
  unfold State.deviceReset
  extract_lets cut r k
  have hcut : Endures s cut := by
    refine .ite ?_ (.refl s)
    split
    · exact .of_lasting (State.spoil_lasting ..)
    · exact .of_lasting (State.spoil_lasting ..)
    · exact (s.flashScramble_endures _).keep (State.spoilAlm_lasting ..)
    · exact (s.freePage_endures _).keep (State.spoilAlm_lasting ..)
    · exact .refl s
  exact .of_wf rfl hcut.2

theorem State.softReset_endures : Endures s s.softReset := (s.deviceReset_endures _ _).keep (State.startQualify_lasting _)

theorem State.deviceFaultWith_endures (cause detail : Nat) : Endures s (s.deviceFaultWith cause detail) := by
  unfold State.deviceFaultWith
  extract_lets tags s1
  have h1 : Endures s s1 := .of_lasting (s.postRecord_lasting ..)
  have h2 := h1.trans (s1.writeRecord_endures (faultParts 8 0 cause s.stamp s.frNs detail 2 tags))
  split
  rename_i s2 pages he
  rw [he] at h2
  extract_lets s3 src s4
  have h4 : Endures s s4 := (h2.trans (s2.deviceReset_endures _ _)).keep (State.mk_lasting ..)
  exact .ite h4 (h4.keep s4.startQualify_lasting)

theorem resetLow_endures : Endures s (resetLow s) :=
  s.cutAttempt_endures.trans ((State.deviceReset_endures ..).keep (State.mk_lasting ..))

theorem pwrFall_endures : Endures s (pwrFall s) :=
  .ite (.of_lasting (State.mk_lasting ..)) (.after (State.mk_lasting ..) (State.deviceFaultWith_endures ..))

theorem deviceFails_endures (cause detail : Nat) : Endures s (deviceFails cause detail s) :=
  .ite (.refl s) (s.deviceFaultWith_endures cause detail)

theorem refLoss_endures (deviation : Bool) : Endures s (refLoss deviation s) :=
  .ite (.after (State.foldl_lasting fun _ _ => State.fcNoRef_lasting ..) (State.deviceFaultWith_endures ..)) (.refl s)

theorem rootUnlock_endures : Endures s (rootUnlock s) :=
  .ite (.refl s) (.after ((State.postEvent_lasting ..).trans (State.put_lasting ..)) (State.deviceFaultWith_endures ..))

theorem recoveryExpires_endures : Endures s (recoveryExpires s) := .ite (.refl s) s.softReset_endures

theorem State.abandonFault_endures (d : Nat) : Endures s (s.abandonFault d) :=
  .ite (.of_lasting (State.strobe_lasting ..)) <| .ite (.of_lasting ((State.strobe_lasting ..).trans (State.strobe_lasting ..))) <|
    .ite (.of_lasting (State.foldl_lasting fun _ _ => State.strobe_lasting ..)) <|
    .ite (.of_lasting (State.strobe_lasting ..)) (s.deviceFaultWith_endures 0x04 d)

theorem switchForced_endures (d : Nat) : Endures s (switchForced d s) := by
  unfold switchForced
  split
  · refine .after ?_ (State.abandonFault_endures _ d)
    rw [State.postEvent_lasting, State.put_lasting, State.put_lasting, State.setSource_lasting]
  · exact .refl s

theorem tempSampled_endures (temps : List Int) : Endures s (tempSampled temps s) := by
  unfold tempSampled
  split
  refine .ite (.of_lasting ?_) (.ite (.refl s) ?_)
  · (repeat' split) <;> simp
  · extract_lets t4 holds s1 s2
    refine .ite (.after ?_ ((State.deviceFaultWith_endures ..).keep (State.mk_lasting ..))) (.of_lasting (State.mk_lasting ..))
    rw [State.postEvent_lasting, State.mk_lasting]

/-! ## Accesses to registers that reset the device (03 R73) -/

theorem State.access_endures (r : Requester) (a : Nat) (act : State → State) (vfOk : Nat → Bool) (h : ∀ s, Endures s (act s)) :
    Endures s (s.access r a act vfOk) := by
  have hact : Endures s { act s with answer := some .done } := (h s).keep (State.mk_lasting ..)
  have hno (o : Option Answer) : Endures s { s with answer := o } := .of_lasting (State.mk_lasting ..)
  unfold State.access
  extract_lets src go
  have hgo : Endures s (go ()) := by
    refine .ite (hno _) ?_
    split
    · exact .ite (hno _) hact
    · exact hact
  cases r with
  | vf f => exact .ite hgo (hno _)
  | bar2 f => exact hno _
  | debug => exact .ite (hno _) hgo
  | pf => exact hgo
  | cpu => exact hgo

theorem resetKey_endures (r : Requester) (v : Word) : Endures s (resetKey r v s) :=
  s.access_endures _ _ _ _ fun s => .ite s.softReset_endures (.refl s)

theorem Endures.of_ite_some {c : Prop} [Decidable c] {s a : State} {b : Option State} (ha : Endures s a)
    (hb : ∀ t, b = some t → Endures s t) : ∀ t, (if c then some a else b) = some t → Endures s t := by
  split
  · rintro _ ⟨⟩
    exact ha
  · exact hb

/-- Of the rows that a register write can be, the reset key alone writes the flash. -/
theorem State.rowWrite_endures (r : Requester) (a : Nat) (v : Word) : ∀ t, s.rowWrite r a v = some t → Endures s t := by
  unfold State.rowWrite
  refine .of_ite_some (.of_lasting (by simp)) (.of_ite_some (resetKey_endures s r v) ?_)
  iterate 12 refine .of_ite_some (.of_lasting (by simp)) ?_
  split
  · exact fun t ht => .of_lasting (State.hqWrite_lasting s r _ _ v t ht)
  · exact .of_ite_some (.of_lasting (by simp)) fun _ h => nomatch h

theorem State.writeActive_endures (r : Requester) (a : Nat) (v : Word) : Endures s (s.writeActive r a v) := by
  unfold State.writeActive
  split
  · exact .refl s
  · refine .ite (.of_lasting (State.stageRefused_lasting ..)) ?_
    split
    next ht => exact s.rowWrite_endures _ _ _ _ ht
    · exact .of_lasting (by simp)

theorem State.writeAt_endures (r : Requester) (width a : Nat) (v : Word) : Endures s (s.writeAt r width a v) := by
  unfold State.writeAt
  split
  · exact .of_lasting (by split <;> simp)
  split
  · exact .of_lasting (State.mk_lasting ..)
  next n _ =>
    split
    · exact .of_lasting (by simp)
    · exact (s.writeActive_endures r n v).keep (State.mk_lasting ..)

/-! ## Fuses after the first beacon (03 R91) -/

theorem Fuses.slot_set (f : Fuses) {j k : Nat} (x : KeyFuse) (hj : 1 ≤ j) (hk : 1 ≤ k) :
    ({ f with slots := f.slots.set (k - 1) x } : Fuses).slot j = f.slot j
      ∨ j = k ∧ ({ f with slots := f.slots.set (k - 1) x } : Fuses).slot j = x := by
  simp only [Fuses.slot, List.getD_eq_getElem?_getD, List.getElem?_set]
  split
  · split
    · exact .inr ⟨by omega, rfl⟩
    · exact .inl (by grind)
  · exact .inl rfl

/-- A key slot whose fuses only gain leaves the others as they are. -/
theorem State.setKeyFuse_endures {k : Nat} {x : KeyFuse} (hk : 1 ≤ k) (hx : (s.fuses.slot k).le x) :
    Endures s (s.setKeyFuse k x) := by
  refine ⟨⟨rfl, rfl, rfl, rfl, Nat.le_refl _, fun j hj _ => ?_⟩, id⟩
  obtain h | ⟨rfl, h⟩ := s.fuses.slot_set x hj hk
  · rw [State.setKeyFuse, h]
    exact KeyFuse.le_refl _
  · rw [State.setKeyFuse, h]
    exact hx

theorem State.provision_endures (b : List Byte) : Endures s (s.provision b) := by
  unfold State.provision
  extract_lets k h x
  split
  · exact .of_lasting (State.keyEvent_lasting ..)
  next hk =>
  split
  · exact .of_lasting (by split <;> simp)
  next hx =>
  have hk : 1 ≤ k := by simp at hk; omega
  have hset : Endures s (s.setKeyFuse k { x with hash := h, programmed := true }) :=
    s.setKeyFuse_endures hk ⟨fun hp => absurd hp hx, id⟩
  exact hset.keep (State.keyEvent_lasting ..)

theorem State.revoke_endures (b : List Byte) : Endures s (s.revoke b) := by
  unfold State.revoke
  extract_lets k x others
  split
  · exact .of_lasting (State.keyEvent_lasting ..)
  next hk =>
  have hk : 1 ≤ k := by simp at hk; omega
  have hset : Endures s (s.setKeyFuse k { x with revoked := true }) :=
    s.setKeyFuse_endures hk ⟨fun hp => ⟨hp, rfl⟩, fun _ => rfl⟩
  exact .ite (.refl s) (hset.keep (State.keyEvent_lasting ..))

theorem State.advanceRollback_endures : Endures s s.advanceRollback := by
  unfold State.advanceRollback
  split
  · extract_lets n
    split
    next h =>
      have hn : s.fuses.rollback ≤ n := by simp at h; omega
      have hf : Endures s { s with fuses := { s.fuses with rollback := n } } :=
        ⟨⟨rfl, rfl, rfl, rfl, hn, fun _ _ _ => KeyFuse.le_refl _⟩, id⟩
      exact hf.keep (State.postEvent_lasting ..)
    · exact .refl s
  · exact .refl s

theorem State.firstBeaconSent_endures (t : NT64) : Endures s (s.firstBeaconSent t) := by
  unfold State.firstBeaconSent
  refine .ite (.refl s) ?_
  extract_lets src s1 s2 s3
  have h1 : Endures s s1 := .of_lasting ((State.postEvent_lasting ..).trans (State.mk_lasting ..))
  have h2 : Endures s1 s2 := .foldl (fun s b => s.provision_endures b) s1
  have h3 : Endures s2 s3 := .foldl (fun s b => s.revoke_endures b) s2
  exact ((h1.trans h2).trans h3).trans s3.advanceRollback_endures

theorem State.beaconSent_endures (r bss t stop : Nat) : Endures s (s.beaconSent r bss t stop) :=
  .after (State.mk_lasting ..) (State.firstBeaconSent_endures _ _)

theorem State.airReached_endures (r : Nat) (l : Launch) : Endures s (s.airReached r l) := by
  unfold State.airReached
  split
  · exact .of_lasting (State.reached_lasting ..)
  · exact s.beaconSent_endures _ _ _ _
  · exact .of_lasting (State.foldl_lasting fun s e => State.ite_lasting (by split <;> simp) rfl)

theorem rampStart_endures (r : Nat) (of_ : LaunchOf) : Endures s (rampStart r of_ s) := by
  unfold rampStart
  split
  · exact .refl s
  extract_lets chains set s1
  have hset (g : Launch → Launch) : (set s g).lasting = s.lasting := State.modRadio_lasting ..
  have h1 : s1.lasting = s.lasting := (State.modRadio_lasting ..).trans (State.cutReception_lasting ..)
  refine .ite (.refl s) <| .ite (.of_lasting (hset _)) <| .ite (.of_lasting (hset _)) <| .ite (.of_lasting ?_) ?_
  · rw [State.postEvent_lasting, State.inc_lasting, hset]
  · exact .after ((State.foldl_lasting fun _ _ => State.modChain_lasting ..).trans h1) (State.airReached_endures ..)

theorem beaconGo_endures (r bss air : Nat) : Endures s (beaconGo r bss air s) := by
  unfold beaconGo
  extract_lets t sl over_ set next l s1
  refine .ite (.refl s) <| .ite (.of_lasting ?_) <| .ite (.of_lasting (State.mk_lasting ..)) <| .ite (.of_lasting ?_) ?_
  · simp [next]
  · simp [s1, next]
  · exact .after (State.cutReception_lasting ..) (State.beaconSent_endures ..)

/-! ## A step -/

theorem exec_endures (c : Instr) : ∃ t, exec c s = .next t ∧ Endures s t := by
  cases c with
  | registerWrite r w a v => exact ⟨_, rfl, s.writeAt_endures r w a v⟩
  | stagedWindowWrite r w a v => exact ⟨_, rfl, s.writeAt_endures r w a v⟩
  | resetNAssert => exact ⟨_, rfl, resetLow_endures s⟩
  | pwrOkFall => exact ⟨_, rfl, pwrFall_endures s⟩
  | deviceFault cause detail => exact ⟨_, rfl, deviceFails_endures s cause detail⟩
  | referenceLoss b => exact ⟨_, rfl, refLoss_endures s b⟩
  | rootPllUnlock => exact ⟨_, rfl, rootUnlock_endures s⟩
  | switchAbandoned d => exact ⟨_, rfl, switchForced_endures s d⟩
  | recoveryTimeout => exact ⟨_, rfl, recoveryExpires_endures s⟩
  | deviceResetKeyWrite r v => exact ⟨_, rfl, resetKey_endures s r v⟩
  | flashOpDone => exact ⟨_, rfl, s.flashEnd_endures _ _ State.flashEffect_endures⟩
  | flashOpTimeout => exact ⟨_, rfl, s.flashEnd_endures _ _ State.flashFailed_endures⟩
  | tempSample temps => exact ⟨_, rfl, tempSampled_endures s temps⟩
  | paRampStart r of_ => exact ⟨_, rfl, rampStart_endures s r of_⟩
  | beaconLaunch r bss air => exact ⟨_, rfl, beaconGo_endures s r bss air⟩
  | _ => exact ⟨_, rfl, .of_lasting (by simp)⟩

theorem State.idle_endures : Endures s s.idle := by
  obtain ⟨q, e⟩ : TasksOnly s.tick.fcTick s.idle := s.tick.fcTick.taskWindow_tasksOnly
  rw [e]
  exact .of_lasting rfl

/-- No step takes a blown fuse back or leaves the flash in another form. -/
theorem step_endures {t : State} (h : step s = .next t) : Endures s t := by
  cases hp : s.pending with
  | nil =>
    obtain rfl : s.idle = t := Host.Outcome.next.inj ((step_nil hp).symm.trans h)
    exact s.idle_endures
  | cons c rest =>
    obtain ⟨u, hu, he⟩ := exec_endures { s with pending := rest } c
    obtain rfl : u = t := Host.Outcome.next.inj (hu.symm.trans ((step_cons hp).symm.trans h))
    exact .after (State.mk_lasting ..) he

/-- Settles O5: what writes the flash writes bytes one by one or erases, and both keep the canonical form. -/
theorem flashStaysCanonical : Obligations.FlashStaysCanonical := fun s _ hs h => (step_endures s h).2 hs

/-- Settles O6: the order of fuses is transitive, and every step goes up in it. -/
theorem fusesOnlyGain : Obligations.FusesOnlyGain := fun _ s _ hf h => Fuses.le_trans hf (step_endures s h).1

end Sys2Proof.Machine

end

section
/-! PROOFS. The state after reset, and the way from power to LOAD (02 R45, R47, 03 R70 to R75, 17 R487). -/

namespace Sys2Proof.Machine

/-! ## The state after reset (03 R101) -/

/-- Settles O7: the queue of the reset state is empty and its flash has no byte. -/
theorem resetMeetsInvariants : Obligations.ResetMeetsInvariants :=
  ⟨fun _ => List.nil_suffix, rfl, Fuses.le_refl _⟩

/-- Settles O8: no register, no staged register and no unit is listed, so each has its reset value. -/
theorem resetState : Obligations.ResetState :=
  ⟨rfl, rfl, rfl, rfl, rfl, rfl, fun _ => rfl, fun _ => rfl, fun _ => rfl, rfl, rfl, rfl⟩

/-! ## The start of the qualification (03 R70, R73) -/

theorem State.startQualify_state (s : State) : s.startQualify.boot.state =
    if s.boot.refsel = 3 ∨ s.boot.bootmode = 3 then .reset else .qualify := by
  unfold State.startQualify
  split
  next h => rw [if_pos (by simpa using h)]
  next h => rw [if_neg (by simpa using h), State.requestItems_boot]

/-- What the start of the qualification leaves as it was. -/
theorem State.startQualify_keeps (s : State) : s.startQualify.boot.resetN = s.boot.resetN
    ∧ s.startQualify.boot.refsel = s.boot.refsel ∧ s.startQualify.boot.clkq = s.boot.clkq
    ∧ s.startQualify.boot.bootmode = s.boot.bootmode ∧ s.startQualify.regs = s.regs ∧ s.startQualify.time = s.time := by
  unfold State.startQualify
  split
  · exact ⟨rfl, rfl, rfl, rfl, rfl, rfl⟩
  · obtain ⟨p, e⟩ := State.requestItems_eq { s with boot := { s.boot with state := .qualify } } [0]
    rw [e]
    exact ⟨rfl, rfl, rfl, rfl, rfl, rfl⟩

theorem release_of_low {s : State} (h : s.boot.resetN = false) (refsel bootmode : BitVec 2) (q : BitVec 3) :
    release refsel q bootmode s = State.startQualify { s with boot := { s.boot with
      resetN := true, pwrOk := true, wait := .resetN, refsel := refsel, clkq := q, bootmode := bootmode } } := by
  simp [release, h]

theorem pwrReturn_of_waiting {s : State} (hs : s.boot.state = .reset) (hw : s.boot.wait = .pwrOk) (hn : s.boot.resetN = true) :
    pwrReturn s = State.startQualify { s with boot := { s.boot with pwrOk := true, wait := .resetN } } := by
  simp [pwrReturn, hs, hw, hn]

/-! ## The reference and the root PLL (02 R45, R47) -/

theorem qualified_of_within {s : State} {ppm : Int} (hs : s.boot.state = .qualify) (hr : s.boot.refReady = false)
    (h1 : -1000 ≤ ppm) (h2 : ppm ≤ 1000) : qualified s.qualEdges ppm s = { s with boot := { s.boot with refReady := true } } := by
  simp [qualified, hs, hr, h1, h2]

theorem qualified_of_outside {ppm : Int} (h : ppm < -1000 ∨ 1000 < ppm) (edges : Nat) (s : State) : qualified edges ppm s = s := by
  rw [qualified, if_pos (by simp; tauto)]

/-- A domain other than the FR's changes its source alone. -/
theorem State.setSource_keeps (s : State) {d : Nat} (h : d ≠ 4) (root : Bool) : (s.setSource d root).boot = s.boot
    ∧ (s.setSource d root).time = s.time ∧ (s.setSource d root).clocks.onRoot = s.clocks.onRoot.set d root := by
  simp [State.setSource, h]

theorem State.enableBlock_keeps (s : State) (b : Nat) : (s.enableBlock b).boot = s.boot
    ∧ (s.enableBlock b).clocks = s.clocks ∧ (s.enableBlock b).time = s.time := by
  obtain ⟨e, -⟩ | ⟨p, e⟩ := s.enableBlock_eq b <;> rw [e] <;> exact ⟨rfl, rfl, rfl⟩

/-- What entering RECOVERY leaves as it was (03 R74). -/
theorem State.enterRecovery_keeps (s : State) (cause : Nat) :
    (s.enterRecovery cause).boot = { s.boot with state := .recovery, holdFrom := s.elapsed, almFrom := s.elapsed }
      ∧ (s.enterRecovery cause).clocks = s.clocks ∧ (s.enterRecovery cause).time = s.time := by
  simp [State.enterRecovery, State.enableBlock_keeps]

/-- The root PLL's lock at boot: domain 7 too where the reference is the oscillator, then domains 0, 1, 5 and 6 (02 R47, R49). -/
def State.rooted (s : State) : State :=
  let s1 : State := { s with boot := { s.boot with rootReady := true } }
  [0, 1, 5, 6].foldl (fun s d => s.setSource d true) (if s.boot.refsel = 1 then s1.setSource 7 true else s1)

theorem rootLocked_of_qualify {s : State} (hs : s.boot.state = .qualify) (hr : s.boot.refReady = true)
    (hn : s.boot.rootReady = false) : rootLocked s = if s.boot.bootmode = 2 then s.rooted.enterRecovery 0
      else { s.rooted with boot := { s.rooted.boot with state := .load } } := by
  have h1 : ¬(!s.boot.refReady || s.boot.rootReady) = true := by simp [hr, hn]
  have h2 : (s.boot.state == .qualify) = true := by simp [hs]
  rw [rootLocked, if_neg h1]
  extract_lets s1 src s2 s3
  rw [if_pos h2]
  rfl

theorem State.rooted_keeps (s : State) : s.rooted.boot = { s.boot with rootReady := true } ∧ s.rooted.time = s.time
    ∧ s.rooted.clocks.onRoot = ((((if s.boot.refsel = 1 then s.clocks.onRoot.set 7 true else s.clocks.onRoot).set 0 true).set 1
      true).set 5 true).set 6 true := by
  simp only [State.rooted, List.foldl_cons, List.foldl_nil]
  split <;> simp (disch := decide) [State.setSource_keeps]

/-- The lock leaves the domains in that way, the time bases as they were, and the boot controller in LOAD or RECOVERY. -/
theorem rootLocked_keeps {s : State} (hs : s.boot.state = .qualify) (hr : s.boot.refReady = true)
    (hn : s.boot.rootReady = false) : (rootLocked s).boot.rootReady = true
      ∧ (rootLocked s).boot.state = (if s.boot.bootmode = 2 then .recovery else .load)
      ∧ (rootLocked s).clocks = s.rooted.clocks ∧ (rootLocked s).time = s.time := by
  obtain ⟨hboot, htime, -⟩ := s.rooted_keeps
  obtain ⟨hrb, hrc, hrt⟩ := s.rooted.enterRecovery_keeps 0
  have hready : s.rooted.boot.rootReady = true := by rw [hboot]
  rw [rootLocked_of_qualify hs hr hn]
  split
  · exact ⟨(congrArg Boot.rootReady hrb).trans hready, congrArg Boot.state hrb, hrc, hrt.trans htime⟩
  · exact ⟨hready, rfl, rfl, htime⟩

/-- Settles O21: the straps decide between RESET and QUALIFY, the lock between LOAD and RECOVERY, and each changes the boot controller,
the ledger and the sources alone. -/
theorem coldBoot : Obligations.ColdBoot := by
  refine ⟨fun q refsel bootmode s h => ?_, fun s hs hw hn hr hb => ?_,
    fun ppm s hs hr h1 h2 => congrArg Host.Outcome.next (qualified_of_within hs hr h1 h2),
    fun edges ppm s h => congrArg Host.Outcome.next (qualified_of_outside h edges s), fun s hs hr hn hlen => ?_⟩
  · refine ⟨_, congrArg Host.Outcome.next (release_of_low h refsel bootmode q), ?_⟩
    obtain ⟨hresetN, hrefsel, hclkq, hbootmode, hregs, htime⟩ := State.startQualify_keeps { s with boot := { s.boot with
      resetN := true, pwrOk := true, wait := .resetN, refsel := refsel, clkq := q, bootmode := bootmode } }
    exact ⟨hresetN, hrefsel, hclkq, hbootmode, hregs, State.fuses_of_lasting (State.startQualify_lasting _), htime,
      State.startQualify_state _⟩
  · refine ⟨_, congrArg Host.Outcome.next (pwrReturn_of_waiting hs hw hn), ?_⟩
    have hst := State.startQualify_boot (s := { s with boot := { s.boot with pwrOk := true, wait := .resetN } }) hr hb
    obtain ⟨-, -, -, -, hregs, -⟩ := State.startQualify_keeps { s with boot := { s.boot with pwrOk := true, wait := .resetN } }
    rw [hst]
    exact ⟨rfl, rfl, hregs⟩
  · obtain ⟨hready, hstate, hclocks, htime⟩ := rootLocked_keeps hs hr hn
    obtain ⟨-, -, honRoot⟩ := s.rooted_keeps
    refine ⟨_, rfl, hready, hstate, ?_, ?_, ?_, State.fuses_of_lasting (rootLocked_lasting s), htime⟩ <;>
      rw [hclocks, honRoot]
    · intro d hd
      simp only [List.mem_cons, List.not_mem_nil, or_false] at hd
      rcases hd with rfl | rfl | rfl | rfl <;> split <;> simp [List.getD_eq_getElem?_getD, hlen]
    · intro d hd
      simp only [List.mem_cons, List.not_mem_nil, or_false] at hd
      rcases hd with rfl | rfl | rfl <;> split <;> simp [List.getD_eq_getElem?_getD]
    · split
      next h => simp [List.getD_eq_getElem?_getD, hlen, h]
      next h =>
        rw [decide_eq_false h]
        simp [List.getD_eq_getElem?_getD]

end Sys2Proof.Machine

end

section
/-! PROOFS. The tuners' counts and credits (03 R98, 05 R149). -/

namespace Sys2Proof.Machine

/-! ## A change of several chains -/

theorem State.chain_modChain_ne (s : State) {i j : Nat} (f : ChainSt → ChainSt) (h : j ≠ i) : (s.modChain i f).chain j = s.chain j :=
  Tab.getD_put_ne s.chains _ {} h

/-- Of chains that are all different each is changed once. -/
theorem State.chain_foldl_modChain (f : ChainSt → ChainSt) {l : List Nat} (hl : l.Nodup) (s : State) (j : Nat) :
    (l.foldl (fun s i => s.modChain i f) s).chain j = if j ∈ l then f (s.chain j) else s.chain j := by
  induction l generalizing s with
  | nil => rfl
  | cons i l ih =>
    obtain ⟨hi, hl⟩ := List.nodup_cons.mp hl
    rw [List.foldl_cons, ih hl]
    by_cases hj : j = i
    · simp [hj, hi]
    · simp [hj, s.chain_modChain_ne f hj]

theorem State.foldl_modChain_keeps (f : ChainSt → ChainSt) (l : List Nat) (s : State) :
    (l.foldl (fun s i => s.modChain i f) s).log = s.log ∧ (l.foldl (fun s i => s.modChain i f) s).regs = s.regs := by
  induction l generalizing s with
  | nil => exact ⟨rfl, rfl⟩
  | cons i l ih => exact ih _

theorem State.allChains_nodup (s : State) : s.allChains.Nodup := List.nodup_range.filter _

theorem State.mem_allChains (s : State) (i : Nat) : i ∈ s.allChains ↔ s.chainExists i = true := by
  simp only [State.allChains, List.mem_filter, List.mem_range, and_iff_right_iff_imp]
  intro h
  simp only [State.chainExists, Bool.and_eq_true, decide_eq_true_eq] at h
  exact h.1

/-! ## The timers -/

/-- A tuner's credit after its timer (05 R149). -/
def ChainSt.credited (x : ChainSt) : ChainSt := { x with credit := Nat.min 180000 (x.credit + 7500) }

@[simp] theorem ChainSt.credited_count (x : ChainSt) : x.credited.count = x.count := by simp only [ChainSt.credited]
@[simp] theorem ChainSt.credited_pos (x : ChainSt) : x.credited.pos = x.pos := by simp only [ChainSt.credited]

/-- The credit timer when it is due. -/
theorem creditTimer_of_due {s : State} (h : s.log.creditFrom + 3600000000000 ≤ s.frNs) :
    creditTimer s = (if s.log.creditStop then [] else s.allChains).foldl (fun s i => s.modChain i ChainSt.credited)
      { s with log := { s.log with creditFrom := s.log.creditFrom + 3600000000000 } } := by
  unfold creditTimer
  rw [if_neg (Nat.not_lt.mpr h)]
  split <;> rfl

/-- Settles O28: each timer is due or not, and the credits grow over the chains of the variant, which are all different. -/
theorem tunerCountTimers : Obligations.TunerCountTimers := by
  refine ⟨fun s hs ht => ?_, fun s h => ?_, fun s ht => ?_, fun s ht => ?_⟩
  · refine congrArg Host.Outcome.next (if_neg ?_)
    simpa [Nat.not_lt.mpr ht] using hs
  · refine congrArg Host.Outcome.next (if_pos ?_)
    simpa using h
  · obtain ⟨hlog, hregs⟩ := State.foldl_modChain_keeps ChainSt.credited (if s.log.creditStop then [] else s.allChains)
      { s with log := { s.log with creditFrom := s.log.creditFrom + 3600000000000 } }
    have hl : (if s.log.creditStop then [] else s.allChains).Nodup := by
      split
      · exact List.nodup_nil
      · exact s.allChains_nodup
    have hmem (i : Nat) : i ∈ (if s.log.creditStop then [] else s.allChains) ↔ s.log.creditStop = false ∧ s.chainExists i = true := by
      split <;> simp_all [State.mem_allChains]
    have hchain (i : Nat) : (creditTimer s).chain i
        = if s.log.creditStop = false ∧ s.chainExists i = true then (s.chain i).credited else s.chain i := by
      rw [creditTimer_of_due ht, State.chain_foldl_modChain ChainSt.credited hl]
      simp only [hmem]
      rfl
    rw [← creditTimer_of_due ht] at hlog hregs
    refine ⟨_, rfl, hlog, fun i => ?_, fun i => ?_, hregs⟩
    · rw [hchain]
      split <;> rfl
    · rw [hchain]
      split <;> simp
  · exact congrArg Host.Outcome.next (by rw [creditTimer, if_pos ht])

end Sys2Proof.Machine

end

section
/-! PROOFS. How flash accesses end (03 R76, R79, R94 to R99). -/

namespace Sys2Proof.Machine

/-! ## The next access, and the Almanac command that waits for its last one (R79) -/

section
variable (s : State)

@[simp] theorem State.flashKick_ops : s.flashKick.flash.ops = s.flash.ops := by
  unfold State.flashKick
  split <;> rfl

@[simp] theorem State.flashKick_bytes : s.flashKick.flash.bytes = s.flash.bytes := by
  unfold State.flashKick
  split <;> rfl

@[simp] theorem State.flashKick_spoiled : s.flashKick.flash.spoiled = s.flash.spoiled := by
  unfold State.flashKick
  split <;> rfl

@[simp] theorem State.flashKick_running : s.flashKick.flash.running = !s.flash.ops.isEmpty := by
  unfold State.flashKick
  split <;> simp_all

/-- Starting an access changes the flash's `running` and `since` only. -/
theorem State.flashKick_eq : s.flashKick = { s with flash := s.flashKick.flash } := by
  unfold State.flashKick
  split <;> rfl

@[simp] theorem State.flashKick_fuses : s.flashKick.fuses = s.fuses := by rw [s.flashKick_eq]
@[simp] theorem State.flashKick_log : s.flashKick.log = s.log := by rw [s.flashKick_eq]
@[simp] theorem State.flashKick_boot : s.flashKick.boot = s.boot := by rw [s.flashKick_eq]
@[simp] theorem State.flashKick_host : s.flashKick.host = s.host := by rw [s.flashKick_eq]
@[simp] theorem State.flashKick_regs : s.flashKick.regs = s.regs := by rw [s.flashKick_eq]

/-- Marking a command's medium changes the commands' list only. -/
theorem State.almMark_eq : ∃ l, s.almMark = { s with host := { s.host with cmds := l } } := by
  unfold State.almMark
  split <;> exact ⟨_, rfl⟩

@[simp] theorem State.almMark_fuses : s.almMark.fuses = s.fuses := State.fuses_of_lasting s.almMark_lasting
@[simp] theorem State.almMark_flash : s.almMark.flash = s.flash := by obtain ⟨_, h⟩ := s.almMark_eq; rw [h]
@[simp] theorem State.almMark_log : s.almMark.log = s.log := by obtain ⟨_, h⟩ := s.almMark_eq; rw [h]
@[simp] theorem State.almMark_boot : s.almMark.boot = s.boot := by obtain ⟨_, h⟩ := s.almMark_eq; rw [h]
@[simp] theorem State.almMark_regs : s.almMark.regs = s.regs := by obtain ⟨_, h⟩ := s.almMark_eq; rw [h]
@[simp] theorem State.almMark_cqes : s.almMark.host.cqes = s.host.cqes := by obtain ⟨_, h⟩ := s.almMark_eq; rw [h]

/-- An access of the log at the head marks no command. -/
theorem State.almMark_of_logEntry {type : Nat} {payload : List Byte} {again : Bool} {rest : List FlashOp}
    (h : s.flash.ops = .logEntry type payload again :: rest) : s.almMark = s := by
  unfold State.almMark
  rw [h]
  split <;> simp_all

variable (status result : Nat)

@[simp] theorem State.almDone_flash : (s.almDone status result).flash = s.flash := by
  unfold State.almDone
  split <;> simp

@[simp] theorem State.almDone_log : (s.almDone status result).log = s.log := by
  unfold State.almDone
  split <;> simp

@[simp] theorem State.almDone_almRunning : (s.almDone status result).boot.almRunning = none := by
  unfold State.almDone
  split
  · simp
  · assumption

@[simp] theorem State.almProgress_fuses : s.almProgress.fuses = s.fuses := State.fuses_of_lasting s.almProgress_lasting

@[simp] theorem State.almProgress_flash : s.almProgress.flash = s.flash := by
  unfold State.almProgress
  split <;> simp

@[simp] theorem State.almProgress_log : s.almProgress.log = s.log := by
  unfold State.almProgress
  split <;> simp

end

/-! ## What the writes of the flash leave (R76, R95, R97) -/

section
variable (s : State)

@[simp] theorem State.spoil_log (k : Nat) : (s.spoil k).log = s.log := by
  unfold State.spoil
  split <;> rfl

@[simp] theorem State.spoil_ops (k : Nat) : (s.spoil k).flash.ops = s.flash.ops := by
  unfold State.spoil
  split <;> rfl

@[simp] theorem State.spoil_contains (k : Nat) : (s.spoil k).flash.spoiled.contains k = true := by
  unfold State.spoil
  split
  · assumption
  · simp

/-- A page that is erased, and was not written since its sector's erase, takes the bytes. -/
theorem State.flashProgram_erased {a : Nat} {d : List Byte} (hw : s.flash.written.contains (a / 256) = false)
    (he : (s.flashRead a d.length).all (· == Memory.unlisted) = true) :
    s.flashProgram a d = { s with flash := { s.flash with
      bytes := Memory.writeN s.flash.bytes a d, written := s.flash.written ++ [a / 256] } } := by
  unfold State.flashProgram
  rw [if_pos he, hw]
  rfl

end

/-- t is s with other bytes of the flash, other pages written and sectors spoiled: no access of the queue moved. -/
def CellEffect (s t : State) : Prop := ∃ b w p n,
  t = { s with flash := { s.flash with bytes := b, written := w, spoiled := p }, fresh := n }

theorem CellEffect.refl (s : State) : CellEffect s s := ⟨_, _, _, _, rfl⟩

theorem CellEffect.trans {s t u : State} : CellEffect s t → CellEffect t u → CellEffect s u := by
  rintro ⟨b, w, p, n, rfl⟩ ⟨b', w', p', n', rfl⟩
  exact ⟨_, _, _, _, rfl⟩

theorem CellEffect.foldl {ι : Type} {l : List ι} {g : State → ι → State} (hg : ∀ s i, CellEffect s (g s i)) (s : State) :
    CellEffect s (l.foldl g s) :=
  State.foldl_inv (CellEffect s) l g (fun t i h => h.trans (hg t i)) s (.refl s)

theorem CellEffect.keeps {s t : State} (h : CellEffect s t) : t.log = s.log ∧ t.host = s.host ∧ t.regs = s.regs
    ∧ t.flash.ops = s.flash.ops ∧ t.flash.running = s.flash.running := by
  obtain ⟨b, w, p, n, rfl⟩ := h
  exact ⟨rfl, rfl, rfl, rfl, rfl⟩

variable (s : State)

theorem State.spoil_cells (k : Nat) : CellEffect s (s.spoil k) := by
  unfold State.spoil
  split
  · exact .refl s
  · exact ⟨_, _, _, _, rfl⟩

theorem State.flashProgram_cells (a : Nat) (d : List Byte) : CellEffect s (s.flashProgram a d) := by
  unfold State.flashProgram
  extract_lets old src s0 src s1
  split
  · have h1 : CellEffect s s1 := ⟨_, _, _, _, rfl⟩
    split
    · exact h1.trans (s1.spoil_cells _)
    · exact h1
  · have h0 : CellEffect s s0 := ⟨_, _, _, _, rfl⟩
    refine (h0.trans (CellEffect.foldl (fun t i => ?_) s0)).trans (State.spoil_cells _ _)
    split <;> exact ⟨_, _, _, _, rfl⟩

theorem State.freePage_cells (a : Nat) : CellEffect s (s.freePage a) :=
  CellEffect.foldl (fun _ _ => ⟨_, _, _, _, rfl⟩) s

theorem State.flashScramble_cells (k : Nat) : CellEffect s (s.flashScramble k) := by
  unfold State.flashScramble
  extract_lets s1
  have h1 : CellEffect s s1 := CellEffect.foldl (fun _ _ => ⟨_, _, _, _, rfl⟩) s
  exact h1.trans (s1.spoil_cells k)

/-- A byte that takes a free value. -/
def State.freeByte (s : State) (a : Nat) : State :=
  let (v, s) := s.draw 8
  { s with flash := { s.flash with bytes := Memory.write s.flash.bytes a v } }

theorem State.flashScramble_eq (k : Nat) :
    s.flashScramble k = ((List.range 65536).foldl (fun s i => s.freeByte (k * 65536 + i)) s).spoil k := by
  unfold State.flashScramble State.freeByte
  rfl

theorem State.read_foldl_freeByte {l : List Nat} {a b : Nat} (h : ∀ i ∈ l, a ≠ b + i) (s : State) :
    Memory.read (l.foldl (fun s i => s.freeByte (b + i)) s).flash.bytes a = Memory.read s.flash.bytes a := by
  induction l generalizing s with
  | nil => rfl
  | cons i l ih =>
    rw [List.foldl_cons, ih fun j hj => h j (List.mem_cons_of_mem i hj)]
    exact Memory.read_write_ne _ _ (h i List.mem_cons_self)

/-- A sector in an unknown state changes no byte of another. -/
theorem State.read_flashScramble {k a : Nat} (h : a < k * 65536 ∨ k * 65536 + 65536 ≤ a) :
    Memory.read (s.flashScramble k).flash.bytes a = Memory.read s.flash.bytes a := by
  rw [State.flashScramble_eq, State.bytes_spoil, State.read_foldl_freeByte]
  intro i hi
  have := List.mem_range.mp hi
  omega

theorem State.flashScramble_spoiled (k : Nat) : (s.flashScramble k).flash.spoiled.contains k = true := by
  rw [State.flashScramble_eq, State.spoil_contains]

/-! ## The pointer of the log (R97) -/

@[simp] theorem State.queueLogOp_log (o : FlashOp) : (s.queueLogOp o).log = s.log := by
  simp [State.queueLogOp]

theorem State.logAdvance_log : s.logAdvance.log = { s.log with ptr := (s.log.ptr + 1) % 32768 } := by
  unfold State.logAdvance
  dsimp only
  split
  · rw [State.queueLogOp_log]
  · rfl

/-- A log entry moves the pointer on by a page and counts its SEQ (R96). -/
theorem State.logProgram_log (type : Nat) (payload : List Byte) : (s.logProgram type payload).log =
    { s.log with ptr := (s.log.ptr + 1) % 32768, seq := (s.log.seq + 1) % 2 ^ 32 } := by
  obtain ⟨hlog, -⟩ := (s.flashProgram_cells (s.logBase + 256 * s.log.ptr) (logPage type s.log.seq s.stamp payload)).keeps
  simp only [State.logProgram, State.logAdvance_log, hlog]

/-- While no access runs, one of the log goes behind the log's that wait and before every other. -/
theorem State.queueLogOp_ops (h : s.flash.running = false) (o : FlashOp) : (s.queueLogOp o).flash.ops =
    s.flash.ops.takeWhile FlashOp.ofLog ++ [o] ++ s.flash.ops.dropWhile FlashOp.ofLog := by
  have hd (l : List FlashOp) : l.drop (l.takeWhile FlashOp.ofLog).length = l.dropWhile FlashOp.ofLog := by
    conv_lhs => arg 2; rw [← l.takeWhile_append_dropWhile (p := FlashOp.ofLog)]
    exact List.drop_left
  simp [State.queueLogOp, h, hd]

/-- The pointer that enters a sector queues the erase of the sector after it. -/
theorem State.logAdvance_ops (h : s.flash.running = false) : s.logAdvance.flash.ops =
    if (s.log.ptr + 1) % 256 = 0 then s.flash.ops.takeWhile FlashOp.ofLog
      ++ [.logErase (((s.log.ptr + 1) / 256 % 128 + 1) % 128)] ++ s.flash.ops.dropWhile FlashOp.ofLog
    else s.flash.ops := by
  have hm : (s.log.ptr + 1) % 32768 % 256 = (s.log.ptr + 1) % 256 := by omega
  have hd : (s.log.ptr + 1) % 32768 / 256 = (s.log.ptr + 1) / 256 % 128 := by omega
  unfold State.logAdvance
  dsimp only
  rw [hm, hd]
  split
  · simp only [State.queueLogOp_ops, h]
  · rfl

/-! ## The access at the head ends (R79) -/

theorem State.flashEnd_of {s : State} {o : FlashOp} {rest : List FlashOp} {may : FlashOp → Bool} (effect : State → FlashOp → State)
    (hr : s.flash.running = true) (ho : s.flash.ops = o :: rest) (hm : may o = true) : s.flashEnd may effect =
      (effect { s with flash := { s.flash with ops := rest, running := false } } o).flashKick.almMark := by
  simp [State.flashEnd, hr, ho, hm]

/-- The state in which the effect of the access that ran is taken: it is off the queue. -/
def State.popped (s : State) (rest : List FlashOp) : State :=
  { s with flash := { s.flash with ops := rest, running := false } }

@[simp] theorem State.popped_flash (s : State) (rest : List FlashOp) :
    (s.popped rest).flash = { s.flash with ops := rest, running := false } := rfl
@[simp] theorem State.popped_log (s : State) (rest : List FlashOp) : (s.popped rest).log = s.log := rfl
@[simp] theorem State.popped_fuses (s : State) (rest : List FlashOp) : (s.popped rest).fuses = s.fuses := rfl

/-- An access that ends before its timeout leaves its effect, and the next runs. -/
theorem execFlashOpDone_of {s : State} {o : FlashOp} {rest : List FlashOp} (hr : s.flash.running = true)
    (ho : s.flash.ops = o :: rest) (ht : s.elapsed < s.flash.since + o.limit) :
    exec .flashOpDone s = .next ((s.popped rest).flashEffect o).flashKick.almMark :=
  congrArg Host.Outcome.next (State.flashEnd_of State.flashEffect hr ho (by simp [ht]))

/-- An access that reaches its timeout leaves what a failed one leaves, and the next runs. -/
theorem execFlashOpTimeout_of {s : State} {o : FlashOp} {rest : List FlashOp} (hr : s.flash.running = true)
    (ho : s.flash.ops = o :: rest) (ht : s.flash.since + o.limit ≤ s.elapsed) :
    exec .flashOpTimeout s = .next ((s.popped rest).flashFailed o).flashKick.almMark :=
  congrArg Host.Outcome.next (State.flashEnd_of State.flashFailed hr ho (decide_eq_true ht))

variable {s}
variable {rest : List FlashOp}

theorem flashOpDone_program {a : Nat} {d : List Byte} (hr : s.flash.running = true) (ho : s.flash.ops = .program a d :: rest)
    (ht : s.elapsed < s.flash.since + ms 5) (hw : s.flash.written.contains (a / 256) = false)
    (he : (s.flashRead a d.length).all (· == Memory.unlisted) = true) :
    ∃ t, exec .flashOpDone s = .next t ∧ t.flash.bytes = Memory.writeN s.flash.bytes a d ∧ t.flash.ops = rest
      ∧ t.flash.spoiled = s.flash.spoiled ∧ t.flash.running = !rest.isEmpty ∧ t.log = s.log ∧ t.fuses = s.fuses := by
  have hp := (s.popped rest).flashProgram_erased (a := a) (d := d) hw he
  refine ⟨_, execFlashOpDone_of hr ho ht, ?_⟩
  simp only [State.flashEffect, hp]
  simp

theorem flashOpDone_erase {k : Nat} (hr : s.flash.running = true) (ho : s.flash.ops = .erase k :: rest)
    (ht : s.elapsed < s.flash.since + ms 2000) :
    ∃ t, exec .flashOpDone s = .next t ∧ (∀ a, k * 65536 ≤ a → a < k * 65536 + 65536 → Memory.read t.flash.bytes a = 0xFF#8)
      ∧ (∀ a, a < k * 65536 ∨ k * 65536 + 65536 ≤ a → Memory.read t.flash.bytes a = Memory.read s.flash.bytes a)
      ∧ t.flash.ops = rest ∧ t.flash.spoiled.contains k = false ∧ t.log = s.log := by
  refine ⟨_, execFlashOpDone_of hr ho ht, ?_⟩
  have hb : ((s.popped rest).flashEffect (.erase k)).flashKick.almMark.flash.bytes
      = Memory.erase s.flash.bytes (k * 65536) 65536 := by simp [State.flashEffect]; rfl
  rw [hb]
  refine ⟨fun a h h' => ?_, fun a h => ?_, ?_, ?_, ?_⟩
  · rw [Memory.read_erase, if_pos ⟨h, h'⟩]; rfl
  · rw [Memory.read_erase, if_neg (by omega)]
  · simp [State.flashEffect]; rfl
  · simp [State.flashEffect, State.flashErase]
  · simp [State.flashEffect]; rfl

theorem flashOpDone_logEntry {ty : Nat} {p : List Byte} {again : Bool} (hr : s.flash.running = true)
    (ho : s.flash.ops = .logEntry ty p again :: rest) (ht : s.elapsed < s.flash.since + ms 5) :
    ∃ t, exec .flashOpDone s = .next t ∧ t.log.ptr = (s.log.ptr + 1) % 32768 ∧ t.log.seq = (s.log.seq + 1) % 2 ^ 32
      ∧ t.host.cqes = s.host.cqes ∧ t.regs = s.regs := by
  obtain ⟨f, l, n, he⟩ := (s.popped rest).logProgram_effect ty p
  have hlog : ((s.popped rest).flashEffect (.logEntry ty p again)).flashKick.almMark.log
      = { s.log with ptr := (s.log.ptr + 1) % 32768, seq := (s.log.seq + 1) % 2 ^ 32 } := by
    rw [State.almMark_log, State.flashKick_log, State.flashEffect, State.logProgram_log, State.popped_log]
  refine ⟨_, execFlashOpDone_of hr ho ht, by rw [hlog], by rw [hlog], ?_, ?_⟩
  · rw [State.almMark_cqes, State.flashKick_host, State.flashEffect, he]
    rfl
  · rw [State.almMark_regs, State.flashKick_regs, State.flashEffect, he]
    rfl

theorem flashOpTimeout_erase {k : Nat} (hr : s.flash.running = true) (ho : s.flash.ops = .erase k :: rest)
    (ht : s.flash.since + ms 2000 ≤ s.elapsed) :
    ∃ t, exec .flashOpTimeout s = .next t ∧ t.flash.spoiled.contains k = true ∧ t.flash.ops = rest.filter FlashOp.ofLog
      ∧ t.boot.almRunning = none
      ∧ ∀ a, a < k * 65536 ∨ k * 65536 + 65536 ≤ a → Memory.read t.flash.bytes a = Memory.read s.flash.bytes a := by
  refine ⟨_, execFlashOpTimeout_of hr ho ht, ?_⟩
  obtain ⟨-, -, -, hops, -⟩ := ((s.popped rest).almDrop.flashScramble_cells k).keeps
  simp only [State.flashFailed, State.almMark_flash, State.almMark_boot, State.flashKick_spoiled, State.flashKick_ops,
    State.flashKick_bytes, State.flashKick_boot, State.almDone_flash, State.almDone_almRunning, hops, true_and]
  exact ⟨State.flashScramble_spoiled _ k, rfl, fun a h => State.read_flashScramble _ h⟩

/-- What a log entry that times out leaves before it is tried again: a page in an unknown state, and no credit for a count. -/
def State.entryFailed (s : State) (ty : Nat) : State :=
  let t := s.freePage (s.logBase + 256 * s.log.ptr)
  if ty = 2 then { t with log := { t.log with creditStop := true } } else t

theorem State.flashFailed_logEntry (s : State) (ty : Nat) (p : List Byte) (again : Bool) :
    s.flashFailed (.logEntry ty p again) = if again then (s.entryFailed ty).logDown
      else { (s.entryFailed ty).logAdvance with flash := { (s.entryFailed ty).logAdvance.flash with
        ops := .logEntry ty p true :: (s.entryFailed ty).logAdvance.flash.ops } } := rfl

theorem State.entryFailed_keeps (s : State) (ty : Nat) :
    (s.entryFailed ty).log = { s.log with creditStop := s.log.creditStop || decide (ty = 2) } ∧ (s.entryFailed ty).host = s.host
      ∧ (s.entryFailed ty).flash.ops = s.flash.ops ∧ (s.entryFailed ty).flash.running = s.flash.running := by
  obtain ⟨hlog, hhost, -, hops, hrun⟩ := (s.freePage_cells (s.logBase + 256 * s.log.ptr)).keeps
  unfold State.entryFailed
  by_cases h : ty = 2
  · simp [h, hlog, hhost, hops, hrun]
  · simp [h, hlog, hhost, hops, hrun]

theorem flashOpTimeout_logEntry_first {ty : Nat} {p : List Byte} (hr : s.flash.running = true)
    (ho : s.flash.ops = .logEntry ty p false :: rest) (ht : s.flash.since + ms 5 ≤ s.elapsed) :
    ∃ t, exec .flashOpTimeout s = .next t
      ∧ t.flash.ops = .logEntry ty p true :: (if (s.log.ptr + 1) % 256 = 0
          then rest.takeWhile FlashOp.ofLog ++ [.logErase (((s.log.ptr + 1) / 256 % 128 + 1) % 128)] ++ rest.dropWhile FlashOp.ofLog
          else rest)
      ∧ t.log.ptr = (s.log.ptr + 1) % 32768 ∧ t.log.creditStop = (s.log.creditStop || decide (ty = 2)) ∧ t.host = s.host := by
  obtain ⟨hlog, hhost, hops, hrun⟩ := (s.popped rest).entryFailed_keeps ty
  obtain ⟨f, l, n, he⟩ := ((s.popped rest).entryFailed ty).logAdvance_effect
  have hadv := State.logAdvance_ops _ hrun
  have hptr := ((s.popped rest).entryFailed ty).logAdvance_log
  rw [hlog, hops] at hadv
  rw [hlog] at hptr
  have hh : ((s.popped rest).entryFailed ty).logAdvance.host = s.host := by rw [he]; exact hhost
  refine ⟨_, execFlashOpTimeout_of hr ho ht, ?_⟩
  rw [State.flashFailed_logEntry, if_neg (by simp), State.almMark_of_logEntry _ (State.flashKick_ops _)]
  simp only [State.flashKick_ops, State.flashKick_log, State.flashKick_host, hadv, hptr, hh]
  exact ⟨rfl, rfl, rfl, trivial⟩

theorem flashOpTimeout_logEntry_again {ty : Nat} {p : List Byte} (hr : s.flash.running = true)
    (ho : s.flash.ops = .logEntry ty p true :: rest) (ht : s.flash.since + ms 5 ≤ s.elapsed) :
    ∃ t, exec .flashOpTimeout s = .next t ∧ t.log.down = true ∧ t.log.creditStop = true
      ∧ t.flash.ops = rest.filter (fun o => !o.ofLog) := by
  obtain ⟨-, -, hops, -⟩ := (s.popped rest).entryFailed_keeps ty
  refine ⟨_, execFlashOpTimeout_of hr ho ht, ?_⟩
  rw [State.flashFailed_logEntry, if_pos rfl]
  simp only [State.almMark_log, State.almMark_flash, State.flashKick_log, State.flashKick_ops, State.logDown, State.postEvent_flash, hops]
  exact ⟨trivial, trivial, rfl⟩

/-- Settles O27, access by access. -/
theorem flashAccessesEnd : Obligations.FlashAccessesEnd := by
  unfold Obligations.FlashAccessesEnd
  exact ⟨fun _ _ _ _ => flashOpDone_program, fun _ _ _ => flashOpDone_erase, fun _ _ _ _ _ => flashOpDone_logEntry,
    fun _ _ _ => flashOpTimeout_erase, fun _ _ _ _ => flashOpTimeout_logEntry_first, fun _ _ _ _ => flashOpTimeout_logEntry_again⟩

end Sys2Proof.Machine
end

section
/-! PROOFS. The Almanac commands (03 R93 to R95, R79). -/

namespace Sys2Proof.Machine

/-! ## An Almanac command that is taken up at once (R94) -/

/-- The state in which an Almanac command is checked: RECOVERY's 600 s start anew (R73). -/
def State.almAsked (s : State) : State := { s with boot := { s.boot with almFrom := s.elapsed } }

variable {s : State} {tag op : Nat} {c : Cmd}

theorem State.almCmd_of_offered (act : Cmd → State → State) (ho : Offered s 0 tag op c) (hb : s.almBusy tag = false) :
    s.almCmd 0 tag op act = act c s.almAsked := by
  have hc : byPF c = true := by
    have h := List.find?_some ho.1
    simp only [Bool.and_eq_true] at h
    exact h.1.1
  unfold State.almCmd
  rw [if_neg (by simp [hb]), State.runCmd_of_offered _ ho hc rfl]
  rfl

/-- An offered command is the one its function and tag name. -/
theorem Offered.key (ho : Offered s 0 tag op c) : (c.fn, c.tag) = (0, tag) := by
  have h := List.find?_some ho.1
  simp only [Bool.and_eq_true, beq_iff_eq] at h
  rw [h.1.1, h.1.2]

/-! ## The accesses of a command (R79) -/

/-- Accesses queued one by one go behind those that wait, and the flash runs. -/
theorem State.foldl_queueFlashOp (l : List FlashOp) (s : State) : ∃ f, l.foldl (fun s o => s.queueFlashOp o) s = { s with flash := f }
    ∧ f.ops = s.flash.ops ++ l ∧ f.bytes = s.flash.bytes ∧ (l ≠ [] → f.running = true) := by
  induction l generalizing s with
  | nil => exact ⟨s.flash, rfl, by simp, rfl, fun h => absurd rfl h⟩
  | cons o l ih =>
    obtain ⟨f, he, hops, hbytes, hrun⟩ := ih (s.queueFlashOp o)
    have hq : s.queueFlashOp o = { s with flash := (s.queueFlashOp o).flash } := State.flashKick_eq _
    refine ⟨f, ?_, ?_, ?_, fun _ => ?_⟩
    · rw [List.foldl_cons, he, hq]
    · rw [hops, State.queueFlashOp, State.flashKick_ops, List.append_assoc]; rfl
    · rw [hbytes, State.queueFlashOp, State.flashKick_bytes]
    · by_cases hl : l = []
      · subst hl
        have hf : (s.queueFlashOp o).flash = f := congrArg State.flash he
        rw [← hf, State.queueFlashOp, State.flashKick_running]
        simp
      · exact hrun hl

/-- What the start of an Almanac command leaves: it runs, and its accesses wait behind those that the flash has to do. -/
structure AlmStarted (s : State) (tag : Nat) (ops : List FlashOp) (t : State) : Prop where
  command : t.boot.almRunning = some (0, tag)
  runs : t.flash.running = true
  ops : t.flash.ops = s.flash.ops ++ ops
  bytes : t.flash.bytes = s.flash.bytes
  regs : t.regs = s.regs
  asked : t.boot.almFrom = s.elapsed

theorem State.almStart_started (ho : Offered s 0 tag op c) {ops : List FlashOp} (hops : ops ≠ []) :
    AlmStarted s tag ops (s.almAsked.almStart c ops) := by
  have hkey := ho.key
  unfold State.almStart
  extract_lets s1 src s2
  obtain ⟨f, he, hf, hbytes, hrun⟩ := State.foldl_queueFlashOp ops s2
  rw [he]
  refine ⟨?_, ?_, ?_, ?_, ?_, ?_⟩
  · simp [s2, hkey]
  · simpa using hrun hops
  · rw [State.almMark_flash]
    exact hf
  · rw [State.almMark_flash]
    exact hbytes
  · rw [State.almMark_regs]
    rfl
  · rw [State.almMark_boot]
    rfl

/-- A command whose fields were accepted: FLASH_ERROR without a flash (13 R380), else its accesses. -/
def State.almAccesses (s : State) (tag : Nat) (c : Cmd) (ops : List FlashOp) : State :=
  if !s.flash.ok then s.almAsked.complete 0 tag 0x1A else s.almAsked.almStart c ops

/-! ## The fields' ranges (R94) and what each command does -/

/-- ALM_SLOT_ERASE outside its table, or of a slot that is not writable. -/
def State.eraseRefused (s : State) (c : Cmd) : Prop :=
  c.reservedOk [(16, 1), (20, 4), (24, 4)] = false ∨ 1 < c.b 16 ∨ s.slotWritable (c.b 16) = false ∨ c.le 20 4 % 65536 ≠ 0
    ∨ c.le 24 4 % 65536 ≠ 0 ∨ c.le 24 4 = 0 ∨ s.slotSize < c.le 20 4 + c.le 24 4

/-- ALM_SLOT_WRITE outside its table, or of a slot that is not writable. -/
def State.writeRefused (s : State) (c : Cmd) : Prop :=
  c.reservedOk [(16, 1), (20, 4), (24, 4), (32, 8)] = false ∨ 1 < c.b 16 ∨ s.slotWritable (c.b 16) = false
    ∨ c.le 20 4 % 256 ≠ 0 ∨ c.le 24 4 % 256 ≠ 0 ∨ c.le 24 4 = 0 ∨ 65536 < c.le 24 4 ∨ s.slotSize < c.le 20 4 + c.le 24 4

/-- ALM_SLOT_VERIFY outside its table. -/
def Cmd.verifyRefused (c : Cmd) : Prop := c.reservedOk [(16, 1)] = false ∨ 1 < c.b 16

/-- LOG_READ outside its table. -/
def Cmd.logReadRefused (c : Cmd) : Prop :=
  c.reservedOk [(16, 4), (20, 4), (32, 8)] = false ∨ 32767 < c.le 16 4 ∨ c.le 20 4 = 0 ∨ 256 < c.le 20 4

/-- One erase per 64 KB. -/
def State.eraseOps (s : State) (c : Cmd) : List FlashOp :=
  (List.range (c.le 24 4 / 65536)).map fun i => .erase ((s.slotBase (c.b 16) + c.le 20 4) / 65536 + i)

/-- One program per 256 B of the host's data. -/
def State.writeOps (s : State) (c : Cmd) (d : List Byte) : List FlashOp :=
  (List.range (c.le 24 4 / 256)).map fun i => .program (s.slotBase (c.b 16) + c.le 20 4 + 256 * i) (slice d (256 * i) 256)

section
variable (hb : s.almBusy tag = false)
include hb

theorem almSlotErase_checked (ho : Offered s 0 tag 0x0110 c) :
    (s.eraseRefused c → exec (.almSlotErase 0 tag) s = .next (s.almAsked.complete 0 tag 0x02))
      ∧ (¬ s.eraseRefused c → exec (.almSlotErase 0 tag) s = .next (s.almAccesses tag c (s.eraseOps c))) := by
  have he : exec (.almSlotErase 0 tag) s = .next (slotErase 0 tag s) := rfl
  rw [he, slotErase, State.almCmd_of_offered _ ho hb]
  refine ⟨fun (h : s.almAsked.eraseRefused c) => congrArg _ (if_pos ?_),
    fun (h : ¬ s.almAsked.eraseRefused c) => congrArg _ (if_neg ?_)⟩
  · simpa [State.eraseRefused, or_assoc] using h
  · simpa [State.eraseRefused, or_assoc] using h

theorem almSlotWrite_checked (data : HostData) (ho : Offered s 0 tag 0x0111 c) :
    (s.writeRefused c → exec (.almSlotWrite 0 tag data) s = .next (s.almAsked.complete 0 tag 0x02))
      ∧ (¬ s.writeRefused c → s.flash.ok = false → exec (.almSlotWrite 0 tag data) s = .next (s.almAsked.complete 0 tag 0x1A))
      ∧ ∀ d, ¬ s.writeRefused c → data = some d → exec (.almSlotWrite 0 tag data) s = .next (s.almAccesses tag c (s.writeOps c d)) := by
  have he : exec (.almSlotWrite 0 tag data) s = .next (slotWrite 0 tag data s) := rfl
  rw [he, slotWrite, State.almCmd_of_offered _ ho hb]
  refine ⟨fun (h : s.almAsked.writeRefused c) => congrArg _ (if_pos ?_),
    fun (h : ¬ s.almAsked.writeRefused c) hf => congrArg _ ((if_neg ?_).trans (if_pos ?_)),
    fun d (h : ¬ s.almAsked.writeRefused c) hd => hd ▸ congrArg _ (if_neg ?_)⟩
  · simpa [State.writeRefused, or_assoc] using h
  · simpa [State.writeRefused, or_assoc] using h
  · exact congrArg not hf
  · simpa [State.writeRefused, or_assoc] using h

theorem almSlotVerify_checked (ho : Offered s 0 tag 0x0112 c) :
    (c.verifyRefused → exec (.almSlotVerify 0 tag) s = .next (s.almAsked.complete 0 tag 0x02))
      ∧ (¬ c.verifyRefused → exec (.almSlotVerify 0 tag) s = .next (s.almAccesses tag c [.verify (c.b 16)])) := by
  have he : exec (.almSlotVerify 0 tag) s = .next (slotVerify 0 tag s) := rfl
  rw [he, slotVerify, State.almCmd_of_offered _ ho hb]
  refine ⟨fun h => congrArg _ (if_pos ?_), fun h => congrArg _ (if_neg ?_)⟩
  · simpa [Cmd.verifyRefused] using h
  · simpa [Cmd.verifyRefused] using h

theorem logRead_checked (ho : Offered s 0 tag 0x0114 c) :
    (c.logReadRefused → exec (.logRead 0 tag) s = .next (s.almAsked.complete 0 tag 0x02))
      ∧ (¬ c.logReadRefused → exec (.logRead 0 tag) s = .next (s.almAccesses tag c [.logRead (c.le 16 4) (c.le 20 4)])) := by
  have he : exec (.logRead 0 tag) s = .next (logReads 0 tag s) := rfl
  rw [he, logReads, State.almCmd_of_offered _ ho hb]
  refine ⟨fun h => congrArg _ (if_pos ?_), fun h => congrArg _ (if_neg ?_)⟩
  · simpa [Cmd.logReadRefused, or_assoc] using h
  · simpa [Cmd.logReadRefused, or_assoc] using h

theorem attest_checked (ho : Offered s 0 tag 0x0113 c) :
    (c.reservedOk [(16, 32), (48, 8)] = false → exec (.attest 0 tag) s = .next (s.almAsked.complete 0 tag 0x02))
      ∧ (c.reservedOk [(16, 32), (48, 8)] = true → exec (.attest 0 tag) s = .next ((s.almAsked.writeHost 0 (c.le 48 8)
          (s.attestBody (c.bytes 16 32) ++ ed25519Sign s.fuses.idSeed (sha512 (s.attestBody (c.bytes 16 32))))).complete 0 tag 0)) := by
  have he : exec (.attest 0 tag) s = .next (attest 0 tag s) := rfl
  rw [he, attest, State.almCmd_of_offered _ ho hb]
  refine ⟨fun h => congrArg _ (if_pos ?_), fun h => congrArg _ (if_neg ?_)⟩
  · simp [h]
  · simp [h]

end

/-- With a flash, the accesses of an accepted command are queued and it runs. -/
theorem State.almAccesses_started (ho : Offered s 0 tag op c) (hf : s.flash.ok = true) {ops : List FlashOp} (hops : ops ≠ []) :
    AlmStarted s tag ops (s.almAccesses tag c ops) := by
  rw [State.almAccesses, if_neg (by simp [hf])]
  exact State.almStart_started ho hops

theorem State.almAccesses_of_noFlash (hf : s.flash.ok = false) (ops : List FlashOp) :
    s.almAccesses tag c ops = s.almAsked.complete 0 tag 0x1A := by
  rw [State.almAccesses, if_pos (by simp [hf])]

theorem State.eraseOps_ne_nil (h : ¬ s.eraseRefused c) : s.eraseOps c ≠ [] := by
  simp only [State.eraseRefused, not_or] at h
  simp only [State.eraseOps, ne_eq, List.map_eq_nil_iff, List.range_eq_nil]
  omega

theorem State.writeOps_ne_nil (h : ¬ s.writeRefused c) (d : List Byte) : s.writeOps c d ≠ [] := by
  simp only [State.writeRefused, not_or] at h
  simp only [State.writeOps, ne_eq, List.map_eq_nil_iff, List.range_eq_nil]
  omega

/-- Settles O26, command by command. -/
theorem almanacCommands : Obligations.AlmanacCommands := by
  unfold Obligations.AlmanacCommands
  refine ⟨?erase, ?write, ?verify, ?read, ?attest, ?noFlash, ?refused⟩
  case erase =>
    intro tag c s ho hb hf h1 h2 h3 h4 h5 h6 h7
    have h : ¬ s.eraseRefused c := by simp [State.eraseRefused, *]
    have ht := State.almAccesses_started ho hf (State.eraseOps_ne_nil h)
    exact ⟨_, (almSlotErase_checked hb ho).2 h, ht.command, ht.runs, ht.ops, ht.bytes, ht.regs, ht.asked⟩
  case write =>
    intro tag c d s ho hb hf h1 h2 h3 h4 h5 h6 h7 h8
    have h : ¬ s.writeRefused c := by simp [State.writeRefused, *]
    have ht := State.almAccesses_started ho hf (State.writeOps_ne_nil h d)
    exact ⟨_, (almSlotWrite_checked hb _ ho).2.2 d h rfl, ht.command, ht.runs, ht.ops, ht.bytes, ht.regs⟩
  case verify =>
    intro tag c s ho hb hf h1 h2
    have h : ¬ c.verifyRefused := by simp [Cmd.verifyRefused, *]
    have ht := State.almAccesses_started ho hf (List.cons_ne_nil (.verify (c.b 16)) [])
    exact ⟨_, (almSlotVerify_checked hb ho).2 h, ht.command, ht.runs, ht.ops, ht.bytes, ht.regs⟩
  case read =>
    intro tag c s ho hb hf h1 h2 h3 h4
    have h : ¬ c.logReadRefused := by simp [Cmd.logReadRefused, *]
    have ht := State.almAccesses_started ho hf (List.cons_ne_nil (.logRead (c.le 16 4) (c.le 20 4)) [])
    exact ⟨_, (logRead_checked hb ho).2 h, ht.command, ht.runs, ht.ops, ht.bytes, ht.regs⟩
  case attest =>
    intro tag c s ho hb h
    exact (attest_checked hb ho).2 h
  case noFlash =>
    rintro tag op c i data s (⟨rfl, rfl, h⟩ | ⟨rfl, rfl, h⟩ | ⟨rfl, rfl, h⟩ | ⟨rfl, rfl, h⟩) ho hb hf
    · rw [(almSlotErase_checked hb ho).2 (by simp [State.eraseRefused, h]), State.almAccesses_of_noFlash hf]
      rfl
    · exact (almSlotWrite_checked hb data ho).2.1 (by simp [State.writeRefused, h]) hf
    · rw [(almSlotVerify_checked hb ho).2 (by simp [Cmd.verifyRefused, h]), State.almAccesses_of_noFlash hf]
      rfl
    · rw [(logRead_checked hb ho).2 (by simp [Cmd.logReadRefused, h]), State.almAccesses_of_noFlash hf]
      rfl
  case refused =>
    rintro tag op c i data s hb ho ((⟨rfl, rfl, h⟩ | ⟨rfl, rfl, h⟩ | ⟨rfl, rfl, h⟩ | ⟨rfl, rfl, h⟩) | ⟨rfl, rfl, h⟩)
    · exact (almSlotErase_checked hb ho).1 h
    · exact (almSlotWrite_checked hb data ho).1 h
    · exact (almSlotVerify_checked hb ho).1 h
    · exact (logRead_checked hb ho).1 h
    · exact (attest_checked hb ho).1 h

end Sys2Proof.Machine
end

section
/-! PROOFS. What the boot controller's applying of the records, the counts and the log, and the units that rejoin leave of its own
state (03 R73, R86, R87, R97, R98). -/

namespace Sys2Proof.Machine

/-! ## What leaves the boot controller alone -/

@[simp] theorem State.boot_ite (c : Prop) [Decidable c] (a b : State) : (if c then a else b).boot = if c then a.boot else b.boot :=
  apply_ite State.boot c a b

theorem State.ite_boot {c : Prop} [Decidable c] {a b s : State} (ha : a.boot = s.boot) (hb : b.boot = s.boot) :
    (if c then a else b).boot = s.boot := by
  split
  · exact ha
  · exact hb

@[simp] theorem State.foldl_boot {ι : Type} {g : State → ι → State} (hg : ∀ s i, (g s i).boot = s.boot) {l : List ι} {s : State} :
    (l.foldl g s).boot = s.boot :=
  State.foldl_inv (fun t => t.boot = s.boot) l g (fun t i h => (hg t i).trans h) s rfl

variable (s : State)

/-! ## Applying the records (03 R85) -/

@[simp] theorem State.setR_boot (a v : Nat) : (s.setR a v).boot = s.boot := by simp [State.setR]
@[simp] theorem State.setBoth_boot (a v : Nat) : (s.setBoth a v).boot = s.boot := by simp [State.setBoth]
@[simp] theorem State.setMeridian_boot : s.setMeridian.boot = s.boot := by simp [State.setMeridian]
@[simp] theorem State.setBoard_boot : s.setBoard.boot = s.boot := by simp [State.setBoard]
@[simp] theorem State.setFrontEnd_boot (r : Nat) : (s.setFrontEnd r).boot = s.boot := by simp [State.setFrontEnd]
@[simp] theorem State.setBaseband_boot (r : Nat) : (s.setBaseband r).boot = s.boot := by simp [State.setBaseband]

theorem State.stageTemplate_boot (r mode : Nat) (put : State → Nat → Nat → State)
    (h : ∀ s i v, (put s i v).boot = s.boot) : ∀ t, s.stageTemplate r mode put = some t → t.boot = s.boot := by
  intro t ht
  obtain ⟨b, -, rfl⟩ := Option.map_eq_some_iff.mp ht
  exact State.foldl_boot fun s i => State.ite_boot ((h ..).trans (h ..)) ((h ..).trans (h ..))

@[simp] theorem State.setMac_boot (r : Nat) : (s.setMac r).boot = s.boot := by
  unfold State.setMac
  refine State.ite_boot rfl ?_
  extract_lets m s1 s2 s3
  have h3 : s3.boot = s2.boot := State.foldl_boot fun _ _ => by rw [State.setBoth_boot, State.setBoth_boot, State.setBoth_boot]
  have h2 : s2.boot = s.boot := by
    rw [State.foldl_boot fun s k => s.setR_boot .., State.setR_boot, State.setBoth_boot, State.setBoth_boot, State.setR_boot]
  cases ht : s3.stageTemplate r s.grid.recMode State.setBoth with
  | none => exact h3.trans h2
  | some t => exact (State.stageTemplate_boot _ _ _ _ (fun s a v => s.setBoth_boot a v) t ht).trans (h3.trans h2)

@[simp] theorem State.setMesh_boot : s.setMesh.boot = s.boot := by simp [State.setMesh]
@[simp] theorem State.setTenant_boot (t : Nat) : (s.setTenant t).boot = s.boot := by simp [State.setTenant]
@[simp] theorem State.setPkt_boot : s.setPkt.boot = s.boot := by simp [State.setPkt]
@[simp] theorem State.setHost_boot : s.setHost.boot = s.boot := by simp [State.setHost]
@[simp] theorem State.setGates_boot (b : List Byte) : (s.setGates b).boot = s.boot := by simp [State.setGates]
@[simp] theorem State.setWired_boot : s.setWired.boot = s.boot := by simp [State.setWired]
@[simp] theorem State.setDram_boot : s.setDram.boot = s.boot := by simp [State.setDram]
@[simp] theorem State.enableBlock_boot (b : Nat) : (s.enableBlock b).boot = s.boot := by
  simp [State.enableBlock, State.requestBlock]

/-! ## Keys (12 R357) -/

@[simp] theorem State.zeroise_boot (slot : Nat) : (s.zeroise slot).boot = s.boot := by
  unfold State.zeroise
  dsimp only
  split <;> simp

@[simp] theorem State.pinGen_boot (slot : Nat) (g : KeyGen) : (s.pinGen slot g).boot = s.boot := by
  simp [State.pinGen, State.cphAdmit]

@[simp] theorem State.installKey_boot (slot suite : Nat) (b : List Byte) : (s.installKey slot suite b).boot = s.boot := by
  unfold State.installKey
  dsimp only
  split <;> simp

@[simp] theorem State.setKeys_boot : s.setKeys.boot = s.boot := by
  refine State.foldl_boot fun s b => ?_
  split
  · exact State.ite_boot (by simp) (by simp)
  · rfl

@[simp] theorem State.applyRecords_boot : s.applyRecords.boot = s.boot := by
  unfold State.applyRecords
  extract_lets s1 s2 s3 s4
  have h1 : s1.boot = s.boot := by rw [State.setBoard_boot, State.setMeridian_boot]
  have h2 : s2.boot = s1.boot := State.foldl_boot fun s r => by
    rw [State.setMac_boot, State.setBaseband_boot, State.setFrontEnd_boot]
  have h3 : s3.boot = s2.boot := by
    rw [State.setDram_boot, State.setWired_boot, State.setHost_boot, State.setKeys_boot, State.setPkt_boot, State.setMesh_boot]
  have h4 : s4.boot = s3.boot := State.foldl_boot fun s b => s.enableBlock_boot b
  rw [State.foldl_boot fun s f => s.setUnit_boot .., h4, h3, h2, h1]

/-! ## The log and the counts (R97, R98) -/

@[simp] theorem State.queueLogOp_boot (o : FlashOp) : (s.queueLogOp o).boot = s.boot := (s.queueLogOp_effect o).sameBoot.2
@[simp] theorem State.logWrite_boot (type : Nat) (payload : List Byte) : (s.logWrite type payload).boot = s.boot := by
  simp [State.logWrite]
@[simp] theorem State.writeCounts_boot : s.writeCounts.boot = s.boot := by simp [State.writeCounts]
@[simp] theorem State.eraseAhead_boot : s.eraseAhead.boot = s.boot := by simp [State.eraseAhead]

@[simp] theorem State.findLog_boot : s.findLog.boot = s.boot := by
  unfold State.findLog
  split <;> simp

@[simp] theorem State.restoreCount_boot (i count credit : Nat) : (s.restoreCount i count credit).boot = s.boot := by
  simp [State.restoreCount]
@[simp] theorem State.restoreCounts_boot : s.restoreCounts.boot = s.boot := by simp [State.restoreCounts]

/-! ## The mesh bridge and the units that rejoin (02 R66, 10 R249) -/

@[simp] theorem State.dropFull_boot (q : Nat) : (s.dropFull q).boot = s.boot := by simp [State.dropFull]

@[simp] theorem State.bridgeUp_boot (u : MeshUp) : (s.bridgeUp u).boot = s.boot := by
  have hr (o : Option FUnit) : (s.refuseBy o).boot = s.boot := by cases o <;> rfl
  simp [State.bridgeUp, State.ingress, hr]

@[simp] theorem State.enqueue_boot (q prio tenant : Nat) (ctx : Option Nat) (source reason : Nat) (payload key : List Byte)
    (mac : Option (List Byte)) : (s.enqueue q prio tenant ctx source reason payload key mac).2.boot = s.boot :=
  (s.enqueue_effect q prio tenant ctx source reason payload key mac).sameBoot.2

@[simp] theorem State.drainUp_boot : s.drainUp.boot = s.boot := by simp [State.drainUp]

@[simp] theorem State.meshLink_boot : s.meshLink.boot = s.boot := by
  unfold State.meshLink
  split <;> simp [State.enterBridged]

@[simp] theorem State.meshStart_boot : s.meshStart.boot = s.boot := by simp [State.meshStart]
@[simp] theorem State.meshRecovered_boot : s.meshRecovered.boot = s.boot := by simp [State.meshRecovered]

@[simp] theorem State.reenter_boot (u : FUnit) : (s.reenter u).boot = s.boot := by
  unfold State.reenter
  (repeat' split) <;> simp [State.powerChains, State.autoTrain, State.startTraining]

@[simp] theorem State.rejoin_boot (u : FUnit) : (s.rejoin u).boot = s.boot := by simp [State.rejoin]

end Sys2Proof.Machine
end

section
/-! PROOFS. What the start of a commit's arming and the entry into RUN leave alone (03 R73, 05 R135). -/

namespace Sys2Proof.Machine

/-! ## The boot controller, the registers and the units -/

/-- What the start of a commit's arming leaves: the boot controller, the registers' words and the units. -/
def State.standing (s : State) : Boot × Tab Word × Tab UnitSt := (s.boot, s.regs, s.units)

theorem State.standing_ite {c : Prop} [Decidable c] {a b s : State} (ha : a.standing = s.standing) (hb : b.standing = s.standing) :
    (if c then a else b).standing = s.standing := by
  split
  · exact ha
  · exact hb

theorem State.standing_foldl {ι : Type} {g : State → ι → State} (hg : ∀ s i, (g s i).standing = s.standing) {l : List ι} {s : State} :
    (l.foldl g s).standing = s.standing :=
  State.foldl_inv (fun t => t.standing = s.standing) l g (fun t i h => (hg t i).trans h) s rfl

theorem FlashEffect.standing {s t : State} : FlashEffect s t → t.standing = s.standing := by
  rintro ⟨f, l, n, rfl⟩
  rfl

variable (s : State)

theorem State.modSyn_standing (r g : Nat) (f : SynSt → SynSt) : (s.modSyn r g f).standing = s.standing := rfl

theorem State.requestItems_standing (l : List Nat) : (s.requestItems l).standing = s.standing := by
  obtain ⟨p, e⟩ := s.requestItems_eq l
  rw [e]
  rfl

/-! ## Messages to the tiles (15 R446) -/

@[simp] theorem State.tileSend_standing (k type : Nat) (payload : List Byte) (mask : Option (LaunchOf × Nat)) :
    (s.tileSend k type payload mask).standing = s.standing := State.standing_ite rfl rfl

theorem State.sendPositions_standing (k n : Nat) (pos : Nat → Nat) : (s.sendPositions k n pos).standing = s.standing :=
  State.standing_foldl fun s _ => s.tileSend_standing ..

theorem State.stageTile_standing (r k : Nat) : (s.stageTile r k).standing = s.standing := by
  unfold State.stageTile
  split
  · refine State.standing_ite rfl ?_
    extract_lets bound s1 moved s2
    have h1 : s1.standing = s.standing := State.standing_ite (s.tileSend_standing ..) rfl
    have h2 : s2.standing = s.standing := State.standing_ite ((s1.sendPositions_standing ..).trans h1) h1
    exact State.standing_ite ((s2.tileSend_standing ..).trans h2) h2
  · rfl

/-! ## Arming (05 R135, R136) -/

theorem State.prepareRadio_standing (r : Nat) : (s.prepareRadio r).standing = s.standing := by
  unfold State.prepareRadio
  extract_lets add s1 s2
  have h1 : s1.standing = s.standing := s.requestItems_standing _
  have h2 : s2.standing = s.standing := State.standing_ite ((State.standing_foldl fun s g => s.modSyn_standing ..).trans h1) h1
  exact (State.standing_foldl fun s k => s.stageTile_standing r k).trans h2

theorem State.stageBound_standing (p : BitVec 27) : (s.stageBound p).standing = s.standing :=
  State.standing_foldl fun s k => by
    split
    · exact State.standing_ite (s.stageTile_standing ..) rfl
    · rfl

theorem State.stageTemplates_standing (from_ mode : Nat) : (s.stageTemplates from_ mode).standing = s.standing := by
  refine State.standing_ite rfl (State.standing_foldl fun s r => State.standing_ite rfl ?_)
  unfold State.stageTemplate
  cases (s.recsOf 0x0603).find? (fun b => fieldLE b 0 1 == r && fieldLE b 1 1 == mode) with
  | none => rfl
  | some b =>
    have hput (s : State) (a v w : Nat) : ((s.setSreg a (BitVec.ofNat 32 v)).setSreg (a + 4) (BitVec.ofNat 32 w)).standing
        = s.standing := rfl
    exact State.standing_foldl fun s i => State.standing_ite (hput s _ _ _) (hput s _ _ _)

theorem State.startArming_standing (kind : CommitKind) (mode len target : Nat) :
    (s.startArming kind mode len target).standing = s.standing := by
  unfold State.startArming
  extract_lets from_ s1 srcT srcC s2 p src s3
  have h3 : s3.standing = s.standing := s.stageTemplates_standing from_ mode
  exact State.standing_ite h3
    ((State.stageBound_standing _ p).trans ((State.standing_foldl fun s r => s.prepareRadio_standing r).trans h3))

theorem State.armBoot_standing : s.armBoot.standing = s.standing :=
  State.standing_ite (s.startArming_standing ..) rfl

/-! ## The entry into RUN (03 R73, R97) -/

/-- RUN is the one thing of the boot controller, the registers and the units that its entry changes. -/
theorem State.enterRun_keeps : s.enterRun.boot = { s.boot with state := .run } ∧ s.enterRun.regs = s.regs
    ∧ s.enterRun.units = s.units := by
  have h : s.enterRun.standing = ({ s.boot with state := .run }, s.regs, s.units) := by
    unfold State.enterRun
    extract_lets src s1 srcL s2
    have h2 : s2.standing = s1.standing :=
      State.standing_ite ((State.standing_foldl fun s k => (s.queueLogOp_effect _).standing).trans rfl) rfl
    exact s2.armBoot_standing.trans h2
  simpa only [State.standing, Prod.mk.injEq] using h

end Sys2Proof.Machine
end

section
/-! PROOFS. The boot controller from LOAD to RUN or RECOVERY (03 R73, R77, R85, R86). -/

namespace Sys2Proof.Machine

/-! ## Discovery (R77) -/

/-- What the device shows of the flash that discovery found. -/
def State.foundFlash (s : State) (a b : Option FlashDev) : State :=
  { s with flash := { s.flash with
    devices := b2n a.isSome + b2n b.isSome, density := a.elim 0 (·.density), ok := discovered a b } }

/-- Both slots invalid for a flash that fails. -/
def State.flashLost (s : State) : State :=
  { s with boot := { s.boot with flashError := true, slotA := { status := 0x1A }, slotB := { status := 0x1A } } }

theorem discoveryDone_of_load {s : State} (hs : s.boot.state = .load) (hok : s.flash.ok = false) (he : s.boot.flashError = false)
    (a b : Option FlashDev) : discoveryDone a b s = if discovered a b then s.foundFlash a b
      else (s.foundFlash a b).flashLost.postSlots.enterRecovery 2 := by
  have h1 : ¬((s.boot.state != .load && s.boot.state != .recovery) || s.flash.ok || s.boot.flashError) = true := by simp [hs, hok, he]
  have h2 : (s.boot.state == .load) = true := by simp [hs]
  rw [discoveryDone, if_neg h1]
  dsimp only
  rw [if_pos h2]
  rfl

@[simp] theorem State.postSlots_boot (s : State) : s.postSlots.boot = s.boot := by simp [State.postSlots]
@[simp] theorem State.postSlots_flash (s : State) : s.postSlots.flash = s.flash := by simp [State.postSlots]

@[simp] theorem State.enableBlock_flash (s : State) (b : Nat) : (s.enableBlock b).flash = s.flash := by
  obtain ⟨e, -⟩ | ⟨p, e⟩ := s.enableBlock_eq b <;> rw [e]
  rfl

@[simp] theorem State.enterRecovery_flash (s : State) (cause : Nat) : (s.enterRecovery cause).flash = s.flash := by
  simp [State.enterRecovery]

theorem flashDiscoveryDone_load (a b : Option FlashDev) (s : State) (hs : s.boot.state = .load) (hok : s.flash.ok = false)
    (he : s.boot.flashError = false) : ∃ t, exec (.flashDiscoveryDone a b) s = .next t ∧ t.flash.ok = discovered a b
      ∧ t.flash.devices = b2n a.isSome + b2n b.isSome ∧ t.flash.bytes = s.flash.bytes ∧ t.fuses = s.fuses
      ∧ (discovered a b = true → t.boot = s.boot)
      ∧ (discovered a b = false → t.boot.state = .recovery ∧ t.boot.flashError = true ∧ t.boot.slotA.status = 0x1A
          ∧ t.boot.slotB.status = 0x1A ∧ t.boot.slotA.valid = false ∧ t.boot.slotB.valid = false) := by
  have hlast := discoveryDone_lasting s a b
  refine ⟨discoveryDone a b s, rfl, ?_, ?_, State.bytes_of_lasting hlast, State.fuses_of_lasting hlast, fun h => ?_, fun h => ?_⟩
  all_goals rw [discoveryDone_of_load hs hok he]
  · split
    · rfl
    · rw [State.enterRecovery_flash, State.postSlots_flash]
      rfl
  · split
    · rfl
    · rw [State.enterRecovery_flash, State.postSlots_flash]
      rfl
  · rw [if_pos h]
    rfl
  · rw [if_neg (by simp [h]), (State.enterRecovery_keeps _ _).1, State.postSlots_boot]
    exact ⟨rfl, rfl, rfl, rfl, rfl, rfl⟩

/-! ## The slot selected (R85, R86) -/

/-- The slot selected is read again: where that reading fails it is invalid. -/
def reselect (secondA secondB : Option Nat) (p : SlotCheck × SlotCheck) : SlotCheck × SlotCheck :=
  match selectSlot p.1 p.2 with
  | some 0 => (p.1.reread secondA, p.2)
  | some _ => (p.1, p.2.reread secondB)
  | none => p

/-- The slot that the checks select, by the orders of both. -/
theorem selectSlot_eq (a b : SlotCheck) : selectSlot a b = if a.order = 0 ∧ (b.order ≠ 0 ∨ b.seq ≤ a.seq) then some 0
    else if b.order = 0 then some 1 else none := by
  simp [selectSlot]

theorem selectSlot_a {a b : SlotCheck} (ha : a.order = 0) (hb : b.order ≠ 0 ∨ b.seq ≤ a.seq) : selectSlot a b = some 0 := by
  simp [selectSlot, ha, hb]

theorem selectSlot_b {a b : SlotCheck} (hb : b.order = 0) (ha : a.order ≠ 0 ∨ a.seq < b.seq) : selectSlot a b = some 1 := by
  have h : ¬(a.order = 0 ∧ b.seq ≤ a.seq) := by omega
  simp [selectSlot, hb, h]

theorem selectSlot_none {a b : SlotCheck} (ha : a.order ≠ 0) (hb : b.order ≠ 0) : selectSlot a b = none := by
  simp [selectSlot, ha, hb]

theorem reselect_a {a b : SlotCheck} (h : selectSlot a b = some 0) (x y : Option Nat) :
    reselect x y (a, b) = (a.reread x, b) := by
  simp [reselect, h]

theorem reselect_b {a b : SlotCheck} (h : selectSlot a b = some 1) (x y : Option Nat) :
    reselect x y (a, b) = (a, b.reread y) := by
  simp [reselect, h]

theorem reselect_none {a b : SlotCheck} (h : selectSlot a b = none) (x y : Option Nat) : reselect x y (a, b) = (a, b) := by
  simp [reselect, h]

@[simp] theorem SlotCheck.reread_none (c : SlotCheck) : c.reread none = c := rfl

/-- A second reading that fails leaves the slot invalid, with the status of its order. -/
theorem SlotCheck.reread_fails (c : SlotCheck) (k : Nat) :
    (c.reread (some k)).order ≠ 0 ∧ (c.reread (some k)).stat = ⟨orderStatus k, false, c.seq⟩ := by
  have h : Nat.max k 1 ≠ 0 := Nat.ne_of_gt (Nat.le_max_right k 1)
  exact ⟨h, by simp [SlotCheck.stat, SlotCheck.reread, h]⟩

theorem SlotCheck.valid_of_order_ne {c : SlotCheck} (h : c.order ≠ 0) : c.stat.valid = false := by
  simp [SlotCheck.stat, h]

/-! ## What the checks leave of the boot controller (R86, R87) -/

@[simp] theorem State.setSource_boot (s : State) (d : Nat) (root : Bool) : (s.setSource d root).boot = s.boot := by
  simp [State.setSource]

@[simp] theorem State.countReject_boot (s : State) (k : Nat) : (s.countReject k).boot = s.boot :=
  (s.countReject_effect k).taskEffect.sameBoot.2

/-- The selected image is active and its records are applied; the slots' registers stand. -/
theorem State.takeImage_boot (s : State) (slot : Nat) (c : SlotCheck) : (s.takeImage slot c).boot.state = .configure
    ∧ (s.takeImage slot c).boot.active = some slot ∧ (s.takeImage slot c).boot.slotA = s.boot.slotA
    ∧ (s.takeImage slot c).boot.slotB = s.boot.slotB := by
  unfold State.takeImage
  extract_lets fin rej src s1 s2 s3
  have h2 : s2.boot = s1.boot := State.foldl_boot fun s e => by rw [State.postEvent_boot, State.countReject_boot]
  have h3 : s3.boot = s2.boot := by
    unfold s3
    generalize rej = l
    cases l with
    | nil => rfl
    | cons e l => exact (State.setR_boot ..).trans (State.setR_boot ..)
  have h4 : (if s3.boot.rootReady then s3.setSource 4 true else s3).boot = s3.boot := State.ite_boot (s3.setSource_boot 4 true) rfl
  rw [State.applyRecords_boot, h4, h3, h2]
  exact ⟨rfl, rfl, rfl, rfl⟩

/-- The state with both checks recorded, before the image of one is taken. -/
def State.slotsChecked (s : State) (a b : SlotCheck) (last : Nat) : State :=
  let s1 := (s.findLog.restoreCounts.countSlot a).countSlot b
  { s1 with boot := { s1.boot with slotA := a.stat, slotB := b.stat, lastStatus := last } }

theorem State.slotsChecked_boot (s : State) (a b : SlotCheck) (last : Nat) :
    (s.slotsChecked a b last).boot = { s.boot with slotA := a.stat, slotB := b.stat, lastStatus := last } := by
  simp [State.slotsChecked, State.countSlot]

/-- What the checks end with, once a and b are what the second readings left of the slots. -/
def State.selected (s : State) (a b : SlotCheck) : State :=
  match selectSlot a b with
  | some 0 => (s.slotsChecked a b 0).takeImage 0 a
  | some _ => (s.slotsChecked a b 0).takeImage 1 b
  | none => (s.slotsChecked a b b.status).postSlots.enterRecovery 1

theorem imageChecked_of_load {s : State} (hs : s.boot.state = .load) (hok : s.flash.ok = true) (ra rb : SlotReads)
    {a b : SlotCheck} (h : reselect ra.second rb.second (reselect ra.second rb.second
      (s.checkSlot 0 ra.first, s.checkSlot 1 rb.first)) = (a, b)) : imageChecked ra rb s = s.selected a b := by
  have h1 : ¬(s.boot.state != .load || !s.flash.ok) = true := by simp [hs, hok]
  have h2 : imageChecked ra rb s = (fun p : SlotCheck × SlotCheck => s.selected p.1 p.2) (reselect ra.second rb.second
      (reselect ra.second rb.second (s.checkSlot 0 ra.first, s.checkSlot 1 rb.first))) := by
    rw [imageChecked, if_neg h1]
    rfl
  rw [h2, h]

/-- The boot controller once the checks have ended: both slots' registers, and the slot selected or RECOVERY. -/
theorem State.selected_boot (s : State) (a b : SlotCheck) : (s.selected a b).boot.slotA = a.stat ∧ (s.selected a b).boot.slotB = b.stat
    ∧ ((s.selected a b).boot.active, (s.selected a b).boot.state) =
      (selectSlot a b).elim (s.boot.active, .recovery) fun k => (some k, .configure) := by
  obtain h | h | h : selectSlot a b = some 0 ∨ selectSlot a b = some 1 ∨ selectSlot a b = none := by
    rw [selectSlot_eq]
    split_ifs <;> simp
  all_goals simp only [State.selected, h, Option.elim_some, Option.elim_none]
  · obtain ⟨hst, hact, ha, hb⟩ := (s.slotsChecked a b 0).takeImage_boot 0 a
    rw [State.slotsChecked_boot] at ha hb
    exact ⟨ha, hb, by rw [hact, hst]⟩
  · obtain ⟨hst, hact, ha, hb⟩ := (s.slotsChecked a b 0).takeImage_boot 1 b
    rw [State.slotsChecked_boot] at ha hb
    exact ⟨ha, hb, by rw [hact, hst]⟩
  · rw [(State.enterRecovery_keeps _ _).1, State.postSlots_boot, State.slotsChecked_boot]
    exact ⟨rfl, rfl, rfl⟩

/-- What the checks leave when the second readings end with a and b. -/
theorem imageCheckDone_load {s : State} (hs : s.boot.state = .load) (hok : s.flash.ok = true) (ra rb : SlotReads)
    {a b : SlotCheck} (h : reselect ra.second rb.second (reselect ra.second rb.second
      (s.checkSlot 0 ra.first, s.checkSlot 1 rb.first)) = (a, b)) :
    ∃ t, exec (.imageCheckDone ra rb) s = .next t ∧ t.boot.slotA = a.stat ∧ t.boot.slotB = b.stat
      ∧ t.flash.bytes = s.flash.bytes ∧ t.fuses = s.fuses ∧ (t.boot.active, t.boot.state) =
        (selectSlot a b).elim (s.boot.active, .recovery) fun k => (some k, .configure) := by
  have hlast := imageChecked_lasting s ra rb
  obtain ⟨ha, hb, hsel⟩ := s.selected_boot a b
  rw [← imageChecked_of_load hs hok ra rb h] at ha hb hsel
  exact ⟨_, rfl, ha, hb, State.bytes_of_lasting hlast, State.fuses_of_lasting hlast, hsel⟩

/-- No second reading of a slot that may be selected: the first checks stand. -/
theorem reselect_of_read {a b : SlotCheck} {x y : Option Nat} (hx : a.order = 0 → x = none) (hy : b.order = 0 → y = none) :
    reselect x y (a, b) = (a, b) := by
  by_cases ha : a.order = 0 ∧ (b.order ≠ 0 ∨ b.seq ≤ a.seq)
  · rw [reselect_a (selectSlot_a ha.1 ha.2), hx ha.1]
    rfl
  · by_cases hb : b.order = 0
    · rw [reselect_b (selectSlot_b hb (by omega)), hy hb]
      rfl
    · exact reselect_none (selectSlot_none (by omega) hb) x y

theorem imageCheckDone_readable (ra rb : SlotReads) (a b : SlotCheck) (s : State) (hs : s.boot.state = .load)
    (hok : s.flash.ok = true) (ha : a = s.checkSlot 0 ra.first) (hb : b = s.checkSlot 1 rb.first)
    (hx : a.order = 0 → ra.second = none) (hy : b.order = 0 → rb.second = none) :
    ∃ t, exec (.imageCheckDone ra rb) s = .next t ∧ t.boot.slotA = a.stat
      ∧ t.boot.slotB = b.stat ∧ t.flash.bytes = s.flash.bytes ∧ t.fuses = s.fuses
      ∧ (t.boot.active, t.boot.state) =
          (if a.order = 0 ∧ (b.order ≠ 0 ∨ b.seq ≤ a.seq) then (some 0, .configure)
            else if b.order = 0 then (some 1, .configure) else (s.boot.active, .recovery)) := by
  have h := reselect_of_read hx hy
  obtain ⟨t, ht, hA, hB, hbytes, hfuses, hsel⟩ := imageCheckDone_load hs hok ra rb (by rw [← ha, ← hb, h, h])
  refine ⟨t, ht, hA, hB, hbytes, hfuses, hsel.trans ?_⟩
  rw [selectSlot_eq, apply_ite (Option.elim · _ _), apply_ite (Option.elim · _ _)]
  rfl

/-- Slot A, selected first, fails its second reading. -/
theorem imageCheckDone_a_fails (ra rb : SlotReads) (a b : SlotCheck) (k : Nat) (s : State) (hs : s.boot.state = .load)
    (hok : s.flash.ok = true) (ha : a = s.checkSlot 0 ra.first) (hb : b = s.checkSlot 1 rb.first)
    (hsel : a.order = 0 ∧ (b.order ≠ 0 ∨ b.seq ≤ a.seq)) (hk : ra.second = some k) :
    ∃ t, exec (.imageCheckDone ra rb) s = .next t ∧ t.boot.slotA = ⟨orderStatus k, false, a.seq⟩ ∧ t.fuses = s.fuses
      ∧ (b.order = 0 → rb.second = none → t.boot.slotB = b.stat ∧ t.boot.active = some 1 ∧ t.boot.state = .configure)
      ∧ (b.order ≠ 0 ∨ rb.second.isSome →
          t.boot.slotB.valid = false ∧ t.boot.active = s.boot.active ∧ t.boot.state = .recovery) := by
  obtain ⟨hne, hstat⟩ := a.reread_fails k
  have h1 : reselect ra.second rb.second (a, b) = (a.reread (some k), b) := by rw [reselect_a (selectSlot_a hsel.1 hsel.2), hk]
  by_cases hb0 : b.order = 0
  · have h2 := reselect_b (selectSlot_b hb0 (.inl hne)) ra.second rb.second
    obtain ⟨t, ht, hA, hB, -, hfuses, hend⟩ := imageCheckDone_load hs hok ra rb (by rw [← ha, ← hb, h1, h2])
    refine ⟨t, ht, hA.trans hstat, hfuses, fun _ hy => ?_, fun hy => ?_⟩
    · rw [hy, SlotCheck.reread_none] at hB hend
      rw [selectSlot_b hb0 (.inl hne)] at hend
      exact ⟨hB, congrArg Prod.fst hend, congrArg Prod.snd hend⟩
    · obtain ⟨j, hj⟩ := Option.isSome_iff_exists.mp (hy.resolve_left (not_not_intro hb0))
      obtain ⟨hneB, hstatB⟩ := b.reread_fails j
      rw [hj] at hB hend
      rw [selectSlot_none hne hneB] at hend
      exact ⟨by rw [hB, hstatB], congrArg Prod.fst hend, congrArg Prod.snd hend⟩
  · have hn := selectSlot_none hne hb0
    obtain ⟨t, ht, hA, hB, -, hfuses, hend⟩ := imageCheckDone_load hs hok ra rb (by rw [← ha, ← hb, h1, reselect_none hn])
    rw [hn] at hend
    exact ⟨t, ht, hA.trans hstat, hfuses, fun h => absurd h hb0,
      fun _ => ⟨by rw [hB, SlotCheck.valid_of_order_ne hb0], congrArg Prod.fst hend, congrArg Prod.snd hend⟩⟩

/-- Slot B, selected first, fails its second reading. -/
theorem imageCheckDone_b_fails (ra rb : SlotReads) (a b : SlotCheck) (k : Nat) (s : State) (hs : s.boot.state = .load)
    (hok : s.flash.ok = true) (ha : a = s.checkSlot 0 ra.first) (hb : b = s.checkSlot 1 rb.first)
    (hsel : b.order = 0 ∧ (a.order ≠ 0 ∨ a.seq < b.seq)) (hk : rb.second = some k) :
    ∃ t, exec (.imageCheckDone ra rb) s = .next t ∧ t.boot.slotB = ⟨orderStatus k, false, b.seq⟩ ∧ t.fuses = s.fuses
      ∧ (a.order = 0 → ra.second = none → t.boot.slotA = a.stat ∧ t.boot.active = some 0 ∧ t.boot.state = .configure)
      ∧ (a.order ≠ 0 ∨ ra.second.isSome →
          t.boot.slotA.valid = false ∧ t.boot.active = s.boot.active ∧ t.boot.state = .recovery) := by
  obtain ⟨hne, hstat⟩ := b.reread_fails k
  have h1 : reselect ra.second rb.second (a, b) = (a, b.reread (some k)) := by rw [reselect_b (selectSlot_b hsel.1 hsel.2), hk]
  by_cases ha0 : a.order = 0
  · have h2 := reselect_a (selectSlot_a ha0 (.inl hne)) ra.second rb.second
    obtain ⟨t, ht, hA, hB, -, hfuses, hend⟩ := imageCheckDone_load hs hok ra rb (by rw [← ha, ← hb, h1, h2])
    refine ⟨t, ht, hB.trans hstat, hfuses, fun _ hx => ?_, fun hx => ?_⟩
    · rw [hx, SlotCheck.reread_none] at hA hend
      rw [selectSlot_a ha0 (.inl hne)] at hend
      exact ⟨hA, congrArg Prod.fst hend, congrArg Prod.snd hend⟩
    · obtain ⟨j, hj⟩ := Option.isSome_iff_exists.mp (hx.resolve_left (not_not_intro ha0))
      obtain ⟨hneA, hstatA⟩ := a.reread_fails j
      rw [hj] at hA hend
      rw [selectSlot_none hneA hne] at hend
      exact ⟨by rw [hA, hstatA], congrArg Prod.fst hend, congrArg Prod.snd hend⟩
  · have hn := selectSlot_none ha0 hne
    obtain ⟨t, ht, hA, hB, -, hfuses, hend⟩ := imageCheckDone_load hs hok ra rb (by rw [← ha, ← hb, h1, reselect_none hn])
    rw [hn] at hend
    exact ⟨t, ht, hB.trans hstat, hfuses, fun h => absurd h ha0,
      fun _ => ⟨by rw [hA, SlotCheck.valid_of_order_ne ha0], congrArg Prod.fst hend, congrArg Prod.snd hend⟩⟩

/-! ## CONFIGURE, HOLD and RUN (R73) -/

/-- The state in which the units whose clocks run have rejoined, before RUN. -/
def State.unitsRejoined (s : State) : State :=
  ((List.range 25).foldl (fun (s : State) u => s.rejoin (unitOf u))
    { s with boot := { s.boot with state := .hold, holdFrom := s.elapsed } }).meshStart.meshLink

theorem State.unitsRejoined_boot (s : State) : s.unitsRejoined.boot = { s.boot with state := .hold, holdFrom := s.elapsed } := by
  rw [State.unitsRejoined, State.meshLink_boot, State.meshStart_boot, State.foldl_boot fun s u => State.rejoin_boot s (unitOf u)]

theorem configured_of_configure {s : State} (hs : s.boot.state = .configure) :
    configured s = if s.boot.bootmode = 1 then s.unitsRejoined else s.unitsRejoined.enterRun := by
  rw [configured, if_neg (by simp [hs])]
  rfl

theorem configureDone_configure (s : State) (hs : s.boot.state = .configure) :
    ∃ t, exec .configureDone s = .next t ∧ t.boot.state = (if s.boot.bootmode = 1 then .hold else .run)
      ∧ t.boot.holdFrom = s.elapsed ∧ t.boot.active = s.boot.active ∧ t.fuses = s.fuses := by
  obtain ⟨hrun, -⟩ := s.unitsRejoined.enterRun_keeps
  have hboot : (configured s).boot = { s.boot with
      state := if s.boot.bootmode = 1 then .hold else .run, holdFrom := s.elapsed } := by
    rw [configured_of_configure hs]
    split
    · exact s.unitsRejoined_boot
    · rw [hrun, s.unitsRejoined_boot]
  exact ⟨configured s, rfl, by rw [hboot], by rw [hboot], by rw [hboot], State.fuses_of_lasting (configured_lasting s)⟩

theorem bootReleaseWrite_hold (r : Requester) (s : State) (hm : Mapped s r) (hs : s.boot.state = .hold) :
    ∃ t, exec (.bootReleaseWrite r) s = .next t ∧ t.boot = { s.boot with state := .run } ∧ t.answer = some .done
      ∧ t.regs = s.regs ∧ t.units = s.units := by
  have he : bootRelease r s = { s.enterRun with answer := some .done } := by
    rw [bootRelease, State.access_low hm (by decide), if_pos (by simp [hs])]
  obtain ⟨hboot, hregs, hunits⟩ := s.enterRun_keeps
  exact ⟨_, congrArg Host.Outcome.next he, hboot, rfl, hregs, hunits⟩

theorem bootReleaseWrite_other (r : Requester) (s : State) (hm : Mapped s r) (hs : s.boot.state ≠ .hold) :
    exec (.bootReleaseWrite r) s = answered s := by
  have he : bootRelease r s = { s with answer := some .done } := by
    rw [bootRelease, State.access_low hm (by decide), if_neg (by simp [hs])]
  exact congrArg Host.Outcome.next he

theorem bootHoldTimeout_hold (s : State) (hs : s.boot.state = .hold)
    (ht : s.boot.holdFrom + ms (1000 * s.holdTimeout) ≤ s.elapsed) :
    ∃ t, exec .bootHoldTimeout s = .next t ∧ t.boot = { s.boot with state := .run } ∧ t.units = s.units := by
  have he : holdExpires s = (s.postEvent 0x1004 (items [s.holdTimeout])).enterRun := by
    rw [holdExpires, if_neg (by simp [hs, ht])]
  obtain ⟨hboot, -, hunits⟩ := (s.postEvent 0x1004 (items [s.holdTimeout])).enterRun_keeps
  rw [State.postEvent_boot] at hboot
  exact ⟨_, congrArg Host.Outcome.next he, hboot, hunits.trans (State.postEvent_units ..)⟩

/-- Settles O25, step by step of the boot controller. -/
theorem bootSequence : Obligations.BootSequence := by
  unfold Obligations.BootSequence
  exact ⟨flashDiscoveryDone_load, imageCheckDone_readable,
    fun ra rb a b k s hs hok ha hb =>
      ⟨imageCheckDone_a_fails ra rb a b k s hs hok ha hb, imageCheckDone_b_fails ra rb a b k s hs hok ha hb⟩,
    configureDone_configure, bootReleaseWrite_hold, bootReleaseWrite_other, bootHoldTimeout_hold⟩

end Sys2Proof.Machine
end

section
/-! PROOFS. What the posting of an event takes from the time bases, and what the island's cold start leaves of them (13 R389, 10
R267). -/

namespace Sys2Proof.Machine

theorem TaskEffect.time {s t : State} : TaskEffect s t → t.time = s.time := by
  rintro ⟨h, r, n, k, q, rfl⟩
  rfl

/-! ## Events and the time bases (13 R389 to R391) -/

/-- The state with other time bases. -/
def State.withTime (s : State) (x : TimeSt) : State := { s with time := x }

theorem State.withTime_ite (c : Prop) [Decidable c] (a b : State) (x : TimeSt) :
    (if c then a else b).withTime x = if c then a.withTime x else b.withTime x := apply_ite (State.withTime · x) c a b

theorem State.inc_withTime (s : State) (f : FieldRef) (x : TimeSt) : (s.withTime x).inc f = (s.inc f).withTime x := by
  rw [State.inc, State.inc, State.withTime_ite]
  rfl

theorem State.moderate_withTime (s : State) (f kind n : Nat) (now : Bool) (x : TimeSt) :
    (s.withTime x).moderate f kind n now = (s.moderate f kind n now).withTime x := by
  simp only [State.moderate, State.withTime_ite]
  rfl

theorem State.putEvent_withTime (s : State) (f : Nat) (e : Event) (x : TimeSt) :
    (s.withTime x).putEvent f e = (s.putEvent f e).withTime x := by
  simp only [State.putEvent, ← State.moderate_withTime]
  congr 1
  refine List.foldl_hom (State.withTime · x) fun t i => ?_
  rfl

theorem State.loseEvent_withTime (s : State) (f : Nat) (x : TimeSt) : (s.withTime x).loseEvent f = (s.loseEvent f).withTime x := by
  simp only [State.loseEvent, State.inc_withTime]
  rfl

/-- The state with another count of a function's events. -/
def State.withEv (s : State) (f : Nat) (e : EvSt) : State :=
  { s with host := { s.host with ev := Tab.put s.host.ev f e } }

theorem State.postSeq_eq (s : State) (f code : Nat) (b : List Byte) : s.postSeq f code b
    = (s.withEv f { Tab.getD s.host.ev f {} with seq := ((Tab.getD s.host.ev f {}).seq + 1) % 2 ^ 32 }).putEvent f
      ⟨code, (Tab.getD s.host.ev f {}).seq, s.stamp, b⟩ := rfl

theorem State.reportLost_eq (s : State) (f : Nat) : s.reportLost f
    = if (Tab.getD s.host.ev f {}).lost ≠ 0 && s.ringOn f 2 0 && !s.eclipsing f && decide (2 ≤ s.ringFree f 2 0)
      then (s.withEv f { Tab.getD s.host.ev f {} with lost := 0 }).postSeq f 0x0001 (leBytes 8 (Tab.getD s.host.ev f {}).lost)
      else s := rfl

section
variable {s : State} {x : TimeSt} (hn : x.nt = s.time.nt) (hs : x.state = s.time.state)
include hn hs

/-- An event carries no more of the time bases than NT and whether it runs (13 R389). -/
theorem State.stamp_withTime : (s.withTime x).stamp = s.stamp := by
  simp only [State.stamp, State.ntValid, State.nt64, State.ntNs, State.withTime, hn, hs]
  rfl

theorem State.postSeq_withTime (f code : Nat) (b : List Byte) :
    (s.withTime x).postSeq f code b = (s.postSeq f code b).withTime x := by
  rw [State.postSeq_eq, State.postSeq_eq, State.stamp_withTime hn hs, ← State.putEvent_withTime]
  rfl

theorem State.reportLost_withTime (f : Nat) : (s.withTime x).reportLost f = (s.reportLost f).withTime x := by
  rw [State.reportLost_eq, State.reportLost_eq, State.withTime_ite, ← State.postSeq_withTime (s := s.withEv f _) hn hs]
  rfl

theorem State.postOn_withTime (f code : Nat) (b : List Byte) :
    (s.withTime x).postOn f code b = (s.postOn f code b).withTime x := by
  have hlost : (if (s.withTime x).eventsOpen then (s.withTime x).reportLost f else s.withTime x)
      = (if s.eventsOpen then s.reportLost f else s).withTime x := by
    rw [State.withTime_ite, ← State.reportLost_withTime hn hs]
    rfl
  have hkeeps : (if s.eventsOpen then s.reportLost f else s).time = s.time := by
    split
    · exact (s.reportLost_effect f).taskEffect.time
    · rfl
  simp only [State.postOn, hlost]
  generalize (if s.eventsOpen then s.reportLost f else s) = t at hkeeps ⊢
  rw [← hkeeps] at hn hs
  rw [State.withTime_ite, ← State.postSeq_withTime hn hs, State.loseEvent_withTime]
  rfl

/-- An event for the PF alone is posted alike whatever the time bases hold beside NT and its state. -/
theorem State.postEvent_withTime (code : Nat) (b : List Byte) :
    (s.withTime x).postEvent code b = (s.postEvent code b).withTime x := State.postOn_withTime hn hs 0 code b

end

/-! ## The island's cold start (10 R267) -/

@[simp] theorem State.bridgeUp_time (s : State) (u : MeshUp) : (s.bridgeUp u).time = s.time := by
  unfold State.bridgeUp State.ingress
  split
  · rfl
  split
  · exact s.inc_time _
  · rfl

theorem State.drainFrames_time (s : State) (l : List MeshUp) : (l.foldl (fun s u => s.bridgeUp u) s).time = s.time :=
  State.foldl_inv (fun t => t.time = s.time) l _ (fun t u ht => (t.bridgeUp_time u).trans ht) s rfl

@[simp] theorem State.drainUp_time (s : State) : s.drainUp.time = s.time := by
  unfold State.drainUp
  split
  · rfl
  extract_lets n s1 sums payload
  have h1 : s1.time = s.time := s.drainFrames_time _
  split
  · exact h1
  split
  rename_i h s3 he
  have h3 : s3.time = s.time := by
    have := ((s1.modMesh fun m => { m with summaries := [] }).enqueue_effect macQueue macPrio 0xFF none 0x08 0x01 payload []
      none).time
    rw [he] at this
    exact this.trans h1
  extract_lets s4
  have h4 : s4.time = s.time := by
    unfold s4
    split
    · exact (s3.dropFull_effect _).time.trans h3
    · exact h3
  rw [State.postEvent_time, h4]

@[simp] theorem State.enterBridged_time (s : State) : s.enterBridged.time = s.time := State.drainUp_time _

@[simp] theorem State.meshLink_time (s : State) : s.meshLink.time = s.time := by
  unfold State.meshLink
  extract_lets open_
  split
  · split
    · exact s.enterBridged_time
    · rfl
  · split <;> rfl
  · rfl

/-- The island's cold start changes no time base. -/
@[simp] theorem State.meshStart_time (s : State) : s.meshStart.time = s.time := by
  unfold State.meshStart
  split
  · rfl
  · exact (State.meshLink_time _).trans (State.postEvent_time ..)

end Sys2Proof.Machine
end

section
/-! PROOFS. The inputs of the time bases and the outlier filter (04 R104, R109 to R114). -/

namespace Sys2Proof.Machine

/-! ## Sources and their windows (R112) -/

/-- A source's filter is one of the two that the time bases hold. -/
theorem State.setSrc_eq (s : State) (k : Nat) (w : SrcWin) :
    ∃ p q, s.setSrc k w = { s with time := { s.time with ptp := p, pps := q } } := by
  unfold State.setSrc
  split
  · exact ⟨w, s.time.pps, rfl⟩
  · exact ⟨s.time.ptp, w, rfl⟩

@[simp] theorem State.setSrc_nt (s : State) (k : Nat) (w : SrcWin) : (s.setSrc k w).time.nt = s.time.nt := by
  obtain ⟨p, q, e⟩ := s.setSrc_eq k w; rw [e]
@[simp] theorem State.setSrc_rate (s : State) (k : Nat) (w : SrcWin) : (s.setSrc k w).time.rate = s.time.rate := by
  obtain ⟨p, q, e⟩ := s.setSrc_eq k w; rw [e]
@[simp] theorem State.setSrc_state (s : State) (k : Nat) (w : SrcWin) : (s.setSrc k w).time.state = s.time.state := by
  obtain ⟨p, q, e⟩ := s.setSrc_eq k w; rw [e]
@[simp] theorem State.setSrc_active (s : State) (k : Nat) (w : SrcWin) : (s.setSrc k w).time.active = s.time.active := by
  obtain ⟨p, q, e⟩ := s.setSrc_eq k w; rw [e]
@[simp] theorem State.setSrc_regs (s : State) (k : Nat) (w : SrcWin) : (s.setSrc k w).regs = s.regs := by
  obtain ⟨p, q, e⟩ := s.setSrc_eq k w; rw [e]

@[simp] theorem State.src_setSrc (s : State) (k : Nat) (w : SrcWin) : (s.setSrc k w).src k = w := by
  by_cases h : k = 1 <;> simp [State.src, State.setSrc, h]

/-- The fall of a start-up step takes nothing but the step. -/
theorem State.dropStep_eq (s : State) (k : Nat) :
    ∃ p, s.dropStep k = { s with time := { s.time with stepPending := p } } := by
  unfold State.dropStep
  split
  · split
    · exact ⟨none, rfl⟩
    · exact ⟨s.time.stepPending, rfl⟩
  · exact ⟨s.time.stepPending, rfl⟩

/-! ## The filter (R112) -/

/-- One offset among four never moves the median of the other three. -/
theorem median_three_and_one (m x : Int) : median [m, m, m, x] = m := by
  have hm : (m + m) / 2 = m := by omega
  rcases le_or_gt m x with h | h
  · simp [median, sortInt, insertInt, h, hm]
  · simp [median, sortInt, insertInt, h.not_ge, hm]

theorem within_three_and_one (lim m x : Int) : within lim [m, m, m, x] = true ↔ x - m ≤ lim ∧ m - x ≤ lim := by
  simp only [within, median_three_and_one, List.all_cons, List.all_nil, Bool.and_true, Bool.and_eq_true, decide_eq_true_eq]
  omega

theorem lastN_of_length_le {α : Type} {n : Nat} {l : List α} (h : l.length ≤ n) : lastN n l = l := by
  rw [lastN, Nat.sub_eq_zero_of_le h, List.drop_zero]

section
variable {s : State} {k : Nat} {off : Int}

/-- An offset before the fourth of a run only joins it. -/
theorem State.newOffset_of_unseeded (hw : (s.src k).window = []) (hr : (s.src k).seedRun.length < 3) :
    s.newOffset k off = s.setSrc k { s.src k with seedRun := (s.src k).seedRun ++ [off] } := by
  have hrun : lastN 4 ((s.src k).seedRun ++ [off]) = (s.src k).seedRun ++ [off] := lastN_of_length_le (by simp; omega)
  have hlen : ¬(s.src k).seedRun.length + 1 = 4 := by omega
  simp [State.newOffset, hw, hrun, hlen]

/-- An offset near the window's median enters the window of a source that is not active. -/
theorem State.newOffset_of_near (hw : (s.src k).window ≠ []) (ha : s.time.active ≠ some k)
    (hhi : off - median (s.src k).window ≤ (s.outlierLimit : Int) * 65536)
    (hlo : median (s.src k).window - off ≤ (s.outlierLimit : Int) * 65536) :
    s.newOffset k off = s.setSrc k
      ⟨lastN 8 ((s.src k).window ++ [off]), [], lastN 4 ((s.src k).seedRun ++ [off]), s.frNs⟩ := by
  have hin := (within_three_and_one _ _ _).mpr ⟨hhi, hlo⟩
  simp [State.newOffset, hw, ha, hin]

/-- An offset far from the window's median, before the run of those that may seed is complete, is counted and joins the run. -/
theorem State.newOffset_of_outlier (hw : (s.src k).window ≠ [])
    (hout : (s.outlierLimit : Int) * 65536 < off - median (s.src k).window
      ∨ (s.outlierLimit : Int) * 65536 < median (s.src k).window - off)
    (hr : (s.src k).rejects.length + 1 < s.outlierRun) :
    s.newOffset k off = (if s.time.active = some k
        then { s.inc ⟨0x200028, 15, 0⟩ with time := { s.time with okRun := 0 } } else s.inc ⟨0x200028, 15, 0⟩).setSrc k
      { s.src k with seedRun := lastN 4 ((s.src k).seedRun ++ [off]), rejects := (s.src k).rejects ++ [off] } := by
  have hin : ¬within ((s.outlierLimit : Int) * 65536)
      [median (s.src k).window, median (s.src k).window, median (s.src k).window, off] = true := by
    rw [within_three_and_one]
    omega
  have hrun : lastN (Nat.max s.outlierRun 1) ((s.src k).rejects ++ [off]) = (s.src k).rejects ++ [off] :=
    lastN_of_length_le (by simp; omega)
  have hlen : ¬(s.src k).rejects.length + 1 = s.outlierRun := by omega
  simp [State.newOffset, hw, hin, hrun, hlen]

end

/-! ## PTP (R104, R109, R114) -/

/-- A source passes its UTC offset and leap flags on while it is active or none is. -/
theorem State.passUtc_eq (s : State) (k utc leap : Nat) : s.passUtc k utc leap = { s with time := { s.time with
    utc := if s.time.active = none ∨ s.time.active = some k then utc % 65536 else s.time.utc,
    leap := if s.time.active = none ∨ s.time.active = some k then leap % 4 else s.time.leap } } := by
  have hall : (s.time.active.all (· == k)) = true ↔ s.time.active = none ∨ s.time.active = some k := by
    cases s.time.active <;> simp
  unfold State.passUtc
  by_cases h : s.time.active = none ∨ s.time.active = some k
  · rw [if_pos (hall.mpr h), if_pos h, if_pos h]
  · rw [if_neg (fun ha => h (hall.mp ha)), if_neg h, if_neg h]

theorem ptpAnnounce_of_arb (port domain utc leap : Nat) (id : BitVec 64) (s : State) :
    ptpAnnounce port domain id ⟨true, utc, leap⟩ s = s := by
  simp [ptpAnnounce]

/-- The first clock, or the one that PTP has, is no other. -/
theorem State.newMaster_of_same {s : State} {id : BitVec 64} (h : s.time.gm = 0 ∨ s.time.gm = id) :
    s.newMaster id = { s with time := { s.time with gm := id } } := by
  unfold State.newMaster
  by_cases hid : s.time.gm = id
  · rw [if_pos hid, ← hid]
  · rw [if_neg hid, if_pos (h.resolve_right hid)]

/-- Another clock clears PTP's window, and an event tells it where PTP is active; a start-up step, a run that was to end HOLDOVER
and what the next seed must pass are all that it changes beside. -/
theorem State.newMaster_of_other {s : State} {id : BitVec 64} (h0 : s.time.gm ≠ 0) (hid : s.time.gm ≠ id) :
    ∃ p n c, s.newMaster id = (if s.time.active = some 1 then s.postEvent 0x2005 (items [1, 1, id.toNat]) else s).withTime
      { s.time with gm := id, ptp := { lastFR := s.time.ptp.lastFR }, stepPending := p, okRun := n, cand := c } := by
  obtain ⟨p, hp⟩ :=
    State.dropStep_eq { s with time := { s.time with gm := id, ptp := { lastFR := s.time.ptp.lastFR } } } 1
  have hpost := State.postEvent_withTime (s := s)
    (x := { s.time with gm := id, ptp := { lastFR := s.time.ptp.lastFR }, stepPending := p, okRun := 0 }) rfl rfl 0x2005
    (items [1, 1, id.toNat])
  unfold State.newMaster
  rw [if_neg hid, if_neg h0, hp]
  dsimp only
  by_cases ha : s.time.active = some 1
  · rw [if_pos ha, if_pos ha]
    by_cases hst : (s.time.state == .locked || s.time.state == .holdover) = true
    · refine ⟨p, 0, some 1, ?_⟩
      rw [if_pos hst]
      exact congrArg (fun t => State.withTime t { t.time with cand := some 1 }) hpost
    · refine ⟨p, 0, s.time.cand, ?_⟩
      rw [if_neg hst]
      exact hpost
  · rw [if_neg ha, if_neg ha]
    exact ⟨p, s.time.okRun, s.time.cand, rfl⟩

section
variable {port domain : Nat} {s : State} (hsrc : s.srcOrder.contains 1 = true)
  (hport : bitOf (fieldLE (s.recBytes 0x0201) 4 2) port = true) (hsub : s.subExists port = true)
  (hdom : fieldLE (s.recBytes 0x0201) 2 1 = domain)
include hsrc hport hsub hdom

theorem ptpMessage_of_configured (hroot : s.clocks.onRoot.getD 4 false = true) (log src : Int) :
    ptpMessage port domain log src s = if log < -7 ∨ 1 < log then s.inc ⟨0x200028, 15, 0⟩ else s.newOffset 1
      (s.stampBase16 - src - signed 32 (fieldLE (s.recBytes 0x0204) (4 * port) 4) * 65536 / 1000) := by
  simp only [ptpMessage, hsrc, hroot, hport, hsub, hdom, Bool.not_true, Bool.or_self, ne_eq, not_true,
    decide_false, Bool.false_eq_true, if_false, Bool.or_eq_true, decide_eq_true_eq]

theorem ptpAnnounce_of_configured (id : BitVec 64) (utc leap : Nat) :
    ptpAnnounce port domain id ⟨false, utc, leap⟩ s = (s.passUtc 1 utc leap).newMaster id := by
  simp only [ptpAnnounce, hsrc, hport, hsub, hdom, Bool.not_true, Bool.or_self, ne_eq, not_true,
    decide_false, Bool.false_eq_true, if_false]

/-- What an Announce of another clock changes: PTP's window, what PTP passes on, and what follows from the change of clock. -/
theorem ptpAnnounce_of_other {id : BitVec 64} (h0 : s.time.gm ≠ 0) (hid : s.time.gm ≠ id)
    (utc leap : Nat) : ∃ p n c, ptpAnnounce port domain id ⟨false, utc, leap⟩ s
      = (if s.time.active = some 1 then s.postEvent 0x2005 (items [1, 1, id.toNat]) else s).withTime
        { (s.passUtc 1 utc leap).time with
          gm := id, ptp := { lastFR := s.time.ptp.lastFR }, stepPending := p, okRun := n, cand := c } := by
  have hpass : s.passUtc 1 utc leap = s.withTime (s.passUtc 1 utc leap).time := by rw [State.passUtc_eq]; rfl
  have hkeeps : (s.passUtc 1 utc leap).time.nt = s.time.nt ∧ (s.passUtc 1 utc leap).time.state = s.time.state
      ∧ (s.passUtc 1 utc leap).time.gm = s.time.gm ∧ (s.passUtc 1 utc leap).time.active = s.time.active
      ∧ (s.passUtc 1 utc leap).time.ptp = s.time.ptp := by
    rw [State.passUtc_eq]
    exact ⟨rfl, rfl, rfl, rfl, rfl⟩
  rw [ptpAnnounce_of_configured hsrc hport hsub hdom, hpass]
  generalize (s.passUtc 1 utc leap).time = x at hkeeps
  obtain ⟨hn, hs, hg, ha, hp⟩ := hkeeps
  obtain ⟨p, n, c, he⟩ := State.newMaster_of_other (s := s.withTime x) (hg ▸ h0) (hg ▸ hid)
  refine ⟨p, n, c, he.trans ?_⟩
  rw [State.postEvent_withTime hn hs, ← State.withTime_ite, ← hp, ← ha]
  rfl

end

/-! ## 1PPS and its messages (R110, R111) -/

theorem ppsIn_of_new {s : State} (hroot : s.clocks.onRoot.getD 4 false = true)
    (h : ∀ t, s.time.ppsLastFR = some t → t + 999000000 ≤ s.frNs) : ppsIn s
      = { s with time := { s.time with ppsLastFR := some s.frNs, ppsEdge := some (s.frNs, s.stampBase16) } } := by
  unfold ppsIn
  rw [if_neg (by simpa using hroot)]
  cases hl : s.time.ppsLastFR with
  | none => rfl
  | some t => exact if_neg (Nat.not_lt.mpr (h t hl))

theorem ppsIn_of_early {t : Nat} {s : State} (hroot : s.clocks.onRoot.getD 4 false = true)
    (hl : s.time.ppsLastFR = some t) (h : s.frNs < t + 999000000) : ppsIn s = s.inc ⟨0x200028, 31, 24⟩ := by
  unfold ppsIn
  rw [if_neg (by simpa using hroot), hl]
  exact if_pos h

theorem todMessage_without_edge {s : State} (hsrc : s.srcOrder.contains 2 = true) (he : s.time.ppsEdge = none)
    (b : List Byte) : todMessage b s = todReject 0 s := by
  unfold todMessage
  simp only [hsrc, he, Bool.not_true, Bool.false_eq_true, if_false]

/-- A message in the window after its edge that passes every check gives the edge's offset to the filter. -/
theorem todMessage_of_good {b : List Byte} {edge : Nat} {stamp : Int} {s : State} (hsrc : s.srcOrder.contains 2 = true)
    (he : s.time.ppsEdge = some (edge, stamp))
    (hlo : edge + 10000000 ≤ s.frNs - 160 * 1000000000 / baudOf (fieldLE (s.recBytes 0x0203) 0 1))
    (hhi : s.frNs - 160 * 1000000000 / baudOf (fieldLE (s.recBytes 0x0203) 0 1) < edge + 900000000)
    (hlen : b.length = 16) (hsync : fieldLE b 0 2 = 0x545A) (hver : fieldLE b 2 1 = 1)
    (hcrc : fieldLE b 14 2 = crc16 (b.take 14)) (hvalid : bitOf (fieldLE b 3 1) 0 = true)
    (hseq : ∀ p, s.time.todSec = some p → fieldLE b 4 6 = p + 1) :
    todMessage b s = State.newOffset (State.passUtc { s with time := { s.time with
        todSec := some (fieldLE b 4 6), ppsEdge := none, ppsInNT := BitVec.ofNat 64 (stamp / 65536).toNat } } 2
          (fieldLE b 10 2) (fieldLE b 3 1 / 2)) 2
      (stamp - (fieldLE b 4 6 * 1000000000 : Nat) * 65536 - signed 32 (fieldLE (s.recBytes 0x0203) 4 4) * 65536) := by
  have hnext : ¬(match s.time.todSec with | some p => fieldLE b 4 6 != (p + 1) | none => false) = true := by
    cases hp : s.time.todSec with
    | none => simp
    | some p => simp [hseq p hp]
  unfold todMessage
  simp only [hsrc, he, Bool.not_true, Bool.false_eq_true, if_false, Bool.or_eq_true, decide_eq_true_eq]
  rw [if_neg (not_or.mpr ⟨hlo.not_gt, hhi.not_ge⟩), if_neg (by simp [hlen, hsync, hver, hcrc]), if_neg (by simp [hvalid])]
  exact if_neg hnext

/-- Settles O29, from what the filter does with an offset and what PTP and 1PPS make of an input. -/
theorem timeInputs : Obligations.TimeInputs := by
  refine ⟨⟨?_, ?_, ?_, ?_, ?_, ?_, ?_, ?_⟩, ?_, ?_, ?_⟩
  · intro port domain log src s hsrc hroot hport hsub hdom
    rw [← ptpMessage_of_configured hsrc hport hsub hdom hroot]
    rfl
  · intro port domain utc leap id s
    exact congrArg Host.Outcome.next (ptpAnnounce_of_arb port domain utc leap id s)
  · intro port domain utc leap id s hsrc hport hsub hdom hid
    refine congrArg Host.Outcome.next ((ptpAnnounce_of_configured hsrc hport hsub hdom id utc leap).trans ?_)
    rw [State.passUtc_eq]
    exact State.newMaster_of_same hid
  · intro port domain utc leap id s hsrc hport hsub hdom h0 hid
    obtain ⟨p, n, c, he⟩ := ptpAnnounce_of_other hsrc hport hsub hdom h0 hid utc leap
    rw [State.passUtc_eq] at he
    exact ⟨_, congrArg Host.Outcome.next he, rfl, rfl, rfl, rfl, rfl, rfl, rfl, rfl, rfl, rfl⟩
  · exact fun s hroot h => congrArg Host.Outcome.next (ppsIn_of_new hroot h)
  · exact fun t s hroot hl h => congrArg Host.Outcome.next (ppsIn_of_early hroot hl h)
  · exact fun b s hsrc he => congrArg (fun t => Host.Outcome.next (State.meshStart t)) (todMessage_without_edge hsrc he b)
  · intro b edge stamp s hsrc he hlo hhi hlen hsync hver hcrc hvalid hseq
    have hgood := todMessage_of_good hsrc he hlo hhi hlen hsync hver hcrc hvalid hseq
    rw [State.passUtc_eq] at hgood
    exact congrArg (fun t => Host.Outcome.next (State.meshStart t)) hgood
  · intro k off s _ hw hr
    rw [State.newOffset_of_unseeded hw hr]
    exact ⟨_, rfl, by simp, by simp [hw], by simp⟩
  · intro k off s _ hw ha hhi hlo
    rw [State.newOffset_of_near hw ha hhi hlo]
    exact ⟨_, rfl, by simp⟩
  · intro k off s _ hw hout hr
    rw [State.newOffset_of_outlier hw hout hr]
    refine ⟨_, rfl, by simp, by simp, ?_⟩
    split <;> simp

end Sys2Proof.Machine
end

section
/-! PROOFS. The states of NT, the time-out of a source and re-anchors (04 R107, R112 to R119). -/

namespace Sys2Proof.Machine

theorem State.ntNs_of_nt {s t : State} (h : t.time.nt = s.time.nt) : t.ntNs = s.ntNs := by rw [State.ntNs, h, State.ntNs]

/-! ## Holdover and jumps (R113, R115) -/

/-- Holdover from LOCKED: NT goes on at its last RATE, and a re-anchor of its own is due 1 s after a jump where that is on. -/
theorem State.enterHoldover_time {s : State} (h : s.time.state = .locked) (cause : Nat) : (s.enterHoldover cause).time
    = { s.time with state := .holdover, okRun := 0, holdFrom := s.ntNs
                    autoAt := if cause = 0 && s.autoNt then some (s.ntNs + 1000000000) else none } := by
  simp [State.enterHoldover, h]

theorem State.changeSource_of_active {s : State} {k : Nat} (h : s.time.active = some k) : s.changeSource (some k) = s :=
  if_pos h

theorem State.changeSource_none_time {s : State} {k : Nat} (h : s.time.active = some k) :
    (s.changeSource none).time = { s.time with active := none, okRun := 0 } := by
  simp [State.changeSource, h]

/-- A refused jump is told and takes NT out of LOCKED. -/
theorem State.refuseJump_time {s : State} (h : s.time.state = .locked) (seed : Int) : (s.refuseJump seed).time
    = { s.time with state := .holdover, okRun := 0, holdFrom := s.ntNs
                    autoAt := if s.autoNt then some (s.ntNs + 1000000000) else none } := by
  obtain ⟨ho, r, n, k, e⟩ := (s.inc_effect ⟨0x200028, 23, 16⟩).trans
    (State.postEvent_effect _ 0x2002 (items [0, sItem (ns16 seed), s.jumpNt]) [])
  rw [State.refuseJump, e]
  exact (State.enterHoldover_time (s := { s with host := ho, regs := r, fresh := n, rejects := k }) h 0).trans rfl

/-! ## A source's time-out (R112, R114) -/

@[simp] theorem State.src_dropStep (s : State) (k j : Nat) : (s.dropStep k).src j = s.src j := by
  obtain ⟨p, e⟩ := s.dropStep_eq k
  rw [e]
  rfl

/-- A source's window cleared at its time-out; an empty one goes on towards its seed. -/
def State.windowLost (s : State) (k : Nat) : State :=
  if (s.src k).window = [] then s else (s.setSrc k { lastFR := (s.src k).lastFR }).dropStep k

theorem State.windowLost_eq (s : State) (k : Nat) : ∃ a b p,
    s.windowLost k = { s with time := { s.time with ptp := a, pps := b, stepPending := p } } := by
  unfold State.windowLost
  split
  · exact ⟨_, _, _, rfl⟩
  · obtain ⟨a, b, e⟩ := s.setSrc_eq k { lastFR := (s.src k).lastFR }
    obtain ⟨p, e'⟩ := (s.setSrc k { lastFR := (s.src k).lastFR }).dropStep_eq k
    exact ⟨a, b, p, by rw [e', e]⟩

theorem State.windowLost_keeps (s : State) (k : Nat) : (s.windowLost k).time.nt = s.time.nt
    ∧ (s.windowLost k).time.rate = s.time.rate ∧ (s.windowLost k).time.state = s.time.state
    ∧ (s.windowLost k).time.active = s.time.active := by
  obtain ⟨a, b, p, e⟩ := s.windowLost_eq k
  rw [e]
  exact ⟨rfl, rfl, rfl, rfl⟩

theorem State.windowLost_window (s : State) (k : Nat) : ((s.windowLost k).src k).window = [] := by
  unfold State.windowLost
  split
  · assumption
  · rw [State.src_dropStep, State.src_setSrc]

theorem sourceTimeout_of_idle {k : Nat} {s : State} (hk : s.srcOrder.contains k = true)
    (ht : (s.src k).lastFR + s.inputTimeout ≤ s.frNs) (ha : s.time.active ≠ some k) : sourceTimeout k s = s.windowLost k := by
  simp only [sourceTimeout, hk, ht.not_gt, ha, Bool.not_true, decide_false, Bool.or_self, Bool.false_eq_true, if_false,
    ne_eq, not_false_eq_true, if_true, List.isEmpty_iff]
  rfl

/-- The only source's time-out, while it is active, leaves NT without one. -/
theorem sourceTimeout_of_only {k : Nat} {s : State} (ho : s.srcOrder = [k])
    (ht : (s.src k).lastFR + s.inputTimeout ≤ s.frNs) (ha : s.time.active = some k) : sourceTimeout k s
      = (((s.windowLost k).changeSource none).withTime
          { ((s.windowLost k).changeSource none).time with cand := none }).enterHoldover 1 := by
  have hother : (s.windowLost k).srcOrder.contains (3 - k) = false := by
    obtain ⟨a, b, p, e⟩ := s.windowLost_eq k
    have hsame : (s.windowLost k).srcOrder = [k] := by rw [e]; exact ho
    rw [hsame]
    simp
    omega
  have hlost : (if (s.src k).window.isEmpty then s else (s.setSrc k { lastFR := (s.src k).lastFR }).dropStep k)
      = s.windowLost k := by
    simp only [State.windowLost, List.isEmpty_iff]
  have hk : s.srcOrder.contains k = true := by simp [ho]
  simp only [sourceTimeout, hk, ht.not_gt, ha, hlost, hother, Bool.not_true, decide_false, Bool.or_self, Bool.false_and,
    Bool.false_eq_true, if_false, ne_eq, not_true]
  rfl

theorem sourceTimeout_of_only_time {k : Nat} {s : State} (ho : s.srcOrder = [k])
    (ht : (s.src k).lastFR + s.inputTimeout ≤ s.frNs) (ha : s.time.active = some k) (hl : s.time.state = .locked) :
    (sourceTimeout k s).time = { (s.windowLost k).time with
      state := .holdover, okRun := 0, active := none, cand := none, holdFrom := s.ntNs, autoAt := none } := by
  obtain ⟨hn, -, hstate, hactive⟩ := s.windowLost_keeps k
  rw [sourceTimeout_of_only ho ht ha, State.changeSource_none_time (hactive.trans ha), State.enterHoldover_time,
    State.ntNs_of_nt (s := s)]
  · rfl
  · exact hn
  · exact hstate.trans hl

/-! ## The provisional start (R107, R115, R116) -/

/-- MT starts equal to NT, once. -/
theorem State.startMt_eq (s : State) : ∃ m q r, s.startMt = { s with time := { s.time with mt := m, mtState := q, mtRate := r } }
    ∧ q ≠ .notStarted ∧ (s.time.mtState = .notStarted → m = s.time.nt) := by
  unfold State.startMt
  by_cases h : s.time.mtState = .notStarted
  · exact ⟨s.time.nt, .steered, 0, by simp [h], by decide, fun _ => rfl⟩
  · exact ⟨s.time.mt, s.time.mtState, s.time.mtRate, by simp [h], h, fun h' => absurd h' h⟩

theorem firstWait_of_due {from_ : Nat} {s : State} (hf : s.time.firstWaitFrom = some from_) (hs : s.time.state = .notStarted)
    (hroot : s.clocks.onRoot.getD 4 false = true) (hd : s.dormantRunning = false)
    (ht : from_ + fieldLE (s.recBytes 0x0201) 8 4 * 1000000 ≤ s.frNs) :
    ∃ v, (firstWait s).time = (((State.setNt { s with time := { s.time with state := .provisional, firstWaitFrom := none } }
      v).ntStarts).startMt).time := by
  simp only [firstWait, hf, hs, hroot, hd, ht.not_gt]
  exact ⟨_, State.postEvent_time ..⟩

/-! ## Re-anchors (R117) -/

/-- A request changes no more than the boundaries armed. -/
theorem State.reanchor_eq (s : State) (base : Nat) :
    ∃ st q, s.reanchor base = (st, s.withTime { s.time with reanchors := q }) := by
  simp only [State.reanchor]
  split
  · exact ⟨0x1C, s.time.reanchors, rfl⟩
  split
  · exact ⟨0x1D, s.time.reanchors, rfl⟩
  · exact ⟨0, _, rfl⟩

section
variable {s : State} {base : Nat}

theorem State.reanchor_of_notStarted (h : s.time.state = .notStarted) : s.reanchor base = (0x1C, s) := by
  simp [State.reanchor, h]

theorem State.reanchor_of_pending (h : s.time.state ≠ .notStarted) (hp : Tab.has s.time.reanchors base = true) :
    s.reanchor base = (0x1D, s) := by
  simp [State.reanchor, h, hp]

theorem State.reanchor_of_free (h : s.time.state ≠ .notStarted) (hp : Tab.has s.time.reanchors base = false)
    (hstep : s.time.stepPending = none) (hmt : base = 1 → s.time.mtFollow = false) :
    s.reanchor base = (0, s.withTime { s.time with reanchors := (Tab.put s.time.reanchors base
      (if base < 2 then s.armBoundary else s.gridAtOrAfter (sfLenNs 3) (s.ntNs + 2000000))) }) := by
  have hmt' : ¬(base = 1 ∧ s.time.mtFollow = true) := fun ⟨h1, h2⟩ => by simp [hmt h1] at h2
  simp [State.reanchor, State.withTime, h, hp, hstep, hmt']

end

/-- The boundary armed lies on the length that an irrevocable commit brings where it lies past its target. -/
theorem State.armBoundary_eq (s : State) : s.armBoundary
    = s.gridAtOrAfter (if s.commit.state = .committed ∧ s.commit.target < s.ntNs + 2000000 then sfLenNs s.commit.newLen
        else s.sfNs) (s.ntNs + 2000000) := by
  simp [State.armBoundary]

/-- The word of TIME_REANCHOR with GO names its base. -/
theorem reanchorWord_base : ∀ base < 8, bitsOf (BitVec.ofNat 32 (base % 8 + 8)).toNat 2 0 = base := by decide

theorem reanchorWrite_of_base {r : Requester} {base : Nat} {s : State} (hm : Mapped s r) (hb : base ≤ 4) :
    reanchorWrite r base s = { ((s.put ⟨0x200030, 2, 0⟩ base).reanchor base).2.put ⟨0x200030, 15, 8⟩
      ((s.put ⟨0x200030, 2, 0⟩ base).reanchor base).1 with answer := some .done } := by
  rw [reanchorWrite, reanchorGo, State.access_low hm (by decide), reanchorWord_base base (by omega)]
  simp only [hb.not_gt, if_false]

theorem reanchorWrite_of_reserved {r : Requester} {base : Nat} {s : State} (hm : Mapped s r) (h5 : 5 ≤ base) (h7 : base ≤ 7) :
    reanchorWrite r base s = { s.invalidWrite r 0x200030 (BitVec.ofNat 32 (base + 8)) with answer := some .done } := by
  rw [reanchorWrite, reanchorGo, State.access_low hm (by decide), reanchorWord_base base (by omega),
    Nat.mod_eq_of_lt (show base < 8 by omega)]
  simp only [show 4 < base by omega, if_true]

theorem State.noteOffset_of_seeded {k : Nat} {s : State} (ha : s.time.active = some k) (hw : (s.src k).window ≠ []) :
    s.noteOffset = { s with time := { s.time with lastOffset := median (s.src k).window } } := by
  simp [State.noteOffset, ha, hw]

/-- The deadline takes the filtered offset of the active source. -/
theorem reanchorTake_of_seeded {b k : Nat} {s : State} (hb : Tab.get? s.time.reanchors 0 = some b)
    (ht : s.gridAtOrAfter s.sfNs b ≤ s.ntNs + 2000000) (hr : s.time.ntReanchorReady = none) (ha : s.time.active = some k)
    (hw : (s.src k).window ≠ []) : reanchorTake s = { s with time := { s.time with
      ntReanchorReady := some (median (s.src k).window), cand := none, lastOffset := median (s.src k).window } } := by
  have hpick : (s.time.active.filter (fun k => !(s.src k).window.isEmpty)).or
      (s.srcOrder.find? fun k => !(s.src k).window.isEmpty) = some k := by simp [ha, hw]
  simp only [reanchorTake, hb, ht.not_gt, hr, hpick, State.changeSource_of_active ha, decide_false, Option.isSome_none,
    Bool.or_self, Bool.false_eq_true, if_false]
  exact State.noteOffset_of_seeded
    (s := s.withTime { s.time with ntReanchorReady := some (median (s.src k).window), cand := none }) ha hw

/-- A deadline that finds no source seeded refuses the re-anchor. -/
theorem reanchorTake_of_unseeded {b : Nat} {s : State} (hb : Tab.get? s.time.reanchors 0 = some b)
    (ht : s.gridAtOrAfter s.sfNs b ≤ s.ntNs + 2000000) (hr : s.time.ntReanchorReady = none)
    (hw : ∀ j ∈ s.time.active.toList ++ s.srcOrder, (s.src j).window = []) : reanchorTake s
      = State.put { s with time := { s.time with reanchors := Tab.del s.time.reanchors 0 } } ⟨0x200030, 15, 8⟩ 0x1E := by
  have hactive : s.time.active.filter (fun k => !(s.src k).window.isEmpty) = none := by
    cases ha : s.time.active with
    | none => rfl
    | some k => simp [hw k (by simp [ha])]
  have horder : s.srcOrder.find? (fun k => !(s.src k).window.isEmpty) = none := by
    rw [List.find?_eq_none]
    intro j hj
    simp [hw j (List.mem_append_right _ hj)]
  simp only [reanchorTake, hb, ht.not_gt, hr, hactive, horder]
  rfl

theorem autoReanchor_of_due {at_ : Nat} {s : State} (ha : s.time.autoAt = some at_) (hs : s.time.state = .holdover)
    (ht : at_ ≤ s.ntNs) : autoReanchor s = ((s.withTime { s.time with autoAt := none }).reanchor 0).2 := by
  simp [autoReanchor, ha, hs, ht, State.withTime]

/-- What a request with GO shows of TIME_REANCHOR: its base and the status of the request. -/
theorem reanchorWrite_shows {r : Requester} {base : Nat} {s : State} (hm : Mapped s r) (hb : base ≤ 4) {st : Nat} {q : Tab Nat}
    (hst : st < 256) (he : (s.put ⟨0x200030, 2, 0⟩ base).reanchor base
      = (st, (s.put ⟨0x200030, 2, 0⟩ base).withTime { s.time with reanchors := q })) :
    (reanchorWrite r base s).get ⟨0x200030, 15, 8⟩ = st
      ∧ (reanchorWrite r base s).time = { s.time with reanchors := q } := by
  rw [reanchorWrite_of_base hm hb, he]
  exact ⟨(State.get_put_self _ st (by decide) (by decide)).trans (Nat.mod_eq_of_lt hst), rfl⟩

theorem reanchorWrite_keeps {r : Requester} {base : Nat} {s : State} (hm : Mapped s r) (hb : base ≤ 4) :
    (reanchorWrite r base s).answer = some .done ∧ (reanchorWrite r base s).get ⟨0x200030, 2, 0⟩ = base
      ∧ (reanchorWrite r base s).time.nt = s.time.nt ∧ ∀ a, a ≠ 0x200030 → (reanchorWrite r base s).reg a = s.reg a := by
  obtain ⟨st, q, he⟩ := (s.put ⟨0x200030, 2, 0⟩ base).reanchor_eq base
  rw [reanchorWrite_of_base hm hb, he]
  refine ⟨rfl, ?_, rfl, fun a ha => ?_⟩
  · have hapart := State.get_put_apart ((s.put ⟨0x200030, 2, 0⟩ base).withTime { s.time with reanchors := q })
      (a := 0x200030) (hi := 15) (lo := 8) (hi' := 2) (lo' := 0) st (by decide) (by decide) (by decide)
    have hself : (s.put ⟨0x200030, 2, 0⟩ base).get ⟨0x200030, 2, 0⟩ = base :=
      (s.get_put_self base (by decide) (by decide)).trans (Nat.mod_eq_of_lt (by omega))
    exact hapart.trans hself
  · exact (State.reg_put_ne _ st ha).trans (s.reg_put_ne base ha)

/-- Settles O30, from what each of the rows does with the states of NT, the windows of its sources and the boundaries armed. -/
theorem timeStates : Obligations.TimeStates := by
  refine ⟨?_, ?_, ?_, ?_, ?_, ?_, ?_, ?_, ?_⟩
  · intro k s _ hk ht ha
    exact congrArg (fun t => Host.Outcome.next (State.meshStart t)) (sourceTimeout_of_idle hk ht ha)
  · intro k s _ ho ht ha hl
    have htime : (sourceTimeout k s).meshStart.time = _ := (State.meshStart_time _).trans (sourceTimeout_of_only_time ho ht ha hl)
    obtain ⟨hn, hr, -⟩ := s.windowLost_keeps k
    refine ⟨_, rfl, ?_⟩
    rw [State.src, htime]
    exact ⟨rfl, rfl, s.windowLost_window k, hn, hr, rfl, rfl⟩
  · intro from_ s hf hs hroot hd ht
    obtain ⟨v, he⟩ := firstWait_of_due hf hs hroot hd ht
    obtain ⟨m, q, r, hmt, hq, hm⟩ := State.startMt_eq
      (State.setNt { s with time := { s.time with state := .provisional, firstWaitFrom := none } } v).ntStarts
    rw [hmt] at he
    refine ⟨_, rfl, ?_⟩
    rw [State.meshStart_time, he]
    exact ⟨rfl, rfl, hq, hm, rfl⟩
  · intro r base s hm hb
    obtain ⟨hans, hbase, hnt, hregs⟩ := reanchorWrite_keeps (base := base) hm hb
    refine ⟨_, rfl, hans, hbase, hnt, fun hs => ?_, fun hs hp => ?_, fun hs hp hstep hmt => ?_, hregs⟩
    · exact reanchorWrite_shows hm hb (by decide) (State.reanchor_of_notStarted hs)
    · exact reanchorWrite_shows hm hb (by decide) (State.reanchor_of_pending hs hp)
    · obtain ⟨hst, hq⟩ := reanchorWrite_shows hm hb (by decide) (State.reanchor_of_free hs hp hstep fun _ => hmt)
      refine ⟨hst, ?_⟩
      rw [hq, Tab.get?_put_self]
      split
      · exact congrArg some (State.armBoundary_eq _)
      · rfl
  · intro r base s hm h5 h7
    exact congrArg Host.Outcome.next (reanchorWrite_of_reserved hm h5 h7)
  · intro b k s hb ht hr ha hw
    exact congrArg Host.Outcome.next (reanchorTake_of_seeded hb ht hr ha hw)
  · intro b s hb ht hr hw
    refine ⟨_, congrArg Host.Outcome.next (reanchorTake_of_unseeded hb ht hr hw), Tab.get?_del_self _ _, ?_, rfl,
      fun a ha => State.reg_put_ne _ _ ha⟩
    exact State.get_put_self _ 0x1E (by decide) (by decide)
  · intro seed s hl
    refine ⟨_, rfl, ?_⟩
    rw [State.refuseJump_time hl]
    exact ⟨rfl, rfl, rfl, rfl⟩
  · intro at_ s ha hs ht hp hstep
    have hran : s.time.state ≠ .notStarted := by rw [hs]; decide
    have hfree := State.reanchor_of_free (s := s.withTime { s.time with autoAt := none }) (base := 0) hran hp hstep
      fun h => absurd h (by decide)
    have he := (autoReanchor_of_due ha hs ht).trans (congrArg Prod.snd hfree)
    refine ⟨_, congrArg Host.Outcome.next he, rfl, ?_, rfl, rfl⟩
    exact (Tab.get?_put_self _ _ _).trans (congrArg some (State.armBoundary_eq _))

end Sys2Proof.Machine
end

section
/-! PROOFS. MT, PPS_OUT and the time-of-day output (04 R107, R110, R124). -/

namespace Sys2Proof.Machine

/-! ## MT − NT (R107) -/

/-- What a measurement of MT − NT notes. -/
def State.mtMeasured (s : State) : State :=
  { s with time := { s.time with mtMeasuredSec := s.ntNs / 1000000000
                                 mtDiff := ((s.time.mt.v : Int) - s.time.nt.v) / 2 ^ 48 } }

/-- MT steered at a rate that the machine draws. -/
def State.mtSteered (s : State) : State :=
  { (s.draw 32).2 with time := { s.time with
    mtState := .steered, mtRate := ((s.draw 32).1.toNat % 1717987 : Nat) - 858993 } }

theorem State.mtSteered_time (s : State) :
    s.mtSteered.time = { s.time with mtState := .steered, mtRate := s.mtSteered.time.mtRate } := rfl

theorem State.mtSteered_rate (s : State) : -858993 ≤ s.mtSteered.time.mtRate ∧ s.mtSteered.time.mtRate ≤ 858993 := by
  unfold State.mtSteered
  dsimp only
  omega

/-- A measurement that ends MT's holdover is told. -/
def State.mtAccepted (s : State) : State :=
  if s.time.mtState == .holdover then s.mtMeasured.postEvent 0x2004 (items [1, s.mtHoldAge]) else s.mtMeasured

theorem State.mtAccepted_time (s : State) : s.mtAccepted.time = s.mtMeasured.time := by
  unfold State.mtAccepted
  split
  · exact State.postEvent_time ..
  · rfl

/-- A measurement that is refused is counted and told. -/
def State.mtCounted (s : State) : State :=
  (s.mtMeasured.inc ⟨0x200028, 23, 16⟩).postEvent 0x2002 (items [1, sItem s.mtMeasured.time.mtDiff, s.jumpMt])

theorem State.mtCounted_time (s : State) : s.mtCounted.time = s.mtMeasured.time :=
  (State.postEvent_time ..).trans (State.inc_time ..)

/-- The holdover that a refusal begins is told too. -/
def State.mtRefused (s : State) : State :=
  if s.time.mtState == .steered then
    (s.mtCounted.withTime { s.mtCounted.time with mtHoldFrom := s.frNs }).postEvent 0x2003 (items [1, 0])
  else s.mtCounted

theorem State.mtRefused_time (s : State) : ∃ from_, s.mtRefused.time = { s.mtMeasured.time with mtHoldFrom := from_ } := by
  unfold State.mtRefused
  split
  · rw [State.postEvent_time, State.mtCounted_time]
    exact ⟨s.frNs, rfl⟩
  · exact ⟨s.time.mtHoldFrom, s.mtCounted_time⟩

section
variable {s : State} (hv : s.ntValid = true) (hm : s.time.mtState ≠ .notStarted)
  (hsec : s.time.mtMeasuredSec < s.ntNs / 1000000000)
include hv hm hsec

/-- Once a second MT is steered, or refused beyond JUMP_MT. -/
theorem mtDiff_of_due : mtDiff s
    = if (s.jumpMt : Int) < s.mtMeasured.time.mtDiff ∨ s.mtMeasured.time.mtDiff < -(s.jumpMt : Int)
      then s.mtRefused.withTime { s.mtRefused.time with mtState := .holdover, mtFollow := s.time.mtFollow || s.autoMt }
      else s.mtAccepted.mtSteered := by
  have hdue : ¬(!s.ntValid || s.time.mtState == .notStarted || decide (s.ntNs / 1000000000 ≤ s.time.mtMeasuredSec)) = true := by
    simp [hv, hm, hsec]
  unfold mtDiff
  extract_lets sec
  rw [if_neg hdue]
  simp only [Bool.or_eq_true, decide_eq_true_eq]
  rfl

/-- Within JUMP_MT a rate of at most ±200 ppm steers MT. -/
theorem mtDiff_of_near (hlo : -(s.jumpMt : Int) ≤ s.mtMeasured.time.mtDiff) (hhi : s.mtMeasured.time.mtDiff ≤ s.jumpMt) :
    mtDiff s = s.mtAccepted.mtSteered := by
  rw [mtDiff_of_due hv hm hsec, if_neg (by omega)]

/-- Beyond JUMP_MT MT holds over at its last rate, and is to follow NT where that is on. -/
theorem mtDiff_of_far (hfar : s.mtMeasured.time.mtDiff < -(s.jumpMt : Int) ∨ (s.jumpMt : Int) < s.mtMeasured.time.mtDiff) :
    ∃ from_, (mtDiff s).time = { s.mtMeasured.time with
      mtHoldFrom := from_, mtState := .holdover, mtFollow := s.time.mtFollow || s.autoMt } := by
  obtain ⟨from_, he⟩ := s.mtRefused_time
  refine ⟨from_, ?_⟩
  rw [mtDiff_of_due hv hm hsec, if_pos hfar.symm, he]
  rfl

/-- Either way the measurement is noted, and NT, MT and RATE are as they were. -/
theorem mtDiff_keeps : (mtDiff s).time.mtDiff = s.mtMeasured.time.mtDiff
    ∧ (mtDiff s).time.mtMeasuredSec = s.ntNs / 1000000000 ∧ (mtDiff s).time.nt = s.time.nt ∧ (mtDiff s).time.mt = s.time.mt
    ∧ (mtDiff s).time.rate = s.time.rate := by
  by_cases hfar : s.mtMeasured.time.mtDiff < -(s.jumpMt : Int) ∨ (s.jumpMt : Int) < s.mtMeasured.time.mtDiff
  · obtain ⟨from_, he⟩ := mtDiff_of_far hv hm hsec hfar
    rw [he]
    exact ⟨rfl, rfl, rfl, rfl, rfl⟩
  · rw [mtDiff_of_near hv hm hsec (by omega) (by omega)]
    rw [State.mtSteered_time, State.mtAccepted_time]
    exact ⟨rfl, rfl, rfl, rfl, rfl⟩

end

/-! ## PPS_OUT and its message (R124) -/

theorem ppsOutRise_of_new {s : State} (hon : bitOf (fieldLE (s.recBytes 0x0203) 1 1) 1 = true) (hs : s.stepTaken = true)
    (hout : ∀ p, s.time.ppsOutSec = some p → p < s.ppsSecond) (hbase : ∀ p, s.time.ppsBase = some p → p < s.ppsSecond) :
    ppsOutRise s = { s with time := { s.time with ppsOutSec := some s.ppsSecond, ppsRose := s.elapsed } } := by
  have hall (o : Option Nat) (h : ∀ p, o = some p → p < s.ppsSecond) : o.all (fun p => decide (p < s.ppsSecond)) = true := by
    cases o with
    | none => rfl
    | some p => simpa using h p rfl
  simp [ppsOutRise, hon, hs, hall _ hout, hall _ hbase]

theorem ppsOutRise_without_step {s : State} (hs : s.stepTaken = false) : ppsOutRise s = s := by
  simp [ppsOutRise, hs]

theorem State.ppsOut_of_risen {s : State} (ho : s.time.ppsOutSec.isSome) (hs : s.stepTaken = true) :
    s.ppsOut = decide (5 * (s.elapsed - s.time.ppsRose) < 3 * fieldLE (s.recBytes 0x0203) 12 4) := by
  simp [State.ppsOut, ho, hs]

theorem todSend_of_due {k : Nat} {s : State} (ho : s.time.ppsOutSec = some k)
    (hon : bitOf (fieldLE (s.recBytes 0x0203) 1 1) 0 = true) (hnew : s.time.todSentSec ≠ some k) (hs : s.stepTaken = true)
    (ht : (k : Int) * 1000000000 + signed 32 (fieldLE (s.recBytes 0x0203) 8 4) + 100000000 ≤ s.ntNs) : todSend s
      = { s with time := { s.time with
        todSentSec := some k, todOut := todBytes (b2n (s.time.state == .locked) + 2 * s.time.leap) k s.time.utc } } := by
  simp [todSend, ho, hon, hnew, hs, ht]

/-- Settles O31, from the measurement of MT − NT and from when PPS_OUT and its message are due. -/
theorem mtAndOutputs : Obligations.MtAndOutputs := by
  refine ⟨?_, ?_, ?_, ?_, ?_⟩
  · intro s hv hm hsec
    obtain ⟨hd, hs, hnt, hmt, hr⟩ := mtDiff_keeps hv hm hsec
    refine ⟨_, rfl, hd, hs, hnt, hmt, hr, fun hlo hhi => ?_, fun hfar => ?_⟩
    · have he := mtDiff_of_near hv hm hsec (hd ▸ hlo) (hd ▸ hhi)
      obtain ⟨hmin, hmax⟩ := s.mtAccepted.mtSteered_rate
      rw [← he] at hmin hmax
      refine ⟨congrArg (fun t => t.time.mtState) he, hmin, hmax, ?_, fun hst => ?_⟩
      · rw [he, State.mtSteered_time, State.mtAccepted_time]
        rfl
      · rw [he]
        simp [State.mtSteered, State.mtAccepted, State.mtMeasured, hst, State.draw]
    · obtain ⟨from_, he⟩ := mtDiff_of_far hv hm hsec (hd ▸ hfar)
      rw [he]
      exact ⟨rfl, rfl, rfl⟩
  · rintro k s rfl hon hs hout hbase
    exact congrArg Host.Outcome.next (ppsOutRise_of_new hon hs hout hbase)
  · exact fun s ho hs => State.ppsOut_of_risen ho hs
  · exact fun s hs => congrArg Host.Outcome.next (ppsOutRise_without_step hs)
  · exact fun k s ho hon hnew hs ht => congrArg Host.Outcome.next (todSend_of_due ho hon hnew hs ht)

end Sys2Proof.Machine
end

section
/-! PROOFS. What a write of a staged window does, and of the active offset of a staged register (05 R131, R132, R137). -/

namespace Sys2Proof.Machine

section
variable {s : State} {r : Requester} {a n b : Nat} {v : Word} {row : RegRow}

/-- A write that reaches a staged window is a write of the register's staged copy. -/
theorem State.writeAt_of_window (h : s.resolve r 32 a (fun n => (activeOf n).getD n) = .ok n) (ha : activeOf n = some b) :
    s.writeAt r 32 a v = { s.writeStaged r n b v with answer := some .done } := by
  cases r with
  | bar2 f => simp [State.resolve] at h
  | _ => simp only [State.writeAt, h, ha]

/-- A closed bank refuses the write and counts it (R131, R134, R137). -/
theorem State.writeStaged_closed {st : Nat} (h : (addrUnits b).findSome? s.stageStatus = some st) :
    s.writeStaged r n b v = (s.inc ⟨0x300050, 31, 24⟩).postEvent 0x3005 (items [n, st]) := by
  simp only [State.writeStaged, h, State.stageRefused]

/-- Past the front-ends' registers a chain that the variant lacks takes no part: every bit is written, and nothing else follows. -/
theorem State.writeStaged_past_chains (hopen : (addrUnits b).findSome? s.stageStatus = none) (hb : 0x1300000 ≤ b)
    (hrow : rowAt b = some row) (hok : row.accepts v = true) (hgood : s.stagedBad b v = false) :
    s.writeStaged r n b v = s.setSreg b (row.write (s.sreg b) v) := by
  have hlt : ¬b < 0x1300000 := by omega
  have hchain : s.absentChainReg b = false := by simp [State.absentChainReg, hlt]
  have hmask (w : Word) : w &&& s.chainMask b = w := by
    have hall : s.chainMask b = BitVec.allOnes 32 := by simp [State.chainMask, hlt, BitVec.allOnes]
    rw [hall, BitVec.and_allOnes]
  have hafter (t : State) : t.afterStaged b = t := by simp [State.afterStaged, hlt]
  simp [State.writeStaged, hopen, hrow, hchain, hok, hgood, hmask, hafter]

/-- The active offset of a staged register refuses a write (R132). -/
theorem State.writeActive_staged (hrow : rowAt n = some row) (hst : row.staged = true) :
    s.writeActive r n v = s.postEvent 0x3005 (items [n, 0x02]) := by
  simp only [State.writeActive, hrow, hst, if_true, State.stageRefused]

end

/-- Settles O13: a write goes to the staged copy or to the active register by its address, and the one is refused while the bank is
closed, the other always. -/
theorem stagedWrites : Obligations.StagedWrites := by
  unfold Obligations.StagedWrites
  refine ⟨fun s r a n b v row hres ha hrow hopen hb hok hgood => ?_, fun s r a n v row hres ha hrow hst => ?_,
    fun s r a n b st v hres ha hclosed => ?_⟩ <;> rw [exec_stagedWindowWrite]
  · rw [State.writeAt_of_window hres ha, State.writeStaged_past_chains hopen hb hrow hok hgood]
  · rw [State.writeAt_of_resolve hres ha, State.writeActive_staged hrow hst]
  · rw [State.writeAt_of_window hres ha, State.writeStaged_closed hclosed]

end Sys2Proof.Machine
end

section
/-! PROOFS. What follows the Meridian, and what of it the rest of the device leaves alone (05 R129 to R150): the time bases, the grid,
the commit, the Dormant sequence, and whether the link is up. -/

namespace Sys2Proof.Machine

/-! ## What a state is put together from -/

/-- What the Meridian's own commands, the time bases' and the link's move and hardly anything else does. -/
def State.pace (s : State) : TimeSt × GridSt × CommitSt × DormantSt × Bool := (s.time, s.grid, s.commit, s.dormant, s.host.linkUp)

theorem State.time_of_pace {s t : State} (h : t.pace = s.pace) : t.time = s.time := congrArg (·.1) h
theorem State.grid_of_pace {s t : State} (h : t.pace = s.pace) : t.grid = s.grid := congrArg (·.2.1) h
theorem State.commit_of_pace {s t : State} (h : t.pace = s.pace) : t.commit = s.commit := congrArg (·.2.2.1) h
theorem State.dormant_of_pace {s t : State} (h : t.pace = s.pace) : t.dormant = s.dormant := congrArg (·.2.2.2.1) h
theorem State.linkUp_of_pace {s t : State} (h : t.pace = s.pace) : t.host.linkUp = s.host.linkUp := congrArg (·.2.2.2.2) h

/-- An update of a state's other fields leaves the pace as it was. -/
@[simp] theorem State.mk_pace : ∀ (s : State) x0 x1 x2 x3 x4 x5 x6 x7 x8 x9 x10 x11 x12 x13 x14 x15 x16 x17 x18 x19 x20 x21 x22 x23
    x24 x25 x26 x27 x28 x29,
    (State.mk x0 x1 x2 x3 x4 x5 x6 x7 x8 x9 x10 x11 x12 x13 x14 s.time s.grid s.commit s.dormant s.host x15 x16 x17 x18 x19 x20 x21
    x22 x23 x24 x25 x26 x27 x28 x29).pace = s.pace := by
  intros
  rfl

/-- So does an update of the host interface's other parts. -/
@[simp] theorem State.mk_host_pace : ∀ (s : State) x0 x1 x2 x3 x4 x5 x6 x7 x8 x9 x10 x11 x12 x13 x14 x15 x16 x17 x18 x19 x20 x21 x22
    x23 x24 x25 x26 x27 x28 x29 y0 y1 y2 y3 y4 y5 y6 y7 y8 y9 y10 y11 y12 y13 y14 y15 y16 y17 y18 y19 y20,
    (State.mk x0 x1 x2 x3 x4 x5 x6 x7 x8 x9 x10 x11 x12 x13 x14 s.time s.grid s.commit s.dormant (HostSt.mk s.host.linkUp y0 y1 y2 y3
    y4 y5 y6 y7 y8 y9 y10 y11 y12 y13 y14 y15 y16 y17 y18 y19 y20) x15 x16 x17 x18 x19 x20 x21 x22 x23 x24 x25 x26 x27 x28
    x29).pace = s.pace := by
  intros
  rfl

@[simp] theorem State.pace_ite (c : Prop) [Decidable c] (a b : State) :
    (if c then a else b).pace = if c then a.pace else b.pace := apply_ite State.pace c a b

/-- A case distinction leaves the pace alone where both branches do. -/
theorem State.ite_pace {c : Prop} [Decidable c] {a b s : State} (ha : a.pace = s.pace) (hb : b.pace = s.pace) :
    (if c then a else b).pace = s.pace := by
  split
  · exact ha
  · exact hb

/-- A fold leaves the pace alone where each of its steps does. -/
@[simp] theorem State.foldl_pace {ι : Type} {g : State → ι → State} (hg : ∀ s i, (g s i).pace = s.pace) {l : List ι} {s : State} :
    (l.foldl g s).pace = s.pace :=
  State.foldl_inv (fun t => t.pace = s.pace) l g (fun t i h => (hg t i).trans h) s rfl

theorem TasksOnly.pace {s t : State} : TasksOnly s t → t.pace = s.pace := by
  rintro ⟨q, rfl⟩
  rfl

theorem FlashEffect.pace {s t : State} : FlashEffect s t → t.pace = s.pace := by
  rintro ⟨f, l, n, rfl⟩
  rfl

/-! ## Plain updates -/

section
variable (s : State) (a v i : Nat) (w : Word) (p : FieldRef) (x : UnitSt) (u : FUnit) (q : RingSt) (bs : List Byte) (l : List Nat)
  (ks : KeySlot) (gc : List Cmd → List Cmd) (fd : DramCh → DramCh) (ff : Frame → Frame) (fp : Ppdu → Ppdu) (fh : MeshSt → MeshSt)
  (fk : PktSt → PktSt) (fr : RadioSt → RadioSt) (fc : ChainSt → ChainSt)
  (ft : TileSt → TileSt)

@[simp] theorem State.setReg_pace : (s.setReg a w).pace = s.pace := rfl
@[simp] theorem State.put_pace : (s.put p v).pace = s.pace := rfl
@[simp] theorem State.inc64_pace : (s.inc64 a).pace = s.pace := rfl
@[simp] theorem State.setUnit_pace : (s.setUnit i x).pace = s.pace := rfl
@[simp] theorem State.refuseAt_pace : (s.refuseAt u).pace = s.pace := rfl
@[simp] theorem State.setRing_pace : (s.setRing a q).pace = s.pace := rfl
@[simp] theorem State.raiseVector_pace : (s.raiseVector a v).pace = s.pace := rfl
@[simp] theorem State.mapCmds_pace : (s.mapCmds gc).pace = s.pace := rfl
@[simp] theorem State.writeHost_pace : (s.writeHost a v bs).pace = s.pace := rfl
@[simp] theorem State.setSlot_pace : (s.setSlot a ks).pace = s.pace := rfl
@[simp] theorem State.modDch_pace : (s.modDch a fd).pace = s.pace := rfl
@[simp] theorem State.modFrame_pace : (s.modFrame a ff).pace = s.pace := rfl
@[simp] theorem State.modPpdu_pace : (s.modPpdu a fp).pace = s.pace := rfl
@[simp] theorem State.modMesh_pace : (s.modMesh fh).pace = s.pace := rfl
@[simp] theorem State.modPkt_pace : (s.modPkt fk).pace = s.pace := rfl
@[simp] theorem State.powerDown_pace : (s.powerDown l).pace = s.pace := rfl
@[simp] theorem State.modRadio_pace : (s.modRadio a fr).pace = s.pace := rfl
@[simp] theorem State.modChain_pace : (s.modChain a fc).pace = s.pace := rfl
@[simp] theorem State.modTile_pace : (s.modTile a ft).pace = s.pace := rfl
@[simp] theorem State.inc_pace : (s.inc p).pace = s.pace := by unfold State.inc; split <;> rfl
@[simp] theorem State.incBy_pace : (s.incBy p a).pace = s.pace := by unfold State.incBy; split <;> rfl

end

variable (s : State)

/-! ## Rings, events and completions (13) -/

@[simp] theorem State.refuseBy_pace (o : Option FUnit) : (s.refuseBy o).pace = s.pace := by
  unfold State.refuseBy
  split <;> simp

@[simp] theorem State.writeEntry_pace (f kind n idx : Nat) (bs : List Byte) :
    (s.writeEntry f kind n idx bs).pace = s.pace := s.writeHost_pace ..
@[simp] theorem State.ringTake_pace (f kind n : Nat) : (s.ringTake f kind n).1.pace = s.pace := s.setRing_pace ..
@[simp] theorem State.moderate_pace (f kind n : Nat) (now : Bool) : (s.moderate f kind n now).pace = s.pace :=
  State.ite_pace rfl rfl
@[simp] theorem State.putEvent_pace (f : Nat) (e : Event) : (s.putEvent f e).pace = s.pace := by
  simp [State.putEvent]
@[simp] theorem State.loseEvent_pace (f : Nat) : (s.loseEvent f).pace = s.pace := s.inc_pace _
@[simp] theorem State.postSeq_pace (f code : Nat) (b : List Byte) : (s.postSeq f code b).pace = s.pace := State.putEvent_pace ..
@[simp] theorem State.reportLost_pace (f : Nat) : (s.reportLost f).pace = s.pace := State.ite_pace (State.postSeq_pace ..) rfl

@[simp] theorem State.postOn_pace (f code : Nat) (b : List Byte) : (s.postOn f code b).pace = s.pace := by
  unfold State.postOn
  extract_lets s1
  have h1 : s1.pace = s.pace := State.ite_pace (s.reportLost_pace f) rfl
  exact State.ite_pace ((s1.postSeq_pace ..).trans h1) ((s1.loseEvent_pace f).trans h1)

@[simp] theorem State.postEvent_pace (code : Nat) (b : List Byte) (vfs : List Nat) : (s.postEvent code b vfs).pace = s.pace :=
  (State.foldl_pace fun s f => s.postOn_pace f code b).trans (s.postOn_pace 0 code b)

@[simp] theorem State.postCompletion_pace (c : Cmd) (status result : Nat) :
    (s.postCompletion c status result).1.pace = s.pace := by simp [State.postCompletion, State.putCqe]

@[simp] theorem State.complete_pace (f tag status result : Nat) : (s.complete f tag status result).pace = s.pace := by
  unfold State.complete
  split <;> simp [State.countReject]

/-! ## The flash, the task scheduler and the packet path (03 R97, 11, 13 R397) -/

@[simp] theorem State.logWrite_pace (type : Nat) (payload : List Byte) : (s.logWrite type payload).pace = s.pace :=
  State.ite_pace (s.queueLogOp_effect _).pace rfl
@[simp] theorem State.writeCounts_pace : s.writeCounts.pace = s.pace := State.foldl_pace fun s _ => s.logWrite_pace ..

@[simp] theorem State.enqueue_pace (q prio tenant : Nat) (ctx : Option Nat) (source reason : Nat) (payload key : List Byte)
    (mac : Option (List Byte)) : (s.enqueue q prio tenant ctx source reason payload key mac).2.pace = s.pace :=
  (s.enqueue_tasksOnly q prio tenant ctx source reason payload key mac).pace
@[simp] theorem State.dropFull_pace (q : Nat) : (s.dropFull q).pace = s.pace := s.inc_pace _
@[simp] theorem State.exceptionDrop_pace (q : Nat) : (s.exceptionDrop q).pace = s.pace := State.ite_pace (s.inc_pace _) (s.dropFull_pace q)
@[simp] theorem State.ingress_pace (src : Nat) (f : SrcFrame) : (s.ingress src f).pace = s.pace :=
  State.ite_pace (s.refuseBy_pace _) (State.ite_pace (s.inc_pace _) rfl)

end Sys2Proof.Machine
end

section
/-! PROOFS. What a swap leaves alone in the blocks that it runs through (05 R140): the pace, and the words of the registers that belong
to a unit of the commit. -/

namespace Sys2Proof.Machine

/-! ## The words of the commit's units -/

/-- The words of the registers that belong to a unit of the commit (05 R133). -/
def State.unitWord (s : State) (a : Nat) : Option Word := if addrUnits a = [] then none else some (s.reg a)

/-- What a swap leaves alone once the new bank is active. -/
def State.steady (s : State) : (TimeSt × GridSt × CommitSt × DormantSt × Bool) × (Nat → Option Word) := (s.pace, s.unitWord)

theorem State.pace_of_steady {s t : State} (h : t.steady = s.steady) : t.pace = s.pace := congrArg Prod.fst h

theorem State.reg_of_steady {s t : State} {a : Nat} (h : t.steady = s.steady) (ha : addrUnits a ≠ []) : t.reg a = s.reg a := by
  have hw : t.unitWord a = s.unitWord a := congrFun (congrArg Prod.snd h) a
  simpa [State.unitWord, ha] using hw

/-- The registers of the cipher engine, the scheduler and the host interface belong to no unit of the commit. -/
theorem addrUnits_service {a : Nat} (hlo : 0x2800000 ≤ a) (hhi : a < 0x3400000) : addrUnits a = [] := by
  unfold addrUnits
  repeat rw [if_neg (by omega)]
  rw [if_pos hhi]

/-- A change of one register that belongs to no unit. -/
theorem State.steady_of_service {s t : State} {b : Nat} (hp : t.pace = s.pace) (hlo : 0x2800000 ≤ b) (hhi : b < 0x3400000)
    (hr : ∀ a, a ≠ b → t.reg a = s.reg a) : t.steady = s.steady := by
  have hw : t.unitWord = s.unitWord := funext fun a => by
    by_cases ha : a = b
    · rw [State.unitWord, State.unitWord, ha, if_pos (addrUnits_service hlo hhi), if_pos (addrUnits_service hlo hhi)]
    · rw [State.unitWord, State.unitWord, hr a ha]
  rw [State.steady, hp, hw, State.steady]

theorem State.ite_steady {c : Prop} [Decidable c] {a b s : State} (ha : a.steady = s.steady) (hb : b.steady = s.steady) :
    (if c then a else b).steady = s.steady := by
  split
  · exact ha
  · exact hb

theorem State.foldl_steady {ι : Type} {g : State → ι → State} (hg : ∀ s i, (g s i).steady = s.steady) {l : List ι} {s : State} :
    (l.foldl g s).steady = s.steady :=
  State.foldl_inv (fun t => t.steady = s.steady) l g (fun t i h => (hg t i).trans h) s rfl

theorem TasksOnly.steady {s t : State} : TasksOnly s t → t.steady = s.steady := by
  rintro ⟨q, rfl⟩
  rfl

variable (s : State)

theorem State.modChain_steady (i : Nat) (f : ChainSt → ChainSt) : (s.modChain i f).steady = s.steady := rfl
theorem State.modSyn_steady (r g : Nat) (f : SynSt → SynSt) : (s.modSyn r g f).steady = s.steady := rfl
theorem State.modPkt_steady (f : PktSt → PktSt) : (s.modPkt f).steady = s.steady := rfl
theorem State.modDch_steady (c : Nat) (f : DramCh → DramCh) : (s.modDch c f).steady = s.steady := rfl

/-- An event for the PF alone counts, where it is lost, in a register of the host interface. -/
theorem State.postEvent_steady (code : Nat) (b : List Byte) : (s.postEvent code b).steady = s.steady :=
  State.steady_of_service (s.postEvent_pace code b []) (by decide) (by decide) (s.postEvent_eventKeeps code b).reg

theorem State.inc_steady {f : FieldRef} (hlo : 0x2800000 ≤ f.a) (hhi : f.a < 0x3400000) : (s.inc f).steady = s.steady :=
  State.steady_of_service (s.inc_pace f) hlo hhi fun _ ha => s.reg_inc_ne ha

theorem State.dropFull_steady (q : Nat) : (s.dropFull q).steady = s.steady :=
  s.inc_steady (f := ⟨0x2C00010, 15, 0⟩) (by decide) (by decide)

/-! ## The receiver (07 R190, R202, 13 R385 to R387) -/

theorem State.writeHost_putRx_steady (f a n bufId len : Nat) (bs : List Byte) (sop eop : Bool) (src index : Nat) (rest : List Byte) :
    ((s.writeHost f a bs).putRx f n bufId len sop eop src index rest).steady = s.steady := rfl

theorem State.rqWrite_steady (f n k src : Nat) (rest payload : List Byte) : (s.rqWrite f n k src rest payload).steady = s.steady := by
  unfold State.rqWrite
  extract_lets key bs src1 s1 s2
  have h2 : s2.steady = s.steady := (State.foldl_steady fun s _ => s.writeHost_putRx_steady ..).trans rfl
  exact State.ite_steady h2 h2

/-- A frame that finds no buffer is counted in a register of its function. -/
theorem State.streamDirect_steady {f : Nat} (hf : f < 16) (payload rest : List Byte) :
    (s.streamDirect f payload rest).steady = s.steady := by
  have hn : s.get ⟨hqBase f + 0x24, 3, 0⟩ < 16 := Nat.mod_lt _ (Nat.two_pow_pos _)
  unfold State.streamDirect
  generalize s.get ⟨hqBase f + 0x24, 3, 0⟩ = n at hn
  have hinc (hi lo : Nat) : (s.inc ⟨hqBase f + 0x81C + 0x40 * n, hi, lo⟩).steady = s.steady :=
    s.inc_steady (show 0x2800000 ≤ 0x3000000 + f * 0x10000 + 0x81C + 0x40 * n by omega)
      (show 0x3000000 + f * 0x10000 + 0x81C + 0x40 * n < 0x3400000 by omega)
  refine State.ite_steady (hinc 15 0) (State.ite_steady (s.rqWrite_steady ..) ?_)
  exact (State.rqWrite_steady ..).trans (hinc 31 16)

theorem State.deliverMac_steady {f : Nat} (hf : f < 16) (tenant : Nat) (payload rest : List Byte) :
    (s.deliverMac f tenant payload rest).steady = s.steady := by
  refine State.ite_steady (s.streamDirect_steady hf payload rest) ?_
  have hq := (s.enqueue_tasksOnly macQueue macPrio tenant none 0x06 0 payload [] (some rest)).steady
  exact State.ite_steady ((State.dropFull_steady ..).trans hq) hq

theorem State.postMetrics_steady (r : Nat) (stamp : NT64) (status user : Nat) (tb : Bool) (m : Measured) :
    (s.postMetrics r stamp status user tb m).steady = s.steady := by
  refine State.ite_steady rfl (State.deliverMac_steady _ ?_ _ _ _)
  dsimp only
  split
  · exact Nat.mod_lt _ (Nat.two_pow_pos _)
  · decide

theorem State.cutReception_steady (r : Nat) : (s.cutReception r).steady = s.steady :=
  State.ite_steady ((State.postMetrics_steady ..).trans rfl) rfl

/-! ## The front-end and the spatial engine (06 R156, 07 R196) -/

theorem State.checkRef_steady (r : Nat) : (s.checkRef r).steady = s.steady := by
  refine State.ite_steady rfl ?_
  split
  · rfl
  · exact State.ite_steady rfl ((State.foldl_steady fun s d => s.modChain_steady ..).trans rfl)

theorem State.moveTuner_steady (i pos : Nat) : (s.moveTuner i pos).steady = s.steady := by
  unfold State.moveTuner
  extract_lets x s1 s2
  have h2 : s2.steady = s.steady := State.ite_steady (s1.postEvent_steady ..) rfl
  exact State.ite_steady ((s2.postEvent_steady ..).trans h2) h2

theorem State.feSwap_steady (r : Nat) (old : List Nat) (changed : Bool) : (s.feSwap r old changed).steady = s.steady := by
  unfold State.feSwap
  extract_lets new gone s1 s2 s3 s4 s5 s6
  have h1 : s1.steady = s.steady := State.foldl_steady fun s c => s.modChain_steady ..
  have h3 : s3.steady = s.steady := (State.foldl_steady fun s c => State.ite_steady rfl (s.modChain_steady ..)).trans h1
  have h4 : s4.steady = s3.steady := State.foldl_steady fun s c => State.ite_steady rfl <|
    State.ite_steady (State.ite_steady (s.postEvent_steady ..) rfl) (s.moveTuner_steady ..)
  have h5 : s5.steady = s4.steady := State.foldl_steady fun s c => s.modChain_steady ..
  have h6 : s6.steady = s5.steady := State.ite_steady (State.foldl_steady fun s g => s.modSyn_steady ..) rfl
  exact (State.checkRef_steady _ r).trans (h6.trans (h5.trans (h4.trans h3)))

theorem State.explicitCheck_steady (r : Nat) : (s.explicitCheck r).steady = s.steady :=
  State.ite_steady rfl (State.postEvent_steady ..)

theorem State.bbSwap_steady (r : Nat) (old : List Nat) (channel width : Bool) :
    (s.bbSwap r old channel width).steady = s.steady := by
  unfold State.bbSwap
  extract_lets new both upd mac cst s1 s2 s3
  have h2 : s2.steady = s.steady := State.ite_steady (s1.postEvent_steady ..) rfl
  have h3 : s3.steady = s.steady := State.ite_steady ((s2.cutReception_steady r).trans h2) h2
  exact (s3.explicitCheck_steady r).trans h3

theorem State.sendChannel_steady (k r : Nat) (w : Word) (target : Nat) : (s.sendChannel k r w target).steady = s.steady :=
  State.ite_steady rfl rfl

theorem State.shadowTiles_steady (r : Nat) : (s.shadowTiles r).steady = s.steady :=
  State.foldl_steady fun s _ => State.ite_steady (s.sendChannel_steady ..) rfl

theorem State.swapRadio_steady (x : RadioSwap) : (s.swapRadio x).steady = s.steady := by
  unfold State.swapRadio
  extract_lets s1 s2
  have h1 : s1.steady = s.steady := (State.bbSwap_steady ..).trans (s.feSwap_steady ..)
  have h2 : s2.steady = s.steady := State.ite_steady ((s1.shadowTiles_steady x.r).trans h1) h1
  exact State.ite_steady h2 h2

/-! ## Policers, ports, plans and the DRAM's rate (11 R328, 14 R416, 08 R217, 15 R455) -/

theorem State.refill_steady (k : Nat) : (s.refill k).2.steady = s.steady := by
  unfold State.refill
  dsimp only
  split
  · rfl
  · split <;> rfl

theorem State.policerSwap_steady : s.policerSwap.steady = s.steady := by
  refine (State.modPkt_steady _ _).trans (State.foldl_steady fun s e => ?_)
  exact (State.modPkt_steady _ _).trans (s.refill_steady e.1)

theorem State.setLink_steady (sub speed : Nat) : (s.setLink sub speed).steady = s.steady :=
  State.ite_steady rfl (State.postEvent_steady ..)

theorem State.portSwap_steady (p : Nat) (changed : Bool) : (s.portSwap p changed).steady = s.steady :=
  State.ite_steady (State.foldl_steady fun s b => s.setLink_steady b 0) rfl

theorem State.dramRate_steady (slow : Bool) : (s.dramRate slow).steady = s.steady := by
  unfold State.dramRate
  extract_lets s1
  have h1 : s1.steady = s.steady := State.foldl_steady fun s c => State.ite_steady (s.modDch_steady ..) rfl
  clear_value s1
  exact State.ite_steady rfl h1

end Sys2Proof.Machine
end

section
/-! PROOFS. The banks of the commit's units, the strobe and the copies after it (05 R134, R140, R143). -/

namespace Sys2Proof.Machine

/-! ## The registers that a bank lists (R133) -/

theorem Tab.get?_of_not_mem_keys {α : Type} {t : Tab α} {k : Nat} (h : k ∉ Tab.keys t) : Tab.get? t k = none := by
  induction t with
  | nil => rfl
  | cons e t ih =>
    obtain ⟨hk, ht⟩ := not_or.mp (List.mem_cons.not.mp h)
    rw [Tab.get?_cons, if_neg fun he => hk he.symm, ih ht]

theorem State.mem_stagedKeys {s : State} {p : Nat → Bool} {a : Nat} : a ∈ s.stagedKeys p ↔
    (a ∈ Tab.keys s.staged ∨ a ∈ Tab.keys s.regs) ∧ (addrUnits a).any p = true ∧ isStaged a = true := by
  simp [State.stagedKeys, or_and_right]

/-- A staged register that neither bank lists has its reset word in both. -/
theorem State.sreg_eq_reg_of_unlisted {s : State} {p : Nat → Bool} {a : Nat} (hp : (addrUnits a).any p = true)
    (hst : isStaged a = true) (h : a ∉ s.stagedKeys p) : s.sreg a = s.reg a := by
  obtain ⟨hs, hr⟩ := not_or.mp fun hm => h (State.mem_stagedKeys.mpr ⟨hm, hp, hst⟩)
  rw [State.sreg, State.reg, Tab.get?_of_not_mem_keys hs, Tab.get?_of_not_mem_keys hr]

/-! ## A bank copied into the other (R134) -/

theorem State.foldl_setReg_sreg (l : List Nat) (s : State) (a : Nat) :
    (l.foldl (fun s a => s.setReg a (s.sreg a)) s).reg a = if a ∈ l then s.sreg a else s.reg a := by
  induction l generalizing s with
  | nil => rfl
  | cons b l ih =>
    rw [List.foldl_cons, ih, State.sreg_setReg]
    by_cases ha : a = b
    · simp [ha]
    · simp [ha, s.reg_setReg_ne _ ha]

theorem State.foldl_setSreg_reg (l : List Nat) (s : State) (a : Nat) :
    (l.foldl (fun s a => s.setSreg a (s.reg a)) s).sreg a = if a ∈ l then s.reg a else s.sreg a := by
  induction l generalizing s with
  | nil => rfl
  | cons b l ih =>
    rw [List.foldl_cons, ih, State.reg_setSreg]
    by_cases ha : a = b
    · simp [ha]
    · simp [ha, s.sreg_setSreg_ne _ ha]

section
variable (s : State) (p : Nat → Bool) {a : Nat}

/-- The staged registers of the units that pass become active. -/
theorem State.reg_bankToActive (hst : isStaged a = true) (hp : (addrUnits a).any p = true) :
    (s.bankToActive p).reg a = s.sreg a := by
  rw [State.bankToActive, State.foldl_setReg_sreg]
  split
  · rfl
  next h => exact (State.sreg_eq_reg_of_unlisted hp hst h).symm

@[simp] theorem State.bankToActive_pace : (s.bankToActive p).pace = s.pace := State.foldl_pace fun s _ => s.setReg_pace ..

/-- A copy of the active bank touches the staged words and, for the packet path, the staged policers. -/
theorem State.bankToStaged_eq : ∃ w q, s.bankToStaged p = { s with staged := w, pkt := q } := by
  have h (l : List Nat) (s : State) : ∃ w, l.foldl (fun s a => s.setSreg a (s.reg a)) s = { s with staged := w } := by
    refine State.foldl_inv (fun t => ∃ w, t = { s with staged := w }) l _ ?_ s ⟨s.staged, rfl⟩
    rintro _ a ⟨w, rfl⟩
    exact ⟨_, rfl⟩
  obtain ⟨w, hw⟩ := h (s.stagedKeys p) s
  unfold State.bankToStaged
  rw [hw]
  split <;> exact ⟨_, _, rfl⟩

theorem State.sreg_bankToStaged_eq : (s.bankToStaged p).sreg a = if a ∈ s.stagedKeys p then s.reg a else s.sreg a := by
  rw [← State.foldl_setSreg_reg, State.bankToStaged]
  split <;> rfl

/-- The staged registers of the units that pass hold the active words. -/
theorem State.sreg_bankToStaged (hst : isStaged a = true) (hp : (addrUnits a).any p = true) :
    (s.bankToStaged p).sreg a = s.reg a := by
  rw [State.sreg_bankToStaged_eq]
  split
  · rfl
  next h => exact State.sreg_eq_reg_of_unlisted hp hst h

/-- Those of the other units are as they were. -/
theorem State.sreg_bankToStaged_other (hp : (addrUnits a).any p = false) : (s.bankToStaged p).sreg a = s.sreg a := by
  rw [State.sreg_bankToStaged_eq, if_neg fun h => ?_]
  rw [(State.mem_stagedKeys.mp h).2.1] at hp
  cases hp

end

/-! ## The swap (R140) -/

theorem State.settleShapers_eq (s : State) (k : Nat) : ∃ q, s.settleShapers k = { s with pkt := q } := by
  refine State.foldl_inv (fun t => ∃ q, t = { s with pkt := q }) _ _ ?_ s ⟨s.pkt, rfl⟩
  rintro _ j ⟨q, rfl⟩
  exact ⟨_, rfl⟩

/-- What a swap leaves: time, the grid but for the mode and the length, and the words of the bank that becomes active. -/
structure Swapped (s t : State) : Prop where
  time : t.time = s.time
  grid : t.grid = { s.grid with mode := s.commit.newMode, sfLen := s.commit.newLen }
  reg : ∀ a u, u ∈ addrUnits a → isStaged a = true → s.commit.part.getLsbD u = true → t.reg a = s.sreg a

theorem State.swap_swapped (s : State) : Swapped s s.swap := by
  unfold State.swap
  extract_lets c p q radios ports moded mesh s1 s2 grid s3 s4 s5 s6 s7
  have h1 : ∃ k, s1 = { s with pkt := k } := by
    refine State.foldl_inv (fun t => ∃ k, t = { s with pkt := k }) ports _ ?_ s ⟨s.pkt, rfl⟩
    rintro _ i ⟨k, rfl⟩
    exact State.settleShapers_eq _ i
  have h2 : s2.pace = s.pace := by
    obtain ⟨k, hk⟩ := h1
    rw [State.bankToActive_pace, hk]
    rfl
  have h4 : s4.steady = s3.steady := State.ite_steady s3.policerSwap_steady rfl
  have h5 : s5.steady = s4.steady := State.foldl_steady fun s x => s.swapRadio_steady x
  have h6 : s6.steady = s5.steady := State.foldl_steady fun s i => s.portSwap_steady i _
  have h7 : s7.steady = s6.steady := (State.dramRate_steady _ _).trans rfl
  have hend : (if mesh then s7.modMesh fun m => { m with change := true } else s7).steady = s3.steady := by
    refine State.ite_steady ?_ ?_ <;> exact h7.trans (h6.trans (h5.trans h4))
  have hpace := State.pace_of_steady hend
  have htime : s2.time = s.time := State.time_of_pace h2
  refine ⟨(State.time_of_pace hpace).trans htime, (State.grid_of_pace hpace).trans ?_, fun a u hu hst hpart => ?_⟩
  · exact congrArg (fun g : GridSt => { g with mode := c.newMode, sfLen := c.newLen }) (State.grid_of_pace h2)
  · have hq : (addrUnits a).any q = true := List.any_eq_true.mpr ⟨u, hu, by simp [q, c, hpart]⟩
    obtain ⟨k, hk⟩ := h1
    calc _ = s3.reg a := State.reg_of_steady hend (List.ne_nil_of_mem hu)
      _ = s1.sreg a := s1.reg_bankToActive q hst hq
      _ = s.sreg a := by rw [hk]; rfl

/-! ## The strobe (R140, R143) -/

theorem strobe_of_due {s : State} (h : s.strobeDue = true) : ∃ t, strobe_ s = t ∧ t.commit.state = .copying ∧ t.commit.result = 0
    ∧ t.commit.stageOpen = false ∧ t.commit.locked = false ∧ t.commit.last = BitVec.ofNat 64 s.commit.target
    ∧ t.grid = s.swap.grid ∧ (s.commit.kind = .dormantExit → t.dormant.seq = .exit 9)
    ∧ t.time = (s.swap.setTsf s.commit.target).time ∧ ∀ a, addrUnits a ≠ [] → t.reg a = s.swap.reg a := by
  have htsf : ∃ x, s.swap.setTsf s.commit.target = { s.swap with time := x } := by
    unfold State.setTsf
    split <;> exact ⟨_, rfl⟩
  unfold strobe_
  rw [if_neg (by simp [h])]
  extract_lets c s1 commit dormant s2
  have hs := s2.postEvent_steady 0x3001 (items [c.target % 2 ^ 64, Nat.min 3 c.deferrals, c.excluded.toNat])
  have hp := State.pace_of_steady hs
  obtain ⟨x, hx⟩ := htsf
  have hgrid : s1.grid = s.swap.grid := by rw [show s1 = _ from hx]
  have hregs : s1.regs = s.swap.regs := by rw [show s1 = _ from hx]
  refine ⟨_, rfl, ?_⟩
  rw [State.commit_of_pace hp, State.grid_of_pace hp, State.dormant_of_pace hp, State.time_of_pace hp]
  refine ⟨rfl, rfl, rfl, rfl, rfl, hgrid, fun hk => ?_, rfl, fun a ha => ?_⟩
  · simp [s2, c, hk]
  · exact (State.reg_of_steady hs ha).trans (State.reg_of_regs (s := s.swap) hregs a)

theorem strobe_of_not_due {s : State} (h : s.strobeDue = false) : strobe_ s = s := by
  rw [strobe_, if_pos (by simp [h])]

/-- The TSF bases are set once after a start of NT (04 R106). -/
theorem State.setTsf_tsfBase (s : State) (b : Nat) : (s.setTsf b).time.tsfBase = if s.time.tsfSet = true then s.time.tsfBase
    else List.replicate 3 (BitVec.ofNat 64 (b - (((b : Int) - s.grid.phase) % 204800000).toNat)) := by
  unfold State.setTsf
  split <;> rfl

end Sys2Proof.Machine
end

section
/-! PROOFS. The tuner positions that a radio proposes of its own accord once its bank is open, and the end of the copies (05 R134, 06 R158). -/

namespace Sys2Proof.Machine

/-! ## Proposals that wait (06 R158) -/

/-- t has the pace and the units of s, and its staged words but for tuner positions. -/
structure TunersStaged (s t : State) : Prop where
  pace : t.pace = s.pace
  units : t.units = s.units
  sreg : ∀ a, (∀ q c, q < 3 → c < 64 → a ≠ (tunerPos q c).a) → t.sreg a = s.sreg a

theorem TunersStaged.refl (s : State) : TunersStaged s s := ⟨rfl, rfl, fun _ _ => rfl⟩

theorem TunersStaged.trans {s t u : State} (h : TunersStaged s t) (h' : TunersStaged t u) : TunersStaged s u :=
  ⟨h'.pace.trans h.pace, h'.units.trans h.units, fun a ha => (h'.sreg a ha).trans (h.sreg a ha)⟩

theorem State.sreg_of_staged {s t : State} (h : t.staged = s.staged) (a : Nat) : t.sreg a = s.sreg a := by
  rw [State.sreg, h, State.sreg]

variable (s : State)

theorem State.modChain_tunersStaged (i : Nat) (f : ChainSt → ChainSt) : TunersStaged s (s.modChain i f) :=
  ⟨rfl, rfl, fun _ _ => rfl⟩

theorem State.postEvent_tunersStaged (code : Nat) (b : List Byte) : TunersStaged s (s.postEvent code b) :=
  ⟨s.postEvent_pace .., s.postEvent_units .., fun a _ => State.sreg_of_staged (s.postEvent_staged ..) a⟩

theorem State.sput_pace (p : FieldRef) (v : Nat) : (s.sput p v).pace = s.pace := by
  rw [State.pace, State.sput_time, State.sput_grid, State.sput_commit, State.sput_dormant, State.sput_host, State.pace]

theorem State.sput_tunersStaged {r c : Nat} (hr : r < 3) (hc : c < 64) (v : Nat) : TunersStaged s (s.sput (tunerPos r c) v) := by
  refine ⟨s.sput_pace .., s.sput_units .., fun a ha => ?_⟩
  rw [State.sput, s.sreg_setSreg_ne _ (ha r c hr hc)]

theorem State.propose_tunersStaged {r c : Nat} (hr : r < 3) (hc : c < 64) (pos : Nat) : TunersStaged s (s.propose r c pos) := by
  unfold State.propose
  extract_lets i x old
  split
  · exact ((s.sput_tunersStaged hr hc pos).trans (State.modChain_tunersStaged ..)).trans (State.postEvent_tunersStaged ..)
  · exact .refl s

theorem State.chainCount_le (r : Nat) : s.chainCount r ≤ 64 := by
  unfold State.chainCount
  (repeat' split) <;> decide

/-- A radio's proposals are tuner positions of its own. -/
theorem State.stageHeld_tunersStaged : TunersStaged s s.stageHeld := by
  refine List.foldlRecOn [0, 1, 2] _ (.refl s) fun t ht r hr => ht.trans ?_
  have hr : r < 3 := by simp at hr; omega
  split
  · exact .refl t
  · refine List.foldlRecOn (List.range (t.chainCount r)) _ (.refl t) fun u hu c hc => hu.trans ?_
    have hc : c < 64 := (List.mem_range.mp hc).trans_le (t.chainCount_le r)
    split
    · exact (u.modChain_tunersStaged ..).trans (State.propose_tunersStaged _ hr hc _)
    · exact .refl u

/-- No proposal waits. -/
def State.NoneHeld (s : State) : Prop := ∀ i, (s.chain i).heldPos = none

theorem State.noneHeld_of_all {s : State} (h : s.chains.all (fun e => e.2.heldPos.isNone) = true) : s.NoneHeld := by
  intro i
  unfold State.chain Tab.getD
  generalize s.chains = l at h
  induction l with
  | nil => rfl
  | cons e l ih =>
    simp only [List.all_cons, Bool.and_eq_true, Option.isNone_iff_eq_none] at h
    rw [Tab.get?_cons]
    split
    · exact h.1
    · exact ih h.2

/-- Where none waits, nothing is proposed. -/
theorem State.stageHeld_of_noneHeld {s : State} (h : s.NoneHeld) : s.stageHeld = s := by
  refine List.foldlRecOn (motive := fun t => t = s) [0, 1, 2] _ rfl ?_
  rintro t rfl r -
  split
  · rfl
  · refine List.foldlRecOn (motive := fun u => u = t) (List.range (t.chainCount r)) _ rfl ?_
    rintro u rfl c -
    rw [h]

/-! ## The end of the copies (R134, R143) -/

/-- The banks as the copies leave them, before what then is proposed. -/
def State.copiedBanks (s : State) : State :=
  let t := s.bankToStaged fun u => s.commit.part.getLsbD u
  { t with commit := { t.commit with state := .idle, stageOpen := true } }

theorem copied_of_copying {s : State} (h : s.commit.state = .copying) : copied s = s.copiedBanks.stageHeld := by
  rw [copied, if_neg (by simp [h])]
  rfl

theorem State.copiedBanks_eq : ∃ w q, s.copiedBanks
    = { s with staged := w, pkt := q, commit := { s.commit with state := .idle, stageOpen := true } } := by
  obtain ⟨w, q, h⟩ := s.bankToStaged_eq fun u => s.commit.part.getLsbD u
  exact ⟨w, q, by rw [State.copiedBanks, h]⟩

/-- At the end of the copies the staged words are the active ones, but for what is proposed then. -/
theorem copied_keeps {s : State} (h : s.commit.state = .copying) : (copied s).commit.state = .idle ∧ (copied s).commit.stageOpen = true
    ∧ (copied s).grid = s.grid ∧ ∀ a, isStaged a = true → (addrUnits a).any (fun u => s.commit.part.getLsbD u) = true →
      (∀ q c, q < 3 → c < 64 → a ≠ (tunerPos q c).a) → (copied s).sreg a = s.reg a := by
  rw [copied_of_copying h]
  have ht := s.copiedBanks.stageHeld_tunersStaged
  obtain ⟨w, q, heq⟩ := s.copiedBanks_eq
  refine ⟨?_, ?_, ?_, fun a hst hp ha => (ht.sreg a ha).trans (s.sreg_bankToStaged _ hst hp)⟩
  · rw [State.commit_of_pace ht.pace, heq]
  · rw [State.commit_of_pace ht.pace, heq]
  · rw [State.grid_of_pace ht.pace, heq]

/-- Where no proposal waited they are the active ones without exception, and no other word changes. -/
theorem copied_of_noneHeld {s : State} (h : s.commit.state = .copying) (hn : s.NoneHeld) : (copied s).regs = s.regs
    ∧ (∀ a, isStaged a = true → (addrUnits a).any (fun u => s.commit.part.getLsbD u) = true → (copied s).sreg a = s.reg a)
    ∧ ∀ a, (addrUnits a).any (fun u => s.commit.part.getLsbD u) = false → (copied s).sreg a = s.sreg a := by
  obtain ⟨w, q, heq⟩ := s.copiedBanks_eq
  have hc : s.copiedBanks.NoneHeld := by
    rw [heq]
    exact hn
  rw [copied_of_copying h, State.stageHeld_of_noneHeld hc]
  exact ⟨by rw [heq], fun a hst hp => s.sreg_bankToStaged _ hst hp, fun a hp => s.sreg_bankToStaged_other _ hp⟩

end Sys2Proof.Machine
end

section
/-! PROOFS. Arming, and the end of an arming without a commit (05 R135 to R143, 06 R161 to R163). -/

namespace Sys2Proof.Machine

/-! ## What arming asks of the blocks -/

/-- t is s with other power items, radios and tiles. -/
def ArmEffect (s t : State) : Prop := ∃ p r k, t = { s with power := p, radios := r, tiles := k }

theorem ArmEffect.refl (s : State) : ArmEffect s s := ⟨s.power, s.radios, s.tiles, rfl⟩

theorem ArmEffect.trans {s t u : State} : ArmEffect s t → ArmEffect t u → ArmEffect s u := by
  rintro ⟨p, r, k, rfl⟩ ⟨p', r', k', rfl⟩
  exact ⟨_, _, _, rfl⟩

theorem ArmEffect.ite {c : Prop} [Decidable c] {s a b : State} (ha : ArmEffect s a) (hb : ArmEffect s b) :
    ArmEffect s (if c then a else b) := by
  split
  · exact ha
  · exact hb

theorem ArmEffect.foldl {ι : Type} {l : List ι} {g : State → ι → State} (hg : ∀ s i, ArmEffect s (g s i)) (s : State) :
    ArmEffect s (l.foldl g s) :=
  State.foldl_inv (ArmEffect s) l g (fun t i h => h.trans (hg t i)) s (.refl s)

section
variable (s : State)

theorem State.requestItems_armEffect (l : List Nat) : ArmEffect s (s.requestItems l) := by
  obtain ⟨p, hp⟩ := s.requestItems_eq l
  exact ⟨p, _, _, hp⟩

theorem State.modSyn_armEffect (r g : Nat) (f : SynSt → SynSt) : ArmEffect s (s.modSyn r g f) := ⟨_, _, _, rfl⟩

theorem State.tileSend_armEffect (k type : Nat) (payload : List Byte) (mask : Option (LaunchOf × Nat)) :
    ArmEffect s (s.tileSend k type payload mask) := .ite (.refl s) ⟨_, _, _, rfl⟩

theorem State.sendPositions_armEffect (k n : Nat) (pos : Nat → Nat) : ArmEffect s (s.sendPositions k n pos) :=
  .foldl (fun s _ => s.tileSend_armEffect ..) s

theorem State.stageTile_armEffect (r k : Nat) : ArmEffect s (s.stageTile r k) := by
  unfold State.stageTile
  split
  · refine .ite (.refl s) ?_
    extract_lets bound s1 moved s2
    have h1 : ArmEffect s s1 := .ite (s.tileSend_armEffect ..) (.refl s)
    have h2 : ArmEffect s s2 := .ite (h1.trans (s1.sendPositions_armEffect ..)) h1
    exact .ite (h2.trans (s2.tileSend_armEffect ..)) h2
  · exact .refl s

theorem State.prepareRadio_armEffect (r : Nat) : ArmEffect s (s.prepareRadio r) := by
  unfold State.prepareRadio
  extract_lets add s1 s2
  have h1 : ArmEffect s s1 := (s.requestItems_armEffect _).trans ⟨_, _, _, rfl⟩
  have h2 : ArmEffect s1 s2 := .ite (.foldl (fun s g => s.modSyn_armEffect ..) s1) (.refl s1)
  exact (h1.trans h2).trans (.foldl (fun s k => s.stageTile_armEffect r k) s2)

theorem State.stageBound_armEffect (p : BitVec 27) : ArmEffect s (s.stageBound p) := by
  refine .foldl (fun s k => ?_) s
  split
  · exact .ite (s.stageTile_armEffect ..) (.refl s)
  · exact .refl s

/-- A template is staged in the staged words. -/
theorem State.stageTemplates_eq (from_ mode : Nat) : ∃ w, s.stageTemplates from_ mode = { s with staged := w } := by
  have hword (t : State) (a : Nat) (w : Word) : ∃ v, t.setSreg a w = { t with staged := v } := ⟨_, rfl⟩
  have htrans {t u v : State} : (∃ w, u = { t with staged := w }) → (∃ w, v = { u with staged := w }) → ∃ w, v = { t with staged := w } := by
    rintro ⟨w, rfl⟩ ⟨w', rfl⟩
    exact ⟨_, rfl⟩
  unfold State.stageTemplates
  split
  · exact ⟨s.staged, rfl⟩
  refine State.foldl_inv (fun t => ∃ w, t = { s with staged := w }) _ _ (fun t r ht => ?_) s ⟨s.staged, rfl⟩
  split
  · exact ht
  unfold State.stageTemplate
  cases (t.recsOf 0x0603).find? (fun b => fieldLE b 0 1 == r && fieldLE b 1 1 == mode) with
  | none => exact ht
  | some b =>
    refine State.foldl_inv (fun t => ∃ w, t = { s with staged := w }) _ _ (fun t i ht => ?_) t ht
    dsimp only
    split <;> exact htrans (htrans ht (hword _ _ _)) (hword _ _ _)

end

/-- The commit as an arming begins it. -/
structure Armed (kind : CommitKind) (mode len target : Nat) (c : CommitSt) : Prop where
  state : c.state = .arming
  kind : c.kind = kind
  target : c.target = target
  locked : c.locked = true
  armed : c.armed = 0
  deferrals : c.deferrals = 0
  newMode : c.newMode = mode
  newLen : c.newLen = len

/-- An arming changes the commit, the staged templates, and what it asks of the blocks. -/
theorem State.startArming_effect (s : State) (kind : CommitKind) (mode len target : Nat) : ∃ w c, Armed kind mode len target c
    ∧ ArmEffect { s with staged := w, time := { s.time with commitSeen := true }, commit := c }
      (s.startArming kind mode len target) := by
  unfold State.startArming
  extract_lets time0 from_ s1 time commit s2 parts commit3 s3
  obtain ⟨w, h1⟩ : ∃ w, s1 = { s with staged := w } := s.stageTemplates_eq from_ mode
  clear_value parts s1
  subst h1
  exact ⟨w, s3.commit, ⟨rfl, rfl, rfl, rfl, rfl, rfl, rfl, rfl⟩,
    .ite (.refl s3) ((ArmEffect.foldl (fun s r => s.prepareRadio_armEffect r) s3).trans (State.stageBound_armEffect _ parts))⟩

/-! ## The release of an arming (R139, R143, 06 R158, R161) -/

/-- t is s with other power items, radios, chains and tiles; no proposal waits in t that did not wait in s. -/
def ReleaseEffect (s t : State) : Prop :=
  (∃ p r c k, t = { s with power := p, radios := r, chains := c, tiles := k }) ∧ (s.NoneHeld → t.NoneHeld)

theorem ReleaseEffect.refl (s : State) : ReleaseEffect s s := ⟨⟨s.power, s.radios, s.chains, s.tiles, rfl⟩, id⟩

theorem ReleaseEffect.trans {s t u : State} : ReleaseEffect s t → ReleaseEffect t u → ReleaseEffect s u := by
  rintro ⟨⟨p, r, c, k, rfl⟩, h⟩ ⟨⟨p', r', c', k', rfl⟩, h'⟩
  exact ⟨⟨_, _, _, _, rfl⟩, h' ∘ h⟩

theorem ReleaseEffect.foldl {ι : Type} {l : List ι} {g : State → ι → State} (hg : ∀ s i, ReleaseEffect s (g s i)) (s : State) :
    ReleaseEffect s (l.foldl g s) :=
  State.foldl_inv (ReleaseEffect s) l g (fun t i h => h.trans (hg t i)) s (.refl s)

theorem ArmEffect.release {s t : State} : ArmEffect s t → ReleaseEffect s t := by
  rintro ⟨p, r, k, rfl⟩
  exact ⟨⟨_, _, _, _, rfl⟩, id⟩

theorem State.modChain_releaseEffect (s : State) (i : Nat) {f : ChainSt → ChainSt} (hf : ∀ x, (f x).heldPos = x.heldPos) :
    ReleaseEffect s (s.modChain i f) := by
  refine ⟨⟨_, _, _, _, rfl⟩, fun h j => ?_⟩
  by_cases hj : j = i
  · rw [hj, State.chain_modChain, hf, h]
  · rw [State.chain_modChain_ne s f hj, h]

/-- A release lets the radios go, then frees the commit, then takes up the proposals that waited. -/
theorem State.releaseArm_eq (s : State) : ∃ t, ReleaseEffect s t
    ∧ s.releaseArm = { t with commit := { t.commit with state := .idle, locked := false } }.stageHeld := by
  refine ⟨_, .foldl (fun s r => ?_) s, rfl⟩
  extract_lets t s0 s1
  have ht : ReleaseEffect s t := (ArmEffect.ite (.foldl (fun s k => .ite (s.tileSend_armEffect ..) (.refl s)) s) (.refl s)).release
  have h0 : ReleaseEffect t s0 := .foldl (fun s c => s.modChain_releaseEffect _ fun x => by split <;> rfl) t
  exact (ht.trans h0).trans ⟨⟨_, _, _, _, rfl⟩, id⟩

/-- What a release keeps: all but the commit's lock, and the tuner positions that then are proposed. -/
structure Released (s t : State) : Prop where
  commit : t.commit = { s.commit with state := .idle, locked := false }
  grid : t.grid = s.grid
  units : t.units = s.units
  sreg : ∀ a, (∀ q c, q < 3 → c < 64 → a ≠ (tunerPos q c).a) → t.sreg a = s.sreg a
  staged : s.NoneHeld → t.staged = s.staged

theorem Released.of_freed {s u t : State} (h : TunersStaged u t) (hn : s.NoneHeld → t = u)
    (hc : u.commit = { s.commit with state := .idle, locked := false }) (hg : u.grid = s.grid) (hu : u.units = s.units)
    (hs : u.staged = s.staged) : Released s t :=
  ⟨(State.commit_of_pace h.pace).trans hc, (State.grid_of_pace h.pace).trans hg, h.units.trans hu,
    fun a ha => (h.sreg a ha).trans (State.sreg_of_staged hs a), fun hs0 => by rw [hn hs0, hs]⟩

theorem State.releaseArm_released (s : State) : Released s s.releaseArm := by
  obtain ⟨_, ⟨⟨p, r, c, k, rfl⟩, hn⟩, he⟩ := s.releaseArm_eq
  rw [he]
  exact .of_freed (State.stageHeld_tunersStaged _) (fun hs => State.stageHeld_of_noneHeld (hn hs)) rfl rfl rfl rfl

end Sys2Proof.Machine
end

section
/-! PROOFS. GO and CANCEL (05 R131, R135, R143). -/

namespace Sys2Proof.Machine

/-! ## A write of MER_COMMIT (R131) -/

section
variable {s : State} {r : Requester}

theorem commitGo_of_boundary (hm : Mapped s r) (hb : s.inBoundary = true) :
    commitGo_ r s = { s.postEvent 0x3005 (items [0x300024, 0x0F]) with answer := some .done } := by
  rw [commitGo_, State.access_low hm (by decide), if_pos hb, State.stageRefused]

theorem commitCancel_of_boundary (hm : Mapped s r) (hb : s.inBoundary = true) :
    commitCancel_ r s = { s.postEvent 0x3005 (items [0x300024, 0x0F]) with answer := some .done } := by
  rw [commitCancel_, State.access_low hm (by decide), if_pos hb, State.stageRefused]

theorem commitGo_of_outside (hm : Mapped s r) (hb : s.inBoundary = false) :
    exec (.commitGo r) s = answered s.go := by
  refine congrArg Host.Outcome.next ?_
  rw [commitGo_, State.access_low hm (by decide), if_neg (by simp [hb])]

theorem commitCancel_of_outside (hm : Mapped s r) (hb : s.inBoundary = false) :
    exec (.commitCancel r) s = answered s.cancel := by
  refine congrArg Host.Outcome.next ?_
  rw [commitCancel_, State.access_low hm (by decide), if_neg (by simp [hb])]

end

/-! ## The checks of a GO, in their order (R135) -/

/-- A result for the commit's requester. -/
def State.withResult (s : State) (v : Nat) : State := { s with commit := { s.commit with result := v } }

section
variable {s : State}

theorem State.go_of_pending (h : s.commit.state ≠ .idle) :
    s.go = (s.withResult 0x22).postEvent 0x3006 (items [s.commit.target % 2 ^ 64]) := by
  rw [State.go]
  dsimp only
  rw [if_pos (by simpa using h)]
  rfl

variable (hi : s.commit.state = .idle)
include hi

theorem State.go_of_dormant (hd : s.dormantRunning = true) : s.go = s.withResult 0x25 := by
  simp [State.go, hi, hd, State.withResult]

variable (hd : s.dormantRunning = false)
include hd

theorem State.go_of_invalid (hv : s.ntValid = false) : s.go = s.withResult 0x1C := by
  simp [State.go, hi, hd, hv, State.withResult]

variable (hv : s.ntValid = true)
include hv

theorem State.go_of_bad_mode (hm : 4 < s.get ⟨0x300020, 2, 0⟩ ∨ (s.get ⟨0x300020, 2, 0⟩ = 1 ∧ s.get ⟨0x300020, 5, 4⟩ ≠ 0)) :
    s.go = s.withResult 0x02 := by
  have hc : ((decide (4 < s.get ⟨0x300020, 2, 0⟩) || (s.get ⟨0x300020, 2, 0⟩ == 1 && s.get ⟨0x300020, 5, 4⟩ != 0)) = true) := by
    simpa using hm
  simp [State.go, hi, hd, hv, hc, State.withResult]

variable (hm : s.get ⟨0x300020, 2, 0⟩ ≤ 4) (hl : s.get ⟨0x300020, 2, 0⟩ = 1 → s.get ⟨0x300020, 5, 4⟩ = 0)
include hm hl

omit hi hd hv in
theorem State.good_mode : (decide (4 < s.get ⟨0x300020, 2, 0⟩) || (s.get ⟨0x300020, 2, 0⟩ == 1 && s.get ⟨0x300020, 5, 4⟩ != 0)) = false := by
  simp only [Bool.or_eq_false_iff, decide_eq_false_iff_not, Bool.and_eq_false_iff, beq_eq_false_iff_ne, bne_eq_false_iff_eq]
  exact ⟨by omega, Decidable.not_or_of_imp hl⟩

theorem State.go_of_bad_target {v : Nat} (ht : s.goTarget (s.get ⟨0x300020, 5, 4⟩) = .error v) : s.go = s.withResult v := by
  simp [State.go, hi, hd, hv, State.good_mode hm hl, ht, State.withResult]

variable {target : Nat} (ht : s.goTarget (s.get ⟨0x300020, 5, 4⟩) = .ok target)
include ht

theorem State.go_before_run (hr : s.boot.state ≠ .run) : s.go = s.withResult 0x03 := by
  simp [State.go, hi, hd, hv, State.good_mode hm hl, ht, hr, State.withResult]

theorem State.go_of_good (hr : s.boot.state = .run) :
    s.go = s.startArming .host (s.get ⟨0x300020, 2, 0⟩) (s.get ⟨0x300020, 5, 4⟩) target := by
  simp [State.go, hi, hd, hv, State.good_mode hm hl, ht, hr]

end

/-- Orders 5 to 7 of R135 for a target that is given. -/
theorem State.goTarget_of_given {s : State} {len : Nat} {n : Int} (h : s.get64 0x300028 ≠ 0)
    (hn : n = (s.ntNs : Int) + signed 64 (s.get64 0x300028 + 2 ^ 64 - s.nt64.toNat)) :
    s.goTarget len = (if (n - s.grid.phase) % (longer s.grid.sfLen len : Nat) ≠ 0 then .error 0x24
      else if n < s.ntNs + 2000000 then .error 0x04
      else if (s.ntNs : Int) + 2 ^ 34 < n then .error 0x02 else .ok n.toNat) := by
  rw [hn, State.goTarget]
  dsimp only
  rw [if_neg h]

/-! ## CANCEL (R143) -/

theorem State.cancel_of_host {s : State} (ha : s.commit.state = .arming) (hk : s.commit.kind = .host) :
    s.cancel = ((s.withResult 0x23).postEvent 0x3004 (items [s.commit.target % 2 ^ 64])).releaseArm := by
  have hne : (CommitKind.host == CommitKind.dormantEntry) = false := by decide
  simp [State.cancel, State.setCommitResult, State.withResult, ha, hk, hne]

theorem State.cancel_of_other {s : State} (h : s.commit.state ≠ .arming) : s.cancel = s := by
  rw [State.cancel, if_neg (by simp [h])]

/-- A release after an event that tells why. -/
theorem Released.of_told {s t u : State} (h : Released t u) (he : HostEffect s t) : Released s u := by
  obtain ⟨_, _, _, _, rfl⟩ := he
  exact ⟨h.commit, h.grid, h.units, h.sreg, h.staged⟩

/-- Settles O32, from the order of a GO's checks, the arming that it starts and the release of a CANCEL. -/
theorem commitRequests : Obligations.CommitRequests := by
  unfold Obligations.CommitRequests
  refine ⟨fun r s hm hb => ⟨congrArg Host.Outcome.next (commitGo_of_boundary hm hb),
      congrArg Host.Outcome.next (commitCancel_of_boundary hm hb)⟩,
    fun r s hm hb hi => ⟨_, commitGo_of_outside hm hb, ?_⟩,
    fun r s hm hb hi hd => (commitGo_of_outside hm hb).trans (congrArg answered (State.go_of_dormant hi hd)),
    fun r s hm hb hi hd hv => (commitGo_of_outside hm hb).trans (congrArg answered (State.go_of_invalid hi hd hv)),
    fun r s hm hb hi hd hv hmode hlen => ⟨fun v ht => (commitGo_of_outside hm hb).trans (congrArg answered (State.go_of_bad_target hi hd hv hmode hlen ht)),
      fun target hr ht => (commitGo_of_outside hm hb).trans (congrArg answered (State.go_before_run hi hd hv hmode hlen ht hr))⟩,
    fun n len s h hn => State.goTarget_of_given h hn,
    fun r s hm hb hi hd hv hbad => (commitGo_of_outside hm hb).trans (congrArg answered (State.go_of_bad_mode hi hd hv hbad)),
    fun r target s hm hb hi hd hr hv hmode hlen ht => ⟨_, commitGo_of_outside hm hb, ?_⟩,
    fun r s hm hb ha hk => ⟨_, commitCancel_of_outside hm hb, ?_⟩,
    fun r s hm hb ha => (commitCancel_of_outside hm hb).trans (congrArg answered (State.cancel_of_other ha))⟩
  · rw [State.go_of_pending hi]
    exact ⟨State.postEvent_commit .., State.postEvent_staged ..⟩
  · rw [State.go_of_good hi hd hv hmode hlen ht hr]
    obtain ⟨w, c, hc, p, q, k, he⟩ := s.startArming_effect .host (s.get ⟨0x300020, 2, 0⟩) (s.get ⟨0x300020, 5, 4⟩) target
    rw [he]
    exact ⟨hc.state, hc.kind, hc.target, hc.locked, hc.armed, hc.deferrals, hc.newMode, hc.newLen, rfl, rfl, rfl⟩
  · rw [State.cancel_of_host ha hk]
    have h := (State.releaseArm_released _).of_told
      ((s.withResult 0x23).postEvent_effect 0x3004 (items [s.commit.target % 2 ^ 64]) [])
    generalize (((s.withResult 0x23).postEvent 0x3004 (items [s.commit.target % 2 ^ 64]))).releaseArm = t at h ⊢
    exact ⟨congrArg CommitSt.state h.commit, congrArg CommitSt.locked h.commit, congrArg CommitSt.result h.commit, h.sreg,
      fun hn => h.staged (State.noneHeld_of_all hn), h.grid, h.units⟩

end Sys2Proof.Machine
end

section
/-! PROOFS. From the reports of the participants to the outcome of the deadline (05 R137 to R139). -/

namespace Sys2Proof.Machine

/-! ## Reports (R137) -/

theorem bitMap_single {u : Nat} (n : Nat) : bitMap n (· == u) = if u < n then 2 ^ u else 0 := by
  induction n with
  | zero => rfl
  | succ n ih =>
    rw [bitMap, List.range_succ, List.foldl_append]
    rw [bitMap] at ih
    rw [ih]
    by_cases hn : n = u
    · simp [hn]
    · by_cases hu : u < n
      · simp [hn, hu, show u < n + 1 by omega]
      · simp [hn, hu, show ¬u < n + 1 by omega]

/-- The map of one unit. -/
theorem getLsbD_unitMap_single {u v : Nat} (hu : u < 27) (hv : v < 27) : (unitMap 27 (· == u)).getLsbD v = decide (u = v) := by
  rw [unitMap, bitMap_single, if_pos hu, BitVec.getLsbD_ofNat, Nat.testBit_two_pow]
  simp [hv]

/-- What a report changes beside the commit: the events of the checks that failed are posted. -/
structure Reported (u cause : Nat) (s t : State) : Prop where
  armed : ∀ v, v < 27 → t.commit.armed.getLsbD v = (s.commit.armed.getLsbD v || decide (u = v ∧ cause = 0))
  cause : Tab.get? t.commit.causes u = if cause = 0 then none else some cause
  state : t.commit.state = s.commit.state
  staged : t.staged = s.staged
  grid : t.grid = s.grid
  units : t.units = s.units

theorem armReport_of_asked {u : Nat} {busy : Bool} {s : State} (ha : s.commit.state = .arming) (hu : u < 27)
    (hp : s.commit.part.getLsbD u = true) (hn : s.commit.armed.getLsbD u = false) (ht : s.ntNs + 2000000 < s.commit.target)
    (h5 : Tab.get? s.commit.causes u ≠ some 5) : Reported u (s.armCause u busy).1 s (armReport u busy s) := by
  have hasked : ¬(s.commit.state != .arming || decide (27 ≤ u) || !s.commit.part.getLsbD u || s.commit.armed.getLsbD u
      || decide (s.commit.target ≤ s.ntNs + 2000000) || Tab.get? s.commit.causes u == some 5) = true := by
    simp [-BitVec.getLsbD_eq_getElem, ha, hu, hp, hn, ht, h5]
  rw [armReport, if_neg hasked]
  obtain ⟨c, ev⟩ := s.armCause u busy
  dsimp only
  split
  next hc =>
    refine ⟨fun v hv => ?_, ?_, rfl, rfl, rfl, rfl⟩
    · simp [getLsbD_unitMap_single hu hv, hc]
    · simp [hc]
  next hc =>
    obtain ⟨h, r, n, k, he⟩ := HostEffect.foldl (ev.filter fun e => !s.commit.told.contains (toldKey e))
      (fun s e => s.postEvent e.1 e.2) (fun s e => s.postEvent_effect e.1 e.2 []) s
    rw [he]
    exact ⟨fun v _ => by simp [hc], by simp [hc], rfl, rfl, rfl, rfl⟩

/-! ## The next target (R139) -/

theorem State.gridAtOrAfter_ge (s : State) (len n : Nat) : n ≤ s.gridAtOrAfter len n := by
  unfold State.gridAtOrAfter
  dsimp only
  split <;> omega

/-- A move of the target asks the blocks again, and leaves of the commit what the deadline before it decided. -/
theorem State.retarget_effect (s : State) (defers : Nat) : ∃ c, ArmEffect { s with commit := c } (s.retarget defers)
    ∧ s.commit.target < c.target ∧ c.deferrals = defers ∧ c.state = s.commit.state ∧ c.result = s.commit.result
    ∧ c.notArmed = s.commit.notArmed := by
  unfold State.retarget
  extract_lets t commit s1 p a new commit2 s2
  clear_value p a
  refine ⟨s2.commit, ?_, s.gridAtOrAfter_ge _ _, rfl, rfl, rfl, rfl⟩
  exact .ite (.refl s2) (.foldl (fun s r => s.prepareRadio_armEffect r) s2)

/-- What a deferral leaves as it was, and what it says. -/
structure Deferred (s t : State) : Prop where
  state : t.commit.state = s.commit.state
  deferrals : t.commit.deferrals = s.commit.deferrals + 1
  result : t.commit.result = 0x0B
  target : s.commit.target < t.commit.target
  notArmed : t.commit.notArmed = s.commit.notArmed
  staged : t.staged = s.staged
  grid : t.grid = s.grid
  units : t.units = s.units

theorem State.setCommitResult_of_not_entry {s : State} (h : s.commit.kind ≠ .dormantEntry) (v : Nat) :
    s.setCommitResult v = s.withResult v := if_neg (by simp [h])

theorem State.deferCommit_deferred {s : State} (h : s.commit.kind ≠ .dormantEntry) : Deferred s s.deferCommit := by
  unfold State.deferCommit
  extract_lets old s1
  obtain ⟨c, ⟨p, q, k, he⟩, htarget, hdefer, hstate, hresult, hmap⟩ := (s.withResult 0x0B).retarget_effect (s.commit.deferrals + 1)
  have h1 : s1 = _ := (congrArg (fun t : State => t.retarget (s.commit.deferrals + 1)) (State.setCommitResult_of_not_entry h 0x0B)).trans he
  obtain ⟨x, r, n, j, hev⟩ := (s1.inc_effect ⟨0x300050, 15, 0⟩).trans (State.postEvent_effect _ 0x3002
    (items [old % 2 ^ 64, s1.commit.target % 2 ^ 64, s.commit.notArmed.toNat]) [])
  rw [hev, h1]
  exact ⟨hstate, hdefer, hresult, htarget, hmap, rfl, rfl, rfl⟩

/-! ## The deadline (R138, R139) -/

/-- The map of those not armed, as the deadline takes it. -/
def State.atDeadline (s : State) : State :=
  { s with commit := { s.commit with notArmed := s.commit.part &&& ~~~s.commit.armed } }

theorem deadline_of_due {s : State} (ha : s.commit.state = .arming) (hv : s.ntValid = true) (ht : s.commit.target ≤ s.ntNs + 2000000) :
    deadline s = if s.atDeadline.commit.notArmed = 0 && !s.stepArmedFor s.commit.target then s.atDeadline.irrevocable
      else if s.commit.deferrals < 3 then s.atDeadline.deferCommit
      else if s.commit.kind == .boot then s.atDeadline.bootDeadline else s.atDeadline.refuseCommit := by
  have hdue : ¬(s.commit.state != .arming || !s.ntValid || decide (s.ntNs + 2000000 < s.commit.target)) = true := by
    simp [ha, hv, ht]
  rw [deadline, if_neg hdue]
  rfl

theorem State.refuseCommit_of_host {s : State} (h : s.commit.kind = .host) : Released (s.withResult 0x21) s.refuseCommit := by
  unfold State.refuseCommit
  extract_lets s1
  have hk : ¬(s.commit.kind == .dormantExit) = true := by
    rw [h]
    decide
  rw [if_neg hk]
  refine (State.releaseArm_released _).of_told ?_
  rw [State.setCommitResult_of_not_entry (by simp [h])]
  exact (State.inc_effect _ _).trans (State.postEvent_effect _ _ _ _)

/-- A participant outstanding at the deadline keeps the commit from being irrevocable. -/
theorem State.not_settled_of_outstanding {s : State} (h : s.commit.part &&& ~~~s.commit.armed ≠ 0) :
    ¬(decide (s.atDeadline.commit.notArmed = 0) && !s.stepArmedFor s.commit.target) = true := by
  rw [Bool.and_eq_true, decide_eq_true_eq]
  exact fun hzero => h hzero.1

/-- Settles O33, from what a report changes and what the deadline makes of those not armed. -/
theorem commitArming : Obligations.CommitArming := by
  unfold Obligations.CommitArming
  refine ⟨fun u busy s ha hu hp hn ht h5 => ⟨_, rfl, ?_⟩, fun s ha hv ht hall hstep hk => congrArg Host.Outcome.next ?_,
    fun s ha hv ht hsome hdef hk => ⟨_, rfl, ?_⟩, fun s ha hv ht hsome hdef hk => ⟨_, rfl, ?_⟩⟩
  · have h := armReport_of_asked (busy := busy) ha hu hp hn ht h5
    refine ⟨?_, fun v hv hne => ?_, h.cause, h.state.trans ha, h.staged, h.grid, h.units⟩
    · simp [h.armed u hu, hn]
    · simp [h.armed v hv, Ne.symm hne]
  · rw [deadline_of_due ha hv ht, if_pos (by simp [State.atDeadline, hall, hstep]), State.irrevocable]
    dsimp only
    rw [if_neg (by simpa [State.atDeadline] using hk)]
    simp [State.atDeadline, hall]
  · rw [deadline_of_due ha hv ht, if_neg (State.not_settled_of_outstanding hsome), if_pos hdef]
    have h : Deferred s.atDeadline _ := State.deferCommit_deferred hk
    exact ⟨h.state.trans ha, h.deferrals, h.result, h.target, h.staged, h.grid, h.units, h.notArmed⟩
  · have hlast : ¬(s.commit.kind == .boot) = true := by
      rw [hk]
      decide
    rw [deadline_of_due ha hv ht, if_neg (State.not_settled_of_outstanding hsome), if_neg (by omega), if_neg hlast]
    have h : Released (s.atDeadline.withResult 0x21) _ := State.refuseCommit_of_host hk
    generalize s.atDeadline.refuseCommit = t at h ⊢
    exact ⟨congrArg CommitSt.state h.commit, congrArg CommitSt.result h.commit, congrArg CommitSt.locked h.commit, h.sreg,
      fun hn => h.staged (State.noneHeld_of_all hn), h.grid, h.units⟩

end Sys2Proof.Machine
end

section
/-! PROOFS. What each block does at a superframe start leaves the Meridian alone (05 R129, R136). -/

namespace Sys2Proof.Machine

variable (s : State)

/-! ## The blocks -/

@[simp] theorem State.feMeridian_pace : s.feMeridian.pace = s.pace :=
  State.foldl_pace fun s r => State.ite_pace (State.pace_of_steady (s.checkRef_steady r)) rfl

@[simp] theorem State.bbSuperframe_pace : s.bbSuperframe.pace = s.pace := by
  refine State.foldl_pace fun s r => ?_
  extract_lets x s1 s2
  have h1 : s1.pace = s.pace := State.ite_pace rfl (s.postEvent_pace ..)
  have h2 : s2.pace = s.pace := State.ite_pace h1 ((s1.postEvent_pace ..).trans h1)
  exact State.ite_pace h2 h2

@[simp] theorem State.cipherSuperframe_pace : s.cipherSuperframe.pace = s.pace := by simp [State.cipherSuperframe]

@[simp] theorem State.cstSuperframe_pace (start : Nat) : (s.cstSuperframe start).pace = s.pace := by
  unfold State.cstSuperframe
  split
  · exact State.mk_pace ..
  · exact (State.mk_pace ..).trans (s.postEvent_pace ..)

@[simp] theorem State.watchSuperframe_pace (start : Nat) : (s.watchSuperframe start).pace = s.pace := by
  simp [State.watchSuperframe]

@[simp] theorem State.pktSuperframe_pace (start : Nat) : (s.pktSuperframe start).pace = s.pace := by
  simp [State.pktSuperframe]

@[simp] theorem State.dramSuperframe_pace : s.dramSuperframe.pace = s.pace := by simp [State.dramSuperframe]

@[simp] theorem State.rollTasks_pace : s.rollTasks.pace = s.pace := s.rollTasks_tasksOnly.pace

@[simp] theorem State.taskSuperframe_pace : s.taskSuperframe.pace = s.pace := by simp [State.taskSuperframe]

/-! ## Frames of the MAC that end (08 R217, R222) -/

@[simp] theorem State.cmdUnit_pace (fn tag : Nat) (u : Option Nat) : (s.cmdUnit fn tag u).pace = s.pace := by
  simp [State.cmdUnit]

@[simp] theorem State.endFrame_pace (id status : Nat) : (s.endFrame id status).pace = s.pace := by
  unfold State.endFrame
  (repeat' split) <;> simp

@[simp] theorem State.dropAt_pace (id status : Nat) (cnt : FieldRef) : (s.dropAt id status cnt).pace = s.pace := by
  simp [State.dropAt]

@[simp] theorem State.returnFrame_pace (id : Nat) : (s.returnFrame id).pace = s.pace := by
  unfold State.returnFrame
  (repeat' split) <;> simp

@[simp] theorem State.resolvePlans_pace (swapped : Nat → Bool) : (s.resolvePlans swapped).pace = s.pace := State.mk_pace ..

@[simp] theorem State.macSuperframe_pace (start : Nat) : (s.macSuperframe start).pace = s.pace := by
  simp [State.macSuperframe]

theorem State.blockSuperframes_pace (b : Nat) : (s.blockSuperframes b).pace = s.pace := by
  simp [State.blockSuperframes]

/-! ## Units that join (05 R136) -/

@[simp] theorem State.bridgeUp_pace (u : MeshUp) : (s.bridgeUp u).pace = s.pace := s.ingress_pace ..

@[simp] theorem State.drainUp_pace : s.drainUp.pace = s.pace := by simp [State.drainUp]

@[simp] theorem State.enterBridged_pace : s.enterBridged.pace = s.pace := by simp [State.enterBridged]

@[simp] theorem State.meshLink_pace : s.meshLink.pace = s.pace := by
  unfold State.meshLink
  split <;> simp

theorem State.macRejoin_pace (r : Nat) : (s.macRejoin r).pace = s.pace := by simp [State.macRejoin]

theorem State.joinUnit_pace (u : Nat) : (s.joinUnit u).pace = s.pace := by
  unfold State.joinUnit
  extract_lets x up s1
  have h1 : (s1.feSwap u [] false).pace = s.pace := (State.pace_of_steady (s1.feSwap_steady ..)).trans rfl
  exact State.ite_pace rfl (State.ite_pace ((State.macRejoin_pace ..).trans h1) (State.ite_pace (s1.meshLink_pace.trans rfl) rfl))

theorem State.joinAll_pace : s.joinAll.pace = s.pace :=
  State.ite_pace rfl (State.foldl_pace fun s u => s.joinUnit_pace u)

end Sys2Proof.Machine
end
section
/-! PROOFS. The strobe, the copies and the superframe start (05 R129, R134, R140, R143). -/

namespace Sys2Proof.Machine

variable {s : State} {b : Nat}

/-! ## A superframe start at which nothing is armed (04 R117 to R119) -/

/-- No step of NT and no re-anchor waits for a boundary. -/
structure NothingArmed (x : TimeSt) : Prop where
  step : x.stepPending = none
  reanchors : x.reanchors = []
  ready : x.ntReanchorReady = none

theorem State.catchSteps_of_nothingArmed (h : NothingArmed s.time) : s.catchSteps b = s := by
  obtain ⟨hs, hr, -⟩ := h
  have htime : { s.time with stepPending := none, reanchors := [] } = s.time := by rw [← hs, ← hr]
  rw [State.catchSteps, hs, hr]
  exact congrArg (fun x => { s with time := x }) htime

theorem State.deferStep_of_nothingArmed (h : NothingArmed s.time) : s.deferStep b = s := by
  obtain ⟨hs, hr, hn⟩ := h
  have htime : { s.time with stepPending := none, ntReanchorReady := none, reanchors := [] } = s.time := by rw [← hs, ← hr, ← hn]
  rw [State.deferStep, hs, hr, hn]
  exact congrArg (fun x => { s with time := x }) htime

theorem State.applySteps_of_nothingArmed (h : NothingArmed s.time) : s.applySteps b = s := by
  obtain ⟨hs, hr, hn⟩ := h
  simp [State.applySteps, State.startStep, hs, hr, hn]

theorem State.stepArmedFor_of_nothingArmed (h : NothingArmed s.time) : s.stepArmedFor b = false := by
  obtain ⟨hs, hr, -⟩ := h
  simp [State.stepArmedFor, hs, hr]

theorem State.boundarySteps_of_nothingArmed (h : NothingArmed s.time) : s.boundarySteps b = s := by
  rw [State.boundarySteps, State.deferStep_of_nothingArmed h, State.applySteps_of_nothingArmed h, State.stepArmedFor_of_nothingArmed h]
  exact ite_self s

/-- The superframe that starts at b. -/
def State.startedAt (s : State) (b : Nat) : State := { s with grid := { s.grid with start := some b } }

theorem State.begunAt_of_nothingArmed (h : NothingArmed s.time) :
    ((s.startedAt b).catchSteps b).boundarySteps b = s.startedAt b := by
  have ht : NothingArmed (s.startedAt b).time := h
  rw [State.catchSteps_of_nothingArmed ht, State.boundarySteps_of_nothingArmed ht]

/-- The boot commit that a superframe start may arm leaves the grid alone. -/
theorem State.armBoot_grid (s : State) : s.armBoot.grid = s.grid := by
  unfold State.armBoot
  split
  · obtain ⟨w, c, -, p, q, k, he⟩ := s.startArming_effect .boot s.grid.recMode s.grid.sfLen (s.firstTarget s.grid.sfLen)
    rw [he]
  · rfl

/-- A superframe starts at its grid point, in the mode and with the length in force. -/
theorem superframe_grid (hv : s.ntValid = true) (hr : s.realigning = false) (hd : s.strobeDue = false)
    (hstart : s.grid.start ≠ some (s.gridBefore s.sfNs s.ntNs)) (h : NothingArmed s.time) :
    (superframe s).grid = { s.grid with start := some (s.gridBefore s.sfNs s.ntNs) } := by
  have hbegins : ¬(!s.ntValid || s.realigning || s.strobeDue || s.grid.start == some (s.gridBefore s.sfNs s.ntNs)) = true := by
    simp [hv, hr, hd, hstart]
  rw [superframe]
  extract_lets grid s1
  have hs1 : s1 = s.startedAt (s.gridBefore s.sfNs s.ntNs) := State.begunAt_of_nothingArmed h
  rw [if_neg hbegins, hs1]
  change ((s.startedAt _).blockSuperframes _).joinAll.armBoot.grid = (s.startedAt _).grid
  rw [State.armBoot_grid, State.grid_of_pace (State.joinAll_pace _), State.grid_of_pace (State.blockSuperframes_pace ..)]

/-- Settles O34, from what the swap, the copies and a superframe start change. -/
theorem strobeAndCopy : Obligations.StrobeAndCopy := by
  unfold Obligations.StrobeAndCopy
  refine ⟨fun s hdue => ⟨_, rfl, ?_⟩, fun s hdue => congrArg Host.Outcome.next (strobe_of_not_due hdue), fun s hc => ⟨_, rfl, ?_⟩,
    fun s hv hr hd hstart _ hs hre hn => ⟨_, rfl, ?_⟩⟩
  · obtain ⟨_, rfl, hstate, hresult, hopen, hlocked, hlast, hgrid, hexit, htime, hreg⟩ := strobe_of_due hdue
    have hw := s.swap_swapped
    refine ⟨hstate, hresult, hopen, hlocked, hlast, ?_, ?_, ?_, State.fuses_of_lasting (strobe_lasting s), hexit, ?_,
      fun a u _ hu hst hpart => ?_⟩
    · rw [hgrid, hw.grid]
    · rw [hgrid, hw.grid]
    · rw [hgrid, hw.grid]
    · rw [htime, State.setTsf_tsfBase, hw.time, hw.grid]
    · exact (hreg a (List.ne_nil_of_mem hu)).trans (hw.reg a u hu hst hpart)
  · obtain ⟨hstate, hopen, hgrid, hsreg⟩ := copied_keeps hc
    exact ⟨hstate, hopen, hgrid, hsreg, fun hn => copied_of_noneHeld hc (State.noneHeld_of_all hn)⟩
  · have hg := superframe_grid hv hr hd hstart ⟨hs, hre, hn⟩
    exact ⟨by rw [hg], by rw [hg], by rw [hg], State.fuses_of_lasting (superframe_lasting s)⟩

end Sys2Proof.Machine
end

section
/-! PROOFS. What the steps into Dormant stop in the other units, and that it leaves the Meridian alone (05 R147). -/

namespace Sys2Proof.Machine

variable (s : State)

/-! ## Launches, frames and commands that end (06 R167, 08 R230, 13 R393) -/

@[simp] theorem State.cutReception_pace (r : Nat) : (s.cutReception r).pace = s.pace := State.pace_of_steady (s.cutReception_steady r)

@[simp] theorem State.endLaunch_pace (r : Nat) (l : Launch) (status : Nat) : (s.endLaunch r l status).pace = s.pace := by
  unfold State.endLaunch
  extract_lets s1 s2
  have h2 : s2.pace = s.pace := (s1.modRadio_pace ..).trans (State.foldl_pace fun s c => s.modChain_pace ..)
  refine State.ite_pace h2 ?_
  split
  · exact (s2.modPpdu_pace ..).trans h2
  · exact (s2.modRadio_pace ..).trans h2
  · exact h2

@[simp] theorem State.dropOrphans_pace : s.dropOrphans.pace = s.pace := State.mk_pace ..

@[simp] theorem State.clearMac_pace (r : Nat) (onAir : List LaunchOf) : (s.clearMac r onAir).pace = s.pace := by
  simp [State.clearMac]

theorem State.radioOff_pace (r : Nat) : (s.radioOff r).pace = s.pace := by
  unfold State.radioOff
  extract_lets n s1 s2 s3 s4 s5
  have h2 : s2.pace = s.pace := by
    rw [State.clearMac_pace]
    split
    · exact (s1.endLaunch_pace ..).trans (s.cutReception_pace r)
    · exact s.cutReception_pace r
  have h3 : s3.pace = s2.pace := State.foldl_pace fun s c => s.modChain_pace ..
  have h5 : s5.pace = s.pace := (State.powerDown_pace ..).trans ((s3.modRadio_pace ..).trans (h3.trans h2))
  exact State.ite_pace h5 ((s5.setUnit_pace ..).trans h5)

@[simp] theorem State.zeroise_pace (slot : Nat) : (s.zeroise slot).pace = s.pace := by
  unfold State.zeroise
  dsimp only
  split
  · exact State.ite_pace rfl (s.setSlot_pace ..)
  · rfl

@[simp] theorem State.pinGen_pace (slot : Nat) (g : KeyGen) : (s.pinGen slot g).pace = s.pace :=
  State.foldl_pace fun _ _ => State.ite_pace (State.mk_pace ..) rfl

@[simp] theorem State.beginErase_pace (slot fn tag : Nat) : (s.beginErase slot fn tag).pace = s.pace := by
  unfold State.beginErase
  split <;> simp

@[simp] theorem State.nextWaiting_pace (slot : Nat) : (s.nextWaiting slot).pace = s.pace := by
  unfold State.nextWaiting
  dsimp only
  split <;> simp

@[simp] theorem State.dropFlashWork_pace : s.dropFlashWork.pace = s.pace := by
  unfold State.dropFlashWork
  dsimp only
  split <;> simp [State.spoil]

theorem State.dropFnWork_pace (f : Nat) : (s.dropFnWork f).pace = s.pace := by
  unfold State.dropFnWork
  extract_lets gone s1 s2 slots src s3 s4 s5 s6
  have h1 : s1.pace = s.pace := State.foldl_pace fun s r => by
    split
    · exact State.ite_pace ((State.modRadio_pace ..).trans (s.endLaunch_pace ..)) rfl
    · rfl
  have h3 : s3.pace = s.pace := (State.mk_pace ..).trans (s1.dropOrphans_pace.trans h1)
  have h4 : s4.pace = s3.pace := State.foldl_pace fun s k => s.zeroise_pace k
  have h5 : s5.pace = s4.pace := State.foldl_pace fun s k => s.nextWaiting_pace k
  have h6 : s6.pace = s.pace := (s5.modMesh_pace _).trans (h5.trans (h4.trans h3))
  exact State.ite_pace (s6.dropFlashWork_pace.trans h6) h6

/-! ## The steps (R147) -/

theorem State.abortAll_pace : s.abortAll.pace = s.pace := by
  unfold State.abortAll
  extract_lets cs s1 s2
  have h1 : s1.pace = s.pace := State.foldl_pace fun s c => s.complete_pace ..
  have h2 : s2.pace = s1.pace := State.foldl_pace fun s f => s.dropFnWork_pace f
  exact (s2.postEvent_pace ..).trans (h2.trans h1)

theorem State.dropWired_pace : s.dropWired.pace = s.pace :=
  (State.mk_pace ..).trans (State.foldl_pace fun s _ => s.incBy_pace ..)

/-- Closing the bridge changes of the pace the saved clock bit alone. -/
theorem State.closeBridge_pace : ∃ n, s.closeBridge.pace = State.pace { s with dormant := { s.dormant with clocksSaved := n } } := by
  refine ⟨b2n (s.writeCounts.flag (clkEn 15)), (State.meshLink_pace _).trans ?_⟩
  exact congrArg (fun x => (x.1, x.2.1, x.2.2.1, { x.2.2.2.1 with clocksSaved := b2n (s.writeCounts.flag (clkEn 15)) }, x.2.2.2.2))
    s.writeCounts_pace

theorem State.resetFn_pace (f : Nat) : (s.resetFn f).pace = s.pace := by
  unfold State.resetFn
  extract_lets mine ringOf s1 s2
  have h1 : s1.pace = s.pace := (State.dropFnWork_pace _ f).trans rfl
  have h2 : s2.pace = s1.pace := State.foldl_pace fun s w => State.mk_pace ..
  exact (State.mk_host_pace ..).trans (h2.trans h1)

theorem State.flrFn_pace (f : Nat) : (s.flrFn f).pace = s.pace := by
  unfold State.flrFn
  extract_lets gone s1
  have h1 : s1.pace = s.pace := State.foldl_pace fun s g => s.resetFn_pace g
  exact State.ite_pace ((State.mk_host_pace ..).trans h1) h1

/-- Powering off takes of the pace the link alone. -/
theorem State.powerOff_pace : s.powerOff.pace = s.linkDown.pace := by
  unfold State.powerOff
  extract_lets s1 s2 s3 s4
  have h1 : s1.pace = s.linkDown.pace := s.linkDown.flrFn_pace 0
  have h2 : s2.pace = s1.pace := State.foldl_pace fun s b => s.put_pace ..
  have h3 : s3.pace = s2.pace := (State.foldl_pace fun s k => s.modTile_pace ..).trans
    (State.foldl_pace fun s b => State.pace_of_steady (s.setLink_steady b 0))
  have h4 : s4.pace = s3.pace := State.foldl_pace fun s u => s.setUnit_pace ..
  exact (State.mk_pace ..).trans (h4.trans (h3.trans (h2.trans h1)))

/-- The link is down after. -/
theorem State.linkDown_linkUp : s.linkDown.host.linkUp = false := by
  unfold State.linkDown
  split
  · exact State.linkUp_of_pace (State.postEvent_pace ..)
  · next h => exact Bool.eq_false_iff.mpr h

end Sys2Proof.Machine
end

section
/-! PROOFS. ENTER and the steps into Dormant (05 R147, R148). -/

namespace Sys2Proof.Machine

/-! ## A write of MER_DORMANT -/

/-- The fields that a valid write of MER_DORMANT sets. -/
def State.dormantFields (s : State) (v : Word) : State := s.put ⟨0x300060, 12, 1⟩ (bitsOf v.toNat 12 1)

section
variable {s : State} {r : Requester} {v : Word}

theorem dormantEnter_of_valid (hm : Mapped s r) (hd : s.dormantRunning = false) (h5 : bitsOf v.toNat 3 1 ≠ 5)
    (h6 : bitsOf v.toNat 3 1 ≠ 6) : exec (.dormantEnterRequest r v) s
      = answered (if r == .pf && v.getLsbD 0 then (s.dormantFields v).enterDormant else s.dormantFields v) := by
  refine congrArg Host.Outcome.next ?_
  rw [dormantWrite, State.access_low hm (by decide), if_neg (by simp [hd, h5, h6])]
  rfl

theorem dormantEnter_of_invalid (hm : Mapped s r)
    (h : s.dormantRunning = true ∨ bitsOf v.toNat 3 1 = 5 ∨ bitsOf v.toNat 3 1 = 6) :
    exec (.dormantEnterRequest r v) s = answered (s.invalidWrite r 0x300060 v) := by
  refine congrArg Host.Outcome.next ?_
  rw [dormantWrite, State.access_low hm (by decide), if_pos (by simpa [or_assoc] using h)]

/-- The physical function's ENTER. -/
theorem dormantEnter_of_enter (hm : Mapped s .pf) (hd : s.dormantRunning = false) (h5 : bitsOf v.toNat 3 1 ≠ 5)
    (h6 : bitsOf v.toNat 3 1 ≠ 6) (h0 : v.getLsbD 0 = true) :
    exec (.dormantEnterRequest .pf v) s = answered (s.dormantFields v).enterDormant := by
  rw [dormantEnter_of_valid hm hd h5 h6, if_pos (by rw [h0]; rfl)]

end

section
variable (s : State) (v : Word)

/-- WAKE_MT_EN reads as it is written. -/
theorem State.dormantFields_wakeMtEn : (s.dormantFields v).flag ⟨0x300060, 4, 4⟩ = v.getLsbD 4 := by
  rw [State.flag, State.get, State.dormantFields, State.put, State.reg_setReg, bitsOf_bit, testBit_setBits _ _ _ (by decide) (by decide),
    if_pos (by decide), testBit_bitsOf, BitVec.testBit_toNat]
  cases v.getLsbD 4 <;> rfl

theorem State.dormantFields_exit : (s.dormantFields v).get ⟨0x300060, 12, 1⟩ = bitsOf v.toNat 12 1 := by
  rw [State.dormantFields, State.get_put_self s _ (by decide) (by decide)]
  exact Nat.mod_mod_of_dvd _ dvd_rfl

theorem State.dormantFields_reg {a : Nat} (h : a ≠ 0x300060) : (s.dormantFields v).reg a = s.reg a := s.reg_put_ne _ h

theorem State.dormantFields_wakeMtOk : (s.dormantFields v).wakeMtOk = s.wakeMtOk := by
  rw [State.wakeMtOk, State.get64, State.dormantFields_reg _ _ (by decide), State.dormantFields_reg _ _ (by decide)]
  rfl

end

/-! ## The checks of an ENTER, in their order (R147) -/

/-- A result for the request of a Dormant entry. -/
def State.withDormantResult (s : State) (v : Nat) : State := { s with commit := { s.commit with dormantResult := v } }

section
variable {s : State}

theorem State.enterDormant_of_pending (h : s.commit.state ≠ .idle) :
    s.enterDormant = (s.withDormantResult 0x22).postEvent 0x3006 (items [s.commit.target % 2 ^ 64]) := by
  rw [State.enterDormant]
  dsimp only
  rw [if_pos (by simpa using h)]
  rfl

variable (hi : s.commit.state = .idle)
include hi

theorem State.enterDormant_of_failed
    (h : s.ntValid = false ∨ (s.flag ⟨0x300060, 4, 4⟩ = true ∧ s.wakeMtOk = false) ∨ s.boot.state ≠ .run) :
    s.enterDormant = s.withDormantResult
      (if s.ntValid = false then 0x1C else if s.flag ⟨0x300060, 4, 4⟩ = true ∧ s.wakeMtOk = false then 0x02 else 0x03) := by
  by_cases hv : s.ntValid = false
  · simp [State.enterDormant, hi, hv, State.withDormantResult]
  · by_cases hw : s.flag ⟨0x300060, 4, 4⟩ = true ∧ s.wakeMtOk = false
    · simp [State.enterDormant, hi, hv, hw, State.withDormantResult]
    · have hr : s.boot.state ≠ .run := (h.resolve_left hv).resolve_left hw
      simp [State.enterDormant, hi, hv, hw, hr, State.withDormantResult]

theorem State.enterDormant_of_good (hv : s.ntValid = true) (hw : s.flag ⟨0x300060, 4, 4⟩ = true → s.wakeMtOk = true)
    (hr : s.boot.state = .run) :
    s.enterDormant = s.startArming .dormantEntry s.grid.mode s.grid.sfLen (s.firstTarget s.grid.sfLen) := by
  have hwake : ¬(s.flag ⟨0x300060, 4, 4⟩ = true ∧ s.wakeMtOk = false) := fun h => absurd (hw h.1) (by simp [h.2])
  simp [State.enterDormant, hi, hv, hwake, hr]

end

/-! ## The steps of the entry (R147) -/

/-- The entry at another step. -/
def State.atEntry (s : State) (n : Nat) : State := { s with dormant := { s.dormant with seq := .entry n } }

section
variable {s : State} {n : Nat}

theorem entryStepDone_of_entry (h : s.dormant.seq = .entry n) : exec .dormantEntryStepDone s = .next (s.entryStep n) := by
  refine congrArg Host.Outcome.next ?_
  rw [entryStepDone, h]

variable (s)

theorem State.entryStep_two_of_due (h : s.dormant.boundary ≤ s.ntNs) : s.entryStep 2 = s.atB.atEntry 3 := by
  simp [State.entryStep, State.atEntry, Nat.not_lt.mpr h]

theorem State.entryStep_two_of_early (h : s.ntNs < s.dormant.boundary) : s.entryStep 2 = s := by
  simp [State.entryStep, h]

theorem State.entryStep_four : s.entryStep 4 = s.dropWired.atEntry 5 := by simp [State.entryStep, State.atEntry]
theorem State.entryStep_five : s.entryStep 5 = s.closeBridge.atEntry 6 := by simp [State.entryStep, State.atEntry]
theorem State.entryStep_eight : s.entryStep 8 = s.stopTime.atEntry 9 := by simp [State.entryStep, State.atEntry]
theorem State.entryStep_nine : s.entryStep 9 = s.powerOff.atEntry 10 := by simp [State.entryStep, State.atEntry]

theorem State.atB_time : s.atB.time = s.time := by
  unfold State.atB
  extract_lets s1
  have h1 : s1.pace = s.pace := State.foldl_pace fun s r => s.radioOff_pace r
  clear_value s1
  have ht := State.time_of_pace h1
  exact ht

theorem State.closeBridge_time : s.closeBridge.time = s.time := by
  obtain ⟨n, h⟩ := s.closeBridge_pace
  exact congrArg (·.1) h

theorem State.linkDown_time : s.linkDown.time = s.time := by
  unfold State.linkDown
  split
  · exact State.postEvent_time ..
  · rfl

theorem State.powerOff_time : s.powerOff.time = s.time := (State.time_of_pace s.powerOff_pace).trans s.linkDown_time

/-- MT runs on through the entry. -/
theorem State.entryStep_mt (n : Nat) : (s.entryStep n).time.mt = s.time.mt := by
  unfold State.entryStep
  extract_lets to_
  have hto (t : State) (h : t.time = s.time) : (to_ t).time.mt = s.time.mt := congrArg TimeSt.mt h
  have hite {c : Prop} [Decidable c] {a b : State} (ha : a.time.mt = s.time.mt) (hb : b.time.mt = s.time.mt) :
      (if c then a else b).time.mt = s.time.mt := by split <;> assumption
  refine hite rfl (hite (hite rfl (hto _ s.atB_time)) (hite (hto _ (State.time_of_pace s.abortAll_pace)) (hite
    (hto _ (State.time_of_pace s.dropWired_pace)) (hite (hto _ s.closeBridge_time) (hite rfl (hite (hto _ (State.time_of_pace
    (State.foldl_pace fun s c => State.ite_pace (s.modDch_pace ..) rfl))) (hite rfl (hite (hto _ s.powerOff_time) rfl))))))))

/-- Each step but the second before the boundary leads to the next. -/
theorem State.entryStep_seq (h1 : 1 ≤ n) (h9 : n ≤ 9) (h2 : n = 2 → s.dormant.boundary ≤ s.ntNs) :
    (s.entryStep n).dormant.seq = .entry (n + 1) := by
  by_cases hn : n = 2
  · simp [State.entryStep, hn, Nat.not_lt.mpr (h2 hn)]
  · interval_cases n <;> simp [State.entryStep] at hn ⊢

/-- A fold of resets leaves each of its units reset. -/
theorem State.foldl_resetUnit (l : List Nat) {u : Nat} (h : u ∈ l ∨ (s.unit u).phase = .reset) :
    ((l.foldl (fun (s : State) u => s.setUnit u { s.unit u with phase := .reset }) s).unit u).phase = .reset := by
  induction l generalizing s with
  | nil => exact h.resolve_left (List.not_mem_nil)
  | cons v l ih =>
    refine ih _ ?_
    by_cases hv : u = v
    · exact .inr (by rw [hv, State.unit_setUnit])
    · rw [State.unit_setUnit_ne _ _ hv]
      exact h.imp_left fun hm => (List.mem_cons.mp hm).resolve_left hv

theorem State.powerOff_units {u : Nat} (h : u < 25) : (s.powerOff.unit u).phase = .reset := by
  unfold State.powerOff
  extract_lets s1 s2 s3 s4
  have h4 : (s4.unit u).phase = .reset := s3.foldl_resetUnit (List.range 25) (.inl (List.mem_range.mpr h))
  clear_value s4
  exact h4

theorem State.powerOff_up : s.powerOff.power.up = 0 := by
  unfold State.powerOff
  extract_lets s1 s2 s3 s4
  rfl

theorem State.powerOff_linkUp : s.powerOff.host.linkUp = false := (State.linkUp_of_pace s.powerOff_pace).trans s.linkDown_linkUp

theorem State.closeBridge_gated : s.closeBridge.flag (clkSt 15) = false := by
  unfold State.closeBridge
  extract_lets s1 dormant s2
  exact (State.flag_congr (State.meshLink_lowRegs _ _ (clkSt_low 15))).trans ((s2.put (clkEn 15) 0).flag_put_clkSt 15 false)

end

/-- Dormant is reached (R147): DORMANT_REQ is driven where it exists. -/
def State.atDormant (s : State) : State :=
  { s with power := { s.power with dormantReq := s.hasDormantReq }, dormant := { s.dormant with seq := .dormant } }

section
variable {s : State} {n : Nat} (hseq : s.dormant.seq = .entry n) (hn : 10 ≤ n)
include hseq hn

theorem dormantReached_of_unheld (h : s.dormant.heldWake = none) : exec .dormantReached s = .next s.atDormant := by
  refine congrArg Host.Outcome.next ?_
  rw [reachedDormant, hseq]
  dsimp only
  rw [if_neg (by omega)]
  split
  · next c hc => cases h.symm.trans hc
  · rfl

theorem dormantReached_of_held {c : Nat} (h : s.dormant.heldWake = some c) :
    exec .dormantReached s = .next (s.atDormant.startExit c) := by
  refine congrArg Host.Outcome.next ?_
  rw [reachedDormant, hseq]
  dsimp only
  rw [if_neg (by omega)]
  split
  · next d hd =>
    cases h.symm.trans hd
    rfl
  · next hd => cases h.symm.trans hd

end

/-- Settles O35, from the order of an ENTER's checks and from what each step of the entry leaves. -/
theorem dormantEntry : Obligations.DormantEntry := by
  unfold Obligations.DormantEntry
  refine ⟨fun v s hm hd h5 h6 h0 hi hv hw hr => ⟨_, dormantEnter_of_enter hm hd h5 h6 h0, rfl, ?_⟩,
    fun v s hm hd h5 h6 h0 hi hfail => ⟨_, dormantEnter_of_enter hm hd h5 h6 h0, rfl, ?_⟩,
    fun v s hm hd h5 h6 h0 hi => ⟨_, dormantEnter_of_enter hm hd h5 h6 h0, ?_⟩,
    fun r v s hm hr hd h5 h6 => (dormantEnter_of_valid hm hd h5 h6).trans ?_,
    fun r v s hm h => dormantEnter_of_invalid hm h,
    fun n s hseq h1 h9 h2 => ⟨_, entryStepDone_of_entry hseq, s.entryStep_seq h1 h9 h2, ?_⟩,
    fun s hseq hb => (entryStepDone_of_entry hseq).trans (congrArg Host.Outcome.next (s.entryStep_two_of_early hb)),
    fun n s hseq hn hwake => dormantReached_of_unheld hseq hn hwake,
    fun n c s hseq hn hwake => ⟨_, dormantReached_of_held hseq hn hwake, rfl, rfl, rfl, rfl, rfl⟩⟩
  · have hgood := State.enterDormant_of_good (s := s.dormantFields v) hi hv
      (by rwa [State.dormantFields_wakeMtEn, State.dormantFields_wakeMtOk]) hr
    obtain ⟨w, c, hc, p, q, k, he⟩ := (s.dormantFields v).startArming_effect .dormantEntry s.grid.mode s.grid.sfLen
      ((s.dormantFields v).firstTarget s.grid.sfLen)
    rw [hgood.trans he]
    exact ⟨hc.state, hc.kind, hc.newMode, hc.newLen, s.dormantFields_exit v, rfl, fun a ha => s.dormantFields_reg v ha⟩
  · rw [State.enterDormant_of_failed (s := s.dormantFields v) hi
      (by rwa [State.dormantFields_wakeMtEn, State.dormantFields_wakeMtOk]),
      State.dormantFields_wakeMtEn, State.dormantFields_wakeMtOk]
    exact ⟨rfl, rfl, rfl, fun a ha => s.dormantFields_reg v ha⟩
  · rw [State.enterDormant_of_pending (s := s.dormantFields v) hi]
    exact ⟨State.postEvent_commit .., State.postEvent_dormant ..⟩
  · have hno : ¬(r == .pf && v.getLsbD 0) = true := by
      rw [Bool.and_eq_true, beq_iff_eq]
      rintro ⟨hpf, h0⟩
      rcases hr with hr | hr
      · exact hr hpf
      · rw [h0] at hr
        cases hr
    rw [if_neg hno]
    rfl
  · refine ⟨State.fuses_of_lasting (s.entryStep_lasting n), s.entryStep_mt n, ?_, ?_, ?_, ?_, ?_⟩
    · rintro rfl
      rw [s.entryStep_two_of_due (h2 rfl)]
      exact ⟨rfl, rfl, rfl⟩
    · rintro rfl
      rw [s.entryStep_four]
      rfl
    · rintro rfl
      rw [s.entryStep_five]
      exact s.closeBridge_gated
    · rintro rfl
      rw [s.entryStep_eight]
      exact ⟨rfl, rfl⟩
    · rintro rfl
      rw [s.entryStep_nine]
      have h := And.intro s.powerOff_up (And.intro s.powerOff_linkUp fun u => s.powerOff_units (u := u))
      generalize s.powerOff = t at h ⊢
      exact h

end Sys2Proof.Machine
end

section
/-! PROOFS. The wakes and the steps out of Dormant (05 R148, 16 R465). -/

namespace Sys2Proof.Machine

/-! ## Wakes -/

/-- A wake that is held until the entry has ended. -/
def State.withHeldWake (s : State) (cause : Nat) : State := { s with dormant := { s.dormant with heldWake := some cause } }

section
variable {s : State}

theorem State.wake_of_dormant (h : s.dormant.seq = .dormant) (cause : Nat) : s.wake cause = s.startExit cause := by
  rw [State.wake, if_pos (by rw [h]; rfl)]

theorem State.wake_of_entry {n : Nat} (h : s.dormant.seq = .entry n) (cause : Nat) : s.wake cause = s.withHeldWake cause := by
  have hne : (DormantSeq.entry n == DormantSeq.dormant) = false := by simp
  rw [State.wake, if_neg (by rw [h, hne]; decide), State.withHeldWake]

theorem wakeMtReached_of_due (hw : s.wakeable 1 = true) (ht : notEarlier s.mt64.toNat (s.get64 0x300064) = true) :
    exec .wakeMtReached s = .next (s.wake 1) := by
  refine congrArg Host.Outcome.next ?_
  rw [wakeMt, if_pos (by rw [hw, ht]; rfl)]

theorem wakeMtReached_of_not_due (h : s.wakeable 1 = false ∨ notEarlier s.mt64.toNat (s.get64 0x300064) = false) :
    exec .wakeMtReached s = .next s := by
  refine congrArg Host.Outcome.next ?_
  rw [wakeMt, if_neg]
  rwa [Bool.and_eq_true, not_and_or, Bool.not_eq_true, Bool.not_eq_true]

theorem wakeGpioEdge_of_selected (hw : s.wakeable 2 = true) :
    exec (.wakeGpioEdge (s.get ⟨0x300060, 12, 8⟩) (s.flag ⟨0x300060, 7, 7⟩)) s = .next (s.wake 2) := by
  refine congrArg Host.Outcome.next ?_
  rw [wakeGpio, if_pos (by simp [hw])]

theorem wakeGpioEdge_of_other {g : Nat} {level : Bool}
    (h : s.wakeable 2 = false ∨ s.get ⟨0x300060, 12, 8⟩ ≠ g ∨ s.flag ⟨0x300060, 7, 7⟩ ≠ level) :
    exec (.wakeGpioEdge g level) s = .next s := by
  refine congrArg Host.Outcome.next ?_
  rw [wakeGpio, if_neg]
  rwa [Bool.and_eq_true, Bool.and_eq_true, not_and_or, not_and_or, Bool.not_eq_true, beq_iff_eq, beq_iff_eq, or_assoc]

end

/-! ## The steps of the exit (R148) -/

/-- The exit at another step. -/
def State.atExit (s : State) (n : Nat) : State := { s with dormant := { s.dormant with seq := .exit n } }

section
variable {s : State} {n : Nat}

theorem dormantExitStepDone_of_exit (h : s.dormant.seq = .exit n) (tagOk : Bool) :
    exec (.dormantExitStepDone tagOk) s = .next (s.exitStep n tagOk) := by
  refine congrArg Host.Outcome.next ?_
  rw [exitStepDone, h]

/-- The domains are asked for, and the second step runs. -/
theorem State.requestAll_eq (s : State) : ∃ p, s.requestAll = { s.atExit 2 with power := p } := by
  obtain ⟨p, hp⟩ := s.requestItems_eq
    ((0 :: (s.bootBlocks ++ clockBlocks.filter fun b => s.flag (clkEn b)).flatMap blockDomains).eraseDups)
  exact ⟨p, congrArg (fun t : State => t.atExit 2) hp⟩

theorem railRampExpiry_of_due (h : s.dormant.seq = .rampWait) (ht : s.power.rampFrom + 60000 * s.power.railRamp ≤ s.elapsed) :
    exec .railRampExpiry s = .next s.requestAll := by
  refine congrArg Host.Outcome.next ?_
  rw [rampExpires, if_pos (by rw [h, decide_eq_true ht]; rfl)]

variable (s) (tagOk : Bool)

theorem State.exitStep_one_of_ready (h : s.boot.rootReady = true) : (s.exitStep 1 tagOk).dormant.seq
    = (if s.hasDormantReq = true then .rampWait else .exit 2) := by
  obtain ⟨p, hp⟩ := s.requestAll_eq
  by_cases hd : s.hasDormantReq = true
  · simp [State.exitStep, h, hd]
  · simp [State.exitStep, h, hd, hp, State.atExit]

theorem State.exitStep_one_of_not_ready (h : s.boot.rootReady = false) : s.exitStep 1 tagOk = s := by simp [State.exitStep, h]
theorem State.exitStep_two_of_up (h : s.domainsUp = true) : s.exitStep 2 tagOk = s.atExit 3 := by simp [State.exitStep, h, State.atExit]
theorem State.exitStep_two_of_not_up (h : s.domainsUp = false) : s.exitStep 2 tagOk = s := by simp [State.exitStep, h]
theorem State.exitStep_three : s.exitStep 3 tagOk = s.resumeTime.atExit 4 := by simp [State.exitStep, State.atExit]
theorem State.exitStep_five : s.exitStep 5 tagOk = (s.restoreSaved tagOk).atExit 6 := by simp [State.exitStep, State.atExit]
theorem State.exitStep_six : s.exitStep 6 tagOk = s.atExit 7 := by simp [State.exitStep, State.atExit]
theorem State.exitStep_seven : s.exitStep 7 tagOk = (s.atExit 8).exitCommit := by simp [State.exitStep, State.atExit]
theorem State.exitStep_eight : s.exitStep 8 tagOk = s := by simp [State.exitStep]
theorem State.exitStep_nine : s.exitStep 9 tagOk = { s with dormant := { s.dormant with seq := .none } } := by simp [State.exitStep]

theorem State.exitStep_four_of_refreshed (h : ∀ c, c < 4 → (s.dch c).selfRefresh = false) : s.exitStep 4 tagOk = s.atExit 5 := by
  have hall : (List.range 4).all (fun c => !(s.dch c).selfRefresh) = true :=
    List.all_eq_true.mpr fun c hc => by rw [h c (List.mem_range.mp hc)]; rfl
  simp [State.exitStep, hall, State.atExit]

/-! ## NT comes back (04 R115) -/

/-- NT is back, PROVISIONAL and equal to MT, and FR has run on over the bridge. -/
structure Resumed (fr : Nat) (s t : State) : Prop where
  state : t.time.state = .provisional
  nt : t.time.nt.v = s.time.mt.v % (2 ^ 48 * 1000000000 * 2 ^ 48)
  frRuns : t.time.frRuns = true
  bridge : t.dormant.bridge = none
  fr : t.time.fr = fr
  root : t.clocks.onRoot = s.clocks.onRoot.set 4 true

/-- What FR has counted once the bridge hands it back. -/
def State.bridgedFr (s : State) : Nat := s.time.fr + (match s.dormant.bridge with | some b => 5 * (s.elapsed - b) | none => 0)

theorem State.resumeTime_resumed : Resumed s.bridgedFr s s.resumeTime := by
  unfold State.resumeTime
  extract_lets fr dormant time s1
  obtain ⟨h, r, n, k, he⟩ := (((s1.setSource 4 true).setNt s1.time.mt.v).ntStarts).postEvent_effect 0x2007 (items [s.mtNs % 2 ^ 64, 2]) []
  rw [he]
  exact ⟨rfl, rfl, rfl, rfl, rfl, rfl⟩

/-! ## What was saved is back (05 R148) -/

theorem FlashEffect.ite {c : Prop} [Decidable c] {s a b : State} (ha : FlashEffect s a) (hb : FlashEffect s b) :
    FlashEffect s (if c then a else b) := by
  split
  · exact ha
  · exact hb

theorem State.writeCounts_effect : FlashEffect s s.writeCounts :=
  .foldl (fun s _ => .ite (s.queueLogOp_effect _) (.refl s)) s

/-- The staged banks take the active words, and the counts are written, after the key slots and the bridge's clock are back. -/
theorem State.restoreSaved_eq : ∃ t : State, s.restoreSaved tagOk = (t.bankToStaged fun _ => true).writeCounts
    ∧ (s.dormant.clocksSaved = 1 → t.flag (clkEn 15) = true) := by
  unfold State.restoreSaved
  extract_lets held s1 s2
  refine ⟨s2, rfl, fun h => ?_⟩
  have h2 : s2 = s1.put (clkEn 15) 1 := if_pos h
  rw [h2]
  exact s1.flag_put_clkEn 15 true

/-- The counts are written to the log alone. -/
theorem State.restoreSaved_regs : ∃ t : State, (s.restoreSaved tagOk).regs = t.regs ∧ (s.restoreSaved tagOk).staged
    = (t.bankToStaged fun _ => true).staged ∧ (s.dormant.clocksSaved = 1 → t.flag (clkEn 15) = true) := by
  obtain ⟨t, h, hclock⟩ := s.restoreSaved_eq tagOk
  obtain ⟨w, q, hb⟩ := t.bankToStaged_eq (p := fun _ => true)
  obtain ⟨u, l, n, he⟩ := (t.bankToStaged fun _ => true).writeCounts_effect
  refine ⟨t, ?_, by rw [h, he], hclock⟩
  rw [h, he, hb]

theorem State.sreg_restoreSaved {a : Nat} (hst : isStaged a = true) (ha : addrUnits a ≠ []) :
    (s.restoreSaved tagOk).sreg a = (s.restoreSaved tagOk).reg a := by
  obtain ⟨t, hregs, hstaged, -⟩ := s.restoreSaved_regs tagOk
  have hany : (addrUnits a).any (fun _ => true) = true := by
    obtain ⟨u, hu⟩ := List.exists_mem_of_ne_nil _ ha
    exact List.any_eq_true.mpr ⟨u, hu, rfl⟩
  rw [State.sreg_of_staged hstaged, t.sreg_bankToStaged _ hst hany, State.reg_of_regs hregs]

theorem State.restoreSaved_clock (h : s.dormant.clocksSaved = 1) : (s.restoreSaved tagOk).flag (clkEn 15) = true := by
  obtain ⟨t, hregs, -, hclock⟩ := s.restoreSaved_regs tagOk
  exact (State.flag_congr (State.reg_of_regs hregs _)).trans (hclock h)

/-- The commit of the exit is armed. -/
theorem State.exitCommit_effect : ∃ mode len target w c, Armed .dormantExit mode len target c
    ∧ ArmEffect { s with staged := w, time := { s.time with commitSeen := true }, commit := c } s.exitCommit := by
  obtain ⟨w, c, h⟩ := s.startArming_effect .dormantExit _ _ _
  exact ⟨_, _, _, w, c, h⟩

end

/-- Settles O36, from what a wake starts and what each step of the exit leaves. -/
theorem dormantExit : Obligations.DormantExit := by
  unfold Obligations.DormantExit
  refine ⟨fun s hseq hw ht => ⟨s.startExit 1, ?_, rfl, rfl, rfl, rfl, rfl⟩,
    fun g level s hseq hw hg hl => ⟨s.startExit 2, ?_, rfl, rfl, rfl, rfl, rfl⟩,
    fun n s hseq hw ht => (wakeMtReached_of_due hw ht).trans (congrArg Host.Outcome.next (State.wake_of_entry hseq 1)),
    fun n g level s hseq hw hg hl => ?_, fun s h => wakeMtReached_of_not_due h, fun g level s h => wakeGpioEdge_of_other h,
    fun s hseq ht => ⟨_, railRampExpiry_of_due hseq ht, ?_⟩,
    fun tagOk s hseq hroot => ⟨_, dormantExitStepDone_of_exit hseq tagOk, s.exitStep_one_of_ready tagOk hroot⟩,
    fun tagOk s hseq hup => (dormantExitStepDone_of_exit hseq tagOk).trans (congrArg Host.Outcome.next (s.exitStep_two_of_up tagOk hup)),
    fun tagOk s hseq hlen => ⟨_, dormantExitStepDone_of_exit hseq tagOk, ?_⟩,
    fun tagOk s hseq hself => (dormantExitStepDone_of_exit hseq tagOk).trans
      (congrArg Host.Outcome.next (s.exitStep_four_of_refreshed tagOk hself)),
    fun tagOk s hseq => (dormantExitStepDone_of_exit hseq tagOk).trans (congrArg Host.Outcome.next (s.exitStep_six tagOk)),
    fun tagOk s h => ?_, fun tagOk s hseq => ⟨_, dormantExitStepDone_of_exit hseq tagOk, ?_⟩,
    fun tagOk s hseq => ⟨_, dormantExitStepDone_of_exit hseq tagOk, ?_⟩,
    fun tagOk s hseq => (dormantExitStepDone_of_exit hseq tagOk).trans (congrArg Host.Outcome.next (s.exitStep_nine tagOk))⟩
  · rw [wakeMtReached_of_due hw ht, State.wake_of_dormant hseq]
  · rw [← hg, ← hl, wakeGpioEdge_of_selected hw, State.wake_of_dormant hseq]
  · rw [← hg, ← hl, wakeGpioEdge_of_selected hw, State.wake_of_entry hseq]
    rfl
  · obtain ⟨p, hp⟩ := s.requestAll_eq
    rw [hp]
    exact ⟨rfl, rfl, rfl⟩
  · rw [s.exitStep_three tagOk]
    have h := s.resumeTime_resumed
    have hroot : s.resumeTime.clocks.onRoot.getD 4 false = true := by
      simp [h.root, hlen]
    generalize s.resumeTime = t at h hroot ⊢
    exact ⟨rfl, h.state, h.nt, h.frRuns, h.bridge, h.fr, hroot⟩
  · rcases h with hseq | ⟨hseq, hroot⟩ | ⟨hseq, hup⟩
    · exact (dormantExitStepDone_of_exit hseq tagOk).trans (congrArg Host.Outcome.next (s.exitStep_eight tagOk))
    · exact (dormantExitStepDone_of_exit hseq tagOk).trans (congrArg Host.Outcome.next (s.exitStep_one_of_not_ready tagOk hroot))
    · exact (dormantExitStepDone_of_exit hseq tagOk).trans (congrArg Host.Outcome.next (s.exitStep_two_of_not_up tagOk hup))
  · rw [s.exitStep_five tagOk]
    have hbanks (a : Nat) (hst : isStaged a = true) (ha : addrUnits a ≠ []) := s.sreg_restoreSaved tagOk hst ha
    have hclock := s.restoreSaved_clock tagOk
    generalize s.restoreSaved tagOk = t at hbanks hclock ⊢
    exact ⟨rfl, hbanks, hclock⟩
  · rw [s.exitStep_seven tagOk]
    obtain ⟨mode, len, target, w, c, hc, p, q, k, he⟩ := (s.atExit 8).exitCommit_effect
    rw [he]
    exact ⟨rfl, hc.state, hc.kind⟩

end Sys2Proof.Machine
end

section
/-! PROOFS. Changes of several chains, and what leaves the radios and their chains alone (06 R158 to R171). -/

namespace Sys2Proof.Machine

/-! ## Changes of several chains -/

section
variable (s : State) (l : List Nat) (k : Nat → Nat) (F : State → Nat → ChainSt → ChainSt)

/-- Changes of chains touch the chains alone. -/
theorem State.foldl_modChain_eq : ∃ ch, l.foldl (fun s d => s.modChain (k d) (F s d)) s = { s with chains := ch } := by
  induction l generalizing s with
  | nil => exact ⟨s.chains, rfl⟩
  | cons d l ih => exact ih (s.modChain (k d) (F s d))

theorem State.foldl_modChain_regs : (l.foldl (fun s d => s.modChain (k d) (F s d)) s).regs = s.regs := by
  obtain ⟨ch, h⟩ := s.foldl_modChain_eq l k F
  rw [h]

theorem State.foldl_modChain_radio (r : Nat) : (l.foldl (fun s d => s.modChain (k d) (F s d)) s).radio r = s.radio r := by
  obtain ⟨ch, h⟩ := s.foldl_modChain_eq l k F
  rw [h]
  rfl

theorem State.modChain_proj {β : Type} {p : ChainSt → β} {f : ChainSt → ChainSt} (hp : ∀ x, p (f x) = p x) (i j : Nat) :
    p ((s.modChain i f).chain j) = p (s.chain j) := by
  by_cases h : j = i
  · subst h
    rw [State.chain_modChain, hp]
  · rw [s.chain_modChain_ne f h]

/-- What each change keeps of a chain, all of them keep. -/
theorem State.foldl_modChain_proj {β : Type} {p : ChainSt → β} (hp : ∀ s d x, p (F s d x) = p x) (j : Nat) :
    p ((l.foldl (fun s d => s.modChain (k d) (F s d)) s).chain j) = p (s.chain j) :=
  State.foldl_inv (fun t => p (t.chain j) = p (s.chain j)) l _ (fun t d ht => (t.modChain_proj (hp t d) ..).trans ht) s rfl

/-- What each change brings about holds of every chain changed. -/
theorem State.foldl_modChain_mem {Q : ChainSt → Prop} (hQ : ∀ s d x, Q (F s d x)) {c : Nat} (hc : c ∈ l) :
    Q ((l.foldl (fun s d => s.modChain (k d) (F s d)) s).chain (k c)) := by
  have hstep (t : State) (d : Nat) (h : d = c ∨ Q (t.chain (k c))) : Q ((t.modChain (k d) (F t d)).chain (k c)) := by
    by_cases hd : k c = k d
    · rw [hd, State.chain_modChain]
      exact hQ ..
    · rw [t.chain_modChain_ne _ hd]
      exact h.resolve_left fun e => hd (congrArg k e.symm)
  obtain ⟨l₁, l₂, rfl⟩ := List.append_of_mem hc
  rw [List.foldl_append, List.foldl_cons]
  exact State.foldl_inv (fun t => Q (t.chain (k c))) l₂ _ (fun t d ht => hstep t d (.inr ht)) _ (hstep _ c (.inl rfl))

end

/-- Of a radio's chains that are all different each is changed once. -/
theorem State.chain_foldl_own (s : State) {l : List Nat} (hl : l.Nodup) (r : Nat) (f : ChainSt → ChainSt) (c : Nat) :
    (l.foldl (fun s d => s.modChain (chainBase r + d) f) s).chain (chainBase r + c)
      = if c ∈ l then f (s.chain (chainBase r + c)) else s.chain (chainBase r + c) := by
  have hmap : (l.map (chainBase r + ·)).Nodup := hl.map (add_right_injective (chainBase r))
  have h := State.chain_foldl_modChain f hmap s (chainBase r + c)
  rw [List.foldl_map] at h
  simpa using h

theorem State.chainSet_nodup (s : State) (r : Nat) : (s.chainSet r).Nodup := List.nodup_range.filter _

/-- The chain set is read from the registers and the variant alone. -/
theorem State.chainSet_congr {s t : State} (hr : t.regs = s.regs) (hf : t.fuses = s.fuses) (r : Nat) : t.chainSet r = s.chainSet r := by
  unfold State.chainSet State.setOf State.chainCount State.isZ73
  rw [State.reg_of_regs hr, State.reg_of_regs hr, hf]

/-! ## What leaves radios and chains alone -/

/-- t has the radios and the chains of s. -/
structure SameAir (s t : State) : Prop where
  chains : t.chains = s.chains
  radios : t.radios = s.radios

theorem SameAir.refl (s : State) : SameAir s s := ⟨rfl, rfl⟩

theorem SameAir.trans {s t u : State} (h : SameAir s t) (h' : SameAir t u) : SameAir s u :=
  ⟨h'.chains.trans h.chains, h'.radios.trans h.radios⟩

/-- What follows a change of neither radios nor chains. -/
theorem SameAir.after {s t u : State} (h : SameAir t u) (hc : t.chains = s.chains) (hr : t.radios = s.radios) : SameAir s u :=
  SameAir.trans ⟨hc, hr⟩ h

theorem SameAir.ite {c : Prop} [Decidable c] {s a b : State} (ha : SameAir s a) (hb : SameAir s b) : SameAir s (if c then a else b) := by
  split
  · exact ha
  · exact hb

theorem SameAir.foldl {ι : Type} {l : List ι} {g : State → ι → State} (hg : ∀ s i, SameAir s (g s i)) (s : State) :
    SameAir s (l.foldl g s) :=
  State.foldl_inv (SameAir s) l g (fun t i h => h.trans (hg t i)) s (.refl s)

theorem SameAir.chain {s t : State} (h : SameAir s t) (i : Nat) : t.chain i = s.chain i := by
  rw [State.chain, h.chains, State.chain]

theorem SameAir.radio {s t : State} (h : SameAir s t) (r : Nat) : t.radio r = s.radio r := by
  rw [State.radio, h.radios, State.radio]

theorem SameAir.syn {s t : State} (h : SameAir s t) (r g : Nat) : t.syn r g = s.syn r g := by
  rw [State.syn, h.radio, State.syn]

theorem TaskEffect.sameAir {s t : State} : TaskEffect s t → SameAir s t := by
  rintro ⟨h, r, n, k, q, rfl⟩
  exact ⟨rfl, rfl⟩

theorem HostEffect.sameAir {s t : State} (h : HostEffect s t) : SameAir s t := h.taskEffect.sameAir

/-- t is s with other messages to the tiles. -/
def TileEffect (s t : State) : Prop := ∃ k, t = { s with tiles := k }

theorem TileEffect.trans {s t u : State} : TileEffect s t → TileEffect t u → TileEffect s u := by
  rintro ⟨k, rfl⟩ ⟨k', rfl⟩
  exact ⟨_, rfl⟩

theorem TileEffect.foldl {ι : Type} {l : List ι} {g : State → ι → State} (hg : ∀ s i, TileEffect s (g s i)) (s : State) :
    TileEffect s (l.foldl g s) :=
  State.foldl_inv (TileEffect s) l g (fun t i h => h.trans (hg t i)) s ⟨s.tiles, rfl⟩

theorem State.tileSend_effect (s : State) (k type : Nat) (payload : List Byte) (mask : Option (LaunchOf × Nat)) :
    TileEffect s (s.tileSend k type payload mask) := by
  unfold State.tileSend
  split
  · exact ⟨s.tiles, rfl⟩
  · exact ⟨_, rfl⟩

theorem TileEffect.sameAir {s t : State} : TileEffect s t → SameAir s t := by
  rintro ⟨k, rfl⟩
  exact ⟨rfl, rfl⟩

theorem TileEffect.regs {s t : State} : TileEffect s t → t.regs = s.regs := by
  rintro ⟨k, rfl⟩
  rfl

/-! ## Synthesisers (R163) -/

@[simp] theorem State.radio_modSyn (s : State) (r g : Nat) (f : SynSt → SynSt) : (s.modSyn r g f).radio r
    = { s.radio r with syn := Tab.put (s.radio r).syn (dieOf g) (f (s.syn r g)) } := s.radio_modRadio r _

@[simp] theorem State.syn_modSyn (s : State) (r g : Nat) (f : SynSt → SynSt) : (s.modSyn r g f).syn r g = f (s.syn r g) := by
  rw [State.syn, State.radio_modSyn, Tab.getD_put_self]

/-! ## The end of a launch and of a calibration step (R167) -/

section
variable (s : State) (r : Nat)

theorem State.regs_endLaunch (l : Launch) (status : Nat) : (s.endLaunch r l status).regs = s.regs := by
  unfold State.endLaunch
  extract_lets s1 s2
  have h2 : s2.regs = s.regs := State.foldl_modChain_regs ..
  split
  · exact h2
  split <;> exact h2

/-- A planned PPDU whose launch ends with success was sent (07 R192). -/
theorem State.plan_endLaunch {l : Launch} {id : Nat} (h : l.of_ = .plan id) :
    (s.endLaunch r l 0).mac.plan = Tab.upd s.mac.plan id fun p => { p with sent := true } := by
  unfold State.endLaunch
  extract_lets s1 s2
  obtain ⟨ch, h1⟩ : ∃ ch, s1 = { s with chains := ch } := State.foldl_modChain_eq ..
  have h2 : s2.mac = s.mac := by
    unfold s2
    rw [State.modRadio_mac, h1]
  rw [if_neg (by simp), h]
  dsimp only [State.modPpdu]
  rw [h2]

/-- What becomes of the radio: the launch ends with its status. -/
theorem State.radio_endLaunch (l : Launch) (status : Nat) : ∃ tr, (s.endLaunch r l status).radio r = { s.radio r with
    gapFrom := s.ntNs
    launches := (s.radio r).launches.map fun m => if m.of_ = l.of_ then { m with onAir := false, outcome := some status } else m
    trigger := tr } := by
  unfold State.endLaunch
  extract_lets s1 s2
  obtain ⟨ch, h1⟩ : ∃ ch, s1 = { s with chains := ch } := State.foldl_modChain_eq ..
  have h2 : s2.radio r = { s.radio r with
      gapFrom := s.ntNs
      launches := (s.radio r).launches.map fun m => if m.of_ = l.of_ then { m with onAir := false, outcome := some status } else m } := by
    unfold s2
    rw [State.radio_modRadio, h1]
    rfl
  split
  · exact ⟨_, h2⟩
  split
  · exact ⟨_, h2⟩
  · exact ⟨_, by rw [State.radio_modRadio, h2]⟩
  · exact ⟨_, h2⟩

/-- No chain of the launch transmits any more. -/
theorem State.endLaunch_not_tx (l : Launch) (status : Nat) {c : Nat} (hc : c ∈ l.chains) :
    ((s.endLaunch r l status).chain (chainBase r + c)).state ≠ .tx := by
  unfold State.endLaunch
  extract_lets s1 s2
  have h1 : (s1.chain (chainBase r + c)).state ≠ .tx := by
    refine State.foldl_modChain_mem s l.chains (chainBase r + ·) (fun s _ x => if x.state == .tx then
      { x with state := s.restState r, paOff := false } else x) (Q := fun x => x.state ≠ .tx) (fun s d x => ?_) hc
    dsimp only [State.restState]
    split
    · split <;> simp
    next h => simpa using h
  split
  · exact h1
  split <;> exact h1

theorem State.radio_dropCal : (s.dropCal r).radio r = { s.radio r with cal := none } := by
  unfold State.dropCal
  split
  next h => rw [← h]
  next k h =>
    extract_lets s1
    obtain ⟨ch, h1⟩ : ∃ ch, s1 = { s with chains := ch } := State.foldl_modChain_eq ..
    rw [(State.inc_effect _ _).sameAir.radio, State.radio_modRadio, h1]
    rfl

/-! ## The reference chain and the islands (R169, R170) -/

/-- A chain without what reciprocity holds of it. -/
def ChainSt.bare (x : ChainSt) : ChainSt := { x with coef := .one, coefAt := none, pending := false, stale := false, island := false }

/-- The choice of a reference keeps all else of a chain. -/
theorem State.checkRef_bare (i : Nat) : ((s.checkRef r).chain i).bare = (s.chain i).bare := by
  unfold State.checkRef
  extract_lets ok keep
  split
  · rfl
  split
  · rfl
  next c _ =>
    extract_lets s1 valid cr
    split
    · rfl
    · refine State.foldl_modChain_proj s1 _ (chainBase r + ·) _ (p := ChainSt.bare) (fun s d x => ?_) i
      split <;> rfl

/-- Of the radio the choice of a reference changes the reference alone. -/
theorem State.radio_checkRef : ∃ c, (s.checkRef r).radio r = { s.radio r with ref := c } := by
  unfold State.checkRef
  extract_lets ok keep
  split
  · exact ⟨_, rfl⟩
  split
  · exact ⟨_, rfl⟩
  next c _ =>
    extract_lets s1 valid cr
    split
    · exact ⟨_, s.radio_modRadio r _⟩
    · exact ⟨some c, (State.foldl_modChain_radio ..).trans (s.radio_modRadio r _)⟩

/-- A reference that is in the set and not blocked stays. -/
theorem State.checkRef_of_usable {s : State} {r ref : Nat} (h : (s.radio r).ref = some ref) (hs : ref ∈ s.chainSet r)
    (hb : (s.chain (chainBase r + ref)).blocked = false) : s.checkRef r = s := by
  unfold State.checkRef
  rw [if_pos]
  simp [h, hs, hb]

/-- The finding of islands touches chains and the host interface, and of a chain its island bit alone. -/
theorem State.checkIslands_keeps : (s.checkIslands r).radios = s.radios
    ∧ ∀ i, { (s.checkIslands r).chain i with island := false } = { s.chain i with island := false } := by
  unfold State.checkIslands
  split
  · exact ⟨rfl, fun _ => rfl⟩
  extract_lets set links l off new s1
  obtain ⟨ch, h1⟩ : ∃ ch, s1 = { s with chains := ch } := State.foldl_modChain_eq ..
  have hr : s1.radios = s.radios := by rw [h1]
  have hc (i : Nat) : { s1.chain i with island := false } = { s.chain i with island := false } :=
    State.foldl_modChain_proj s set (chainBase r + ·) (fun _ c x => { x with island := off c })
      (p := fun x => { x with island := false }) (fun _ _ _ => rfl) i
  split
  · have h := (s1.postEvent_effect 0x4005 (items [r, bitMap 14 (fun h => (s.groupsOf r set).contains h && !(l.contains h))]) []).sameAir
    exact ⟨h.radios.trans hr, fun i => by rw [h.chain, hc]⟩
  · exact ⟨hr, hc⟩

end

end Sys2Proof.Machine

end

section
/-! PROOFS. The rows of the front-ends: protection, synthesisers, receive windows and calibration (06 R158 to R171). -/

namespace Sys2Proof.Machine

/-! ## Trips and their clear (R159) -/

/-- A chain whose two readings reached TRIP_VSWR. -/
def ChainSt.tripped (x : ChainSt) : ChainSt := { x with blocked := true, paOff := x.state == .tx, clearing := false }

theorem trip_of_tx {i v : Nat} {s : State} (hst : (s.chain i).state = .tx) (hb : (s.chain i).blocked = false)
    (hv : s.get ⟨feBase (chainOf i).1 + 4, 15, 8⟩ ≤ v) :
    trip i v s = (((s.modChain i ChainSt.tripped).inc ⟨feBase (chainOf i).1 + 0x28, 23, 16⟩).postEvent 0x4001
      (items [i, v, s.stamp.toNat])).checkRef (chainOf i).1 := by
  unfold trip
  generalize chainOf i = p at hv ⊢
  exact if_neg (by simp [hst, hb, hv])

/-- A trip blocks its chain, whose state stays, and leaves every other chain's block and state and the radio's launches. -/
theorem trip_blocks {i v : Nat} {s : State} (hst : (s.chain i).state = .tx) (hb : (s.chain i).blocked = false)
    (hv : s.get ⟨feBase (chainOf i).1 + 4, 15, 8⟩ ≤ v) :
    ((trip i v s).chain i).bare = (s.chain i).tripped.bare ∧ (∀ j, j ≠ i → ((trip i v s).chain j).bare = (s.chain j).bare)
      ∧ ((trip i v s).radio (chainOf i).1).launches = (s.radio (chainOf i).1).launches := by
  rw [trip_of_tx hst hb hv]
  have hu := ((State.inc_effect (s.modChain i ChainSt.tripped) ⟨feBase (chainOf i).1 + 0x28, 23, 16⟩).trans
    (State.postEvent_effect _ 0x4001 (items [i, v, s.stamp.toNat]) [])).sameAir
  generalize ((s.modChain i ChainSt.tripped).inc _).postEvent _ _ _ = u at hu ⊢
  obtain ⟨ref, hr⟩ := u.radio_checkRef (chainOf i).1
  refine ⟨?_, fun j hj => ?_, ?_⟩
  · rw [State.checkRef_bare, hu.chain, State.chain_modChain]
  · rw [State.checkRef_bare, hu.chain, s.chain_modChain_ne _ hj]
  · rw [hr, hu.radio]
    rfl

/-- A register of a radio's front-end is clocked with the radio's block (02 R53). -/
theorem clocked_of_fe {s : State} {r n : Nat} (hr : r < 3) (hn : n < 0x100000) (hg : s.gated r = false) : Clocked s (feBase r + n) := by
  intro b hb
  have ha : (feBase r + n - 0x1000000) / 0x100000 = r := by unfold feBase; omega
  rw [gateBlock, if_neg (by unfold feBase; omega), if_pos (by unfold feBase; omega)] at hb
  dsimp only at hb
  rw [if_pos (by unfold feBase; omega), ha, Nat.zero_add] at hb
  cases hb
  exact hg

/-- A one written to FE_x_BLOCKED: the clear of its chain waits for the Meridian. -/
def State.clearBit (r : Nat) (hi : Bool) (v : Word) (s : State) (b : Nat) : State :=
  let i := chainBase r + b + (if hi then 32 else 0)
  if v.getLsbD b && (s.chain i).blocked && (chainOf i).1 == r then
    let s1 := s.modChain i fun x => { x with clearing := true }
    (s1.linksOf r [(chainOf i).2]).foldl (fun s (k, l) => s.tileSend k 0x06 (leBytes 1 (l.headD 0))) s1
  else s

theorem blockClear_of_mapped {q : Requester} {r : Nat} {s : State} (hi : Bool) (v : Word) (hr : r < 3) (hm : Mapped s q)
    (hg : s.gated r = false) :
    blockClear q r hi v s = { (List.range 32).foldl (State.clearBit r hi v) s with answer := some .done } :=
  State.access_of_mapped _ _ hm (clocked_of_fe hr (by split <;> decide) hg)

/-- t has the words of s and its blocks, and every clear that waits in s waits in t. -/
structure ClearsMore (s t : State) : Prop where
  regs : t.regs = s.regs
  blocked : ∀ j, (t.chain j).blocked = (s.chain j).blocked
  clearing : ∀ j, (s.chain j).clearing = true → (t.chain j).clearing = true

theorem ClearsMore.refl (s : State) : ClearsMore s s := ⟨rfl, fun _ => rfl, fun _ => id⟩

theorem ClearsMore.trans {s t u : State} (h : ClearsMore s t) (h' : ClearsMore t u) : ClearsMore s u :=
  ⟨h'.regs.trans h.regs, fun j => (h'.blocked j).trans (h.blocked j), fun j hj => h'.clearing j (h.clearing j hj)⟩

theorem ClearsMore.foldl {ι : Type} {l : List ι} {g : State → ι → State} (hg : ∀ s i, ClearsMore s (g s i)) (s : State) :
    ClearsMore s (l.foldl g s) :=
  State.foldl_inv (ClearsMore s) l g (fun t i h => h.trans (hg t i)) s (.refl s)

/-- A bit of one takes effect on a chain of the radio that is blocked. -/
theorem State.clearBit_of_blocked {r b : Nat} {hi : Bool} {v : Word} {s : State}
    (h : (v.getLsbD b && (s.chain (chainBase r + b + if hi then 32 else 0)).blocked
      && (chainOf (chainBase r + b + if hi then 32 else 0)).1 == r) = true) :
    TileEffect (s.modChain (chainBase r + b + if hi then 32 else 0) fun x => { x with clearing := true }) (State.clearBit r hi v s b) := by
  unfold State.clearBit
  extract_lets i s1
  rw [if_pos h]
  exact TileEffect.foldl (fun t e => t.tileSend_effect ..) s1

theorem State.clearBit_clearsMore (r : Nat) (hi : Bool) (v : Word) (s : State) (b : Nat) : ClearsMore s (State.clearBit r hi v s b) := by
  by_cases h : (v.getLsbD b && (s.chain (chainBase r + b + if hi then 32 else 0)).blocked
      && (chainOf (chainBase r + b + if hi then 32 else 0)).1 == r) = true
  · have ht := State.clearBit_of_blocked h
    refine ⟨ht.regs, fun j => ?_, fun j hj => ?_⟩
    · rw [ht.sameAir.chain]
      exact s.modChain_proj (p := ChainSt.blocked) (f := fun x => { x with clearing := true }) (fun _ => rfl) ..
    · rw [ht.sameAir.chain]
      by_cases hij : j = chainBase r + b + if hi then 32 else 0
      · rw [hij, State.chain_modChain]
      · rwa [s.chain_modChain_ne _ hij]
  · rw [State.clearBit, if_neg h]
    exact .refl s

/-- Of a word of ones written every blocked chain's clear waits. -/
theorem State.foldl_clearBit_clearing {r b : Nat} {hi : Bool} {v : Word} {s : State} {l : List Nat} (hb : b ∈ l) (hv : v.getLsbD b = true)
    (hbl : (s.chain (chainBase r + b + if hi then 32 else 0)).blocked = true)
    (hr : (chainOf (chainBase r + b + if hi then 32 else 0)).1 = r) :
    ((l.foldl (State.clearBit r hi v) s).chain (chainBase r + b + if hi then 32 else 0)).clearing = true := by
  obtain ⟨l₁, l₂, rfl⟩ := List.append_of_mem hb
  rw [List.foldl_append, List.foldl_cons]
  have h₁ := ClearsMore.foldl (l := l₁) (State.clearBit_clearsMore r hi v) s
  refine (ClearsMore.foldl (l := l₂) (State.clearBit_clearsMore r hi v) _).clearing _ ?_
  rw [(State.clearBit_of_blocked (by rw [hv, h₁.blocked, hbl, hr]; simp)).sameAir.chain, State.chain_modChain]

/-- The chain that a bit of FE_x_BLOCKED names is the radio's (R181). -/
theorem chainOf_blockedBit {r b : Nat} {hi : Bool} (hr : r < 3) (hhi : hi = true → r ≠ 0) (hb : b < 32) :
    (chainOf (chainBase r + b + if hi then 32 else 0)).1 = r := by
  have h : (if hi then 32 else 0) ≤ if r = 0 then 0 else 32 := by
    cases hi
    · simp
    · simp [hhi rfl]
  unfold chainOf chainBase
  grind

/-! ## Synthesisers (R162 to R164) -/

theorem syn_synLocks (r g k : Nat) (s : State) : (synLocks r g k s).syn r g = if k = (s.syn r g).active
    then { s.syn r g with locked := true, lockFrom := if (s.syn r g).locked then (s.syn r g).lockFrom else s.elapsed }
    else { s.syn r g with idle := if (s.syn r g).idle = .pretuning ∨ (s.syn r g).idle = .pretuned then .pretuned else .shadow } := by
  rw [synLocks, State.syn_modSyn]
  split
  · rfl
  · cases (s.syn r g).idle <;> rfl

/-- The loss of a lock: the launch that the die fed, if any, ends with BB_TRUNCATED; then the synthesisers change. -/
theorem synLost_of_locked {r g : Nat} {s : State} (h : (s.syn r g).locked = true) :
    ((synLost r g s).syn r g).locked = decide ((s.syn r g).idle = .shadow)
      ∧ ((synLost r g s).syn r g).active = (if (s.syn r g).idle = .shadow then 1 - (s.syn r g).active else (s.syn r g).active)
      ∧ ∀ l, s.onAir r = some l → l.chains.any (fun c => (s.groupOf r c).map dieOf == some (dieOf g)) = true →
          ((synLost r g s).radio r).launches = (s.radio r).launches.map fun m =>
            if m.of_ = l.of_ then { m with onAir := false, outcome := some 0x29 } else m := by
  unfold synLost
  extract_lets x s1 s2 shadow s3
  have h1 : s1.syn r g = x ∧ ∀ l, s.onAir r = some l → l.chains.any (fun c => (s.groupOf r c).map dieOf == some (dieOf g)) = true →
      (s1.radio r).launches = (s.radio r).launches.map fun m =>
        if m.of_ = l.of_ then { m with onAir := false, outcome := some 0x29 } else m := by
    unfold s1
    split
    next l hl =>
      obtain ⟨tr, hrad⟩ := s.radio_endLaunch r l 0x29
      split
      next => exact ⟨by rw [State.syn, hrad]; rfl, fun m hm _ => by rw [hrad]; cases hl.symm.trans hm; rfl⟩
      next hc => exact ⟨rfl, fun m hm hm' => by cases hl.symm.trans hm; exact absurd hm' hc⟩
    next hl => exact ⟨rfl, fun m hm => by cases hl.symm.trans hm⟩
  have h2 : s2.syn r g = s1.syn r g ∧ (s2.radio r).launches = (s1.radio r).launches := by
    have hdrop := s1.radio_dropCal r
    unfold s2
    split
    · split
      · exact ⟨by rw [State.syn, hdrop, State.syn], by rw [hdrop]⟩
      · exact ⟨rfl, rfl⟩
    · exact ⟨rfl, rfl⟩
  have hev := (s3.postEvent_effect 0x4002 (items [r, g, x.active, b2n (!shadow)]) []).sameAir
  have h3 : (s3.syn r g).locked = shadow ∧ (s3.syn r g).active = if shadow then 1 - x.active else x.active := by
    unfold s3
    rw [State.syn_modSyn, h2.1, h1.1]
    cases shadow <;> exact ⟨rfl, rfl⟩
  have hrad : (s3.radio r).launches = (s2.radio r).launches := by
    unfold s3
    rw [State.radio_modSyn]
  rw [if_neg (by simp [x, h]), hev.syn, hev.radio, h3.1, h3.2, hrad, h2.2]
  refine ⟨?_, ?_, h1.2⟩
  · exact beq_eq_decide ..
  · simp [shadow, x]

theorem tileSilent_of_silent {k r b n : Nat} {s : State} (hb : s.bind k = some (r, b, n)) (h : (s.syn r (2 + k)).heard + us 100 ≤ s.elapsed) :
    tileSilent k s = s.modSyn r (2 + k) fun x => { x with locked := false } := by
  rw [tileSilent, hb]
  exact if_pos h

/-! ## Receive windows (R167) -/

/-- A window opens over the chains of the set. -/
theorem rxStart_opens {r : Nat} {s : State} (h : s.inService (.radio r) = true) : ((rxStart r s).radio r).rxOpen = true
    ∧ (rxStart r s).regs = s.regs ∧ ∀ c ∈ s.chainSet r, (rxStart r s).chain (chainBase r + c)
      = if (s.chain (chainBase r + c)).state == .standby && (s.chain (chainBase r + c)).serving
        then { s.chain (chainBase r + c) with state := .rx } else s.chain (chainBase r + c) := by
  rw [rxStart, if_neg (by simp [h])]
  refine ⟨?_, State.foldl_modChain_regs .., fun c hc => ?_⟩
  · rw [State.foldl_modChain_radio, State.radio_modRadio]
  · rw [State.chain_foldl_own _ (s.chainSet_nodup r), if_pos hc]
    rfl

/-- A window ends over the chains of the set. -/
theorem rxEnd_closes (r : Nat) (s : State) : ((rxEnd r s).radio r).rxOpen = false
    ∧ (rxEnd r s).regs = s.regs ∧ ∀ c ∈ s.chainSet r, (rxEnd r s).chain (chainBase r + c)
      = if (s.chain (chainBase r + c)).state == .rx
        then { s.chain (chainBase r + c) with state := .standby } else s.chain (chainBase r + c) := by
  rw [rxEnd]
  refine ⟨?_, State.foldl_modChain_regs .., fun c hc => ?_⟩
  · rw [State.foldl_modChain_radio, State.radio_modRadio]
  · rw [State.chain_foldl_own _ (s.chainSet_nodup r), if_pos hc]
    rfl

end Sys2Proof.Machine

end

section
/-! PROOFS. Sparse tables: the entries that are kept, and a list of entries put one after another. -/

namespace Sys2Proof

variable {α : Type}

theorem Tab.get?_keep {p : Nat → α → Bool} {k : Nat} (h : ∀ v, p k v = true) (t : Tab α) : Tab.get? (Tab.keep t p) k = Tab.get? t k := by
  induction t with
  | nil => rfl
  | cons e t ih =>
    obtain ⟨j, v⟩ := e
    simp only [Tab.keep, List.filter_cons] at ih ⊢
    by_cases hk : j = k
    · simp [hk, h]
    · split <;> simp [ih, hk]

/-- Entries put at keys from b on change no other key. -/
theorem Tab.get?_foldl_put_ne {b k : Nat} {l : List (Nat × α)} (h : ∀ e ∈ l, b + e.1 ≠ k) (t : Tab α) :
    Tab.get? (l.foldl (fun t e => Tab.put t (b + e.1) e.2) t) k = Tab.get? t k := by
  induction l generalizing t with
  | nil => rfl
  | cons e l ih =>
    obtain ⟨he, hl⟩ := List.forall_mem_cons.mp h
    rw [List.foldl_cons, ih hl, Tab.get?_put_ne _ _ (Ne.symm he)]

/-- A key that one of the entries names alone has its value. -/
theorem Tab.get?_foldl_put_unique {b k : Nat} {v : α} {l : List (Nat × α)} (h : l.filter (fun e => e.1 == k) = [(k, v)]) (t : Tab α) :
    Tab.get? (l.foldl (fun t e => Tab.put t (b + e.1) e.2) t) (b + k) = some v := by
  induction l generalizing t with
  | nil => cases h
  | cons e l ih =>
    rw [List.filter_cons] at h
    rw [List.foldl_cons]
    split at h
    · obtain ⟨rfl, hl⟩ := List.cons_eq_cons.mp h
      have hne : ∀ e ∈ l, b + e.1 ≠ b + k := fun e he hk => List.filter_eq_nil_iff.mp hl e he (by simpa using hk)
      rw [Tab.get?_foldl_put_ne hne, Tab.get?_put_self]
    · exact ih h _

end Sys2Proof

end

section
/-! PROOFS. Calibration steps and what they store (06 R158, R167 to R170). -/

namespace Sys2Proof.Machine

/-! ## The start of a step (R168) -/

/-- A step that runs takes its chain away. -/
def ChainSt.calibrating (x : ChainSt) : ChainSt := { x with state := .cal, before := x.state }

/-- A step of one chain that is free, in a gap that is long enough. -/
theorem calStart_of_gap {r kind c : Nat} {s : State} (hk : kind < 5) (hc : c < s.chainCount r) (hcal : (s.radio r).cal = none)
    (hair : s.onAir r = none) (hgap : ∀ x, s.nextBusy r = some x → s.ntNs + 4600 ≤ x ∧ (s.radio r).gapFrom + 12000 ≤ x)
    (hp : (s.chain (chainBase r + c)).powered = true) (hst : (s.chain (chainBase r + c)).state = .standby)
    (hrx : (s.radio r).rx.state = .search) :
    ∃ u, TileEffect (s.modChain (chainBase r + c) ChainSt.calibrating) u
      ∧ calStart r kind c s = u.modRadio r fun x => { x with cal := some ⟨kind, c, s.elapsed⟩ } := by
  unfold calStart
  extract_lets free l gap s1 s2
  have hl : l = [c] := if_neg (by omega)
  have hfree : free c = true := by simp [free, hp, hst]
  have hgap : gap = true := by
    unfold gap
    split
    next t ht => simp [hgap t ht]
    next => rfl
  rw [if_neg (by simp [hl, hfree, hgap, hcal, hair, hrx]; omega)]
  refine ⟨s2, ?_, rfl⟩
  have h1 : s1 = s.modChain (chainBase r + c) ChainSt.calibrating := by
    unfold s1
    rw [hl]
    rfl
  rw [← h1]
  exact TileEffect.foldl (fun t e => TileEffect.foldl (fun t d => t.tileSend_effect ..) t) s1

/-! ## The end of a step -/

/-- A chain that a step took away is back. -/
def ChainSt.returned (x : ChainSt) : ChainSt := if x.state == .cal then { x with state := x.before } else x

/-- The end of a step, before its result is stored: the chains are back, and the run is noted. -/
def State.calEnds (s : State) (r : Nat) (k : CalRun) : State :=
  ((List.range (s.chainCount r)).foldl (fun s c => s.modChain (chainBase r + c) ChainSt.returned)
    (s.modRadio r fun x => { x with cal := none })).modChain (chainBase r + k.chain) fun x =>
      { x with calRuns := Tab.put x.calRuns k.kind (s.elapsed, s.chainTemp r k.chain) }

section
variable (s : State) (r : Nat) (k : CalRun)

theorem State.calEnds_eq : ∃ ch ra, s.calEnds r k = { s with chains := ch, radios := ra } := by
  obtain ⟨ch, h⟩ := State.foldl_modChain_eq (s.modRadio r fun x => { x with cal := none }) (List.range (s.chainCount r))
    (chainBase r + ·) fun _ _ => ChainSt.returned
  rw [State.calEnds, h]
  exact ⟨_, _, rfl⟩

theorem State.radio_calEnds : (s.calEnds r k).radio r = { s.radio r with cal := none } :=
  (State.foldl_modChain_radio ..).trans (s.radio_modRadio r _)

/-- Of a chain the end of a step changes the state and the runs alone. -/
theorem State.calEnds_proj {β : Type} {p : ChainSt → β} (hp : ∀ x st runs, p { x with state := st, calRuns := runs } = p x) (j : Nat) :
    p ((s.calEnds r k).chain j) = p (s.chain j) := by
  refine (State.modChain_proj _ (fun x => hp x x.state _) _ j).trans ((State.foldl_modChain_proj _ _ _ _ (fun _ _ x => ?_) j).trans rfl)
  unfold ChainSt.returned
  split
  · exact hp x x.before x.calRuns
  · rfl

theorem State.calEnds_state {c : Nat} (hc : c < s.chainCount r) :
    ((s.calEnds r k).chain (chainBase r + c)).state = (s.chain (chainBase r + c)).returned.state := by
  refine (State.modChain_proj _ (p := ChainSt.state) ?_ _ _).trans ?_
  · exact fun _ => rfl
  rw [State.chain_foldl_own _ List.nodup_range, if_pos (List.mem_range.mpr hc)]
  rfl

end

/-- A step that stores nothing in the chains. -/
theorem calDone_of_low {r : Nat} {k : CalRun} (res : CalResult) {s : State} (h : (s.radio r).cal = some k) (hk : k.kind < 4) :
    calDone r res s = s.calEnds r k := by
  unfold calDone
  rw [h]
  dsimp only
  rw [if_neg (by omega), if_neg (by omega)]
  rfl

/-! ## A probe of the tuner (R158) -/

/-- t has the radios of s, and its chains but for what is proposed for them. -/
structure SameButProposed (s t : State) : Prop where
  radios : t.radios = s.radios
  vswr : ∀ j, (t.chain j).vswr = (s.chain j).vswr
  high : ∀ j, (t.chain j).high = (s.chain j).high

theorem State.modChain_sameButProposed (s : State) (i : Nat) {f : ChainSt → ChainSt} (hv : ∀ x, (f x).vswr = x.vswr)
    (hh : ∀ x, (f x).high = x.high) : SameButProposed s (s.modChain i f) := ⟨rfl, s.modChain_proj hv i, s.modChain_proj hh i⟩

theorem SameButProposed.trans {s t u : State} (h : SameButProposed s t) (h' : SameButProposed t u) : SameButProposed s u :=
  ⟨h'.radios.trans h.radios, fun j => (h'.vswr j).trans (h.vswr j), fun j => (h'.high j).trans (h.high j)⟩

theorem SameAir.sameButProposed {s t : State} (h : SameAir s t) : SameButProposed s t :=
  ⟨h.radios, fun j => by rw [h.chain], fun j => by rw [h.chain]⟩


theorem State.propose_keeps (s : State) (r c pos : Nat) : SameButProposed s (s.propose r c pos) := by
  unfold State.propose
  extract_lets i x old
  split
  · have hs : SameAir s (s.sput (tunerPos r c) pos) := ⟨s.sput_chains .., s.sput_radios ..⟩
    generalize s.sput (tunerPos r c) pos = t at hs ⊢
    have ht : SameButProposed t (t.modChain i fun x => { x with proposed := true }) :=
      t.modChain_sameButProposed i (fun _ => rfl) fun _ => rfl
    exact (hs.sameButProposed.trans ht).trans (State.postEvent_effect _ _ _ _).sameAir.sameButProposed
  · exact (SameAir.refl s).sameButProposed

/-- What three probes at AUTO_VSWR propose. -/
theorem State.ownRetune_keeps (s : State) (r c newPos newVswr : Nat) : SameButProposed s (s.ownRetune r c newPos newVswr) := by
  unfold State.ownRetune
  split
  · split
    · exact s.propose_keeps r c newPos
    · exact s.modChain_sameButProposed _ (fun _ => rfl) fun _ => rfl
  · exact (SameAir.refl s).sameButProposed

/-- A tuner's probe. -/
def ChainSt.probedTuner (x : ChainSt) (vswr auto : Nat) : ChainSt :=
  { x with vswr := vswr % 256, high := if auto ≤ vswr then x.high + 1 else 0 }

theorem calDone_of_tuner {r : Nat} {k : CalRun} (res : CalResult) {s : State} (h : (s.radio r).cal = some k) (hk : k.kind = 4) :
    calDone r res s = ((s.calEnds r k).modChain (chainBase r + k.chain) fun x =>
      x.probedTuner res.vswr (s.get ⟨feBase r + 4, 23, 16⟩)).ownRetune r k.chain res.newPos res.newVswr := by
  unfold calDone
  rw [h]
  exact if_pos hk

/-- What a tuner's probe stores. -/
theorem calDone_stores_vswr {r : Nat} {k : CalRun} (res : CalResult) {s : State} (h : (s.radio r).cal = some k) (hk : k.kind = 4) :
    ((calDone r res s).radio r).cal = none ∧ ((calDone r res s).chain (chainBase r + k.chain)).vswr = res.vswr % 256
      ∧ ((calDone r res s).chain (chainBase r + k.chain)).high =
        if s.get ⟨feBase r + 4, 23, 16⟩ ≤ res.vswr then (s.chain (chainBase r + k.chain)).high + 1 else 0 := by
  rw [calDone_of_tuner res h hk]
  have ht := State.ownRetune_keeps ((s.calEnds r k).modChain (chainBase r + k.chain) fun x =>
      x.probedTuner res.vswr (s.get ⟨feBase r + 4, 23, 16⟩)) r k.chain res.newPos res.newVswr
  have hhigh : ((s.calEnds r k).chain (chainBase r + k.chain)).high = (s.chain (chainBase r + k.chain)).high :=
    s.calEnds_proj r k (p := ChainSt.high) (fun _ _ _ => rfl) _
  refine ⟨?_, ?_, ?_⟩
  · rw [State.radio, ht.radios]
    exact congrArg RadioSt.cal (s.radio_calEnds r k)
  · rw [ht.vswr, State.chain_modChain]
    rfl
  · rw [ht.high, State.chain_modChain, ← hhigh]
    rfl

/-! ## Probes between the chains (R169, R170) -/

/-- A chain whose coefficient is known anew. -/
def ChainSt.known (x : ChainSt) (c : Coef) (at_ : Nat) : ChainSt := { x with coef := c, coefAt := some at_, pending := false, stale := false }

/-- The chains of a pair with the reference, whose coefficient is 1, once the other's is known. -/
def State.knowPair (s : State) (r ref i : Nat) (c : Coef) (at_ : Nat) : State :=
  (s.modChain (chainBase r + ref) fun x => x.known .one at_).modChain (chainBase r + i) fun x => x.known c at_

/-- The two probes of a pair with the reference give the sender's coefficient, and the reference's is 1. -/
theorem State.probed_of_pair {r i ref : Nat} {a b good : List Nat} {s : State} (hr : (s.radio r).ref = some ref) (hi : i ≠ ref)
    (hg : ref ∈ good) (ha : Tab.get? (s.radio r).probes (i * 64 + ref) = some a)
    (hb : Tab.get? (s.radio r).probes (ref * 64 + i) = some b) :
    s.probed r i good = s.knowPair r ref i (pairCoef a b .one) s.elapsed := by
  simp only [State.probed, hr, if_neg hi, List.contains_eq_mem, hg, hb, decide_true, Option.isSome_some, Bool.and_self, if_pos, ha]
  rfl

/-- The end of a round changes of the radio who has sent in it, and of a chain its island bit. -/
theorem State.roundEnds_keeps (s : State) (r : Nat) : (∃ p, (s.roundEnds r).radio r = { s.radio r with probed := p })
    ∧ ∀ i, { (s.roundEnds r).chain i with island := false } = { s.chain i with island := false } := by
  unfold State.roundEnds
  split
  · obtain ⟨hr, hc⟩ := s.checkIslands_keeps r
    refine ⟨⟨[], ?_⟩, hc⟩
    rw [State.radio_modRadio, State.radio, hr, State.radio]
  · exact ⟨⟨_, rfl⟩, fun _ => rfl⟩

/-- What a probe of chain k.chain notes of the radio: the groups it reached, and what was measured. -/
def State.noteProbe (s : State) (r : Nat) (k : CalRun) (res : CalResult) (groups : List Nat) : State :=
  s.modRadio r fun x =>
    { x with paths := x.paths.filter (fun p => p.1 != k.chain) ++ groups.map (fun h => (k.chain, h))
             probes := (res.good.zip res.h).foldl (fun t e => Tab.put t (k.chain * 64 + e.1) e.2)
               (Tab.keep x.probes fun a _ => a / 64 != k.chain)
             probed := if x.probed.contains k.chain then x.probed else x.probed ++ [k.chain] }

theorem calDone_of_probe {r : Nat} {k : CalRun} (res : CalResult) {s : State} (h : (s.radio r).cal = some k) (hk : k.kind = 5) :
    calDone r res s = ((((s.calEnds r k).noteProbe r k res (s.groupsOf r res.good)).checkRef r).probed r k.chain res.good).roundEnds r := by
  unfold calDone
  rw [h]
  dsimp only
  rw [if_neg (by omega), if_pos hk]
  rfl

/-- The step that ends is the probe of another chain than the reference, which is usable, heard it and has sent its own. -/
structure PairStep (r ref : Nat) (a b : List Nat) (k : CalRun) (res : CalResult) (s : State) : Prop where
  cal : (s.radio r).cal = some k
  kind : k.kind = 5
  isRef : (s.radio r).ref = some ref
  inSet : ref ∈ s.chainSet r
  free : (s.chain (chainBase r + ref)).blocked = false
  ref_lt : ref < 64
  chain_lt : k.chain < 64
  other : k.chain ≠ ref
  good_lt : ∀ x ∈ res.good, x < 64
  heard : (res.good.zip res.h).filter (fun e => e.1 == ref) = [(ref, a)]
  sent : Tab.get? (s.radio r).probes (ref * 64 + k.chain) = some b

/-- The probe that answers the reference's: the reference's coefficient is 1, the sender's that of the pair. -/
theorem calDone_of_pair {r ref : Nat} {a b : List Nat} {k : CalRun} {res : CalResult} {s : State} (h : PairStep r ref a b k res s) :
    ∃ u : State, calDone r res s = (u.knowPair r ref k.chain (pairCoef a b .one) s.elapsed).roundEnds r ∧ (u.radio r).cal = none := by
  rw [calDone_of_probe res h.cal h.kind]
  generalize s.groupsOf r res.good = groups
  have hrad : ((s.calEnds r k).noteProbe r k res groups).radio r = _ := State.radio_modRadio ..
  obtain ⟨ch, ra, he⟩ : ∃ ch ra, (s.calEnds r k).noteProbe r k res groups = { s with chains := ch, radios := ra } := by
    obtain ⟨ch, ra, he⟩ := s.calEnds_eq r k
    rw [he]
    exact ⟨ch, _, rfl⟩
  have hblocked : (((s.calEnds r k).noteProbe r k res groups).chain (chainBase r + ref)).blocked = false :=
    (s.calEnds_proj r k (p := ChainSt.blocked) (fun _ _ _ => rfl) _).trans h.free
  have hsets : ((s.calEnds r k).noteProbe r k res groups).chainSet r = s.chainSet r := State.chainSet_congr (by rw [he]) (by rw [he]) r
  have hel : ((s.calEnds r k).noteProbe r k res groups).elapsed = s.elapsed := by rw [he]
  generalize (s.calEnds r k).noteProbe r k res groups = u at hrad hblocked hsets hel
  rw [State.radio_calEnds] at hrad
  have huref : (u.radio r).ref = some ref := by rw [hrad, h.isRef]
  have hmem (e : Nat × List Nat) (he : e ∈ res.good.zip res.h) : e.1 ∈ res.good := (List.of_mem_zip he).1
  have hin : ref ∈ res.good := hmem (ref, a) (List.mem_filter.mp (h.heard ▸ List.mem_singleton_self _)).1
  have hua : Tab.get? (u.radio r).probes (k.chain * 64 + ref) = some a := by
    rw [hrad]
    exact Tab.get?_foldl_put_unique h.heard _
  have hlt := h.chain_lt
  have hne := h.other
  have hub : Tab.get? (u.radio r).probes (ref * 64 + k.chain) = some b := by
    rw [hrad]
    refine (Tab.get?_foldl_put_ne (fun e he => ?_) _).trans ((Tab.get?_keep (fun _ => ?_) _).trans h.sent)
    · have := h.good_lt _ (hmem e he)
      omega
    · have : (ref * 64 + k.chain) / 64 = ref := by omega
      simp [this, hne.symm]
  refine ⟨u, ?_, by rw [hrad]⟩
  rw [State.checkRef_of_usable huref (hsets ▸ h.inSet) hblocked, State.probed_of_pair huref hne hin hua hub, hel]

/-- What is known of a pair outlasts the end of the round. -/
theorem State.knowPair_roundEnds (u : State) {r ref i : Nat} (c : Coef) (at_ : Nat) (hne : i ≠ ref) :
    (((u.knowPair r ref i c at_).roundEnds r).radio r).cal = (u.radio r).cal
      ∧ (((u.knowPair r ref i c at_).roundEnds r).chain (chainBase r + ref)).coef = .one
      ∧ (((u.knowPair r ref i c at_).roundEnds r).chain (chainBase r + i)).coef = c
      ∧ (((u.knowPair r ref i c at_).roundEnds r).chain (chainBase r + i)).coefAt = some at_
      ∧ (((u.knowPair r ref i c at_).roundEnds r).chain (chainBase r + i)).pending = false := by
  have href : (u.knowPair r ref i c at_).chain (chainBase r + ref) = (u.chain (chainBase r + ref)).known .one at_ := by
    rw [State.knowPair, State.chain_modChain_ne _ _ (by omega), State.chain_modChain]
  have hi : (u.knowPair r ref i c at_).chain (chainBase r + i) = ChainSt.known _ c at_ := State.chain_modChain ..
  obtain ⟨⟨p, hr⟩, hc⟩ := (u.knowPair r ref i c at_).roundEnds_keeps r
  have hcref := hc (chainBase r + ref)
  have hci := hc (chainBase r + i)
  rw [href] at hcref
  rw [hi] at hci
  have hcal := congrArg RadioSt.cal hr
  have hone := congrArg ChainSt.coef hcref
  have hcoef := congrArg ChainSt.coef hci
  have hat := congrArg ChainSt.coefAt hci
  have hpend := congrArg ChainSt.pending hci
  exact ⟨hcal, hone, hcoef, hat, hpend⟩

theorem coefStale_of_old {i at_ : Nat} {s : State} (hs : (s.chain i).serving = true) (hat : (s.chain i).coefAt = some at_)
    (hold : at_ + ms 2000 < s.elapsed) (hp : (s.chain i).pending = false) (hn : (s.chain i).stale = false) :
    coefStale i s = (s.modChain i fun x => { x with stale := true }).postEvent 0x4006 (items [i]) := by
  have hf : s.coefFresh i = false := by simp [State.coefFresh, hat, hold]
  exact if_neg (by simp [hs, hat, hp, hn, hf])

/-- Settles O43, row by row, from what each leaves of the chains and of the radio. -/
theorem frontEndChains : Obligations.FrontEndChains := by
  refine ⟨fun i v s _ hst hb hv => ?_, fun q r hi v s hr hhi hm hg => ?_, fun r g k s => ?_, fun r g s h => ?_,
    fun k r b n s hb h => congrArg Host.Outcome.next (tileSilent_of_silent hb h), fun r s h => ?_, fun r s => ?_,
    fun r kind c s hk hc hcal hair hgap hp hst hrx => ?_, fun r k res s hcal hk => ?_,
    fun r ref a b k res s hcal hk href hset hbl hr64 hk64 hne hgood hz hb => ?_,
    fun r k res s hcal hk => ⟨_, rfl, calDone_stores_vswr res hcal hk⟩,
    fun i at_ s hs hat hold hp hn => congrArg Host.Outcome.next (coefStale_of_old hs hat hold hp hn)⟩
  · obtain ⟨hi, hj, hl⟩ := trip_blocks hst hb hv
    have hblocked := congrArg ChainSt.blocked hi
    have hpa := congrArg ChainSt.paOff hi
    have hstate := congrArg ChainSt.state hi
    refine ⟨_, rfl, hblocked, hpa.trans ?_, hstate.trans hst, fun j hne => ?_, hl⟩
    · simp [ChainSt.bare, ChainSt.tripped, hst]
    · have hbj := congrArg ChainSt.blocked (hj j hne)
      have hsj := congrArg ChainSt.state (hj j hne)
      exact ⟨hbj, hsj⟩
  · have h := ClearsMore.foldl (l := List.range 32) (State.clearBit_clearsMore r hi v) s
    refine ⟨_, congrArg Host.Outcome.next (blockClear_of_mapped hi v hr hm hg), rfl, h.regs, fun b hb hv hbl => ?_, h.blocked⟩
    exact State.foldl_clearBit_clearing (List.mem_range.mpr hb) hv hbl (chainOf_blockedBit hr hhi hb)
  · refine ⟨_, rfl, rfl, ?_, fun h => ?_, fun h => ?_⟩
    · rw [syn_synLocks]
      split <;> rfl
    · rw [syn_synLocks, if_pos h]
      exact ⟨rfl, rfl⟩
    · rw [syn_synLocks, if_neg h]
      exact ⟨rfl, rfl⟩
  · obtain ⟨hlock, hact, hl⟩ := synLost_of_locked h
    refine ⟨_, rfl, hlock, hact, fun l hair hfed => ?_⟩
    rw [hl l hair hfed, List.all_map, List.all_eq_true]
    intro m _
    by_cases hm : m.of_ = l.of_ <;> simp [hm]
  · obtain ⟨hopen, hregs, hc⟩ := rxStart_opens h
    refine ⟨_, rfl, hopen, hregs, fun c hmem => ?_⟩
    rw [hc c hmem, apply_ite ChainSt.state]
    simp only [Bool.and_eq_true, beq_iff_eq]
  · obtain ⟨hopen, hregs, hc⟩ := rxEnd_closes r s
    refine ⟨_, rfl, hopen, hregs, fun c hmem => ?_⟩
    rw [hc c hmem, apply_ite ChainSt.state]
    simp only [beq_iff_eq]
  · obtain ⟨u, hu, he⟩ := calStart_of_gap hk hc hcal hair hgap hp hst hrx
    refine ⟨_, congrArg Host.Outcome.next he, by rw [State.radio_modRadio], ?_, fun j hj => ?_⟩
    · refine (congrArg ChainSt.state (hu.sameAir.chain _)).trans ?_
      rw [State.chain_modChain]
      rfl
    · exact (hu.sameAir.chain j).trans (s.chain_modChain_ne _ hj)
  · obtain ⟨ch, ra, he⟩ := s.calEnds_eq r k
    refine ⟨_, congrArg Host.Outcome.next (calDone_of_low res hcal hk), by rw [State.radio_calEnds], by rw [he], fun c hc hst => ?_⟩
    rw [s.calEnds_state r k hc, ChainSt.returned, if_pos (by simp [hst])]
  · obtain ⟨u, he, hucal⟩ := calDone_of_pair ⟨hcal, hk, href, hset, hbl, hr64, hk64, hne, hgood, hz, hb⟩
    obtain ⟨hc, hrest⟩ := u.knowPair_roundEnds (r := r) (pairCoef a b .one) s.elapsed hne
    exact ⟨_, congrArg Host.Outcome.next he, hc.trans hucal, hrest⟩

end Sys2Proof.Machine

end

section
/-! PROOFS. Launches: what is asked for, the ramp, the end and the watchdog (05 R131, R147, 06 R165, R167, R171, 07 R184, R190). -/

namespace Sys2Proof.Machine

section
variable (s : State)

/-! ## A reception that a launch cuts off (07 R190) -/

theorem State.putRx_effect (f n bufId len : Nat) (sop eop : Bool) (src index : Nat) (rest : List Byte) :
    HostEffect s (s.putRx f n bufId len sop eop src index rest) := ⟨_, _, _, _, rfl⟩

theorem State.rqWrite_effect (f n k src : Nat) (rest payload : List Byte) : HostEffect s (s.rqWrite f n k src rest payload) := by
  unfold State.rqWrite
  extract_lets key bs src1 s1 s2
  have h1 : HostEffect s s1 := ⟨_, _, _, _, rfl⟩
  have h2 : HostEffect s1 s2 := HostEffect.foldl _ _ (fun t e => ⟨_, _, _, _, rfl⟩) s1
  exact (h1.trans h2).trans (s2.moderate_effect ..)

theorem State.streamDirect_effect (f : Nat) (payload rest : List Byte) : HostEffect s (s.streamDirect f payload rest) := by
  unfold State.streamDirect
  extract_lets n cnt k a s1
  split
  · exact s.inc_effect _
  split
  · exact s.rqWrite_effect ..
  · exact ((s.inc_effect _).trans (State.rqWrite_effect ..)).trans ⟨_, _, _, _, rfl⟩

theorem State.deliverMac_effect (fn tenant : Nat) (payload rest : List Byte) : TaskEffect s (s.deliverMac fn tenant payload rest) := by
  unfold State.deliverMac
  split
  · exact (s.streamDirect_effect ..).taskEffect
  · have h := s.enqueue_effect macQueue macPrio tenant none 0x06 0 payload [] (some rest)
    dsimp only
    split
    · exact h.trans (State.dropFull_effect ..)
    · exact h

/-- A reception that is cut off leaves the receiver searching; one in a TB window goes on. -/
theorem State.cutReception_keeps (r : Nat) : (s.cutReception r).chains = s.chains
    ∧ ((s.cutReception r).radio r).launches = (s.radio r).launches
    ∧ (((s.cutReception r).radio r).rx.state = .search ∨ ((s.cutReception r).radio r).rx.state = .tb) := by
  unfold State.cutReception
  extract_lets x
  split
  · have hp : SameAir s ((s.drawMeasured r).2.postMetrics r x.stamp 0x34 0 false (s.drawMeasured r).1) := by
      have hd : SameAir s (s.drawMeasured r).2 := ⟨rfl, rfl⟩
      exact hd.trans (State.deliverMac_effect ..).sameAir
    dsimp only
    generalize (s.drawMeasured r).2.postMetrics r x.stamp 0x34 0 false (s.drawMeasured r).1 = t at hp ⊢
    have ht : (t.toSearch r).radio r = _ := State.radio_modRadio ..
    rw [ht, ← hp.radio]
    exact ⟨hp.chains, rfl, .inl rfl⟩
  next h =>
    refine ⟨rfl, rfl, ?_⟩
    unfold x at h
    cases hst : (s.radio r).rx.state <;> simp [hst] at h ⊢

/-! ## What has reached the air (01 R30, 03 R91) -/

theorem State.keyEvent_sameAir (slot action status : Nat) : SameAir s (s.keyEvent slot action status) :=
  (s.postEvent_effect ..).sameAir

theorem State.setKeyFuse_keyEvent_sameAir (k : Nat) (x : KeyFuse) (slot action status : Nat) :
    SameAir s ((s.setKeyFuse k x).keyEvent slot action status) :=
  (State.keyEvent_sameAir ..).after rfl rfl

theorem State.provision_sameAir (b : List Byte) : SameAir s (s.provision b) :=
  .ite (s.keyEvent_sameAir ..) <| .ite (.ite (.refl s) (s.keyEvent_sameAir ..)) (s.setKeyFuse_keyEvent_sameAir ..)

theorem State.revoke_sameAir (b : List Byte) : SameAir s (s.revoke b) :=
  .ite (s.keyEvent_sameAir ..) <| .ite (.refl s) (s.setKeyFuse_keyEvent_sameAir ..)

theorem State.advanceRollback_sameAir : SameAir s s.advanceRollback := by
  unfold State.advanceRollback
  split
  · exact .ite ((State.postEvent_effect ..).sameAir.after rfl rfl) (.refl s)
  · exact .refl s

theorem State.firstBeaconSent_sameAir (t : NT64) : SameAir s (s.firstBeaconSent t) := by
  unfold State.firstBeaconSent
  refine .ite (.refl s) ?_
  extract_lets src s1 s2 s3
  have h1 : SameAir s s1 := (State.postEvent_effect ..).sameAir.after rfl rfl
  have h2 : SameAir s1 s2 := .foldl (fun s b => s.provision_sameAir b) s1
  have h3 : SameAir s2 s3 := .foldl (fun s b => s.revoke_sameAir b) s2
  exact ((h1.trans h2).trans h3).trans s3.advanceRollback_sameAir

theorem State.airReached_sameAir (r : Nat) (l : Launch) : SameAir s (s.airReached r l) := by
  unfold State.airReached
  split
  · exact ⟨rfl, rfl⟩
  · exact (State.firstBeaconSent_sameAir ..).after rfl rfl
  · refine .foldl (fun s e => .ite ?_ (.refl s)) s
    split
    · exact ⟨rfl, rfl⟩
    · exact .refl s

end

/-! ## What is asked for (07 R184, R201) -/

/-- The chains of a launch that is asked for: of a planned PPDU those of its precoder. -/
def State.askedChains (s : State) (r : Nat) (of_ : LaunchOf) : List Nat :=
  s.launchable r (match of_ with
    | .plan id => ((Tab.get? s.mac.plan id).bind (·.chains)).getD (s.launchSet r)
    | _ => s.launchSet r)

/-- The status that a launch gets at once, where it gets one. -/
def State.askedStatus (s : State) (r : Nat) (of_ : LaunchOf) (t air : Nat) (f : PpduForm) : Option Nat :=
  if s.radioEclipsing r then some 0x01
  else if !formOk r s.limitMode (s.primaryAt r) f air then some 0x35
  else if (match s.swapAt r with | some x => decide (x < t + air) | none => false) then some 0x32
  else if s.launchInBoundary t then some 0x0F
  else if s.inRealign t then some 0x04
  else if (s.askedChains r of_).isEmpty then some 0x28
  else if t < s.ntNs + 4000 then some 0x04
  else none

section
variable {r : Nat} {of_ : LaunchOf} {x air : Nat} {f : PpduForm} {s : State}

/-- A launch that may be asked for joins those of its radio. -/
theorem launchAsk_of_ok (hs : s.inService (.radio r) = true) (hv : s.ntValid = true) (ha : s.airClosed = false)
    (hn : (s.radio r).launches.any (fun l => l.of_ == of_) = false)
    (hok : s.launchOk r of_ (s.launchTime of_ x) (s.launchAir of_ air) f = true)
    (hl : s.groupLate r of_ (s.launchTime of_ x) (s.launchAir of_ air) = false) :
    launchAsk r of_ x air f s = s.modRadio r fun y => { y with launches := y.launches ++ [{
      of_ := of_, t := s.launchTime of_ x, air := s.launchAir of_ air, chains := s.askedChains r of_, asks := f.asks
      outcome := s.askedStatus r of_ (s.launchTime of_ x) (s.launchAir of_ air) f }] } := by
  unfold launchAsk
  extract_lets t a set chains st
  rw [if_neg (by simp [hs, hv, ha, hn, hok, t, a]), if_neg (by simp [hl, t, a])]
  rfl

theorem launchAsk_of_closed (x air : Nat) (f : PpduForm) (h : s.airClosed = true) : launchAsk r of_ x air f s = s :=
  if_pos (by simp [h])

/-- Where neither an Eclipse, the form, a swap nor a realignment stands against a launch, the boundary and the lead do. -/
theorem State.askedStatus_of_form {t a : Nat} (he : s.radioEclipsing r = false) (hf : formOk r s.limitMode (s.primaryAt r) f a = true)
    (hsw : s.swapAt r = none) (hre : s.time.realignEnd = none) (hc : s.askedChains r of_ ≠ []) :
    s.askedStatus r of_ t a f
      = if s.launchInBoundary t = true then some 0x0F else if t < s.ntNs + 4000 then some 0x04 else none := by
  have hin : s.inRealign t = false := by simp [State.inRealign, hre]
  simp [State.askedStatus, he, hf, hsw, hin, hc]

theorem State.askedStatus_of_no_form {t a : Nat} (he : s.radioEclipsing r = false)
    (hf : formOk r s.limitMode (s.primaryAt r) f a = false) : s.askedStatus r of_ t a f = some 0x35 := by
  simp [State.askedStatus, he, hf]

end

/-! ## The ramp (06 R165) -/

/-- The launches of a sender are changed. -/
def State.setLaunch (s : State) (r : Nat) (of_ : LaunchOf) (g : Launch → Launch) : State :=
  s.modRadio r fun x => { x with launches := x.launches.map fun m => if m.of_ = of_ then g m else m }

/-- What a change brings about holds of every launch of the sender. -/
theorem State.launches_setLaunch (s : State) (r : Nat) (of_ : LaunchOf) {g : Launch → Launch} {p : Launch → Bool}
    (hp : ∀ m, p (g m) = true) : ((s.setLaunch r of_ g).radio r).launches.all (fun m => m.of_ != of_ || p m) = true := by
  have h : ((s.setLaunch r of_ g).radio r).launches = _ := congrArg RadioSt.launches (s.radio_modRadio r _)
  rw [h, List.all_map, List.all_eq_true]
  intro m _
  by_cases hm : m.of_ = of_ <;> simp [hm, hp]

section
variable {r : Nat} {of_ : LaunchOf} {l : Launch} {s : State}

/-- The launch whose ramp is due. -/
structure RampDue (r : Nat) (of_ : LaunchOf) (l : Launch) (s : State) : Prop where
  found : (s.radio r).launches.find? (fun l => l.of_ == of_ && l.outcome.isNone && !l.onAir) = some l
  due : l.t ≤ s.ntNs + 500
  open_ : s.airClosed = false
  noCal : (s.radio r).cal = none

/-- A ramp that is due in a realignment interval is LATE (04 R118). -/
theorem rampStart_of_realign (h : RampDue r of_ l s) (hre : s.inRealign l.t = true) :
    rampStart r of_ s = s.setLaunch r of_ fun m => { m with outcome := some 0x04 } := by
  unfold rampStart
  rw [h.found]
  dsimp only
  rw [if_neg (by simp [h.due, h.open_, h.noCal]), if_pos hre]
  rfl

/-- A ramp that no chain is left for (06 R159). -/
theorem rampStart_of_no_chain (h : RampDue r of_ l s) (hre : s.inRealign l.t = false) (hc : s.launchable r l.chains = []) :
    rampStart r of_ s = s.setLaunch r of_ fun m => { m with outcome := some 0x28 } := by
  unfold rampStart
  rw [h.found]
  dsimp only
  rw [if_neg (by simp [h.due, h.open_, h.noCal]), if_neg (by simp [hre]), if_pos (by simp [hc])]
  rfl

/-- A ramp for which not every chain is ready is LATE and counted. -/
theorem rampStart_of_not_ready (h : RampDue r of_ l s) (hre : s.inRealign l.t = false) (hc : s.launchable r l.chains ≠ [])
    (hl : s.chainsLocked r (s.launchable r l.chains) = false) :
    rampStart r of_ s = (State.inc (s.setLaunch r of_ fun m => { m with outcome := some 0x04 }) ⟨feBase r + 0x28, 15, 0⟩).postEvent 0x4003
      (items [r, l.t % 2 ^ 64]) := by
  unfold rampStart
  rw [h.found]
  dsimp only
  rw [if_neg (by simp [h.due, h.open_, h.noCal]), if_neg (by simp [hre]), if_neg (by simp [hc]), if_pos (by simp [hl])]
  rfl

/-- A ramp for which every chain is ready starts on all of them together. -/
theorem rampStart_of_ready (h : RampDue r of_ l s) (hre : s.inRealign l.t = false) (hc : s.launchable r l.chains ≠ [])
    (hl : s.chainsLocked r (s.launchable r l.chains) = true) (hr : s.canRamp r (s.launchable r l.chains) = true)
    (hm : s.masksReady r of_ l.t (s.launchable r l.chains) = true) :
    rampStart r of_ s = State.airReached ((s.launchable r l.chains).foldl
      (fun s c => s.modChain (chainBase r + c) fun x => { x with state := .tx })
      ((s.cutReception r).setLaunch r of_ fun m => { m with onAir := true, chains := s.launchable r l.chains })) r l := by
  unfold rampStart
  rw [h.found]
  dsimp only
  rw [if_neg (by simp [h.due, h.open_, h.noCal]), if_neg (by simp [hre]), if_neg (by simp [hc]), if_neg (by simp [hl, hr, hm])]
  rfl

/-- The radio and its chains once the ramp has started. -/
theorem rampStart_transmits (h : RampDue r of_ l s) (hre : s.inRealign l.t = false) (hc : s.launchable r l.chains ≠ [])
    (hl : s.chainsLocked r (s.launchable r l.chains) = true) (hr : s.canRamp r (s.launchable r l.chains) = true)
    (hm : s.masksReady r of_ l.t (s.launchable r l.chains) = true) :
    (∀ c ∈ s.launchable r l.chains, ((rampStart r of_ s).chain (chainBase r + c)).state = .tx)
      ∧ ((rampStart r of_ s).radio r).launches.all (fun m => m.of_ != of_ || m.onAir) = true
      ∧ (((rampStart r of_ s).radio r).rx.state = .search ∨ ((rampStart r of_ s).radio r).rx.state = .tb) := by
  rw [rampStart_of_ready h hre hc hl hr hm]
  obtain ⟨-, -, hrx⟩ := s.cutReception_keeps r
  generalize s.cutReception r = u at hrx ⊢
  have hair (t : State) : SameAir t (t.airReached r l) := t.airReached_sameAir r l
  refine ⟨fun c hmem => ?_, ?_, ?_⟩
  · rw [(hair _).chain]
    exact State.foldl_modChain_mem _ _ (chainBase r + ·) (fun _ _ x => { x with state := .tx })
      (Q := fun x => x.state = .tx) (fun _ _ _ => rfl) hmem
  · rw [(hair _).radio, State.foldl_modChain_radio]
    exact u.launches_setLaunch r of_ fun _ => rfl
  · rw [(hair _).radio, State.foldl_modChain_radio]
    have hset : (u.setLaunch r of_ fun m => { m with onAir := true, chains := s.launchable r l.chains }).radio r = _ :=
      u.radio_modRadio r _
    rwa [hset]

/-- A ramp that cannot start gives its launch its status and touches no chain. -/
theorem rampStart_of_refused (h : RampDue r of_ l s) (hno : s.inRealign l.t = true ∨ s.launchable r l.chains = []
      ∨ s.chainsLocked r (s.launchable r l.chains) = false) :
    (rampStart r of_ s).chains = s.chains ∧ ((rampStart r of_ s).radio r).launches.all (fun m => m.of_ != of_
      || m.outcome == some (if s.inRealign l.t = false ∧ s.launchable r l.chains = [] then 0x28 else 0x04)) = true := by
  by_cases hre : s.inRealign l.t = true
  · rw [rampStart_of_realign h hre]
    exact ⟨rfl, s.launches_setLaunch r of_ fun m => by simp [hre]⟩
  have hre : s.inRealign l.t = false := by simpa using hre
  by_cases hc : s.launchable r l.chains = []
  · rw [rampStart_of_no_chain h hre hc]
    exact ⟨rfl, s.launches_setLaunch r of_ fun m => by simp [hre, hc]⟩
  have hl : s.chainsLocked r (s.launchable r l.chains) = false := by simpa [hre, hc] using hno
  rw [rampStart_of_not_ready h hre hc hl]
  have hev := ((State.inc_effect (s.setLaunch r of_ fun m => { m with outcome := some 0x04 }) ⟨feBase r + 0x28, 15, 0⟩).trans
    (State.postEvent_effect _ 0x4003 (items [r, l.t % 2 ^ 64]) [])).sameAir
  rw [hev.radio]
  exact ⟨hev.chains, s.launches_setLaunch r of_ fun m => by simp [hc]⟩

theorem rampStart_of_closed (h : s.airClosed = true) : rampStart r of_ s = s := by
  unfold rampStart
  split
  · rfl
  · exact if_pos (by simp [h])

theorem beaconGo_of_closed {bss air : Nat} (h : s.airClosed = true) : beaconGo r bss air s = s := if_pos (by simp [h])

/-! ## The end of a launch and the watchdog (06 R167, R171) -/

theorem txEnd_of_over (ha : s.onAir r = some l) (h : l.t + l.air ≤ s.ntNs) : txEnd r s = s.endLaunch r l 0x00 := by
  rw [txEnd, ha]
  exact if_neg (by omega)

theorem watchdog_of_late {i : Nat} (ha : s.onAir (chainOf i).1 = some l) (hst : (s.chain i).state = .tx) (hp : (s.chain i).paOff = false)
    (h : l.t + s.get ⟨feBase (chainOf i).1 + 4, 7, 0⟩ * 100000 < s.ntNs) :
    watchdog i s = (s.postEvent 0x4004 (items [(chainOf i).1, i])).strobe (.radio (chainOf i).1) 0x05 i := by
  unfold watchdog
  generalize chainOf i = p at ha h ⊢
  dsimp only
  rw [ha]
  exact if_neg (by simp [hst, hp, h])

end

/-- Settles O44, row by row, from what a request, a ramp and the end of a launch make of the radio's launches and its chains. -/
theorem launches : Obligations.Launches := by
  refine ⟨fun r x air T A of_ f set s hs hv hT hA hset ha hn hok hl he hf hsw hre hne => ?_,
    fun r of_ x air f s hs hv ha hn he hok hl hf => ?_, fun r of_ l s hfind hdue ha hcal hre hc hl hr hm => ?_,
    fun r of_ l s hfind hdue ha hcal hno => ?_, fun r of_ x air f s h => ?_, fun r l s ha h => ?_,
    fun i l s ha hst hp h => congrArg Host.Outcome.next (watchdog_of_late ha hst hp h)⟩
  · subst hT hA
    have hasked : s.askedChains r of_ = set := hset.symm
    refine ⟨_, congrArg Host.Outcome.next (launchAsk_of_ok hs hv ha hn hok hl), rfl, ?_⟩
    rw [State.radio_modRadio, State.askedStatus_of_form he hf hsw hre (hasked ▸ hne), hasked]
  · have hask := launchAsk_of_ok hs hv ha hn hok hl
    rw [State.askedStatus_of_no_form he hf] at hask
    exact ⟨_, _, congrArg Host.Outcome.next hask, congrArg RadioSt.launches (s.radio_modRadio r _), rfl, rfl, rfl⟩
  · exact ⟨_, rfl, rampStart_transmits ⟨hfind, hdue, ha, hcal⟩ hre hc hl hr hm⟩
  · exact ⟨_, rfl, rampStart_of_refused ⟨hfind, hdue, ha, hcal⟩ hno⟩
  · exact ⟨congrArg Host.Outcome.next (launchAsk_of_closed x air f h), congrArg Host.Outcome.next (rampStart_of_closed h),
      congrArg Host.Outcome.next (beaconGo_of_closed h)⟩
  · obtain ⟨tr, hrad⟩ := s.radio_endLaunch r l 0
    refine ⟨_, congrArg Host.Outcome.next (txEnd_of_over ha h), s.regs_endLaunch r l 0, by rw [hrad], fun id p hid hp => ?_,
      fun c hc => s.endLaunch_not_tx r l 0 hc⟩
    rw [s.plan_endLaunch r hid, Tab.get?_upd_self, hp]
    rfl

end Sys2Proof.Machine

end

section
/-! PROOFS. Receivers: what is frozen, counted, measured and recorded (07 R189 to R196, R202). -/

namespace Sys2Proof.Machine

section
variable (s : State) (r : Nat)

/-! ## The receiver of a radio -/

theorem State.radio_modRx (f : RxSt → RxSt) : (s.modRx r f).radio r = { s.radio r with rx := f (s.radio r).rx } := s.radio_modRadio r _

theorem State.rx_modRx (f : RxSt → RxSt) : ((s.modRx r f).radio r).rx = f (s.radio r).rx := congrArg RadioSt.rx (s.radio_modRx r f)

theorem State.regs_toSearch : (s.toSearch r).regs = s.regs := rfl

theorem State.host_toSearch : (s.toSearch r).host = s.host := rfl

theorem State.rx_toSearch : ((s.toSearch r).radio r).rx = { (s.radio r).rx with
    state := .search, gains := [], searchFrom := s.elapsed, window := none, est := none } := s.rx_modRx r _

/-- A detector's count leaves every other register as it is. -/
theorem State.reg_countBB_ne (reg : Nat) (high : Bool) {a : Nat} (h : a ≠ bbBase r + 0x20 + 4 * reg) :
    (s.countBB r reg high).reg a = s.reg a := s.reg_inc_ne h

theorem State.countBB_effect (reg : Nat) (high : Bool) : HostEffect s (s.countBB r reg high) := s.inc_effect _

/-- A stamp is read from the time bases and the clocks alone. -/
theorem TaskEffect.stampAgo {s t : State} (h : TaskEffect s t) (ago : Nat) : t.stampAgo ago = s.stampAgo ago := by
  obtain ⟨_, _, _, _, _, rfl⟩ := h
  rfl

/-- What a detection, a restart or a capture of an L-STF in s freezes (R189, R190). -/
structure Frozen (r : Nat) (level : Int) (d : Detect) (s t : State) : Prop where
  state : (t.radio r).rx.state = .preamble
  level : (t.radio r).rx.level = level
  gains : (t.radio r).rx.gains = d.gains
  stamp : (t.radio r).rx.stamp = s.stampAgo d.ago

/-- Whatever was counted and handed to the host before, the same is frozen. -/
theorem TaskEffect.freezeRx {s t : State} (h : TaskEffect s t) (r : Nat) (level : Int) (d : Detect) :
    Frozen r level d s (t.freezeRx r level d) := by
  have hrx : ((t.freezeRx r level d).radio r).rx = _ := t.rx_modRx r _
  constructor <;> rw [hrx]
  exact h.stampAgo d.ago

/-- The settings of the detector that stand then apply to the reception (R206). -/
theorem State.freezeRx_settings (level : Int) (d : Detect) : ((s.freezeRx r level d).radio r).rx.restartDb = s.get ⟨bbBase r + 0xC, 12, 8⟩
    ∧ ((s.freezeRx r level d).radio r).rx.captureDb = s.get ⟨bbBase r + 0xC, 20, 16⟩
    ∧ ((s.freezeRx r level d).radio r).rx.captureEn = s.flag ⟨bbBase r + 0xC, 24, 24⟩ := by
  have hrx : ((s.freezeRx r level d).radio r).rx = _ := s.rx_modRx r _
  rw [hrx]
  exact ⟨rfl, rfl, rfl⟩

theorem State.launches_freezeRx (level : Int) (d : Detect) : ((s.freezeRx r level d).radio r).launches = (s.radio r).launches := by
  have hr : (s.freezeRx r level d).radio r = _ := s.radio_modRx r _
  rw [hr]

/-- A detection that is abandoned as noise is counted and ends in SEARCH. -/
theorem State.falseDet_searches : ((s.falseDet r).radio r).rx.state = .search
    ∧ ∀ a, a ≠ bbBase r + 0x20 → (s.falseDet r).reg a = s.reg a :=
  ⟨congrArg RxSt.state (State.rx_toSearch ..), fun _ ha => s.reg_countBB_ne r 0 true ha⟩

/-! ## Counters of 64 bits (00 R10) -/

theorem State.get64_inc64 (a : Nat) : (s.inc64 a).get64 a = (s.get64 a + 1) % 2 ^ 64 := by
  have hlo : (s.inc64 a).reg a = BitVec.ofNat 32 (s.get64 a + 1) := by
    rw [State.inc64, State.put64, State.reg_setReg_ne _ _ (by omega), State.reg_setReg]
  have hhi : (s.inc64 a).reg (a + 4) = BitVec.ofNat 32 ((s.get64 a + 1) / 2 ^ 32) := State.reg_setReg ..
  rw [State.get64, hlo, hhi, BitVec.toNat_ofNat, BitVec.toNat_ofNat]
  omega

theorem State.rx_inc64 (a : Nat) : ((s.inc64 a).radio r).rx = (s.radio r).rx := rfl

theorem State.get64_of_regs {s t : State} (h : t.regs = s.regs) (a : Nat) : t.get64 a = s.get64 a := by
  rw [State.get64, State.reg_of_regs h, State.reg_of_regs h, State.get64]

/-! ## Records (R202, 13 R387) -/

theorem State.regs_writeHost_putRx (f a n bufId len : Nat) (bs : List Byte) (sop eop : Bool) (src index : Nat) (rest : List Byte) :
    ((s.writeHost f a bs).putRx f n bufId len sop eop src index rest).regs = s.regs := rfl

theorem State.regs_rqWrite (f n k src : Nat) (rest payload : List Byte) : (s.rqWrite f n k src rest payload).regs = s.regs := by
  unfold State.rqWrite
  extract_lets key bs src1 s1 s2
  have h2 : s2.regs = s.regs := State.foldl_inv (fun t => t.regs = s.regs) _ _ (fun t e h => (t.regs_writeHost_putRx ..).trans h) s1 rfl
  unfold State.moderate
  dsimp only
  split <;> exact h2

/-- What hands a frame to the host counts in registers of the functions' direct rings and of the scheduler, which lie elsewhere in
their 64 kB than a baseband's settings and counters in its own. -/
theorem State.reg_deliverMac (fn tenant : Nat) (payload rest : List Byte) {a : Nat} (hlo : 0x10 < a % 0x10000) (hhi : a % 0x10000 < 0x81C) :
    (s.deliverMac fn tenant payload rest).reg a = s.reg a := by
  unfold State.deliverMac
  split
  · have hn : s.get ⟨hqBase fn + 0x24, 3, 0⟩ < 16 := Nat.mod_lt _ (Nat.two_pow_pos _)
    unfold State.streamDirect
    generalize s.get ⟨hqBase fn + 0x24, 3, 0⟩ = n at hn ⊢
    have hne : a ≠ hqBase fn + 0x81C + 0x40 * n := by
      unfold hqBase
      omega
    dsimp only
    split
    · exact s.reg_inc_ne hne
    split
    · exact State.reg_of_regs (s.regs_rqWrite ..) a
    · exact (State.reg_of_regs (State.regs_rqWrite ..) a).trans (s.reg_inc_ne hne)
  · obtain ⟨q, hq⟩ := s.enqueue_tasksOnly macQueue macPrio tenant none 0x06 0 payload [] (some rest)
    dsimp only
    rw [hq]
    split
    · exact State.reg_inc_ne _ (f := ⟨0x2C00010, 15, 0⟩) (show a ≠ 0x2C00010 by omega)
    · rfl

/-- A record of a reception that succeeded is kept for the frames of its user. -/
theorem State.postMetrics_zero (stamp : NT64) (user : Nat) (tb : Bool) (m : Measured) : s.postMetrics r stamp 0 user tb m
    = s.modRx r fun x => { x with records := Tab.put x.records user (metricsBytes stamp 0 user tb m) } := rfl

variable {status : Nat}

/-- Any other is handed to the host on its own. -/
theorem State.postMetrics_failed (h : status ≠ 0) (stamp : NT64) (user : Nat) (tb : Bool) (m : Measured) :
    ∃ fn tenant payload rest, s.postMetrics r stamp status user tb m = s.deliverMac fn tenant payload rest :=
  ⟨_, _, _, _, if_neg h⟩

theorem State.postMetrics_effect (h : status ≠ 0) (stamp : NT64) (user : Nat) (tb : Bool) (m : Measured) :
    TaskEffect s (s.postMetrics r stamp status user tb m) := by
  obtain ⟨fn, tenant, payload, rest, hd⟩ := s.postMetrics_failed r h stamp user tb m
  exact hd ▸ s.deliverMac_effect fn tenant payload rest

theorem State.drawMeasured_effect : TaskEffect s (s.drawMeasured r).2 := ⟨_, _, _, _, _, rfl⟩

/-- A reception that is cut off concerns the radio and the host alone (R190). -/
theorem State.cutReception_mac : (s.cutReception r).mac = s.mac := by
  unfold State.cutReception
  extract_lets x
  split
  · have h := (s.drawMeasured_effect r).trans (State.postMetrics_effect (s.drawMeasured r).2 r (by decide : 0x34 ≠ 0) x.stamp 0 false
      (s.drawMeasured r).1)
    obtain ⟨_, _, _, _, _, hu⟩ := h
    dsimp only
    rw [hu]
    rfl
  · rfl

/-! ## Channel state (R196, R200) -/

/-- t has the radios, the registers and the host interface of s: what a change of channel-state entries leaves alone. -/
structure CsiEffect (s t : State) : Prop where
  radios : t.radios = s.radios
  regs : t.regs = s.regs
  host : t.host = s.host

theorem CsiEffect.refl : CsiEffect s s := ⟨rfl, rfl, rfl⟩

theorem CsiEffect.trans {s t u : State} (h : CsiEffect s t) (h' : CsiEffect t u) : CsiEffect s u :=
  ⟨h'.radios.trans h.radios, h'.regs.trans h.regs, h'.host.trans h.host⟩

theorem CsiEffect.rx {s t : State} (h : CsiEffect s t) (r : Nat) : (t.radio r).rx = (s.radio r).rx := by
  rw [State.radio, h.radios, State.radio]

theorem CsiEffect.inc64 {s t : State} (h : CsiEffect s t) (a : Nat) : CsiEffect (s.inc64 a) (t.inc64 a) := by
  refine ⟨h.radios, ?_, h.host⟩
  unfold State.inc64 State.put64 State.setReg
  rw [State.get64_of_regs h.regs, h.regs]

/-- What follows the count of one. -/
theorem CsiEffect.get64 {s t u : State} {a : Nat} (h : CsiEffect (u.inc64 a) t) (hu : u.regs = s.regs) :
    t.get64 a = (s.get64 a + 1) % 2 ^ 64 := by
  rw [State.get64_of_regs h.regs, State.get64_inc64, State.get64_of_regs hu]

theorem State.updateCsi_effect (id : Nat) (chains : List Nat) (stamp : NT64) (m : Measured) : CsiEffect s (s.updateCsi r id chains stamp m) := by
  unfold State.updateCsi
  split
  · exact .refl s
  split
  · exact .refl s
  · exact ⟨rfl, rfl, rfl⟩

theorem State.storeFeedback_effect (stamp : NT64) (m : Measured) : CsiEffect s (s.storeFeedback r stamp m) := by
  unfold State.storeFeedback
  split
  · exact .refl s
  split
  · exact .refl s
  · exact ⟨rfl, rfl, rfl⟩

end

end Sys2Proof.Machine

end

section
/-! PROOFS. The rows of a receiver outside a TB window (07 R189 to R193). -/

namespace Sys2Proof.Machine

section
variable {r : Nat} {level : Int} {d : Detect} {s : State}

/-! ## Detection (R189, R191) -/

theorem detected_of_heard (hst : (s.radio r).rx.state = .search) (hd : s.detects r level d = true) (hin : s.inTime r d = true)
    (hs : s.inService (.radio r) = true) (ho : (s.radio r).rxOpen = true) :
    detected r level d s = (s.countBB r 0 false).freezeRx r level d := if_neg (by simp [hst, hd, hin, hs, ho])

theorem detected_of_unheard (h : s.detects r level d = false) : detected r level d s = s := if_pos (by simp [h])

/-- Below the threshold of power or of autocorrelation no L-STF is detected. -/
theorem State.detects_of_weak (h : level < signed 8 (s.get ⟨bbBase r + 0xC, 7, 0⟩) ∨ d.corr ≤ 500) : s.detects r level d = false := by
  cases h with
  | inl h => simp [State.detects, Int.not_le.mpr h]
  | inr h => simp [State.detects, Nat.not_lt.mpr h]

/-! ## Noise (R190) -/

theorem lltfGone_of_late (hst : (s.radio r).rx.state = .preamble) (h : (s.radio r).rx.from_ + us 10 ≤ s.elapsed) :
    lltfGone r s = s.falseDet r := if_neg (by simpa [hst] using h)

/-! ## SIG fields (R190, R193) -/

variable {last : Option LtfForm}

theorem sigDone_of_failed (hst : (s.radio r).rx.state = .preamble) : sigDone r false last s = s.falseDet r := by simp [sigDone, hst]

theorem sigDone_of_more (hst : (s.radio r).rx.state = .preamble) : sigDone r true none s = s := by simp [sigDone, hst]

theorem sigDone_of_last (hst : (s.radio r).rx.state = .preamble) (f : LtfForm) : sigDone r true (some f) s
    = { (s.modRx r fun x => { x with state := .data, est := some (s.estimate r f) }) with fresh := s.fresh + 1 } := by
  simp [sigDone, hst]

/-- Neighbouring tones are smoothed with 2x and 4x LTFs at up to 4 streams, unless the PPDU forbids it. -/
theorem State.estimate_smooth_iff (f : LtfForm) :
    (s.estimate r f).smooth = true ↔ (f.ltf = 2 ∨ f.ltf = 4) ∧ f.ss ≤ 4 ∧ f.noSmooth = false := by
  simp [State.estimate, and_assoc]

/-- The last SIG field that is valid moves the reception on to DATA with its estimate. -/
theorem sigDone_of_last_estimates (hst : (s.radio r).rx.state = .preamble) (f : LtfForm) :
    ((sigDone r true (some f) s).radio r).rx = { (s.radio r).rx with state := .data, est := some (s.estimate r f) }
      ∧ (sigDone r true (some f) s).regs = s.regs := by
  rw [sigDone_of_last hst]
  exact ⟨s.rx_modRx r fun x => { x with state := .data, est := some (s.estimate r f) }, rfl⟩

/-! ## Stronger preambles (R190) -/

theorem restarted_of_stronger (hst : (s.radio r).rx.state = .preamble) (hd : s.detects r level d = true) (hago : d.ago ≤ 4000)
    (h : (s.radio r).rx.level + (s.radio r).rx.restartDb ≤ level) :
    restarted r level d s = (s.countBB r 1 false).freezeRx r level d := if_neg (by simp [hst, hd, hago, h])

theorem captured_of_disabled (level : Int) (d : Detect) (h : (s.radio r).rx.captureEn = false) : captured r level d s = s :=
  if_pos (by simp [h])

/-- A capture hands the record of the PPDU that is abandoned to the host and freezes what the new one gave. -/
theorem captured_of_stronger (hst : (s.radio r).rx.state = .data) (hen : (s.radio r).rx.captureEn = true) (hd : s.detects r level d = true)
    (hago : d.ago ≤ 4000) (h : (s.radio r).rx.level + (s.radio r).rx.captureDb ≤ level) :
    ∃ t, TaskEffect s t ∧ captured r level d s = t.freezeRx r level d := by
  have hrun : captured r level d s = (((s.drawMeasured r).2.countBB r 1 true).postMetrics r (s.radio r).rx.stamp 0x36 0 false
      (s.drawMeasured r).1).freezeRx r level d := if_neg (by simp [hst, hen, hd, hago, h])
  exact ⟨_, ((s.drawMeasured_effect r).trans (State.countBB_effect ..).taskEffect).trans (State.postMetrics_effect _ r (by decide) ..), hrun⟩

/-! ## The end of a PPDU (R190, R196, R202) -/

variable {m : Measured}

/-- A PPDU that ends: its record and channel state, its count, and SEARCH. -/
theorem rxPpduEnds_eq (hst : (s.radio r).rx.state = .data) (hm : s.measurable r false m = true) :
    ∃ t, CsiEffect ((s.modRx r fun x => { x with records := [], ended := some (x.stamp, []) }).postMetrics r (s.radio r).rx.stamp 0 0 false m) t
      ∧ rxPpduEnds r m s = (t.inc64 (bbBase r + 0x30)).toSearch r :=
  ⟨_, State.updateCsi_effect .., if_neg (by simp [hst, hm])⟩

/-- A PPDU that ends leaves its record and counts one. -/
theorem rxPpduEnds_of_data (hst : (s.radio r).rx.state = .data) (hm : s.measurable r false m = true) :
    ((rxPpduEnds r m s).radio r).rx.state = .search
      ∧ ((rxPpduEnds r m s).radio r).rx.records = [(0, metricsBytes (s.radio r).rx.stamp 0 0 false m)]
      ∧ ((rxPpduEnds r m s).radio r).rx.ended = some ((s.radio r).rx.stamp, [])
      ∧ (rxPpduEnds r m s).get64 (bbBase r + 0x30) = (s.get64 (bbBase r + 0x30) + 1) % 2 ^ 64
      ∧ (rxPpduEnds r m s).host = s.host := by
  obtain ⟨t, ht, hrun⟩ := rxPpduEnds_eq hst hm
  rw [State.postMetrics_zero] at ht
  have hrx : (t.radio r).rx = { (s.radio r).rx with
      records := [(0, metricsBytes (s.radio r).rx.stamp 0 0 false m)], ended := some ((s.radio r).rx.stamp, []) } := by
    rw [ht.rx, State.rx_modRx, State.rx_modRx]
    rfl
  have hcount := (ht.inc64 (bbBase r + 0x30)).get64 (s := s) rfl
  rw [hrun, State.rx_toSearch, State.rx_inc64, hrx, State.get64_of_regs (State.regs_toSearch ..), State.host_toSearch, State.inc64_host]
  exact ⟨rfl, rfl, rfl, hcount, ht.host⟩

end

end Sys2Proof.Machine

end

section
/-! PROOFS. TB windows: their opening, their users and their close (07 R192, R194, R200, R202). -/

namespace Sys2Proof.Machine

/-! ## The opening (R192) -/

/-- A window that opens is the radio's, and the plans stay. -/
theorem State.openWindow_opens (s : State) (r : Nat) (of_ : WindowOf) (te len : Nat) (power : Int) :
    ((s.openWindow r of_ te len power).radio r).rx.state = .tb ∧ ((s.openWindow r of_ te len power).radio r).rx.te = te
      ∧ ((s.openWindow r of_ te len power).radio r).rx.windowEnd = te + len
      ∧ ((s.openWindow r of_ te len power).radio r).rx.window = some of_
      ∧ (s.openWindow r of_ te len power).mac.plan = s.mac.plan := by
  have hrx : ((s.openWindow r of_ te len power).radio r).rx = _ := State.rx_modRx ..
  rw [hrx]
  exact ⟨rfl, rfl, rfl, rfl, congrArg MacSt.plan (s.cutReception_mac r)⟩

section
variable {r id : Nat} {p : Ppdu} {s : State}

theorem tbOpen_of_sent (hp : Tab.get? s.mac.plan id = some p) (hr : p.radio = r) (hsent : p.sent = true) (hte : p.te ≠ 0)
    (hfrom : p.te ≤ s.ntNs + 2000) (hto : s.ntNs < p.te + p.tbDur) (hs : s.inService (.radio r) = true)
    (hst : (s.radio r).rx.state ≠ .tb) : ∃ power, tbOpen r (.own id) p.te p.tbDur s = s.openWindow r (.own id) p.te p.tbDur power := by
  unfold tbOpen
  rw [if_neg (by simp [hs, hfrom, hto])]
  dsimp only
  rw [hp]
  exact ⟨_, if_neg (by simp [hr, hsent, hte, hst])⟩

theorem tbOpen_of_unsent (te len : Nat) (hp : Tab.get? s.mac.plan id = some p) (hsent : p.sent = false) :
    tbOpen r (.own id) te len s = s := by
  unfold tbOpen
  split
  · rfl
  dsimp only
  rw [hp]
  exact if_pos (by simp [hsent])

theorem tbOpen_of_trigger {n end_ : Nat} {f : TriggerAsk} (ht : (s.radio r).trigger = some (n, end_, f))
    (hfrom : end_ + 16000 ≤ s.ntNs + 2000) (hto : s.ntNs < end_ + 16000 + f.len) (hs : s.inService (.radio r) = true)
    (hst : (s.radio r).rx.state ≠ .tb) :
    tbOpen r (.random n) (end_ + 16000) f.len s = s.openWindow r (.random n) (end_ + 16000) f.len f.power := by
  unfold tbOpen
  rw [if_neg (by simpa [hs, hto] using hfrom)]
  dsimp only
  rw [ht]
  exact if_neg (by simp [hst])

end

/-! ## The users of a window (R194, R202) -/

section
variable (s : State) (r : Nat) (stamp : NT64) (sound : Bool) {m : Measured} (i : Nat)

theorem State.tbUser_of_missing (h : m.ltfSnr < 0) :
    s.tbUser r stamp sound m i = (s.countBB r 3 false).postMetrics r stamp 0x37 i true m := if_pos h

/-- A missing user is counted and handed to the host, and the radio keeps nothing of it. -/
theorem State.tbUser_of_missing_counts (h : m.ltfSnr < 0) (hc : s.get ⟨bbBase r + 0x2C, 15, 0⟩ < 65535) :
    (s.tbUser r stamp sound m i).radios = s.radios
      ∧ (s.tbUser r stamp sound m i).get ⟨bbBase r + 0x2C, 15, 0⟩ = s.get ⟨bbBase r + 0x2C, 15, 0⟩ + 1 := by
  rw [s.tbUser_of_missing r stamp sound i h]
  have hcount : s.countBB r 3 false = s.put ⟨bbBase r + 0x2C, 15, 0⟩ (s.get ⟨bbBase r + 0x2C, 15, 0⟩ + 1) :=
    s.inc_of_lt ⟨bbBase r + 0x2C, 15, 0⟩ (show _ + 1 < 65536 by omega)
  have hpost := State.postMetrics_effect (s.countBB r 3 false) r (by decide : 0x37 ≠ 0) stamp i true m
  obtain ⟨fn, tenant, payload, rest, hd⟩ := State.postMetrics_failed (s.countBB r 3 false) r (by decide : 0x37 ≠ 0) stamp i true m
  refine ⟨hpost.sameAir.radios.trans (s.countBB_effect r 3 false).sameAir.radios, ?_⟩
  have hreg : ((s.countBB r 3 false).deliverMac fn tenant payload rest).reg (bbBase r + 0x2C) = (s.countBB r 3 false).reg (bbBase r + 0x2C) :=
    State.reg_deliverMac _ fn tenant payload rest (by unfold bbBase; omega) (by unfold bbBase; omega)
  rw [hd, State.get_congr (f := ⟨bbBase r + 0x2C, 15, 0⟩) hreg, hcount, s.get_put_self _ (by decide) (by decide)]
  exact Nat.mod_eq_of_lt (by omega)

/-- A user that was heard leaves its record and counts one; the rest is channel state. -/
theorem State.tbUser_of_heard (h : 0 ≤ m.ltfSnr) : CsiEffect
    ((s.modRx r fun x => { x with records := Tab.put x.records i (metricsBytes stamp 0 i true m) }).inc64 (bbBase r + 0x30))
    (s.tbUser r stamp sound m i) := by
  have hcsi := ((s.postMetrics r stamp 0 i true m).updateCsi_effect r s.fresh (s.receiving r) stamp m).inc64 (bbBase r + 0x30)
  have hrun : s.tbUser r stamp sound m i = _ := if_neg (Int.not_lt.mpr h)
  rw [State.postMetrics_zero] at hcsi hrun
  rw [hrun]
  extract_lets s1 s2
  have h2 : CsiEffect s1 s2 := ⟨rfl, rfl, rfl⟩
  split
  · exact (hcsi.trans h2).trans (s2.storeFeedback_effect r stamp m)
  · exact hcsi.trans h2

/-- Of the reception that ended a user's part changes the records alone. -/
theorem State.tbUser_ended (m : Measured) : ((s.tbUser r stamp sound m i).radio r).rx.ended = (s.radio r).rx.ended := by
  by_cases h : m.ltfSnr < 0
  · rw [s.tbUser_of_missing r stamp sound i h]
    have he := (s.countBB_effect r 3 false).taskEffect.trans (State.postMetrics_effect (s.countBB r 3 false) r (by decide : 0x37 ≠ 0) stamp i true m)
    rw [he.sameAir.radio]
  · rw [(s.tbUser_of_heard r stamp sound i (Int.not_lt.mp h)).rx, State.rx_inc64, State.rx_modRx]

end

/-! ## The close (R190, R194) -/

/-- The stamp of a window's TB PPDU. -/
def State.tbStamp (s : State) (r : Nat) (users : List Measured) : NT64 :=
  if s.ntValid then BitVec.ofNat 64 (tbStart (s.radio r).rx.te users) else 0

/-- The users of a window that are missing from it. -/
def missingUsers (users : List Measured) : List Nat := ((users.zipIdx).filter fun u => decide (u.1.ltfSnr < 0)).map (·.2)

/-- A window at its close, before its users' parts. -/
def State.tbEnded (s : State) (r : Nat) (users : List Measured) : State :=
  { (s.modRx r fun x => { x with records := [], ended := some (s.tbStamp r users, missingUsers users)
                                 joint := ((users.map (·.ru)).eraseDups).map (s.detectRu r users) }) with fresh := s.fresh + 1 }

theorem State.rx_tbEnded (s : State) (r : Nat) (users : List Measured) : ((s.tbEnded r users).radio r).rx = { (s.radio r).rx with
    records := [], ended := some (s.tbStamp r users, missingUsers users)
    joint := ((users.map (·.ru)).eraseDups).map (s.detectRu r users) } :=
  s.rx_modRx r fun x => { x with records := [], ended := some (s.tbStamp r users, missingUsers users)
                                 joint := ((users.map (·.ru)).eraseDups).map (s.detectRu r users) }

/-- The window of a planned trigger that is over, with its users as they were solicited (R192). -/
structure WindowOver (r id : Nat) (p : Ppdu) (users : List Measured) (s : State) : Prop where
  state : (s.radio r).rx.state = .tb
  window : (s.radio r).rx.window = some (.own id)
  plan : Tab.get? s.mac.plan id = some p
  ended : (s.radio r).rx.windowEnd ≤ s.ntNs
  measurable : users.all (s.measurable r true) = true
  asked : users.map (fun m => (m.sta, m.ru, m.nss)) = p.solicited.map (fun u => (some u.sid, u.ru, u.ss))

section
variable {r id : Nat} {p : Ppdu} {users : List Measured} {s : State}

theorem State.tbUsersOk_of_over (h : WindowOver r id p users s) : s.tbUsersOk r users = true := by
  simp [State.tbUsersOk, h.window, h.plan, h.measurable, h.asked]

theorem tbClose_of_over (h : WindowOver r id p users s) : tbClose r users s = State.toSearch
    ((users.zipIdx).foldl (fun t u => t.tbUser r (s.tbStamp r users) (p.kind == 2) u.1 u.2) (s.tbEnded r users)) r := by
  unfold tbClose
  dsimp only
  rw [if_neg (by simp [h.state, h.ended, State.tbUsersOk_of_over h]), h.window]
  dsimp only
  rw [h.plan]
  rfl

/-- The window leaves its stamp and the users missing from it. -/
theorem tbClose_ends (h : WindowOver r id p users s) : ((tbClose r users s).radio r).rx.state = .search
    ∧ ((tbClose r users s).radio r).rx.window = none
    ∧ ((tbClose r users s).radio r).rx.ended = some (s.tbStamp r users, missingUsers users) := by
  rw [tbClose_of_over h, State.rx_toSearch]
  refine ⟨rfl, rfl, ?_⟩
  refine State.foldl_inv (fun t => (t.radio r).rx.ended = _) _ _ (fun t u ht => (t.tbUser_ended ..).trans ht) _ ?_
  rw [s.rx_tbEnded]

end

/-! ## A window of one user -/

section
variable {r id : Nat} {p : Ppdu} {m : Measured} {s : State}

theorem tbClose_of_one (h : WindowOver r id p [m] s) :
    tbClose r [m] s = ((s.tbEnded r [m]).tbUser r (s.tbStamp r [m]) (p.kind == 2) m 0).toSearch r := tbClose_of_over h

/-- The stamp of one user that was heard lies its offset after t_e (log 164). -/
theorem State.tbStamp_of_one (hv : s.ntValid = true) (h : 0 ≤ m.ltfSnr) :
    s.tbStamp r [m] = BitVec.ofNat 64 (((s.radio r).rx.te : Int) + m.timing).toNat := by
  simp [State.tbStamp, hv, tbStart, heardUsers, h]

/-- One user that was heard. -/
theorem tbClose_of_heard (h : WindowOver r id p [m] s) (hm : 0 ≤ m.ltfSnr) : (tbClose r [m] s).host = s.host
    ∧ (tbClose r [m] s).get64 (bbBase r + 0x30) = (s.get64 (bbBase r + 0x30) + 1) % 2 ^ 64
    ∧ ((tbClose r [m] s).radio r).rx.records = [(0, metricsBytes (s.tbStamp r [m]) 0 0 true m)] := by
  have hu := (s.tbEnded r [m]).tbUser_of_heard r (s.tbStamp r [m]) (p.kind == 2) 0 hm
  rw [tbClose_of_one h, State.rx_toSearch, State.get64_of_regs (State.regs_toSearch ..), State.host_toSearch]
  refine ⟨hu.host, hu.get64 rfl, ?_⟩
  show (State.radio _ r).rx.records = _
  rw [hu.rx, State.rx_inc64, State.rx_modRx, State.rx_tbEnded]
  rfl

/-- One user that is missing. -/
theorem tbClose_of_missing (h : WindowOver r id p [m] s) (hm : m.ltfSnr < 0) (hc : s.get ⟨bbBase r + 0x2C, 15, 0⟩ < 65535) :
    ((tbClose r [m] s).radio r).rx.records = []
      ∧ (tbClose r [m] s).get ⟨bbBase r + 0x2C, 15, 0⟩ = s.get ⟨bbBase r + 0x2C, 15, 0⟩ + 1 := by
  obtain ⟨hr, hn⟩ := (s.tbEnded r [m]).tbUser_of_missing_counts r (s.tbStamp r [m]) (p.kind == 2) 0 hm hc
  rw [tbClose_of_one h, State.rx_toSearch]
  refine ⟨?_, hn⟩
  show (State.radio _ r).rx.records = _
  rw [State.radio, hr]
  exact congrArg RxSt.records (s.rx_tbEnded r [m])

end

/-- Settles O45, row by row, from what each row makes of the receiver and of the registers that count for it. -/
theorem receiver : Obligations.Receiver := by
  refine ⟨fun r level d s hst hs ho hlev hcorr hset hago hlen hall hin => ?_, fun r level d s h => ?_, fun r s hst h => ?_,
    fun r last s hst => ⟨?_, ?_⟩, fun r level d s hst hd hago h => ?_, fun r level d s hst hen hd hago h => ?_, fun r level d s h => ?_,
    fun r m s hst hm => ?_, fun r id p s hp hr hsent hte hfrom hto hs hst => ?_, fun r id te len p s hp hsent => ?_,
    fun r id p users s hst hw hp hend hm hask => ?_, fun r n end_ f s ht hfrom hto hs hst => ?_,
    fun r id sid u p m s hst hw hp hend hm hsol hsid hsta hru hss hv => ?_⟩
  · have hd : s.detects r level d = true := by simp [State.detects, State.gainsOk, hlev, hcorr, hset, hago, hlen, hall]
    have hin : s.inTime r d = true := by simpa [State.inTime, and_assoc] using hin
    obtain ⟨hstate, hlevel, hgains, hstamp⟩ := (s.countBB_effect r 0 false).taskEffect.freezeRx r level d
    obtain ⟨hrestart, hcapture, hen⟩ := (s.countBB r 0 false).freezeRx_settings r level d
    have hdet : (s.countBB r 0 false).reg (bbBase r + 0xC) = s.reg (bbBase r + 0xC) := s.reg_countBB_ne r 0 false (by omega)
    rw [State.get_congr hdet] at hrestart hcapture
    rw [State.flag_congr hdet] at hen
    have hair := (s.countBB_effect r 0 false).sameAir
    refine ⟨_, congrArg Host.Outcome.next (detected_of_heard hst hd hin hs ho), hstate, hlevel, hgains, hstamp, hrestart, hcapture, hen,
      ?_, hair.chains, fun a ha => s.reg_countBB_ne r 0 false ha⟩
    rw [State.launches_freezeRx, hair.radio]
  · exact congrArg Host.Outcome.next (detected_of_unheard (State.detects_of_weak h))
  · exact ⟨_, congrArg Host.Outcome.next (lltfGone_of_late hst h), s.falseDet_searches r⟩
  · exact ⟨_, congrArg Host.Outcome.next (sigDone_of_failed hst), (s.falseDet_searches r).1⟩
  · cases last with
    | none => exact ⟨s, congrArg Host.Outcome.next (sigDone_of_more hst), hst, nofun, rfl, rfl⟩
    | some f =>
      obtain ⟨hrx, hregs⟩ := sigDone_of_last_estimates hst f
      refine ⟨_, rfl, ?_⟩
      rw [hrx]
      refine ⟨rfl, fun g hg => ?_, rfl, hregs⟩
      cases hg
      exact ⟨_, rfl, rfl, rfl, State.estimate_smooth_iff f⟩
  · obtain ⟨hstate, hlevel, hgains, hstamp⟩ := (s.countBB_effect r 1 false).taskEffect.freezeRx r level d
    exact ⟨_, congrArg Host.Outcome.next (restarted_of_stronger hst hd hago h), hstate, hlevel, hgains, hstamp,
      fun a ha => s.reg_countBB_ne r 1 false ha⟩
  · obtain ⟨t, ht, hrun⟩ := captured_of_stronger hst hen hd hago h
    obtain ⟨hstate, hlevel, hgains, hstamp⟩ := ht.freezeRx r level d
    exact ⟨_, congrArg Host.Outcome.next hrun, hstate, hlevel, hgains, hstamp⟩
  · exact congrArg Host.Outcome.next (captured_of_disabled level d h)
  · exact ⟨_, rfl, rxPpduEnds_of_data hst hm⟩
  · obtain ⟨power, hrun⟩ := tbOpen_of_sent hp hr hsent hte hfrom hto hs hst
    exact ⟨_, congrArg Host.Outcome.next hrun, s.openWindow_opens r _ _ _ power⟩
  · exact congrArg Host.Outcome.next (tbOpen_of_unsent te len hp hsent)
  · exact ⟨_, rfl, tbClose_ends ⟨hst, hw, hp, hend, hm, hask⟩⟩
  · exact ⟨_, congrArg Host.Outcome.next (tbOpen_of_trigger ht hfrom hto hs hst), s.openWindow_opens r _ _ _ f.power⟩
  · have hover : WindowOver r id p [m] s := ⟨hst, hw, hp, hend, by simpa using hm, by simp [hsol, hsid, hsta, hru, hss]⟩
    refine ⟨_, rfl, fun h => ?_, fun h hc => tbClose_of_missing hover h hc⟩
    rw [← State.tbStamp_of_one hv h]
    exact tbClose_of_heard hover h

end Sys2Proof.Machine

end

section
/-! PROOFS. The entries fetched for a PPDU: which fetches the model counts as too slow (07 R197). -/

namespace Sys2Proof.Machine

/-- A PPDU that is due, of one user, station 5. -/
def duePpdu : Ppdu := { radio := 0, sf := 0, launch := 0, kind := 0, cls := 0, len := 1, users := [⟨5, true, 1, 0, 1, 0, 0, []⟩] }

/-- The reset state with that PPDU as number 3 and with an entry of station 5. -/
def dueState : State := { State.reset with mac := { State.reset.mac with csi := [(csiKey 5 0, {})], plan := [(3, duePpdu)] } }

/-- The entry of station 5 is fetched though its fetch is given as too slow: `prefetch` looks in `slow` for the PPDU's number 3. -/
theorem prefetch_dueState_slow :
    (Tab.get? (prefetch 3 [5] dueState).mac.plan 3).map (·.fetched) = some [5] := by
  decide

/-- Refutes O46: of the stations whose fetch is too slow none may be fetched (07 R197), but in `prefetch` the name that is passed for
the identity is the PPDU's number, read as a constant function, so that station 5 of PPDU 3 is fetched though `slow` holds it. -/
theorem not_spatialEngine : ¬ Obligations.SpatialEngine := by
  rintro ⟨hfetch, -⟩
  obtain ⟨t, q, hrun, hq, -, -, hslow, -⟩ := hfetch 3 [5] duePpdu dueState (by decide) (by decide) (by decide) (by decide)
  obtain rfl : prefetch 3 [5] dueState = t := Host.Outcome.next.inj hrun
  have hfetched : q.fetched = [5] := by simpa [hq] using prefetch_dueState_slow
  exact (hslow 5 (by simp [hfetched])).1 (List.mem_singleton_self 5)

end Sys2Proof.Machine

end

section
/-! PROOFS. Sparse tables: entries taken out, and entries changed one after another. -/

namespace Sys2Proof

variable {α : Type}

theorem Tab.get?_eq_none_iff {t : Tab α} {k : Nat} : Tab.get? t k = none ↔ ∀ e ∈ t, e.1 ≠ k := by
  induction t with
  | nil => simp
  | cons e t ih =>
    obtain ⟨j, v⟩ := e
    by_cases h : j = k <;> simp [h, ih]

/-- A key without an entry is taken out for nothing. -/
theorem Tab.del_of_get?_none {t : Tab α} {k : Nat} (h : Tab.get? t k = none) : Tab.del t k = t :=
  List.filter_eq_self.mpr fun e he => by simpa using Tab.get?_eq_none_iff.mp h e he

/-- Nor is it changed. -/
theorem Tab.upd_of_get?_none {t : Tab α} {k : Nat} (h : Tab.get? t k = none) (f : α → α) : Tab.upd t k f = t :=
  (List.map_congr_left fun e he => if_neg (Tab.get?_eq_none_iff.mp h e he)).trans (List.map_id' t)

/-- What was put at a key goes with all that the key had. -/
theorem Tab.del_put (t : Tab α) (k : Nat) (v : α) : Tab.del (Tab.put t k v) k = Tab.del t k := by
  induction t with
  | nil => simp [Tab.put, Tab.del]
  | cons e t ih =>
    unfold Tab.put
    split
    · simp [Tab.del]
    split
    · simp [Tab.del, *]
    · simp only [Tab.del, List.filter_cons] at ih ⊢
      rw [ih]

theorem Tab.foldl_del (l : List Nat) (t : Tab α) : l.foldl Tab.del t = t.filter fun e => !l.contains e.1 := by
  induction l generalizing t with
  | nil => simp
  | cons k l ih =>
    rw [List.foldl_cons, ih, Tab.del, List.filter_filter]
    exact List.filter_congr fun e _ => by by_cases he : e.1 = k <;> simp [he]

theorem Tab.get?_foldl_del (l : List Nat) (t : Tab α) (k : Nat) :
    Tab.get? (l.foldl Tab.del t) k = if k ∈ l then none else Tab.get? t k := by
  induction l generalizing t with
  | nil => rfl
  | cons j l ih =>
    rw [List.foldl_cons, ih]
    by_cases hk : k = j
    · simp [hk]
    · simp [hk, Tab.get?_del_ne _ hk]

/-- A table whose keys are all taken out is empty. -/
theorem Tab.foldl_del_keys (t : Tab α) : (Tab.keys t).foldl Tab.del t = [] := by
  rw [Tab.foldl_del, List.filter_eq_nil_iff]
  intro e he
  simpa [Tab.keys] using ⟨e.2, he⟩

end Sys2Proof

end

section
/-! PROOFS. Stations and frames after the operations of the MACs, and what these operations and what follows them in the packet path, the
cipher engine and the host interface leave alone (08 R207, R211, R225 to R230). -/

namespace Sys2Proof.Machine

/-! ## Folds of operations -/

/-- What every step keeps and the step of one member turns into something that every step keeps, holds in the end. -/
theorem State.foldl_reaches {ι : Type} {P Q : State → Prop} {g : State → ι → State} {i : ι} (hP : ∀ t j, P t → P (g t j))
    (hi : ∀ t, P t → Q (g t i)) (hQ : ∀ t j, Q t → Q (g t j)) {l : List ι} (hmem : i ∈ l) {s : State} (h : P s) : Q (l.foldl g s) := by
  obtain ⟨l₁, l₂, rfl⟩ := List.append_of_mem hmem
  rw [List.foldl_append, List.foldl_cons]
  exact State.foldl_inv Q l₂ g hQ _ (hi _ (State.foldl_inv P l₁ g hP s h))

/-- A part of the state that every step leaves alone. -/
theorem State.foldl_proj {ι β : Type} {p : State → β} {g : State → ι → State} (h : ∀ t i, p (g t i) = p t) (l : List ι) (s : State) :
    p (l.foldl g s) = p s :=
  State.foldl_inv (fun t => p t = p s) l g (fun t i ht => (h t i).trans ht) s rfl

/-! ## What leaves the MACs alone -/

theorem TaskEffect.mac {s t : State} : TaskEffect s t → t.mac = s.mac := by
  rintro ⟨h, r, n, k, q, rfl⟩
  rfl

theorem State.ite_mac {c : Prop} [Decidable c] {a b s : State} (ha : a.mac = s.mac) (hb : b.mac = s.mac) :
    (if c then a else b).mac = s.mac := by
  split
  · exact ha
  · exact hb

section
variable (s : State)

@[simp] theorem State.watchOut_mac (qid n soj : Nat) : (s.watchOut qid n soj).mac = s.mac :=
  State.foldl_proj (p := State.mac) (fun _ _ => by dsimp only; split <;> rfl) _ s

@[simp] theorem State.cmdUnit_mac (fn tag : Nat) (u : Option Nat) : (s.cmdUnit fn tag u).mac = s.mac := rfl

theorem State.addStationFdb_mac (tenant sid addr : Nat) : (s.addStationFdb tenant sid addr).mac = s.mac := by
  unfold State.addStationFdb
  dsimp only
  split
  · exact State.ite_mac rfl rfl
  · exact State.ite_mac (s.inc_mac _) rfl

theorem State.addStationFdb_host (tenant sid addr : Nat) : (s.addStationFdb tenant sid addr).host = s.host := by
  unfold State.addStationFdb
  dsimp only
  split
  · split <;> rfl
  · split
    · exact s.inc_host _
    · rfl

@[simp] theorem State.dropStationRefs_mac (sid : Nat) : (s.dropStationRefs sid).mac = s.mac := by
  exact State.ite_mac rfl (State.postEvent_mac ..)

@[simp] theorem State.countPage_mac (slot reg : Nat) (high : Bool) : (s.countPage slot reg high).mac = s.mac := by
  unfold State.countPage
  split
  · exact s.inc_mac _
  · rfl

@[simp] theorem State.replayCheck_mac (slot gen idx pn : Nat) : (s.replayCheck slot gen idx pn).2.mac = s.mac := by
  unfold State.replayCheck
  extract_lets k mine last set
  split
  · exact State.ite_mac rfl (State.ite_mac rfl rfl)
  · exact s.countPage_mac ..

@[simp] theorem State.ingress_mac (src : Nat) (f : SrcFrame) : (s.ingress src f).mac = s.mac := by
  unfold State.ingress
  refine State.ite_mac ?_ (State.ite_mac (s.inc_mac _) rfl)
  cases srcUnit src <;> rfl

@[simp] theorem State.toHost_mac (m : RxMpdu) (sid : Option Nat) (status : Nat) : (s.toHost m sid status).mac = s.mac :=
  (s.deliverMac_effect ..).mac

@[simp] theorem State.deliverMsdus_mac (m : RxMpdu) (sid : Option Nat) : (s.deliverMsdus m sid).mac = s.mac :=
  State.foldl_proj (p := State.mac) (fun _ _ => State.ite_mac (State.inc_mac ..) (State.ingress_mac ..)) _ s

@[simp] theorem State.releaseMpdu_mac (m : RxMpdu) (sid slot : Option Nat) : (s.releaseMpdu m sid slot).mac = s.mac := by
  unfold State.releaseMpdu
  extract_lets ok
  have hok : ok.2.mac = s.mac := by
    unfold ok
    split <;> simp
  exact State.ite_mac hok (State.ite_mac ((State.toHost_mac ..).trans hok) ((State.deliverMsdus_mac ..).trans hok))

/-! ## Stations (R207) -/

theorem State.sta_of_mac {s t : State} (h : t.mac = s.mac) (sid : Nat) : t.sta sid = s.sta sid := by
  rw [State.sta, h, State.sta]

theorem State.sta_of_stas {s t : State} (h : t.mac.stas = s.mac.stas) (sid : Nat) : t.sta sid = s.sta sid := by
  rw [State.sta, h, State.sta]

theorem State.sta_modSta (sid : Nat) (f : Sta → Sta) : (s.modSta sid f).sta sid = (s.sta sid).map f := Tab.get?_upd_self ..

theorem State.sta_modSta_ne {sid k : Nat} (f : Sta → Sta) (h : k ≠ sid) : (s.modSta sid f).sta k = s.sta k := Tab.get?_upd_ne _ _ h

theorem State.sta_modSta_proj {β : Type} {p : Sta → β} {f : Sta → Sta} (h : ∀ x, p (f x) = p x) (sid k : Nat) :
    ((s.modSta sid f).sta k).map p = (s.sta k).map p := by
  by_cases hk : k = sid
  · subst hk
    rw [State.sta_modSta, Option.map_map]
    exact congrArg (Option.map · _) (funext h)
  · rw [s.sta_modSta_ne f hk]

@[simp] theorem State.sta_complete (fn tag status result sid : Nat) : (s.complete fn tag status result).sta sid = s.sta sid :=
  State.sta_of_mac (s.complete_mac ..) sid

@[simp] theorem State.sta_postEvent (code : Nat) (b : List Byte) (vfs : List Nat) (sid : Nat) :
    (s.postEvent code b vfs).sta sid = s.sta sid := State.sta_of_mac (s.postEvent_mac ..) sid

theorem State.sta_of_live {s : State} {sid : Nat} {x : Sta} (h : s.liveSta sid = some x) : s.sta sid = some x :=
  (Option.filter_eq_some_iff.mp h).1

/-! ## Frames (R225, R227) -/

theorem State.frame_modFrame (id : Nat) (f : Frame → Frame) :
    Tab.get? (s.modFrame id f).mac.frames id = (Tab.get? s.mac.frames id).map f := Tab.get?_upd_self ..

theorem State.frame_modFrame_ne {id k : Nat} (f : Frame → Frame) (h : k ≠ id) :
    Tab.get? (s.modFrame id f).mac.frames k = Tab.get? s.mac.frames k := Tab.get?_upd_ne _ _ h

/-- A frame's end takes it from its queue and touches nothing else of the MACs. -/
theorem State.endFrame_mac (id status : Nat) :
    (s.endFrame id status).mac = { s.mac with frames := Tab.del s.mac.frames id } := by
  unfold State.endFrame
  split
  next h => rw [Tab.del_of_get?_none h]
  · dsimp only
    split
    · exact State.complete_mac ..
    · rfl

theorem State.dropAt_mac (id status : Nat) (cnt : FieldRef) :
    (s.dropAt id status cnt).mac = { s.mac with frames := Tab.del s.mac.frames id } := by
  rw [State.dropAt, State.endFrame_mac, State.inc_mac]

theorem State.barAfter_frames (f : Frame) : (s.barAfter f).mac.frames = s.mac.frames := by
  unfold State.barAfter
  split <;> rfl

@[simp] theorem State.endFrame_stas (id status : Nat) : (s.endFrame id status).mac.stas = s.mac.stas := by rw [State.endFrame_mac]

end

end Sys2Proof.Machine

end

section
/-! PROOFS. Agreements: what their ends and the moves of a receive window make of a station (08 R226, R228, R229). -/

namespace Sys2Proof.Machine

section
variable (s : State)

/-- A receive window that starts at another SN: what it passed is neither held nor missing any more (R229). -/
def RxBa.passed (a : RxBa) (to_ : Nat) : RxBa :=
  let gone := snRange a.start ((to_ + 4096 - a.start) % 4096)
  { a with
    start := to_ % 4096
    held := Tab.keep a.held fun k _ => !gone.contains k
    got := a.got.filter fun k => !gone.contains k
    holes := Tab.keep a.holes fun k _ => !gone.contains k }

/-- The release of what a window passed leaves the MACs as the move made them. -/
theorem State.moveWindow_mac {sid tid : Nat} {x : Sta} {a : RxBa} (hx : s.sta sid = some x) (ha : Tab.get? x.rxBa tid = some a) (to_ : Nat) :
    (s.moveWindow sid tid to_).mac
      = (s.modSta sid fun x => { x with rxBa := Tab.put x.rxBa tid (a.passed to_) }).mac := by
  unfold State.moveWindow
  rw [hx]
  dsimp only
  rw [ha]
  exact State.foldl_proj (p := State.mac) (fun t m => t.releaseMpdu_mac ..) _ _

/-- Without an agreement there is no window to move. -/
theorem State.moveWindow_of_none {sid tid : Nat} (h : (s.sta sid).bind (fun x => Tab.get? x.rxBa tid) = none) (to_ : Nat) :
    s.moveWindow sid tid to_ = s := by
  unfold State.moveWindow
  split
  · rfl
  next x hx =>
    rw [hx, Option.bind_some] at h
    rw [h]

/-- The end of a receive agreement takes it from its station. -/
theorem State.endRxBa_sta (sid tid : Nat) :
    (s.endRxBa sid tid).sta sid = (s.sta sid).map fun x => { x with rxBa := Tab.del x.rxBa tid } := by
  unfold State.endRxBa
  cases hx : s.sta sid with
  | none => exact hx
  | some x =>
    rw [Option.bind_some]
    split
    next ha => rw [hx, Option.map_some, Tab.del_of_get?_none ha]
    next a ha =>
      rw [State.sta_modSta, State.sta_of_mac (s.moveWindow_mac hx ha _), State.sta_modSta, hx]
      simp [Tab.del_put]

theorem State.moveWindow_frames (sid tid to_ : Nat) : (s.moveWindow sid tid to_).mac.frames = s.mac.frames := by
  cases h : (s.sta sid).bind (fun x => Tab.get? x.rxBa tid) with
  | none => rw [s.moveWindow_of_none h]
  | some a =>
    obtain ⟨x, hx, ha⟩ := Option.bind_eq_some_iff.mp h
    rw [s.moveWindow_mac hx ha]
    rfl

theorem State.endRxBa_frames (sid tid : Nat) : (s.endRxBa sid tid).mac.frames = s.mac.frames := by
  unfold State.endRxBa
  split
  · rfl
  · exact s.moveWindow_frames ..

/-- A station without one of its agreements (R226): direction 0 transmit, any other receive. -/
def Sta.without (x : Sta) (tid dir : Nat) : Sta :=
  if dir = 1 then { x with rxBa := Tab.del x.rxBa tid } else { x with txBa := Tab.del x.txBa tid }

theorem State.endAgreement_sta (sid tid dir cause : Nat) :
    (s.endAgreement sid tid dir cause).sta sid = (s.sta sid).map fun x => x.without tid dir := by
  unfold State.endAgreement Sta.without
  rw [State.sta_postEvent]
  split
  · exact s.endRxBa_sta ..
  · exact s.sta_modSta ..

theorem State.endAgreement_frames (sid tid dir cause : Nat) : (s.endAgreement sid tid dir cause).mac.frames = s.mac.frames := by
  unfold State.endAgreement
  rw [State.postEvent_mac]
  split
  · exact s.endRxBa_frames ..
  · rfl

theorem State.foldl_endAgreement_sta (sid dir cause : Nat) (l : List Nat) :
    (l.foldl (fun s t => s.endAgreement sid t dir cause) s).sta sid = (s.sta sid).map fun x => l.foldl (fun x t => x.without t dir) x := by
  induction l generalizing s with
  | nil => simp
  | cons t l ih => simp [ih, s.endAgreement_sta, Function.comp_def]

theorem Sta.foldl_without_tx (x : Sta) (l : List Nat) :
    l.foldl (fun x t => x.without t 0) x = { x with txBa := l.foldl Tab.del x.txBa } := by
  induction l generalizing x with
  | nil => rfl
  | cons t l ih => exact ih _

theorem Sta.foldl_without_rx (x : Sta) (l : List Nat) :
    l.foldl (fun x t => x.without t 1) x = { x with rxBa := l.foldl Tab.del x.rxBa } := by
  induction l generalizing x with
  | nil => rfl
  | cons t l ih => exact ih _

/-- An agreement that is set stands in the station from the SN given on (R226). -/
theorem State.setBa_tx {sid : Nat} {x : Sta} (h : s.sta sid = some x) (tid size sn : Nat) :
    ((s.setBa sid tid 0 size sn).sta sid).bind (fun y => Tab.get? y.txBa tid) = some { size := size, start := sn } := by
  rw [State.setBa, if_pos rfl, State.sta_modSta, h]
  exact Tab.get?_put_self ..

theorem State.setBa_rx {sid : Nat} {x : Sta} (h : s.sta sid = some x) (tid size sn : Nat) :
    ((s.setBa sid tid 1 size sn).sta sid).bind (fun y => Tab.get? y.rxBa tid) = some { size := size, start := sn } := by
  rw [State.setBa, if_neg (by decide), State.sta_modSta, s.endRxBa_sta, h]
  exact Tab.get?_put_self ..

end

end Sys2Proof.Machine

end

section
/-! PROOFS. The commands of the MACs: frames, stations, agreements, TWT and Deterministic flows (08 R210, R211, R221, R224, R226, R232
to R234). -/

namespace Sys2Proof.Machine

/-! ## Admission of one of an opcode's rows (13 R380) -/

section
variable {s : State} {fn tag opcode : Nat} {c : Cmd} {sel may gatedFor : Cmd → Bool}

theorem State.runCmdIf_of_offered (act : Cmd → State → State) (ho : Offered s fn tag opcode c) (hsel : sel c = true) (hm : may c = true)
    (hg : gatedFor c = false) : s.runCmdIf fn tag opcode sel may gatedFor act = act c s := by
  unfold State.runCmdIf
  rw [ho.1]
  dsimp only
  rw [if_pos hsel, State.runCmd_of_offered act ho hm hg]

theorem State.runCmdIf_of_gated (act : Cmd → State → State) (ho : Offered s fn tag opcode c) (hsel : sel c = true) (hm : may c = true)
    (hg : gatedFor c = true) : s.runCmdIf fn tag opcode sel may gatedFor act = s.complete fn tag 0x0D := by
  unfold State.runCmdIf
  rw [ho.1]
  dsimp only
  rw [if_pos hsel, State.runCmd_of_gated act ho hm hg]

end

/-- Every MAC has its clock. -/
theorem State.macGated_of_clocked {s : State} (h7 : s.gated 7 = false) (h8 : s.gated 8 = false) (h9 : s.gated 9 = false) (r : Nat) :
    s.macGated r = false := by
  unfold State.macGated
  by_cases hr : r < 3
  · interval_cases r <;> simp [h7, h8, h9]
  · simp [hr]

/-! ## The entry of a completion (13 R383) -/

theorem State.moderate_cqes (s : State) (f kind n : Nat) (now : Bool) : (s.moderate f kind n now).host.cqes = s.host.cqes := by
  unfold State.moderate
  dsimp only
  split <;> rfl

theorem State.postCompletion_entry (s : State) (c : Cmd) (status result : Nat) :
    ∃ e, Tab.get? (s.postCompletion c status result).1.host.cqes (ringKey c.fn 0 c.cq * 4096 + (s.ring (ringKey c.fn 0 c.cq)).tail) = some e
      ∧ e.status = status ∧ e.result = result % 2 ^ 32 := by
  unfold State.postCompletion
  dsimp only
  rw [State.moderate_cqes]
  exact ⟨_, Tab.get?_put_self .., rfl, rfl⟩

/-- A completion is entered at the tail of its command's CQ. -/
theorem State.complete_entry {s : State} {fn tag : Nat} {c : Cmd} (hc : s.cmd? fn tag = some c) (hop : c.opcode ≠ 0x0610) (status result : Nat) :
    ∃ e, Tab.get? (s.complete fn tag status result).host.cqes (ringKey fn 0 c.cq * 4096 + (s.ring (ringKey fn 0 c.cq)).tail) = some e
      ∧ e.status = status ∧ e.result = result % 2 ^ 32 := by
  have hfn : c.fn = fn := by
    have h := List.find?_some hc
    simp only [Bool.and_eq_true, beq_iff_eq] at h
    exact h.1.1
  obtain ⟨e, he, hst, hres⟩ := s.postCompletion_entry c status result
  rw [hfn] at he
  refine ⟨e, ?_, hst, hres⟩
  unfold State.complete
  rw [hc]
  simp only [hop, decide_false, Bool.false_and, Bool.false_eq_true, if_false]
  rw [← he]
  generalize (s.postCompletion c status result).1 = t
  show Tab.get? (State.host _).cqes _ = _
  split <;> split <;> simp [State.mapCmds, State.countReject]

/-! ## MAC_TX (R233) -/

/-- The frame that MAC_TX queues for a station on one radio, without a launch time. -/
def State.txFrame (s : State) (fn tag r air : Nat) (c : Cmd) (body : List Byte) : Frame :=
  { sid := c.le 16 2, bss := c.b 18, radios := 2 ^ r, tid := c.b 20 % 16, kind := 0, flags := c.b 21
    cmd := some (fn, tag), body := body, launch := 0, air := air, enq := s.elapsed, enqNt := s.ntNs
    life := if c.le 40 4 = 0 then s.classLife r (s.classOf ((s.staTenant (c.le 16 2)).getD 0) (aciOf (c.b 20 % 16))) else us (c.le 40 4)
    queue := 4 * (c.le 16 2) + aciOf (c.b 20 % 16), cells := 0, tenant := (s.staTenant (c.le 16 2)).getD 0, src := 0 }

/-- A frame enters the queues of the MACs. -/
def State.queueFrame (s : State) (f : Frame) : State :=
  { s with mac := { s.mac with frames := Tab.put s.mac.frames s.mac.nextFrame f, nextFrame := s.mac.nextFrame + 1 } }

section
variable {s : State} {fn tag r air : Nat} {c : Cmd} {body : List Byte} {x : Sta}

/-- A links map of one radio. -/
theorem bitOf_two_pow_self (r : Nat) : bitOf (2 ^ r) r = true := by
  simp [bitOf]

theorem soleRadio_two_pow (hr : r < 3) : soleRadio (2 ^ r) = some r := by
  interval_cases r <;> decide

theorem bitMap_sole_link (hr : r < 3) (p : Nat → Bool) (hp : p r = true) : bitMap 3 (fun q => bitOf (2 ^ r) q && p q) = 2 ^ r := by
  interval_cases r <;> simp [bitMap, List.range_succ, bitOf, hp]

theorem filter_bitOf_single (hr : r < 3) : [0, 1, 2].filter (bitOf (2 ^ r)) = [r] := by
  interval_cases r <;> decide

/-- A data frame for a station that has a link on the one radio it may go on. -/
theorem macTx_of_queued (ho : Offered s fn tag 0x0610 c) (hsid : c.le 16 2 ≠ 0xFFFF) (hm : s.mayNameSta fn (c.le 16 2) = true) (hr : r < 3)
    (hb : c.b 19 = 2 ^ r) (hg : s.gated (7 + r) = false) (hok : s.macTxOk c = true) (hk : c.b 20 / 16 = 0) (hl : c.le 32 8 = 0)
    (hx : s.liveSta (c.le 16 2) = some x) (hlink : (x.linkOn r).isSome) (hs : s.inService (.radio r) = true) :
    macTx fn tag (some body) air s = (s.takeUp fn tag (some r)).queueFrame (s.txFrame fn tag r air c body) := by
  have hgate : s.macGated r = false := by simp [State.macGated, hg]
  have hnamed := bitMap_sole_link hr (fun q => (some x).any fun x => (x.linkOn q).isSome) (by simpa using hlink)
  unfold macTx
  rw [State.runCmd_of_offered _ ho (by simp [hsid, hm])]
  · have hgroup : (c.le 16 2 == 0xFFFF) = false := by simpa using hsid
    simp only [hgroup, hb, hx, hnamed, hk, hl, filter_bitOf_single hr, Bool.false_eq_true, if_false, Nat.zero_ne_one]
    simp [hok, hs, soleRadio_two_pow hr, State.queueFrame, State.txFrame]
  · simp only [hb, Bool.and_eq_false_iff, List.all_eq_false]
    exact .inl ⟨r, by interval_cases r <;> simp, by simp [bitOf_two_pow_self, hgate]⟩

/-- A frame for no station in service. -/
theorem macTx_of_no_station (ho : Offered s fn tag 0x0610 c) (hsid : c.le 16 2 ≠ 0xFFFF) (hm : s.mayNameSta fn (c.le 16 2) = true)
    (h7 : s.gated 7 = false) (h8 : s.gated 8 = false) (h9 : s.gated 9 = false) (hok : s.macTxOk c = true)
    (hx : s.liveSta (c.le 16 2) = none) : macTx fn tag (some body) air s = s.complete fn tag 0x3A := by
  have hgroup : (c.le 16 2 == 0xFFFF) = false := by simpa using hsid
  unfold macTx
  rw [State.runCmd_of_offered _ ho (by simp [hsid, hm])]
  · simp [hgroup, hx, hok]
  · simp +contextual [State.macGated_of_clocked h7 h8 h9]

end

/-! ## MAC_STA_ADD (R210, R234) -/

/-- The station that MAC_STA_ADD enters. -/
def addedSta (c : Cmd) : Sta :=
  { addr := c.le 20 6, multi := bitOf (c.b 19) 1, links := (List.range (c.b 18)).map (staLinkOf c), ps := bitOf (c.b 19) 0
    keySlot := if c.le 26 2 = 0xFFFF then none else some (c.le 26 2) }

/-- The state with that station, and with its links' addresses in the forwarding tables. -/
def State.addSta (s : State) (c : Cmd) : State :=
  ((List.range (c.b 18)).map (staLinkOf c)).foldl (fun s l => s.addStationFdb (s.bssTenant l.radio l.bss) (c.le 16 2) l.addr)
    { s with mac := { s.mac with stas := Tab.put s.mac.stas (c.le 16 2) (addedSta c) } }

section
variable {s : State} {tag : Nat} {c : Cmd}

theorem State.addSta_stas (s : State) (c : Cmd) : (s.addSta c).mac.stas = Tab.put s.mac.stas (c.le 16 2) (addedSta c) :=
  congrArg MacSt.stas (State.foldl_proj (p := State.mac) (fun t _ => t.addStationFdb_mac ..) _ _)

theorem State.addSta_host (s : State) (c : Cmd) : (s.addSta c).host = s.host :=
  State.foldl_proj (p := State.host) (fun t _ => t.addStationFdb_host ..) _ _

theorem staLimit_le (mode : Nat) : staLimit mode ≤ 8192 := by
  unfold staLimit
  split <;> decide

theorem staAdd_of_fits (ho : Offered s 0 tag 0x0620 c) (hok : s.staAddOk c = true) (h7 : s.gated 7 = false) (h8 : s.gated 8 = false)
    (h9 : s.gated 9 = false) (hsid : c.le 16 2 < 8192) (hnew : Tab.has s.mac.stas (c.le 16 2) = false)
    (hroom : s.mac.stas.length < staLimit s.limitMode)
    (haddr : s.mac.stas.any (fun e => (e.2.addr :: e.2.links.map (·.addr)).any
      (fun a => a == c.le 20 6 || ((List.range (c.b 18)).map (staLinkOf c)).any (fun l => l.addr == a))) = false)
    (haid : ((List.range (c.b 18)).map (staLinkOf c)).any (fun l => decide (s.get ⟨bssCfg l.radio l.bss, 21, 11⟩ < l.aid)
      || s.mac.stas.any (fun e => e.2.links.any (fun m => m.radio == l.radio && m.bss == l.bss && m.aid == l.aid))) = false) :
    staAdd 0 tag s = (s.addSta c).complete 0 tag 0 (c.le 16 2) := by
  have hlim := staLimit_le s.limitMode
  unfold staAdd
  rw [State.runCmd_of_offered _ ho rfl (by simp [State.macGated_of_clocked h7 h8 h9])]
  extract_lets ls want addr sid addrs
  have hs : (if 8192 ≤ s.mac.stas.length then none else sid) = some want := by
    rw [if_neg (by omega)]
    simp only [sid]
    rw [if_neg (by unfold want; omega), if_neg (by simp [want, hnew])]
  rw [if_neg (by simp [hok]), hs]
  dsimp only
  rw [if_neg (by omega), if_neg (by rw [haddr]; decide), if_neg (by rw [haid]; decide), if_neg (by simp)]
  rfl

end

/-! ## MAC_STA_DEL (R211) -/

section
variable {s : State} {fn tag sid : Nat} {c : Cmd} {x : Sta}

/-- The end of a frame that no launch has taken (R211). -/
def State.removeFrame (s : State) (id : Nat) : State :=
  if (Tab.get? s.mac.frames id).any (fun f => f.cmd.isNone) then s.dropAt id 0x43 (pktCnt 3 true) else s.endFrame id 0x43

theorem State.removeFrame_mac (s : State) (id : Nat) :
    (s.removeFrame id).mac = { s.mac with frames := Tab.del s.mac.frames id } := by
  unfold State.removeFrame
  split
  · exact s.dropAt_mac ..
  · exact s.endFrame_mac ..

theorem State.foldl_removeFrame_mac (l : List Nat) (s : State) :
    (l.foldl State.removeFrame s).mac = { s.mac with frames := l.foldl Tab.del s.mac.frames } := by
  induction l generalizing s with
  | nil => rfl
  | cons id l ih => rw [List.foldl_cons, ih, s.removeFrame_mac]; rfl

/-- The state in which MAC_STA_DEL has ended the station's frames and agreements. -/
def State.unbound (s : State) (fn tag sid : Nat) (x : Sta) : State :=
  x.rxBa.keys.foldl (fun s t => s.endAgreement sid t 1 2) <|
    x.txBa.keys.foldl (fun s t => s.endAgreement sid t 0 2) <|
      ((s.mac.frames.filter (fun e => e.2.sid == sid && e.2.taken.isNone)).map (·.1)).foldl State.removeFrame <|
        (s.takeUp fn tag).modSta sid fun x => { x with deleting := true, delCmd := some (fn, tag) }

theorem State.unbound_sta (h : s.sta sid = some x) :
    (s.unbound fn tag sid x).sta sid = some { x with deleting := true, delCmd := some (fn, tag), txBa := [], rxBa := [] } := by
  have hstas (l : List Nat) (u : State) : (l.foldl State.removeFrame u).sta sid = u.sta sid :=
    State.sta_of_stas (congrArg MacSt.stas (State.foldl_removeFrame_mac l u) :) sid
  have htake : (s.takeUp fn tag).sta sid = some x := h
  rw [State.unbound, State.foldl_endAgreement_sta, State.foldl_endAgreement_sta, hstas, State.sta_modSta, htake]
  simp [Sta.foldl_without_tx, Sta.foldl_without_rx, Tab.foldl_del_keys]

theorem State.unbound_frames (s : State) : (s.unbound fn tag sid x).mac.frames
    = ((s.mac.frames.filter (fun e => e.2.sid == sid && e.2.taken.isNone)).map (·.1)).foldl Tab.del s.mac.frames := by
  have hend (dir : Nat) (l : List Nat) (u : State) : (l.foldl (fun s t => s.endAgreement sid t dir 2) u).mac.frames = u.mac.frames :=
    State.foldl_proj (p := fun s => s.mac.frames) (fun t i => t.endAgreement_frames ..) l u
  rw [State.unbound, hend, hend, State.foldl_removeFrame_mac]
  rfl

/-- No frame of the station waits any more. -/
theorem State.unbound_waits (s : State) :
    (s.unbound fn tag sid x).mac.frames.any (fun e => e.2.sid == sid && e.2.taken.isNone) = false := by
  rw [State.unbound_frames, List.any_eq_false]
  intro e he hw
  rw [Tab.foldl_del, List.mem_filter] at he
  obtain ⟨hmem, hkey⟩ := he
  simp only [Bool.not_eq_true', List.contains_eq_mem, decide_eq_false_iff_not] at hkey
  exact hkey (List.mem_map.mpr ⟨e, List.mem_filter.mpr ⟨hmem, hw⟩, rfl⟩)

/-- Where the station is in service, MAC_STA_DEL also pads its planned RUs and drops its flows and its channel state. -/
theorem staDel_of_live (ho : Offered s fn tag 0x0621 c) (hm : s.mayNameSta fn (c.le 16 2) = true) (hg : s.staGated (c.le 16 2) = false)
    (hok : c.reservedOk [(16, 2)] = true) (hx : s.liveSta (c.le 16 2) = some x) :
    ∃ plan, staDel fn tag s = { s.unbound fn tag (c.le 16 2) x with mac := { (s.unbound fn tag (c.le 16 2) x).mac with
      plan := plan
      flows := Tab.keep (s.unbound fn tag (c.le 16 2) x).mac.flows fun _ f => f.sid != c.le 16 2
      csi := Tab.keep (s.unbound fn tag (c.le 16 2) x).mac.csi fun k _ => k / 4 != c.le 16 2 } } := by
  unfold staDel
  rw [State.runCmd_of_offered _ ho hm hg]
  dsimp only
  rw [if_neg (by simp [hok]), hx]
  exact ⟨_, rfl⟩

/-- A station whose frames have all left is no more. -/
theorem staDelDone_stas (hx : s.sta sid = some x) (hd : x.deleting = true) (hf : s.mac.frames.any (fun e => e.2.sid == sid) = false) :
    (staDelDone sid s).mac.stas = Tab.del s.mac.stas sid := by
  unfold staDelDone
  rw [hx]
  dsimp only
  rw [if_neg (by simp [hd, hf])]
  split
  · split
    · split
      · rw [State.complete_mac, State.dropStationRefs_mac]
      · rw [State.dropStationRefs_mac]
    · rw [State.dropStationRefs_mac]
  · rw [State.dropStationRefs_mac]

theorem staDelDone_of_frames (hf : s.mac.frames.any (fun e => e.2.sid == sid) = true) : staDelDone sid s = s := by
  unfold staDelDone
  split
  · rfl
  · exact if_pos (by simp [hf])

end

/-! ## No MAC of the station has its clock (02 R54; log 158) -/

section
variable {s : State} {fn tag : Nat} {c : Cmd} {x : Sta}

theorem State.staGated_of_links {sid : Nat} (hx : s.sta sid = some x) (hne : x.links ≠ [])
    (hl : x.links.all (fun l => s.macGated l.radio) = true) : s.staGated sid = true := by
  simp only [State.staGated, hx, hl, Bool.and_true, Bool.not_eq_true', List.isEmpty_eq_false_iff]
  exact hne

end

/-! ## MAC_BA (R226, R232) -/

section
variable {s : State} {fn tag : Nat} {c : Cmd} {x : Sta}

theorem baSet_of_fits (ho : Offered s fn tag 0x0622 c) (hsel : bitOf (c.b 19) 1 = false) (hm : s.mayNameSta fn (c.le 16 2) = true)
    (hg : s.staGated (c.le 16 2) = false) (hok : c.reservedOk [(16, 8)] = true) (hsid : c.le 16 2 < 8192) (htid : c.b 18 < 8)
    (hdir : c.b 19 ≤ 1) (hlo : 1 ≤ c.le 20 2) (hhi : c.le 20 2 ≤ 256) (hsn : c.le 22 2 < 4096) (hx : s.liveSta (c.le 16 2) = some x) :
    baSet fn tag s = (s.setBa (c.le 16 2) (c.b 18) (c.b 19) (c.le 20 2) (c.le 22 2)).complete fn tag 0 := by
  unfold baSet
  rw [State.runCmdIf_of_offered _ ho (by simp [hsel]) hm hg]
  dsimp only
  rw [if_neg (by simp [hok]; omega), hx]
  exact if_neg (by simp; omega)

/-- Both ways round. -/
theorem ite_bnot {α : Type} (b : Bool) (p q : α) : (if (!b) = true then p else q) = if b = true then q else p := by
  cases b <;> rfl

theorem baDelete_of_live (ho : Offered s fn tag 0x0622 c) (hsel : bitOf (c.b 19) 1 = true) (hm : s.mayNameSta fn (c.le 16 2) = true)
    (hg : s.staGated (c.le 16 2) = false) (hok : c.reservedOk [(16, 4)] = true) (hsid : c.le 16 2 < 8192) (htid : c.b 18 < 8)
    (hdir : c.b 19 ≤ 3) (hx : s.liveSta (c.le 16 2) = some x) :
    baDelete fn tag s = if (if c.b 19 % 2 = 0 then Tab.has x.txBa (c.b 18) else Tab.has x.rxBa (c.b 18)) = true
      then (s.endAgreement (c.le 16 2) (c.b 18) (c.b 19 % 2) 0).complete fn tag 0 else s.complete fn tag 0x44 := by
  unfold baDelete
  rw [State.runCmdIf_of_offered _ ho hsel hm hg]
  dsimp only
  rw [if_neg (by simp [hok]; omega), hx]
  exact ite_bnot ..

end

/-! ## MAC_TWT (R224, R232) -/

section
variable {s : State} {fn tag : Nat} {c : Cmd} {x : Sta}

/-- The interval that a placement gives is no longer than the one asked for. -/
theorem State.twtPlace_le {r cls want b : Nat} {g : Region} (h : s.twtPlace r cls want = some (b, g)) : b ≤ want := by
  have hmax (l : List Nat) (m : Nat) (hm : m ≤ want) (hl : ∀ n ∈ l, n ≤ want) : l.foldl Nat.max m ≤ want := by
    induction l generalizing m with
    | nil => exact hm
    | cons n l ih => exact ih _ (Nat.max_le.mpr ⟨hm, hl n (by simp)⟩) fun k hk => hl k (by simp [hk])
  unfold State.twtPlace at h
  extract_lets staged sl regions opts best recurs at h
  split at h
  · cases h
  obtain ⟨g', -, hb⟩ := Option.map_eq_some_iff.mp h
  obtain ⟨rfl, -⟩ := Prod.mk.inj hb
  exact hmax _ 0 (Nat.zero_le _) fun n hn => by simpa using (List.mem_filter.mp hn).2

/-- A setup that the checks of MAC_TWT take goes by the placement alone. -/
theorem twtSetup_of_checked (ho : Offered s fn tag 0x0623 c) (hm : s.mayNameSta fn (c.le 16 2) = true) (hg : s.macGated (c.b 18) = false)
    (hok : c.reservedOk [(16, 10)] = true) (hsid : c.le 16 2 < 8192) (hr : c.b 18 < 3) (hid : c.b 19 < 8) (hlo : 1024 ≤ c.le 20 4)
    (hhi : c.le 20 4 ≤ 13107200) (hdur : 256 ≤ c.le 24 2) (hu : s.unitStatus (.radio (c.b 18)) = none)
    (hx : s.liveSta (c.le 16 2) = some x) (hlink : (x.linkOn (c.b 18)).isSome) :
    twtSetup fn tag s = match s.twtPlace (c.b 18) (s.highClass ((s.staTenant (c.le 16 2)).getD 0)) (c.le 20 4 * 1000) with
      | none => s.complete fn tag 0x42
      | some (b, g) => (s.modSta (c.le 16 2) fun x =>
          { x with twt := Tab.put x.twt (c.b 18 * 8 + c.b 19) (s.twtOf (c.le 20 4) (c.le 24 2) b g) }).complete fn tag 0
            (s.twtOf (c.le 20 4) (c.le 24 2) b g).target := by
  have hsel : bitOf (c.b 19) 7 = false := by
    rw [bitOf, Nat.div_eq_of_lt (by omega)]
    rfl
  unfold twtSetup
  rw [State.runCmdIf_of_offered _ ho (by simp [hsel]) hm hg]
  dsimp only
  rw [if_neg (by simp [hok]; omega), hu]
  dsimp only
  rw [hx]
  dsimp only
  exact if_neg (by simpa [Option.isSome_iff_ne_none] using hlink)

theorem twtDelete_of_live (ho : Offered s fn tag 0x0623 c) (hsel : bitOf (c.b 19) 7 = true) (hm : s.mayNameSta fn (c.le 16 2) = true)
    (hg : s.macGated (c.b 18) = false) (hok : c.reservedOk [(16, 10)] = true) (hsid : c.le 16 2 < 8192) (hr : c.b 18 < 3)
    (hid : c.b 19 % 128 < 8) (hu : s.unitStatus (.radio (c.b 18)) = none) (hx : s.liveSta (c.le 16 2) = some x) :
    twtDelete fn tag s = if Tab.has x.twt (c.b 18 * 8 + c.b 19 % 8) = true
      then (s.modSta (c.le 16 2) fun x => { x with twt := Tab.del x.twt (c.b 18 * 8 + c.b 19 % 8) }).complete fn tag 0
      else s.complete fn tag 0x02 := by
  unfold twtDelete
  rw [State.runCmdIf_of_offered _ ho hsel hm hg]
  dsimp only
  rw [if_neg (by simp [hok]; omega), hu]
  dsimp only
  rw [hx]
  exact ite_bnot ..

end

theorem ite_isNone {α β : Type} (o : Option α) (p q : β) : (if o.isNone = true then p else q) = if o.isSome = true then q else p := by
  cases o <;> rfl

/-! ## MAC_DET_FLOW (R221, R232) -/

/-- The flow that MAC_DET_FLOW names. -/
def flowOf (c : Cmd) : DetFlow := ⟨c.le 16 2, c.b 18, c.b 19 == 0, c.le 22 2, c.le 24 2⟩

/-- A Deterministic flow takes a place of its radio. -/
def State.putFlow (s : State) (k : Nat) (f : DetFlow) : State :=
  { s with mac := { s.mac with flows := Tab.put s.mac.flows k f } }

/-- A MAC_DET_FLOW that the range checks of the flow's descriptor take, to a radio where the station has its link (R232). -/
structure FlowAsked (s : State) (fn tag : Nat) (c : Cmd) (x : Sta) : Prop where
  offered : Offered s fn tag 0x0624 c
  may : s.mayNameSta fn (c.le 16 2) = true
  clocked : s.macGated (c.b 20) = false
  reserved : c.reservedOk [(16, 5), (22, 4)] = true
  sid : c.le 16 2 < 8192
  tid : c.b 18 < 8
  dir : c.b 19 % 128 ≤ 1
  radio : c.b 20 < 3
  status : s.unitStatus (.radio (c.b 20)) = none
  live : s.liveSta (c.le 16 2) = some x
  link : (x.linkOn (c.b 20)).isSome

section
variable {s : State} {fn tag : Nat} {c : Cmd} {x : Sta}

/-- A new flow goes to the first free place of its radio, where there is one and the procedure fits it. -/
theorem detFlow_of_new (h : FlowAsked s fn tag c x) (hdir : c.b 19 ≤ 1) (hlo : 1 ≤ c.le 22 2) (hhi : c.le 22 2 ≤ 6400)
    (hphase : c.le 24 2 < c.le 22 2) (hwhole : (flowOf c).whole (slotsOf s.grid.sfLen s.limitMode) (slotNs s.limitMode / 32000) = true)
    (hnew : s.flowKeyOf (c.b 20) (c.le 16 2) (c.b 18) (c.b 19 == 0) = none) :
    detFlow fn tag s = match (List.range 64).find? (fun i => !((s.flowsOf (c.b 20)).any (fun e => e.1 == i))) with
      | none => s.complete fn tag 0x41
      | some i => if ((s.putFlow (c.b 20 * 64 + i) (flowOf c)).detFit (c.b 20) (s.grid.mode == 7) s.limitMode s.grid.sfLen
            ((s.putFlow (c.b 20 * 64 + i) (flowOf c)).flowsOf (c.b 20))).isSome
          then (s.putFlow (c.b 20 * 64 + i) (flowOf c)).complete fn tag 0 else s.complete fn tag 0x41 := by
  have hsel : bitOf (c.b 19) 7 = false := by
    rw [bitOf, Nat.div_eq_of_lt (by omega)]
    rfl
  unfold detFlow
  rw [State.runCmdIf_of_offered _ h.offered (by simp [hsel]) h.may h.clocked]
  extract_lets sid r f mode n old free
  have hrange := h.sid
  have htid := h.tid
  have hradio := h.radio
  have hf : f = flowOf c := rfl
  rw [if_neg (by simp [h.reserved, hf, hwhole, sid, r, mode, n]; simp [flowOf]; omega), h.status]
  dsimp only
  rw [h.live]
  dsimp only
  rw [if_neg (by simpa [Option.isSome_iff_ne_none] using h.link)]
  have hkey : s.flowKeyOf r sid f.tid f.down = none := hnew
  rw [hkey]
  have hfree : free = (List.range 64).find? (fun i => !((s.flowsOf (c.b 20)).any (fun e => e.1 == i))) := rfl
  rw [← hfree]
  cases free with
  | none => rfl
  | some i =>
    dsimp only
    exact ite_isNone ..

theorem detFlowDelete_of_live (h : FlowAsked s fn tag c x) (hsel : bitOf (c.b 19) 7 = true) :
    detFlowDelete fn tag s = match s.flowKeyOf (c.b 20) (c.le 16 2) (c.b 18) (c.b 19 % 2 == 0) with
      | none => s.complete fn tag 0x44
      | some k => ({ s with mac := { s.mac with flows := Tab.del s.mac.flows k } }).complete fn tag 0 := by
  have hrange := h.sid
  have htid := h.tid
  have hdir := h.dir
  have hradio := h.radio
  unfold detFlowDelete
  rw [State.runCmdIf_of_offered _ h.offered hsel h.may h.clocked]
  dsimp only
  rw [if_neg (by simp [h.reserved]; omega), h.status]
  dsimp only
  rw [h.live]
  dsimp only
  exact if_neg (by simpa [Option.isSome_iff_ne_none] using h.link)

end

/-- Settles O47, command by command, from what each row does once its checks hold. -/
theorem macCommands : Obligations.MacCommands := by
  refine ⟨fun fn tag r air c body x s ho hsid hm hr hb hg hok hk hl hx hlink hu hs => ?_,
    fun fn tag air c body s ho hsid hm h7 h8 h9 hok hx => ?_,
    fun tag c s ho hok h7 h8 h9 hsid hnew hroom haddr haid => ?_, fun fn tag c x s ho hm hg hok hx => ?_,
    fun fn tag c x s hx hne hl hm => ⟨fun ho => ?_, fun ho hsel => ?_, fun ho hsel => ?_⟩, fun sid x s hx hd hf => ?_, fun sid s hf => ?_,
    fun fn tag c x s ho hsel hm hg hok hsid htid hdir hlo hhi hsn hx => ⟨?_, fun h0 => ?_⟩,
    fun fn tag c x s ho hsel hm hg hok hsid htid hdir hx => ?_,
    fun fn tag c x s ho hm hg hok hsid hr hid hlo hhi hdur hu hx hlink => ?_,
    fun fn tag c x s ho hsel hm hg hok hsid hr hid hu hx => ?_,
    fun fn tag i c x f s ho hm hg hf hok hsid htid hdir hr hlo hhi hphase hwhole hu hx hlink hnew hfree => ?_,
    fun fn tag c x s ho hm hg hok hsid htid hdir hr hlo hhi hphase hwhole hu hx hlink hnew hfull => ?_,
    fun fn tag c x s ho hsel hm hg hok hsid htid hdir hr hu hx hlink => ?_⟩
  · exact ⟨_, s.txFrame fn tag r air c body, congrArg Host.Outcome.next (macTx_of_queued ho hsid hm hr hb hg hok hk hl hx hlink hs),
      Tab.get?_put_self .., rfl, rfl, rfl, rfl, rfl, rfl, rfl, rfl, rfl, fun hlife => if_neg hlife, rfl,
      fun k hk => Tab.get?_put_ne _ _ hk, rfl, rfl⟩
  · exact congrArg Host.Outcome.next (macTx_of_no_station ho hsid hm h7 h8 h9 hok hx)
  · obtain ⟨e, he, hst, hres⟩ := State.complete_entry (s := s.addSta c) (fn := 0) (tag := tag) (c := c) (by
      rw [State.cmd?, s.addSta_host]; exact ho.1) (by rw [ho.2.1]; decide) 0 (c.le 16 2)
    have hsta (k : Nat) : ((s.addSta c).complete 0 tag 0 (c.le 16 2)).sta k = Tab.get? (Tab.put s.mac.stas (c.le 16 2) (addedSta c)) k := by
      rw [State.sta_complete, State.sta, s.addSta_stas]
    refine ⟨_, addedSta c, congrArg Host.Outcome.next (staAdd_of_fits ho hok h7 h8 h9 hsid hnew hroom haddr haid),
      (hsta _).trans (Tab.get?_put_self ..), rfl, rfl, rfl, rfl, rfl, rfl, fun k hk => (hsta k).trans (Tab.get?_put_ne _ _ hk), e, ?_, hst, ?_⟩
    · rw [← he, State.ring, State.ring, s.addSta_host]
    · rw [hres]
      omega
  · obtain ⟨plan, hrun⟩ := staDel_of_live ho hm hg hok hx
    refine ⟨_, _, congrArg Host.Outcome.next hrun, State.unbound_sta (State.sta_of_live hx), rfl, rfl, rfl, rfl, ?_, ?_, s.unbound_waits⟩
    · simp [Tab.keep, List.any_filter]
    · simp [Tab.keep, List.any_filter]
  · exact congrArg Host.Outcome.next (State.runCmd_of_gated _ ho hm (State.staGated_of_links hx hne hl))
  · exact congrArg Host.Outcome.next (State.runCmdIf_of_gated _ ho (by simp [hsel]) hm (State.staGated_of_links hx hne hl))
  · exact congrArg Host.Outcome.next (State.runCmdIf_of_gated _ ho hsel hm (State.staGated_of_links hx hne hl))
  · have hstas := staDelDone_stas hx hd hf
    refine ⟨_, rfl, ?_, fun k hk => ?_⟩
    · rw [State.sta, hstas, Tab.get?_del_self]
    · rw [State.sta, hstas, Tab.get?_del_ne _ hk, State.sta]
  · exact congrArg Host.Outcome.next (staDelDone_of_frames hf)
  · exact congrArg Host.Outcome.next (baSet_of_fits ho hsel hm hg hok hsid htid hdir hlo hhi hsn hx)
  · rw [h0]
    exact s.setBa_tx (State.sta_of_live hx) ..
  · exact congrArg Host.Outcome.next (baDelete_of_live ho hsel hm hg hok hsid htid hdir hx)
  · have hrun := twtSetup_of_checked ho hm hg hok hsid hr hid hlo hhi hdur hu hx hlink
    refine ⟨fun hplace => ?_, fun b g hplace => ?_⟩
    · rw [hplace] at hrun
      exact congrArg Host.Outcome.next hrun
    · rw [hplace] at hrun
      refine ⟨_, s.twtOf (c.le 20 4) (c.le 24 2) b g, congrArg Host.Outcome.next hrun, ?_, rfl, rfl, State.twtPlace_le hplace, rfl⟩
      rw [State.sta_complete, State.sta_modSta, State.sta_of_live hx]
      exact Tab.get?_put_self ..
  · exact congrArg Host.Outcome.next (twtDelete_of_live ho hsel hm hg hok hsid hr hid hu hx)
  · subst hf
    have hrun := detFlow_of_new ⟨ho, hm, hg, hok, hsid, htid, by omega, hr, hu, hx, hlink⟩ hdir hlo hhi hphase hwhole hnew
    rw [hfree] at hrun
    exact congrArg Host.Outcome.next hrun
  · have hrun := detFlow_of_new ⟨ho, hm, hg, hok, hsid, htid, by omega, hr, hu, hx, hlink⟩ hdir hlo hhi hphase hwhole hnew
    rw [List.find?_eq_none.mpr fun i hi => by simpa using List.all_eq_true.mp hfull i hi] at hrun
    exact congrArg Host.Outcome.next hrun
  · exact congrArg Host.Outcome.next (detFlowDelete_of_live ⟨ho, hm, hg, hok, hsid, htid, hdir, hr, hu, hx, hlink⟩ hsel)

end Sys2Proof.Machine

end

section
/-! PROOFS. Plans, content cut-offs, beacons and lifetimes (08 R213, R216 to R218, R227). -/

namespace Sys2Proof.Machine

/-! ## The plan freezes (R216, R217) -/

section
variable {s : State} {r : Nat}

theorem State.addPlan_eq (l : List Ppdu) (s : State) :
    ∃ plan, s.addPlan l = { s with mac := { s.mac with plan := plan, nextPpdu := s.mac.nextPpdu + l.length } } := by
  induction l generalizing s with
  | nil => exact ⟨s.mac.plan, rfl⟩
  | cons p l ih =>
    obtain ⟨plan, h⟩ := ih (s.addPlan [p])
    refine ⟨plan, h.trans ?_⟩
    simp [State.addPlan, Nat.add_comm, Nat.add_left_comm]

/-- Without a commit that is pending, the plan of the active bank is made for the next superframe. -/
theorem freeze_of_due (hr : r < 3) (hv : s.ntValid = true) (hs : s.inService (.radio r) = true) (hmode : s.grid.mode < 5)
    (hc : s.commitPending = false) (hf : Tab.get? s.mac.frozen r ≠ some s.nextBoundary) (hlead : s.nextBoundary ≤ s.ntNs + s.planLead r false) :
    (freeze r s).mac.frozen = Tab.put s.mac.frozen r s.nextBoundary ∧ (freeze r s).mac.frames = s.mac.frames
      ∧ (freeze r s).mac.dual = s.mac.dual
      ∧ (freeze r s).mac.nextPpdu = s.mac.nextPpdu + (s.planRadio r s.nextBoundary false s.grid.mode s.grid.sfLen).1.length
      ∧ (freeze r s).host = s.host := by
  unfold freeze
  extract_lets S serves pend lead a b s1 s2 src s3 s4
  have hserves : serves = true := by simp [serves, hs, hmode]
  have hpend : pend = false := by simp [pend, hc]
  have hlead' : lead = s.planLead r false := by simp [lead, hserves]
  have ha : a = s.planRadio r S false s.grid.mode s.grid.sfLen := by simp [a, hserves]
  have hb : b = ([], 0) := by simp [b, hpend]
  obtain ⟨plan, h1⟩ := s.addPlan_eq a.1
  have hs1 : s1 = s.addPlan a.1 := by simp [s1, hb, State.addPlan]
  have hmac : s2.mac = { s.mac with plan := plan, nextPpdu := s.mac.nextPpdu + a.1.length } := by rw [State.incBy_mac, hs1, h1]
  have hhost : s2.host = s.host := by rw [State.incBy_host, hs1, h1]
  rw [if_neg (by simp [hv, hr, hserves, hf, hlead', S]; omega), if_neg (by simp [hpend])]
  refine ⟨?_, ?_, ?_, ?_, hhost⟩ <;> simp [s4, State.soundAsked, s3, src, hmac, hpend, ha, S]

/-- The plan that is frozen stands. -/
theorem freeze_of_frozen (h : Tab.get? s.mac.frozen r = some s.nextBoundary) : freeze r s = s := if_pos (by simp [h])

end

/-! ## The content cut-off of a frame that names its launch (R218, R233) -/

/-- A frame takes the SN n of its station's counter, which goes on (R227). -/
def State.drawSn (s : State) (id : Nat) (f : Frame) (n : Nat) : State :=
  (s.modSta f.sid fun x => { x with sn := Tab.put x.sn f.tid ((n + 1) % 4096) }).modFrame id fun g => { g with sn := some n }

section
variable {s : State} {r id : Nat} {f : Frame} {sta : Sta}

theorem State.frame_drawSn (hf : Tab.get? s.mac.frames id = some f) (n : Nat) :
    Tab.get? (s.drawSn id f n).mac.frames id = some { f with sn := some n } := by
  rw [State.drawSn, State.frame_modFrame]
  exact congrArg (Option.map _) hf

theorem State.frame_drawSn_ne {k : Nat} (h : k ≠ id) (f : Frame) (n : Nat) :
    Tab.get? (s.drawSn id f n).mac.frames k = Tab.get? s.mac.frames k := State.frame_modFrame_ne _ _ h

/-- A management frame that the host sends in the clear needs no key. -/
theorem State.frameSlot_of_clear (hk : f.kind = 1) (hp : bitOf f.flags 2 = true) : s.frameSlot r f = none := if_pos (by simp [hk, hp])

/-- Its first cut-off draws its SN alone. -/
theorem State.firstCut_of_clear (hf : Tab.get? s.mac.frames id = some f) (hk : f.kind = 1) (hp : bitOf f.flags 2 = true) (hn : f.sn = none)
    (hsid : f.sid ≠ 0xFFFF) (hsta : s.sta f.sid = some sta) :
    s.firstCut r id = (true, s.drawSn id f (Tab.getD sta.sn f.tid 0 % 4096)) := by
  have hslot : s.frameSlot r f = none := State.frameSlot_of_clear hk hp
  unfold State.firstCut
  rw [hf]
  dsimp only
  rw [if_neg (by simp [hn]), if_neg (by simp [hslot]), if_neg (by simp [State.lacksKey, hk, hp]), hslot]
  dsimp only [Option.map_none, Option.getD_none]
  rw [if_neg (by simp), if_neg hsid, hsta]
  rfl


/-- A frame in the clear is never sealed. -/
theorem State.sealMpdu_of_clear (hf : Tab.get? s.mac.frames id = some f) (hk : f.kind = 1) (hp : bitOf f.flags 2 = true) :
    s.sealMpdu r id = s := by
  unfold State.sealMpdu
  rw [hf]
  dsimp only
  rw [State.frameSlot_of_clear hk hp]
  split
  next h => cases h
  · rfl

theorem State.takeFrame_frames (of_ : LaunchOf) (s : State) (id : Nat) :
    (s.takeFrame r of_ id).mac.frames = Tab.upd s.mac.frames id fun f => { f with taken := some (r, of_) } := by
  unfold State.takeFrame
  split
  next hf => exact (Tab.upd_of_get?_none hf _).symm
  next f hf =>
    dsimp only
    split
    · rw [State.cmdUnit_mac, State.watchOut_mac]
      rfl
    · rw [State.watchOut_mac]
      rfl

/-- The frame that a row's launch names is the first one of its command. -/
theorem find?_and_of {α : Type} {l : List α} {p q : α → Bool} {a : α} (h : l.find? p = some a) (hq : q a = true) :
    l.find? (fun x => p x && q x) = some a := by
  obtain ⟨hp, as, bs, rfl, has⟩ := List.find?_eq_some_iff_append.mp h
  exact List.find?_eq_some_iff_append.mpr ⟨by simp [hp, hq], as, bs, rfl, fun x hx => by simp [Bool.not_eq_true' _ ▸ has x hx]⟩

/-- What the cut-off of such a frame leaves of the frames. -/
theorem cutOff_of_single {fn tag t0 : Nat} {room : List Nat} (hs : s.inService (.radio r) = true) (hv : s.ntValid = true)
    (hfind : s.mac.frames.find? (fun e => e.2.cmd == some (fn, tag)) = some (id, f)) (hf : Tab.get? s.mac.frames id = some f)
    (hl : f.launch ≠ 0) (ht : f.taken = none) (hr : bitOf f.radios r = true) (hdue : f.launch ≤ s.ntNs + 10000) (he : s.expired f = false)
    (hd : f.dram = 0) (hk : f.kind = 1) (hp : bitOf f.flags 2 = true) (hn : f.sn = none) (hsid : f.sid ≠ 0xFFFF)
    (hsta : s.sta f.sid = some sta) :
    Tab.get? (cutOff r (.single fn tag) t0 room s).mac.frames id
        = some { f with sn := some (Tab.getD sta.sn f.tid 0 % 4096), taken := some (r, .single fn tag) }
      ∧ ∀ k, k ≠ id → Tab.get? (cutOff r (.single fn tag) t0 room s).mac.frames k = Tab.get? s.mac.frames k := by
  have hcut : cutOff r (.single fn tag) t0 room s = cutOne r (.single fn tag) id f.launch s := by
    unfold cutOff
    dsimp only
    rw [if_neg (by simp [hv]), if_neg (by simp [hs]), find?_and_of hfind (by simpa using hl), hfind]
    rfl
  have hone : cutOne r (.single fn tag) id f.launch s
      = ((s.drawSn id f (Tab.getD sta.sn f.tid 0 % 4096)).takeFrame r (.single fn tag) id).sealMpdu r id := by
    unfold cutOne
    rw [hf]
    dsimp only
    rw [if_neg (by simp [ht, hr]; omega), if_neg (by simp [he]), if_neg (by simp [hd]), State.firstCut_of_clear hf hk hp hn hsid hsta]
  have htaken : Tab.get? ((s.drawSn id f (Tab.getD sta.sn f.tid 0 % 4096)).takeFrame r (.single fn tag) id).mac.frames id
      = some { f with sn := some (Tab.getD sta.sn f.tid 0 % 4096), taken := some (r, .single fn tag) } := by
    rw [State.takeFrame_frames, Tab.get?_upd_self, State.frame_drawSn hf]
    rfl
  rw [hcut, hone, State.sealMpdu_of_clear htaken hk hp]
  exact ⟨htaken, fun k hk => by rw [State.takeFrame_frames, Tab.get?_upd_ne _ _ hk, State.frame_drawSn_ne hk]⟩

end

/-! ## Beacons (R213) -/

/-- t has the MACs and the boot controller of s. -/
structure SameMacBoot (s t : State) : Prop where
  mac : t.mac = s.mac
  boot : t.boot = s.boot

theorem SameMacBoot.refl (s : State) : SameMacBoot s s := ⟨rfl, rfl⟩

theorem SameMacBoot.trans {s t u : State} (h : SameMacBoot s t) (h' : SameMacBoot t u) : SameMacBoot s u :=
  ⟨h'.mac.trans h.mac, h'.boot.trans h.boot⟩

theorem SameMacBoot.ite {c : Prop} [Decidable c] {s a b : State} (ha : SameMacBoot s a) (hb : SameMacBoot s b) :
    SameMacBoot s (if c then a else b) := by
  split
  · exact ha
  · exact hb

theorem SameMacBoot.foldl {ι : Type} {l : List ι} {g : State → ι → State} (hg : ∀ s i, SameMacBoot s (g s i)) (s : State) :
    SameMacBoot s (l.foldl g s) := State.foldl_inv (SameMacBoot s) l g (fun t i h => h.trans (hg t i)) s (.refl s)

section
variable (s : State)

theorem State.keyEvent_sameMacBoot (slot action status : Nat) : SameMacBoot s (s.keyEvent slot action status) :=
  ⟨s.postEvent_mac .., s.postEvent_boot ..⟩

theorem State.setKeyFuse_keyEvent_sameMacBoot (k : Nat) (x : KeyFuse) (slot action status : Nat) :
    SameMacBoot s ((s.setKeyFuse k x).keyEvent slot action status) := ⟨State.postEvent_mac .., State.postEvent_boot ..⟩

theorem State.provision_sameMacBoot (b : List Byte) : SameMacBoot s (s.provision b) :=
  .ite (s.keyEvent_sameMacBoot ..) <| .ite (.ite (.refl s) (s.keyEvent_sameMacBoot ..)) (s.setKeyFuse_keyEvent_sameMacBoot ..)

theorem State.revoke_sameMacBoot (b : List Byte) : SameMacBoot s (s.revoke b) :=
  .ite (s.keyEvent_sameMacBoot ..) <| .ite (.refl s) (s.setKeyFuse_keyEvent_sameMacBoot ..)

theorem State.advanceRollback_sameMacBoot : SameMacBoot s s.advanceRollback := by
  unfold State.advanceRollback
  split
  · exact .ite ⟨State.postEvent_mac .., State.postEvent_boot ..⟩ (.refl s)
  · exact .refl s

/-- The image's first beacon is noted, and the fuse actions that follow touch neither the MACs nor the boot controller (03 R91). -/
theorem State.firstBeaconSent_notes (t : NT64) : (s.firstBeaconSent t).mac = s.mac ∧ (s.firstBeaconSent t).boot.firstBeacon
    = if s.boot.state = .run ∧ s.boot.firstBeacon = none then some t else s.boot.firstBeacon := by
  unfold State.firstBeaconSent
  extract_lets boot s1 s2 s3
  split
  next h =>
    rw [if_neg (by rintro ⟨hrun, hnone⟩; simp [hrun, hnone] at h)]
    exact ⟨rfl, rfl⟩
  next h =>
    simp only [Bool.or_eq_true, bne_iff_ne, ne_eq, not_or, not_not, Bool.not_eq_true, Option.isSome_eq_false_iff,
      Option.isNone_iff_eq_none] at h
    have h1 : s1.mac = s.mac ∧ s1.boot.firstBeacon = some t := by simp [s1, boot]
    have h2 : SameMacBoot s1 s2 := .foldl (fun s b => s.provision_sameMacBoot b) s1
    have h3 : SameMacBoot s2 s3 := .foldl (fun s b => s.revoke_sameMacBoot b) s2
    have h4 : SameMacBoot s1 s3.advanceRollback := (h2.trans h3).trans s3.advanceRollback_sameMacBoot
    rw [if_pos h, h4.mac, h4.boot]
    exact h1

end

section
variable {s : State} {r bss air b : Nat}

/-- The first BSS that is on and not yet served is next. -/
theorem State.beaconTurn_of_next (hon : s.bssOn r bss = true) (hnext : Tab.getD s.mac.beacons r 0 = bss) : s.beaconTurn r bss = true := by
  simp only [State.beaconTurn, hon, hnext, Nat.le_refl, decide_true, Bool.and_self, Bool.true_and, Bool.not_eq_true', List.any_eq_false]
  intro n hn
  simp [List.mem_range.mp hn]

/-- A BSS whose beacon is due in the superframe that started at b (R213). -/
structure BeaconDue (r bss b : Nat) (s : State) : Prop where
  service : s.inService (.radio r) = true
  valid : s.ntValid = true
  start : s.grid.start = some b
  mode : s.grid.mode < 5
  on : s.bssOn r bss = true
  next : Tab.getD s.mac.beacons r 0 = bss
  due : s.beaconAt r ≤ s.ntNs
  open_ : s.airClosed = false
  fresh : (s.radio r).launches.any (fun l => l.of_ == .beacon bss) = false

/-- A beacon that would overrun the BEACON region is passed over (R213). -/
theorem beaconGo_of_overrun (h : BeaconDue r bss b s)
    (hair : b + (s.beaconSlots r false).2 * slotNs s.grid.mode < s.beaconAt r + air) :
    beaconGo r bss air s
      = ({ s with mac := { s.mac with beacons := Tab.put s.mac.beacons r (bss + 1) } }).postEvent 0x6005 (items [r, bss]) := by
  have hmode := h.mode
  have hdue := h.due
  unfold beaconGo
  extract_lets t sl over_ set src next
  rw [if_neg (by simp [h.service, h.valid, h.open_, h.start, h.fresh, State.beaconTurn_of_next h.on h.next, t]; omega),
    if_pos (by simpa [over_, h.start] using hair)]

/-- One that fits is sent from chains that are ready. -/
theorem beaconGo_of_ready (h : BeaconDue r bss b s)
    (hair : s.beaconAt r + air ≤ b + (s.beaconSlots r false).2 * slotNs s.grid.mode) (hset : s.launchSet r ≠ [])
    (hecl : s.radioEclipsing r = false) (hlock : s.chainsLocked r (s.launchSet r) = true) :
    beaconGo r bss air s = (s.cutReception r).beaconSent r bss (s.beaconAt r) (s.beaconAt r + air) := by
  have hmode := h.mode
  have hdue := h.due
  unfold beaconGo
  extract_lets t sl over_ set src next
  rw [if_neg (by simp [h.service, h.valid, h.open_, h.start, h.fresh, State.beaconTurn_of_next h.on h.next, t]; omega),
    if_neg (by simpa [over_, h.start] using hair), if_neg (by simp [set, hset, hecl]), if_neg (by simp [set, hlock])]

theorem State.cutReception_boot (s : State) (r : Nat) : (s.cutReception r).boot = s.boot := by
  unfold State.cutReception
  extract_lets x
  split
  · have h := (s.drawMeasured_effect r).trans (State.postMetrics_effect (s.drawMeasured r).2 r (by decide : 0x34 ≠ 0) x.stamp 0 false
      (s.drawMeasured r).1)
    exact h.sameBoot.2
  · rfl

/-- What a beacon that is sent leaves. -/
theorem State.beaconSent_notes (s : State) (r bss t stop : Nat) :
    (s.beaconSent r bss t stop).mac.beacons = Tab.put s.mac.beacons r (bss + 1)
      ∧ (s.beaconSent r bss t stop).mac.beaconAir = Tab.put s.mac.beaconAir r (Tab.getD s.mac.beaconAir r [] ++ [(t, stop)])
      ∧ (s.beaconSent r bss t stop).boot.firstBeacon
        = if s.boot.state = .run ∧ s.boot.firstBeacon = none then some (BitVec.ofNat 64 t) else s.boot.firstBeacon := by
  unfold State.beaconSent
  rw [(State.firstBeaconSent_notes ..).1, (State.firstBeaconSent_notes ..).2]
  exact ⟨rfl, rfl, rfl⟩

end

/-! ## Lifetimes (R227; log 151) -/

/-- With a frame those of its A-MSDU go. -/
theorem State.dropLife_frames (s : State) (r id : Nat) :
    (s.dropLife r id).mac.frames = (id :: s.joinedTo id).foldl Tab.del s.mac.frames := by
  have h (l : List Nat) (t : State) : (l.foldl (fun (s : State) k => match Tab.get? s.mac.frames k with
      | some f => (s.barAfter f).dropAt k 0x3D (macCnt r 1 true)
      | none => s) t).mac.frames = l.foldl Tab.del t.mac.frames := by
    induction l generalizing t with
    | nil => rfl
    | cons k l ih =>
      rw [List.foldl_cons, List.foldl_cons, ih]
      congr 1
      split
      · rw [State.dropAt_mac, State.barAfter_frames]
      next hk => rw [Tab.del_of_get?_none hk]
  exact h _ s

theorem lifeOut_of_expired {s : State} {id : Nat} {f : Frame} (hf : Tab.get? s.mac.frames id = some f) (ht : f.taken = none)
    (hl : s.leadOf f = none) (he : s.expired f = true) :
    lifeOut id s = s.dropLife (([0, 1, 2].find? (bitOf f.radios)).getD 0) id := by
  unfold lifeOut
  rw [hf]
  exact if_neg (by simp [ht, hl, he])

end Sys2Proof.Machine

end

section
/-! PROOFS. The outcome of a launch: what it makes of the launches of the radio and of the frames that the launch took (08 R225, R227). -/

namespace Sys2Proof.Machine

/-! ## What the steps of an outcome touch -/

/-- t is s with other contents of the MACs, the host interface and the registers, and other counts. -/
def MacEffect (s t : State) : Prop := ∃ h r n k m, t = { s with host := h, regs := r, fresh := n, rejects := k, mac := m }

theorem MacEffect.refl (s : State) : MacEffect s s := ⟨s.host, s.regs, s.fresh, s.rejects, s.mac, rfl⟩

theorem MacEffect.trans {s t u : State} : MacEffect s t → MacEffect t u → MacEffect s u := by
  rintro ⟨h, r, n, k, m, rfl⟩ ⟨h', r', n', k', m', rfl⟩
  exact ⟨_, _, _, _, _, rfl⟩

theorem HostEffect.macEffect {s t : State} : HostEffect s t → MacEffect s t := by
  rintro ⟨h, r, n, k, rfl⟩
  exact ⟨h, r, n, k, s.mac, rfl⟩

theorem MacEffect.foldl {ι : Type} {l : List ι} {g : State → ι → State} (hg : ∀ s i, MacEffect s (g s i)) (s : State) :
    MacEffect s (l.foldl g s) := State.foldl_inv (MacEffect s) l g (fun t i h => h.trans (hg t i)) s (.refl s)

theorem MacEffect.ite {c : Prop} [Decidable c] {s a b : State} (ha : MacEffect s a) (hb : MacEffect s b) :
    MacEffect s (if c then a else b) := by
  split
  · exact ha
  · exact hb

theorem MacEffect.radio {s t : State} (r : Nat) : MacEffect s t → t.radio r = s.radio r := by
  rintro ⟨h, n, k, q, m, rfl⟩
  rfl

section
variable (s : State)

theorem State.modSta_macEffect (sid : Nat) (f : Sta → Sta) : MacEffect s (s.modSta sid f) := ⟨_, _, _, _, _, rfl⟩

theorem State.modFrame_macEffect (id : Nat) (f : Frame → Frame) : MacEffect s (s.modFrame id f) := ⟨_, _, _, _, _, rfl⟩

theorem State.endFrame_macEffect (id status : Nat) : MacEffect s (s.endFrame id status) := by
  unfold State.endFrame
  split
  · exact .refl s
  · dsimp only
    split
    · exact MacEffect.trans ⟨_, _, _, _, _, rfl⟩ (State.complete_effect ..).macEffect
    · exact ⟨_, _, _, _, _, rfl⟩

theorem State.dropAt_macEffect (id status : Nat) (cnt : FieldRef) : MacEffect s (s.dropAt id status cnt) :=
  (s.inc_effect cnt).macEffect.trans (State.endFrame_macEffect ..)

theorem State.barAfter_macEffect (f : Frame) : MacEffect s (s.barAfter f) := by
  unfold State.barAfter
  split
  · exact .refl s
  · exact s.modSta_macEffect ..

theorem State.returnFrame_macEffect (id : Nat) : MacEffect s (s.returnFrame id) := by
  unfold State.returnFrame
  split
  · exact .refl s
  refine .ite (.ite (s.dropAt_macEffect ..) (.ite (s.dropAt_macEffect ..) (s.endFrame_macEffect ..))) ?_
  dsimp only
  split
  · exact (s.modFrame_macEffect ..).trans ⟨_, _, _, _, _, rfl⟩
  · exact s.modFrame_macEffect ..

theorem State.unacked_macEffect (r id : Nat) : MacEffect s (s.unacked r id) := by
  unfold State.unacked
  split
  · exact .refl s
  · exact .ite (.ite (s.endFrame_macEffect ..) (s.dropAt_macEffect ..))
      (.ite ((s.barAfter_macEffect _).trans (State.dropAt_macEffect ..)) (s.returnFrame_macEffect id))

theorem State.notSent_macEffect (r id st : Nat) : MacEffect s (s.notSent r id st) := by
  unfold State.notSent
  split
  · exact .refl s
  · exact .ite ((s.modFrame_macEffect ..).trans (State.endFrame_macEffect ..))
      ((s.returnFrame_macEffect id).trans (State.inc_effect ..).macEffect)

theorem State.served_macEffect (r : Nat) (of_ : LaunchOf) (ids : List Nat) : MacEffect s (s.served r of_ ids) :=
  (MacEffect.foldl (fun s _ => s.modSta_macEffect ..) s).trans (.foldl (fun s _ => s.modSta_macEffect ..) _)

/-! ## Frames that are returned, or not acknowledged (R225, R227) -/

/-- A frame that is returned stands in its queue again. -/
theorem State.returnFrame_mac_of_kept {id : Nat} {f : Frame} (hf : Tab.get? s.mac.frames id = some f)
    (hk : (s.sta f.sid).any (fun x => x.deleting) = false) :
    (s.returnFrame id).mac = (s.modFrame id fun f => { f with taken := none }).mac := by
  unfold State.returnFrame
  rw [hf]
  dsimp only
  rw [if_neg (by simp [hk])]
  split <;> rfl

/-- One of a station that is being removed ends. -/
theorem State.returnFrame_mac (id : Nat) : (s.returnFrame id).mac = { s.mac with frames := Tab.del s.mac.frames id }
    ∨ (s.returnFrame id).mac = (s.modFrame id fun f => { f with taken := none }).mac := by
  cases hf : Tab.get? s.mac.frames id with
  | none =>
    refine .inl ?_
    unfold State.returnFrame
    rw [Tab.del_of_get?_none hf, hf]
  | some f =>
    by_cases hk : (s.sta f.sid).any (fun x => x.deleting) = true
    · refine .inl ?_
      unfold State.returnFrame
      rw [hf]
      dsimp only
      rw [if_pos hk]
      split
      · exact s.dropAt_mac ..
      split
      · exact s.dropAt_mac ..
      · exact s.endFrame_mac ..
    · exact .inr (s.returnFrame_mac_of_kept hf (by simpa using hk))

theorem State.returnFrame_frame_ne {id k : Nat} (h : k ≠ id) :
    Tab.get? (s.returnFrame id).mac.frames k = Tab.get? s.mac.frames k := by
  rcases s.returnFrame_mac id with hmac | hmac <;> rw [hmac]
  · exact Tab.get?_del_ne _ h
  · exact s.frame_modFrame_ne _ h

theorem State.returnFrame_stas (id : Nat) : (s.returnFrame id).mac.stas = s.mac.stas := by
  rcases s.returnFrame_mac id with hmac | hmac <;> rw [hmac]
  rfl

theorem State.unacked_frame_ne {r id k : Nat} (h : k ≠ id) :
    Tab.get? (s.unacked r id).mac.frames k = Tab.get? s.mac.frames k := by
  unfold State.unacked
  split
  · rfl
  split
  · split
    · rw [State.endFrame_mac, Tab.get?_del_ne _ h]
    · rw [State.dropAt_mac, Tab.get?_del_ne _ h]
  split
  · rw [State.dropAt_mac, State.barAfter_frames, Tab.get?_del_ne _ h]
  · exact s.returnFrame_frame_ne h

theorem State.notSent_frame_ne {r id st k : Nat} (h : k ≠ id) :
    Tab.get? (s.notSent r id st).mac.frames k = Tab.get? s.mac.frames k := by
  unfold State.notSent
  split
  · rfl
  split
  · rw [State.endFrame_mac, Tab.get?_del_ne _ h, s.frame_modFrame_ne _ h]
  · rw [State.inc_mac, s.returnFrame_frame_ne h]

theorem State.notSent_stas (r id st : Nat) : (s.notSent r id st).mac.stas = s.mac.stas := by
  unfold State.notSent
  split
  · rfl
  split
  · rw [State.endFrame_stas]
    rfl
  · rw [State.inc_mac, State.returnFrame_stas]

/-- A frame without a launch time of its own that was not sent is returned untouched (R225). -/
theorem State.notSent_frame {r id st : Nat} {f : Frame} (hf : Tab.get? s.mac.frames id = some f) (hl : f.launch = 0)
    (hk : (s.sta f.sid).any (fun x => x.deleting) = false) :
    Tab.get? (s.notSent r id st).mac.frames id = some { f with taken := none } := by
  unfold State.notSent
  rw [hf]
  dsimp only
  rw [if_neg (by simp [hl]), State.inc_mac, s.returnFrame_mac_of_kept hf hk, State.frame_modFrame, hf]
  rfl

/-- A launch not made returns every frame that it took. -/
theorem State.foldl_notSent_frame {r id st : Nat} {f : Frame} {ids : List Nat} (hid : id ∈ ids) (hf : Tab.get? s.mac.frames id = some f)
    (hl : f.launch = 0) (hk : (s.sta f.sid).any (fun x => x.deleting) = false) :
    Tab.get? (ids.foldl (fun s id => s.notSent r id st) s).mac.frames id = some { f with taken := none } := by
  have hkept (t : State) (j : Nat) : (t.notSent r j st).sta f.sid = t.sta f.sid := State.sta_of_stas (t.notSent_stas ..) _
  have hstep (t : State) (o : Option (Nat × LaunchOf)) (h : Tab.get? t.mac.frames id = some { f with taken := o })
      (hd : (t.sta f.sid).any (fun x => x.deleting) = false) :
      Tab.get? (t.notSent r id st).mac.frames id = some { f with taken := none } := t.notSent_frame (f := { f with taken := o }) h hl hd
  refine (State.foldl_reaches (i := id) (g := fun s id => s.notSent r id st)
    (P := fun t => (∃ o, Tab.get? t.mac.frames id = some { f with taken := o })
      ∧ (t.sta f.sid).any (fun x => x.deleting) = false)
    (Q := fun t => Tab.get? t.mac.frames id = some { f with taken := none } ∧ (t.sta f.sid).any (fun x => x.deleting) = false)
    (fun t j ⟨⟨o, h⟩, hd⟩ => ?_) (fun t ⟨⟨o, h⟩, hd⟩ => ⟨hstep t o h hd, hkept t id ▸ hd⟩) (fun t j ⟨h, hd⟩ => ?_) hid
    ⟨⟨f.taken, hf⟩, hk⟩).1
  · rw [hkept]
    by_cases hj : id = j
    · exact ⟨⟨none, hj ▸ hstep t o h hd⟩, hd⟩
    · exact ⟨⟨o, (t.notSent_frame_ne hj).trans h⟩, hd⟩
  · rw [hkept]
    by_cases hj : id = j
    · exact ⟨hj ▸ hstep t none h hd, hd⟩
    · exact ⟨(t.notSent_frame_ne hj).trans h, hd⟩

/-! ## Acknowledgements (R225, R226) -/

/-- What the outcome of a launch that was sent makes of one of its frames. -/
def State.acknowledge (s : State) (r : Nat) (acked : List Nat) (id : Nat) : State :=
  let t := s.attempt r id 0
  match Tab.get? t.mac.frames id with
  | none => t
  | some f =>
    if acked.contains (f.joined.getD id) then (if f.joined.isNone then t.inc64 (macBase r + 0x820) else t).endFrame id 0
    else if f.sid = 0xFFFF || bitOf f.flags 1 then t.endFrame id 0
    else t.unacked r id

theorem State.acknowledge_macEffect (r : Nat) (acked : List Nat) (id : Nat) : MacEffect s (s.acknowledge r acked id) := by
  have ht : MacEffect s (s.attempt r id 0) := s.modFrame_macEffect ..
  unfold State.acknowledge
  extract_lets t
  split
  · exact ht
  · exact .ite ((MacEffect.ite (ht.trans (State.inc64_effect ..).macEffect) ht).trans (State.endFrame_macEffect ..))
      (.ite (ht.trans (State.endFrame_macEffect ..)) (ht.trans (State.unacked_macEffect ..)))

theorem State.acknowledge_frame_ne {r id k : Nat} {acked : List Nat} (h : k ≠ id) :
    Tab.get? (s.acknowledge r acked id).mac.frames k = Tab.get? s.mac.frames k := by
  have ht : Tab.get? (s.attempt r id 0).mac.frames k = Tab.get? s.mac.frames k := s.frame_modFrame_ne _ h
  unfold State.acknowledge
  extract_lets t
  split
  · exact ht
  split
  · rw [State.endFrame_mac, Tab.get?_del_ne _ h]
    split <;> exact ht
  split
  · rw [State.endFrame_mac, Tab.get?_del_ne _ h, ht]
  · rw [State.unacked_frame_ne _ h, ht]

/-- A frame that is acknowledged, or whose A-MSDU is, ends. -/
theorem State.acknowledge_frame {r id : Nat} {acked : List Nat}
    (h : ∀ f, Tab.get? s.mac.frames id = some f → f.joined.getD id ∈ acked) : Tab.get? (s.acknowledge r acked id).mac.frames id = none := by
  have ht : Tab.get? (s.attempt r id 0).mac.frames id = _ := s.frame_modFrame ..
  unfold State.acknowledge
  extract_lets t
  split
  next hn => exact hn
  next g hg =>
    rw [ht] at hg
    obtain ⟨f, hf, rfl⟩ := Option.map_eq_some_iff.mp hg
    rw [if_pos (by simpa using h f hf), State.endFrame_mac]
    exact Tab.get?_del_self ..

theorem State.foldl_acknowledge_frame {r id : Nat} {acked ids : List Nat} {f : Frame} (hid : id ∈ ids)
    (hf : Tab.get? s.mac.frames id = some f) (ha : f.joined.getD id ∈ acked) :
    Tab.get? (ids.foldl (fun s id => s.acknowledge r acked id) s).mac.frames id = none := by
  refine State.foldl_reaches (P := fun t => ∀ f, Tab.get? t.mac.frames id = some f → f.joined.getD id ∈ acked)
    (Q := fun t => Tab.get? t.mac.frames id = none) (fun t j h => ?_) (fun t h => t.acknowledge_frame h) (fun t j h => ?_) hid
    (fun g hg => by rw [hf] at hg; cases hg; exact ha)
  · by_cases hj : id = j
    · subst hj
      simp [t.acknowledge_frame h]
    · rwa [t.acknowledge_frame_ne hj]
  · by_cases hj : id = j
    · subst hj
      exact t.acknowledge_frame (by simp [h])
    · rwa [t.acknowledge_frame_ne hj]

/-! ## The launch is over (R225) -/

/-- Stations are placed uplink first in the next plan of a radio (R222). -/
def State.askUplink (s : State) (r : Nat) (sids : List Nat) : State :=
  sids.foldl (fun (s : State) sid => s.modSta sid fun x =>
    { x with uplinkNext := if x.uplinkNext.contains r then x.uplinkNext else r :: x.uplinkNext }) s

theorem State.askUplink_radio (r : Nat) (sids : List Nat) (q : Nat) : (s.askUplink r sids).radio q = s.radio q :=
  State.foldl_proj (p := fun t => t.radio q) (fun _ _ => by rfl) sids s

theorem State.askUplink_frames (r : Nat) (sids : List Nat) : (s.askUplink r sids).mac.frames = s.mac.frames :=
  State.foldl_proj (p := fun t => t.mac.frames) (fun _ _ => by rfl) sids s

theorem State.askUplink_deleting (r : Nat) (sids : List Nat) (sid : Nat) :
    ((s.askUplink r sids).sta sid).map (fun x => x.deleting) = (s.sta sid).map fun x => x.deleting :=
  State.foldl_proj (p := fun t => (t.sta sid).map fun x => x.deleting) (fun t k => t.sta_modSta_proj (by exact fun _ => rfl) k sid) sids s

/-- The launch is forgotten; of a planned PPDU the stations that were left out are placed uplink first. -/
def State.launchOver (s : State) (r : Nat) (of_ : LaunchOf) : State :=
  let s1 := s.modRadio r fun x => { x with launches := x.launches.filter (fun m => m.of_ != of_) }
  match of_ with
  | .plan id =>
    let miss := ((Tab.get? s.mac.plan id).map fun p => (p.users.filter (fun u => u.status == 0x30 || u.status == 0x31)).map (·.sid)).getD []
    (s1.askUplink r miss).modPpdu id fun p => { p with used := true }
  | _ => s1

theorem State.launchOver_launches (r : Nat) (of_ : LaunchOf) :
    ((s.launchOver r of_).radio r).launches = (s.radio r).launches.filter fun m => m.of_ != of_ := by
  have h1 : ((s.modRadio r fun x => { x with launches := x.launches.filter (fun m => m.of_ != of_) }).radio r).launches = _ :=
    congrArg RadioSt.launches (s.radio_modRadio r _)
  unfold State.launchOver
  extract_lets s1
  split
  · exact (congrArg RadioSt.launches (s1.askUplink_radio r _ r)).trans h1
  · exact h1

theorem State.launchOver_frames (r : Nat) (of_ : LaunchOf) : (s.launchOver r of_).mac.frames = s.mac.frames := by
  unfold State.launchOver
  extract_lets s1
  split
  · exact s1.askUplink_frames r _
  · rfl

theorem State.launchOver_deleting (r : Nat) (of_ : LaunchOf) (sid : Nat) :
    ((s.launchOver r of_).sta sid).map (fun x => x.deleting) = (s.sta sid).map fun x => x.deleting := by
  unfold State.launchOver
  extract_lets s1
  split
  · exact s1.askUplink_deleting r _ sid
  · rfl

end

section
variable {s : State} {r : Nat} {of_ : LaunchOf} {acked : List Nat} {l : Launch}

/-- A launch that was sent: its frames are acknowledged or not, and its stations had traffic. -/
theorem outcome_of_sent (hl : (s.radio r).launches.find? (fun l => l.of_ == of_ && l.outcome.isSome) = some l) (ho : l.outcome = some 0) :
    ∃ (sids : List Nat) (g : State → Nat → Sta → Sta), outcome r of_ acked s = sids.foldl (fun s sid => s.modSta sid (g s sid))
      ((s.takenBy r of_).foldl (fun s id => s.acknowledge r acked id) ((s.launchOver r of_).served r of_ (s.takenBy r of_))) := by
  unfold outcome
  rw [hl]
  dsimp only
  rw [if_pos (by simp [ho])]
  exact ⟨_, _, rfl⟩

/-- A launch for which no chain is left (0x28): its frames are returned, and the plan serves its stations no more. -/
theorem outcome_of_no_chain (hl : (s.radio r).launches.find? (fun l => l.of_ == of_ && l.outcome.isSome) = some l)
    (ho : l.outcome = some 0x28) : ∃ plan, outcome r of_ acked s
      = { (s.takenBy r of_).foldl (fun s id => s.notSent r id 0x28) (s.launchOver r of_) with
          mac := { ((s.takenBy r of_).foldl (fun s id => s.notSent r id 0x28) (s.launchOver r of_)).mac with plan := plan } } := by
  unfold outcome
  rw [hl]
  simp only [ho, Option.getD_some]
  exact ⟨_, rfl⟩

theorem outcome_of_none (hl : (s.radio r).launches.find? (fun l => l.of_ == of_ && l.outcome.isSome) = none) : outcome r of_ acked s = s := by
  unfold outcome
  rw [hl]

/-- No launch of the sender is left. -/
theorem MacEffect.forgets {t : State} (h : MacEffect (s.launchOver r of_) t) : (t.radio r).launches.all (fun m => m.of_ != of_) = true := by
  rw [h.radio, s.launchOver_launches, List.all_filter]
  simp

theorem outcome_of_sent_forgets (hl : (s.radio r).launches.find? (fun l => l.of_ == of_ && l.outcome.isSome) = some l)
    (ho : l.outcome = some 0) : ((outcome r of_ acked s).radio r).launches.all (fun m => m.of_ != of_) = true := by
  obtain ⟨sids, g, hout⟩ := outcome_of_sent (acked := acked) hl ho
  rw [hout]
  exact (((State.served_macEffect ..).trans (.foldl (fun t id => t.acknowledge_macEffect r acked id) _)).trans
    (.foldl (fun t sid => t.modSta_macEffect sid _) _)).forgets

theorem outcome_of_sent_frame {id : Nat} {f : Frame}
    (hl : (s.radio r).launches.find? (fun l => l.of_ == of_ && l.outcome.isSome) = some l) (ho : l.outcome = some 0)
    (hid : id ∈ s.takenBy r of_) (hf : Tab.get? s.mac.frames id = some f) (ha : f.joined.getD id ∈ acked) :
    Tab.get? (outcome r of_ acked s).mac.frames id = none := by
  obtain ⟨sids, g, hout⟩ := outcome_of_sent (acked := acked) hl ho
  have hsta (t : State) : (sids.foldl (fun s sid => s.modSta sid (g s sid)) t).mac.frames = t.mac.frames :=
    State.foldl_proj (p := fun t => t.mac.frames) (fun _ _ => by rfl) sids t
  have hserved (t : State) (ids : List Nat) : (t.served r of_ ids).mac.frames = t.mac.frames :=
    (State.foldl_proj (p := fun t => t.mac.frames) (fun _ _ => by rfl) _ _).trans
      (State.foldl_proj (p := fun t => t.mac.frames) (fun _ _ => by rfl) _ _)
  rw [hout, hsta]
  exact State.foldl_acknowledge_frame _ hid (by rw [hserved, s.launchOver_frames, hf]) ha

end

/-- Settles O48, from what a freeze, a cut-off, a beacon, an outcome and the end of a lifetime make of the plan, the beacons and the
frames. -/
theorem macTransmission : Obligations.MacTransmission := by
  refine ⟨fun r s hr hv hs hmode hc hf hlead => ?_, fun r s h => congrArg Host.Outcome.next (freeze_of_frozen h),
    fun r fn tag id x f sta room s hs hv hfind hf hl ht hr hdue he hd hk hp hn hsid hsta => ?_,
    fun r bss air b s hs hv hb hmode hon hnext hdue ha hair hset hecl hlock hfresh => ?_,
    fun r bss air b s hs hv hb hmode hon hnext hdue ha hair hfresh => ?_, fun r of_ acked l s hl ho => ?_, fun r of_ acked l s hl ho => ?_,
    fun r of_ acked s hl => congrArg Host.Outcome.next (outcome_of_none hl), fun id f s hf ht hl he => ?_⟩
  · obtain ⟨hfrozen, hframes, hdual, hnext, hhost⟩ := freeze_of_due hr hv hs hmode hc hf hlead
    exact ⟨_, rfl, by rw [hfrozen, Tab.get?_put_self], hframes, hdual, hnext, congrArg HostSt.evs hhost⟩
  · obtain ⟨htaken, hothers⟩ := cutOff_of_single (t0 := x) (room := room) hs hv hfind hf hl ht hr hdue he hd hk hp hn hsid hsta
    exact ⟨_, _, rfl, htaken, rfl, rfl, rfl, rfl, hothers⟩
  · obtain ⟨hbeacons, hbeaconAir, hfirst⟩ := (s.cutReception r).beaconSent_notes r bss (s.beaconAt r) (s.beaconAt r + air)
    rw [s.cutReception_mac r] at hbeacons hbeaconAir
    rw [s.cutReception_boot r] at hfirst
    exact ⟨_, congrArg Host.Outcome.next (beaconGo_of_ready ⟨hs, hv, hb, hmode, hon, hnext, hdue, ha, hfresh⟩ hair hset hecl hlock),
      by rw [hbeaconAir, Tab.get?_put_self], by rw [hbeacons, Tab.get?_put_self], hfirst⟩
  · exact congrArg Host.Outcome.next (beaconGo_of_overrun ⟨hs, hv, hb, hmode, hon, hnext, hdue, ha, hfresh⟩ hair)
  · exact ⟨_, rfl, outcome_of_sent_forgets hl ho, fun id f hid hf hacked => outcome_of_sent_frame hl ho hid hf hacked⟩
  · obtain ⟨plan, hout⟩ := outcome_of_no_chain (acked := acked) hl ho
    refine ⟨_, congrArg Host.Outcome.next hout, ?_, fun id f hid hf h0 hk => ?_⟩
    · exact ((MacEffect.foldl (fun t id => t.notSent_macEffect r id 0x28) _).trans ⟨_, _, _, _, _, rfl⟩).forgets
    · refine State.foldl_notSent_frame _ hid (by rw [s.launchOver_frames, hf]) h0 ?_
      have hdel := congrArg (Option.any fun b => b) (s.launchOver_deleting r of_ f.sid)
      simpa [Option.any_map, Function.comp_def, hk] using hdel
  · refine ⟨_, congrArg Host.Outcome.next (lifeOut_of_expired hf ht hl he), ?_, fun k hk => ?_, fun k hne hk => ?_⟩
    · rw [State.dropLife_frames, Tab.get?_foldl_del, if_pos (List.mem_cons_self ..)]
    · rw [State.dropLife_frames, Tab.get?_foldl_del, if_pos (List.mem_cons_of_mem _ hk)]
    · rw [State.dropLife_frames, Tab.get?_foldl_del, if_neg (by simp [hne, hk])]

end Sys2Proof.Machine

end

section
/-! PROOFS. Reception: MPDUs, their duplicates, the reorder buffer and received agreements (07 R191, R194, 08 R226, R228, R229, R231,
R238). -/

namespace Sys2Proof.Machine

section
variable {m : RxMpdu} {s : State} {sid : Nat} {x : Sta}

/-! ## MPDUs that go no further (R228, R231) -/

/-- The least length of an MPDU of its type. -/
def leastLen (m : RxMpdu) : Nat := if m.type = 1 then 14 else headerLen m + 4

theorem mpduIn_of_not_delivered (h : s.delivers m = false) : mpduIn m s = s := by
  unfold mpduIn
  extract_lets r least
  split
  · rfl
  · exact if_pos (by simp [h])

theorem mpduIn_of_short (hs : s.inService (.radio m.radio) = true) (hd : s.delivers m = true) (h : m.len < leastLen m) :
    mpduIn m s = s.inc (macCnt m.radio 3 false) := by
  unfold mpduIn
  extract_lets r least
  rw [if_neg (by simp [r, hs]), if_neg (by simp [hd])]
  exact if_pos h

theorem mpduIn_of_long (hs : s.inService (.radio m.radio) = true) (hd : s.delivers m = true) (hlo : leastLen m ≤ m.len)
    (h : 11454 < m.len) : mpduIn m s = s.inc (macCnt m.radio 3 true) := by
  have hleast := Nat.not_lt.mpr hlo
  unfold mpduIn
  extract_lets r least
  rw [if_neg (by simp [r, hs]), if_neg (by simp [hd]), if_neg (by simpa [least, leastLen] using hleast)]
  exact if_pos h

/-- An MPDU of a length that there is, from a reception that delivers it. -/
structure Received (m : RxMpdu) (s : State) : Prop where
  service : s.inService (.radio m.radio) = true
  delivered : s.delivers m = true
  least : leastLen m ≤ m.len
  most : m.len ≤ 11454

/-- Its FCS is looked at first, then the room in the cipher engine, then its type. -/
theorem mpduIn_of_received (h : Received m s) : ∃ t, mpduIn m s =
    if m.fcsOk = false then s
    else if m.sec.isSome = true ∧ s.inService .cipher = true ∧ s.cphRoom = false then s
    else if 3 ≤ m.type then s.countReject 6 else t := by
  have hleast := Nat.not_lt.mpr h.least
  unfold mpduIn
  extract_lets r least
  rw [if_neg (by simp [r, h.service]), if_neg (by simp [h.delivered]), if_neg (by simpa [least, leastLen] using hleast),
    if_neg (Nat.not_lt.mpr h.most)]
  simp only [Bool.not_eq_true', Bool.and_eq_true, and_assoc]
  exact ⟨_, rfl⟩

/-! ## Data MPDUs of a station, in the clear (R228) -/

/-- A station as an MPDU in the clear of its own shows it: power save, polls, reports and traffic (R222, R223). -/
def Sta.heard (x : Sta) (m : RxMpdu) : Sta :=
  { x with
    ps := m.pm
    awake := m.pm && (x.awake || m.poll)
    ul := m.ul.getD x.ul
    traffic := if m.type = 2 then 5 else x.traffic }

/-- Such an MPDU comes to the duplicate check. -/
theorem mpduIn_of_clear (h : Received m s) (hf : m.fcsOk = true) (ht : m.type = 2) (hsec : m.sec = none)
    (hfind : s.mac.stas.find? (fun e => e.2.links.any (fun l => l.radio == m.radio && l.addr == m.ta)) = some (sid, x))
    (hx : s.sta sid = some x) : mpduIn m s = (s.modSta sid (·.heard m)).rxAccept m sid (x.heard m) := by
  have hsta : (s.modSta sid (·.heard m)).sta sid = some (x.heard m) := by
    rw [State.sta_modSta, hx]
    rfl
  have hleast := Nat.not_lt.mpr h.least
  unfold mpduIn
  extract_lets r least
  rw [if_neg (by simp [r, h.service]), if_neg (by simp [h.delivered]), if_neg (by simpa [least, leastLen] using hleast),
    if_neg (Nat.not_lt.mpr h.most), if_neg (by simp [hf]), if_neg (by simp [hsec]), if_neg (by omega), hfind]
  have htag : (s.modSta sid (·.heard m)).rxTag m sid (x.heard m).keySlot = (some m, s.modSta sid (·.heard m)) := by
    rw [State.rxTag, hsec]
  dsimp only
  change (match (s.modSta sid (·.heard m)).sta sid with | none => _ | some x => _) = _
  rw [hsta]
  dsimp only
  rw [if_neg (by omega)]
  change (match (s.modSta sid (·.heard m)).rxTag m sid (x.heard m).keySlot with | (none, s2) => _ | (some m, s2) => _) = _
  rw [htag]

/-- Without an agreement, a retry of the last one is counted as a duplicate, and any other is remembered and released. -/
theorem State.rxAccept_of_none (s : State) (ht : m.type = 2) (htid : m.tid < 8) (hba : Tab.get? x.rxBa m.tid = none) :
    s.rxAccept m sid x =
      if m.retry = true ∧ Tab.get? x.lastRx m.tid = some (m.sn, m.frag) then s.inc (macCnt m.radio 2 false)
      else (s.modSta sid fun x => { x with lastRx := Tab.put x.lastRx m.tid (m.sn, m.frag) }).releaseMpdu m (some sid) x.keySlot := by
  have htid' : (if m.type = 2 && m.tid < 8 then m.tid else 16) = m.tid := if_pos (by simp [ht, htid])
  unfold State.rxAccept
  rw [htid']
  dsimp only
  rw [hba]
  exact if_congr (by simp) rfl rfl

/-- A first MPDU without an agreement leaves its (SN, fragment) with its station and no frame touched. -/
theorem mpduIn_of_first (h : Received m s) (hf : m.fcsOk = true) (ht : m.type = 2) (htid : m.tid < 8) (hsec : m.sec = none)
    (hfind : s.mac.stas.find? (fun e => e.2.links.any (fun l => l.radio == m.radio && l.addr == m.ta)) = some (sid, x))
    (hx : s.sta sid = some x) (hba : Tab.get? x.rxBa m.tid = none)
    (hnew : m.retry = false ∨ Tab.get? x.lastRx m.tid ≠ some (m.sn, m.frag)) :
    (mpduIn m s).sta sid = some { x.heard m with lastRx := Tab.put x.lastRx m.tid (m.sn, m.frag) }
      ∧ (mpduIn m s).mac.frames = s.mac.frames := by
  have hnot : ¬(m.retry = true ∧ Tab.get? (x.heard m).lastRx m.tid = some (m.sn, m.frag)) := by
    rintro ⟨hr, hlast⟩
    exact hnew.elim (by simp [hr]) (· hlast)
  rw [mpduIn_of_clear h hf ht hsec hfind hx, State.rxAccept_of_none _ (x := x.heard m) ht htid hba, if_neg hnot]
  constructor
  · rw [State.sta_of_mac (State.releaseMpdu_mac ..), State.sta_modSta, State.sta_modSta, hx]
    rfl
  · rw [State.releaseMpdu_mac]
    rfl

/-- Its retry counts a duplicate and nothing else. -/
theorem mpduIn_of_retry (h : Received m s) (hf : m.fcsOk = true) (ht : m.type = 2) (htid : m.tid < 8) (hsec : m.sec = none)
    (hfind : s.mac.stas.find? (fun e => e.2.links.any (fun l => l.radio == m.radio && l.addr == m.ta)) = some (sid, x))
    (hx : s.sta sid = some x) (hba : Tab.get? x.rxBa m.tid = none) (hr : m.retry = true)
    (hlast : Tab.get? x.lastRx m.tid = some (m.sn, m.frag)) :
    mpduIn m s = (s.modSta sid (·.heard m)).inc (macCnt m.radio 2 false) := by
  rw [mpduIn_of_clear h hf ht hsec hfind hx, State.rxAccept_of_none _ (x := x.heard m) ht htid hba]
  exact if_pos ⟨hr, hlast⟩

/-! ## The reorder buffer and agreements (R226, R229, R238) -/

/-- The window moves to the first SN held when the hole at its start has stood for REORDER_TIMEOUT. -/
theorem reorderOut_of_hole {tid from_ k : Nat} {a : RxBa} (hx : s.sta sid = some x) (ha : Tab.get? x.rxBa tid = some a)
    (hhole : Tab.get? a.holes a.start = some from_) (hdue : from_ + ms (s.get ⟨macBase x.firstRadio + 0x14, 9, 0⟩) ≤ s.elapsed)
    (hk : (snRange a.start a.size).find? (fun k => Tab.has a.held k) = some k) :
    ∃ u, u = ((s.moveWindow sid tid k).releaseInOrder sid tid).inc (macCnt x.firstRadio 4 false)
      ∧ reorderOut sid tid s =
        { u with mac := { u.mac with reorders := Tab.put u.mac.reorders x.firstRadio (Tab.getD u.mac.reorders x.firstRadio 0 + 1) } } := by
  have hxa : (s.sta sid).bind (fun x => (Tab.get? x.rxBa tid).map (fun a => (x, a))) = some (x, a) := by
    simp [hx, ha]
  refine ⟨_, rfl, ?_⟩
  unfold reorderOut
  rw [hxa]
  dsimp only
  rw [hhole]
  dsimp only
  rw [if_neg (Nat.not_lt.mpr hdue), hk]

/-- The most MPDUs that an agreement with the station may hold (R226). -/
def Sta.baLimit (x : Sta) : Nat := if x.eht then 1024 else 256

theorem addba_of_live {tid size sn : Nat} (h : s.liveSta sid = some x) : addba sid tid size sn s =
    if 7 < tid then s.countReject 6
    else s.setBa sid tid 1 (if size = 0 then x.baLimit else Nat.min size x.baLimit) (sn % 4096) := by
  unfold addba
  rw [h]
  exact rfl

theorem agreementOut_of_has {tid dir : Nat} (h : s.sta sid = some x) (hd : dir ≤ 1)
    (hhas : (if dir = 1 then Tab.has x.rxBa tid else Tab.has x.txBa tid) = true) :
    agreementOut sid tid dir s = s.endAgreement sid tid dir 1 := by
  have hdir : dir = 0 ∨ dir = 1 := by omega
  unfold agreementOut
  rw [h]
  exact if_pos (by rcases hdir with rfl | rfl <;> simpa using hhas)

theorem agreementOut_of_absent {tid : Nat} (h : s.sta sid = some x) (hno : Tab.has x.rxBa tid = false) :
    agreementOut sid tid 1 s = s := by
  unfold agreementOut
  rw [h]
  exact if_neg (by simp [hno])

end

/-- Settles O49, from what the MPDU, the hole, the request and the time-out each do. -/
theorem macReception : Obligations.MacReception := by
  unfold Obligations.MacReception
  refine ⟨fun m s hs hd => ⟨fun hlen => ?_, fun hlo hhi => ?_, fun hlo hhi hf => ?_, fun hlo hhi hf ht hsec => ?_,
    fun hlo hhi hf hsec hcph hroom ht => ?_⟩, fun m s hd => ?_, fun m sid x s hs hlo hhi hf ht htid hsec hfind hx hd hba =>
    ⟨fun hnew => ?_, fun hr hlast => ?_⟩, fun sid tid from_ k x a s hx ha hhole hdue hk => ?_, fun sid tid size sn x s hx htid => ?_,
    fun sid tid size sn x s hx htid => ?_, fun sid tid dir x s hx hdir hhas => ?_, fun sid tid x s hx hno => ?_⟩
  case refine_1 => exact congrArg Host.Outcome.next (mpduIn_of_short hs hd hlen)
  case refine_2 => exact congrArg Host.Outcome.next (mpduIn_of_long hs hd hlo hhi)
  case refine_3 =>
    obtain ⟨t, h⟩ := mpduIn_of_received ⟨hs, hd, hlo, hhi⟩
    exact congrArg Host.Outcome.next (h.trans (if_pos hf))
  case refine_4 =>
    have hleast : leastLen m ≤ m.len := by rwa [leastLen, if_neg (by omega)]
    obtain ⟨t, h⟩ := mpduIn_of_received ⟨hs, hd, hleast, hhi⟩
    rw [if_neg (by simp [hf]), if_neg (by simp [hsec]), if_pos ht] at h
    exact congrArg Host.Outcome.next h
  case refine_5 =>
    have hleast : leastLen m ≤ m.len := by rwa [leastLen, if_neg ht]
    obtain ⟨t, h⟩ := mpduIn_of_received ⟨hs, hd, hleast, hhi⟩
    rw [if_neg (by simp [hf]), if_pos ⟨hsec, hcph, hroom⟩] at h
    exact congrArg Host.Outcome.next h
  case refine_6 => exact congrArg Host.Outcome.next (mpduIn_of_not_delivered hd)
  case refine_7 =>
    have hrec : Received m s := ⟨hs, hd, by rwa [leastLen, if_neg (by omega)], hhi⟩
    obtain ⟨hsta, hframes⟩ := mpduIn_of_first hrec hf ht htid hsec hfind hx hba hnew
    exact ⟨_, _, rfl, hsta, Tab.get?_put_self .., rfl, if_pos ht, hframes⟩
  case refine_8 =>
    have hrec : Received m s := ⟨hs, hd, by rwa [leastLen, if_neg (by omega)], hhi⟩
    have h := mpduIn_of_retry hrec hf ht htid hsec hfind hx hba hr hlast
    refine ⟨_, x.heard m, congrArg Host.Outcome.next h, ?_, rfl, State.inc_fifos .., State.inc_host .., fun a ha => State.reg_inc_ne _ ha⟩
    rw [State.sta_of_mac (State.inc_mac ..), State.sta_modSta, hx]
    rfl
  case refine_9 =>
    obtain ⟨u, hu, h⟩ := reorderOut_of_hole hx ha hhole hdue hk
    exact ⟨u, hu, congrArg Host.Outcome.next h⟩
  case refine_10 =>
    have h := addba_of_live (tid := tid) (size := size) (sn := sn) hx
    rw [if_neg (by omega)] at h
    exact ⟨_, congrArg Host.Outcome.next h, s.setBa_rx (State.sta_of_live hx) ..⟩
  case refine_11 => exact congrArg Host.Outcome.next ((addba_of_live hx).trans (if_pos htid))
  case refine_12 => exact congrArg Host.Outcome.next (agreementOut_of_has hx hdir hhas)
  case refine_13 => exact congrArg Host.Outcome.next (agreementOut_of_absent hx hno)

end Sys2Proof.Machine

end

section
/-! PROOFS. The digests of two members, sent over a table of wired queues whose keys do not rise (09 R249, 11 R334). -/

namespace Sys2Proof.Machine

/-- A frame that waits in 100,000 of the 131,072 cells of SRAM. -/
def wideFrame : WireFrame := { body := [], tenant := 0, enq := 0, cells := 100000, src := 0 }

/-- NT is 1 ns before a boundary; members 1 and 2 are ACTIVE, with a route by sub-port 0, which is in service. The table of wired queues
lists queue 7 of the sub-port, which holds `wideFrame`, behind a queue of a higher key. -/
def unsortedQueues : State :=
  { regs := [(0x2400008, 100), (0x240000C, 100), (0x3400000, 1)]
    units := [(15, { phase := .service })]
    boot := { records := [⟨0x0701, 0, [9, 0, 0, 0]⟩, ⟨0x0702, 0, [1]⟩, ⟨0x0702, 0, [2]⟩] }
    clocks := { onRoot := List.replicate 8 true }
    time := { state := .locked }
    grid := { phase := 1 }
    cst := { members := [(1, { session := .active }), (2, { session := .active })] }
    wired := [(8, []), (7, [wideFrame])]
    eth := { links := [(0, 7)] }
    pkt := { routes := [(0, ⟨0, 1⟩)], nextHops := [(0, ⟨1, 0, 0, List.replicate 6 1, List.replicate 6 2, 1500⟩)] } }

/-- Queue 7 has room for the digests of both members, which have no entries. -/
theorem unsortedQueues_takes : TakesWired unsortedQueues 0 7 (2 * (16 * 160)) := by
  unfold TakesWired
  decide +kernel

theorem unsortedQueues_routes : ∀ m ∈ unsortedQueues.cstActive,
    ∃ h, unsortedQueues.cstRoute m = some h ∧ h.da.length = 6 ∧ h.sa.length = 6 := by
  have hactive : unsortedQueues.cstActive = [1, 2] := by decide
  have hroute (m : Nat) (hm : m = 1 ∨ m = 2) :
      unsortedQueues.cstRoute m = some ⟨1, 0, 0, List.replicate 6 1, List.replicate 6 2, 1500⟩ := by
    rcases hm with rfl | rfl <;> decide +kernel
  intro m hm
  exact ⟨_, hroute m (by simpa [hactive] using hm), rfl, rfl⟩

/-- `Tab.put` writes the queue with the first digest in front of the higher key and leaves the old entry behind it, so that the cells of
`wideFrame` count twice: no cell is left for the digest of member 2. -/
theorem sendDigest_unsortedQueues_queue :
    (Tab.getD (sendDigest unsortedQueues).wired 7 []).map (·.cst) = [none, some (1, some 1)] := by
  decide +kernel

/-- Refutes O50: the statement lets queue 7 take every digest where the cells in use leave them room, but its states need not keep the
keys of a table strictly rising, as `Tab.put` does; in `unsortedQueues` the first frame uses up the SRAM, and member 2 is sent no digest. -/
theorem not_constellation : ¬ Obligations.Constellation := by
  rintro ⟨-, -, -, -, -, -, hsend, -⟩
  obtain ⟨t, fs, hrun, -, hqueue, -, htaken, -⟩ :=
    hsend unsortedQueues (by decide) (by decide) (by decide) (by decide) (by decide)
  obtain rfl : sendDigest unsortedQueues = t := Host.Outcome.next.inj hrun
  obtain ⟨f, hf, hcst⟩ := htaken unsortedQueues_routes unsortedQueues_takes 2 (by decide) (by decide)
  have hsent : some (2, some 1) ∈ (Tab.getD (sendDigest unsortedQueues).wired 7 []).map (·.cst) :=
    List.mem_map.mpr ⟨f, hqueue ▸ List.mem_append_right _ hf, hcst⟩
  rw [sendDigest_unsortedQueues_queue] at hsent
  exact absurd hsent (by decide)

end Sys2Proof.Machine

end

section
/-! PROOFS. The commands in flight after an admission and after a completion (13 R379, R382), and the queue and the commands of the mesh
island (10 R269, R285, R294). -/

namespace Sys2Proof.Machine

/-! ## Commands in flight -/

section
variable {s : State} {fn tag : Nat} {c : Cmd}

theorem State.fn_tag_of_cmd? (h : s.cmd? fn tag = some c) : c.fn = fn ∧ c.tag = tag := by
  have h := List.find?_some h
  simp only [Bool.and_eq_true, beq_iff_eq] at h
  exact h.1

/-- A command is looked up among the commands in flight alone. -/
theorem State.cmd?_of_cmds {t : State} (h : t.host.cmds = s.host.cmds) (fn tag : Nat) : t.cmd? fn tag = s.cmd? fn tag := by
  rw [State.cmd?, h, State.cmd?]

/-- The command that a unit takes up is found ADMITTED. -/
theorem State.cmd?_takeUp (h : s.cmd? fn tag = some c) (hst : c.stage = .fetched) (unit : Option Nat) :
    (s.takeUp fn tag unit).cmd? fn tag = some { c with stage := .admitted, unit := unit } := by
  obtain ⟨hfn, htag⟩ := State.fn_tag_of_cmd? h
  rw [← State.cmd?_of_cmds rfl] at h
  unfold State.cmd? at h ⊢
  simp only [State.takeUp, State.mapCmds, List.find?_map]
  have hsame : (fun d : Cmd => d.fn == fn && d.tag == tag && d.stage != .completed) ∘ (fun d =>
      if (d.fn == fn && d.tag == tag && d.stage == .fetched) = true then { d with stage := .admitted, unit := unit } else d)
      = fun d => d.fn == fn && d.tag == tag && d.stage != .completed := by
    funext d
    dsimp only [Function.comp]
    split
    next hd =>
      simp only [Bool.and_eq_true, beq_iff_eq] at hd
      rw [hd.2]
      rfl
    · rfl
  rw [hsame, h]
  simp [hfn, htag, hst]

/-- A command that has completed is in flight no more (13 R382). -/
theorem State.cmd?_complete (s : State) (fn tag status result : Nat) : (s.complete fn tag status result).cmd? fn tag = none := by
  unfold State.complete
  split
  next h => exact h
  · dsimp only
    simp only [State.cmd?, State.mapCmds, List.find?_eq_none, List.mem_map]
    rintro _ ⟨d, -, rfl⟩
    split
    · simp
    next hd => exact hd

end

/-! ## The DOWN queue (R265, R269) -/

/-- The frame enters the queue. -/
def State.enterDown (s : State) (d : MeshDown) : State :=
  s.modMesh fun m => { m with down := Tab.put m.down m.nextDown d, nextDown := m.nextDown + 1 }

theorem State.enterDown_get? (s : State) (d : MeshDown) : Tab.get? (s.enterDown d).mesh.down s.mesh.nextDown = some d :=
  Tab.get?_put_self ..

theorem State.queueDown_of_room {s : State} {d : MeshDown} (h : s.queueRoom d.payload s.downCells (fieldLE s.nwRec 28 2) = true) :
    s.queueDown d = some (s.enterDown d) := by
  simp [State.queueDown, h, State.enterDown]

theorem State.queueDown_of_full {s : State} {d : MeshDown} (h : s.queueRoom d.payload s.downCells (fieldLE s.nwRec 28 2) = false) :
    s.queueDown d = none := by
  simp [State.queueDown, h]

theorem State.fcsBytes_le (s : State) : s.fcsBytes ≤ 4 := by
  unfold State.fcsBytes
  split <;> omega

/-! ## Bridged frames (R269) -/

/-- The first frame of the bridge is off its queue. -/
def State.popInbox (s : State) (rest : List (List Byte)) : State := { s with mesh := { s.mesh with inbox := rest } }

/-- The checks of a bridged frame with the header h. -/
def State.bridgedOk (s : State) (h f : List Byte) : Bool :=
  fieldLE h 8 4 == 0 && decide (fieldLE h 12 1 < 4) && decide (fieldLE h 13 1 < 8) && decide (fieldLE h 14 2 ≤ 2009 - s.fcsBytes)
    && decide (34 + fieldLE h 14 2 ≤ f.length) && decide (1 ≤ fieldLE h 16 4) && decide (fieldLE h 16 4 ≤ 3600000)

/-- The DOWN frame that a bridged frame with the header h of R269 asks for. -/
def State.bridgedDown (s : State) (h f : List Byte) : MeshDown :=
  { dst := fieldLE h 0 8, payload := slice f 34 (fieldLE h 14 2), key := fieldLE h 13 1, ackReq := bitOf (fieldLE h 12 1) 0
    wake := bitOf (fieldLE h 12 1) 1, enq := s.elapsed, lifeMs := fieldLE h 16 4, cmd := none }

section
variable {s : State} {f : List Byte} {rest : List (List Byte)}

/-- A frame that passes the checks and finds room is queued. -/
theorem meshDownlink_of_room (hin : s.mesh.inbox = f :: rest) (hst : s.mesh.state = .bridged) (hzero : fieldLE (slice f 14 20) 8 4 = 0)
    (hflags : fieldLE (slice f 14 20) 12 1 < 4) (hkey : fieldLE (slice f 14 20) 13 1 < 8)
    (hlen : fieldLE (slice f 14 20) 14 2 + s.fcsBytes ≤ 2009) (hfit : 34 + fieldLE (slice f 14 20) 14 2 ≤ f.length)
    (hlo : 1 ≤ fieldLE (slice f 14 20) 16 4) (hhi : fieldLE (slice f 14 20) 16 4 ≤ 3600000)
    (hroom : s.queueRoom (slice f 34 (fieldLE (slice f 14 20) 14 2)) s.downCells (fieldLE s.nwRec 28 2) = true) :
    meshDownlink s = (s.popInbox rest).enterDown (s.bridgedDown (slice f 14 20) f) := by
  have hlen : fieldLE (slice f 14 20) 14 2 ≤ 2009 - (s.popInbox rest).fcsBytes := by
    have hfcs := (s.popInbox rest).fcsBytes_le
    change _ + (s.popInbox rest).fcsBytes ≤ 2009 at hlen
    omega
  have hqueue : (s.popInbox rest).queueDown (s.bridgedDown (slice f 14 20) f)
      = some ((s.popInbox rest).enterDown (s.bridgedDown (slice f 14 20) f)) := State.queueDown_of_room hroom
  have hbridged : ((s.popInbox rest).mesh.state != .bridged) = false := by simp [State.popInbox, hst]
  have hok : (s.popInbox rest).bridgedOk (slice f 14 20) f = true := by
    simp only [State.bridgedOk, Bool.and_eq_true, beq_iff_eq, decide_eq_true_eq]
    exact ⟨⟨⟨⟨⟨⟨hzero, hflags⟩, hkey⟩, hlen⟩, hfit⟩, hlo⟩, hhi⟩
  unfold meshDownlink
  rw [hin]
  change (if ((s.popInbox rest).mesh.state != .bridged) = true then _ else if (!(s.popInbox rest).bridgedOk (slice f 14 20) f) = true then _
    else match (s.popInbox rest).queueDown (s.bridgedDown (slice f 14 20) f) with | some s1 => s1 | none => _) = _
  rw [if_neg (by simp [hbridged]), if_neg (by simp [hok]), hqueue]

/-- An island that is not bridged drops it at the boundary (01 R33). -/
theorem meshDownlink_of_not_bridged (hin : s.mesh.inbox = f :: rest) (hst : s.mesh.state ≠ .bridged) :
    meshDownlink s = (s.popInbox rest).refuseAt .pkt := by
  unfold meshDownlink
  rw [hin]
  exact if_pos (by simpa [State.modMesh] using hst)

end

/-! ## Commands (R294) -/

section
variable {s : State} {tag : Nat} {c : Cmd}

theorem State.onMesh_of_range {ok : Bool} (h : ok = false) (act : State → State) :
    s.onMesh c ok act = s.complete c.fn c.tag 0x02 := by
  simp [State.onMesh, h]

/-- An island in service takes a command whose fields are in range. -/
theorem State.onMesh_of_service {ok : Bool} (hok : ok = true) (hst : s.mesh.state = .alone ∨ s.mesh.state = .bridged)
    (hu : s.unitStatus .mesh = none) (act : State → State) : s.onMesh c ok act = act s := by
  have hne : (s.mesh.state == .reset) = false := by rcases hst with h | h <;> rw [h] <;> rfl
  simp [State.onMesh, hok, hne, hu]

/-- An offered command of the physical function comes to its own checks. -/
theorem nwCmd_of_offered {op : Nat} (act : Cmd → State → State) (ho : Offered s 0 tag op c) (hg : s.gated 15 = false) :
    s.runCmd 0 tag op byPF (fun _ => s.nwGated) act = act c s := by
  have hfn := (State.fn_tag_of_cmd? ho.1).1
  exact State.runCmd_of_offered act ho (by simp [byPF, hfn]) hg

/-- The DOWN frame that an NW_TX asks for. -/
def State.askedDown (s : State) (tag : Nat) (c : Cmd) (b : List Byte) : MeshDown :=
  { dst := c.le 16 8, payload := slice b 0 (c.le 26 2), key := c.b 25, ackReq := bitOf (c.b 24) 0, wake := bitOf (c.b 24) 1
    enq := s.elapsed, lifeMs := c.le 28 4, cmd := some (0, tag) }

/-- The fields of an NW_TX are in range. -/
def State.nwTxOk (s : State) (c : Cmd) : Bool :=
  decide (c.b 24 < 4) && decide (c.b 25 < 8) && Tab.has s.mesh.keys (c.b 25) && decide (c.le 26 2 ≤ 2009 - s.fcsBytes)
    && decide (1 ≤ c.le 28 4) && decide (c.le 28 4 ≤ 3600000) && c.reservedOk [(16, 24)]

theorem nwSend_of_offered (ho : Offered s 0 tag 0x0810 c) (hg : s.gated 15 = false) (data : HostData) :
    nwSend 0 tag data s = s.onMesh c (s.nwTxOk c) fun s => match data with
      | none => s.complete 0 tag 0x6E
      | some b => match s.queueDown (s.askedDown tag c b) with
        | some s1 => s1.takeUp 0 tag (some 25)
        | none => s.complete 0 tag 0x50 := by
  rw [nwSend, nwCmd_of_offered _ ho hg]
  rfl

/-- An NW_TX whose fields are in range takes its place where there is room. -/
theorem nwSend_of_checked (ho : Offered s 0 tag 0x0810 c) (hg : s.gated 15 = false) (hok : s.nwTxOk c = true)
    (hst : s.mesh.state = .alone ∨ s.mesh.state = .bridged) (hu : s.unitStatus .mesh = none) (b : List Byte) :
    nwSend 0 tag (some b) s = if s.queueRoom (slice b 0 (c.le 26 2)) s.downCells (fieldLE s.nwRec 28 2) = true
      then (s.enterDown (s.askedDown tag c b)).takeUp 0 tag (some 25) else s.complete 0 tag 0x50 := by
  rw [nwSend_of_offered ho hg, State.onMesh_of_service hok hst hu]
  split_ifs with hroom
  · have hqueue : s.queueDown (s.askedDown tag c b) = some _ := State.queueDown_of_room hroom
    dsimp only
    rw [hqueue]
  · have hqueue : s.queueDown (s.askedDown tag c b) = none := State.queueDown_of_full (Bool.eq_false_of_not_eq_true hroom)
    dsimp only
    rw [hqueue]

theorem nwSend_of_range (ho : Offered s 0 tag 0x0810 c) (hg : s.gated 15 = false) (hok : s.nwTxOk c = false) (data : HostData) :
    nwSend 0 tag data s = s.complete 0 tag 0x02 := by
  obtain ⟨hfn, htag⟩ := State.fn_tag_of_cmd? ho.1
  rw [nwSend_of_offered ho hg, State.onMesh_of_range hok, hfn, htag]

/-- An NW_WAKE waits for its slot. -/
theorem nwWakeUp_of_checked (ho : Offered s 0 tag 0x0811 c) (hg : s.gated 15 = false) (hcmd : c.b 19 = 1 ∨ c.b 19 = 2)
    (hres : c.reservedOk [(16, 4)] = true) (hst : s.mesh.state = .alone ∨ s.mesh.state = .bridged) (hu : s.unitStatus .mesh = none) :
    nwWakeUp 0 tag s = (s.takeUp 0 tag (some 25)).modMesh fun m => { m with wakes := m.wakes ++ [(c.le 16 3, c.b 19, some (0, tag))] } := by
  have hok : ((c.b 19 == 1 || c.b 19 == 2) && c.reservedOk [(16, 4)]) = true := by
    rw [hres]
    rcases hcmd with h | h <;> rw [h] <;> rfl
  rw [nwWakeUp, nwCmd_of_offered _ ho hg]
  exact State.onMesh_of_service hok hst hu _

/-- NW_KEY takes a copy of a suite 0x10 key of page 0. -/
theorem nwLoad_of_checked {g : KeyGen} (ho : Offered s 0 tag 0x0812 c) (hg : s.gated 15 = false) (hsel : c.b 17 = 0) (hslot : c.b 16 < 8)
    (hin : s.slotIn (c.le 18 2) 0 = true) (hgen : s.bindGen (c.le 18 2) = some g) (hsuite : g.suite = 0x10)
    (hres : c.reservedOk [(16, 4)] = true) (hst : s.mesh.state = .alone ∨ s.mesh.state = .bridged) (hu : s.unitStatus .mesh = none) :
    nwLoad 0 tag s = (s.modMesh fun m => { m with keys := Tab.put m.keys (c.b 16) g.key }).complete 0 tag 0x00 := by
  rw [nwLoad, nwCmd_of_offered _ ho hg]
  dsimp only
  rw [if_neg (by omega), State.onMesh_of_service _ hst hu]
  · rw [hgen]
  · simp [hslot, hsel, hin, hgen, hsuite, hres]

/-- NW_KEY erases a slot that holds a key. -/
theorem nwErase_of_offered (ho : Offered s 0 tag 0x0812 c) (hg : s.gated 15 = false) (hsel : c.b 17 = 1) :
    nwErase 0 tag s = s.onMesh c (decide (c.b 16 < 8) && c.reservedOk [(16, 4)]) fun s =>
      if Tab.has s.mesh.keys (c.b 16) then (s.modMesh fun m => { m with keys := Tab.del m.keys (c.b 16) }).complete 0 tag 0x00
      else s.complete 0 tag 0x55 := by
  rw [nwErase, nwCmd_of_offered _ ho hg]
  exact if_neg (by simp [hsel])

end

/-- Settles O53, from what the bridge's queue and each command do. -/
theorem meshCommands : Obligations.MeshCommands := by
  unfold Obligations.MeshCommands
  refine ⟨fun f rest s hin hst _ hzero hflags hkey hlen hfit hlo hhi hroom => ?_, fun f rest s hin hst => ?_,
    fun tag c b s ho hg hflags hslot hkey hlen hlo hhi hres hst hu => ?_, fun tag c d s ho hg hbad => ?_,
    fun tag c s ho hg hcmd hres hst hu => ?_, fun tag c g s ho hg hsel hslot hin hgen hsuite hres hst hu => ?_,
    fun tag c s ho hg hsel hslot hres hst hu => ?_, fun tag c s ho hg hsel hslot => ?_⟩
  case refine_1 =>
    exact ⟨_, _, congrArg Host.Outcome.next (meshDownlink_of_room hin hst hzero hflags hkey hlen hfit hlo hhi hroom), rfl,
      (s.popInbox rest).enterDown_get? _, rfl, rfl, rfl, rfl, rfl⟩
  case refine_2 => exact congrArg Host.Outcome.next (meshDownlink_of_not_bridged hin hst)
  case refine_3 =>
    have hfcs := s.fcsBytes_le
    have hlen : c.le 26 2 ≤ 2009 - s.fcsBytes := by omega
    have hok : s.nwTxOk c = true := by simp [State.nwTxOk, hflags, hslot, hkey, hlen, hlo, hhi, hres]
    have hrun := nwSend_of_checked ho hg hok hst hu b
    refine ⟨fun hroom => ?_, fun hfull => congrArg Host.Outcome.next (hrun.trans (if_neg (by simp [hfull])))⟩
    refine ⟨_, s.askedDown tag c b, congrArg Host.Outcome.next (hrun.trans (if_pos hroom)), s.enterDown_get? _, rfl, rfl, rfl, rfl, rfl,
      rfl, ?_, rfl⟩
    rw [State.cmd?_takeUp (s := s.enterDown (s.askedDown tag c b)) ho.1 ho.2.2.1]
    rfl
  case refine_4 =>
    have hok : s.nwTxOk c = false := by
      refine Bool.eq_false_of_not_eq_true fun hok => ?_
      simp only [State.nwTxOk, Bool.and_eq_true, decide_eq_true_eq] at hok
      obtain ⟨⟨⟨⟨⟨⟨-, hslot⟩, hkey⟩, hlen⟩, hlo⟩, -⟩, -⟩ := hok
      simp only [hkey, Bool.true_eq_false, false_or] at hbad
      omega
    exact congrArg Host.Outcome.next (nwSend_of_range ho hg hok d)
  case refine_5 =>
    refine ⟨_, congrArg Host.Outcome.next (nwWakeUp_of_checked ho hg hcmd hres hst hu), rfl, ?_, rfl⟩
    have htaken := State.cmd?_takeUp ho.1 ho.2.2.1 (some 25)
    exact congrArg (Option.map (·.stage)) ((State.cmd?_of_cmds rfl 0 tag).trans htaken)
  case refine_6 => exact congrArg Host.Outcome.next (nwLoad_of_checked ho hg hsel hslot hin hgen hsuite hres hst hu)
  case refine_7 =>
    have hok : (decide (c.b 16 < 8) && c.reservedOk [(16, 4)]) = true := by simp [hslot, hres]
    exact congrArg Host.Outcome.next ((nwErase_of_offered ho hg hsel).trans (State.onMesh_of_service hok hst hu _))
  case refine_8 =>
    obtain ⟨hfn, htag⟩ := State.fn_tag_of_cmd? ho.1
    have hok : (decide (c.b 16 < 8) && c.reservedOk [(16, 4)]) = false := by simp [Nat.not_lt.mpr hslot]
    refine congrArg Host.Outcome.next ?_
    rw [nwErase_of_offered ho hg hsel, State.onMesh_of_range hok, hfn, htag]

end Sys2Proof.Machine

end

section
/-! PROOFS. What the stages of the mesh island's reception leave of its receiver, its replay cache, its keys and its floor (10 R274 to
R289). -/

namespace Sys2Proof.Machine

/-! ## The island's counters (R274 to R279) -/

section
variable {s : State} {i : Nat}

theorem State.get_inc_nwCnt {high : Bool} (h : s.get (nwCnt i high) < 65535) :
    (s.inc (nwCnt i high)).get (nwCnt i high) = s.get (nwCnt i high) + 1 := by
  have hwidth : (nwCnt i high).hi + 1 - (nwCnt i high).lo = 16 := by cases high <;> rfl
  have hle : (nwCnt i high).lo ≤ (nwCnt i high).hi := by cases high <;> simp [nwCnt]
  have hhi : (nwCnt i high).hi < 32 := by cases high <;> simp [nwCnt]
  rw [s.inc_of_lt _ (by rw [hwidth]; omega), State.get_put_self _ _ hle hhi, hwidth]
  exact Nat.mod_eq_of_lt (by omega)

/-- The two counters of a register share no bit. -/
theorem State.get_inc_nwCnt_other (s : State) (i : Nat) (high : Bool) :
    (s.inc (nwCnt i high)).get (nwCnt i (!high)) = s.get (nwCnt i (!high)) := by
  unfold State.inc
  split <;> cases high <;> exact State.get_put_apart _ _ (by decide) (by decide) (by decide)

end

/-! ## What follows an accepted frame -/

/-- t has the receiver's state, the replay cache, the keys and the floor of s. -/
structure RxKeeps (s t : State) : Prop where
  rx : t.mesh.rx = s.mesh.rx
  replay : t.mesh.replay = s.mesh.replay
  keys : t.mesh.keys = s.mesh.keys
  floor : t.mesh.floor = s.mesh.floor

theorem RxKeeps.of_mesh {s t : State} (h : t.mesh = s.mesh) : RxKeeps s t := by
  constructor <;> rw [h]

theorem RxKeeps.refl (s : State) : RxKeeps s s := .of_mesh rfl

theorem RxKeeps.trans {s t u : State} (h : RxKeeps s t) (h' : RxKeeps t u) : RxKeeps s u :=
  ⟨h'.rx.trans h.rx, h'.replay.trans h.replay, h'.keys.trans h.keys, h'.floor.trans h.floor⟩

theorem RxKeeps.ite {c : Prop} [Decidable c] {s a b : State} (ha : RxKeeps s a) (hb : RxKeeps s b) :
    RxKeeps s (if c then a else b) := by
  split
  · exact ha
  · exact hb

section
variable (s : State)

theorem State.inc_rxKeeps (f : FieldRef) : RxKeeps s (s.inc f) := .of_mesh (s.inc_mesh f)

theorem State.postEvent_rxKeeps (code : Nat) (b : List Byte) : RxKeeps s (s.postEvent code b) := .of_mesh (s.postEvent_mesh ..)

theorem State.postOnce_rxKeeps (key code : Nat) (b : List Byte) : RxKeeps s (s.postOnce key code b) :=
  .ite (.refl s) (RxKeeps.trans (t := s.modMesh fun m => { m with posted := key :: m.posted }) ⟨rfl, rfl, rfl, rfl⟩
    (State.postEvent_rxKeeps _ ..))

theorem State.downDone_rxKeeps (id status : Nat) : RxKeeps s (s.downDone id status) := by
  unfold State.downDone
  split
  · exact .refl s
  · extract_lets s1 s2
    have h1 : RxKeeps s s1 := ⟨rfl, rfl, rfl, rfl⟩
    have h2 : RxKeeps s s2 := h1.trans (.ite (s1.inc_rxKeeps _) (.refl s1))
    split
    · exact h2.trans (.of_mesh (State.complete_mesh ..))
    · exact h2

/-- The router table learns (R284). -/
theorem State.observeRouter_rxKeeps (src local_ : Nat) : RxKeeps s (s.observeRouter src local_) := by
  unfold State.observeRouter
  extract_lets pre raw e
  split
  · exact .ite (.refl s) ⟨rfl, rfl, rfl, rfl⟩
  · refine .ite (RxKeeps.trans ?_ (State.postEvent_rxKeeps _ ..)) (.ite ?_ ?_) <;> exact ⟨rfl, rfl, rfl, rfl⟩

theorem State.ackIn_rxKeeps (src : Nat) (payload : List Byte) : RxKeeps s (s.ackIn src payload) := by
  unfold State.ackIn
  split
  · exact s.downDone_rxKeeps ..
  · exact .refl s

theorem State.openReply_rxKeeps (src fc : Nat) : RxKeeps s (s.openReply src fc) := .ite (.refl s) ⟨rfl, rfl, rfl, rfl⟩

theorem State.summarise_rxKeeps (payload : List Byte) : RxKeeps s (s.summarise payload) := ⟨rfl, rfl, rfl, rfl⟩

theorem State.wake_mesh (cause : Nat) : (s.wake cause).mesh = s.mesh := by
  unfold State.wake
  split <;> rfl

theorem State.meshWake_rxKeeps (rule src : Nat) : RxKeeps s (s.meshWake rule src) :=
  .ite (.of_mesh ((State.wake_mesh ..).trans (State.postEvent_mesh ..))) (.refl s)

/-- The replay cache takes an entry (R278). -/
def State.remember (s : State) (e : ReplayEntry) : State := s.modMesh fun m => { m with replay := m.replay ++ [e] }

/-- An accepted frame is entered in the replay cache; what follows leaves the receiver and the cache alone (R277). -/
theorem State.meshAccept_rxKeeps (b payload : List Byte) (stampMs : Nat) :
    RxKeeps (s.remember ⟨fieldLE b 2 8, fieldLE b 24 4, stampMs + 2000⟩) (s.meshAccept b payload stampMs) := by
  unfold State.meshAccept
  extract_lets fctl type src fc node rho leaf u s1 s2 s2' room x y s3 s4
  have h1 : RxKeeps (s.remember ⟨src, fc, stampMs + 2000⟩) s1 := ⟨rfl, rfl, rfl, rfl⟩
  have h2 : RxKeeps (s.remember ⟨src, fc, stampMs + 2000⟩) s2 := h1.trans (.ite (s1.observeRouter_rxKeeps ..) (.refl s1))
  have h2' : RxKeeps (s.remember ⟨src, fc, stampMs + 2000⟩) s2' := h2.trans (.ite (s2.ackIn_rxKeeps ..) (.refl s2))
  have h3 : RxKeeps s2' s3 := by
    refine .ite (.of_mesh (s2'.bridgeUp_mesh u)) ?_
    have hx : RxKeeps s2' x := .ite (s2'.summarise_rxKeeps payload) (.refl s2')
    have hy : RxKeeps s2' y := hx.trans (x.inc_rxKeeps _)
    exact .ite (hx.trans ⟨rfl, rfl, rfl, rfl⟩)
      (.ite hy (hy.trans (RxKeeps.trans (t := y.modMesh fun m => { m with upFullPosted := true }) ⟨rfl, rfl, rfl, rfl⟩
        (State.postEvent_rxKeeps _ ..))))
  have h4 : RxKeeps (s.remember ⟨src, fc, stampMs + 2000⟩) s4 :=
    (h2'.trans h3).trans (.ite (s3.openReply_rxKeeps src fc) (.refl s3))
  split
  · exact .ite h4 (h4.trans (s4.meshWake_rxKeeps ..))
  · exact h4

/-! ## The end of a frame (R277 to R279) -/

/-- What the MIC and the replay cache make of a frame that has passed the checks before them. -/
def State.judgeFrame (s : State) (b : List Byte) (named : Nat) : State :=
  match s.meshOpen b with
  | none => s.inc (nwCnt 1 true)
  | some payload =>
    if s.mesh.replay.any (fun e => e.src == fieldLE b 2 8 && e.fc == fieldLE b 24 4) then
      if bitOf (fieldLE b 0 1) 3 && fieldLE b 10 8 = s.coordinator
      then (s.inc (nwCnt 2 false)).openReply (fieldLE b 2 8) (fieldLE b 24 4) else s.inc (nwCnt 2 false)
    else if 16384 ≤ s.mesh.replay.length then
      (s.inc (nwCnt 2 true)).postOnce 1 0x8002 (items [s.mesh.replay.length, s.mesh.bsn])
    else s.meshAccept b payload named

/-- The frame is in the cache, or the cache is full. -/
def State.replayRefuses (s : State) (b : List Byte) : Prop :=
  s.mesh.replay.any (fun e => e.src == fieldLE b 2 8 && e.fc == fieldLE b 24 4) = true ∨ 16384 ≤ s.mesh.replay.length

theorem State.judgeFrame_of_mic {s : State} {b : List Byte} (h : s.meshOpen b = none) (named : Nat) : RxKeeps s (s.judgeFrame b named) := by
  rw [State.judgeFrame, h]
  exact s.inc_rxKeeps _

theorem State.judgeFrame_of_refused {s : State} {b payload : List Byte} (ho : s.meshOpen b = some payload) (h : s.replayRefuses b)
    (named : Nat) : RxKeeps s (s.judgeFrame b named) := by
  rw [State.judgeFrame, ho]
  dsimp only
  by_cases hdup : s.mesh.replay.any (fun e => e.src == fieldLE b 2 8 && e.fc == fieldLE b 24 4) = true
  · rw [if_pos hdup]
    exact .ite ((s.inc_rxKeeps _).trans (State.openReply_rxKeeps _ ..)) (s.inc_rxKeeps _)
  · rw [if_neg hdup, if_pos (h.resolve_left hdup)]
    exact (s.inc_rxKeeps _).trans (State.postOnce_rxKeeps _ ..)

theorem State.judgeFrame_of_accepted {s : State} {b payload : List Byte} (ho : s.meshOpen b = some payload) (h : ¬s.replayRefuses b)
    (named : Nat) : RxKeeps (s.remember ⟨fieldLE b 2 8, fieldLE b 24 4, named + 2000⟩) (s.judgeFrame b named) := by
  obtain ⟨hdup, hfull⟩ := not_or.mp h
  rw [State.judgeFrame, ho]
  dsimp only
  rw [if_neg hdup, if_neg hfull]
  exact s.meshAccept_rxKeeps b payload named

/-- A PSDU that passes every check of R277 before that of the MIC, whose STAMP names the ms `named` of MT. -/
structure FrameChecked (b : List Byte) (named : Nat) (s : State) : Prop where
  payload : s.mesh.rx = .payload
  length : meshHdr b + 8 ≤ b.length
  fctl : fieldLE b 0 1 < 64
  type : fieldLE b 0 1 % 8 ≤ 3
  key : fieldLE b 28 1 < 16
  hops : fieldLE b 1 1 % 16 + fieldLE b 1 1 / 16 ≤ 15
  dst : fieldLE b 10 8 = s.coordinator ∨ fieldLE b 10 8 = 2 ^ 64 - 1
  started : s.time.mtState ≠ .notStarted
  stamp : (named : Int) = (s.mtMs : Int) + signed 32 ((fieldLE b 18 4 + 2 ^ 32 - s.mtMs % 2 ^ 32) % 2 ^ 32)
  late : named < s.mtMs + 2000
  early : s.mtMs ≤ named + 2000
  floor : s.mesh.floor ≤ named
  held : Tab.has s.mesh.keys (fieldLE b 28 1 % 8) = true

theorem meshEnd_of_checked {s : State} {b : List Byte} {named : Nat} (h : FrameChecked b named s) :
    meshEnd b true s = s.meshSearch.judgeFrame b named := by
  have hlate := h.late
  have hearly := h.early
  have hnamed := h.stamp
  have hform : (decide (64 ≤ fieldLE b 0 1) || decide (3 < fieldLE b 0 1 % 8) || decide (16 ≤ fieldLE b 28 1)
      || decide (15 < fieldLE b 1 1 % 16 + fieldLE b 1 1 / 16)) = false := by
    simp [h.fctl, h.type, h.key, h.hops]
  unfold meshEnd
  rw [if_neg (by simp [h.payload])]
  extract_lets s1 fctl dst src fc d n
  have hd : (named : Int) = s.mtMs + d := hnamed
  have hn : n = named := by
    change ((s.mtMs : Int) + d).toNat = named
    omega
  have hfloor : ¬n < s1.mesh.floor := Nat.not_lt.mpr (hn ▸ h.floor)
  have hwindow : ¬(decide (d < -2000) || decide (2000 ≤ d) || n < s1.mesh.floor) = true := by
    simp only [Bool.or_eq_true, decide_eq_true_eq, hfloor, or_false]
    omega
  have hdst : dst = s1.coordinator ∨ dst = 2 ^ 64 - 1 := h.dst
  have hstarted : s1.time.mtState ≠ .notStarted := h.started
  have hheld : Tab.has s1.mesh.keys (fieldLE b 28 1 % 8) = true := h.held
  rw [if_neg (by simp), if_neg (Nat.not_lt.mpr h.length), if_neg (by rw [hform]; decide),
    if_neg (by simpa [Classical.or_iff_not_imp_left] using hdst), if_neg (by simpa using hstarted), if_neg hwindow,
    if_neg (by simp [hheld]), hn]
  rfl

end

end Sys2Proof.Machine

end

section
/-! PROOFS. The mesh island's receiver and its replay cache (10 R274 to R279, R284, R288). -/

namespace Sys2Proof.Machine

/-! ## The receiver's states (R274) -/

/-- A preamble of a level, from now on. -/
def State.meshPreamble (s : State) (level : Int) : State :=
  { s with mesh := { s.mesh with rx := .preamble, rxLevel := level, rxFrom := s.elapsed } }

section
variable {s : State}

theorem meshDetect_eq (d : MeshDetect) (s : State) : meshDetect d s =
    if s.mesh.rx = .search ∧ s.meshHears = true ∧ s.nwDb 17 ≤ d.level ∧ s.preambleIn d = true
    then s.meshPreamble d.level else s := by
  have hneg : (s.mesh.rx != .search || !s.meshHears || decide (d.level < s.nwDb 17) || !s.preambleIn d) = true
      ↔ ¬(s.mesh.rx = .search ∧ s.meshHears = true ∧ s.nwDb 17 ≤ d.level ∧ s.preambleIn d = true) := by
    simp only [Bool.or_eq_true, bne_iff_ne, Bool.not_eq_true', decide_eq_true_eq, not_and_or, not_le, Bool.not_eq_true, or_assoc, ne_eq]
  rw [meshDetect, if_congr hneg rfl rfl, ite_not]
  rfl

theorem meshSfd_eq (r0 r1 : Int) (s : State) : meshSfd r0 r1 s = if s.mesh.rx = .preamble
    then { s with mesh := { s.mesh with rx := .header, rssi := max r0 r1, sfd := s.mtNs } } else s := by
  have hmax : (if r0 < r1 then r1 else r0) = max r0 r1 := by split <;> omega
  unfold meshSfd
  rw [hmax, if_congr (bne_iff_ne ..) rfl rfl, ite_not]
  rfl

/-- No SFD within SFD_WAIT: back to SEARCH, and counted. -/
theorem meshSfdGone_of_due (hrx : s.mesh.rx = .preamble) (h : s.mesh.rxFrom + s.sfdWait ≤ s.elapsed) :
    meshSfdGone s = s.meshSearch.inc (nwCnt 0 false) :=
  if_neg (by simp [hrx, h])

theorem meshSfdGone_of_not_due (h : s.mesh.rx ≠ .preamble ∨ s.elapsed < s.mesh.rxFrom + s.sfdWait) : meshSfdGone s = s :=
  if_pos (by simpa using h)

theorem meshRestart_of_stronger {level : Int} (hrx : s.mesh.rx = .preamble) (h : s.mesh.rxLevel + s.nwDb 18 ≤ level) :
    meshRestart level s = (s.modMesh fun m => { m with rxLevel := level, rxFrom := s.elapsed }).inc (nwCnt 5 false) :=
  if_neg (by simp [hrx, h])

theorem meshRestart_of_other {level : Int} (h : s.mesh.rx ≠ .preamble ∨ level < s.mesh.rxLevel + s.nwDb 18) :
    meshRestart level s = s :=
  if_pos (by simpa using h)

theorem meshCapture_of_stronger {level : Int} (hrx : s.mesh.rx = .payload) (hon : bitOf (fieldLE s.nwRec 20 1) 0 = true)
    (h : s.mesh.rxLevel + s.nwDb 19 ≤ level) : meshCapture level s = (s.meshPreamble level).inc (nwCnt 5 true) :=
  if_neg (by simp [hrx, hon, h])

theorem meshCapture_of_other {level : Int} (h : s.mesh.rx ≠ .payload ∨ level < s.mesh.rxLevel + s.nwDb 19) :
    meshCapture level s = s := by
  refine if_pos ?_
  simp only [Bool.or_eq_true, bne_iff_ne, decide_eq_true_eq]
  exact h.imp_left .inl

theorem meshPhr_of_fits {len : Nat} (hrx : s.mesh.rx = .header) (h : 38 + s.fcsBytes ≤ len) :
    meshPhr len true s = { s with mesh := { s.mesh with rx := .payload } } := by
  rw [meshPhr, if_neg (by simp [hrx]), if_neg (by simp [h])]
  rfl

/-- A PHR that is not the network's or names too short a frame: back to SEARCH, and counted. -/
theorem meshPhr_of_refused {len : Nat} {ok : Bool} (hrx : s.mesh.rx = .header) (h : ok = false ∨ len < 38 + s.fcsBytes) :
    meshPhr len ok s = if len < 38 + s.fcsBytes then (s.meshSearch.inc (nwCnt 0 false)).inc (nwCnt 0 true)
      else s.meshSearch.inc (nwCnt 0 false) := by
  rw [meshPhr, if_neg (by simp [hrx]), if_pos (by simpa using h)]

end

/-! ## Entries that age out (R278, R284) -/

theorem mem_replayExpired (src fc : Nat) (s : State) (e : ReplayEntry) :
    e ∈ (replayExpired src fc s).mesh.replay ↔ e ∈ s.mesh.replay ∧ ¬(e.src = src ∧ e.fc = fc ∧ e.expiry ≤ s.mtMs) := by
  simp [replayExpired, State.modMesh, imp_iff_not_or, or_assoc]

theorem routerAged_of_due {s : State} {addr : Nat} {r : Router} (hr : Tab.get? s.mesh.routers addr = some r)
    (h : r.heard + ms (fieldLE s.nwRec 40 2 * 1000) ≤ s.elapsed) :
    routerAged addr s = s.modMesh fun m => { m with routers := Tab.del m.routers addr } := by
  rw [routerAged, hr]
  exact if_neg (Nat.not_lt.mpr h)

/-! ## The wake-up receiver (R288) -/

/-- LISTEN_NOW for the cell opens the main receivers. -/
theorem wuSignal_of_listenNow {wua : Nat} {s : State} (hw : wua = fieldLE s.nwRec 36 3 ∨ wua = 0xFFFFFF)
    (hst : s.mesh.state = .alone ∨ s.mesh.state = .bridged) :
    wuSignal wua 1 true s = { s with mesh := { s.mesh with wuOpen := some s.elapsed } } := by
  have hstate : (s.mesh.state == .reset) = false ∧ (s.mesh.state == .recovering) = false := by
    rcases hst with h | h <;> rw [h] <;> exact ⟨rfl, rfl⟩
  rw [wuSignal, if_neg (by simpa [hstate, Classical.or_iff_not_imp_left] using hw)]
  rfl

theorem meshHears_of_wuOpen {s : State} {t : Nat} (hst : s.mesh.state = .alone ∨ s.mesh.state = .bridged) (htx : s.mesh.tx = none)
    (h : s.mesh.wuOpen = some t) : s.meshHears = true := by
  simp [State.meshHears, hst, htx, h]

/-- Under RX_SAVE no receiver runs but for a slot, a reply window or a LISTEN_NOW. -/
theorem meshHears_of_save {s : State} (hsave : s.rxSave = true) (hmain : s.mesh.mainRx = false) (hrep : s.mesh.replies = [])
    (h : s.mesh.wuOpen = none) : s.meshHears = false := by
  simp [State.meshHears, hsave, hmain, hrep, h]

theorem wuExpired_of_due {s : State} {t : Nat} (hw : s.mesh.wuOpen = some t) (h : t + ms (fieldLE s.nwRec 31 1 * 10) ≤ s.elapsed) :
    wuExpired s = { s with mesh := { s.mesh with wuOpen := none } } := by
  rw [wuExpired, hw]
  exact if_neg (Nat.not_lt.mpr h)

/-- Settles O51, from what each row of the receiver does in each of its states, and from what the stages of an accepted frame leave of
the replay cache. -/
theorem meshReception : Obligations.MeshReception := by
  unfold Obligations.MeshReception
  refine ⟨fun d s => ?_, fun r0 r1 s => ?_, fun s hrx hdue => ?_, fun s h => ?_, fun level s hrx h => ?_, fun level s hrx hon h => ?_,
    fun level s h => ?_, fun level s h => ?_, fun len s hrx h => ?_, fun len ok s hrx h => ?_, fun b s hrx => ?_,
    fun b named s hrx hlen hfctl htype hkey hhops hdst hmt hnamed hlate hearly hfloor hheld => ?_, fun src fc s => ?_,
    fun addr r s hr h => ?_, fun wua s hw hst => ?_, fun wua cmd s => ?_, fun t0 s hw h => ?_⟩
  case refine_1 =>
    refine congrArg Host.Outcome.next ((meshDetect_eq d s).trans (if_congr ?_ rfl rfl))
    simp [State.preambleIn]
  case refine_2 => exact congrArg Host.Outcome.next (meshSfd_eq r0 r1 s)
  case refine_3 =>
    exact ⟨_, congrArg Host.Outcome.next (meshSfdGone_of_due hrx hdue), State.inc_mesh .., fun h => State.get_inc_nwCnt h,
      fun a ha => State.reg_inc_ne _ ha⟩
  case refine_4 => exact congrArg Host.Outcome.next (meshSfdGone_of_not_due h)
  case refine_5 =>
    exact ⟨_, congrArg Host.Outcome.next (meshRestart_of_stronger hrx h), State.inc_mesh .., fun h => State.get_inc_nwCnt h⟩
  case refine_6 =>
    exact ⟨_, congrArg Host.Outcome.next (meshCapture_of_stronger hrx hon h), State.inc_mesh .., fun h => State.get_inc_nwCnt h⟩
  case refine_7 => exact congrArg Host.Outcome.next (meshRestart_of_other h)
  case refine_8 => exact congrArg Host.Outcome.next (meshCapture_of_other h)
  case refine_9 => exact congrArg Host.Outcome.next (meshPhr_of_fits hrx h)
  case refine_10 =>
    have hlow : s.get (nwCnt 0 false) < 65535 → (s.meshSearch.inc (nwCnt 0 false)).get (nwCnt 0 false) = s.get (nwCnt 0 false) + 1 :=
      fun h => State.get_inc_nwCnt h
    have hhigh : (s.meshSearch.inc (nwCnt 0 false)).get (nwCnt 0 true) = s.get (nwCnt 0 true) := State.get_inc_nwCnt_other _ 0 false
    refine ⟨_, congrArg Host.Outcome.next (meshPhr_of_refused hrx h), ?_⟩
    by_cases hrunt : len < 38 + s.fcsBytes
    · simp only [hrunt, if_true, decide_true]
      refine ⟨(State.inc_mesh ..).trans (State.inc_mesh ..), fun h => ?_, fun h => ?_⟩
      · rw [← hlow h]
        exact State.get_inc_nwCnt_other _ 0 true
      · rw [← hhigh] at h ⊢
        exact State.get_inc_nwCnt h
    · simp only [hrunt, if_false, decide_false]
      exact ⟨State.inc_mesh .., hlow, fun _ => hhigh⟩
  case refine_11 =>
    refine congrArg Host.Outcome.next ?_
    unfold meshEnd
    rw [if_neg (by simp [hrx])]
    rfl
  case refine_12 =>
    have hrun := meshEnd_of_checked ⟨hrx, hlen, hfctl, htype, hkey, hhops, hdst, hmt, hnamed, hlate, hearly, hfloor, hheld⟩
    refine ⟨_, congrArg Host.Outcome.next hrun, ?_⟩
    cases ho : s.meshOpen b with
    | none =>
      have hk := State.judgeFrame_of_mic (s := s.meshSearch) ho named
      exact ⟨hk.rx, hk.keys, hk.floor, hk.replay⟩
    | some payload =>
      dsimp only
      split
      next h =>
        have hk := State.judgeFrame_of_refused (s := s.meshSearch) ho h named
        exact ⟨hk.rx, hk.keys, hk.floor, hk.replay⟩
      next h =>
        have hk := State.judgeFrame_of_accepted (s := s.meshSearch) ho h named
        exact ⟨hk.rx, hk.keys, hk.floor, hk.replay⟩
  case refine_13 => exact ⟨_, rfl, mem_replayExpired src fc s, rfl, rfl, rfl⟩
  case refine_14 =>
    exact ⟨_, congrArg Host.Outcome.next (routerAged_of_due hr h), Tab.get?_del_self .., fun k hk => Tab.get?_del_ne _ hk, rfl, rfl⟩
  case refine_15 =>
    exact ⟨congrArg Host.Outcome.next (wuSignal_of_listenNow hw hst), fun htx => meshHears_of_wuOpen hst htx rfl⟩
  case refine_16 => rfl
  case refine_17 =>
    exact ⟨congrArg Host.Outcome.next (wuExpired_of_due hw h), fun hsave hmain hrep => meshHears_of_save hsave hmain hrep rfl⟩

end Sys2Proof.Machine

end

section
/-! PROOFS. What an attempt of the mesh island to transmit comes to, and what a DOWN frame that goes leaves behind (10 R282, R285, R290,
R292, R294). -/

namespace Sys2Proof.Machine

/-! ## An attempt to transmit (R290, R292) -/

section
variable {s : State} {what : MeshWhat} {band air : Nat} {reply : Bool} {level : Int}

/-- A transmission is charged, ends a reception and has the transmitter for its air time. -/
def State.sending (s : State) (what : MeshWhat) (band air : Nat) (reply : Bool) : State :=
  (s.charge band air).modMesh fun m =>
    { m with rx := .search, searchFrom := s.elapsed, tx := some ⟨what, s.mtNs + air, s.elapsed, reply⟩ }

/-- LBT finds the channel of a sub-band busy at a level (R292). -/
def State.channelBusy (s : State) (band : Nat) (level : Int) : Bool :=
  bitOf (fieldLE (s.subBands.getD band []) 12 1) 0 && decide (signed 8 (fieldLE (s.subBands.getD band []) 13 1) ≤ level)

/-- A level at which LBT, where it is on, finds the channel free. -/
theorem State.channelBusy_of_free
    (h : bitOf (fieldLE (s.subBands.getD band []) 12 1) 0 = false ∨ level < signed 8 (fieldLE (s.subBands.getD band []) 13 1)) :
    s.channelBusy band level = false := by
  rwa [State.channelBusy, Bool.and_eq_false_iff, decide_eq_false_iff_not, not_le]

theorem State.channelBusy_of_busy
    (hon : bitOf (fieldLE (s.subBands.getD band []) 12 1) 0 = true) (h : signed 8 (fieldLE (s.subBands.getD band []) 13 1) ≤ level) :
    s.channelBusy band level = true := by
  rw [State.channelBusy, hon, decide_eq_true h]
  rfl

/-- What stands in the way of a transmission, in the order in which it is looked at. -/
theorem State.meshSend_eq (s : State) (what : MeshWhat) (band air : Nat) (reply : Bool) (level : Int) : s.meshSend what band air reply level =
    if s.boot.state = .hold then (some 0x54, s)
    else if s.realigning = true ∨ s.mesh.gap = true ∧ reply = false then (some 0x04, s)
    else if s.mesh.tx.isSome = true then (some 0x0F, s)
    else if s.channelBusy band level = true then (some 0x53, s.inc (nwCnt 3 true))
    else if s.dutyOk band air = false then (some 0x0C, (s.inc (nwCnt 3 false)).postOnce (16 + band) 0x8003
      (items [band, s.ledgerSum band (bucketOf (s.frNs + air)) / 3600000, s.mesh.bsn]))
    else (none, s.sending what band air reply) := by
  unfold State.meshSend
  simp only [State.channelBusy, beq_iff_eq, Bool.or_eq_true, Bool.and_eq_true, Bool.not_eq_true']
  rfl

theorem State.meshSend_of_sent (h : (s.meshSend what band air reply level).1 = none) :
    s.meshSend what band air reply level = (none, s.sending what band air reply) := by
  rw [State.meshSend_eq] at h ⊢
  split_ifs at h ⊢
  rfl

/-- Nothing stands in the way of a frame outside the gap after an MT step. -/
theorem State.meshSend_of_free (hb : s.boot.state ≠ .hold) (hr : s.realigning = false) (hgap : s.mesh.gap = false)
    (htx : s.mesh.tx = none) (hc : s.channelBusy band level = false) (hd : s.dutyOk band air = true) :
    s.meshSend what band air reply level = (none, s.sending what band air reply) := by
  rw [State.meshSend_eq, if_neg hb, if_neg (by simp [hr, hgap]), if_neg (by simp [htx]), if_neg (by simp [hc]), if_neg (by simp [hd])]

/-- In the gap only open reply windows send (R286). -/
theorem State.meshSend_of_gap (hb : s.boot.state ≠ .hold) (hgap : s.mesh.gap = true) :
    s.meshSend what band air false level = (some 0x04, s) := by
  rw [State.meshSend_eq, if_neg hb, if_pos (.inr ⟨hgap, rfl⟩)]

/-- On a busy channel nothing is charged. -/
theorem State.meshSend_of_busy (hb : s.boot.state ≠ .hold) (htx : s.mesh.tx = none) (hc : s.channelBusy band level = true) :
    ∃ o, (s.meshSend what band air reply level).1 = some o ∧ (s.meshSend what band air reply level).2.mesh = s.mesh := by
  rw [State.meshSend_eq, if_neg hb, if_pos hc, if_neg (c := s.mesh.tx.isSome = true) (by simp [htx])]
  split
  · exact ⟨_, rfl, rfl⟩
  · exact ⟨_, rfl, s.inc_mesh _⟩

end

/-! ## The frame counter (R285) -/

theorem State.meshFc_keeps (s : State) :
    s.meshFc.2.time = s.time ∧ ∃ e, s.meshFc.2.mesh = { s.mesh with fc := s.mesh.fc + 1, epochNext := e } := by
  unfold State.meshFc
  extract_lets n s1
  split
  · exact ⟨State.postEvent_time .., _, State.postEvent_mesh ..⟩
  · exact ⟨rfl, _, rfl⟩

/-- The counter of a DOWN frame: the one of its first attempt, or the island's next. -/
def State.frameFc (s : State) (d : MeshDown) : Nat × State :=
  match d.fc with
  | some f => (f, s)
  | none => s.meshFc

theorem State.frameFc_keeps (s : State) (d : MeshDown) :
    (s.frameFc d).2.time = s.time ∧ ∃ fc e, (s.frameFc d).2.mesh = { s.mesh with fc := fc, epochNext := e } := by
  unfold State.frameFc
  split
  · exact ⟨rfl, _, _, rfl⟩
  · obtain ⟨ht, e, hm⟩ := s.meshFc_keeps
    exact ⟨ht, _, e, hm⟩

/-! ## An attempt of a DOWN frame (R282, R294) -/

section
variable {s : State} {id guard : Nat} {d : MeshDown} {reply : Bool} {level : Int}

/-- What an attempt that goes notes of its frame. -/
def MeshDown.sent (d : MeshDown) (fc stamp bsn : Nat) : MeshDown :=
  { d with fc := some fc, stamp := if d.fc.isSome then d.stamp else stamp, attempts := d.attempts + 1, bsn := bsn }

theorem State.modDown_get? (s : State) (id : Nat) (f : MeshDown → MeshDown) :
    Tab.get? (s.modDown id f).mesh.down id = (Tab.get? s.mesh.down id).map f := Tab.get?_upd_self ..

/-- What remains of an attempt that goes once it is on the air: its note, and that its command reached the air. -/
def State.attempted (s : State) (id : Nat) (d : MeshDown) (fc stamp bsn : Nat) : State :=
  match d.cmd with
  | some (fn, tag) => (s.modDown id (·.sent fc stamp bsn)).reached fn tag 0
  | none => s.modDown id (·.sent fc stamp bsn)

theorem State.attempted_time (s : State) (id : Nat) (d : MeshDown) (fc stamp bsn : Nat) : (s.attempted id d fc stamp bsn).time = s.time := by
  unfold State.attempted
  split <;> rfl

theorem State.attempted_mesh (s : State) (id : Nat) (d : MeshDown) (fc stamp bsn : Nat) :
    (s.attempted id d fc stamp bsn).mesh = { s.mesh with down := Tab.upd s.mesh.down id (·.sent fc stamp bsn) } := by
  unfold State.attempted
  split <;> rfl

/-- An attempt that goes keeps the counter and the STAMP of the first one (R294). -/
theorem State.sendDown_eq_of_sent (hd : Tab.get? s.mesh.down id = some d) (htx : s.mesh.tx = none) (hack : d.ackReq = false)
    (hsent : (s.meshSend (.data id) s.frameBand (s.airTime guard d.payload.length) reply level).1 = none) :
    ∃ u, u = s.sending (.data id) s.frameBand (s.airTime guard d.payload.length) reply
      ∧ s.sendDown id guard reply level = (u.frameFc d).2.attempted id d (u.frameFc d).1 s.mtMs s.mesh.bsn := by
  refine ⟨_, rfl, ?_⟩
  unfold State.sendDown
  rw [hd]
  dsimp only
  rw [if_neg (by simp [htx]), if_neg (by simp [hack]), State.meshSend_of_sent hsent]
  rfl

/-- t is s after an attempt of the frame d, under id, went for an air time. -/
structure DownSent (id air : Nat) (reply : Bool) (d : MeshDown) (s t : State) : Prop where
  tx : t.mesh.tx = some ⟨.data id, s.mtNs + air, s.elapsed, reply⟩
  frame : ∃ fc, Tab.get? t.mesh.down id = some (d.sent fc s.mtMs s.mesh.bsn)
  routers : t.mesh.routers = s.mesh.routers
  slotStart : t.meshSlotStart = s.meshSlotStart

theorem State.sendDown_of_sent (hd : Tab.get? s.mesh.down id = some d) (htx : s.mesh.tx = none) (hack : d.ackReq = false)
    (hsent : (s.meshSend (.data id) s.frameBand (s.airTime guard d.payload.length) reply level).1 = none) :
    DownSent id (s.airTime guard d.payload.length) reply d s (s.sendDown id guard reply level) := by
  obtain ⟨u, rfl, hrun⟩ := State.sendDown_eq_of_sent hd htx hack hsent
  generalize hu : s.sending (.data id) s.frameBand (s.airTime guard d.payload.length) reply = u at hrun
  obtain ⟨htime, fc, e, hfc⟩ := u.frameFc_keeps d
  generalize u.frameFc d = v at hrun htime hfc
  have hmesh := v.2.attempted_mesh id d v.1 s.mtMs s.mesh.bsn
  rw [hfc, ← hu] at hmesh
  rw [← hu] at htime
  rw [hrun]
  constructor
  case tx => rw [hmesh]; rfl
  case frame =>
    have hnote := Tab.get?_upd_self s.mesh.down id (·.sent v.1 s.mtMs s.mesh.bsn)
    rw [hd] at hnote
    exact ⟨v.1, by rw [hmesh]; exact hnote⟩
  case routers => rw [hmesh]; rfl
  case slotStart =>
    rw [State.meshSlotStart, State.meshSlot, State.mtNs, State.attempted_time, htime, hmesh]
    rfl

/-- In the gap after an MT step a frame is LATE and stays queued (R286). -/
theorem State.sendDown_of_gap (hd : Tab.get? s.mesh.down id = some d) (htx : s.mesh.tx = none) (hack : d.ackReq = false)
    (hb : s.boot.state ≠ .hold) (hgap : s.mesh.gap = true) :
    ∃ f, s.sendDown id guard false level = s.modDown id f ∧ ∀ d, f d = { d with late := d.late + 1 } := by
  unfold State.sendDown
  rw [hd]
  dsimp only
  rw [if_neg (by simp [htx]), if_neg (by simp [hack]), State.meshSend_of_gap hb hgap]
  exact ⟨_, rfl, fun _ => rfl⟩

end

end Sys2Proof.Machine

end

section
/-! PROOFS. The mesh island's superframes, slots, transmissions and their ends (10 R280 to R287, R290 to R294). -/

namespace Sys2Proof.Machine

/-! ## The mesh superframe and its slots (R280, R286, R288) -/

section
variable {s : State}

/-- MT takes the step that waits (04 R107). -/
theorem State.mtFollows_of_pending (hf : s.time.mtFollow = true) (hv : s.ntValid = true) :
    s.mtFollows.time = { s.time with mt := s.time.nt, mtFollow := false, mtState := .steered } ∧ s.mtFollows.mesh = s.mesh := by
  unfold State.mtFollows
  rw [if_pos (by simp [hf, hv])]
  exact ⟨State.postEvent_time .., State.postEvent_mesh ..⟩

theorem meshSf_of_reset (h : s.mesh.state = .reset) : meshSf s = s.mtFollows := if_pos (by simp [h])

theorem meshSf_of_early (hst : s.mesh.state ≠ .reset) (h : s.mtNs < s.mesh.next) : meshSf s = s := by
  unfold meshSf
  rw [if_neg (by simp [hst]), if_pos h]

/-- A superframe start without a step of MT counts BSN and takes a changed format. -/
theorem meshSf_of_start (hst : s.mesh.state ≠ .reset) (hdue : s.mesh.next ≤ s.mtNs) (hf : s.time.mtFollow = false) :
    (meshSf s).mesh.bsn = (if s.mesh.started = true then (s.mesh.bsn + 1) % 2 ^ 32 else 0)
      ∧ (meshSf s).mesh.started = true ∧ (meshSf s).mesh.sf = s.mesh.next ∧ (meshSf s).mesh.change = false
      ∧ (meshSf s).mesh.beaconSent = false ∧ (meshSf s).mesh.n = (if s.mesh.change = true then s.get ⟨0x2000004, 5, 0⟩ + 1 else s.mesh.n)
      ∧ (meshSf s).mesh.next = s.mesh.next + (meshSf s).mesh.n * (meshSf s).mesh.sfNs
      ∧ (meshSf s).mesh.map = (if s.mesh.change = true then mapOf s.reg else s.mesh.map)
      ∧ (meshSf s).mesh.replay = s.mesh.replay ∧ (meshSf s).mesh.down = s.mesh.down ∧ (meshSf s).mesh.keys = s.mesh.keys
      ∧ (meshSf s).regs = s.regs := by
  unfold meshSf
  rw [if_neg (by simp [hst]), if_neg (Nat.not_lt.mpr hdue), if_neg (by simp [hf])]
  exact ⟨rfl, rfl, rfl, rfl, rfl, rfl, rfl, rfl, rfl, rfl, rfl, rfl⟩

/-- One that takes a step of MT moves the floor and the expiries with it, and opens the gap unless MT is on the island's grid. -/
theorem meshSf_of_step (hst : s.mesh.state ≠ .reset) (hdue : s.mesh.next ≤ s.mtNs) (hf : s.time.mtFollow = true) (hv : s.ntValid = true)
    (hlen : 0 < s.mesh.n * s.mesh.sfNs) :
    (meshSf s).time.mt = s.time.nt ∧ (meshSf s).time.mtFollow = false ∧ (meshSf s).mesh.bsn = s.mesh.bsn
      ∧ ((meshSf s).mesh.gap = true ↔ (((meshSf s).mtNs : Int) - s.mesh.anchor) % (s.mesh.n * s.mesh.sfNs : Nat) ≠ 0)
      ∧ (meshSf s).mesh.floor = ((s.mesh.floor : Int) + (((meshSf s).mtMs : Int) - s.mtMs)).toNat
      ∧ (meshSf s).mesh.replay
        = s.mesh.replay.map (fun e => { e with expiry := ((e.expiry : Int) + (((meshSf s).mtMs : Int) - s.mtMs)).toNat }) := by
  obtain ⟨htime, hmesh⟩ := State.mtFollows_of_pending hf hv
  unfold meshSf
  rw [if_neg (by simp [hst]), if_neg (Nat.not_lt.mpr hdue), if_pos (by simp [hf, hv])]
  extract_lets t d mv len off
  have hbsn : t.mesh.bsn = s.mesh.bsn := congrArg MeshSt.bsn hmesh
  refine ⟨congrArg TimeSt.mt htime, congrArg TimeSt.mtFollow htime, hbsn, ?_, ?_, ?_⟩
  · have hpos : (0 : Int) < (s.mesh.n * s.mesh.sfNs : Nat) := by omega
    have hoff : off = (((t.mtNs : Int) - s.mesh.anchor) % (s.mesh.n * s.mesh.sfNs : Nat)).toNat := by
      simp only [off, len, t, hmesh]
    have hnonneg := Int.emod_nonneg ((t.mtNs : Int) - s.mesh.anchor) (ne_of_gt hpos)
    change decide (off ≠ 0) = true ↔ ((t.mtNs : Int) - s.mesh.anchor) % (s.mesh.n * s.mesh.sfNs : Nat) ≠ 0
    rw [decide_eq_true_eq, hoff]
    omega
  · change ((t.mesh.floor : Int) + d).toNat = _
    rw [hmesh]
    rfl
  · change t.mesh.replay.map _ = _
    rw [hmesh]
    rfl

theorem slotStart_mainRx (s : State) : (slotStart s).mesh.mainRx = true ↔ s.slotKind ∈ [1, 2, 4] := by
  simp [slotStart, State.modMesh, or_assoc]

end

/-! ## The beacon (R285, R286) -/

/-- The beacon of the superframe has had its turn. -/
def State.beaconTurned (s : State) : State := { s with mesh := { s.mesh with beaconSent := true } }

/-- The beacon's air time. -/
def State.beaconAir (s : State) : Nat := s.airTime (fieldLE s.nwRec 23 1 * 100000) (24 + 4 * s.mesh.map.length)

/-- Slot 0 of a superframe that has started, its beacon not sent yet, the transmitter of an island in service free. -/
structure MeshBeaconTurn (s : State) : Prop where
  started : s.mesh.started = true
  unsent : s.mesh.beaconSent = false
  slot : s.meshSlot = 0
  service : s.mesh.state = .alone ∨ s.mesh.state = .bridged
  free : s.mesh.tx = none

theorem meshBeacon_of_turn {s : State} (h : MeshBeaconTurn s) (level : Int) :
    ∃ r, r = s.beaconTurned.meshSend .beacon s.frameBand s.beaconAir false level ∧ meshBeacon level s = match r.1 with
      | none => r.2.meshFc.2
      | some o => if o = 0x0C || o = 0x53 then r.2.postEvent 0x8008 (items [b2n (o == 0x53)]) else r.2 := by
  have hstate : (s.mesh.state == .reset) = false ∧ (s.mesh.state == .recovering) = false := by
    rcases h.service with hst | hst <;> rw [hst] <;> exact ⟨rfl, rfl⟩
  refine ⟨_, rfl, ?_⟩
  unfold meshBeacon
  rw [if_neg (by simp [h.started, h.unsent, h.slot, hstate, h.free])]
  rfl

/-- A beacon that goes draws the island's next counter. -/
theorem meshBeacon_of_free {s : State} {level : Int} (h : MeshBeaconTurn s) (hb : s.boot.state ≠ .hold) (hr : s.realigning = false)
    (hgap : s.mesh.gap = false) (hc : s.channelBusy s.frameBand level = false) (hd : s.dutyOk s.frameBand s.beaconAir = true) :
    meshBeacon level s = (s.beaconTurned.sending .beacon s.frameBand s.beaconAir false).meshFc.2 := by
  obtain ⟨r, hsend, hrun⟩ := meshBeacon_of_turn h level
  rw [State.meshSend_of_free (s := s.beaconTurned) hb hr hgap h.free hc hd] at hsend
  rw [hrun, hsend]

theorem meshBeacon_of_busy {s : State} {level : Int} (h : MeshBeaconTurn s) (hb : s.boot.state ≠ .hold)
    (hc : s.channelBusy s.frameBand level = true) : (meshBeacon level s).mesh = s.beaconTurned.mesh := by
  obtain ⟨r, hsend, hrun⟩ := meshBeacon_of_turn h level
  obtain ⟨o, ho, hm⟩ := State.meshSend_of_busy (s := s.beaconTurned) (what := .beacon) (air := s.beaconAir) (reply := false) hb h.free hc
  rw [← hsend] at ho hm
  rw [hrun, ho, ← hm]
  dsimp only
  split
  · exact State.postEvent_mesh ..
  · rfl

theorem meshBeacon_of_gap {s : State} {level : Int} (h : MeshBeaconTurn s) (hb : s.boot.state ≠ .hold) (hgap : s.mesh.gap = true) :
    meshBeacon level s = s.beaconTurned := by
  obtain ⟨r, hsend, hrun⟩ := meshBeacon_of_turn h level
  rw [State.meshSend_of_gap (s := s.beaconTurned) hb hgap] at hsend
  rw [hrun, hsend]
  rfl

/-! ## Reply windows (R282) -/

section
variable {s : State} {r : MeshReply} {level : Int}

/-- A window whose frame falls due in a BEACON slot closes. -/
theorem replyTx_of_beacon_slot (hr : s.mesh.replies.find? (fun r => decide (r.at_ ≤ s.mtNs)) = some r) (htx : s.mesh.tx = none)
    (hk : s.slotKind = 1) :
    replyTx level s = { s with mesh := { s.mesh with replies := s.mesh.replies.filter (·.node != r.node) } } := by
  unfold replyTx
  rw [hr]
  dsimp only
  rw [if_neg (by simp [htx]), if_pos (by simp [hk])]
  rfl

/-- The windows of a node once their ACK went. -/
def ackGone (node : Nat) (l : List MeshReply) : List MeshReply := l.map fun x => if x.node = node then { x with ack := none } else x

theorem ack_of_mem_ackGone {node : Nat} {l : List MeshReply} {x : MeshReply} (h : x ∈ ackGone node l) (hn : x.node = node) :
    x.ack = none := by
  obtain ⟨y, -, rfl⟩ := List.mem_map.mp h
  by_cases hy : y.node = node <;> simp_all

theorem replyTx_of_ack {fc : Nat} (hr : s.mesh.replies.find? (fun r => decide (r.at_ ≤ s.mtNs)) = some r) (htx : s.mesh.tx = none)
    (hk : s.slotKind ≠ 1) (hack : r.ack = some fc)
    (hsent : (s.meshSend (.ack r.node) s.frameBand (s.airTime 0 16) true level).1 = none) :
    replyTx level s = ((s.sending (.ack r.node) s.frameBand (s.airTime 0 16) true).modMesh fun m =>
      { m with replies := ackGone r.node m.replies }).meshFc.2 := by
  unfold replyTx
  rw [hr]
  dsimp only
  rw [if_neg (by simp [htx]), if_neg (by simp [hk]), hack]
  dsimp only
  rw [State.meshSend_of_sent hsent]
  rfl

end

/-! ## Frames for leaves (R282, R286) -/

section
variable {s : State} {id : Nat} {d : MeshDown} {level : Int}

/-- The slot's only frame, with the guard g0, is due. -/
structure ListenDue (id g0 : Nat) (d : MeshDown) (s : State) : Prop where
  kind : s.slotKind = 3
  free : s.mesh.tx = none
  frames : s.slotFrames = [(id, g0)]
  first : s.mesh.slotFirst = true
  queued : Tab.get? s.mesh.down id = some d
  due : s.meshSlotStart + 5000000 ≤ s.mtNs + s.wholeGuard g0 / 2
  fits : s.mtNs + s.airTime (s.wholeGuard g0) d.payload.length ≤ s.meshSlotStart + meshSlotNs s.mesh.slot
  noReply : s.replyDue (s.airTime (s.wholeGuard g0) d.payload.length) = false

theorem listenTx_of_due {g0 : Nat} (h : ListenDue id g0 d s) :
    ∃ u, u = (s.sendDown id (s.wholeGuard g0) false level).sentInSlot id
      ∧ listenTx level s = if u.mesh.tx.isSome = true then u.modMesh fun m => { m with slotFirst := false } else u := by
  have hg : s.wholeGuard (if s.mesh.slotFirst = true then ([] : List (Nat × Nat)).foldl (fun m x => Nat.max m x.2) g0 else 0)
      = s.wholeGuard g0 := by rw [if_pos h.first]; rfl
  have hwait : ¬(s.mtNs + s.wholeGuard g0 / 2 < s.meshSlotStart + 5000000
      || s.meshSlotStart + meshSlotNs s.mesh.slot < s.mtNs + s.airTime (s.wholeGuard g0) d.payload.length
      || s.replyDue (s.airTime (s.wholeGuard g0) d.payload.length)) = true := by
    simp [h.noReply, h.due, h.fits]
  refine ⟨_, rfl, ?_⟩
  unfold listenTx
  rw [if_neg (by simp [h.kind, h.free]), h.frames]
  dsimp only
  rw [hg, h.queued]
  exact if_neg hwait

theorem State.sentInSlot_of_busy {m : MeshTx} (h : s.mesh.tx = some m) :
    s.sentInSlot id = s.modDown id fun d => { d with lastSlot := some s.meshSlotStart } := by
  simp [State.sentInSlot, h]

theorem State.sentInSlot_of_free (h : s.mesh.tx = none) : s.sentInSlot id = s := by
  simp [State.sentInSlot, h]

/-- A frame that goes is noted in its slot, whose next frames go with a normal preamble. -/
theorem listenTx_of_sent {g0 : Nat} {t : State} (h : ListenDue id g0 d s) (hrun : s.sendDown id (s.wholeGuard g0) false level = t)
    (hs : DownSent id (s.airTime (s.wholeGuard g0) d.payload.length) false d s t) :
    listenTx level s
      = (t.modDown id fun d => { d with lastSlot := some s.meshSlotStart }).modMesh fun m => { m with slotFirst := false } := by
  obtain ⟨u, rfl, hu⟩ := listenTx_of_due (level := level) h
  rw [hu, hrun, State.sentInSlot_of_busy hs.tx, hs.slotStart]
  exact if_pos (Option.isSome_iff_exists.mpr ⟨_, hs.tx⟩)

/-- A frame that does not go leaves the slot as it was. -/
theorem listenTx_of_not_sent {g0 : Nat} {t : State} (h : ListenDue id g0 d s) (hrun : s.sendDown id (s.wholeGuard g0) false level = t)
    (ht : t.mesh.tx = none) : listenTx level s = t := by
  obtain ⟨u, rfl, hu⟩ := listenTx_of_due (level := level) h
  rw [hu, hrun, State.sentInSlot_of_free ht, if_neg (by simp [ht])]

/-! ## Frames for routers and woken leaves (R284, R287) -/

theorem routerTx_of_sent {slot : Nat} {r : Router} {t : State} (hd : Tab.get? s.mesh.down id = some d)
    (hr : Tab.get? s.mesh.routers d.dst = some r) (hlearned : r.drift ≠ none) (hslot : s.routerSlot r 120000 = some slot)
    (htx : s.mesh.tx = none) (hlast : d.lastSlot ≠ some slot) (hrep : s.replyDue (s.airTime 120000 d.payload.length) = false)
    (hrun : s.sendDown id 120000 false level = t) (hs : DownSent id (s.airTime 120000 d.payload.length) false d s t) :
    routerTx id level s = t.modDown id fun d => { d with lastSlot := some slot } := by
  unfold routerTx
  rw [hd]
  dsimp only
  rw [hr]
  dsimp only
  rw [hslot]
  dsimp only
  rw [if_neg (by simp [hlearned, hlast, htx, hrep]), hrun]
  exact if_pos (Option.isSome_iff_exists.mpr ⟨_, hs.tx⟩)

theorem listenNow_of_sent {w : Nat} {t : State} (hd : Tab.get? s.mesh.down id = some d) (hw : d.woken = some w)
    (hopen : w + 5000000 ≤ s.mtNs + s.wholeGuard 500000 / 2) (hend : s.mtNs < w + 55000000)
    (hrep : s.replyDue (s.airTime 500000 d.payload.length) = false) (htx : s.mesh.tx = none)
    (hrun : s.sendDown id 500000 false level = t) (hs : DownSent id (s.airTime 500000 d.payload.length) false d s t) :
    listenNow id level s = t.modDown id fun d => { d with woken := none } := by
  unfold listenNow
  rw [hd]
  dsimp only
  rw [hw]
  dsimp only
  rw [if_neg (Nat.not_lt.mpr hopen), if_neg (Nat.not_le.mpr hend), if_neg (by simp [htx, hrep]), hrun]
  exact if_pos (Option.isSome_iff_exists.mpr ⟨_, hs.tx⟩)

/-! ## Wake-up signals (R287) -/

/-- A LISTEN_NOW notes the end of its signal with the frames of the nodes that it wakes. -/
def MeshDown.wokenBy (d : MeshDown) (wua cmd at_ : Nat) : MeshDown :=
  if cmd = 1 && (wua = wuaOf d.dst || wua = 0xFFFFFF) then { d with woken := some at_ } else d

/-- A signal that goes is waited for no more. -/
def State.wakeSent (s : State) (wua cmd : Nat) (c : Option (Nat × Nat)) (at_ : Nat) : State :=
  s.modMesh fun m => { m with wakes := m.wakes.filter (fun w => !(w.1 == wua && w.2.1 == cmd && w.2.2 == c))
                              down := Tab.mapV m.down fun _ d => d.wokenBy wua cmd at_ }

theorem wakeTx_of_sent {wua cmd fn tag : Nat} {rest : List (Nat × Nat × Option (Nat × Nat))}
    (hw : s.mesh.wakes = (wua, cmd, some (fn, tag)) :: rest) (hk : s.slotKind = 2 ∨ s.slotKind = 3) (htx : s.mesh.tx = none)
    (hrep : s.replyDue 16000000 = false) (hsent : (s.meshSend (.wake wua cmd) s.wakeBand 16000000 false level).1 = none) :
    wakeTx level s = ((s.sending (.wake wua cmd) s.wakeBand 16000000 false).wakeSent wua cmd (some (fn, tag)) (s.mtNs + 16000000)).complete
      fn tag 0x00 := by
  have hnext : s.nextWake = some (wua, cmd, some (fn, tag)) := by rw [State.nextWake, hw]
  have hslot : (decide (s.slotKind ≠ 2) && decide (s.slotKind ≠ 3)) = false := by
    rcases hk with h | h <;> rw [h] <;> rfl
  unfold wakeTx
  rw [hnext]
  dsimp only
  rw [hslot, if_neg (by simp [htx, hrep]), State.meshSend_of_sent hsent]
  rfl

/-! ## Ends (R282, R283, R293, R294) -/

theorem State.downDone_mesh (hd : Tab.get? s.mesh.down id = some d) (status : Nat) :
    (s.downDone id status).mesh = { s.mesh with down := Tab.del s.mesh.down id } := by
  unfold State.downDone
  split
  next h => exact absurd (hd.symm.trans h) (by simp)
  · extract_lets s1 s2
    have h2 : s2.mesh = s1.mesh := by
      unfold s2
      split
      · exact State.inc_mesh ..
      · rfl
    split
    · exact (State.complete_mesh ..).trans h2
    · exact h2

/-- The transmitter is free again. -/
def State.txOff (s : State) : State := s.modMesh fun m => { m with tx := none, searchFrom := s.elapsed }

/-- A frame's transmission is over; one that asks for no ACK is done. -/
def State.dataOver (s : State) (id : Nat) (d : MeshDown) : State :=
  if d.ackReq = true then s.txOff else s.txOff.downDone id 0x00

theorem State.dataOver_mesh (hd : Tab.get? s.mesh.down id = some d) : (s.dataOver id d).mesh =
    { s.txOff.mesh with down := if d.ackReq = true then s.mesh.down else Tab.del s.mesh.down id } := by
  unfold State.dataOver
  split
  · rfl
  · exact State.downDone_mesh (s := s.txOff) hd 0x00

/-- But for the reply windows, which it may put off, the end of a frame's transmission has no more to do. -/
theorem meshTxDone_of_data {m : MeshTx} (ht : s.mesh.tx = some m) (hend : m.endAt ≤ s.mtNs) (hw : m.what = .data id)
    (hd : Tab.get? s.mesh.down id = some d) :
    ∃ l, (meshTxDone s).mesh = { (s.dataOver id d).mesh with replies := l } := by
  have hdone : s.dataOver id d
      = if (Tab.get? s.mesh.down id).elim false (fun d => !d.ackReq) = true then s.txOff.downDone id 0x00 else s.txOff := by
    cases h : d.ackReq <;> simp [State.dataOver, hd, h]
  unfold meshTxDone
  rw [ht]
  dsimp only
  rw [if_neg (Nat.not_lt.mpr hend), hw]
  dsimp only
  rw [hdone]
  split
  · exact ⟨_, rfl⟩
  · exact ⟨_, rfl⟩

theorem meshTxDone_of_early {m : MeshTx} (ht : s.mesh.tx = some m) (h : s.mtNs < m.endAt) : meshTxDone s = s := by
  unfold meshTxDone
  rw [ht]
  exact if_pos h

theorem meshLifetime_of_due (hd : Tab.get? s.mesh.down id = some d) (hdue : d.enq + ms d.lifeMs ≤ s.elapsed) (htx : s.mesh.tx = none) :
    ∃ status, meshLifetime id s = s.downDone id status := by
  unfold meshLifetime
  rw [hd]
  dsimp only
  rw [if_neg (by simp [hdue, htx])]
  exact ⟨_, rfl⟩

theorem meshWatchdog_of_late {m : MeshTx} (ht : s.mesh.tx = some m) (h : m.from_ + ms (fieldLE s.nwRec 24 2) < s.elapsed) :
    meshWatchdog s = (s.postEvent 0x8007 (items [s.mtNs % 2 ^ 64])).strobe .mesh 0x05 0xFF := by
  unfold meshWatchdog
  rw [ht]
  exact if_neg (Nat.not_le.mpr h)

end

end Sys2Proof.Machine

end

section
/-! PROOFS. The mesh island's transmitter (10 R280 to R283, R287, R290 to R294). -/

namespace Sys2Proof.Machine

/-- Settles O52, from what a superframe start does, from what the beacon, the reply windows, the frames and the wake-up signals come to
once their attempt goes or is refused, and from what their ends do. -/
theorem meshTransmission : Obligations.MeshTransmission := by
  unfold Obligations.MeshTransmission
  refine ⟨fun s hst hdue hf => ?_, fun s hst hdue hf hv hlen => ?_, fun s hst => ?_, fun s hst h => ?_, fun s => ?_,
    fun level air s hstart hgap hunsent hslot hst htx hb hr hc hair hd => ?_,
    fun level s hstart _ hunsent hslot hst htx hb hon hlevel => ?_, fun level s hstart hgap hunsent hslot hst htx hb => ?_,
    fun level r s hr htx hk => ?_, fun level r fc s hr htx hk hack hsent => ?_,
    fun level id g0 d s hk htx hrep hframes hfirst hd hdue hfits hack hsent => ?_,
    fun level id g0 d s hk htx hgap hb hframes hfirst hd hack hdue hrep hfits => ?_,
    fun id slot level d r s hd hr hlearned hslot htx hack hlast hrep hsent => ?_,
    fun level wua cmd fn tag rest c s hw hk htx hrep hsent _ => ?_,
    fun id level d w s hd hw hopen hend hrep htx hack hsent => ?_, fun m id d s ht hend hw hd => ?_, fun m s ht h => ?_,
    fun id d s hd hdue htx => ?_, fun m s ht h => ?_⟩
  case refine_1 => exact ⟨_, rfl, meshSf_of_start hst hdue hf⟩
  case refine_2 => exact ⟨_, rfl, meshSf_of_step hst hdue hf hv hlen⟩
  case refine_3 => exact congrArg Host.Outcome.next (meshSf_of_reset hst)
  case refine_4 => exact congrArg Host.Outcome.next (meshSf_of_early hst h)
  case refine_5 => exact ⟨_, rfl, rfl, slotStart_mainRx s, rfl, rfl⟩
  case refine_6 =>
    subst hair
    have hrun := meshBeacon_of_free ⟨hstart, hunsent, hslot, hst, htx⟩ hb hr hgap (State.channelBusy_of_free hc) hd
    obtain ⟨-, e, hfc⟩ := (s.beaconTurned.sending .beacon s.frameBand s.beaconAir false).meshFc_keeps
    refine ⟨_, congrArg Host.Outcome.next hrun, ?_⟩
    rw [hfc]
    exact ⟨rfl, rfl, rfl, rfl, rfl⟩
  case refine_7 =>
    have hmesh := meshBeacon_of_busy ⟨hstart, hunsent, hslot, hst, htx⟩ hb (State.channelBusy_of_busy hon hlevel)
    refine ⟨_, rfl, ?_⟩
    rw [hmesh]
    exact ⟨htx, rfl, rfl, rfl⟩
  case refine_8 => exact congrArg Host.Outcome.next (meshBeacon_of_gap ⟨hstart, hunsent, hslot, hst, htx⟩ hb hgap)
  case refine_9 => exact congrArg Host.Outcome.next (replyTx_of_beacon_slot hr htx hk)
  case refine_10 =>
    have hrun := replyTx_of_ack hr htx hk hack hsent
    refine ⟨_, congrArg Host.Outcome.next hrun, ?_⟩
    obtain ⟨-, e, hfc⟩ := ((s.sending (.ack r.node) s.frameBand (s.airTime 0 16) true).modMesh fun m =>
      { m with replies := ackGone r.node m.replies }).meshFc_keeps
    rw [hfc]
    exact ⟨rfl, fun x hx hn => ack_of_mem_ackGone hx hn, rfl⟩
  case refine_11 =>
    have hgo := State.sendDown_of_sent hd htx hack hsent
    have hrun := listenTx_of_sent ⟨hk, htx, hframes, hfirst, hd, hdue, hfits, hrep⟩ rfl hgo
    obtain ⟨fc, hframe⟩ := hgo.frame
    have hnoted := State.modDown_get? (s.sendDown id (s.wholeGuard g0) false level) id fun d => { d with lastSlot := some s.meshSlotStart }
    rw [hframe] at hnoted
    exact ⟨_, congrArg Host.Outcome.next hrun, hgo.tx, rfl, congrArg (Option.map (·.lastSlot)) hnoted,
      congrArg (Option.map (·.attempts)) hnoted⟩
  case refine_12 =>
    obtain ⟨f, hgo, hf⟩ := State.sendDown_of_gap (guard := s.wholeGuard g0) (level := level) hd htx hack hb hgap
    have hrun := listenTx_of_not_sent ⟨hk, htx, hframes, hfirst, hd, hdue, hfits, hrep⟩ hgo htx
    have hnoted := s.modDown_get? id f
    rw [hd, Option.map_some, hf] at hnoted
    exact ⟨_, congrArg Host.Outcome.next hrun, htx, hnoted⟩
  case refine_13 =>
    have hgo := State.sendDown_of_sent hd htx hack hsent
    have hrun := routerTx_of_sent hd hr hlearned hslot htx hlast hrep rfl hgo
    obtain ⟨fc, hframe⟩ := hgo.frame
    have hnoted := State.modDown_get? (s.sendDown id 120000 false level) id fun d => { d with lastSlot := some slot }
    rw [hframe] at hnoted
    exact ⟨_, congrArg Host.Outcome.next hrun, hgo.tx, congrArg (Option.map (·.attempts)) hnoted, hgo.routers⟩
  case refine_14 =>
    refine ⟨_, congrArg Host.Outcome.next (wakeTx_of_sent hw hk htx hrep hsent), ?_, ?_, ?_⟩
    · rw [State.complete_mesh]
      rfl
    · rw [State.cmd?_complete]
      simp
    · rw [State.complete_mesh]
      exact fun hmem => by simpa using (List.mem_filter.mp hmem).2
  case refine_15 =>
    have hgo := State.sendDown_of_sent hd htx hack hsent
    exact ⟨_, congrArg Host.Outcome.next (listenNow_of_sent hd hw hopen hend hrep htx rfl hgo), hgo.tx⟩
  case refine_16 =>
    obtain ⟨l, hmesh⟩ := meshTxDone_of_data ht hend hw hd
    rw [State.dataOver_mesh hd] at hmesh
    refine ⟨_, rfl, ?_⟩
    rw [hmesh]
    refine ⟨rfl, ?_, rfl⟩
    dsimp only
    split
    · exact hd
    · exact Tab.get?_del_self ..
  case refine_17 => exact congrArg Host.Outcome.next (meshTxDone_of_early ht h)
  case refine_18 =>
    obtain ⟨status, hrun⟩ := meshLifetime_of_due hd hdue htx
    refine ⟨_, congrArg Host.Outcome.next hrun, ?_⟩
    rw [State.downDone_mesh hd]
    exact ⟨Tab.get?_del_self .., fun k hk => Tab.get?_del_ne _ hk, rfl⟩
  case refine_19 => exact congrArg Host.Outcome.next (meshWatchdog_of_late ht h)

end Sys2Proof.Machine

end

section
/-! PROOFS. The queue over a step (log 2), and what an event does to the rings, to host memory and to the counts of losses (13 R376, R389 to R391). -/

namespace Sys2Proof.Machine

/-- Settles O4: an idle step leaves the empty queue empty, and any other takes the front command alone. -/
theorem queueOnlyLosesFront : Obligations.QueueOnlyLosesFront := by
  intro q s t hq hstep
  unfold QueueOf at hq ⊢
  cases hp : s.pending with
  | nil =>
    obtain ⟨u, hu, hnil, -⟩ := idleStep s hp
    obtain rfl : u = t := Host.Outcome.next.inj (hu.symm.trans hstep)
    rw [hnil]
    exact List.nil_suffix
  | cons c rest =>
    obtain ⟨-, hrest⟩ := stepRunsFront c rest s hp
    rw [hrest t hstep]
    exact (List.suffix_cons c rest).trans (hp ▸ hq)

/-! ## What posting an event touches -/

/-- t is s with other rings, entries, counts and vectors of events, other register words and another count of free values. -/
def EventEffect (s t : State) : Prop :=
  ∃ ri ev evs mx mp me r n, t = { s with
    host := { s.host with rings := ri, ev := ev, evs := evs, msix := mx, msixPend := mp, mem := me }, regs := r, fresh := n }

theorem EventEffect.refl (s : State) : EventEffect s s := ⟨_, _, _, _, _, _, _, _, rfl⟩

theorem EventEffect.trans {s t u : State} : EventEffect s t → EventEffect t u → EventEffect s u := by
  rintro ⟨_, _, _, _, _, _, _, _, rfl⟩ ⟨_, _, _, _, _, _, _, _, rfl⟩
  exact ⟨_, _, _, _, _, _, _, _, rfl⟩

theorem EventEffect.foldl {ι : Type} {l : List ι} {g : State → ι → State} (hg : ∀ s i, EventEffect s (g s i)) (s : State) :
    EventEffect s (l.foldl g s) := State.foldl_inv (EventEffect s) l g (fun t i h => h.trans (hg t i)) s (.refl s)

theorem EventEffect.ite {c : Prop} [Decidable c] {s a b : State} (ha : EventEffect s a) (hb : EventEffect s b) :
    EventEffect s (if c then a else b) := by
  split
  · exact ha
  · exact hb

theorem State.inc_eventEffect (s : State) (f : FieldRef) : EventEffect s (s.inc f) :=
  .ite ⟨_, _, _, _, _, _, _, _, rfl⟩ ⟨_, _, _, _, _, _, _, _, rfl⟩

theorem State.moderate_eventEffect (s : State) (f kind n : Nat) (now : Bool) : EventEffect s (s.moderate f kind n now) :=
  .ite ⟨_, _, _, _, _, _, _, _, rfl⟩ (.refl s)

theorem State.putEvent_eventEffect (s : State) (f : Nat) (e : Event) : EventEffect s (s.putEvent f e) :=
  (EventEffect.foldl (fun _ _ => ⟨_, _, _, _, _, _, _, _, rfl⟩) s).trans (State.moderate_eventEffect _ f 2 0 false)

theorem State.postSeq_eventEffect (s : State) (f code : Nat) (b : List Byte) : EventEffect s (s.postSeq f code b) :=
  EventEffect.trans (t := s.withEv f _) ⟨_, _, _, _, _, _, _, _, rfl⟩ (State.putEvent_eventEffect _ f _)

theorem State.loseEvent_eventEffect (s : State) (f : Nat) : EventEffect s (s.loseEvent f) :=
  (s.inc_eventEffect _).trans ⟨_, _, _, _, _, _, _, _, rfl⟩

theorem State.reportLost_eventEffect (s : State) (f : Nat) : EventEffect s (s.reportLost f) :=
  .ite (EventEffect.trans (t := s.withEv f _) ⟨_, _, _, _, _, _, _, _, rfl⟩ (State.postSeq_eventEffect _ f _ _)) (.refl s)

theorem State.postOn_eventEffect (s : State) (f code : Nat) (b : List Byte) : EventEffect s (s.postOn f code b) := by
  have h : EventEffect s (if s.eventsOpen then s.reportLost f else s) := .ite (s.reportLost_eventEffect f) (.refl s)
  exact h.trans (.ite (State.postSeq_eventEffect _ f code b) (State.loseEvent_eventEffect _ f))

/-- An event touches event rings, their entries, vectors and loss counts alone. -/
theorem State.postEvent_eventEffect (s : State) (code : Nat) (b : List Byte) (vfs : List Nat) :
    EventEffect s (s.postEvent code b vfs) :=
  (s.postOn_eventEffect 0 code b).trans (.foldl (fun s f => s.postOn_eventEffect f code b) _)

/-- An event changes no register but the loss counts of the rings it is posted on. -/
theorem State.postEvent_reg (s : State) (code : Nat) (b : List Byte) (vfs : List Nat) {a : Nat} (ha : ∀ f, f < 16 → a ≠ hqBase f + 0x20) :
    (s.postEvent code b vfs).reg a = s.reg a := by
  have h0 := (s.postOn_eventKeeps 0 code b).reg a (ha 0 (by decide))
  rw [← h0]
  unfold State.postEvent
  generalize s.postOn 0 code b = t
  have hvfs : ∀ f ∈ vfs.filter (fun f => decide (1 ≤ f) && decide (f < 16)), f < 16 := fun f hf => by
    have := (List.mem_filter.mp hf).2
    simp only [Bool.and_eq_true, decide_eq_true_eq] at this
    exact this.2
  generalize vfs.filter (fun f => decide (1 ≤ f) && decide (f < 16)) = l at hvfs ⊢
  induction l generalizing t with
  | nil => rfl
  | cons f l ih =>
    obtain ⟨hf, hl⟩ := List.forall_mem_cons.mp hvfs
    rw [List.foldl_cons, ih _ hl, (t.postOn_eventKeeps f code b).reg a (ha f hf)]

/-! ## An entry in host memory (R376) -/

/-- The bytes of a buffer that is not longer than the address space stand one after another. -/
theorem State.writeHost_get? (s : State) (f addr : Nat) {bs : List Byte} (hn : bs.length ≤ 2 ^ 64) {i : Nat} (hi : i < bs.length) :
    Tab.get? (s.writeHost f addr bs).host.mem (f * 2 ^ 64 + (addr + i) % 2 ^ 64) = some (bs.getD i 0#8) := by
  have key : ∀ n, n ≤ bs.length → ∀ i, i < n → Tab.get? ((List.range n).foldl
      (fun m i => Tab.put m (f * 2 ^ 64 + (addr + i) % 2 ^ 64) (bs.getD i 0#8)) s.host.mem) (f * 2 ^ 64 + (addr + i) % 2 ^ 64)
      = some (bs.getD i 0#8) := by
    intro n
    induction n with
    | zero => intro _ i hi; omega
    | succ n ih =>
      intro hle i hi
      rw [List.range_succ, List.foldl_append, List.foldl_cons, List.foldl_nil]
      by_cases hin : i = n
      · rw [hin, Tab.get?_put_self]
      · rw [Tab.get?_put_ne _ _ (by omega), ih (by omega) i (by omega)]
  exact key _ le_rfl i hi

/-! ## An event on a ring with room (R389, R391) -/

/-- What the moderation of an interrupt can change: the vectors and what of a ring is not yet signalled (R388). -/
theorem State.moderate_host (s : State) (f kind n : Nat) (now : Bool) : ∃ ri mx mp, (s.moderate f kind n now).host
    = { s.host with rings := ri, msix := mx, msixPend := mp } := by
  unfold State.moderate
  dsimp only
  split
  · exact ⟨_, _, _, rfl⟩
  · exact ⟨_, _, _, rfl⟩

theorem State.moderate_used (s : State) (f kind n : Nat) (now : Bool) (k : Nat) :
    ((s.moderate f kind n now).ring k).used = (s.ring k).used := by
  unfold State.moderate
  dsimp only
  split
  · show ((s.setRing (ringKey f kind n) _).ring k).used = _
    by_cases hk : k = ringKey f kind n
    · rw [hk, State.ring_setRing]
    · rw [State.ring_setRing_ne _ _ hk]
  · rfl

@[simp] theorem State.moderate_regs (s : State) (f kind n : Nat) (now : Bool) : (s.moderate f kind n now).regs = s.regs := by
  unfold State.moderate
  dsimp only
  split <;> rfl

/-- An entry of function f's event ring: at the ring's tail, and in host memory. -/
def State.enterEvent (s : State) (f : Nat) (x : EvEntry) : State :=
  { (s.ringTake f 2 0).1 with host := { (s.ringTake f 2 0).1.host with
    evs := Tab.put s.host.evs (ringKey f 2 0 * 4096 + (s.ring (ringKey f 2 0)).tail) x } }.writeEntry f 2 0
    (s.ring (ringKey f 2 0)).tail x.bytes

/-- An event of at most 16 bytes takes one entry. -/
theorem evEntries_of_short {p : List Byte} (h : p.length ≤ 16) : evEntries p = 1 := by
  unfold evEntries
  omega

theorem State.putEvent_of_short (s : State) (f : Nat) {e : Event} (h : e.payload.length ≤ 16) :
    s.putEvent f e = (s.enterEvent f ⟨e, 0, (s.ring (ringKey f 2 0)).phase⟩).moderate f 2 0 false := by
  unfold State.putEvent
  rw [evEntries_of_short h]
  rfl

/-- The event e stands whole at the tail of function f's ring in s, and the ring has counted it. -/
structure Posted (s : State) (f : Nat) (e : EvEntry) (t : State) : Prop where
  entry : Tab.get? t.host.evs (ringKey f 2 0 * 4096 + (s.ring (ringKey f 2 0)).tail) = some e
  bytes : ∀ i, i < e.bytes.length → Tab.get? t.host.mem
    (f * 2 ^ 64 + (s.entryAddr f 2 0 (s.ring (ringKey f 2 0)).tail + i) % 2 ^ 64) = some (e.bytes.getD i 0#8)
  ev : Tab.getD t.host.ev f {} = { Tab.getD s.host.ev f {} with seq := ((Tab.getD s.host.ev f {}).seq + 1) % 2 ^ 32 }
  used : (t.ring (ringKey f 2 0)).used = (s.ring (ringKey f 2 0)).used + 1
  regs : t.regs = s.regs

/-- The first entry of an event has 32 bytes. -/
theorem EvEntry.bytes_length_of_first {e : EvEntry} (h : e.number = 0) : e.bytes.length = 32 := by
  simp [EvEntry.bytes, h]

theorem State.postSeq_posted (s : State) (f code : Nat) {p : List Byte} (h : p.length ≤ 16) :
    Posted s f ⟨⟨code, (Tab.getD s.host.ev f {}).seq, s.stamp, p⟩, 0, (s.ring (ringKey f 2 0)).phase⟩ (s.postSeq f code p) := by
  rw [State.postSeq_eq, State.putEvent_of_short _ _ h]
  generalize hu : s.withEv f _ = u
  obtain ⟨ri, mx, mp, hm⟩ := (u.enterEvent f ⟨_, 0, _⟩).moderate_host f 2 0 false
  subst hu
  constructor
  · rw [hm]
    exact Tab.get?_put_self ..
  · intro i hi
    rw [hm]
    exact State.writeHost_get? _ _ _ (by rw [EvEntry.bytes_length_of_first rfl]; decide) hi
  · rw [hm]
    exact Tab.getD_put_self ..
  · rw [State.moderate_used]
    exact congrArg RingSt.used (State.ring_setRing ..)
  · exact State.moderate_regs ..

/-! ## An event on a ring without room (R391) -/

/-- Without a loss there is none to report. -/
theorem State.reportLost_of_none {s : State} {f : Nat} (h : (Tab.getD s.host.ev f {}).lost = 0) : s.reportLost f = s := by
  rw [State.reportLost_eq, if_neg (by simp [h])]

/-- Nor is one reported on a ring that is not enabled. -/
theorem State.reportLost_of_off {s : State} {f : Nat} (h : s.ringOn f 2 0 = false) : s.reportLost f = s := by
  rw [State.reportLost_eq, if_neg (by simp [h])]

/-- An event that finds a ring as it is either is posted or is lost. -/
theorem State.postOn_of_reported {s : State} {f : Nat} (h : s.reportLost f = s) (code : Nat) (p : List Byte) : s.postOn f code p
    = if s.eventsOpen && s.ringOn f 2 0 && (code == 0xB002 || !s.eclipsing f) && decide (evEntries p ≤ s.ringFree f 2 0)
      then s.postSeq f code p else s.loseEvent f := by
  unfold State.postOn
  rw [h, ite_self]

/-- A lost event is counted, and stored nowhere. -/
theorem State.loseEvent_lost (s : State) (f : Nat) : (s.loseEvent f).host.evs = s.host.evs ∧ (s.loseEvent f).host.rings = s.host.rings
    ∧ (Tab.getD (s.loseEvent f).host.ev f {}).lost = (Tab.getD s.host.ev f {}).lost + 1 := by
  have hhost : (s.loseEvent f).host = { s.host with
      ev := Tab.put s.host.ev f { Tab.getD s.host.ev f {} with lost := (Tab.getD s.host.ev f {}).lost + 1 } } := by
    simp only [State.loseEvent, State.inc_host]
  rw [hhost]
  exact ⟨rfl, rfl, congrArg EvSt.lost (Tab.getD_put_self ..)⟩

/-- A counter of its whole field reads one more, below its width. -/
theorem State.get_inc_of_lt (s : State) {a hi lo : Nat} (hlo : lo ≤ hi) (hhi : hi < 32) (h : s.get ⟨a, hi, lo⟩ + 1 < 2 ^ (hi + 1 - lo)) :
    (s.inc ⟨a, hi, lo⟩).get ⟨a, hi, lo⟩ = s.get ⟨a, hi, lo⟩ + 1 := by
  rw [State.inc_of_lt _ _ h, State.get_put_self _ _ hlo hhi, Nat.mod_eq_of_lt h]

/-- Settles O14: an event touches the event side of the host interface alone; on a ring with room it is entered whole, otherwise
lost and counted. -/
theorem eventPosting : Obligations.EventPosting := by
  refine ⟨fun s code p vfs => ⟨_, rfl, ?_⟩, fun s f code p hopen hon hp hroom hlost hecl => ?_, fun s f code p hopen hlost hfull => ?_,
    fun s f hlost hon hecl hroom => ?_, fun s f code p hoff => ?_⟩
  · obtain ⟨_, _, _, _, _, _, _, _, e⟩ := s.postEvent_eventEffect code p vfs
    refine ⟨?_, ?_, fun a ha => s.postEvent_reg code p vfs ha⟩
    · rw [e]
    · rw [e]
  · have hrun : s.postOn f code p = s.postSeq f code p := by
      rw [State.postOn_of_reported (State.reportLost_of_none hlost), if_pos]
      simpa [hopen, hon, evEntries_of_short hp, hroom] using hecl
    obtain ⟨hentry, hbytes, hev, hused, hregs⟩ := s.postSeq_posted f code hp
    rw [hrun]
    exact ⟨_, rfl, _, rfl, hentry, hbytes, congrArg EvSt.seq hev, hused, hregs⟩
  · obtain ⟨hevs, hrings, hcount⟩ := s.loseEvent_lost f
    rw [State.postOn_of_reported (State.reportLost_of_none hlost), if_neg (by simp [hfull])]
    refine ⟨_, rfl, hevs, hrings, by rw [hcount, hlost], fun hlt => ?_⟩
    exact s.get_inc_of_lt (by decide) (by decide) (by omega)
  · obtain ⟨hentry, -, hev, -, -⟩ := (s.withEv f { Tab.getD s.host.ev f {} with lost := 0 }).postSeq_posted f 1
      (p := leBytes 8 (Tab.getD s.host.ev f {}).lost) (by simp)
    have hself := Tab.getD_put_self s.host.ev f { Tab.getD s.host.ev f {} with lost := 0 } {}
    rw [State.reportLost_eq, if_pos (by simp [hlost, hon, hecl, hroom])]
    refine ⟨_, rfl, ?_, ?_⟩
    · rw [hev]
      exact congrArg EvSt.lost hself
    · rw [State.withEv, hself] at hentry
      exact hentry
  · obtain ⟨hevs, hrings, hcount⟩ := s.loseEvent_lost f
    rw [State.postOn_of_reported (State.reportLost_of_off hoff), if_neg (by simp [hoff])]
    exact ⟨_, rfl, hevs, hrings, hcount⟩

end Sys2Proof.Machine

end

section
/-! PROOFS. A completion and its entry (13 R376, R382, R383). -/

namespace Sys2Proof.Machine

/-! ## What a completion touches -/

/-- t is s with other completion queues, entries, vectors and commands in flight, other register words and other counts of free values
and rejections. -/
def CqEffect (s t : State) : Prop :=
  ∃ ri cq mx cm mp me r n k, t = { s with
    host := { s.host with rings := ri, cqes := cq, msix := mx, cmds := cm, msixPend := mp, mem := me }, regs := r, fresh := n, rejects := k }

theorem CqEffect.refl (s : State) : CqEffect s s := ⟨_, _, _, _, _, _, _, _, _, rfl⟩

theorem CqEffect.trans {s t u : State} : CqEffect s t → CqEffect t u → CqEffect s u := by
  rintro ⟨_, _, _, _, _, _, _, _, _, rfl⟩ ⟨_, _, _, _, _, _, _, _, _, rfl⟩
  exact ⟨_, _, _, _, _, _, _, _, _, rfl⟩

theorem CqEffect.ite {c : Prop} [Decidable c] {s a b : State} (ha : CqEffect s a) (hb : CqEffect s b) :
    CqEffect s (if c then a else b) := by
  split
  · exact ha
  · exact hb

theorem State.inc_cqEffect (s : State) (f : FieldRef) : CqEffect s (s.inc f) :=
  .ite ⟨_, _, _, _, _, _, _, _, _, rfl⟩ ⟨_, _, _, _, _, _, _, _, _, rfl⟩

theorem State.moderate_cqEffect (s : State) (f kind n : Nat) (now : Bool) : CqEffect s (s.moderate f kind n now) :=
  .ite ⟨_, _, _, _, _, _, _, _, _, rfl⟩ (.refl s)

/-- The entry of a completion, counted: what stands before its interrupt is moderated. -/
def State.enterCqe (s : State) (f cq : Nat) (e : Cqe) : State :=
  ((s.ringTake f 0 cq).1.putCqe f cq (s.ring (ringKey f 0 cq)).tail e).inc64 (hqBase f + 0x1008)

/-- The entry that completes a command (R383). -/
def State.cqeOf (s : State) (c : Cmd) (status result : Nat) : Cqe :=
  ⟨c.tag, status, c.dup, (s.ring (ringKey c.fn 0 c.cq)).phase, result % 2 ^ 32, s.get ⟨sqBase c.fn c.sq + 0x10, 9, 0⟩, c.sq,
    s.stamp.toNat % 2 ^ 32⟩

theorem State.postCompletion_eq (s : State) (c : Cmd) (status result : Nat) : s.postCompletion c status result
    = ((s.enterCqe c.fn c.cq (s.cqeOf c status result)).moderate c.fn 0 c.cq c.irq, (s.ring (ringKey c.fn 0 c.cq)).tail) := by
  simp only [State.postCompletion, State.ringTake, State.enterCqe, State.cqeOf]

theorem State.ringTake_cqEffect (s : State) (f kind n : Nat) : CqEffect s (s.ringTake f kind n).1 := ⟨_, _, _, _, _, _, _, _, _, rfl⟩

theorem State.putCqe_cqEffect (s : State) (f cq idx : Nat) (e : Cqe) : CqEffect s (s.putCqe f cq idx e) := ⟨_, _, _, _, _, _, _, _, _, rfl⟩

theorem State.inc64_cqEffect (s : State) (a : Nat) : CqEffect s (s.inc64 a) := ⟨_, _, _, _, _, _, _, _, _, rfl⟩

theorem State.enterCqe_cqEffect (s : State) (f cq : Nat) (e : Cqe) : CqEffect s (s.enterCqe f cq e) :=
  ((s.ringTake_cqEffect ..).trans (State.putCqe_cqEffect ..)).trans (State.inc64_cqEffect ..)

theorem State.postCompletion_cqEffect (s : State) (c : Cmd) (status result : Nat) :
    CqEffect s (s.postCompletion c status result).1 :=
  (s.enterCqe_cqEffect ..).trans (State.moderate_cqEffect ..)

/-- A completion's counts: of reads of host memory that failed, and of rejections (01 R36, 13 R410). -/
def State.countStatus (s : State) (f opcode status : Nat) : State :=
  let s := if status = 0x6E then s.inc ⟨hqBase f + 0x1000, 31, 16⟩ else s
  if status = 0x02 then s.countReject (opcode / 256) else s

/-- The command of a function and tag is completed, with its entry at an index. -/
def Cmd.completedAs (f tag idx now : Nat) (d : Cmd) : Cmd :=
  if d.fn == f && d.tag == tag && d.stage != .completed then { d with stage := .completed, cqe := some idx, doneAt := some now } else d

/-- The result word of a completion (08 R233). -/
def State.resultOf (s : State) (c : Cmd) (f tag result : Nat) : Nat :=
  if c.opcode = 0x0610 && result = 0 then s.txResult f tag else result

theorem State.complete_eq {s : State} {f tag : Nat} {c : Cmd} (h : s.cmd? f tag = some c) (status result : Nat) :
    s.complete f tag status result
      = ((s.postCompletion c status (s.resultOf c f tag result)).1.countStatus f c.opcode status).mapCmds
        (·.map (Cmd.completedAs f tag (s.ring (ringKey c.fn 0 c.cq)).tail
          ((s.postCompletion c status (s.resultOf c f tag result)).1.countStatus f c.opcode status).elapsed)) := by
  unfold State.complete
  rw [h]
  rfl

theorem State.countStatus_cqEffect (s : State) (f opcode status : Nat) : CqEffect s (s.countStatus f opcode status) := by
  unfold State.countStatus
  have hread : CqEffect s (if status = 0x6E then s.inc ⟨hqBase f + 0x1000, 31, 16⟩ else s) := .ite (s.inc_cqEffect _) (.refl s)
  exact hread.trans (.ite ⟨_, _, _, _, _, _, _, _, _, rfl⟩ (.refl _))

@[simp] theorem State.countStatus_host (s : State) (f opcode status : Nat) : (s.countStatus f opcode status).host = s.host := by
  unfold State.countStatus
  dsimp only
  split <;> split <;> simp [State.countReject]

theorem State.countStatus_rejects (s : State) (f opcode : Nat) {status : Nat} (h : status ≠ 0x02) :
    (s.countStatus f opcode status).rejects = s.rejects := by
  unfold State.countStatus
  dsimp only
  rw [if_neg h]
  split
  · exact s.inc_rejects _
  · rfl

theorem State.countStatus_reg (s : State) (f opcode status : Nat) {a : Nat} (ha : a ≠ hqBase f + 0x1000) :
    (s.countStatus f opcode status).reg a = s.reg a := by
  have hinc : ∀ t : State, (if status = 0x02 then t.countReject (opcode / 256) else t).reg a = t.reg a := fun t => by split <;> rfl
  unfold State.countStatus
  dsimp only
  rw [hinc]
  split
  · exact s.reg_inc_ne ha
  · rfl

/-- Completing a command touches completion queues, their entries, vectors and the commands in flight alone, besides registers and
counts. -/
theorem State.complete_cqEffect (s : State) (f tag status result : Nat) : CqEffect s (s.complete f tag status result) := by
  cases h : s.cmd? f tag with
  | none => rw [State.complete_of_none h]; exact .refl s
  | some c =>
    rw [State.complete_eq h]
    exact ((s.postCompletion_cqEffect ..).trans (State.countStatus_cqEffect ..)).trans ⟨_, _, _, _, _, _, _, _, _, rfl⟩

/-! ## The entry of a completion -/

theorem Cqe.bytes_length (e : Cqe) : e.bytes.length = 16 := by
  simp [Cqe.bytes]

theorem State.postCompletion_reg (s : State) (c : Cmd) (status result : Nat) {a : Nat} (h0 : a ≠ hqBase c.fn + 0x1008)
    (h1 : a ≠ hqBase c.fn + 0x100C) : (s.postCompletion c status result).1.reg a = s.reg a := by
  rw [State.postCompletion_eq, State.reg_of_regs (State.moderate_regs ..)]
  unfold State.enterCqe State.inc64 State.put64
  rw [State.reg_setReg_ne _ _ h1, State.reg_setReg_ne _ _ h0]
  rfl

theorem State.enterCqe_host (s : State) (f cq : Nat) (e : Cqe) : (s.enterCqe f cq e).host
    = ((s.ringTake f 0 cq).1.putCqe f cq (s.ring (ringKey f 0 cq)).tail e).host := by
  simp only [State.enterCqe, State.inc64, State.put64, State.setReg_host]

theorem State.putCqe_get? (s : State) (f cq idx : Nat) (e : Cqe) :
    Tab.get? (s.putCqe f cq idx e).host.cqes (ringKey f 0 cq * 4096 + idx) = some e := Tab.get?_put_self ..

theorem State.putCqe_mem_get? (s : State) (f cq idx : Nat) {e : Cqe} {i : Nat} (hi : i < e.bytes.length) :
    Tab.get? (s.putCqe f cq idx e).host.mem (f * 2 ^ 64 + (s.entryAddr f 0 cq idx + i) % 2 ^ 64) = some (e.bytes.getD i 0#8) :=
  State.writeHost_get? _ f _ (by rw [Cqe.bytes_length]; decide) hi

/-- Taking an entry of a ring moves no ring in host memory. -/
theorem State.entryAddr_ringTake (s : State) (f kind n g l m idx : Nat) :
    (s.ringTake f kind n).1.entryAddr g l m idx = s.entryAddr g l m idx := rfl

/-- But for the moderation of its interrupt a completion does to the host interface what its entry does. -/
theorem State.postCompletion_host (s : State) (c : Cmd) (status result : Nat) : ∃ ri mx mp, (s.postCompletion c status result).1.host
    = { ((s.ringTake c.fn 0 c.cq).1.putCqe c.fn c.cq (s.ring (ringKey c.fn 0 c.cq)).tail (s.cqeOf c status result)).host with
      rings := ri, msix := mx, msixPend := mp } := by
  obtain ⟨ri, mx, mp, hm⟩ := (s.enterCqe c.fn c.cq (s.cqeOf c status result)).moderate_host c.fn 0 c.cq c.irq
  rw [State.enterCqe_host s] at hm
  exact ⟨ri, mx, mp, hm⟩

/-- The entry stands at the tail of the command's CQ, and in host memory (R376, R383). -/
theorem State.postCompletion_stands (s : State) (c : Cmd) (status result : Nat) :
    Tab.get? (s.postCompletion c status result).1.host.cqes (ringKey c.fn 0 c.cq * 4096 + (s.ring (ringKey c.fn 0 c.cq)).tail)
      = some (s.cqeOf c status result)
    ∧ ∀ i, i < (s.cqeOf c status result).bytes.length → Tab.get? (s.postCompletion c status result).1.host.mem
        (c.fn * 2 ^ 64 + (s.entryAddr c.fn 0 c.cq (s.ring (ringKey c.fn 0 c.cq)).tail + i) % 2 ^ 64)
        = some ((s.cqeOf c status result).bytes.getD i 0#8) := by
  obtain ⟨ri, mx, mp, hm⟩ := s.postCompletion_host c status result
  rw [hm]
  refine ⟨State.putCqe_get? .., fun i hi => ?_⟩
  have hmem := State.putCqe_mem_get? (s.ringTake c.fn 0 c.cq).1 c.fn c.cq (s.ring (ringKey c.fn 0 c.cq)).tail hi
  rw [State.entryAddr_ringTake] at hmem
  dsimp only
  exact hmem

@[simp] theorem State.postCompletion_cmds (s : State) (c : Cmd) (status result : Nat) :
    (s.postCompletion c status result).1.host.cmds = s.host.cmds := by
  obtain ⟨ri, mx, mp, hm⟩ := s.postCompletion_host c status result
  rw [hm]
  rfl

theorem State.postCompletion_rejects (s : State) (c : Cmd) (status result : Nat) :
    (s.postCompletion c status result).1.rejects = s.rejects := by
  have hmod (t : State) (f kind n : Nat) (now : Bool) : (t.moderate f kind n now).rejects = t.rejects := by
    unfold State.moderate
    dsimp only
    split <;> rfl
  rw [State.postCompletion_eq, hmod]
  simp only [State.enterCqe, State.inc64, State.put64, State.setReg_rejects]
  rfl

/-- The commands of other tags are as they were. -/
theorem filter_map_completedAs (f tag idx now : Nat) (l : List Cmd) :
    (l.map (Cmd.completedAs f tag idx now)).filter (fun d => !(d.fn == f && d.tag == tag))
      = l.filter (fun d => !(d.fn == f && d.tag == tag)) := by
  induction l with
  | nil => rfl
  | cons d l ih =>
    rw [List.map_cons, List.filter_cons, List.filter_cons, ih]
    unfold Cmd.completedAs
    split
    next hd =>
      simp only [Bool.and_eq_true] at hd
      simp [hd.1]
    · rfl

/-- Settles O15: the completion enters one entry, ends the command, and leaves the rest of the device alone. -/
theorem completionPosting : Obligations.CompletionPosting := by
  intro s f tag status result c hc
  obtain ⟨hfn, htag⟩ := State.fn_tag_of_cmd? hc
  obtain ⟨hentry, hbytes⟩ := s.postCompletion_stands c status (s.resultOf c f tag result)
  have hpost := s.postCompletion_cmds c status (s.resultOf c f tag result)
  have heq := State.complete_eq hc status result
  refine ⟨_, rfl, ?_, fun hst => ?_, ?_, ?_, s.cmd?_complete f tag status result, ?_, fun a h0 h1 h2 => ?_⟩
  · obtain ⟨_, _, _, _, _, _, _, _, _, e⟩ := s.complete_cqEffect f tag status result
    rw [e]
  · rw [heq]
    exact (State.countStatus_rejects _ _ _ hst).trans (State.postCompletion_rejects ..)
  · obtain ⟨_, _, _, _, _, _, _, _, _, e⟩ := s.complete_cqEffect f tag status result
    rw [e]
  · rw [heq]
    simp only [State.mapCmds, State.countStatus_host]
    rw [hfn] at hentry hbytes
    refine ⟨_, hentry, htag, rfl, rfl, rfl, ?_, hbytes, ?_, rfl⟩
    · simp [State.cqeOf, State.resultOf]
    · rw [State.cqeOf, hfn]
  · rw [heq]
    simp only [State.mapCmds, State.countStatus_host, hpost]
    exact filter_map_completedAs ..
  · rw [heq]
    refine ((State.countStatus_reg _ _ _ _ h0).trans (s.postCompletion_reg c _ _ ?_ ?_))
    · rw [hfn]; exact h1
    · rw [hfn]; exact h2

end Sys2Proof.Machine

end

section
/-! PROOFS. The admission of the rows of the host commands (13 R379, R380, R382). -/

namespace Sys2Proof.Machine

/-- A command that is not offered changes nothing, whichever of its opcode's rows asks. -/
theorem State.runCmdIf_of_not_offered {s : State} {fn tag opcode : Nat} {sel may gatedFor : Cmd → Bool} (act : Cmd → State → State)
    (h : ∀ c, ¬ Offered s fn tag opcode c) : s.runCmdIf fn tag opcode sel may gatedFor act = s := by
  unfold State.runCmdIf
  rw [State.runCmd_of_not_offered act h]
  split
  · exact ite_self s
  · rfl

theorem State.almCmd_of_not_offered {s : State} {fn tag op : Nat} (act : Cmd → State → State) (h : ∀ c, ¬ Offered s fn tag op c) :
    s.almCmd fn tag op act = s := by
  unfold State.almCmd
  rw [State.runCmd_of_not_offered _ h, ite_self]

theorem State.almCmd_of_issuer {s : State} {fn tag op : Nat} {c : Cmd} (act : Cmd → State → State) (h : Offered s fn tag op c) (hfn : fn ≠ 0) :
    s.almCmd fn tag op act = s.complete fn tag 0x09 := by
  unfold State.almCmd
  rw [if_neg (by simp [hfn]), State.runCmd_of_issuer _ h]
  simpa [byPF, (State.fn_tag_of_cmd? h.1).1] using hfn

theorem byPF_of_offered {s : State} {fn tag op : Nat} {c : Cmd} (h : Offered s fn tag op c) : byPF c = (fn == 0) := by
  rw [byPF, (State.fn_tag_of_cmd? h.1).1]

/-- How the row of a host command of function fn is admitted: by its opcode, who may issue it and what gates it (R380, 02 R54). -/
inductive AdmittedRow (s : State) (fn tag op : Nat) : State → Prop
  | almanac (act : Cmd → State → State) (h : 0x0110 ≤ op ∧ op ≤ 0x0114) : AdmittedRow s fn tag op (s.almCmd fn tag op act)
  | mesh (act : Cmd → State → State) (h : 0x0810 ≤ op ∧ op ≤ 0x0812) :
    AdmittedRow s fn tag op (s.runCmd fn tag op byPF (fun _ => s.gated 15) act)
  | packet (act : Cmd → State → State) (h : 0x0910 ≤ op ∧ op ≤ 0x0917) :
    AdmittedRow s fn tag op (s.runCmd fn tag op byPF (fun _ => s.gated 10) act)
  | cipher (act : Cmd → State → State) (h : op = 0x0A01 ∨ op = 0x0A10) :
    AdmittedRow s fn tag op (s.runCmd fn tag op (fun _ => true) (fun _ => s.gated 11) act)
  | secure (gatedFor : Cmd → Bool) (act : Cmd → State → State) (h : op = 0x0C10) :
    AdmittedRow s fn tag op (s.runCmd fn tag op byPF gatedFor act)
  | shared (may gatedFor : Cmd → Bool) (act : Cmd → State → State) (h : (0x0610 ≤ op ∧ op ≤ 0x0624) ∨ (0x0B01 ≤ op ∧ op ≤ 0x0B11)) :
    AdmittedRow s fn tag op (s.runCmd fn tag op may gatedFor act)
  | oneOf (sel may gatedFor : Cmd → Bool) (act : Cmd → State → State)
      (h : (0x0610 ≤ op ∧ op ≤ 0x0624) ∨ (0x0B01 ≤ op ∧ op ≤ 0x0B11)) :
    AdmittedRow s fn tag op (s.runCmdIf fn tag op sel may gatedFor act)

theorem AdmittedRow.ofPktCmd {s : State} {fn tag op : Nat} (fits ok : Cmd → Bool) (act : Cmd → State → State)
    (h : 0x0910 ≤ op ∧ op ≤ 0x0917) : AdmittedRow s fn tag op (s.pktCmd fn tag op fits ok act) := .packet _ h

theorem AdmittedRow.ofSaCmd {s : State} {fn tag : Nat} (dir del : Bool) (act : Cmd → State → State) :
    AdmittedRow s fn tag 0x0C10 (s.saCmd fn tag dir del act) := .secure _ _ rfl

/-- Every row of a host command is admitted in one of these ways. -/
theorem exec_of_hostRow {c : Instr} {fn tag op : Nat} (h : hostRow c = some (fn, tag, op)) (s : State) :
    ∃ t, exec c s = .next t ∧ AdmittedRow s fn tag op t := by
  cases c <;> simp only [hostRow, Option.some.injEq, Prod.mk.injEq, reduceCtorEq] at h <;> obtain ⟨rfl, rfl, rfl⟩ := h
  case almSlotErase | almSlotWrite | almSlotVerify | attest | logRead => exact ⟨_, rfl, .almanac _ (by decide)⟩
  case nwTx | nwWake | nwKeyLoad | nwKeyErase => exact ⟨_, rfl, .mesh _ (by decide)⟩
  case pktRuleWrite | pktRuleClear | pktRouteAdd | pktRouteDelete | pktNextHopWrite | pktNextHopDelete | pktFdbWrite | pktFdbDelete
      | pktFlowAdd | pktFlowDelete | pktRangeSet | pktRangeDisable | pktTunnelWrite | pktTunnelClear | pktPolicer =>
    exact ⟨_, rfl, .ofPktCmd _ _ _ (by decide)⟩
  case cphKeyWrite | cphKeyErase | cphCryptGcmEncrypt | cphCryptGcmDecrypt | cphCryptCcmEncrypt | cphCryptCcmDecrypt =>
    exact ⟨_, rfl, .cipher _ (by decide)⟩
  case ethMacsecSaTx | ethMacsecSaRxAdd | ethMacsecSaRxDelete => exact ⟨_, rfl, .ofSaCmd _ _ _⟩
  case macTx | macStaAdd | macStaDel | tskSubmit | tskInject => exact ⟨_, rfl, .shared _ _ _ (by decide)⟩
  case macBaSet | macBaDelete | macTwtSetup | macTwtDelete | macDetFlow | macDetFlowDelete | hqEclipseFunction | hqEclipseRadio =>
    exact ⟨_, rfl, .oneOf _ _ _ _ (by decide)⟩

/-- Settles O16: whichever way a row is admitted, it does nothing for a command that is not offered. -/
theorem hostCommandsWaitTheirTurn : Obligations.HostCommandsWaitTheirTurn := by
  intro c fn tag op s hrow hno
  obtain ⟨t, ht, hadm⟩ := exec_of_hostRow hrow s
  rw [ht]
  congr 1
  cases hadm with
  | almanac act => exact State.almCmd_of_not_offered act hno
  | oneOf sel may gatedFor act => exact State.runCmdIf_of_not_offered act hno
  | mesh | packet | cipher | secure | shared => exact State.runCmd_of_not_offered _ hno

/-- Settles O17: the rows that the physical function alone may issue refuse every other issuer first, and then a clock that stands. -/
theorem issuerAndClockChecked : Obligations.IssuerAndClockChecked := by
  refine ⟨fun c fn tag op x s hrow hoff hfn hop => ?_, fun c tag op x s hrow hoff hop => ?_⟩
  · obtain ⟨t, ht, hadm⟩ := exec_of_hostRow hrow s
    have hby : byPF x = false := by simpa [byPF_of_offered hoff] using hfn
    rw [ht]
    congr 1
    cases hadm with
    | almanac act => exact State.almCmd_of_issuer act hoff hfn
    | mesh | packet | secure => exact State.runCmd_of_issuer _ hoff hby
    | cipher _ h | shared _ _ _ h | oneOf _ _ _ _ h => omega
  · obtain ⟨t, ht, hadm⟩ := exec_of_hostRow hrow s
    have hby : byPF x = true := byPF_of_offered hoff
    rw [ht]
    congr 1
    cases hadm with
    | mesh act h =>
      obtain ⟨hpkt, -⟩ | ⟨hcph, -⟩ | ⟨-, hg⟩ := hop
      · omega
      · omega
      · exact State.runCmd_of_gated act hoff hby hg
    | packet act h =>
      obtain ⟨-, -, hg⟩ | ⟨hcph, -⟩ | ⟨hmesh, -⟩ := hop
      · exact State.runCmd_of_gated act hoff hby hg
      · omega
      · omega
    | cipher act h =>
      obtain ⟨-, hpkt, -⟩ | ⟨-, hg⟩ | ⟨hmesh, -⟩ := hop
      · omega
      · exact State.runCmd_of_gated act hoff rfl hg
      · omega
    | almanac _ h | secure _ _ h | shared _ _ _ h | oneOf _ _ _ _ h => rcases hop with hop | hop | hop <;> omega

end Sys2Proof.Machine

end

section
/-! PROOFS. Key slots, their generations and the operations that refer to them (12 R351 to R357, R363, R364). -/

namespace Sys2Proof.Machine

/-! ## Slots -/

section
variable (s : State)

theorem State.slot_of_slots {s t : State} (h : t.cipher.slots = s.cipher.slots) (k : Nat) : t.slot k = s.slot k := by
  rw [State.slot, h, State.slot]

@[simp] theorem State.slot_setSlot (k : Nat) (x : KeySlot) : (s.setSlot k x).slot k = x := by
  unfold State.setSlot State.slot Tab.getD
  dsimp only
  split
  next h => rw [Tab.get?_del_self, h]; rfl
  · rw [Tab.get?_put_self]; rfl

theorem State.slot_setSlot_ne {k j : Nat} (x : KeySlot) (h : j ≠ k) : (s.setSlot k x).slot j = s.slot j := by
  unfold State.setSlot State.slot Tab.getD
  dsimp only
  split
  · rw [Tab.get?_del_ne _ h]
  · rw [Tab.get?_put_ne _ _ h]

@[simp] theorem State.slot_complete (fn tag status result k : Nat) : (s.complete fn tag status result).slot k = s.slot k :=
  State.slot_of_slots (congrArg CipherSt.slots (s.complete_cipher ..)) k

@[simp] theorem State.slot_postEvent (code : Nat) (b : List Byte) (vfs : List Nat) (k : Nat) : (s.postEvent code b vfs).slot k = s.slot k :=
  State.slot_of_slots (congrArg CipherSt.slots (s.postEvent_cipher ..)) k

@[simp] theorem State.slot_takeUp (fn tag : Nat) (u : Option Nat) (k : Nat) : (s.takeUp fn tag u).slot k = s.slot k := rfl

/-- A command that is not in flight is not after another's completion. -/
theorem State.cmd?_complete_of_none {s : State} {fn tag : Nat} (h : s.cmd? fn tag = none) (f t status result : Nat) :
    (s.complete f t status result).cmd? fn tag = none := by
  cases hc : s.cmd? f t with
  | none => rw [State.complete_of_none hc, h]
  | some c =>
    rw [State.complete_eq hc]
    unfold State.cmd? at h ⊢
    simp only [State.mapCmds, State.countStatus_host, State.postCompletion_cmds, List.find?_eq_none, List.mem_map] at h ⊢
    rintro _ ⟨d, hd, rfl⟩
    unfold Cmd.completedAs
    split
    · simp
    · exact h d hd

end

/-! ## What the steps of a slot leave alone -/

/-- From s to t a slot keeps its current generation; the other slots and the operations that s has admitted are as they were, and no
command comes into flight. -/
structure SlotStep (slot : Nat) (s t : State) : Prop where
  cur : (t.slot slot).cur = (s.slot slot).cur
  others : ∀ k, k ≠ slot → t.slot k = s.slot k
  ops : ∀ k, k < s.cipher.nextOp → Tab.get? t.cipher.ops k = Tab.get? s.cipher.ops k
  next : s.cipher.nextOp ≤ t.cipher.nextOp
  cmd : ∀ fn tag, s.cmd? fn tag = none → t.cmd? fn tag = none

theorem SlotStep.refl (slot : Nat) (s : State) : SlotStep slot s s := ⟨rfl, fun _ _ => rfl, fun _ _ => rfl, le_rfl, fun _ _ h => h⟩

theorem SlotStep.trans {slot : Nat} {s t u : State} (h : SlotStep slot s t) (h' : SlotStep slot t u) : SlotStep slot s u where
  cur := h'.cur.trans h.cur
  others k hk := (h'.others k hk).trans (h.others k hk)
  ops k hk := (h'.ops k (hk.trans_le h.next)).trans (h.ops k hk)
  next := h.next.trans h'.next
  cmd fn tag hc := h'.cmd fn tag (h.cmd fn tag hc)

section
variable (s : State) (slot : Nat)

/-- A slot that keeps its current generation. -/
theorem State.setSlot_slotStep {x : KeySlot} (h : x.cur = (s.slot slot).cur) : SlotStep slot s (s.setSlot slot x) where
  cur := by rw [State.slot_setSlot, h]
  others _ hk := s.slot_setSlot_ne x hk
  ops _ _ := rfl
  next := le_rfl
  cmd _ _ hc := hc

theorem State.complete_slotStep (fn tag status result : Nat) : SlotStep slot s (s.complete fn tag status result) where
  cur := by rw [State.slot_complete]
  others _ _ := State.slot_complete ..
  ops _ _ := by rw [State.complete_cipher]
  next := by rw [State.complete_cipher]
  cmd _ _ hc := State.cmd?_complete_of_none hc ..

theorem State.cphAdmit_slotStep (o : CphOp) : SlotStep slot s (s.cphAdmit o) where
  cur := rfl
  others _ _ := rfl
  ops _ hk := Tab.get?_put_ne _ _ hk.ne
  next := Nat.le_succ _
  cmd _ _ hc := hc

theorem State.pinGen_slotStep (g : KeyGen) : SlotStep slot s (s.pinGen slot g) := by
  unfold State.pinGen
  extract_lets radios sas
  refine State.foldl_inv (SlotStep slot s) _ _ (fun t i h => ?_) s (.refl slot s)
  split
  · exact h.trans (t.cphAdmit_slotStep slot _)
  · exact h

theorem State.zeroise_slotStep : SlotStep slot s (s.zeroise slot) := by
  unfold State.zeroise
  extract_lets k
  split
  · split
    · exact .refl slot s
    · exact s.setSlot_slotStep slot rfl
  · exact .refl slot s

/-- No admission binds to a slot that is being erased (R354). -/
theorem State.bindGen_of_erasing {s : State} {slot : Nat} (h : (s.slot slot).erasing.isSome = true) : s.bindGen slot = none := if_pos h

/-- The slot that an erase begins on is as it was but for the erase. -/
theorem State.beginErase_slot (fn tag : Nat) :
    (s.beginErase slot fn tag).slot slot = { s.slot slot with erasing := some (fn, tag), eraseAt := s.elapsed } := by
  unfold State.beginErase
  dsimp only
  rw [State.slot_setSlot]
  split
  · rw [State.slot_of_slots]
    exact State.foldl_proj (p := fun t : State => t.cipher.slots) (fun t i => by split <;> rfl) _ s
  · rfl

theorem State.beginErase_slotStep (fn tag : Nat) : SlotStep slot s (s.beginErase slot fn tag) := by
  unfold State.beginErase
  extract_lets s1
  have h1 : SlotStep slot s s1 := by
    unfold s1
    split
    · exact s.pinGen_slotStep slot _
    · exact .refl slot s
  exact h1.trans (s1.setSlot_slotStep slot rfl)

@[simp] theorem State.pinGen_regs (g : KeyGen) : (s.pinGen slot g).regs = s.regs :=
  State.foldl_proj (p := State.regs) (fun t i => by split <;> rfl) _ s

@[simp] theorem State.beginErase_regs (fn tag : Nat) : (s.beginErase slot fn tag).regs = s.regs := by
  unfold State.beginErase
  dsimp only
  split <;> simp

theorem State.nextWaiting_slotStep : SlotStep slot s (s.nextWaiting slot) := by
  unfold State.nextWaiting
  extract_lets k
  split
  · split
    · exact .refl slot s
    · extract_lets s1
      have h1 : SlotStep slot s s1 := s.setSlot_slotStep slot rfl
      split
      · exact h1.trans (s1.complete_slotStep ..)
      · exact h1.trans (s1.beginErase_slotStep ..)
  · exact .refl slot s

/-- A slot that reads EMPTY and is not being erased has no generation after the commands that wait for it are looked at. -/
theorem State.nextWaiting_slot_of_empty {s : State} {slot : Nat} (hcur : (s.slot slot).cur = none) (hret : (s.slot slot).ret = none) :
    ((s.nextWaiting slot).slot slot).ret = none ∧ ((s.nextWaiting slot).slot slot).gen = (s.slot slot).gen := by
  unfold State.nextWaiting
  extract_lets k
  split
  · split
    · exact ⟨hret, rfl⟩
    · extract_lets s1
      rw [if_pos (by simp [k, hcur, hret])]
      rw [State.slot_complete, State.slot_setSlot]
      exact ⟨hret, rfl⟩
  · exact ⟨hret, rfl⟩

end

/-! ## A key write takes effect (R353) -/

/-- The current generation of a slot after a write: the same key keeps it, with its counters. -/
def State.writtenGen (s : State) (slot suite : Nat) (b : List Byte) : KeyGen :=
  match (s.slot slot).cur with
  | some g => if g.key = slice b 0 (suiteKeyLen suite)
    then { g with keyId := (genOf g.gen suite b).keyId, rx := (genOf g.gen suite b).rx }
    else { genOf (((s.slot slot).gen + 1) % 65536) suite b with since := s.elapsed }
  | none => { genOf (((s.slot slot).gen + 1) % 65536) suite b with since := s.elapsed }

/-- A write enters its generation in the slot, and nothing else that the slot's current generation shows. -/
theorem State.installKey_slotStep (s : State) (slot suite : Nat) (b : List Byte) :
    ∃ x : KeySlot, x.cur = some (s.writtenGen slot suite b) ∧ SlotStep slot (s.setSlot slot x) (s.installKey slot suite b) := by
  obtain hg | ⟨g, hg⟩ := (s.slot slot).cur.eq_none_or_eq_some
  · simp only [State.installKey, State.writtenGen, hg]
    exact ⟨_, rfl, .refl ..⟩
  · by_cases hkey : g.key = slice b 0 (suiteKeyLen suite)
    · simp only [State.installKey, State.writtenGen, State.sameKey, hg, hkey, beq_self_eq_true, if_true]
      exact ⟨_, rfl, .refl ..⟩
    · simp only [State.installKey, State.writtenGen, State.sameKey, hg, hkey, beq_iff_eq, if_false]
      exact ⟨_, rfl, (State.pinGen_slotStep _ slot g).trans (State.zeroise_slotStep ..)⟩

/-- The write that waits first is carried out (R353). -/
theorem keyProceed_of_ready {s : State} {slot : Nat} {w : KeyWait} {rest : List KeyWait} {b : List Byte} (hw : (s.slot slot).waiting = w :: rest)
    (hb : w.block = some b) (he : (s.slot slot).erasing = none) (hr : (s.slot slot).ret = none) : keyProceed slot s
      = (((s.setSlot slot { s.slot slot with waiting := rest }).installKey slot w.suite b).complete w.fn w.tag 0x00).nextWaiting slot := by
  simp [keyProceed, hw, hb, he, hr]

theorem keyProceed_of_retiring {s : State} {slot : Nat} {w : KeyWait} {rest : List KeyWait} {b : List Byte} (hw : (s.slot slot).waiting = w :: rest)
    (hb : w.block = some b) (hr : (s.slot slot).ret ≠ none) (hkey : s.sameKey slot w.suite b = false) : keyProceed slot s = s := by
  simp [keyProceed, hw, hb, Option.isSome_iff_ne_none.mpr hr, hkey]

/-- The erase that runs ends when no operation refers to the slot (R354). -/
theorem keyErased_of_unreferred {s : State} {slot fn tag : Nat} (he : (s.slot slot).erasing = some (fn, tag))
    (hops : s.cipher.ops.any (fun o => o.2.slot == slot) = false) : keyErased slot s
      = ((s.setSlot slot { gen := (s.slot slot).gen, waiting := (s.slot slot).waiting }).complete fn tag 0x00).nextWaiting slot := by
  simp [keyErased, he, hops]

theorem keyErased_of_referred {s : State} {slot : Nat} (hops : s.cipher.ops.any (fun o => o.2.slot == slot) = true) :
    keyErased slot s = s := by
  unfold keyErased
  dsimp only
  split
  · rw [if_pos hops]
  · rfl

/-! ## Commands on a slot (R351, R365) -/

section
variable {s : State} {fn tag : Nat} {c : Cmd}

/-- A command of the cipher engine comes to its own checks. -/
theorem cphCmd_of_offered {op : Nat} (act : Cmd → State → State) (ho : Offered s fn tag op c) (hg : s.gated 11 = false) :
    s.runCmd fn tag op (fun _ => true) (fun _ => s.cphGated) act = act c s := State.runCmd_of_offered act ho rfl hg

/-- A command whose fields are in range acts on a slot that its function may use. -/
theorem State.onSlot_of_owned {slot : Nat} {ok : Bool} (hok : ok = true) (hu : s.unitStatus .cipher = none)
    (hm : s.mayUseSlot c.fn slot = true) (act : State → State) : s.onSlot c slot ok act = act s := by
  simp [State.onSlot, hok, hu, hm]

/-- A slot of another function is refused, and told. -/
theorem State.onSlot_of_foreign {slot : Nat} {ok : Bool} (hok : ok = true) (hu : s.unitStatus .cipher = none)
    (hm : s.mayUseSlot c.fn slot = false) (act : State → State) :
    s.onSlot c slot ok act = (s.isolationEvent c.fn slot).complete c.fn c.tag 0x09 := by
  simp [State.onSlot, hok, hu, hm]

/-- A command waits for a slot. -/
def State.awaitSlot (s : State) (fn tag slot : Nat) (w : KeyWait) : State :=
  (s.takeUp fn tag (some 20)).setSlot slot { s.slot slot with waiting := (s.slot slot).waiting ++ [w] }

/-- A command that waits is admitted, and the slot's queue alone is longer. -/
theorem State.awaitSlot_spec (ho : Offered s fn tag 0x0A01 c) (slot : Nat) (w : KeyWait) :
    (s.awaitSlot fn tag slot w).slot slot = { s.slot slot with waiting := (s.slot slot).waiting ++ [w] }
      ∧ ((s.awaitSlot fn tag slot w).cmd? fn tag).map (·.stage) = some .admitted
      ∧ (∀ k, k ≠ slot → (s.awaitSlot fn tag slot w).slot k = s.slot k) ∧ (s.awaitSlot fn tag slot w).regs = s.regs := by
  refine ⟨State.slot_setSlot .., ?_, fun k hk => State.slot_setSlot_ne _ _ hk, rfl⟩
  have htaken := State.cmd?_takeUp ho.1 ho.2.2.1 (some 20)
  exact congrArg (Option.map (·.stage)) htaken

section
variable (ho : Offered s fn tag 0x0A01 c) (hg : s.gated 11 = false) (hslot : c.le 16 2 < 16384) (hu : s.unitStatus .cipher = none)
include ho hg hslot hu

/-- A key write that its page admits waits for its slot. -/
theorem keyWrite_of_admitted {b : List Byte} {p : Page} (hform : c.b 18 = 0) (hres : c.reservedOk [(16, 4), (24, 8)] = true)
    (hm : s.mayUseSlot fn (c.le 16 2) = true) (hp : s.slotPage (c.le 16 2) = some p) (hadm : p.admits (c.b 19) = true)
    (he : (s.slot (c.le 16 2)).erasing = none) (hblock : blockOk (c.b 19) b = true) :
    keyWrite fn tag (some b) s = s.awaitSlot fn tag (c.le 16 2) ⟨fn, tag, c.b 19, some b⟩ := by
  have hfn := (State.fn_tag_of_cmd? ho.1).1
  unfold keyWrite
  rw [cphCmd_of_offered _ ho hg]
  dsimp only
  rw [if_neg (by omega), State.onSlot_of_owned (by simp [hslot, hform, hres]) hu (by rw [hfn, hm])]
  simp [hp, hadm, he, hblock, State.awaitSlot]

theorem keyWrite_of_foreign {b : List Byte} (hform : c.b 18 = 0) (hres : c.reservedOk [(16, 4), (24, 8)] = true)
    (hm : s.mayUseSlot fn (c.le 16 2) = false) :
    keyWrite fn tag (some b) s = (s.isolationEvent fn (c.le 16 2)).complete fn tag 0x09 := by
  obtain ⟨hfn, htag⟩ := State.fn_tag_of_cmd? ho.1
  unfold keyWrite
  rw [cphCmd_of_offered _ ho hg]
  dsimp only
  rw [if_neg (by omega), State.onSlot_of_foreign (by simp [hslot, hform, hres]) hu (by rw [hfn, hm]), hfn, htag]

/-- An erase waits behind what runs or waits for the slot; an empty slot has nothing to erase; otherwise it begins (R354). -/
theorem keyErase_of_owned (hform : c.b 18 = 1) (hsuite : c.b 19 = 0) (hres : c.reservedOk [(16, 4)] = true)
    (hm : s.mayUseSlot fn (c.le 16 2) = true) : keyErase fn tag s
      = if (s.slot (c.le 16 2)).waiting ≠ [] ∨ (s.slot (c.le 16 2)).erasing ≠ none then s.awaitSlot fn tag (c.le 16 2) ⟨fn, tag, 0, none⟩
        else if (s.slot (c.le 16 2)).cur = none ∧ (s.slot (c.le 16 2)).ret = none then s.complete fn tag 0x64
        else (s.takeUp fn tag (some 20)).beginErase (c.le 16 2) fn tag := by
  have hfn := (State.fn_tag_of_cmd? ho.1).1
  unfold keyErase
  rw [cphCmd_of_offered _ ho hg]
  dsimp only
  rw [if_neg (by omega), State.onSlot_of_owned (by simp [hslot, hsuite, hres]) hu (by rw [hfn, hm])]
  congr 1
  · simp [Option.isSome_iff_ne_none]
  · congr 1
    simp

end

end

end Sys2Proof.Machine

end

section
/-! PROOFS. Service operations, the ends of references, and the cipher engine's rows together (12 R351 to R357, R363, R364). -/

namespace Sys2Proof.Machine

/-! ## Service operations (R363, R364) -/

/-- The fields of a CPH_CRYPT are in range. -/
def Cmd.cryptOk (c : Cmd) : Bool :=
  let enc := c.b 18 % 4 % 2 == 0
  let gcm := decide (c.b 18 % 4 < 2)
  let hw := bitOf (c.b 18) 2
  decide (c.le 16 2 < 16384) && decide (c.b 18 < 8) && (enc || !hw)
    && (if gcm then decide (12 ≤ c.b 19) && decide (c.b 19 ≤ 16) else decide (4 ≤ c.b 19) && decide (c.b 19 ≤ 16) && c.b 19 % 2 == 0)
    && (if gcm || hw then c.b 20 == 12 else decide (7 ≤ c.b 20) && decide (c.b 20 ≤ 13))
    && decide (c.le 24 4 ≤ 4096) && decide (c.le 28 4 ≤ 65536) && (gcm || decide (c.le 28 4 < 2 ^ (8 * (15 - c.b 20))))
    && decide (1 ≤ c.le 24 4 + c.le 28 4) && c.reservedOk [(16, 5), (24, 37)]
    && !overlaps (c.le 32 8) (c.le 24 4 + c.le 28 4 + (if enc then 0 else c.b 19)) (c.le 40 8)
      (c.le 28 4 + (if enc then c.b 19 else 0) + (if hw then 12 else 0))

/-- The operation that a CPH_CRYPT admits: with the nonce of its descriptor, or with the counter n that makes it. -/
def Cmd.cryptOp (c : Cmd) (fn tag : Nat) (g : KeyGen) (b : List Byte) (hw : Bool) (n : Nat) : CphOp :=
  { slot := c.le 16 2, gen := g.gen, service := some (fn, tag), dst := c.le 40 8
    out := serviceOut (c.b 18 % 4) g.key (if hw then g.salt.take 4 ++ beBytes 8 n else c.bytes 48 (c.b 20)) (slice b 0 (c.le 24 4))
      (slice b (c.le 24 4) (c.le 28 4)) (slice b (c.le 24 4 + c.le 28 4) (c.b 19)) hw (c.b 19)
    counter := if hw then n else 0 }

/-- Where a buffer begins as another does, the two are the same. -/
theorem overlaps_of_same {src dst : Nat} (h : src = dst) (n m : Nat) : overlaps src n dst m = false := by
  simp [overlaps, h]

/-- A CPH_CRYPT that comes to its operation: fields in range, a service key of its function, room in the engine. -/
structure CryptReady (fn tag : Nat) (c : Cmd) (g : KeyGen) (s : State) : Prop where
  offered : Offered s fn tag 0x0A10 c
  clocked : s.gated 11 = false
  ok : c.cryptOk = true
  unit : s.unitStatus .cipher = none
  may : s.mayUseSlot fn (c.le 16 2) = true
  bound : s.bindGen (c.le 16 2) = some g
  suite : g.suite = 0x30 ∨ g.suite = 0x31
  unlocked : g.locked = false
  room : s.cphRoom = true

section
variable {s : State} {fn tag : Nat} {c : Cmd} {g : KeyGen}

theorem CryptReady.suite_ok (h : CryptReady fn tag c g s) : ¬ (g.suite ≠ 0x30 ∧ g.suite ≠ 0x31) := by
  rcases h.suite with hs | hs <;> simp [hs]

theorem cphCrypt_of_ready (h : CryptReady fn tag c g s) (b : List Byte) : cphCrypt (c.b 18 % 4) fn tag (some b) s
    = match (if bitOf (c.b 18) 2 then s.drawCounter (c.le 16 2) else (some 0, s)) with
      | (none, s1) => s1.complete fn tag 0x08
      | (some n, s1) => (s1.takeUp fn tag (some 20)).cphAdmit (c.cryptOp fn tag g b (bitOf (c.b 18) 2) n) := by
  have hfn := (State.fn_tag_of_cmd? h.offered.1).1
  have hown := State.onSlot_of_owned (c := c) (slot := c.le 16 2) h.ok h.unit (by rw [hfn, h.may])
  unfold cphCrypt
  rw [cphCmd_of_offered _ h.offered h.clocked]
  dsimp only
  rw [if_neg (by simp)]
  refine (hown _).trans ?_
  simp only [h.bound, h.unlocked, h.room, Bool.and_false, Bool.not_true, Bool.false_eq_true, if_false]
  rw [if_neg (by simpa using h.suite_ok)]
  generalize (if bitOf (c.b 18) 2 = true then s.drawCounter (c.le 16 2) else (some 0, s)) = d
  obtain ⟨_ | n, s1⟩ := d <;> rfl

/-- With a nonce of the descriptor the operation is admitted at once. -/
theorem cphCrypt_of_given (h : CryptReady fn tag c g s) (hw : bitOf (c.b 18) 2 = false) (b : List Byte) :
    cphCrypt (c.b 18 % 4) fn tag (some b) s = (s.takeUp fn tag (some 20)).cphAdmit (c.cryptOp fn tag g b false 0) := by
  rw [cphCrypt_of_ready h, hw]
  rfl

/-- With a nonce made here the operation is admitted under the counter drawn for it. -/
theorem cphCrypt_of_drawn {n : Nat} {s1 : State} (h : CryptReady fn tag c g s) (hw : bitOf (c.b 18) 2 = true)
    (hdraw : s.drawCounter (c.le 16 2) = (some n, s1)) (b : List Byte) :
    cphCrypt (c.b 18 % 4) fn tag (some b) s = (s1.takeUp fn tag (some 20)).cphAdmit (c.cryptOp fn tag g b true n) := by
  rw [cphCrypt_of_ready h, hw, if_pos rfl, hdraw]

/-- What an admission binds to is the slot's current generation (R352, R355). -/
theorem State.cur_of_bindGen {slot : Nat} (h : s.bindGen slot = some g) : (s.slot slot).cur = some g := by
  unfold State.bindGen at h
  dsimp only at h
  split at h
  · cases h
  · exact h

/-- A counter short of its final value is drawn, and the generation counts on (R356). -/
theorem State.drawCounter_of_left {slot : Nat} (hcur : (s.slot slot).cur = some g) (hleft : g.tx < finalValue g.suite) :
    ∃ s1 h, s.drawCounter slot = (some g.tx, s1) ∧ (s1.slot slot).cur = some h ∧ h.tx = g.tx + 1 ∧ h.key = g.key
      ∧ s1.cipher.nextOp = s.cipher.nextOp := by
  simp only [State.drawCounter, hcur]
  rw [if_neg (by omega)]
  refine ⟨_, { g with tx := g.tx + 1, warned := g.warned || (decide (warnValue g.suite ≤ g.tx + 1) && !g.warned) }, rfl, ?_, rfl, rfl, ?_⟩
  · split
    · rw [State.slot_postEvent, State.slot_setSlot]
    · rw [State.slot_setSlot]
  · split
    · rw [State.postEvent_cipher]
      rfl
    · rfl

end

/-! ## The ends of operations (R352, R364) -/

/-- The operation is over. -/
def State.dropOp (s : State) (op : Nat) : State := { s with cipher := { s.cipher with ops := Tab.del s.cipher.ops op } }

theorem refEnd_of_reference {s : State} {op : Nat} {o : CphOp} (h : Tab.get? s.cipher.ops op = some o) (hs : o.service = none) :
    refEnd op s = (s.dropOp op).zeroise o.slot := by
  simp [refEnd, h, hs, State.dropOp]

theorem State.zeroise_ops (s : State) (slot : Nat) : (s.zeroise slot).cipher.ops = s.cipher.ops := by
  unfold State.zeroise
  dsimp only
  split
  · split <;> rfl
  · rfl

@[simp] theorem State.zeroise_regs (s : State) (slot : Nat) : (s.zeroise slot).regs = s.regs := by
  unfold State.zeroise
  dsimp only
  split
  · split <;> rfl
  · rfl

/-- A retiring generation that nothing refers to is gone. -/
theorem State.zeroise_ret {s : State} {slot : Nat} (h : ∀ e ∈ s.cipher.ops, e.2.slot ≠ slot) : ((s.zeroise slot).slot slot).ret = none := by
  unfold State.zeroise
  dsimp only
  split
  · rw [if_neg, State.slot_setSlot]
    simpa using fun k o ho hk => absurd hk (h (k, o) ho)
  next hr => exact hr

/-- Settles O56: each row on a slot does what its command, or its operation, asks of that slot and leaves the others alone. -/
theorem cipherEngine : Obligations.CipherEngine := by
  unfold Obligations.CipherEngine
  refine ⟨fun fn tag c b p s ho hg hslot hform hres hu hm hp hadm he hblock => ?_,
    fun fn tag c b s ho hg hslot hform _ hres hu hm => ?_,
    fun fn tag c s ho hg hslot hform hsuite hres hu hm hw he => ?_,
    fun fn tag c s ho hg hslot hform hsuite hres hu hm hbusy => ?_,
    fun slot w rest b s hw hb he hr => ?_,
    fun slot w rest b s hw hb hr hkey => congrArg Host.Outcome.next (keyProceed_of_retiring hw hb hr hkey),
    fun slot fn tag s he hops => ?_,
    fun slot s hops => congrArg Host.Outcome.next (keyErased_of_referred hops),
    fun fn tag op i c g b s ho hg hi hop hslot hgcm hccm haad htext hsome hsame hres hu hm hbound hsuite hlock hroom => ?_,
    fun fn tag c g b s ho hg hop hslot htag0 htag1 hnonce haad htext hsome hsame hres hu hm hbound hsuite hlock hroom hleft => ?_,
    fun op fn tag o b c s hop hs hc hout => ?_, fun op fn tag o c s hop hs hc hout => ?_, fun op o s hop hs => ?_⟩
  case refine_1 =>
    exact ⟨_, congrArg Host.Outcome.next (keyWrite_of_admitted ho hg hslot hu hform hres hm hp hadm he hblock), State.awaitSlot_spec ho _ _⟩
  case refine_2 => exact congrArg Host.Outcome.next (keyWrite_of_foreign ho hg hslot hu hform hres hm)
  case refine_3 =>
    have hrun := keyErase_of_owned ho hg hslot hu hform hsuite hres hm
    rw [if_neg (by simp [hw, he])] at hrun
    refine ⟨fun hcur hret => ?_, fun hsome => ?_⟩
    · rw [if_pos ⟨hcur, hret⟩] at hrun
      exact congrArg Host.Outcome.next hrun
    · rw [if_neg (by tauto)] at hrun
      have hbegun := (s.takeUp fn tag (some 20)).beginErase_slot (c.le 16 2) fn tag
      refine ⟨_, congrArg Host.Outcome.next hrun, hbegun, ?_, ((s.takeUp fn tag (some 20)).beginErase_slotStep (c.le 16 2) fn tag).others, ?_⟩
      · exact State.bindGen_of_erasing (by rw [hbegun]; rfl)
      · exact State.beginErase_regs ..
  case refine_4 =>
    have hrun := keyErase_of_owned ho hg hslot hu hform hsuite hres hm
    rw [if_pos hbusy] at hrun
    exact ⟨_, congrArg Host.Outcome.next hrun, State.awaitSlot_spec ho _ _⟩
  case refine_5 =>
    obtain ⟨x, hx, hinst⟩ := (s.setSlot slot { s.slot slot with waiting := rest }).installKey_slotStep slot w.suite b
    have hdone := State.complete_slotStep (((s.setSlot slot { s.slot slot with waiting := rest }).installKey slot w.suite b)) slot w.fn w.tag 0 0
    have hnext := State.nextWaiting_slotStep
      ((((s.setSlot slot { s.slot slot with waiting := rest }).installKey slot w.suite b)).complete w.fn w.tag 0) slot
    have hstep := (hinst.trans hdone).trans hnext
    refine ⟨_, congrArg Host.Outcome.next (keyProceed_of_ready hw hb he hr), hnext.cmd _ _ (State.cmd?_complete ..), ?_, fun k hk => ?_, hstep.ops⟩
    · rw [hstep.cur, State.slot_setSlot, hx, State.writtenGen, State.slot_setSlot]
      obtain hcur | ⟨g, hcur⟩ := (s.slot slot).cur.eq_none_or_eq_some
      · simp only [hcur, State.setSlot_elapsed]
      · simp only [hcur, State.setSlot_elapsed, apply_ite some]
    · rw [hstep.others k hk, State.slot_setSlot_ne _ _ hk, State.slot_setSlot_ne _ _ hk]
  case refine_6 =>
    have hdone := State.complete_slotStep (s.setSlot slot { gen := (s.slot slot).gen, waiting := (s.slot slot).waiting }) slot fn tag 0 0
    have hnext := State.nextWaiting_slotStep
      ((s.setSlot slot { gen := (s.slot slot).gen, waiting := (s.slot slot).waiting }).complete fn tag 0) slot
    have hempty : (((s.setSlot slot { gen := (s.slot slot).gen, waiting := (s.slot slot).waiting }).complete fn tag 0).slot slot)
        = { gen := (s.slot slot).gen, waiting := (s.slot slot).waiting } := by
      rw [State.slot_complete, State.slot_setSlot]
    obtain ⟨hret, hgen⟩ := State.nextWaiting_slot_of_empty (congrArg KeySlot.cur hempty) (congrArg KeySlot.ret hempty)
    refine ⟨_, congrArg Host.Outcome.next (keyErased_of_unreferred he hops), ?_, hret, ?_, hnext.cmd _ _ (State.cmd?_complete ..),
      fun k hk => ?_⟩
    · rw [hnext.cur, hempty]
    · rw [hgen, hempty]
    · rw [hnext.others k hk, hdone.others k hk, State.slot_setSlot_ne _ _ hk]
  case refine_7 =>
    have hmod : c.b 18 < 4 ∧ c.b 18 % 4 = op ∧ exec i s = .next (cphCrypt op fn tag (some b) s) := by
      simp only [List.mem_cons, Prod.mk.injEq, List.not_mem_nil, or_false] at hi
      obtain ⟨rfl, rfl⟩ | ⟨rfl, rfl⟩ | ⟨rfl, rfl⟩ | ⟨rfl, rfl⟩ := hi <;> exact ⟨by omega, by omega, rfl⟩
    obtain ⟨hlt, hmod, hexec⟩ := hmod
    have hhw : bitOf (c.b 18) 2 = false := by
      unfold bitOf
      rw [Nat.div_eq_of_lt (by omega)]
      rfl
    have hok : c.cryptOk = true := by
      rw [hop] at hlt hhw hmod
      obtain hle | hgt := Nat.lt_or_ge op 2
      · obtain ⟨h0, h1, h2⟩ := hgcm (by omega)
        simp [Cmd.cryptOk, overlaps_of_same hsame, hop, hhw, hslot, haad, htext, hres, h0, h1, h2, hle, hmod]
        omega
      · obtain ⟨h0, h1, h2, h3, h4, h5⟩ := hccm hgt
        simp [Cmd.cryptOk, overlaps_of_same hsame, hop, hhw, hslot, haad, htext, hres, h0, h1, h2, h3, h4, h5, hmod]
        omega
    have hready : CryptReady fn tag c g s := ⟨ho, hg, hok, hu, hm, hbound, hsuite, hlock, hroom⟩
    have hrun := cphCrypt_of_given hready hhw b
    rw [hmod] at hrun
    refine ⟨_, _, hexec.trans (congrArg Host.Outcome.next hrun), Tab.get?_put_self .., rfl, rfl, rfl, rfl, rfl, ?_, ?_, rfl, rfl, rfl⟩
    · rw [Cmd.cryptOp, hmod]
      rfl
    · exact congrArg (Option.map (·.stage)) (State.cmd?_takeUp ho.1 ho.2.2.1 (some 20))
  case refine_8 =>
    have hok : c.cryptOk = true := by
      simp [Cmd.cryptOk, overlaps_of_same hsame, hop, hslot, haad, htext, hres, htag0, htag1, hnonce]
      omega
    have hready : CryptReady fn tag c g s := ⟨ho, hg, hok, hu, hm, hbound, hsuite, hlock, hroom⟩
    have hmod : c.b 18 % 4 = 0 := by omega
    have hhw : bitOf (c.b 18) 2 = true := by
      rw [hop]
      rfl
    obtain ⟨s1, h, hdraw, hcur, htx, hkey, hnext⟩ := State.drawCounter_of_left (State.cur_of_bindGen hbound) hleft
    have hrun := cphCrypt_of_drawn hready hhw hdraw b
    rw [hmod] at hrun
    refine ⟨_, h, congrArg Host.Outcome.next hrun, hcur, htx, hkey, ?_⟩
    rw [← hnext]
    exact congrArg (Option.map CphOp.counter) (Tab.get?_put_self ..)
  case refine_9 =>
    have hrun : serviceDone op s = (((s.dropOp op).zeroise o.slot).writeHost fn o.dst b).complete fn tag 0x00 o.counter := by
      simp [serviceDone, hop, hs, hc, hout, State.dropOp]
    exact congrArg Host.Outcome.next hrun
  case refine_10 =>
    have hrun : serviceDone op s = ((s.dropOp op).zeroise o.slot).complete fn tag 0x06 := by
      simp [serviceDone, hop, hs, hc, hout, State.dropOp]
    exact congrArg Host.Outcome.next hrun
  case refine_11 =>
    refine ⟨_, congrArg Host.Outcome.next (refEnd_of_reference hop hs), ?_, fun k hk => ?_,
      ((s.dropOp op).zeroise_slotStep o.slot).cur, fun hothers => ?_, ?_⟩
    · rw [State.zeroise_ops]
      exact Tab.get?_del_self ..
    · rw [State.zeroise_ops]
      exact Tab.get?_del_ne _ hk
    · refine State.zeroise_ret fun e he => ?_
      obtain ⟨hmem, hne⟩ := List.mem_filter.mp he
      exact (hothers e hmem).resolve_left (by simpa using hne)
    · exact State.zeroise_regs ..

end Sys2Proof.Machine

end

section
/-! PROOFS. Doorbells and the enabling of a completion queue (13 R377, R378, R384, R391, R393). -/

namespace Sys2Proof.Machine

/-! ## An access to a function's sub-block -/

/-- A register of a function's sub-block, which the physical function's map and that function's own window reach (13 R376). -/
def ReachesFn (s : State) (r : Requester) (f : Nat) : Prop := Mapped s r ∨ (r = .vf f ∧ s.boot.refReady = true)

theorem gateBlock_hq {a : Nat} (hlo : 0x3000000 ≤ a) (hhi : a < 0x3400000) : gateBlock a = some 13 := by
  simp (disch := omega) only [gateBlock, if_neg, if_pos]

theorem State.access_of_fn {s : State} {r : Requester} {f a : Nat} (act : State → State) (hf : f < 16) (hr : ReachesFn s r f)
    (hg : s.gated 13 = false) (hlo : hqBase f ≤ a) (hhi : a < hqBase f + 0x10000) :
    s.access r a act (fun g => g == f) = { act s with answer := some .done } := by
  have hblock : gateBlock a = some 13 := gateBlock_hq (by unfold hqBase at hlo; omega) (by unfold hqBase at hhi; omega)
  obtain hm | ⟨rfl, href⟩ := hr
  · exact State.access_of_mapped act _ hm fun b hb => by rwa [← Option.some.inj (hblock.symm.trans hb)]
  · simp [State.access, href, hblock, hg]

section
variable {s : State} {r : Requester} {f n : Nat}

theorem State.doorbell_of_heard {a : Nat} {always : Bool} (act : State → State) (hf : f < 16) (hr : ReachesFn s r f) (hg : s.gated 13 = false)
    (hlo : hqBase f ≤ a) (hhi : a < hqBase f + 0x10000) (hh : s.eclipsing f = false ∨ always = true) :
    s.doorbell r f a always act = { act s with answer := some .done } := by
  have hact : (if s.eclipsing f && !always then s else act s) = act s := if_neg (by obtain h | h := hh <;> simp [h])
  rw [State.doorbell, State.access_of_fn _ hf hr hg hlo hhi, hact]

theorem State.doorbell_of_eclipsing {a : Nat} (act : State → State) (hf : f < 16) (hr : ReachesFn s r f) (hg : s.gated 13 = false)
    (hlo : hqBase f ≤ a) (hhi : a < hqBase f + 0x10000) (he : s.eclipsing f = true) :
    s.doorbell r f a false act = { s with answer := some .done } := by
  have hact : (if s.eclipsing f && !false then s else act s) = s := if_pos (by simp [he])
  rw [State.doorbell, State.access_of_fn _ hf hr hg hlo hhi, hact]

theorem not_outside (hf : f < 16) (hn : n < 16) : ¬ ((decide (16 ≤ f) || decide (16 ≤ n)) = true) := by
  simp only [Bool.or_eq_true, decide_eq_true_eq]
  omega

/-! ## Each doorbell, where it is heard -/

variable (hf : f < 16) (hn : n < 16) (hr : ReachesFn s r f) (hg : s.gated 13 = false) (he : s.eclipsing f = false)
include hf hr hg

include hn he in
theorem sqTail_of_heard (v : Word) : exec (.sqTailDoorbell r f n v) s = answered (if s.sqDepth f n ≤ v.toNat % 1024 then
    s.badDoorbell f (sqBase f n + 0xC) else s.put ⟨sqBase f n + 0xC, 9, 0⟩ (v.toNat % 1024)) := by
  show Host.Outcome.next (sqTail r f n v s) = _
  rw [sqTail, if_neg (not_outside hf hn)]
  exact congrArg _ (State.doorbell_of_heard _ hf hr hg (by unfold sqBase; omega) (by unfold sqBase; omega) (.inl he))

include hn he in
theorem cqHead_of_bad {v : Word} (hm : s.headMove f 0 n (v.toNat % 4096) = none) :
    exec (.cqHeadDoorbell r f n v) s = answered (s.badDoorbell f (hqBase f + 0x40C + 0x20 * n)) := by
  show Host.Outcome.next (cqHead r f n v s) = _
  rw [cqHead, if_neg (not_outside hf hn)]
  dsimp only
  rw [State.doorbell_of_heard _ hf hr hg (by omega) (by omega) (.inl he)]
  simp only [hm]
  rfl

/-- The commands that a CQ's head passes as it moves by k are no longer in flight (R381). -/
def State.passed (s : State) (f n k : Nat) (c : Cmd) : Bool := c.fn == f && c.cq == n && (match c.cqe with
  | some i => decide ((i + s.ringDepth f 0 n - s.ringHead f 0 n) % s.ringDepth f 0 n < k)
  | none => false)

include hn he in
theorem cqHead_of_move {v : Word} {k : Nat} (hm : s.headMove f 0 n (v.toNat % 4096) = some k) :
    exec (.cqHeadDoorbell r f n v) s = answered (((s.mapCmds (·.filter fun c => !s.passed f n k c)).ringFreeN f 0 n k).put
      ⟨hqBase f + 0x40C + 0x20 * n, 11, 0⟩ (v.toNat % 4096)) := by
  show Host.Outcome.next (cqHead r f n v s) = _
  rw [cqHead, if_neg (not_outside hf hn)]
  dsimp only
  rw [State.doorbell_of_heard _ hf hr hg (by omega) (by omega) (.inl he)]
  simp only [hm]
  rfl

include hn he in
theorem rqHead_of_heard {v : Word} : exec (.rqHeadDoorbell r f n v) s = answered (match s.headMove f 1 n (v.toNat % 4096) with
    | none => s.badDoorbell f (hqBase f + 0x814 + 0x40 * n)
    | some k => (s.ringFreeN f 1 n k).put ⟨hqBase f + 0x814 + 0x40 * n, 11, 0⟩ (v.toNat % 4096)) := by
  show Host.Outcome.next (rqHead r f n v s) = _
  rw [rqHead, if_neg (not_outside hf hn)]
  dsimp only
  rw [State.doorbell_of_heard _ hf hr hg (by omega) (by omega) (.inl he)]
  rfl

theorem evqHead_of_heard {v : Word} : exec (.evqHeadDoorbell r f v) s = answered (match s.headMove f 2 0 (v.toNat % 4096) with
    | none => s.badDoorbell f (hqBase f + 0x1C)
    | some k => ((s.ringFreeN f 2 0 k).put ⟨hqBase f + 0x1C, 11, 0⟩ (v.toNat % 4096)).reportLost f) := by
  show Host.Outcome.next (evqHead r f v s) = _
  rw [evqHead, if_neg (by omega)]
  dsimp only
  rw [State.doorbell_of_heard _ hf hr hg (by omega) (by omega) (.inr rfl)]
  rfl

end

/-! ## An Eclipse ignores the doorbells of commands and of receive rings (R393) -/

section
variable {s : State} {r : Requester} {f n : Nat}
variable (hf : f < 16) (hn : n < 16) (hr : ReachesFn s r f) (hg : s.gated 13 = false) (he : s.eclipsing f = true) (v : Word)
include hf hn hr hg he

theorem sqTail_of_eclipsing : exec (.sqTailDoorbell r f n v) s = answered s := by
  show Host.Outcome.next (sqTail r f n v s) = _
  rw [sqTail, if_neg (not_outside hf hn)]
  exact congrArg _ (State.doorbell_of_eclipsing _ hf hr hg (by unfold sqBase; omega) (by unfold sqBase; omega) he)

theorem cqHead_of_eclipsing : exec (.cqHeadDoorbell r f n v) s = answered s := by
  show Host.Outcome.next (cqHead r f n v s) = _
  rw [cqHead, if_neg (not_outside hf hn)]
  exact congrArg _ (State.doorbell_of_eclipsing _ hf hr hg (by omega) (by omega) he)

theorem rqHead_of_eclipsing : exec (.rqHeadDoorbell r f n v) s = answered s := by
  show Host.Outcome.next (rqHead r f n v s) = _
  rw [rqHead, if_neg (not_outside hf hn)]
  exact congrArg _ (State.doorbell_of_eclipsing _ hf hr hg (by omega) (by omega) he)

theorem bqTail_of_eclipsing (addrs : List NT64) : exec (.bqTailDoorbell r f n v addrs) s = answered s := by
  show Host.Outcome.next (bqTail r f n v addrs s) = _
  rw [bqTail, if_neg (not_outside hf hn)]
  exact congrArg _ (State.doorbell_of_eclipsing _ hf hr hg (by omega) (by omega) he)

end

/-! ## Posting buffers (R384) -/

/-- The buffers that a BQ's tail adds, each with its index in the ring. -/
def newBuffers (t d : Nat) (addrs : List NT64) : List (Nat × NT64) := addrs.zipIdx.map fun (x, i) => ((t + i) % d, x)

/-- The aligned buffers of those that a BQ's tail adds. -/
def goodBuffers (t d : Nat) (addrs : List NT64) : List (Nat × NT64) := (newBuffers t d addrs).filter (fun p => p.2.toNat % 64 == 0)

theorem goodBuffers_addrs (t d : Nat) (addrs : List NT64) :
    (goodBuffers t d addrs).map (·.2) = addrs.filter (fun x => x.toNat % 64 == 0) := by
  conv_rhs => rw [← List.zipIdx_map_fst 0 addrs, List.filter_map]
  rw [goodBuffers, newBuffers, List.filter_map, List.map_map]
  rfl

/-- The state with a BQ's new buffers and tail. -/
def State.withBuffers (s : State) (f n t : Nat) (good : List (Nat × NT64)) : State :=
  { s with host := { s.host with
    buffers := Tab.put s.host.buffers (ringKey f 1 n) (Tab.getD s.host.buffers (ringKey f 1 n) [] ++ good)
    bqTail := Tab.put s.host.bqTail (ringKey f 1 n) t } }

/-- The buffers that are not aligned, each counted and reported. -/
def State.skipBuffers (s : State) (f n bad : Nat) : State :=
  (List.range bad).foldl (fun s _ => (s.inc ⟨hqBase f + 0x820 + 0x40 * n, 15, 0⟩).badDoorbell f (hqBase f + 0x818 + 0x40 * n)) s

theorem State.badDoorbell_host (s : State) (f a : Nat) : ∃ ri ev evs mx mp me, (s.badDoorbell f a).host
    = { s.host with rings := ri, ev := ev, evs := evs, msix := mx, msixPend := mp, mem := me } := by
  obtain ⟨ri, ev, evs, mx, mp, me, _, _, h⟩ := (s.countReject 0xB).postEvent_eventEffect 0xB008 (items [f, a]) [f]
  exact ⟨ri, ev, evs, mx, mp, me, congrArg State.host h⟩

theorem State.skipBuffers_kept (s : State) (f n bad : Nat) : (s.skipBuffers f n bad).host.buffers = s.host.buffers
    ∧ (s.skipBuffers f n bad).host.bqTail = s.host.bqTail ∧ (s.skipBuffers f n bad).host.cmds = s.host.cmds := by
  refine State.foldl_inv (fun t => t.host.buffers = s.host.buffers ∧ t.host.bqTail = s.host.bqTail ∧ t.host.cmds = s.host.cmds) _ _
    (fun t i ht => ?_) s ⟨rfl, rfl, rfl⟩
  obtain ⟨_, _, _, _, _, _, h⟩ := (t.inc ⟨hqBase f + 0x820 + 0x40 * n, 15, 0⟩).badDoorbell_host f (hqBase f + 0x818 + 0x40 * n)
  rw [h]
  simpa using ht

section
variable {s : State} {r : Requester} {f n : Nat} {v : Word} {addrs : List NT64}
variable (hf : f < 16) (hn : n < 16) (hr : ReachesFn s r f) (hg : s.gated 13 = false) (he : s.eclipsing f = false)
include hf hn hr hg he

theorem bqTail_of_bad (hd : s.ringDepth f 1 n ≤ v.toNat % 4096) :
    exec (.bqTailDoorbell r f n v addrs) s = answered (s.badDoorbell f (hqBase f + 0x818 + 0x40 * n)) := by
  show Host.Outcome.next (bqTail r f n v addrs s) = _
  rw [bqTail, if_neg (not_outside hf hn)]
  dsimp only
  rw [State.doorbell_of_heard _ hf hr hg (by omega) (by omega) (.inl he), if_pos hd]
  rfl

theorem bqTail_of_heard (hd : v.toNat % 4096 < s.ringDepth f 1 n)
    (hlen : addrs.length = (v.toNat % 4096 + s.ringDepth f 1 n - Tab.getD s.host.bqTail (ringKey f 1 n) 0 % s.ringDepth f 1 n) % s.ringDepth f 1 n) :
    ∃ t bad, exec (.bqTailDoorbell r f n v addrs) s
      = answered (((s.withBuffers f n (v.toNat % 4096) (goodBuffers t (s.ringDepth f 1 n) addrs)).skipBuffers f n bad).put
        ⟨hqBase f + 0x818 + 0x40 * n, 11, 0⟩ (v.toNat % 4096)) := by
  refine ⟨Tab.getD s.host.bqTail (ringKey f 1 n) 0, addrs.length
    - (goodBuffers (Tab.getD s.host.bqTail (ringKey f 1 n) 0) (s.ringDepth f 1 n) addrs).length, ?_⟩
  show Host.Outcome.next (bqTail r f n v addrs s) = _
  rw [bqTail, if_neg (not_outside hf hn)]
  dsimp only
  rw [State.doorbell_of_heard _ hf hr hg (by omega) (by omega) (.inl he), if_neg (by omega), if_neg (by simp [hlen]), ← hlen]
  rfl

end

/-! ## Enabling a completion queue (R378) -/

/-- HQ_F_CQ_n_CFG. -/
def cqCfgRow : RegRow := regA 0x3000408 [(16, 0x10000), (16, 0x20)] [rwV 3 0 0 0 8, rw 4 4 0, rw 15 8 0, rw 31 16 0]

theorem rowAt_cqCfg : ∀ f < 16, ∀ n < 16, rowAt (ringCfg f 0 n) = some cqCfgRow := by decide +kernel

theorem activeOf_hq {a : Nat} (hlo : 0x3000000 ≤ a) (hhi : a < 0x3400000) : activeOf a = none := by
  have hrows : blockRows a = hqRows := by simp (disch := omega) only [blockRows, if_neg, if_pos]
  have hplain : ∀ row ∈ hqRows, row.staged = false := by decide
  refine if_neg ?_
  simp only [hrows, Bool.and_eq_true, List.any_eq_true, not_and, not_exists]
  intro _ row hrow hst _
  rw [hplain row hrow] at hst
  exact Bool.noConfusion hst

section
variable {s : State} {f n : Nat} {v : Word}

theorem State.resolve_of_hq {a : Nat} (href : s.boot.refReady = true) (hg : s.gated 13 = false) (hal : a % 4 = 0)
    (hlo : 0x3000000 ≤ a) (hhi : a < 0x3400000) : s.resolve .pf 32 a (fun n => (activeOf n).getD n) = .ok a := by
  refine State.resolve_of_reaches (.inl rfl) href hal ?_ ?_ ?_
  · simp only [inBlock, Bool.or_eq_true, Bool.and_eq_true, decide_eq_true_eq]
    omega
  · simp [reaches]
  · simp (disch := omega) only [activeOf_hq hlo hhi, Option.getD_none, State.addrGated, gateBlock_hq hlo hhi, hg, decide_eq_false,
      Bool.and_false, Bool.false_and, Bool.false_eq_true, if_false, if_neg]

theorem ringCfg_cq (hf : f < 16) (hn : n < 16) : 0x3000408 ≤ ringCfg f 0 n ∧ ringCfg f 0 n < 0x3100000
    ∧ (ringCfg f 0 n - 0x3000000) / 0x10000 = f ∧ ringCfg f 0 n % 0x10000 = 0x408 + 0x20 * n ∧ ringCfg f 0 n % 4 = 0 := by
  simp only [ringCfg, hqBase, if_pos]
  omega

theorem cqIndex (n : Nat) : (0x408 + 0x20 * n - 0x400) / 0x20 = n := by omega

/-- A CQ's configuration register has no row of its own: its write sets its fields. -/
theorem State.rowWrite_cqCfg (hf : f < 16) (hn : n < 16) : s.rowWrite .pf (ringCfg f 0 n) v = none := by
  obtain ⟨hlo, hhi, hfn, ho, -⟩ := ringCfg_cq hf hn
  rw [State.rowWrite]
  simp (disch := omega) only [if_neg, decide_eq_false, decide_eq_true, Bool.and_false, Bool.and_true, Bool.false_and,
    Bool.false_eq_true, if_false, if_true]
  rw [hfn, ho]
  simp (disch := omega) only [State.hqWrite, if_neg, decide_eq_false, decide_eq_true, Bool.and_false, Bool.and_true,
    Bool.false_eq_true, if_false]

/-- While a CQ is disabled, only a vector that its function does not have makes a configuration invalid (R388). -/
theorem State.ringWriteBad_cqCfg (hn : n < 16) (hoff : s.ringOn f 0 n = false) (hvec : bitsOf v.toNat 15 8 < 16) :
    s.ringWriteBad f (0x408 + 0x20 * n) v = false := by
  have hin : ¬ (if f = 0 then 64 else 16) ≤ bitsOf v.toNat 15 8 := by split <;> omega
  simp (disch := omega) only [State.ringWriteBad, cqIndex, hoff, hin, if_neg, decide_eq_false, decide_eq_true, Bool.and_false, Bool.and_true,
    Bool.false_eq_true, if_false, if_true, Bool.false_and, Bool.or_false]

theorem State.writeBad_cqCfg (hf : f < 16) (hn : n < 16) (hoff : s.ringOn f 0 n = false) (hvec : bitsOf v.toNat 15 8 < 16) :
    s.writeBad (ringCfg f 0 n) v = false := by
  obtain ⟨hlo, hhi, hfn, ho, -⟩ := ringCfg_cq hf hn
  have hbad := State.ringWriteBad_cqCfg hn hoff hvec
  clear hoff hvec
  rw [State.writeBad]
  simp (disch := omega) only [ownSelector, if_neg, decide_eq_false, decide_eq_true, Bool.and_false, Bool.and_true, Bool.false_and,
    Bool.false_eq_true, if_false, if_true]
  rw [hfn, ho, hbad, Bool.or_self, if_neg Bool.false_ne_true]

theorem State.afterWrite_cqCfg {t : State} (hf : f < 16) (hn : n < 16) (hoff : s.ringOn f 0 n = false)
    (hon : t.ringOn f 0 n = true) : s.afterWrite t (ringCfg f 0 n) = t.ringEnabled f 0 n := by
  obtain ⟨hlo, hhi, hfn, ho, -⟩ := ringCfg_cq hf hn
  unfold State.ringOn at hoff hon
  simp (disch := omega) only [State.afterWrite, State.afterHq, if_neg, decide_eq_false, decide_eq_true, Bool.and_false, Bool.and_true,
    Bool.false_eq_true, if_false, if_true, hfn, ho, hoff, hon, cqIndex, Bool.not_false, Bool.not_true]

theorem State.ringOn_write_cqCfg (hf : f < 16) (hn : n < 16) (hv : v.getLsbD 4 = true) :
    (s.setReg (ringCfg f 0 n) (cqCfgRow.write (s.reg (ringCfg f 0 n)) v)).ringOn f 0 n = true := by
  have hw : bitsOf (cqCfgRow.write (s.reg (ringCfg f 0 n)) v).toNat 4 4 = bitsOf v.toNat 4 4 :=
    cqCfgRow.write_rw (rowAt_laidOut (rowAt_cqCfg f hf n hn)) (f := rw 4 4 0) (by decide) _ v rfl
  rw [State.ringOn, State.flag, State.get, State.reg_setReg, hw, bitsOf_bit, BitVec.testBit_toNat, hv]
  rfl

/-- A valid write that enables a CQ sets the register and then its head, tail and phase (R378). -/
theorem registerWrite_enables_cq (hf : f < 16) (hn : n < 16) (href : s.boot.refReady = true) (hg : s.gated 13 = false)
    (hoff : s.ringOn f 0 n = false) (hv : v.getLsbD 4 = true) (hdepth : bitsOf v.toNat 3 0 ≤ 8) (hvec : bitsOf v.toNat 15 8 < 16) :
    exec (.registerWrite .pf 32 (ringCfg f 0 n) v) s
      = answered ((s.setReg (ringCfg f 0 n) (cqCfgRow.write (s.reg (ringCfg f 0 n)) v)).ringEnabled f 0 n) := by
  obtain ⟨hlo, hhi, -, ho, hal⟩ := ringCfg_cq hf hn
  have hok : cqCfgRow.accepts v = true := by simp [RegRow.accepts, cqCfgRow, regA, rwV, rw, Valid.ok, hdepth]
  have hsel : ownSelector (ringCfg f 0 n) = false := by
    simp only [ownSelector, Bool.or_eq_false_iff, Bool.and_eq_false_iff, decide_eq_false_iff_not, beq_eq_false_iff_ne]
    omega
  rw [exec_registerWrite, State.writeAt_of_resolve (State.resolve_of_hq href hg hal (by omega) (by omega)) (activeOf_hq (by omega) (by omega)),
    State.writeActive_valid (rowAt_cqCfg f hf n hn) rfl (State.rowWrite_cqCfg hf hn) hok (State.writeBad_cqCfg hf hn hoff hvec) hsel,
    State.afterWrite_cqCfg hf hn hoff (State.ringOn_write_cqCfg hf hn hv)]
  rfl

end

theorem State.get_put_head (s : State) (a v : Nat) : (s.put ⟨a, 11, 0⟩ (v % 4096)).get ⟨a, 11, 0⟩ = v % 4096 := by
  rw [State.get_put_self s _ (by decide) (by decide)]
  exact Nat.mod_mod v 4096

/-- A CQ that becomes enabled starts with head and tail 0 and phase 1 (R378). -/
theorem State.ringEnabled_cq (s : State) (f n : Nat) : (s.ringEnabled f 0 n).ring (ringKey f 0 n) = {}
    ∧ (s.ringEnabled f 0 n).reg (hqBase f + 0x40C + 0x20 * n) = 0 ∧ (s.ringEnabled f 0 n).ringOn f 0 n = s.ringOn f 0 n := by
  rw [State.ringEnabled, if_pos rfl]
  refine ⟨State.ring_setRing s _ _, State.reg_setReg (s.setRing _ _) _ _, ?_⟩
  refine State.flag_congr (State.reg_setReg_ne (s.setRing _ _) _ ?_)
  simp only [ringCfg, if_pos]
  omega

/-- Settles O38: each doorbell where it is heard, those that an Eclipse ignores, and the write that enables a CQ. -/
theorem doorbells : Obligations.Doorbells := by
  refine ⟨⟨fun r f n v s hf hn hr hg he => ?_, fun r f n k v s hf hn hr hg he hm => ?_, fun r f n v s hf hn hr hg he hm => ?_,
    fun r f n v s hf hn hr hg he hm => ?_, fun r f v s hf hr hg hm => ?_, fun r f n v addrs s hf hn hr hg he hd => ?_,
    fun f kind n v s hd => ?_, fun r f n k v s hf hn hr hg he hm => ?_, fun r f n v addrs s hf hn hr hg he hd hlen => ?_,
    fun r f k v s hf hr hg hm => ?_, fun r f n v addrs s hf hn hr hg he c hc => ?_⟩,
    fun s f n v hf hn href hg hoff hv hdepth hvec => ?_⟩
  case refine_1 => exact sqTail_of_heard hf hn hr hg he v
  case refine_2 =>
    refine ⟨_, cqHead_of_move hf hn hr hg he hm, rfl, ?_, ?_, ?_, ?_, ?_⟩
    · exact congrArg RingSt.used (State.ring_setRing (s.mapCmds _) (ringKey f 0 n) _)
    · exact State.get_put_head _ _ v.toNat
    · intro c hc hother
      refine List.mem_filter.mpr ⟨hc, ?_⟩
      obtain h | h | h := hother <;> simp [State.passed, h]
    · exact fun c hc => (List.mem_filter.mp hc).1
    · exact fun a ha => State.reg_put_ne _ _ ha
  case refine_3 => exact cqHead_of_bad hf hn hr hg he hm
  case refine_4 => rw [rqHead_of_heard hf hn hr hg he, hm]; rfl
  case refine_5 => rw [evqHead_of_heard hf hr hg, hm]; rfl
  case refine_6 => exact bqTail_of_bad hf hn hr hg he hd
  case refine_7 => exact if_pos hd
  case refine_8 => rw [rqHead_of_heard hf hn hr hg he, hm]
  case refine_9 =>
    obtain ⟨t, bad, ht⟩ := bqTail_of_heard hf hn hr hg he hd hlen
    obtain ⟨hbuf, htail, hcmds⟩ := (s.withBuffers f n (v.toNat % 4096) (goodBuffers t (s.ringDepth f 1 n) addrs)).skipBuffers_kept f n bad
    refine ⟨_, ht, rfl, ?_, ?_, ?_, hcmds⟩
    · show List.map _ (Tab.getD (State.skipBuffers _ f n bad).host.buffers (ringKey f 1 n) []) = _
      rw [hbuf, ← goodBuffers_addrs t (s.ringDepth f 1 n) addrs, ← List.map_append]
      exact congrArg _ (Tab.getD_put_self _ _ _ _)
    · show Tab.get? (State.skipBuffers _ f n bad).host.bqTail (ringKey f 1 n) = _
      rw [htail]
      exact Tab.get?_put_self _ _ _
    · exact State.get_put_head _ _ v.toNat
  case refine_10 => rw [evqHead_of_heard hf hr hg, hm]
  case refine_11 =>
    simp only [List.mem_cons, List.not_mem_nil, or_false] at hc
    obtain rfl | rfl | rfl | rfl := hc
    · exact sqTail_of_eclipsing hf hn hr hg he v
    · exact cqHead_of_eclipsing hf hn hr hg he v
    · exact rqHead_of_eclipsing hf hn hr hg he v
    · exact bqTail_of_eclipsing hf hn hr hg he v addrs
  case refine_12 =>
    obtain ⟨hring, hhead, hon⟩ := State.ringEnabled_cq (s.setReg (ringCfg f 0 n) (cqCfgRow.write (s.reg (ringCfg f 0 n)) v)) f n
    exact ⟨_, registerWrite_enables_cq hf hn href hg hoff hv hdepth hvec, hon.trans (State.ringOn_write_cqCfg hf hn hv), hring, hhead⟩

end Sys2Proof.Machine

end

section
/-! PROOFS. What the loss of a function's work leaves alone (01 R29 to R31, 13 R374, R393), and the PCI Express link (13 R373, R374). -/

namespace Sys2Proof

theorem Tab.get?_keep_none {α : Type} {p : Nat → α → Bool} {k : Nat} (h : ∀ v, p k v = false) (t : Tab α) :
    Tab.get? (Tab.keep t p) k = none := by
  induction t with
  | nil => rfl
  | cons e t ih =>
    obtain ⟨j, v⟩ := e
    simp only [Tab.keep, List.filter_cons] at ih ⊢
    by_cases hk : j = k
    · simp [hk, h, ih]
    · split
      · simp [hk, ih]
      · exact ih

end Sys2Proof

namespace Sys2Proof.Machine

/-! ## Units, the boot state and the Eclipses that run -/

/-- What the loss of a function's work leaves alone: the containment units, the boot controller's state, the Eclipses that run, the
time bases and the link. -/
def State.stand (s : State) : Tab UnitSt × BootState × Tab Eclipse × TimeSt × Bool :=
  (s.units, s.boot.state, s.host.eclipses, s.time, s.host.linkUp)

theorem State.units_of_stand {s t : State} (h : t.stand = s.stand) : t.units = s.units := congrArg (·.1) h
theorem State.boot_of_stand {s t : State} (h : t.stand = s.stand) : t.boot.state = s.boot.state := congrArg (·.2.1) h
theorem State.eclipses_of_stand {s t : State} (h : t.stand = s.stand) : t.host.eclipses = s.host.eclipses := congrArg (·.2.2.1) h
theorem State.time_of_stand {s t : State} (h : t.stand = s.stand) : t.time = s.time := congrArg (·.2.2.2.1) h
theorem State.linkUp_of_stand {s t : State} (h : t.stand = s.stand) : t.host.linkUp = s.host.linkUp := congrArg (·.2.2.2.2) h

theorem State.ite_stand {c : Prop} [Decidable c] {a b s : State} (ha : a.stand = s.stand) (hb : b.stand = s.stand) :
    (if c then a else b).stand = s.stand := by
  split
  · exact ha
  · exact hb

theorem State.foldl_stand {ι : Type} {g : State → ι → State} (hg : ∀ s i, (g s i).stand = s.stand) {l : List ι} {s : State} :
    (l.foldl g s).stand = s.stand := State.foldl_proj hg l s

theorem EventEffect.stand {s t : State} : EventEffect s t → t.stand = s.stand := by
  rintro ⟨_, _, _, _, _, _, _, _, rfl⟩
  rfl

theorem CqEffect.stand {s t : State} : CqEffect s t → t.stand = s.stand := by
  rintro ⟨_, _, _, _, _, _, _, _, _, rfl⟩
  rfl

theorem TasksOnly.stand {s t : State} : TasksOnly s t → t.stand = s.stand := by
  rintro ⟨_, rfl⟩
  rfl

theorem FlashEffect.stand {s t : State} : FlashEffect s t → t.stand = s.stand := by
  rintro ⟨_, _, _, rfl⟩
  rfl

/-! ## Work that goes -/

/-- From s to t the units, the boot state and the Eclipses stay, and a command in flight is one of s, perhaps completed. -/
structure WorkStep (s t : State) : Prop where
  stand : t.stand = s.stand
  cmds : ∀ c ∈ t.host.cmds, ∃ d ∈ s.host.cmds, d.fn = c.fn ∧ d.tag = c.tag ∧ (d.stage = .completed → c.stage = .completed)

theorem WorkStep.of_kept {s t : State} (h : t.stand = s.stand) (hc : t.host.cmds = s.host.cmds) : WorkStep s t :=
  ⟨h, fun c hm => ⟨c, hc ▸ hm, rfl, rfl, id⟩⟩

theorem WorkStep.refl (s : State) : WorkStep s s := .of_kept rfl rfl

theorem WorkStep.trans {s t u : State} (h : WorkStep s t) (h' : WorkStep t u) : WorkStep s u where
  stand := h'.stand.trans h.stand
  cmds c hc := by
    obtain ⟨d, hd, hfn, htag, hst⟩ := h'.cmds c hc
    obtain ⟨e, he, hfn', htag', hst'⟩ := h.cmds d hd
    exact ⟨e, he, hfn'.trans hfn, htag'.trans htag, fun x => hst (hst' x)⟩

theorem WorkStep.ite {c : Prop} [Decidable c] {s a b : State} (ha : WorkStep s a) (hb : WorkStep s b) : WorkStep s (if c then a else b) := by
  split
  · exact ha
  · exact hb

theorem WorkStep.foldl {ι : Type} {g : State → ι → State} (hg : ∀ s i, WorkStep s (g s i)) {l : List ι} {s : State} :
    WorkStep s (l.foldl g s) := State.foldl_inv (WorkStep s) l g (fun t i h => h.trans (hg t i)) s (.refl s)

variable (s : State)

theorem State.modRadio_workStep (r : Nat) (g : RadioSt → RadioSt) : WorkStep s (s.modRadio r g) := .of_kept rfl rfl
theorem State.modChain_workStep (i : Nat) (g : ChainSt → ChainSt) : WorkStep s (s.modChain i g) := .of_kept rfl rfl
theorem State.modPpdu_workStep (id : Nat) (g : Ppdu → Ppdu) : WorkStep s (s.modPpdu id g) := .of_kept rfl rfl
theorem State.modMesh_workStep (g : MeshSt → MeshSt) : WorkStep s (s.modMesh g) := .of_kept rfl rfl
theorem State.setSlot_workStep (slot : Nat) (k : KeySlot) : WorkStep s (s.setSlot slot k) := .of_kept rfl rfl
theorem State.dropOrphans_workStep : WorkStep s s.dropOrphans := .of_kept rfl rfl
theorem WorkStep.cipher (x : CipherSt) : WorkStep s { s with cipher := x } := .of_kept rfl rfl

theorem State.complete_workStep (f tag status result : Nat) : WorkStep s (s.complete f tag status result) := by
  refine ⟨(s.complete_cqEffect f tag status result).stand, fun c hm => ?_⟩
  cases h : s.cmd? f tag with
  | none => exact ⟨c, by rwa [State.complete_of_none h] at hm, rfl, rfl, id⟩
  | some x =>
    rw [State.complete_eq h] at hm
    simp only [State.mapCmds, State.countStatus_host, State.postCompletion_cmds, List.mem_map] at hm
    obtain ⟨d, hd, rfl⟩ := hm
    refine ⟨d, hd, ?_⟩
    unfold Cmd.completedAs
    split
    · exact ⟨rfl, rfl, fun _ => rfl⟩
    · exact ⟨rfl, rfl, id⟩

theorem State.endLaunch_workStep (r : Nat) (l : Launch) (status : Nat) : WorkStep s (s.endLaunch r l status) := by
  unfold State.endLaunch
  extract_lets s1 s2
  have h1 : WorkStep s s1 := .foldl fun s c => s.modChain_workStep ..
  have h2 : WorkStep s s2 := h1.trans (s1.modRadio_workStep ..)
  refine .ite h2 ?_
  split
  · exact h2.trans (s2.modPpdu_workStep ..)
  · exact h2.trans (s2.modRadio_workStep ..)
  · exact h2

theorem State.zeroise_workStep (slot : Nat) : WorkStep s (s.zeroise slot) := by
  unfold State.zeroise
  dsimp only
  split
  · exact .ite (.refl s) (s.setSlot_workStep ..)
  · exact .refl s

theorem State.pinGen_workStep (slot : Nat) (g : KeyGen) : WorkStep s (s.pinGen slot g) := by
  unfold State.pinGen
  exact .foldl fun s _ => .ite (.cipher s _) (.refl s)

theorem State.beginErase_workStep (slot fn tag : Nat) : WorkStep s (s.beginErase slot fn tag) := by
  unfold State.beginErase
  split
  · exact (s.pinGen_workStep ..).trans (State.setSlot_workStep ..)
  · exact s.setSlot_workStep ..

theorem State.nextWaiting_workStep (slot : Nat) : WorkStep s (s.nextWaiting slot) := by
  unfold State.nextWaiting
  dsimp only
  split
  next w rest _ =>
    have h1 : WorkStep s (s.setSlot slot { s.slot slot with waiting := rest }) := s.setSlot_workStep ..
    exact .ite (.refl s) (h1.trans (.ite (State.complete_workStep ..) (State.beginErase_workStep ..)))
  · exact .refl s

theorem State.spoil_workStep (sector : Nat) : WorkStep s (s.spoil sector) := .ite (.refl s) (.of_kept rfl rfl)

theorem State.dropFlashWork_workStep : WorkStep s s.dropFlashWork := by
  unfold State.dropFlashWork
  extract_lets l head rest fl bt s1
  have h1 : WorkStep s s1 := .of_kept rfl rfl
  clear_value head s1
  split
  · exact h1.trans (s1.spoil_workStep _)
  · exact h1.trans (s1.spoil_workStep _)
  · exact h1

/-- Dropping a function's work in the other units completes commands at most. -/
theorem State.dropFnWork_workStep (f : Nat) : WorkStep s (s.dropFnWork f) := by
  unfold State.dropFnWork
  extract_lets gone s1 s2 slots src s3 s4 s5 s6
  have h1 : WorkStep s s1 := .foldl fun s r => by
    split
    · exact .ite ((s.endLaunch_workStep ..).trans (State.modRadio_workStep ..)) (.refl s)
    · exact .refl s
  have h3 : WorkStep s s3 := (h1.trans s1.dropOrphans_workStep).trans (.cipher s2 _)
  have h4 : WorkStep s s4 := h3.trans (.foldl fun s k => s.zeroise_workStep k)
  have h5 : WorkStep s s5 := h4.trans (.foldl fun s k => s.nextWaiting_workStep k)
  have h6 : WorkStep s s6 := h5.trans (s5.modMesh_workStep _)
  exact .ite (h6.trans s6.dropFlashWork_workStep) h6

/-- What holds of every command in flight by its function and tag, or because it is completed, holds after. -/
theorem WorkStep.all_cmds {s t : State} (h : WorkStep s t) {p : Cmd → Bool}
    (hp : ∀ c d : Cmd, d.fn = c.fn → d.tag = c.tag → (d.stage = .completed → c.stage = .completed) → p d = true → p c = true)
    (hs : s.host.cmds.all p = true) : t.host.cmds.all p = true := by
  refine List.all_eq_true.mpr fun c hc => ?_
  obtain ⟨d, hd, hfn, htag, hst⟩ := h.cmds c hc
  exact hp c d hfn htag hst (List.all_eq_true.mp hs d hd)

/-! ## What a function's Eclipse or reset does (R374, R393) -/

theorem State.dropConsumer_stand (c : Nat) : (s.dropConsumer c).stand = s.stand := rfl

theorem State.putCqe_stand (f cq idx : Nat) (e : Cqe) : (s.putCqe f cq idx e).stand = s.stand := rfl
theorem State.setReg_stand (a : Nat) (w : Word) : (s.setReg a w).stand = s.stand := rfl
theorem State.put_stand (f : FieldRef) (v : Nat) : (s.put f v).stand = s.stand := rfl
theorem State.put64_stand (a v : Nat) : (s.put64 a v).stand = s.stand := by rw [State.put64, State.setReg_stand, State.setReg_stand]
theorem State.setRing_stand (k : Nat) (r : RingSt) : (s.setRing k r).stand = s.stand := rfl
theorem State.mapCmds_stand (g : List Cmd → List Cmd) : (s.mapCmds g).stand = s.stand := rfl

theorem State.withdraw_stand (c : Cmd) : (s.withdraw c).stand = s.stand := by
  unfold State.withdraw
  split
  · rfl
  · extract_lets k d r n at_ last s1 s2 s3
    have h1 : s1.stand = s.stand := State.foldl_stand fun s j => s.putCqe_stand ..
    rw [State.mapCmds_stand, State.put64_stand, State.setRing_stand, State.putCqe_stand, h1]

theorem State.withdrawUnit_stand (u : FUnit) : (s.withdrawUnit u).stand = s.stand :=
  State.foldl_stand fun s c => by
    split
    · exact s.withdraw_stand _
    · rfl

theorem State.dropWorkers_stand (l : List Nat) : (l.foldl (fun s w => s.dropConsumer (16 + w)) s).stand = s.stand :=
  State.foldl_stand fun s _ => s.dropConsumer_stand _

theorem State.dropConsumer_host (c : Nat) : (s.dropConsumer c).host = s.host := rfl

theorem State.dropWorkers_host (l : List Nat) : (l.foldl (fun s w => s.dropConsumer (16 + w)) s).host = s.host :=
  State.foldl_proj (p := State.host) (fun s _ => s.dropConsumer_host _) l s

/-- At its Eclipse instant a function holds no unfinished command but the issuer's, and the Eclipse runs (R393). -/
theorem State.eclipseFn_spec (f : Nat) (issuer : Option (Nat × Nat)) (flr : Bool) : (s.eclipseFn f issuer flr).units = s.units
    ∧ (∃ e : Eclipse, e.flr = flr ∧ (s.eclipseFn f issuer flr).host.eclipses = Tab.put s.host.eclipses f e)
    ∧ (s.eclipseFn f issuer flr).host.cmds.all (fun c => c.fn != f || c.stage == .completed || issuer == some (c.fn, c.tag)) = true := by
  unfold State.eclipseFn
  extract_lets s0 mine cs e s1 hs s2 s3
  have h0 : s0.stand = s.stand := s.withdrawUnit_stand _
  have h3 : s3.host = s2.host := (State.put_host ..).trans (s2.dropWorkers_host _)
  have h3' : s3.stand = s2.stand := (State.put_stand ..).trans (s2.dropWorkers_stand _)
  have hwork := s3.dropFnWork_workStep f
  refine ⟨?_, ⟨e, rfl, ?_⟩, ?_⟩
  · rw [State.units_of_stand hwork.stand, State.units_of_stand h3', ← State.units_of_stand h0]
    rfl
  · rw [State.eclipses_of_stand hwork.stand, State.eclipses_of_stand h3', ← State.eclipses_of_stand h0]
    rfl
  · refine hwork.all_cmds ?_ ?_
    · intro c d hfn htag hst hd
      simp only [Bool.or_eq_true, bne_iff_ne, beq_iff_eq, hfn, htag] at hd ⊢
      exact hd.imp (Or.imp id hst) id
    · rw [h3]
      exact List.all_eq_true.mpr fun c hc => (List.mem_filter.mp hc).2

/-- A function's reset leaves it no command, and its registers as they are at reset (R374). -/
theorem State.resetFn_spec (f : Nat) : (s.resetFn f).stand = s.stand
    ∧ (s.resetFn f).host.cmds.all (fun c => c.fn != f) = true
    ∧ ∀ a, hqBase f ≤ a → a < hqBase f + 0x10000 → (s.resetFn f).reg a = resetWord a := by
  unfold State.resetFn
  extract_lets mine ringOf s1 s2
  have hwork : WorkStep (s.mapCmds (·.filter (fun c => c.fn != f))) s1 := State.dropFnWork_workStep _ f
  have h2 : s2.host = s1.host := s1.dropWorkers_host _
  have h2' : s2.stand = s1.stand := s1.dropWorkers_stand _
  refine ⟨?_, ?_, ?_⟩
  · exact (h2'.trans hwork.stand).trans rfl
  · show s2.host.cmds.all (fun c => c.fn != f) = true
    rw [h2]
    refine hwork.all_cmds (fun c d hfn _ _ hd => ?_) ?_
    · rwa [hfn] at hd
    · exact List.all_eq_true.mpr fun c hc => (List.mem_filter.mp hc).2
  · intro a hlo hhi
    show (Tab.get? (Tab.keep s2.regs fun k _ => !(mine k)) a).getD (resetWord a) = resetWord a
    rw [Tab.get?_keep_none fun _ => by simp [mine, hlo, hhi]]
    rfl

/-! ## The containment strobe of a function (01 R29 to R34) -/

theorem State.postOn_stand (f code : Nat) (b : List Byte) : (s.postOn f code b).stand = s.stand := (s.postOn_eventEffect f code b).stand

theorem State.logWrite_stand (type : Nat) (payload : List Byte) : (s.logWrite type payload).stand = s.stand :=
  State.ite_stand (s.queueLogOp_effect _).stand rfl

theorem State.inc_stand (f : FieldRef) : (s.inc f).stand = s.stand := (s.inc_eventEffect f).stand

theorem State.faultNotice_stand (parts : List (List Byte)) : (s.faultNotice parts).stand = s.stand :=
  State.foldl_stand fun s p => by
    have h := (s.enqueue_tasksOnly faultQueue faultPrio 0xFF none 0x0E faultReason p [] none).stand
    exact State.ite_stand ((State.inc_stand ..).trans h) h

theorem State.postParts_stand (f code : Nat) (l : List (List Byte)) : (l.foldl (fun s p => s.postOn f code p) s).stand = s.stand :=
  State.foldl_stand fun s p => s.postOn_stand f code p

theorem State.postRecord_stand (code kind index cause detail flags : Nat) (tags : List (Nat × Nat × Nat)) :
    (s.postRecord code kind index cause detail flags tags).stand = s.stand := by
  unfold State.postRecord
  extract_lets mk s1 s2
  have h1 : s1.stand = s.stand := s.postParts_stand ..
  have h2 : s2.stand = s1.stand := State.foldl_stand fun s f => State.ite_stand (s.postParts_stand ..) rfl
  rw [State.faultNotice_stand, State.incSat, State.put_stand, h2, h1]

theorem State.logParts_stand (type : Nat) (l : List (List Byte)) : (l.foldl (fun s p => s.logWrite type p) s).stand = s.stand :=
  State.foldl_stand fun s p => s.logWrite_stand type p

theorem State.disableRings_stand (f : Nat) : (s.disableRings f).stand = s.stand := by
  unfold State.disableRings
  extract_lets s1 s2
  have h1 : s1.stand = s.stand := State.foldl_stand fun s n => by rw [State.put_stand, State.put_stand, State.put_stand]
  rw [State.dropWorkers_stand, State.put_stand, h1]

theorem State.clearFn_stand (f cause detail : Nat) : (s.clearUnit (.func f) cause detail).stand = s.stand := by
  unfold State.clearUnit
  exact (State.dropFnWork_workStep _ f).stand.trans (s.disableRings_stand f)

theorem State.postEvent_stand (code : Nat) (b : List Byte) (vfs : List Nat) : (s.postEvent code b vfs).stand = s.stand :=
  (s.postEvent_eventEffect code b vfs).stand

/-- A strobe of a function that is held changes nothing that stands (16 R473). -/
theorem State.strobe_held {f : Nat} (cause detail : Nat) (h : (s.unit (32 + f)).held.isSome = true) :
    (s.strobe (.func f) cause detail).stand = s.stand := by
  unfold State.strobe
  extract_lets i x code s1 s2 recent holds flags tags s3 s4 s5 s6
  have hx : x.held.isSome = true := h
  refine State.ite_stand rfl ?_
  rw [if_pos hx]
  exact (State.logParts_stand ..).trans (State.postRecord_stand ..)

theorem State.setUnit_stand {s t : State} (h : t.stand = s.stand) (i : Nat) (x : UnitSt) : (t.setUnit i x).stand = (s.setUnit i x).stand := by
  show (Tab.put t.units i x, t.boot.state, t.host.eclipses, t.time, t.host.linkUp) = _
  rw [State.units_of_stand h, State.boot_of_stand h, State.eclipses_of_stand h, State.time_of_stand h, State.linkUp_of_stand h]
  rfl

/-- A strobe of a function that is not held leads it alone to recover (01 R29). -/
theorem State.strobe_free {f : Nat} (cause detail : Nat) (hf : f < 16) (h : (s.unit (32 + f)).held.isSome = false) :
    ∃ x : UnitSt, x.phase = .recovering ∧ (s.strobe (.func f) cause detail).stand = (s.setUnit (32 + f) x).stand := by
  unfold State.strobe
  extract_lets i x code s1 s2 recent holds flags tags s3 s4 s5 s6
  have hx : ¬ x.held.isSome = true := by rw [show x = s.unit (32 + f) from rfl, h]; exact Bool.false_ne_true
  have h2 : s2.stand = s.stand := s.withdrawUnit_stand _
  have hc : s3.commitFault i = s3 := if_pos (show 27 ≤ 32 + f by omega)
  have h6 : s6.stand = s3.stand := by
    rw [State.clearFn_stand]
    refine (State.mapCmds_stand ..).trans ?_
    rw [State.logParts_stand, State.postRecord_stand, hc]
  rw [if_neg (by simp [FUnit.exists_, hf]), if_neg hx]
  refine ⟨_, ?_, (State.ite_stand ((State.postEvent_stand ..).trans (State.put_stand ..)) rfl).trans (h6.trans (State.setUnit_stand h2 ..))⟩
  rfl

/-- What a strobe of function g leaves alone: all that stands but that function's unit. -/
structure FnFault (g : Nat) (s t : State) : Prop where
  boot : t.boot.state = s.boot.state
  time : t.time = s.time
  linkUp : t.host.linkUp = s.host.linkUp
  unit : ∀ i, i ≠ 32 + g → t.unit i = s.unit i
  recovers : g < 16 → (s.unit (32 + g)).held = none ∨ (s.unit (32 + g)).phase = .recovering → (t.unit (32 + g)).phase = .recovering

theorem FnFault.of_stand {g : Nat} {s t u : State} (h : t.stand = u.stand) (hu : FnFault g s u) : FnFault g s t where
  boot := (State.boot_of_stand h).trans hu.boot
  time := (State.time_of_stand h).trans hu.time
  linkUp := (State.linkUp_of_stand h).trans hu.linkUp
  unit i hi := by rw [State.unit, State.units_of_stand h]; exact hu.unit i hi
  recovers hg hr := by rw [State.unit, State.units_of_stand h]; exact hu.recovers hg hr

theorem State.strobe_fnFault (g cause detail : Nat) : FnFault g s (s.strobe (.func g) cause detail) := by
  cases hh : (s.unit (32 + g)).held with
  | some p =>
    refine .of_stand (s.strobe_held cause detail (by rw [hh]; rfl)) ⟨rfl, rfl, rfl, fun _ _ => rfl, fun _ hr => ?_⟩
    obtain hn | hr := hr
    · rw [hh] at hn; exact absurd hn (Option.some_ne_none p)
    · exact hr
  | none =>
    by_cases hg : g < 16
    · obtain ⟨x, hx, ht⟩ := s.strobe_free cause detail hg (by rw [hh]; rfl)
      exact .of_stand ht ⟨rfl, rfl, rfl, fun i hi => s.unit_setUnit_ne x hi, fun _ _ => by rw [State.unit_setUnit]; exact hx⟩
    · have hs : s.strobe (.func g) cause detail = s := if_pos (by simpa [FUnit.exists_] using hg)
      rw [hs]
      exact ⟨rfl, rfl, rfl, fun _ _ => rfl, fun h => absurd h hg⟩

/-- Faults of functions leave the other units, the boot state, the time bases and the link alone. -/
theorem State.strobes_keep (l : List Nat) (cause detail : Nat) {t : State} (ht : l.foldl (fun s g => s.strobe (.func g) cause detail) s = t) :
    t.boot.state = s.boot.state ∧ t.time = s.time ∧ t.host.linkUp = s.host.linkUp ∧ ∀ u < 32, t.unit u = s.unit u := by
  rw [← ht]
  refine State.foldl_inv (fun t => t.boot.state = s.boot.state ∧ t.time = s.time ∧ t.host.linkUp = s.host.linkUp
    ∧ ∀ u < 32, t.unit u = s.unit u) _ _ (fun t g h => ?_) s ⟨rfl, rfl, rfl, fun _ _ => rfl⟩
  have hg := t.strobe_fnFault g cause detail
  obtain ⟨hb, htime, hl, hu⟩ := h
  exact ⟨hg.boot.trans hb, hg.time.trans htime, hg.linkUp.trans hl, fun u hlt => (hg.unit u (by omega)).trans (hu u hlt)⟩

/-- A function among those that fault, and not held, recovers from then on. -/
theorem State.strobes_recovering {f : Nat} {l : List Nat} (hf : f < 16) (hmem : f ∈ l) (cause detail : Nat)
    (h : (s.unit (32 + f)).held = none) :
    ((l.foldl (fun s g => s.strobe (.func g) cause detail) s).unit (32 + f)).phase = .recovering := by
  have hstep : ∀ (t : State) (g : Nat), (t.unit (32 + f)).held = none ∨ (t.unit (32 + f)).phase = .recovering →
      ((t.strobe (.func g) cause detail).unit (32 + f)).held = none ∨ ((t.strobe (.func g) cause detail).unit (32 + f)).phase = .recovering := by
    intro t g ht
    by_cases hg : f = g
    · exact .inr (hg ▸ (t.strobe_fnFault f cause detail).recovers hf ht)
    · rwa [(t.strobe_fnFault g cause detail).unit (32 + f) (by omega)]
  refine State.foldl_reaches (P := fun t => (t.unit (32 + f)).held = none ∨ (t.unit (32 + f)).phase = .recovering)
    (Q := fun t => (t.unit (32 + f)).phase = .recovering) hstep
    (fun t ht => (t.strobe_fnFault f cause detail).recovers hf ht) (fun t g ht => ?_) hmem (.inl h)
  by_cases hg : f = g
  · exact hg ▸ (t.strobe_fnFault f cause detail).recovers hf (.inr ht)
  · rwa [(t.strobe_fnFault g cause detail).unit (32 + f) (by omega)]

/-! ## The link -/

theorem State.linkDown_spec : s.linkDown.host.linkUp = false ∧ s.linkDown.units = s.units ∧ s.linkDown.boot.state = s.boot.state
    ∧ s.linkDown.time = s.time := by
  refine ⟨s.linkDown_linkUp, ?_⟩
  unfold State.linkDown
  split
  · exact ⟨State.postEvent_units .., congrArg Boot.state (State.postEvent_boot ..), State.postEvent_time ..⟩
  · exact ⟨rfl, rfl, rfl⟩

theorem State.mem_enabledFns {f : Nat} (h : s.fnEnabled f = true) : f < 16 ∧ f ∈ s.enabledFns := by
  have hf : f < 16 := by
    simp only [State.fnEnabled, Bool.or_eq_true, beq_iff_eq, Bool.and_eq_true, decide_eq_true_eq] at h
    omega
  exact ⟨hf, List.mem_filter.mpr ⟨List.mem_range.mpr hf, h⟩⟩

/-- The loss of the link takes it down and is a fault of every enabled function, with the rest of the device left alone (R374). -/
theorem State.linkFaults_spec {t : State} (ht : s.linkFaults = t) : t.host.linkUp = false ∧ t.fuses = s.fuses ∧ t.time = s.time
    ∧ t.boot.state = s.boot.state ∧ (∀ f, s.fnEnabled f = true → (s.unit (32 + f)).held = none → (t.unit (32 + f)).phase = .recovering)
    ∧ ∀ u, u < 32 → (t.unit u).phase = (s.unit u).phase := by
  obtain ⟨hdown, hunits, hboot, htime⟩ := s.linkDown_spec
  obtain ⟨hb, htm, hl, hu⟩ := s.linkDown.strobes_keep s.enabledFns 0x08 0 ht
  have hunit : ∀ i, s.linkDown.unit i = s.unit i := fun i => by rw [State.unit, hunits, State.unit]
  have hlast : t.lasting = s.lasting := by
    rw [← ht]
    exact (State.foldl_lasting fun s f => s.strobe_lasting ..).trans s.linkDown_lasting
  refine ⟨hl.trans hdown, State.fuses_of_lasting hlast, htm.trans htime, hb.trans hboot, fun f hen hheld => ?_, fun u hlt => ?_⟩
  · obtain ⟨hf, hmem⟩ := s.mem_enabledFns hen
    rw [← ht]
    exact s.linkDown.strobes_recovering hf hmem 0x08 0 (by rw [hunit, hheld])
  · rw [hu u hlt, hunit]

end Sys2Proof.Machine

end

section
/-! PROOFS. The PCI Express link, resets and configuration requests (13 R373, R374), and Eclipse of a function and of a radio (13 R392 to
R396). -/

namespace Sys2Proof.Machine

section
variable {s : State}

/-- The state with the link up at a speed and width. -/
def State.linked (s : State) (speed width : Nat) : State := { s with host := { s.host with linkUp := true, speed := speed, width := width } }

theorem linkUp_of_training {speed width : Nat} (hdown : s.host.linkUp = false) (hmay : s.mayTrain = true) (h1 : 1 ≤ speed) (h5 : speed ≤ 5)
    (hw : width ∈ [1, 2, 4, 8]) : linkUp speed width s = (s.linked speed width).postEvent 0xB003 (items [1, speed, width]) := by
  have hw : [1, 2, 4, 8].contains width = true := List.contains_iff_mem.mpr hw
  refine if_neg ?_
  simp only [hdown, hmay, hw, Bool.not_true, Bool.or_false, Bool.false_or, Bool.or_eq_true, decide_eq_true_eq]
  omega

/-- A configuration request once boot step 8 has ended (R374). -/
theorem configRequest_of_booted (hup : s.host.linkUp = true) (hb : s.boot.state ∉ [BootState.reset, .qualify, .load]) (q : ConfigReq) :
    configRequest q s = match q with
      | .read f reg => { s with answer := some (if s.fnEnabled f then .value (configWord f reg) else .absent) }
      | .power f d3 =>
        if !s.fnEnabled f then { s with answer := some .absent }
        else { s with
          host := { s.host with d3 := if d3 then s.host.d3.filter (· != f) ++ [f] else s.host.d3.filter (· != f) }, answer := some .done }
      | .sriov n =>
        let n := Nat.min n (s.get ⟨0x3100004, 19, 16⟩)
        let s1 := (s.enabledFns.filter (fun f => decide (n < f))).foldl (fun s f => s.resetFn f) s
        { s1 with host := { s1.host with vfEn := 2 ^ (n + 1) - 2 }, answer := some .done } := by
  unfold configRequest
  rw [hup]
  cases h : s.boot.state <;> simp [h] at hb <;> rfl

/-- Before boot step 8 has ended a configuration request is to be sent again (R374). -/
theorem configRequest_of_booting (hup : s.host.linkUp = true) (hb : s.boot.state ∈ [BootState.reset, .qualify, .load]) (q : ConfigReq) :
    configRequest q s = { s with answer := some .retry } := by
  unfold configRequest
  rw [hup]
  cases h : s.boot.state <;> simp [h] at hb <;> rfl

theorem configRequest_of_down (hdown : s.host.linkUp = false) (q : ConfigReq) : configRequest q s = { s with answer := some .absent } :=
  if_pos (by rw [hdown]; rfl)

theorem fnEnabled_of_alone {f : Nat} (h : s.host.vfEn = 0) : s.fnEnabled f = (f == 0) := by
  rw [State.fnEnabled, h, bitOf_eq_testBit, Nat.zero_testBit, Bool.and_false, Bool.or_false]

/-- Nothing is fetched for a function in D3hot (R372). -/
theorem State.turnFn_ne_of_d3 {f : Nat} (h : s.host.d3.contains f = true) : s.turnFn ≠ some f := by
  intro hturn
  rw [State.turnFn] at hturn
  have hany := List.find?_some hturn
  obtain ⟨n, -, hn⟩ := List.any_eq_true.mp hany
  simp only [State.fetchable, State.fnRuns, h, Bool.and_eq_true, Bool.not_true, Bool.false_eq_true, and_false, false_and] at hn

/-- The VF Enable bits of the first n VFs. -/
theorem testBit_firstVfs (n f : Nat) : (2 ^ (n + 1) - 2).testBit f = decide (1 ≤ f ∧ f ≤ n) := by
  have hdouble : 2 ^ (n + 1) - 2 = 2 * (2 ^ n - 1) := by omega
  rw [hdouble]
  cases f with
  | zero => simp
  | succ f => simp [Nat.testBit_succ, Nat.testBit_two_pow_sub_one]

end

/-- Settles O37: training and the losses of the link, an FLR, and the requests for the configuration space. -/
theorem linkEvents : Obligations.LinkEvents := by
  refine ⟨fun speed width s hdown hmay h1 h5 hw => ?_, fun c s hc => ?_, fun f s hf hen hno hok => ?_, fun f s h1 hf hen hno hrec => ?_,
    fun n s hup hb hvf => ?_, fun f reg s hup hb => ?_, fun f d3 s hup hb hen => ?_, fun q s hup hb => ?_, fun q s hdown => ?_⟩
  case refine_1 =>
    obtain ⟨ri, ev, evs, mx, mp, me, r, n, ht⟩ := (s.linked speed width).postEvent_eventEffect 0xB003
      (items [1, speed, width]) []
    refine ⟨_, congrArg Host.Outcome.next (linkUp_of_training hdown hmay h1 h5 hw), ?_⟩
    rw [ht]
    exact ⟨rfl, rfl, rfl, rfl, rfl, rfl⟩
  case refine_2 =>
    obtain ⟨rfl, hr, hq⟩ | ⟨rfl | rfl, hup⟩ := hc
    · refine ⟨_, congrArg Host.Outcome.next (if_neg (by simp [hr, hq])), s.linkFaults_spec rfl⟩
    · exact ⟨_, congrArg Host.Outcome.next (if_pos hup), s.linkFaults_spec rfl⟩
    · exact ⟨_, congrArg Host.Outcome.next (if_pos hup), s.linkFaults_spec rfl⟩
  case refine_3 =>
    obtain ⟨hunits, ⟨e, hflr, he⟩, hcmds⟩ := s.eclipseFn_spec f none true
    have hflrs : flr f s = s.eclipseFn f none true := by
      simp [flr, hf, hen, hno, hok]
    refine ⟨_, congrArg Host.Outcome.next hflrs, ?_, hunits, ?_⟩
    · rw [he, Tab.get?_put_self]
      exact hflr
    · simpa using hcmds
  case refine_4 =>
    obtain ⟨hstand, hcmds, hregs⟩ := s.resetFn_spec f
    obtain ⟨st, hst⟩ := Option.ne_none_iff_exists'.mp hrec
    have hflrs : flr f s = s.resetFn f := by
      simp [flr, hf, hen, hno, hst, State.flrFn, show f ≠ 0 by omega]
    exact ⟨_, congrArg Host.Outcome.next hflrs, hregs, hcmds, State.units_of_stand hstand⟩
  case refine_5 =>
    have hgone : ∀ n, s.enabledFns.filter (fun f => decide (n < f)) = [] := fun n => by
      refine List.filter_eq_nil_iff.mpr fun f hf => ?_
      have h0 : f = 0 := by simpa [fnEnabled_of_alone hvf] using (List.mem_filter.mp hf).2
      simp [h0]
    refine ⟨_, congrArg Host.Outcome.next (configRequest_of_booted hup hb _), ?_⟩
    simp only [hgone, List.foldl_nil, State.fnEnabled, bitOf_eq_testBit, testBit_firstVfs, Nat.min_def]
    refine ⟨trivial, trivial, trivial, fun f h1 h16 => ?_⟩
    simp only [Bool.or_eq_true, Bool.and_eq_true, beq_iff_eq, decide_eq_true_eq]
    split <;> omega
  case refine_6 => exact ⟨congrArg Host.Outcome.next (configRequest_of_booted hup hb _), by decide, fun hf => by simp [configWord, hf], by simp [configWord]⟩
  case refine_7 =>
    refine ⟨_, congrArg Host.Outcome.next (configRequest_of_booted hup hb _), ?_⟩
    dsimp only
    rw [if_neg (by simp [hen])]
    refine ⟨rfl, ?_, fun g hg => ?_, fun hd3 => ?_⟩
    · cases d3 <;> simp
    · cases d3 <;> simp [hg]
    · exact State.turnFn_ne_of_d3 (by simp [hd3])
  case refine_8 => exact congrArg Host.Outcome.next (configRequest_of_booting hup hb q)
  case refine_9 => exact congrArg Host.Outcome.next (configRequest_of_down hdown q)

end Sys2Proof.Machine

end

section
/-! PROOFS. Eclipse of a function and of a radio, and CLEAR (13 R392 to R396). -/

namespace Sys2Proof.Machine

/-! ## The rings of a function are disabled (R393) -/

/-- Clearing bit 4 of a register leaves it clear in every register in which it is clear. -/
theorem State.flag_clear_bit (s : State) (a b : Nat) (h : a = b ∨ s.flag ⟨a, 4, 4⟩ = false) : (s.put ⟨b, 4, 4⟩ 0).flag ⟨a, 4, 4⟩ = false := by
  by_cases hab : a = b
  · rw [hab]
    exact s.flag_put_bit false (by decide)
  · rw [State.flag, State.get_put_ne s 0 (f := ⟨b, 4, 4⟩) (g := ⟨a, 4, 4⟩) hab]
    exact h.resolve_left hab

/-- SQ, CQ and RQ n of a function are disabled. -/
def State.RingsOff (s : State) (f n : Nat) : Prop :=
  s.flag ⟨sqBase f n + 8, 4, 4⟩ = false ∧ s.ringOn f 0 n = false ∧ s.ringOn f 1 n = false

theorem State.RingsOff.clear {s : State} {f n : Nat} (h : s.RingsOff f n) (b : Nat) : (s.put ⟨b, 4, 4⟩ 0).RingsOff f n :=
  ⟨s.flag_clear_bit _ b (.inr h.1), s.flag_clear_bit _ b (.inr h.2.1), s.flag_clear_bit _ b (.inr h.2.2)⟩

theorem State.RingsOff.of_regs {s t : State} {f n : Nat} (h : s.RingsOff f n) (hr : t.regs = s.regs) : t.RingsOff f n :=
  ⟨(State.flag_congr (State.reg_of_regs hr _)).trans h.1, (State.flag_congr (State.reg_of_regs hr _)).trans h.2.1,
    (State.flag_congr (State.reg_of_regs hr _)).trans h.2.2⟩

/-- SQ, CQ and RQ n disabled. -/
def State.disableRing (s : State) (f n : Nat) : State :=
  ((s.put ⟨sqBase f n + 8, 4, 4⟩ 0).put ⟨ringCfg f 0 n, 4, 4⟩ 0).put ⟨ringCfg f 1 n, 4, 4⟩ 0

theorem State.disableRing_off (s : State) (f n : Nat) : (s.disableRing f n).RingsOff f n := by
  have h0 : (s.put ⟨sqBase f n + 8, 4, 4⟩ 0).flag ⟨sqBase f n + 8, 4, 4⟩ = false := s.flag_clear_bit _ _ (.inl rfl)
  have h1 := (s.put ⟨sqBase f n + 8, 4, 4⟩ 0).flag_clear_bit _ (ringCfg f 0 n) (.inr h0)
  have h2 := (s.put ⟨sqBase f n + 8, 4, 4⟩ 0).flag_clear_bit (ringCfg f 0 n) _ (.inl rfl)
  exact ⟨State.flag_clear_bit _ _ _ (.inr h1), State.flag_clear_bit _ _ _ (.inr h2), State.flag_clear_bit _ _ _ (.inl rfl)⟩

theorem State.RingsOff.disableRing {s : State} {f n : Nat} (h : s.RingsOff f n) (m : Nat) : (s.disableRing f m).RingsOff f n :=
  ((h.clear _).clear _).clear _

theorem State.disableRings_eq (s : State) (f : Nat) : ∃ l : List Nat, s.disableRings f = l.foldl (fun s w => s.dropConsumer (16 + w))
    (((List.range 16).foldl (fun s n => s.disableRing f n) s).put ⟨hqBase f + 0x24, 4, 4⟩ 0) := ⟨_, rfl⟩

theorem State.dropConsumer_regs (s : State) (c : Nat) : (s.dropConsumer c).regs = s.regs := rfl

theorem State.disableRings_off (s : State) (f : Nat) {n : Nat} (hn : n < 16) : (s.disableRings f).RingsOff f n := by
  obtain ⟨l, h⟩ := s.disableRings_eq f
  have hoff : ((List.range 16).foldl (fun s n => s.disableRing f n) s).RingsOff f n :=
    State.foldl_reaches (P := fun _ => True) (Q := fun t => t.RingsOff f n) (fun _ _ _ => trivial) (i := n)
      (fun t _ => t.disableRing_off f n) (fun t j h => h.disableRing j) (List.mem_range.mpr hn) trivial
  rw [h]
  exact (hoff.clear _).of_regs (State.foldl_proj (p := State.regs) (fun s w => s.dropConsumer_regs (16 + w)) _ _)

theorem State.disableRing_host (s : State) (f n : Nat) : (s.disableRing f n).host = s.host := by
  rw [State.disableRing, State.put_host, State.put_host, State.put_host]

theorem State.disableRings_host (s : State) (f : Nat) : (s.disableRings f).host = s.host := by
  obtain ⟨l, h⟩ := s.disableRings_eq f
  rw [h, State.dropWorkers_host, State.put_host, State.foldl_proj (p := State.host) (fun s n => s.disableRing_host f n)]

/-! ## Eclipse by a command (R392) -/

section
variable {fn tag : Nat} {c : Cmd} {s : State}

theorem eclipseFunction_of_offered (ho : Offered s fn tag 0x0B01 c) (hk : c.b 16 = 0) (hf : c.b 17 < 16) (hen : s.fnEnabled (c.b 17) = true)
    (hmay : fn = 0 ∨ c.b 17 = fn) (hg : s.gated 13 = false) (hres : c.reservedOk [(16, 2)] = true) :
    eclipseFunction fn tag s = match s.eclipseRefused (c.b 17) (.func (c.b 17)) with
      | some st => s.complete fn tag st
      | none => (s.takeUp fn tag).eclipseFn (c.b 17) (some (fn, tag)) false := by
  have hm : (fn == 0 || (c.b 16 == 0 && c.b 17 == fn)) = true := by
    obtain h | h := hmay <;> simp [h, hk]
  unfold eclipseFunction
  rw [State.runCmdIf_of_offered _ ho (by simp [hk]) hm hg]
  dsimp only
  exact if_neg (by simp [hk, hf, hen, hres])

theorem eclipseOfRadio_of_offered (ho : Offered s 0 tag 0x0B01 c) (hk : c.b 16 = 1) (hr : c.b 17 ≤ 2) (hg : s.gated 13 = false)
    (hres : c.reservedOk [(16, 2)] = true) (hok : s.eclipseRefused (16 + c.b 17) (.radio (c.b 17)) = none) :
    eclipseOfRadio 0 tag s = (s.takeUp 0 tag).eclipseRadio (c.b 17) (some (0, tag)) := by
  unfold eclipseOfRadio
  rw [State.runCmdIf_of_offered _ ho (by simp [hk]) rfl hg]
  dsimp only
  rw [if_neg (by simp [hr, hres]), hok]

theorem State.eclipseRadio_spec (s : State) (r : Nat) (issuer : Option (Nat × Nat)) :
    Tab.has (s.eclipseRadio r issuer).host.eclipses (16 + r) = true ∧ ((s.eclipseRadio r issuer).radio r).launches = [] := by
  unfold State.eclipseRadio
  extract_lets late s0 hard0 air airIds hard single back e s1 s2 s3 s4 ids s5 s6
  have hs6 : (s6.radio r).launches = [] := by rw [State.radio_modRadio]
  clear_value s6 e
  exact ⟨Tab.has_put_self _ _ _, hs6⟩

end

/-! ## HQ_F_CTRL (R392, R396) -/

/-- The state with function f faulted no more. -/
def State.unfaulted (s : State) (f : Nat) : State := { s with host := { s.host with faulted := s.host.faulted.filter (· != f) } }

section
variable {s : State} {r : Requester} {f : Nat} (hf : f < 16) (hr : ReachesFn s r f) (hg : s.gated 13 = false)
include hf hr hg

theorem ctrlEclipse_of_reached : ctrlEclipse r f s = { (match s.eclipseRefused f (.func f) with
    | some st => s.put ⟨hqBase f + 4, 15, 8⟩ st
    | none => s.eclipseFn f none false) with answer := some .done } := by
  rw [ctrlEclipse, if_neg (by omega)]
  exact State.access_of_fn _ hf hr hg (by omega) (by omega)

theorem ctrlClear_of_reached : ctrlClear r f s = { s.unfaulted f with answer := some .done } := by
  rw [ctrlClear, if_neg (by omega)]
  exact State.access_of_fn _ hf hr hg (by omega) (by omega)

end

/-! ## What an Eclipse's end posts (R393) -/

theorem State.eclipseRecord_stand (s : State) (kind index n : Nat) (tags : List (Nat × Nat × Nat)) :
    (s.eclipseRecord kind index n tags).stand = s.stand := by
  unfold State.eclipseRecord
  extract_lets parts s1
  have h1 : s1.stand = s.stand := s.postParts_stand ..
  exact (State.foldl_stand fun s f => State.ite_stand (s.postParts_stand ..) rfl).trans h1

/-- The end of an Eclipse of a function, but for the removal of the Eclipse. -/
def State.fnEclipseEnds (s : State) (f : Nat) (e : Eclipse) : State := match e.issuer with
  | some (fn, tag) => (s.eclipseRecord 0 f e.discarded e.tags).complete fn tag 0 e.discarded
  | none => (s.eclipseRecord 0 f e.discarded e.tags).put ⟨hqBase f + 4, 15, 8⟩ 0

theorem State.fnEclipseEnds_stand (s : State) (f : Nat) (e : Eclipse) : (s.fnEclipseEnds f e).stand = s.stand := by
  unfold State.fnEclipseEnds
  split
  · exact (State.complete_workStep ..).stand.trans (s.eclipseRecord_stand ..)
  · exact (State.put_stand ..).trans (s.eclipseRecord_stand ..)

/-- The state with an Eclipse over. -/
def State.uneclipsed (s : State) (key : Nat) : State := { s with host := { s.host with eclipses := Tab.del s.host.eclipses key } }

theorem State.uneclipsed_units (s : State) (key : Nat) : (s.uneclipsed key).units = s.units := rfl

theorem eclipseDone_of_fn {s : State} {f : Nat} {e : Eclipse} (hf : f < 16) (he : Tab.get? s.host.eclipses f = some e) (hflr : e.flr = false) :
    eclipseDone false f s = ((s.fnEclipseEnds f e).uneclipsed f).disableRings f := by
  unfold eclipseDone
  extract_lets key
  have hkey : Tab.get? s.host.eclipses key = some e := he
  rw [if_neg (by simp; omega)]
  simp only [hkey, hflr]
  rfl

theorem eclipseDone_of_radio {s : State} {r fn tag : Nat} {e : Eclipse} (hr : r ≤ 2) (he : Tab.get? s.host.eclipses (16 + r) = some e)
    (hi : e.issuer = some (fn, tag)) :
    eclipseDone true r s = ((s.eclipseRecord 1 r e.discarded e.tags).complete fn tag 0 e.discarded).uneclipsed (16 + r) := by
  unfold eclipseDone
  extract_lets key
  have hkey : Tab.get? s.host.eclipses key = some e := he
  rw [if_neg (by simp; omega)]
  simp only [hkey, hi]
  rw [if_neg (by simp)]
  rfl

theorem eclipseDone_of_none {s : State} {radio : Bool} {i : Nat} (h : Tab.get? s.host.eclipses (if radio = true then 16 + i else i) = none) :
    eclipseDone radio i s = s := by
  unfold eclipseDone
  extract_lets key
  have hkey : Tab.get? s.host.eclipses key = none := h
  simp only [hkey, ite_self]

/-- Settles O40: Eclipse by command and by HQ_F_CTRL, CLEAR, and the ends of Eclipses. -/
theorem eclipses : Obligations.Eclipses := by
  refine ⟨fun fn tag c s ho hk hf hen hmay hg hres hok => ?_, fun fn tag st c s ho hk hf hen hmay hg hres href => ?_,
    fun tag c s ho hk hr hg hres hok => ?_, fun r f s hf hr hg hok => ?_, fun r f st s hf hr hg href => ?_, fun r f s hf hr hg => ?_,
    fun f e s hf he hflr => ?_, fun f e u s hf he hflr hu => ?_, fun r e fn tag s hr he hi => ?_, fun radio i s h => ?_⟩
  case refine_1 =>
    have ht := eclipseFunction_of_offered ho hk hf hen hmay hg hres
    rw [hok] at ht
    obtain ⟨hunits, ⟨e, -, he⟩, hcmds⟩ := (s.takeUp fn tag).eclipseFn_spec (c.b 17) (some (fn, tag)) false
    refine ⟨_, congrArg Host.Outcome.next ht, ?_, ?_, hunits⟩
    · rw [he]
      exact Tab.has_put_self _ _ _
    · simpa [@eq_comm _ fn, @eq_comm _ tag] using hcmds
  case refine_2 =>
    have ht := eclipseFunction_of_offered ho hk hf hen hmay hg hres
    rw [href] at ht
    exact congrArg Host.Outcome.next ht
  case refine_3 =>
    exact ⟨_, congrArg Host.Outcome.next (eclipseOfRadio_of_offered ho hk hr hg hres hok), State.eclipseRadio_spec ..⟩
  case refine_4 =>
    have ht := ctrlEclipse_of_reached hf hr hg
    rw [hok] at ht
    obtain ⟨hunits, ⟨e, -, he⟩, hcmds⟩ := s.eclipseFn_spec f none false
    refine ⟨_, congrArg Host.Outcome.next ht, rfl, ?_, ?_, hunits⟩
    · show Tab.has (s.eclipseFn f none false).host.eclipses f = true
      rw [he]
      exact Tab.has_put_self _ _ _
    · simpa using hcmds
  case refine_5 =>
    have ht := ctrlEclipse_of_reached hf hr hg
    rw [href] at ht
    exact congrArg Host.Outcome.next ht
  case refine_6 =>
    refine ⟨_, congrArg Host.Outcome.next (ctrlClear_of_reached hf hr hg), rfl, ?_, rfl, fun g hgf => ?_⟩
    · simp [State.unfaulted]
    · simp [State.unfaulted, hgf]
  case refine_7 =>
    refine ⟨_, congrArg Host.Outcome.next (eclipseDone_of_fn hf he hflr), ?_, ?_, fun n hn => State.disableRings_off _ f hn⟩
    · rw [State.disableRings_host]
      exact Tab.get?_del_self _ _
    · rw [State.units_of_stand (State.disableRings_stand ..)]
      exact (State.uneclipsed_units ..).trans (State.units_of_stand (s.fnEclipseEnds_stand f e))
  case refine_8 =>
    rw [hu]
    exact congrArg Host.Outcome.next (eclipseDone_of_fn hf he hflr)
  case refine_9 => exact ⟨_, _, congrArg Host.Outcome.next (eclipseDone_of_radio hr he hi), rfl, rfl⟩
  case refine_10 => exact congrArg Host.Outcome.next (eclipseDone_of_none h)

end Sys2Proof.Machine

end

section
/-! PROOFS. Fetching, reads of host memory that fail, and interrupt moderation (13 R380 to R383, R388). -/

namespace Sys2Proof.Machine

/-! ## Fetching (R380, R381, R383) -/

/-- The command of a descriptor that is fetched from SQ n of function f. -/
def State.fetched (s : State) (f n : Nat) (d : List Byte) : Cmd :=
  { fn := f, sq := n, tag := fieldLE d 2 2, opcode := fieldLE d 0 2, fence := bitOf (fieldLE d 4 1) 0, irq := bitOf (fieldLE d 4 1) 1
    desc := slice d 0 64, cq := s.sqCq f n }

/-- The round robin moves on, and SQ n's head with it. -/
def State.turned (s : State) (f n : Nat) : State :=
  let s1 := s.put ⟨sqBase f n + 0x10, 9, 0⟩ ((s.sqHead f n + 1) % s.sqDepth f n)
  { s1 with host := { s1.host with
    rrFn := (f + 1) % 16
    rrSq := Tab.put s1.host.rrSq f (if n = (Tab.getD s.host.rrSq f (0, 0)).1 && decide ((Tab.getD s.host.rrSq f (0, 0)).2 < s.sqWeight f n)
      then (n, (Tab.getD s.host.rrSq f (0, 0)).2 + 1) else (n, 1)) } }

/-- A descriptor that is refused at once: its completion is posted, and its command is in flight as completed. -/
def State.refuseFetched (s : State) (c : Cmd) (status now : Nat) : State :=
  (s.postCompletion c status 0).1.mapCmds
    (· ++ [{ c with stage := .completed, cqe := some (s.postCompletion c status 0).2, doneAt := some now }])

/-- A command of function f with this tag is in flight, and was none of a tag in flight itself (R382). -/
def State.tagBusy (s : State) (f tag : Nat) : Bool := s.host.cmds.any (fun c => c.fn == f && c.tag == tag && !c.dup)

section
variable {s : State} {f n : Nat}

theorem fetch_out_of_turn (d : HostData) (h : s.turnFn ≠ some f) : fetch f n d s = s := if_pos (by simp [h])

theorem fetch_failed (hf : s.turnFn = some f) (hn : s.turnSq f = some n) : fetch f n none s = s.strobe (.func f) 0x09 n := by
  rw [fetch, if_neg (by simp [hf, hn])]

variable (d : List Byte) (hf : s.turnFn = some f) (hn : s.turnSq f = some n)
include hf hn

theorem fetch_of_undefined (hop : opcodes.contains (fieldLE d 0 2) = false) :
    fetch f n (some d) s = (s.turned f n).refuseFetched (s.fetched f n d) 0x6C s.elapsed := by
  rw [fetch, if_neg (by simp [hf, hn])]
  dsimp only
  rw [if_pos (by simpa using hop)]
  rfl

theorem fetch_of_busy (hop : opcodes.contains (fieldLE d 0 2) = true) (hb : s.tagBusy f (fieldLE d 2 2) = true) :
    fetch f n (some d) s = ((s.turned f n).inc ⟨hqBase f + 0x1000, 15, 0⟩).refuseFetched { s.fetched f n d with dup := true } 0x6D s.elapsed := by
  rw [fetch, if_neg (by simp [hf, hn])]
  dsimp only
  rw [State.tagBusy] at hb
  rw [if_neg (by simpa using hop), if_pos hb]
  rfl

theorem fetch_of_free (hop : opcodes.contains (fieldLE d 0 2) = true) (hb : s.tagBusy f (fieldLE d 2 2) = false) (hd : s.dormant.seq = .none) :
    fetch f n (some d) s = (s.turned f n).mapCmds (· ++ [s.fetched f n d]) := by
  rw [fetch, if_neg (by simp [hf, hn])]
  dsimp only
  rw [State.tagBusy] at hb
  rw [if_neg (by simpa using hop), if_neg (by rw [hb]; exact Bool.false_ne_true), hd]
  rfl

end

theorem State.turned_ring (s : State) (f n k : Nat) : (s.turned f n).ring k = s.ring k := rfl

/-- The entry of a refusal stands at the CQ's tail, and its command is in flight as completed. -/
theorem State.refuseFetched_spec (s : State) {c : Cmd} {f q : Nat} {k : RingSt} (hf : c.fn = f) (hq : c.cq = q) (hk : s.ring (ringKey f 0 q) = k)
    (status now : Nat) :
    Tab.get? (s.refuseFetched c status now).host.cqes (ringKey f 0 q * 4096 + k.tail) = some (s.cqeOf c status 0)
    ∧ ∃ x, (s.refuseFetched c status now).host.cmds = s.host.cmds ++ [x] ∧ x.stage = .completed := by
  subst hf hq hk
  refine ⟨(s.postCompletion_stands c status 0).1,
    { c with stage := .completed, cqe := some (s.postCompletion c status 0).2, doneAt := some now }, ?_, rfl⟩
  show (s.postCompletion c status 0).1.host.cmds ++ _ = _
  rw [State.postCompletion_cmds]

/-! ## Moderation (R388) -/

theorem modTimer_of_due {s : State} {f kind n : Nat} (hf : f < 16) (hn : n < 16) (hk : kind ≤ 2) (hfresh : (s.ring (ringKey f kind n)).fresh ≠ 0)
    (ht : s.get ⟨ringCfg f kind n, 31, 24⟩ ≠ 0)
    (hdue : (s.ring (ringKey f kind n)).since + us (s.get ⟨ringCfg f kind n, 31, 24⟩) ≤ s.elapsed) (hon : s.ringOn f kind n = true) :
    modTimer f kind n s = s.signal f kind n := by
  refine if_neg ?_
  simp only [hon, hfresh, ht, Bool.or_eq_true, decide_eq_true_eq, Bool.not_true, Bool.false_eq_true, or_false]
  omega

/-- A vector that is raised is sent, or held pending while it is masked. -/
theorem State.raiseVector_spec (s : State) (f v : Nat) :
    (s.vecMasked f v = false → (s.raiseVector f v).host.msix = s.host.msix ++ [(f, v)] ∧ (s.raiseVector f v).host.msixPend = s.host.msixPend)
    ∧ (s.vecMasked f v = true → (s.raiseVector f v).host.msix = s.host.msix ∧ (f, v) ∈ (s.raiseVector f v).host.msixPend) := by
  refine ⟨fun h => by simp [State.raiseVector, h], fun h => ⟨by simp [State.raiseVector, h], ?_⟩⟩
  by_cases hp : (f, v) ∈ s.host.msixPend <;> simp [State.raiseVector, h, hp]

theorem State.signal_spec (s : State) (f kind n : Nat) :
    (s.vecMasked f (s.get ⟨ringCfg f kind n, 15, 8⟩) = false →
      (s.signal f kind n).host.msix = s.host.msix ++ [(f, s.get ⟨ringCfg f kind n, 15, 8⟩)] ∧ (s.signal f kind n).host.msixPend = s.host.msixPend)
    ∧ (s.vecMasked f (s.get ⟨ringCfg f kind n, 15, 8⟩) = true →
      (s.signal f kind n).host.msix = s.host.msix ∧ (f, s.get ⟨ringCfg f kind n, 15, 8⟩) ∈ (s.signal f kind n).host.msixPend)
    ∧ ((s.signal f kind n).ring (ringKey f kind n)).fresh = 0 := by
  obtain ⟨hsent, hheld⟩ := (s.setRing (ringKey f kind n) { s.ring (ringKey f kind n) with fresh := 0 }).raiseVector_spec f
    (s.get ⟨ringCfg f kind n, 15, 8⟩)
  exact ⟨hsent, hheld, congrArg RingSt.fresh (State.ring_setRing s _ _)⟩

/-! ## Reads of host memory (R383) -/

theorem dmaDone_of_read (f tag : Nat) (s : State) : dmaDone f tag true s = s := by
  unfold dmaDone
  split
  · exact if_neg (by simp)
  · rfl

theorem dmaDone_of_failed {f tag : Nat} {c : Cmd} {s : State} (hc : s.cmd? f tag = some c) (hst : c.stage = .fetched)
    (hread : c.readsHost = true) : dmaDone f tag false s = s.readFails c := by
  unfold dmaDone
  rw [hc]
  exact if_pos (by simp [hst, hread])

/-- A TSK_SUBMIT that passes its checks, without its data, completes HQ_DMA. -/
theorem submit_of_failed {fn tag : Nat} {c : Cmd} {s : State} (ho : Offered s fn tag 0x0B10 c) (hmay : s.mayTenant fn (c.b 19) true = true)
    (hg : s.gated 12 = false) (hq : c.b 16 < 64) (hp : c.b 17 < 8) (hctx : c.b 18 < 2) (hten : c.b 19 < 16 ∨ c.b 19 = 0xFF)
    (hle : c.le 24 4 ≤ 8192) (hres : c.reservedOk [(16, 6), (24, 4), (32, 8)] = true) (hon : s.qOn (c.b 16) = true) :
    submit fn tag none s = s.complete fn tag 0x6E := by
  unfold submit
  rw [State.runCmd_of_offered _ ho hmay hg]
  dsimp only
  rw [if_neg, if_neg (by simp [hon])]
  simp only [hres, Bool.or_eq_true, Bool.and_eq_true, decide_eq_true_eq, Bool.not_true, Bool.false_eq_true, or_false]
  omega

/-! ## BAR2 (R375, R388) -/

/-- The state with the mask of vector v of function f taken back, and the vector pending no more. -/
def State.unmasked (s : State) (f v : Nat) : State :=
  { s with host := { s.host with
    msixTab := Tab.put s.host.msixTab (f * 65536 + (16 * v + 12)) 0#32, msixPend := s.host.msixPend.filter (· != (f, v)) } }

theorem State.vecMasked_unmasked (s : State) (f v : Nat) : (s.unmasked f v).vecMasked f v = false := by
  rw [State.vecMasked, State.msixWord, State.unmasked, Tab.getD_put_self]
  rfl

theorem State.vecMasked_unmasked_ne (s : State) {f v g w : Nat} (hv : v < 64) (hw : w < 64) (h : (g, w) ≠ (f, v)) :
    (s.unmasked f v).vecMasked g w = s.vecMasked g w := by
  have hkey : g * 65536 + (16 * w + 12) ≠ f * 65536 + (16 * v + 12) := fun he => h (by ext <;> dsimp only <;> omega)
  rw [State.vecMasked, State.msixWord, State.unmasked, Tab.getD_put_ne _ _ _ hkey]
  rfl

theorem vecCount_le (f : Nat) : vecCount f ≤ 64 := by
  unfold vecCount
  split <;> omega

theorem State.bar2Put_unmask (s : State) {f v : Nat} (hv : v < vecCount f) (hp : (f, v) ∈ s.host.msixPend) :
    s.bar2Put f (16 * v + 12) 0#32 = (s.unmasked f v).raiseVector f v := by
  have hmod : (16 * v + 12) % 16 = 12 := by omega
  have hdiv : (16 * v + 12) / 16 = v := by omega
  have hm := s.vecMasked_unmasked f v
  rw [State.bar2Put, if_neg (by omega)]
  simp only [hmod, hdiv]
  rw [if_pos]
  · rfl
  · exact Bool.and_eq_true_iff.mpr ⟨List.contains_iff_mem.mpr hp, congrArg (!·) hm⟩

theorem State.writeAt_unmask (s : State) {f v : Nat} (hv : v < vecCount f) (hen : s.fnEnabled f = true) (href : s.boot.refReady = true)
    (hg : s.gated 13 = false) (hp : (f, v) ∈ s.host.msixPend) :
    s.writeAt (.bar2 f) 32 (16 * v + 12) 0#32 = { (s.unmasked f v).raiseVector f v with answer := some .done } := by
  have h64 := vecCount_le f
  have hal : (16 * v + 12) % 4 = 0 := by omega
  have hok : s.bar2Ok f 32 (16 * v + 12) = true := by
    simp only [State.bar2Ok, hal, hen, href, hg, beq_self_eq_true, Bool.true_and, Bool.and_true, Bool.not_false, decide_eq_true_eq]
    omega
  rw [State.writeAt]
  dsimp only
  rw [if_pos hok, s.bar2Put_unmask hv hp]

/-- Settles O39: the turns of the round robin, failed reads, moderation, and the mask of a vector. -/
theorem commandFlow : Obligations.CommandFlow := by
  refine ⟨fun f n d s hf hn hop hb hd => ?_, fun f n d s hf hn hop => ?_, fun f n d s hf hn hop hb => ?_, fun f n s hf hn => ?_,
    fun f n d s hf => ?_, fun f tag c i s hc hst hread hi => ?_, fun f tag c s ho hlen hmay hg hq hp hctx hten hle hres hon => ?_,
    fun f tag s => ?_, fun f kind n s hf hn hk hfresh ht hdue hon => ?_, fun f v s hf hv hen href hg hpend => ?_⟩
  case refine_1 =>
    refine ⟨_, congrArg Host.Outcome.next (fetch_of_free d hf hn hop hb hd), rfl, ?_, rfl, rfl, fun a ha => ?_⟩
    · exact State.get_put_self s _ (by decide) (by decide)
    · exact State.reg_put_ne s _ ha
  case refine_2 =>
    obtain ⟨he, x, hx, hdone⟩ := (s.turned f n).refuseFetched_spec (c := s.fetched f n d) (q := s.sqCq f n)
      (k := s.ring (ringKey f 0 (s.sqCq f n))) rfl rfl (State.turned_ring ..) 0x6C s.elapsed
    have hcmds : (s.turned f n).host.cmds = s.host.cmds := rfl
    rw [hcmds] at hx
    exact ⟨_, _, congrArg Host.Outcome.next (fetch_of_undefined d hf hn hop), he, rfl, rfl, rfl, rfl, x, hx, hdone⟩
  case refine_3 =>
    have hhost := (s.turned f n).inc_host ⟨hqBase f + 0x1000, 15, 0⟩
    obtain ⟨he, x, hx, hdone⟩ := ((s.turned f n).inc ⟨hqBase f + 0x1000, 15, 0⟩).refuseFetched_spec
      (c := { s.fetched f n d with dup := true }) (q := s.sqCq f n) (k := s.ring (ringKey f 0 (s.sqCq f n))) rfl rfl
      (by rw [State.ring, hhost]; rfl) 0x6D s.elapsed
    rw [hhost] at hx
    refine ⟨_, _, congrArg Host.Outcome.next (fetch_of_busy d hf hn hop hb), he, rfl, rfl, rfl, x, hx, hdone⟩
  case refine_4 => exact congrArg Host.Outcome.next (fetch_failed hf hn)
  case refine_5 => exact congrArg Host.Outcome.next (fetch_out_of_turn d hf)
  case refine_6 =>
    rw [show exec (.hostDmaCompletion f tag false) s = .next (s.readFails c) from congrArg Host.Outcome.next (dmaDone_of_failed hc hst hread)]
    obtain ⟨hfn, htag⟩ := State.fn_tag_of_cmd? hc
    simp only [List.mem_cons, Prod.mk.injEq, List.not_mem_nil, or_false] at hi
    obtain ⟨hop, rfl⟩ | ⟨hop, rfl⟩ | ⟨hop, rfl⟩ | ⟨hop, rfl⟩ | ⟨hop, rfl⟩ | ⟨hop, rfl⟩ | ⟨hop, rfl⟩ | ⟨hop, rfl⟩ := hi <;>
      simp only [State.readFails, hop, hfn, htag, Nat.reduceEqDiff, if_true, if_false] <;> rfl
  case refine_7 =>
    have hread : c.readsHost = true := by simp [Cmd.readsHost, ho.2.1, hlen]
    obtain ⟨hfn, htag⟩ := State.fn_tag_of_cmd? ho.1
    refine congrArg Host.Outcome.next ((dmaDone_of_failed ho.1 ho.2.2.1 hread).trans ?_)
    simp only [State.readFails, ho.2.1, hfn, htag, Nat.reduceEqDiff, if_true, if_false]
    exact submit_of_failed ho hmay hg hq hp hctx hten hle hres hon
  case refine_8 => exact congrArg Host.Outcome.next (dmaDone_of_read f tag s)
  case refine_9 =>
    obtain ⟨hsent, hheld, hr⟩ := s.signal_spec f kind n
    exact ⟨_, congrArg Host.Outcome.next (modTimer_of_due hf hn hk hfresh ht hdue hon), hsent, hheld, hr, rfl, rfl⟩
  case refine_10 =>
    have h64 := vecCount_le f
    have hm := s.vecMasked_unmasked f v
    obtain ⟨hsent, hpend'⟩ := ((s.unmasked f v).raiseVector_spec f v).1 hm
    refine ⟨_, congrArg Host.Outcome.next (s.writeAt_unmask hv hen href hg hpend), rfl, hm, hsent, ?_, rfl, fun g w hgw hg16 hw => ?_⟩
    · show (f, v) ∉ ((s.unmasked f v).raiseVector f v).host.msixPend
      rw [hpend']
      simp [State.unmasked]
    · exact s.vecMasked_unmasked_ne (by omega) hw hgw

end Sys2Proof.Machine

end

section
/-! PROOFS. The task scheduler's consumers, and the commands that submit and inject work (13 R397 to R407). -/

namespace Sys2Proof.Machine

/-! ## Statistics (R406) -/

/-- t is s with other statistics of consumers and queues. -/
def StatStep (s t : State) : Prop := ∃ cn qn, t = { s with tasks := { s.tasks with cNow := cn, qNow := qn } }

theorem StatStep.refl (s : State) : StatStep s s := ⟨_, _, rfl⟩

theorem StatStep.trans {s t u : State} : StatStep s t → StatStep t u → StatStep s u := by
  rintro ⟨_, _, rfl⟩ ⟨_, _, rfl⟩
  exact ⟨_, _, rfl⟩

theorem StatStep.items {s t : State} : StatStep s t → t.tasks.items = s.tasks.items := by rintro ⟨_, _, rfl⟩; rfl
theorem StatStep.gens {s t : State} : StatStep s t → t.tasks.gens = s.tasks.gens := by rintro ⟨_, _, rfl⟩; rfl
theorem StatStep.askOf {s t : State} : StatStep s t → ∀ c, t.askOf c = s.askOf c := by rintro ⟨_, _, rfl⟩; exact fun _ => rfl
theorem StatStep.dropsWait {s t : State} : StatStep s t → t.tasks.dropsWait = s.tasks.dropsWait := by rintro ⟨_, _, rfl⟩; rfl
theorem StatStep.regs {s t : State} : StatStep s t → t.regs = s.regs := by rintro ⟨_, _, rfl⟩; rfl
theorem StatStep.host {s t : State} : StatStep s t → t.host = s.host := by rintro ⟨_, _, rfl⟩; rfl

theorem State.modC_statStep (s : State) (c : Nat) (g : CStat → CStat) : StatStep s (s.modC c g) := ⟨_, _, rfl⟩
theorem State.modQ_statStep (s : State) (q : Nat) (g : QStat → QStat) : StatStep s (s.modQ q g) := ⟨_, _, rfl⟩

theorem State.trackIdle_statStep (s : State) : StatStep s s.trackIdle :=
  State.foldl_inv (StatStep s) _ _ (fun t _ h => h.trans (t.modC_statStep ..)) s (.refl s)

/-! ## Credits (R404) -/

section
variable (s : State) (c : Nat) (x : Credit)

theorem State.askOf_setAsk : ((s.setAsk c x).askOf c).pending = x.pending := by
  unfold State.askOf State.setAsk
  dsimp only
  split
  next h => rw [Tab.getD, Tab.get?_del_self, h]; rfl
  · rw [Tab.getD_put_self]

theorem State.askOf_setAsk_ne {c j : Nat} (h : j ≠ c) : (s.setAsk c x).askOf j = s.askOf j := by
  unfold State.askOf State.setAsk
  dsimp only
  split
  · rw [Tab.getD, Tab.get?_del_ne _ h, Tab.getD]
  · rw [Tab.getD_put_ne _ _ _ h]

end

/-! ## Delivery (R400, R401) -/

/-- The pool once item idx is given to consumer c: an item of an atomic queue that is no MAC's stays, held. -/
def State.poolGiven (s : State) (c idx : Nat) (i : Item) : Tab Item :=
  if i.atomic && i.mac.isNone then Tab.upd s.tasks.items idx fun i => { i with holder := some (c, s.elapsed) } else Tab.del s.tasks.items idx

theorem HostEffect.tasks {s t : State} : HostEffect s t → t.tasks = s.tasks := by
  rintro ⟨_, _, _, _, rfl⟩
  rfl

theorem State.giveItem_spec (s : State) (c idx : Nat) (i : Item) :
    (s.giveItem c idx i).tasks.items = s.poolGiven c idx i ∧ (s.giveItem c idx i).tasks.gens = s.tasks.gens
      ∧ (16 ≤ c → ((s.giveItem c idx i).askOf c).pending = (s.askOf c).pending - 1) := by
  unfold State.giveItem
  extract_lets holds ts s1 s2 s3 w s4
  have h1 : s1.tasks.items = s.poolGiven c idx i ∧ s1.tasks.gens = s.tasks.gens := by
    unfold State.poolGiven
    dsimp only [s1, holds]
    split
    · exact ⟨rfl, rfl⟩
    · exact ⟨rfl, rfl⟩
  have h3 : StatStep s1 s3 := (s1.modQ_statStep ..).trans (s2.modC_statStep ..)
  split
  next hc => exact ⟨h3.items.trans h1.1, h3.gens.trans h1.2, fun h => absurd hc (by omega)⟩
  next hc =>
    have h4 : s4.tasks.items = s3.tasks.items ∧ s4.tasks.gens = s3.tasks.gens := ⟨rfl, rfl⟩
    have hask : (s4.askOf c).pending = (s.askOf c).pending - 1 := s3.askOf_setAsk c ⟨(s.askOf c).pending - 1, s.elapsed⟩
    have key : ∀ src rest, (s4.rqWrite (s.workerFn w) (s.workerRq w) (bufsFor i.payload.length) src rest i.payload).tasks = s4.tasks :=
      fun src rest => (s4.rqWrite_effect ..).tasks
    refine ⟨?_, ?_, fun _ => ?_⟩
    · rw [key, h4.1, h3.items, h1.1]
    · rw [key, h4.2, h3.gens, h1.2]
    · rw [State.askOf, key, ← State.askOf, hask]

theorem deliverItem_of_best {s : State} {c idx : Nat} {i : Item} (hc : c < 80) (hrun : s.stopped 12 = false) (hb : s.bestItem c = some (idx, i))
    (hm : s.mayTake c i.payload = true) : deliverItem c s = (s.giveItem c idx i).trackIdle := by
  rw [deliverItem, if_neg (by rw [hrun]; simp; omega), hb]
  exact if_pos hm

theorem deliverItem_of_none {s : State} {c : Nat} (hb : s.bestItem c = none) : deliverItem c s = s := by
  rw [deliverItem, hb]
  exact ite_self s

/-! ## A worker's writes (R402, R404) -/

/-- The handle that a worker releases names a context that it holds (R402). -/
def State.handleHeld (s : State) (w : Nat) (v : Word) : Bool := (Tab.get? s.tasks.items (v.toNat % 2 ^ 18)).any fun (i : Item) =>
  i.gen % 2 ^ 14 == v.toNat / 2 ^ 18 && (match i.holder with | some (c, _) => c == 16 + w | none => false)

theorem State.handleHeld_iff {s : State} {w : Nat} {v : Word} : s.handleHeld w v = true ↔
    ∃ i from_, Tab.get? s.tasks.items (v.toNat % 2 ^ 18) = some i ∧ i.gen % 2 ^ 14 = v.toNat / 2 ^ 18 ∧ i.holder = some (16 + w, from_) := by
  rw [State.handleHeld, Option.any_eq_true]
  refine exists_congr fun i => ?_
  rw [Bool.and_eq_true, beq_iff_eq]
  cases hh : i.holder with
  | none => simp
  | some p => simp [Prod.ext_iff]

section
variable {s : State} {r : Requester} {f w : Nat} {v : Word} (hf : f < 16) (hw : w < 64) (hr : ReachesFn s r f) (hg : s.gated 13 = false)
  (hb : s.wkBound f w = true)
include hf hw hr hg hb

theorem askWrite_of_bound (hv : bitOf v.toNat 12 = false) (hn : (s.askOf (16 + w)).pending + v.toNat % 4096 ≤ 4095) :
    askWrite r f w v s = { (s.setAsk (16 + w) ⟨(s.askOf (16 + w)).pending + v.toNat % 4096, s.elapsed⟩).trackIdle with answer := some .done } := by
  rw [askWrite, if_neg (by rw [hv]; simp; omega), State.access_of_fn _ hf hr hg (by unfold wkReg; omega) (by unfold wkReg; omega)]
  dsimp only
  rw [if_neg (by rw [hb]; simp; omega)]

theorem askCancel_of_bound (hv : bitOf v.toNat 12 = true) :
    askCancel r f w v s = { (s.setAsk (16 + w) {}).trackIdle with answer := some .done } := by
  rw [askCancel, if_neg (by rw [hv]; simp; omega), State.access_of_fn _ hf hr hg (by unfold wkReg; omega) (by unfold wkReg; omega)]
  dsimp only
  rw [if_neg (by rw [hb]; simp)]

theorem releaseWrite_of_bound : releaseWrite r f w v s = { (if s.handleHeld w v then (s.dropItem (v.toNat % 2 ^ 18)).trackIdle
    else (s.inc ⟨0x2C00014, 31, 16⟩).badDoorbell f (wkReg f w + 4)) with answer := some .done } := by
  rw [releaseWrite, if_neg (by simp; omega), State.access_of_fn _ hf hr hg (by unfold wkReg; omega) (by unfold wkReg; omega)]
  dsimp only
  rw [if_neg (by rw [hb]; simp)]
  rfl

end

/-! ## Lapses (R402, R403, R405) -/

theorem atomicExpired_of_due {s : State} {idx c from_ : Nat} {i : Item} (hi : Tab.get? s.tasks.items idx = some i) (hh : i.holder = some (c, from_))
    (hdue : from_ + ms (s.get ⟨0x2C00008, 13, 0⟩) ≤ s.elapsed) :
    atomicExpired idx s = (((s.dropItem idx).inc ⟨0x2C00014, 15, 0⟩).postEvent 0xB004 (items [c, i.queue, i.ctx])).trackIdle := by
  simp only [atomicExpired, hi, hh]
  exact if_neg (by omega)

/-- The state with an item past its MAX_WAIT out of the pool, and counted (R403). -/
def State.waitedOut (s : State) (idx q : Nat) : State :=
  let s1 := ((s.dropItem idx).inc ⟨0x2C00010, 31, 16⟩).modQ q fun x => { x with nDrop := x.nDrop + 1 }
  { s1 with tasks := { s1.tasks with dropsWait := Tab.put s1.tasks.dropsWait q (Tab.getD s1.tasks.dropsWait q 0 + 1) } }

theorem maxWaited_of_due {s : State} {idx : Nat} {i : Item} (hi : Tab.get? s.tasks.items idx = some i) (hh : i.holder = none)
    (hm : s.get ⟨tskQ i.queue + 0x10, 15, 0⟩ ≠ 0) (hdue : ms (s.get ⟨tskQ i.queue + 0x10, 15, 0⟩) ≤ s.waitOf i) :
    maxWaited idx s = (s.waitedOut idx i.queue).trackIdle := by
  simp only [maxWaited, hi]
  exact if_neg (by simp [hh, hm]; omega)

theorem State.waitedOut_spec (s : State) (idx q : Nat) : (s.waitedOut idx q).tasks.items = Tab.del s.tasks.items idx
    ∧ Tab.getD (s.waitedOut idx q).tasks.dropsWait q 0 = Tab.getD s.tasks.dropsWait q 0 + 1 := by
  unfold State.waitedOut
  extract_lets s1
  have hstat : StatStep ((s.dropItem idx).inc ⟨0x2C00010, 31, 16⟩) s1 := State.modQ_statStep ..
  have htasks : ((s.dropItem idx).inc ⟨0x2C00010, 31, 16⟩).tasks = (s.dropItem idx).tasks := State.inc_tasks ..
  have hdrops : s1.tasks.dropsWait = (s.dropItem idx).tasks.dropsWait := hstat.dropsWait.trans (congrArg TaskSt.dropsWait htasks)
  refine ⟨hstat.items.trans (congrArg TaskSt.items htasks), ?_⟩
  dsimp only
  rw [Tab.getD_put_self, hdrops]
  rfl

theorem askLapse_of_due {s : State} {w : Nat} (hw : w < 64) (hp : (s.askOf (16 + w)).pending ≠ 0)
    (hdue : (s.askOf (16 + w)).since + ms (s.askWait w) ≤ s.elapsed) :
    (askLapse w s).tasks = (s.setAsk (16 + w) {}).trackIdle.tasks ∧ (askLapse w s).regs = s.regs := by
  unfold askLapse
  extract_lets x f n s1
  have h1 : s1.regs = s.regs := (State.trackIdle_statStep _).regs
  rw [if_neg (by simp only [x, Bool.or_eq_true, decide_eq_true_eq]; omega)]
  split
  · refine ⟨?_, ?_⟩
    · exact ((State.putRx_effect ..).trans (State.moderate_effect ..)).tasks
    · rw [State.moderate_regs]
      exact h1
  · exact ⟨rfl, h1⟩

/-- Settles O41: delivery, the writes of a worker, and what lapses. -/
theorem taskConsumers : Obligations.TaskConsumers := by
  refine ⟨fun c idx i s hc hrun hb hm hi hsort => ?_, fun c s hb => ?_, fun r f w v s hf hw hr hg hv hb hn => ?_,
    fun r f w v s hf hw hr hg hv hb => ?_, fun r f w v i from_ s hf hw hr hg hb hi hgen hh => ?_, fun r f w v s hf hw hr hg hb hno => ?_,
    fun idx c from_ i s hi hh hdue => ?_, fun idx i s hi hh hm hdue => ?_, fun w s hw hp hdue => ?_⟩
  case refine_1 =>
    obtain ⟨hitems, hgens, hask⟩ := s.giveItem_spec c idx i
    have hidle := (s.giveItem c idx i).trackIdle_statStep
    refine ⟨_, congrArg Host.Outcome.next (deliverItem_of_best hc hrun hb hm), hidle.gens.trans hgens, fun h => ?_, fun h => ?_,
      fun h => ?_, fun j hj => ?_⟩
    · rw [hidle.items, hitems, State.poolGiven, if_neg (by rw [h]; exact Bool.false_ne_true), Tab.get?_del_self]
    · rw [hidle.items, hitems, State.poolGiven, if_pos h, Tab.get?_upd_self, hi]
      rfl
    · rw [hidle.askOf, hask h]
    · rw [hidle.items, hitems, State.poolGiven]
      split
      · exact Tab.get?_upd_ne _ _ hj
      · exact Tab.get?_del_ne _ hj
  case refine_2 => exact congrArg Host.Outcome.next (deliverItem_of_none hb)
  case refine_3 =>
    have hidle := (s.setAsk (16 + w) ⟨(s.askOf (16 + w)).pending + v.toNat % 4096, s.elapsed⟩).trackIdle_statStep
    refine ⟨_, congrArg Host.Outcome.next (askWrite_of_bound hf hw hr hg hb hv hn), rfl, ?_, fun x hx => ?_, hidle.items, hidle.regs⟩
    · exact (congrArg Credit.pending (hidle.askOf _)).trans (s.askOf_setAsk _ _)
    · exact (hidle.askOf x).trans (s.askOf_setAsk_ne _ hx)
  case refine_4 =>
    have hidle := (s.setAsk (16 + w) {}).trackIdle_statStep
    refine ⟨_, congrArg Host.Outcome.next (askCancel_of_bound hf hw hr hg hb hv), rfl, ?_, fun x hx => ?_, hidle.items, hidle.regs⟩
    · exact (congrArg Credit.pending (hidle.askOf _)).trans (s.askOf_setAsk _ _)
    · exact (hidle.askOf x).trans (s.askOf_setAsk_ne _ hx)
  case refine_5 =>
    have hheld : s.handleHeld w v = true := State.handleHeld_iff.mpr ⟨i, from_, hi, hgen, hh⟩
    have hidle := (s.dropItem (v.toNat % 2 ^ 18)).trackIdle_statStep
    have ht := releaseWrite_of_bound hf hw hr hg hb (v := v)
    rw [if_pos hheld] at ht
    refine ⟨_, congrArg Host.Outcome.next ht, rfl, ?_, fun j hj => ?_, hidle.regs, hidle.host⟩
    · exact (congrArg (Tab.get? · _) hidle.items).trans (Tab.get?_del_self _ _)
    · exact (congrArg (Tab.get? · _) hidle.items).trans (Tab.get?_del_ne _ hj)
  case refine_6 =>
    have hheld : ¬ s.handleHeld w v = true := fun h => by
      obtain ⟨i, from_, hi, hgen, hh⟩ := State.handleHeld_iff.mp h
      exact hno i from_ hi hgen hh
    have haddr : wkReg f w + 4 = hqBase f + 0xC04 + 0x10 * w := by unfold wkReg; omega
    have ht := releaseWrite_of_bound hf hw hr hg hb (v := v)
    rw [if_neg hheld, haddr] at ht
    exact congrArg Host.Outcome.next ht
  case refine_7 =>
    refine ⟨_, congrArg Host.Outcome.next (atomicExpired_of_due hi hh hdue), ?_⟩
    have hitems := ((((s.dropItem idx).inc ⟨0x2C00014, 15, 0⟩).postEvent 0xB004 (items [c, i.queue, i.ctx])).trackIdle_statStep).items
    rw [State.postEvent_tasks, State.inc_tasks] at hitems
    rw [hitems]
    exact ⟨Tab.get?_del_self _ _, fun j hj => Tab.get?_del_ne _ hj⟩
  case refine_8 =>
    obtain ⟨hitems, hdrops⟩ := s.waitedOut_spec idx i.queue
    have hidle := (s.waitedOut idx i.queue).trackIdle_statStep
    refine ⟨_, congrArg Host.Outcome.next (maxWaited_of_due hi hh hm hdue), ?_⟩
    rw [hidle.items, hitems, hidle.dropsWait, hdrops]
    exact ⟨Tab.get?_del_self _ _, fun j hj => Tab.get?_del_ne _ hj, rfl⟩
  case refine_9 =>
    obtain ⟨htasks, hregs⟩ := askLapse_of_due hw hp hdue
    have hidle := (s.setAsk (16 + w) {}).trackIdle_statStep
    have hask : ∀ x, (askLapse w s).askOf x = (s.setAsk (16 + w) {}).askOf x := fun x => by
      rw [State.askOf, htasks, ← State.askOf, hidle.askOf]
    refine ⟨_, rfl, ?_, ?_, hregs, fun x hx => ?_⟩
    · rw [hask, State.askOf_setAsk]
    · rw [htasks, hidle.items]
      rfl
    · rw [hask, State.askOf_setAsk_ne _ _ hx]

/-! ## Work of the host (R397, R407) -/

/-- An item that is enqueued stands in the pool at the free place, as it came. -/
theorem State.enqueue_of_room {s : State} {q idx : Nat} (hon : s.qOn q = true) (hroom : s.tskRoom q = true) (hg : s.gated 12 = false)
    (hfree : Tab.freeKey s.tasks.items 262144 = some idx) (prio tenant : Nat) (ctx : Option Nat) (source reason : Nat) (payload key : List Byte)
    (mac : Option (List Byte)) : ∃ i t, s.enqueue q prio tenant ctx source reason payload key mac = (some idx, t)
      ∧ t.tasks.items = Tab.put s.tasks.items idx i ∧ t.host = s.host ∧ i.queue = q ∧ i.prio = prio ∧ i.tenant = tenant ∧ i.source = source
      ∧ i.payload = payload ∧ i.holder = none ∧ ∀ x, ctx = some x → i.ctx = x := by
  unfold State.enqueue
  extract_lets count
  rw [if_neg (by simp [hon, hroom, hg]), hfree]
  dsimp only
  have hidle : ∀ s1 : State, ∀ g : QStat → QStat, StatStep s1 (s1.modQ q g).trackIdle := fun s1 g =>
    (s1.modQ_statStep q g).trans (State.trackIdle_statStep _)
  refine ⟨_, _, rfl, (hidle _ _).items, (hidle _ _).host, rfl, rfl, rfl, rfl, rfl, rfl, fun x hx => ?_⟩
  subst hx
  rfl

/-- The entry of a completion with its own result stands at the tail of the command's CQ. -/
theorem State.complete_stands {s : State} {fn tag : Nat} {c : Cmd} (hc : s.cmd? fn tag = some c) (hop : c.opcode ≠ 0x0610) (status result : Nat) :
    ∃ e, Tab.get? (s.complete fn tag status result).host.cqes (ringKey fn 0 c.cq * 4096 + (s.ring (ringKey fn 0 c.cq)).tail) = some e
      ∧ e.tag = tag ∧ e.status = status ∧ e.result = result % 2 ^ 32 := by
  obtain ⟨hfn, htag⟩ := State.fn_tag_of_cmd? hc
  have hres : s.resultOf c fn tag result = result := if_neg (by simp [hop])
  refine ⟨s.cqeOf c status result, ?_, htag, rfl, rfl⟩
  have hstands := (s.postCompletion_stands c status result).1
  rw [hfn] at hstands
  rw [State.complete_eq hc, hres]
  simpa only [State.mapCmds, State.countStatus_host] using hstands

section
variable {fn tag : Nat} {c : Cmd} {s : State}

section
variable (ho : Offered s fn tag 0x0B10 c) (hmay : s.mayTenant fn (c.b 19) true = true)
  (hg : s.gated 12 = false) (hq : c.b 16 < 64) (hp : c.b 17 < 8) (hctx : c.b 18 < 2) (hten : c.b 19 < 16 ∨ c.b 19 = 0xFF)
  (hle : c.le 24 4 ≤ 8192) (hres : c.reservedOk [(16, 6), (24, 4), (32, 8)] = true)

include hq hp hctx hten hle hres in
theorem submit_in_range : ¬ (decide (63 < c.b 16) || decide (7 < c.b 17) || decide (1 < c.b 18) || decide (15 < c.b 19) && decide (c.b 19 ≠ 0xFF)
    || decide (8192 < c.le 24 4) || !(c.reservedOk [(16, 6), (24, 4), (32, 8)])) = true := by
  simp only [hres, Bool.or_eq_true, Bool.and_eq_true, decide_eq_true_eq, Bool.not_true, Bool.false_eq_true, or_false]
  omega

include ho hmay hg hq hp hctx hten hle hres

theorem submit_of_disabled (data : HostData) (hoff : s.qOn (c.b 16) = false) : submit fn tag data s = s.complete fn tag 0x6F := by
  unfold submit
  rw [State.runCmd_of_offered _ ho hmay hg]
  dsimp only
  rw [if_neg (submit_in_range hq hp hctx hten hle hres)]
  exact if_pos (by simp [hoff])

theorem submit_of_enqueued {b : List Byte} {t : State} {idx : Nat} {i : Item} (hon : s.qOn (c.b 16) = true)
    (he : s.enqueue (c.b 16) (c.b 17) (c.b 19) (if c.b 18 = 1 then some (c.le 20 2) else none) 0x0B 0 (slice b 0 (c.le 24 4)) []
      = (some idx, t)) (hi : Tab.get? t.tasks.items idx = some i) :
    submit fn tag (some b) s = t.complete fn tag 0x00 (handleOf idx i) := by
  unfold submit
  rw [State.runCmd_of_offered _ ho hmay hg]
  dsimp only
  rw [if_neg (submit_in_range hq hp hctx hten hle hres), if_neg (by simp [hon])]
  simp only [he, hi]

end

theorem inject_of_fitting (b : List Byte) (ho : Offered s fn tag 0x0B11 c) (hmay : s.mayTenant fn (c.b 16) false = true)
    (hg : s.gated 10 = false) (hten : c.b 16 < 16) (h60 : 60 ≤ c.le 18 2) (hle : c.le 18 2 ≤ 9212)
    (hres : c.reservedOk [(16, 1), (18, 2), (24, 8)] = true) (hu : s.unitStatus .pkt = none) (hin : s.inService .pkt = true) :
    inject fn tag (some b) s = if 256 ≤ (Tab.getD s.fifos 0x1C []).length then s.complete fn tag 0x70
      else (s.ingress 0x1C { bytes := slice b 0 (c.le 18 2), tenant := some (c.b 16) }).complete fn tag 0x00 := by
  unfold inject
  rw [State.runCmd_of_offered _ ho hmay hg]
  dsimp only
  rw [if_neg, hu]
  · exact if_neg (by simp [hin])
  · simp only [hres, Bool.or_eq_true, decide_eq_true_eq, Bool.not_true, Bool.false_eq_true, or_false]
    omega

end

/-- Settles O42: submissions to a queue with room and to a disabled one, and injections into a FIFO with room and into a full one. -/
theorem taskCommands : Obligations.TaskCommands := by
  refine ⟨fun fn tag c b s ho hmay hg hq hp hctx hten hle hres hon hroom hfree => ?_, fun fn tag c b s ho hmay hg hq hp hctx hten hle hres hoff => ?_,
    fun fn tag c b s ho hmay hg hten h60 hle hres hu hin hroom => ?_, fun fn tag c b s ho hmay hg hten h60 hle hres hu hin hfull => ?_⟩
  case refine_1 =>
    obtain ⟨idx, hidx⟩ := Option.ne_none_iff_exists'.mp hfree
    obtain ⟨i, t, he, hitems, hhost, hqi, hpi, hti, hsi, hpay, hhold, hci⟩ := State.enqueue_of_room hon hroom hg hidx (c.b 17) (c.b 19)
      (if c.b 18 = 1 then some (c.le 20 2) else none) 0x0B 0 (slice b 0 (c.le 24 4)) [] none
    have hget : Tab.get? t.tasks.items idx = some i := by rw [hitems, Tab.get?_put_self]
    have hs := submit_of_enqueued ho hmay hg hq hp hctx hten hle hres hon he hget
    have hcmd : t.cmd? fn tag = some c := by rw [State.cmd?, hhost, ← State.cmd?, ho.1]
    have hring : t.ring (ringKey fn 0 c.cq) = s.ring (ringKey fn 0 c.cq) := by rw [State.ring, hhost, State.ring]
    obtain ⟨e, hentry, htag, hstatus, hresult⟩ := State.complete_stands hcmd (by rw [ho.2.1]; decide) 0 (handleOf idx i)
    rw [hring] at hentry
    refine ⟨_, idx, i, congrArg Host.Outcome.next hs, hidx, ?_, hqi, hpi, hti, hsi, hpay, hhold, fun h1 => hci _ (if_pos h1), fun j hj => ?_,
      e, hentry, htag, hstatus, hresult⟩
    · rw [State.complete_tasks, hget]
    · rw [State.complete_tasks, hitems, Tab.get?_put_ne _ _ hj]
  case refine_2 => exact congrArg Host.Outcome.next (submit_of_disabled ho hmay hg hq hp hctx hten hle hres b hoff)
  case refine_3 =>
    have hs := inject_of_fitting b ho hmay hg hten h60 hle hres hu hin
    rw [if_neg (by omega)] at hs
    exact congrArg Host.Outcome.next hs
  case refine_4 =>
    have hs := inject_of_fitting b ho hmay hg hten h60 hle hres hu hin
    rw [if_pos hfull] at hs
    exact congrArg Host.Outcome.next hs

end Sys2Proof.Machine

end

section
/-! PROOFS. The commands of the packet path (11 R310, R315, R318 to R321, R327, R341 to R343). -/

namespace Sys2Proof.Machine

/-! ## Fields of a part of a descriptor -/

theorem slice_getElem (bs : List Byte) (o n i : Nat) (h : i < (slice bs o n).length) : (slice bs o n)[i] = bs.getD (o + i) 0#8 := by
  have hn : i < n := by simpa using h
  obtain hb | hb := Nat.lt_or_ge (o + i) bs.length
  · have hi : i < ((bs.drop o).take n).length := by
      simp only [List.length_take, List.length_drop]
      omega
    simp [slice, List.getElem_append_left hi, hb]
  · have hi : ((bs.drop o).take n).length ≤ i := by
      simp only [List.length_take, List.length_drop]
      omega
    simp [slice, List.getElem_append_right hi, hb]

/-- A part of a part is a part of the whole. -/
theorem slice_slice (bs : List Byte) {o n k m : Nat} (h : k + m ≤ n) : slice (slice bs o n) k m = slice bs (o + k) m := by
  refine List.ext_getElem (by simp) fun i h1 h2 => ?_
  have hi : i < m := by simpa using h1
  have hin : k + i < (slice bs o n).length := by
    rw [slice_length]
    omega
  rw [slice_getElem, slice_getElem, List.getD_eq_getElem _ _ hin, slice_getElem, Nat.add_assoc]

theorem fieldLE_slice (bs : List Byte) {o n k m : Nat} (h : k + m ≤ n) : fieldLE (slice bs o n) k m = fieldLE bs (o + k) m := by
  rw [fieldLE, slice_slice bs h, fieldLE]

theorem slice_one (bs : List Byte) (o : Nat) : slice bs o 1 = [bs.getD o 0#8] := by
  refine List.ext_getElem (by simp) fun i h1 h2 => ?_
  obtain rfl : i = 0 := by simpa using h2
  rw [slice_getElem]
  rfl

theorem fieldLE_one (bs : List Byte) (o : Nat) : fieldLE bs o 1 = (bs.getD o 0#8).toNat := by
  simp [fieldLE, slice_one, leNat]

theorem Cmd.fieldLE_bytes (c : Cmd) {o n k m : Nat} (h : k + m ≤ n) : fieldLE (c.bytes o n) k m = c.le (o + k) m := fieldLE_slice _ h

theorem Cmd.fieldLE_bytes_one (c : Cmd) {o n k : Nat} (h : k + 1 ≤ n) : fieldLE (c.bytes o n) k 1 = c.b (o + k) := by
  rw [Cmd.fieldLE_bytes c h, Cmd.le, fieldLE_one, Cmd.b]

theorem Cmd.slice_bytes (c : Cmd) {o n k m : Nat} (h : k + m ≤ n) : slice (c.bytes o n) k m = c.bytes (o + k) m := slice_slice _ h

theorem routeFields_eq (c : Cmd) : routeFields (c.bytes 16 24)
    = (c.b 16, bitOf (c.b 17) 0, c.b 18, beNat (c.bytes 24 (if bitOf (c.b 17) 0 = true then 16 else 4))) := by
  have hpre : slice (c.bytes 16 24) 8 (if bitOf (c.b 17) 0 = true then 16 else 4)
      = c.bytes 24 (if bitOf (c.b 17) 0 = true then 16 else 4) := Cmd.slice_bytes c (by split <;> omega)
  simp only [routeFields, Cmd.fieldLE_bytes_one c (show 0 + 1 ≤ 24 by omega), Cmd.fieldLE_bytes_one c (show 1 + 1 ≤ 24 by omega),
    Cmd.fieldLE_bytes_one c (show 2 + 1 ≤ 24 by omega), hpre]

theorem rangeFieldsOk_eq (c : Cmd) : rangeFieldsOk (c.bytes 16 6)
    = (decide (c.b 16 < 64) && (c.b 17 == 0xFF || (decide (c.b 17 ≤ 5) && decide (c.le 18 2 ≤ c.le 20 2)))) := by
  simp only [rangeFieldsOk, Cmd.fieldLE_bytes_one c (show 0 + 1 ≤ 6 by omega), Cmd.fieldLE_bytes_one c (show 1 + 1 ≤ 6 by omega),
    Cmd.fieldLE_bytes c (show 2 + 2 ≤ 6 by omega), Cmd.fieldLE_bytes c (show 4 + 2 ≤ 6 by omega)]

theorem fdbOf_type (c : Cmd) : (fdbOf (c.bytes 16 14)).type = c.b 24 := Cmd.fieldLE_bytes_one c (by omega)

/-! ## The common checks -/

section
variable {s : State} {tag op : Nat} {c : Cmd} {fits ok : Cmd → Bool}

theorem State.pktCmd_of_offered (act : Cmd → State → State) (ho : Offered s 0 tag op c) (hg : s.gated 10 = false)
    (hu : s.unitStatus .pkt = none) (hfits : fits c = true) (hok : ok c = true) : s.pktCmd 0 tag op fits ok act = act c s := by
  unfold State.pktCmd
  rw [State.runCmd_of_offered _ ho (byPF_of_offered ho) hg]
  simp [hfits, hok, hu]

theorem State.pktCmd_of_refusing {st : Nat} (act : Cmd → State → State) (ho : Offered s 0 tag op c) (hg : s.gated 10 = false)
    (hu : s.unitStatus .pkt = some st) (hfits : fits c = true) (hok : ok c = true) :
    s.pktCmd 0 tag op fits ok act = (s.refuseAt (.func 0)).complete 0 tag st := by
  unfold State.pktCmd
  rw [State.runCmd_of_offered _ ho (byPF_of_offered ho) hg]
  simp [hfits, hok, hu]

end

/-! ## The effect of each command -/

section
variable {s : State} {tag : Nat} {c : Cmd}

theorem ruleWrite_of_ok {e : List Byte} (ho : Offered s 0 tag 0x0910 c) (hg : s.gated 10 = false) (hu : s.unitStatus .pkt = none)
    (hi : c.le 16 2 < 8192) (hb : c.b 18 = 0) (hr : c.reservedOk [(16, 3), (24, 8)] = true) (he : ruleOk e = true) :
    ruleWrite 0 tag (some e) s = if ruleRefs s.pkt.nextHops s.pkt.ranges e = true
      then if s.ruleForeign (c.le 16 2) e = true then s.complete 0 tag 0x09
        else (s.modPkt fun p => { p with rules := Tab.put p.rules (c.le 16 2) e }).complete 0 tag 0
      else s.complete 0 tag 0x60 := by
  unfold ruleWrite
  rw [State.pktCmd_of_offered _ ho hg hu (by simp [hb, bitOf]) (by simp [hi, hb, hr])]
  dsimp only
  cases ruleRefs s.pkt.nextHops s.pkt.ranges e <;> simp [he]

theorem ruleClear_of_ok (ho : Offered s 0 tag 0x0910 c) (hg : s.gated 10 = false) (hu : s.unitStatus .pkt = none)
    (hi : c.le 16 2 < 8192) (hb : c.b 18 = 1) (hr : c.reservedOk [(16, 3), (24, 8)] = true) :
    ruleClear 0 tag s = if Tab.has s.pkt.rules (c.le 16 2) = true
      then (s.modPkt fun p => { p with rules := Tab.del p.rules (c.le 16 2) }).complete 0 tag 0 else s.complete 0 tag 0x5E := by
  unfold ruleClear
  rw [State.pktCmd_of_offered _ ho hg hu (by simp [hb, bitOf]) (by simp [hi, hb, hr])]
  cases Tab.has s.pkt.rules (c.le 16 2) <;> rfl

/-- The key of the route that a PKT_ROUTE names. -/
def Cmd.route (c : Cmd) : Nat :=
  routeKey (c.b 16) (bitOf (c.b 17) 0) (c.b 18) (beNat (c.bytes 24 (if bitOf (c.b 17) 0 = true then 16 else 4)))

theorem routeAdd_of_hops (ho : Offered s 0 tag 0x0911 c) (hg : s.gated 10 = false) (hu : s.unitStatus .pkt = none)
    (hb : bitOf (c.b 17) 1 = false) (hok : routeOk (c.bytes 16 24) = true) (h1 : 1 ≤ c.b 19) (h16 : c.b 19 ≤ 16)
    (hle : c.le 20 2 + c.b 19 ≤ 16384) (hr : c.reservedOk [(16, 6), (24, 16)] = true)
    (hhas : ∀ i, c.le 20 2 ≤ i → i < c.le 20 2 + c.b 19 → Tab.has s.pkt.nextHops i = true)
    (hown : ∀ i, c.le 20 2 ≤ i → i < c.le 20 2 + c.b 19 → s.foreignHop (c.b 16) i = false) (hroom : s.lpmUsed + 2 ≤ 262144) :
    routeAdd 0 tag s = (s.modPkt fun p => { p with routes := Tab.put p.routes c.route ⟨c.le 20 2, c.b 19⟩ }).complete 0 tag 0 := by
  unfold routeAdd
  rw [State.pktCmd_of_offered _ ho hg hu (by simp [hb]) (by simp [hok, h1, h16, hle, hr]), routeFields_eq]
  have hmiss : ((List.range (c.b 19)).map (c.le 20 2 + ·)).any (fun i => !Tab.has s.pkt.nextHops i) = false := by
    simp only [List.any_map, List.any_eq_false, List.mem_range, Function.comp_apply]
    intro i hi
    simp [hhas (c.le 20 2 + i) (by omega) (by omega)]
  have hforeign : ((List.range (c.b 19)).map (c.le 20 2 + ·)).any (s.foreignHop (c.b 16)) = false := by
    simp only [List.any_map, List.any_eq_false, List.mem_range, Function.comp_apply]
    intro i hi
    simp [hown (c.le 20 2 + i) (by omega) (by omega)]
  have hfull : decide (262144 < s.lpmUsed + 1 + b2n (bitOf (c.b 17) 0)) = false := by
    rw [decide_eq_false_iff_not, b2n]
    split <;> omega
  dsimp only
  rw [hmiss, hforeign, hfull, Bool.and_false]
  rfl

theorem routeDelete_of_ok (ho : Offered s 0 tag 0x0911 c) (hg : s.gated 10 = false) (hu : s.unitStatus .pkt = none)
    (hb : bitOf (c.b 17) 1 = true) (hok : routeOk (c.bytes 16 24) = true) (hr : c.reservedOk [(16, 6), (24, 16)] = true) :
    routeDelete 0 tag s = if Tab.has s.pkt.routes c.route = true
      then (s.modPkt fun p => { p with routes := Tab.del p.routes c.route }).complete 0 tag 0 else s.complete 0 tag 0x5E := by
  unfold routeDelete
  rw [State.pktCmd_of_offered _ ho hg hu hb (by simp [hok, hr]), routeFields_eq]
  change (if (!Tab.has s.pkt.routes c.route) = true then _ else _) = _
  cases Tab.has s.pkt.routes c.route <;> rfl

theorem nextHopWrite_of_ok (ho : Offered s 0 tag 0x0912 c) (hg : s.gated 10 = false) (hu : s.unitStatus .pkt = none)
    (hb : c.b 36 = 0) (hok : hopOk (c.bytes 16 20) = true) (hr : c.reservedOk [(16, 21)] = true)
    (hown : s.hopForeign (c.le 16 2) (hopOf (c.bytes 16 20)) = false) :
    nextHopWrite 0 tag s = if hopRefs s.pkt.tunnels (hopOf (c.bytes 16 20)) = true
      then (s.modPkt fun p => { p with nextHops := Tab.put p.nextHops (c.le 16 2) (hopOf (c.bytes 16 20)) }).complete 0 tag 0
      else s.complete 0 tag 0x60 := by
  unfold nextHopWrite
  rw [State.pktCmd_of_offered _ ho hg hu (by simp [hb, bitOf]) (by simp [hok, hb, hr])]
  dsimp only
  cases hopRefs s.pkt.tunnels (hopOf (c.bytes 16 20)) <;> simp [hown]

theorem nextHopDelete_of_ok (ho : Offered s 0 tag 0x0912 c) (hg : s.gated 10 = false) (hu : s.unitStatus .pkt = none)
    (hb : c.b 36 = 1) (hi : c.le 16 2 < 16384) (hr : c.reservedOk [(16, 21)] = true) :
    nextHopDelete 0 tag s = if Tab.has s.pkt.nextHops (c.le 16 2) = false then s.complete 0 tag 0x5E
      else if s.hopInUse (c.le 16 2) = true then s.complete 0 tag 0x5F
      else (s.modPkt fun p => { p with nextHops := Tab.del p.nextHops (c.le 16 2) }).complete 0 tag 0 := by
  unfold nextHopDelete
  rw [State.pktCmd_of_offered _ ho hg hu (by simp [hb, bitOf]) (by simp [hi, hb, hr])]
  dsimp only
  cases Tab.has s.pkt.nextHops (c.le 16 2) <;> rfl

theorem fdbWrite_of_room (ho : Offered s 0 tag 0x0913 c) (hg : s.gated 10 = false) (hu : s.unitStatus .pkt = none)
    (hb : c.b 17 = 0) (hok : fdbOk (c.bytes 16 14) = true) (hr : c.reservedOk [(16, 14)] = true) (hty : c.b 24 ≠ 2)
    (href : fdbRefs s.pkt.tunnels (fdbOf (c.bytes 16 14)) = true) (hroom : s.fdbFull (fdbKey (c.b 16) (c.bytes 18 6)) = false) :
    fdbWrite 0 tag s = (s.modPkt fun p =>
      { p with fdb := Tab.put p.fdb (fdbKey (c.b 16) (c.bytes 18 6)) (fdbOf (c.bytes 16 14)) }).complete 0 tag 0 := by
  unfold fdbWrite
  rw [State.pktCmd_of_offered _ ho hg hu (by simp [hb, bitOf]) (by simp [hok, hb, hr])]
  simp [href, fdbOf_type, hty, hroom]

theorem fdbDelete_of_ok (ho : Offered s 0 tag 0x0913 c) (hg : s.gated 10 = false) (hu : s.unitStatus .pkt = none)
    (hb : c.b 17 = 1) (ht : c.b 16 < 16) (hgrp : isGroup (c.bytes 18 6) = false) (hr : c.reservedOk [(16, 14)] = true) :
    fdbDelete 0 tag s = if Tab.has s.pkt.fdb (fdbKey (c.b 16) (c.bytes 18 6)) = true
      then (s.modPkt fun p => { p with fdb := Tab.del p.fdb (fdbKey (c.b 16) (c.bytes 18 6)) }).complete 0 tag 0
      else s.complete 0 tag 0x5E := by
  unfold fdbDelete
  rw [State.pktCmd_of_offered _ ho hg hu (by simp [hb, bitOf]) (by simp [ht, hb, hgrp, hr])]
  dsimp only
  cases Tab.has s.pkt.fdb (fdbKey (c.b 16) (c.bytes 18 6)) <;> rfl

theorem flowAdd_of_room (ho : Offered s 0 tag 0x0914 c) (hg : s.gated 10 = false) (hu : s.unitStatus .pkt = none)
    (hb : bitOf (c.b 17) 1 = false) (hok : flowOk (c.bytes 16 42) = true) (hr : c.reservedOk [(16, 3), (20, 38)] = true)
    (hroom : s.flowFull (flowKeyOf (c.bytes 16 42)) = false) :
    flowAdd 0 tag s = if (s.rule (c.le 56 2)).isNone = true then s.complete 0 tag 0x60
      else if (s.rule (c.le 56 2)).any (fun e => fieldLE e 0x83 1 == 3 && s.foreignHop (c.b 16) (fieldLE e 0x8C 2)) = true
        then s.complete 0 tag 0x09
      else (s.modPkt fun p =>
        { p with flows := Tab.put p.flows (flowKeyOf (c.bytes 16 42)) ⟨c.le 56 2, bitOf (c.b 17) 2, s.elapsed⟩ }).complete 0 tag 0 := by
  unfold flowAdd
  rw [State.pktCmd_of_offered _ ho hg hu (by simp [hb]) (by simp [hok, hr])]
  simp [hroom]

theorem flowDelete_of_ok (ho : Offered s 0 tag 0x0914 c) (hg : s.gated 10 = false) (hu : s.unitStatus .pkt = none)
    (hb : bitOf (c.b 17) 1 = true) (hok : flowOk (c.bytes 16 42) = true) (hr : c.reservedOk [(16, 3), (20, 38)] = true) :
    flowDelete 0 tag s = if Tab.has s.pkt.flows (flowKeyOf (c.bytes 16 42)) = true
      then (s.modPkt fun p => { p with flows := Tab.del p.flows (flowKeyOf (c.bytes 16 42)) }).complete 0 tag 0
      else s.complete 0 tag 0x5E := by
  unfold flowDelete
  rw [State.pktCmd_of_offered _ ho hg hu hb (by simp [hok, hr])]
  dsimp only
  cases Tab.has s.pkt.flows (flowKeyOf (c.bytes 16 42)) <;> rfl

theorem rangeSet_of_ok (ho : Offered s 0 tag 0x0915 c) (hg : s.gated 10 = false) (hu : s.unitStatus .pkt = none)
    (hi : c.b 16 < 64) (hf : c.b 17 ≤ 5) (hle : c.le 18 2 ≤ c.le 20 2) (hr : c.reservedOk [(16, 6)] = true) :
    rangeSet 0 tag s =
      (s.modPkt fun p => { p with ranges := Tab.put p.ranges (c.b 16) ⟨c.b 17, c.le 18 2, c.le 20 2⟩ }).complete 0 tag 0 := by
  unfold rangeSet
  rw [State.pktCmd_of_offered _ ho hg hu (by simpa using (show c.b 17 ≠ 0xFF by omega)) (by simp [rangeFieldsOk_eq, hi, hf, hle, hr])]

theorem rangeDisable_of_ok (ho : Offered s 0 tag 0x0915 c) (hg : s.gated 10 = false) (hu : s.unitStatus .pkt = none)
    (hi : c.b 16 < 64) (hf : c.b 17 = 0xFF) (hr : c.reservedOk [(16, 6)] = true) :
    rangeDisable 0 tag s = (s.modPkt fun p => { p with ranges := Tab.del p.ranges (c.b 16) }).complete 0 tag 0 := by
  unfold rangeDisable
  rw [State.pktCmd_of_offered _ ho hg hu (by simp [hf]) (by simp [rangeFieldsOk_eq, hi, hf, hr])]

theorem tunnelWrite_of_ok {t : List Byte} (ho : Offered s 0 tag 0x0916 c) (hg : s.gated 10 = false) (hu : s.unitStatus .pkt = none)
    (hi : c.le 16 2 < 1024) (hb : c.b 18 = 0) (hr : c.reservedOk [(16, 3), (24, 8)] = true) :
    tunnelWrite 0 tag (some t) s = if tunnelOk t = true
      then (s.modPkt fun p => { p with tunnels := Tab.put p.tunnels (c.le 16 2) t }).complete 0 tag 0 else s.complete 0 tag 0x02 := by
  unfold tunnelWrite
  rw [State.pktCmd_of_offered _ ho hg hu (by simp [hb, bitOf]) (by simp [hi, hb, hr])]
  dsimp only
  cases tunnelOk t <;> rfl

theorem tunnelClear_of_ok (ho : Offered s 0 tag 0x0916 c) (hg : s.gated 10 = false) (hu : s.unitStatus .pkt = none)
    (hi : c.le 16 2 < 1024) (hb : c.b 18 = 1) (hr : c.reservedOk [(16, 3), (24, 8)] = true) :
    tunnelClear 0 tag s = if Tab.has s.pkt.tunnels (c.le 16 2) = false then s.complete 0 tag 0x5E
      else if s.tunnelInUse (c.le 16 2) = true then s.complete 0 tag 0x5F
      else (s.modPkt fun p => { p with tunnels := Tab.del p.tunnels (c.le 16 2) }).complete 0 tag 0 := by
  unfold tunnelClear
  rw [State.pktCmd_of_offered _ ho hg hu (by simp [hb, bitOf]) (by simp [hi, hb, hr])]
  cases Tab.has s.pkt.tunnels (c.le 16 2) <;> rfl

theorem policerWrite_of_ok (ho : Offered s 0 tag 0x0917 c) (hg : s.gated 10 = false) (hu : s.unitStatus .pkt = none)
    (hok : policerOk (c.bytes 16 21) = true) (hr : c.reservedOk [(16, 21)] = true) :
    policerWrite 0 tag s = match s.stageStatus 19 with
      | some st => s.complete 0 tag st
      | none => (s.modPkt fun p =>
        { p with policersStaged := Tab.put p.policersStaged (c.le 16 2) (policerOf (c.bytes 16 21)) }).complete 0 tag 0 := by
  refine (State.pktCmd_of_offered _ ho hg hu rfl (by simp [hok, hr])).trans ?_
  cases s.stageStatus 19 <;> rfl

end

/-- Settles O55: one lemma per command, over the checks they share. -/
theorem packetCommands : Obligations.PacketCommands := by
  refine ⟨fun tag c e s ho hg hu hi hb hr he => ?_, fun tag c s ho hg hu hi hb hr => ?_,
    fun tag k c s ho hg hu hb hok h1 h16 hle hr hhas hown hroom hk => ?_, fun tag k c s ho hg hu hb hok hr hk => ?_,
    fun tag c s ho hg hu hb hok hr hown => ?_, fun tag c s ho hg hu hb hi hr => ?_,
    fun tag c s ho hg hu hb hok hr hty href hroom => ?_, fun tag c s ho hg hu hb ht hgrp hr => ?_,
    fun tag c s ho hg hu hb hok hr hroom => ?_, fun tag c s ho hg hu hb hok hr => ?_,
    fun tag c s ho hg hu hi hf hle hr => ?_, fun tag c s ho hg hu hi hf hr => ?_,
    fun tag c t s ho hg hu hi hb hr => ?_, fun tag c s ho hg hu hi hb hr => ?_, fun tag c s ho hg hu hok hr => ?_,
    fun tag st c d s ho hg hu hi hb hr => ?_⟩
  case refine_1 => exact congrArg Host.Outcome.next (ruleWrite_of_ok ho hg hu hi hb hr he)
  case refine_2 => exact congrArg Host.Outcome.next (ruleClear_of_ok ho hg hu hi hb hr)
  case refine_3 =>
    subst hk
    refine ⟨_, congrArg Host.Outcome.next (routeAdd_of_hops ho hg hu hb hok h1 h16 hle hr hhas hown hroom), ?_, fun j hj => ?_, ?_, ?_⟩
    · rw [State.complete_pkt]
      exact Tab.get?_put_self ..
    · rw [State.complete_pkt]
      exact Tab.get?_put_ne _ _ hj
    · rw [State.complete_pkt]
      rfl
    · rw [State.cmd?_complete]
      rfl
  case refine_4 =>
    subst hk
    have hrun := routeDelete_of_ok ho hg hu hb hok hr
    by_cases hhas : Tab.has s.pkt.routes c.route = true
    · rw [if_pos hhas] at hrun
      refine ⟨_, congrArg Host.Outcome.next hrun, ?_, fun j hj => ?_, ?_, ?_⟩
      · rw [State.complete_pkt]
        exact Tab.get?_del_self ..
      · rw [State.complete_pkt]
        exact Tab.get?_del_ne _ hj
      · rw [State.complete_pkt]
        rfl
      · rw [State.cmd?_complete]
        rfl
    · rw [if_neg hhas] at hrun
      refine ⟨_, congrArg Host.Outcome.next hrun, ?_, fun j hj => ?_, ?_, ?_⟩
      · rw [State.complete_pkt]
        simpa [Tab.has, Cmd.route] using hhas
      · rw [State.complete_pkt]
      · rw [State.complete_pkt]
      · rw [State.cmd?_complete]
        rfl
  case refine_5 => exact congrArg Host.Outcome.next (nextHopWrite_of_ok ho hg hu hb hok hr hown)
  case refine_6 => exact congrArg Host.Outcome.next (nextHopDelete_of_ok ho hg hu hb hi hr)
  case refine_7 => exact congrArg Host.Outcome.next (fdbWrite_of_room ho hg hu hb hok hr hty href hroom)
  case refine_8 => exact congrArg Host.Outcome.next (fdbDelete_of_ok ho hg hu hb ht hgrp hr)
  case refine_9 => exact congrArg Host.Outcome.next (flowAdd_of_room ho hg hu hb hok hr hroom)
  case refine_10 => exact congrArg Host.Outcome.next (flowDelete_of_ok ho hg hu hb hok hr)
  case refine_11 => exact congrArg Host.Outcome.next (rangeSet_of_ok ho hg hu hi hf hle hr)
  case refine_12 => exact congrArg Host.Outcome.next (rangeDisable_of_ok ho hg hu hi hf hr)
  case refine_13 => exact congrArg Host.Outcome.next (tunnelWrite_of_ok ho hg hu hi hb hr)
  case refine_14 => exact congrArg Host.Outcome.next (tunnelClear_of_ok ho hg hu hi hb hr)
  case refine_15 =>
    have hrun := policerWrite_of_ok ho hg hu hok hr
    cases hst : s.stageStatus 19 with
    | some st => exact congrArg Host.Outcome.next (hrun.trans (by rw [hst]))
    | none => exact congrArg Host.Outcome.next (hrun.trans (by rw [hst]; rfl))
  case refine_16 =>
    exact congrArg Host.Outcome.next (State.pktCmd_of_refusing _ ho hg hu (by simp [hb, bitOf]) (by simp [hi, hb, hr]))

end Sys2Proof.Machine

end

section
/-! PROOFS. The pipelines of the packet path (11 R301, R308, R309, R312, R318, R321, R339). -/

namespace Sys2Proof.Machine

/-! ## What a frame's passage leaves alone -/

/-- What no passage of a frame through a pipeline touches: the source FIFOs once its frame is taken, the commands, the ports, the tables
that only commands write, and when each pipeline last took a frame. -/
def State.settled (s : State) : Tab (List SrcFrame) × List Cmd × EthSt × Tab (List Byte) × Tab PktRoute × Tab NextHop × Tab RangeCmp
    × Tab (List Byte) × Tab Policer × Tab Nat :=
  (s.fifos, s.host.cmds, s.eth, s.pkt.rules, s.pkt.routes, s.pkt.nextHops, s.pkt.ranges, s.pkt.tunnels, s.pkt.policers, s.pkt.piped)

theorem TasksOnly.settled {s t : State} : TasksOnly s t → t.settled = s.settled := by
  rintro ⟨_, rfl⟩
  rfl

theorem EventEffect.settled {s t : State} : EventEffect s t → t.settled = s.settled := by
  rintro ⟨_, _, _, _, _, _, _, _, rfl⟩
  rfl

theorem State.ite_settled {c : Prop} [Decidable c] {a b s : State} (ha : a.settled = s.settled) (hb : b.settled = s.settled) :
    (if c then a else b).settled = s.settled := by
  split
  · exact ha
  · exact hb

theorem State.foldl_settled {ι : Type} {l : List ι} {g : State → ι → State} (hg : ∀ s i, (g s i).settled = s.settled) (s : State) :
    (l.foldl g s).settled = s.settled :=
  State.foldl_inv (fun t => t.settled = s.settled) l g (fun t i h => (hg t i).trans h) s rfl

section
variable (s : State)

theorem State.inc_settled (f : FieldRef) : (s.inc f).settled = s.settled := (s.inc_eventEffect f).settled

theorem State.dropFull_settled (q : Nat) : (s.dropFull q).settled = s.settled := s.inc_settled _

theorem State.exceptionDrop_settled (q : Nat) : (s.exceptionDrop q).settled = s.settled :=
  State.ite_settled (s.inc_settled _) (s.dropFull_settled q)

theorem State.toTask_settled (x : PktCtx) (reason q prio : Nat) : (s.toTask x reason q prio).settled = s.settled := by
  have h := (s.enqueue_tasksOnly q prio x.tenant none 0x09 reason x.bytes ((parse x.bytes).key x.tenant) none).settled
  exact State.ite_settled ((State.exceptionDrop_settled ..).trans h) h

theorem State.watch_settled (qid : Nat) (f : Watch → Watch) : (s.watch qid f).settled = s.settled :=
  State.foldl_settled (fun _ _ => by
    dsimp only
    split <;> rfl) s

theorem State.watchDrop_settled (qid : Nat) : (s.watchDrop qid).settled = s.settled := s.watch_settled ..

theorem State.watchDepth_settled (qid : Nat) : (s.watchDepth qid).settled = s.settled := by
  unfold State.watchDepth
  exact s.watch_settled ..

/-- A drop that is counted in a field and in the queue's watch slots. -/
theorem State.inc_watchDrop_settled (f : FieldRef) (qid : Nat) : ((s.inc f).watchDrop qid).settled = s.settled :=
  (State.watchDrop_settled ..).trans (s.inc_settled f)

theorem State.place_settled (sram n : Nat) (spilled : Bool) : (s.place sram n spilled).2.settled = s.settled := by
  unfold State.place
  dsimp only
  split
  · split
    · exact s.inc_settled _
    · rfl
  split
  · exact s.inc_settled _
  · rfl

theorem State.pushWireless_settled (f : Frame) : (s.pushWireless f).settled = s.settled := by
  unfold State.pushWireless
  extract_lets n mine used sram
  refine State.ite_settled (s.inc_watchDrop_settled ..) (State.ite_settled (s.inc_watchDrop_settled ..) ?_)
  have hplace := s.place_settled sram n (mine.any fun e => e.2.dram != 0)
  dsimp only
  split
  · exact (State.watchDrop_settled ..).trans hplace
  · exact (State.watchDepth_settled ..).trans hplace

theorem State.toStation_settled (x : PktCtx) (sid up : Nat) (msdu : List Byte) : (s.toStation x sid up msdu).settled = s.settled := by
  unfold State.toStation
  dsimp only
  split
  · exact s.inc_watchDrop_settled ..
  · exact State.ite_settled (s.inc_watchDrop_settled ..)
      (State.ite_settled (s.inc_watchDrop_settled ..) (s.pushWireless_settled _))

theorem State.pushWired_settled (sub q : Nat) (f : WireFrame) : (s.pushWired sub q f).settled = s.settled := by
  unfold State.pushWired
  extract_lets key l
  refine State.ite_settled (s.inc_watchDrop_settled ..) (State.ite_settled (s.inc_watchDrop_settled ..) ?_)
  have hplace := s.place_settled (((l.filter (fun f => f.dram == 0)).map (·.len)).sum) f.len (l.any fun f => f.dram != 0)
  dsimp only
  split
  · exact (State.watchDrop_settled ..).trans hplace
  · exact (State.watchDepth_settled ..).trans hplace

theorem State.refill_settled (k : Nat) : (s.refill k).2.settled = s.settled := by
  unfold State.refill
  dsimp only
  split
  · rfl
  split <;> rfl

theorem State.meter_settled (k n : Nat) : (s.meter k n).2.settled = s.settled := by
  have h := s.refill_settled k
  unfold State.meter
  dsimp only
  split
  · rfl
  split
  · split
    · exact h
    split <;> exact h
  split
  · exact h
  split <;> exact h

theorem State.police_settled (x : PktCtx) : (s.police x).2.settled = s.settled := by
  have h := s.meter_settled (fieldLE x.act 0xE 2) (x.bytes.length + 4)
  unfold State.police
  dsimp only
  split
  · rfl
  split
  · exact h
  split
  · exact h
  split <;> exact h

theorem State.sendCopy_settled (x : PktCtx) (routed : Bool) (yellow : Option Nat) (d : Dest) :
    (s.sendCopy x routed yellow d).settled = s.settled := by
  cases d with
  | task q prio reason => exact s.toTask_settled ..
  | station sid => exact s.toStation_settled ..
  | group r bss => exact s.pushWireless_settled _
  | mesh macs => rfl
  | wired sub tun macs =>
    exact State.ite_settled (State.ite_settled (s.toTask_settled ..) (s.inc_settled _)) (s.pushWired_settled ..)

theorem State.deliver_settled (x : PktCtx) (routed : Bool) (ds : List Dest) : (s.deliver x routed ds).settled = s.settled := by
  unfold State.deliver
  refine State.ite_settled rfl ?_
  have h := s.police_settled x
  split <;> rename_i heq <;> rw [heq] at h
  · exact (State.inc_settled ..).trans h
  · exact (State.foldl_settled (fun t d => t.sendCopy_settled ..) _).trans h

/-- A drop that is counted, but for the copies of the rule. -/
theorem State.inc_deliver_settled (f : FieldRef) (x : PktCtx) (routed : Bool) (ds : List Dest) :
    ((s.inc f).deliver x routed ds).settled = s.settled := (State.deliver_settled ..).trans (s.inc_settled f)

theorem State.viaNextHop_settled (x : PktCtx) (routed mtu : Bool) (h : Option NextHop) :
    (s.viaNextHop x routed mtu h).settled = s.settled := by
  unfold State.viaNextHop
  refine State.ite_settled (s.deliver_settled ..) ?_
  cases h with
  | none => exact s.inc_deliver_settled ..
  | some h =>
    refine State.ite_settled (s.deliver_settled ..) ?_
    split
    · exact s.inc_deliver_settled ..
    · exact s.deliver_settled ..

theorem State.routeFound_settled (x : PktCtx) (r : Option PktRoute) : (s.routeFound x r).settled = s.settled := by
  cases r with
  | some r => exact s.viaNextHop_settled ..
  | none => exact State.ite_settled (s.deliver_settled ..) (s.inc_deliver_settled ..)

theorem State.learn_settled (x : PktCtx) : (s.learn x).settled = s.settled := by
  unfold State.learn
  split
  · rfl
  extract_lets sa k put
  refine State.ite_settled rfl ?_
  split
  · exact State.ite_settled rfl rfl
  · exact State.ite_settled (s.inc_settled _) rfl

theorem State.classify_settled (src tenant : Nat) (bs : List Byte) (vxlan : Bool) (up : Nat) :
    (s.classify src tenant bs vxlan up).2.settled = s.settled := by
  unfold State.classify
  dsimp only
  split
  · rfl
  split <;> rfl

theorem State.forward_settled (x : PktCtx) : (s.forward x).settled = s.settled := by
  have h := s.learn_settled x
  unfold State.forward
  extract_lets p fwd t toRouter en routed t1
  refine State.ite_settled (s.inc_settled _) ?_
  refine State.ite_settled ((State.deliver_settled ..).trans h) (State.ite_settled ((State.viaNextHop_settled ..).trans h) ?_)
  refine State.ite_settled (State.ite_settled h ((State.routeFound_settled ..).trans h)) ?_
  exact State.ite_settled ((State.deliver_settled ..).trans (State.ite_settled ((State.inc_settled ..).trans h) h))
    ((State.deliver_settled ..).trans h)

/-- With nothing to bridge the drain sends the summaries at most. -/
theorem State.drainUp_settled (h : s.mesh.up = []) : s.drainUp.settled = s.settled := by
  unfold State.drainUp
  rw [h]
  refine State.ite_settled rfl ?_
  extract_lets n s1 sums payload
  have h1 : s1.settled = s.settled := by
    simp only [s1, List.take_nil, List.foldl_nil]
    rfl
  refine State.ite_settled h1 ?_
  have henq := ((s1.modMesh fun m => { m with summaries := [] }).enqueue_tasksOnly macQueue macPrio 0xFF none 0x08 0x01 payload [] none).settled
  exact (State.postEvent_eventEffect ..).settled.trans
    ((State.ite_settled ((State.dropFull_settled ..).trans henq) henq).trans h1)

end


/-! ## A pipeline that takes a frame -/

/-- A source's first frame is taken by its pipeline. -/
def State.taken (s : State) (src : Nat) (rest : List SrcFrame) : State :=
  { s with fifos := Tab.put s.fifos src rest, pkt := { s.pkt with piped := Tab.put s.pkt.piped (pipeOf src) s.elapsed } }

/-- What becomes of a frame that a pipeline has taken. -/
def State.pipelined (s : State) (src : Nat) (f : SrcFrame) : State :=
  match s.tenantOf src f with
  | (none, _, _) => s.inc (pktCnt 0 true)
  | (some t, bs, vx) =>
    let p := parse bs
    let up := keyUp src f p
    let x0 : PktCtx := { src := src, tenant := t, bytes := bs, up := up, act := List.replicate 32 0, bss := f.bss }
    if f.noLlc then s.toTask x0 0x07 0 1
    else (s.classify src t bs vx up).2.forward { x0 with act := (s.classify src t bs vx up).1 }

theorem State.pipelined_settled (s : State) (src : Nat) (f : SrcFrame) : (s.pipelined src f).settled = s.settled := by
  unfold State.pipelined
  split
  · exact s.inc_settled _
  · exact State.ite_settled (s.toTask_settled ..) ((State.forward_settled ..).trans (s.classify_settled ..))

section
variable {s : State} {src : Nat} {f : SrcFrame} {rest : List SrcFrame}

theorem pipeline_of_ready (hf : Tab.getD s.fifos src [] = f :: rest) (hserv : s.inService .pkt = true) (hstop : s.stopped 10 = false)
    (hlpm : Tab.has s.pkt.lpm src = false) (hfree : s.pipeFree (pipeOf src) = true) (hy : s.pipeYields src = false) :
    pipeline src s = (if src = 0x18 then (s.taken src rest).drainUp else s.taken src rest).pipelined src f := by
  unfold pipeline
  rw [hf]
  dsimp only
  rw [if_neg (by simp [hserv, hstop, hlpm, hfree, hy])]
  rfl

theorem pipeline_of_waiting (h : Tab.getD s.fifos src [] = [] ∨ s.inService .pkt = false ∨ s.stopped 10 = true
    ∨ Tab.has s.pkt.lpm src = true ∨ s.pipeFree (pipeOf src) = false) : pipeline src s = s := by
  unfold pipeline
  split
  · rfl
  · next f rest hf =>
    refine if_pos ?_
    obtain h | h | h | h | h := h
    · rw [hf] at h
      exact absurd h (List.cons_ne_nil _ _)
    all_goals simp [h]

theorem State.pipeFree_of_recent {k at_ : Nat} (h : Tab.get? s.pkt.piped k = some at_) (hlt : s.elapsed < at_ + 2) :
    s.pipeFree k = false := by
  simp only [State.pipeFree, h, decide_eq_false_iff_not]
  omega

/-- Only pipeline 1 waits for the other. -/
theorem State.pipeYields_of_first (h : pipeOf src = 0) : s.pipeYields src = false := by
  simp [State.pipeYields, h]

end

/-! ## The classification key -/

/-- The parser's layer 4 ports have two bytes and its addresses sixteen. -/
def ParsedSized (p : Parsed) : Prop := p.src.length = 16 ∧ p.dst.length = 16 ∧ p.l4src.length = 2 ∧ p.l4dst.length = 2

theorem ParsedSized.ite {c : Prop} [Decidable c] {p q : Parsed} (hp : ParsedSized p) (hq : ParsedSized q) :
    ParsedSized (if c then p else q) := by
  split
  · exact hp
  · exact hq

theorem parseL4_sized (bs : List Byte) {p : Parsed} (o proto : Nat) (h : ParsedSized p) : ParsedSized (parseL4 bs p o proto) := by
  obtain ⟨hs, hd, h4s, h4d⟩ := h
  exact .ite ⟨hs, hd, h4s, h4d⟩ (.ite (.ite ⟨hs, hd, h4s, h4d⟩ ⟨hs, hd, slice_length .., slice_length ..⟩)
    (.ite (.ite ⟨hs, hd, h4s, h4d⟩ ⟨hs, hd, slice_length .., slice_length ..⟩)
      (.ite (.ite ⟨hs, hd, h4s, h4d⟩ ⟨hs, hd, slice_length .., h4d⟩) ⟨hs, hd, h4s, h4d⟩)))

theorem parseL3_sized (bs : List Byte) {p : Parsed} (o : Nat) (h : ParsedSized p) : ParsedSized (parseL3 bs p o) := by
  obtain ⟨hs, hd, h4s, h4d⟩ := h
  have hv4 (k : Nat) : (slice bs k 4 ++ List.replicate 12 0#8).length = 16 := by simp
  exact .ite (.ite ⟨hs, hd, h4s, h4d⟩ ⟨hs, hd, h4s, h4d⟩)
    (.ite (.ite ⟨hs, hd, h4s, h4d⟩ (.ite (parseL4_sized bs _ _ ⟨hv4 _, hv4 _, h4s, h4d⟩) ⟨hv4 _, hv4 _, h4s, h4d⟩))
      (.ite (.ite ⟨hs, hd, h4s, h4d⟩ (.ite (parseL4_sized bs _ _ ⟨slice_length .., slice_length .., h4s, h4d⟩)
        ⟨slice_length .., slice_length .., h4s, h4d⟩)) ⟨hs, hd, h4s, h4d⟩))

theorem parse_sized (bs : List Byte) : ParsedSized (parse bs) :=
  have hnone : ParsedSized {} := ⟨rfl, rfl, rfl, rfl⟩
  .ite hnone (.ite (.ite hnone (.ite (.ite hnone (parseL3_sized bs _ hnone)) (parseL3_sized bs _ hnone))) (parseL3_sized bs _ hnone))

theorem classKey_length (tenant src : Nat) (bs : List Byte) {p : Parsed} (vxlan da : Bool) (up : Nat) (h : ParsedSized p) :
    (classKey tenant src bs p vxlan da up).length = 64 := by
  obtain ⟨hs, hd, h4s, h4d⟩ := h
  simp only [classKey, beBytes, List.length_append, List.length_reverse, leBytes_length, slice_length, hs, hd, h4s, h4d,
    List.length_cons, List.length_nil]

/-- A mask of zeros makes every key match. -/
theorem zipWith_and_zeros {m : List Byte} (h : allZero m = true) {a b : List Byte} (hlen : a.length = b.length) :
    List.zipWith (· &&& ·) a m = List.zipWith (· &&& ·) b m := by
  refine List.ext_getElem (by simp [hlen]) fun i h1 h2 => ?_
  have hi : i < m.length := by
    rw [List.length_zipWith] at h1
    omega
  have hz : m[i] = 0#8 := by simpa using List.all_eq_true.1 h m[i] (List.getElem_mem hi)
  simp [hz]

theorem State.ruleMatches_of_zeros {s : State} {e key : List Byte} (p : Parsed) (len : Nat) (hkey : key.length = 64)
    (hm : allZero (slice e 0x40 64) = true) (h1 : fieldLE e 0x81 1 = 0xFF) (h2 : fieldLE e 0x82 1 = 0xFF) :
    s.ruleMatches e key p len = true := by
  have hz := zipWith_and_zeros hm (hkey.trans (slice_length e 0 64).symm)
  simp [State.ruleMatches, hz, h1, h2, State.rangeOk]

theorem actOf_field (e : List Byte) {k m : Nat} (h : k + m ≤ 32) : fieldLE (actOf e) k m = fieldLE e (0x80 + k) m := fieldLE_slice e h

/-! ## Classification, forwarding and delivery -/

/-- The default action (R312). -/
def noAction : List Byte := List.replicate 32 0#8

theorem fieldLE_noAction (k : Nat) : fieldLE noAction k 1 = 0 := by
  rw [fieldLE_one, noAction, List.getD_eq_getElem?_getD, List.getElem?_replicate]
  split <;> rfl

section
variable {s : State} {src tn up : Nat} {bs : List Byte} {vx : Bool}

theorem flow_of_none (h : s.pkt.flows = []) (c : Bool) (k : Nat) :
    (if c = true then (Tab.get? s.pkt.flows k).bind fun f => (s.rule f.rule).map fun e => (f, e) else none) = none := by
  rw [h]
  cases c <;> rfl

theorem State.classify_of_rule {i : Nat} {e : List Byte} (hflows : s.pkt.flows = []) (hrules : s.pkt.rules = [(i, e)])
    (hon : bitOf (fieldLE e 0x80 1) 0 = true) (hm : allZero (slice e 0x40 64) = true) (h1 : fieldLE e 0x81 1 = 0xFF)
    (h2 : fieldLE e 0x82 1 = 0xFF) : s.classify src tn bs vx up = (actOf e, s.hit i) := by
  have hmatch := State.ruleMatches_of_zeros (s := s) (parse bs) (bs.length + 4)
    (classKey_length tn src bs vx (slice bs 0 6 == s.tenMac tn) up (parse_sized bs)) hm h1 h2
  unfold State.classify
  dsimp only
  rw [flow_of_none hflows]
  dsimp only
  rw [hrules]
  simp [hon, hmatch]

theorem State.classify_of_no_rule (hflows : s.pkt.flows = []) (hrules : s.pkt.rules = []) :
    s.classify src tn bs vx up = (noAction, s) := by
  unfold State.classify
  dsimp only
  rw [flow_of_none hflows]
  dsimp only
  rw [hrules]
  rfl

theorem State.forward_of_drop {x : PktCtx} (h : fieldLE x.act 3 1 = 1) : s.forward x = s.inc (pktCnt 2 false) := by
  unfold State.forward
  dsimp only
  rw [if_pos h]

theorem State.deliver_nil (x : PktCtx) (routed : Bool) : s.deliver x routed [] = s := rfl

/-- The context of a frame that no rule touches. -/
def untouched (src tn up : Nat) (bs : List Byte) (bss : Option Nat) : PktCtx :=
  { src := src, tenant := tn, bytes := bs, up := up, act := noAction, bss := bss }

theorem rewrite_untouched (bss : Option Nat) : rewrite (untouched src tn up bs bss) none false none = bs := by
  simp [rewrite, untouched, fieldLE_noAction, bitOf]

theorem State.sendCopy_untouched {sub tun : Nat} {bss : Option Nat} (hmode : s.subMode sub = 0)
    (hmax : bs.length + 4 + s.secOverhead sub ≤ s.maxFrame sub) :
    s.sendCopy (untouched 0x10 tn up bs bss) false none (.wired sub tun none) = s.toWired (untouched 0x10 tn up bs bss) sub
      (s.get ⟨0x2400440 + 4 * sub, 3 * up + 2, 3 * up⟩) bs := by
  have hlong : ¬ s.maxFrame sub < bs.length + 4 + s.secOverhead sub := by omega
  have hup : s.frameUp (untouched 0x10 tn up bs bss) (parse bs) = up := by
    simp [State.frameUp, untouched, fieldLE_noAction, bitOf]
  have hflags : fieldLE (untouched 0x10 tn up bs bss).act 4 1 = 0 := fieldLE_noAction 4
  have hbytes : (untouched 0x10 tn up bs bss).bytes = bs := rfl
  simp [State.sendCopy, hbytes, hup, hmode, rewrite_untouched, hlong, hflags, bitOf]

theorem State.forward_untouched {e : FdbEntry} {bss : Option Nat} (hmac : slice bs 0 6 ≠ s.tenMac tn) (hgrp : isGroup bs = false)
    (hfdb : Tab.get? s.pkt.fdb (fdbKey tn bs) = some e) (hty : e.type = 1) (hmode : s.subMode e.sub = 0)
    (hmax : bs.length + 4 + s.secOverhead e.sub ≤ s.maxFrame e.sub) :
    s.forward (untouched 0x10 tn up bs bss) = s.toWired (untouched 0x10 tn up bs bss) e.sub
      (s.get ⟨0x2400440 + 4 * e.sub, 3 * up + 2, 3 * up⟩) bs := by
  have hdest : s.bridge (untouched 0x10 tn up bs bss) = [.wired e.sub e.tunnel none] := by
    simp [State.bridge, untouched, hgrp, hfdb, FdbEntry.dest, hty]
  have hda : (slice bs 0 6 == s.tenMac tn) = false := by simpa using hmac
  have hlearn : s.learn (untouched 0x10 tn up bs bss) = s := rfl
  have hact : fieldLE (untouched 0x10 tn up bs bss).act 3 1 = 0 := fieldLE_noAction 3
  have hcopies : (untouched 0x10 tn up bs bss).copies = [] := by
    simp [PktCtx.copies, untouched, fieldLE_noAction, bitOf]
  have hpolice : s.police (untouched 0x10 tn up bs bss) = (some none, s) := by
    simp [State.police, untouched, fieldLE_noAction, bitOf]
  have hrouter : (slice (untouched 0x10 tn up bs bss).bytes 0 6 == s.tenMac (untouched 0x10 tn up bs bss).tenant) = false := hda
  unfold State.forward
  simp only [hact, hlearn, hrouter, hdest, hcopies]
  simp [State.deliver, hpolice, State.sendCopy_untouched hmode hmax]

end

/-! ## The rows -/

section
variable {s : State} {f : SrcFrame} {rest : List SrcFrame} {tn : Nat}

theorem State.tenantOf_radio (s : State) (f : SrcFrame) : s.tenantOf 0x10 f = (f.tenant, f.bytes, false) := rfl

/-- A frame that a radio's pipeline classifies. -/
theorem State.pipelined_of_tenant (hllc : f.noLlc = false) (htn : f.tenant = some tn) :
    s.pipelined 0x10 f = (s.classify 0x10 tn f.bytes false f.up).2.forward
      { untouched 0x10 tn f.up f.bytes f.bss with act := (s.classify 0x10 tn f.bytes false f.up).1 } := by
  unfold State.pipelined
  rw [State.tenantOf_radio, htn]
  dsimp only
  rw [if_neg (by simp [hllc])]
  rfl

theorem pipeline_of_drop {i : Nat} {e : List Byte} (hf : Tab.getD s.fifos 0x10 [] = f :: rest) (hserv : s.inService .pkt = true)
    (hstop : s.stopped 10 = false) (hfree : s.pipeFree 0 = true) (hlpm : Tab.has s.pkt.lpm 0x10 = false) (hllc : f.noLlc = false)
    (htn : f.tenant = some tn) (hflows : s.pkt.flows = []) (hrules : s.pkt.rules = [(i, e)])
    (hon : bitOf (fieldLE e 0x80 1) 0 = true) (hm : allZero (slice e 0x40 64) = true) (h1 : fieldLE e 0x81 1 = 0xFF)
    (h2 : fieldLE e 0x82 1 = 0xFF) (hdrop : fieldLE e 0x83 1 = 1) :
    pipeline 0x10 s = ((s.taken 0x10 rest).hit i).inc (pktCnt 2 false) := by
  have hclass : (s.taken 0x10 rest).classify 0x10 tn f.bytes false f.up = (actOf e, (s.taken 0x10 rest).hit i) :=
    State.classify_of_rule hflows hrules hon hm h1 h2
  rw [pipeline_of_ready hf hserv hstop hlpm hfree (State.pipeYields_of_first rfl), if_neg (by decide),
    State.pipelined_of_tenant hllc htn, hclass]
  exact State.forward_of_drop ((actOf_field e (by decide)).trans hdrop)

theorem pipeline_of_bridged {e : FdbEntry} (hf : Tab.getD s.fifos 0x10 [] = f :: rest) (hserv : s.inService .pkt = true)
    (hstop : s.stopped 10 = false) (hfree : s.pipeFree 0 = true) (hlpm : Tab.has s.pkt.lpm 0x10 = false) (hllc : f.noLlc = false)
    (htn : f.tenant = some tn) (hrules : s.pkt.rules = []) (hflows : s.pkt.flows = []) (hmac : slice f.bytes 0 6 ≠ s.tenMac tn)
    (hgrp : isGroup f.bytes = false) (hfdb : Tab.get? s.pkt.fdb (fdbKey tn f.bytes) = some e) (hty : e.type = 1)
    (hmode : s.subMode e.sub = 0) (hmax : f.bytes.length + 4 + s.secOverhead e.sub ≤ s.maxFrame e.sub) :
    pipeline 0x10 s = (s.taken 0x10 rest).toWired (untouched 0x10 tn f.up f.bytes f.bss) e.sub
      (s.get ⟨0x2400440 + 4 * e.sub, 3 * f.up + 2, 3 * f.up⟩) f.bytes := by
  have hclass : (s.taken 0x10 rest).classify 0x10 tn f.bytes false f.up = (noAction, s.taken 0x10 rest) :=
    State.classify_of_no_rule hflows hrules
  rw [pipeline_of_ready hf hserv hstop hlpm hfree (State.pipeYields_of_first rfl), if_neg (by decide),
    State.pipelined_of_tenant hllc htn, hclass]
  exact State.forward_untouched (s := s.taken 0x10 rest) hmac hgrp hfdb hty hmode hmax

end

section
variable {s : State} {src : Nat} {x : PktCtx}

/-- A lookup in DRAM has come back. -/
def State.looked (s : State) (src : Nat) : State := { s with pkt := { s.pkt with lpm := Tab.del s.pkt.lpm src } }

theorem lpmResult_of_failed {ok : Bool} (hx : Tab.get? s.pkt.lpm src = some x)
    (h : ok = false ∨ s.boot.rejected.contains 0xD = true ∨ ∀ c, c < 4 → s.inService (.dram c) = false) :
    lpmResult src ok s = ((s.looked src).inc (pktCnt 7 true)).deliver x false x.copies := by
  unfold lpmResult
  rw [hx]
  refine if_pos ?_
  obtain h | h | h := h
  · simp [h]
  · rw [h, Bool.or_true, Bool.true_or]
  · have hnone : ((List.range 4).any fun c => s.inService (.dram c)) = false := by simpa using h
    rw [hnone]
    exact Bool.or_true _

theorem lpmResult_of_no_route (hx : Tab.get? s.pkt.lpm src = some x) (hrej : s.boot.rejected.contains 0xD = false)
    (hserv : ∃ c, c < 4 ∧ s.inService (.dram c) = true) (hcopies : x.copies = [])
    (hroute : s.route x.tenant (parse x.bytes).v6 (parse x.bytes).dst (fun _ => true) = none)
    (hflag : s.flag ⟨tenCfg x.tenant, 13, 13⟩ = false) :
    lpmResult src true s = (s.looked src).inc (pktCnt 1 true) := by
  have hany : ((List.range 4).any fun c => s.inService (.dram c)) = true := by simpa using hserv
  have hfound : (s.looked src).routeFound x none = ((s.looked src).inc (pktCnt 1 true)).deliver x false x.copies :=
    if_neg fun h => absurd (h.symm.trans hflag) (by decide)
  unfold lpmResult
  rw [hx]
  dsimp only
  rw [if_neg (by simp only [hrej, hany]; decide)]
  change (s.looked src).routeFound x (s.route x.tenant (parse x.bytes).v6 (parse x.bytes).dst fun _ => true) = _
  rw [hroute, hfound, hcopies, State.deliver_nil]

theorem fdbAged_eq {tn addr : Nat} {e : FdbEntry} (he : Tab.get? s.pkt.fdb (tn * 2 ^ 48 + addr) = some e) :
    fdbAged tn addr s = if e.origin = 2 ∧ e.seen + ms (1000 * s.get ⟨0x2400010, 15, 0⟩) ≤ s.elapsed
      then { s with pkt := { s.pkt with fdb := Tab.del s.pkt.fdb (tn * 2 ^ 48 + addr) } } else s := by
  unfold fdbAged
  rw [he]
  dsimp only
  by_cases hold : e.origin = 2 ∧ e.seen + ms (1000 * s.get ⟨0x2400010, 15, 0⟩) ≤ s.elapsed
  · rw [if_pos hold]
    exact if_neg (by simpa using hold)
  · rw [if_neg hold]
    refine if_pos ?_
    by_cases ho : e.origin = 2
    · exact Bool.or_eq_true_iff.2 (.inr (by simpa using fun hle => hold ⟨ho, hle⟩))
    · simp [ho]

theorem flowAged_eq {key : Nat} {e : FlowEntry} (he : Tab.get? s.pkt.flows key = some e) :
    flowAged key s = if e.aged = true ∧ e.seen + ms (1000 * s.get ⟨0x2400010, 31, 16⟩) ≤ s.elapsed
      then { s with pkt := { s.pkt with flows := Tab.del s.pkt.flows key } } else s := by
  unfold flowAged
  rw [he]
  dsimp only
  by_cases hold : e.aged = true ∧ e.seen + ms (1000 * s.get ⟨0x2400010, 31, 16⟩) ≤ s.elapsed
  · rw [if_pos hold]
    exact if_neg (by simpa using hold)
  · rw [if_neg hold]
    refine if_pos ?_
    by_cases ho : e.aged = true
    · exact Bool.or_eq_true_iff.2 (.inr (by simpa using fun hle => hold ⟨ho, hle⟩))
    · simp [ho]

end

/-- Settles O54: a pipeline's run is its taking a frame and the frame's passage, which leaves the tables and the FIFOs alone. -/
theorem packetPath : Obligations.PacketPath := by
  refine ⟨fun src f rest s hf hserv hstop hlpm hfree hy hup => ?_, fun src s h => ?_,
    fun src f rest s hf hserv hstop hlpm hfree hy hsrc htn => ?_,
    fun i tn f rest e s hf hserv hstop hfree hlpm hllc htn hflows hrules hon hm h1 h2 hdrop => ?_,
    fun tn f rest e s hf hserv hstop hfree hlpm hllc htn hrules hflows hmac hgrp hfdb hty hmode hmax => ?_,
    fun src x ok s hx h => congrArg Host.Outcome.next (lpmResult_of_failed hx h),
    fun src x s hx hrej hserv hcopies hroute hflag =>
      congrArg Host.Outcome.next (lpmResult_of_no_route hx hrej hserv hcopies hroute hflag),
    fun tn addr e s he => congrArg Host.Outcome.next (fdbAged_eq he),
    fun key e s he => congrArg Host.Outcome.next (flowAged_eq he), fun r v s hmap hclk => ⟨fun hok => ?_, fun hbad => ?_⟩⟩
  case refine_1 =>
    have hdrain : (if src = 0x18 then (s.taken src rest).drainUp else s.taken src rest).settled = (s.taken src rest).settled := by
      split
      · exact State.drainUp_settled _ (hup.resolve_left (not_not_intro ‹_›))
      · rfl
    have hrun := (State.pipelined_settled _ src f).trans hdrain
    rw [← pipeline_of_ready hf hserv hstop hlpm hfree hy] at hrun
    simp only [State.settled, Prod.mk.injEq] at hrun
    obtain ⟨hfifos, hcmds, heth, hrules, hroutes, hhops, hranges, htun, hpol, hpiped⟩ := hrun
    refine ⟨_, rfl, ?_, fun k hk => ?_, hrules, hroutes, hhops, hranges, htun, hpol, hcmds, heth, ?_⟩
    · rw [hfifos]
      exact Tab.getD_put_self ..
    · rw [hfifos]
      exact Tab.get?_put_ne _ _ hk
    · rw [hpiped]
      exact Tab.get?_put_self ..
  case refine_2 =>
    refine congrArg Host.Outcome.next (pipeline_of_waiting ?_)
    obtain h | h | h | h | ⟨at_, hat, hlt⟩ := h
    · exact .inl h
    · exact .inr (.inl h)
    · exact .inr (.inr (.inl h))
    · exact .inr (.inr (.inr (.inl h)))
    · exact .inr (.inr (.inr (.inr (State.pipeFree_of_recent hat hlt))))
  case refine_3 =>
    refine congrArg Host.Outcome.next ((pipeline_of_ready hf hserv hstop hlpm hfree hy).trans ?_)
    rw [if_neg hsrc]
    have htn' : ((s.taken src rest).tenantOf src f).1 = none := htn
    unfold State.pipelined
    split
    · rfl
    · next heq =>
      rw [heq] at htn'
      exact absurd htn' (Option.some_ne_none _)
  case refine_4 =>
    have hrun := pipeline_of_drop hf hserv hstop hfree hlpm hllc htn hflows hrules hon hm h1 h2 hdrop
    refine ⟨_, congrArg Host.Outcome.next hrun, ?_, State.inc_wired .., State.inc_mac .., State.inc_mesh .., State.inc_tasks .., ?_,
      fun hlt => ?_⟩
    · rw [State.inc_pkt]
      exact Tab.getD_put_self ..
    · rw [State.inc_pkt]
      rfl
    · exact State.get_inc_of_lt ((s.taken 0x10 rest).hit i) (by decide) (by decide) (Nat.add_lt_add_right hlt 1)
  case refine_5 =>
    exact congrArg Host.Outcome.next
      (pipeline_of_bridged hf hserv hstop hfree hlpm hllc htn hrules hflows hmac hgrp hfdb hty hmode hmax)
  case refine_6 =>
    refine ⟨_, congrArg Host.Outcome.next (State.access_of_mapped _ _ hmap hclk), rfl, ?_, ?_, fun a ha => ?_⟩
    all_goals dsimp only; rw [if_neg (by simp [hok])]
    · rfl
    · exact State.reg_setReg ..
    · exact State.reg_setReg_ne _ _ ha
  case refine_7 =>
    refine congrArg Host.Outcome.next ((State.access_of_mapped _ _ hmap hclk).trans ?_)
    dsimp only
    rw [if_pos (by simp [hbad])]

end Sys2Proof.Machine

end

section
/-! PROOFS. The ports (14 R415 to R427, R439, 11 R336). -/

namespace Sys2Proof.Machine

/-! ## A frame that is counted as received -/

theorem State.reg_inc64_ne (s : State) {a b : Nat} (h0 : b ≠ a) (h1 : b ≠ a + 4) : (s.inc64 a).reg b = s.reg b := by
  rw [State.inc64, State.put64, State.reg_setReg_ne _ _ h1, State.reg_setReg_ne _ _ h0]

/-- A good frame is counted on its sub-port (14 R419). -/
def State.rxCounted (s : State) (sub : Nat) : State := s.inc64 (ethBase (portOf sub).1 + 0x200 + 0x10 * (portOf sub).2)

theorem portOf_local_lt (sub : Nat) : (portOf sub).2 < 4 := by
  unfold portOf
  split
  · exact Nat.mod_lt _ (by decide)
  · exact Nat.zero_lt_succ 3

section
variable (s : State) (sub : Nat)

/-- The count leaves the registers below the ports', and those of a port outside its counters. -/
theorem State.reg_rxCounted {a : Nat} (h : a < 0x3400000 ∨ a % 0x10000 < 0x200 ∨ 0x2000 ≤ a % 0x10000) : (s.rxCounted sub).reg a = s.reg a := by
  have hl := portOf_local_lt sub
  refine s.reg_inc64_ne ?_ ?_ <;> unfold ethBase <;> omega

theorem State.subUp_rxCounted (b : Nat) : (s.rxCounted sub).subUp b = s.subUp b := by
  have hmode : (s.rxCounted sub).get ⟨ethBase (portOf b).1, 1, 0⟩ = s.get ⟨ethBase (portOf b).1, 1, 0⟩ :=
    congrArg (fun w : Word => bitsOf w.toNat 1 0) (s.reg_rxCounted sub (.inr (.inl (by
      show ethBase (portOf b).1 % 0x10000 < 0x200
      unfold ethBase
      omega))))
  have hexists : (s.rxCounted sub).subExists b = s.subExists b := by
    rw [State.subExists, hmode, State.subExists]
  rw [State.subUp, hexists]
  rfl

theorem State.cstTakes_rxCounted (b : Nat) (bytes : List Byte) : (s.rxCounted sub).cstTakes b bytes = s.cstTakes b bytes := by
  have hserv : (s.rxCounted sub).cstInService = s.cstInService := by
    rw [State.cstInService, State.subUp_rxCounted]
    rfl
  rw [State.cstTakes, hserv]
  rfl

theorem State.filterPass_rxCounted (bytes : List Byte) : (s.rxCounted sub).filterPass sub bytes = s.filterPass sub bytes := by
  have hl := portOf_local_lt sub
  have hbin : binOf bytes < 4096 := Nat.mod_lt _ (by decide)
  unfold State.filterPass
  dsimp only
  rw [s.reg_rxCounted sub (.inr (.inr (by unfold ethBase; omega)))]

theorem State.gated_rxCounted {b : Nat} : (s.rxCounted sub).gated b = s.gated b := by
  have hst : (s.rxCounted sub).flag (clkSt b) = s.flag (clkSt b) := State.flag_congr (s.reg_rxCounted sub (.inl (by
    unfold clkSt
    dsimp only
    split <;> decide)))
  have hen : (s.rxCounted sub).flag (clkEn b) = s.flag (clkEn b) := State.flag_congr (s.reg_rxCounted sub (.inl (by
    unfold clkEn
    dsimp only
    split <;> decide)))
  rw [State.gated, hst, hen, State.gated]

end

section
variable {s : State} {sub : Nat} {bytes : List Byte} {ok : Bool}

theorem frameIn_of_down (sec : Option EthSec) (h : s.subUp sub = false) : frameIn sub bytes ok sec s = s :=
  if_pos (by simp [h])

theorem frameIn_of_waiting {c : EthSec} (hsec : (s.macsec sub).isSome = true) (hserv : s.inService .cipher = true)
    (hroom : s.cphRoom = false) : frameIn sub bytes ok (some c) s = s :=
  if_pos (by simp [State.secWaits, hsec, hserv, hroom])

theorem frameIn_of_long (hup : s.subUp sub = true) (hw : s.secWaits sub bytes false = false)
    (hlen : s.maxFrame sub < bytes.length + 4) : frameIn sub bytes ok none s = s.inc (ethCnt sub 0 true) := by
  unfold frameIn
  dsimp only
  rw [if_neg (by simp [hup, hw])]
  exact if_pos hlen

theorem frameIn_of_badFcs (hup : s.subUp sub = true) (hw : s.secWaits sub bytes false = false)
    (hlen : bytes.length + 4 ≤ s.maxFrame sub) : frameIn sub bytes false none s = s.inc (ethCnt sub 1 false) := by
  unfold frameIn
  dsimp only
  rw [if_neg (by simp [hup, hw]), if_neg (by omega)]
  exact if_pos rfl

theorem frameIn_of_short (hup : s.subUp sub = true) (hw : s.secWaits sub bytes false = false)
    (hlen : bytes.length + 4 ≤ s.maxFrame sub) (hshort : bytes.length + 4 < 64) :
    frameIn sub bytes true none s = s.inc (ethCnt sub 0 false) := by
  unfold frameIn
  dsimp only
  rw [if_neg (by simp [hup, hw]), if_neg (by omega), if_neg (by decide)]
  exact if_pos hshort

theorem State.secWaits_of_open (h : s.macsec sub = none) (sec : Bool) : s.secWaits sub bytes sec = false := by
  simp [State.secWaits, h]

theorem State.secIn_of_open (h : s.macsec sub = none) (sec : Option EthSec) : s.secIn sub bytes sec = (true, s) :=
  if_pos (by simp [h])

/-- A frame that passes its checks is counted, and goes to its FIFO unless the constellation or the PTP servo takes it. -/
theorem frameIn_of_good (hup : s.subUp sub = true) (h60 : 60 ≤ bytes.length) (hlen : bytes.length + 4 ≤ s.maxFrame sub)
    (htype : fieldBE bytes 12 2 ≠ 0x8808) (hpass : s.filterPass sub bytes = true) (hopen : s.macsec sub = none) :
    frameIn sub bytes true none s = if (s.cstTakes sub bytes || s.ptpTakes sub bytes) = true then s.rxCounted sub
      else (s.rxCounted sub).ingress sub
        { bytes := bytes, stamp := s.stampBack ((bytes.length + 4) * byteTime (Tab.getD s.eth.links sub 0)) } := by
  have hsec : (s.rxCounted sub).secIn sub bytes none = (true, s.rxCounted sub) := State.secIn_of_open (s := s.rxCounted sub) hopen none
  have hf : (s.rxCounted sub).filterPass sub bytes = true := (s.filterPass_rxCounted sub bytes).trans hpass
  have hptp : (s.rxCounted sub).ptpTakes sub bytes = s.ptpTakes sub bytes := rfl
  unfold frameIn
  dsimp only
  rw [if_neg (by simp [hup, State.secWaits_of_open hopen]), if_neg (by omega), if_neg (by decide), if_neg (by omega), if_neg htype]
  rw [show s.inc64 (ethBase (portOf sub).1 + 0x200 + 0x10 * (portOf sub).2) = s.rxCounted sub from rfl, hsec]
  dsimp only
  rw [if_neg (by simp [hf]), if_pos rfl, State.cstTakes_rxCounted, hptp]

theorem State.ingress_of_room {src : Nat} {f : SrcFrame} (hserv : s.inService .pkt = true) (hg : s.gated 10 = false)
    (hroom : (Tab.getD s.fifos src []).length < 256) :
    s.ingress src f = { s with fifos := Tab.put s.fifos src (Tab.getD s.fifos src [] ++ [f]) } := by
  unfold State.ingress
  rw [if_neg (by simp [hserv, hg]), if_neg (by omega)]

end

/-! ## Egress -/

section
variable {s : State} {sub q : Nat} {f : WireFrame} {rest : List WireFrame}

/-- Watching a queue changes the packet path alone. -/
theorem State.watch_pktOnly (s : State) (qid : Nat) (g : Watch → Watch) : ∃ p, s.watch qid g = { s with pkt := p } :=
  State.foldl_inv (fun t => ∃ p, t = { s with pkt := p }) _ _ (fun t n ⟨p, h⟩ => by
    subst h
    dsimp only
    split
    · exact ⟨_, rfl⟩
    · exact ⟨_, rfl⟩) s ⟨s.pkt, rfl⟩

/-- A head that may still be sent keeps its place. -/
theorem State.dropStale_of_fresh (n : Nat) (hf : Tab.getD s.wired (sub * 8 + q) [] = f :: rest) (hlost : s.dramLost f.dram = false)
    (hmax : s.get ⟨0x2401400 + 0x20 * sub + 4 * q, 19, 0⟩ = 0)
    (hgate : ∀ l, (gateListOf s.reg sub).longest q = some l → s.wireTime sub f ≤ l) : s.dropStale sub q n = s := by
  cases n with
  | zero => rfl
  | succ n =>
    unfold State.dropStale
    rw [hf]
    dsimp only
    rw [if_neg (by simp [hlost]), if_neg (by simp [hmax])]
    split
    · next l hl => exact if_neg (by have := hgate l hl; omega)
    · rfl

theorem State.pickQueue_of_fresh (hf : Tab.getD s.wired (sub * 8 + q) [] = f :: rest) (hlost : s.dramLost f.dram = false)
    (hmax : s.get ⟨0x2401400 + 0x20 * sub + 4 * q, 19, 0⟩ = 0)
    (hgate : ∀ l, (gateListOf s.reg sub).longest q = some l → s.wireTime sub f ≤ l)
    (hpass : s.gatePass sub q (s.wireTime sub f) = true)
    (hcredit : s.shpRate (sub * 8 + q) = 0 ∨ 0 ≤ s.credit (sub * 8 + q)) : s.pickQueue sub (q + 1) = (some (q, f), s) := by
  rw [State.pickQueue, State.dropStale_of_fresh _ hf hlost hmax hgate, hf]
  exact if_pos (by simp [hpass, hcredit])

theorem egress_of_idle (hup : s.subUp sub = true) (hserv : s.inService .pkt = true) (htx : Tab.get? s.eth.tx sub = none) :
    egress sub s = match s.pickQueue sub 8 with
      | (some (q, f), s1) => s1.startFrame sub q f
      | (none, s1) => s1 := by
  unfold egress
  rw [htx]
  dsimp only
  exact if_neg (by simp [hup, hserv])

theorem egress_of_busy {x : EthTx} (htx : Tab.get? s.eth.tx sub = some x) (hend : s.elapsed < x.endAt) (hcut : x.cut = false) :
    egress sub s = s := by
  unfold egress
  rw [htx]
  dsimp only
  exact if_pos (by simp [hend, hcut])

/-- Without MACsec a head leaves its queue and stands on the wire. -/
theorem State.startFrame_of_open (hopen : s.macsec sub = none) (hf : Tab.getD s.wired (sub * 8 + q) [] = f :: rest) :
    (s.startFrame sub q f).wired = Tab.put s.wired (sub * 8 + q) rest
      ∧ Tab.get? (s.startFrame sub q f).eth.tx sub = some ⟨f, s.elapsed,
        s.elapsed + ((Nat.max 64 f.len + 20) * byteTime (Tab.getD s.eth.links sub 0) * 3 + 499) / 500, false⟩ := by
  have hover : s.frameOverhead sub f = 0 := by
    simp [State.frameOverhead, State.secOverhead, hopen]
  have hout (t : State) (ht : t.macsec sub = none) : t.secOut sub f.body = (true, t) := if_pos (by simp [ht])
  unfold State.startFrame
  rw [if_neg (by simp [State.secWaits_of_open hopen])]
  extract_lets key n bt s1
  have h1 : s1.secOut sub f.body = (true, s1) := hout s1 hopen
  rw [h1]
  dsimp -zeta only
  rw [if_neg (by decide)]
  extract_lets s3 s4 eth s5
  obtain ⟨p, h4⟩ := s3.watch_pktOnly (wiredId sub q) fun w =>
    { w with maxSoj := Nat.max w.maxSoj (Nat.min (s.ntNs - f.enqNt) (2 ^ 32 - 1)), frames := Nat.min (w.frames + 1) (2 ^ 32 - 1)
             bytes := Nat.min (w.bytes + f.len) (2 ^ 32 - 1) }
  have h4 : s4 = { s3 with pkt := p } := h4
  have hwired : s5.wired = Tab.put s.wired (sub * 8 + q) rest := by
    show s4.wired = _
    rw [h4]
    show Tab.put s.wired (sub * 8 + q) (Tab.getD s.wired (sub * 8 + q) []).tail = _
    rw [hf]
    rfl
  have htx : Tab.get? s5.eth.tx sub = some ⟨f, s.elapsed, s.elapsed + ((n + 20) * bt * 3 + 499) / 500, false⟩ := Tab.get?_put_self ..
  have hn : n = Nat.max 64 f.len := by
    show Nat.max 64 f.len + s.frameOverhead sub f = _
    rw [hover, Nat.add_zero]
  rw [hn] at htx
  split
  · exact ⟨hwired, htx⟩
  · exact ⟨hwired, htx⟩

end

/-! ## Underruns and links -/

theorem State.get_lt (s : State) (a hi lo : Nat) : s.get ⟨a, hi, lo⟩ < 2 ^ (hi + 1 - lo) := Nat.mod_lt _ (Nat.two_pow_pos _)

/-- The registers of a port are not the loss counts of event rings. -/
theorem ethBase_ne_lost (p o : Nat) : ∀ f, f < 16 → ethBase p + o ≠ hqBase f + 0x20 := by
  intro f hf
  unfold ethBase hqBase
  omega

section
variable {s : State} {sub : Nat}

/-- A frame whose bytes come late is cut, and its port starts later frames later. -/
def State.cutShort (s : State) (sub : Nat) (x : EthTx) : State :=
  (({ s with eth := { s.eth with tx := Tab.put s.eth.tx sub { x with cut := true } } }).inc (ethCnt sub 2 false)).put
    ⟨ethBase (portOf sub).1 + 0xC, 13, 0⟩ (Nat.min (s.get ⟨ethBase (portOf sub).1 + 0xC, 13, 0⟩ + 256) (s.maxFrame sub))

theorem underrun_of_late {x : EthTx} (htx : Tab.get? s.eth.tx sub = some x) (hcut : x.cut = false) (hend : s.elapsed < x.endAt)
    (hdram : x.frame.dram ≠ 0) (hlen : s.get ⟨ethBase (portOf sub).1 + 0xC, 13, 0⟩ < x.frame.len) :
    underrun sub s = (s.cutShort sub x).postEvent 0xC002
      (items [sub, Nat.min (s.get ⟨ethBase (portOf sub).1 + 0xC, 13, 0⟩ + 256) (s.maxFrame sub)]) := by
  unfold underrun
  rw [htx]
  exact if_neg (by simp [hcut, hdram, Nat.not_le.2 hend, Nat.not_le.2 hlen])

theorem linkChange_of_allowed {speed : Nat} (hex : s.subExists sub = true) (hserv : s.inService (.port (portOf sub).1) = true)
    (hspeed : speed = 0 ∨ s.linkSpeed sub speed = true) : linkChange sub speed s = s.setLink sub speed := by
  refine if_neg ?_
  obtain h | h := hspeed <;> simp [hex, hserv, h]

theorem State.setLink_of_same {speed : Nat} (h : Tab.getD s.eth.links sub 0 = speed) : s.setLink sub speed = s := if_pos h

/-- A link that changes its speed or goes down changes no other link. -/
theorem State.setLink_links (s : State) (sub speed : Nat) : Tab.getD (s.setLink sub speed).eth.links sub 0 = speed
    ∧ ∀ k, k ≠ sub → Tab.get? (s.setLink sub speed).eth.links k = Tab.get? s.eth.links k := by
  unfold State.setLink
  split
  · next h => exact ⟨h, fun _ _ => rfl⟩
  · rw [State.postEvent_eth]
    dsimp only
    split
    · next h =>
      refine ⟨?_, fun k hk => Tab.get?_del_ne _ hk⟩
      rw [Tab.getD, Tab.get?_del_self, h]
      rfl
    · exact ⟨Tab.getD_put_self .., fun k hk => Tab.get?_put_ne _ _ hk⟩

theorem State.setLink_keeps (s : State) (sub speed : Nat) : (s.setLink sub speed).wired = s.wired ∧ (s.setLink sub speed).units = s.units := by
  unfold State.setLink
  split
  · exact ⟨rfl, rfl⟩
  · exact ⟨State.postEvent_wired .., State.postEvent_units ..⟩

end

/-! ## Secure associations -/

section
variable {s : State} {tag : Nat} {c : Cmd}

/-- The common checks of ETH_MACSEC_SA: bit 0 of byte 17 is the direction, bit 1 a deletion, of a receive association alone. -/
theorem State.saCmd_of_offered {dir del : Bool} (act : Cmd → State → State) (ho : Offered s 0 tag 0x0C10 c)
    (hg : s.gated (16 + c.b 16 / 4 % 2) = false) (hdir : c.b 17 = b2n dir + 2 * b2n (dir && del)) (hsub : c.b 16 ≤ 7) (han : c.b 18 ≤ 15)
    (hslot : c.le 20 2 ≤ 16383) (hr : c.reservedOk [(16, 3), (20, 2), (24, 8)] = true)
    (hu : s.unitStatus (.port (c.b 16 / 4)) = none) : s.saCmd 0 tag dir del act = act c s := by
  unfold State.saCmd
  rw [State.runCmd_of_offered _ ho (byPF_of_offered ho) hg]
  have h1 : ¬ 7 < c.b 16 := by omega
  have h2 : ¬ 15 < c.b 18 := by omega
  have h3 : ¬ 16383 < c.le 20 2 := by omega
  cases dir <;> cases del <;> simp [hdir, b2n, bitOf, h1, h2, h3, hr, hu]

end

/-- Settles O57: the checks of a received frame in their order, the highest queue's head, the underrun, the link and the three
commands. -/
theorem wiredPorts : Obligations.WiredPorts := by
  refine ⟨fun sub bytes ok sec s hup => congrArg Host.Outcome.next (frameIn_of_down sec hup),
    fun sub bytes ok s hup hw => ⟨fun hlen => congrArg Host.Outcome.next (frameIn_of_long hup hw hlen), fun hlen hok => ?_,
      fun hlen hok hshort => ?_⟩,
    fun sub bytes s hup h60 hlen htype hpass hopen hserv hg hcst hptp hroom => ?_,
    fun sub bytes s hup h60 hlen htype hpass hopen htakes => ?_,
    fun sub bytes ok c s hsec hserv hroom => congrArg Host.Outcome.next (frameIn_of_waiting hsec hserv hroom),
    fun sub f rest s hup hserv htx hf hlost hmax hgate hpass hcredit hopen => ?_,
    fun sub x s htx hend hcut => congrArg Host.Outcome.next (egress_of_busy htx hend hcut),
    fun sub x s htx hcut hend hdram hlen => ?_, fun sub speed s hex hserv hspeed => ?_,
    fun tag c s ho hg hdir hsub han hslot hr hu => ?_, fun tag c s ho hg hdir hsub han hslot hr hu => ?_,
    fun tag c s ho hg hdir hsub han hslot hr hu => ?_⟩
  case refine_1 =>
    subst hok
    exact congrArg Host.Outcome.next (frameIn_of_badFcs hup hw hlen)
  case refine_2 =>
    subst hok
    exact congrArg Host.Outcome.next (frameIn_of_short hup hw hlen hshort)
  case refine_3 =>
    have hrun := frameIn_of_good hup h60 hlen htype hpass hopen
    rw [if_neg (by simp [hcst, hptp]), State.ingress_of_room (s := s.rxCounted sub) hserv ((s.gated_rxCounted sub).trans hg) hroom] at hrun
    exact ⟨_, congrArg Host.Outcome.next hrun, Tab.getD_put_self .., fun k hk => Tab.get?_put_ne _ _ hk, rfl, rfl⟩
  case refine_4 =>
    have hrun := frameIn_of_good hup h60 hlen htype hpass hopen
    rw [if_pos (by simpa using htakes)] at hrun
    exact ⟨_, congrArg Host.Outcome.next hrun, rfl, rfl, rfl, rfl⟩
  case refine_5 =>
    have hrun := egress_of_idle hup hserv htx
    rw [State.pickQueue_of_fresh (q := 7) hf hlost hmax hgate hpass hcredit] at hrun
    obtain ⟨hwired, hair⟩ := State.startFrame_of_open hopen hf
    refine ⟨_, congrArg Host.Outcome.next hrun, ?_, fun k hk => ?_, hair⟩
    · dsimp only
      rw [hwired]
      exact Tab.getD_put_self ..
    · dsimp only
      rw [hwired]
      exact Tab.get?_put_ne _ _ hk
  case refine_6 =>
    refine ⟨_, congrArg Host.Outcome.next (underrun_of_late htx hcut hend hdram hlen), ?_, ?_, ?_, ?_⟩
    · rw [State.postEvent_eth, State.cutShort, State.put_eth, State.inc_eth]
      exact Tab.get?_put_self ..
    · have hlt := s.get_lt (ethBase (portOf sub).1 + 8) 13 0
      have hmin : Nat.min (s.get ⟨ethBase (portOf sub).1 + 0xC, 13, 0⟩ + 256) (s.maxFrame sub) < 2 ^ 14 :=
        Nat.lt_of_le_of_lt (Nat.min_le_right ..) hlt
      rw [State.get_congr (State.postEvent_reg _ _ _ _ (ethBase_ne_lost _ 0xC)), State.cutShort,
        State.get_put_self _ _ (by decide) (by decide), Nat.mod_eq_of_lt hmin]
    · rw [State.postEvent_wired, State.cutShort, State.put_wired, State.inc_wired]
    · rw [State.postEvent_units, State.cutShort, State.put_units, State.inc_units]
  case refine_7 =>
    obtain ⟨hself, hothers⟩ := s.setLink_links sub speed
    obtain ⟨hwired, hunits⟩ := s.setLink_keeps sub speed
    exact ⟨_, congrArg Host.Outcome.next (linkChange_of_allowed hex hserv hspeed), hself, hothers, State.setLink_of_same, hwired, hunits⟩
  case refine_8 =>
    refine congrArg Host.Outcome.next ((State.saCmd_of_offered (dir := false) (del := false) _ ho hg hdir hsub han hslot hr hu).trans ?_)
    cases s.secSlot (c.le 20 2) <;> rfl
  case refine_9 =>
    refine congrArg Host.Outcome.next ((State.saCmd_of_offered (dir := true) (del := false) _ ho hg hdir hsub han hslot hr hu).trans ?_)
    cases s.secSlot (c.le 20 2) <;> rfl
  case refine_10 =>
    refine congrArg Host.Outcome.next ((State.saCmd_of_offered (dir := true) (del := true) _ ho hg hdir hsub han hslot hr hu).trans ?_)
    cases Tab.has s.eth.rxSa (c.b 16 * 16 + c.b 18) <;> rfl

end Sys2Proof.Machine

end

section
/-! PROOFS. The containment strobe of a Tile Link and of a DRAM channel (01 R29 to R34), and the Tile Links (14 R428 to R437). -/

namespace Sys2Proof.Machine

/-! ## What a strobe records -/

/-- t is s with another host interface, other register words, free values, counts of refusals, work items, flash, log and commit: what
the record of a fault and the end of its unit's commands can touch. -/
def FaultEffect (s t : State) : Prop :=
  ∃ h r n k q f l c, t = { s with host := h, regs := r, fresh := n, rejects := k, tasks := q, flash := f, log := l, commit := c }

theorem FaultEffect.refl (s : State) : FaultEffect s s := ⟨_, _, _, _, _, _, _, _, rfl⟩

theorem FaultEffect.trans {s t u : State} : FaultEffect s t → FaultEffect t u → FaultEffect s u := by
  rintro ⟨_, _, _, _, _, _, _, _, rfl⟩ ⟨_, _, _, _, _, _, _, _, rfl⟩
  exact ⟨_, _, _, _, _, _, _, _, rfl⟩

theorem FaultEffect.foldl {ι : Type} {l : List ι} {g : State → ι → State} (hg : ∀ s i, FaultEffect s (g s i)) (s : State) :
    FaultEffect s (l.foldl g s) := State.foldl_inv (FaultEffect s) l g (fun t i h => h.trans (hg t i)) s (.refl s)

theorem TaskEffect.faultEffect {s t : State} : TaskEffect s t → FaultEffect s t := by
  rintro ⟨_, _, _, _, _, rfl⟩
  exact ⟨_, _, _, _, _, _, _, _, rfl⟩

theorem FlashEffect.faultEffect {s t : State} : FlashEffect s t → FaultEffect s t := by
  rintro ⟨_, _, _, rfl⟩
  exact ⟨_, _, _, _, _, _, _, _, rfl⟩

theorem FaultEffect.setUnit {s t : State} (i : Nat) (x : UnitSt) : FaultEffect s t → FaultEffect (s.setUnit i x) (t.setUnit i x) := by
  rintro ⟨_, _, _, _, _, _, _, _, rfl⟩
  exact ⟨_, _, _, _, _, _, _, _, rfl⟩

theorem FaultEffect.units {s t : State} : FaultEffect s t → t.units = s.units := by
  rintro ⟨_, _, _, _, _, _, _, _, rfl⟩
  rfl

theorem FaultEffect.tiles {s t : State} : FaultEffect s t → t.tiles = s.tiles := by
  rintro ⟨_, _, _, _, _, _, _, _, rfl⟩
  rfl

theorem FaultEffect.dram {s t : State} : FaultEffect s t → t.dram = s.dram := by
  rintro ⟨_, _, _, _, _, _, _, _, rfl⟩
  rfl

section
variable (s : State)

theorem State.postEvent_faultEffect (code : Nat) (b : List Byte) (vfs : List Nat) : FaultEffect s (s.postEvent code b vfs) :=
  (s.postEvent_effect code b vfs).taskEffect.faultEffect

theorem State.logParts_faultEffect (type : Nat) (l : List (List Byte)) : FaultEffect s (l.foldl (fun s p => s.logWrite type p) s) :=
  FaultEffect.foldl (fun s p => by
    unfold State.logWrite
    split
    · exact (s.queueLogOp_effect _).faultEffect
    · exact .refl s) s

theorem State.putCqe_faultEffect (f cq idx : Nat) (e : Cqe) : FaultEffect s (s.putCqe f cq idx e) := ⟨_, _, _, _, _, _, _, _, rfl⟩

theorem State.setRing_faultEffect (k : Nat) (r : RingSt) : FaultEffect s (s.setRing k r) := ⟨_, _, _, _, _, _, _, _, rfl⟩

theorem State.setReg_faultEffect (a : Nat) (w : Word) : FaultEffect s (s.setReg a w) := ⟨_, _, _, _, _, _, _, _, rfl⟩

theorem State.put64_faultEffect (a v : Nat) : FaultEffect s (s.put64 a v) := (s.setReg_faultEffect ..).trans (State.setReg_faultEffect ..)

theorem State.mapCmds_faultEffect (g : List Cmd → List Cmd) : FaultEffect s (s.mapCmds g) := ⟨_, _, _, _, _, _, _, _, rfl⟩

theorem State.withdraw_faultEffect (c : Cmd) : FaultEffect s (s.withdraw c) := by
  unfold State.withdraw
  split
  · exact .refl s
  · extract_lets k d r n at_ last s1 e s2 s3
    have h1 : FaultEffect s s1 := FaultEffect.foldl (fun s j => s.putCqe_faultEffect ..) s
    have h3 : FaultEffect s s3 := (h1.trans (s1.putCqe_faultEffect ..)).trans (s2.setRing_faultEffect ..)
    exact (h3.trans (s3.put64_faultEffect ..)).trans (State.mapCmds_faultEffect ..)

theorem State.withdrawUnit_faultEffect (u : FUnit) : FaultEffect s (s.withdrawUnit u) :=
  FaultEffect.foldl (fun s c => by
    split
    · exact s.withdraw_faultEffect _
    · exact .refl s) s

theorem State.discardCmds_faultEffect (u : FUnit) : FaultEffect s (s.discardCmds u) := by
  have hcomplete (l : List Cmd) (t : State) : FaultEffect t (l.foldl (fun s c => s.complete c.fn c.tag 0x01) t) :=
    FaultEffect.foldl (fun s c => (s.complete_effect ..).taskEffect.faultEffect) t
  unfold State.discardCmds
  extract_lets cs gone s1
  split
  · exact s.mapCmds_faultEffect _
  · exact (s.mapCmds_faultEffect _).trans (hcomplete _ s1)

theorem State.commitFault_faultEffect (i : Nat) : FaultEffect s (s.commitFault i) := by
  unfold State.commitFault
  split
  · exact .refl s
  split
  · exact .refl s
  extract_lets out
  split
  · split <;> exact ⟨_, _, _, _, _, _, _, _, rfl⟩
  · exact ⟨_, _, _, _, _, _, _, _, rfl⟩
  · exact .refl s

/-- A fault of a unit that is not held leads it to recover, and discards what it holds; around that it touches the record and the
commands alone. -/
theorem State.strobe_contained {u : FUnit} (cause detail : Nat) (he : u.exists_ = true) (hh : (s.unit u.idx).held = none) :
    ∃ x t, x.phase = .recovering ∧ FaultEffect (s.setUnit u.idx x) t ∧ FaultEffect (t.clearUnit u cause detail) (s.strobe u cause detail) := by
  unfold State.strobe
  extract_lets i x code s1 s2 recent holds flags tags s3 s4 s5 s6
  have h4 : FaultEffect s3 s4 := (s3.commitFault_faultEffect i).trans (State.postRecord_effect ..).faultEffect
  have h5 : FaultEffect s4 s5 := s4.logParts_faultEffect ..
  rw [if_neg (by simp [he]), if_neg (by simp [show x = s.unit u.idx from rfl, hh])]
  refine ⟨{ x with phase := .recovering, faults := if holds then [] else recent,
                   held := if holds then some (if s2.ntValid then some s2.ntNs else none, s2.frNs) else none },
    s5.discardCmds u, rfl, ?_, ?_⟩
  · exact ((s.withdrawUnit_faultEffect u).setUnit ..).trans ((h4.trans h5).trans (s5.discardCmds_faultEffect u))
  · split
    · exact FaultEffect.trans (State.setReg_faultEffect ..) (State.postEvent_faultEffect ..)
    · exact .refl _

end

/-! ## The register of a Tile Link -/

theorem State.tile_modTile_ne (s : State) {j k : Nat} (g : TileSt → TileSt) (h : j ≠ k) : (s.modTile k g).tile j = s.tile j :=
  Tab.getD_put_ne _ _ _ h

/-- The RW fields of TL_k_CTRL as a write sets them (R443). -/
def State.tlSet (s : State) (k : Nat) (v : Word) : State :=
  (s.put ⟨tlCtrl k, 4, 3⟩ (bitsOf v.toNat 4 3)).put ⟨tlCtrl k, 5, 5⟩ (bitsOf v.toNat 5 5)

section
variable (s : State) (k : Nat) (v : Word)

theorem State.tile_tlSet (j : Nat) : (s.tlSet k v).tile j = s.tile j := rfl

theorem State.reg_tlSet_ne {a : Nat} (h : a ≠ tlCtrl k) : (s.tlSet k v).reg a = s.reg a :=
  (State.reg_put_ne _ _ h).trans (State.reg_put_ne _ _ h)

theorem State.get_tlSet : (s.tlSet k v).get ⟨tlCtrl k, 4, 3⟩ = bitsOf v.toNat 4 3 := by
  rw [State.tlSet, State.get_put_apart _ _ (by decide) (by decide) (.inr (by decide)), State.get_put_self _ _ (by decide) (by decide)]
  exact Nat.mod_eq_of_lt (Nat.mod_lt _ (by decide))

theorem State.bind_tlSet : (s.tlSet k v).bind k = s.bind k :=
  congrArg bindingOf (s.reg_tlSet_ne k v (by unfold tlCtrl; omega))

end

section
variable {s : State} {r : Requester} {k : Nat} {v : Word} {act : State → State}

theorem State.autoTrain_of_left (h : (s.tile k).state ≠ .down) : s.autoTrain k = s := if_neg (by simp [h])

theorem tileWrite_of_poly (hk : k ≤ 11) (hm : Mapped s r) (hc : Clocked s (tlCtrl k)) (hp : bitsOf v.toNat 4 3 = 3) :
    tileWrite r k v act s = { s.invalidWrite r (tlCtrl k) v with answer := some .done } := by
  unfold tileWrite
  rw [if_neg (by omega), State.access_of_mapped _ _ hm hc, if_pos hp]

/-- A valid write takes its fields and acts; where the link stands elsewhere than in DOWN, before it or after, AUTO_TRAIN adds nothing. -/
theorem tileWrite_of_valid (hk : k ≤ 11) (hm : Mapped s r) (hc : Clocked s (tlCtrl k)) (hp : bitsOf v.toNat 4 3 ≠ 3)
    (hleft : (s.tile k).state ≠ .down ∨ ((act (s.tlSet k v)).tile k).state ≠ .down) :
    tileWrite r k v act s = { act (s.tlSet k v) with answer := some .done } := by
  have hauto : (if ((s.tile k).state == .down && !s.flag ⟨tlCtrl k, 5, 5⟩) = true then (act (s.tlSet k v)).autoTrain k
      else act (s.tlSet k v)) = act (s.tlSet k v) := by
    obtain h | h := hleft
    · exact if_neg (by simp [h])
    · rw [State.autoTrain_of_left h, ite_self]
  unfold tileWrite
  rw [if_neg (by omega), State.access_of_mapped _ _ hm hc, if_neg hp]
  exact congrArg (fun t : State => { t with answer := some Answer.done }) hauto

end

/-- What a link's PRBS test starts from. -/
def TileSt.testing (x : TileSt) : TileSt := { x with state := .test, result := 0, prbs := List.replicate 5 0 }

section
variable {s : State} {r : Requester} {k : Nat} {v : Word}

theorem trainWrite_of_down (hk : k ≤ 11) (hm : Mapped s r) (hc : Clocked s (tlCtrl k)) (hp : bitsOf v.toNat 4 3 ≠ 3)
    (hv : v.getLsbD 0 = true) (hst : (s.tile k).state = .down) :
    trainWrite r k v s = { (s.tlSet k v).startTraining k with answer := some .done } := by
  have hact : (if (v.getLsbD 0 && ((s.tlSet k v).tile k).state == .down) = true then (s.tlSet k v).startTraining k else s.tlSet k v)
      = (s.tlSet k v).startTraining k := if_pos (by simp [hv, State.tile_tlSet, hst])
  refine (tileWrite_of_valid hk hm hc hp (.inr ?_)).trans ?_
  · rw [hact, State.startTraining, State.tile_modTile]
    exact TileState.noConfusion
  · rw [hact]

theorem prbsStart_of_down (hk : k ≤ 11) (hm : Mapped s r) (hc : Clocked s (tlCtrl k)) (hp : bitsOf v.toNat 4 3 ≠ 3)
    (hv : v.getLsbD 1 = true) (hst : (s.tile k).state = .down) :
    prbsStart r k v s = { (s.tlSet k v).modTile k TileSt.testing with answer := some .done } := by
  refine (tileWrite_of_valid hk hm hc hp (.inr ?_)).trans ?_
  · rw [if_neg (by simp [hv]), if_pos (by simp [State.tile_tlSet, hst]), State.tile_modTile]
    exact TileState.noConfusion
  · dsimp only
    rw [if_neg (by simp [hv]), if_pos (by simp [State.tile_tlSet, hst])]
    rfl

theorem prbsStart_of_bound (hk : k ≤ 11) (hm : Mapped s r) (hc : Clocked s (tlCtrl k)) (hp : bitsOf v.toNat 4 3 ≠ 3)
    (hv : v.getLsbD 1 = true) (hst : (s.tile k).state = .up) (hb : s.bind k ≠ none) :
    prbsStart r k v s = { (s.tlSet k v).modTile k (fun x => { x with result := 0x76 }) with answer := some .done } := by
  refine (tileWrite_of_valid hk hm hc hp (.inl (by rw [hst]; decide))).trans ?_
  dsimp only
  rw [if_neg (by simp [hv]), if_neg (by simp [State.tile_tlSet, hst]), if_pos (by simp [State.tile_tlSet, hst]),
    if_pos (by rw [State.bind_tlSet]; exact Option.isSome_iff_ne_none.2 hb)]

/-- The counts that PRBS_STOP leaves, saturating at 2^48 - 1 (R437). -/
def prbsCounts (errors : List Nat) : List Nat := (List.range 5).map fun l => Nat.min (errors.getD l 0) (2 ^ 48 - 1)

theorem prbsStop_of_test (hk : k ≤ 11) (hm : Mapped s r) (hc : Clocked s (tlCtrl k)) (hp : bitsOf v.toNat 4 3 ≠ 3)
    (hv : v.getLsbD 2 = true) (hst : (s.tile k).state = .test) (e : List Nat) :
    prbsStop r k v e s = { ((s.tlSet k v).modTile k fun x => { x with state := .down, result := 0, prbs := prbsCounts e }).postEvent 0xC007
      (items (k :: prbsCounts e)) with answer := some .done } := by
  refine (tileWrite_of_valid hk hm hc hp (.inl (by rw [hst]; decide))).trans ?_
  dsimp only
  rw [if_neg (by simp [hv, State.tile_tlSet, hst])]
  rfl

end

/-! ## Messages to a tile -/

/-- t is s with other messages waiting on link k. -/
def MsgsOnly (k : Nat) (s t : State) : Prop :=
  (∃ T, t = { s with tiles := T }) ∧ (∀ j, j ≠ k → t.tile j = s.tile j) ∧ ∃ m, t.tile k = { s.tile k with msgs := m }

theorem MsgsOnly.refl (k : Nat) (s : State) : MsgsOnly k s s := ⟨⟨_, rfl⟩, fun _ _ => rfl, _, rfl⟩

theorem MsgsOnly.trans {k : Nat} {s t u : State} (h : MsgsOnly k s t) (h' : MsgsOnly k t u) : MsgsOnly k s u := by
  obtain ⟨⟨T, rfl⟩, ho, m, hm⟩ := h
  obtain ⟨⟨T', rfl⟩, ho', m', hm'⟩ := h'
  exact ⟨⟨T', rfl⟩, fun j hj => (ho' j hj).trans (ho j hj), m', by rw [hm', hm]⟩

theorem MsgsOnly.ite {k : Nat} {c : Prop} [Decidable c] {s a b : State} (ha : MsgsOnly k s a) (hb : MsgsOnly k s b) :
    MsgsOnly k s (if c then a else b) := by
  split
  · exact ha
  · exact hb

section
variable (s : State) (k : Nat)

theorem State.tileSend_msgsOnly (type : Nat) (payload : List Byte) (mask : Option (LaunchOf × Nat)) :
    MsgsOnly k s (s.tileSend k type payload mask) := by
  unfold State.tileSend
  exact .ite (.refl k s) ⟨⟨_, rfl⟩, fun j hj => s.tile_modTile_ne _ hj, _, State.tile_modTile ..⟩

theorem State.sendPositions_msgsOnly (n : Nat) (pos : Nat → Nat) : MsgsOnly k s (s.sendPositions k n pos) :=
  State.foldl_inv (MsgsOnly k s) _ _ (fun t _ h => h.trans (t.tileSend_msgsOnly ..)) s (.refl k s)

theorem State.stageTile_msgsOnly (r : Nat) : MsgsOnly k s (s.stageTile r k) := by
  unfold State.stageTile
  split
  · next r' b n hb =>
    refine .ite (.refl k s) ?_
    extract_lets bound s1 moved s2
    have h1 : MsgsOnly k s s1 := .ite (s.tileSend_msgsOnly ..) (.refl k s)
    have h2 : MsgsOnly k s s2 := .ite (h1.trans (s1.sendPositions_msgsOnly ..)) h1
    exact .ite (h2.trans (s2.tileSend_msgsOnly ..)) h2
  · exact .refl k s

theorem State.setUpTile_msgsOnly : MsgsOnly k s (s.setUpTile k) := by
  unfold State.setUpTile
  extract_lets s1
  have h1 : MsgsOnly k s s1 := by
    unfold s1
    split
    · exact ((s.tileSend_msgsOnly ..).trans (State.sendPositions_msgsOnly ..)).trans (State.tileSend_msgsOnly ..)
    · exact .refl k s
  split
  · exact .ite (h1.trans (s1.stageTile_msgsOnly ..)) h1
  · exact h1

end

/-! ## Training -/

section
variable {s : State} {k : Nat} {i : TileInfo}

/-- A training link whose step stands in its bound. -/
def State.inStep (s : State) (k : Nat) : Prop :=
  (s.tile k).state = .training ∧ s.gated (32 + k) = false ∧ s.elapsed ≤ (s.tile k).from_ + us 100 * stepBound (s.tile k).step

theorem State.inStep.not_idle (h : s.inStep k) :
    ¬ ((s.tile k).state != .training || s.gated (32 + k) || decide ((s.tile k).from_ + us 100 * stepBound (s.tile k).step < s.elapsed)) = true := by
  obtain ⟨hst, hg, hbound⟩ := h
  simp [hst, hg, hbound]

/-- The first six steps lead to the next one. -/
theorem stepDone_of_early (h : s.inStep k) (hstep : (s.tile k).step ∈ [1, 2, 3, 4, 5, 6]) :
    ∃ x, stepDone k i s = s.modTile k (fun _ => x) ∧ x.step = (s.tile k).step + 1 ∧ x.state = .training
      ∧ x.attempts = (s.tile k).attempts := by
  have hst := h.1
  unfold stepDone
  dsimp only
  rw [if_neg h.not_idle]
  split
  · next h4 => exact ⟨{ s.tile k with step := 5, eq := i.eq }, rfl, by rw [h4], hst, rfl⟩
  split
  · next h5 => exact ⟨{ s.tile k with step := 6, blockLock := 31 }, rfl, by rw [h5], hst, rfl⟩
  · have hlt : (s.tile k).step ≠ 7 ∧ (s.tile k).step ≠ 8 := by
      simp only [List.mem_cons, List.not_mem_nil, or_false] at hstep
      omega
    rw [if_neg hlt.1, if_neg hlt.2]
    exact ⟨{ s.tile k with step := (s.tile k).step + 1 }, rfl, rfl, hst, rfl⟩

theorem stepDone_of_told (h : s.inStep k) (hstep : (s.tile k).step = 7) (hver : i.version = 1) (hcounts : i.counts / 65536 % 256 ≠ 0) :
    stepDone k i s = s.modTile k fun x => { x with step := 8, counts := i.counts % 2 ^ 24, dtx := i.dtx % 2 ^ 20
                                                   drx := i.drx % 2 ^ 20, id := i.id.take 8, profile := i.profile % 256 } := by
  unfold stepDone
  dsimp only
  rw [if_neg h.not_idle, if_neg (by omega), if_neg (by omega), if_pos hstep]
  exact if_neg (by simp [hver, hcounts])

/-- A link's state as it comes UP at an instant of NT. -/
def TileSt.raised (x : TileSt) (now : Nat) : TileSt :=
  { x with state := .up, step := 0, frame0 := now, result := 0, lock := none, pretuned := false, msgs := [], masks := [] }

/-- A link that has come UP, its unit about to join. -/
def State.raised (s : State) (k : Nat) : State :=
  (s.modTile k (TileSt.raised · s.ntNs)).setUnit (3 + k) { s.unit (3 + k) with phase := s.joinPhase }

theorem State.tile_raised (s : State) (k : Nat) : (s.raised k).tile k = (s.tile k).raised s.ntNs :=
  State.tile_modTile s k (TileSt.raised · s.ntNs)

theorem State.tile_raised_ne (s : State) {j k : Nat} (h : j ≠ k) : (s.raised k).tile j = s.tile j :=
  s.tile_modTile_ne (TileSt.raised · s.ntNs) h

theorem stepDone_of_last (h : s.inStep k) (hstep : (s.tile k).step = 8) (hheld : (s.unit (3 + k)).held = none) :
    stepDone k i s = ((s.raised k).setUpTile k).postEvent 0xC004 (items [k, leNat (s.tile k).id, (s.tile k).profile]) := by
  unfold stepDone
  dsimp only
  rw [if_neg h.not_idle, if_neg (by omega), if_neg (by omega), if_neg (by omega), if_pos hstep]
  have hnot : ¬ (s.unit (3 + k)).held.isSome = true := by simp [hheld]
  exact congrArg (fun t : State => (t.setUpTile k).postEvent 0xC004 (items [k, leNat (s.tile k).id, (s.tile k).profile])) (if_neg hnot)

theorem stepTimeout_of_again (hst : (s.tile k).state = .training) (hlate : (s.tile k).from_ + us 100 * stepBound (s.tile k).step < s.elapsed)
    (hatt : (s.tile k).attempts < 3) :
    stepTimeout k s = s.modTile k fun x => { x with attempts := x.attempts + 1, step := 1, from_ := s.elapsed } := by
  unfold stepTimeout
  dsimp only
  rw [if_neg (by simp [hst, Nat.not_le.2 hlate]), if_pos hatt]

theorem stepTimeout_of_third (hst : (s.tile k).state = .training) (hlate : (s.tile k).from_ + us 100 * stepBound (s.tile k).step < s.elapsed)
    (hatt : 3 ≤ (s.tile k).attempts) : stepTimeout k s
      = (s.modTile k fun x => { x with state := .down, result := 0x77, step := 0 }).postEvent 0xC006 (items [k, (s.tile k).step]) := by
  unfold stepTimeout
  dsimp only
  rw [if_neg (by simp [hst, Nat.not_le.2 hlate]), if_neg (by omega)]

end

/-! ## Frames, messages and faults -/

section
variable {s : State} {k : Nat}

/-- What an upstream frame tells of its link (R432). -/
def TileSt.told (x : TileSt) (ctl : List Byte) (now : Nat) : TileSt :=
  { x with lock := if bitOf (fieldLE ctl 1 1) 2 then some now else x.lock, pretuned := bitOf (fieldLE ctl 1 1) 3
           tripPending := bitOf (fieldLE ctl 1 1) 4
           rx := if bitOf (fieldLE ctl 1 1) 0 then slice ctl 4 4 else if x.inMsg then x.rx ++ slice ctl 4 4 else x.rx
           inMsg := (bitOf (fieldLE ctl 1 1) 0 || x.inMsg) && !bitOf (fieldLE ctl 1 1) 1 }

theorem upstream_tiles (ctl : List Byte) (bad : Nat) (hst : (s.tile k).state = .up) :
    (upstream k ctl bad s).tiles = (s.modTile k fun x => x.told ctl s.elapsed).tiles := by
  have hinc : (s.incBy ⟨tlCnt k, 15, 0⟩ bad).tiles = s.tiles := State.incBy_tiles ..
  have htile : (s.incBy ⟨tlCnt k, 15, 0⟩ bad).tile k = s.tile k := by rw [State.tile, hinc]; rfl
  have hstep : ((s.incBy ⟨tlCnt k, 15, 0⟩ bad).modTile k fun x => x.told ctl s.elapsed).tiles
      = (s.modTile k fun x => x.told ctl s.elapsed).tiles := by
    simp only [State.modTile, htile, hinc]
  unfold upstream
  rw [if_neg (by simp [hst])]
  dsimp only
  split
  · exact hstep
  · exact hstep

/-- An acknowledgement takes its message out (R433). -/
theorem ctlMessage_of_ack {m : TileMsg} {b : List Byte} (hst : (s.tile k).state = .up) (hin : (s.tile k).inMsg = false)
    (hrx : (s.tile k).rx = b) (hlen : 5 ≤ b.length) (htype : fieldLE b 0 1 = 0x81) (hone : fieldLE b 1 1 = 1)
    (hcrc : fieldLE b 3 2 = crc16 (b.take 3))
    (hm : (s.tile k).msgs.find? (fun m => m.type == fieldLE (slice b 2 1) 0 1) = some m) :
    ctlMessage k s = (s.modTile k fun x => { x with rx := [] }).modTile k fun x =>
      { x with msgs := x.msgs.erase m, masks := x.masks ++ m.mask.toList } := by
  subst hrx
  have hne : (s.tile k).rx.isEmpty = false := by
    cases h : (s.tile k).rx with
    | nil => rw [h] at hlen; simp at hlen
    | cons => rfl
  unfold ctlMessage
  dsimp only
  rw [if_neg (by simp [hst, hin, hne]), hone, if_neg (by simp [hcrc]; omega), if_pos (by simp [htype]), hm]

theorem ctlMessage_of_none (h : (s.tile k).state ≠ .up ∨ (s.tile k).inMsg = true ∨ (s.tile k).rx = []) : ctlMessage k s = s := by
  refine if_pos ?_
  obtain h | h | h := h <;> simp [h]

theorem ackTimeout_of_first {m : TileMsg} (hst : (s.tile k).state = .up)
    (hm : (s.tile k).msgs.find? (fun m => decide (m.at_ + us 20 ≤ s.elapsed)) = some m) (hsent : m.sent = 1) :
    ackTimeout k s = s.modTile k fun x => { x with msgs := x.msgs.map fun n => if n = m then { m with sent := 2, at_ := s.elapsed } else n } := by
  unfold ackTimeout
  dsimp only
  rw [hm]
  dsimp only
  rw [if_neg (by simp [hst]), if_pos hsent]

theorem ackTimeout_of_second {m : TileMsg} (hst : (s.tile k).state = .up)
    (hm : (s.tile k).msgs.find? (fun m => decide (m.at_ + us 20 ≤ s.elapsed)) = some m) (hsent : m.sent ≠ 1) :
    ackTimeout k s = s.tileFault k 4 0 := by
  unfold ackTimeout
  dsimp only
  rw [hm]
  dsimp only
  rw [if_neg (by simp [hst]), if_neg hsent]

theorem blockLockLost_of_up {lane : Nat} (hst : (s.tile k).state = .up) (hlane : lane ≤ 4) : blockLockLost k lane s
    = (s.modTile k fun x => { x with blockLock := x.blockLock - (if bitOf x.blockLock lane then 2 ^ lane else 0) }).tileFault k 1 lane := by
  unfold blockLockLost
  exact if_neg (by simp [hst]; omega)

/-- A link's own fault is its strobe: it recovers with nothing left to send. -/
theorem State.tileFault_of_up {cause lane : Nat} (hk : k ≤ 11) (hst : (s.tile k).state = .up) (hheld : (s.unit (3 + k)).held = none) :
    ((s.tileFault k cause lane).unit (3 + k)).phase = .recovering ∧ ((s.tileFault k cause lane).tile k).state = .recovering
      ∧ ((s.tileFault k cause lane).tile k).msgs = [] ∧ (∀ u, u ≠ 3 + k → (s.tileFault k cause lane).unit u = s.unit u)
      ∧ ∀ j, j ≠ k → (s.tileFault k cause lane).tile j = s.tile j := by
  have hfault : s.tileFault k cause lane = s.strobe (.link k) (9 + cause) lane := if_neg (by simp [hst])
  obtain ⟨x, t, hx, hbefore, hafter⟩ := s.strobe_contained (u := .link k) (9 + cause) lane (by simp [FUnit.exists_]; omega) hheld
  have hclear : (t.clearUnit (.link k) (9 + cause) lane).units = t.units
      ∧ ∃ y : TileSt, y.state = .recovering ∧ y.msgs = [] ∧ (t.clearUnit (.link k) (9 + cause) lane).tiles = (t.modTile k fun _ => y).tiles := by
    show (t.clearTile k (9 + cause)).units = _ ∧ ∃ y : TileSt, _ ∧ _ ∧ (t.clearTile k (9 + cause)).tiles = _
    unfold State.clearTile
    dsimp only
    split
    · exact ⟨State.postEvent_units .., _, rfl, rfl, State.postEvent_tiles ..⟩
    · exact ⟨rfl, _, rfl, rfl, rfl⟩
  obtain ⟨hunits, y, hy, hmsgs, htiles⟩ := hclear
  have hu : (s.tileFault k cause lane).units = (s.setUnit (3 + k) x).units := by
    rw [hfault, hafter.units, hunits, hbefore.units]
    rfl
  have ht : (s.tileFault k cause lane).tiles = (s.modTile k fun _ => y).tiles := by
    rw [hfault, hafter.tiles, htiles]
    show Tab.put t.tiles k y = Tab.put s.tiles k y
    rw [hbefore.tiles]
    rfl
  have hunit (u : Nat) : (s.tileFault k cause lane).unit u = (s.setUnit (3 + k) x).unit u := by rw [State.unit, hu, State.unit]
  have htile (j : Nat) : (s.tileFault k cause lane).tile j = (s.modTile k fun _ => y).tile j := by rw [State.tile, ht, State.tile]
  refine ⟨?_, ?_, ?_, fun u hne => ?_, fun j hj => ?_⟩
  · rw [hunit, State.unit_setUnit, hx]
  · rw [htile, State.tile_modTile, hy]
  · rw [htile, State.tile_modTile, hmsgs]
  · rw [hunit, State.unit_setUnit_ne _ _ hne]
  · rw [htile, State.tile_modTile_ne _ _ hj]

end

/-- Settles O58: the writes of TL_k_CTRL, the steps of training, the frames and messages of a link that is UP, and its faults. -/
theorem tileLinks : Obligations.TileLinks := by
  refine ⟨fun r k v s hk hm hc => ⟨fun hp e => ?_, fun hp hv hst => ?_, fun hp hv hst => ?_, fun hp hv hst hb => ?_, fun hp hv hst e => ?_⟩,
    fun k i s hst hg hbound => ⟨fun hstep => ?_, fun hstep hver hcounts => ?_, fun hstep hheld => ?_⟩,
    fun k s hst hlate => ⟨fun hatt => ?_, fun hatt => ?_⟩, fun k ctl bad s hst => ?_,
    fun k m b s hst hin hrx hlen htype hone hcrc hm => ?_, fun k s h => congrArg Host.Outcome.next (ctlMessage_of_none h),
    fun k m s hst hm hsent => ?_, fun k lane m c s hk hst hheld hc => ?_, fun r of_ l s hl => ?_⟩
  case refine_1 =>
    exact ⟨congrArg Host.Outcome.next (tileWrite_of_poly hk hm hc hp), congrArg Host.Outcome.next (tileWrite_of_poly hk hm hc hp),
      congrArg Host.Outcome.next (tileWrite_of_poly hk hm hc hp)⟩
  case refine_2 =>
    have htile : ((s.tlSet k v).startTraining k).tile k = { s.tile k with
        state := .training, attempts := 1, step := 1, from_ := s.elapsed, result := 0 } := State.tile_modTile ..
    refine ⟨_, congrArg Host.Outcome.next (trainWrite_of_down hk hm hc hp hv hst), rfl, congrArg TileSt.state htile,
      congrArg TileSt.step htile, congrArg TileSt.attempts htile, s.get_tlSet k v, fun j hj => ?_, fun a ha => s.reg_tlSet_ne k v ha⟩
    show ((s.tlSet k v).startTraining k).tile j = (s.tlSet k v).tile j
    exact State.tile_modTile_ne _ _ hj
  case refine_3 =>
    have htile : ((s.tlSet k v).modTile k TileSt.testing).tile k = (s.tile k).testing := State.tile_modTile ..
    refine ⟨_, congrArg Host.Outcome.next (prbsStart_of_down hk hm hc hp hv hst), rfl, congrArg TileSt.state htile,
      congrArg TileSt.result htile, s.get_tlSet k v, fun j hj => ?_⟩
    exact (s.tlSet k v).tile_modTile_ne _ hj
  case refine_4 =>
    exact ⟨_, congrArg Host.Outcome.next (prbsStart_of_bound hk hm hc hp hv hst hb),
      (s.tlSet k v).tile_modTile k fun x => { x with result := 0x76 }, rfl⟩
  case refine_5 =>
    have htiles (j : Nat) (t : State) (n : Nat) (b : List Byte) : ({ t.postEvent n b with answer := some Answer.done } : State).tile j = t.tile j := by
      show Tab.getD (t.postEvent n b).tiles j {} = _
      rw [State.postEvent_tiles]
      rfl
    refine ⟨_, congrArg Host.Outcome.next (prbsStop_of_test hk hm hc hp hv hst e), rfl, ?_, ?_, fun j hj => ?_⟩
    · rw [htiles, State.tile_modTile]
    · rw [htiles, State.tile_modTile]
      rfl
    · rw [htiles, State.tile_modTile_ne _ _ hj]
      rfl
  case refine_6 =>
    obtain ⟨x, hrun, hx, hxst, hxatt⟩ := stepDone_of_early (i := i) ⟨hst, hg, hbound⟩ hstep
    refine ⟨_, congrArg Host.Outcome.next hrun, ?_, ?_, ?_, fun j hj => s.tile_modTile_ne _ hj, rfl⟩ <;> rw [State.tile_modTile]
    · exact hx
    · exact hxst
    · exact hxatt
  case refine_7 =>
    refine ⟨_, congrArg Host.Outcome.next (stepDone_of_told ⟨hst, hg, hbound⟩ hstep hver hcounts), ?_, ?_, ?_,
      fun j hj => s.tile_modTile_ne _ hj⟩ <;> rw [State.tile_modTile]
  case refine_8 =>
    obtain ⟨⟨T, hT⟩, hothers, m, hself⟩ := (s.raised k).setUpTile_msgsOnly k
    have htiles (j : Nat) (t : State) (n : Nat) (b : List Byte) : (t.postEvent n b).tile j = t.tile j := by
      rw [State.tile, State.postEvent_tiles, State.tile]
    refine ⟨_, congrArg Host.Outcome.next (stepDone_of_last ⟨hst, hg, hbound⟩ hstep hheld), ?_, ?_, ?_, fun j hj => ?_⟩
    · rw [htiles, hself, State.tile_raised]
      rfl
    · rw [htiles, hself, State.tile_raised]
      rfl
    · rw [State.unit, State.postEvent_units, hT]
      exact congrArg UnitSt.phase (State.unit_setUnit _ (3 + k) { s.unit (3 + k) with phase := s.joinPhase })
    · rw [htiles, hothers j hj, State.tile_raised_ne _ hj]
  case refine_9 =>
    refine ⟨_, congrArg Host.Outcome.next (stepTimeout_of_again hst hlate hatt), ?_, ?_, ?_, rfl⟩ <;> rw [State.tile_modTile]
    exact hst
  case refine_10 =>
    refine ⟨_, congrArg Host.Outcome.next (stepTimeout_of_third hst hlate hatt), ?_, ?_⟩ <;>
      rw [State.tile, State.postEvent_tiles] <;> exact congrArg _ (Tab.getD_put_self ..)
  case refine_11 =>
    have htiles := upstream_tiles ctl bad hst
    have hself : (upstream k ctl bad s).tile k = (s.tile k).told ctl s.elapsed := by
      rw [State.tile, htiles]
      exact Tab.getD_put_self ..
    refine ⟨_, rfl, ?_, ?_, ?_, ?_, fun hlock => ?_, fun hlock => ?_, fun j hj => ?_⟩
    · exact congrArg TileSt.pretuned hself
    · exact congrArg TileSt.tripPending hself
    · exact (congrArg TileSt.msgs hself).trans rfl
    · exact (congrArg TileSt.state hself).trans hst
    · exact (congrArg TileSt.lock hself).trans (if_pos hlock)
    · exact (congrArg TileSt.lock hself).trans (if_neg (by simp [hlock]))
    · show (upstream k ctl bad s).tile j = s.tile j
      rw [State.tile, htiles]
      exact Tab.getD_put_ne _ _ _ hj
  case refine_12 =>
    refine ⟨_, congrArg Host.Outcome.next (ctlMessage_of_ack hst hin hrx hlen htype hone hcrc hm), ?_, ?_, fun j hj => ?_, rfl⟩
    · rw [State.tile_modTile, State.tile_modTile]
    · rw [State.tile_modTile, State.tile_modTile]
    · rw [State.tile_modTile_ne _ _ hj, State.tile_modTile_ne _ _ hj]
  case refine_13 =>
    refine ⟨_, congrArg Host.Outcome.next (ackTimeout_of_first hst hm hsent), ?_, ?_, rfl, rfl⟩ <;> rw [State.tile_modTile]
    · exact List.mem_map.2 ⟨m, List.mem_of_find?_eq_some hm, if_pos rfl⟩
    · exact List.length_map ..
  case refine_14 =>
    obtain ⟨rfl, hm, hsent⟩ | ⟨rfl, hlane⟩ | rfl := hc
    · exact ⟨_, congrArg Host.Outcome.next (ackTimeout_of_second hst hm hsent), State.tileFault_of_up hk hst hheld⟩
    · have hst' : ((s.modTile k fun x => { x with blockLock := x.blockLock - (if bitOf x.blockLock lane then 2 ^ lane else 0) }).tile k).state
          = .up := by rw [State.tile_modTile]; exact hst
      obtain ⟨hphase, hstate, hmsgs, hunits, htiles⟩ := State.tileFault_of_up (cause := 1) (lane := lane) hk hst' hheld
      refine ⟨_, congrArg Host.Outcome.next (blockLockLost_of_up hst hlane), hphase, hstate, hmsgs, hunits, fun j hj => ?_⟩
      rw [htiles j hj, State.tile_modTile_ne _ _ hj]
    · exact ⟨_, rfl, State.tileFault_of_up hk hst hheld⟩
  case refine_15 =>
    refine congrArg Host.Outcome.next ?_
    unfold maskSend
    rw [hl]

end Sys2Proof.Machine

end

section
/-! PROOFS. The DRAM controller (15 R444 to R457). -/

namespace Sys2Proof.Machine

/-! ## Channels -/

theorem State.dch_modDch_ne (s : State) {c d : Nat} (g : DramCh → DramCh) (h : d ≠ c) : (s.modDch c g).dch d = s.dch d :=
  Tab.getD_put_ne _ _ _ h

theorem State.dch_of_dram {s t : State} (h : t.dram = s.dram) (c : Nat) : t.dch c = s.dch c := by
  rw [State.dch, h, State.dch]

/-! ## Requests -/

section
variable {s : State} {p g off : Nat} {w : Bool} {b : List Byte}

/-- A request that names an existing granule, and writes some of its bytes where it writes. -/
def State.asks (s : State) (p g : Nat) (w : Bool) (off : Nat) (b : List Byte) : Prop :=
  p ≤ 7 ∧ g < s.granuleCount ∧ (w = true → b ≠ [] ∧ off + b.length ≤ 64)

theorem State.asks.not_idle (h : s.asks p g w off b) :
    ¬ (decide (7 < p) || decide (s.granuleCount ≤ g) || (w && (b.isEmpty || decide (64 < off + b.length)))) = true := by
  obtain ⟨hp, hg, hw⟩ := h
  cases w with
  | false => simp [hp, hg]
  | true =>
    obtain ⟨hb, hlen⟩ := hw rfl
    simp [hp, hg, hb, hlen]

theorem dramRequest_of_gated (h : s.asks p g w off b) (hg : s.gated (20 + channelOf g) = true) :
    dramRequest_ p g w off b s = s.dramAnswer p g 0x0D [] := by
  unfold dramRequest_
  dsimp only
  rw [if_neg h.not_idle, if_pos hg]

theorem dramRequest_of_out (h : s.asks p g w off b) (hg : s.gated (20 + channelOf g) = false)
    (hserv : s.inService (.dram (channelOf g)) = false) :
    dramRequest_ p g w off b s = (s.refuseBy (portUnit p)).dramAnswer p g 0x7D [] := by
  unfold dramRequest_
  dsimp only
  rw [if_neg h.not_idle, if_neg (by simp [hg]), if_pos (by simp [hserv])]

/-- A request as its channel keeps it. -/
def State.reqOf (s : State) (p g : Nat) (w : Bool) (off : Nat) (b : List Byte) : DramReq :=
  ⟨p, g, bankOf g, rowOf g, w, decide (b.length = 64), s.elapsed, s.dram.nextOrder, false, off, b⟩

/-- A request has taken an entry of its channel. -/
def State.queued (s : State) (c : Nat) (q : DramReq) : State :=
  { s with dram := { (s.modDch c fun x => { x with queue := x.queue ++ [q] }).dram with nextOrder := s.dram.nextOrder + 1 } }

theorem State.dch_queued {c : Nat} (q : DramReq) :
    (s.queued c q).dch c = { s.dch c with queue := (s.dch c).queue ++ [q] } :=
  s.dch_modDch c fun x => { x with queue := x.queue ++ [q] }

theorem State.dch_queued_ne {c d : Nat} (q : DramReq) (h : d ≠ c) : (s.queued c q).dch d = s.dch d :=
  s.dch_modDch_ne (fun x => { x with queue := x.queue ++ [q] }) h

theorem dramRequest_of_room (h : s.asks p g w off b) (hg : s.gated (20 + channelOf g) = false)
    (hserv : s.inService (.dram (channelOf g)) = true) (hroom : (s.dch (channelOf g)).room p = true)
    (hwait : Tab.getD s.dram.waiting (channelOf g * 8 + p) [] = []) :
    dramRequest_ p g w off b s = s.queued (channelOf g) (s.reqOf p g w off b) := by
  unfold dramRequest_
  dsimp only
  rw [if_neg h.not_idle, if_neg (by simp [hg]), if_neg (by simp [hserv]), if_pos (by simp [hroom, hwait])]
  rfl

end

/-! ## Commands and returns -/

section
variable (s : State) (c : Nat)

/-- What no request that takes its entry or leaves it touches: the log of errors, the granules and the answers. -/
def State.dramKept (s : State) : List DramErr × Nat × Tab (List Byte) × Nat × Tab DramResp :=
  (s.dram.log, s.dram.written, s.dram.granules, s.dram.gen, s.dram.resp)

theorem State.kept_fields {s t : State} (h : t.dramKept = s.dramKept) : t.dram.log = s.dram.log ∧ t.dram.written = s.dram.written
    ∧ t.dram.granules = s.dram.granules ∧ t.dram.gen = s.dram.gen ∧ t.dram.resp = s.dram.resp := by
  simpa only [State.dramKept, Prod.mk.injEq] using h

theorem State.granule_congr {s t : State} (h : t.dramKept = s.dramKept) (g : Nat) : t.granule g = s.granule g := by
  obtain ⟨-, -, hgranules, hgen, -⟩ := State.kept_fields h
  rw [State.granule, hgranules, hgen, State.granule]

theorem State.dramFill_kept : (s.dramFill c).dramKept = s.dramKept :=
  State.foldl_proj (fun t p => by
    dsimp only
    split
    · split <;> rfl
    · rfl) _ s

theorem State.dramFill_of_idle (h : ∀ p, p < 8 → Tab.getD s.dram.waiting (c * 8 + p) [] = []) : s.dramFill c = s := by
  refine List.foldlRecOn (motive := fun t => t = s) _ _ rfl fun t ht p hp => ?_
  subst ht
  dsimp only
  rw [h p (List.mem_range.1 hp)]

/-- A request that leaves its channel: its entry, its port's latency, and the count where it is overdue. -/
def State.dramLeft (s : State) (c : Nat) (q : DramReq) : State :=
  let s1 := s.modDch c fun x => { x with queue := x.queue.filter (fun o => o.order != q.order) }
  let s2 := { s1 with dram := { s1.dram with
    latNow := Tab.put s1.dram.latNow q.port (Nat.max (s.ageOf q / 6) (Tab.getD s1.dram.latNow q.port 0)) } }
  if decide (6 * s.dmcTarget q.port ≤ s.ageOf q) then
    { s2.inc ⟨0x3C00040 + 4 * q.port, 15, 0⟩ with dram := { s2.dram with
      overdue := Tab.put s2.dram.overdue q.port (Tab.getD s2.dram.overdue q.port 0 + 1) } }
  else s2

theorem State.dramDone_eq (q : DramReq) : s.dramDone c q = (s.dramLeft c q).dramFill c := rfl

theorem State.dramLeft_kept (q : DramReq) : (s.dramLeft c q).dramKept = s.dramKept := by
  unfold State.dramLeft
  dsimp only
  split <;> rfl

theorem State.dramDone_kept (q : DramReq) : (s.dramDone c q).dramKept = s.dramKept := by
  rw [State.dramDone_eq, State.dramFill_kept, State.dramLeft_kept]

theorem State.dramLeft_chans (q : DramReq) : (s.dramLeft c q).dram.chans
    = (s.modDch c fun x => { x with queue := x.queue.filter (fun o => o.order != q.order) }).dram.chans := by
  unfold State.dramLeft
  dsimp only
  split <;> rfl

theorem State.dramLeft_waiting (q : DramReq) : (s.dramLeft c q).dram.waiting = s.dram.waiting := by
  unfold State.dramLeft
  dsimp only
  split <;> rfl

/-- With nothing waiting at the ports an entry that is left stays free. -/
theorem State.dch_dramDone_of_idle (q : DramReq) (h : ∀ p, p < 8 → Tab.getD s.dram.waiting (c * 8 + p) [] = []) (d : Nat) :
    (s.dramDone c q).dch d = (s.modDch c fun x => { x with queue := x.queue.filter (fun o => o.order != q.order) }).dch d := by
  rw [State.dramDone_eq, State.dramFill_of_idle _ _ fun p hp => by rw [State.dramLeft_waiting, h p hp]]
  exact congrArg (fun t => Tab.getD t d {}) (s.dramLeft_chans c q)

end

/-! ## Column commands -/

section
variable {s : State} {c banks : Nat} {q : DramReq}

/-- A channel has issued a request: the request's row is open in its bank, and the request is sent. -/
def State.issued (s : State) (c : Nat) (q : DramReq) : State :=
  let x := s.dch c
  let hit := if s.z5Order then x.z5Hit q else x.hit q
  let other := x.queue.any fun o => !o.sent && o.bank == q.bank && o.row != q.row
  s.modDch c fun x =>
    { x with rows := Tab.put x.rows q.bank q.row
             hits := Tab.put x.hits q.bank (if hit && other then Tab.getD x.hits q.bank 0 + 1 else 0)
             queue := x.queue.map fun o => if o.order = q.order then
               { o with sent := true, data := if o.write then o.data else s.granule o.granule } else o }

theorem issue_of_pick (hserv : s.inService (.dram c) = true) (hpause : (s.dch c).pause = none) (hpick : s.dramPick c banks = some q) :
    issue c banks s = if q.write && q.whole then
      (((s.issued c q).granuleWrite q.granule 0 q.data).dramAnswer q.port q.granule 0 []).dramDone c q else s.issued c q := by
  unfold issue
  dsimp only
  rw [if_neg (by simp [hserv, hpause]), hpick]
  rfl

theorem issue_of_idle (h : s.inService (.dram c) = false ∨ (s.dch c).pause ≠ none ∨ s.dramPick c banks = none) : issue c banks s = s := by
  unfold issue
  dsimp only
  by_cases hidle : (!(s.inService (.dram c)) || (s.dch c).pause.isSome) = true
  · exact if_pos hidle
  · rw [if_neg hidle]
    simp only [Bool.or_eq_true, Bool.not_eq_true', not_or, Bool.not_eq_false, Option.not_isSome_iff_eq_none] at hidle
    obtain ⟨hserv, hpause⟩ := hidle
    rw [(h.resolve_left (by simp [hserv])).resolve_left (by simp [hpause])]

theorem State.dch_issued : (s.issued c q).dch c = { s.dch c with
    rows := Tab.put (s.dch c).rows q.bank q.row
    hits := ((s.issued c q).dch c).hits
    queue := (s.dch c).queue.map fun o => if o.order = q.order then
      { o with sent := true, data := if o.write then o.data else s.granule o.granule } else o } := by
  rw [State.issued]
  dsimp only
  rw [State.dch_modDch]

theorem State.dch_issued_ne {d : Nat} (h : d ≠ c) : (s.issued c q).dch d = s.dch d := s.dch_modDch_ne _ h

theorem State.rows_issued : Tab.get? ((s.issued c q).dch c).rows q.bank = some q.row := by
  rw [State.dch_issued]
  exact Tab.get?_put_self ..

/-- A write of a whole granule has issued: the granule holds its bytes, and it is answered (R450). -/
def State.wrote (s : State) (c : Nat) (q : DramReq) : State :=
  ((s.issued c q).granuleWrite q.granule 0 q.data).dramAnswer q.port q.granule 0 []

theorem State.dch_wrote (d : Nat) : (s.wrote c q).dch d = (s.issued c q).dch d := rfl

theorem State.dch_wrote_done (hidle : ∀ p, p < 8 → Tab.getD s.dram.waiting (c * 8 + p) [] = []) (d : Nat) :
    ((s.wrote c q).dramDone c q).dch d
      = ((s.wrote c q).modDch c fun x => { x with queue := x.queue.filter (fun o => o.order != q.order) }).dch d :=
  (s.wrote c q).dch_dramDone_of_idle c q hidle d

theorem State.granule_granuleWrite_whole (g : Nat) (b : List Byte) (hb : b.length = 64) (hg : (s.granule g).length = 64) :
    (s.granuleWrite g 0 b).granule g = b := by
  rw [State.granule, State.granuleWrite, Tab.get?_put_self, Option.getD_some, List.take_zero, List.nil_append,
    List.drop_eq_nil_of_le (by omega), List.append_nil]

theorem State.granule_granuleWrite_ne {g g' : Nat} (off : Nat) (b : List Byte) (h : g' ≠ g) :
    (s.granuleWrite g off b).granule g' = s.granule g' := by
  unfold State.granule
  exact congrArg (fun o => Option.getD o _) (Tab.get?_put_ne _ _ h)

/-- A read, or a write of a part, is sent and waits for its data. -/
theorem issue_sent (hserv : s.inService (.dram c) = true) (hpause : (s.dch c).pause = none) (hpick : s.dramPick c banks = some q)
    (hq : q.write = false ∨ q.whole = false) : issue c banks s = s.issued c q := by
  rw [issue_of_pick hserv hpause hpick]
  exact if_neg (by rcases hq with h | h <;> simp [h])

/-- A write of a whole granule is done as it issues. -/
theorem issue_wrote (hserv : s.inService (.dram c) = true) (hpause : (s.dch c).pause = none) (hpick : s.dramPick c banks = some q)
    (hw : q.write = true) (hwhole : q.whole = true) : issue c banks s = (s.wrote c q).dramDone c q := by
  rw [issue_of_pick hserv hpause hpick]
  exact if_pos (by simp [hw, hwhole])

theorem issue_wrote_spec (hserv : s.inService (.dram c) = true) (hpause : (s.dch c).pause = none) (hpick : s.dramPick c banks = some q)
    (hw : q.write = true) (hwhole : q.whole = true) (hidle : ∀ p, p < 8 → Tab.getD s.dram.waiting (c * 8 + p) [] = []) :
    ∃ t, exec (.dramCommandIssue c banks) s = .next t ∧ Tab.get? (t.dch c).rows q.bank = some q.row
      ∧ (∀ o ∈ (t.dch c).queue, o.order ≠ q.order) ∧ (∀ o ∈ (s.dch c).queue, o.order ≠ q.order → o ∈ (t.dch c).queue)
      ∧ (q.data.length = 64 → (s.granule q.granule).length = 64 → t.granule q.granule = q.data)
      ∧ (∀ g, g ≠ q.granule → t.granule g = s.granule g) ∧ Tab.get? t.dram.resp q.port = some ⟨q.granule, 0, []⟩
      ∧ ∀ d, d ≠ c → t.dch d = s.dch d := by
  have hch : ((s.wrote c q).dramDone c q).dch c
      = { (s.issued c q).dch c with queue := ((s.issued c q).dch c).queue.filter (fun o => o.order != q.order) } := by
    rw [State.dch_wrote_done hidle, State.dch_modDch, State.dch_wrote]
  have hgran (g : Nat) : ((s.wrote c q).dramDone c q).granule g = ((s.issued c q).granuleWrite q.granule 0 q.data).granule g :=
    State.granule_congr ((s.wrote c q).dramDone_kept c q) g
  have hsame (g : Nat) : (s.issued c q).granule g = s.granule g := rfl
  refine ⟨_, congrArg Host.Outcome.next (issue_wrote hserv hpause hpick hw hwhole), ?_, ?_, ?_, ?_, ?_, ?_, ?_⟩
  · rw [hch]
    exact State.rows_issued
  · intro o ho
    rw [hch] at ho
    simpa using (List.mem_filter.mp ho).2
  · intro o ho hne
    rw [hch, State.dch_issued]
    exact List.mem_filter.mpr ⟨List.mem_map.mpr ⟨o, ho, if_neg hne⟩, by simpa using hne⟩
  · intro hlen hg
    rw [hgran, State.granule_granuleWrite_whole _ _ hlen ((congrArg List.length (hsame _)).trans hg)]
  · intro g hg
    rw [hgran, State.granule_granuleWrite_ne _ _ hg, hsame]
  · obtain ⟨-, -, -, -, hresp⟩ := State.kept_fields ((s.wrote c q).dramDone_kept c q)
    rw [hresp]
    exact Tab.get?_put_self ..
  · intro d hd
    rw [State.dch_wrote_done hidle, State.dch_modDch_ne _ _ hd, State.dch_wrote, State.dch_issued_ne hd]

end

/-! ## Read returns -/

section
variable {s : State} {c g sym rank sc : Nat} {q : DramReq}

/-- The data of a request came back good, or came back corrected: it is answered, and a write of a part is done (R446). -/
def State.returned (s : State) (c g : Nat) (q : DramReq) : State :=
  ((if q.write then s.granuleWrite g q.off q.data else s).dramAnswer q.port g 0 (if q.write then [] else q.data)).dramDone c q

/-- What is logged of data that could not be corrected (R456). -/
def State.uncorrected (s : State) (c g sym rank sc : Nat) (q : DramReq) : DramErr :=
  ⟨c, rank % 2, sc % 2, q.bank % 16, q.row % 2 ^ 18, q.port, colOf g % 2 ^ 16, if sym = 2 || sym = 3 then sym else 0, s.stamp⟩

theorem readReturn_eq (h : (s.dch c).queue.find? (fun q => q.sent && q.granule == g) = some q) :
    readReturn c g sym rank sc s = if sym = 0 then s.returned c g q
      else if sym = 1 then (s.returned c g q).inc ⟨0x3C00080 + 4 * c, 15, 0⟩
      else ((s.dramAnswer q.port g 0x7C []).dramDone c q).dramError (s.uncorrected c g sym rank sc q) := by
  unfold readReturn
  rw [h]
  rfl

theorem State.dramError_dram (t : State) (e : DramErr) :
    (t.dramError e).dram = { t.dram with log := (e :: t.dram.log).take 16, written := (t.dram.written + 1) % 2 ^ 32 } := by
  unfold State.dramError
  dsimp only
  rw [State.postEvent_dram, State.inc_dram]

theorem readReturn_uncorrected (h : (s.dch c).queue.find? (fun q => q.sent && q.granule == g) = some q) (hsym : 2 ≤ sym) :
    ∃ t e, exec (.dramReadReturn c g sym rank sc) s = .next t ∧ t.dram.log = (e :: s.dram.log).take 16
      ∧ e.channel = c ∧ e.rank = rank % 2 ∧ e.subch = sc % 2 ∧ e.bank = q.bank % 16 ∧ e.port = q.port
      ∧ Tab.get? t.dram.resp q.port = some ⟨g, 0x7C, []⟩ ∧ t.dram.granules = s.dram.granules
      ∧ t.dram.written = (s.dram.written + 1) % 2 ^ 32 := by
  obtain ⟨hlog, hwritten, hgranules, -, hresp⟩ := State.kept_fields ((s.dramAnswer q.port g 0x7C []).dramDone_kept c q)
  have heq : readReturn c g sym rank sc s
      = ((s.dramAnswer q.port g 0x7C []).dramDone c q).dramError (s.uncorrected c g sym rank sc q) := by
    rw [readReturn_eq h, if_neg (by omega), if_neg (by omega)]
  have hdram := ((s.dramAnswer q.port g 0x7C []).dramDone c q).dramError_dram (s.uncorrected c g sym rank sc q)
  generalize (s.dramAnswer q.port g 0x7C []).dramDone c q = u at heq hdram hlog hwritten hgranules hresp
  refine ⟨_, s.uncorrected c g sym rank sc q, congrArg Host.Outcome.next heq, ?_, rfl, rfl, rfl, rfl, rfl, ?_, ?_, ?_⟩ <;> rw [hdram]
  · exact congrArg (fun l => (_ :: l).take 16) hlog
  · exact (congrArg (fun r => Tab.get? r q.port) hresp).trans (Tab.get?_put_self ..)
  · exact hgranules
  · exact congrArg (fun n => (n + 1) % 2 ^ 32) hwritten

end

/-! ## Pauses -/

section
variable {s : State} {c t0 : Nat} {drift : Int}

theorem pauseStart_of_due (hserv : s.inService (.dram c) = true) (hfree : ∀ d, d < 4 ∨ d = c → (s.dch d).pause = none)
    (hdue : (s.dch c).checkAt ≤ s.elapsed)
    (hurgent : (∀ q ∈ (s.dch c).queue, q.sent = true ∨ s.urgency q ≠ 3) ∨ (s.dch c).checkAt + us 50 ≤ s.elapsed) :
    pauseStart c s = s.modDch c fun x =>
      { x with pause := some s.elapsed, checkAt := (s.dch c).checkAt + ms 4, extra := x.extra - 1 } := by
  have hother : ((List.range 4).any fun d => d != c && ((s.dch d).pause).isSome) = false :=
    List.any_eq_false.mpr fun d hd => by simp [hfree d (.inl (List.mem_range.mp hd))]
  have hwait : ((s.dch c).queue.any (fun q => !q.sent && s.urgency q == 3) && decide (s.elapsed < (s.dch c).checkAt + us 50)) = false := by
    rcases hurgent with h | h
    · rw [Bool.and_eq_false_iff]
      exact .inl (List.any_eq_false.mpr fun q hq => by rcases h q hq with h | h <;> simp [h])
    · simp [h]
  unfold pauseStart
  dsimp only
  exact if_neg (by simp only [hserv, hfree c (.inr rfl), hother, hwait]; simp [hdue])

/-- A pause that ends as the devices report it: its drift, and the longest pause so far. -/
def State.pauseOver (s : State) (c : Nat) (drift : Int) (ns : Nat) : State :=
  s.modDch c fun x => { x with pause := none, drift := clampS 8 drift, pauseMax := Nat.max x.pauseMax (Nat.min ns 65535) }

theorem pauseEnd_eq (h : (s.dch c).pause = some t0) : pauseEnd c drift false s =
    if 1200 < (s.elapsed - t0) * 5 / 3 then
      (s.pauseOver c drift ((s.elapsed - t0) * 5 / 3)).strobe (.dram c) 0x0F ((s.elapsed - t0) * 5 / 3)
    else s.pauseOver c drift ((s.elapsed - t0) * 5 / 3) := by
  unfold pauseEnd
  rw [h]
  rfl

/-- What the discard of a channel leaves in its place. -/
theorem State.clearDram_chans : (s.clearDram c).dram.chans = (s.modDch c fun x =>
    { x with queue := [], rows := [], hits := [], pause := none, selfRefresh := true, retraining := true }).dram.chans :=
  State.foldl_proj (p := fun t => t.dram.chans) (g := fun t (q : DramReq) => t.dramAnswer q.port q.granule 0x7D []) (fun _ _ => rfl) _ _

theorem State.clearDram_units : (s.clearDram c).units = s.units :=
  State.foldl_proj (p := State.units) (g := fun t (q : DramReq) => t.dramAnswer q.port q.granule 0x7D []) (fun _ _ => rfl) _ _

theorem State.dch_clearDram : (s.clearDram c).dch c =
    { s.dch c with queue := [], rows := [], hits := [], pause := none, selfRefresh := true, retraining := true } := by
  rw [State.dch, State.clearDram_chans, ← State.dch, State.dch_modDch]

theorem State.dch_clearDram_ne {d : Nat} (h : d ≠ c) : (s.clearDram c).dch d = s.dch d := by
  rw [State.dch, State.clearDram_chans, ← State.dch, State.dch_modDch_ne _ _ h]

/-- A channel's fault: the unit recovers, and its channel has nothing queued and is to be trained again (R457). -/
theorem State.strobe_dram (s : State) (cause detail : Nat) (hc : c < 4) (hheld : (s.unit (21 + c)).held = none) :
    ((s.strobe (.dram c) cause detail).unit (21 + c)).phase = .recovering ∧ ((s.strobe (.dram c) cause detail).dch c).queue = []
      ∧ ((s.strobe (.dram c) cause detail).dch c).retraining = true
      ∧ ∀ d, d ≠ c → (s.strobe (.dram c) cause detail).dch d = s.dch d := by
  obtain ⟨x, t, hx, hbefore, hafter⟩ := s.strobe_contained (u := .dram c) cause detail (by simp [FUnit.exists_]; omega) hheld
  have hch (d : Nat) : (s.strobe (.dram c) cause detail).dch d = (t.clearDram c).dch d := State.dch_of_dram hafter.dram d
  have hold (d : Nat) : t.dch d = s.dch d := State.dch_of_dram hbefore.dram d
  have hunits : (s.strobe (.dram c) cause detail).units = (s.setUnit (21 + c) x).units :=
    hafter.units.trans (t.clearDram_units.trans hbefore.units)
  refine ⟨?_, ?_, ?_, fun d hd => ?_⟩
  · rw [State.unit, hunits, ← State.unit, State.unit_setUnit, hx]
  · rw [hch, State.dch_clearDram]
  · rw [hch, State.dch_clearDram]
  · rw [hch, State.dch_clearDram_ne hd, hold]

end

/-! ## Training -/

section
variable {s : State} {c i : Nat}

/-- A channel that is trained at both rates, before its unit joins. -/
def State.chTrained (s : State) (c : Nat) : State :=
  s.modDch c fun x => { x with trained := true, selfRefresh := false, retraining := false, checkAt := s.firstPause c }

theorem State.dramTrained_eq : s.dramTrained c =
    if (s.unit (21 + c)).held.isSome || (s.unit (21 + c)).phase == .service then s.chTrained c
    else (s.chTrained c).setUnit (21 + c) { s.unit (21 + c) with phase := s.joinPhase } := rfl

theorem State.dramTrained_dram : (s.dramTrained c).dram = (s.chTrained c).dram := by
  rw [State.dramTrained_eq]
  split <;> rfl

theorem State.dch_dramTrained : (s.dramTrained c).dch c =
    { s.dch c with trained := true, selfRefresh := false, retraining := false, checkAt := s.firstPause c } := by
  rw [State.dch_of_dram State.dramTrained_dram, State.chTrained, State.dch_modDch]

theorem State.dch_dramTrained_ne (h : i ≠ c) : (s.dramTrained c).dch i = s.dch i := by
  rw [State.dch_of_dram State.dramTrained_dram, State.chTrained, State.dch_modDch_ne _ _ h]

theorem State.dramTrained_regs : (s.dramTrained c).regs = s.regs := by
  rw [State.dramTrained_eq]
  split <;> rfl

theorem State.dramTrained_boot : (s.dramTrained c).boot = s.boot := by
  rw [State.dramTrained_eq]
  split <;> rfl

theorem State.dramTrained_grid : (s.dramTrained c).grid = s.grid := by
  rw [State.dramTrained_eq]
  split <;> rfl

theorem State.unit_dramTrained (hheld : (s.unit (21 + c)).held = none) (hphase : (s.unit (21 + c)).phase ≠ .service) :
    (s.dramTrained c).unit (21 + c) = { s.unit (21 + c) with phase := s.joinPhase } := by
  rw [State.dramTrained_eq, if_neg (by simp [hheld, hphase]), State.unit_setUnit]

theorem State.unit_dramTrained_of_service (hphase : (s.unit (21 + c)).phase = .service) :
    (s.dramTrained c).unit (21 + c) = s.unit (21 + c) := by
  rw [State.dramTrained_eq, if_pos (by simp [hphase])]
  rfl

theorem State.unit_dramTrained_ne (h : i ≠ 21 + c) : (s.dramTrained c).unit i = s.unit i := by
  rw [State.dramTrained_eq]
  split
  · rfl
  · exact State.unit_setUnit_ne (s.chTrained c) _ h

end

/-! ### All four channels -/

section
variable {s : State} {fast slow c : Nat}

theorem State.dramFirst_regs : s.dramFirst.regs = s.regs := by
  unfold State.dramFirst
  split <;> rfl

theorem State.dramFirst_boot : s.dramFirst.boot = s.boot := by
  unfold State.dramFirst
  split <;> rfl

theorem State.dramFirst_grid : s.dramFirst.grid = s.grid := by
  unfold State.dramFirst
  split <;> rfl

theorem State.dramFirst_units : s.dramFirst.units = s.units := by
  unfold State.dramFirst
  split <;> rfl

/-- All four channels trained at both rates. -/
def State.allTrained (s : State) : State := (List.range 4).foldl (fun s c => s.dramTrained c) s.dramFirst

/-- A channel failed: it is in its reset state, its clock gated (R455). -/
def State.dramReset (s : State) (c : Nat) : State :=
  (((s.put (clkEn (20 + c)) 0).put (clkSt (20 + c)) 0).setUnit (21 + c) { s.unit (21 + c) with phase := .reset }).modDch c fun _ => {}

/-- The DRAM as a subject that was rejected (R455). -/
def State.dramRejected (s : State) : State :=
  { s with boot := { s.boot with rejected := if s.boot.rejected.contains 0xD then s.boot.rejected else s.boot.rejected ++ [0xD] } }

/-- Training at boot or on the return from self-refresh may end: the devices are described, the clocks run, and a channel waits for it. -/
def State.trains (s : State) : Prop :=
  s.recBytes 0x0D01 ≠ [] ∧ (∀ c, c < 4 → s.flag (clkSt (20 + c)) = true)
    ∧ ∃ c, c < 4 ∧ ((s.dch c).trained = false ∨ (s.dch c).selfRefresh = true)

theorem trainingDone_eq (h : s.trains) : trainingDone fast slow s =
    match (List.range 4).find? (fun c => !(bitOf fast c && bitOf slow c)) with
    | none => s.allTrained
    | some c => ((List.range 4).foldl (fun s c => s.dramReset c) s).dramRejected.postEvent 0xD003 (items [c, b2n (bitOf fast c)]) := by
  obtain ⟨hrec, hclk, c, hc, hwait⟩ := h
  have hclk' : ((List.range 4).all fun c => s.flag (clkSt (20 + c))) = true :=
    List.all_eq_true.mpr fun d hd => hclk d (List.mem_range.mp hd)
  have hdone : ((List.range 4).all fun c => (s.dch c).trained && !(s.dch c).selfRefresh) = false :=
    List.all_eq_false.mpr ⟨c, List.mem_range.mpr hc, by rcases hwait with h | h <;> simp [h]⟩
  unfold trainingDone
  refine (if_neg (by simp [hrec, hclk', hdone])).trans ?_
  cases (List.range 4).find? (fun c => !(bitOf fast c && bitOf slow c)) <;> rfl

theorem State.allTrained_regs : s.allTrained.regs = s.regs :=
  (State.foldl_proj (p := State.regs) (g := fun (t : State) c => t.dramTrained c) (fun _ _ => State.dramTrained_regs) _ _).trans
    State.dramFirst_regs

theorem State.allTrained_boot : s.allTrained.boot = s.boot :=
  (State.foldl_proj (p := State.boot) (g := fun (t : State) c => t.dramTrained c) (fun _ _ => State.dramTrained_boot) _ _).trans
    State.dramFirst_boot

theorem State.dch_allTrained (hc : c < 4) : (s.allTrained.dch c).trained = true ∧ (s.allTrained.dch c).selfRefresh = false := by
  refine State.foldl_reaches (P := fun _ => True) (Q := fun t => (t.dch c).trained = true ∧ (t.dch c).selfRefresh = false) (i := c)
    (fun _ _ _ => trivial) (fun t _ => ?_) (fun t j ht => ?_) (List.mem_range.mpr hc) trivial
  · rw [State.dch_dramTrained]
    exact ⟨rfl, rfl⟩
  · by_cases hj : c = j
    · subst hj
      rw [State.dch_dramTrained]
      exact ⟨rfl, rfl⟩
    · rwa [State.dch_dramTrained_ne hj]

/-- The unit of a channel that joins: it is not held, and it serves no longer than that is where a trained one joins. -/
def State.Joining (s t : State) (c : Nat) : Prop :=
  t.grid = s.grid ∧ (t.unit (21 + c)).held = none ∧ ((t.unit (21 + c)).phase ≠ .service ∨ (t.unit (21 + c)).phase = s.joinPhase)

theorem State.joinPhase_congr {t : State} (h : t.grid = s.grid) : t.joinPhase = s.joinPhase := by
  rw [State.joinPhase, h, State.joinPhase]

theorem State.Joining.phase {t : State} (h : s.Joining t c) : ((t.dramTrained c).unit (21 + c)).phase = s.joinPhase := by
  obtain ⟨hgrid, hheld, hphase⟩ := h
  by_cases hserv : (t.unit (21 + c)).phase = .service
  · rw [State.unit_dramTrained_of_service hserv]
    exact hphase.resolve_left (not_not.mpr hserv)
  · rw [State.unit_dramTrained hheld hserv]
    exact State.joinPhase_congr hgrid

theorem State.Joining.dramTrained {t : State} (h : s.Joining t c) (j : Nat) : s.Joining (t.dramTrained j) c := by
  refine ⟨State.dramTrained_grid.trans h.1, ?_⟩
  by_cases hj : c = j
  · subst hj
    refine ⟨?_, .inr h.phase⟩
    by_cases hserv : (t.unit (21 + c)).phase = .service
    · rw [State.unit_dramTrained_of_service hserv, h.2.1]
    · rw [State.unit_dramTrained h.2.1 hserv, h.2.1]
  · rw [State.unit_dramTrained_ne (by omega)]
    exact h.2

theorem State.unit_allTrained (hc : c < 4) (hheld : (s.unit (21 + c)).held = none) (hphase : (s.unit (21 + c)).phase ≠ .service) :
    (s.allTrained.unit (21 + c)).phase = s.joinPhase := by
  have hstart : s.Joining s.dramFirst c := by
    unfold State.Joining State.unit
    rw [State.dramFirst_grid, State.dramFirst_units]
    exact ⟨rfl, hheld, .inl hphase⟩
  have hend : s.Joining s.allTrained c ∧ (s.allTrained.unit (21 + c)).phase = s.joinPhase :=
    State.foldl_reaches (P := fun t => s.Joining t c) (Q := fun t => s.Joining t c ∧ (t.unit (21 + c)).phase = s.joinPhase) (i := c) (fun t j h => h.dramTrained j)
      (fun t h => ⟨h.dramTrained c, h.phase⟩)
      (fun t j h => ⟨h.1.dramTrained j, by
        by_cases hj : c = j
        · subst hj
          exact h.1.phase
        · rw [State.unit_dramTrained_ne (by omega), h.2]⟩)
      (List.mem_range.mpr hc) hstart
  exact hend.2

/-! ### A channel that failed -/

/-- A bit that is clear stays clear while bits are cleared. -/
theorem State.flag_put_zero (t : State) {a b i j : Nat} (hi : i < 32) (h : t.flag ⟨b, j, j⟩ = false) :
    (t.put ⟨a, i, i⟩ 0).flag ⟨b, j, j⟩ = false := by
  by_cases hab : b = a
  · subst hab
    rcases eq_or_ne i j with rfl | hij
    · exact t.flag_put_bit false hi
    · rw [State.flag, State.get_put_apart t 0 le_rfl hi (by omega)]
      exact h
  · rw [State.flag, State.get_put_ne t 0 hab]
    exact h

theorem State.dramReset_flag {j b i : Nat} (t : State) (h : ((t.put (clkEn (20 + j)) 0).flag ⟨b, i, i⟩) = false) :
    (t.dramReset j).flag ⟨b, i, i⟩ = false := by
  have hregs : (t.dramReset j).regs = ((t.put (clkEn (20 + j)) 0).put (clkSt (20 + j)) 0).regs := rfl
  rw [State.flag_congr (State.reg_of_regs hregs _)]
  exact State.flag_put_zero _ (Nat.mod_lt _ (by decide)) h

theorem State.dch_dramReset (t : State) : (t.dramReset c).dch c = {} := State.dch_modDch ..

theorem State.dch_dramReset_ne (t : State) {j : Nat} (h : c ≠ j) : (t.dramReset j).dch c = t.dch c := State.dch_modDch_ne _ _ h

theorem State.unit_dramReset (t : State) : ((t.dramReset c).unit (21 + c)).phase = .reset :=
  congrArg UnitSt.phase (State.unit_setUnit ((t.put (clkEn (20 + c)) 0).put (clkSt (20 + c)) 0) (21 + c) _)

theorem State.unit_dramReset_ne (t : State) {i j : Nat} (h : i ≠ 21 + j) : (t.dramReset j).unit i = t.unit i :=
  State.unit_setUnit_ne ((t.put (clkEn (20 + j)) 0).put (clkSt (20 + j)) 0) _ h

/-- A channel in its reset state, its clock not enabled. -/
def State.Failed (t : State) (c : Nat) : Prop :=
  (t.dch c).trained = false ∧ (t.unit (21 + c)).phase = .reset ∧ t.flag (clkEn (20 + c)) = false

theorem State.failed_dramReset (t : State) : (t.dramReset c).Failed c := by
  refine ⟨?_, t.unit_dramReset, t.dramReset_flag ?_⟩
  · rw [State.dch_dramReset]
  · exact t.flag_put_bit false (Nat.mod_lt _ (by decide))

theorem State.Failed.dramReset {t : State} (h : t.Failed c) (j : Nat) : (t.dramReset j).Failed c := by
  rcases eq_or_ne c j with rfl | hj
  · exact t.failed_dramReset
  · obtain ⟨htrained, hphase, hclk⟩ := h
    refine ⟨?_, ?_, t.dramReset_flag (t.flag_put_zero (Nat.mod_lt _ (by decide)) hclk)⟩
    · rw [t.dch_dramReset_ne hj, htrained]
    · rw [t.unit_dramReset_ne (by omega), hphase]

theorem State.failed_foldl (hc : c < 4) : ((List.range 4).foldl (fun s c => s.dramReset c) s).Failed c :=
  State.foldl_reaches (P := fun _ => True) (Q := fun t => t.Failed c) (g := fun (t : State) c => t.dramReset c) (i := c) (fun _ _ _ => trivial) (fun t _ => t.failed_dramReset)
    (fun _ j h => h.dramReset j) (List.mem_range.mpr hc) trivial

theorem State.dramRejected_contains (t : State) : t.dramRejected.boot.rejected.contains 0xD = true := by
  unfold State.dramRejected
  by_cases h : t.boot.rejected.contains 0xD = true
  · exact (congrArg (fun l : List Nat => l.contains 0xD) (if_pos h)).trans h
  · exact (congrArg (fun l : List Nat => l.contains 0xD) (if_neg h)).trans (by simp)

theorem State.Failed.rejected {t : State} (h : t.Failed c) : t.dramRejected.Failed c := h

/-- An event changes no clock enable, no unit and no channel. -/
theorem State.Failed.postEvent {t : State} (h : t.Failed c) (hc : c < 4) (code : Nat) (b : List Byte) : (t.postEvent code b).Failed c := by
  obtain ⟨htrained, hphase, hclk⟩ := h
  refine ⟨?_, ?_, ?_⟩
  · rw [State.dch_of_dram (t.postEvent_dram ..), htrained]
  · rw [State.unit, State.postEvent_units, ← State.unit, hphase]
  · rw [State.flag_congr (t.postEvent_reg _ _ _ fun f _ => ?_), hclk]
    have : (clkEn (20 + c)).a = 0x100010 := if_pos (by omega)
    rw [this, hqBase]
    omega

theorem trainingDone_failed (h : s.trains) (hbad : ∃ c, c < 4 ∧ (bitOf fast c = false ∨ bitOf slow c = false)) :
    ∃ t, exec (.dramTrainingDone fast slow) s = .next t ∧ t.boot.rejected.contains 0xD = true
      ∧ ∀ c, c < 4 → (t.dch c).trained = false ∧ (t.unit (21 + c)).phase = .reset ∧ t.flag (clkEn (20 + c)) = false := by
  obtain ⟨c, hfind⟩ : ∃ c, (List.range 4).find? (fun c => !(bitOf fast c && bitOf slow c)) = some c := by
    obtain ⟨c, hc, hbad⟩ := hbad
    refine Option.isSome_iff_exists.mp (List.find?_isSome.mpr ⟨c, List.mem_range.mpr hc, ?_⟩)
    rcases hbad with h | h <;> simp [h]
  have hfailed : ∀ d, d < 4 → ((List.range 4).foldl (fun s c => s.dramReset c) s).Failed d := fun d hd => State.failed_foldl hd
  have heq := trainingDone_eq (fast := fast) (slow := slow) h
  rw [hfind] at heq
  generalize (List.range 4).foldl (fun s c => s.dramReset c) s = u at hfailed heq
  refine ⟨_, congrArg Host.Outcome.next heq, ?_, fun d hd => (hfailed d hd).rejected.postEvent hd ..⟩
  rw [State.postEvent_boot]
  exact u.dramRejected_contains

theorem trainingDone_passed (h : s.trains) (hgood : ∀ c, c < 4 → bitOf fast c = true ∧ bitOf slow c = true) :
    trainingDone fast slow s = s.allTrained := by
  have hfind : (List.range 4).find? (fun c => !(bitOf fast c && bitOf slow c)) = none :=
    List.find?_eq_none.mpr fun c hc => by
      obtain ⟨hf, hs⟩ := hgood c (List.mem_range.mp hc)
      simp [hf, hs]
  exact (trainingDone_eq h).trans (by rw [hfind])

theorem retrained_of_reset (hre : (s.dch c).retraining = true) (hphase : (s.unit (21 + c)).phase = .reset)
    (hheld : (s.unit (21 + c)).held = none) : retrained c s = s.dramTrained c :=
  if_neg (by simp [hre, hphase, hheld])

end

/-- Settles O59: one lemma per row of the controller. -/
theorem dramController : Obligations.DramController := by
  refine ⟨fun p g off w b s hp hg hw hgate hserv hroom hwait => ?_, fun p g off w b s hp hg hw hgate hserv => ?_,
    fun p g off w b s hp hg hw hgate => ?_, fun c banks q s hserv hpause hpick hq => ?_,
    fun c banks q s hserv hpause hpick hw hwhole hidle => ?_, fun c banks s h => ?_, fun c g sym rank sc q s hq => ⟨fun h => ?_, fun h => ?_, fun h => ?_⟩,
    fun c s hserv hfree hdue hurgent => ?_, fun c t0 drift s hpause hns => ?_, fun c t0 drift s hc hpause hns hheld => ?_,
    fun fast slow s hrec hclk hwait => ⟨fun hgood => ?_, fun hbad => ?_⟩, fun c s hre hphase hheld => ?_⟩
  · refine ⟨_, congrArg Host.Outcome.next (dramRequest_of_room ⟨hp, hg, hw⟩ hgate hserv hroom hwait), ?_, rfl, fun d hd => ?_, rfl, rfl⟩
    · rw [State.dch_queued]
      rfl
    · exact State.dch_queued_ne _ hd
  · exact congrArg Host.Outcome.next (dramRequest_of_out ⟨hp, hg, hw⟩ hgate hserv)
  · exact congrArg Host.Outcome.next (dramRequest_of_gated ⟨hp, hg, hw⟩ hgate)
  · refine ⟨_, congrArg Host.Outcome.next (issue_sent hserv hpause hpick hq), State.rows_issued, ?_, rfl,
      fun d hd => State.dch_issued_ne hd, rfl⟩
    rw [State.dch_issued]
  · exact issue_wrote_spec hserv hpause hpick hw hwhole hidle
  · exact congrArg Host.Outcome.next (issue_of_idle h)
  · exact congrArg Host.Outcome.next ((readReturn_eq hq).trans (if_pos h))
  · exact congrArg Host.Outcome.next ((readReturn_eq hq).trans ((if_neg (by omega)).trans (if_pos h)))
  · exact readReturn_uncorrected hq h
  · refine ⟨_, congrArg Host.Outcome.next (pauseStart_of_due hserv hfree hdue hurgent), ?_, ?_, ?_, fun d hd => s.dch_modDch_ne _ hd, rfl⟩ <;>
      rw [State.dch_modDch]
  · refine ⟨_, congrArg Host.Outcome.next ((pauseEnd_eq hpause).trans (if_neg (by omega))), ?_, ?_, ?_, fun d hd => s.dch_modDch_ne _ hd, rfl, rfl⟩ <;>
      rw [State.pauseOver, State.dch_modDch]
  · obtain ⟨hphase, hqueue, hre, hothers⟩ := (s.pauseOver c drift ((s.elapsed - t0) * 5 / 3)).strobe_dram 0x0F ((s.elapsed - t0) * 5 / 3) hc hheld
    refine ⟨_, congrArg Host.Outcome.next ((pauseEnd_eq hpause).trans (if_pos hns)), hphase, hqueue, hre, fun d hd => ?_⟩
    exact (hothers d hd).trans (s.dch_modDch_ne _ hd)
  · refine ⟨_, congrArg Host.Outcome.next (trainingDone_passed ⟨hrec, hclk, hwait⟩ hgood), State.allTrained_boot, State.allTrained_regs, fun c hc => ?_⟩
    obtain ⟨htrained, hself⟩ := State.dch_allTrained (s := s) hc
    exact ⟨htrained, hself, State.unit_allTrained hc⟩
  · exact trainingDone_failed ⟨hrec, hclk, hwait⟩ hbad
  · refine ⟨_, congrArg Host.Outcome.next (retrained_of_reset hre hphase hheld), ?_, ?_, ?_, fun d hd => State.dch_dramTrained_ne hd,
      State.dramTrained_regs⟩
    · rw [State.dch_dramTrained]
    · rw [State.dch_dramTrained]
    · rw [State.unit_dramTrained hheld (by simp [hphase])]

end Sys2Proof.Machine

end

section
/-! PROOFS. The inrush ledger, power, temperature, holds (16 R464 to R473) and the balls (17 R484). -/

namespace Sys2Proof.Machine

/-! ## The inrush ledger -/

section
variable {s : State} {i : Nat} {rest : List Nat} {a : Admitted}

/-- The head of the ledger is admitted: its ramp and its charge begin (R466). -/
def State.itemAdmitted (s : State) (i : Nat) (rest : List Nat) : State :=
  let a : Admitted := ⟨i, s.tick10, s.tick10 + s.rampTicks i⟩
  { s with power := { s.power with
    queue := rest, headSince := s.elapsed, headPosted := false, ramping := s.power.ramping ++ [a]
    charging := (s.power.charging.filter (fun x => decide (s.tick10 < x.at_ + 1000))) ++ [a] } }

/-- The greatest window sum of a rail so far. -/
def State.peakSeen (s : State) (t r : Nat) : State :=
  let w := s.windowSum r t / 10
  { s with power := { s.power with peaks := Tab.put s.power.peaks r (Nat.max w (Tab.getD s.power.peaks r 0)) } }

theorem State.foldl_peakSeen (s : State) (t : Nat) (l : List (Nat × Nat)) :
    ∃ p, l.foldl (fun s e => s.peakSeen t e.1) s = { s with power := { s.power with peaks := p } } :=
  State.foldl_inv (fun u => ∃ p, u = { s with power := { s.power with peaks := p } }) l _
    (fun _ _ h => by
      obtain ⟨p, rfl⟩ := h
      exact ⟨_, rfl⟩) s ⟨_, rfl⟩

theorem ledgerAdmit_of_free (hq : s.power.queue = i :: rest) (hband : i < 32 ∨ s.domUp (bandDomain i) = true)
    (hdown : Tab.has s.power.downing i = false) (hbind : s.ledgerBinds i s.tick10 = none) :
    ∃ p, ledgerAdmit s = { s.itemAdmitted i rest with power := { (s.itemAdmitted i rest).power with peaks := p } } := by
  have hfree : ¬ ((decide (32 ≤ i) && !s.domUp (bandDomain i)) || Tab.has s.power.downing i || (s.ledgerBinds i s.tick10).isSome) = true := by
    rcases hband with h | h
    · simp [hdown, hbind, h]
    · simp [hdown, hbind, h]
  obtain ⟨p, hp⟩ := (s.itemAdmitted i rest).foldl_peakSeen s.tick10 (itemSteps i)
  refine ⟨p, Eq.trans ?_ hp⟩
  unfold ledgerAdmit
  rw [hq]
  exact if_neg hfree

theorem ledgerAdmit_of_bound (hq : s.power.queue = i :: rest) (hbind : s.ledgerBinds i s.tick10 ≠ none) : ledgerAdmit s = s := by
  unfold ledgerAdmit
  rw [hq]
  exact if_pos (by simp [Option.isSome_iff_ne_none.mpr hbind])

/-- A ramp has ended. -/
def State.ramped (s : State) (i : Nat) : State :=
  { s with power := { s.power with ramping := s.power.ramping.filter (fun a => a.item != i) } }

theorem ledgerUp_of_ramped (ha : a ∈ s.power.ramping) (hi : a.item = i) (hup : a.upAt ≤ s.tick10) :
    ledgerUp i s = if i < 25 then
        { s.ramped i with power := { (s.ramped i).power with up := s.power.up ||| BitVec.ofNat 25 (2 ^ i) } }
      else if Tab.has s.power.downing i then (s.ramped i).modChain (i - 32) fun x => { x with powered := true }
      else (s.ramped i).chainPowered (i - 32) true :=
  if_pos (List.any_eq_true.mpr ⟨a, ha, by simp [hi, hup]⟩)

/-- The report of a head that waits: the item's code or chain, and the rail and condition that hold it back (R467). -/
theorem ledgerWait_of_late (hq : s.power.queue = i :: rest) (hpost : s.power.headPosted = false)
    (hlate : s.power.headSince + ms 1 ≤ s.elapsed) :
    ∃ b, ledgerWait s
      = (({ s with power := { s.power with headPosted := true } } : State).inc ⟨0x400040, 15, 0⟩).postEvent 0xE001 b := by
  unfold ledgerWait
  rw [hq]
  exact ⟨_, if_neg (by simp [hpost, hlate])⟩

theorem ledgerWait_of_idle (h : s.power.queue = [] ∨ s.power.headPosted = true) : ledgerWait s = s := by
  unfold ledgerWait
  cases hq : s.power.queue with
  | nil => rfl
  | cons i rest => exact if_pos (by simp [h.resolve_left (by simp [hq])])

theorem powerDowned_of_due {t0 : Nat} (hi : i < 25) (hdown : Tab.get? s.power.downing i = some t0)
    (hdue : t0 * 5 + itemRamp i * 3 ≤ s.elapsed * 5) :
    powerDowned i s = { s with power := { s.power with
      downing := Tab.del s.power.downing i, ramping := s.power.ramping.filter (fun a => a.item != i)
      up := s.power.up &&& ~~~(BitVec.ofNat 25 (2 ^ i)) } } := by
  unfold powerDowned
  rw [hdown]
  exact (if_neg (by omega)).trans (if_pos hi)

end

/-! ## Samples -/

section
variable {s : State}

/-- What a sample leaves of the power's state: ten samples at most, the condition by their mean (R469, R471). -/
def SampledAt (s : State) (p : PowerSt) : Prop :=
  p.samples = (s.power.samples ++ [p.mw]).drop (s.power.samples.length + 1 - 10)
    ∧ (p.powerHolds = true ↔ ceilingMw s.limitMode < p.samples.sum / p.samples.length ∧ s.dormant.seq = .none)
    ∧ p.powerFrom = (if p.powerHolds = s.power.powerHolds then s.power.powerFrom else s.elapsed)
    ∧ p.powerLevel = s.power.powerLevel ∧ p.thermalLevel = s.power.thermalLevel ∧ p.temps = s.power.temps

theorem powerSampled_power (amps : List Nat) (h : s.boot.state ≠ .reset) : SampledAt s (powerSampled amps s).power := by
  unfold powerSampled
  rw [if_neg (by simp [h])]
  extract_lets meas est mw p smp avg holds cur l3 s1
  have hs1 : SampledAt s s1.power := by
    refine ⟨?_, ?_, rfl, rfl, rfl, rfl⟩
    · exact congrArg (fun n => (s.power.samples ++ [mw]).drop (n - 10)) List.length_append
    · change holds = true ↔ _
      simp only [holds, Bool.and_eq_true, decide_eq_true_eq, beq_iff_eq]
      rfl
  clear_value s1 l3
  split
  · split
    · exact hs1
    · rw [State.postEvent_power]
      exact hs1
  · exact hs1

/-- The sensors are read: the readings and the thermal condition with its hysteresis (R470, R471). -/
def State.tempsRead (s : State) (temps : List Int) : State :=
  let tj := (hottest temps).1
  let t4 : Int := 4 * s.tThrottle
  let holds := if s.power.thermalHolds then decide (t4 - 20 ≤ tj) else decide (t4 ≤ tj)
  { s with power := { s.power with
    temps := temps, tj := tj, sensor := (hottest temps).2, thermalHolds := holds, tripThrottle := s.tThrottle
    thermalFrom := if holds = s.power.thermalHolds then s.power.thermalFrom else s.elapsed } }

/-- The reset at the trip, which keeps the threshold of the cool-down (R472). -/
def State.tripped (s : State) (temps : List Int) : State :=
  let s2 := ((s.tempsRead temps).postEvent 0xE003 (items [(hottest temps).2, sItem (hottest temps).1])).deviceFaultWith 0x10 (hottest temps).2
  { s2 with power := { s2.power with tripThrottle := s.tThrottle } }

theorem tempSampled_of_awake {temps : List Int} (h : s.boot.state ≠ .reset) (hw : s.boot.wait ≠ .cooldown) :
    tempSampled temps s = if 4 * (s.tTrip : Int) ≤ (hottest temps).1 then s.tripped temps else s.tempsRead temps := by
  unfold tempSampled
  dsimp only
  rw [if_neg (by simp [hw]), if_neg (by simp [h])]
  by_cases htrip : 4 * (s.tTrip : Int) ≤ (hottest temps).1
  · rw [if_pos htrip]
    exact if_pos (decide_eq_true htrip)
  · rw [if_neg htrip]
    exact if_neg (by simp [htrip])

theorem tempSampled_of_reset {temps : List Int} (h : s.boot.state = .reset) (hw : s.boot.wait ≠ .cooldown) : tempSampled temps s = s := by
  unfold tempSampled
  dsimp only
  rw [if_neg (by simp [hw])]
  exact if_pos (by simp [h])

theorem State.tempsRead_holds (temps : List Int) : (s.tempsRead temps).power.thermalHolds = true
    ↔ 4 * (s.tThrottle : Int) ≤ (hottest temps).1 ∨ (s.power.thermalHolds = true ∧ 4 * (s.tThrottle : Int) - 20 ≤ (hottest temps).1) := by
  change (if s.power.thermalHolds then decide (4 * (s.tThrottle : Int) - 20 ≤ (hottest temps).1)
    else decide (4 * (s.tThrottle : Int) ≤ (hottest temps).1)) = true ↔ _
  cases s.power.thermalHolds <;> simp
  omega

theorem State.tripped_spec (temps : List Int) : (s.tripped temps).boot.state = .reset ∧ (s.tripped temps).boot.wait = .cooldown
    ∧ (s.tripped temps).power.tripThrottle = s.tThrottle ∧ (s.tripped temps).fuses = s.fuses ∧ (s.tripped temps).pending = s.pending
    ∧ (s.tripped temps).units = [] := by
  let u := (s.tempsRead temps).postEvent 0xE003 (items [(hottest temps).2, sItem (hottest temps).1])
  have hreset := u.deviceFaultWith_afterReset 0x10 (hottest temps).2
  obtain ⟨hstate, hwait, -⟩ := u.deviceFaultWith_waits (cause := 0x10) (hottest temps).2 (.inl rfl)
  exact ⟨hstate, hwait, rfl, hreset.fuses.trans (State.postEvent_fuses ..), hreset.pending.trans (State.postEvent_pending ..), hreset.units⟩

end

/-! ## Levels -/

section
variable (s : State) (thermal : Bool)

/-- A level moves with its condition, or without it (R471). -/
def State.levelMoved (s : State) (thermal : Bool) : State :=
  let p := s.power
  let holds := if thermal then p.thermalHolds else p.powerHolds
  let lv := if thermal then p.thermalLevel else p.powerLevel
  let nl := if holds then Nat.min 3 (lv + 1) else lv - 1
  if thermal then { s with power := { p with thermalLevel := nl, thermalFrom := s.elapsed } }
  else { s with power := { p with powerLevel := nl, powerFrom := s.elapsed } }

theorem throttleTimer_of_due (hd : s.dormant.seq = .none)
    (hdue : (if thermal = true then s.power.thermalFrom else s.power.powerFrom)
      + (if (if thermal = true then s.power.thermalHolds else s.power.powerHolds) = true then ms 10 else ms 100) ≤ s.elapsed) :
    (throttleTimer thermal s).power = (s.levelMoved thermal).power ∧ (throttleTimer thermal s).units = (s.levelMoved thermal).units := by
  unfold throttleTimer
  extract_lets p holds from_ lv nl s1 s2
  have hlate : ¬ s.elapsed < from_ + (if holds then ms 10 else ms 100) := Nat.not_lt.mpr hdue
  rw [if_neg (by rw [hd, decide_eq_false hlate]; decide)]
  split
  · exact ⟨rfl, rfl⟩
  · rw [State.postEvent_power, State.postEvent_units]
    have hs2 : s2.power = s1.power ∧ s2.units = s1.units := by
      unfold s2
      split
      · exact ⟨State.inc_power .., State.inc_units ..⟩
      · exact ⟨rfl, rfl⟩
    exact hs2

theorem throttleTimer_of_dormant (hd : s.dormant.seq ≠ .none) : throttleTimer thermal s = s := if_pos (by simp [hd])

end

/-! ## The island's hold across its own counts -/

/-- t has the island's hold and its faults as in s. -/
def MeshHoldKept (s t : State) : Prop :=
  (t.unit FUnit.mesh.idx).held = (s.unit FUnit.mesh.idx).held ∧ (t.unit FUnit.mesh.idx).faults = (s.unit FUnit.mesh.idx).faults

theorem MeshHoldKept.of_units {s t : State} (h : t.units = s.units) : MeshHoldKept s t := by
  have hu : t.unit FUnit.mesh.idx = s.unit FUnit.mesh.idx := by rw [State.unit, h, State.unit]
  exact ⟨by rw [hu], by rw [hu]⟩

theorem MeshHoldKept.trans {s t u : State} (h : MeshHoldKept s t) (h' : MeshHoldKept t u) : MeshHoldKept s u :=
  ⟨h'.1.trans h.1, h'.2.trans h.2⟩

section
variable (s : State)

theorem State.refuseAt_mesh_meshHoldKept : MeshHoldKept s (s.refuseAt .mesh) :=
  ⟨by rw [s.unit_refuseAt], by rw [s.unit_refuseAt]⟩

theorem State.bridgeUp_meshHoldKept (u : MeshUp) : MeshHoldKept s (s.bridgeUp u) := by
  unfold State.bridgeUp State.ingress
  split
  · exact s.refuseAt_mesh_meshHoldKept
  split
  · exact .of_units (s.inc_units _)
  · exact .of_units rfl

/-- Of the units the drain of R271 changes what its frames count alone. -/
theorem State.drainUp_units : ∃ l : List MeshUp, s.drainUp.units = (l.foldl (fun s u => s.bridgeUp u) s).units := by
  unfold State.drainUp
  split
  · exact ⟨[], rfl⟩
  extract_lets n s1 sums payload
  refine ⟨s.mesh.up.take n, ?_⟩
  split
  · rfl
  split
  rename_i h s3 he
  have h3 : TaskEffect (s1.modMesh fun m => { m with summaries := [] }) s3 := by
    have := (s1.modMesh fun m => { m with summaries := [] }).enqueue_effect macQueue macPrio 0xFF none 0x08 0x01 payload [] none
    rwa [he] at this
  extract_lets s4
  have h4 : TaskEffect s3 s4 := by
    unfold s4
    split
    · exact s3.dropFull_effect _
    · exact .refl _
  obtain ⟨_, _, _, _, _, e⟩ := (h3.trans h4).trans (s4.postEvent_effect 0x8009 (items [sums.length, (sums.map (·.2.count)).sum]) []).taskEffect
  rw [e]
  rfl

theorem State.drainUp_meshHoldKept : MeshHoldKept s s.drainUp := by
  obtain ⟨l, hl⟩ := s.drainUp_units
  exact MeshHoldKept.trans (State.foldl_inv (MeshHoldKept s) l _ (fun t u h => h.trans (t.bridgeUp_meshHoldKept u)) s (.of_units rfl)) (.of_units hl)

theorem State.meshLink_meshHoldKept : MeshHoldKept s s.meshLink := by
  have hopen : MeshHoldKept s s.enterBridged := MeshHoldKept.trans (.of_units rfl) (State.drainUp_meshHoldKept _)
  unfold State.meshLink
  extract_lets open_
  split
  · split
    · exact hopen
    · exact .of_units rfl
  · split <;> exact .of_units rfl
  · exact .of_units rfl

end

/-! ## Units that re-enter service after a hold -/

/-- The hold of a unit has ended between s and t: it is held no more, nothing is counted against it, and no other unit changes. -/
structure HoldEnded (u : FUnit) (s t : State) : Prop where
  held : (t.unit u.idx).held = none
  faults : (t.unit u.idx).faults = []
  others : ∀ v, v ≠ u.idx → t.unit v = s.unit v
  low : LowRegs s t

section
variable {s t : State} {u : FUnit}

theorem HoldEnded.refl (hh : (s.unit u.idx).held = none) (hf : (s.unit u.idx).faults = []) : HoldEnded u s s :=
  ⟨hh, hf, fun _ _ => rfl, .of_eq rfl⟩

theorem HoldEnded.of_units (h : HoldEnded u s t) {r : State} (hu : r.units = t.units) (hl : LowRegs t r) : HoldEnded u s r := by
  have hunit (i : Nat) : r.unit i = t.unit i := by rw [State.unit, hu, State.unit]
  exact ⟨by rw [hunit, h.held], by rw [hunit, h.faults], fun v hv => (hunit v).trans (h.others v hv), h.low.trans hl⟩

theorem HoldEnded.setUnit (h : HoldEnded u s t) (x : UnitSt) (hh : x.held = none) (hf : x.faults = []) : HoldEnded u s (t.setUnit u.idx x) :=
  ⟨by rw [State.unit_setUnit, hh], by rw [State.unit_setUnit, hf], fun v hv => (t.unit_setUnit_ne x hv).trans (h.others v hv),
    h.low.trans (.of_eq rfl)⟩

theorem HoldEnded.mesh (h : HoldEnded .mesh s t) {r : State} (hh : MeshHoldKept t r) (ho : OnlyMeshCounts t r) (hl : LowRegs t r) :
    HoldEnded .mesh s r :=
  ⟨hh.1.trans h.held, hh.2.trans h.faults, fun v hv => (ho.2 v hv).trans (h.others v hv), h.low.trans hl⟩

theorem HoldEnded.meshLink (h : HoldEnded .mesh s t) : HoldEnded .mesh s t.meshLink :=
  h.mesh t.meshLink_meshHoldKept t.meshLink_onlyMeshCounts t.meshLink_lowRegs

theorem HoldEnded.meshRecovered (h : HoldEnded .mesh s t) : HoldEnded .mesh s t.meshRecovered := by
  unfold State.meshRecovered
  split
  · exact h
  · exact (h.of_units (r := t.modMesh fun m => { m with state := .alone, floor := t.mtMs, gap := true }) rfl (.of_eq rfl)).meshLink

theorem HoldEnded.postEvent (h : HoldEnded u s t) (code : Nat) (b : List Byte) : HoldEnded u s (t.postEvent code b) :=
  h.of_units (t.postEvent_units ..) (t.postEvent_eventKeeps code b).lowRegs

theorem HoldEnded.meshStart (h : HoldEnded .mesh s t) : HoldEnded .mesh s t.meshStart := by
  unfold State.meshStart
  split
  · exact h
  split
  rename_i v s0 hdraw
  obtain rfl : { t with fresh := t.fresh + 1 } = s0 := congrArg Prod.snd hdraw
  extract_lets s1 n len off
  have h1 : HoldEnded .mesh s s1 :=
    HoldEnded.setUnit (t := { t with fresh := t.fresh + 1 }) (h.of_units rfl (.of_eq rfl)) { phase := .service } rfl rfl
  refine HoldEnded.meshLink (HoldEnded.postEvent ?_ ..)
  exact h1.of_units rfl (.of_eq rfl)

/-- A unit that is held no more is configured again (05 R136). -/
theorem State.reenter_released (hh : (s.unit u.idx).held = none) (hf : (s.unit u.idx).faults = []) : HoldEnded u s (s.reenter u) := by
  by_cases hp : (s.unit u.idx).phase = .reset
  · have hjoin : HoldEnded u s (s.rejoined u) := (HoldEnded.refl hh hf).setUnit _ hh hf
    rw [State.reenter_of_reset hp hh]
    cases u with
    | radio r => exact hjoin.of_units (State.powerChains_units ..) (.of_eq (State.requestItems_regs ..))
    | link k => exact hjoin.of_units (State.autoTrain_units ..) (.of_eq (State.autoTrain_regs ..))
    | mesh => exact hjoin.meshRecovered.meshStart
    | _ => exact hjoin
  · rw [State.reenter_of_phase_ne hp]
    exact .refl hh hf

/-- The bit of a unit in the hold registers (R479). -/
theorem holdBit_eq (u : FUnit) : ∃ a i, holdBit u = ⟨a, i, i⟩ ∧ a < 0x2400000 := by
  cases u with
  | func f => exact ⟨0x400038, f, rfl, by decide⟩
  | _ => exact ⟨0x400034, _, rfl, by decide⟩

/-- A bit reads 0 once it is cleared; one past the register reads so always. -/
theorem State.get_put_bit_zero (s : State) (a i : Nat) : (s.put ⟨a, i, i⟩ 0).get ⟨a, i, i⟩ = 0 := by
  by_cases hi : i < 32
  · rw [State.get_put_self s 0 le_rfl hi, Nat.zero_mod]
  · rw [State.get, bitsOf_bit, BitVec.testBit_toNat, BitVec.getLsbD_of_ge _ i (Nat.le_of_not_lt hi)]
    rfl

/-- The unit as its release leaves it before it is configured again (R473). -/
def State.unheld (s : State) (u : FUnit) : State := (s.setUnit u.idx { s.unit u.idx with held := none, faults := [] }).put (holdBit u) 0

theorem State.releaseUnit_of_held {cause : Nat} (h : (s.unit u.idx).held.isSome) :
    s.releaseUnit u cause = ((s.unheld u).postEvent 0xE005 (items [u.kind, u.index, cause])).reenter u :=
  if_neg (by simp [Option.isSome_iff_ne_none.mp h])

theorem State.releaseUnit_spec {cause : Nat} (h : (s.unit u.idx).held.isSome) :
    ((s.releaseUnit u cause).unit u.idx).held = none ∧ ((s.releaseUnit u cause).unit u.idx).faults = []
      ∧ (s.releaseUnit u cause).get (holdBit u) = 0 ∧ ∀ v, v ≠ u.idx → (s.releaseUnit u cause).unit v = s.unit v := by
  rw [State.releaseUnit_of_held h]
  obtain ⟨a, i, hbit, ha⟩ := holdBit_eq u
  have hself : (s.unheld u).unit u.idx = { s.unit u.idx with held := none, faults := [] } := s.unit_setUnit u.idx _
  have hstart : HoldEnded u (s.unheld u) (s.unheld u) := .refl (by rw [hself]) (by rw [hself])
  have hevent := hstart.postEvent 0xE005 (items [u.kind, u.index, cause])
  have hend := State.reenter_released hevent.held hevent.faults
  refine ⟨hend.held, hend.faults, ?_, fun v hv => ?_⟩
  · rw [hbit, State.get_congr ((hevent.low.trans hend.low) a ha), State.unheld, hbit]
    exact State.get_put_bit_zero _ a i
  · rw [hend.others v hv, hevent.others v hv]
    exact s.unit_setUnit_ne _ hv

end

/-! ## The hold registers and the timer -/

section
variable {s : State}

/-- Of a range, one number passes: a fold over what passes is the step for that number. -/
theorem State.foldl_range_one {n i : Nat} (hi : i < n) (v : Word) (hv : v.toNat = 2 ^ i) (g : State → Nat → State) (s : State) :
    (List.range n).foldl (fun s j => if v.getLsbD j then g s j else s) s = g s i := by
  have hbit : (fun j => v.getLsbD j) = fun j => j == i := by
    funext j
    rw [← BitVec.testBit_toNat, hv, Nat.testBit_two_pow]
    exact decide_eq_decide.mpr eq_comm
  have hone : (List.range n).filter (fun j => v.getLsbD j) = [i] := by
    rw [hbit, List.filter_beq, List.count_eq_one_of_mem List.nodup_range (List.mem_range.mpr hi), List.replicate_one]
  rw [← List.foldl_filter, hone]
  rfl

theorem holdWrite_of_bit {r : Requester} {hf : Bool} {v : Word} {i : Nat} (hm : Mapped s r) (hi : i < if hf = true then 16 else 26)
    (hv : v.toNat = 2 ^ i) :
    holdWrite r hf v s = { s.releaseUnit (if hf = true then .func i else unitOf i) 0 with answer := some .done } := by
  rw [holdWrite, State.access_low hm (by split <;> decide),
    State.foldl_range_one hi v hv (fun s i => s.releaseUnit (if hf then .func i else unitOf i) 0)]

/-- HOLD_RELEASE has passed since a hold began, in NT, or in FR where NT is not valid (R473). -/
def State.holdPassed (s : State) (nt : Option Nat) (fr : Nat) : Prop :=
  match nt with
  | some t => if s.ntValid = true then t + s.get ⟨0x400030, 31, 16⟩ * 1000000000 ≤ s.ntNs else fr + s.get ⟨0x400030, 31, 16⟩ * 1000000000 ≤ s.frNs
  | none => fr + s.get ⟨0x400030, 31, 16⟩ * 1000000000 ≤ s.frNs

theorem holdTimer_of_passed {u : FUnit} {nt : Option Nat} {fr : Nat} (hheld : (s.unit u.idx).held = some (nt, fr))
    (hn : s.get ⟨0x400030, 31, 16⟩ ≠ 0) (hdue : s.holdPassed nt fr) : holdTimer u s = s.releaseUnit u 1 := by
  have hn' : s.get ⟨0x400030, 31, 16⟩ * 1000000000 ≠ 0 := Nat.mul_ne_zero hn (by decide)
  unfold holdTimer
  dsimp only
  rw [hheld]
  refine if_pos (Bool.and_eq_true_iff.mpr ⟨decide_eq_true hn', ?_⟩)
  unfold State.holdPassed at hdue
  cases nt with
  | none => exact decide_eq_true hdue
  | some t =>
    dsimp only at hdue ⊢
    split at hdue
    next hv => rw [if_pos hv, decide_eq_true hdue]
    next hv => rw [if_neg hv, decide_eq_true hdue]

theorem holdTimer_of_idle {u : FUnit} (h : (s.unit u.idx).held = none ∨ s.get ⟨0x400030, 31, 16⟩ = 0) : holdTimer u s = s := by
  unfold holdTimer
  dsimp only
  cases hheld : (s.unit u.idx).held with
  | none => rfl
  | some x => exact if_neg (by simp [h.resolve_left (by simp [hheld])])

end

/-! ## The balls -/

/-- Settles O60: one lemma per row; the balls by the table of R484. -/
theorem powerAndHolds : Obligations.PowerAndHolds := by
  refine ⟨fun i rest s hq hband hdown hbind => ?_, fun i rest s hq hbind => ?_, fun i a s hi ha hitem hup => ?_,
    fun i a s hi ha hitem hup hdown => ?_, fun i rest s hq hpost hlate => ?_, fun s h => ?_, fun i t0 s hi hdown hdue => ?_,
    fun amps temps s h => ⟨?_, fun hw => ?_⟩, fun amps s h => ?_, fun temps s h hw htrip => ?_, fun temps s h hw htrip => ?_,
    fun thermal s hd hdue => ?_, fun thermal s hd => ?_, fun r hf v i s hm hi hv => ?_, fun u nt fr s hheld hn hdue => ?_,
    fun u s h => ?_, fun s h => ?_, fun s h hd => ?_⟩
  · obtain ⟨p, hp⟩ := ledgerAdmit_of_free hq hband hdown hbind
    exact ⟨_, congrArg Host.Outcome.next hp, rfl, rfl, rfl, rfl, rfl, rfl⟩
  · exact congrArg Host.Outcome.next (ledgerAdmit_of_bound hq hbind)
  · exact ⟨_, congrArg Host.Outcome.next ((ledgerUp_of_ramped ha hitem hup).trans (if_pos hi)), rfl, rfl, rfl, rfl⟩
  · exact congrArg Host.Outcome.next ((ledgerUp_of_ramped ha hitem hup).trans
      ((if_neg (by omega)).trans (if_neg (by simp [hdown]))))
  · obtain ⟨b, hb⟩ := ledgerWait_of_late hq hpost hlate
    refine ⟨_, congrArg Host.Outcome.next hb, ?_, fun hlt => ?_⟩
    · rw [State.postEvent_power, State.inc_power]
    · rw [State.get_congr ((State.postEvent_eventKeeps _ 0xE001 b).lowRegs _ (by decide))]
      exact State.get_inc_of_lt _ (by decide) (by decide) (Nat.add_lt_add_right hlt 1)
  · exact congrArg Host.Outcome.next (ledgerWait_of_idle h)
  · exact ⟨_, congrArg Host.Outcome.next (powerDowned_of_due hi hdown hdue), rfl, Tab.get?_del_self _ i,
      fun j hj => Tab.get?_del_ne _ hj, rfl⟩
  · exact congrArg Host.Outcome.next (if_pos (by simp [h]))
  · exact congrArg Host.Outcome.next (tempSampled_of_reset h hw)
  · exact ⟨_, rfl, powerSampled_power amps h⟩
  · refine ⟨_, congrArg Host.Outcome.next ((tempSampled_of_awake h hw).trans (if_neg (by omega))), rfl, rfl, State.tempsRead_holds temps, rfl, rfl, rfl⟩
  · exact ⟨_, congrArg Host.Outcome.next ((tempSampled_of_awake h hw).trans (if_pos htrip)), State.tripped_spec temps⟩
  · obtain ⟨hpower, hunits⟩ := throttleTimer_of_due s thermal hd hdue
    refine ⟨_, rfl, ?_, ?_, rfl, hunits.trans ?_⟩
    · rw [hpower]
      cases thermal <;> rfl
    · rw [hpower]
      cases thermal <;> rfl
    · cases thermal <;> rfl
  · exact congrArg Host.Outcome.next (throttleTimer_of_dormant s thermal hd)
  · exact congrArg Host.Outcome.next (holdWrite_of_bit hm hi hv)
  · exact ⟨_, congrArg Host.Outcome.next (holdTimer_of_passed hheld hn hdue), State.releaseUnit_spec (by simp [hheld])⟩
  · exact congrArg Host.Outcome.next (holdTimer_of_idle h)
  · simp [State.ball, h]
  · simp [State.ball, State.inDormant, h, hd]

end Sys2Proof.Machine

end
